-- ==== Sys2Proof/Word.lean ====
section
/-!
DEFINITION. Word.lean: the word types of the device. Registers, core registers and instruction words are 32 bits,
memory cells are bytes; lengths, addresses, times and counts are natural numbers.
-/

namespace Sys2Proof

/-- A 32-bit word: an I/O register, a core register, an instruction word. -/
abbrev Word := BitVec 32

/-- A byte of XRAM, DMEM, an IMEM bank or a frame on a port. -/
abbrev Byte := BitVec 8

/-- The byte that holds `n` modulo 256. -/
abbrev byte (n : Nat) : Byte := BitVec.ofNat 8 n

/-- The 32-bit word that holds `n` modulo 2^32. -/
abbrev word (n : Nat) : Word := BitVec.ofNat 32 n

end Sys2Proof
end

