-- ==== Sys2Proof/Syntax.lean ====
section
/-!
DEFINITION. Syntax.lean: the commands of the device, one constructor per row of the opcode table, in the table's order.
An event that the device meets carries what the environment brings (converter codes, levels of pins, bytes on a
port, the straps g0 and g1 that an end of reset samples); a register write carries the value written; an Odzia
instruction (a name that begins with `ins`) carries its operand fields. `mode3` is the clock mode of a frame on the host
port, `clean` whether its release fell on a byte boundary, `prog` whether the program wrote and not the host.
-/

namespace Sys2Proof

/-- The second operand of an Odzia instruction (R316): a register with its shift left `scale` and its `ext` code, or
the 12-bit immediate. -/
inductive Op2 where
  | reg (rt : BitVec 4) (scale : BitVec 5) (ext : BitVec 2)
  | imm (v : BitVec 12)
deriving DecidableEq, Repr

/-- A frame as it arrives on CLI (R524): its CRC-32, its source, destination, SEQ, FRAME and payload. Its
TYPE is that of the command. -/
structure RingMsg where
  crc   : BitVec 32
  src   : Nat
  dst   : Nat
  seq   : Nat
  frame : Nat
  body  : List Byte
deriving DecidableEq, Repr

/-- What the input multiplexer of the converters offers (R216): the pins AUX0 to AUX3 and VIN, VDDIO, VCORE and VHV, each
in µV against AGND, and the raw readings of the two temperature sensors. -/
structure AuxIn where
  a0    : Int
  a1    : Int
  a2    : Int
  a3    : Int
  vin   : Int
  vddio : Int
  vcore : Int
  vhv   : Int
  t0    : Int
  t1    : Int
deriving DecidableEq, Repr

/-- What an approach burst that the deadline cut had met: its words up to there, and whether the LED found no current. -/
structure BurstCut where
  words : List (List (Nat × Nat))
  ledOc : Bool
deriving DecidableEq, Repr

/-- What a scan that the deadline cut had met: the overloads by channel, and the symbols at which VHV was out of its
limit. -/
structure ScanCut where
  ovr    : List (List Nat)
  vhvLow : List Nat
deriving DecidableEq, Repr

/-- A pin whose debounced level changes: the new level, and what the board puts on all pins at the latest sample. -/
structure PinSample where
  level : Bool
  pads  : BitVec 6
deriving DecidableEq, Repr

/-- The data of a host read: the bytes the host clocks out, and which of them the device has not fetched in time. -/
structure ReadSpan where
  n    : Nat
  late : List Nat
deriving DecidableEq, Repr

/-- A host read that goes on after a pause: the busy bytes sent before, and the bytes that come late, counted from the
byte held back. -/
structure ReadRest where
  busy : Nat
  late : List Nat
deriving DecidableEq, Repr

/-- An edge on a GPIO pin. -/
structure PinEdge where
  pin    : Fin 6
  rising : Bool
deriving DecidableEq, Repr

/-- CHECK as a member meets it (R518): the frame, and whether another node of the cluster has PASS2 = 1 (R81), which no
field of a frame tells a member. -/
structure CheckAsk where
  msg   : RingMsg
  pass2 : Bool
deriving DecidableEq, Repr

/-- A MEASURE character as the lead meets its echo (R516): the ns since it was sent, and the row blocks, first and last code
row, that the members' ACQ_DRANGE give (R522), which the CONFIG that may follow confirms and no frame brings. -/
structure Echo where
  ns     : Nat
  blocks : List (Nat × Nat)
deriving DecidableEq, Repr

/-- A command. -/
inductive Instr where
  /-- POWER_ON_RESET (R607). -/
  | powerOnReset
  /-- RST_N (R609). -/
  | rstN (g0 : Bool) (g1 : Bool)
  /-- SEATED (R610). -/
  | seated (g0 : Bool) (g1 : Bool)
  /-- REMOVAL (R616): `moved` data bytes of a periphery frame in progress had passed, and `rx` is what it had read. -/
  | removal (moved : Nat) (rx : List Byte)
  /-- RESEAT (R618). -/
  | reseat
  /-- HOST_QUALIFICATION (R615). -/
  | hostQualification
  /-- VDDIO_DROP (R608). -/
  | vddioDrop
  /-- VDDIO_RETURN (R608). -/
  | vddioReturn
  /-- PLL_SWITCH (R660). -/
  | pllSwitch
  /-- CLKIN_LOSS (R660). -/
  | clkinLoss
  /-- BOOT_TIMEOUT (R299). -/
  | bootTimeout
  /-- RUN_SET (R620). -/
  | runSet (prog : Bool)
  /-- RUN_CLEAR (R621). -/
  | runClear (prog : Bool)
  /-- CHECK_END (R620). -/
  | checkEnd
  /-- STOP_COMPLETE (R60). -/
  | stopComplete
  /-- SEQ_STOP_TIMEOUT (R308). -/
  | seqStopTimeout
  /-- TICK (R35). -/
  | tick
  /-- HEATH_ENTRY_COMPLETE (R587). -/
  | heathEntryComplete
  /-- VSYNC_EDGE (R38). -/
  | vsyncEdge
  /-- VSYNC_LOSS (R55). -/
  | vsyncLoss
  /-- HSYNC_LOSS (R56). -/
  | hsyncLoss
  /-- LISTEN_SLOT (R102): for each pair (in a run frame of CAL_AFE each channel) whether its input clipped, and the codes.
  -/
  | listenSlot (inputs : List (Nat × Bool × List Nat))
  /-- NOISE_LEVELS (R104). -/
  | noiseLevels
  /-- MUTUAL_SCAN (R82): the results by channel and symbol, the symbols that met an overload by channel, and the symbols
  at which VHV was out of its limit. -/
  | mutualScan (y : List (List Int)) (ovr : List (List Nat)) (vhvLow : List Nat)
  /-- SYMBOL_RETRY (R85): the results of the channels, those that met an overload, and whether VHV was within its limit. -/
  | symbolRetry (y : List Int) (ovr : List Nat) (vhvOk : Bool)
  /-- SELF_PASS (R79): the symbol results by electrode, the electrodes that met an overload, and whether VHV was out of
  its limit. -/
  | selfPass (ys : List (List Int)) (ovr : List Nat) (vhvLow : Bool)
  /-- APPROACH_BURST (R203): per word and chip the sample of the A half and that of the B half, and whether the LED driver
  did not reach its current. -/
  | approachBurst (words : List (List (Nat × Nat))) (ledOc : Bool)
  /-- ACQUISITION_END (R44). -/
  | acquisitionEnd
  /-- ACQUISITION_DEADLINE (R57): what the approach burst or the scan that it cuts short had met. -/
  | acquisitionDeadline (burst : BurstCut) (scan : ScanCut)
  /-- FRAME_PROCESSING_START (R44). -/
  | frameProcessingStart
  /-- FRAME_PROCESSED (R44). -/
  | frameProcessed
  /-- CONTACT_STUCK_RELEASE (R144). -/
  | contactStuckRelease (slot : Fin 16)
  /-- OBJECT_ABSORB (R145). -/
  | objectAbsorb (slot : Fin 16)
  /-- EXCLUDED_GROUP_QUIET (R139). -/
  | excludedGroupQuiet (k : Nat)
  /-- ELECTRODE_SHORT (R91). -/
  | electrodeShort (n : Fin 50)
  /-- VHV_FAULT (R97). -/
  | vhvFault
  /-- ADD (R321). -/
  | insAdd (cond : BitVec 4) (sf : Bool) (rd : BitVec 4) (rs : BitVec 4) (o : Op2)
  /-- ADDC (R321). -/
  | insAddc (cond : BitVec 4) (sf : Bool) (rd : BitVec 4) (rs : BitVec 4) (o : Op2)
  /-- SUB (R321). -/
  | insSub (cond : BitVec 4) (sf : Bool) (rd : BitVec 4) (rs : BitVec 4) (o : Op2)
  /-- SUBB (R321). -/
  | insSubb (cond : BitVec 4) (sf : Bool) (rd : BitVec 4) (rs : BitVec 4) (o : Op2)
  /-- ABSD (R321). -/
  | insAbsd (cond : BitVec 4) (sf : Bool) (rd : BitVec 4) (rs : BitVec 4) (o : Op2)
  /-- AND (R321). -/
  | insAnd (cond : BitVec 4) (sf : Bool) (rd : BitVec 4) (rs : BitVec 4) (o : Op2)
  /-- OR (R321). -/
  | insOr (cond : BitVec 4) (sf : Bool) (rd : BitVec 4) (rs : BitVec 4) (o : Op2)
  /-- XOR (R321). -/
  | insXor (cond : BitVec 4) (sf : Bool) (rd : BitVec 4) (rs : BitVec 4) (o : Op2)
  /-- ANDN (R321). -/
  | insAndn (cond : BitVec 4) (sf : Bool) (rd : BitVec 4) (rs : BitVec 4) (o : Op2)
  /-- MOV (R321). -/
  | insMov (cond : BitVec 4) (sf : Bool) (rd : BitVec 4) (o : Op2)
  /-- NOT (R321). -/
  | insNot (cond : BitVec 4) (sf : Bool) (rd : BitVec 4) (o : Op2)
  /-- SHL (R322). -/
  | insShl (cond : BitVec 4) (sf : Bool) (rd : BitVec 4) (rs : BitVec 4) (o : Op2)
  /-- SHR (R322). -/
  | insShr (cond : BitVec 4) (sf : Bool) (rd : BitVec 4) (rs : BitVec 4) (o : Op2)
  /-- SAR (R322). -/
  | insSar (cond : BitVec 4) (sf : Bool) (rd : BitVec 4) (rs : BitVec 4) (o : Op2)
  /-- ROR (R322). -/
  | insRor (cond : BitVec 4) (sf : Bool) (rd : BitVec 4) (rs : BitVec 4) (o : Op2)
  /-- CLZ (R323). -/
  | insClz (cond : BitVec 4) (sf : Bool) (rd : BitVec 4) (rs : BitVec 4)
  /-- MUL (R324). -/
  | insMul (cond : BitVec 4) (sf : Bool) (rd : BitVec 4) (rs : BitVec 4) (o : Op2)
  /-- MAC (R324). -/
  | insMac (cond : BitVec 4) (sf : Bool) (rd : BitVec 4) (rs : BitVec 4) (o : Op2)
  /-- MULHS (R324). -/
  | insMulhs (cond : BitVec 4) (sf : Bool) (rd : BitVec 4) (rs : BitVec 4) (o : Op2)
  /-- MULHU (R324). -/
  | insMulhu (cond : BitVec 4) (sf : Bool) (rd : BitVec 4) (rs : BitVec 4) (o : Op2)
  /-- DIVS (R325). -/
  | insDivs (cond : BitVec 4) (sf : Bool) (rd : BitVec 4) (rs : BitVec 4) (o : Op2)
  /-- DIVU (R325). -/
  | insDivu (cond : BitVec 4) (sf : Bool) (rd : BitVec 4) (rs : BitVec 4) (o : Op2)
  /-- REMS (R325). -/
  | insRems (cond : BitVec 4) (sf : Bool) (rd : BitVec 4) (rs : BitVec 4) (o : Op2)
  /-- REMU (R325). -/
  | insRemu (cond : BitVec 4) (sf : Bool) (rd : BitVec 4) (rs : BitVec 4) (o : Op2)
  /-- BFX (R326). -/
  | insBfx (cond : BitVec 4) (sf : Bool) (rd : BitVec 4) (rs : BitVec 4) (lsb : BitVec 5) (wm1 : BitVec 5)
  /-- BFXS (R326). -/
  | insBfxs (cond : BitVec 4) (sf : Bool) (rd : BitVec 4) (rs : BitVec 4) (lsb : BitVec 5) (wm1 : BitVec 5)
  /-- BFI (R326). -/
  | insBfi (cond : BitVec 4) (sf : Bool) (rd : BitVec 4) (rs : BitVec 4) (lsb : BitVec 5) (wm1 : BitVec 5)
  /-- LD (R328). -/
  | insLd (cond : BitVec 4) (rd : BitVec 4) (rs : BitVec 4) (o : Op2)
  /-- LDH (R328). -/
  | insLdh (cond : BitVec 4) (rd : BitVec 4) (rs : BitVec 4) (o : Op2)
  /-- LDHS (R328). -/
  | insLdhs (cond : BitVec 4) (rd : BitVec 4) (rs : BitVec 4) (o : Op2)
  /-- LDB (R328). -/
  | insLdb (cond : BitVec 4) (rd : BitVec 4) (rs : BitVec 4) (o : Op2)
  /-- LDBS (R328). -/
  | insLdbs (cond : BitVec 4) (rd : BitVec 4) (rs : BitVec 4) (o : Op2)
  /-- ST (R328). -/
  | insSt (cond : BitVec 4) (rd : BitVec 4) (rs : BitVec 4) (o : Op2)
  /-- STH (R328). -/
  | insSth (cond : BitVec 4) (rd : BitVec 4) (rs : BitVec 4) (o : Op2)
  /-- STB (R328). -/
  | insStb (cond : BitVec 4) (rd : BitVec 4) (rs : BitVec 4) (o : Op2)
  /-- IN (R332). -/
  | insIn (cond : BitVec 4) (rd : BitVec 4) (rs : BitVec 4) (o : Op2)
  /-- OUT (R332). -/
  | insOut (cond : BitVec 4) (rd : BitVec 4) (rs : BitVec 4) (o : Op2)
  /-- TBL (R334). -/
  | insTbl (cond : BitVec 4) (rd : BitVec 4) (rs : BitVec 4) (o : Op2)
  /-- B (R335). -/
  | insB (cond : BitVec 4) (disp : BitVec 22)
  /-- BL (R335). -/
  | insBl (cond : BitVec 4) (disp : BitVec 22)
  /-- JR (R336). -/
  | insJr (cond : BitVec 4) (rs : BitVec 4)
  /-- JL (R336). -/
  | insJl (cond : BitVec 4) (rs : BitVec 4)
  /-- LDI (R327). -/
  | insLdi (cond : BitVec 4) (rd : BitVec 4) (mode : BitVec 2) (imm : BitVec 16)
  /-- WAIT (R338). -/
  | insWait (cond : BitVec 4) (rd : BitVec 4) (rs : BitVec 4) (o : Op2)
  /-- WAIT_END (R287). -/
  | waitEnd
  /-- EVT (R339). -/
  | insEvt (cond : BitVec 4) (rd : BitVec 4) (o : Op2)
  /-- EVC (R339). -/
  | insEvc (cond : BitVec 4) (rd : BitVec 4) (o : Op2)
  /-- MRF (R340). -/
  | insMrf (cond : BitVec 4) (rd : BitVec 4)
  /-- MWF (R340). -/
  | insMwf (cond : BitVec 4) (o : Op2)
  /-- END (R341). -/
  | insEnd (cond : BitVec 4)
  /-- HALT (R342). -/
  | insHalt (cond : BitVec 4)
  /-- BRK (R343). -/
  | insBrk (cond : BitVec 4)
  /-- ILLEGAL_ENCODING (R314). -/
  | illegalEncoding (w : BitVec 32)
  /-- HANDLER_START (R284). -/
  | handlerStart
  /-- RESET_TIMEOUT (R291). -/
  | resetTimeout
  /-- SEQ_RESUME (R293). -/
  | seqResume
  /-- SEQ_HALTREQ (R309). -/
  | seqHaltreq
  /-- SEQ_CLRCNT (R311). -/
  | seqClrcnt
  /-- SEQ_DOORBELL_WRITE (R286). -/
  | seqDoorbellWrite (v : BitVec 32)
  /-- SEQ_EVEN_WRITE (R310). -/
  | seqEvenWrite (v : BitVec 32)
  /-- TIMER_EXPIRY (R356). -/
  | timerExpiry (k : Fin 64)
  /-- TM_CFG_WRITE (R357). -/
  | tmCfgWrite (k : Fin 64) (v : BitVec 32)
  /-- TM_PRESET_WRITE (R357). -/
  | tmPresetWrite (k : Fin 64) (v : BitVec 32)
  /-- TM_TRIG (R353). -/
  | tmTrig (k : Fin 64)
  /-- ED_CFG_WRITE (R362). -/
  | edCfgWrite (k : Fin 64) (v : BitVec 32)
  /-- GPIO_SET (R366). -/
  | gpioSet (v : BitVec 32)
  /-- GPIO_CLR (R366). -/
  | gpioClr (v : BitVec 32)
  /-- GPIO_INPUT_DEBOUNCED (R365). -/
  | gpioInputDebounced (n : Fin 6) (pins : PinSample)
  /-- PWM_PERIOD_END (R367). -/
  | pwmPeriodEnd (n : Fin 6)
  /-- SWAP_NO_IDLE (R372). -/
  | swapNoIdle
  /-- READ (R386, R392, R395). -/
  | read (mode3 : Bool) (addr : BitVec 24) (span : ReadSpan)
  /-- FAST_READ (R386). -/
  | fastRead (mode3 : Bool) (addr : BitVec 24) (span : ReadSpan)
  /-- READ_1_1_4 (R386). -/
  | read114 (mode3 : Bool) (addr : BitVec 24) (span : ReadSpan)
  /-- READ_1_4_4 (R386). -/
  | read144 (mode3 : Bool) (addr : BitVec 24) (span : ReadSpan)
  /-- WRITE (R397). -/
  | write (mode3 : Bool) (clean : Bool) (addr : BitVec 24) (bs : List Byte)
  /-- WRITE_1_1_4 (R397). -/
  | write114 (mode3 : Bool) (clean : Bool) (addr : BitVec 24) (bs : List Byte)
  /-- WRITE_1_4_4 (R397). -/
  | write144 (mode3 : Bool) (clean : Bool) (addr : BitVec 24) (bs : List Byte)
  /-- WRITE_COMMIT (R398). -/
  | writeCommit
  /-- READ_PAUSE_RESUME (R393). -/
  | readPauseResume (rest : ReadRest)
  /-- BUSY_BYTE_LIMIT (R395). -/
  | busyByteLimit
  /-- READ_STATUS (R390). -/
  | readStatus (mode3 : Bool) (n : Nat)
  /-- READ_ID (R15). -/
  | readId (mode3 : Bool) (n : Nat)
  /-- ENTER_QUAD_COMMAND_MODE (R388). -/
  | enterQuadCommandMode (mode3 : Bool) (clean : Bool)
  /-- EXIT_QUAD_COMMAND_MODE (R388). -/
  | exitQuadCommandMode (mode3 : Bool) (clean : Bool)
  /-- ACKNOWLEDGED_WRITE (R400): `complete`: every byte of the frame arrived. -/
  | acknowledgedWrite (mode3 : Bool) (complete : Bool) (addr : BitVec 24) (seq : BitVec 8) (crc : BitVec 16) (bs : List Byte)
  /-- WAKE (R404). -/
  | wake (mode3 : Bool) (clean : Bool)
  /-- ENTER_FALLOW (R405). -/
  | enterFallow (mode3 : Bool) (clean : Bool)
  /-- SOFT_RESET (R406). -/
  | softReset (mode3 : Bool) (clean : Bool) (data : List Byte) (g0 : Bool) (g1 : Bool)
  /-- UNKNOWN_OPCODE (R387). -/
  | unknownOpcode (mode3 : Bool) (op : BitVec 8)
  /-- CHAIN_SEGMENT (R410): `edges` clock edges, `seg` the 64 bits of this device. -/
  | chainSegment (mode3 : Bool) (edges : Nat) (bits : List Bool) (g0 : Bool) (g1 : Bool)
  /-- CHAIN_NONE (R410). -/
  | chainNone (mode3 : Bool) (addr : BitVec 24)
  /-- CHAIN_WRITE (R410). -/
  | chainWrite (mode3 : Bool) (addr : BitVec 24) (data : BitVec 32)
  /-- CHAIN_READ (R410). -/
  | chainRead (mode3 : Bool) (addr : BitVec 24)
  /-- CHAIN_READ_STATUS (R410). -/
  | chainReadStatus (mode3 : Bool) (addr : BitVec 24)
  /-- CHAIN_READ_ID (R410). -/
  | chainReadId (mode3 : Bool) (addr : BitVec 24)
  /-- CHAIN_SOFT_RESET (R410). -/
  | chainSoftReset (mode3 : Bool) (addr : BitVec 24) (data : BitVec 32) (g0 : Bool) (g1 : Bool)
  /-- CHAIN_WAKE (R410). -/
  | chainWake (mode3 : Bool) (addr : BitVec 24)
  /-- CHAIN_ENTER_FALLOW (R410). -/
  | chainEnterFallow (mode3 : Bool) (addr : BitVec 24)
  /-- HP_ATTSET_PROG (R403). -/
  | hpAttsetProg
  /-- HP_CLRCNT (R418). -/
  | hpClrcnt
  /-- HP_ACKCLR (R401). -/
  | hpAckclr
  /-- CQ_PI_WRITE (R439). -/
  | cqPiWrite (v : BitVec 32)
  /-- RQ_CI_WRITE (R440). -/
  | rqCiWrite (v : BitVec 32)
  /-- CQ_ENABLE (R431). -/
  | cqEnable (v : BitVec 32)
  /-- CQ_DISABLE (R460). -/
  | cqDisable (v : BitVec 32)
  /-- RQ_ENABLE (R431). -/
  | rqEnable (v : BitVec 32)
  /-- RQ_DISABLE (R457). -/
  | rqDisable (v : BitVec 32)
  /-- XR_GUAR_WRITE (R428). -/
  | xrGuarWrite (c : Fin 7) (v : BitVec 32)
  /-- SCRUB_READ (R421): what has befallen the word read in each bank: 0 nothing, 1 one bit, 2 more. -/
  | scrubRead (upset0 : Fin 3) (upset1 : Fin 3)
  /-- COMMAND_POLL (R446). -/
  | commandPoll
  /-- REPORT_ROOM_RETURN (R456). -/
  | reportRoomReturn
  /-- RQ_WATERMARK_TIMEOUT (R458). -/
  | rqWatermarkTimeout
  /-- PAD (R437). -/
  | pad
  /-- NOP (R466). -/
  | nop
  /-- PROG_LOAD (R473). -/
  | progLoad
  /-- PROG_VERIFY (R474). -/
  | progVerify
  /-- PROG_SWAP (R475). -/
  | progSwap
  /-- CAL_RUN (R476). -/
  | calRun
  /-- CAL_SAVE (R477). -/
  | calSave
  /-- CAL_LOAD (R477). -/
  | calLoad
  /-- REGION_SET (R478). -/
  | regionSet
  /-- KEYMAP_SET (R479). -/
  | keymapSet
  /-- HOP_TABLE_SET (R480). -/
  | hopTableSet
  /-- IMAGE_DUMP (R481). -/
  | imageDump
  /-- PERI_XFER (R483). -/
  | periXfer
  /-- POWER_REQ_DOMAINS (R581). -/
  | powerReqDomains
  /-- POWER_REQ_HEATH (R586). -/
  | powerReqHeath
  /-- POWER_REQ_FALLOW (R592). -/
  | powerReqFallow
  /-- POWER_REQ_MEADOW (R582). -/
  | powerReqMeadow
  /-- CLUSTER_CFG_ENUMERATE (R516). -/
  | clusterCfgEnumerate
  /-- CLUSTER_CFG_DISSOLVE (R517). -/
  | clusterCfgDissolve
  /-- LOG_READ (R486). -/
  | logRead
  /-- COUNTERS_READ (R487). -/
  | countersRead
  /-- COUNTERS_CLEAR (R488). -/
  | countersClear
  /-- MAILBOX (R489). -/
  | mailbox
  /-- FENCE (R490). -/
  | fence
  /-- FENCE_RELEASE (R490). -/
  | fenceRelease
  /-- FENCE_TIMEOUT (R490). -/
  | fenceTimeout
  /-- IMG_REFORM (R157). -/
  | imgReform
  /-- IMG_CLRCNT (R160). -/
  | imgClrcnt
  /-- CT_CTRL_WRITE (R191). -/
  | ctCtrlWrite (v : BitVec 32)
  /-- REGION_WRITE (R192): `which`: 0 CT_RGX, 1 CT_RGY, 2 CT_RGC. -/
  | regionWrite (which : Fin 3) (k : Fin 32) (v : BitVec 32)
  /-- CT_CLRCNT (R194). -/
  | ctClrcnt
  /-- TICK_PERIOD_WRITE (R63). -/
  | tickPeriodWrite (v : BitVec 32)
  /-- TICK_PLAN_WRITE (R42). -/
  | tickPlanWrite (v : BitVec 32)
  /-- TICK_CLR_IMGMAX (R64). -/
  | tickClrImgmax
  /-- TICK_CLR_COUNTS (R64). -/
  | tickClrCounts
  /-- ACQ_DRV_WRITE (R94). -/
  | acqDrvWrite (v : BitVec 32)
  /-- ELECTRODE_ROLE_WRITE (R34). -/
  | electrodeRoleWrite (n : Fin 50) (v : BitVec 32)
  /-- GEOMETRY_WRITE (R132). -/
  | geometryWrite (y : Bool) (v : BitVec 32)
  /-- HOP_FORCE (R114). -/
  | hopForce (h : Fin 8)
  /-- HOP_TABLE_WRITE (R122). -/
  | hopTableWrite (h : Fin 8) (v : BitVec 32)
  /-- OPT_XTCAP (R206). -/
  | optXtcap
  /-- OPT_CLRCNT (R215). -/
  | optClrcnt
  /-- AUX_SYNC (R228). -/
  | auxSync
  /-- AUX_RESET_CONVERTER (R227). -/
  | auxResetConverter (n : Fin 2)
  /-- AUX_CLRCNT (R244). -/
  | auxClrcnt
  /-- AX_ENABLE (R227). -/
  | axEnable (n : Fin 2) (v : BitVec 32)
  /-- AX_DISABLE (R238). -/
  | axDisable (n : Fin 2) (v : BitVec 32)
  /-- AX_CONFIG_WRITE (R229). -/
  | axConfigWrite (n : Fin 2) (filt : Bool) (v : BitVec 32)
  /-- AUX_GPIO_TRIGGER (R228). -/
  | auxGpioTrigger (edge : PinEdge)
  /-- AUX_TICK_TRIGGER (R228). -/
  | auxTickTrigger
  /-- AUX_OUTPUT (R224): the inputs since the converter's synchronising reset, each with the number of the first modulator
  clock that samples it. -/
  | auxOutput (n : Fin 2) (ins : List (Nat × AuxIn))
  /-- WINDOW_ARM (R233). -/
  | windowArm (k : Fin 8) (v : BitVec 32)
  /-- WINDOW_DISARM (R240). -/
  | windowDisarm (k : Fin 8) (v : BitVec 32)
  /-- AUX_DATA_READ (R230). -/
  | auxDataRead (host : Bool) (n : Fin 2)
  /-- CAL_GO (R247). -/
  | calGo (kind : Fin 4)
  /-- CAL_ABORT (R271). -/
  | calAbort (kind : Fin 4)
  /-- CAL_DEFAULTS (R274). -/
  | calDefaults (kind : Fin 4)
  /-- CAL_CLRCNT (R276). -/
  | calClrcnt
  /-- CAL_AUX_PASS_END (R256): converter, output at the short, output at VREF/2, whether one was clamped. -/
  | calAuxPassEnd (outs : List (Nat × Int × Int × Bool))
  /-- PP_GO_START (R559). -/
  | ppGoStart (m : BitVec 8)
  /-- PP_GO_STOP (R559). -/
  | ppGoStop (m : BitVec 8)
  /-- PP_CLRCNT (R571). -/
  | ppClrcnt
  /-- PP_FRAME_START (R558). -/
  | ppFrameStart
  /-- PP_FIFO_RESUME (R552). -/
  | ppFifoResume
  /-- PP_FRAME_END (R561): `rx` the data bytes read. -/
  | ppFrameEnd (rx : List Byte)
  /-- PP_PRDY_TIMEOUT (R555): `n` data bytes had passed, `rx` those read. -/
  | ppPrdyTimeout (n : Nat) (rx : List Byte)
  /-- PP_MARK_TIMEOUT (R556): `rx` the data bytes read. -/
  | ppMarkTimeout (rx : List Byte)
  /-- PP_DRAIN_TIMEOUT (R567): `n` data bytes had passed, `rx` those read. -/
  | ppDrainTimeout (n : Nat) (rx : List Byte)
  /-- PWR_DREQ (R581). -/
  | pwrDreq (v : BitVec 32)
  /-- PWR_SREQ_HEATH (R586). -/
  | pwrSreqHeath
  /-- PWR_SREQ_FALLOW (R592). -/
  | pwrSreqFallow
  /-- PWR_CLRCNT (R605). -/
  | pwrClrcnt
  /-- DOMAIN_RAMP_UP_END (R576). -/
  | domainRampUpEnd (k : Fin 12)
  /-- DOMAIN_DRAIN_END (R578). -/
  | domainDrainEnd (k : Fin 12)
  /-- DOMAIN_RAMP_DOWN_END (R576). -/
  | domainRampDownEnd (k : Fin 12)
  /-- DOMAIN_RESTART_END (R579). -/
  | domainRestartEnd (k : Fin 12)
  /-- HEATH_TICK (R588). -/
  | heathTick
  /-- HEATH_HFO_START (R590). -/
  | heathHfoStart
  /-- TEMP_SAMPLE (R638): the two sensors, in 1/16 °C. -/
  | tempSample (t0 : Int) (t1 : Int)
  /-- FAULT_WINDOW_CLOSE (R632). -/
  | faultWindowClose (k : Fin 22)
  /-- FLT_CLRCNT (R649). -/
  | fltClrcnt
  /-- FLT_CLRLOST (R644). -/
  | fltClrlost
  /-- FLT_CLRTMAX (R655). -/
  | fltClrtmax
  /-- FLT_TEMP_WRITE (R651). -/
  | fltTempWrite (v : BitVec 32)
  /-- FLT_CFG_WRITE (R650). -/
  | fltCfgWrite (k : Fin 22) (v : BitVec 32)
  /-- CL_ROLE_WRITE (R515). -/
  | clRoleWrite (v : BitVec 32)
  /-- CL_CLRCNT (R546). -/
  | clClrcnt
  /-- LINK_LOCK (R513). -/
  | linkLock
  /-- RING_TICK (R519). -/
  | ringTick
  /-- TICKH (R531). -/
  | tickh
  /-- RCANCEL (R527). -/
  | rcancel
  /-- MEASURE (R516). -/
  | measure (echo : Echo)
  /-- RING_DOWN (R537). -/
  | ringDown (node : Fin 8)
  /-- ENUM (R516). -/
  | enum (m : RingMsg)
  /-- CONFIG (R516). -/
  | config (m : RingMsg)
  /-- CHECK (R518). -/
  | check (ask : CheckAsk)
  /-- CHECKR (R518). -/
  | checkr (m : RingMsg)
  /-- STAGE (R530). -/
  | stage (m : RingMsg)
  /-- RETRY (R89). -/
  | retry (m : RingMsg)
  /-- NOISE (R118). -/
  | noise (m : RingMsg)
  /-- CORR (R89). -/
  | corr (m : RingMsg)
  /-- DELTA (R532). -/
  | delta (m : RingMsg)
  /-- CALD (R254). -/
  | cald (m : RingMsg)
  /-- CALR (R254). -/
  | calr (m : RingMsg)
  /-- ACK (R535). -/
  | ack (m : RingMsg)
  /-- LEAVE (R517). -/
  | leave (m : RingMsg)
  /-- ACK_TIMEOUT (R535). -/
  | ackTimeout
  /-- ENUM_ECHO_TIMEOUT (R516). -/
  | enumEchoTimeout
  /-- MEMBER_HOLDOVER (R521). -/
  | memberHoldover
  /-- DELTA_DEADLINE (R536). -/
  | deltaDeadline
  /-- CLI_UNLOCK (R538). -/
  | cliUnlock
  /-- REGISTER_WRITE (R4). -/
  | registerWrite (prog : Bool) (addr : BitVec 16) (v : BitVec 32)
  /-- HSYNC_EDGE (R49): the line period in cycles of 48 MHz. -/
  | hsyncEdge (cycles : Nat)
  /-- LINK_LOSS (R539). -/
  | linkLoss
  /-- SEAT_N_FALLING_EDGE (R627). -/
  | seatNFallingEdge
  /-- PP_PRDY_READY (R555). -/
  | ppPrdyReady
  /-- RETRY_CHOICE_DEADLINE (R526). -/
  | retryChoiceDeadline
  /-- RETRY_ECHO_DEADLINE (R527). -/
  | retryEchoDeadline
  /-- STAGE_DEADLINE (R526). -/
  | stageDeadline
deriving DecidableEq, Repr

end Sys2Proof
end

