-- ==== Sys2Proof/Decode.lean ====
section
/-!
DEFINITION. Decode.lean: the words of the Odzia instructions (chapter 11): the four formats, the illegal encodings, the
word of each instruction and the instruction of each word. The opcode table gives no row any bits, so no word of its
numbering spells a command.
-/

namespace Sys2Proof

/-- The command that a word spells by the table's bits: no row has bits. -/
def decodeTableWord (_nbits _w : Nat) : Option Instr := none

/-! ### Encodings (R312) -/

/-- Bits [12:0] of an ALU or memory word. -/
def op2Bits : Op2 → BitVec 13
  | .reg rt scale ext => 0#1 ++ rt ++ scale ++ ext ++ 0#1
  | .imm v => 1#1 ++ v

/-- An ALU-format word. -/
def encAlu (cond : BitVec 4) (op : BitVec 6) (s : Bool) (rd rs : BitVec 4) (o : Op2) : Word :=
  cond ++ op ++ BitVec.ofBool s ++ rd ++ rs ++ op2Bits o

/-- A memory-format word. -/
def encMem (cond : BitVec 4) (op : BitVec 6) (rd rs : BitVec 4) (o : Op2) : Word := encAlu cond op false rd rs o

/-- A branch-format word. -/
def encBranch (cond : BitVec 4) (op : BitVec 6) (disp : BitVec 22) : Word := cond ++ op ++ disp

/-- A long-immediate word. -/
def encLong (cond : BitVec 4) (op : BitVec 6) (rd : BitVec 4) (mode : BitVec 2) (imm : BitVec 16) : Word :=
  cond ++ op ++ rd ++ mode ++ imm

/-- An unscaled register as second operand: bits [12:0] 0 when the register is g0. -/
def opReg (rt : BitVec 4) : Op2 := .reg rt 0 0

/-- The bitfield operand (R326): lsb in imm12[4:0], width − 1 in imm12[9:5]. -/
def opField (lsb wm1 : BitVec 5) : Op2 := .imm (0#2 ++ wm1 ++ lsb)

/-- Bits `hi` to `lo` of a word. -/
def bits (w : Word) (hi lo : Nat) : Nat := w.toNat / 2 ^ lo % 2 ^ (hi + 1 - lo)

/-- Whether `op` is an ALU-format instruction whose row of the opcode map shows flags (R320). -/
def opFlags (op : Nat) : Bool := op ≤ 0x1A

/-- Whether `op` uses the ALU format, the memory format (R320). -/
def opAlu (op : Nat) : Bool := op ≤ 0x1A || (0x32 ≤ op && op ≤ 0x3C && op != 0x34)
def opMem (op : Nat) : Bool := 0x20 ≤ op && op ≤ 0x2A

/-- Whether a field that the row of `op` marks 0 is not 0 (R314, R320). -/
def unusedBad (op : Nat) (w : Word) : Bool :=
  if op = 0x09 ∨ op = 0x0A ∨ op = 0x36 ∨ op = 0x37 then bits w 16 13 != 0
  else if op = 0x0F then bits w 12 0 != 0
  else if op = 0x32 ∨ op = 0x33 then bits w 20 17 != 0 || bits w 12 0 != 0
  else if op = 0x38 then bits w 16 0 != 0
  else if op = 0x39 then bits w 20 13 != 0
  else if op = 0x3A ∨ op = 0x3B ∨ op = 0x3C then bits w 21 0 != 0
  else false

/-- Whether a shift or bitfield operand is out of its form (R314). -/
def operandBad (op : Nat) (w : Word) : Bool :=
  if 0x0B ≤ op ∧ op ≤ 0x0E then (if bits w 12 12 = 0 then bits w 7 1 != 0 else bits w 11 5 != 0)
  else if 0x18 ≤ op ∧ op ≤ 0x1A then
    bits w 12 12 == 0 || bits w 11 10 != 0 || decide (32 < bits w 4 0 + bits w 9 5 + 1)
  else false

/-- The table "Illegal encodings" (R314). -/
def illegal (w : Word) : Bool :=
  let op := bits w 27 22
  (0x1B ≤ op && op ≤ 0x1F) || (0x2B ≤ op && op ≤ 0x2F) || 0x3D ≤ op ||
    (opAlu op && bits w 12 12 == 0 && bits w 0 0 == 1) ||
    (opMem op && (bits w 21 21 == 1 || (bits w 12 12 == 0 && bits w 2 0 != 0))) ||
    (opAlu op && !opFlags op && bits w 21 21 == 1) ||
    unusedBad op w || operandBad op w || (op == 0x34 && bits w 17 16 == 3)

/-- Whether a word is an instruction. -/
def legalWord (w : Word) : Bool := !illegal w

/-! ### Words and instructions -/

/-- The word of a core instruction (table "Opcode map"); no other command has one. -/
def coreWord : Instr → Option Word
  | .insAdd cond sf rd rs o => some (encAlu cond 0x00 sf rd rs o)
  | .insAddc cond sf rd rs o => some (encAlu cond 0x01 sf rd rs o)
  | .insSub cond sf rd rs o => some (encAlu cond 0x02 sf rd rs o)
  | .insSubb cond sf rd rs o => some (encAlu cond 0x03 sf rd rs o)
  | .insAbsd cond sf rd rs o => some (encAlu cond 0x04 sf rd rs o)
  | .insAnd cond sf rd rs o => some (encAlu cond 0x05 sf rd rs o)
  | .insOr cond sf rd rs o => some (encAlu cond 0x06 sf rd rs o)
  | .insXor cond sf rd rs o => some (encAlu cond 0x07 sf rd rs o)
  | .insAndn cond sf rd rs o => some (encAlu cond 0x08 sf rd rs o)
  | .insMov cond sf rd o => some (encAlu cond 0x09 sf rd 0 o)
  | .insNot cond sf rd o => some (encAlu cond 0x0A sf rd 0 o)
  | .insShl cond sf rd rs o => some (encAlu cond 0x0B sf rd rs o)
  | .insShr cond sf rd rs o => some (encAlu cond 0x0C sf rd rs o)
  | .insSar cond sf rd rs o => some (encAlu cond 0x0D sf rd rs o)
  | .insRor cond sf rd rs o => some (encAlu cond 0x0E sf rd rs o)
  | .insClz cond sf rd rs => some (encAlu cond 0x0F sf rd rs (opReg 0))
  | .insMul cond sf rd rs o => some (encAlu cond 0x10 sf rd rs o)
  | .insMac cond sf rd rs o => some (encAlu cond 0x11 sf rd rs o)
  | .insMulhs cond sf rd rs o => some (encAlu cond 0x12 sf rd rs o)
  | .insMulhu cond sf rd rs o => some (encAlu cond 0x13 sf rd rs o)
  | .insDivs cond sf rd rs o => some (encAlu cond 0x14 sf rd rs o)
  | .insDivu cond sf rd rs o => some (encAlu cond 0x15 sf rd rs o)
  | .insRems cond sf rd rs o => some (encAlu cond 0x16 sf rd rs o)
  | .insRemu cond sf rd rs o => some (encAlu cond 0x17 sf rd rs o)
  | .insBfx cond sf rd rs lsb wm1 => some (encAlu cond 0x18 sf rd rs (opField lsb wm1))
  | .insBfxs cond sf rd rs lsb wm1 => some (encAlu cond 0x19 sf rd rs (opField lsb wm1))
  | .insBfi cond sf rd rs lsb wm1 => some (encAlu cond 0x1A sf rd rs (opField lsb wm1))
  | .insLd cond rd rs o => some (encMem cond 0x20 rd rs o)
  | .insLdh cond rd rs o => some (encMem cond 0x21 rd rs o)
  | .insLdhs cond rd rs o => some (encMem cond 0x22 rd rs o)
  | .insLdb cond rd rs o => some (encMem cond 0x23 rd rs o)
  | .insLdbs cond rd rs o => some (encMem cond 0x24 rd rs o)
  | .insSt cond rd rs o => some (encMem cond 0x25 rd rs o)
  | .insSth cond rd rs o => some (encMem cond 0x26 rd rs o)
  | .insStb cond rd rs o => some (encMem cond 0x27 rd rs o)
  | .insIn cond rd rs o => some (encMem cond 0x28 rd rs o)
  | .insOut cond rd rs o => some (encMem cond 0x29 rd rs o)
  | .insTbl cond rd rs o => some (encMem cond 0x2A rd rs o)
  | .insB cond disp => some (encBranch cond 0x30 disp)
  | .insBl cond disp => some (encBranch cond 0x31 disp)
  | .insJr cond rs => some (encAlu cond 0x32 false 0 rs (opReg 0))
  | .insJl cond rs => some (encAlu cond 0x33 false 0 rs (opReg 0))
  | .insLdi cond rd mode imm => some (encLong cond 0x34 rd mode imm)
  | .insWait cond rd rs o => some (encAlu cond 0x35 false rd rs o)
  | .insEvt cond rd o => some (encAlu cond 0x36 false rd 0 o)
  | .insEvc cond rd o => some (encAlu cond 0x37 false rd 0 o)
  | .insMrf cond rd => some (encAlu cond 0x38 false rd 0 (opReg 0))
  | .insMwf cond o => some (encAlu cond 0x39 false 0 0 o)
  | .insEnd cond => some (encBranch cond 0x3A 0)
  | .insHalt cond => some (encBranch cond 0x3B 0)
  | .insBrk cond => some (encBranch cond 0x3C 0)
  | _ => none

/-- The second operand of an ALU or memory word. -/
def wordOp2 (w : Word) : Op2 :=
  if w.getLsbD 12 then .imm (w.extractLsb' 0 12)
  else .reg (w.extractLsb' 8 4) (w.extractLsb' 3 5) (w.extractLsb' 1 2)

/-- The instruction of a word; an illegal word has none (R314). -/
def coreDecode (w : Word) : Option Instr :=
  let cond := w.extractLsb' 28 4
  let sf := w.getLsbD 21
  let rd := w.extractLsb' 17 4
  let rs := w.extractLsb' 13 4
  let o := wordOp2 w
  if illegal w then none
  else match bits w 27 22 with
  | 0x00 => some (.insAdd cond sf rd rs o)
  | 0x01 => some (.insAddc cond sf rd rs o)
  | 0x02 => some (.insSub cond sf rd rs o)
  | 0x03 => some (.insSubb cond sf rd rs o)
  | 0x04 => some (.insAbsd cond sf rd rs o)
  | 0x05 => some (.insAnd cond sf rd rs o)
  | 0x06 => some (.insOr cond sf rd rs o)
  | 0x07 => some (.insXor cond sf rd rs o)
  | 0x08 => some (.insAndn cond sf rd rs o)
  | 0x09 => some (.insMov cond sf rd o)
  | 0x0A => some (.insNot cond sf rd o)
  | 0x0B => some (.insShl cond sf rd rs o)
  | 0x0C => some (.insShr cond sf rd rs o)
  | 0x0D => some (.insSar cond sf rd rs o)
  | 0x0E => some (.insRor cond sf rd rs o)
  | 0x0F => some (.insClz cond sf rd rs)
  | 0x10 => some (.insMul cond sf rd rs o)
  | 0x11 => some (.insMac cond sf rd rs o)
  | 0x12 => some (.insMulhs cond sf rd rs o)
  | 0x13 => some (.insMulhu cond sf rd rs o)
  | 0x14 => some (.insDivs cond sf rd rs o)
  | 0x15 => some (.insDivu cond sf rd rs o)
  | 0x16 => some (.insRems cond sf rd rs o)
  | 0x17 => some (.insRemu cond sf rd rs o)
  | 0x18 => some (.insBfx cond sf rd rs (w.extractLsb' 0 5) (w.extractLsb' 5 5))
  | 0x19 => some (.insBfxs cond sf rd rs (w.extractLsb' 0 5) (w.extractLsb' 5 5))
  | 0x1A => some (.insBfi cond sf rd rs (w.extractLsb' 0 5) (w.extractLsb' 5 5))
  | 0x20 => some (.insLd cond rd rs o)
  | 0x21 => some (.insLdh cond rd rs o)
  | 0x22 => some (.insLdhs cond rd rs o)
  | 0x23 => some (.insLdb cond rd rs o)
  | 0x24 => some (.insLdbs cond rd rs o)
  | 0x25 => some (.insSt cond rd rs o)
  | 0x26 => some (.insSth cond rd rs o)
  | 0x27 => some (.insStb cond rd rs o)
  | 0x28 => some (.insIn cond rd rs o)
  | 0x29 => some (.insOut cond rd rs o)
  | 0x2A => some (.insTbl cond rd rs o)
  | 0x30 => some (.insB cond (w.extractLsb' 0 22))
  | 0x31 => some (.insBl cond (w.extractLsb' 0 22))
  | 0x32 => some (.insJr cond rs)
  | 0x33 => some (.insJl cond rs)
  | 0x34 => some (.insLdi cond (w.extractLsb' 18 4) (w.extractLsb' 16 2) (w.extractLsb' 0 16))
  | 0x35 => some (.insWait cond rd rs o)
  | 0x36 => some (.insEvt cond rd o)
  | 0x37 => some (.insEvc cond rd o)
  | 0x38 => some (.insMrf cond rd)
  | 0x39 => some (.insMwf cond o)
  | 0x3A => some (.insEnd cond)
  | 0x3B => some (.insHalt cond)
  | 0x3C => some (.insBrk cond)
  | _ => none

end Sys2Proof
end

