-- ==== Sys2Proof/Config.lean ====
section
/-!
DEFINITION. Config.lean: what the spec leaves open. Every constant here is OPAQUE: nothing can be proved of its
value. A free value is the constant applied to a counter of the state (`Dev.freeCount`), which the step advances.
-/

namespace Sys2Proof

/-- FREE VALUE. The stall cycles of one XRAM access of the sequencer (R280): bounded by its user where the spec
bounds it, open otherwise. Log entry 3. -/
opaque Config.xramStall : Nat → Nat

/-- FREE VALUE. A result the spec states no value for (log entry 3). -/
opaque Config.freeNat : Nat → Nat

/-- FREE VALUE. The 128-bit program key that OTP holds and that no side can read (R298, R688). Log entry 9. -/
opaque Config.programKey : BitVec 128

/-- FREE VALUE. What one LSB of a mutual symbol result is worth, in 2^-16 aF, for the feedback capacitance in aF and
the level's factory gain: the spec states no scale (R76). Log entry 10. -/
opaque Config.mutualLsb : Nat → Nat → Nat

/-- FREE VALUE. What one LSB of a self symbol result is worth, in 2^-16 of 10 aF (R77, R79). Log entry 10. -/
opaque Config.selfLsb : Nat → Nat → Nat

/-- FREE VALUE. The temperature in 1/16384 °C that a sensor reading becomes with the OTP trim (offset in 1/16 °C, slope):
the spec names the trim and states no formula (R219). Log entry 3. -/
opaque Config.sensorTemp : Int → Int → Nat → Int

end Sys2Proof
end

