-- ==== Sys2Proof/Machine/Fields.lean ====
section
/-!
DEFINITION. Machine/Fields.lean: the I/O addresses of the registers and the bit places of their fields, one
constant each, as the register tables of the chapters give them (the rule is named at each register).
A register array takes its index `i`.
-/

namespace Sys2Proof.Machine

/-- A field of an I/O register: the register's I/O address, the field's lowest bit and its width. -/
structure Field where
  addr  : Nat
  lo    : Nat
  width : Nat
deriving DecidableEq, Repr

namespace R

/-- Address of SYS_ID (R15). -/
abbrev SYS_ID : Nat := 0x0000
abbrev SYS_ID_VENDOR : Field := ⟨SYS_ID, 24, 8⟩
abbrev SYS_ID_PART : Field := ⟨SYS_ID, 8, 16⟩
abbrev SYS_ID_STEP : Field := ⟨SYS_ID, 0, 8⟩
/-- Address of SYS_CTRL (R630). -/
abbrev SYS_CTRL : Nat := 0x0004
abbrev SYS_CTRL_RUN : Field := ⟨SYS_CTRL, 0, 1⟩
/-- Address of SYS_STATUS (R630). -/
abbrev SYS_STATUS : Nat := 0x0008
abbrev SYS_STATUS_STATE : Field := ⟨SYS_STATUS, 0, 4⟩
abbrev SYS_STATUS_REFUSED : Field := ⟨SYS_STATUS, 4, 1⟩
abbrev SYS_STATUS_SEATED : Field := ⟨SYS_STATUS, 5, 1⟩
abbrev SYS_STATUS_VDDIOOK : Field := ⟨SYS_STATUS, 6, 1⟩
/-- Address of SYS_REASON (R630). -/
abbrev SYS_REASON : Nat := 0x000C
abbrev SYS_REASON_CODE : Field := ⟨SYS_REASON, 0, 8⟩
abbrev SYS_REASON_DETAIL : Field := ⟨SYS_REASON, 16, 16⟩
/-- Address of SYS_UPTIME (R630). -/
abbrev SYS_UPTIME : Nat := 0x0010
abbrev SYS_UPTIME_TIME : Field := ⟨SYS_UPTIME, 0, 32⟩
/-- Address of SYS_TSTAMP (R630). -/
abbrev SYS_TSTAMP : Nat := 0x0014
abbrev SYS_TSTAMP_TIME : Field := ⟨SYS_TSTAMP, 0, 32⟩
/-- Address of SYS_STRAPS (R630). -/
abbrev SYS_STRAPS : Nat := 0x0018
abbrev SYS_STRAPS_BOOT : Field := ⟨SYS_STRAPS, 0, 1⟩
abbrev SYS_STRAPS_CHAIN : Field := ⟨SYS_STRAPS, 1, 1⟩
abbrev SYS_STRAPS_SEATPIN : Field := ⟨SYS_STRAPS, 2, 1⟩
/-- Address of SYS_RESET (R630). -/
abbrev SYS_RESET : Nat := 0x001C
abbrev SYS_RESET_POR : Field := ⟨SYS_RESET, 0, 1⟩
abbrev SYS_RESET_PIN : Field := ⟨SYS_RESET, 1, 1⟩
abbrev SYS_RESET_SOFT : Field := ⟨SYS_RESET, 2, 1⟩
abbrev SYS_RESET_CHAINSOFT : Field := ⟨SYS_RESET, 3, 1⟩
abbrev SYS_RESET_COUNT : Field := ⟨SYS_RESET, 16, 16⟩
/-- Address of SYS_HALT_INFO (R630). -/
abbrev SYS_HALT_INFO : Nat := 0x0020
abbrev SYS_HALT_INFO_SOURCE : Field := ⟨SYS_HALT_INFO, 0, 8⟩
abbrev SYS_HALT_INFO_CAUSE : Field := ⟨SYS_HALT_INFO, 8, 8⟩
abbrev SYS_HALT_INFO_DETAIL : Field := ⟨SYS_HALT_INFO, 16, 16⟩
/-- Address of TICK_CTRL (R64). -/
abbrev TICK_CTRL : Nat := 0x0100
abbrev TICK_CTRL_SRC : Field := ⟨TICK_CTRL, 0, 2⟩
abbrev TICK_CTRL_RATIO : Field := ⟨TICK_CTRL, 2, 2⟩
abbrev TICK_CTRL_VSPOL : Field := ⟨TICK_CTRL, 4, 1⟩
abbrev TICK_CTRL_HSPOL : Field := ⟨TICK_CTRL, 5, 1⟩
abbrev TICK_CTRL_HSGATE : Field := ⟨TICK_CTRL, 6, 1⟩
/-- Address of TICK_PERIOD (R64). -/
abbrev TICK_PERIOD : Nat := 0x0104
abbrev TICK_PERIOD_PERIOD : Field := ⟨TICK_PERIOD, 0, 16⟩
/-- Address of TICK_VSYNC (R64). -/
abbrev TICK_VSYNC : Nat := 0x0108
abbrev TICK_VSYNC_OFFSET : Field := ⟨TICK_VSYNC, 0, 10⟩
abbrev TICK_VSYNC_VMAX : Field := ⟨TICK_VSYNC, 16, 8⟩
/-- Address of TICK_HSYNC (R64). -/
abbrev TICK_HSYNC : Nat := 0x010C
abbrev TICK_HSYNC_DLY : Field := ⟨TICK_HSYNC, 0, 8⟩
abbrev TICK_HSYNC_WIN : Field := ⟨TICK_HSYNC, 16, 12⟩
/-- Address of TICK_PLAN (R64). -/
abbrev TICK_PLAN : Nat := 0x0110
abbrev TICK_PLAN_FIRST : Field := ⟨TICK_PLAN, 0, 2⟩
abbrev TICK_PLAN_SECOND : Field := ⟨TICK_PLAN, 2, 2⟩
abbrev TICK_PLAN_THIRD : Field := ⟨TICK_PLAN, 4, 2⟩
abbrev TICK_PLAN_ALT : Field := ⟨TICK_PLAN, 8, 1⟩
/-- Address of TICK_BUDGET (R64). -/
abbrev TICK_BUDGET : Nat := 0x0114
abbrev TICK_BUDGET_TACQ : Field := ⟨TICK_BUDGET, 0, 16⟩
abbrev TICK_BUDGET_MINPER : Field := ⟨TICK_BUDGET, 16, 16⟩
/-- Address of TICK_STATUS (R64). -/
abbrev TICK_STATUS : Nat := 0x0118
abbrev TICK_STATUS_VLOCK : Field := ⟨TICK_STATUS, 0, 1⟩
abbrev TICK_STATUS_HSLOCK : Field := ⟨TICK_STATUS, 1, 1⟩
abbrev TICK_STATUS_PREJ : Field := ⟨TICK_STATUS, 2, 1⟩
abbrev TICK_STATUS_PLANERR : Field := ⟨TICK_STATUS, 3, 1⟩
abbrev TICK_STATUS_VGLITCH : Field := ⟨TICK_STATUS, 4, 1⟩
/-- Address of TICK_COUNT (R64). -/
abbrev TICK_COUNT : Nat := 0x011C
abbrev TICK_COUNT_COUNT : Field := ⟨TICK_COUNT, 0, 32⟩
/-- Address of TICK_LAST (R64). -/
abbrev TICK_LAST : Nat := 0x0120
abbrev TICK_LAST_TSTAMP : Field := ⟨TICK_LAST, 0, 32⟩
/-- Address of TICK_VMEAS (R64). -/
abbrev TICK_VMEAS : Nat := 0x0124
abbrev TICK_VMEAS_VPER : Field := ⟨TICK_VMEAS, 0, 16⟩
abbrev TICK_VMEAS_HPER : Field := ⟨TICK_VMEAS, 16, 16⟩
/-- Address of TICK_IMGTIME (R64). -/
abbrev TICK_IMGTIME : Nat := 0x0128
abbrev TICK_IMGTIME_LAST : Field := ⟨TICK_IMGTIME, 0, 16⟩
abbrev TICK_IMGTIME_MAX : Field := ⟨TICK_IMGTIME, 16, 16⟩
/-- Address of TICK_COUNTS (R64). -/
abbrev TICK_COUNTS : Nat := 0x012C
abbrev TICK_COUNTS_CUTS : Field := ⟨TICK_COUNTS, 0, 16⟩
abbrev TICK_COUNTS_SKIP : Field := ⟨TICK_COUNTS, 16, 16⟩
/-- Address of TICK_CLR (R64). -/
abbrev TICK_CLR : Nat := 0x0130
abbrev TICK_CLR_IMGMAX : Field := ⟨TICK_CLR, 0, 1⟩
abbrev TICK_CLR_COUNTS : Field := ⟨TICK_CLR, 1, 1⟩
/-- Address of ACQ_DRV (R101). -/
abbrev ACQ_DRV : Nat := 0x0400
abbrev ACQ_DRV_LEVEL : Field := ⟨ACQ_DRV, 0, 2⟩
abbrev ACQ_DRV_VMAX : Field := ⟨ACQ_DRV, 4, 2⟩
abbrev ACQ_DRV_SLEW : Field := ⟨ACQ_DRV, 8, 2⟩
/-- Address of ACQ_CODE (R101). -/
abbrev ACQ_CODE : Nat := 0x0404
abbrev ACQ_CODE_LSEL : Field := ⟨ACQ_CODE, 0, 3⟩
abbrev ACQ_CODE_P : Field := ⟨ACQ_CODE, 8, 7⟩
abbrev ACQ_CODE_MSETTLE : Field := ⟨ACQ_CODE, 16, 8⟩
/-- Address of ACQ_SELF (R101). -/
abbrev ACQ_SELF : Nat := 0x0408
abbrev ACQ_SELF_NSELF : Field := ⟨ACQ_SELF, 0, 4⟩
abbrev ACQ_SELF_PSELF : Field := ⟨ACQ_SELF, 8, 7⟩
abbrev ACQ_SELF_SSETTLE : Field := ⟨ACQ_SELF, 16, 8⟩
/-- Address of ACQ_AFE (R101). -/
abbrev ACQ_AFE : Nat := 0x040C
abbrev ACQ_AFE_CFM : Field := ⟨ACQ_AFE, 0, 4⟩
abbrev ACQ_AFE_CFS : Field := ⟨ACQ_AFE, 4, 4⟩
abbrev ACQ_AFE_RETRY : Field := ⟨ACQ_AFE, 8, 3⟩
/-- Address of ACQ_CORR (R101). -/
abbrev ACQ_CORR : Nat := 0x0410
abbrev ACQ_CORR_RESTHR : Field := ⟨ACQ_CORR, 0, 20⟩
abbrev ACQ_CORR_OPENTHR : Field := ⟨ACQ_CORR, 24, 7⟩
/-- Address of ACQ_STATUS (R101). -/
abbrev ACQ_STATUS : Nat := 0x0414
abbrev ACQ_STATUS_LEVELNOW : Field := ⟨ACQ_STATUS, 0, 2⟩
abbrev ACQ_STATUS_TCAP : Field := ⟨ACQ_STATUS, 2, 1⟩
abbrev ACQ_STATUS_VHVOK : Field := ⟨ACQ_STATUS, 3, 1⟩
abbrev ACQ_STATUS_LREJ : Field := ⟨ACQ_STATUS, 4, 1⟩
/-- Address of ACQ_FSTAT (R101). -/
abbrev ACQ_FSTAT : Nat := 0x0418
abbrev ACQ_FSTAT_NCORR : Field := ⟨ACQ_FSTAT, 0, 10⟩
abbrev ACQ_FSTAT_NRETRY : Field := ⟨ACQ_FSTAT, 10, 3⟩
abbrev ACQ_FSTAT_NSTALE : Field := ⟨ACQ_FSTAT, 16, 6⟩
abbrev ACQ_FSTAT_OVL : Field := ⟨ACQ_FSTAT, 22, 1⟩
/-- Address of ACQ_STALEMAP (R101). -/
abbrev ACQ_STALEMAP : Nat := 0x041C
abbrev ACQ_STALEMAP_STALE : Field := ⟨ACQ_STALEMAP, 0, 32⟩
/-- Address of ACQ_OPENMAP0 (R101). -/
abbrev ACQ_OPENMAP0 : Nat := 0x0420
abbrev ACQ_OPENMAP0_EL : Field := ⟨ACQ_OPENMAP0, 0, 32⟩
/-- Address of ACQ_OPENMAP1 (R101). -/
abbrev ACQ_OPENMAP1 : Nat := 0x0424
abbrev ACQ_OPENMAP1_EL : Field := ⟨ACQ_OPENMAP1, 0, 18⟩
/-- Address of ACQ_SHORTMAP0 (R101). -/
abbrev ACQ_SHORTMAP0 : Nat := 0x0428
abbrev ACQ_SHORTMAP0_EL : Field := ⟨ACQ_SHORTMAP0, 0, 32⟩
/-- Address of ACQ_SHORTMAP1 (R101). -/
abbrev ACQ_SHORTMAP1 : Nat := 0x042C
abbrev ACQ_SHORTMAP1_EL : Field := ⟨ACQ_SHORTMAP1, 0, 18⟩
/-- Address of ACQ_OFFk (R101). -/
abbrev ACQ_OFF (i : Nat) : Nat := 0x0440 + 4 * i
abbrev ACQ_OFF_OFFM (i : Nat) : Field := ⟨ACQ_OFF i, 0, 10⟩
abbrev ACQ_OFF_OFFS (i : Nat) : Field := ⟨ACQ_OFF i, 16, 10⟩
/-- Address of ACQ_ELROLEn (R34). -/
abbrev ACQ_ELROLE (i : Nat) : Nat := 0x0500 + 4 * i
abbrev ACQ_ELROLE_ROLE (i : Nat) : Field := ⟨ACQ_ELROLE i, 0, 2⟩
abbrev ACQ_ELROLE_INDEX (i : Nat) : Field := ⟨ACQ_ELROLE i, 4, 9⟩
/-- Address of ACQ_GEOMX (R34). -/
abbrev ACQ_GEOMX : Nat := 0x05D0
abbrev ACQ_GEOMX_COUNT : Field := ⟨ACQ_GEOMX, 0, 9⟩
abbrev ACQ_GEOMX_PITCH : Field := ⟨ACQ_GEOMX, 9, 9⟩
abbrev ACQ_GEOMX_MARGIN : Field := ⟨ACQ_GEOMX, 18, 10⟩
/-- Address of ACQ_GEOMY (R34). -/
abbrev ACQ_GEOMY : Nat := 0x05D4
abbrev ACQ_GEOMY_COUNT : Field := ⟨ACQ_GEOMY, 0, 9⟩
abbrev ACQ_GEOMY_PITCH : Field := ⟨ACQ_GEOMY, 9, 9⟩
abbrev ACQ_GEOMY_MARGIN : Field := ⟨ACQ_GEOMY, 18, 10⟩
/-- Address of ACQ_ORIENT (R34). -/
abbrev ACQ_ORIENT : Nat := 0x05D8
abbrev ACQ_ORIENT_SWAPXY : Field := ⟨ACQ_ORIENT, 0, 1⟩
abbrev ACQ_ORIENT_FLIPX : Field := ⟨ACQ_ORIENT, 1, 1⟩
abbrev ACQ_ORIENT_FLIPY : Field := ⟨ACQ_ORIENT, 2, 1⟩
/-- Address of ACQ_ELSUM (R34). -/
abbrev ACQ_ELSUM : Nat := 0x05DC
abbrev ACQ_ELSUM_NSENSE : Field := ⟨ACQ_ELSUM, 0, 6⟩
abbrev ACQ_ELSUM_NDRIVE : Field := ⟨ACQ_ELSUM, 8, 6⟩
abbrev ACQ_ELSUM_NGUARD : Field := ⟨ACQ_ELSUM, 16, 6⟩
abbrev ACQ_ELSUM_PASS2 : Field := ⟨ACQ_ELSUM, 24, 1⟩
/-- Address of ACQ_DRANGE (R34). -/
abbrev ACQ_DRANGE : Nat := 0x05E0
abbrev ACQ_DRANGE_DLOW : Field := ⟨ACQ_DRANGE, 0, 9⟩
abbrev ACQ_DRANGE_DHIGH : Field := ⟨ACQ_DRANGE, 16, 9⟩
/-- Address of HOP_CTRL (R127). -/
abbrev HOP_CTRL : Nat := 0x0800
abbrev HOP_CTRL_MODE : Field := ⟨HOP_CTRL, 0, 1⟩
abbrev HOP_CTRL_METRIC : Field := ⟨HOP_CTRL, 1, 1⟩
abbrev HOP_CTRL_HSAVOID : Field := ⟨HOP_CTRL, 2, 1⟩
abbrev HOP_CTRL_START : Field := ⟨HOP_CTRL, 4, 3⟩
/-- Address of HOP_CFG (R127). -/
abbrev HOP_CFG : Nat := 0x0804
abbrev HOP_CFG_ENTER : Field := ⟨HOP_CFG, 0, 9⟩
abbrev HOP_CFG_PERSIST : Field := ⟨HOP_CFG, 12, 4⟩
abbrev HOP_CFG_MARGIN : Field := ⟨HOP_CFG, 16, 8⟩
abbrev HOP_CFG_DWELL : Field := ⟨HOP_CFG, 24, 8⟩
/-- Address of HOP_LISTEN (R127). -/
abbrev HOP_LISTEN : Nat := 0x0808
abbrev HOP_LISTEN_LEN : Field := ⟨HOP_LISTEN, 0, 9⟩
/-- Address of HOP_FORCE (R127). -/
abbrev HOP_FORCE : Nat := 0x080C
abbrev HOP_FORCE_IDX : Field := ⟨HOP_FORCE, 0, 3⟩
abbrev HOP_FORCE_GO : Field := ⟨HOP_FORCE, 8, 1⟩
/-- Address of HOP_STATUS (R127). -/
abbrev HOP_STATUS : Nat := 0x0810
abbrev HOP_STATUS_CUR : Field := ⟨HOP_STATUS, 0, 3⟩
abbrev HOP_STATUS_PENDING : Field := ⟨HOP_STATUS, 3, 1⟩
abbrev HOP_STATUS_PCNT : Field := ⟨HOP_STATUS, 4, 4⟩
abbrev HOP_STATUS_DWELLCNT : Field := ⟨HOP_STATUS, 8, 8⟩
abbrev HOP_STATUS_CLIP : Field := ⟨HOP_STATUS, 16, 5⟩
abbrev HOP_STATUS_FREJ : Field := ⟨HOP_STATUS, 24, 1⟩
abbrev HOP_STATUS_TREJ : Field := ⟨HOP_STATUS, 25, 1⟩
abbrev HOP_STATUS_EMSUPP : Field := ⟨HOP_STATUS, 26, 1⟩
/-- Address of HOP_COUNT (R127). -/
abbrev HOP_COUNT : Nat := 0x0814
abbrev HOP_COUNT_COUNT : Field := ⟨HOP_COUNT, 0, 16⟩
/-- Address of HOP_FMIN (R127). -/
abbrev HOP_FMIN : Nat := 0x0818
abbrev HOP_FMIN_FMIN : Field := ⟨HOP_FMIN, 0, 16⟩
/-- Address of HOP_TABLEh (R127). -/
abbrev HOP_TABLE (i : Nat) : Nat := 0x0820 + 4 * i
abbrev HOP_TABLE_FREQ (i : Nat) : Field := ⟨HOP_TABLE i, 0, 16⟩
abbrev HOP_TABLE_EN (i : Nat) : Field := ⟨HOP_TABLE i, 16, 1⟩
/-- Address of HOP_NOISEh (R127). -/
abbrev HOP_NOISE (i : Nat) : Nat := 0x0840 + 4 * i
abbrev HOP_NOISE_NMAX (i : Nat) : Field := ⟨HOP_NOISE i, 0, 9⟩
abbrev HOP_NOISE_WORST (i : Nat) : Field := ⟨HOP_NOISE i, 12, 4⟩
abbrev HOP_NOISE_NMEAN (i : Nat) : Field := ⟨HOP_NOISE i, 16, 9⟩
/-- Address of HOP_HISTAn (R127). -/
abbrev HOP_HISTA (i : Nat) : Nat := 0x0880 + 8 * i
abbrev HOP_HISTA_FROM (i : Nat) : Field := ⟨HOP_HISTA i, 0, 3⟩
abbrev HOP_HISTA_TO (i : Nat) : Field := ⟨HOP_HISTA i, 4, 3⟩
abbrev HOP_HISTA_CAUSE (i : Nat) : Field := ⟨HOP_HISTA i, 8, 2⟩
abbrev HOP_HISTA_NLEV (i : Nat) : Field := ⟨HOP_HISTA i, 16, 9⟩
/-- Address of HOP_HISTBn (R127). -/
abbrev HOP_HISTB (i : Nat) : Nat := 0x0884 + 8 * i
abbrev HOP_HISTB_TICK (i : Nat) : Field := ⟨HOP_HISTB i, 0, 32⟩
/-- Address of IMG_CTRL (R160). -/
abbrev IMG_CTRL : Nat := 0x0A00
abbrev IMG_CTRL_TRACK : Field := ⟨IMG_CTRL, 0, 1⟩
abbrev IMG_CTRL_WATER : Field := ⟨IMG_CTRL, 1, 1⟩
abbrev IMG_CTRL_NEGREC : Field := ⟨IMG_CTRL, 2, 1⟩
abbrev IMG_CTRL_KEEP : Field := ⟨IMG_CTRL, 3, 1⟩
/-- Address of IMG_STATUS (R160). -/
abbrev IMG_STATUS : Nat := 0x0A04
abbrev IMG_STATUS_SWSTATE : Field := ⟨IMG_STATUS, 0, 2⟩
abbrev IMG_STATUS_SOURCE : Field := ⟨IMG_STATUS, 2, 2⟩
abbrev IMG_STATUS_RESTREJ : Field := ⟨IMG_STATUS, 4, 1⟩
abbrev IMG_STATUS_RSFAIL : Field := ⟨IMG_STATUS, 5, 1⟩
/-- Address of IMG_NODES (R160). -/
abbrev IMG_NODES : Nat := 0x0A08
abbrev IMG_NODES_NFROZEN : Field := ⟨IMG_NODES, 0, 16⟩
abbrev IMG_NODES_NEXCL : Field := ⟨IMG_NODES, 16, 16⟩
/-- Address of IMG_THR (R160). -/
abbrev IMG_THR : Nat := 0x0A0C
abbrev IMG_THR_THRM : Field := ⟨IMG_THR, 0, 16⟩
abbrev IMG_THR_THRS : Field := ⟨IMG_THR, 16, 16⟩
/-- Address of IMG_NEG (R160). -/
abbrev IMG_NEG : Nat := 0x0A10
abbrev IMG_NEG_NEGM : Field := ⟨IMG_NEG, 0, 16⟩
abbrev IMG_NEG_NEGS : Field := ⟨IMG_NEG, 16, 16⟩
/-- Address of IMG_DRIFT (R160). -/
abbrev IMG_DRIFT : Nat := 0x0A14
abbrev IMG_DRIFT_DSHIFT : Field := ⟨IMG_DRIFT, 0, 4⟩
abbrev IMG_DRIFT_DSTEP : Field := ⟨IMG_DRIFT, 8, 8⟩
/-- Address of IMG_REST (R160). -/
abbrev IMG_REST : Nat := 0x0A18
abbrev IMG_REST_LIMIT : Field := ⟨IMG_REST, 0, 17⟩
/-- Address of IMG_ABSORB (R160). -/
abbrev IMG_ABSORB : Nat := 0x0A1C
abbrev IMG_ABSORB_TIME : Field := ⟨IMG_ABSORB, 0, 16⟩
/-- Address of IMG_WATER (R160). -/
abbrev IMG_WATER : Nat := 0x0A20
abbrev IMG_WATER_WPCT : Field := ⟨IMG_WATER, 0, 8⟩
/-- Address of IMG_CMD (R160). -/
abbrev IMG_CMD : Nat := 0x0A24
abbrev IMG_CMD_REFORM : Field := ⟨IMG_CMD, 0, 1⟩
abbrev IMG_CMD_CLRCNT : Field := ⟨IMG_CMD, 1, 1⟩
/-- Address of IMG_COUNTS (R160). -/
abbrev IMG_COUNTS : Nat := 0x0A28
abbrev IMG_COUNTS_NEGREC : Field := ⟨IMG_COUNTS, 0, 16⟩
abbrev IMG_COUNTS_RESEAT : Field := ⟨IMG_COUNTS, 16, 16⟩
/-- Address of IMG_COUNTS2 (R160). -/
abbrev IMG_COUNTS2 : Nat := 0x0A2C
abbrev IMG_COUNTS2_ABSORB : Field := ⟨IMG_COUNTS2, 0, 16⟩
abbrev IMG_COUNTS2_STUCK : Field := ⟨IMG_COUNTS2, 16, 16⟩
/-- Address of IMG_SWTIME (R160). -/
abbrev IMG_SWTIME : Nat := 0x0A30
abbrev IMG_SWTIME_TSTAMP : Field := ⟨IMG_SWTIME, 0, 32⟩
/-- Address of CT_CTRL (R194). -/
abbrev CT_CTRL : Nat := 0x1000
abbrev CT_CTRL_GORSE : Field := ⟨CT_CTRL, 0, 2⟩
abbrev CT_CTRL_LARK : Field := ⟨CT_CTRL, 2, 1⟩
abbrev CT_CTRL_RPTSUP : Field := ⟨CT_CTRL, 3, 1⟩
abbrev CT_CTRL_RPTKEY : Field := ⟨CT_CTRL, 4, 1⟩
abbrev CT_CTRL_GEST : Field := ⟨CT_CTRL, 5, 1⟩
/-- Address of CT_SEG (R194). -/
abbrev CT_SEG : Nat := 0x1004
abbrev CT_SEG_JOINPCT : Field := ⟨CT_SEG, 0, 8⟩
abbrev CT_SEG_SPLITPCT : Field := ⟨CT_SEG, 8, 8⟩
abbrev CT_SEG_GPCT : Field := ⟨CT_SEG, 16, 8⟩
/-- Address of CT_INTERP (R194). -/
abbrev CT_INTERP : Nat := 0x1008
abbrev CT_INTERP_WIDTH : Field := ⟨CT_INTERP, 0, 10⟩
abbrev CT_INTERP_FILTA : Field := ⟨CT_INTERP, 16, 4⟩
abbrev CT_INTERP_FILTD : Field := ⟨CT_INTERP, 24, 8⟩
/-- Address of CT_TRACK (R194). -/
abbrev CT_TRACK : Nat := 0x100C
abbrev CT_TRACK_GATE : Field := ⟨CT_TRACK, 0, 8⟩
abbrev CT_TRACK_MOVETHR : Field := ⟨CT_TRACK, 8, 8⟩
/-- Address of CT_PALM (R194). -/
abbrev CT_PALM : Nat := 0x1010
abbrev CT_PALM_PAREA : Field := ⟨CT_PALM, 0, 16⟩
abbrev CT_PALM_PMAJ : Field := ⟨CT_PALM, 16, 8⟩
abbrev CT_PALM_PMIN : Field := ⟨CT_PALM, 24, 8⟩
/-- Address of CT_LARGE (R194). -/
abbrev CT_LARGE : Nat := 0x1014
abbrev CT_LARGE_LAREA : Field := ⟨CT_LARGE, 0, 16⟩
abbrev CT_LARGE_PRAD : Field := ⟨CT_LARGE, 16, 8⟩
/-- Address of CT_GORSE (R194). -/
abbrev CT_GORSE : Nat := 0x1018
abbrev CT_GORSE_GAREA : Field := ⟨CT_GORSE, 0, 8⟩
abbrev CT_GORSE_GENTER : Field := ⟨CT_GORSE, 8, 4⟩
abbrev CT_GORSE_GEXIT : Field := ⟨CT_GORSE, 16, 16⟩
/-- Address of CT_LARK (R194). -/
abbrev CT_LARK : Nat := 0x101C
abbrev CT_LARK_HPCT : Field := ⟨CT_LARK, 0, 8⟩
abbrev CT_LARK_H0 : Field := ⟨CT_LARK, 8, 8⟩
abbrev CT_LARK_SREF : Field := ⟨CT_LARK, 16, 16⟩
/-- Address of CT_KEYCFG (R194). -/
abbrev CT_KEYCFG : Nat := 0x1020
abbrev CT_KEYCFG_HYS : Field := ⟨CT_KEYCFG, 0, 8⟩
/-- Address of CT_STATUS (R194). -/
abbrev CT_STATUS : Nat := 0x1024
abbrev CT_STATUS_GORSEON : Field := ⟨CT_STATUS, 0, 1⟩
abbrev CT_STATUS_LARKON : Field := ⟨CT_STATUS, 1, 1⟩
abbrev CT_STATUS_NTRACK : Field := ⟨CT_STATUS, 8, 5⟩
abbrev CT_STATUS_NREP : Field := ⟨CT_STATUS, 16, 5⟩
abbrev CT_STATUS_RREJ : Field := ⟨CT_STATUS, 24, 1⟩
abbrev CT_STATUS_MREJ : Field := ⟨CT_STATUS, 25, 1⟩
/-- Address of CT_NEXTID (R194). -/
abbrev CT_NEXTID : Nat := 0x1028
abbrev CT_NEXTID_NEXTID : Field := ⟨CT_NEXTID, 0, 16⟩
/-- Address of CT_VKEYS (R194). -/
abbrev CT_VKEYS : Nat := 0x102C
abbrev CT_VKEYS_BITS : Field := ⟨CT_VKEYS, 0, 32⟩
/-- Address of CT_RGOCC (R194). -/
abbrev CT_RGOCC : Nat := 0x1030
abbrev CT_RGOCC_BITS : Field := ⟨CT_RGOCC, 0, 32⟩
/-- Address of CT_GTIME (R194). -/
abbrev CT_GTIME : Nat := 0x1034
abbrev CT_GTIME_TAPT : Field := ⟨CT_GTIME, 0, 8⟩
abbrev CT_GTIME_DTT : Field := ⟨CT_GTIME, 8, 8⟩
abbrev CT_GTIME_HOLDT : Field := ⟨CT_GTIME, 16, 8⟩
abbrev CT_GTIME_SWT : Field := ⟨CT_GTIME, 24, 8⟩
/-- Address of CT_GDIST (R194). -/
abbrev CT_GDIST : Nat := 0x1038
abbrev CT_GDIST_TAPD : Field := ⟨CT_GDIST, 0, 8⟩
abbrev CT_GDIST_DTD : Field := ⟨CT_GDIST, 8, 8⟩
abbrev CT_GDIST_HOLDD : Field := ⟨CT_GDIST, 16, 8⟩
abbrev CT_GDIST_SWD : Field := ⟨CT_GDIST, 24, 8⟩
/-- Address of CT_G2 (R194). -/
abbrev CT_G2 : Nat := 0x103C
abbrev CT_G2_SCALE : Field := ⟨CT_G2, 0, 8⟩
abbrev CT_G2_ROT : Field := ⟨CT_G2, 8, 8⟩
abbrev CT_G2_PAN : Field := ⟨CT_G2, 16, 8⟩
/-- Address of CT_WAKE (R194). -/
abbrev CT_WAKE : Nat := 0x1040
abbrev CT_WAKE_DTAP : Field := ⟨CT_WAKE, 0, 1⟩
abbrev CT_WAKE_SWUP : Field := ⟨CT_WAKE, 1, 1⟩
abbrev CT_WAKE_APPR : Field := ⟨CT_WAKE, 2, 1⟩
/-- Address of CT_COUNTS (R194). -/
abbrev CT_COUNTS : Nat := 0x1044
abbrev CT_COUNTS_OVER : Field := ⟨CT_COUNTS, 0, 16⟩
abbrev CT_COUNTS_MERGE : Field := ⟨CT_COUNTS, 16, 16⟩
/-- Address of CT_CMD (R194). -/
abbrev CT_CMD : Nat := 0x1048
abbrev CT_CMD_CLRCNT : Field := ⟨CT_CMD, 0, 1⟩
/-- Address of CT_RGXk (R194). -/
abbrev CT_RGX (i : Nat) : Nat := 0x1100 + 4 * i
abbrev CT_RGX_LO (i : Nat) : Field := ⟨CT_RGX i, 0, 16⟩
abbrev CT_RGX_HI (i : Nat) : Field := ⟨CT_RGX i, 16, 16⟩
/-- Address of CT_RGYk (R194). -/
abbrev CT_RGY (i : Nat) : Nat := 0x1180 + 4 * i
abbrev CT_RGY_LO (i : Nat) : Field := ⟨CT_RGY i, 0, 16⟩
abbrev CT_RGY_HI (i : Nat) : Field := ⟨CT_RGY i, 16, 16⟩
/-- Address of CT_RGCk (R194). -/
abbrev CT_RGC (i : Nat) : Nat := 0x1200 + 4 * i
abbrev CT_RGC_EN (i : Nat) : Field := ⟨CT_RGC i, 0, 1⟩
abbrev CT_RGC_TYPE (i : Nat) : Field := ⟨CT_RGC i, 1, 2⟩
abbrev CT_RGC_VK (i : Nat) : Field := ⟨CT_RGC i, 8, 5⟩
abbrev CT_RGC_GMASK (i : Nat) : Field := ⟨CT_RGC i, 16, 7⟩
/-- Address of OPT_CTRL (R215). -/
abbrev OPT_CTRL : Nat := 0x1400
abbrev OPT_CTRL_EN : Field := ⟨OPT_CTRL, 0, 1⟩
abbrev OPT_CTRL_GAIN : Field := ⟨OPT_CTRL, 2, 2⟩
abbrev OPT_CTRL_AUTOAMB : Field := ⟨OPT_CTRL, 4, 1⟩
abbrev OPT_CTRL_RPTDIV : Field := ⟨OPT_CTRL, 8, 8⟩
/-- Address of OPT_LED (R215). -/
abbrev OPT_LED : Nat := 0x1404
abbrev OPT_LED_IDRV : Field := ⟨OPT_LED, 0, 5⟩
/-- Address of OPT_LIM (R215). -/
abbrev OPT_LIM : Nat := 0x1408
abbrev OPT_LIM_ASTEP : Field := ⟨OPT_LIM, 0, 14⟩
/-- Address of OPT_DIST (R215). -/
abbrev OPT_DIST : Nat := 0x140C
abbrev OPT_DIST_RREF : Field := ⟨OPT_DIST, 0, 16⟩
abbrev OPT_DIST_DREF : Field := ⟨OPT_DIST, 16, 9⟩
/-- Address of OPT_XT (R215). -/
abbrev OPT_XT : Nat := 0x1410
abbrev OPT_XT_XTALK : Field := ⟨OPT_XT, 0, 16⟩
/-- Address of OPT_DET (R215). -/
abbrev OPT_DET : Nat := 0x1414
abbrev OPT_DET_NEAR : Field := ⟨OPT_DET, 0, 9⟩
abbrev OPT_DET_FAR : Field := ⟨OPT_DET, 16, 9⟩
abbrev OPT_DET_NPERS : Field := ⟨OPT_DET, 28, 4⟩
/-- Address of OPT_CMD (R215). -/
abbrev OPT_CMD : Nat := 0x1418
abbrev OPT_CMD_XTCAP : Field := ⟨OPT_CMD, 0, 1⟩
abbrev OPT_CMD_CLRCNT : Field := ⟨OPT_CMD, 1, 1⟩
/-- Address of OPT_STATUS (R215). -/
abbrev OPT_STATUS : Nat := 0x141C
abbrev OPT_STATUS_DET : Field := ⟨OPT_STATUS, 0, 1⟩
abbrev OPT_STATUS_BLIND : Field := ⟨OPT_STATUS, 1, 1⟩
abbrev OPT_STATUS_ASAT : Field := ⟨OPT_STATUS, 2, 1⟩
abbrev OPT_STATUS_LEDOC : Field := ⟨OPT_STATUS, 3, 1⟩
abbrev OPT_STATUS_XTBUSY : Field := ⟨OPT_STATUS, 4, 1⟩
abbrev OPT_STATUS_XTFAIL : Field := ⟨OPT_STATUS, 5, 1⟩
abbrev OPT_STATUS_DISCRUN : Field := ⟨OPT_STATUS, 8, 5⟩
/-- Address of OPT_SAMPLE (R215). -/
abbrev OPT_SAMPLE : Nat := 0x1420
abbrev OPT_SAMPLE_SIG : Field := ⟨OPT_SAMPLE, 0, 16⟩
abbrev OPT_SAMPLE_DIST : Field := ⟨OPT_SAMPLE, 16, 9⟩
abbrev OPT_SAMPLE_NWORD : Field := ⟨OPT_SAMPLE, 25, 3⟩
/-- Address of OPT_AMB (R215). -/
abbrev OPT_AMB : Nat := 0x1424
abbrev OPT_AMB_LUX : Field := ⟨OPT_AMB, 0, 20⟩
abbrev OPT_AMB_IAMB : Field := ⟨OPT_AMB, 20, 8⟩
/-- Address of OPT_LUXK (R215). -/
abbrev OPT_LUXK : Nat := 0x1428
abbrev OPT_LUXK_LUXK : Field := ⟨OPT_LUXK, 0, 16⟩
/-- Address of OPT_COUNTS (R215). -/
abbrev OPT_COUNTS : Nat := 0x142C
abbrev OPT_COUNTS_DISC : Field := ⟨OPT_COUNTS, 0, 16⟩
abbrev OPT_COUNTS_BLINDN : Field := ⟨OPT_COUNTS, 16, 16⟩
/-- Address of AUX_SYNC (R244). -/
abbrev AUX_SYNC : Nat := 0x1800
abbrev AUX_SYNC_SRC : Field := ⟨AUX_SYNC, 0, 2⟩
abbrev AUX_SYNC_GPIN : Field := ⟨AUX_SYNC, 2, 3⟩
abbrev AUX_SYNC_GEDGE : Field := ⟨AUX_SYNC, 5, 2⟩
abbrev AUX_SYNC_DLY : Field := ⟨AUX_SYNC, 16, 10⟩
/-- Address of AUX_CMD (R244). -/
abbrev AUX_CMD : Nat := 0x1804
abbrev AUX_CMD_SYNC : Field := ⟨AUX_CMD, 0, 1⟩
abbrev AUX_CMD_RST0 : Field := ⟨AUX_CMD, 1, 1⟩
abbrev AUX_CMD_RST1 : Field := ⟨AUX_CMD, 2, 1⟩
abbrev AUX_CMD_CLRCNT : Field := ⟨AUX_CMD, 3, 1⟩
/-- Address of AUX_STATUS (R244). -/
abbrev AUX_STATUS : Nat := 0x1808
abbrev AUX_STATUS_WREJ : Field := ⟨AUX_STATUS, 0, 1⟩
/-- Address of AUX_COUNTS (R244). -/
abbrev AUX_COUNTS : Nat := 0x180C
abbrev AUX_COUNTS_REST0 : Field := ⟨AUX_COUNTS, 0, 16⟩
abbrev AUX_COUNTS_REST1 : Field := ⟨AUX_COUNTS, 16, 16⟩
/-- Address of AXn_CFG (R244). -/
abbrev AX_CFG (i : Nat) : Nat := 0x1810 + 32 * i
abbrev AX_CFG_EN (i : Nat) : Field := ⟨AX_CFG i, 0, 1⟩
abbrev AX_CFG_MODE (i : Nat) : Field := ⟨AX_CFG i, 1, 1⟩
abbrev AX_CFG_EARLY (i : Nat) : Field := ⟨AX_CFG i, 2, 1⟩
abbrev AX_CFG_SYNCEN (i : Nat) : Field := ⟨AX_CFG i, 3, 1⟩
abbrev AX_CFG_RPT (i : Nat) : Field := ⟨AX_CFG i, 4, 1⟩
abbrev AX_CFG_REF (i : Nat) : Field := ⟨AX_CFG i, 5, 1⟩
abbrev AX_CFG_CHAN (i : Nat) : Field := ⟨AX_CFG i, 8, 4⟩
/-- Address of AXn_FILT (R244). -/
abbrev AX_FILT (i : Nat) : Nat := 0x1814 + 32 * i
abbrev AX_FILT_PRESET (i : Nat) : Field := ⟨AX_FILT i, 0, 2⟩
abbrev AX_FILT_ORDER (i : Nat) : Field := ⟨AX_FILT i, 2, 2⟩
abbrev AX_FILT_AVG (i : Nat) : Field := ⟨AX_FILT i, 8, 6⟩
abbrev AX_FILT_OSR (i : Nat) : Field := ⟨AX_FILT i, 16, 15⟩
/-- Address of AXn_DATA (R244). -/
abbrev AX_DATA (i : Nat) : Nat := 0x1818 + 32 * i
abbrev AX_DATA_DATA (i : Nat) : Field := ⟨AX_DATA i, 0, 24⟩
abbrev AX_DATA_DATA_VALID (i : Nat) : Field := ⟨AX_DATA i, 24, 1⟩
abbrev AX_DATA_SETTLING (i : Nat) : Field := ⟨AX_DATA i, 25, 1⟩
abbrev AX_DATA_OVR (i : Nat) : Field := ⟨AX_DATA i, 26, 1⟩
abbrev AX_DATA_STALE (i : Nat) : Field := ⟨AX_DATA i, 27, 1⟩
abbrev AX_DATA_CHERR (i : Nat) : Field := ⟨AX_DATA i, 28, 1⟩
/-- Address of AXn_TS (R244). -/
abbrev AX_TS (i : Nat) : Nat := 0x181C + 32 * i
abbrev AX_TS_TSTAMP (i : Nat) : Field := ⟨AX_TS i, 0, 32⟩
/-- Address of AXn_STAT (R244). -/
abbrev AX_STAT (i : Nat) : Nat := 0x1820 + 32 * i
abbrev AX_STAT_SEQ (i : Nat) : Field := ⟨AX_STAT i, 0, 16⟩
abbrev AX_STAT_RUN (i : Nat) : Field := ⟨AX_STAT i, 16, 1⟩
/-- Address of AUX_WCEV (R244). -/
abbrev AUX_WCEV : Nat := 0x1878
abbrev AUX_WCEV_EV : Field := ⟨AUX_WCEV, 0, 8⟩
/-- Address of WCk_CFG (R244). -/
abbrev WC_CFG (i : Nat) : Nat := 0x1880 + 16 * i
abbrev WC_CFG_EN (i : Nat) : Field := ⟨WC_CFG i, 0, 1⟩
abbrev WC_CFG_AX (i : Nat) : Field := ⟨WC_CFG i, 1, 1⟩
abbrev WC_CFG_EVIN (i : Nat) : Field := ⟨WC_CFG i, 2, 1⟩
abbrev WC_CFG_RPT (i : Nat) : Field := ⟨WC_CFG i, 3, 1⟩
abbrev WC_CFG_IE (i : Nat) : Field := ⟨WC_CFG i, 4, 1⟩
abbrev WC_CFG_PERS (i : Nat) : Field := ⟨WC_CFG i, 8, 4⟩
abbrev WC_CFG_CHAN (i : Nat) : Field := ⟨WC_CFG i, 12, 4⟩
abbrev WC_CFG_STATE (i : Nat) : Field := ⟨WC_CFG i, 16, 2⟩
/-- Address of WCk_LO (R244). -/
abbrev WC_LO (i : Nat) : Nat := 0x1884 + 16 * i
abbrev WC_LO_BOUND (i : Nat) : Field := ⟨WC_LO i, 0, 24⟩
/-- Address of WCk_HI (R244). -/
abbrev WC_HI (i : Nat) : Nat := 0x1888 + 16 * i
abbrev WC_HI_BOUND (i : Nat) : Field := ⟨WC_HI i, 0, 24⟩
/-- Address of WCk_HYS (R244). -/
abbrev WC_HYS (i : Nat) : Nat := 0x188C + 16 * i
abbrev WC_HYS_HYS (i : Nat) : Field := ⟨WC_HYS i, 0, 23⟩
/-- Address of CAL_CMD (R276). -/
abbrev CAL_CMD : Nat := 0x1C00
abbrev CAL_CMD_KIND : Field := ⟨CAL_CMD, 0, 2⟩
abbrev CAL_CMD_GO : Field := ⟨CAL_CMD, 4, 1⟩
abbrev CAL_CMD_ABORT : Field := ⟨CAL_CMD, 5, 1⟩
abbrev CAL_CMD_DEFAULTS : Field := ⟨CAL_CMD, 6, 1⟩
abbrev CAL_CMD_CLRCNT : Field := ⟨CAL_CMD, 7, 1⟩
/-- Address of CAL_CFG (R276). -/
abbrev CAL_CFG : Nat := 0x1C04
abbrev CAL_CFG_NFRAMES : Field := ⟨CAL_CFG, 0, 6⟩
abbrev CAL_CFG_REPEAT : Field := ⟨CAL_CFG, 6, 1⟩
abbrev CAL_CFG_TIMING : Field := ⟨CAL_CFG, 8, 4⟩
abbrev CAL_CFG_AXSEL : Field := ⟨CAL_CFG, 12, 2⟩
abbrev CAL_CFG_KSIGM : Field := ⟨CAL_CFG, 16, 8⟩
abbrev CAL_CFG_KSIGS : Field := ⟨CAL_CFG, 24, 8⟩
/-- Address of CAL_LIM (R276). -/
abbrev CAL_LIM : Nat := 0x1C08
abbrev CAL_LIM_GLIM : Field := ⟨CAL_LIM, 0, 8⟩
abbrev CAL_LIM_SIGMAX : Field := ⟨CAL_LIM, 8, 8⟩
abbrev CAL_LIM_THRMIN : Field := ⟨CAL_LIM, 16, 8⟩
abbrev CAL_LIM_THRSMIN : Field := ⟨CAL_LIM, 24, 8⟩
/-- Address of CAL_TOL (R276). -/
abbrev CAL_TOL : Nat := 0x1C0C
abbrev CAL_TOL_GTOL : Field := ⟨CAL_TOL, 0, 8⟩
abbrev CAL_TOL_OTOL : Field := ⟨CAL_TOL, 8, 8⟩
abbrev CAL_TOL_BTOL : Field := ⟨CAL_TOL, 16, 8⟩
abbrev CAL_TOL_ATOL : Field := ⟨CAL_TOL, 24, 8⟩
/-- Address of CAL_STATUS (R276). -/
abbrev CAL_STATUS : Nat := 0x1C10
abbrev CAL_STATUS_BUSYT : Field := ⟨CAL_STATUS, 0, 1⟩
abbrev CAL_STATUS_BUSYA : Field := ⟨CAL_STATUS, 1, 1⟩
abbrev CAL_STATUS_KINDT : Field := ⟨CAL_STATUS, 2, 2⟩
abbrev CAL_STATUS_PASS2 : Field := ⟨CAL_STATUS, 4, 1⟩
abbrev CAL_STATUS_NRUN : Field := ⟨CAL_STATUS, 8, 7⟩
abbrev CAL_STATUS_VALID : Field := ⟨CAL_STATUS, 16, 4⟩
abbrev CAL_STATUS_LOADED : Field := ⟨CAL_STATUS, 20, 4⟩
abbrev CAL_STATUS_PEND : Field := ⟨CAL_STATUS, 24, 4⟩
/-- Address of CAL_REASON (R276). -/
abbrev CAL_REASON : Nat := 0x1C14
abbrev CAL_REASON_CODE : Field := ⟨CAL_REASON, 0, 8⟩
abbrev CAL_REASON_KIND : Field := ⟨CAL_REASON, 8, 2⟩
abbrev CAL_REASON_DETAIL : Field := ⟨CAL_REASON, 16, 16⟩
/-- Address of CAL_SIG (R276). -/
abbrev CAL_SIG : Nat := 0x1C18
abbrev CAL_SIG_SIG : Field := ⟨CAL_SIG, 0, 32⟩
/-- Address of CAL_LSIG (R276). -/
abbrev CAL_LSIG : Nat := 0x1C1C
abbrev CAL_LSIG_SIG : Field := ⟨CAL_LSIG, 0, 32⟩
/-- Address of CAL_COUNT0 (R276). -/
abbrev CAL_COUNT0 : Nat := 0x1C20
abbrev CAL_COUNT0_LO : Field := ⟨CAL_COUNT0, 0, 16⟩
abbrev CAL_COUNT0_HI : Field := ⟨CAL_COUNT0, 16, 16⟩
/-- Address of CAL_COUNT1 (R276). -/
abbrev CAL_COUNT1 : Nat := 0x1C24
abbrev CAL_COUNT1_LO : Field := ⟨CAL_COUNT1, 0, 16⟩
abbrev CAL_COUNT1_HI : Field := ⟨CAL_COUNT1, 16, 16⟩
/-- Address of CAL_LASTUPk (R276). -/
abbrev CAL_LASTUP (i : Nat) : Nat := 0x1C30 + 8 * i
abbrev CAL_LASTUP_TIME (i : Nat) : Field := ⟨CAL_LASTUP i, 0, 32⟩
/-- Address of CAL_LASTTSk (R276). -/
abbrev CAL_LASTTS (i : Nat) : Nat := 0x1C34 + 8 * i
abbrev CAL_LASTTS_TIME (i : Nat) : Field := ⟨CAL_LASTTS i, 0, 32⟩
/-- Address of CAL_SIGMA (R276). -/
abbrev CAL_SIGMA : Nat := 0x1C50
abbrev CAL_SIGMA_SIGM : Field := ⟨CAL_SIGMA, 0, 16⟩
abbrev CAL_SIGMA_SIGS : Field := ⟨CAL_SIGMA, 16, 16⟩
/-- Address of CAL_AXnOFS (R276). -/
abbrev CAL_AXOFS (i : Nat) : Nat := 0x1C58 + 8 * i
abbrev CAL_AXOFS_VAL (i : Nat) : Field := ⟨CAL_AXOFS i, 0, 24⟩
/-- Address of CAL_AXnGAIN (R276). -/
abbrev CAL_AXGAIN (i : Nat) : Nat := 0x1C5C + 8 * i
abbrev CAL_AXGAIN_VAL (i : Nat) : Field := ⟨CAL_AXGAIN i, 0, 24⟩
/-- Address of CAL_GAINk (R276). -/
abbrev CAL_GAIN (i : Nat) : Nat := 0x1C80 + 4 * i
abbrev CAL_GAIN_GAIN (i : Nat) : Field := ⟨CAL_GAIN i, 0, 16⟩
abbrev CAL_GAIN_LOFS (i : Nat) : Field := ⟨CAL_GAIN i, 16, 16⟩
/-- Address of SEQ_CTRL (R311). -/
abbrev SEQ_CTRL : Nat := 0x2000
abbrev SEQ_CTRL_DBGEN : Field := ⟨SEQ_CTRL, 0, 1⟩
abbrev SEQ_CTRL_RESUME : Field := ⟨SEQ_CTRL, 1, 1⟩
abbrev SEQ_CTRL_HALTREQ : Field := ⟨SEQ_CTRL, 2, 1⟩
abbrev SEQ_CTRL_CLRCNT : Field := ⟨SEQ_CTRL, 3, 1⟩
/-- Address of SEQ_STATUS (R311). -/
abbrev SEQ_STATUS : Nat := 0x2004
abbrev SEQ_STATUS_STATE : Field := ⟨SEQ_STATUS, 0, 3⟩
abbrev SEQ_STATUS_ACTIVE : Field := ⟨SEQ_STATUS, 3, 1⟩
abbrev SEQ_STATUS_ENTRY : Field := ⟨SEQ_STATUS, 4, 3⟩
abbrev SEQ_STATUS_AVERIFIED : Field := ⟨SEQ_STATUS, 7, 1⟩
abbrev SEQ_STATUS_SLOADED : Field := ⟨SEQ_STATUS, 8, 1⟩
abbrev SEQ_STATUS_SVERIFIED : Field := ⟨SEQ_STATUS, 9, 1⟩
abbrev SEQ_STATUS_SWAPPED : Field := ⟨SEQ_STATUS, 10, 1⟩
/-- Address of SEQ_BUDGET (R311). -/
abbrev SEQ_BUDGET : Nat := 0x2008
abbrev SEQ_BUDGET_CYC : Field := ⟨SEQ_BUDGET, 0, 23⟩
/-- Address of SEQ_FLIM (R311). -/
abbrev SEQ_FLIM : Nat := 0x200C
abbrev SEQ_FLIM_CYC : Field := ⟨SEQ_FLIM, 0, 16⟩
/-- Address of SEQ_CYCLES (R311). -/
abbrev SEQ_CYCLES : Nat := 0x2010
abbrev SEQ_CYCLES_CYC : Field := ⟨SEQ_CYCLES, 0, 23⟩
/-- Address of SEQ_CYCMAX (R311). -/
abbrev SEQ_CYCMAX : Nat := 0x2014
abbrev SEQ_CYCMAX_CYC : Field := ⟨SEQ_CYCMAX, 0, 23⟩
/-- Address of SEQ_EVPEND (R311). -/
abbrev SEQ_EVPEND : Nat := 0x2018
abbrev SEQ_EVPEND_EV : Field := ⟨SEQ_EVPEND, 0, 11⟩
/-- Address of SEQ_EVEN (R311). -/
abbrev SEQ_EVEN : Nat := 0x201C
abbrev SEQ_EVEN_EV : Field := ⟨SEQ_EVEN, 0, 11⟩
/-- Address of SEQ_DOORBELL (R311). -/
abbrev SEQ_DOORBELL : Nat := 0x2020
abbrev SEQ_DOORBELL_VALUE : Field := ⟨SEQ_DOORBELL, 0, 32⟩
/-- Address of SEQ_FAULT (R311). -/
abbrev SEQ_FAULT : Nat := 0x2024
abbrev SEQ_FAULT_CAUSE : Field := ⟨SEQ_FAULT, 0, 8⟩
abbrev SEQ_FAULT_ENTRY : Field := ⟨SEQ_FAULT, 8, 3⟩
abbrev SEQ_FAULT_PC : Field := ⟨SEQ_FAULT, 16, 13⟩
/-- Address of SEQ_FADDR (R311). -/
abbrev SEQ_FADDR : Nat := 0x2028
abbrev SEQ_FADDR_ADDR : Field := ⟨SEQ_FADDR, 0, 32⟩
/-- Address of SEQ_HALT (R311). -/
abbrev SEQ_HALT : Nat := 0x202C
abbrev SEQ_HALT_CAUSE : Field := ⟨SEQ_HALT, 0, 8⟩
abbrev SEQ_HALT_PC : Field := ⟨SEQ_HALT, 16, 13⟩
/-- Address of SEQ_IMGVER (R311). -/
abbrev SEQ_IMGVER : Nat := 0x2030
abbrev SEQ_IMGVER_VERSION : Field := ⟨SEQ_IMGVER, 0, 32⟩
/-- Address of SEQ_VRES (R311). -/
abbrev SEQ_VRES : Nat := 0x2034
abbrev SEQ_VRES_CODE : Field := ⟨SEQ_VRES, 0, 8⟩
abbrev SEQ_VRES_DETAIL : Field := ⟨SEQ_VRES, 16, 16⟩
/-- Address of SEQ_COUNTS (R311). -/
abbrev SEQ_COUNTS : Nat := 0x2038
abbrev SEQ_COUNTS_NFAULT : Field := ⟨SEQ_COUNTS, 0, 16⟩
abbrev SEQ_COUNTS_WAITTO : Field := ⟨SEQ_COUNTS, 16, 16⟩
/-- Address of SEQ_BRKPC (R311). -/
abbrev SEQ_BRKPC : Nat := 0x203C
abbrev SEQ_BRKPC_PC : Field := ⟨SEQ_BRKPC, 0, 13⟩
/-- Address of SEQ_MBOX (R311). -/
abbrev SEQ_MBOX : Nat := 0x2040
abbrev SEQ_MBOX_OFFSET : Field := ⟨SEQ_MBOX, 0, 16⟩
abbrev SEQ_MBOX_LEN : Field := ⟨SEQ_MBOX, 16, 16⟩
/-- Address of TMk_CFG (R383). -/
abbrev TM_CFG (i : Nat) : Nat := 0x2400 + 16 * i
abbrev TM_CFG_MODE (i : Nat) : Field := ⟨TM_CFG i, 0, 3⟩
abbrev TM_CFG_BASE (i : Nat) : Field := ⟨TM_CFG i, 3, 2⟩
abbrev TM_CFG_IE (i : Nat) : Field := ⟨TM_CFG i, 5, 1⟩
abbrev TM_CFG_SRC (i : Nat) : Field := ⟨TM_CFG i, 6, 1⟩
abbrev TM_CFG_EDSEL (i : Nat) : Field := ⟨TM_CFG i, 8, 6⟩
/-- Address of TMk_PRESET (R383). -/
abbrev TM_PRESET (i : Nat) : Nat := 0x2404 + 16 * i
abbrev TM_PRESET_PRESET (i : Nat) : Field := ⟨TM_PRESET i, 0, 24⟩
/-- Address of TMk_COUNT (R383). -/
abbrev TM_COUNT (i : Nat) : Nat := 0x2408 + 16 * i
abbrev TM_COUNT_COUNT (i : Nat) : Field := ⟨TM_COUNT i, 0, 24⟩
/-- Address of TMk_STAT (R383). -/
abbrev TM_STAT (i : Nat) : Nat := 0x240C + 16 * i
abbrev TM_STAT_IN (i : Nat) : Field := ⟨TM_STAT i, 0, 1⟩
abbrev TM_STAT_RUN (i : Nat) : Field := ⟨TM_STAT i, 1, 1⟩
abbrev TM_STAT_Q (i : Nat) : Field := ⟨TM_STAT i, 2, 1⟩
abbrev TM_STAT_EXP (i : Nat) : Field := ⟨TM_STAT i, 3, 1⟩
abbrev TM_STAT_TRIG (i : Nat) : Field := ⟨TM_STAT i, 4, 1⟩
/-- Address of EDk_CFG (R383). -/
abbrev ED_CFG (i : Nat) : Nat := 0x2800 + 8 * i
abbrev ED_CFG_EN (i : Nat) : Field := ⟨ED_CFG i, 0, 1⟩
abbrev ED_CFG_STYPE (i : Nat) : Field := ⟨ED_CFG i, 1, 3⟩
abbrev ED_CFG_SNUM (i : Nat) : Field := ⟨ED_CFG i, 4, 5⟩
abbrev ED_CFG_EDGE (i : Nat) : Field := ⟨ED_CFG i, 9, 2⟩
abbrev ED_CFG_IE (i : Nat) : Field := ⟨ED_CFG i, 11, 1⟩
abbrev ED_CFG_DEB (i : Nat) : Field := ⟨ED_CFG i, 16, 8⟩
/-- Address of EDk_STAT (R383). -/
abbrev ED_STAT (i : Nat) : Nat := 0x2804 + 8 * i
abbrev ED_STAT_LEVEL (i : Nat) : Field := ⟨ED_STAT i, 0, 1⟩
abbrev ED_STAT_LAT (i : Nat) : Field := ⟨ED_STAT i, 1, 1⟩
abbrev ED_STAT_SRC (i : Nat) : Field := ⟨ED_STAT i, 2, 1⟩
abbrev ED_STAT_CNT (i : Nat) : Field := ⟨ED_STAT i, 8, 8⟩
/-- Address of ED_FLAGS (R383). -/
abbrev ED_FLAGS : Nat := 0x2A00
abbrev ED_FLAGS_FLAG : Field := ⟨ED_FLAGS, 0, 32⟩
/-- Address of ED_LAT0 (R383). -/
abbrev ED_LAT0 : Nat := 0x2A04
abbrev ED_LAT0_LAT : Field := ⟨ED_LAT0, 0, 32⟩
/-- Address of ED_LAT1 (R383). -/
abbrev ED_LAT1 : Nat := 0x2A08
abbrev ED_LAT1_LAT : Field := ⟨ED_LAT1, 0, 32⟩
/-- Address of ED_LEVEL0 (R383). -/
abbrev ED_LEVEL0 : Nat := 0x2A0C
abbrev ED_LEVEL0_LEVEL : Field := ⟨ED_LEVEL0, 0, 32⟩
/-- Address of ED_LEVEL1 (R383). -/
abbrev ED_LEVEL1 : Nat := 0x2A10
abbrev ED_LEVEL1_LEVEL : Field := ⟨ED_LEVEL1, 0, 32⟩
/-- Address of GPIO_CFGn (R383). -/
abbrev GPIO_CFG (i : Nat) : Nat := 0x2C00 + 4 * i
abbrev GPIO_CFG_DIR (i : Nat) : Field := ⟨GPIO_CFG i, 0, 2⟩
abbrev GPIO_CFG_PULL (i : Nat) : Field := ⟨GPIO_CFG i, 2, 2⟩
abbrev GPIO_CFG_PWM (i : Nat) : Field := ⟨GPIO_CFG i, 4, 1⟩
abbrev GPIO_CFG_DEB (i : Nat) : Field := ⟨GPIO_CFG i, 8, 8⟩
/-- Address of GPIO_OUT (R383). -/
abbrev GPIO_OUT : Nat := 0x2C20
abbrev GPIO_OUT_PINS : Field := ⟨GPIO_OUT, 0, 6⟩
/-- Address of GPIO_SET (R383). -/
abbrev GPIO_SET : Nat := 0x2C24
abbrev GPIO_SET_PINS : Field := ⟨GPIO_SET, 0, 6⟩
/-- Address of GPIO_CLR (R383). -/
abbrev GPIO_CLR : Nat := 0x2C28
abbrev GPIO_CLR_PINS : Field := ⟨GPIO_CLR, 0, 6⟩
/-- Address of GPIO_IN (R383). -/
abbrev GPIO_IN : Nat := 0x2C2C
abbrev GPIO_IN_DEBOUNCED : Field := ⟨GPIO_IN, 0, 6⟩
abbrev GPIO_IN_RAW : Field := ⟨GPIO_IN, 8, 6⟩
/-- Address of GPIO_PWM4 (R383). -/
abbrev GPIO_PWM4 : Nat := 0x2C30
abbrev GPIO_PWM4_PERIOD : Field := ⟨GPIO_PWM4, 0, 16⟩
abbrev GPIO_PWM4_DUTY : Field := ⟨GPIO_PWM4, 16, 16⟩
/-- Address of GPIO_PWM5 (R383). -/
abbrev GPIO_PWM5 : Nat := 0x2C34
abbrev GPIO_PWM5_PERIOD : Field := ⟨GPIO_PWM5, 0, 16⟩
abbrev GPIO_PWM5_DUTY : Field := ⟨GPIO_PWM5, 16, 16⟩
/-- Address of GPIO_STATUS (R383). -/
abbrev GPIO_STATUS : Nat := 0x2C38
abbrev GPIO_STATUS_SAFE : Field := ⟨GPIO_STATUS, 0, 1⟩
/-- Address of GPIO_SWAPST (R383). -/
abbrev GPIO_SWAPST : Nat := 0x2C40
abbrev GPIO_SWAPST_CODE : Field := ⟨GPIO_SWAPST, 0, 8⟩
abbrev GPIO_SWAPST_STATE : Field := ⟨GPIO_SWAPST, 8, 2⟩
abbrev GPIO_SWAPST_DETAIL : Field := ⟨GPIO_SWAPST, 10, 6⟩
abbrev GPIO_SWAPST_TICK : Field := ⟨GPIO_SWAPST, 16, 16⟩
/-- Address of GPIO_TMEXP0 (R383). -/
abbrev GPIO_TMEXP0 : Nat := 0x2C48
abbrev GPIO_TMEXP0_EXP : Field := ⟨GPIO_TMEXP0, 0, 32⟩
/-- Address of GPIO_TMEXP1 (R383). -/
abbrev GPIO_TMEXP1 : Nat := 0x2C4C
abbrev GPIO_TMEXP1_EXP : Field := ⟨GPIO_TMEXP1, 0, 32⟩
/-- Address of HP_CFG (R418). -/
abbrev HP_CFG : Nat := 0x3000
abbrev HP_CFG_NRMODE : Field := ⟨HP_CFG, 0, 1⟩
abbrev HP_CFG_HRDYOD : Field := ⟨HP_CFG, 1, 1⟩
abbrev HP_CFG_ATTPOL : Field := ⟨HP_CFG, 2, 1⟩
abbrev HP_CFG_D1 : Field := ⟨HP_CFG, 4, 4⟩
abbrev HP_CFG_D4 : Field := ⟨HP_CFG, 8, 4⟩
/-- Address of HP_STATUS (R418). -/
abbrev HP_STATUS : Nat := 0x3004
abbrev HP_STATUS_QUAD : Field := ⟨HP_STATUS, 0, 1⟩
abbrev HP_STATUS_CHAIN : Field := ⟨HP_STATUS, 1, 1⟩
abbrev HP_STATUS_WIP : Field := ⟨HP_STATUS, 2, 1⟩
abbrev HP_STATUS_CLKMODE : Field := ⟨HP_STATUS, 3, 1⟩
/-- Address of HP_ATTN (R418). -/
abbrev HP_ATTN : Nat := 0x3008
abbrev HP_ATTN_RQ : Field := ⟨HP_ATTN, 0, 1⟩
abbrev HP_ATTN_FAULT : Field := ⟨HP_ATTN, 1, 1⟩
abbrev HP_ATTN_HALT : Field := ⟨HP_ATTN, 2, 1⟩
abbrev HP_ATTN_WAKE : Field := ⟨HP_ATTN, 3, 1⟩
abbrev HP_ATTN_PROG : Field := ⟨HP_ATTN, 4, 1⟩
/-- Address of HP_ATTEN (R418). -/
abbrev HP_ATTEN : Nat := 0x300C
abbrev HP_ATTEN_RQ : Field := ⟨HP_ATTEN, 0, 1⟩
abbrev HP_ATTEN_FAULT : Field := ⟨HP_ATTEN, 1, 1⟩
abbrev HP_ATTEN_HALT : Field := ⟨HP_ATTEN, 2, 1⟩
abbrev HP_ATTEN_WAKE : Field := ⟨HP_ATTEN, 3, 1⟩
abbrev HP_ATTEN_PROG : Field := ⟨HP_ATTEN, 4, 1⟩
/-- Address of HP_ATTSET (R418). -/
abbrev HP_ATTSET : Nat := 0x3010
abbrev HP_ATTSET_PROG : Field := ⟨HP_ATTSET, 0, 1⟩
/-- Address of HP_ACK (R418). -/
abbrev HP_ACK : Nat := 0x3014
abbrev HP_ACK_SEQ : Field := ⟨HP_ACK, 0, 8⟩
abbrev HP_ACK_VALID : Field := ⟨HP_ACK, 8, 1⟩
abbrev HP_ACK_LASTST : Field := ⟨HP_ACK, 16, 8⟩
abbrev HP_ACK_LASTSEQ : Field := ⟨HP_ACK, 24, 8⟩
/-- Address of HP_ACKCRC (R418). -/
abbrev HP_ACKCRC : Nat := 0x3018
abbrev HP_ACKCRC_CRC : Field := ⟨HP_ACKCRC, 0, 16⟩
/-- Address of HP_ERR (R418). -/
abbrev HP_ERR : Nat := 0x301C
abbrev HP_ERR_RAGGED : Field := ⟨HP_ERR, 0, 1⟩
abbrev HP_ERR_BADOP : Field := ⟨HP_ERR, 1, 1⟩
abbrev HP_ERR_ALIGN : Field := ⟨HP_ERR, 2, 1⟩
abbrev HP_ERR_LONG : Field := ⟨HP_ERR, 3, 1⟩
abbrev HP_ERR_WOVR : Field := ⟨HP_ERR, 4, 1⟩
abbrev HP_ERR_RTO : Field := ⟨HP_ERR, 5, 1⟩
abbrev HP_ERR_UNDR : Field := ⟨HP_ERR, 6, 1⟩
abbrev HP_ERR_BADCONF : Field := ⟨HP_ERR, 7, 1⟩
/-- Address of HP_COUNTS (R418). -/
abbrev HP_COUNTS : Nat := 0x3020
abbrev HP_COUNTS_CRCERR : Field := ⟨HP_COUNTS, 0, 16⟩
abbrev HP_COUNTS_RAGGED : Field := ⟨HP_COUNTS, 16, 16⟩
/-- Address of HP_CMD (R418). -/
abbrev HP_CMD : Nat := 0x3024
abbrev HP_CMD_CLRCNT : Field := ⟨HP_CMD, 0, 1⟩
abbrev HP_CMD_ACKCLR : Field := ⟨HP_CMD, 1, 1⟩
/-- Address of XR_CTRL (R465). -/
abbrev XR_CTRL : Nat := 0x3400
abbrev XR_CTRL_SCRUB : Field := ⟨XR_CTRL, 0, 1⟩
/-- Address of XR_STATUS (R465). -/
abbrev XR_STATUS : Nat := 0x3404
abbrev XR_STATUS_GREJ : Field := ⟨XR_STATUS, 0, 1⟩
abbrev XR_STATUS_PIREJ : Field := ⟨XR_STATUS, 1, 1⟩
abbrev XR_STATUS_CIREJ : Field := ⟨XR_STATUS, 2, 1⟩
abbrev XR_STATUS_ENREJ : Field := ⟨XR_STATUS, 3, 1⟩
abbrev XR_STATUS_ENCAUSE : Field := ⟨XR_STATUS, 8, 4⟩
abbrev XR_STATUS_ENRING : Field := ⟨XR_STATUS, 12, 1⟩
abbrev XR_STATUS_HREJ : Field := ⟨XR_STATUS, 16, 1⟩
abbrev XR_STATUS_HBANK : Field := ⟨XR_STATUS, 17, 1⟩
/-- Address of XR_ECCSB (R465). -/
abbrev XR_ECCSB : Nat := 0x3408
abbrev XR_ECCSB_OFFSET : Field := ⟨XR_ECCSB, 0, 16⟩
abbrev XR_ECCSB_VALID : Field := ⟨XR_ECCSB, 16, 1⟩
abbrev XR_ECCSB_CLIENT : Field := ⟨XR_ECCSB, 24, 3⟩
/-- Address of XR_ECCDB (R465). -/
abbrev XR_ECCDB : Nat := 0x340C
abbrev XR_ECCDB_OFFSET : Field := ⟨XR_ECCDB, 0, 16⟩
abbrev XR_ECCDB_VALID : Field := ⟨XR_ECCDB, 16, 1⟩
abbrev XR_ECCDB_CLIENT : Field := ⟨XR_ECCDB, 24, 3⟩
/-- Address of XR_GUARc (R465). -/
abbrev XR_GUAR (i : Nat) : Nat := 0x3410 + 4 * i
abbrev XR_GUAR_B0 (i : Nat) : Field := ⟨XR_GUAR i, 0, 6⟩
abbrev XR_GUAR_B1 (i : Nat) : Field := ⟨XR_GUAR i, 8, 6⟩
abbrev XR_GUAR_HKEEP (i : Nat) : Field := ⟨XR_GUAR i, 16, 1⟩
/-- Address of XR_GSUM (R465). -/
abbrev XR_GSUM : Nat := 0x342C
abbrev XR_GSUM_S0 : Field := ⟨XR_GSUM, 0, 9⟩
abbrev XR_GSUM_S1 : Field := ⟨XR_GSUM, 16, 9⟩
/-- Address of XR_HSUM (R465). -/
abbrev XR_HSUM : Nat := 0x3430
abbrev XR_HSUM_S0 : Field := ⟨XR_HSUM, 0, 9⟩
abbrev XR_HSUM_S1 : Field := ⟨XR_HSUM, 16, 9⟩
/-- Address of CQ_GEOM (R465). -/
abbrev CQ_GEOM : Nat := 0x3440
abbrev CQ_GEOM_BASE : Field := ⟨CQ_GEOM, 0, 16⟩
abbrev CQ_GEOM_SZ : Field := ⟨CQ_GEOM, 16, 4⟩
/-- Address of CQ_CTRL (R465). -/
abbrev CQ_CTRL : Nat := 0x3444
abbrev CQ_CTRL_EN : Field := ⟨CQ_CTRL, 0, 1⟩
abbrev CQ_CTRL_MODE : Field := ⟨CQ_CTRL, 1, 1⟩
abbrev CQ_CTRL_PFDEPTH : Field := ⟨CQ_CTRL, 8, 8⟩
/-- Address of CQ_POLL (R465). -/
abbrev CQ_POLL : Nat := 0x3448
abbrev CQ_POLL_POLL : Field := ⟨CQ_POLL, 0, 16⟩
/-- Address of CQ_PI (R465). -/
abbrev CQ_PI : Nat := 0x344C
abbrev CQ_PI_INDEX : Field := ⟨CQ_PI, 0, 16⟩
/-- Address of CQ_CI (R465). -/
abbrev CQ_CI : Nat := 0x3450
abbrev CQ_CI_INDEX : Field := ⟨CQ_CI, 0, 16⟩
/-- Address of CQ_SEQX (R465). -/
abbrev CQ_SEQX : Nat := 0x3454
abbrev CQ_SEQX_SEQ : Field := ⟨CQ_SEQX, 0, 8⟩
/-- Address of CQ_COUNTS (R465). -/
abbrev CQ_COUNTS : Nat := 0x3458
abbrev CQ_COUNTS_REFETCH : Field := ⟨CQ_COUNTS, 0, 16⟩
abbrev CQ_COUNTS_EXEC : Field := ⟨CQ_COUNTS, 16, 16⟩
/-- Address of RQ_GEOM (R465). -/
abbrev RQ_GEOM : Nat := 0x3480
abbrev RQ_GEOM_BASE : Field := ⟨RQ_GEOM, 0, 16⟩
abbrev RQ_GEOM_SZ : Field := ⟨RQ_GEOM, 16, 4⟩
/-- Address of RQ_CTRL (R465). -/
abbrev RQ_CTRL : Nat := 0x3484
abbrev RQ_CTRL_EN : Field := ⟨RQ_CTRL, 0, 1⟩
abbrev RQ_CTRL_MODE : Field := ⟨RQ_CTRL, 1, 1⟩
/-- Address of RQ_CRES (R465). -/
abbrev RQ_CRES : Nat := 0x3488
abbrev RQ_CRES_CRES : Field := ⟨RQ_CRES, 0, 5⟩
/-- Address of RQ_WM (R465). -/
abbrev RQ_WM : Nat := 0x348C
abbrev RQ_WM_LEVEL : Field := ⟨RQ_WM, 0, 16⟩
abbrev RQ_WM_TMO : Field := ⟨RQ_WM, 16, 16⟩
/-- Address of RQ_PI (R465). -/
abbrev RQ_PI : Nat := 0x3490
abbrev RQ_PI_INDEX : Field := ⟨RQ_PI, 0, 16⟩
/-- Address of RQ_CI (R465). -/
abbrev RQ_CI : Nat := 0x3494
abbrev RQ_CI_INDEX : Field := ⟨RQ_CI, 0, 16⟩
/-- Address of RQ_SEQX (R465). -/
abbrev RQ_SEQX : Nat := 0x3498
abbrev RQ_SEQX_SEQ : Field := ⟨RQ_SEQX, 0, 8⟩
/-- Address of RQ_LOST (R465). -/
abbrev RQ_LOST : Nat := 0x349C
abbrev RQ_LOST_LOST : Field := ⟨RQ_LOST, 0, 16⟩
/-- Address of RQ_STATUS (R465). -/
abbrev RQ_STATUS : Nat := 0x34A0
abbrev RQ_STATUS_HELD : Field := ⟨RQ_STATUS, 0, 5⟩
abbrev RQ_STATUS_COAL : Field := ⟨RQ_STATUS, 8, 1⟩
/-- Address of XR_MALF (R465). -/
abbrev XR_MALF : Nat := 0x34C0
abbrev XR_MALF_CAUSE : Field := ⟨XR_MALF, 0, 8⟩
abbrev XR_MALF_OFFSET : Field := ⟨XR_MALF, 16, 16⟩
/-- Address of XR_MALF2 (R465). -/
abbrev XR_MALF2 : Nat := 0x34C4
abbrev XR_MALF2_SEQF : Field := ⟨XR_MALF2, 0, 8⟩
abbrev XR_MALF2_SEQX : Field := ⟨XR_MALF2, 8, 8⟩
abbrev XR_MALF2_OPCODE : Field := ⟨XR_MALF2, 16, 8⟩
/-- Address of CL_CTRL (R546). -/
abbrev CL_CTRL : Nat := 0x3800
abbrev CL_CTRL_ROLE : Field := ⟨CL_CTRL, 0, 2⟩
/-- Address of CL_STATUS (R546). -/
abbrev CL_STATUS : Nat := 0x3804
abbrev CL_STATUS_NODE : Field := ⟨CL_STATUS, 0, 3⟩
abbrev CL_STATUS_ENUM : Field := ⟨CL_STATUS, 3, 1⟩
abbrev CL_STATUS_LINK : Field := ⟨CL_STATUS, 4, 1⟩
abbrev CL_STATUS_NMEMB : Field := ⟨CL_STATUS, 5, 3⟩
abbrev CL_STATUS_HOLD : Field := ⟨CL_STATUS, 8, 1⟩
abbrev CL_STATUS_LOST : Field := ⟨CL_STATUS, 9, 1⟩
/-- Address of CL_RTT (R546). -/
abbrev CL_RTT : Nat := 0x3808
abbrev CL_RTT_NS : Field := ⟨CL_RTT, 0, 16⟩
/-- Address of CL_COMP (R546). -/
abbrev CL_COMP : Nat := 0x380C
abbrev CL_COMP_NS : Field := ⟨CL_COMP, 0, 16⟩
/-- Address of CL_PERIOD (R546). -/
abbrev CL_PERIOD : Nat := 0x3810
abbrev CL_PERIOD_PERIOD : Field := ⟨CL_PERIOD, 0, 16⟩
/-- Address of CL_ROWS (R546). -/
abbrev CL_ROWS : Nat := 0x3814
abbrev CL_ROWS_FIRST : Field := ⟨CL_ROWS, 0, 10⟩
abbrev CL_ROWS_LAST : Field := ⟨CL_ROWS, 16, 10⟩
/-- Address of CL_CFG (R546). -/
abbrev CL_CFG : Nat := 0x3818
abbrev CL_CFG_WAIT : Field := ⟨CL_CFG, 0, 10⟩
abbrev CL_CFG_XGAP : Field := ⟨CL_CFG, 16, 6⟩
abbrev CL_CFG_SPTHR : Field := ⟨CL_CFG, 24, 8⟩
/-- Address of CL_DCAP (R546). -/
abbrev CL_DCAP : Nat := 0x381C
abbrev CL_DCAP_DCAP : Field := ⟨CL_DCAP, 0, 16⟩
/-- Address of CL_BUF (R546). -/
abbrev CL_BUF : Nat := 0x3820
abbrev CL_BUF_BASE : Field := ⟨CL_BUF, 0, 16⟩
abbrev CL_BUF_SIZE : Field := ⟨CL_BUF, 16, 16⟩
/-- Address of CL_MREASON (R546). -/
abbrev CL_MREASON : Nat := 0x3824
abbrev CL_MREASON_NODE : Field := ⟨CL_MREASON, 0, 3⟩
abbrev CL_MREASON_CODE : Field := ⟨CL_MREASON, 8, 8⟩
abbrev CL_MREASON_DETAIL : Field := ⟨CL_MREASON, 16, 16⟩
/-- Address of CL_COUNTS (R546). -/
abbrev CL_COUNTS : Nat := 0x3828
abbrev CL_COUNTS_LO : Field := ⟨CL_COUNTS, 0, 16⟩
abbrev CL_COUNTS_HI : Field := ⟨CL_COUNTS, 16, 16⟩
/-- Address of CL_COUNTS2 (R546). -/
abbrev CL_COUNTS2 : Nat := 0x382C
abbrev CL_COUNTS2_LO : Field := ⟨CL_COUNTS2, 0, 16⟩
abbrev CL_COUNTS2_HI : Field := ⟨CL_COUNTS2, 16, 16⟩
/-- Address of CL_CMD (R546). -/
abbrev CL_CMD : Nat := 0x3830
abbrev CL_CMD_CLRCNT : Field := ⟨CL_CMD, 0, 1⟩
/-- Address of CL_STALEM (R546). -/
abbrev CL_STALEM : Nat := 0x3834
abbrev CL_STALEM_MEMB : Field := ⟨CL_STALEM, 1, 7⟩
/-- Address of PP_CFG (R571). -/
abbrev PP_CFG : Nat := 0x3C00
abbrev PP_CFG_SU : Field := ⟨PP_CFG, 0, 6⟩
abbrev PP_CFG_HOLD : Field := ⟨PP_CFG, 8, 6⟩
abbrev PP_CFG_DESEL : Field := ⟨PP_CFG, 16, 6⟩
/-- Address of PP_STATUS (R571). -/
abbrev PP_STATUS : Nat := 0x3C04
abbrev PP_STATUS_QCNT : Field := ⟨PP_STATUS, 0, 5⟩
abbrev PP_STATUS_ACTIVE : Field := ⟨PP_STATUS, 5, 1⟩
abbrev PP_STATUS_TARGET : Field := ⟨PP_STATUS, 6, 3⟩
abbrev PP_STATUS_BADMARK : Field := ⟨PP_STATUS, 9, 1⟩
/-- Address of PP_COUNTS (R571). -/
abbrev PP_COUNTS : Nat := 0x3C08
abbrev PP_COUNTS_LO : Field := ⟨PP_COUNTS, 0, 16⟩
abbrev PP_COUNTS_HI : Field := ⟨PP_COUNTS, 16, 16⟩
/-- Address of PP_COUNTS2 (R571). -/
abbrev PP_COUNTS2 : Nat := 0x3C0C
abbrev PP_COUNTS2_LO : Field := ⟨PP_COUNTS2, 0, 16⟩
abbrev PP_COUNTS2_HI : Field := ⟨PP_COUNTS2, 16, 16⟩
/-- Address of PP_GO (R571). -/
abbrev PP_GO : Nat := 0x3C10
abbrev PP_GO_GO : Field := ⟨PP_GO, 0, 8⟩
abbrev PP_GO_STOP : Field := ⟨PP_GO, 8, 8⟩
/-- Address of PP_CMD (R571). -/
abbrev PP_CMD : Nat := 0x3C14
abbrev PP_CMD_CLRCNT : Field := ⟨PP_CMD, 0, 1⟩
/-- Address of PP_TCFGt (R571). -/
abbrev PP_TCFG (i : Nat) : Nat := 0x3C20 + 8 * i
abbrev PP_TCFG_DIV (i : Nat) : Field := ⟨PP_TCFG i, 0, 8⟩
abbrev PP_TCFG_MODE (i : Nat) : Field := ⟨PP_TCFG i, 8, 1⟩
abbrev PP_TCFG_LATE (i : Nat) : Field := ⟨PP_TCFG i, 9, 1⟩
abbrev PP_TCFG_PRDYEN (i : Nat) : Field := ⟨PP_TCFG i, 10, 1⟩
abbrev PP_TCFG_MARKEN (i : Nat) : Field := ⟨PP_TCFG i, 11, 1⟩
abbrev PP_TCFG_PTMO (i : Nat) : Field := ⟨PP_TCFG i, 16, 16⟩
/-- Address of PP_TMARKt (R571). -/
abbrev PP_TMARK (i : Nat) : Nat := 0x3C24 + 8 * i
abbrev PP_TMARK_BUSYPAT (i : Nat) : Field := ⟨PP_TMARK i, 0, 8⟩
abbrev PP_TMARK_READYMARK (i : Nat) : Field := ⟨PP_TMARK i, 8, 8⟩
abbrev PP_TMARK_BUSYMAX (i : Nat) : Field := ⟨PP_TMARK i, 16, 8⟩
/-- Address of PP_DCTLd (R571). -/
abbrev PP_DCTL (i : Nat) : Nat := 0x3C60 + 16 * i
abbrev PP_DCTL_TARGET (i : Nat) : Field := ⟨PP_DCTL i, 0, 3⟩
abbrev PP_DCTL_DIR (i : Nat) : Field := ⟨PP_DCTL i, 3, 1⟩
abbrev PP_DCTL_CLANE (i : Nat) : Field := ⟨PP_DCTL i, 4, 2⟩
abbrev PP_DCTL_ALANE (i : Nat) : Field := ⟨PP_DCTL i, 6, 2⟩
abbrev PP_DCTL_DLANE (i : Nat) : Field := ⟨PP_DCTL i, 8, 2⟩
abbrev PP_DCTL_CLEN (i : Nat) : Field := ⟨PP_DCTL i, 10, 2⟩
abbrev PP_DCTL_ALEN (i : Nat) : Field := ⟨PP_DCTL i, 12, 3⟩
abbrev PP_DCTL_DUMMY (i : Nat) : Field := ⟨PP_DCTL i, 16, 5⟩
/-- Address of PP_DCMDd (R571). -/
abbrev PP_DCMD (i : Nat) : Nat := 0x3C64 + 16 * i
abbrev PP_DCMD_CMD (i : Nat) : Field := ⟨PP_DCMD i, 0, 16⟩
abbrev PP_DCMD_DLEN (i : Nat) : Field := ⟨PP_DCMD i, 16, 13⟩
/-- Address of PP_DADRd (R571). -/
abbrev PP_DADR (i : Nat) : Nat := 0x3C68 + 16 * i
abbrev PP_DADR_ADDR (i : Nat) : Field := ⟨PP_DADR i, 0, 32⟩
/-- Address of PP_DBUFd (R571). -/
abbrev PP_DBUF (i : Nat) : Nat := 0x3C6C + 16 * i
abbrev PP_DBUF_AREA (i : Nat) : Field := ⟨PP_DBUF i, 0, 16⟩
abbrev PP_DBUF_START (i : Nat) : Field := ⟨PP_DBUF i, 16, 2⟩
/-- Address of PP_DSTATd (R571). -/
abbrev PP_DSTAT (i : Nat) : Nat := 0x3CE0 + 4 * i
abbrev PP_DSTAT_STATE (i : Nat) : Field := ⟨PP_DSTAT i, 0, 3⟩
abbrev PP_DSTAT_ARMED (i : Nat) : Field := ⟨PP_DSTAT i, 3, 1⟩
abbrev PP_DSTAT_CAUSE (i : Nat) : Field := ⟨PP_DSTAT i, 4, 3⟩
abbrev PP_DSTAT_COUNT (i : Nat) : Field := ⟨PP_DSTAT i, 16, 13⟩
/-- Address of PWR_ON (R605). -/
abbrev PWR_ON : Nat := 0x4000
abbrev PWR_ON_ON : Field := ⟨PWR_ON, 0, 12⟩
/-- Address of PWR_DREQ (R605). -/
abbrev PWR_DREQ : Nat := 0x4004
abbrev PWR_DREQ_ON : Field := ⟨PWR_DREQ, 0, 12⟩
abbrev PWR_DREQ_OFF : Field := ⟨PWR_DREQ, 16, 12⟩
/-- Address of PWR_SREQ (R605). -/
abbrev PWR_SREQ : Nat := 0x4008
abbrev PWR_SREQ_ACTION : Field := ⟨PWR_SREQ, 0, 2⟩
/-- Address of PWR_RES (R605). -/
abbrev PWR_RES : Nat := 0x400C
abbrev PWR_RES_CODE : Field := ⟨PWR_RES, 0, 8⟩
abbrev PWR_RES_KIND : Field := ⟨PWR_RES, 8, 2⟩
abbrev PWR_RES_SRC : Field := ⟨PWR_RES, 10, 1⟩
abbrev PWR_RES_BUSY : Field := ⟨PWR_RES, 11, 1⟩
abbrev PWR_RES_DOMAIN : Field := ⟨PWR_RES, 16, 4⟩
/-- Address of PWR_DST0 (R605). -/
abbrev PWR_DST0 : Nat := 0x4010
abbrev PWR_DST0_STATE : Field := ⟨PWR_DST0, 0, 4⟩
/-- Address of PWR_DST1 (R605). -/
abbrev PWR_DST1 : Nat := 0x4014
abbrev PWR_DST1_STATE : Field := ⟨PWR_DST1, 0, 4⟩
/-- Address of PWR_RESTART (R605). -/
abbrev PWR_RESTART : Nat := 0x4018
abbrev PWR_RESTART_RST : Field := ⟨PWR_RESTART, 0, 12⟩
/-- Address of PWR_HCFG (R605). -/
abbrev PWR_HCFG : Nat := 0x401C
abbrev PWR_HCFG_RATE : Field := ⟨PWR_HCFG, 0, 8⟩
abbrev PWR_HCFG_SELF : Field := ⟨PWR_HCFG, 8, 1⟩
abbrev PWR_HCFG_HOFF : Field := ⟨PWR_HCFG, 16, 12⟩
/-- Address of PWR_FCFG (R605). -/
abbrev PWR_FCFG : Nat := 0x4020
abbrev PWR_FCFG_RET0 : Field := ⟨PWR_FCFG, 0, 1⟩
abbrev PWR_FCFG_RET1 : Field := ⟨PWR_FCFG, 1, 1⟩
/-- Address of PWR_WAKE (R605). -/
abbrev PWR_WAKE : Nat := 0x4024
abbrev PWR_WAKE_GEST : Field := ⟨PWR_WAKE, 0, 1⟩
abbrev PWR_WAKE_WC : Field := ⟨PWR_WAKE, 1, 1⟩
abbrev PWR_WAKE_GPIO : Field := ⟨PWR_WAKE, 2, 1⟩
abbrev PWR_WAKE_WPINS : Field := ⟨PWR_WAKE, 8, 6⟩
abbrev PWR_WAKE_WLVL : Field := ⟨PWR_WAKE, 16, 6⟩
/-- Address of PWR_WSRC (R605). -/
abbrev PWR_WSRC : Nat := 0x4028
abbrev PWR_WSRC_GEST : Field := ⟨PWR_WSRC, 0, 1⟩
abbrev PWR_WSRC_HOSTWAKE : Field := ⟨PWR_WSRC, 1, 1⟩
abbrev PWR_WSRC_WC : Field := ⟨PWR_WSRC, 2, 1⟩
abbrev PWR_WSRC_GPIO : Field := ⟨PWR_WSRC, 3, 1⟩
abbrev PWR_WSRC_SEAT : Field := ⟨PWR_WSRC, 4, 1⟩
abbrev PWR_WSRC_LAT : Field := ⟨PWR_WSRC, 16, 16⟩
/-- Address of PWR_COUNTS (R605). -/
abbrev PWR_COUNTS : Nat := 0x402C
abbrev PWR_COUNTS_HEATH : Field := ⟨PWR_COUNTS, 0, 16⟩
abbrev PWR_COUNTS_FALLOW : Field := ⟨PWR_COUNTS, 16, 16⟩
/-- Address of PWR_CMD (R605). -/
abbrev PWR_CMD : Nat := 0x4030
abbrev PWR_CMD_CLRCNT : Field := ⟨PWR_CMD, 0, 1⟩
/-- Address of FLT_TEMP (R655). -/
abbrev FLT_TEMP : Nat := 0x4400
abbrev FLT_TEMP_WARN : Field := ⟨FLT_TEMP, 0, 8⟩
abbrev FLT_TEMP_CRIT : Field := ⟨FLT_TEMP, 8, 8⟩
abbrev FLT_TEMP_HYS : Field := ⟨FLT_TEMP, 16, 4⟩
/-- Address of FLT_TEMPST (R655). -/
abbrev FLT_TEMPST : Nat := 0x4404
abbrev FLT_TEMPST_TNOW : Field := ⟨FLT_TEMPST, 0, 16⟩
abbrev FLT_TEMPST_WRUN : Field := ⟨FLT_TEMPST, 16, 4⟩
abbrev FLT_TEMPST_CRUN : Field := ⟨FLT_TEMPST, 20, 4⟩
abbrev FLT_TEMPST_WARN : Field := ⟨FLT_TEMPST, 24, 1⟩
abbrev FLT_TEMPST_CRIT : Field := ⟨FLT_TEMPST, 25, 1⟩
abbrev FLT_TEMPST_SRC : Field := ⟨FLT_TEMPST, 26, 1⟩
/-- Address of FLT_TMAX (R655). -/
abbrev FLT_TMAX : Nat := 0x4408
abbrev FLT_TMAX_TMAX : Field := ⟨FLT_TMAX, 0, 16⟩
/-- Address of FLT_LOG (R655). -/
abbrev FLT_LOG : Nat := 0x440C
abbrev FLT_LOG_NENT : Field := ⟨FLT_LOG, 0, 6⟩
abbrev FLT_LOG_LOST : Field := ⟨FLT_LOG, 16, 16⟩
/-- Address of FLT_CMD (R655). -/
abbrev FLT_CMD : Nat := 0x4410
abbrev FLT_CMD_CLRCNT : Field := ⟨FLT_CMD, 0, 1⟩
abbrev FLT_CMD_CLRLOST : Field := ⟨FLT_CMD, 1, 1⟩
abbrev FLT_CMD_CLRTMAX : Field := ⟨FLT_CMD, 2, 1⟩
/-- Address of FLT_LAST (R655). -/
abbrev FLT_LAST : Nat := 0x4414
abbrev FLT_LAST_SOURCE : Field := ⟨FLT_LAST, 0, 8⟩
abbrev FLT_LAST_ACTION : Field := ⟨FLT_LAST, 8, 2⟩
abbrev FLT_LAST_DETAIL : Field := ⟨FLT_LAST, 16, 16⟩
/-- Address of FLT_WOPEN (R655). -/
abbrev FLT_WOPEN : Nat := 0x4418
abbrev FLT_WOPEN_OPEN : Field := ⟨FLT_WOPEN, 0, 22⟩
/-- Address of FLT_CFGs (R655). -/
abbrev FLT_CFG (i : Nat) : Nat := 0x4440 + 4 * i
abbrev FLT_CFG_WIN (i : Nat) : Field := ⟨FLT_CFG i, 0, 16⟩
abbrev FLT_CFG_LIMIT (i : Nat) : Field := ⟨FLT_CFG i, 16, 8⟩
abbrev FLT_CFG_ACTION (i : Nat) : Field := ⟨FLT_CFG i, 24, 2⟩
abbrev FLT_CFG_RPT (i : Nat) : Field := ⟨FLT_CFG i, 26, 1⟩
abbrev FLT_CFG_LOG (i : Nat) : Field := ⟨FLT_CFG i, 27, 1⟩
/-- Address of FLT_CNTs (R655). -/
abbrev FLT_CNT (i : Nat) : Nat := 0x44C0 + 4 * i
abbrev FLT_CNT_EVENTS (i : Nat) : Field := ⟨FLT_CNT i, 0, 16⟩
abbrev FLT_CNT_LASTING (i : Nat) : Field := ⟨FLT_CNT i, 16, 8⟩
abbrev FLT_CNT_WCNT (i : Nat) : Field := ⟨FLT_CNT i, 24, 8⟩
/-- Address of CAL_LGAINm (R276). -/
abbrev CAL_LGAIN (i : Nat) : Nat := 0x4800 + 4 * i
abbrev CAL_LGAIN_LO (i : Nat) : Field := ⟨CAL_LGAIN i, 0, 16⟩
abbrev CAL_LGAIN_HI (i : Nat) : Field := ⟨CAL_LGAIN i, 16, 16⟩
/-- Address of OTP_SERIAL0 (R688). -/
abbrev OTP_SERIAL0 : Nat := 0xF000
abbrev OTP_SERIAL0_SERIAL : Field := ⟨OTP_SERIAL0, 0, 32⟩
/-- Address of OTP_SERIAL1 (R688). -/
abbrev OTP_SERIAL1 : Nat := 0xF004
abbrev OTP_SERIAL1_SERIAL : Field := ⟨OTP_SERIAL1, 0, 32⟩
/-- Address of OTP_OSC (R688). -/
abbrev OTP_OSC : Nat := 0xF008
abbrev OTP_OSC_HFOTRIM : Field := ⟨OTP_OSC, 0, 10⟩
abbrev OTP_OSC_LFOTRIM : Field := ⟨OTP_OSC, 16, 10⟩
/-- Address of OTP_VREF (R688). -/
abbrev OTP_VREF : Nat := 0xF00C
abbrev OTP_VREF_VTRIM : Field := ⟨OTP_VREF, 0, 16⟩
abbrev OTP_VREF_VMEAS : Field := ⟨OTP_VREF, 16, 16⟩
/-- Address of OTP_CFk (R688). -/
abbrev OTP_CF (i : Nat) : Nat := 0xF010 + 4 * i
abbrev OTP_CF_CAP (i : Nat) : Field := ⟨OTP_CF i, 0, 24⟩
/-- Address of OTP_OFFM (R688). -/
abbrev OTP_OFFM : Nat := 0xF050
abbrev OTP_OFFM_STEP : Field := ⟨OTP_OFFM, 0, 24⟩
/-- Address of OTP_OFFS (R688). -/
abbrev OTP_OFFS : Nat := 0xF054
abbrev OTP_OFFS_STEP : Field := ⟨OTP_OFFS, 0, 24⟩
/-- Address of OTP_DRVl (R688). -/
abbrev OTP_DRV (i : Nat) : Nat := 0xF058 + 4 * i
abbrev OTP_DRV_GAIN (i : Nat) : Field := ⟨OTP_DRV i, 0, 16⟩
/-- Address of OTP_TEMP0 (R688). -/
abbrev OTP_TEMP0 : Nat := 0xF068
abbrev OTP_TEMP0_OFS : Field := ⟨OTP_TEMP0, 0, 16⟩
abbrev OTP_TEMP0_SLOPE : Field := ⟨OTP_TEMP0, 16, 16⟩
/-- Address of OTP_TEMP1 (R688). -/
abbrev OTP_TEMP1 : Nat := 0xF06C
abbrev OTP_TEMP1_OFS : Field := ⟨OTP_TEMP1, 0, 16⟩
abbrev OTP_TEMP1_SLOPE : Field := ⟨OTP_TEMP1, 16, 16⟩
/-- Address of OTP_TCAP (R688). -/
abbrev OTP_TCAP : Nat := 0xF070
abbrev OTP_TCAP_CAP : Field := ⟨OTP_TCAP, 0, 24⟩
/-- Address of OTP_HALF (R688). -/
abbrev OTP_HALF : Nat := 0xF074
abbrev OTP_HALF_CODE : Field := ⟨OTP_HALF, 0, 24⟩
/-- Address of OTP_SEC (R688). -/
abbrev OTP_SEC : Nat := 0xF078
abbrev OTP_SEC_KEYSET : Field := ⟨OTP_SEC, 0, 1⟩
abbrev OTP_SEC_AUTHREQ : Field := ⟨OTP_SEC, 1, 1⟩
/-- Address of OTP_KEYi (R688). -/
abbrev OTP_KEY (i : Nat) : Nat := 0xF080 + 4 * i

end R

end Sys2Proof.Machine
end

