-- ==== Sys2Proof/Machine/RegTable.lean ====
section
/-!
DEFINITION. Machine/RegTable.lean: the registers of the I/O space (chapter 22, R686, R687; the field tables of the
owning chapters): where each lies, its value at reset, and which of its bits are written at once (RW), staged for
the next tick (RWS) or cleared by a 1 (W1C). Bits in no mask are read-only, write-only or reserved (R3, R4).
One list per block of R9.
-/

namespace Sys2Proof.Machine

/-- One register, or an array of registers of one layout: base address, stride and number; the reset value; the
masks of the RW, RWS and W1C bits (R4). -/
structure RegSpec where
  base   : Nat
  stride : Nat
  count  : Nat
  reset  : Nat
  rw     : Nat
  rws    : Nat
  w1c    : Nat
deriving DecidableEq, Repr

/-- The registers of block SYS. -/
def regsSys : List RegSpec := [
  ⟨0x0000, 0, 1, 0x4A32500B, 0x0, 0x0, 0x0⟩,
  ⟨0x0004, 0, 1, 0x0, 0x1, 0x0, 0x0⟩,
  ⟨0x0008, 0, 1, 0x0, 0x0, 0x0, 0x0⟩,
  ⟨0x000C, 0, 1, 0x0, 0x0, 0x0, 0x0⟩,
  ⟨0x0010, 0, 1, 0x0, 0x0, 0x0, 0x0⟩,
  ⟨0x0014, 0, 1, 0x0, 0x0, 0x0, 0x0⟩,
  ⟨0x0018, 0, 1, 0x0, 0x0, 0x0, 0x0⟩,
  ⟨0x001C, 0, 1, 0x0, 0x0, 0x0, 0x0⟩,
  ⟨0x0020, 0, 1, 0x0, 0x0, 0x0, 0x0⟩]

/-- The registers of block TICK. -/
def regsTick : List RegSpec := [
  ⟨0x0100, 0, 1, 0x0, 0x7F, 0x0, 0x0⟩,
  ⟨0x0104, 0, 1, 0x1046, 0x0, 0xFFFF, 0x0⟩,
  ⟨0x0108, 0, 1, 0x3C0000, 0xFF03FF, 0x0, 0x0⟩,
  ⟨0x010C, 0, 1, 0x0, 0xFFF00FF, 0x0, 0x0⟩,
  ⟨0x0110, 0, 1, 0x39, 0x0, 0x13F, 0x0⟩,
  ⟨0x0114, 0, 1, 0x0, 0x0, 0x0, 0x0⟩,
  ⟨0x0118, 0, 1, 0x0, 0x0, 0x0, 0x1C⟩,
  ⟨0x011C, 0, 1, 0x0, 0x0, 0x0, 0x0⟩,
  ⟨0x0120, 0, 1, 0x0, 0x0, 0x0, 0x0⟩,
  ⟨0x0124, 0, 1, 0x0, 0x0, 0x0, 0x0⟩,
  ⟨0x0128, 0, 1, 0x0, 0x0, 0x0, 0x0⟩,
  ⟨0x012C, 0, 1, 0x0, 0x0, 0x0, 0x0⟩,
  ⟨0x0130, 0, 1, 0x0, 0x0, 0x0, 0x0⟩]

/-- The registers of block ACQ. -/
def regsAcq : List RegSpec := [
  ⟨0x0400, 0, 1, 0x131, 0x330, 0x3, 0x0⟩,
  ⟨0x0404, 0, 1, 0xA0402, 0xFF7F07, 0x0, 0x0⟩,
  ⟨0x0408, 0, 1, 0xA0406, 0xFF7F0F, 0x0, 0x0⟩,
  ⟨0x040C, 0, 1, 0x2F3, 0xFF, 0x700, 0x0⟩,
  ⟨0x0410, 0, 1, 0x19000800, 0x7F0FFFFF, 0x0, 0x0⟩,
  ⟨0x0414, 0, 1, 0x0, 0x0, 0x0, 0x10⟩,
  ⟨0x0418, 0, 1, 0x0, 0x0, 0x0, 0x0⟩,
  ⟨0x041C, 0, 1, 0x0, 0x0, 0x0, 0x0⟩,
  ⟨0x0420, 0, 1, 0x0, 0x0, 0x0, 0xFFFFFFFF⟩,
  ⟨0x0424, 0, 1, 0x0, 0x0, 0x0, 0x3FFFF⟩,
  ⟨0x0428, 0, 1, 0x0, 0x0, 0x0, 0xFFFFFFFF⟩,
  ⟨0x042C, 0, 1, 0x0, 0x0, 0x0, 0x3FFFF⟩,
  ⟨0x0440, 4, 32, 0x0, 0x0, 0x3FF03FF, 0x0⟩,
  ⟨0x0500, 4, 50, 0x0, 0x1FF3, 0x0, 0x0⟩,
  ⟨0x05D0, 0, 1, 0x30020, 0xFFFFFFF, 0x0, 0x0⟩,
  ⟨0x05D4, 0, 1, 0x30012, 0xFFFFFFF, 0x0, 0x0⟩,
  ⟨0x05D8, 0, 1, 0x0, 0x7, 0x0, 0x0⟩,
  ⟨0x05DC, 0, 1, 0x0, 0x0, 0x0, 0x0⟩,
  ⟨0x05E0, 0, 1, 0x0, 0x0, 0x0, 0x0⟩]

/-- The registers of block HOP. -/
def regsHop : List RegSpec := [
  ⟨0x0800, 0, 1, 0x35, 0x77, 0x0, 0x0⟩,
  ⟨0x0804, 0, 1, 0x1E1830E8, 0xFFFFF1FF, 0x0, 0x0⟩,
  ⟨0x0808, 0, 1, 0xC8, 0x1FF, 0x0, 0x0⟩,
  ⟨0x080C, 0, 1, 0x0, 0x0, 0x0, 0x0⟩,
  ⟨0x0810, 0, 1, 0xFF03, 0x0, 0x0, 0x7000000⟩,
  ⟨0x0814, 0, 1, 0x0, 0x0, 0x0, 0x0⟩,
  ⟨0x0818, 0, 1, 0x0, 0x0, 0x0, 0x0⟩,
  ⟨0x0820, 0, 1, 0x1206C, 0x0, 0x1FFFF, 0x0⟩,
  ⟨0x0824, 0, 1, 0x129CC, 0x0, 0x1FFFF, 0x0⟩,
  ⟨0x0828, 0, 1, 0x1332C, 0x0, 0x1FFFF, 0x0⟩,
  ⟨0x082C, 0, 1, 0x1413C, 0x0, 0x1FFFF, 0x0⟩,
  ⟨0x0830, 0, 1, 0x14DBC, 0x0, 0x1FFFF, 0x0⟩,
  ⟨0x0834, 0, 1, 0x15E24, 0x0, 0x1FFFF, 0x0⟩,
  ⟨0x0838, 0, 1, 0x17274, 0x0, 0x1FFFF, 0x0⟩,
  ⟨0x083C, 0, 1, 0x1878C, 0x0, 0x1FFFF, 0x0⟩,
  ⟨0x0840, 4, 8, 0x0, 0x0, 0x0, 0x0⟩,
  ⟨0x0880, 8, 16, 0x0, 0x0, 0x0, 0x0⟩,
  ⟨0x0884, 8, 16, 0x0, 0x0, 0x0, 0x0⟩]

/-- The registers of block IMG. -/
def regsImg : List RegSpec := [
  ⟨0x0A00, 0, 1, 0xF, 0x8, 0x7, 0x0⟩,
  ⟨0x0A04, 0, 1, 0x0, 0x0, 0x0, 0x30⟩,
  ⟨0x0A08, 0, 1, 0x0, 0x0, 0x0, 0x0⟩,
  ⟨0x0A0C, 0, 1, 0x320064, 0x0, 0xFFFFFFFF, 0x0⟩,
  ⟨0x0A10, 0, 1, 0x3200C8, 0x0, 0xFFFFFFFF, 0x0⟩,
  ⟨0x0A14, 0, 1, 0x208, 0x0, 0xFF0F, 0x0⟩,
  ⟨0x0A18, 0, 1, 0x0, 0x1FFFF, 0x0, 0x0⟩,
  ⟨0x0A1C, 0, 1, 0x14, 0xFFFF, 0x0, 0x0⟩,
  ⟨0x0A20, 0, 1, 0x64, 0x0, 0xFF, 0x0⟩,
  ⟨0x0A24, 0, 1, 0x0, 0x0, 0x0, 0x0⟩,
  ⟨0x0A28, 0, 1, 0x0, 0x0, 0x0, 0x0⟩,
  ⟨0x0A2C, 0, 1, 0x0, 0x0, 0x0, 0x0⟩,
  ⟨0x0A30, 0, 1, 0x0, 0x0, 0x0, 0x0⟩]

/-- The registers of block CT. -/
def regsCt : List RegSpec := [
  ⟨0x1000, 0, 1, 0x31, 0x0, 0x3F, 0x0⟩,
  ⟨0x1004, 0, 1, 0x284632, 0x0, 0xFFFFFF, 0x0⟩,
  ⟨0x1008, 0, 1, 0x200701C0, 0x0, 0xFF0F03FF, 0x0⟩,
  ⟨0x100C, 0, 1, 0x819, 0x0, 0xFFFF, 0x0⟩,
  ⟨0x1010, 0, 1, 0x507801C2, 0x0, 0xFFFFFFFF, 0x0⟩,
  ⟨0x1014, 0, 1, 0x1404B0, 0x0, 0xFFFFFF, 0x0⟩,
  ⟨0x1018, 0, 1, 0x1E00450, 0x0, 0xFFFF0FFF, 0x0⟩,
  ⟨0x101C, 0, 1, 0x1901414, 0x0, 0xFFFFFFFF, 0x0⟩,
  ⟨0x1020, 0, 1, 0x80, 0x0, 0xFF, 0x0⟩,
  ⟨0x1024, 0, 1, 0x0, 0x0, 0x0, 0x3000000⟩,
  ⟨0x1028, 0, 1, 0x1, 0x0, 0x0, 0x0⟩,
  ⟨0x102C, 0, 1, 0x0, 0x0, 0x0, 0x0⟩,
  ⟨0x1030, 0, 1, 0x0, 0x0, 0x0, 0x0⟩,
  ⟨0x1034, 0, 1, 0x4B7D4B32, 0x0, 0xFFFFFFFF, 0x0⟩,
  ⟨0x1038, 0, 1, 0x500C200C, 0x0, 0xFFFFFFFF, 0x0⟩,
  ⟨0x103C, 0, 1, 0xC0505, 0x0, 0xFFFFFF, 0x0⟩,
  ⟨0x1040, 0, 1, 0x7, 0x0, 0x7, 0x0⟩,
  ⟨0x1044, 0, 1, 0x0, 0x0, 0x0, 0x0⟩,
  ⟨0x1048, 0, 1, 0x0, 0x0, 0x0, 0x0⟩,
  ⟨0x1100, 4, 32, 0x0, 0x0, 0xFFFFFFFF, 0x0⟩,
  ⟨0x1180, 4, 32, 0x0, 0x0, 0xFFFFFFFF, 0x0⟩,
  ⟨0x1200, 4, 32, 0x7F0000, 0x0, 0x7F1F07, 0x0⟩]

/-- The registers of block OPT. -/
def regsOpt : List RegSpec := [
  ⟨0x1400, 0, 1, 0x18, 0x0, 0xFF1D, 0x0⟩,
  ⟨0x1404, 0, 1, 0xA, 0x0, 0x1F, 0x0⟩,
  ⟨0x1408, 0, 1, 0x100, 0x0, 0x3FFF, 0x0⟩,
  ⟨0x140C, 0, 1, 0x640200, 0x1FFFFFF, 0x0, 0x0⟩,
  ⟨0x1410, 0, 1, 0x0, 0xFFFF, 0x0, 0x0⟩,
  ⟨0x1414, 0, 1, 0x20B40096, 0xF1FF01FF, 0x0, 0x0⟩,
  ⟨0x1418, 0, 1, 0x0, 0x0, 0x0, 0x0⟩,
  ⟨0x141C, 0, 1, 0x0, 0x0, 0x0, 0x2C⟩,
  ⟨0x1420, 0, 1, 0x1FF0000, 0x0, 0x0, 0x0⟩,
  ⟨0x1424, 0, 1, 0x0, 0x0, 0x0, 0x0⟩,
  ⟨0x1428, 0, 1, 0x100, 0xFFFF, 0x0, 0x0⟩,
  ⟨0x142C, 0, 1, 0x0, 0x0, 0x0, 0x0⟩]

/-- The registers of block AUX. -/
def regsAux : List RegSpec := [
  ⟨0x1800, 0, 1, 0x20, 0x3FF007F, 0x0, 0x0⟩,
  ⟨0x1804, 0, 1, 0x0, 0x0, 0x0, 0x0⟩,
  ⟨0x1808, 0, 1, 0x0, 0x0, 0x0, 0x1⟩,
  ⟨0x180C, 0, 1, 0x0, 0x0, 0x0, 0x0⟩,
  ⟨0x1810, 32, 2, 0x0, 0xF3F, 0x0, 0x0⟩,
  ⟨0x1814, 32, 2, 0x100000B, 0x7FFF3F0F, 0x0, 0x0⟩,
  ⟨0x1818, 32, 2, 0x0, 0x0, 0x0, 0x0⟩,
  ⟨0x181C, 32, 2, 0x0, 0x0, 0x0, 0x0⟩,
  ⟨0x1820, 32, 2, 0x0, 0x0, 0x0, 0x0⟩,
  ⟨0x1878, 0, 1, 0x0, 0x0, 0x0, 0xFF⟩,
  ⟨0x1880, 16, 8, 0x100, 0xFF1F, 0x0, 0x0⟩,
  ⟨0x1884, 16, 8, 0x0, 0xFFFFFF, 0x0, 0x0⟩,
  ⟨0x1888, 16, 8, 0x7FFFFF, 0xFFFFFF, 0x0, 0x0⟩,
  ⟨0x188C, 16, 8, 0x0, 0x7FFFFF, 0x0, 0x0⟩]

/-- The registers of block CAL. -/
def regsCal : List RegSpec := [
  ⟨0x1C00, 0, 1, 0x0, 0x0, 0x0, 0x0⟩,
  ⟨0x1C04, 0, 1, 0x14143B10, 0xFFFF3F7F, 0x0, 0x0⟩,
  ⟨0x1C08, 0, 1, 0x1E3C3214, 0xFFFFFFFF, 0x0, 0x0⟩,
  ⟨0x1C0C, 0, 1, 0x4140414, 0xFFFFFFFF, 0x0, 0x0⟩,
  ⟨0x1C10, 0, 1, 0x0, 0x0, 0x0, 0x0⟩,
  ⟨0x1C14, 0, 1, 0x0, 0x0, 0x0, 0x0⟩,
  ⟨0x1C18, 0, 1, 0x0, 0x0, 0x0, 0x0⟩,
  ⟨0x1C1C, 0, 1, 0x0, 0x0, 0x0, 0x0⟩,
  ⟨0x1C20, 0, 1, 0x0, 0x0, 0x0, 0x0⟩,
  ⟨0x1C24, 0, 1, 0x0, 0x0, 0x0, 0x0⟩,
  ⟨0x1C30, 8, 4, 0x0, 0x0, 0x0, 0x0⟩,
  ⟨0x1C34, 8, 4, 0x0, 0x0, 0x0, 0x0⟩,
  ⟨0x1C50, 0, 1, 0x0, 0x0, 0x0, 0x0⟩,
  ⟨0x1C58, 8, 2, 0x0, 0x0, 0x0, 0x0⟩,
  ⟨0x1C5C, 8, 2, 0x400000, 0x0, 0x0, 0x0⟩,
  ⟨0x1C80, 4, 32, 0x8000, 0x0, 0x0, 0x0⟩]

/-- The registers of block SEQ. -/
def regsSeq : List RegSpec := [
  ⟨0x2000, 0, 1, 0x0, 0x1, 0x0, 0x0⟩,
  ⟨0x2004, 0, 1, 0x0, 0x0, 0x0, 0x400⟩,
  ⟨0x2008, 0, 1, 0x0, 0x7FFFFF, 0x0, 0x0⟩,
  ⟨0x200C, 0, 1, 0x1000, 0xFFFF, 0x0, 0x0⟩,
  ⟨0x2010, 0, 1, 0x0, 0x0, 0x0, 0x0⟩,
  ⟨0x2014, 0, 1, 0x0, 0x0, 0x0, 0x0⟩,
  ⟨0x2018, 0, 1, 0x0, 0x0, 0x0, 0x7FF⟩,
  ⟨0x201C, 0, 1, 0x7FF, 0x7FF, 0x0, 0x0⟩,
  ⟨0x2020, 0, 1, 0x0, 0xFFFFFFFF, 0x0, 0x0⟩,
  ⟨0x2024, 0, 1, 0x0, 0x0, 0x0, 0x0⟩,
  ⟨0x2028, 0, 1, 0x0, 0x0, 0x0, 0x0⟩,
  ⟨0x202C, 0, 1, 0x0, 0x0, 0x0, 0x0⟩,
  ⟨0x2030, 0, 1, 0x0, 0x0, 0x0, 0x0⟩,
  ⟨0x2034, 0, 1, 0x0, 0x0, 0x0, 0x0⟩,
  ⟨0x2038, 0, 1, 0x0, 0x0, 0x0, 0x0⟩,
  ⟨0x203C, 0, 1, 0x0, 0x0, 0x0, 0x0⟩,
  ⟨0x2040, 0, 1, 0x0, 0x0, 0x0, 0x0⟩]

/-- The registers of block TM. -/
def regsTm : List RegSpec := [
  ⟨0x2400, 16, 64, 0x0, 0x3F7F, 0x0, 0x0⟩,
  ⟨0x2404, 16, 64, 0x0, 0xFFFFFF, 0x0, 0x0⟩,
  ⟨0x2408, 16, 64, 0x0, 0x0, 0x0, 0x0⟩,
  ⟨0x240C, 16, 64, 0x0, 0x1, 0x0, 0x8⟩]

/-- The registers of block ED. -/
def regsEd : List RegSpec := [
  ⟨0x2800, 8, 64, 0x200, 0xFF0FFF, 0x0, 0x0⟩,
  ⟨0x2804, 8, 64, 0x0, 0x0, 0x0, 0x2⟩,
  ⟨0x2A00, 0, 1, 0x0, 0xFFFFFFFF, 0x0, 0x0⟩,
  ⟨0x2A04, 0, 1, 0x0, 0x0, 0x0, 0xFFFFFFFF⟩,
  ⟨0x2A08, 0, 1, 0x0, 0x0, 0x0, 0xFFFFFFFF⟩,
  ⟨0x2A0C, 0, 1, 0x0, 0x0, 0x0, 0x0⟩,
  ⟨0x2A10, 0, 1, 0x0, 0x0, 0x0, 0x0⟩]

/-- The registers of block GPIO. -/
def regsGpio : List RegSpec := [
  ⟨0x2C00, 4, 6, 0x0, 0xFF1F, 0x0, 0x0⟩,
  ⟨0x2C20, 0, 1, 0x0, 0x3F, 0x0, 0x0⟩,
  ⟨0x2C24, 0, 1, 0x0, 0x0, 0x0, 0x0⟩,
  ⟨0x2C28, 0, 1, 0x0, 0x0, 0x0, 0x0⟩,
  ⟨0x2C2C, 0, 1, 0x0, 0x0, 0x0, 0x0⟩,
  ⟨0x2C30, 0, 1, 0x3E8, 0xFFFFFFFF, 0x0, 0x0⟩,
  ⟨0x2C34, 0, 1, 0x3E8, 0xFFFFFFFF, 0x0, 0x0⟩,
  ⟨0x2C38, 0, 1, 0x0, 0x0, 0x0, 0x0⟩,
  ⟨0x2C40, 0, 1, 0x0, 0x0, 0x0, 0x0⟩,
  ⟨0x2C48, 0, 1, 0x0, 0x0, 0x0, 0xFFFFFFFF⟩,
  ⟨0x2C4C, 0, 1, 0x0, 0x0, 0x0, 0xFFFFFFFF⟩]

/-- The registers of block HP. -/
def regsHp : List RegSpec := [
  ⟨0x3000, 0, 1, 0x880, 0xFF7, 0x0, 0x0⟩,
  ⟨0x3004, 0, 1, 0x0, 0x0, 0x0, 0x0⟩,
  ⟨0x3008, 0, 1, 0x0, 0x0, 0x0, 0x1F⟩,
  ⟨0x300C, 0, 1, 0x1F, 0x1B, 0x0, 0x0⟩,
  ⟨0x3010, 0, 1, 0x0, 0x0, 0x0, 0x0⟩,
  ⟨0x3014, 0, 1, 0x0, 0x0, 0x0, 0x0⟩,
  ⟨0x3018, 0, 1, 0x0, 0x0, 0x0, 0x0⟩,
  ⟨0x301C, 0, 1, 0x0, 0x0, 0x0, 0xFF⟩,
  ⟨0x3020, 0, 1, 0x0, 0x0, 0x0, 0x0⟩,
  ⟨0x3024, 0, 1, 0x0, 0x0, 0x0, 0x0⟩]

/-- The registers of block XR. -/
def regsXr : List RegSpec := [
  ⟨0x3400, 0, 1, 0x1, 0x1, 0x0, 0x0⟩,
  ⟨0x3404, 0, 1, 0x0, 0x0, 0x0, 0x1000F⟩,
  ⟨0x3408, 0, 1, 0x0, 0x0, 0x0, 0x10000⟩,
  ⟨0x340C, 0, 1, 0x0, 0x0, 0x0, 0x10000⟩,
  ⟨0x3410, 0, 1, 0x202, 0x0, 0x13F3F, 0x0⟩,
  ⟨0x3414, 0, 1, 0x101, 0x0, 0x13F3F, 0x0⟩,
  ⟨0x3418, 0, 1, 0x0, 0x0, 0x13F3F, 0x0⟩,
  ⟨0x341C, 0, 1, 0x0, 0x0, 0x13F3F, 0x0⟩,
  ⟨0x3420, 0, 1, 0x0, 0x0, 0x13F3F, 0x0⟩,
  ⟨0x3424, 0, 1, 0x101, 0x0, 0x13F3F, 0x0⟩,
  ⟨0x3428, 0, 1, 0x202, 0x0, 0x13F3F, 0x0⟩,
  ⟨0x342C, 0, 1, 0x60006, 0x0, 0x0, 0x0⟩,
  ⟨0x3430, 0, 1, 0x60006, 0x0, 0x0, 0x0⟩,
  ⟨0x3440, 0, 1, 0xA0000, 0xFFFFF, 0x0, 0x0⟩,
  ⟨0x3444, 0, 1, 0x4000, 0xFF03, 0x0, 0x0⟩,
  ⟨0x3448, 0, 1, 0x64, 0xFFFF, 0x0, 0x0⟩,
  ⟨0x344C, 0, 1, 0x0, 0xFFFF, 0x0, 0x0⟩,
  ⟨0x3450, 0, 1, 0x0, 0x0, 0x0, 0x0⟩,
  ⟨0x3454, 0, 1, 0x0, 0xFF, 0x0, 0x0⟩,
  ⟨0x3458, 0, 1, 0x0, 0x0, 0x0, 0x0⟩,
  ⟨0x3480, 0, 1, 0xD8000, 0xFFFFF, 0x0, 0x0⟩,
  ⟨0x3484, 0, 1, 0x0, 0x3, 0x0, 0x0⟩,
  ⟨0x3488, 0, 1, 0x4, 0x1F, 0x0, 0x0⟩,
  ⟨0x348C, 0, 1, 0x10, 0xFFFFFFFF, 0x0, 0x0⟩,
  ⟨0x3490, 0, 1, 0x0, 0x0, 0x0, 0x0⟩,
  ⟨0x3494, 0, 1, 0x0, 0xFFFF, 0x0, 0x0⟩,
  ⟨0x3498, 0, 1, 0x0, 0xFF, 0x0, 0x0⟩,
  ⟨0x349C, 0, 1, 0x0, 0x0, 0x0, 0xFFFF⟩,
  ⟨0x34A0, 0, 1, 0x0, 0x0, 0x0, 0x0⟩,
  ⟨0x34C0, 0, 1, 0x0, 0x0, 0x0, 0x0⟩,
  ⟨0x34C4, 0, 1, 0x0, 0x0, 0x0, 0x0⟩]

/-- The registers of block CL. -/
def regsCl : List RegSpec := [
  ⟨0x3800, 0, 1, 0x0, 0x3, 0x0, 0x0⟩,
  ⟨0x3804, 0, 1, 0x0, 0x0, 0x0, 0x200⟩,
  ⟨0x3808, 0, 1, 0x0, 0x0, 0x0, 0x0⟩,
  ⟨0x380C, 0, 1, 0x0, 0x0, 0x0, 0x0⟩,
  ⟨0x3810, 0, 1, 0x0, 0x0, 0x0, 0x0⟩,
  ⟨0x3814, 0, 1, 0x0, 0x0, 0x0, 0x0⟩,
  ⟨0x3818, 0, 1, 0x1014012C, 0xFF3F03FF, 0x0, 0x0⟩,
  ⟨0x381C, 0, 1, 0x1000, 0xFFFF, 0x0, 0x0⟩,
  ⟨0x3820, 0, 1, 0x800C000, 0xFFFFFFFF, 0x0, 0x0⟩,
  ⟨0x3824, 0, 1, 0x0, 0x0, 0x0, 0x0⟩,
  ⟨0x3828, 0, 1, 0x0, 0x0, 0x0, 0x0⟩,
  ⟨0x382C, 0, 1, 0x0, 0x0, 0x0, 0x0⟩,
  ⟨0x3830, 0, 1, 0x0, 0x0, 0x0, 0x0⟩,
  ⟨0x3834, 0, 1, 0x0, 0x0, 0x0, 0x0⟩]

/-- The registers of block PP. -/
def regsPp : List RegSpec := [
  ⟨0x3C00, 0, 1, 0x40204, 0x3F3F3F, 0x0, 0x0⟩,
  ⟨0x3C04, 0, 1, 0x1C0, 0x0, 0x0, 0x200⟩,
  ⟨0x3C08, 0, 1, 0x0, 0x0, 0x0, 0x0⟩,
  ⟨0x3C0C, 0, 1, 0x0, 0x0, 0x0, 0x0⟩,
  ⟨0x3C10, 0, 1, 0x0, 0x0, 0x0, 0x0⟩,
  ⟨0x3C14, 0, 1, 0x0, 0x0, 0x0, 0x0⟩,
  ⟨0x3C20, 8, 7, 0x3E80007, 0xFFFF0FFF, 0x0, 0x0⟩,
  ⟨0x3C24, 8, 7, 0x40D15A, 0xFFFFFF, 0x0, 0x0⟩,
  ⟨0x3C60, 16, 8, 0x0, 0x1F7FFF, 0x0, 0x0⟩,
  ⟨0x3C64, 16, 8, 0x0, 0x1FFFFFFF, 0x0, 0x0⟩,
  ⟨0x3C68, 16, 8, 0x0, 0xFFFFFFFF, 0x0, 0x0⟩,
  ⟨0x3C6C, 16, 8, 0x0, 0x3FFFF, 0x0, 0x0⟩,
  ⟨0x3CE0, 4, 8, 0x0, 0x0, 0x0, 0x0⟩]

/-- The registers of block PWR. -/
def regsPwr : List RegSpec := [
  ⟨0x4000, 0, 1, 0xCFF, 0x0, 0x0, 0x0⟩,
  ⟨0x4004, 0, 1, 0x0, 0x0, 0x0, 0x0⟩,
  ⟨0x4008, 0, 1, 0x0, 0x0, 0x0, 0x0⟩,
  ⟨0x400C, 0, 1, 0x0, 0x0, 0x0, 0x0⟩,
  ⟨0x4010, 0, 1, 0x22222222, 0x0, 0x0, 0x0⟩,
  ⟨0x4014, 0, 1, 0x2200, 0x0, 0x0, 0x0⟩,
  ⟨0x4018, 0, 1, 0x0, 0x0, 0x0, 0xFFF⟩,
  ⟨0x401C, 0, 1, 0x2800014, 0xFFF01FF, 0x0, 0x0⟩,
  ⟨0x4020, 0, 1, 0x0, 0x3, 0x0, 0x0⟩,
  ⟨0x4024, 0, 1, 0x1, 0x3F3F07, 0x0, 0x0⟩,
  ⟨0x4028, 0, 1, 0x0, 0x0, 0x0, 0x1F⟩,
  ⟨0x402C, 0, 1, 0x0, 0x0, 0x0, 0x0⟩,
  ⟨0x4030, 0, 1, 0x0, 0x0, 0x0, 0x0⟩]

/-- The registers of block FLT. -/
def regsFlt : List RegSpec := [
  ⟨0x4400, 0, 1, 0x37864, 0xFFFFF, 0x0, 0x0⟩,
  ⟨0x4404, 0, 1, 0x0, 0x0, 0x0, 0x0⟩,
  ⟨0x4408, 0, 1, 0x8000, 0x0, 0x0, 0x0⟩,
  ⟨0x440C, 0, 1, 0x0, 0x0, 0x0, 0x0⟩,
  ⟨0x4410, 0, 1, 0x0, 0x0, 0x0, 0x0⟩,
  ⟨0x4414, 0, 1, 0x0, 0x0, 0x0, 0x0⟩,
  ⟨0x4418, 0, 1, 0x0, 0x0, 0x0, 0x0⟩,
  ⟨0x4440, 0, 1, 0x3C03E8, 0xFFFFFFF, 0x0, 0x0⟩,
  ⟨0x4444, 0, 1, 0x3C03E8, 0xFFFFFFF, 0x0, 0x0⟩,
  ⟨0x4448, 0, 1, 0xD0103E8, 0xFFFFFFF, 0x0, 0x0⟩,
  ⟨0x444C, 0, 1, 0xD0103E8, 0xFFFFFFF, 0x0, 0x0⟩,
  ⟨0x4450, 0, 1, 0xA03E8, 0xFFFFFFF, 0x0, 0x0⟩,
  ⟨0x4454, 0, 1, 0xC0A03E8, 0xFFFFFFF, 0x0, 0x0⟩,
  ⟨0x4458, 0, 1, 0x1003E8, 0xFFFFFFF, 0x0, 0x0⟩,
  ⟨0x445C, 0, 1, 0x1003E8, 0xFFFFFFF, 0x0, 0x0⟩,
  ⟨0x4460, 0, 1, 0x1003E8, 0xFFFFFFF, 0x0, 0x0⟩,
  ⟨0x4464, 0, 1, 0xC0103E8, 0xFFFFFFF, 0x0, 0x0⟩,
  ⟨0x4468, 0, 1, 0x4003E8, 0xFFFFFFF, 0x0, 0x0⟩,
  ⟨0x446C, 0, 1, 0xC0103E8, 0xFFFFFFF, 0x0, 0x0⟩,
  ⟨0x4470, 0, 1, 0x40403E8, 0xFFFFFFF, 0x0, 0x0⟩,
  ⟨0x4474, 0, 1, 0xC01EA60, 0xFFFFFFF, 0x0, 0x0⟩,
  ⟨0x4478, 0, 1, 0xC01EA60, 0xFFFFFFF, 0x0, 0x0⟩,
  ⟨0x447C, 0, 1, 0xD0303E8, 0xFFFFFFF, 0x0, 0x0⟩,
  ⟨0x4480, 0, 1, 0xC0103E8, 0xFFFFFFF, 0x0, 0x0⟩,
  ⟨0x4484, 0, 1, 0xC01EA60, 0xFFFFFFF, 0x0, 0x0⟩,
  ⟨0x4488, 0, 1, 0x801EA60, 0xFFFFFFF, 0x0, 0x0⟩,
  ⟨0x448C, 0, 1, 0xC0103E8, 0xFFFFFFF, 0x0, 0x0⟩,
  ⟨0x4490, 0, 1, 0xC0803E8, 0xFFFFFFF, 0x0, 0x0⟩,
  ⟨0x4494, 0, 1, 0xE0103E8, 0xFFFFFFF, 0x0, 0x0⟩,
  ⟨0x44C0, 4, 22, 0x0, 0x0, 0x0, 0x0⟩]

/-- The registers of block LGAIN. -/
def regsLgain : List RegSpec := [
  ⟨0x4800, 4, 200, 0x80008000, 0x0, 0x0, 0x0⟩]

/-- The registers of block OTP. -/
def regsOtp : List RegSpec := [
  ⟨0xF000, 0, 1, 0x0, 0x0, 0x0, 0x0⟩,
  ⟨0xF004, 0, 1, 0x0, 0x0, 0x0, 0x0⟩,
  ⟨0xF008, 0, 1, 0x0, 0x0, 0x0, 0x0⟩,
  ⟨0xF00C, 0, 1, 0x3E80000, 0x0, 0x0, 0x0⟩,
  ⟨0xF010, 0, 1, 0x7A120, 0x0, 0x0, 0x0⟩,
  ⟨0xF014, 0, 1, 0xF4240, 0x0, 0x0, 0x0⟩,
  ⟨0xF018, 0, 1, 0x16E360, 0x0, 0x0, 0x0⟩,
  ⟨0xF01C, 0, 1, 0x1E8480, 0x0, 0x0, 0x0⟩,
  ⟨0xF020, 0, 1, 0x2625A0, 0x0, 0x0, 0x0⟩,
  ⟨0xF024, 0, 1, 0x2DC6C0, 0x0, 0x0, 0x0⟩,
  ⟨0xF028, 0, 1, 0x3567E0, 0x0, 0x0, 0x0⟩,
  ⟨0xF02C, 0, 1, 0x3D0900, 0x0, 0x0, 0x0⟩,
  ⟨0xF030, 0, 1, 0x44AA20, 0x0, 0x0, 0x0⟩,
  ⟨0xF034, 0, 1, 0x4C4B40, 0x0, 0x0, 0x0⟩,
  ⟨0xF038, 0, 1, 0x53EC60, 0x0, 0x0, 0x0⟩,
  ⟨0xF03C, 0, 1, 0x5B8D80, 0x0, 0x0, 0x0⟩,
  ⟨0xF040, 0, 1, 0x632EA0, 0x0, 0x0, 0x0⟩,
  ⟨0xF044, 0, 1, 0x6ACFC0, 0x0, 0x0, 0x0⟩,
  ⟨0xF048, 0, 1, 0x7270E0, 0x0, 0x0, 0x0⟩,
  ⟨0xF04C, 0, 1, 0x7A1200, 0x0, 0x0, 0x0⟩,
  ⟨0xF050, 0, 1, 0x2710, 0x0, 0x0, 0x0⟩,
  ⟨0xF054, 0, 1, 0x249F0, 0x0, 0x0, 0x0⟩,
  ⟨0xF058, 4, 4, 0x8000, 0x0, 0x0, 0x0⟩,
  ⟨0xF068, 0, 1, 0x80000000, 0x0, 0x0, 0x0⟩,
  ⟨0xF06C, 0, 1, 0x80000000, 0x0, 0x0, 0x0⟩,
  ⟨0xF070, 0, 1, 0xF4240, 0x0, 0x0, 0x0⟩,
  ⟨0xF074, 0, 1, 0x400000, 0x0, 0x0, 0x0⟩,
  ⟨0xF078, 0, 1, 0x0, 0x0, 0x0, 0x0⟩,
  ⟨0xF080, 4, 4, 0x0, 0x0, 0x0, 0x0⟩]

/-- The registers whose addresses lie in the same block as `a` (R9). -/
def regBlock (a : Nat) : List RegSpec :=
  if a < 0x0100 then regsSys else
  if a < 0x0400 then regsTick else
  if a < 0x0800 then regsAcq else
  if a < 0x0A00 then regsHop else
  if a < 0x1000 then regsImg else
  if a < 0x1400 then regsCt else
  if a < 0x1800 then regsOpt else
  if a < 0x1C00 then regsAux else
  if a < 0x2000 then regsCal else
  if a < 0x2400 then regsSeq else
  if a < 0x2800 then regsTm else
  if a < 0x2C00 then regsEd else
  if a < 0x3000 then regsGpio else
  if a < 0x3400 then regsHp else
  if a < 0x3800 then regsXr else
  if a < 0x3C00 then regsCl else
  if a < 0x4000 then regsPp else
  if a < 0x4400 then regsPwr else
  if a < 0x4800 then regsFlt else
  if a < 0x4C00 then regsLgain else if a < 0xF000 then [] else if a < 0x10000 then regsOtp else []

/-- Address `a` is one of the registers that `r` describes. -/
def RegSpec.covers (r : RegSpec) (a : Nat) : Bool :=
  if r.stride = 0 then a == r.base
  else r.base ≤ a && (a - r.base) % r.stride == 0 && (a - r.base) / r.stride < r.count

/-- The register at I/O address `a`; none where no register has that address (R8). -/
def regSpec? (a : Nat) : Option RegSpec := (regBlock a).find? (·.covers a)

/-- The value at reset of the register at `a` (R687); 0 where there is no register. -/
def regReset (a : Nat) : BitVec 32 := BitVec.ofNat 32 (((regSpec? a).map (·.reset)).getD 0)

end Sys2Proof.Machine
end

