-- ==== Sys2Proof/Machine/Sparse.lean ====
section
/-!
DEFINITION. Machine/Sparse.lean: contents listed by key in one canonical form. The keys rise strictly, and no entry
holds what an unlisted key reads as (`dflt`), so that equal contents are equal lists. Used for the memories (XRAM,
DMEM, IMEM), the I/O registers and the core registers.
-/

namespace Sys2Proof.Machine

/-- What key `a` reads as: its listed value, or the default of that key. -/
def sparseGet {α : Type} (dflt : Nat → α) : List (Nat × α) → Nat → α
  | [], a => dflt a
  | (k, v) :: rest, a => if k = a then v else sparseGet dflt rest a

/-- The list without any entry for key `a`. -/
def sparseErase {α : Type} : List (Nat × α) → Nat → List (Nat × α)
  | [], _ => []
  | (k, v) :: rest, a => if k = a then sparseErase rest a else (k, v) :: sparseErase rest a

/-- The list with the entry `(a, v)` put in before the first larger key. -/
def sparseInsert {α : Type} : List (Nat × α) → Nat → α → List (Nat × α)
  | [], a, v => [(a, v)]
  | (k, w) :: rest, a, v =>
    if a < k then (a, v) :: (k, w) :: rest else (k, w) :: sparseInsert rest a v

/-- The contents after key `a` is given value `v`; a value equal to the default is not listed. -/
def sparseSet {α : Type} [DecidableEq α] (dflt : Nat → α) (l : List (Nat × α)) (a : Nat) (v : α) :
    List (Nat × α) :=
  if v = dflt a then sparseErase l a else sparseInsert (sparseErase l a) a v

/-- Every key of the list is above `lo`, the keys rise strictly, and no listed value is its key's default. -/
def sparseWfFrom {α : Type} [DecidableEq α] (dflt : Nat → α) : Nat → List (Nat × α) → Bool
  | _, [] => true
  | lo, (k, v) :: rest => decide (lo ≤ k) && decide (v ≠ dflt k) && sparseWfFrom dflt (k + 1) rest

/-- The canonical form: keys strictly rising, no entry equal to what an unlisted key reads as. -/
def sparseWf {α : Type} [DecidableEq α] (dflt : Nat → α) (l : List (Nat × α)) : Bool :=
  sparseWfFrom dflt 0 l

/-- The entries whose keys fail `drop`: what is left when a part of the contents returns to its defaults. -/
def sparseDrop {α : Type} (drop : Nat → Bool) (l : List (Nat × α)) : List (Nat × α) :=
  l.filter (fun e => !drop e.1)

/-- `n` bytes read from key `a` upwards. -/
def readBytes (dflt : Nat → Byte) (m : List Host.Cell) (a : Nat) : Nat → List Byte
  | 0 => []
  | n + 1 => sparseGet dflt m a :: readBytes dflt m (a + 1) n

/-- The contents after the bytes `bs` are written from key `a` upwards. -/
def writeBytes (dflt : Nat → Byte) : List Host.Cell → Nat → List Byte → List Host.Cell
  | m, _, [] => m
  | m, a, b :: bs => writeBytes dflt (sparseSet dflt m a b) (a + 1) bs

/-- The number that bytes hold, first byte least significant (R2). -/
def leNat : List Byte → Nat
  | [] => 0
  | b :: bs => b.toNat + 256 * leNat bs

/-- `n` bytes that hold `v`, least significant byte first (R2). -/
def leBytes : Nat → Nat → List Byte
  | 0, _ => []
  | n + 1, v => byte v :: leBytes n (v / 256)

end Sys2Proof.Machine
end

