-- ==== Sys2Proof/Machine/State.lean ====
section
/-!
DEFINITION. Machine/State.lean: the state of the EVP3250 as plain data, the reasons a step can stop, and the state at
reset. `Dev` is the device; `State` is the device with the queue of the commands that wait, first in, first out.
Every I/O register is held in `regs` by its address (its reset value where it is not listed, Machine/RegTable.lean);
the structures hold what the chapters give the device beyond its registers.
-/

namespace Sys2Proof.Machine


/-- One report before its header is made (R434, R435): type, TAG and payload (a multiple of 4 bytes). -/
structure Report where
  typ  : Nat
  tag  : Nat
  body : List Byte
deriving DecidableEq, Repr

/-- The open batch (R451): entries executed and not completed, with the TAG, opcode, SEQ and DETAIL of the latest. -/
structure Batch where
  count  : Nat
  tag    : Nat
  op     : Nat
  seq    : Nat
  detail : Nat
deriving DecidableEq, Repr

/-- An asynchronous command in flight (R452): what its COMPLETION will carry, and an argument of its own. -/
structure Async where
  op    : Nat
  tag   : Nat
  seq   : Nat
  count : Nat
  arg   : Nat
deriving DecidableEq, Repr

/-- A FENCE in execution (R490), which has joined the open batch: byte 0 and slot length of its entry, whether it ends
at a tick, its TIMEOUT in ms, and the instant of its start. -/
structure Fence where
  flags   : Nat
  slot    : Nat
  atTick  : Bool
  timeout : Nat
  from_   : Nat
deriving DecidableEq, Repr

/-- What the report writer keeps of reports that found no room (R455). -/
structure Coalesced where
  ups      : List (List Byte)
  touch    : Option (List Byte × List (List Byte))
  key      : Option (Nat × Nat)
  aux0     : Option Report
  aux1     : Option Report
  approach : Option Report
  cal      : List (Nat × Report)
  program  : Option Report
  power    : Option Report
  lost     : List Nat
  overflow : Bool
deriving DecidableEq, Repr

/-- The command fetch unit and the report writer (chapters 14 and 15): the bytes of the established entries that wait
(R447), the open batch, the asynchronous commands in flight, a FENCE in execution, the length and the instant of each
unread report, what is coalesced, the VKEYS of the previous KEY report, and the reports that wait for room. -/
structure Ring where
  established : List (List Byte)
  batch       : Option Batch
  asyncs      : List Async
  fence       : Option Fence
  unread      : List (Nat × Nat)
  coal        : Coalesced
  lastVkeys   : Nat
  waiting     : List Report
deriving DecidableEq, Repr

/-- The window of one fault source (R632): source, opening instant, WIN and LIMIT in use. -/
structure FaultWindow where
  src    : Nat
  opened : Nat
  win    : Nat
  limit  : Nat
deriving DecidableEq, Repr

/-- One entry of the fault log (R504, R644). -/
structure LogEntry where
  src     : Nat
  lasting : Bool
  pinned  : Bool
  events  : Nat
  tstamp  : Nat
  uptime  : Nat
  detail  : Nat
  tick    : Nat
deriving DecidableEq, Repr

/-- Supervision state of chapter 20 that no register holds. `due` lists the actions of lasting records made in the
present command and not yet taken (R647): source, DETAIL and halt cause. `supEls` are the electrodes whose contacts a
degrade of FS03 or FS04 suppresses (R636). -/
structure Flt where
  windows  : List FaultWindow
  log      : List LogEntry
  due      : List (Nat × Nat × Nat)
  forceHop : Bool
  drvOff   : Bool
  supEls   : List Nat
deriving DecidableEq, Repr

/-- The bytes of one program image (R294): header, preset table, tag, and the length given to PROG_LOAD. -/
structure Image where
  header  : List Byte
  presets : List Byte
  tag     : List Byte
  length  : Nat
deriving DecidableEq, Repr

/-- A WAIT in progress (R287): destination register, whether rd is written, mask, start and end of the wait. -/
structure WaitInfo where
  rd    : Nat
  mask  : Nat
  since : Nat
  until_ : Nat
deriving DecidableEq, Repr

/-- The Odzia sequencer (chapters 10 and 11) beyond its registers. `g` lists g1 to g15 that are not 0. -/
structure Seq where
  g         : List (Nat × Word)
  n         : Bool
  z         : Bool
  c         : Bool
  v         : Bool
  e         : Bool
  pc        : Nat
  pReset    : Bool
  pTick     : Bool
  pFrame    : Bool
  pFault    : Bool
  active    : Option Image
  shadow    : Option Image
  wait      : Option WaitInfo
  cycles    : Nat
  budget    : Nat
  exhausted : Bool
  flim      : Nat
  enteredAt : Nat
  heldRun   : Bool
  lateTicks : Nat
  bootFrom  : Option Nat
  bootPos   : Nat
  swapTag   : Nat
  swapWait  : Option Nat
  breakAt   : Nat
deriving DecidableEq, Repr

/-- A domain request in progress (R581): masks, for POWER_REQ its asynchronous command, and whether it still waits for
the end of a consistency check (R600). -/
structure DomReq where
  on    : Nat
  off   : Nat
  cmd   : Option Async
  waits : Bool
deriving DecidableEq, Repr

/-- A state request in progress (R586, R592): kind 1 Heath or 2 Fallow, its command, whether its entry has begun, and
whether it has been answered and the switching off of its domains is under way (R587 step 3, R593 step 5). -/
structure StateReq where
  kind  : Nat
  cmd   : Option Async
  begun : Bool
  done  : Bool
deriving DecidableEq, Repr

/-- Power control (chapter 18) beyond its registers. Masks hold one bit per domain. `fcfg` is PWR_FCFG as the Fallow
request found it (R604), `tsFrom` the instant from which SYS_TSTAMP has run from the LFO (R589), `drainAt` the instant at
which SEQ began to drain (R578), `endRun` whether RUN is cleared once Heath has ended (R642, R652). `tickOff` names too the
OPT domain in DRAIN until a tick (R578). -/
structure Pwr where
  mode     : Nat
  domReqs  : List DomReq
  stateReq : Option StateReq
  onAfter  : Nat
  offAfter : Nat
  tickOn   : Nat
  tickOff  : Nat
  heathOff : Nat
  hcfg     : Nat
  wakeEn   : Nat
  hfoOn    : Bool
  pllOn    : Bool
  pllLost  : Bool
  wakeAt   : Option Nat
  waking   : Bool
  restarted : Nat
  retained : Nat
  fcfg     : Nat
  tsFrom   : Option Nat
  drainAt  : Nat
  endRun   : Bool
deriving DecidableEq, Repr

/-- Start-up control (chapter 19) beyond its registers. -/
structure Sys where
  inReset    : Bool
  seatFell   : Option Nat
  hostQual   : Bool
  returnTo   : Nat
  checkFrom  : Nat
deriving DecidableEq, Repr

/-- The memories (R7, R279, R282, R419): bytes listed by address, and the XRAM words (offsets divided by 8) that
hold one upset bit or an uncorrectable error (R420); `met` holds the faults (source, offset) that ring upkeep has met and
that are not yet counted. -/
structure Mems where
  xram     : List Host.Cell
  dmem     : List Host.Cell
  imemA    : List Host.Cell
  imemB    : List Host.Cell
  single   : List Nat
  poisoned : List Nat
  scrub0   : Nat
  scrub1   : Nat
  met      : List (Nat × Nat)
deriving DecidableEq, Repr

/-- Panel logic beyond its registers (chapter 12): previous-input samples and pending TRIG edges of the timers (one
bit each), the µs counted of a ms in progress per timer, PWM settings in force (PERIOD, DUTY
of G4 and G5), whether the pins are parked after a removal (R616), the bindings that wait for a tick (R479), and SAFEVAL and
SAFEDRV of the image last active (R294, R368). -/
structure Panel where
  tmPrev : Nat
  tmTrig : Nat
  tmFrac : List (Nat × Nat)
  pwm4   : Nat × Nat
  pwm5   : Nat × Nat
  parked : Bool
  edBind : List (Nat × Nat)
  safe   : Nat × Nat
deriving DecidableEq, Repr

/-- Tick generation (chapter 02) beyond its registers: the latest valid VSYNC edge and the number of consecutive valid
edges, the most recently measured VSYNC period, the instant the next tick of the VSYNC source is due and whether that one
is aligned to an edge, the sub-ticks not yet issued, the aligned ticks of earlier display frames that are still held
(R53), the period that follows the previous tick, the previous tick, the tick held for MINPER (R53: 0 none, 1 of the
device's own source, 2 TICK and 3 TICKH of the ring), whether the rest of the frame runs ungated (R56), and whether the
next tick is the first after entry to RUNNING. -/
structure TickGen where
  vsEdge   : Option Nat
  vsValid  : Nat
  vper     : Nat
  due      : Option Nat
  aligned  : Bool
  subLeft  : Nat
  owed     : Nat
  spacing  : Nat
  lastTick : Nat
  held     : Nat
  ungated  : Bool
  first    : Bool
deriving DecidableEq, Repr

/-- One frame from its tick to the end of its processing (R41, R44): its tick, the phases it runs, level, frequency and
modes, the symbol results and corrupt marks of each channel (R76, R82–R87), the self results (electrode, channel, OFFS,
symbols), and what its scans gave: for each column the values by row, or none where they are held (R87, R698); the same
for the two self profiles. `lofs` holds per channel the sum and the number of its listen samples in a run frame of CAL_AFE
(R252); `exch` are in a cluster the ends of its exchange gap and of its retry interval (R526);
`order` are the codes of its scan phases in the order they run (R41), `phaseAt` the instant the phase in progress
began, `lovl` the lowest channel that overloaded in its listen slot (R99), `dead` the electrodes judged open or shorted at
its tick or since, `shut` those of them that are shorted (R92); `cut` marks a frame stopped at its deadline (R57);
`decoded` one whose values have been formed. -/
structure Frame where
  tick      : Nat
  tlast     : Nat
  heath     : Bool
  mutScan   : Bool
  selfScan  : Bool
  approach  : Bool
  order     : List Nat
  phaseAt   : Nat
  dead      : List Nat
  shut      : List Nat
  level     : Nat
  selfLevel : Nat
  freq      : Nat
  gorse     : Bool
  lark      : Bool
  y         : List (List Int)
  bad       : List (List Nat)
  ask       : List Nat
  failed    : List (Nat × Nat)
  ncorr     : Nat
  nretry    : Nat
  ovl       : Option Nat
  lovl      : Option Nat
  listened  : Bool
  mutDone   : Bool
  selfDone  : Nat
  apDone    : Bool
  noRetry   : Bool
  cols      : List (Nat × Option (List Nat))
  selfRaw   : List (Nat × Nat × Nat × Option (List Int))
  selfCols  : List (Nat × Option Nat)
  selfRows  : List (Nat × Option Nat)
  clCorr    : List Nat
  lofs      : List (Nat × Int × Nat)
  exch      : Option (Nat × Nat)
  cut       : Bool
  decoded   : Bool
  at_       : Nat
deriving DecidableEq, Repr

/-- Acquisition (chapters 01 to 03): the frame being acquired, the frame that waits for processing, the frame in
processing; the recording of the listen slot (pair, clipped, samples); whether every electrode is at high impedance (R19);
the frames each electrode has been below OPENTHR (R90); the orientation in force (R33); the pump's target and, after a
change of it, the instant VHV reaches it (R68); whether the recording was made at 4 MS/s (R251). -/
structure Acq where
  now    : Option Frame
  ready  : List Frame
  proc   : Option Frame
  listen : List (Nat × Bool × List Int)
  hiZ    : Bool
  openN  : List (Nat × Nat)
  orient : Nat
  pump   : Nat
  vhvDue : Option Nat
  slow   : Bool
deriving DecidableEq, Repr

/-- Hop control (chapter 04): the pending normal or emergency hop (target, cause, level of FROM) and the pending
forced hop. -/
structure Hop where
  pending : Option (Nat × Nat × Nat)
  forced  : Option Nat
  mPow    : List (Nat × List (Nat × Nat × Nat))
deriving DecidableEq, Repr

/-- One element of the image of this device (R128, R129): a mutual node (kind 0: column, row) or an entry of the column
profile (kind 1: column) or of the row profile (kind 2: row). `m` is the latest valid value since the entry to RUNNING,
`fresh` whether this frame measured it validly, `stale` whether the latest frame that scanned its kind did not (R698), `b`
the Sward value with 8 fraction bits, `neg` the consecutive frames of R146, `sum` and `cnt` the average being formed
(R133, R135), `csum` and `ccnt` that of a clearing group (R139), `step` the step of R140 in this frame. -/
structure Elem where
  kind   : Nat
  c      : Nat
  r      : Nat
  m      : Nat
  mOk    : Bool
  fresh  : Bool
  stale  : Bool
  b      : Int
  excl   : Bool
  frozen : Bool
  neg    : Nat
  sum    : Nat
  cnt    : Nat
  csum   : Nat
  ccnt   : Nat
  step   : Option Int
deriving DecidableEq, Repr

/-- An excluded group (R139): its elements as places in `els`, the instant its quiet time counts from, the slots of the
tracked contacts that have overlapped it, whether one overlaps it, whether a lift was seen, and whether 5 s have passed
without a contact. -/
structure Grp where
  members : List Nat
  quiet   : Nat
  slots   : List Nat
  overlap : Bool
  lifted  : Bool
  still   : Bool
deriving DecidableEq, Repr

/-- An IMAGE_DUMP in progress (R481): what is dumped, the frames to dump and those done, the TAG, and
whether a frame whose processing started before the command is still to pass. -/
structure Dump where
  what   : Nat
  frames : Nat
  done   : Nat
  tag    : Nat
  skip   : Bool
deriving DecidableEq, Repr

/-- A change of frequency or level that waits for the first frame of its tick (R135, R147): the tick, whether the mutual
and the self part are still due, and whether it has been counted. -/
structure Reseat where
  tick    : Nat
  mutDue  : Bool
  selfDue : Bool
  counted : Bool
deriving DecidableEq, Repr

/-- The image engine's Sward state (chapter 05). `mode`: 0 serving, 1 averaging on the kept path (R133), 2 forming on the
model path (R135). `nM`, `nS` count the frames of either. `kept` marks a Sward that may serve the next entry to RUNNING,
`restored` one that CAL_LOAD has loaded (kind, column, row, B). `firstK`: 2 before the first frame of the kept path, 1
before its first mutual frame, else 0 (R133, R134). -/
structure Img where
  els      : List Elem
  hasM     : Bool
  hasS     : Bool
  kept     : Bool
  restored : Option (List (Nat × Nat × Nat × Int))
  mode     : Nat
  nM       : Nat
  nS       : Nat
  firstK   : Nat
  changes  : List Reseat
  reform   : Bool
  groups   : List Grp
  freeze   : List (Nat × Nat × Nat)
  dump     : Option Dump
deriving DecidableEq, Repr

/-- One tracked contact (R172–R177). Positions are reported coordinates in 1/64 mm; `qx`, `qy` those of the frame before.
`cls` is its class code; `downAt` the instant of its latest DOWN; `region` the region it captured; `gDown` the tick
timestamp of its DOWN frame; `sup` whether a degrade suppresses it (R636). The flags after `keyIn` serve R185: sole in its
view, left the tap circle, left the hold circle, produced HOLD, produced a SWIPE, reached SWD. `renew` marks one that was
suppressed for its class and captures afresh when it is reported again (R179). -/
structure Contact where
  slot     : Nat
  id       : Nat
  cls      : Nat
  reported : Bool
  x        : Int
  y        : Int
  qx       : Int
  qy       : Int
  first    : Bool
  state    : Nat
  z        : Nat
  area     : Nat
  major    : Nat
  minor    : Nat
  stale    : Bool
  edge     : Bool
  prov     : Bool
  blob     : List (Nat × Nat)
  peak     : Nat × Nat
  nx       : Int
  ny       : Int
  downAt   : Nat
  gDown    : Nat
  largeAt  : Option Nat
  x0       : Int
  y0       : Int
  region   : Option Nat
  lost     : Bool
  keyIn    : Bool
  sole     : Bool
  leftTap  : Bool
  leftHold : Bool
  didHold  : Bool
  didSwipe : Bool
  swFar    : Bool
  sup      : Bool
  renew    : Bool
deriving DecidableEq, Repr

/-- A pair of contacts captured in one view (R186): its region, the two slots and IDs, starting distance, direction and
midpoint, what has started, and the values last reported. -/
structure GPair where
  region : Nat
  a      : Nat
  b      : Nat
  ida    : Nat
  idb    : Nat
  dx0    : Int
  dy0    : Int
  mx0    : Int
  my0    : Int
  pinch  : Option Int
  rot    : Option Int
  pan    : Option (Int × Int)
  turn   : Int
  mx     : Int
  my     : Int
deriving DecidableEq, Repr

/-- Contacts, regions and gestures (chapter 06) beyond their registers: the tracked contacts, the pairs, the tap
remembered per view (region, position, time; region 32 stands for the wake gestures), the candidate and GLOVE-free
frame counts of Gorse, and a Gorse change due at the next tick. -/
structure Ct where
  contacts : List Contact
  pairs    : List GPair
  taps     : List (Nat × Int × Int × Nat)
  gorseIn  : Nat
  gorseOut : Nat
  gorseDue : Option Bool
deriving DecidableEq, Repr

/-- The approach channel (chapter 07) beyond its registers: the dither LFSR (R199), the off samples of the previous burst
(the sum and the number of the unsaturated ones, the gain factor and the IAMB code; R195), the counts of R202 and R205,
the samples since the last report (R208), and a crosstalk capture in progress: sum of chip results, samples, bursts
(R206). -/
structure Opt where
  lfsr   : Nat
  prev   : Option (Nat × Nat × Nat × Nat)
  okRun  : Nat
  nearN  : Nat
  farN   : Nat
  since  : Nat
  xtSum  : Int
  xtN    : Nat
  xtB    : Nat
deriving DecidableEq, Repr

/-- A converter beyond its registers (chapter 08): configuration and filter in force (R229), the EARLY and the settled
outputs delivered since the synchronising reset (R225, R236), the µs of that reset (R223), whether it switched the test
capacitor on (R221), the read latches of the host and of the program (timestamp, SEQ; R230), and the CAL_AUX values that
wait for the next synchronising reset (OFS, GAIN, taken by a run; R261, R268). -/
structure Conv where
  cfg     : Nat
  filt    : Nat
  early   : Nat
  outs    : Nat
  resetAt : Nat
  tcap    : Bool
  latchH  : Option Nat × Option Nat
  latchP  : Option Nat × Option Nat
  calNext : Option (Nat × Nat × Bool)
deriving DecidableEq, Repr

/-- A window comparator in use (R233): bounds, hysteresis, converter, channel, persistence; runs of R232. -/
structure Win where
  lo    : Int
  hi    : Int
  hys   : Int
  ax    : Nat
  chan  : Nat
  pers  : Nat
  outN  : Nat
  inN   : Nat
deriving DecidableEq, Repr

/-- The auxiliary block: its converters, its windows, and the µs at which the TICK triggers of R228 are due. -/
structure Aux where
  conv    : List Conv
  win     : List Win
  tickDue : List Nat
deriving DecidableEq, Repr

/-- The values of one calibration result (R245): per channel GAIN, LOFS, OFFM, OFFS; per row line gains; the Sward
(kind, column, row, B with 8 fraction bits) and thresholds with σm and σs in 1/4096; panmed. -/
structure CalVals where
  gain  : List (Nat × Nat)
  lofs  : List (Nat × Int)
  offm  : List (Nat × Int)
  offs  : List (Nat × Nat)
  lgain : List (Nat × Nat)
  base  : List (Nat × Nat × Nat × Int)
  thrm  : Nat
  thrs  : Nat
  sigm  : Nat
  sigs  : Nat
  pan   : Int
deriving DecidableEq, Repr

/-- What a pass of a touch-kind run has gathered (R249, R252, R255): its usable frames; the sums, squares and counts of the
elements in the order of `Img.els`; per channel the sums and numbers of listen samples and of code-row-0 results. -/
structure CalPass where
  got     : Nat
  acc     : List (Nat × Nat × Nat)
  lofs    : List (Nat × Int × Nat)
  q0      : List (Nat × Int × Nat)
deriving DecidableEq, Repr

/-- A touch-kind run (R247–R259): kind, CAL_CFG in force at its request, TICK_COUNT of its first tick once that has
come; the first pass's values, or on a cluster member what its first pass gathered; and what the pass has gathered. -/
structure CalTouch where
  kind    : Nat
  cfg     : Nat
  start   : Option Nat
  first   : Option CalVals
  before  : Option CalPass
  pass    : CalPass
deriving DecidableEq, Repr

/-- A CAL_AUX run (R256): converters, CAL_CFG, and per converter the raw outputs delivered so far (the short, VREF/2,
and again in a second pass), and whether one was clamped. -/
structure CalAux where
  sel  : Nat
  cfg  : Nat
  raw  : List (Nat × List Int)
  ovr  : Option Nat
deriving DecidableEq, Repr

/-- What one member has sent of its run so far (R254): node, frame, whether more is to come, column medians, row medians
with their counts. -/
structure Cald where
  src   : Nat
  frame : Nat
  more  : Bool
  cols  : List (Nat × Int)
  rows  : List (Nat × Int × Nat)
deriving DecidableEq, Repr

/-- Calibration beyond its registers: the runs, results that wait (kind, whether AT_BOUNDARY, values; R261), loaded
touch-kind values that wait for the next tick (R268), loaded thresholds that wait for the entry to RUNNING, and in a
cluster the medians that the members have sent the lead, and the line gains that the lead has sent a member so far (R254).
-/
structure Cal where
  touch    : Option CalTouch
  aux      : Option CalAux
  wait     : List (Nat × Bool × CalVals)
  loadTick : Option CalVals
  loadThr  : Option (Nat × Nat)
  cald     : List Cald
  calr     : List Nat
deriving DecidableEq, Repr

/-- A read that holds its data back at a pause point (R392): its address and the bytes asked for, HP_CFG and HP_ATTEN as the
frame found them (R411), and whether R394 bounds its holds. -/
structure HeldRead where
  addr  : Nat
  left  : Nat
  cfg   : Word
  atten : Word
  bound : Bool
deriving DecidableEq, Repr

/-- The host port (chapter 13) beyond its registers: the commit queue (address, bytes), the bytes that the port sent in
the latest frame, a held read, the 64-bit chain register and the bits that the latest chain frame shifted out of it (R409),
whether the latest acknowledged write ended in neither ACCEPTED nor DUP_ACCEPTED (R390), and whether the HOST domain has
been off and HP_ATTN.WAKE is not yet set for its return (R403, R404). -/
structure Hp where
  queue : List (Nat × List Byte)
  out   : List Byte
  held  : Option HeldRead
  chain : BitVec 64
  shifted : List Bool
  ackErr : Bool
  off : Bool
deriving DecidableEq, Repr

/-- A ring frame (R524) as sent or received: TYPE, SRC, DST, SEQ, FRAME, payload and CRC. -/
structure RingFrame where
  typ   : Nat
  src   : Nat
  dst   : Nat
  seq   : Nat
  frame : Nat
  body  : List Byte
  crc   : BitVec 32
deriving DecidableEq, Repr

/-- What the lead has stored of one member's DELTA (R532, R534, R536): the member, the frame number, the bytes in CL_BUF
so far, the columns that have come, by their index among the member's, and whether the last frame has. -/
structure DeltaRx where
  src   : Nat
  frame : Nat
  bytes : Nat
  cols  : List Nat
  last  : Bool
deriving DecidableEq, Repr

/-- A member frame that waits for its ACK (R535): the frame, its resends, the instant of its EOF. -/
structure Unacked where
  f     : RingFrame
  tries : Nat
deriving DecidableEq, Repr

/-- The STAGE of one tick (R530), assembled from its frames. -/
structure Stage where
  tick  : Nat
  flags : Nat
  drive : Nat
  frz   : List (Nat × Nat × Nat)
  rel   : List (Nat × Nat × Nat)
  prf   : List (Nat × Nat × Nat × Nat)
  more  : Bool
deriving DecidableEq, Repr

/-- An enumeration or dissolution in progress on the lead (R516, R517): its step (1 ENUM sent, 2 MEASURE, 3 CONFIG
sent, 4 LEAVE sent), EXPECT, the MEASURE echoes' sum and number, the members that confirmed. -/
structure EnumRun where
  step   : Nat
  expect : Nat
  sum    : Nat
  count  : Nat
  oks    : List Nat
  cmd    : Async
deriving DecidableEq, Repr

/-- The cluster ring (chapter 16) beyond its registers: what the node has sent on CLO and not yet idled over (frames and
K-characters), sequence numbers per type, the last accepted SEQ per member and type, frames that wait for an ACK, the
STAGE received for the next tick, the STAGE sent and whether its echo returned, members' DELTA columns of the frame,
members missing in a row, the retries chosen, holdover ticks, enumeration, the check's answers, members' row blocks and
answers, stopped members, whether another node has PASS2 = 1 (R81), the areas of releases for the next STAGE, whether a
re-formation is still to be announced, whether a member has rejected its Sward (R159), whether the lead's CLI lost its
lock while its cluster ran (R538), whether the receiver has locked while RING ramps up (R513, R572), whether the node has
left its running cluster by a DOWN (R537), the freeze set in force on a lead (R531), and what has come of the members'
DELTAs. -/
structure Cl where
  tx       : List RingFrame
  txK      : List Nat
  seqs     : List (Nat × Nat)
  seen     : List (Nat × Nat × Nat)
  unacked  : List Unacked
  staged   : Option Stage
  sent     : Option Stage
  echoed   : Bool
  resent   : Nat
  deltaEls : List (Nat × Nat × Nat × Int × Bool)
  done     : List Nat
  missing  : List (Nat × Nat)
  corr     : List (Nat × List Nat)
  retry    : Option (List Nat)
  retryAck : Bool
  down     : List Nat
  holdN    : Nat
  enum     : Option EnumRun
  checks   : List (Nat × Nat × Nat)
  lines    : List (Nat × List Nat × List Nat)
  dcaps    : List (Nat × Nat)
  swst     : List (Nat × Nat)
  tcap     : List Nat
  capLevel : Nat
  clearRun : Bool
  lossN    : List Nat
  checkReq : Bool
  larkSelf : Nat
  pass2    : Bool
  rel      : List (Nat × Nat × Nat)
  reform   : Bool
  rejected : Bool
  unlocked : Bool
  locked   : Bool
  quit     : Bool
  frz      : List (Nat × Nat × Nat)
  rx       : List DeltaRx
deriving DecidableEq, Repr

/-- One transfer of the periphery port (R558): its descriptor (8 for PERI_XFER, 9 for a boot frame), its command, the
four words that describe it (as PP_DCTL, PP_DCMD, PP_DADR and PP_DBUF). -/
structure Xfer where
  desc : Nat
  cmd  : Option Async
  ctl  : Nat
  dcmd : Nat
  adr  : Nat
  buf  : Nat
deriving DecidableEq, Repr

/-- The frame in progress (R558): its transfer, the target configuration it started with (R566), the bytes of a write that
the port had prefetched before it selected the target (R552), whether a mark is awaited, and whether it has paused. -/
structure PpFrame where
  x      : Xfer
  tcfg   : Nat
  tmark  : Nat
  fifo   : List Byte
  mark   : Bool
  paused : Bool
deriving DecidableEq, Repr

/-- What the port has prefetched for the next queued write while another frame runs (R552): its transfer, the bytes, and the
first poisoned word among them. -/
structure PpAhead where
  x   : Xfer
  fifo : List Byte
  bad  : Option Nat
deriving DecidableEq, Repr

/-- The periphery port (chapter 17) beyond its registers: queue, frame in progress, and the PSCK cycles of the present or
latest frame that have a stated level on PIO3 to PIO0: the lines with one, and their levels (R549–R551). `ahead` is what has
been prefetched for the next write; `haltAt` is when a halt left a frame running on under the rules of DRAIN (R463). -/
structure Pp where
  queue  : List Xfer
  active : Option PpFrame
  wire   : List (Nat × Nat)
  ahead  : Option PpAhead
  haltAt : Option Nat
deriving DecidableEq, Repr

/-- The device. -/
structure Dev where
  clock     : Nat
  freeCount : Nat
  regs      : List (Nat × Word)
  staged    : List (Nat × Word)
  mem       : Mems
  sys       : Sys
  tick      : TickGen
  acq       : Acq
  hop       : Hop
  img       : Img
  ct        : Ct
  opt       : Opt
  aux       : Aux
  cal       : Cal
  seq       : Seq
  panel     : Panel
  hp        : Hp
  ring      : Ring
  cl        : Cl
  pp        : Pp
  pwr       : Pwr
  flt       : Flt
deriving DecidableEq, Repr

/-- The machine: the commands that wait, first in, first out, and the device. -/
structure State where
  pending : List Instr
  dev     : Dev
deriving DecidableEq, Repr

/-! ### Why a step can stop -/

/-- Reasons for a fault outcome. The device reports every fault it detects through its own registers and reports
(chapter 20), and goes on: no command ends in one. -/
inductive Fault where
  /-- Raised by no meaning; safe. -/
  | none
deriving DecidableEq, Repr

/-- Reasons for a refusal. -/
inductive Refusal where
  /-- Raised by the dispatch for a command whose meaning is not written; safe. No arm uses it. -/
  | notModelled (mnemonic : String)
deriving DecidableEq, Repr

/-! ### Reset -/

def Conv.reset : Conv := ⟨0, 0, 0, 0, 0, false, (none, none), (none, none), none⟩
def Win.reset : Win := ⟨0, 0, 0, 0, 0, 1, 0, 0⟩
def Acq.reset : Acq :=
  { now := none, ready := [], proc := none, listen := [], hiZ := true, openN := [], orient := 0, pump := 0, vhvDue := none,
    slow := false }
def Hop.reset : Hop := ⟨none, none, []⟩
def Img.reset : Img :=
  { els := [], hasM := false, hasS := false, kept := false, restored := none, mode := 0, nM := 0, nS := 0,
    firstK := 0, changes := [], reform := false,
    groups := [], freeze := [], dump := none }
def Ct.reset : Ct := ⟨[], [], [], 0, 0, none⟩
def Opt.reset (lfsr : Nat) : Opt := ⟨lfsr, none, 0, 0, 0, 0, 0, 0, 0⟩
def Aux.reset : Aux := ⟨List.replicate 2 Conv.reset, List.replicate 8 Win.reset, []⟩
def Cal.reset : Cal := ⟨none, none, [], none, none, [], []⟩
def Seq.reset : Seq :=
  { g := [], n := false, z := false, c := false, v := false, e := false, pc := 0, pReset := false, pTick := false,
    pFrame := false, pFault := false, active := none, shadow := none, wait := none, cycles := 0, budget := 0,
    exhausted := false, flim := 0, enteredAt := 0, heldRun := false, lateTicks := 0, bootFrom := none, bootPos := 0,
    swapTag := 0, swapWait := none, breakAt := 0 }
def Panel.reset : Panel := ⟨0, 0, [], (1000, 0), (1000, 0), false, [], (0, 0)⟩
def Hp.reset : Hp := ⟨[], [], none, 0, [], false, false⟩
def Coalesced.reset : Coalesced := ⟨[], none, none, none, none, none, [], none, none, List.replicate 8 0, false⟩
def Ring.reset : Ring := ⟨[], none, [], none, [], Coalesced.reset, 0, []⟩
def Cl.reset : Cl :=
  { tx := [], txK := [], seqs := [], seen := [], unacked := [], staged := none, sent := none, echoed := false,
    resent := 0, deltaEls := [], done := [], missing := [], corr := [], retry := none, retryAck := false,
    down := [], holdN := 0, enum := none, checks := [], lines := [], dcaps := [], swst := [], tcap := [],
    capLevel := 0, clearRun := false, lossN := [], checkReq := false, larkSelf := 0, pass2 := false,
    rel := [], reform := false, rejected := false, unlocked := false, locked := false, quit := false, frz := [], rx := [] }
def Pp.reset : Pp := ⟨[], none, [], none, none⟩
def Pwr.reset : Pwr :=
  { mode := 0, domReqs := [], stateReq := none, onAfter := 0, offAfter := 0, tickOn := 0, tickOff := 0, heathOff := 0,
    hcfg := 0, wakeEn := 0, hfoOn := false, pllOn := false, pllLost := false, wakeAt := none, waking := false,
    restarted := 0, retained := 0, fcfg := 0, tsFrom := none, drainAt := 0, endRun := false }
def Flt.reset : Flt := ⟨[], [], [], false, false, []⟩
def TickGen.reset : TickGen :=
  { vsEdge := none, vsValid := 0, vper := 0, due := none, aligned := false, subLeft := 0, owed := 0, spacing := 0, lastTick := 0,
    held := 0, ungated := false, first := false }
def Mems.reset : Mems := ⟨[], [], [], [], [], [], 0, 0, []⟩

/-- The device held in reset after power-on: every register at its reset value, SYS_RESET.POR 1 (R611, R630), SEAT_N high
by its pull-up (R614; log entry 6). The register list holds only what differs from the reset column. -/
def Dev.reset : Dev :=
  { clock := 0, freeCount := 0, regs := [(0x18, 4), (0x1C, 1)], staged := [], mem := Mems.reset,
    sys := ⟨true, none, false, 0, 0⟩,
    tick := TickGen.reset, acq := Acq.reset, hop := Hop.reset, img := Img.reset, ct := Ct.reset,
    opt := Opt.reset 0xACE1, aux := Aux.reset, cal := Cal.reset, seq := Seq.reset, panel := Panel.reset, hp := Hp.reset,
    ring := Ring.reset, cl := Cl.reset, pp := Pp.reset, pwr := Pwr.reset, flt := Flt.reset }

/-- The machine at reset: no command waits. -/
def State.reset : State := ⟨[], Dev.reset⟩

end Sys2Proof.Machine
end

