-- ==== Sys2Proof/Machine/Ops.lean ====
section
/-!
DEFINITION. Machine/Ops.lean: the named operations over the registers, the memories, the clock, the domains, the
event bits and the attention bits, which every meaning uses.
-/

namespace Sys2Proof.Machine

/-! ### Registers -/

/-- The I/O register at address `a`, as held (R4; hard-wired and computed values are the reader's, `Dev.ioRead`). -/
def Dev.reg (d : Dev) (a : Nat) : Word := sparseGet regReset d.regs a

/-- The device with `v` in the I/O register at `a`. -/
def Dev.setReg (d : Dev) (a : Nat) (v : Word) : Dev := { d with regs := sparseSet regReset d.regs a v }

/-- The bits of a field in its register. -/
def Field.mask (f : Field) : Word := word ((2 ^ f.width - 1) * 2 ^ f.lo)

/-- The value of a field within a register's value. -/
def Field.of (f : Field) (v : Word) : Nat := v.toNat / 2 ^ f.lo % 2 ^ f.width

/-- A register's value with the field set to `n` modulo its width. -/
def Field.into (f : Field) (v : Word) (n : Nat) : Word :=
  (v &&& ~~~ f.mask) ||| (word (n % 2 ^ f.width * 2 ^ f.lo) &&& f.mask)

/-- The value of a field. -/
def Dev.get (d : Dev) (f : Field) : Nat := f.of (d.reg f.addr)

/-- Whether a field is not 0. -/
def Dev.is (d : Dev) (f : Field) : Bool := d.get f != 0

/-- The device with field `f` set to `n`. -/
def Dev.put (d : Dev) (f : Field) (n : Nat) : Dev := d.setReg f.addr (f.into (d.reg f.addr) n)

/-- The device with the one-bit field `f` set to `b`. -/
def Dev.putB (d : Dev) (f : Field) (b : Bool) : Dev := d.put f (if b then 1 else 0)

/-- A counter field raised by `k`, held at its largest value (the saturating counters of R646). -/
def Dev.satAdd (d : Dev) (f : Field) (k : Nat) : Dev := d.put f (min (d.get f + k) (2 ^ f.width - 1))

/-- A counter field raised by one, saturating. -/
def Dev.inc (d : Dev) (f : Field) : Dev := d.satAdd f 1

/-- A counter field raised by one, wrapping. -/
def Dev.incWrap (d : Dev) (f : Field) : Dev := d.put f (d.get f + 1)

/-- The two's complement value of `n` in `w` bits. -/
def signed (w n : Nat) : Int := if n % 2 ^ w < 2 ^ (w - 1) then (n % 2 ^ w : Int) else (n % 2 ^ w : Int) - 2 ^ w

/-- The `w`-bit two's complement code of `i`. -/
def unsigned (w : Nat) (i : Int) : Nat := (i % (2 ^ w : Int)).toNat

/-- The value of a field taken as two's complement. -/
def Dev.getS (d : Dev) (f : Field) : Int := signed f.width (d.get f)

/-- Bit `k` of `n`. -/
def bitOf (n k : Nat) : Bool := n / 2 ^ k % 2 == 1

/-- `n` with bit `k` set to `b`. -/
def setBit (n k : Nat) (b : Bool) : Nat :=
  if bitOf n k then (if b then n else n - 2 ^ k) else (if b then n + 2 ^ k else n)

/-- The bits of `m` that are set, as a list of numbers below `w`. -/
def bitsOf (w m : Nat) : List Nat := (List.range w).filter (bitOf m)

/-- Clamp to `lo`..`hi`. -/
def clampI (lo hi i : Int) : Int := max lo (min hi i)

/-- `a / b` rounded to the nearest integer, halves away from zero (R140; the model's default rounding, log entry 12). -/
def roundDiv (a : Int) (b : Nat) : Int :=
  if 0 ≤ a then (2 * a + b) / (2 * b) else -((-2 * a + b) / (2 * b))

/-- `a / b` rounded up. -/
def ceilDiv (a b : Nat) : Nat := (a + b - 1) / b

/-! ### Staged values (R4, R13) -/

/-- The RWS bits of the register at `a`. -/
def rwsMask (a : Nat) : Word := word (((regSpec? a).map (·.rws)).getD 0)

/-- The value staged for the register at `a`, if one waits for the next tick. -/
def Dev.stagedAt (d : Dev) (a : Nat) : Option Word := d.staged.lookup a

/-- Whether a tick is being generated: STATE is RUNNING, STOPPING or HEATH (R5). -/
def Dev.ticking (d : Dev) : Bool :=
  let s := d.get R.SYS_STATUS_STATE
  s == 3 || s == 4 || s == 7

/-- A write of the RWS bits of the register at `a`: staged while a tick is generated (a later staged value replaces
an earlier one, R13), and at once otherwise, where a later tick does not apply it again (R5). -/
def Dev.stage (d : Dev) (a : Nat) (v : Word) : Dev :=
  let m := rwsMask a
  if d.ticking then { d with staged := (a, v &&& m) :: d.staged.filter (fun e => e.1 != a) }
  else { d.setReg a ((d.reg a &&& ~~~ m) ||| (v &&& m)) with staged := d.staged.filter (fun e => e.1 != a) }

/-- Every staged value takes force (R4, R13). -/
def Dev.applyStaged (d : Dev) : Dev :=
  let d' := d.staged.foldr (fun e d => d.setReg e.1 ((d.reg e.1 &&& ~~~ rwsMask e.1) ||| (e.2 &&& rwsMask e.1))) d
  { d' with staged := [] }

/-- A register's value with its staged bits in place of those in force: what a read returns (R4). -/
def Dev.viewReg (d : Dev) (a : Nat) : Word :=
  match d.stagedAt a with
  | some v => (d.reg a &&& ~~~ rwsMask a) ||| (v &&& rwsMask a)
  | none => d.reg a

/-! ### Time -/

/-- µs since end of reset at the instant `t` of the clock. In Heath the count advances from the LFO, at every period of
31.25 µs to the instant rounded to whole µs, and it goes on from the HFO after it, so that it never steps backward (R589,
R659; DEDUCED, log entry 20). -/
def Dev.microsAt (d : Dev) (t : Nat) : Nat :=
  match d.pwr.tsFrom with
  | none => t
  | some t0 => if t < t0 then t else t0 + (125 * (4 * (t - t0) / 125) + 2) / 4

/-- µs since end of reset, now. -/
def Dev.micros (d : Dev) : Nat := d.microsAt d.clock

/-- SYS_TSTAMP: µs since end of reset, 32 bits (R630). -/
def Dev.tstamp (d : Dev) : Nat := d.micros % 2 ^ 32

/-- SYS_UPTIME: one per 1000000 µs (R630). -/
def Dev.uptime (d : Dev) : Nat := d.micros / 1000000 % 2 ^ 32

/-- The frame number: the low 16 bits of TICK_COUNT. -/
def Dev.frameNo (d : Dev) : Nat := d.get R.TICK_COUNT_COUNT % 65536

/-! ### Device state -/

/-- SYS_STATUS.STATE. -/
def Dev.st (d : Dev) : Nat := d.get R.SYS_STATUS_STATE

/-- Names of the device states (table "Device states"). -/
def stBootWait : Nat := 0
def stReady : Nat := 1
def stChecking : Nat := 2
def stRunning : Nat := 3
def stStopping : Nat := 4
def stHalted : Nat := 5
def stParked : Nat := 6
def stHeath : Nat := 7
def stFallowExit : Nat := 8

/-- The device with SYS_STATUS.STATE set. -/
def Dev.setSt (d : Dev) (s : Nat) : Dev := d.put R.SYS_STATUS_STATE s

/-- States in which configuration writes are held off: CHECKING, RUNNING, STOPPING, HEATH. -/
def Dev.busyState (d : Dev) : Bool := d.st == stChecking || d.ticking

/-- A value staged in CHECKING too, where the register's own rule says so (R122, R191, R192, R428). -/
def Dev.stageBusy (d : Dev) (a : Nat) (v : Word) : Dev :=
  if d.busyState then { d with staged := (a, v &&& rwsMask a) :: d.staged.filter (fun e => e.1 != a) } else d.stage a v

/-! ### Power domains (R572–R574) -/

/-- The domain that holds the registers at address `a`; none for the always-on blocks (R572, R573). -/
def regDomain (a : Nat) : Option Nat :=
  if a < 0x400 then none
  else if a < 0x1400 then some 6
  else if a < 0x1800 then some 11
  else if a < 0x1C00 then some 10
  else if a < 0x2000 then some 6
  else if a < 0x2400 then some 0
  else if a < 0x3800 then none
  else if a < 0x3C00 then some 8
  else if a < 0x4000 then some 9
  else if a < 0x4800 then none
  else if a < 0x4C00 then some 6
  else none

/-- The field of PWR_DST0 or PWR_DST1 that holds the state of domain `k`. -/
def domField (k : Nat) : Field :=
  if k < 8 then ⟨R.PWR_DST0, 4 * k, 4⟩ else ⟨R.PWR_DST1, 4 * (k - 8), 4⟩

/-- The state of domain `k`: 0 OFF, 1 RAMP_UP, 2 ON, 3 DRAIN, 4 RAMP_DOWN, 5 RESTART (R605). -/
def Dev.dom (d : Dev) (k : Nat) : Nat := d.get (domField k)

/-- Whether domain `k` is ON. -/
def Dev.domOn (d : Dev) (k : Nat) : Bool := d.dom k == 2

/-- Domain `k` set to state `s`; PWR_ON shows the domains in ON (R576). -/
def Dev.setDom (d : Dev) (k s : Nat) : Dev :=
  let d := d.put (domField k) s
  d.put R.PWR_ON_ON (setBit (d.get R.PWR_ON_ON) k (s == 2))

/-- The mask of the domains in ON. -/
def Dev.domsOn (d : Dev) : Nat := d.get R.PWR_ON_ON

/-- Whether the registers at `a` can be reached: their domain is ON, or they are always on (R574). -/
def Dev.regReachable (d : Dev) (a : Nat) : Bool :=
  match regDomain a with
  | none => true
  | some k => d.domOn k

/-! ### Attention and events -/

/-- The attention bits for a halt are set again at once while a halt holds (R403). -/
def Dev.holdAttn (d : Dev) : Dev :=
  if d.st == stHalted || d.get R.SEQ_STATUS_STATE == 5 then d.put R.HP_ATTN_HALT 1 else d

/-- Whether attention is asserted (R402). -/
def Dev.attention (d : Dev) : Bool := (d.reg R.HP_ATTN &&& d.reg R.HP_ATTEN) != 0

/-- The core is powered and clocked: domain SEQ is ON, or in DRAIN, where a handler runs on to its return (R578). -/
def Dev.seqLive (d : Dev) : Bool := d.domOn 0 || d.dom 0 == 3

/-- The device sets bit `b` of SEQ_EVPEND (R286); the bit is held in the SEQ domain (R574). -/
def Dev.event (d : Dev) (b : Nat) : Dev :=
  if d.seqLive then d.put R.SEQ_EVPEND_EV (setBit (d.get R.SEQ_EVPEND_EV) b true) else d

/-- Event source numbers (table "Event sources"). -/
def evStart : Nat := 0
def evMbox : Nat := 1
def evDoorbell : Nat := 2
def evWc : Nat := 3
def evEd : Nat := 4
def evTm : Nat := 5
def evPp : Nat := 6
def evCal : Nat := 7
def evVkey : Nat := 8
def evAppr : Nat := 9
def evHop : Nat := 10

/-! ### Memories -/

/-- What a byte of XRAM that is not listed reads as: 0 (R422). -/
def xramDflt (_ : Nat) : Byte := 0

/-- What a byte of DMEM that nothing has written reads as: 0 (DESIGN CHOICE, log entry 8). -/
def dmemDflt (_ : Nat) : Byte := 0

/-- What a byte of an IMEM bank that nothing has written reads as: 0xFF, the erased word of R314 (DESIGN CHOICE, log
entry 8). -/
def imemDflt (_ : Nat) : Byte := 0xFF

/-- The XRAM bank that holds offset `o`. -/
def bankOf (o : Nat) : Nat := if o < 0x8000 then 0 else 1

/-- Whether the XRAM bank that holds offset `o` is ON (domains 1 and 2, R572). -/
def Dev.xramOn (d : Dev) (o : Nat) : Bool := d.domOn (1 + bankOf o)

/-- Byte `o` of XRAM as stored. -/
def Dev.xb (d : Dev) (o : Nat) : Byte := sparseGet xramDflt d.mem.xram o

/-- `n` bytes of XRAM from offset `o`. -/
def Dev.xbytes (d : Dev) (o n : Nat) : List Byte := readBytes xramDflt d.mem.xram o n

/-- The little-endian number in `n` bytes of XRAM from offset `o` (R2). -/
def Dev.xle (d : Dev) (o n : Nat) : Nat := leNat (d.xbytes o n)

/-- XRAM after a client writes bytes from offset `o`: words are written with valid ECC, so a single upset of a word
that is written is gone (R420). -/
def Dev.xwrite (d : Dev) (o : Nat) (bs : List Byte) : Dev :=
  { d with mem := { d.mem with
      xram := writeBytes xramDflt d.mem.xram o bs
      single := d.mem.single.filter (fun w => !(decide (o < 8 * w + 8) && decide (8 * w < o + bs.length))) } }

/-- Words of XRAM (offset divided by 8) that bytes `o`..`o+n-1` touch and that hold an uncorrectable error. -/
def Dev.poisonIn (d : Dev) (o n : Nat) : List Nat :=
  (d.mem.poisoned.filter (fun w => decide (o < 8 * w + 8) && decide (8 * w < o + n)))

/-- The report writer, which writes whole words, clears poison (R420). -/
def Dev.xwriteWhole (d : Dev) (o : Nat) (bs : List Byte) : Dev :=
  let d := d.xwrite o bs
  { d with mem := { d.mem with
      poisoned := d.mem.poisoned.filter (fun w => !(decide (o ≤ 8 * w) && decide (8 * w + 8 ≤ o + bs.length))) } }

/-- The client codes of the table "XRAM clients"; 7 is the scrub. -/
def clHost : Nat := 0
def clSeq : Nat := 1
def clImg : Nat := 2
def clRing : Nat := 3
def clPeri : Nat := 4
def clCqf : Nat := 5
def clRqw : Nat := 6
def clScrub : Nat := 7

/-- The words that `n` bytes from offset `o` touch. -/
def wordsOf (o n : Nat) : List Nat := if n = 0 then [] else (List.range ((o + n - 1) / 8 + 1 - o / 8)).map (· + o / 8)

/-- An access of `client` meets word `w` (offset divided by 8): a single upset is corrected and written back, an
uncorrectable one stays; each is recorded, and is to be counted as FS0B or FS0C (R420). -/
def Dev.eccMeet (d : Dev) (client w : Nat) : Dev :=
  if d.mem.single.contains w then
    let d : Dev := { d with mem := { d.mem with single := d.mem.single.filter (· != w), met := d.mem.met ++ [(0x0B, 8 * w)] } }
    ((d.put R.XR_ECCSB_OFFSET (8 * w)).put R.XR_ECCSB_VALID 1).put R.XR_ECCSB_CLIENT client
  else if d.mem.poisoned.contains w then
    let d : Dev := { d with mem := { d.mem with met := d.mem.met ++ [(0x0C, 8 * w)] } }
    ((d.put R.XR_ECCDB_OFFSET (8 * w)).put R.XR_ECCDB_VALID 1).put R.XR_ECCDB_CLIENT client
  else d

/-- A write of a client, word by word (R419, R420): a whole word replaces what stood there; a part of a word is a
read-modify-write, which meets the word's ECC and leaves a poisoned word unchanged. -/
def Dev.xwriteClean (d : Dev) (client o : Nat) (bs : List Byte) : Dev :=
  (wordsOf o bs.length).foldl (fun d w =>
    let lo := max o (8 * w)
    let hi := min (o + bs.length) (8 * w + 8)
    let part := (bs.drop (lo - o)).take (hi - lo)
    if part.length = 8 then d.xwriteWhole lo part
    else if d.mem.poisoned.contains w then d.eccMeet client w
    else (d.eccMeet client w).xwrite lo part) d

/-- A free value, and the device with the counter that numbers the free values advanced (log entry 3). -/
def Dev.fresh (d : Dev) : Nat × Dev := (Config.freeNat d.freeCount, { d with freeCount := d.freeCount + 1 })

end Sys2Proof.Machine
end

