-- ==== Sys2Proof/Machine/Reports.lean ====
section
/-!
DEFINITION. Machine/Reports.lean: the report writer (R434–R437, R440–R445, R451–R458) and the payloads of the reports
(R491–R504): entry headers, PAD at the ring end, room and reservations, completions, the fault slot, coalescing.
-/

namespace Sys2Proof.Machine

/-! ### Entries -/

/-- Bytes 0 to 6 XORed together, then with 0x5A (R435). -/
def hchk (bs : List Byte) : Byte := bs.foldl (· ^^^ ·) 0x5A

/-- The slot length of an entry of `n` bytes: rounded up to a multiple of 8 (R434). -/
def slotLen (n : Nat) : Nat := (n + 7) / 8 * 8

/-- An entry as it stands in its ring: header (R435), payload, and fill written as 0 (R434). -/
def entryBytes (flags typ tag seq : Nat) (body : List Byte) : List Byte :=
  let h := [byte flags, byte typ] ++ leBytes 2 ((8 + body.length) / 4) ++ leBytes 2 tag ++ [byte seq]
  h ++ [hchk h] ++ body ++ List.replicate (slotLen (8 + body.length) - (8 + body.length)) 0

def Dev.rqSize (d : Dev) : Nat := 2 ^ d.get R.RQ_GEOM_SZ
def Dev.rqBase (d : Dev) : Nat := d.get R.RQ_GEOM_BASE

/-- Unread bytes of the report ring (R440). -/
def Dev.rqUnread (d : Dev) : Nat := (d.get R.RQ_PI_INDEX + 65536 - d.get R.RQ_CI_INDEX) % 65536

/-- Free space of the report ring (R440). -/
def Dev.rqFree (d : Dev) : Nat := d.rqSize - d.rqUnread

/-- PAD bytes needed before an entry of slot length `n`: no entry crosses the ring end (R434). -/
def Dev.rqPad (d : Dev) (n : Nat) : Nat :=
  let pos := d.get R.RQ_PI_INDEX % d.rqSize
  if d.rqSize < pos + n then d.rqSize - pos else 0

/-- Bytes the report takes with any PAD. -/
def Dev.rqNeed (d : Dev) (r : Report) : Nat :=
  let n := slotLen (8 + r.body.length)
  d.rqPad n + n

/-- One entry written at RQ_PI, with its SEQ (R436), OWN in OWNER mode (R443), and RQ_PI advanced after it (R445). -/
def Dev.rqPut (d : Dev) (typ tag : Nat) (body : List Byte) : Dev :=
  let n := slotLen (8 + body.length)
  let pos := d.get R.RQ_PI_INDEX % d.rqSize
  let flags := if d.is R.RQ_CTRL_MODE then 0x80 else 0
  let bs := entryBytes flags typ tag (d.get R.RQ_SEQX_SEQ) body
  let d := d.xwriteWhole (d.rqBase + pos) bs
  let d := d.put R.RQ_SEQX_SEQ (d.get R.RQ_SEQX_SEQ + 1)
  let d := d.put R.RQ_PI_INDEX (d.get R.RQ_PI_INDEX + n)
  { d with ring := { d.ring with unread := d.ring.unread ++ [(n, d.clock)] } }

/-- HP_ATTN.RQ is set while one of the conditions of R458 holds, and falls with the last of them. -/
def Dev.rqAttn (d : Dev) : Dev :=
  let old := match d.ring.unread with
    | [] => false
    | (_, t) :: _ => d.get R.RQ_WM_TMO != 0 && decide (t + d.get R.RQ_WM_TMO ≤ d.clock)
  d.putB R.HP_ATTN_RQ (decide (d.get R.RQ_WM_LEVEL ≤ d.rqUnread) || old || d.is R.RQ_STATUS_COAL)

/-- The report written with the PAD it needs (R434). -/
def Dev.rqEmit (d : Dev) (r : Report) : Dev :=
  let pad := d.rqPad (slotLen (8 + r.body.length))
  let d := if pad = 0 then d else d.rqPut 0 0 (List.replicate (pad - 8) 0)
  (d.rqPut r.typ r.tag r.body).rqAttn

/-- The report writer runs: RQ enabled (R457), the device neither halted (R450) nor in Fallow (R645). -/
def Dev.rqRuns (d : Dev) : Bool :=
  d.is R.RQ_CTRL_EN && d.st != stHalted && d.pwr.mode != 2

/-- Room for a report that is neither a reserved COMPLETION nor a FAULT in the fault slot (R454). -/
def Dev.rqRoom (d : Dev) (r : Report) : Bool :=
  d.rqRuns && decide (d.rqNeed r + 24 * d.get R.RQ_STATUS_HELD + 24 ≤ d.rqFree)

/-- Whether a report can be written now: room, and no OVERFLOW due before it (R456). -/
def Dev.rqCan (d : Dev) (r : Report) : Bool := d.rqRoom r && !d.ring.coal.overflow

/-- The unread entries dropped from the front of the list up to `n` freed bytes. -/
def dropUnread : List (Nat × Nat) → Nat → List (Nat × Nat)
  | [], _ => []
  | (k, t) :: rest, n => if k ≤ n then dropUnread rest (n - k) else (k - n, t) :: rest

/-- OWNER mode: RQ_CI advances over the entries whose byte 0 the host has returned, in ring order (R443). -/
def Dev.reclaimAll (d : Dev) : Nat → Dev
  | 0 => d
  | fuel + 1 =>
    match d.ring.unread with
    | [] => d
    | (n, _) :: rest =>
      let o := d.rqBase + d.get R.RQ_CI_INDEX % d.rqSize
      let d := d.eccMeet clRqw (o / 8)
      if bitOf (d.xb o).toNat 7 then d
      else
        let d := d.put R.RQ_CI_INDEX (d.get R.RQ_CI_INDEX + n)
        Dev.reclaimAll { d with ring := { d.ring with unread := rest } } fuel

/-- The report writer reads the returned entries when its known free space does not cover the next write (R443). -/
def Dev.reclaim (d : Dev) (r : Report) : Dev :=
  if d.is R.RQ_CTRL_MODE && d.rqRuns && !d.rqRoom r then (d.reclaimAll d.ring.unread.length).rqAttn else d

/-- At each tick while coalesced reports are pending the report writer reads the returned entries (R443). -/
def Dev.reclaimTick (d : Dev) : Dev :=
  if d.is R.RQ_CTRL_MODE && d.rqRuns && d.is R.RQ_STATUS_COAL then (d.reclaimAll d.ring.unread.length).rqAttn else d

/-! ### Reports that find no room (R455) -/

/-- Number `k` of the eight counts of R501, for the report types TOUCH to POWER. -/
def lostIndex (typ : Nat) : Nat :=
  if typ = 0x81 then 0 else if typ = 0x82 then 1 else if typ = 0x83 then 2 else if typ = 0x84 then 3
  else if typ = 0x85 then 4 else if typ = 0x87 then 5 else if typ = 0x8A then 6 else 7

/-- A report of type `typ` was replaced while pending, or lost: RQ_LOST and its OVERFLOW count (R455, R501). -/
def Dev.rqLost (d : Dev) (typ : Nat) : Dev :=
  let l := d.ring.coal.lost
  let k := lostIndex typ
  let l' := l.set k (min (l.getD k 0 + 1) 0xFFFF)
  let d := d.inc R.RQ_LOST_LOST
  { d with ring := { d.ring with coal := { d.ring.coal with lost := l', overflow := true } } }

/-- RQ_STATUS.COAL is 1 while anything is pending (R455). -/
def Dev.rqPending (d : Dev) : Dev :=
  (({ d with ring := { d.ring with coal := { d.ring.coal with overflow := true } } }).put R.RQ_STATUS_COAL 1).rqAttn

/-- A byte of a payload with bit `k` set. -/
def orBit (body : List Byte) (i k : Nat) : List Byte := body.set i (body.getD i 0 ||| byte (2 ^ k))

/-- Whether a contact record of R177 is an UP record. -/
def recIsUp (r : List Byte) : Bool := (r.getD 1 0).toNat % 16 == 4

/-- UP records kept: at most 32, the oldest dropped with one added to RQ_LOST (R493). -/
def Dev.keepUps (d : Dev) (us : List (List Byte)) : Dev :=
  us.foldl (fun d u =>
    let l := d.ring.coal.ups ++ [u]
    if 32 < l.length then
      let d := d.inc R.RQ_LOST_LOST
      { d with ring := { d.ring with coal := { d.ring.coal with ups := l.drop 1 } } }
    else { d with ring := { d.ring with coal := { d.ring.coal with ups := l } } }) d

/-- A TOUCH frame kept as pending: a pending older frame is replaced and its UP records are kept (R455). -/
def Dev.keepTouch (d : Dev) (head : List Byte) (recs : List (List Byte)) : Dev :=
  let d := match d.ring.coal.touch with
    | none => d
    | some (_, old) => (d.keepUps (old.filter recIsUp)).rqLost 0x81
  let d := { d with ring := { d.ring with coal := { d.ring.coal with touch := some (head, recs) } } }
  d.rqPending

/-- A report of another type that found no room: what the table "Coalescing" keeps. -/
def Dev.keep (d : Dev) (r : Report) : Dev :=
  let c := d.ring.coal
  if r.typ = 0x84 then
    let r := { r with body := orBit r.body 3 0 }
    if r.body.getD 0 0 = 0 then
      let (r, d) := match c.aux0 with
        | none => (r, d)
        | some o => ({ r with body := r.body.set 2 (r.body.getD 2 0 ||| o.body.getD 2 0) }, d.rqLost 0x84)
      ({ d with ring := { d.ring with coal := { d.ring.coal with aux0 := some r } } }).rqPending
    else
      let (r, d) := match c.aux1 with
        | none => (r, d)
        | some o => ({ r with body := r.body.set 2 (r.body.getD 2 0 ||| o.body.getD 2 0) }, d.rqLost 0x84)
      ({ d with ring := { d.ring with coal := { d.ring.coal with aux1 := some r } } }).rqPending
  else if r.typ = 0x85 then
    let d := if c.approach.isSome then d.rqLost 0x85 else d
    ({ d with ring := { d.ring with coal := { d.ring.coal with
        approach := some { r with body := orBit r.body 2 2 } } } }).rqPending
  else if r.typ = 0x87 then
    let kind := (r.body.getD 0 0).toNat
    let d := if (c.cal.lookup kind).isSome then d.rqLost 0x87 else d
    ({ d with ring := { d.ring with coal := { d.ring.coal with
        cal := (d.ring.coal.cal.filter (fun (e : Nat × Report) => e.1 != kind)) ++
          [(kind, { r with body := orBit r.body 4 2 })] } } }).rqPending
  else if r.typ = 0x8A then
    let d := if c.program.isSome then d.rqLost 0x8A else d
    ({ d with ring := { d.ring with coal := { d.ring.coal with program := some r } } }).rqPending
  else if r.typ = 0x8B then
    let d := if c.power.isSome then d.rqLost 0x8B else d
    ({ d with ring := { d.ring with coal := { d.ring.coal with power := some r } } }).rqPending
  else if r.typ = 0x88 ∨ r.typ = 0x8C ∨ r.typ = 0x80 then
    -- IMAGE_CHUNK, LOG, and a COMPLETION while RQ is disabled: the report waits
    { d with ring := { d.ring with waiting := d.ring.waiting ++ [r] } }
  else (d.rqLost r.typ).rqPending

/-- A report written, or kept as the table "Coalescing" says (R454, R455). KEY and TOUCH have their own writers. -/
def Dev.report (d : Dev) (r : Report) : Dev :=
  let d := d.reclaim r
  if d.pwr.mode = 2 ∨ d.st = stHalted then d
  else if d.rqCan r then d.rqEmit r else d.keep r

/-! ### TOUCH and KEY -/

/-- Records that fit one TOUCH report: an entry is at most a quarter of the RQ size and at most 4096 bytes (R434). -/
def Dev.touchMax (d : Dev) : Nat := (min (d.rqSize / 4) 4096 - 16) / 16

/-- The first eight payload bytes of TOUCH (R493), with NREC and FLAGS put in. -/
def touchHead (head : List Byte) (nrec : Nat) (more coal : Bool) : List Byte :=
  let fl := (head.getD 3 0).toNat + (if more then 1 else 0) + (if coal then 2 else 0)
  (head.set 2 (byte nrec)).set 3 (byte fl)

/-- Kept UP records and the records of a frame that found no room are kept. -/
def Dev.keepBoth (d : Dev) (head : List Byte) (ups recs : List (List Byte)) : Dev :=
  let d : Dev := { d with ring := { d.ring with coal := { d.ring.coal with ups := ups } } }
  if recs.isEmpty && !ups.isEmpty then d.rqPending else d.keepTouch head recs

/-- The kept UP records `ups` and the records of one frame written in as many TOUCH reports as needed; what finds no room is
kept. A report that holds a kept UP record carries COAL (R493). -/
def Dev.touchOut (d : Dev) (head : List Byte) : List (List Byte) → List (List Byte) → Nat → Dev
  | ups, recs, 0 => d.keepBoth head ups recs
  | ups, recs, fuel + 1 =>
    let m := max 1 d.touchMax
    let now := (ups ++ recs).take m
    let ups' := ups.drop m
    let recs' := recs.drop (m - ups.length)
    let more := !(ups'.isEmpty && recs'.isEmpty)
    let r : Report := ⟨0x81, 0, touchHead head now.length more (!ups.isEmpty) ++ now.flatten⟩
    let d := d.reclaim r
    if d.rqRoom r then
      let d := d.rqEmit r
      if more then d.touchOut head ups' recs' fuel else d
    else d.keepBoth head ups recs

/-- The TOUCH of a processed frame (R493): FRAME, FLAGS, TICK_LAST of the frame, and the frame's records. -/
def Dev.touch (d : Dev) (frame flags tlast : Nat) (recs : List (List Byte)) : Dev :=
  let head := leBytes 2 frame ++ [0, byte flags] ++ leBytes 4 tlast
  if d.pwr.mode = 2 ∨ d.st = stHalted then d
  else if d.ring.coal.overflow ∨ !d.rqRuns then d.keepTouch head recs
  else d.touchOut head [] recs (recs.length + 1)

/-- The KEY payload (R495): CHANGED is taken against the VKEYS of the previous written KEY report. -/
def Dev.keyReport (d : Dev) (frame vkeys : Nat) : Report :=
  ⟨0x83, 0, leBytes 2 frame ++ [0, 0] ++ leBytes 4 vkeys ++ leBytes 4 (vkeys ^^^ d.ring.lastVkeys)⟩

/-- A KEY report written, or the latest CT_VKEYS kept (R455). -/
def Dev.key (d : Dev) (frame vkeys : Nat) : Dev :=
  let r := d.keyReport frame vkeys
  let d := d.reclaim r
  if d.pwr.mode = 2 ∨ d.st = stHalted then d
  else if d.rqCan r then
    let d := d.rqEmit r
    { d with ring := { d.ring with lastVkeys := vkeys } }
  else
    let d := if d.ring.coal.key.isSome then d.rqLost 0x83 else d
    ({ d with ring := { d.ring with coal := { d.ring.coal with key := some (frame, vkeys) } } }).rqPending

/-! ### Room returns (R456) -/

/-- The OVERFLOW report (R501). -/
def overflowReport (lost : List Nat) : Report := ⟨0x89, 0, (lost.map (leBytes 2)).flatten⟩

def lostZero : List Nat := [0, 0, 0, 0, 0, 0, 0, 0]

/-- Nothing pending and no count. -/
def coalEmpty : Coalesced := ⟨[], none, none, none, none, none, [], none, none, lostZero, false⟩

/-- The pending TOUCH: kept UP records first, then the frame's records (R493). -/
def Dev.flushTouch (d : Dev) : Dev :=
  let c := d.ring.coal
  if c.ups.isEmpty && c.touch.isNone then d
  else
    let (head, recs) := c.touch.getD (leBytes 2 d.frameNo ++ [0, 0] ++ leBytes 4 (d.get R.TICK_LAST_TSTAMP), [])
    let d := { d with ring := { d.ring with coal := { d.ring.coal with ups := [], touch := none } } }
    d.touchOut head c.ups recs (c.ups.length + recs.length + 1)

/-- The pending report `r?` written, or kept again. -/
def Dev.flushOne (d : Dev) (r? : Option Report) : Dev :=
  match r? with
  | none => d
  | some r => d.report r

/-- Whether `r` is the COMPLETION of the asynchronous command `a`. -/
def Report.completes (r : Report) (a : Async) : Bool :=
  r.typ == 0x80 && r.tag == a.tag && r.body.getD 1 0 == byte a.op && r.body.getD 6 0 == byte a.seq

/-- Reports that wait for room (COMPLETION, IMAGE_CHUNK, LOG) written in order while there is room (R443, R455). A command
whose COMPLETION waited behind its reports has then ended. -/
def Dev.flushWaiting (d : Dev) : List Report → Dev
  | [] => { d with ring := { d.ring with waiting := [] } }
  | r :: rs =>
    let d := d.reclaim r
    if r.typ = 0x80 ∧ d.rqRuns then
      let d : Dev := { d with ring := { d.ring with asyncs := d.ring.asyncs.eraseP r.completes } }
      ((d.put R.RQ_STATUS_HELD (d.get R.RQ_STATUS_HELD - 1)).rqEmit r).flushWaiting rs
    else if d.rqCan r then (d.rqEmit r).flushWaiting rs
    else { d with ring := { d.ring with waiting := r :: rs } }

/-- Room has returned (R456): one OVERFLOW, then the pending reports in the order of the table "Coalescing", then
normal writing. Nothing happens while the OVERFLOW itself finds no room. -/
def Dev.roomReturn (d : Dev) : Dev :=
  let c := d.ring.coal
  let o := overflowReport c.lost
  let d := d.reclaim o
  let d :=
    if c.overflow ∧ d.rqRoom o then
      let d := d.rqEmit o
      let d := { d with ring := { d.ring with coal :=
        { d.ring.coal with lost := lostZero, overflow := false, key := none, aux0 := none, aux1 := none,
                           approach := none, cal := [], program := none, power := none } } }
      let d := d.put R.RQ_STATUS_COAL 0
      let d := d.flushTouch
      let d := match c.key with
        | none => d
        | some (f, v) => d.key f v
      let d := (d.flushOne c.aux0).flushOne c.aux1
      let d := d.flushOne c.approach
      let d := c.cal.foldl (fun d e => d.report e.2) d
      (d.flushOne c.program).flushOne c.power
    else d
  (d.flushWaiting d.ring.waiting).rqAttn

/-! ### Completions (R451, R452, R492) -/

/-- A COMPLETION report. -/
def completion (tag status op count detail seq : Nat) : Report :=
  ⟨0x80, tag, [byte status, byte op] ++ leBytes 2 (min count 65535) ++ leBytes 2 detail ++ [byte seq, 0]⟩

/-- A COMPLETION written in its reservation, which it releases (R453). While the report writer does not run because
RQ is disabled, it waits with its reservation (R457); in a halt it is not written (R509). -/
def Dev.complete (d : Dev) (tag status op count detail seq : Nat) : Dev :=
  let r := completion tag status op count detail seq
  if d.st = stHalted ∨ d.pwr.mode = 2 then d
  else if d.rqRuns then (d.put R.RQ_STATUS_HELD (d.get R.RQ_STATUS_HELD - 1)).rqEmit r
  else { d with ring := { d.ring with waiting := d.ring.waiting ++ [r] } }

/-- The asynchronous commands in flight with opcode `op`. -/
def Dev.asyncsOf (d : Dev) (op : Nat) : List Async := d.ring.asyncs.filter (fun a => a.op == op)

/-- An asynchronous command ends: its COMPLETION is written and it is no longer in flight (R452). -/
def Dev.endAsync (d : Dev) (a : Async) (status detail : Nat) : Dev :=
  let d := d.complete a.tag status a.op a.count detail a.seq
  { d with ring := { d.ring with asyncs := d.ring.asyncs.erase a } }

/-- Every asynchronous command in `l` ends with the same status and DETAIL. -/
def Dev.endAsyncs (d : Dev) (l : List Async) (status detail : Nat) : Dev :=
  l.foldl (fun d a => d.endAsync a status detail) d

/-- The statuses of R472. -/
def csOk : Nat := 0
def csBadLen : Nat := 1
def csBadParam : Nat := 2
def csBadArea : Nat := 3
def csState : Nat := 4
def csBusy : Nat := 5
def csRefused : Nat := 6
def csAborted : Nat := 7
def csTimeout : Nat := 8
def csEcc : Nat := 9
def csMboxBusy : Nat := 10
def csNoProgram : Nat := 11
def csCluster : Nat := 12

/-! ### Batches and the end of synchronous commands (R436, R448, R451–R453) -/

/-- An executed entry joins the open batch, or opens one with a reservation (R451, R453). -/
def Dev.batchJoin (d : Dev) (op tag seq detail : Nat) : Dev :=
  match d.ring.batch with
  | none =>
    ({ d with ring := { d.ring with batch := some ⟨1, tag, op, seq, detail⟩ } } : Dev).put R.RQ_STATUS_HELD
      (d.get R.RQ_STATUS_HELD + 1)
  | some b => { d with ring := { d.ring with batch := some ⟨b.count + 1, tag, op, seq, detail⟩ } }

/-- The open batch is completed: one COMPLETION covers its entries (R451, R452). -/
def Dev.batchClose (d : Dev) (status : Nat) : Dev :=
  match d.ring.batch with
  | none => d
  | some b => ({ d with ring := { d.ring with batch := none } } : Dev).complete b.tag status b.op b.count b.detail b.seq

/-- CQ_CI passes an entry (R436, R438, R441, R442, R448): in OWNER mode its byte 0 is written back with OWN 0. -/
def Dev.cqPass (d : Dev) (flags slot : Nat) : Dev :=
  let ci := d.get R.CQ_CI_INDEX
  let d := if d.is R.CQ_CTRL_MODE then
      d.xwriteClean clCqf (d.get R.CQ_GEOM_BASE + ci % 2 ^ d.get R.CQ_GEOM_SZ) [byte (flags % 128)] else d
  ((d.put R.CQ_CI_INDEX (ci + slot)).put R.CQ_SEQX_SEQ (d.get R.CQ_SEQX_SEQ + 1)).incWrap R.CQ_COUNTS_EXEC

/-- Before an entry that would open a batch is fetched: the report writer reads the returned entries when its known free
space does not cover the reservation (R443, R453; log entry 14). -/
def Dev.reclaimReserve (d : Dev) : Dev :=
  if d.is R.RQ_CTRL_MODE && d.rqRuns && d.ring.batch.isNone && decide (d.rqFree < 24 * (d.get R.RQ_STATUS_HELD + 1) + 24) then
    (d.reclaimAll d.ring.unread.length).rqAttn
  else d

/-- The reserve condition for an entry that would open a batch (R453). -/
def Dev.reserveOk (d : Dev) : Bool :=
  let h := d.get R.RQ_STATUS_HELD
  decide (h < d.get R.RQ_CRES_CRES) && decide (24 * (h + 1) + 24 ≤ d.rqFree)

/-- An asynchronous command starts: it ends its batch, whose reservation becomes its own (R452, R453). -/
def Dev.asyncStart (d : Dev) (op tag seq arg : Nat) : Async × Dev :=
  let (n, d) := match d.ring.batch with
    | none => (1, d.put R.RQ_STATUS_HELD (d.get R.RQ_STATUS_HELD + 1))
    | some b => (b.count + 1, ({ d with ring := { d.ring with batch := none } } : Dev))
  let a : Async := ⟨op, tag, seq, n, arg⟩
  (a, { d with ring := { d.ring with asyncs := d.ring.asyncs ++ [a] } })

/-- A FENCE ends (R490). -/
def Dev.fenceEnd (d : Dev) (status detail : Nat) : Dev :=
  match d.ring.fence with
  | none => d
  | some f =>
    let d : Dev := { d with ring := { d.ring with fence := none,
                                                  batch := d.ring.batch.map (fun (b : Batch) => { b with detail := detail }) } }
    let d := d.cqPass f.flags f.slot
    if bitOf f.flags 6 || status != csOk then d.batchClose status else d

/-- Every asynchronous command fetched before the FENCE has ended and its COMPLETION is written (R490). -/
def Dev.fenceDone (d : Dev) : Bool :=
  d.ring.fence.isSome && d.ring.asyncs.isEmpty && d.ring.waiting.all (fun r => r.typ != 0x80)

/-! ### Other payloads -/

/-- The PROGRAM report (R502). -/
def Dev.programReport (d : Dev) (event code tag : Nat) : Report :=
  ⟨0x8A, tag, [byte event, byte code] ++ leBytes 2 (d.get R.GPIO_SWAPST_TICK) ++
    leBytes 4 (d.get R.SEQ_IMGVER_VERSION) ++ leBytes 2 (d.get R.GPIO_SWAPST_DETAIL) ++ [0, 0]⟩

/-- The POWER report (R503). -/
def Dev.powerReport (d : Dev) (state cause tag : Nat) : Report :=
  ⟨0x8B, tag, [byte state, byte cause] ++ leBytes 2 d.domsOn ++ leBytes 2 d.pwr.restarted ++ [0, 0] ++
    leBytes 4 d.tstamp⟩

/-- The CAL_RESULT report (R499). -/
def Dev.calReport (d : Dev) (kind code detail : Nat) (pend rep : Bool) (count tag : Nat) : Report :=
  ⟨0x87, tag, [byte kind, byte code] ++ leBytes 2 detail ++
    [byte ((if pend then 1 else 0) + (if rep then 2 else 0)), 0] ++ leBytes 2 count ++ leBytes 4 d.tstamp⟩

/-- The FAULT report (R498). -/
def faultReport (src lasting slot action events detail lastN : Nat) : Report :=
  ⟨0x86, 0, [byte src, byte (lasting + 2 * slot + 4 * action)] ++ leBytes 2 events ++ leBytes 2 detail ++
    [byte lastN, 0]⟩

/-- A FAULT report written in ordinary room, or else in the fault slot; without room in either the fault is only
counted (R454). A written FAULT report sets HP_ATTN.FAULT (R403). -/
def Dev.fault (d : Dev) (src lasting action detail : Nat) (forceSlot : Bool) : Dev :=
  let ev := d.get (R.FLT_CNT_EVENTS (src - 1))
  let ln := d.get (R.FLT_CNT_LASTING (src - 1))
  let r := faultReport src lasting 0 action ev detail ln
  let d := d.reclaim r
  if d.rqRoom r && !forceSlot then (d.rqEmit r).put R.HP_ATTN_FAULT 1
  else if d.rqRuns && decide (d.rqNeed r + 24 * d.get R.RQ_STATUS_HELD ≤ d.rqFree) then
    (d.rqEmit (faultReport src lasting 1 action ev detail ln)).put R.HP_ATTN_FAULT 1
  else d

end Sys2Proof.Machine
end

