-- ==== Sys2Proof/Machine/PortFrame.lean ====
section
/-!
DEFINITION. Machine/PortFrame.lean: a frame of the periphery port (chapter 17): its words, its lanes and cycles, the data
it stores, and how it ends. Everything that a halt needs stands here; the queue and the descriptors are in Periph.lean.
-/

namespace Sys2Proof.Machine

/-! ### The words of a transfer (R550, R559) -/

/-- The fields of a transfer's words, in the layout of PP_DCTL, PP_DCMD and PP_DBUF. -/
def Xfer.target (x : Xfer) : Nat := x.ctl % 8
def Xfer.isRead (x : Xfer) : Bool := bitOf x.ctl 3
def Xfer.dlane (x : Xfer) : Nat := x.ctl / 256 % 4
def Xfer.clen (x : Xfer) : Nat := x.ctl / 1024 % 4
def Xfer.alen (x : Xfer) : Nat := x.ctl / 4096 % 8
def Xfer.dummy (x : Xfer) : Nat := x.ctl / 65536 % 32
def Xfer.cmdVal (x : Xfer) : Nat := x.dcmd % 65536
def Xfer.dlen (x : Xfer) : Nat := x.dcmd / 65536 % 8192
def Xfer.area (x : Xfer) : Nat := x.buf % 65536
def Xfer.start (x : Xfer) : Nat := x.buf / 65536 % 4

/-- The port works on the frame in progress: its domain is on or drains (R567), and VDDIO is there (R608). -/
def Dev.ppLive (d : Dev) : Bool := (d.dom 9 == 2 || d.dom 9 == 3) && d.is R.SYS_STATUS_VDDIOOK

/-! ### The end of a transfer (R561, R562, R483) -/

/-- Descriptor state. -/
def Dev.ppState (d : Dev) (k s : Nat) : Dev := d.put (R.PP_DSTAT_STATE k) s

/-- The transfer `x` has ended in descriptor state `s` (3 DONE, 4 TIMEOUT, 5 ABORTED, 6 ECC) with `count` data bytes; the
COMPLETION of PERI_XFER carries `count`, or the poisoned word's offset for ECC. -/
def Dev.ppEnd (d : Dev) (x : Xfer) (s count ecc : Nat) : Dev :=
  if x.desc < 8 then
    (((d.ppState x.desc s).put (R.PP_DSTAT_COUNT x.desc) count).event evPp)
  else match x.cmd with
    | some a => d.endAsync a (if s = 3 then csOk else if s = 4 then csTimeout else if s = 5 then csAborted else csEcc)
        (if s = 6 then ecc else count)
    | none => d

/-- The port is idle again: select released. -/
def Dev.ppIdle (d : Dev) : Dev :=
  (({ d with pp := { d.pp with active := none, haltAt := none } } : Dev).put R.PP_STATUS_ACTIVE 0).put R.PP_STATUS_TARGET 7

/-- The queue of the port, with PP_STATUS.QCNT; what was prefetched for a transfer that has left it is dropped (R552). -/
def Dev.ppQueue (d : Dev) (q : List Xfer) : Dev :=
  ({ d with pp := { d.pp with queue := q, ahead := d.pp.ahead.filter (fun a => q.contains a.x) } } : Dev).put
    R.PP_STATUS_QCNT q.length

/-! ### Lanes (R549–R551) -/

/-- The bits of a byte, most significant first, in groups of 1, 2 or 4 (lane codes 0, 1, 2). -/
def laneGroups (lane : Nat) (b : Byte) : List Nat :=
  let w := if lane = 0 then 1 else if lane = 1 then 2 else 4
  (List.range (8 / w)).map (fun i => b.toNat / 2 ^ (8 - w * (i + 1)) % 2 ^ w)

/-- One PSCK cycle that puts `v` out: PIO0 alone, PIO1 and PIO0, or PIO3 to PIO0; PIO2 and PIO3 are high where the phase
does not use them (R549). -/
def pioOut (lane v : Nat) : Nat × Nat := if lane = 0 then (13, 12 + v) else if lane = 1 then (15, 12 + v) else (15, v)

/-- The cycles that put bytes out. -/
def pioBytes (lane : Nat) (bs : List Byte) : List (Nat × Nat) := (bs.flatMap (laneGroups lane)).map (pioOut lane)

/-- `n` cycles in which the port puts nothing out: PIO2 and PIO3 are high unless four data lanes are released (R549,
R551). -/
def pioQuiet (released : Bool) (n : Nat) : List (Nat × Nat) := List.replicate n (if released then (0, 0) else (12, 12))

/-- The cycles of a frame before its data phase (R550). -/
def Xfer.headWire (x : Xfer) (cmd adr : List Byte) : List (Nat × Nat) :=
  pioBytes (x.ctl / 16 % 4) cmd ++ pioBytes (x.ctl / 64 % 4) adr ++ pioQuiet (x.isRead && x.dlane == 2 && x.dlen != 0) x.dummy

/-- The cycles of `n` bytes of the data phase: read in, or put out from the FIFO, which takes what follows its prefetched
bytes from the buffer (R552). -/
def Dev.dataWire (d : Dev) (f : PpFrame) (n : Nat) : List (Nat × Nat) :=
  let x := f.x
  if x.isRead then pioQuiet (x.dlane == 2) (n * 8 / 2 ^ x.dlane)
  else pioBytes x.dlane (f.fifo.take n ++ d.xbytes (x.area + f.fifo.length) (n - f.fifo.length))

/-- `n` bytes of the data phase have been on the lines. -/
def Dev.ppWire (d : Dev) (f : PpFrame) (n : Nat) : Dev := { d with pp := { d.pp with wire := d.pp.wire ++ d.dataWire f n } }

/-! ### The data of a frame (R552, R556, R562) -/

/-- The first poisoned word in `n` bytes from offset `o`. -/
def Dev.firstPoison (d : Dev) (o n : Nat) : Option Nat := (wordsOf o n).find? (fun w => d.mem.poisoned.contains w)

/-- The PERI client has read `n` bytes from offset `o`; what it meets is counted by the caller. -/
def Dev.periRead (d : Dev) (o n : Nat) : Dev := (wordsOf o n).foldl (fun d w => d.eccMeet clPeri w) d

/-- What a read with MARKEN makes of the bytes of its data phase (R556): busy bytes, whether one of them was not BUSYPAT,
and the bytes after the mark, if it came. -/
def markScan (busy mark : Nat) : List Byte → Nat × Bool × Option (List Byte)
  | [] => (0, false, none)
  | b :: bs =>
    if b.toNat = mark then (0, false, some bs)
    else
      let (n, bad, r) := markScan busy mark bs
      (n + 1, bad || b.toNat != busy, r)

/-- The data bytes of a frame among those received, with BADMARK set where it applies; none while the mark is missing. -/
def Dev.ppData (d : Dev) (f : PpFrame) (rx : List Byte) : Option (List Byte) × Dev :=
  if f.mark then
    let (_, bad, r) := markScan (f.tmark % 256) (f.tmark / 256 % 256) rx
    (r, if bad then d.put R.PP_STATUS_BADMARK 1 else d)
  else (some rx, d)

/-- Received bytes written to the buffer (R562): the first word written only in part while poisoned makes the transfer
end with ECC. What the write meets is counted by the caller. -/
def Dev.ppStore (d : Dev) (x : Xfer) (bs : List Byte) : Option Nat × Dev :=
  let part := (wordsOf x.area bs.length).find? (fun w =>
    d.mem.poisoned.contains w && !(decide (x.area ≤ 8 * w) && decide (8 * w + 8 ≤ x.area + bs.length)))
  (part, d.xwriteClean clPeri x.area bs)

/-- No pause occurs in this frame: PERI holds `r` slots in the bank of the buffer, with 24·r at or above the bytes per µs
that PSCK moves over the data lanes, or the FIFO holds all its data (R552). -/
def Dev.ppNoPause (d : Dev) (f : PpFrame) : Bool :=
  let slots := fun (o : Nat) => (d.reg (R.XR_GUAR clPeri)).toNat / 2 ^ (8 * bankOf o) % 64
  decide (f.x.dlen ≤ 64) ||
    decide (100 * 2 ^ f.x.dlane ≤ 24 * 8 * (f.tcfg % 256 + 1) * min (slots f.x.area) (slots (f.x.area + f.x.dlen - 1)))

/-- A frame that is cut may have been in its first pause, which then counts for it; whether it was is a free value, since no
command says that a pause begins (R552, log entry 17). -/
def Dev.ppPauseCut (d : Dev) (f : PpFrame) : Dev :=
  if f.paused || d.ppNoPause f then d
  else
    let (k, d) := d.fresh
    if k % 2 = 1 then d.inc R.PP_COUNTS2_HI else d

/-- The frame in progress ends in state `s` with `n` data bytes transferred; the bytes of a read that have arrived stay
written (R557). What it meets in XRAM is counted by the caller. -/
def Dev.ppCut (d : Dev) (f : PpFrame) (s n : Nat) (rx : List Byte) : Dev :=
  let d := (d.ppPauseCut f).ppIdle
  if f.x.desc = 9 then d
  else if f.x.isRead then
    let (r, d) := d.ppData f rx
    let data := (r.getD []).take f.x.dlen
    let (_, d) := (d.ppWire f rx.length).ppStore f.x data
    d.ppEnd f.x s data.length 0
  else
    let n := min n f.x.dlen
    ((d.ppWire f n).periRead (f.x.area + f.fifo.length) (n - f.fifo.length)).ppEnd f.x s n 0

/-- `n` free bytes. -/
def Dev.freshBytes (d : Dev) (n : Nat) : List Byte × Dev :=
  let (k, d) := d.fresh
  ((List.range n).map (fun i => byte (k / 256 ^ i)), d)

/-- A boot that ends early takes its transfers out of the port; its frame stops (R299, R553, R571). -/
def Dev.ppBootDrop (d : Dev) : Dev :=
  let d := d.ppQueue (d.pp.queue.filter (fun x => x.desc != 9))
  if d.pp.active.any (fun f => f.x.desc == 9) then d.ppIdle else d

end Sys2Proof.Machine
end

