-- ==== Sys2Proof/Machine/Stops.lean ====
section
/-!
DEFINITION. Machine/Stops.lean: what a halt, a removal or a critical temperature stops at once: acquisition and image
processing, the frames of the periphery port, and the word that a cluster node sends on the ring.
-/

namespace Sys2Proof.Machine

/-- The pump takes a new target (R68): VHV reaches it within 150 µs, at an instant the spec leaves open (log entry 3), and
VHVOK reads 0 until then. Without a target (level 0) VHVOK reads 1. While DRV is off the pump keeps its target and does
not run; once the device has left its seat it has none (R616). -/
def Dev.pumpTo (d : Dev) (l : Nat) : Dev :=
  if (l = d.acq.pump ∧ l ≠ 0) ∨ d.is R.SYS_STATUS_SEATED = false then d
  else if l = 0 then { d.put R.ACQ_STATUS_VHVOK 1 with acq := { d.acq with pump := 0, vhvDue := none } }
  else if d.domOn 5 = false then { d.put R.ACQ_STATUS_VHVOK 0 with acq := { d.acq with pump := l, vhvDue := none } }
  else
    let (k, d) := d.fresh
    { d.put R.ACQ_STATUS_VHVOK 0 with acq := { d.acq with pump := l, vhvDue := some (d.clock + k % 151) } }

/-- VHV reaches the target of the pump once its instant has come (R68). -/
def Dev.vhvTime (d : Dev) : Dev :=
  if d.acq.vhvDue.any (fun t => decide (t ≤ d.clock)) then
    { d.put R.ACQ_STATUS_VHVOK 1 with acq := { d.acq with vhvDue := none } }
  else d

/-- Acquisition and processing stop at once; every electrode goes to high impedance (R19, R450, R616, R642). The pump keeps
the effective level, which changes only at a tick (R68, R69). -/
def Dev.acqStop (d : Dev) : Dev :=
  ({ d with acq := { d.acq with now := none, ready := [], proc := none, listen := [], hiZ := true } } : Dev).pumpTo
    (d.get R.ACQ_STATUS_LEVELNOW)

/-- Whether this device is an enumerated node of a cluster. -/
def Dev.enumerated (d : Dev) : Bool := d.is R.CL_STATUS_ENUM

def Dev.isMember (d : Dev) : Bool := d.get R.CL_CTRL_ROLE == 2
def Dev.isLead (d : Dev) : Bool := d.get R.CL_CTRL_ROLE == 1

/-- The node puts a K-character on CLO (R514); the RING domain must be on. -/
def Dev.sendK (d : Dev) (k : Nat) : Dev :=
  if d.domOn 8 then { d with cl := { d.cl with txK := d.cl.txK ++ [k] } } else d

/-- Transitions that wait for a tick (R577): they start at a tick, or at once where ticks have ended. An OPT domain in DRAIN
may then leave it (R578). -/
def Dev.pwrTick (d : Dev) : Dev :=
  let on := bitsOf 12 d.pwr.tickOn
  let off := bitsOf 12 d.pwr.tickOff
  let d : Dev := { d with pwr := { d.pwr with tickOn := 0, tickOff := 0 } }
  let d := on.foldl (fun (d : Dev) k => if d.dom k = 0 then d.setDom k 1 else d) d
  off.foldl (fun (d : Dev) k => if d.dom k = 2 then d.setDom k 3 else d) d

/-- HP_ATTN.WAKE: the device has left Heath or Fallow and the port serves every opcode (R403, R404). -/
def Dev.setWake (d : Dev) : Dev := { d.put R.HP_ATTN_WAKE 1 with hp := { d.hp with off := false } }

/-- K-characters of the table "Ring K-characters". -/
def kTick : Nat := 1
def kTickH : Nat := 2
def kRcancel : Nat := 3
def kMeasure : Nat := 6
def kDown : Nat := 7

/-- A node that stops acquisition while the cluster runs sends DOWN (R537). -/
def Dev.clusterDown (d : Dev) : Dev :=
  if d.enumerated && d.ticking then d.sendK kDown else d

/-- A node of a running cluster stops its acquisition and sends DOWN; no frame follows until RUN has been cleared (R430,
R537, R545, R591). -/
def Dev.clusterLeave (d : Dev) : Dev :=
  if d.enumerated && d.ticking && !d.cl.quit then
    { (d.sendK kDown).acqStop with cl := { (d.sendK kDown).acqStop.cl with quit := true } }
  else d

/-- Descriptor `k` is active, or queued. -/
def Dev.ppActive (d : Dev) (k : Nat) : Bool := d.pp.active.any (fun f => f.x.desc == k)
def Dev.ppQueued (d : Dev) (k : Nat) : Bool := d.pp.queue.any (fun x => x.desc == k)

/-- Queued, active or armed. -/
def Dev.ppBusy (d : Dev) (k : Nat) : Bool := d.ppQueued k || d.ppActive k || d.is (R.PP_DSTAT_ARMED k)

/-- PP_DSTATd set to ABORTED, not armed. -/
def Dev.ppAborted (d : Dev) (k : Nat) : Dev :=
  if k < 8 then (d.put (R.PP_DSTAT_STATE k) 5).put (R.PP_DSTAT_ARMED k) 0 else d

/-- A device halt reaches the port (R568): the queue is discarded and every queued, active or armed descriptor is ABORTED,
with no COMPLETION. A frame in progress stops at its next byte boundary, and how far it has come, with the bytes that a
read has received, is free (log entry 17). Under a malformed entry (FS16) the frame of a PERI_XFER is abandoned under the
rules of DRAIN instead: it runs on for at most 1 ms (R463, R578). -/
def Dev.ppHalt (d : Dev) (malformed : Bool) : Dev :=
  let ks := (List.range 8).filter d.ppBusy
  let live := d.dom 9 == 2 || d.dom 9 == 3
  let d := d.ppQueue []
  let d := match d.pp.active with
    | none => d
    | some f =>
      if malformed && f.x.cmd.isSome then
        { d with pp := { d.pp with active := some { f with x := { f.x with cmd := none } }, haltAt := some d.clock } }
      else
        let f : PpFrame := { f with x := { f.x with cmd := none } }
        let (k, d) := d.fresh
        let (rx, d) := d.freshBytes (k % (f.x.dlen + 1))
        d.ppCut { f with mark := false } 5 (k % (f.x.dlen + 1)) rx
  if live then ks.foldl Dev.ppAborted d else d

/-- The degrade of FS0D: every periodic descriptor is disarmed with state ABORTED (R636). -/
def Dev.ppDisarmPeriodic (d : Dev) : Dev :=
  let ks := (List.range 8).filter (fun k => d.is (R.PP_DSTAT_ARMED k) && d.get (R.PP_DBUF_START k) == 2)
  ks.foldl Dev.ppAborted d

end Sys2Proof.Machine
end

