-- ==== Sys2Proof/Machine/Faults.lean ====
section
/-!
DEFINITION. Machine/Faults.lean: the fault sources of chapter 20 (R631–R637, R644–R649): counting, windows, lasting
records, the log, and the actions report, degrade and halt; and what those actions set in motion: a device halt
(R450, R623), the clearing of RUN (R621) and the end of Heath (R597).
-/

namespace Sys2Proof.Machine

/-! ### Log (R644, R504) -/

/-- A log entry written: the first 8 after a reset are pinned, the other 24 places are circular (R644). -/
def Dev.logWrite (d : Dev) (src : Nat) (lasting : Bool) (detail : Nat) : Dev :=
  let l := d.flt.log
  let e : LogEntry := ⟨src, lasting, decide (l.length < 8), d.get (R.FLT_CNT_EVENTS (src - 1)), d.tstamp, d.uptime,
    detail, d.get R.TICK_COUNT_COUNT % 65536⟩
  if l.length < 32 then
    ({ d with flt := { d.flt with log := l ++ [e] } }).put R.FLT_LOG_NENT (l.length + 1)
  else
    ({ d with flt := { d.flt with log := l.take 8 ++ (l.drop 9) ++ [e] } }).inc R.FLT_LOG_LOST

/-! ### Events and windows (R632–R634) -/

/-- The register field FLT_CFGs of source `src` (0x01 to 0x16). -/
def fltCfg (src : Nat) : Nat := R.FLT_CFG (src - 1)

def Dev.fltAction (d : Dev) (src : Nat) : Nat :=
  if src = 0x16 then 2 else d.get (R.FLT_CFG_ACTION (src - 1))

/-- The window of `src`, closed: WCNT 0 (R632). -/
def Dev.windowClose (d : Dev) (src : Nat) : Dev :=
  let d := { d with flt := { d.flt with windows := d.flt.windows.filter (fun w => w.src != src) } }
  let d := d.put (R.FLT_CNT_WCNT (src - 1)) 0
  d.put R.FLT_WOPEN_OPEN (setBit (d.get R.FLT_WOPEN_OPEN) (src - 1) false)

/-- The window in which an event now counts: an open one whose WIN has not passed by SYS_TSTAMP's count (R632, R648), or a
new one with the WIN and LIMIT of FLT_CFGs (R650). -/
def Dev.windowOpen (d : Dev) (src : Nat) : FaultWindow × Dev :=
  let fresh (d : Dev) : FaultWindow × Dev :=
    let w : FaultWindow := ⟨src, d.micros, d.get (R.FLT_CFG_WIN (src - 1)), d.get (R.FLT_CFG_LIMIT (src - 1))⟩
    (w, ({ d with flt := { d.flt with windows := w :: d.flt.windows } }).put R.FLT_WOPEN_OPEN
      (setBit (d.get R.FLT_WOPEN_OPEN) (src - 1) true))
  match d.flt.windows.find? (fun w => w.src == src) with
  | none => fresh d
  | some w => if d.micros < w.opened + 1000 * w.win then (w, d) else fresh (d.windowClose src)

/-- A lasting record (R635): counters and FLT_LAST, the FAULT report and the log entry with LASTING = 1,
HP_ATTN.FAULT; its action is due once every report of the command's events is written (R647). -/
def Dev.lasting (d : Dev) (src detail cause : Nat) (forceSlot : Bool) : Dev :=
  let act := d.fltAction src
  let d := d.inc (R.FLT_CNT_LASTING (src - 1))
  let d := ((d.put R.FLT_LAST_SOURCE src).put R.FLT_LAST_ACTION act).put R.FLT_LAST_DETAIL detail
  let d := d.fault src 1 act detail forceSlot
  let d := d.logWrite src true detail
  let d := d.put R.HP_ATTN_FAULT 1
  { d with flt := { d.flt with due := d.flt.due ++ [(src, detail, cause)] } }

/-- One event of a source counted (R632, R633, R637), its action not yet taken; in HALTED and in Fallow it sets
HP_ATTN.FAULT (R645). -/
def Dev.noteEvent (d : Dev) (src detail cause : Nat) : Dev :=
  let d := d.inc (R.FLT_CNT_EVENTS (src - 1))
  let d := if d.st == stHalted || d.pwr.mode == 2 then d.put R.HP_ATTN_FAULT 1 else d
  let (w, d) := d.windowOpen src
  let n := d.get (R.FLT_CNT_WCNT (src - 1)) + 1
  let d := d.inc (R.FLT_CNT_WCNT (src - 1))
  if n = w.limit then d.lasting src detail cause false
  else
    let d := if d.is (R.FLT_CFG_RPT (src - 1)) then d.fault src 0 (d.fltAction src) detail false else d
    if d.is (R.FLT_CFG_LOG (src - 1)) then d.logWrite src false detail else d

/-- A direct lasting record (R634): one event counted, and a lasting record whatever WCNT holds. -/
def Dev.noteDirect (d : Dev) (src detail cause : Nat) (forceSlot : Bool) : Dev :=
  let d := d.inc (R.FLT_CNT_EVENTS (src - 1))
  let (_, d) := d.windowOpen src
  let d := d.inc (R.FLT_CNT_WCNT (src - 1))
  d.lasting src detail cause forceSlot

/-! ### GPIO safe state and halts -/

/-- Whether pin `n` runs its PWM: an output of G4 or G5, not in the safe state, not in Fallow (R367, R368). -/
def Dev.pwmRuns (d : Dev) (n : Nat) : Bool :=
  (n == 4 || n == 5) && d.is (R.GPIO_CFG_PWM n) && d.get (R.GPIO_CFG_DIR n) != 0 && !d.is R.GPIO_STATUS_SAFE &&
    d.pwr.mode != 2 && !d.panel.parked

/-- The period of G4 or G5 ends: the written PERIOD and DUTY take effect (R367). -/
def Dev.pwmPeriodEnd (d : Dev) (n : Nat) : Dev :=
  if n = 4 then
    { d with panel := { d.panel with pwm4 := (d.get R.GPIO_PWM4_PERIOD, d.get R.GPIO_PWM4_DUTY) } }
  else if n = 5 then
    { d with panel := { d.panel with pwm5 := (d.get R.GPIO_PWM5_PERIOD, d.get R.GPIO_PWM5_DUTY) } }
  else d

/-- A PWM that does not run has no period to end: what was written is in force when it starts (R367). -/
def Dev.pwmSettle (d : Dev) : Dev :=
  [4, 5].foldl (fun (d : Dev) n => if d.pwmRuns n then d else d.pwmPeriodEnd n) d

/-- The safe state of the GPIO pins is entered (R368). -/
def Dev.safeState (d : Dev) : Dev := (d.put R.GPIO_STATUS_SAFE 1).pwmSettle

/-- The core is stopped where it is: no handler, no entry pending. -/
def Dev.stopCore (d : Dev) (state : Nat) : Dev :=
  let d := { d with seq := { d.seq with wait := none, pReset := false, pTick := false, pFrame := false, pFault := false } }
  (d.put R.SEQ_STATUS_STATE state).put R.SEQ_STATUS_ENTRY 0

/-- A swap that is pending is refused with `code` (R376, R380): GPIO_SWAPST, the PROGRAM report, and the COMPLETION of
PROG_SWAP. -/
def Dev.swapRefuse (d : Dev) (code detail tag : Nat) : Dev :=
  let d := { d with seq := { d.seq with swapWait := none } }
  let d := ((d.put R.GPIO_SWAPST_CODE code).put R.GPIO_SWAPST_STATE 3).put R.GPIO_SWAPST_DETAIL detail
  let d := d.put R.GPIO_SWAPST_TICK (d.get R.TICK_COUNT_COUNT)
  d.report (d.programReport 1 code tag)

/-- A pending swap is cancelled by a device halt, which writes no report and abandons the command (R380, R509, R623). -/
def Dev.swapHalted (d : Dev) : Dev :=
  if d.seq.swapWait.isSome then
    let d := { d with seq := { d.seq with swapWait := none } }
    let d := ((d.put R.GPIO_SWAPST_CODE 0x08).put R.GPIO_SWAPST_STATE 3).put R.GPIO_SWAPST_DETAIL 0
    d.put R.GPIO_SWAPST_TICK (d.get R.TICK_COUNT_COUNT)
  else d

/-- A pending swap is cancelled or refused with `code`, if there is one. -/
def Dev.swapEnd (d : Dev) (code : Nat) : Dev :=
  if d.seq.swapWait.isSome then
    let d := d.swapRefuse code 0 d.seq.swapTag
    d.endAsyncs (d.asyncsOf 0x12) csRefused code
  else d

/-! ### Calibration runs that fail (R260, R271) -/

/-- The kind's CAL_COUNT (R276). -/
def calCount (kind : Nat) : Field :=
  if kind = 0 then R.CAL_COUNT0_LO else if kind = 1 then R.CAL_COUNT0_HI
  else if kind = 2 then R.CAL_COUNT1_LO else R.CAL_COUNT1_HI

/-- CAL_REASON written, which fires the CAL event (R286). -/
def Dev.calReason (d : Dev) (kind code detail : Nat) : Dev :=
  (((d.put R.CAL_REASON_CODE code).put R.CAL_REASON_KIND kind).put R.CAL_REASON_DETAIL detail).event evCal

/-- The CAL_RUN commands in flight for a kind. -/
def Dev.calAsyncs (d : Dev) (kind : Nat) : List Async :=
  d.ring.asyncs.filter (fun a => a.op == 0x20 && a.arg == kind)

/-- REPEAT of the CAL_CFG that governs the run of `kind` (R247). -/
def Dev.calRepeat (d : Dev) (kind : Nat) : Bool :=
  let cfg := if kind = 3 then d.cal.aux.map (·.cfg) else d.cal.touch.map (·.cfg)
  bitOf (cfg.getD (d.reg R.CAL_CFG).toNat) 6

/-- A calibration run of `kind` ends without a result (R260): nothing of its kind changes; CAL_RESULT, CAL_REASON,
one event of FS13, and the COMPLETION of CAL_RUN with REFUSED (R476). -/
def Dev.calFail (d : Dev) (kind code detail : Nat) : Dev :=
  let rep := d.calRepeat kind
  let d := if kind = 3 then d.put R.CAL_STATUS_BUSYA 0 else
    ((d.put R.CAL_STATUS_BUSYT 0).put R.CAL_STATUS_PASS2 0).put R.CAL_STATUS_NRUN 0
  let d := if kind = 3 then { d with cal := { d.cal with aux := none } } else { d with cal := { d.cal with touch := none } }
  let d := d.calReason kind code detail
  let tag := ((d.calAsyncs kind).head?.map (·.tag)).getD 0
  let d := d.report (d.calReport kind code detail false rep (d.get (calCount kind)) tag)
  let d := d.endAsyncs (d.calAsyncs kind) csRefused (code + 256 * (detail % 256))
  d.noteEvent 0x13 (code + 256 * kind) 0

/-- A touch-kind run in progress ends with ABORTED (R271). -/
def Dev.calAbortTouch (d : Dev) : Dev :=
  if d.is R.CAL_STATUS_BUSYT then d.calFail (d.get R.CAL_STATUS_KINDT) 0x08 0 else d

/-- The values waiting for converters' resets, without those that `p` names. -/
def Aux.calDrop (a : Aux) (p : Nat × Nat × Bool → Bool) : Aux :=
  { a with conv := a.conv.map (fun (c : Conv) => { c with calNext := c.calNext.filter (fun y => !p y) }) }

/-! ### The converters start (R221, R227, R241) -/

/-- What an absent converter would hold; the list has two entries. -/
def convReset : Conv := Conv.reset

def Dev.conv (d : Dev) (n : Nat) : Conv := d.aux.conv.getD n convReset
def Dev.setConv (d : Dev) (n : Nat) (c : Conv) : Dev := { d with aux := { d.aux with conv := d.aux.conv.set n c } }

/-- The channel in force. -/
def Conv.chan (c : Conv) : Nat := c.cfg / 256 % 16

/-- Whether TCAP can be measured (R221). -/
def Dev.tcapOk (d : Dev) : Bool := (d.st == stReady || d.st == stHalted) && d.domOn 3

/-- Converter `n` starts afresh with an empty filter. -/
def Dev.convStart (d : Dev) (n : Nat) : Dev :=
  let c := d.conv n
  let d := d.setConv n { c with early := 0, outs := 0, resetAt := d.clock, tcap := c.chan == 13 && d.tcapOk }
  (d.put (R.AX_DATA_DATA_VALID n) 0).put (R.AX_STAT_RUN n) (d.get (R.AX_CFG_EN n))

/-- A switch-off of AUX has been cancelled in DRAIN (R579): the converters that are enabled run again (R241), and what they
were doing stays abandoned; one that a SINGLE run had stopped stays stopped. -/
def Dev.auxResume (d : Dev) : Dev :=
  [0, 1].foldl (fun d n =>
    let c := d.conv n
    if d.is (R.AX_CFG_EN n) && !(bitOf c.cfg 1 && c.outs != 0) then d.convStart n else d) d

/-! ### Answers to power requests (R581, R585) -/

/-- PWR_RES.BUSY shows whether a request is in progress, that is, not yet answered. -/
def Dev.pwrBusy (d : Dev) : Dev := d.putB R.PWR_RES_BUSY (!d.pwr.domReqs.isEmpty || d.pwr.stateReq.any (fun q => !q.done))

/-- A power request ends with `cause` (0 for done): PWR_RES, one POWER report, and for POWER_REQ its COMPLETION (R484,
R581, R585). -/
def Dev.pwrAnswer (d : Dev) (kind : Nat) (cmd : Option Async) (cause dom : Nat) : Dev :=
  let d := ((((d.put R.PWR_RES_CODE cause).put R.PWR_RES_KIND kind).putB R.PWR_RES_SRC cmd.isSome).put R.PWR_RES_DOMAIN dom).pwrBusy
  let tag := (cmd.map (·.tag)).getD 0
  let d := d.report (d.powerReport (if cause = 0 ∧ kind ≠ 0 then kind else d.pwr.mode) cause tag)
  let d : Dev := { d with pwr := { d.pwr with restarted := 0 } }
  match cmd with
  | some a => if cause = 0 then d.endAsync a csOk d.domsOn else d.endAsync a csRefused (cause + 256 * dom)
  | none => d

/-! ### Heath ends (R597, R598) -/

/-- A switch-off is cancelled in DRAIN (R579). -/
def Dev.drainCancel (d : Dev) (k : Nat) : Dev :=
  let d : Dev := { d.setDom k 2 with pwr := { d.pwr with tickOff := setBit d.pwr.tickOff k false } }
  if k = 10 then d.auxResume else d

/-- The Heath set is switched back on: each domain that Heath switched off ramps up, or returns from DRAIN, or
restarts after its ramp-down (R579). -/
def Dev.switchOnOne (d : Dev) (k : Nat) : Dev :=
  let s := d.dom k
  if s = 0 then d.setDom k 1
  else if s = 3 then d.drainCancel k
  else if s = 4 then { d with pwr := { d.pwr with onAfter := setBit d.pwr.onAfter k true } }
  else d

def Dev.switchOnMask (d : Dev) (m : Nat) : Dev := (bitsOf 12 m).foldl Dev.switchOnOne d

/-- The HOST domain is brought back as Heath ends otherwise than at a wake cause, or on a cluster member that stays in it:
WAKE comes with it (R403, R414, R591, R619). -/
def Dev.hostBack (d : Dev) : Dev :=
  let d := d.switchOnOne 7
  if d.domOn 7 then d.setWake else d

/-- Heath has ended: STATE RUNNING and HP_ATTN.WAKE, with the latency of R598 (R597, steps 3 and 4).
Contacts that are present will be reported with new track IDs (chapter 18, the example of a double-tap wake). -/
def Dev.heathFinish (d : Dev) : Dev :=
  let lat := d.clock - d.pwr.wakeAt.getD d.clock
  let d := (d.setSt stRunning).setWake
  let d := d.put R.PWR_WSRC_LAT (min lat 0xFFFF)
  { d with pwr := { d.pwr with mode := 0, waking := false, wakeAt := none, heathOff := 0, tsFrom := none, endRun := false },
           ct := { d.ct with contacts := [], pairs := [], taps := [] },
           img := { d.img with groups := d.img.groups.map (fun (g : Grp) => { g with slots := [] }) },
           tick := { d.tick with first := true, held := 0, due := none, aligned := false, subLeft := 0, owed := 0 } }

/-- Whether every domain that Heath switched off is ON again. -/
def Dev.heathSetOn (d : Dev) : Bool := (bitsOf 12 d.pwr.heathOff).all d.domOn

/-! ### RUN cleared (R621) -/

/-- A Heath entry that is not complete is cancelled (R599): PWR_RES, the POWER report and the COMPLETION. One that has
begun is cancelled too, and where it has been answered the Heath set comes back (DEDUCED, log entry 18). -/
def Dev.heathCancel (d : Dev) : Dev :=
  match d.pwr.stateReq with
  | some q =>
    if q.kind ≠ 1 then d
    else
      let d : Dev := { d with pwr := { d.pwr with stateReq := none } }
      if q.done then { d.switchOnMask d.pwr.heathOff with pwr := { (d.switchOnMask d.pwr.heathOff).pwr with heathOff := 0 } }
      else d.pwrAnswer 1 q.cmd 0x09 0
  | none => d

/-- An IMAGE_DUMP in progress ends with ABORTED; its DETAIL holds the frames completely dumped (R482, R507). Chunks that
still wait for room are not written, and a COMPLETION that waits behind them is not either; each frame has one chunk with
LASTCHUNK. -/
def Dev.dumpAbort (d : Dev) : Dev :=
  match d.asyncsOf 0x50 with
  | [] => { d with img := { d.img with dump := none } }
  | a :: _ =>
    let part := (d.ring.waiting.filter (fun r => r.typ == 0x88 && bitOf (r.body.getD 3 0).toNat 0)).length
    let whole := ((d.ring.waiting.find? (fun r => r.completes a)).map (fun r => leNat ((r.body.drop 4).take 2))).getD 0
    let done := (d.img.dump.map (·.done)).getD whole
    let d : Dev := { d with ring := { d.ring with waiting := d.ring.waiting.filter (fun r => r.typ != 0x88 && !r.completes a) },
                            img := { d.img with dump := none } }
    d.endAsync a csAborted (done - part)

/-- What leaves force when the device leaves RUNNING for STOPPING or Heath: a touch-kind run (R271), a pending swap
(R380), an image dump (R482). -/
def Dev.leaveRunning (d : Dev) : Dev := (d.calAbortTouch.swapEnd 0x08).dumpAbort

/-- ACQ_OFFk with OFFM `m` and OFFS `s`. -/
def offWord (m : Int) (s : Nat) : Word := (R.ACQ_OFF_OFFS 0).into ((R.ACQ_OFF_OFFM 0).into 0 (unsigned 10 m)) s

/-- The offsets that a result staged go with it, where no later write stands over them (R98, R272). -/
def Dev.unstageOffs (d : Dev) (v : CalVals) : Dev :=
  { d with staged := d.staged.filter (fun e => !v.offm.any (fun o =>
      e.1 == R.ACQ_OFF o.1 && e.2 == offWord o.2 ((v.offs.lookup o.1).getD 0) &&& rwsMask e.1)) }

/-- RUN is cleared while a result waits AT_BOUNDARY (R272). -/
def Dev.calDiscard (d : Dev) : Dev :=
  d.cal.wait.foldl (fun d w =>
    if w.2.1 then
      let d := d.unstageOffs w.2.2
      let d := { d with cal := { d.cal with wait := d.cal.wait.filter (fun x => x.1 != w.1) } }
      (d.put R.CAL_STATUS_PEND (setBit (d.get R.CAL_STATUS_PEND) w.1 false)).calReason w.1 0x08 0
    else d) d

/-- The pending hops are dropped (R125). -/
def Dev.hopDrop (d : Dev) : Dev :=
  { d.put R.HOP_STATUS_PENDING 0 with hop := { d.hop with pending := none, forced := none } }

/-- A write of 0 to SYS_CTRL.RUN (R621): it cancels a check, or starts STOPPING from RUNNING. A lead has its stop
announced first (R541). -/
def Dev.clearRun (d : Dev) : Dev :=
  if d.st = stChecking then
    ((d.hopDrop.setSt d.sys.checkFrom).put R.SYS_CTRL_RUN 0).setReg R.SYS_REASON 0
  else if d.st = stRunning then
    let d := (d.put R.SYS_CTRL_RUN 0).hopDrop
    let d := { d with cl := { d.cl with clearRun := d.enumerated && d.isLead } }
    let d := d.calDiscard.leaveRunning.heathCancel
    d.setSt stStopping
  else d

/-- Heath ends once a wake cause has been taken and the Heath set is ON (R597); the device then stops where that is why it
ended (R642, R652). -/
def Dev.heathTry (d : Dev) : Dev :=
  if d.st == stHeath && d.pwr.waking && d.heathSetOn then
    if d.pwr.endRun then d.heathFinish.clearRun else d.heathFinish
  else d

/-- A wake cause starts the HFO and switches the Heath set on (R597, steps 1 and 2). -/
def Dev.heathLeave (d : Dev) : Dev :=
  let d := { d with pwr := { d.pwr with
    hfoOn := true, waking := true, wakeAt := some (d.pwr.wakeAt.getD d.clock) } }
  (d.switchOnMask d.pwr.heathOff).heathTry

/-- The device clears RUN by itself: Heath ends first (R537, R538, R642, R652). -/
def Dev.runEnds (d : Dev) : Dev :=
  if d.st = stHeath then ({ d with pwr := { d.pwr with endRun := true } } : Dev).heathLeave else d.clearRun

/-! ### Device halt (R450, R623) -/

/-- STATE becomes HALTED (R623): SYS_HALT_INFO records the source; acquisition and processing stop; the core stops; the
safe state is entered; asynchronous commands are abandoned, with an enumeration or a calibration run of theirs, and their
reservations released (R509); the fetch unit and the report writer stop; attention is asserted. A cluster node sends DOWN
(R537). Transitions that waited for a tick start (R577), and a HOST domain that Heath switched off comes back, since the
port serves in HALTED (R414). -/
def Dev.halt (d : Dev) (src cause detail : Nat) : Dev :=
  if d.st = stHalted then d
  else
    let heath := d.st == stHeath
    let d := ((d.put R.SYS_HALT_INFO_SOURCE src).put R.SYS_HALT_INFO_CAUSE cause).put R.SYS_HALT_INFO_DETAIL detail
    let d := d.clusterDown
    let d := d.setSt stHalted
    let d := d.acqStop
    let d := if d.seqLive then d.stopCore 5 else d
    let d := d.swapHalted
    let d := d.put R.RQ_STATUS_HELD 0
    -- a run of AUX kind that a command asked for is abandoned with it, one that CAL_CMD asked for goes on
    let auxCmd := !(d.calAsyncs 3).isEmpty
    let d := if d.cal.touch.isSome then
        ((d.put R.CAL_STATUS_BUSYT 0).put R.CAL_STATUS_PASS2 0).put R.CAL_STATUS_NRUN 0 else d
    let d := if auxCmd then d.put R.CAL_STATUS_BUSYA 0 else d
    let d := { d with ring := { d.ring with asyncs := [], fence := none, established := [], batch := none, waiting := [] },
                      pwr := { d.pwr with mode := 0, waking := false, wakeAt := none, stateReq := none, domReqs := [],
                                          tsFrom := none, endRun := false, hfoOn := true, heathOff := 0 },
                      img := { d.img with dump := none }, cl := { d.cl with enum := none },
                      cal := { d.cal with touch := none, aux := if auxCmd then none else d.cal.aux } }
    let d := (d.ppHalt (src == 0x16)).pwrTick.pwrBusy
    let d := if heath then d.hostBack else d.switchOnOne 7
    d.safeState.holdAttn

/-! ### Actions (R635, R636) -/

/-- The action of one lasting record (R636). In HALTED and in Fallow no action is taken (R645); a degrade that clears
RUN first ends Heath, and has no effect in PARKED (R652, R653); a cluster member that stops so sends DOWN (R537). -/
def Dev.takeAction (d : Dev) (a : Nat × Nat × Nat) : Dev :=
  let (src, detail, cause) := a
  let act := d.fltAction src
  if d.st = stHalted ∨ d.pwr.mode = 2 then d
  else if act = 2 then
    d.halt src (if src = 0x16 then cause else if src = 0x15 then detail % 256 else 0) detail
  else if act = 1 then
    if src = 0x01 ∨ src = 0x02 then { d with flt := { d.flt with forceHop := true } }
    else if src = 0x03 ∨ src = 0x04 then { d with flt := { d.flt with supEls := detail :: d.flt.supEls } }
    else if src = 0x0D then d.ppDisarmPeriodic
    else if src = 0x0E ∨ src = 0x10 then
      (if d.isMember then d.clusterDown else d).runEnds
    else d
  else d

/-- The actions that are due: degrade effects first, then one halt with the lowest source code (R647). The clearing of
RUN can itself make records, whose actions follow; three rounds settle them. -/
def Dev.settleFaults : Nat → Dev → Dev
  | 0, d => { d with flt := { d.flt with due := [] } }
  | k + 1, d =>
    if d.flt.due.isEmpty then d
    else
      let due := d.flt.due
      let d0 : Dev := { d with flt := { d.flt with due := [] } }
      let deg := due.filter (fun a => d.fltAction a.1 != 2)
      let hlt := (due.filter (fun a => d.fltAction a.1 == 2)).mergeSort (fun a b => a.1 ≤ b.1)
      Dev.settleFaults k ((deg ++ hlt.take 1).foldl Dev.takeAction d0)

/-- `f`, in which a calibration run may end with an event of FS13 (R260), with the actions that it makes due (R635, R647).
-/
def Dev.calEnds (d : Dev) (f : Dev → Dev) : Dev :=
  if d.is R.CAL_STATUS_BUSYT || d.is R.CAL_STATUS_BUSYA then Dev.settleFaults 3 (f d) else f d

/-- One event of a fault source, with everything that follows from it (R632–R637). -/
def Dev.raise (d : Dev) (src detail : Nat) : Dev := Dev.settleFaults 3 (d.noteEvent src detail 0)

/-- A direct lasting record, with everything that follows from it (R634–R636). -/
def Dev.raiseDirect (d : Dev) (src detail cause : Nat) : Dev :=
  Dev.settleFaults 3 (d.noteDirect src detail cause false)

/-! ### Sequencer halts and faults (R290–R292) -/

/-- The sequencer halts with a cause of R291 (R292): SEQ_HALT, SEQ_STATUS HALTED, the safe state, and FS15 recorded as
lasting; FS06 instead for cause TICKS (R59), with DETAIL 4. -/
def Dev.seqHalt (d : Dev) (cause : Nat) : Dev :=
  let d := (d.put R.SEQ_HALT_CAUSE cause).put R.SEQ_HALT_PC d.seq.pc
  let d := (d.stopCore 5).safeState.holdAttn
  if cause = 0x13 then d.raiseDirect 0x06 4 0 else d.raiseDirect 0x15 cause cause

/-- Whether the active image marks entry `e` present (R282, R294). -/
def imageEntry (im : Image) (e : Nat) : Nat := leNat ((im.header.drop (16 + 2 * e)).take 2)

def Dev.entryPresent (d : Dev) (e : Nat) : Bool :=
  match d.seq.active with
  | none => false
  | some im => imageEntry im e != 0xFFFF

/-- A sequencer fault (R290): the handler is abandoned, the fault is recorded and counted as FS15, and FAULT is raised;
the sequencer halts with DOUBLE inside the FAULT handler, and with NOFAULT when FAULT is absent (R291). -/
def Dev.seqFault (d : Dev) (cause pc : Nat) (addr : Option Nat) : Dev :=
  let entry := d.get R.SEQ_STATUS_ENTRY
  let d := ((d.put R.SEQ_FAULT_CAUSE cause).put R.SEQ_FAULT_ENTRY entry).put R.SEQ_FAULT_PC pc
  let d := match addr with
    | none => d
    | some a => d.put R.SEQ_FADDR_ADDR a
  let d := d.inc R.SEQ_COUNTS_NFAULT
  let d := { d with seq := { d.seq with wait := none, pc := pc % 8192 } }
  let d := d.raise 0x15 cause
  if d.get R.SEQ_STATUS_STATE = 5 then d
  else if entry = 5 then d.seqHalt 0x11
  else if !d.entryPresent 4 then d.seqHalt 0x12
  else
    let d := (d.put R.SEQ_STATUS_STATE 1).put R.SEQ_STATUS_ENTRY 0
    { d with seq := { d.seq with pFault := true } }

end Sys2Proof.Machine
end

