-- ==== Sys2Proof/Machine/Acq.lean ====
section
/-!
DEFINITION. Machine/Acq.lean: electrodes and acquisition (chapters 01 and 03): roles, code rows, decoding, corrupt
symbols and retries, self passes, the end and the cutting of a frame's acquisition.
-/

namespace Sys2Proof.Machine

/-! ### Electrodes (R17–R25) -/

/-- The role of electrode `n`: 0 UNUSED, 1 DRIVE, 2 SENSE, 3 GUARD. -/
def Dev.role (d : Dev) (n : Nat) : Nat := d.get (R.ACQ_ELROLE_ROLE n)

/-- The axis index of electrode `n`: its column (SENSE) or row (DRIVE). -/
def Dev.elIndex (d : Dev) (n : Nat) : Nat := d.get (R.ACQ_ELROLE_INDEX n)

/-- Electrodes of a role, ascending. -/
def Dev.elsOf (d : Dev) (r : Nat) : List Nat := (List.range 50).filter (fun n => d.role n == r)

/-- Columns and rows of the cluster (R23). -/
def Dev.nCols (d : Dev) : Nat := d.get R.ACQ_GEOMX_COUNT
def Dev.nRows (d : Dev) : Nat := d.get R.ACQ_GEOMY_COUNT

/-- Whether a self scan takes two passes: some electrode of EL32 to EL49 is DRIVE (R21). -/
def Dev.pass2 (d : Dev) : Bool := (List.range 18).any (fun k => d.role (32 + k) == 1)

/-- Whether electrode `n` is judged open or shorted (R90, R91). -/
def Dev.elOpen (d : Dev) (n : Nat) : Bool :=
  if n < 32 then bitOf (d.get R.ACQ_OPENMAP0_EL) n else bitOf (d.get R.ACQ_OPENMAP1_EL) (n - 32)
def Dev.elShort (d : Dev) (n : Nat) : Bool :=
  if n < 32 then bitOf (d.get R.ACQ_SHORTMAP0_EL) n else bitOf (d.get R.ACQ_SHORTMAP1_EL) (n - 32)

/-- Electrode `n` is judged open or shorted afresh: a suppression that an earlier judgement brought, and that has ended
with its bit, does not come back with this one (R636). -/
def Dev.supDrop (d : Dev) (n : Nat) : Dev :=
  if d.elOpen n || d.elShort n then d else { d with flt := { d.flt with supEls := d.flt.supEls.filter (· != n) } }

/-- Whether electrode `n` gives frame `f` no value: judged open or shorted at its tick or since. A bit cleared during the
frame re-enables the electrode from the next tick (R92). -/
def Dev.elDead (d : Dev) (f : Frame) (n : Nat) : Bool := f.dead.contains n || d.elOpen n || d.elShort n

/-- The electrode of this device that holds row `r` or column `c`. -/
def Dev.rowEl (d : Dev) (r : Nat) : Option Nat := (d.elsOf 1).find? (fun n => d.elIndex n == r)
def Dev.colEl (d : Dev) (c : Nat) : Option Nat := ((List.range 32).filter (fun n => d.role n == 2)).find? (fun n => d.elIndex n == c)

/-- Passes of a self scan: pass 2 runs when this device needs it or another node of the cluster has PASS2 = 1 (R21, R81). -/
def Dev.selfPasses (d : Dev) : Nat := if d.pass2 || (d.enumerated && d.cl.pass2) then 2 else 1

/-- The recorded input of pair `k` (R103). -/
def Dev.pairInput (d : Dev) (k : Nat) : Option Nat :=
  if d.role (2 * k) = 2 then some (2 * k) else if d.role (2 * k + 1) = 2 then some (2 * k + 1) else none

/-- ACQ_ELSUM and ACQ_DRANGE recomputed (R34). -/
def Dev.recomputeEls (d : Dev) : Dev :=
  let rows := (d.elsOf 1).map d.elIndex
  let lo := rows.foldl min (rows.headD 0)
  let hi := rows.foldl max 0
  let d := d.setReg R.ACQ_ELSUM (word ((d.elsOf 2).length % 64 + (d.elsOf 1).length % 64 * 256 +
    (d.elsOf 3).length % 64 * 65536 + (if d.pass2 then 2 ^ 24 else 0)))
  d.setReg R.ACQ_DRANGE (word (lo + hi * 65536))

/-! ### Codes and decoding (R72–R77) -/

/-- Number of set bits. -/
def popcount : Nat → Nat → Nat
  | 0, _ => 0
  | k + 1, n => n % 2 + popcount k (n / 2)

/-- The Hadamard entry h(a, b) (R72). -/
def hadamard (a b : Nat) : Int := if popcount 10 (a &&& b) % 2 = 0 then 1 else -1

/-- The code length L (R72). -/
def Dev.codeLen (d : Dev) : Nat := 8 * 2 ^ d.get R.ACQ_CODE_LSEL

/-- Σ_j h(a, j) · y(j): L times the decode of code row `a` (R76). -/
def codeSum (a : Nat) (y : List Int) : Int := ((List.range y.length).zipWith (fun j v => hadamard a j * v) y).sum

/-- L · ŷ(j) − L · y(j) for symbol `j`, from the decodes of code row 0 and of rows 1 to `rows` (R82). -/
def residual (rows : Nat) (y : List Int) (j : Nat) : Int :=
  (codeSum 0 y + ((List.range rows).map (fun n => hadamard (n + 1) j * codeSum (n + 1) y)).sum)
    - y.length * y.getD j 0

/-- Whether symbol `j` fails the residual check: |y − ŷ| above RESTHR (R82). -/
def residualBad (rows thr : Nat) (y : List Int) (j : Nat) : Bool := decide ((thr * y.length : Int) < (residual rows y j).natAbs)

/-- The line gain of cluster row `n` (R76). -/
def Dev.lineGain (d : Dev) (n : Nat) : Nat :=
  if n % 2 = 0 then d.get (R.CAL_LGAIN_LO (n / 2)) else d.get (R.CAL_LGAIN_HI (n / 2))

/-- A decoded value scaled to a mutual node value in aF (R76, R77): channel gain, line gain, factory trims of CFM and
the level. The scale of one result LSB is not stated by the spec (`Config.mutualLsb`, log entry 10). -/
def Dev.nodeValue (d : Dev) (ch row level : Nat) (csum : Int) (len : Nat) : Nat :=
  let k := Config.mutualLsb (d.get (R.OTP_CF_CAP (d.get R.ACQ_AFE_CFM))) (d.get (R.OTP_DRV_GAIN level))
  let v := roundDiv (csum * (d.get (R.CAL_GAIN_GAIN ch) : Int) * (d.lineGain row : Int) * (k : Int))
    (len * 2 ^ 30 * 2 ^ 16)
  (clampI 0 0xFFFFFF v).toNat

/-- A column's node values by row, decoded from the symbol results of its channel (R76). -/
def Dev.decodeColumn (d : Dev) (ch level : Nat) (y : List Int) : List Nat :=
  (List.range d.nRows).map (fun n => d.nodeValue ch n level (codeSum (n + 1) y) y.length)

/-- A self value in 10 aF: the mean of the results converted, plus the charge the OFFS DAC cancelled (R77, R79). -/
def Dev.selfValue (d : Dev) (ch level offs : Nat) (ys : List Int) : Nat :=
  let k := Config.selfLsb (d.get (R.OTP_CF_CAP (d.get R.ACQ_AFE_CFS))) (d.get (R.OTP_DRV_GAIN level))
  let m := roundDiv (ys.sum * (d.get (R.CAL_GAIN_GAIN ch) : Int) * (k : Int)) (ys.length * 2 ^ 15 * 2 ^ 16)
  let off := roundDiv (offs * d.get R.OTP_OFFS_STEP) 10
  (clampI 0 0xFFFFFF (m + off)).toNat

/-! ### Levels (R67–R70) -/

/-- Whether Gorse or Lark is in force (CT_STATUS). -/
def Dev.gorseOn (d : Dev) : Bool := d.is R.CT_STATUS_GORSEON
def Dev.larkOn (d : Dev) : Bool := d.is R.CT_STATUS_LARKON

/-- The temperature cap of the level: a node's own, and on a lead any member's (R69, R529). -/
def Dev.tempCap (d : Dev) : Bool := d.is R.FLT_TEMPST_WARN || (d.isLead && !d.cl.tcap.isEmpty)

/-- The effective level that this node's own settings give (R69). -/
def Dev.ownLevel (d : Dev) : Nat :=
  let l := if d.gorseOn then 3 else d.get R.ACQ_DRV_LEVEL
  let l := min l (d.get R.ACQ_DRV_VMAX)
  if d.tempCap then min l 2 else l

/-- The effective level (R69); in a cluster the one that the lead announced (R529), on a member whatever its own VMAX and
temperature cap are (DESIGN CHOICE, log entry 19). -/
def Dev.effLevel (d : Dev) : Nat := if d.enumerated then d.cl.capLevel else d.ownLevel

/-- The self level of a Lark frame (R70). -/
def Dev.ownLark (d : Dev) : Nat :=
  let l := min 3 (d.get R.ACQ_DRV_VMAX)
  if d.tempCap then min l 2 else l
def Dev.larkLevel (d : Dev) : Nat := if d.enumerated then min d.cl.larkSelf (d.get R.ACQ_DRV_VMAX) else d.ownLark

/-- A scan driven from VHV has shown whether VHV lies within ±5 % of the target (R68). At level 0 nothing changes. -/
def Dev.vhvSeen (d : Dev) (level : Nat) (ok : Bool) : Dev :=
  if level = 0 ∨ level ≠ d.acq.pump then d
  else if ok then { d.put R.ACQ_STATUS_VHVOK 1 with acq := { d.acq with vhvDue := none } } else d.put R.ACQ_STATUS_VHVOK 0

/-- LEVELNOW, TCAP and the pump's target brought up to date at a tick (R68, R69). TCAP shows a node's own temperature
warning, on a lead too whose level a member's warning caps (DESIGN CHOICE, log entry 19). -/
def Dev.levelAtTick (d : Dev) : Dev :=
  let l := d.effLevel
  let d := d.put R.ACQ_STATUS_LEVELNOW l
  (d.putB R.ACQ_STATUS_TCAP (d.is R.FLT_TEMPST_WARN)).pumpTo l

/-- Domain DRV has been switched on or off (R68): the pump reaches its target anew, or VHV leaves it. -/
def Dev.pumpDomain (d : Dev) (on : Bool) : Dev :=
  if d.acq.pump = 0 then (if on && d.is R.ACQ_STATUS_LEVELNOW then d.pumpTo (d.get R.ACQ_STATUS_LEVELNOW) else d)
  else if on then { d with acq := { d.acq with pump := 0 } }.pumpTo d.acq.pump
  else { d.put R.ACQ_STATUS_VHVOK 0 with acq := { d.acq with vhvDue := none } }

/-! ### The frame budget (R50, R80) -/

/-- Cycles of a frequency of `f` 10 Hz units in µs, rounded up. -/
def cyclesUs (n f : Nat) : Nat := ceilDiv (n * 100000) (max 1 f)

/-- Whether entry `h` of the hop table is enabled in the table in force. -/
def Dev.hopEn (d : Dev) (h : Nat) : Bool := d.is (R.HOP_TABLE_EN h)

/-- The lowest enabled FREQ (R108). -/
def Dev.fMin (d : Dev) : Nat :=
  let fs := ((List.range 8).filter d.hopEn).map (fun h => d.get (R.HOP_TABLE_FREQ h))
  fs.foldl min (fs.headD 0)

/-- Whether Gorse can be entered, automatically or by force (R50). -/
def Dev.gorseMay (d : Dev) : Bool := d.get R.CT_CTRL_GORSE == 1 || d.get R.CT_CTRL_GORSE == 2

/-- 1, or 2 where symbols may be doubled (R50). -/
def Dev.symFactor (d : Dev) : Nat := if d.gorseMay then 2 else 1

/-- The mutual term. -/
def Dev.mutualTerm (d : Dev) : Nat :=
  d.get R.ACQ_CODE_MSETTLE +
    if d.is R.TICK_CTRL_HSGATE then ceilDiv (d.codeLen * d.get R.TICK_VMEAS_HPER) 48
    else cyclesUs (d.codeLen * d.get R.ACQ_CODE_P * d.symFactor) d.fMin

/-- The self term without the Lark settling (R80), gated or not. -/
def Dev.selfTermOf (d : Dev) (gated : Bool) : Nat :=
  d.selfPasses *
    (d.get R.ACQ_SELF_SSETTLE +
      if gated then ceilDiv (d.get R.ACQ_SELF_NSELF * d.get R.TICK_VMEAS_HPER) 48
      else cyclesUs (d.get R.ACQ_SELF_NSELF * d.get R.ACQ_SELF_PSELF * d.symFactor) d.fMin)
def Dev.selfScanTerm (d : Dev) : Nat := d.selfTermOf (d.is R.TICK_CTRL_HSGATE)

/-- The Lark settling of a plan (R50, R70). -/
def Dev.larkTerm (d : Dev) (plan : List Nat) : Nat :=
  if d.is R.CT_CTRL_LARK && decide (d.get R.ACQ_DRV_LEVEL < d.ownLark) then
    (if plan.idxOf 2 < plan.idxOf 1 ∧ plan.contains 1 = true then 300 else 150)
  else 0

/-- The term of APPROACH. -/
def approachTerm : Nat := 420

/-! ### A frame begins (R41, R43) -/

/-- The plan codes in order (R41). -/
def Dev.plan (d : Dev) : List Nat :=
  ([d.get R.TICK_PLAN_FIRST, d.get R.TICK_PLAN_SECOND, d.get R.TICK_PLAN_THIRD].takeWhile (· != 0))

/-- The scan phases that a frame runs, in the plan's order; those left out close up (R41, R43). -/
def phaseOrder (plan : List Nat) (mut_ self_ appr : Bool) : List Nat :=
  plan.filter (fun c => (c == 1 && mut_) || (c == 2 && self_) || (c == 3 && appr))

/-- The OPT domain can run a burst: it is ON, or drains until a tick (R211, R578). -/
def Dev.optLive (d : Dev) : Bool := d.domOn 11 || (d.dom 11 == 3 && bitOf d.pwr.tickOff 11)

/-- Whether an APPROACH phase runs its burst: the channel is on, and not on a cluster member (R197, R212). -/
def Dev.burstOn (d : Dev) : Bool := d.is R.OPT_CTRL_EN && d.optLive && !d.isMember

/-- The frame that a tick starts: with ALT, an even TICK_COUNT skips SELF and an odd one skips MUTUAL (R43). A planned
APPROACH phase runs also without its burst (R197). -/
def Dev.newFrame (d : Dev) : Frame :=
  let t := d.get R.TICK_COUNT_COUNT
  let alt := d.is R.TICK_PLAN_ALT
  let p := d.plan
  let mut_ := p.contains 1 && !(alt && t % 2 == 1)
  let self_ := p.contains 2 && !(alt && t % 2 == 0)
  { tick := t, tlast := d.get R.TICK_LAST_TSTAMP, heath := false,
    mutScan := mut_, selfScan := self_, approach := p.contains 3 && d.burstOn, order := phaseOrder p mut_ self_ true, phaseAt := d.clock,
    dead := (List.range 50).filter (fun n => d.elOpen n || d.elShort n), shut := (List.range 50).filter d.elShort,
    level := d.get R.ACQ_STATUS_LEVELNOW,
    selfLevel := if d.larkOn then max d.larkLevel (d.get R.ACQ_STATUS_LEVELNOW) else d.get R.ACQ_STATUS_LEVELNOW,
    freq := d.get (R.HOP_TABLE_FREQ (d.get R.HOP_STATUS_CUR)), gorse := d.gorseOn, lark := d.larkOn,
    y := [], bad := [], ask := [], failed := [], ncorr := 0, nretry := 0, ovl := none, lovl := none, listened := false,
    mutDone := false, selfDone := 0, apDone := false, noRetry := false, cols := [], selfRaw := [], selfCols := [], selfRows := [],
    clCorr := [], lofs := [], exch := none, cut := false, decoded := false, at_ := d.clock }

/-- Acquisition of a new frame starts (R35, R41). Its symbols are gated to HSYNC only while HSYNC is locked (R56). -/
def Dev.acqStart (d : Dev) (f : Frame) : Dev :=
  { d with acq := { d.acq with now := some f, hiZ := false }
           tick := { d.tick with ungated := d.is R.TICK_CTRL_HSGATE && !d.is R.TICK_STATUS_HSLOCK } }

/-! ### The phases of a frame (R41, R70) -/

/-- The mutual scan and its retries are over; in a cluster once the retry interval has passed (R526). -/
def Dev.mutOver (d : Dev) (f : Frame) : Bool :=
  f.mutDone && match f.exch with
    | some e => decide (e.2 ≤ d.clock)
    | none => (f.noRetry || f.ask.isEmpty || decide (d.get R.ACQ_AFE_RETRY ≤ f.nretry))

/-- Whether the scan phase of code `c` is over. -/
def Dev.phaseOver (d : Dev) (f : Frame) (c : Nat) : Bool :=
  if c = 1 then d.mutOver f else if c = 2 then decide (d.selfPasses ≤ f.selfDone) else f.apDone

/-- The code of the scan phase in progress, after the listen slot: each starts when the one before it ends. -/
def Dev.nextPhase (d : Dev) (f : Frame) : Option Nat := if f.listened then f.order.find? (fun c => !d.phaseOver f c) else none

/-- Whether every phase of the frame has run. -/
def Dev.frameComplete (d : Dev) (f : Frame) : Bool := f.listened && (d.nextPhase f).isNone

/-- The self passes of this frame run at a raised level (R70). -/
def Frame.raised (f : Frame) : Bool := decide (f.level < f.selfLevel)

/-- A Lark settling interval runs: before the first self pass, and before a mutual scan that follows SELF. -/
def Dev.larkWait (d : Dev) (f : Frame) : Bool :=
  f.raised && decide (d.clock < f.phaseAt + 150) &&
    ((d.nextPhase f == some 2 && f.selfDone == 0) || (d.nextPhase f == some 1 && !f.mutDone && f.selfDone != 0))

/-- What the electrodes are being used for. -/
inductive Phase where
  | idle
  | start
  | listen
  | settle
  | mutualScan
  | exchange
  | self (pass : Nat)
  | approach
deriving DecidableEq, Repr

/-- Whether no phase after the mutual scan has begun. -/
def Frame.retryTime (f : Frame) : Bool :=
  let rest := (f.order.dropWhile (· != 1)).drop 1
  f.mutDone && !(rest.contains 2 && f.selfDone != 0) && !(rest.contains 3 && f.apDone)

/-- The symbol that is retried next (R85): ascending, at most RETRY of them, none once a retry did not fit (R86), and in a
cluster only in the retry interval (R526). -/
def Dev.retryNext (d : Dev) (f : Frame) : Option Nat :=
  if f.retryTime && !f.noRetry && decide (f.nretry < d.get R.ACQ_AFE_RETRY) &&
      f.exch.all (fun e => decide (e.1 ≤ d.clock ∧ d.clock ≤ e.2)) then f.ask.head? else none

/-- The exchange gap of the frame goes on (R526). -/
def Dev.inGap (d : Dev) (f : Frame) : Bool := f.retryTime && f.exch.any (fun e => decide (d.clock ≤ e.1))

/-- The phase in progress (R41): the start interval of 10 µs, the listen slot, the scan phases in order; in a cluster the
exchange gap and the unused slots of the retry interval follow the mutual scan (R526). -/
def Dev.phase (d : Dev) : Phase :=
  match d.acq.now with
  | none => .idle
  | some f =>
    if !f.listened then (if d.clock < f.at_ + 10 then .start else .listen)
    else if d.larkWait f then .settle
    else match d.nextPhase f with
      | some 1 => if f.exch.isSome && (d.retryNext f).isNone then .exchange else .mutualScan
      | some 2 => .self f.selfDone
      | some _ => .approach
      | none => .idle

/-- What a driver does with its electrode (R17, R19, R70, R73, R79): high impedance with a weak pull-down, held at AGND, at
rest (the tables of chapters 02 and 03 call it Idle), held at the mid-level of a level, driven with a code row,
sensed by its channel, recorded by its converter pair, self-driven and sensed, or driven with the guard waveform. -/
inductive Drive where
  | hiZ
  | ground
  | rest
  | mid (level : Nat)
  | code (row level : Nat)
  | sense
  | record
  | self (level : Nat)
  | guard (level : Nat)
deriving DecidableEq, Repr

/-- Whether a frame is a run frame of CAL_AFE, whose pairs do not interleave (R251). -/
def Dev.afeRunFrame (d : Dev) (f : Frame) : Bool :=
  d.cal.touch.any (fun t => t.kind == 0 && t.start.any (fun s => decide (s ≤ f.tick)))

/-- What electrode `n` does in a phase of frame `f` by its role (R17, R21, R70). In the listen slot a SENSE electrode that
no converter records is at rest; in the exchange gap, as in the unused slots of the retry interval (R526), the drive and
guard lines are at mid-level (DESIGN CHOICES, log entry 19). -/
def Dev.roleDrive (d : Dev) (f : Frame) (p : Phase) (n : Nat) : Drive :=
  match p, d.role n with
  | .idle, _ | .start, _ | .approach, _ => .rest
  | _, 0 => .ground
  | .settle, _ => .mid f.level
  | .listen, 2 => if d.pairInput (n / 2) = some n ∨ d.afeRunFrame f = true then .record else .rest
  | .listen, _ => .mid f.level
  | .mutualScan, 1 => .code (d.elIndex n + 1) f.level
  | .mutualScan, 2 => .sense
  | .exchange, 2 => .sense
  | .mutualScan, _ | .exchange, _ => .mid f.level
  | .self k, r =>
    if r ≠ 3 ∧ (if k = 0 then n < 32 else 32 ≤ n ∧ r = 1) then .self f.selfLevel else .guard f.selfLevel

/-- The drivers and, for one of EL0 to EL31, its channel have power (R17, R574). -/
def Dev.elPower (d : Dev) (n : Nat) : Bool := d.domOn 5 && (decide (32 ≤ n) || d.domOn (if n < 16 then 3 else 4))

/-- The drive of electrode `n` now (R17, R19, R91, R92, R574). -/
def Dev.elDrive (d : Dev) (n : Nat) : Drive :=
  if d.elPower n = false then .hiZ
  else if d.st = stHalted ∨ d.st = stParked ∨ d.acq.hiZ = true ∨ d.elShort n = true then .hiZ
  else match d.acq.now with
    | some f => if f.shut.contains n then .hiZ else d.roleDrive f d.phase n
    | none => .rest

/-- Whether the driver current of electrode `n` is monitored (R91): a DRIVE electrode in the mutual and self scans, a GUARD
or a guarded electrode in the self scans, a DRIVE or GUARD electrode in the listen slot. -/
def Dev.shortSeen (d : Dev) (n : Nat) : Bool :=
  match d.phase, d.elDrive n with
  | .mutualScan, .code _ _ => true
  | .self _, .self _ => d.role n == 1
  | .self _, .guard _ => true
  | .listen, .mid _ => true
  | _, _ => false

/-- The pump follows the phase in progress: the raised self level during SELF, the frame's level otherwise (R68, R70). -/
def Dev.pumpPhase (d : Dev) : Dev :=
  match d.acq.now with
  | some f => d.pumpTo (if f.raised && d.nextPhase f == some 2 then f.selfLevel else f.level)
  | none => d

/-- A phase has ended at the instant `t`, or now: the next one begins, and the pump takes its target. -/
def Dev.phaseFrom (d : Dev) (t : Nat) : Dev :=
  ({ d with acq := { d.acq with now := d.acq.now.map (fun f => { f with phaseAt := t }) } } : Dev).pumpPhase
def Dev.phaseEnd (d : Dev) : Dev := d.phaseFrom d.clock

/-! ### Mutual scan and retries (R78, R82–R87) -/

/-- SENSE channels of this device. -/
def Dev.senseChannels (d : Dev) : List Nat := ((List.range 32).filter (fun n => d.role n == 2))

/-- Channels of `o` that hold symbol `j`. -/
def hasSym (o : List (List Nat)) (ch j : Nat) : Bool := (o.getD ch []).contains j

/-- The lower of two channels, where there are any. -/
def minCh : Option Nat → Option Nat → Option Nat
  | some a, some b => some (min a b)
  | some a, none => some a
  | none, b => b

/-- The lowest SENSE channel that overloaded in one of the first `n` symbols. -/
def Dev.ovlOf (d : Dev) (ovr : List (List Nat)) (n : Nat) : Option Nat :=
  (d.senseChannels.filter (fun ch => (ovr.getD ch []).any (· < n))).head?

/-- The duration of a retry in µs, rounded up: settling and a symbol, or one HSYNC line when gated (R85). -/
def Dev.retryUs (d : Dev) (f : Frame) : Nat :=
  if d.is R.TICK_CTRL_HSGATE && !d.tick.ungated then ceilDiv (d.get R.TICK_VMEAS_HPER) 48
  else d.get R.ACQ_CODE_MSETTLE + cyclesUs (d.get R.ACQ_CODE_P * (if f.gorse then 2 else 1)) f.freq

/-- The retry interval of a cluster in µs (R526): RETRY slots, each a retry's time or an HSYNC line. -/
def Dev.retryInterval (d : Dev) (f : Frame) : Nat :=
  let n := d.get R.ACQ_AFE_RETRY
  if d.is R.TICK_CTRL_HSGATE && !d.tick.ungated then ceilDiv (n * d.get R.TICK_VMEAS_HPER) 48
  else n * d.get R.ACQ_CODE_MSETTLE + cyclesUs (n * d.get R.ACQ_CODE_P * (if f.gorse then 2 else 1)) f.freq

/-- The budget terms of the phases that still follow the mutual scan (R50, R86), ungated once HSYNC is lost (R56). -/
def Dev.laterTerms (d : Dev) (f : Frame) : Nat :=
  let rest := (f.order.dropWhile (· != 1)).drop 1
  let gated := d.is R.TICK_CTRL_HSGATE && !d.tick.ungated
  (if rest.contains 2 then d.selfTermOf gated + d.larkTerm rest else 0) + (if rest.contains 3 then approachTerm else 0)

/-- Whether a retry that starts now, and the later phases' terms, end by the deadline, 150 µs before the expected next
tick (R86). In a cluster the retry interval always fits (R528). -/
def Dev.retryFits (d : Dev) (f : Frame) : Bool :=
  d.enumerated || decide (d.clock + d.retryUs f + d.laterTerms f + 150 ≤ d.tick.lastTick + d.tick.spacing)

/-- The frame with no further retries once one no longer fits (R86). -/
def Dev.retryLatch (d : Dev) (f : Frame) : Frame := { f with noRetry := f.noRetry || !d.retryFits f }

/-- The mutual scan has ended (R78, R82): the results of each channel, the symbols that overloaded, and those that were
integrated while VHVOK was 0, which are corrupt on every channel (R84). -/
def Dev.mutualScan (d : Dev) (y : List (List Int)) (ovr : List (List Nat)) (vhvLow : List Nat) : Dev :=
  match d.acq.now with
  | none => d
  | some f =>
    if d.nextPhase f ≠ some 1 ∨ f.mutDone = true then d
    else
      let L := d.codeLen
      let y := (List.range 32).map (fun ch => (List.range L).map (fun j => (y.getD ch []).getD j 0))
      let chans := d.senseChannels
      let low := if f.level = 0 then [] else vhvLow.filter (· < L)
      let bad := (List.range 32).map (fun ch =>
        if chans.contains ch then
          (List.range L).filter (fun j => hasSym ovr ch j || low.contains j ||
            residualBad d.nRows (d.get R.ACQ_CORR_RESTHR) (y.getD ch []) j)
        else [])
      let ask := (List.range L).filter (fun j => bad.any (·.contains j))
      let f := { f with y := y, bad := bad, ask := ask, ncorr := ask.length, ovl := minCh f.ovl (d.ovlOf ovr L), mutDone := true }
      { d with acq := { d.acq with now := some (d.retryLatch f) } }

/-- Symbol `j` retried (R85): on each channel that had it marked, a clean retry replaces the result; a retry that
overloads, or that ran while VHVOK was 0, replaces nothing. An overload of a retry counts as one of the mutual scan
(DEDUCED, log entry 13). -/
def retryFrame (f : Frame) (j : Nat) (y : List Int) (ovr : List Nat) (vhvOk : Bool) : Frame :=
  let marked := (List.range 32).filter (fun ch => hasSym f.bad ch j)
  let good := marked.filter (fun ch => vhvOk && !ovr.contains ch)
  let y' := (List.range 32).map (fun ch =>
    let row := f.y.getD ch []
    if good.contains ch then row.set j (y.getD ch 0) else row)
  let bad' := (List.range 32).map (fun ch =>
    let b := f.bad.getD ch []
    if good.contains ch then b.erase j else b)
  { f with y := y', bad := bad', ask := f.ask.erase j, nretry := f.nretry + 1,
           failed := f.failed ++ ((marked.filter (fun ch => !good.contains ch)).map (fun ch => (ch, j))),
           ovl := minCh f.ovl ((List.range 32).find? ovr.contains) }

/-- What a mutual scan or a self pass cut by the deadline had met (R57, R83, R125): overloads by channel, and the mutual
symbols integrated while VHVOK was 0. The residual check has not run. -/
def Dev.cutScan (d : Dev) (f : Frame) (ovr : List (List Nat)) (vhvLow : List Nat) : Frame :=
  let L := d.codeLen
  match d.nextPhase f with
  | some 1 =>
    if f.mutDone then f
    else
      let low := if f.level = 0 then [] else vhvLow
      let n := ((List.range L).filter (fun j => low.contains j || d.senseChannels.any (fun ch => hasSym ovr ch j))).length
      { f with ncorr := n, ovl := minCh f.ovl (d.ovlOf ovr L) }
  | some 2 => { f with ovl := minCh f.ovl ((List.range 32).find? (fun ch => !(ovr.getD ch []).isEmpty)) }
  | _ => f

/-! ### Self passes (R79, R88) -/

/-- The electrodes that pass `p` (0 or 1) senses, each with its channel (R20–R22). -/
def Dev.selfEls (d : Dev) (p : Nat) : List (Nat × Nat) :=
  if p = 0 then ((List.range 32).filter (fun n => d.role n == 1 || d.role n == 2)).map (fun n => (n, n))
  else ((List.range 18).filter (fun k => d.role (32 + k) == 1)).map (fun k => (32 + k, k))

/-- A self pass has completed: each sensed electrode's value is the mean of its symbol results (R79); it is held where
its channel overloaded, or a symbol was integrated while VHVOK was 0 (R88). -/
def Dev.selfPass (d : Dev) (ys : List (List Int)) (ovr : List Nat) (vhvLow : Bool) : Dev :=
  match d.acq.now with
  | none => d
  | some f =>
    if d.nextPhase f ≠ some 2 then d
    else
      let n := d.get R.ACQ_SELF_NSELF
      let one := fun (e : Nat × Nat) =>
        let v := (List.range n).map (fun j => (ys.getD e.2 []).getD j 0)
        let held := ovr.contains e.2 || (vhvLow && f.selfLevel != 0) || d.elDead f e.1
        (e.1, e.2, d.get (R.ACQ_OFF_OFFS e.2), if held then none else some v)
      let f := { f with
        selfDone := f.selfDone + 1
        ovl := minCh f.ovl ((List.range 32).find? ovr.contains)
        selfRaw := f.selfRaw ++ (d.selfEls f.selfDone).map one }
      { d with acq := { d.acq with now := some f } }

/-! ### The end of acquisition (R44, R57, R83, R87) -/

/-- Whether a channel is stale (R87): a symbol never retried or failed again, or the repeated residual check fails. -/
def Dev.staleChannel (d : Dev) (f : Frame) (ch : Nat) : Bool :=
  !(f.bad.getD ch []).isEmpty ||
    (0 < f.nretry && (List.range d.codeLen).any (residualBad d.nRows (d.get R.ACQ_CORR_RESTHR) (f.y.getD ch [])))

/-- What the frame's mutual scan gives each column of this device: its values by row, or none where the whole column
is held (R87, R57, R92). -/
def Dev.frameCols (d : Dev) (f : Frame) : List (Nat × Option (List Nat)) :=
  if !f.mutScan then []
  else d.senseChannels.map (fun ch =>
    (d.elIndex ch,
      if !f.mutDone || d.elDead f ch || d.staleChannel f ch then none
      else some (d.decodeColumn ch f.level (f.y.getD ch []))))

/-- The self results; a self scan that did not complete gives none, and holds every value (R57). -/
def Dev.allSelf (d : Dev) (f : Frame) : List (Nat × Nat × Nat × Option (List Int)) :=
  if !f.selfScan || decide (d.selfPasses ≤ f.selfDone) then f.selfRaw
  else ((List.range d.selfPasses).flatMap (fun p => d.selfEls p)).map (fun e => (e.1, e.2, 0, none))

/-- The frame with its measurements decoded, as its processing starts (R44, R76, R79, R261). -/
def Dev.decodeFrame (d : Dev) (f : Frame) : Frame :=
  let val := fun (e : Nat × Nat × Nat × Option (List Int)) =>
    (d.elIndex e.1, e.2.2.2.map (d.selfValue e.2.1 f.selfLevel e.2.2.1))
  let raw := d.allSelf f
  if f.decoded then f
  else { f with
    decoded := true
    cols := d.frameCols f
    selfCols := (raw.filter (fun e => d.role e.1 == 2)).map val
    selfRows := (raw.filter (fun e => d.role e.1 == 1)).map val }

/-- ACQ_FSTAT and ACQ_STALEMAP of a frame (R87). -/
def Dev.frameStatus (d : Dev) (f : Frame) : Dev :=
  let held := d.senseChannels.filter (fun ch => f.mutScan && (!f.mutDone || d.elDead f ch || d.staleChannel f ch))
  let d := d.setReg R.ACQ_STALEMAP (word ((held.map (fun ch => 2 ^ ch)).sum))
  let d := ((d.put R.ACQ_FSTAT_NCORR (min f.ncorr 512)).put R.ACQ_FSTAT_NRETRY f.nretry).put R.ACQ_FSTAT_NSTALE held.length
  d.putB R.ACQ_FSTAT_OVL f.ovl.isSome

/-- FS01 and FS02 of a frame, each counted at most once (R83), with their actions after both (R647). An overload of the
listen slot counts for FS01 and is no corrupt symbol (R99). -/
def Dev.frameFaults (d : Dev) (f : Frame) : Dev :=
  let d := match minCh f.ovl f.lovl with
    | none => d
    | some ch => d.noteEvent 0x01 ch 0
  Dev.settleFaults 3 (if 0 < f.ncorr then d.noteEvent 0x02 f.ncorr 0 else d)

end Sys2Proof.Machine
end

