-- ==== Sys2Proof/Machine/Hop.lean ====
section
/-!
DEFINITION. Machine/Hop.lean: the listen slot, noise levels and frequency hopping (chapter 04): demodulation, the hop
decision, forced hops, the hop table and its tests, and the application of a hop at a tick.
-/

namespace Sys2Proof.Machine

/-! ### Demodulation (R104). Fixed point with 32 fraction bits; log entry 11. -/

/-- π/2 with 32 fraction bits. -/
def halfPi : Int := 6746518852

/-- The Taylor terms of cos (`k0` = 0) or sin (`k0` = 1) at `x` (32 fraction bits): term, square, next factor. -/
def trigTerms : Nat → Nat → Int → Int → Int
  | 0, _, _, _ => 0
  | fuel + 1, k, t, x2 => t + trigTerms fuel (k + 2) (-(t * x2 / (2 ^ 32 : Int)) / ((k + 1) * (k + 2) : Int)) x2

/-- cos and sin of `num / den` of a quarter turn, 32 fraction bits. -/
def cosQuarter (num den : Nat) : Int :=
  let x := halfPi * num / den
  trigTerms 10 0 (2 ^ 32) (x * x / 2 ^ 32)
def sinQuarter (num den : Nat) : Int :=
  let x := halfPi * num / den
  trigTerms 10 1 x (x * x / 2 ^ 32)

/-- cos(2π · num / den) and sin(2π · num / den), 32 fraction bits. -/
def cosTurn (num den : Nat) : Int :=
  let n := num % den
  let q := 4 * n / den
  let r := 4 * n % den
  if q = 0 then cosQuarter r den else if q = 1 then -sinQuarter r den
  else if q = 2 then -cosQuarter r den else sinQuarter r den
def sinTurn (num den : Nat) : Int :=
  let n := num % den
  let q := 4 * n / den
  let r := 4 * n % den
  if q = 0 then sinQuarter r den else if q = 1 then cosQuarter r den
  else if q = 2 then -sinQuarter r den else -cosQuarter r den

/-- The Hann window at sample `n` of `len` in its periodic form, 33 fraction bits (DESIGN CHOICE, log entry 19). -/
def hann (n len : Nat) : Int := 2 ^ 32 - cosTurn n len

/-- The power sums i² + q² of samples `x` at 8 MS/s for a frequency in 10 Hz units (R104). -/
def demodPower (x : List Int) (freq : Nat) : Nat :=
  let len := x.length
  let i := ((List.range len).zipWith (fun n v => v * hann n len * cosTurn (n * freq) 800000) x).sum / 2 ^ 48
  let q := ((List.range len).zipWith (fun n v => v * hann n len * sinTurn (n * freq) 800000) x).sum / 2 ^ 48
  (i * i + q * q).toNat

/-- pfs(f): the same sums for a sinusoid of full converter scale (R104). The window is Hann's periodic form from n = 0, and
the sinusoid a cosine of amplitude 8192 (DESIGN CHOICE, log entry 19). -/
def demodFull (len freq : Nat) : Nat :=
  demodPower ((List.range len).map (fun n => 8192 * cosTurn (n * freq) 800000 / 2 ^ 32)) freq

/-- NLEV of the power ratio p / full: 4 · (10 · log10 + 128), rounded to nearest and clamped to 0–511 (R104). It is the
number of n in 1..511 with (p/full)^80 ≥ 10^(2n − 1025). -/
def nlevOf (p full : Nat) : Nat :=
  ((List.range 511).filter (fun k => decide (full ^ 80 * 10 ^ (2 * (k + 1)) ≤ p ^ 80 * 10 ^ 1025))).length

/-- The samples of a pair centred on the mid-code and freed of the listen offsets of its two converters, which sample
alternately (R66, R102, and LOFS of R252). -/
def Dev.centred (d : Dev) (k : Nat) (codes : List Nat) : List Int :=
  (List.range codes.length).zipWith (fun (n c : Nat) =>
    (c : Int) - 8192 - d.getS (R.CAL_GAIN_LOFS (2 * k + n % 2))) codes

/-- What the pairs have recorded in a frame's listen slot: pair, clipped, centred samples (R102, R103, R105). In a run frame
of CAL_AFE the inputs come by channel, each at 4 MS/s (R251). -/
def Dev.recorded (d : Dev) (afe : Bool) (inputs : List (Nat × Bool × List Nat)) : List (Nat × Bool × List Int) :=
  (List.range 16).filterMap (fun k =>
    match d.pairInput k with
    | none => none
    | some el =>
      let (clip, codes) := (inputs.lookup (if afe then el else k)).getD (false, [])
      some (k, clip, if afe then codes.map (fun (c : Nat) => (c : Int) - 8192 - d.getS (R.CAL_GAIN_LOFS el)) else d.centred k codes))

/-- The listen slot has ended (R102, R105): the recordings are kept, the lowest channel that clipped is noted (R99), and in
a run frame of CAL_AFE the sum of each channel's samples (R252). -/
def Dev.listenSlot (d : Dev) (inputs : List (Nat × Bool × List Nat)) : Dev :=
  match d.acq.now with
  | none => d
  | some f =>
    if f.listened then d
    else
      let afe := d.afeRunFrame f
      let rec_ := d.recorded afe inputs
      let lofs := if afe then inputs.map (fun e => (e.1, (e.2.2.map (fun (c : Nat) => (c : Int) - 8192)).sum, e.2.2.length)) else []
      let clipped := (rec_.filter (fun e => e.2.1)).filterMap (fun e => d.pairInput e.1)
      let f := { f with listened := true, lofs := lofs, lovl := clipped.head? }
      ({ d with acq := { d.acq with listen := rec_, slow := afe, now := some f } } : Dev).phaseEnd

/-- A frequency as the demodulation counts it: in 10 Hz units at 8 MS/s, doubled for a recording at 4 MS/s. -/
def Dev.demodFreq (d : Dev) (f : Nat) : Nat := if d.acq.slow then 2 * f else f

/-- The levels of hop entry `h` over the unclipped recorded inputs: NMAX, the pair that gave it, NMEAN (R106). With every
input clipped WORST reads 0, of which R105 says nothing (DESIGN CHOICE, log entry 19). -/
def Dev.noiseOf (d : Dev) (h : Nat) : Nat × Nat × Nat :=
  let f := d.get (R.HOP_TABLE_FREQ h)
  let rec_ := d.acq.listen
  let good := rec_.filter (fun e => !e.2.1)
  if rec_.isEmpty || f < 4000 || 60000 < f then (0, 0, 0)
  else if good.isEmpty then (511, 0, 511)
  else
    let lv := good.map (fun e => (e.1, demodPower e.2.2 (d.demodFreq f), demodFull e.2.2.length (d.demodFreq f)))
    let n := lv.map (fun e => (e.1, nlevOf e.2.1 e.2.2))
    let mx := (n.map (·.2)).foldl max 0
    let worst := ((n.filter (fun e => e.2 == mx)).map (·.1)).headD 0
    let tot := (lv.map (·.2.1)).sum
    (mx, worst, nlevOf tot ((lv.map (·.2.2)).headD 1 * good.length))

/-- The demodulation completes: every HOP_NOISEh and CLIP written in one cycle (R104–R106). -/
def Dev.noiseLevels (d : Dev) : Dev :=
  let put := fun (d' : Dev) (h : Nat) =>
    let (mx, w, mn) := d.noiseOf h
    ((d'.put (R.HOP_NOISE_NMAX h) mx).put (R.HOP_NOISE_WORST h) w).put (R.HOP_NOISE_NMEAN h) mn
  let d' := (List.range 8).foldl put d
  d'.put R.HOP_STATUS_CLIP (d.acq.listen.filter (fun e => e.2.1)).length

/-! ### The hop decision (R109–R113, R116) -/

/-- An entry's level in the metric that HOP_CTRL.METRIC selects (R106). -/
def Dev.hopLevel (d : Dev) (h : Nat) : Nat :=
  if d.is R.HOP_CTRL_METRIC then d.get (R.HOP_NOISE_NMEAN h) else d.get (R.HOP_NOISE_NMAX h)

/-- Whether entry `h` is excluded as a target: within 2 kHz of a multiple of the line frequency (R113). -/
def Dev.hopExcluded (d : Dev) (h : Nat) : Bool :=
  let hp := d.get R.TICK_VMEAS_HPER
  if d.is R.HOP_CTRL_HSAVOID && d.is R.TICK_STATUS_HSLOCK && hp != 0 then
    let x := d.get (R.HOP_TABLE_FREQ h) * 10 * hp
    let r := x % 48000000
    decide (min r (48000000 - r) ≤ 2000 * hp)
  else false

/-- The candidate with the lowest level, the lowest number on a tie (R111); `lift` lifts the exclusion (R112). -/
def Dev.hopTarget (d : Dev) (lift : Bool) : Option Nat :=
  let cur := d.get R.HOP_STATUS_CUR
  let c := (List.range 8).filter (fun h => d.hopEn h && h != cur && (lift || !d.hopExcluded h))
  c.foldl (fun b h => match b with
    | none => some h
    | some g => if d.hopLevel h < d.hopLevel g then some h else some g) none

/-- The decision of one frame (R109): persistence, then an emergency or a normal hop becomes pending. `ncorr` is the
frame's corrupt symbol count; a degrade of FS01 or FS02 asks for an emergency hop whatever it is (R636). -/
def Dev.hopDecide (d : Dev) (ncorr : Nat) (member : Bool) : Dev :=
  let cur := d.get R.HOP_STATUS_CUR
  let lv := d.hopLevel cur
  let per := d.get R.HOP_CFG_PERSIST
  let pc := if d.get R.HOP_CFG_ENTER < lv then min (d.get R.HOP_STATUS_PCNT + 1) per else 0
  let force := d.flt.forceHop
  let d := { d with flt := { d.flt with forceHop := false } }
  let d := d.put R.HOP_STATUS_PCNT pc
  if !d.is R.HOP_CTRL_MODE then if 8 ≤ ncorr then d.put R.HOP_STATUS_EMSUPP 1 else d
  else if member then d
  else if decide (8 ≤ ncorr) || force then
    match (d.hopTarget false).orElse (fun _ => d.hopTarget true) with
    | none => d
    | some t => { d.put R.HOP_STATUS_PENDING 1 with hop := { d.hop with pending := some (t, 2, lv) } }
  else
    match d.hopTarget false with
    | none => d
    | some t =>
      if pc = per ∧ d.hopLevel t + d.get R.HOP_CFG_MARGIN ≤ lv ∧ d.get R.HOP_CFG_DWELL ≤ d.get R.HOP_STATUS_DWELLCNT then
        { d.put R.HOP_STATUS_PENDING 1 with hop := { d.hop with pending := some (t, 1, lv) } }
      else d

/-! ### Hops applied (R115, R120, R121, R123) -/

/-- A hop to `t` applied at a tick: CUR, HOP_COUNT, the history entry, the counts, and the HOP event (R115, R120). -/
def Dev.hopApply (d : Dev) (t cause lv : Nat) : Dev :=
  let n := d.get R.HOP_COUNT_COUNT % 16
  let d := (((d.put (R.HOP_HISTA_FROM n) (d.get R.HOP_STATUS_CUR)).put (R.HOP_HISTA_TO n) t).put
    (R.HOP_HISTA_CAUSE n) cause).put (R.HOP_HISTA_NLEV n) lv
  let d := d.put (R.HOP_HISTB_TICK n) (d.get R.TICK_COUNT_COUNT)
  let d := d.incWrap R.HOP_COUNT_COUNT
  let d := ((d.put R.HOP_STATUS_CUR t).put R.HOP_STATUS_DWELLCNT 0).put R.HOP_STATUS_PCNT 0
  d.event evHop

/-- The pending hops at a tick, after the staged hop-table writes (R121, R123); without a hop DWELLCNT counts. -/
def Dev.hopAtTick (d : Dev) : Dev :=
  let fo := d.hop.forced
  let pe := d.hop.pending
  let d := { d with hop := { d.hop with forced := none, pending := none } }
  let d := d.put R.HOP_STATUS_PENDING 0
  let other (d : Dev) : Dev := match pe with
    | some (t, c, lv) => if d.hopEn t then d.hopApply t c lv else d.inc R.HOP_STATUS_DWELLCNT
    | none => d.inc R.HOP_STATUS_DWELLCNT
  match fo with
  | some t => if d.hopEn t then d.hopApply t 3 0 else other (d.put R.HOP_STATUS_FREJ 1)
  | none => other d

/-- A write to HOP_FORCE (R114). A cluster member ignores it (R118). A second one replaces the target of the first, and a
current entry that is disabled sets FREJ as any disabled entry does (DESIGN CHOICES, log entry 19). -/
def Dev.hopForce (d : Dev) (idx : Nat) (go member : Bool) : Dev :=
  if !go || member || d.st == stHalted || !d.domOn 6 then d
  else if !d.hopEn idx then d.put R.HOP_STATUS_FREJ 1
  else if idx = d.get R.HOP_STATUS_CUR then d
  else { d.put R.HOP_STATUS_PENDING 1 with hop := { d.hop with forced := some idx } }

/-- Entry to RUNNING (R117). -/
def Dev.hopStart (d : Dev) : Dev :=
  let d := { d with hop := { d.hop with forced := none, pending := none } }
  (((d.put R.HOP_STATUS_CUR (d.get R.HOP_CTRL_START)).put R.HOP_STATUS_PCNT 0).put R.HOP_STATUS_DWELLCNT 255).put
    R.HOP_STATUS_PENDING 0

/-! ### The hop table (R108, R122) -/

/-- Two enabled entries of a table (FREQ, EN) lie closer than 2000 / LEN kHz: 10 Hz units times LEN (R108). -/
def tooClose (len f g : Nat) : Bool := decide ((if f ≤ g then g - f else f - g) * len < 200000)

/-- Entry `h` of a table breaks cause 0x02 or 0x03 of R108. -/
def tableBad2 (t : List (Nat × Bool)) (h : Nat) : Bool :=
  let e := t.getD h (0, false)
  e.2 && (decide (e.1 < 4000) || decide (60000 < e.1))
def tableBad3 (len : Nat) (t : List (Nat × Bool)) (h : Nat) : Bool :=
  let e := t.getD h (0, false)
  e.2 && (List.range 8).any (fun g => g != h && (t.getD g (0, false)).2 && tooClose len e.1 (t.getD g (0, false)).1)

/-- The hop table as words: FREQ and EN. -/
def tableOf (ws : List Word) : List (Nat × Bool) := ws.map (fun w => (w.toNat % 65536, bitOf w.toNat 16))

/-- HOP_TABLE_INVALID: the lowest cause that holds and its lowest entry (R108). -/
def Dev.tableCause (d : Dev) : Option (Nat × Nat) :=
  let t := tableOf ((List.range 8).map (fun h => d.reg (R.HOP_TABLE h)))
  let len := d.get R.HOP_LISTEN_LEN
  let st := d.get R.HOP_CTRL_START
  let en := (List.range 8).filter (fun h => (t.getD h (0, false)).2)
  if !(t.getD st (0, false)).2 then some (1, st)
  else match (List.range 8).find? (tableBad2 t) with
    | some h => some (2, h)
    | none => match (List.range 8).find? (tableBad3 len t) with
      | some h => some (3, h)
      | none => if d.is R.HOP_CTRL_MODE && en.length < 2 then some (4, en.headD 0) else none

/-- Whether a hop table (as it would stand) passes the tests of R122. -/
def Dev.tableOk (d : Dev) (ws : List Word) : Bool :=
  let t := tableOf ws
  let len := d.get R.HOP_LISTEN_LEN
  (List.range 8).all (fun h => !(t.getD h (0, false)).2 || decide (d.get R.HOP_FMIN_FMIN ≤ (t.getD h (0, false)).1)) &&
  (List.range 8).all (fun h => !tableBad2 t h && !tableBad3 len t h) &&
  (t.getD (d.get R.HOP_STATUS_CUR) (0, false)).2 &&
  !(d.is R.HOP_CTRL_MODE && ((List.range 8).filter (fun h => (t.getD h (0, false)).2)).length < 2)

/-- A write to HOP_TABLEh (R122): tested against the whole table as it would stand, and staged or refused with TREJ. -/
def Dev.hopTableWrite (d : Dev) (h : Nat) (v : Word) : Dev :=
  let v := v &&& 0x1FFFF
  if d.busyState then
    let ws := (List.range 8).map (fun g => if g = h then v else d.viewReg (R.HOP_TABLE g))
    if d.tableOk ws then
      d.stageBusy (R.HOP_TABLE h) v
    else d.put R.HOP_STATUS_TREJ 1
  else d.stageBusy (R.HOP_TABLE h) v

end Sys2Proof.Machine
end

