-- ==== Sys2Proof/Machine/Image.lean ====
section
/-!
DEFINITION. Machine/Image.lean: the Sward and the deltas (chapter 05): held values, formation on the kept and on the
model path, drift tracking, freezing, negative-delta recovery, re-seating, excluded groups, and the judgement of open
electrodes (R90).
-/

namespace Sys2Proof.Machine

/-! ### Small statistics -/

/-- The median of integers: the middle value, or the mean of the two middle values rounded (log entry 13). -/
def medianI (l : List Int) : Int :=
  let s := l.mergeSort (fun a b => a ≤ b)
  let n := s.length
  if n = 0 then 0
  else if n % 2 = 1 then s.getD (n / 2) 0
  else roundDiv (s.getD (n / 2 - 1) 0 + s.getD (n / 2) 0) 2

/-- The median of ratios `a / b` with `b` positive, as a ratio. -/
def medianQ (l : List (Int × Nat)) : Int × Nat :=
  let s := l.mergeSort (fun p q => p.1 * q.2 ≤ q.1 * p.2)
  let n := s.length
  if n = 0 then (1, 1)
  else if n % 2 = 1 then s.getD (n / 2) (1, 1)
  else
    let p := s.getD (n / 2 - 1) (1, 1)
    let q := s.getD (n / 2) (1, 1)
    (p.1 * q.2 + q.1 * p.2, 2 * p.2 * q.2)

/-! ### Elements -/

def Elem.isM (e : Elem) : Bool := e.kind == 0

/-- The Sward value rounded to its LSB (R128). -/
def Elem.bInt (e : Elem) : Int := roundDiv e.b 256

/-- The delta (R128): B − M for a node, M − B for a profile entry; 0 where no valid value exists (R698). -/
def Elem.delta (e : Elem) (hasM hasS : Bool) : Int :=
  if !e.mOk || !(if e.isM then hasM else hasS) then 0
  else if e.isM then e.bInt - e.m else e.m - e.bInt

/-- The elements of this device for its roles and geometry: nodes column by column, then the two profiles. -/
def Dev.freshEls (d : Dev) : List Elem :=
  let mk := fun k c r => (⟨k, c, r, 0, false, false, true, 0, false, false, 0, 0, 0, 0, 0, none⟩ : Elem)
  let cols := ((d.senseChannels.map d.elIndex)).mergeSort (fun a b => a ≤ b)
  let rows := (((d.elsOf 1).map d.elIndex)).mergeSort (fun a b => a ≤ b)
  (cols.flatMap (fun c => (List.range d.nRows).map (fun r => mk 0 c r))) ++ cols.map (fun c => mk 1 c 0) ++
    rows.map (fun r => mk 2 0 r)

/-- The threshold of an element's kind (R131). -/
def Dev.thrOf (d : Dev) (e : Elem) : Nat := if e.isM then d.get R.IMG_THR_THRM else d.get R.IMG_THR_THRS

/-- The place of an element: kind, column, row. -/
def Elem.at_ (e : Elem) : Nat × Nat × Nat := (e.kind, e.c, e.r)

/-- Two places of one kind are neighbours: the eight around a node, the adjacent entries of a profile. -/
def adjPlace (a b : Nat × Nat × Nat) : Bool :=
  a.1 == b.1 &&
    (if a.1 = 0 then (a.2.1 ≤ b.2.1 + 1 && b.2.1 ≤ a.2.1 + 1 && a.2.2 ≤ b.2.2 + 1 && b.2.2 ≤ a.2.2 + 1) && a != b
     else if a.1 = 1 then (a.2.1 == b.2.1 + 1 || b.2.1 == a.2.1 + 1)
     else (a.2.2 == b.2.2 + 1 || b.2.2 == a.2.2 + 1))

/-- Two elements are neighbours. -/
def elemAdj (a b : Elem) : Bool := adjPlace a.at_ b.at_

/-- SWSTATE set, with the time of the change (IMG_SWTIME). -/
def Dev.setSw (d : Dev) (s : Nat) : Dev :=
  if d.get R.IMG_STATUS_SWSTATE = s then d else (d.put R.IMG_STATUS_SWSTATE s).put R.IMG_SWTIME_TSTAMP d.tstamp

/-- The image state with new elements. -/
def Dev.setEls (d : Dev) (es : List Elem) : Dev := { d with img := { d.img with els := es } }

/-- The Sward is discarded (R132). -/
def Dev.swardDiscard (d : Dev) : Dev :=
  let d := { d with img := { d.img with hasM := false, hasS := false, kept := false, restored := none, groups := [],
                                        mode := 0 } }
  (((d.setSw 0).put R.IMG_STATUS_SOURCE 0).put R.IMG_NODES_NEXCL 0)

/-- The model path begins (R135): the Sward is discarded, and an element without a valid value takes 0 (R698). SOURCE
reads 1 from its first frame. -/
def Dev.formStart (d : Dev) : Dev :=
  let es := d.img.els.map (fun e => { e with b := 0, excl := false, neg := 0, sum := 0, cnt := 0, csum := 0, ccnt := 0 })
  let d := { d with img := { d.img with els := es, hasM := false, hasS := false, kept := false, mode := 2, nM := 0,
                                        nS := 0, groups := [] } }
  ((d.setSw 1).put R.IMG_STATUS_SOURCE 0).put R.IMG_NODES_NEXCL 0

/-- Entry to RUNNING from CHECKING (R132, R133, R698): no valid value exists yet; the kept path with a RESTORED or KEPT
Sward, or the model path. -/
def Dev.imgStart (d : Dev) : Dev :=
  let fresh := d.freshEls
  let base := if d.img.els.length = fresh.length && d.img.kept then d.img.els else fresh
  let es := base.map (fun e =>
    { e with mOk := false, fresh := false, stale := true, neg := 0, sum := 0,
             cnt := 0, csum := 0, ccnt := 0, frozen := false })
  let d := { d with img := { d.img with changes := [],
                                        firstK := 2, nM := 0, nS := 0, freeze := [] } }
  if d.is R.IMG_CTRL_KEEP then
    match d.img.restored with
    | some bs =>
      let es := fresh.map (fun e =>
        match bs.find? (fun x => x.1 == e.kind && x.2.1 == e.c && x.2.2.1 == e.r) with
        | some x => { e with b := x.2.2.2 }
        | none => e)
      let d := { d with img := { d.img with els := es, hasM := true, hasS := bs.any (fun x => x.1 != 0), mode := 1,
                                            restored := none, groups := [] } }
      ((d.setSw 3).put R.IMG_STATUS_SOURCE 3).put R.IMG_NODES_NEXCL 0
    | none =>
      if d.img.kept then
        let gs := d.img.groups.map (fun g => { g with quiet := d.clock, slots := [],
                                                      overlap := false, lifted := false, still := false })
        let d := { d with img := { d.img with els := es, mode := 1, groups := gs } }
        d.put R.IMG_STATUS_SOURCE 2
      else ({ d with img := { d.img with els := fresh } }).formStart
  else ({ d with img := { d.img with els := fresh } }).formStart

/-- The device leaves RUNNING for good: the Sward is KEPT when SWSTATE is SETTLED or PROVISIONAL (R132). -/
def Dev.imgStop (d : Dev) : Dev :=
  { d with img := { d.img with kept := decide (2 ≤ d.get R.IMG_STATUS_SWSTATE), dump := none } }

/-- A re-formation falls due at the next processed frame (R157); a lead announces it to its members too (R159, R529). -/
def Dev.reformAsk (d : Dev) : Dev :=
  { d with img := { d.img with reform := true }, cl := { d.cl with reform := d.cl.reform || (d.isLead && d.enumerated) } }

/-- A change of frequency or level at a tick (R135, R147): it waits for the first frame of that tick. -/
def Dev.settingChanged (d : Dev) : Dev :=
  { d with img := { d.img with changes := d.img.changes ++ [⟨d.get R.TICK_COUNT_COUNT, true, true, false⟩] } }

/-- Whether a change at tick `t` concerns a frame: the frame's tick is `t` or later. -/
def Frame.after (f : Frame) (t : Nat) : Bool := decide ((f.tick + 2 ^ 32 - t) % 2 ^ 32 < 2 ^ 31)

/-! ### Measurements of a frame (R128, R698) -/

/-- On a lead, the rows of a node that has sent DOWN (R537). -/
def Dev.rowDown (d : Dev) (r : Nat) : Bool :=
  d.cl.down.any (fun k => ((d.cl.lines.lookup k).getD ([], [])).2.contains r)

/-- An element after a frame: its measurement where the frame gave one; held otherwise, with STALE where the frame scanned
its kind (R57, R87, R88, R92, R698). A kind that the frame does not scan keeps its values (R43, R158). -/
def Dev.measure (d : Dev) (f : Frame) (e : Elem) : Elem :=
  let blocked := fun (o : Option Nat) => match o with
    | none => false
    | some n => d.elDead f n
  let v : Option Nat :=
    if e.kind = 0 then
      if blocked (d.rowEl e.r) || blocked (d.colEl e.c) || d.rowDown e.r then none
      else ((f.cols.lookup e.c).getD none).bind (fun l => l[e.r]?)
    else if e.kind = 1 then (if blocked (d.colEl e.c) then none else (f.selfCols.lookup e.c).getD none)
    else if blocked (d.rowEl e.r) then none else (f.selfRows.lookup e.r).getD none
  match v with
  | some m => { e with m := m, mOk := true, fresh := true, stale := false, step := none }
  | none => { e with fresh := false, stale := e.stale || (if e.kind = 0 then f.mutScan else f.selfScan), step := none,
                     m := if e.mOk then e.m else e.bInt.toNat }

/-! ### Re-seat (R147) -/

/-- A free element: neither frozen nor excluded nor stale. -/
def Elem.free (e : Elem) : Bool := !e.frozen && !e.excl && !e.stale

/-- M / B as a ratio; both scaled to 8 fraction bits. -/
def Elem.ratio (e : Elem) : Int × Nat := ((e.m : Int) * 256, e.b.toNat)

/-- The Sward value scaled by a ratio. -/
def Elem.scale (e : Elem) (q : Int × Nat) : Elem := { e with b := roundDiv (e.b * q.1) (max 1 q.2) }

/-- Ratios along one axis (R147 steps 1 and 2): each line with at least 8 free nodes, half or more of its nodes, by its
own median, every other line by the panel ratio. -/
def reseatAxis (line : Elem → Nat) (es : List Elem) : List Elem :=
  let nodes := es.filter (·.isM)
  let ok := fun (e : Elem) => e.free && decide (0 < e.b)
  let panel := medianQ ((nodes.filter ok).map Elem.ratio)
  let lines := (nodes.map line).dedup
  let q := lines.map (fun l =>
    let all := nodes.filter (fun e => line e == l)
    let fr := all.filter ok
    (l, if 8 ≤ fr.length ∧ all.length ≤ 2 * fr.length then medianQ (fr.map Elem.ratio) else panel))
  es.map (fun e => if e.isM then e.scale ((q.lookup (line e)).getD (1, 1)) else e)

/-- One profile scaled by its median ratio, when at least 8 of its entries are free (R147 step 3). -/
def reseatProfile (kind : Nat) (es : List Elem) : List Elem :=
  let fr := es.filter (fun e => e.kind == kind && e.free && decide (0 < e.b))
  if fr.length < 8 then es
  else
    let q := medianQ (fr.map Elem.ratio)
    es.map (fun e => if e.kind = kind then e.scale q else e)

/-- The kinds that a frame re-seats: mutual, self (R147). -/
def Dev.reseatKinds (d : Dev) (f : Frame) : Bool × Bool :=
  let due := d.img.changes.filter (fun c => f.after c.tick)
  (due.any (·.mutDue) && f.mutScan && d.img.hasM, due.any (·.selfDue) && f.selfScan && d.img.hasS)

/-- The re-seat of the kinds that this frame carries, for the changes at ticks up to its own (R147); each change is
counted once. With fewer than 8 free nodes nothing is re-seated. The averages of these kinds, on the kept path and of the
clearing groups, restart (R133, R139). -/
def Dev.reseat (d : Dev) (f : Frame) : Dev :=
  let due := d.img.changes.filter (fun c => f.after c.tick)
  let (doM, doS) := d.reseatKinds f
  if !doM && !doS then d
  else
    let es := d.img.els
    let enough := decide (8 ≤ (es.filter (fun e => e.isM && e.free)).length)
    let es := if doM && enough then reseatAxis (·.c) (reseatAxis (·.r) es) else es
    let es := if doS && enough then reseatProfile 2 (reseatProfile 1 es) else es
    let es := es.map (fun e => if (if e.isM then doM else doS) then { e with sum := 0, cnt := 0, csum := 0, ccnt := 0 } else e)
    let d' := if enough then (if due.all (·.counted) then d else d.inc R.IMG_COUNTS_RESEAT) else d.put R.IMG_STATUS_RSFAIL 1
    let cs := d.img.changes.map (fun c =>
      if f.after c.tick then
        { c with counted := c.counted || enough, mutDue := c.mutDue && !doM, selfDue := c.selfDue && !doS } else c)
    let again := fun (b : Bool) (n : Nat) => if d.img.mode = 1 ∧ b = true ∧ n < 16 then 0 else n
    { d' with img := { d'.img with
        els := es, changes := cs.filter (fun c => c.mutDue || (c.selfDue && d.img.hasS)),
        nM := again doM d.img.nM, nS := again doS d.img.nS } }

/-! ### Formation on the model path (R135–R138) -/

/-- The mean of what an element has gathered. -/
def Elem.avg (e : Elem) : Int := roundDiv ((e.sum : Int) * 256) (max 1 e.cnt)

/-- The median of the averages of the nodes that have one, or `q` where none has (R136). -/
def medA (q : Int) (l : List Elem) : Int :=
  let l := l.filter (fun e => decide (0 < e.cnt))
  if l.isEmpty then q else medianI (l.map Elem.avg)

/-- Self outlier: A exceeds the median of the up to 4 nearest entries on its axis by THRS or more (R136). An entry with
fewer than 8 frames is excluded without this test (R135). -/
def selfOutlier (es : List Elem) (thr : Nat) (e : Elem) : Bool :=
  let key := fun (x : Elem) => if e.kind = 1 then x.c else x.r
  let others := (es.filter (fun x => x.kind == e.kind && key x != key e && 0 < x.cnt))
  let near := (others.mergeSort (fun x y =>
    (max (key x) (key e) - min (key x) (key e)) ≤ (max (key y) (key e) - min (key y) (key e)))).take 4
  decide (8 ≤ e.cnt) && !near.isEmpty && decide (medianI (near.map Elem.avg) + thr * 256 ≤ e.avg)

/-- Interpolation of an excluded profile entry between the nearest entries that are not excluded (R137); `q` stands for
its own A where it has none. -/
def interpolate (q : Int) (es : List Elem) (e : Elem) : Int :=
  let key := fun (x : Elem) => if e.kind = 1 then x.c else x.r
  let good := es.filter (fun x => x.kind == e.kind && !x.excl)
  let lo := (good.filter (fun x => key x < key e)).getLast?
  let hi := (good.filter (fun x => key e < key x)).head?
  match lo, hi with
  | some a, some b => a.b + roundDiv ((b.b - a.b) * ((key e : Int) - key a)) (key b - key a)
  | some a, none => a.b
  | none, some b => b.b
  | none, none => if e.cnt = 0 then q else e.avg

/-- The Sward from the sixteen gathered frames (R135–R137). `q` is what a line, or an axis, without any measurement gives:
the spec states no value there, and it is free (log entry 3). -/
def Dev.formEls (d : Dev) (withSelf : Bool) (q : Int) : List Elem :=
  let es := d.img.els
  let thrM := d.get R.IMG_THR_THRM
  let thrS := d.get R.IMG_THR_THRS
  let nodes := es.filter (·.isM)
  let rows := (nodes.map (·.r)).dedup
  let cols := (nodes.map (·.c)).dedup
  let colmed := cols.map (fun c => (c, medA q (nodes.filter (fun e => e.c == c))))
  let rowmed := rows.map (fun r => (r, medA q (nodes.filter (fun e => e.r == r))))
  let panmed := medA q nodes
  let model := fun (e : Elem) => (colmed.lookup e.c).getD 0 + (rowmed.lookup e.r).getD 0 - panmed
  let sOut := if withSelf then es.filter (fun e => !e.isM && selfOutlier es thrS e) else []
  let confirmed := nodes.filter (fun e => decide (8 ≤ e.cnt) && decide ((thrM : Int) * 256 ≤ model e - e.avg) &&
    sOut.any (fun s => if s.kind = 1 then s.c ≤ e.c + 1 && e.c ≤ s.c + 1 else s.r ≤ e.r + 1 && e.r ≤ s.r + 1))
  let excl := fun (e : Elem) =>
    if e.isM then decide (e.cnt < 8) || confirmed.any (fun x => (x.c == e.c && x.r == e.r) || elemAdj x e)
    else withSelf && (decide (e.cnt < 8) || sOut.any (fun x => (x.kind == e.kind && x.c == e.c && x.r == e.r) || elemAdj x e))
  let es1 := es.map (fun e => { e with excl := excl e, b := if e.isM && excl e then model e else e.avg })
  es1.map (fun e => if !e.isM && e.excl then { e with b := interpolate q es1 e } else e)

/-! ### Excluded groups (R139) -/

/-- Links between excluded elements (R139). -/
def exclLink (a b : Elem) : Bool :=
  elemAdj a b || (a.kind == 1 && b.kind == 0 && a.c == b.c) || (a.kind == 0 && b.kind == 1 && a.c == b.c) ||
    (a.kind == 2 && b.kind == 0 && a.r == b.r) || (a.kind == 0 && b.kind == 2 && a.r == b.r)

/-- The set reached from `seed` along links, in at most `fuel` rounds. -/
def growGroup (es : List Elem) (idx : List Nat) : Nat → List Nat → List Nat
  | 0, s => s
  | fuel + 1, s =>
    let more := idx.filter (fun i => !s.contains i && s.any (fun j =>
      match es[i]?, es[j]? with
      | some a, some b => exclLink a b
      | _, _ => false))
    if more.isEmpty then s else growGroup es idx fuel (s ++ more)

/-- The excluded elements split into groups. -/
def splitGroups (es : List Elem) : Nat → List Nat → List (List Nat)
  | 0, _ => []
  | _, [] => []
  | fuel + 1, i :: rest =>
    let g := growGroup es (i :: rest) (i :: rest).length [i]
    g :: splitGroups es fuel (rest.filter (fun j => !g.contains j))

/-- The groups as they stand, each with the counts of an earlier group that shares an element with it. -/
def Dev.regroup (d : Dev) : Dev :=
  let es := d.img.els
  let idx := (List.range es.length).filter (fun i => match es[i]? with
    | some e => e.excl
    | none => false)
  let gs := (splitGroups es idx.length idx).map (fun m =>
    match d.img.groups.find? (fun (g : Grp) => g.members.any m.contains) with
    | some g => { g with members := m }
    | none => (⟨m, d.clock, [], false, false, false⟩ : Grp))
  let d := { d with img := { d.img with groups := gs } }
  let d := d.put R.IMG_NODES_NEXCL (es.filter (fun e => e.isM && e.excl)).length
  if gs.isEmpty && d.get R.IMG_STATUS_SWSTATE = 2 then d.setSw 3
  else if !gs.isEmpty && d.get R.IMG_STATUS_SWSTATE = 3 then d.setSw 2 else d

/-- Whether the plan that a frame runs under has the SELF phase: in Heath the Heath plan (R135, R158). -/
def Dev.planSelf (d : Dev) (f : Frame) : Bool := if f.heath then f.selfScan else d.plan.contains 2

/-- Formation advances by the frame (R130, R135): it gathers, and after 16 frames of each kind that the plan has it
ends; contacts are reported from the next frame. -/
def Dev.formFrame (d : Dev) (f : Frame) : Dev :=
  let es := d.img.els.map (fun (e : Elem) =>
    if e.fresh && decide ((if e.isM then d.img.nM else d.img.nS) < 16) then
      { e with sum := e.sum + e.m, cnt := e.cnt + 1 } else e)
  let nM := d.img.nM + (if f.mutScan then 1 else 0)
  let nS := d.img.nS + (if f.selfScan then 1 else 0)
  let withSelf := d.planSelf f
  let d : Dev := { d.put R.IMG_STATUS_SOURCE 1 with img := { d.img with els := es, nM := min nM 16, nS := min nS 16 } }
  if 16 ≤ nM ∧ (16 ≤ nS ∨ !withSelf) then
    let (q, d) := if d.img.els.any (fun e => e.cnt == 0) then d.fresh else (0, d)
    let es := (d.formEls withSelf q).map (fun (e : Elem) => { e with sum := 0, cnt := 0, neg := 0 })
    let d := { d with img := { d.img with els := es,
                                          hasM := true, hasS := withSelf, mode := 0, groups := [] } }
    (d.setSw 3).regroup
  else d

/-- The averaging of the kept path (R133): over 16 frames of a kind, the elements below threshold in both signs take the
mean of their measurements, where they have at least 8. A kind that the frame re-seated (`rs`) counts from the next frame.
-/
def Dev.keptFrame (d : Dev) (old : List Elem) (f : Frame) (rs : Bool × Bool) : Dev :=
  if d.img.mode != 1 then d
  else
    let hasM := d.img.hasM
    let hasS := d.img.hasS
    let add := fun (o e : Elem) =>
      if o.fresh && !o.excl && decide ((o.delta hasM hasS).natAbs < d.thrOf o) && !(if e.isM then rs.1 else rs.2) &&
          decide ((if e.isM then d.img.nM else d.img.nS) < 16) then
        { e with sum := e.sum + e.m, cnt := e.cnt + 1 } else e
    let nM := min 16 (d.img.nM + (if f.mutScan && !rs.1 then 1 else 0))
    let nS := min 16 (d.img.nS + (if f.selfScan && !rs.2 then 1 else 0))
    let es := old.zipWith add d.img.els
    let endM := nM == 16 && d.img.nM != 16
    let endS := nS == 16 && d.img.nS != 16
    let fin := fun (e : Elem) =>
      if (if e.isM then endM else endS) && !e.excl && decide (8 ≤ e.cnt) then
        { e with b := e.avg, sum := 0, cnt := 0 } else e
    let done := nM == 16 && (nS == 16 || !d.planSelf f)
    { d with img := { d.img with els := es.map fin, nM := nM, nS := nS, mode := if done then 0 else 1 } }

/-! ### Tracking and freezing (R140–R143) -/

/-- The step of R140 for a free element below threshold, with 8 fraction bits. -/
def trackStep (thr dshift dstep : Nat) (e : Elem) (hasM hasS : Bool) : Option Int :=
  if e.free && decide ((e.delta hasM hasS).natAbs < thr) then
    some (clampI (-(dstep * 256 : Int)) (dstep * 256) (roundDiv ((e.m : Int) * 256 - e.b) (2 ^ dshift)))
  else none

/-- The step a frozen element takes: the median of its neighbours' steps; of its row and column, or its whole axis, where
fewer than 4 of them have one (R142). -/
def frozenStep (es : List Elem) (e : Elem) : Option Int :=
  let st := fun (p : Elem → Bool) => (es.filter (fun x => x.kind == e.kind && p x)).filterMap (·.step)
  let pick := fun (l : List Int) => if l.isEmpty then none else some (medianI l)
  if e.kind = 0 then
    let near := st (fun x => x.c ≤ e.c + 3 && e.c ≤ x.c + 3 && x.r ≤ e.r + 3 && e.r ≤ x.r + 3)
    if 4 ≤ near.length then pick near else pick (st (fun x => x.c == e.c || x.r == e.r))
  else
    let near := st (fun x => x.c ≤ e.c + 3 && e.c ≤ x.c + 3 && x.r ≤ e.r + 3 && e.r ≤ x.r + 3)
    if 4 ≤ near.length then pick near else pick (st (fun _ => true))

/-- Drift tracking of one frame (R140, R142): only kinds that the frame measured are updated (R130). -/
def Dev.trackFrame (d : Dev) (f : Frame) : Dev :=
  if !d.is R.IMG_CTRL_TRACK then d
  else
    let sh := d.get R.IMG_DRIFT_DSHIFT
    let ds := d.get R.IMG_DRIFT_DSTEP
    let runs := fun (e : Elem) => if e.isM then f.mutScan else f.selfScan
    let es := d.img.els.map (fun e =>
      { e with step := if runs e then trackStep (d.thrOf e) sh ds e d.img.hasM d.img.hasS else none })
    d.setEls (es.map (fun e =>
      if !runs e then e
      else if e.frozen then
        match frozenStep es e with
        | some s => { e with b := e.b + s }
        | none => e
      else match e.step with
        | some s => { e with b := e.b + s }
        | none => e))

/-- The freeze set in force: on a lead that of the last STAGE applied (R531), else that of the frame before (R141). -/
def Dev.freezeSet (d : Dev) : List (Nat × Nat × Nat) := if d.enumerated && d.isLead then d.cl.frz else d.img.freeze

/-- The freeze set of the frame put on the elements (R141); every processed frame counts it (R143). -/
def Dev.freezeFrame (d : Dev) : Dev :=
  let fz := d.freezeSet
  let es := d.img.els.map (fun e => { e with frozen := fz.contains (e.kind, e.c, e.r) })
  (d.setEls es).put R.IMG_NODES_NFROZEN (es.filter (fun e => e.isM && e.frozen)).length

/-! ### Negative-delta recovery (R146) -/

/-- The places at or above threshold before the frame's updates: this device's, and on a lead its members' (R131, R146). -/
def Dev.above (d : Dev) (old : List Elem) : List (Nat × Nat × Nat) :=
  ((old.filter (fun e => decide ((d.thrOf e : Int) ≤ e.delta d.img.hasM d.img.hasS))).map Elem.at_) ++
  ((d.cl.deltaEls.filter (fun e =>
    decide (((if e.1 = 0 then d.get R.IMG_THR_THRM else d.get R.IMG_THR_THRS : Nat) : Int) ≤ e.2.2.2.1))).map
      (fun e => (e.1, e.2.1, e.2.2.1)))

/-- The recovery of one frame (R146). Without NEGREC no count goes on. -/
def Dev.negFrame (d : Dev) (old : List Elem) (f : Frame) : Dev :=
  if !d.is R.IMG_CTRL_NEGREC then d.setEls (d.img.els.map (fun e => { e with neg := 0 }))
  else
    let hasM := d.img.hasM
    let hasS := d.img.hasS
    let pos := d.above old
    let one := fun (o e : Elem) =>
      if !o.fresh || !(if o.isM then f.mutScan && hasM else f.selfScan && hasS) then (e, false)
      else if pos.any (fun p => adjPlace p o.at_) then ({ e with neg := 0 }, false)
      else
        let lim := if o.isM then d.get R.IMG_NEG_NEGM else d.get R.IMG_NEG_NEGS
        if o.delta hasM hasS ≤ -(lim : Int) then
          if 2 ≤ o.neg then ({ e with neg := 0, b := (e.m : Int) * 256, excl := false }, true)
          else ({ e with neg := o.neg + 1 }, false)
        else ({ e with neg := 0 }, false)
    let res := old.zipWith one d.img.els
    let n := (res.filter (·.2)).length
    let d := (d.setEls (res.map (·.1))).satAdd R.IMG_COUNTS_NEGREC n
    if 0 < n then d.regroup else d

/-! ### Clearing of excluded groups (R139), after the frame's contacts are known -/

/-- Whether a contact overlaps the group: one of its blob's nodes is in it; a group of profile entries alone is
overlapped where the blob spans one of them (log entry 13). -/
def grpOverlap (es : List Elem) (g : Grp) (blob : List (Nat × Nat)) : Bool :=
  let mem := g.members.filterMap (fun i => es[i]?)
  let nodes := mem.filter (·.isM)
  if nodes.isEmpty then mem.any (fun e => blob.any (fun p => if e.kind = 1 then p.1 == e.c else p.2 == e.r))
  else nodes.any (fun e => blob.contains (e.c, e.r))

/-- One group in a frame, for the tracked contacts (slot, blob) and the slots of those that went UP in it; the answer says
whether the frame counts for its clearing. A lift counts the frames that follow it (R139). -/
def Dev.groupFrame (d : Dev) (ks : List (Nat × List (Nat × Nat))) (ups : List Nat) (g : Grp) : Grp × Bool :=
  let now := (ks.filter (fun k => grpOverlap d.img.els g k.2)).map (·.1)
  let all := (g.slots ++ now).dedup
  let lift := all.any ups.contains
  let g' : Grp := { g with slots := all.filter (fun s => !ups.contains s), lifted := g.lifted || lift, overlap := !now.isEmpty }
  if !now.isEmpty then ({ g' with quiet := d.clock, still := false }, false)
  else
    let still := g.still || decide (g.quiet + 5000000 ≤ d.clock)
    ({ g' with still := still }, g.lifted || still)

/-- The clearing average of an element of a group in a frame: it gathers in a frame that counts and measured it (a kind
that the frame re-seated, `rs`, from the next frame on), starts again after one that does not, and at its eighth value it
takes their mean and is free (R139). -/
def Elem.clearing (e : Elem) (counts : Bool) (rs : Bool × Bool) : Elem :=
  if !counts then { e with csum := 0, ccnt := 0 }
  else if !e.fresh || (if e.isM then rs.1 else rs.2) then e
  else if 7 ≤ e.ccnt then { e with excl := false, csum := 0, ccnt := 0, neg := 0, b := roundDiv ((e.csum + e.m : Int) * 256) 8 }
  else { e with csum := e.csum + e.m, ccnt := e.ccnt + 1 }

/-- All groups in a frame: their averages, and the elements that are cleared. -/
def Dev.groupsFrame (d : Dev) (ks : List (Nat × List (Nat × Nat))) (ups : List Nat) (rs : Bool × Bool) : Dev :=
  if d.img.groups.isEmpty then d
  else
    let gs : List (Grp × Bool) := d.img.groups.map (d.groupFrame ks ups)
    let step := fun (i : Nat) (e : Elem) =>
      match gs.find? (fun (g : Grp × Bool) => g.1.members.contains i) with
      | none => e
      | some g => e.clearing g.2 rs
    let es := (List.range d.img.els.length).zipWith step d.img.els
    let d : Dev := { d with img := { d.img with els := es, groups := gs.map (fun (g : Grp × Bool) => g.1) } }
    d.regroup

/-! ### Open electrodes (R90) -/

/-- The open counts of the electrodes of one axis after a mutual frame; an electrode judged open sets its bit and
counts FS03 once. `meds` are the medians of this node's own lines of the axis, and the median that a line is compared with
is theirs (DESIGN CHOICE, log entry 19). -/
def Dev.openAxis (d : Dev) (meds : List (Nat × Int)) : Dev :=
  let ref := medianI (meds.map (·.2))
  let pct : Int := d.get R.ACQ_CORR_OPENTHR
  meds.foldl (fun d (el, m) =>
    if d.elOpen el || d.elShort el then d
    else
      let n := if m * 100 < ref * pct then (d.acq.openN.lookup el).getD 0 + 1 else 0
      let put := fun (d : Dev) (n : Nat) =>
        { d with acq := { d.acq with openN := (el, n) :: d.acq.openN.filter (fun e => e.1 != el) } }
      if 16 ≤ n then
        let d := put (d.supDrop el) 0
        -- it gives no value in the frames not yet processed either, even if its bit is cleared meanwhile (R92)
        let d : Dev := { d with acq := { d.acq with now := d.acq.now.map (fun f => { f with dead := el :: f.dead })
                                                    ready := d.acq.ready.map (fun f => { f with dead := el :: f.dead }) } }
        let d := if el < 32 then d.put R.ACQ_OPENMAP0_EL (setBit (d.get R.ACQ_OPENMAP0_EL) el true)
          else d.put R.ACQ_OPENMAP1_EL (setBit (d.get R.ACQ_OPENMAP1_EL) (el - 32) true)
        d.raise 0x03 el
      else put d n) d

/-- The judgement of a frame that ran the mutual scan (R90): a line that holds no valid value yet is not judged, and a
frame in which a line's values are held counts among the consecutive frames with those values (DESIGN CHOICE, log entry
19). -/
def Dev.openFrame (d : Dev) (f : Frame) : Dev :=
  if !f.mutScan || !f.mutDone then d
  else
    let nodes := d.img.els.filter (fun e => e.isM && e.mOk)
    let med := fun (el : Nat) (p : Elem → Bool) =>
      let vs := (nodes.filter p).map (fun e => (e.m : Int))
      if vs.isEmpty then none else some (el, medianI vs)
    let cols := d.senseChannels.filterMap (fun ch => med ch (fun e => e.c == d.elIndex ch))
    let rows := (d.elsOf 1).filterMap (fun el => med el (fun e => e.r == d.elIndex el))
    (d.openAxis rows).openAxis cols

/-! ### The Sward part of a processed frame -/

/-- Before the frame's deltas are formed: the freeze set, REFORM (R157; ignored while FORMING), measurements, formation
(R135), the re-seat (R147, R155), and the first frame of the kept path (R133), which for mutual values is its first mutual
one (R130, R134). The answer says whether the Sward is in use, and which kinds were re-seated. -/
def Dev.swardBefore (d : Dev) (f : Frame) : Dev × Bool × Bool × Bool :=
  let d := d.freezeFrame
  let d := if d.img.reform && d.img.mode != 2 then d.formStart else d
  let d : Dev := { d with img := { d.img with reform := false } }
  let d := d.setEls (d.img.els.map (d.measure f))
  if d.img.mode = 2 then
    let again := d.img.changes.any (fun c => f.after c.tick)
    let d : Dev := { d with img := { d.img with changes := d.img.changes.filter (fun c => !f.after c.tick) } }
    let d := if again then d.formStart else d
    (d.formFrame f, false, false, false)
  else
    let rs := d.reseatKinds f
    let d := d.reseat f
    let nodes : List Elem := d.img.els.filter (·.isM)
    let off := nodes.filter (fun e => decide (d.get R.IMG_THR_THRM ≤ (e.delta d.img.hasM d.img.hasS).natAbs))
    let first := d.img.mode == 1 && d.img.firstK == 2
    let test := d.img.mode == 1 && d.img.firstK != 0 && f.mutScan
    let d : Dev := { d with img := { d.img with firstK := if f.mutScan then 0 else min 1 d.img.firstK } }
    if test && decide (nodes.length < 4 * off.length) then (d.formStart.put R.IMG_STATUS_RESTREJ 1, false, false, false)
    else
      let gs := if first then d.img.groups.map (fun g => { g with quiet := d.clock }) else d.img.groups
      ({ d with img := { d.img with groups := gs } }, true, rs)

/-- The Sward's updates of a frame (R133, R140, R142, R146), all against the deltas that the frame's contacts were
formed on. In a run frame of a calibration the Sward is not updated (R250). -/
def Dev.swardAfter (d : Dev) (f : Frame) (rs : Bool × Bool) : Dev :=
  let old := d.img.els
  ((d.trackFrame f).keptFrame old f rs).negFrame old f

/-- The Sward of this node was rejected in the frame just processed: the model path starts with the next (R134, R159). -/
def Dev.rejectedNow (d : Dev) : Bool := d.img.mode == 2 && d.img.nM == 0 && d.img.nS == 0

end Sys2Proof.Machine
end

