-- ==== Sys2Proof/Machine/Blobs.lean ====
section
/-!
DEFINITION. Machine/Blobs.lean: from the deltas of a frame to blobs (R161, R162), their water test (R149), their
position by the fit of R163, and the geometry of R26–R29. Native positions are kept in 1/65536 of 1/64 mm.
-/

namespace Sys2Proof.Machine

/-! ### The delta image -/

/-- The mutual delta image by column and row, each with its stale and its excluded mark. -/
abbrev Grid := List (List (Int × Bool × Bool))

/-- Own nodes from the Sward; a lead's members' nodes from their DELTA frames (R129, R532). DELTA carries no exclusion
mark, so a member's node is never excluded here, and a contact on members' excluded nodes is not PROVISIONAL (R138; DESIGN
CHOICE, log entry 16). -/
def Dev.grid (d : Dev) : Grid :=
  let own := d.img.els.filter (·.isM)
  (List.range d.nCols).map (fun c =>
    let mine := own.filter (fun e => e.c == c)
    if mine.isEmpty then
      let theirs := d.cl.deltaEls.filter (fun e => e.1 == 0 && e.2.1 == c)
      (List.range d.nRows).map (fun r =>
        match theirs.find? (fun e => e.2.2.1 == r) with
        | some e => (e.2.2.2.1, e.2.2.2.2, false)
        | none => (0, true, false))
    else mine.map (fun e => (e.delta d.img.hasM d.img.hasS, e.stale, e.excl)))

def Grid.at (g : Grid) (n : Nat × Nat) : Int := ((g.getD n.1 []).getD n.2 (0, true, false)).1
def Grid.stale (g : Grid) (n : Nat × Nat) : Bool := ((g.getD n.1 []).getD n.2 (0, true, false)).2.1
def Grid.excl (g : Grid) (n : Nat × Nat) : Bool := ((g.getD n.1 []).getD n.2 (0, true, false)).2.2

/-- The nodes of the image. -/
def Grid.nodes (g : Grid) : List (Nat × Nat) :=
  (List.range g.length).flatMap (fun c => (List.range (g.getD c []).length).map (fun r => (c, r)))

/-- The nodes among the eight around `n` that the image has. -/
def Grid.around (g : Grid) (n : Nat × Nat) : List (Nat × Nat) :=
  ([(n.1 - 1), n.1, n.1 + 1].dedup.flatMap (fun c => [(n.2 - 1), n.2, n.2 + 1].dedup.map (fun r => (c, r)))).filter
    (fun m => m != n && decide (m.1 < g.length) && decide (m.2 < (g.getD m.1 []).length))

/-- Node `a` comes before node `b`: the higher delta, then the lower row, then the lower column (R161). -/
def Grid.beats (g : Grid) (a b : Nat × Nat) : Bool :=
  g.at b < g.at a || (g.at a == g.at b && (a.2 < b.2 || (a.2 == b.2 && a.1 < b.1)))

/-- A local maximum of the image at or above `tp` (R161). -/
def Grid.isMax (g : Grid) (tp : Nat) (n : Nat × Nat) : Bool :=
  decide ((tp : Int) ≤ g.at n) && (g.around n).all (fun m => g.beats n m)

/-- Where the path of steepest ascent from a node ends (R161). -/
def Grid.climb (g : Grid) : Nat → (Nat × Nat) → (Nat × Nat)
  | 0, n => n
  | fuel + 1, n =>
    let best := (g.around n).foldl (fun b m => if g.beats m b then m else b) n
    if best = n then n else g.climb fuel best

/-! ### Blobs -/

/-- A blob (R161): its nodes, the node of its peak and the delta there. -/
structure Blob where
  nodes : List (Nat × Nat)
  peak  : Nat × Nat
  top   : Int
deriving DecidableEq, Repr

/-- The highest of the lower deltas over neighbouring pairs of two blobs, if they touch (R161). -/
def Grid.saddle (g : Grid) (a b : Blob) : Option Int :=
  let ps := a.nodes.flatMap (fun n => ((g.around n).filter b.nodes.contains).map (fun m => min (g.at n) (g.at m)))
  match ps with
  | [] => none
  | p :: rest => some (rest.foldl max p)

/-- Whether two blobs merge (R161). -/
def Grid.merges (g : Grid) (split : Nat) (a b : Blob) : Bool :=
  match g.saddle a b with
  | none => false
  | some s => decide ((split : Int) * min a.top b.top ≤ 100 * s)

/-- Blobs merged until no two of them merge. -/
def Grid.mergeAll (g : Grid) (split : Nat) : Nat → List Blob → List Blob
  | 0, bs => bs
  | fuel + 1, bs =>
    let pairs := bs.flatMap (fun a => (bs.filter (fun b => g.beats a.peak b.peak && g.merges split a b)).map (fun b => (a, b)))
    match pairs with
    | [] => bs
    | (a, b) :: _ =>
      g.mergeAll split fuel (({ a with nodes := a.nodes ++ b.nodes } : Blob) :: bs.filter (fun x => x != a && x != b))

/-- TP and TJ in force (R161). -/
def Dev.tp (d : Dev) : Nat :=
  let t := d.get R.IMG_THR_THRM
  if d.get R.CT_CTRL_GORSE = 0 then t else t * d.get R.CT_SEG_GPCT / 100
def Dev.tj (d : Dev) : Nat := d.tp * d.get R.CT_SEG_JOINPCT / 100

/-- The blobs of the image, by descending peak (R161). -/
def Dev.blobs (d : Dev) (g : Grid) : List Blob :=
  let maxs := g.nodes.filter (g.isMax d.tp)
  let fuel := g.nodes.length
  let mem := (g.nodes.filter (fun n => decide ((d.tj : Int) ≤ g.at n))).map (fun n => (g.climb fuel n, n))
  let bs := maxs.map (fun p => (⟨(mem.filter (fun e => e.1 == p)).map (·.2), p, g.at p⟩ : Blob))
  (g.mergeAll (d.get R.CT_SEG_SPLITPCT) bs.length bs).mergeSort (fun a b => g.beats a.peak b.peak || a == b)

/-! ### Geometry (R26–R29) -/

def Dev.pitchX (d : Dev) : Nat := d.get R.ACQ_GEOMX_PITCH
def Dev.pitchY (d : Dev) : Nat := d.get R.ACQ_GEOMY_PITCH
def Dev.extX (d : Dev) : Nat := 2 * d.get R.ACQ_GEOMX_MARGIN + d.nCols * d.pitchX
def Dev.extY (d : Dev) : Nat := 2 * d.get R.ACQ_GEOMY_MARGIN + d.nRows * d.pitchY

/-- The scale of native positions. -/
def posOne : Nat := 65536

/-- The centre of a column or row on its axis, scaled (R27). -/
def Dev.centreX (d : Dev) (c : Nat) : Int := (posOne / 2 * (2 * d.get R.ACQ_GEOMX_MARGIN + (2 * c + 1) * d.pitchX) : Nat)
def Dev.centreY (d : Dev) (r : Nat) : Int := (posOne / 2 * (2 * d.get R.ACQ_GEOMY_MARGIN + (2 * r + 1) * d.pitchY) : Nat)

/-- Native to reported coordinates under the orientation in force, both scaled (R28, R33). -/
def Dev.toReported (d : Dev) (p : Int × Int) : Int × Int :=
  let o := d.acq.orient
  let x := if bitOf o 1 then (posOne * d.extX : Int) - p.1 else p.1
  let y := if bitOf o 2 then (posOne * d.extY : Int) - p.2 else p.2
  if bitOf o 0 then (y, x) else (x, y)

/-- Reported to native coordinates, both scaled. -/
def Dev.toNative (d : Dev) (p : Int × Int) : Int × Int :=
  let o := d.acq.orient
  let (x, y) := if bitOf o 0 then (p.2, p.1) else p
  (if bitOf o 1 then (posOne * d.extX : Int) - x else x, if bitOf o 2 then (posOne * d.extY : Int) - y else y)

/-- Whether a native position lies in the edge zone (R29). -/
def Dev.inEdge (d : Dev) (p : Int × Int) : Bool :=
  let mx := d.get R.ACQ_GEOMX_MARGIN
  let my := d.get R.ACQ_GEOMY_MARGIN
  p.1 < (posOne * (mx + d.pitchX) : Int) || (posOne : Int) * ((d.extX : Int) - mx - d.pitchX) < p.1 ||
  p.2 < (posOne * (my + d.pitchY) : Int) || (posOne : Int) * ((d.extY : Int) - my - d.pitchY) < p.2

/-! ### Measures (R162) -/

/-- z of R162. -/
def Grid.z (g : Grid) (b : Blob) : Nat := (min 65535 ((b.nodes.map g.at).sum)).toNat

/-- The delta-weighted mean of the node centres, scaled. -/
def Dev.centroid (d : Dev) (g : Grid) (b : Blob) : Int × Int :=
  let w := (max 1 ((b.nodes.map g.at).sum)).toNat
  (roundDiv ((b.nodes.map (fun n => g.at n * d.centreX n.1)).sum) w,
   roundDiv ((b.nodes.map (fun n => g.at n * d.centreY n.2)).sum) w)

/-- The eigenvalues of the covariance with 20 fraction bits, in squared units of 1/64 mm (R162). -/
def Dev.eigen (d : Dev) (g : Grid) (b : Blob) : Nat × Nat :=
  let w : Int := max 1 ((b.nodes.map g.at).sum)
  let xs := fun (n : Nat × Nat) => ((2 * n.1 + 1) * d.pitchX : Int)
  let ys := fun (n : Nat × Nat) => ((2 * n.2 + 1) * d.pitchY : Int)
  let s := fun (f : Nat × Nat → Int) => (b.nodes.map (fun n => g.at n * f n)).sum
  let sx : Int := s xs
  let sy : Int := s ys
  let cxx : Int := (w * s (fun n => xs n * xs n) - sx * sx) * 2 ^ 18 / (w * w) + (d.pitchX * d.pitchX * 2 ^ 18 / 3 : Nat)
  let cyy : Int := (w * s (fun n => ys n * ys n) - sy * sy) * 2 ^ 18 / (w * w) + (d.pitchY * d.pitchY * 2 ^ 18 / 3 : Nat)
  let cxy : Int := (w * s (fun n => xs n * ys n) - sx * sy) * 2 ^ 18 / (w * w)
  let disc := Nat.sqrt (((cxx - cyy) * (cxx - cyy) + 4 * cxy * cxy).toNat)
  (((cxx + cyy + disc) / 2).toNat, ((cxx + cyy - disc) / 2).toNat)

/-- An axis 4·√λ in units of 0.25 mm, rounded down, not clamped. -/
def axisOf (l : Nat) : Nat := Nat.sqrt l / 4096

/-- π·√(λ1·λ2) in 2^-30 mm² times 10^8: the area of R162 unrounded. -/
def areaRaw (l1 l2 : Nat) : Nat := 314159265 * Nat.sqrt (l1 * l2)
def areaUnit : Nat := 10 ^ 8 * 2 ^ 30

/-- The area in whole mm², rounded down and clamped. -/
def areaOf (l1 l2 : Nat) : Nat := min 65535 (areaRaw l1 l2 / areaUnit)

/-! ### Position (R163) -/

/-- The normal equations of one Gauss–Newton step over the window: the symmetric 3 × 3 sums and the right side. -/
def gnSums (w a x y : Rat) (pts : List (Rat × Rat × Rat)) : List Rat :=
  pts.foldl (fun acc p =>
    let u := p.1 - x
    let v := p.2.1 - y
    let bu := 1 + (u / w) * (u / w)
    let bv := 1 + (v / w) * (v / w)
    let ku := 1 / (bu * bu)
    let kv := 1 / (bv * bv)
    let j0 := ku * kv
    let j1 := a * (4 * u / (w * w) / (bu * bu * bu)) * kv
    let j2 := a * ku * (4 * v / (w * w) / (bv * bv * bv))
    let e := p.2.2 - a * ku * kv
    acc.zipWith (· + ·) [j0 * j0, j0 * j1, j0 * j2, j1 * j1, j1 * j2, j2 * j2, j0 * e, j1 * e, j2 * e])
    [0, 0, 0, 0, 0, 0, 0, 0, 0]

/-- A rational rounded to 16 fraction bits. -/
def rat16 (q : Rat) : Rat := ((roundDiv (q.num * 65536) q.den : Int) : Rat) / 65536

/-- One Gauss–Newton step on (a, x, y), or none where the normal equations are singular. -/
def gnStep (w : Rat) (pts : List (Rat × Rat × Rat)) (p : Rat × Rat × Rat) : Option (Rat × Rat × Rat) :=
  match gnSums w p.1 p.2.1 p.2.2 pts with
  | [a, b, c, e, f, i, r, s, t] =>
    let det := a * (e * i - f * f) - b * (b * i - f * c) + c * (b * f - e * c)
    if det = 0 then none
    else
      let d0 := (r * (e * i - f * f) - b * (s * i - f * t) + c * (s * f - e * t)) / det
      let d1 := (a * (s * i - f * t) - r * (b * i - f * c) + c * (b * t - s * c)) / det
      let d2 := (a * (e * t - s * f) - b * (b * t - s * c) + r * (b * f - e * c)) / det
      some (rat16 (p.1 + d0), rat16 (p.2.1 + d1), rat16 (p.2.2 + d2))
  | _ => none

/-- A scaled native position as a rational in 1/64 mm, and back. -/
def ratPos (i : Int) : Rat := (i : Rat) / 65536
def posRat (q : Rat) : Int := roundDiv (q.num * 65536) q.den

/-- The fitted position, or none where R163 uses the centroid. -/
def Dev.fit (d : Dev) (g : Grid) (b : Blob) (others : List (Nat × Nat)) : Option (Int × Int) :=
  let w := d.get R.CT_INTERP_WIDTH
  if w = 0 then none
  else
    let win := g.nodes.filter (fun n => n.1 ≤ b.peak.1 + 2 && b.peak.1 ≤ n.1 + 2 && n.2 ≤ b.peak.2 + 2 &&
      b.peak.2 ≤ n.2 + 2 && !others.contains n)
    let pts := win.map (fun n => (ratPos (d.centreX n.1), ratPos (d.centreY n.2), (g.at n : Rat)))
    let c := d.centroid g b
    let wq : Rat := w
    let p0 : Rat × Rat × Rat := ((b.top : Rat), ratPos c.1, ratPos c.2)
    match (gnStep wq pts p0).bind (gnStep wq pts) with
    | none => none
    | some p2 =>
      match gnStep wq pts p2 with
      | none => none
      | some p3 =>
        let x := posRat p3.2.1
        let y := posRat p3.2.2
        let mx := (x - posRat p2.2.1).natAbs
        let my := (y - posRat p2.2.2).natAbs
        let cs := b.nodes.map (·.1)
        let rs := b.nodes.map (·.2)
        let hx : Int := (posOne * d.pitchX / 2 : Nat)
        let hy : Int := (posOne * d.pitchY / 2 : Nat)
        let inX := decide (d.centreX (cs.foldl min (cs.headD 0)) - hx ≤ x) && decide (x ≤ d.centreX (cs.foldl max 0) + hx)
        let inY := decide (d.centreY (rs.foldl min (rs.headD 0)) - hy ≤ y) && decide (y ≤ d.centreY (rs.foldl max 0) + hy)
        if inX && inY && decide (mx ≤ posOne * d.pitchX) && decide (my ≤ posOne * d.pitchY) then some (x, y) else none

/-- Class codes (table "Contact classes"); 0 stands for a weak blob (R699). -/
def clWeak : Nat := 0
def clFinger : Nat := 1
def clGlove : Nat := 2
def clHover : Nat := 3
def clPalm : Nat := 4
def clLarge : Nat := 5
def clWater : Nat := 6

/-- The position of a blob for a class (R163). -/
def Dev.position (d : Dev) (g : Grid) (b : Blob) (others : List (Nat × Nat)) (cls : Nat) : Int × Int :=
  if cls = clFinger ∨ cls = clGlove then (d.fit g b others).getD (d.centroid g b) else d.centroid g b

/-! ### Self support and water (R149) -/

/-- The entries of the self profiles: own and, on a lead, the members' (kind, line, delta, stale). -/
def Dev.profiles (d : Dev) : List (Nat × Nat × Int × Bool) :=
  ((d.img.els.filter (fun e => !e.isM)).map (fun e =>
    (e.kind, if e.kind = 1 then e.c else e.r, e.delta d.img.hasM d.img.hasS, e.stale))) ++
  ((d.cl.deltaEls.filter (fun e => e.1 != 0)).map (fun e => (e.1, if e.1 = 1 then e.2.1 else e.2.2.1, e.2.2.2.1, e.2.2.2.2)))

/-- Whether a self profile exists (R149): the frame's plan has SELF (in Heath the Heath plan, R158) and some entry has
been measured since the entry to RUNNING. -/
def Dev.selfKnown (d : Dev) (f : Frame) : Bool :=
  d.planSelf f && d.img.hasS && d.img.els.any (fun e => !e.isM && e.mOk)

def maxI (l : List Int) : Int := match l with
  | [] => 0
  | x :: xs => xs.foldl max x

/-- The self support of a blob (R149). -/
def Dev.support (d : Dev) (b : Blob) : Int :=
  let ps := d.profiles
  let c := maxI ((ps.filter (fun p => p.1 == 1 && b.nodes.any (fun n => n.1 == p.2.1))).map (fun p => p.2.2.1))
  let r := maxI ((ps.filter (fun p => p.1 == 2 && b.nodes.any (fun n => n.2 == p.2.1))).map (fun p => p.2.2.1))
  min c r

/-- Whether R149 marks the blob water. -/
def Dev.isWater (d : Dev) (f : Frame) (b : Blob) : Bool :=
  d.is R.IMG_CTRL_WATER && decide ((d.get R.IMG_THR_THRM : Int) ≤ b.top) && d.selfKnown f &&
    decide (d.support b * 100 < (d.get R.IMG_THR_THRS * d.get R.IMG_WATER_WPCT : Nat))

end Sys2Proof.Machine
end

