-- ==== Sys2Proof/Machine/Contact.lean ====
section
/-!
DEFINITION. Machine/Contact.lean: classes, tracking, states, slots, track IDs, regions and keys of the contacts of a
processed frame (R166–R183, R188–R193, R699), the freeze set (R141), Gorse's counts (R168) and Lark's hover object
(R170, R171).
-/

namespace Sys2Proof.Machine

/-- A blob or the hover object of a frame with what the frame decides of it (R699). Position native and scaled. -/
structure Cand where
  blob  : Blob
  prov  : Nat
  cls   : Nat
  pos   : Int × Int
  z     : Nat
  area  : Nat
  major : Nat
  minor : Nat
  stale : Bool
  whole : Bool
  excl  : Bool
deriving DecidableEq, Repr

/-! ### Classes (R166, R699 steps 2 and 3) -/

/-- The area of a blob, unrounded and clamped (R162), exceeds `n` mm². -/
def areaOver (n : Nat) (l : Nat × Nat) : Bool := decide (n * areaUnit < min (areaRaw l.1 l.2) (65535 * areaUnit))

/-- Rules 1 and 2 of R166: LARGE or WATER, else 0. -/
def Dev.classTop (d : Dev) (f : Frame) (b : Blob) (l : Nat × Nat) : Nat :=
  if areaOver (d.get R.CT_LARGE_LAREA) l then clLarge else if d.isWater f b then clWater else 0

/-- The first three bullets of rule 4. -/
def Dev.palmSize (d : Dev) (l : Nat × Nat) : Bool :=
  areaOver (d.get R.CT_PALM_PAREA) l || decide (d.get R.CT_PALM_PMAJ ≤ axisOf l.1) ||
    decide (d.get R.CT_PALM_PMIN ≤ axisOf l.2)

/-- Rules 5 and 6, or weak. -/
def Dev.classLow (d : Dev) (b : Blob) : Nat :=
  if d.gorseOn && decide (b.top < d.get R.IMG_THR_THRM) then clGlove
  else if (d.get R.IMG_THR_THRM : Int) ≤ b.top then clFinger else clWeak

/-- The provisional class (R699 step 2). -/
def Dev.classProv (d : Dev) (f : Frame) (b : Blob) (l : Nat × Nat) : Nat :=
  let t := d.classTop f b l
  if t ≠ 0 then t else if d.palmSize l then clPalm else d.classLow b

/-- The nodes of the frame's other blobs. -/
def otherNodes (bs : List Blob) (b : Blob) : List (Nat × Nat) := (bs.filter (· != b)).flatMap (·.nodes)

/-- A blob as a candidate. -/
def Dev.candOf (d : Dev) (f : Frame) (g : Grid) (bs : List Blob) (b : Blob) : Cand :=
  let l := d.eigen g b
  let p := d.classProv f b l
  { blob := b, prov := p, cls := p, pos := d.position g b (otherNodes bs b) p, z := g.z b, area := areaOf l.1 l.2,
    major := min 255 (axisOf l.1), minor := min 255 (axisOf l.2), stale := b.nodes.any g.stale,
    whole := b.nodes.all g.stale, excl := b.nodes.any g.excl }

/-! ### The hover object (R170) -/

/-- The offset of a three-point parabola's top, in 1/65536 of a pitch. -/
def paraTop (l p r : Int) : Int :=
  let q := 2 * (l - 2 * p + r)
  if q = 0 then 0 else if q < 0 then -roundDiv ((l - r) * 65536) q.natAbs else roundDiv ((l - r) * 65536) q.natAbs

/-- The peak of a profile: its line and value, the lowest line on a tie. -/
def profPeak (ps : List (Nat × Int)) : Option (Nat × Int) :=
  ps.foldl (fun b p => match b with
    | none => some p
    | some q => if q.2 < p.2 || (q.2 == p.2 && p.1 < q.1) then some p else some q) none

/-- The position along an axis, scaled: the parabola through the peak and its neighbours. -/
def hoverAxis (ps : List (Nat × Int)) (k : Nat × Int) (centre : Int) (pitch : Nat) : Int :=
  match ps.lookup (k.1 - 1), ps.lookup (k.1 + 1), k.1 with
  | some l, some r, _ + 1 => centre + paraTop l k.2 r * pitch
  | _, _, _ => centre

/-- The hover object of a frame without blobs, if one is seen (R170). -/
def Dev.hoverCand (d : Dev) (f : Frame) : Option Cand :=
  if !d.is R.CT_CTRL_LARK || !d.selfKnown f then none
  else
    let ps := d.profiles
    let cs := (ps.filter (fun p => p.1 == 1)).map (fun p => (p.2.1, p.2.2.1))
    let rs := (ps.filter (fun p => p.1 == 2)).map (fun p => (p.2.1, p.2.2.1))
    match profPeak cs, profPeak rs with
    | some kc, some kr =>
      let s := min kc.2 kr.2
      if s * 100 < (d.get R.IMG_THR_THRS * d.get R.CT_LARK_HPCT : Nat) then none
      else
        let h0 : Int := 16 * d.get R.CT_LARK_H0
        let z : Int := if s ≤ 0 then 1600 else roundDiv (h0 * (d.get R.CT_LARK_SREF - s)) s.toNat
        let lx := d.pitchX * d.pitchX * 2 ^ 18 / 3
        let ly := d.pitchY * d.pitchY * 2 ^ 18 / 3
        some { blob := ⟨[], (kc.1, kr.1), s⟩, prov := clHover, cls := clHover,
               pos := (hoverAxis cs kc (d.centreX kc.1) d.pitchX, hoverAxis rs kr (d.centreY kr.1) d.pitchY),
               z := (clampI 0 1600 z).toNat, area := areaOf (max lx ly) (min lx ly),
               major := min 255 (axisOf (max lx ly)), minor := min 255 (axisOf (min lx ly)),
               stale := ps.any (fun p => p.2.2.2), whole := false, excl := false }
    | _, _ => none

/-- The candidates of the frame: its blobs, or the hover object. -/
def Dev.cands (d : Dev) (f : Frame) (g : Grid) : List Cand :=
  let bs := d.blobs g
  if bs.isEmpty then (d.hoverCand f).toList else bs.map (d.candOf f g bs)

/-! ### Pairing (R171, R172) -/

/-- A contact's predicted position, in reported coordinates. -/
def Contact.pred (k : Contact) : Int × Int := if k.first then (k.x, k.y) else (2 * k.x - k.qx, 2 * k.y - k.qy)

/-- The distance between a contact's prediction and a candidate's estimate, scaled. -/
def Dev.pairDist (d : Dev) (k : Contact) (c : Cand) : Nat :=
  let p := d.toReported c.pos
  let dx := p.1 - k.pred.1 * posOne
  let dy := p.2 - k.pred.2 * posOne
  Nat.sqrt ((dx * dx + dy * dy).toNat)

/-- The distance of an eligible pair (R172): closer than GATE; a weak blob only for a PALM contact; a hover contact
only with the hover object or with a FINGER or GLOVE blob (R171). -/
def Dev.eligible (d : Dev) (k : Contact) (c : Cand) : Option Nat :=
  let ok := if c.prov = clWeak then k.cls == clPalm
    else if c.prov = clHover then k.cls == clHover
    else if k.cls = clHover then c.prov == clFinger || c.prov == clGlove else true
  let n := d.pairDist k c
  if ok && decide (n < d.get R.CT_TRACK_GATE * 64 * posOne) then some n else none

/-- A pairing: number of pairs, total distance, the distance of each contact in slot order, pairs (slot, candidate). -/
abbrev Pairing := Nat × Nat × List Nat × List (Nat × Nat)

/-- Lists in lexicographic order. -/
def lexLt : List Nat → List Nat → Bool
  | a :: as, b :: bs => a < b || (a == b && lexLt as bs)
  | _, _ => false

/-- The better of two pairings (R172). -/
def betterPair (a b : Pairing) : Pairing :=
  if b.1 < a.1 then a else if a.1 < b.1 then b
  else if a.2.1 < b.2.1 then a else if b.2.1 < a.2.1 then b
  else if lexLt b.2.2.1 a.2.2.1 then b else a

/-- A pairing in which a contact of slot `k` takes the candidate `e` (its number, its distance). -/
def takePair (k : Nat) (e : Nat × Nat) (t : Pairing) : Pairing :=
  (t.1 + 1, t.2.1 + e.2, e.2 :: t.2.2.1, (k, e.1) :: t.2.2.2)

/-- The best pairing of contacts, in slot order, each with its eligible candidates, when the candidates `used` are
taken (R172). A contact whose one candidate no later contact can take, takes it: leaving it would lose a pair. -/
def bestPairs : List (Nat × List (Nat × Nat)) → List Nat → Pairing
  | [], _ => (0, 0, [], [])
  | (k, es) :: ks, used =>
    let left := es.filter (fun e => !used.contains e.1)
    let alone := fun (e : Nat × Nat) => ks.all (fun x => x.2.all (fun f => f.1 != e.1))
    if left.length = 1 && left.all alone then
      let t := bestPairs ks used
      left.foldl (fun _ e => takePair k e t) t
    else
      let s := bestPairs ks used
      left.foldl (fun best e => betterPair best (takePair k e (bestPairs ks (e.1 :: used))))
        (s.1, s.2.1, 2 ^ 64 :: s.2.2.1, s.2.2.2)

/-- The best pairing of contacts, in slot order, with the candidates (R172). -/
def Dev.pairUp (d : Dev) (ks : List Contact) (cs : List (Nat × Cand)) : Pairing :=
  bestPairs (ks.map (fun k => (k.slot, cs.filterMap (fun e => (d.eligible k e.2).map (fun n => (e.1, n)))))) []

/-! ### Final classes (R699 steps 5 and 6) -/

/-- Whether a native position lies within PRAD mm of the centre of a node of a blob (R166). -/
def Dev.nearBlob (d : Dev) (p : Int × Int) (b : Blob) : Bool :=
  let r : Int := (d.get R.CT_LARGE_PRAD * 64 * posOne : Nat)
  b.nodes.any (fun n =>
    let dx := p.1 - d.centreX n.1
    let dy := p.2 - d.centreY n.2
    dx * dx + dy * dy ≤ r * r)

/-- The candidates with their final classes and positions; `palm` tells which were paired with a PALM contact. -/
def Dev.finalClasses (d : Dev) (f : Frame) (g : Grid) (cs : List Cand) (palm : Nat → Bool) : List Cand :=
  let idx := List.range cs.length
  let one := fun (i : Nat) (c : Cand) =>
    if c.prov = clHover then c
    else
      let l := d.eigen g c.blob
      let t := d.classTop f c.blob l
      if t ≠ 0 then { c with cls := t } else if palm i || d.palmSize l then { c with cls := clPalm } else { c with cls := clWeak }
  let st := idx.zipWith one cs
  let palms := st.filter (fun c => c.cls == clPalm)
  st.map (fun c =>
    if c.cls ≠ clWeak then
      if (c.prov = clFinger ∨ c.prov = clGlove) then { c with pos := d.centroid g c.blob } else c
    else if palms.any (fun q => d.nearBlob c.pos q.blob) then
      { c with cls := clPalm, pos := d.centroid g c.blob }
    else { c with cls := d.classLow c.blob })

/-! ### Regions (R179, R180) -/

/-- Region `k`: enabled, type, bounds, key, gesture mask. -/
def Dev.rgIn (d : Dev) (k : Nat) (x y w : Int) : Bool :=
  decide ((d.get (R.CT_RGX_LO k) : Int) - w ≤ x) && decide (x ≤ (d.get (R.CT_RGX_HI k) : Int) + w) &&
  decide ((d.get (R.CT_RGY_LO k) : Int) - w ≤ y) && decide (y ≤ (d.get (R.CT_RGY_HI k) : Int) + w)

/-- The region that a contact at (x, y) captures: the lowest enabled one that contains it (R179). -/
def Dev.capture (d : Dev) (x y : Int) : Option Nat :=
  (List.range 32).find? (fun k => d.is (R.CT_RGC_EN k) && d.rgIn k x y 0)

/-- Whether the captured region lets a contact be reported (R180). -/
def Dev.regionReports (d : Dev) (r : Option Nat) : Bool :=
  match r with
  | none => true
  | some k =>
    let t := d.get (R.CT_RGC_TYPE k)
    if t = 2 then false else if t = 1 then d.is R.CT_CTRL_RPTKEY else true

/-- Whether a degrade of FS03 or FS04 suppresses a blob (R636). -/
def Dev.degraded (d : Dev) (b : List (Nat × Nat)) : Bool :=
  d.flt.supEls.any (fun n => (d.elOpen n || d.elShort n) &&
    b.any (fun p => if d.role n = 2 then p.1 == d.elIndex n else d.role n == 1 && p.2 == d.elIndex n))

/-- Whether a contact's class suppresses it (R167). -/
def Dev.classOff (d : Dev) (cls : Nat) : Bool := (cls == clPalm || cls == clWater) && !d.is R.CT_CTRL_RPTSUP

/-- Whether a contact with blob `b` is reported: not in Heath (R187), a reported class (R167), its region (R180), no
degrade. -/
def Dev.reports (d : Dev) (f : Frame) (cls : Nat) (r : Option Nat) (b : List (Nat × Nat)) : Bool :=
  !f.heath && !d.classOff cls && d.regionReports r && !d.degraded b

/-! ### One contact in a frame (R164, R173) -/

/-- The filter of one axis (R164): estimate scaled, previous reported position. -/
def Dev.filterAxis (d : Dev) (p q : Int) : Int :=
  let e := p - q * posOne
  if e.natAbs < d.get R.CT_INTERP_FILTD * posOne then
    q + roundDiv (e * (d.get R.CT_INTERP_FILTA + 1)) (16 * posOne)
  else roundDiv p posOne

/-- FLAGS of a TOUCH report outside a frame: whether Gorse and Lark are in force (R493). -/
def Dev.modeFlags (d : Dev) : Nat := (if d.gorseOn then 4 else 0) + (if d.larkOn then 8 else 0)

/-- The values that a candidate gives a contact. EDGE tests the position before the filter of R165 (R29, R177; DESIGN
CHOICE, log entry 19). -/
def Contact.take_ (k : Contact) (d : Dev) (c : Cand) : Contact :=
  { k with cls := c.cls, z := c.z, area := c.area, major := c.major, minor := c.minor, stale := c.stale, prov := c.excl,
           blob := c.blob.nodes, peak := c.blob.peak, nx := c.pos.1, ny := c.pos.2, edge := d.inEdge c.pos }

/-- What a frame makes of a tracked contact's report and capture (R173, R174, R179, R180): `k` the contact before the
frame, `k1` with the values it takes (class, blob, position, filtered position), (`px`, `py`) its unfiltered position;
`touch` marks a HOVER contact that touches (R171). `id` 0 in the answer with `reported` set asks for a new track ID. -/
def Dev.settle (d : Dev) (f : Frame) (k k1 : Contact) (px py : Int) (touch : Bool) : Contact :=
  let fresh := !k.lost && (touch || (k.renew && d.reports f k1.cls none k1.blob))
  let reg := if fresh then d.capture px py else k.region
  let now := d.reports f k1.cls reg k1.blob
  let down := touch || (!k.reported && now)
  { k1 with
    x := if down then px else k1.x, y := if down then py else k1.y, qx := k.x, qy := k.y, first := false
    reported := now, region := reg, id := if now && !k.reported then 0 else k.id
    state := if down then 1 else k1.state
    downAt := if down then d.clock else k.downAt, gDown := if down then f.tlast else k.gDown
    x0 := if down then px else k.x0, y0 := if down then py else k.y0
    keyIn := fresh || k.keyIn, renew := d.classOff k1.cls || (k.renew && !fresh)
    sole := down || k.sole, leftTap := !down && k.leftTap, leftHold := !down && k.leftHold, didHold := !down && k.didHold
    didSwipe := !down && k.didSwipe, swFar := !down && k.swFar, sup := d.degraded k1.blob }

/-- A tracked contact paired with a candidate (R164, R171, R173). One whose blob is wholly stale keeps its values and
reports HOLD with STALE (R188). -/
def Dev.paired (d : Dev) (f : Frame) (k : Contact) (c : Cand) : Contact :=
  if c.whole then d.settle f k { k with stale := true, state := 3, blob := c.blob.nodes } k.x k.y false
  else
    let p := d.toReported c.pos
    let x := d.filterAxis p.1 k.x
    let y := d.filterAxis p.2 k.y
    let thr := d.get R.CT_TRACK_MOVETHR
    let moved := decide (thr ≤ (x - k.x).natAbs) || decide (thr ≤ (y - k.y).natAbs)
    d.settle f k { k.take_ d c with x := x, y := y, state := if moved then 2 else 3,
                                    largeAt := if c.cls = clLarge then some (k.largeAt.getD d.clock) else none }
      (roundDiv p.1 posOne) (roundDiv p.2 posOne) (k.cls == clHover && c.cls != clHover)

/-- A new contact in a slot (R173, R176, R179). -/
def Dev.newContact (d : Dev) (f : Frame) (c : Cand) (slot : Nat) : Contact :=
  let p := d.toReported c.pos
  let x := roundDiv p.1 posOne
  let y := roundDiv p.2 posOne
  let reg := if c.cls = clHover then none else d.capture x y
  { slot := slot, id := 0, cls := c.cls, reported := d.reports f c.cls reg c.blob.nodes, x := x, y := y, qx := x, qy := y,
    first := true, state := 1, z := c.z, area := c.area, major := c.major, minor := c.minor, stale := c.stale,
    edge := d.inEdge c.pos, prov := c.excl, blob := c.blob.nodes, peak := c.blob.peak, nx := c.pos.1, ny := c.pos.2,
    downAt := d.clock, gDown := f.tlast, largeAt := if c.cls = clLarge then some d.clock else none, x0 := x, y0 := y,
    region := reg, lost := false, keyIn := true, sole := true, leftTap := false, leftHold := false, didHold := false,
    didSwipe := false, swFar := false, sup := d.degraded c.blob.nodes,
    renew := d.classOff c.cls }

/-! ### New contacts and their slots (R176) -/

/-- The order of service. -/
def servedBefore (a b : Cand) : Bool :=
  let fa := a.cls == clFinger || a.cls == clGlove
  let fb := b.cls == clFinger || b.cls == clGlove
  let rowCol := a.blob.peak.2 < b.blob.peak.2 || (a.blob.peak.2 == b.blob.peak.2 && a.blob.peak.1 ≤ b.blob.peak.1)
  if fa != fb then fa else if fa then rowCol else if a.z = b.z then rowCol else b.z < a.z

/-- New contacts for the candidates left, and whether one found no slot. -/
def Dev.serve (d : Dev) (f : Frame) : List Cand → List Nat → List Contact × Bool
  | [], _ => ([], false)
  | _ :: _, [] => ([], true)
  | c :: cs, s :: ss =>
    let (l, o) := d.serve f cs ss
    (d.newContact f c s :: l, o)

/-! ### Track IDs (R175) -/

/-- The next ID from `n` on that is not held. -/
def freeId (held : List Nat) : Nat → Nat → Nat
  | 0, n => n
  | fuel + 1, n => if held.contains n then freeId held fuel (if n = 65535 then 1 else n + 1) else n

/-- The ID after `n`. -/
def nextId (n : Nat) : Nat := if n = 65535 then 1 else n + 1

/-- IDs given, in slot order, to the reported contacts without one: each takes CT_NEXTID, `n`, which then steps past every
value that is held. The answer holds the next CT_NEXTID. -/
def giveIds (held : List Nat) : List Contact → Nat → List Contact × Nat
  | [], n => ([], n)
  | k :: ks, n =>
    if k.reported && k.id == 0 then
      let (l, n') := giveIds held ks (freeId held 64 (nextId n))
      ({ k with id := n } :: l, n')
    else
      let (l, n') := giveIds held ks n
      ((if k.reported then k else { k with id := 0 }) :: l, n')

/-! ### Records (R177) -/

/-- The 16-byte contact record with a state and a release reason. -/
def Contact.record (k : Contact) (state reason : Nat) : List Byte :=
  let fl := (if k.stale then 1 else 0) + (if k.edge then 2 else 0) + (if k.prov then 4 else 0) +
    (if state = 4 then 16 * reason else 0)
  [byte k.slot, byte (16 * k.cls + state)] ++ leBytes 2 k.id ++ leBytes 2 (clampI 0 65535 k.x).toNat ++
    leBytes 2 (clampI 0 65535 k.y).toNat ++ leBytes 2 k.z ++ leBytes 2 k.area ++
    [byte k.major, byte k.minor, byte fl, 0]

/-- Release reasons (R174). -/
def rrLift : Nat := 0
def rrStuck : Nat := 1
def rrAbsorbed : Nat := 2
def rrSuppressed : Nat := 3
def rrReform : Nat := 4
def rrStop : Nat := 5
def rrMerge : Nat := 6

/-- Whether a contact's prediction lies inside a blob: within half a pitch of a node's centre on each axis (R174). -/
def Dev.insideBlob (d : Dev) (k : Contact) (b : List (Nat × Nat)) : Bool :=
  let p := d.toNative (k.pred.1 * posOne, k.pred.2 * posOne)
  b.any (fun n => decide ((p.1 - d.centreX n.1).natAbs * 2 ≤ posOne * d.pitchX) &&
    decide ((p.2 - d.centreY n.2).natAbs * 2 ≤ posOne * d.pitchY))

/-! ### Freeze area (R141) -/

/-- The freeze area of a contact: its blob and the ring around it, and the profile entries the blob spans and one on
each side (kind, column, row). -/
def Grid.freezeArea (g : Grid) (blob : List (Nat × Nat)) : List (Nat × Nat × Nat) :=
  let nodes := (blob ++ blob.flatMap g.around).dedup
  let cs := (blob.flatMap (fun n => [n.1 - 1, n.1, n.1 + 1])).dedup
  let rs := (blob.flatMap (fun n => [n.2 - 1, n.2, n.2 + 1])).dedup
  nodes.map (fun n => (0, n.1, n.2)) ++ cs.map (fun c => (1, c, 0)) ++ rs.map (fun r => (2, 0, r))

/-- The Sward of a freeze area set to the latest measurements, and the area unfrozen (R144, R145). A value that is held
with STALE is no measurement and never updates it (R152, R698). -/
def Dev.rebase (d : Dev) (area : List (Nat × Nat × Nat)) : Dev :=
  let es := d.img.els.map (fun (e : Elem) =>
    if !area.contains e.at_ then e
    else if e.mOk && !e.stale then { e with b := (e.m : Int) * 256, frozen := false, neg := 0 }
    else { e with frozen := false })
  { d.setEls es with
    img := { d.img with els := es, freeze := d.img.freeze.filter (fun x => !area.contains x) }
    cl := { d.cl with rel := if d.isLead && d.enumerated then d.cl.rel ++ area else d.cl.rel } }

/-! ### Keys and occupancy (R181, R182) -/

/-- A contact that drives keys, occupancy and gestures (R167, R180). -/
def Contact.drives (k : Contact) : Bool := (k.cls == clFinger || k.cls == clGlove) && !k.sup

/-- Keys: each contact's stay within its widened key region brought up to date. -/
def Dev.keyStay (d : Dev) (k : Contact) : Contact :=
  match k.region with
  | none => k
  | some r => { k with keyIn := k.keyIn && d.rgIn r k.x k.y (d.get R.CT_KEYCFG_HYS) }

/-- CT_VKEYS and CT_RGOCC for the contacts. -/
def Dev.vkeysOf (d : Dev) (ks : List Contact) : Nat :=
  let on := fun (v : Nat) => ks.any (fun k => k.drives && k.keyIn && (match k.region with
    | some r => d.is (R.CT_RGC_EN r) && d.get (R.CT_RGC_TYPE r) == 1 && d.get (R.CT_RGC_VK r) == v
    | none => false))
  ((List.range 32).map (fun v => if on v then 2 ^ v else 0)).sum
def rgoccOf (ks : List Contact) : Nat :=
  ((List.range 32).map (fun r => if ks.any (fun k => k.drives && k.region == some r) then 2 ^ r else 0)).sum

/-- CT_STATUS's counts, CT_VKEYS and CT_RGOCC written; the VKEY event on a change of CT_VKEYS (R286). -/
def Dev.ctRegs (d : Dev) : Dev :=
  let ks := d.ct.contacts
  let d := (d.put R.CT_STATUS_NTRACK ks.length).put R.CT_STATUS_NREP (ks.filter (·.reported)).length
  d.setReg R.CT_RGOCC (word (rgoccOf ks))

/-- CT_VKEYS written, with the KEY report and the event of a change (R181). -/
def Dev.ctKeys (d : Dev) (frame : Nat) (silent : Bool) : Dev :=
  let v := d.vkeysOf d.ct.contacts
  if d.reg R.CT_VKEYS = word v then d
  else
    let d := (d.setReg R.CT_VKEYS (word v)).event evVkey
    if silent then d else d.key frame v

/-! ### The contacts of a frame (R699) -/

/-- What a frame makes of the contacts: the device with the contacts and their registers, the records in slot order,
and the contacts that ended with their reason. -/
def Dev.contactFrame (d : Dev) (f : Frame) (stop : Bool) : Dev × List (List Byte) × List (Contact × Nat) :=
  let g := d.grid
  let cs := d.cands f g
  let idx := List.range cs.length
  let olds := d.ct.contacts
  let pr := (d.pairUp olds (idx.zipWith (fun i c => (i, c)) cs)).2.2.2
  let palm := fun i => pr.any (fun p => p.2 == i && olds.any (fun k => k.slot == p.1 && k.cls == clPalm))
  let cs := d.finalClasses f g cs palm
  let stay := olds.filterMap (fun k => ((pr.lookup k.slot).bind (fun i => cs[i]?)).map (fun c => (k, d.paired f k c)))
  let gone := olds.filter (fun k => (pr.lookup k.slot).isNone)
  let blobs := stay.map (fun p => p.2.blob)
  let goneR := gone.map (fun k => (k, if blobs.any (d.insideBlob k) then rrMerge else rrLift))
  let left := (idx.zipWith (fun i c => (i, c)) cs).filter (fun e => !pr.any (fun p => p.2 == e.1) && e.2.prov != clWeak &&
    !(e.2.cls == clHover && gone.any (fun k => k.cls != clHover)))
  let slots := (List.range 16).filter (fun s => !olds.any (fun k => k.slot == s))
  let (news, ovr) := if stop then ([], false) else d.serve f ((left.map (·.2)).mergeSort servedBefore) slots
  let d := if ovr then d.inc R.CT_COUNTS_OVER else d
  let d := d.satAdd R.CT_COUNTS_MERGE (goneR.filter (fun e => e.2 == rrMerge)).length
  -- releases by time (R144, R145, R153)
  let lim := d.get R.IMG_REST_LIMIT
  let abs := d.get R.IMG_ABSORB_TIME
  let due := fun (k : Contact) =>
    if abs ≠ 0 ∧ k.largeAt.any (fun t => decide (t + abs * 1000000 ≤ d.clock)) then some rrAbsorbed
    else if lim ≠ 0 ∧ k.downAt + lim * 1000000 ≤ d.clock then some rrStuck else none
  let ends := stay.filterMap (fun p => (due p.2).map (fun r => (p.1, p.2, r)))
  let kept := stay.filter (fun p => (due p.2).isNone)
  let d := d.satAdd R.IMG_COUNTS2_STUCK (ends.filter (fun e => e.2.2 == rrStuck)).length
  let d := d.satAdd R.IMG_COUNTS2_ABSORB (ends.filter (fun e => e.2.2 == rrAbsorbed)).length
  let d := ends.foldl (fun d e => d.rebase (g.freezeArea e.2.1.blob)) d
  -- identities
  let all := ((kept.map (·.2)) ++ news).mergeSort (fun a b => a.slot ≤ b.slot)
  let (all, nid) := giveIds (olds.map (·.id)) all (d.get R.CT_NEXTID_NEXTID)
  let d := d.put R.CT_NEXTID_NEXTID nid
  -- records
  let ups := (goneR.filter (fun e => e.1.reported)).map (fun e => (e.1.slot, e.1.record 4 e.2)) ++
    (ends.filter (fun e => e.1.reported)).map (fun e => (e.1.slot, { e.2.1 with id := e.1.id }.record 4 e.2.2)) ++
    (kept.filter (fun p => p.1.reported && !p.2.reported)).map (fun p =>
      (p.1.slot, { p.2 with id := p.1.id }.record 4 rrSuppressed))
  let live := all.filter (·.reported)
  let stops := if stop then live.map (fun k => (k.slot, k.record 4 rrStop)) else live.map (fun k => (k.slot, k.record k.state 0))
  let recs := ((ups ++ stops).mergeSort (fun a b => a.1 ≤ b.1)).map (·.2)
  let endedAll := goneR ++ ends.map (fun e => (e.2.1, e.2.2)) ++ (if stop then all.map (fun k => (k, rrStop)) else [])
  let final := if stop then [] else all.map d.keyStay
  let d := { d with ct := { d.ct with contacts := final },
                    img := { d.img with freeze := (final.flatMap (fun (k : Contact) => g.freezeArea k.blob)).dedup } }
  (d.ctRegs, recs, endedAll)

/-- The contacts of `slots` have gone UP outside a frame: a group that one of them has overlapped has seen its lift
(R139). -/
def Dev.groupsLift (d : Dev) (slots : List Nat) : Dev :=
  { d with img := { d.img with groups := d.img.groups.map (fun (g : Grp) =>
      { g with lifted := g.lifted || g.slots.any slots.contains, slots := g.slots.filter (fun s => !slots.contains s) }) } }

/-- Every tracked contact ends with a reason: records of the reported ones (R157, R174). -/
def Dev.endContacts (d : Dev) (reason : Nat) : Dev × List (List Byte) × List (Contact × Nat) :=
  let ks := d.ct.contacts
  let recs := (ks.filter (·.reported)).map (fun k => k.record 4 reason)
  let d := { d with ct := { d.ct with contacts := [] }, img := { d.img with freeze := [] } }
  ((d.groupsLift (ks.map (·.slot))).ctRegs, recs, ks.map (fun k => (k, reason)))

/-! ### Gorse (R168) -/

/-- Whether a blob is a candidate for entering Gorse. -/
def Dev.gorseCand (d : Dev) (f : Frame) (g : Grid) (b : Blob) : Bool :=
  let l := d.eigen g b
  decide ((d.tp : Int) ≤ b.top) && decide (b.top < d.get R.IMG_THR_THRM) &&
    decide (d.get R.CT_GORSE_GAREA * areaUnit ≤ min (areaRaw l.1 l.2) (65535 * areaUnit)) && d.selfKnown f &&
    decide (((d.get R.IMG_THR_THRS * d.get R.CT_SEG_GPCT : Nat) : Int) ≤ d.support b * 100)

/-- The counts of R168 after a processed frame, whatever it was; a change falls due at the next tick. Candidates are
judged on the deltas that the frame's contacts were formed on; without a Sward every delta is 0. -/
def Dev.gorseFrame (d : Dev) (f : Frame) : Dev :=
  if d.get R.CT_CTRL_GORSE ≠ 1 then { d with ct := { d.ct with gorseIn := 0, gorseOut := 0 } }
  else if d.gorseOn then
    let n := if d.ct.contacts.any (fun k => k.cls == clGlove) then 0 else d.ct.gorseOut + 1
    let due := if d.get R.CT_GORSE_GEXIT ≤ n then some false else d.ct.gorseDue
    { d with ct := { d.ct with gorseIn := 0, gorseOut := n, gorseDue := due } }
  else
    let g := d.grid
    let n := if (d.blobs g).any (d.gorseCand f g) then d.ct.gorseIn + 1 else 0
    let due := if d.get R.CT_GORSE_GENTER ≤ n then some true else d.ct.gorseDue
    { d with ct := { d.ct with gorseIn := n, gorseOut := 0, gorseDue := due } }

/-! ### Region writes (R192) -/

/-- Contacts that captured a changed region lose their capture, and CT_RGOCC shows it free (R182, R192). -/
def Dev.loseRegion (d : Dev) (k : Nat) : Dev :=
  if d.ct.contacts.any (fun (c : Contact) => c.region == some k) then
    let d : Dev := { d with ct := { d.ct with contacts := d.ct.contacts.map (fun (c : Contact) =>
      if c.region = some k then { c with region := none, lost := true, keyIn := false } else c) } }
    d.setReg R.CT_RGOCC (word (rgoccOf d.ct.contacts))
  else d

/-- The cause of R183 that region values (RGX, RGY, RGC) meet, if the region is enabled. -/
def Dev.regionCause (d : Dev) (x y c : Word) : Option Nat :=
  let (ex, ey) := if d.is R.ACQ_ORIENT_SWAPXY then (d.extY, d.extX) else (d.extX, d.extY)
  let x0 := x.toNat % 65536
  let x1 := x.toNat / 65536
  let y0 := y.toNat % 65536
  let y1 := y.toNat / 65536
  if !bitOf c.toNat 0 then none
  else if x1 < x0 ∨ y1 < y0 then some 1
  else if ex < x1 ∨ ey < y1 then some 2
  else if c.toNat / 2 % 4 = 3 then some 3 else none

end Sys2Proof.Machine
end

