-- ==== Sys2Proof/Machine/Gesture.lean ====
section
/-!
DEFINITION. Machine/Gesture.lean: the gestures of views (R184–R186), the wake gestures of Heath (R187), and their
reports (R494).
-/

namespace Sys2Proof.Machine

/-- The GESTURE report (R494). -/
def gestureReport (frame code region phase id : Nat) (x y p1 p2 : Int) : Report :=
  ⟨0x82, 0, leBytes 2 frame ++ [byte code, byte region, byte phase, 0] ++ leBytes 2 id ++ leBytes 2 (unsigned 16 x) ++
    leBytes 2 (unsigned 16 y) ++ leBytes 2 (unsigned 16 p1) ++ leBytes 2 (unsigned 16 p2)⟩

/-- Squared distance. -/
def sqDist (x y a b : Int) : Int := (x - a) * (x - a) + (y - b) * (y - b)

/-- Time from `a` to `b` on 32-bit timestamps. -/
def since32 (a b : Nat) : Nat := (b + 2 ^ 32 - a) % 2 ^ 32

/-- The lengths of CT_GDIST and CT_G2.PAN in 1/64 mm, and the times of CT_GTIME in µs. -/
def Dev.gLen (d : Dev) (f : Field) : Int := (16 * d.get f : Nat)
def Dev.gTime (d : Dev) (f : Field) : Nat := 4000 * d.get f

/-! ### Angles (1/64 degree) -/

/-- The angle of a vector in the first quadrant (x > 0, y ≥ 0), in 1/64 degree, rounded. -/
def angleQ1 (x y : Int) : Int :=
  (((List.range 5760).filter (fun k => decide (sinTurn (2 * k + 1) 46080 * x ≤ cosTurn (2 * k + 1) 46080 * y))).length : Int)

/-- The angle of a vector from +x towards +y, −11520 < angle ≤ 11520. -/
def angleOf (x y : Int) : Int :=
  if 0 < x ∧ 0 ≤ y then angleQ1 x y
  else if x ≤ 0 ∧ 0 < y then 5760 + angleQ1 y (-x)
  else if x < 0 ∧ y ≤ 0 then (if y = 0 then 11520 else angleQ1 (-x) (-y) - 11520)
  else if y < 0 then angleQ1 (-y) x - 5760 else 0

/-! ### Single-contact gestures (R185) -/

/-- The SWIPE code of a displacement: the larger axis, horizontal when equal; UP is decreasing y. -/
def swipeCode (dx dy : Int) : Nat :=
  if dx.natAbs < dy.natAbs then (if dy < 0 then 0x04 else 0x05) else (if dx < 0 then 0x06 else 0x07)

/-- A contact's flags brought up to date after a frame; `n` is the number of contacts captured in its view. -/
def Dev.gestureFlags (d : Dev) (n : Nat) (k : Contact) : Contact :=
  let q := sqDist k.x k.y k.x0 k.y0
  let tap := d.gLen R.CT_GDIST_TAPD
  let hold := d.gLen R.CT_GDIST_HOLDD
  { k with sole := k.sole && decide (n ≤ 1), leftTap := k.leftTap || decide (tap * tap < q),
           leftHold := k.leftHold || decide (hold * hold < q) }

/-- HOLD and SWIPE of a live contact: the contact with what it has produced, and the reports (code, dx, dy). -/
def Dev.liveGestures (d : Dev) (tlast mask : Nat) (k : Contact) : Contact × List (Nat × Int × Int) :=
  let el := since32 k.gDown tlast
  let dx := k.x - k.x0
  let dy := k.y - k.y0
  let swd := d.gLen R.CT_GDIST_SWD
  let far := decide (swd * swd ≤ dx * dx + dy * dy)
  let hold := bitOf mask 2 && k.sole && !k.didHold && !k.leftHold && decide (d.gTime R.CT_GTIME_HOLDT ≤ el)
  let swipe := bitOf mask 3 && k.sole && far && !k.swFar && decide (el ≤ d.gTime R.CT_GTIME_SWT)
  ({ k with didHold := k.didHold || hold, didSwipe := k.didSwipe || swipe, swFar := k.swFar || far },
   (if hold then [(0x03, 0, 0)] else []) ++ (if swipe then [(swipeCode dx dy, dx, dy)] else []))

/-- Whether a contact that has gone UP made a tap. -/
def Dev.isTap (d : Dev) (tlast : Nat) (k : Contact) : Bool :=
  k.sole && !k.leftTap && !k.didHold && !k.didSwipe && decide (since32 k.gDown tlast ≤ d.gTime R.CT_GTIME_TAPT)

/-- A tap in view `r`: TAP or DOUBLE_TAP as (code, x, y), and the taps remembered. -/
def Dev.tapIn (d : Dev) (r tlast mask : Nat) (taps : List (Nat × Int × Int × Nat)) (k : Contact) :
    Option (Nat × Int × Int) × List (Nat × Int × Int × Nat) :=
  let rest := taps.filter (fun t => t.1 != r)
  let dtd := d.gLen R.CT_GDIST_DTD
  match taps.lookup r with
  | some (x, y, t) =>
    if bitOf mask 1 && decide (since32 t k.gDown ≤ d.gTime R.CT_GTIME_DTT) && decide (sqDist k.x0 k.y0 x y ≤ dtd * dtd) then
      (some (0x02, x, y), rest)
    else (if bitOf mask 0 then some (0x01, k.x0, k.y0) else none, (r, k.x0, k.y0, tlast) :: rest)
  | none => (if bitOf mask 0 then some (0x01, k.x0, k.y0) else none, (r, k.x0, k.y0, tlast) :: rest)

/-! ### Pairs (R186) -/

/-- Distance with 16 fraction bits. -/
def distFix (dx dy : Int) : Nat := Nat.sqrt (((dx * dx + dy * dy) * 2 ^ 32).toNat)

/-- A new pair of two contacts, the lower slot first. -/
def newPair (r : Nat) (a b : Contact) : GPair :=
  ⟨r, a.slot, b.slot, a.id, b.id, b.x - a.x, b.y - a.y, a.x + b.x, a.y + b.y, none, none, none, 0, a.x + b.x, a.y + b.y⟩

/-- The values of a pair now: scale, unwrapped angle, displacement of the midpoint. -/
def pairValues (p : GPair) (dx dy mx my : Int) : Int × Int × Int × Int :=
  let d0 := distFix p.dx0 p.dy0
  let sc := min 65535 (roundDiv (256 * distFix dx dy) (max 1 d0))
  let raw := angleOf (dx * p.dx0 + dy * p.dy0) (dy * p.dx0 - dx * p.dy0)
  let turn := raw + 23040 * roundDiv (p.turn - raw) 23040
  (sc, turn, roundDiv (mx - p.mx0) 2, roundDiv (my - p.my0) 2)

/-- A pair in a frame: its gestures start, update or stay; the reports (code, phase, P1, P2). -/
def Dev.pairFrame (d : Dev) (mask : Nat) (p : GPair) (a b : Contact) : GPair × List (Nat × Nat × Int × Int) :=
  let dx := b.x - a.x
  let dy := b.y - a.y
  let mx := a.x + b.x
  let my := a.y + b.y
  let (sc, turn, px, py) := pairValues p dx dy mx my
  let d0 := distFix p.dx0 p.dy0
  let dn := distFix dx dy
  let pan := d.gLen R.CT_G2_PAN
  let pinchOn := bitOf mask 4 && decide (d.get R.CT_G2_SCALE * d0 ≤ 100 * ((dn : Int) - d0).natAbs)
  let rotOn := bitOf mask 5 && decide (64 * d.get R.CT_G2_ROT ≤ turn.natAbs)
  let panOn := bitOf mask 6 && decide (4 * pan * pan ≤ sqDist mx my p.mx0 p.my0)
  let (pi, r1) := match p.pinch with
    | none => if pinchOn then (some sc, [(0x08, 1, sc, (0 : Int))]) else (none, [])
    | some v => (some sc, if v = sc then [] else [(0x08, 2, sc, 0)])
  let (ro, r2) := match p.rot with
    | none => if rotOn then (some turn, [(0x09, 1, turn, (0 : Int))]) else (none, [])
    | some v => (some turn, if v = turn then [] else [(0x09, 2, turn, 0)])
  let (pn, r3) := match p.pan with
    | none => if panOn then (some (px, py), [(0x0A, 1, px, py)]) else (none, [])
    | some v => (some (px, py), if v = (px, py) then [] else [(0x0A, 2, px, py)])
  ({ p with pinch := pi, rot := ro, pan := pn, turn := turn, mx := mx, my := my }, r1 ++ r2 ++ r3)

/-- The END reports of a pair that breaks. -/
def pairEnd (p : GPair) : List (Nat × Nat × Int × Int) :=
  (match p.pinch with | some v => [(0x08, 3, v, 0)] | none => []) ++
  (match p.rot with | some v => [(0x09, 3, v, 0)] | none => []) ++
  (match p.pan with | some v => [(0x0A, 3, v.1, v.2)] | none => [])

/-- The reports of a pair: ID is the lower of the two, the position its midpoint, the angle clamped (R494). -/
def pairReports (frame : Nat) (p : GPair) (id : Nat) (l : List (Nat × Nat × Int × Int)) : List Report :=
  l.map (fun e => gestureReport frame e.1 p.region e.2.1 id (roundDiv p.mx 2) (roundDiv p.my 2)
    (if e.1 = 0x09 then clampI (-32767) 32767 e.2.2.1 else e.2.2.1) e.2.2.2)

/-! ### One view in a frame -/

/-- The contacts captured in view `r` that drive gestures. -/
def inView (r : Nat) (ks : List Contact) : List Contact := ks.filter (fun k => k.drives && k.region == some r)

/-- The contacts that end in a frame in which they still had a position: released by time, or as the device stops (R174). -/
def lastSeen (ended : List (Contact × Nat)) : List Contact :=
  (ended.filter (fun e => e.2 == rrStuck || e.2 == rrAbsorbed || e.2 == rrStop)).map (·.1)

/-- What one view gives in a frame: its contacts, pairs and taps brought up to date, and its reports by code. -/
def Dev.viewFrame (d : Dev) (f : Frame) (ended : List (Contact × Nat)) (r : Nat) : Dev × List Report :=
  let fr := f.tick % 65536
  let mask := d.get (R.CT_RGC_GMASK r)
  let n := (inView r (d.ct.contacts ++ lastSeen ended)).length
  let upd : Contact → Contact × List (Nat × Int × Int) := fun k => if k.drives && k.region == some r then
      d.liveGestures f.tlast mask (d.gestureFlags n k) else (k, [])
  let res : List (Contact × List (Nat × Int × Int)) := d.ct.contacts.map upd
  let last : List (Contact × List (Nat × Int × Int)) := (lastSeen ended).map upd
  let ups := last.map (·.1) ++ (ended.filter (fun e => e.2 == rrLift || e.2 == rrMerge)).map (·.1)
  let single := (res ++ last).flatMap (fun e => e.2.map (fun g => (g.1, gestureReport fr g.1 r 0 e.1.id e.1.x0 e.1.y0 g.2.1 g.2.2)))
  let d := { d with ct := { d.ct with contacts := res.map (·.1) } }
  let taps := ups.filter (fun k => k.drives && k.region == some r && d.isTap f.tlast k)
  let (d, tapR) := taps.foldl (fun (acc : Dev × List (Nat × Report)) k =>
    let (o, t) := acc.1.tapIn r f.tlast mask acc.1.ct.taps k
    let d' : Dev := { acc.1 with ct := { acc.1.ct with taps := t } }
    (d', acc.2 ++ (o.toList.map (fun e => (e.1, gestureReport fr e.1 r 0 k.id e.2.1 e.2.2 0 0))))) (d, [])
  let here := inView r d.ct.contacts
  let rest := d.ct.pairs.filter (fun p => p.region != r)
  let old := d.ct.pairs.find? (fun p => p.region == r)
  let pairNow := match here with
    | [a, b] => if a.slot < b.slot then some (a, b) else some (b, a)
    | _ => none
  let pp : List GPair × List (Nat × List Report) := match old, pairNow with
    | some p, some (a, b) =>
      if p.a = a.slot ∧ p.b = b.slot ∧ p.ida = a.id ∧ p.idb = b.id then
        let (p', l) := d.pairFrame mask p a b
        (p' :: rest, l.map (fun e => (e.1, pairReports fr p' (min a.id b.id) [e])))
      else (newPair r a b :: rest, (pairEnd p).map (fun e => (e.1, pairReports fr p (min p.ida p.idb) [e])))
    | some p, none => (rest, (pairEnd p).map (fun e => (e.1, pairReports fr p (min p.ida p.idb) [e])))
    | none, some (a, b) => (newPair r a b :: rest, [])
    | none, none => (rest, [])
  let d := { d with ct := { d.ct with pairs := pp.1 } }
  let all := single ++ tapR ++ (pp.2.flatMap (fun e => e.2.map (fun x => (e.1, x))))
  (d, (all.mergeSort (fun a b => a.1 ≤ b.1)).map (·.2))

/-- The gestures of a Meadow frame: all views in ascending order (R184, R491). -/
def Dev.gestureFrame (d : Dev) (f : Frame) (ended : List (Contact × Nat)) : Dev :=
  if !d.is R.CT_CTRL_GEST then { d with ct := { d.ct with pairs := [], taps := [] } }
  else
    let views := (List.range 32).filter (fun r => (d.is (R.CT_RGC_EN r) && d.get (R.CT_RGC_TYPE r) == 0) ||
      d.ct.pairs.any (fun p => p.region == r))
    views.foldl (fun d r =>
      let (d, l) := d.viewFrame f ended r
      l.foldl Dev.report d) d

/-! ### Wake gestures (R187) -/

/-- A field of PWR_WAKE: Heath keeps the values it was entered with (R604). -/
def Dev.wakeSet (d : Dev) (f : Field) : Nat := f.of (if d.pwr.mode = 1 then word d.pwr.wakeEn else d.reg R.PWR_WAKE)

/-- A wake cause is taken (R596, R597, R599): its bit of PWR_WSRC, and the end of Heath; during an entry it waits for
the entry's end. -/
def Dev.wakeCause (d : Dev) (f : Field) : Dev :=
  if d.st = stHeath then
    if d.enumerated && d.isMember then d
    else
      let d := d.put f 1
      if d.pwr.waking then d else d.heathLeave
  else if d.pwr.stateReq.any (fun q => q.begun && (q.kind == 1 || f == R.PWR_WSRC_HOSTWAKE)) then
    { d.put f 1 with pwr := { d.pwr with wakeAt := some (d.pwr.wakeAt.getD d.clock) } }
  else d

/-- A wake gesture: one GESTURE report, but on a cluster member (R518); where PWR_WAKE.GEST allows it the device then
leaves Heath (R187, R596, R597). -/
def Dev.wakeGesture (d : Dev) (frame code id : Nat) (x y : Int) : Dev :=
  let d := if d.isMember then d else d.report (gestureReport frame code 0xFF 0 id x y 0 0)
  if d.wakeSet R.PWR_WAKE_GEST ≠ 0 then d.wakeCause R.PWR_WSRC_GEST else d

/-- Whether a contact lies outside DEAD regions: by its captured region, or for a HOVER contact, which captures none, by the
region it would capture where it is (R179, R187). -/
def Dev.notDead (d : Dev) (k : Contact) : Bool :=
  match (if k.cls = clHover then d.capture k.x k.y else k.region) with
  | some r => d.get (R.CT_RGC_TYPE r) != 2
  | none => true

/-- The wake gestures of a Heath frame: double tap, swipe up, hover while OPT_BLIND. The first found is reported. -/
def Dev.wakeFrame (d : Dev) (f : Frame) (ended : List (Contact × Nat)) : Dev :=
  let fr := f.tick % 65536
  let n := (d.ct.contacts.filter (fun k => k.drives && d.notDead k)).length
  let res : List (Contact × List (Nat × Int × Int)) := d.ct.contacts.map (fun k => if k.drives && d.notDead k then
      d.liveGestures f.tlast 8 (d.gestureFlags n k) else (k, []))
  let swipe := (res.filter (fun e => e.2.any (fun g => g.1 == 0x04))).head?
  let d := { d with ct := { d.ct with contacts := res.map (·.1) } }
  let taps := ((ended.map (·.1)).filter (fun k => k.drives && d.notDead k && d.isTap f.tlast k))
  let (d, dbl) := taps.foldl (fun (acc : Dev × Option (Int × Int × Nat)) k =>
    let (o, t) := acc.1.tapIn 32 f.tlast 2 acc.1.ct.taps k
    let d' : Dev := { acc.1 with ct := { acc.1.ct with taps := t } }
    (d', match o with
      | some (_, x, y) => some (x, y, k.id)
      | none => acc.2)) (d, none)
  let hover := d.is R.OPT_STATUS_BLIND && d.ct.contacts.any (fun k => k.cls == clHover && d.notDead k)
  match dbl, swipe with
  | some (x, y, id), _ => if d.is R.CT_WAKE_DTAP then d.wakeGesture fr 0x10 id x y else d
  | none, some (k, _) =>
    if d.is R.CT_WAKE_SWUP then d.wakeGesture fr 0x11 k.id k.x0 k.y0 else d
  | none, none => if hover && d.is R.CT_WAKE_APPR then d.wakeGesture fr 0x12 0 0 0 else d

end Sys2Proof.Machine
end

