-- ==== Sys2Proof/Machine/Approach.lean ====
section
/-!
DEFINITION. Machine/Approach.lean: the approach and ambient light channel (chapter 07): the dither, the coded burst
and its discarded words, the approach sample, distance, detection, crosstalk capture, ambient light and reports.
-/

namespace Sys2Proof.Machine

/-- One step of the dither LFSR, x^16 + x^14 + x^13 + x^11 + 1 (R199; its form, log entry 13). -/
def lfsrStep (v : Nat) : Nat :=
  let b := (v + v / 4 + v / 8 + v / 32) % 2
  v / 2 + b * 32768

def lfsrRun : Nat → Nat → Nat
  | 0, v => v
  | n + 1, v => lfsrRun n (lfsrStep v)

/-- The seed of the LFSR: SERIAL0[15:0], and 0xACE1 in place of 0 (R199; log entry 9). -/
def lfsrSeed (serial : Nat) : Nat := if serial % 65536 = 0 then 0xACE1 else serial % 65536

/-- The gain factor: full scale is 100 µA divided by it (R195). -/
def Dev.optGain (d : Dev) : Nat := [1, 3, 10, 30].getD (d.get R.OPT_CTRL_GAIN) 1

/-- IAMB for the next burst (R195): the code that would have brought the previous burst's mean off sample closest to
4096, the lowest on a tie; the previous code without an unsaturated off sample; 0 without AUTOAMB. -/
def Dev.nextAmb (d : Dev) : Nat :=
  if !d.is R.OPT_CTRL_AUTOAMB then 0
  else
    match d.opt.prev with
    | none => 0
    | some (_, 0, _, cur) => cur
    | some (s, n, g, cur) =>
      -- ten times the error of code c, times n
      let err := fun (c : Nat) => (((s : Int) - 4096 * n) * 10 + ((cur : Int) - c) * (16384 * g * n : Nat)).natAbs
      (List.range 256).foldl (fun b c => if err c < err b then c else b) 0

/-- A word: the samples of its 13 chips, each that of the A half and that of the B half (R198). -/
abbrev OptWord := List (Nat × Nat)

/-- The Barker-13 sequence b(k): true for +1 (R198). -/
def barker : List Bool := [true, true, true, true, true, false, false, true, true, false, true, false, true]

/-- The on and the off sample of each chip: IRLED conducts in the A half where b(k) is +1 and in the B half where it is −1
(R198). -/
def onOff (w : OptWord) : OptWord := barker.zipWith (fun (b : Bool) (c : Nat × Nat) => if b then c else (c.2, c.1)) w

/-- What IRLED sinks in a half of chip `k` while a burst runs, in mA (R196, R198). -/
def Dev.irled (d : Dev) (k : Nat) (halfA : Bool) : Nat := if barker[k]? = some halfA then 10 * d.get R.OPT_LED_IDRV else 0

/-- The dither d of a chip, in 1/48 µs, for the state `v` of the LFSR (R199). -/
def dither (v : Nat) : Int := (v % 97 : Nat) - 48

/-- The instants, in 1/48 µs after its word's start, at which the chips of a word start: 1 + d µs into each slot of 8 µs.
The first chip takes the LFSR's state as the burst finds it (R198, R199; DESIGN CHOICE, log entry 19). -/
def Dev.chipStarts (d : Dev) (word : Nat) : List Int :=
  (List.range 13).map (fun k => 48 * (8 * k + 1) + dither (lfsrRun (13 * word + k) d.opt.lfsr))

def saturated (v : Nat) : Bool := v == 0 || decide (16383 ≤ v)

/-- Whether a word, by its on and off samples, is discarded (R201). -/
def Dev.wordBad (d : Dev) (w : OptWord) : Bool :=
  w.any (fun c => saturated c.1 || saturated c.2) ||
    w.any (fun c => decide (d.get R.OPT_LIM_ASTEP < ((c.2 : Int) - (w.headD (0, 0)).2).natAbs))

/-- The sum of a word's 13 chip results: 13·w (R200). -/
def wordSum (w : OptWord) : Int := (w.map (fun c => (c.1 : Int) - c.2)).sum

/-- One word's effect on the counts of R201 and R202; FS12 is counted at the entry to BLIND. -/
def Dev.optWord (d : Dev) (w : OptWord) : Dev :=
  if d.wordBad w then
    let d := { d.inc R.OPT_COUNTS_DISC with opt := { d.opt with okRun := 0 } }
    let n := d.get R.OPT_STATUS_DISCRUN
    let d := d.put R.OPT_STATUS_DISCRUN (min 16 (n + 1))
    if n = 15 then
      let d := ((d.put R.OPT_STATUS_BLIND 1).put R.OPT_STATUS_DET 0).inc R.OPT_COUNTS_BLINDN
      d.raise 0x12 0
    else d
  else
    let n := min 4 (d.opt.okRun + 1)
    let d := { d.put R.OPT_STATUS_DISCRUN 0 with opt := { d.opt with okRun := n } }
    if n = 4 then d.put R.OPT_STATUS_BLIND 0 else d

/-- The distance of R204; 0x1FF is none. -/
def Dev.distance (d : Dev) (sig : Int) : Nat :=
  if sig ≤ 0 then 0x1FF
  else
    let dr := d.get R.OPT_DIST_DREF
    let n := (Nat.sqrt (4 * dr * dr * d.get R.OPT_DIST_RREF / sig.toNat) + 1) / 2
    if 300 < n then 0x1FF else n

/-- The approach sample of the accepted words, and the counts of R205. `wins` tells that DISCRUN reached 16 in this burst
(R213). -/
def Dev.optSample (d : Dev) (good : List OptWord) (wins : Bool) : Dev :=
  let n := good.length
  let d := d.put R.OPT_SAMPLE_NWORD n
  if n = 0 then d
  else
    let mean := roundDiv ((good.map wordSum).sum) (13 * n)
    let sig := clampI (-32768) 32767 (mean - d.getS R.OPT_XT_XTALK)
    let dist := d.distance sig
    let d := (d.put R.OPT_SAMPLE_SIG (unsigned 16 sig)).put R.OPT_SAMPLE_DIST dist
    let per := d.get R.OPT_DET_NPERS
    let near := if dist ≤ d.get R.OPT_DET_NEAR && dist != 0x1FF then min 15 (d.opt.nearN + 1) else 0
    let far := if dist = 0x1FF ∨ d.get R.OPT_DET_FAR < dist then min 15 (d.opt.farN + 1) else 0
    let d := { d with opt := { d.opt with nearN := near, farN := far } }
    if per ≤ near && !wins then d.put R.OPT_STATUS_DET 1
    else if per ≤ far then d.put R.OPT_STATUS_DET 0 else d

/-- Crosstalk capture (R206, R214). -/
def Dev.optCapture (d : Dev) (good : List OptWord) : Dev :=
  if !d.is R.OPT_STATUS_XTBUSY then d
  else
    let use := good.length == 4 && !d.is R.OPT_STATUS_BLIND
    let o := d.opt
    let o := { o with xtB := o.xtB + 1, xtN := if use then o.xtN + 1 else o.xtN,
                      xtSum := if use then o.xtSum + (good.map wordSum).sum else o.xtSum }
    let d := { d with opt := o }
    if 16 ≤ o.xtN then
      (d.put R.OPT_XT_XTALK (unsigned 16 (clampI (-32768) 32767 (roundDiv o.xtSum (13 * 4 * 16))))).put R.OPT_STATUS_XTBUSY 0
    else if 64 ≤ o.xtB then (d.put R.OPT_STATUS_XTFAIL 1).put R.OPT_STATUS_XTBUSY 0 else d

/-- Ambient light (R207), and what the next burst's IAMB needs of this one (R195), its code included, from every off
sample of the burst. Where a burst was cut before its first chip there is none: the light then computed has no stated
value (log entry 3). -/
def Dev.optAmbient (d : Dev) (offs : List Nat) : Dev :=
  let n := offs.length
  let good := offs.filter (fun v => !saturated v)
  let prev := some (good.sum, good.length, d.optGain, d.get R.OPT_AMB_IAMB)
  let d := { d with opt := { d.opt with prev := prev } }
  if n = 0 then
    let (q, d) := d.fresh
    d.put R.OPT_AMB_LUX (q % 2 ^ 20)
  else
    let g := d.optGain
    let num := d.get R.OPT_LUXK_LUXK * (d.get R.OPT_AMB_IAMB * 10 * 16384 * g * n + offs.sum * 100)
    let lux := (min 0xFFFFF (roundDiv num (16 * 16384 * g * n))).toNat
    let top := offs.any (fun v => decide (16383 ≤ v))
    let d := if offs.any saturated then d.put R.OPT_STATUS_ASAT 1 else d
    d.put R.OPT_AMB_LUX (if top then 0xFFFFF else lux)

/-- The APPROACH report (R497). -/
def Dev.approachReport (d : Dev) (frame : Nat) : Report :=
  ⟨0x85, 0, leBytes 2 frame ++ [byte (d.get R.OPT_STATUS_DET + 2 * d.get R.OPT_STATUS_BLIND),
    byte (d.get R.OPT_SAMPLE_NWORD)] ++ leBytes 2 (d.get R.OPT_SAMPLE_SIG) ++ leBytes 2 (d.get R.OPT_SAMPLE_DIST) ++
    leBytes 4 (d.reg R.OPT_AMB).toNat⟩

/-- What the end of a burst brings outside the channel: the APPR event, the report in Meadow, the wake in Heath
(R187, R208, R213). -/
def Dev.optReport (d : Dev) (f : Frame) (det blind : Nat) : Dev :=
  let changed := d.get R.OPT_STATUS_DET != det || d.get R.OPT_STATUS_BLIND != blind
  let d := if changed then d.event evAppr else d
  if f.heath then
    if det = 0 ∧ d.is R.OPT_STATUS_DET ∧ d.is R.CT_WAKE_APPR then d.wakeGesture (f.tick % 65536) 0x12 0 0 0 else d
  else
    let div := d.get R.OPT_CTRL_RPTDIV
    let n := d.opt.since + 1
    let nth := div != 0 && decide (div ≤ n)
    let d := { d with opt := { d.opt with since := if nth then 0 else n } }
    if (changed || nth) && !d.isMember then d.report (d.approachReport (f.tick % 65536)) else d

/-- The words of a burst in order, and whether DISCRUN reached 16 (R202). -/
def Dev.optWords (d : Dev) (words : List OptWord) : Dev × Bool :=
  words.foldl (fun (a : Dev × Bool) w => (a.1.optWord w, a.2 || (a.1.wordBad w && a.1.get R.OPT_STATUS_DISCRUN == 15))) (d, false)

/-- A burst ends with the words it completed; the last one may be cut short, with the chips that ran (R197–R209). -/
def Dev.burst (d : Dev) (f : Frame) (words : List OptWord) (ledOc : Bool) : Dev :=
  let all := (words.take 4).map onOff
  let words := all.filter (fun w => w.length == 13)
  let det := d.get R.OPT_STATUS_DET
  let blind := d.get R.OPT_STATUS_BLIND
  let d := d.put R.OPT_AMB_IAMB d.nextAmb
  let d := if ledOc then d.put R.OPT_STATUS_LEDOC 1 else d
  let d := { d with opt := { d.opt with lfsr := lfsrRun all.flatten.length d.opt.lfsr } }
  let good := words.filter (fun w => !d.wordBad w)
  let (d, wins) := d.optWords words
  let d := d.optSample good wins
  let d := d.optCapture good
  let d := d.optAmbient (all.flatMap (fun w => w.map (·.2)))
  d.optReport f det blind

/-- APPROACH_BURST (R197, R203). -/
def Dev.approachBurst (d : Dev) (words : List OptWord) (ledOc : Bool) : Dev :=
  match d.acq.now with
  | none => d
  | some f =>
    if !f.approach || f.apDone || !d.optLive then d
    else
      let d := { d with acq := { d.acq with now := some { f with apDone := true } } }
      d.burst f words ledOc

/-- EN takes effect as 0 (R210); a change of DET or BLIND is an event, and in Meadow a report (R208, R286). -/
def Dev.optOff (d : Dev) : Dev :=
  let changed := d.is R.OPT_STATUS_DET || d.is R.OPT_STATUS_BLIND
  let d := (((d.put R.OPT_STATUS_DET 0).put R.OPT_STATUS_BLIND 0).put R.OPT_STATUS_DISCRUN 0).put R.OPT_STATUS_XTBUSY 0
  let d : Dev := { d with opt := { d.opt with okRun := 0, nearN := 0, farN := 0 } }
  if !changed then d
  else
    let d := d.event evAppr
    if d.pwr.mode != 0 || d.isMember then d else d.report (d.approachReport d.frameNo)

/-- OPT_CTRL has taken effect: AUTOAMB as 0 makes IAMB 0 (R195), and EN, which was `was`, as 0 stops the channel (R210). -/
def Dev.optTaken (d : Dev) (was : Bool) : Dev :=
  let d := if d.is R.OPT_CTRL_AUTOAMB then d else d.put R.OPT_AMB_IAMB 0
  if was && !d.is R.OPT_CTRL_EN then d.optOff else d

/-- A write of 1 to XTCAP (R206, R214). -/
def Dev.optXtcap (d : Dev) : Dev :=
  { d.put R.OPT_STATUS_XTBUSY 1 with opt := { d.opt with xtSum := 0, xtN := 0, xtB := 0 } }

end Sys2Proof.Machine
end

