-- ==== Sys2Proof/Machine/AuxConv.lean ====
section
/-!
DEFINITION. Machine/AuxConv.lean: the auxiliary converters and their windows (chapter 08): configuration, synchronising
resets and triggers, outputs, windows, reports.
-/

namespace Sys2Proof.Machine

/-- What an absent window would hold; the list has eight entries. -/
def winReset : Win := Win.reset

def Dev.win (d : Dev) (k : Nat) : Win := d.aux.win.getD k winReset
def Dev.setWin (d : Dev) (k : Nat) (w : Win) : Dev := { d with aux := { d.aux with win := d.aux.win.set k w } }

/-- Whether the AUX domain is on (R239, R241). -/
def Dev.auxOn (d : Dev) : Bool := d.domOn 10

/-- Whether a CAL_AUX run occupies converter `n` (R229). -/
def Dev.occupied (d : Dev) (n : Nat) : Bool := d.cal.aux.any (fun r => bitOf r.sel n)

/-- The filter in force (R222): order N, decimation ratio OSR and post-average AVG, from the fields with CUSTOM and else
from the table "Filter presets". -/
def Conv.filter (c : Conv) : Nat × Nat × Nat :=
  match c.filt % 4 with
  | 0 => (c.filt / 4 % 4 + 1, c.filt / 2 ^ 16 % 2 ^ 15, c.filt / 256 % 64 + 1)
  | 1 => (3, 15360, 4)
  | 2 => (3, 12800, 4)
  | _ => (3, 15360, 20)

/-- The sinc order N in force. -/
def Conv.order (c : Conv) : Nat := c.filter.1

/-! ### Values that take force at a reset (R229, R261–R263, R268) -/

/-- A calibration result of `kind` has taken force (R263). -/
def Dev.calTaken (d : Dev) (kind : Nat) : Dev :=
  let d := d.put R.CAL_STATUS_VALID (setBit (d.get R.CAL_STATUS_VALID) kind true)
  let d := d.put R.CAL_STATUS_LOADED (setBit (d.get R.CAL_STATUS_LOADED) kind false)
  let d := d.put R.CAL_STATUS_PEND (setBit (d.get R.CAL_STATUS_PEND) kind false)
  let d := d.inc (calCount kind)
  (d.setReg (R.CAL_LASTUP kind) (word d.uptime)).setReg (R.CAL_LASTTS kind) (word d.tstamp)

/-- The CAL_AUX values that wait for converter `n`'s reset take force. -/
def Dev.convCal (d : Dev) (n : Nat) : Dev :=
  let c := d.conv n
  match c.calNext with
  | none => d
  | some (ofs, gain, run) =>
    let d := d.setConv n { c with calNext := none }
    let d := (d.put (R.CAL_AXOFS_VAL n) ofs).put (R.CAL_AXGAIN_VAL n) gain
    if run && !(d.aux.conv.any (fun x => x.calNext.any (fun y => y.2.2))) then d.calTaken 3 else d

/-- A synchronising reset of converter `n` (R227, R229, R236): one that comes before the first settled output counts a
restart; what was held takes force. -/
def Dev.syncReset (d : Dev) (n : Nat) : Dev :=
  if !d.auxOn then d
  else
    let c := d.conv n
    let d := if d.is (R.AX_STAT_RUN n) && c.outs == 0 then
      d.inc (if n = 0 then R.AUX_COUNTS_REST0 else R.AUX_COUNTS_REST1) else d
    let d := d.setConv n { c with cfg := (d.reg (R.AX_CFG n)).toNat, filt := (d.reg (R.AX_FILT n)).toNat }
    (d.convStart n).convCal n

/-- One edge of fmod resets the converters of `which`, each once (R227, R237). -/
def Dev.syncResets (d : Dev) (which : Nat → Bool) : Dev :=
  [0, 1].foldl (fun d n => if which n then d.syncReset n else d) d

/-- Whether converter `n` follows the common trigger: SYNCEN in force (R227, R229). -/
def Dev.syncen (d : Dev) (n : Nat) : Bool := bitOf (d.conv n).cfg 3

/-- The common trigger fires (R228). -/
def Dev.commonTrigger (d : Dev) : Dev := d.syncResets d.syncen

/-! ### Configuration writes (R222, R229, R238) -/

/-- A CAL_AUX run in progress is ended without a result (R271); the converters it held are released. -/
def Dev.calAbortAux (d : Dev) (code detail : Nat) : Dev :=
  match d.cal.aux with
  | none => d
  | some r =>
    let d := d.calFail 3 code detail
    [0, 1].foldl (fun d n => if bitOf r.sel n && d.is (R.AX_CFG_EN n) then d.syncReset n else d) d

/-- A write to AXn_CFG: a CHAN of 0xF is ignored for that field; EN acts at once, the rest is held (R227, R229, R238). -/
def Dev.axCfgWrite (d : Dev) (n v : Nat) : Dev :=
  let was := d.is (R.AX_CFG_EN n)
  let keep := d.get (R.AX_CFG_CHAN n)
  let d := d.setReg (R.AX_CFG n) (word v &&& 0xF3F)
  let d := if v / 256 % 16 = 15 then d.put (R.AX_CFG_CHAN n) keep else d
  if bitOf v 0 then
    -- in Heath the HFO runs while a converter is enabled (R241, R590)
    let d : Dev := if d.st = stHeath then { d with pwr := { d.pwr with hfoOn := true } } else d
    if was then d else d.syncReset n
  else
    let d := (d.put (R.AX_STAT_RUN n) 0).put (R.AX_DATA_DATA_VALID n) 0
    if d.occupied n then d.calEnds (fun d => d.calAbortAux 0x08 n) else d

/-- A write to AXn_FILT: an OSR outside 32–16384 is ignored for that field. -/
def Dev.axFiltWrite (d : Dev) (n v : Nat) : Dev :=
  let keep := d.get (R.AX_FILT_OSR n)
  let osr := v / 65536 % 32768
  let d := d.setReg (R.AX_FILT n) (word v &&& 0x7FFF3F0F)
  if osr < 32 ∨ 16384 < osr then d.put (R.AX_FILT_OSR n) keep else d

/-! ### Windows (R231–R235, R240) -/

/-- A write to WCk_CFG (R233, R240). -/
def Dev.wcCfgWrite (d : Dev) (k v : Nat) : Dev :=
  let lo := d.getS (R.WC_LO_BOUND k)
  let hi := d.getS (R.WC_HI_BOUND k)
  let hys : Int := d.get (R.WC_HYS_HYS k)
  let pers := v / 256 % 16
  let chan := v / 4096 % 16
  let st := d.get (R.WC_CFG_STATE k)
  if bitOf v 0 then
    if hi - hys < lo + hys ∨ chan = 15 ∨ pers = 0 then d.put R.AUX_STATUS_WREJ 1
    else
      let was := d.is (R.WC_CFG_EN k)
      let d := d.setReg (R.WC_CFG k) (word v &&& 0xFF1F)
      let d := d.put (R.WC_CFG_STATE k) (if was then st else 0)
      d.setWin k ⟨lo, hi, hys, v / 2 % 2, chan, pers, 0, 0⟩
  else
    let d := d.setReg (R.WC_CFG k) (word v &&& 0xFF1F)
    d.setWin k { d.win k with outN := 0, inN := 0 }

/-- One output `v` seen by window `k`: the window's state and counts, and whether it signals an event (R231, R232). -/
def winSee (w : Win) (st : Nat) (evin : Bool) (v : Int) : Win × Nat × Bool :=
  let below := decide (v < w.lo)
  let above := decide (w.hi < v)
  let inner := decide (w.lo + w.hys ≤ v) && decide (v ≤ w.hi - w.hys)
  let out := if st = 0 then below || above else if st = 1 then above else below
  let outN := if out then w.outN + 1 else 0
  let inN := if st != 0 && inner then w.inN + 1 else 0
  if w.pers ≤ outN then ({ w with outN := 0, inN := 0 }, if below then 1 else 2, true)
  else if st ≠ 0 ∧ w.pers ≤ inN then ({ w with outN := 0, inN := 0 }, 0, evin)
  else ({ w with outN := outN, inN := inN }, st, false)

/-- The windows that watch an output of converter `n` class it; the answer holds the mask of those that signalled. -/
def Dev.windowsSee (d : Dev) (n : Nat) (v : Int) : Dev × Nat :=
  (List.range 8).foldl (fun acc k =>
    let (d, m) := acc
    let w := d.win k
    if d.is (R.WC_CFG_EN k) && w.ax == n && w.chan == (d.conv n).chan then
      let (w', st, ev) := winSee w (d.get (R.WC_CFG_STATE k)) (d.is (R.WC_CFG_EVIN k)) v
      ((d.setWin k w').put (R.WC_CFG_STATE k) st, if ev then m + 2 ^ k else m)
    else (d, m)) (d, 0)

/-- Whether window `k` shows the edge detectors a 1 (R234, R239). -/
def Dev.winLevel (d : Dev) (k : Nat) : Bool := d.auxOn && d.get (R.WC_CFG_STATE k) != 0

/-! ### Outputs (R218, R221, R224–R226, R235) -/

/-- The AUX report (R496). -/
def Dev.auxReport (d : Dev) (n ev : Nat) : Report :=
  let ws := ((List.range 8).map (fun k => d.get (R.WC_CFG_STATE k) * 4 ^ k)).sum
  ⟨0x84, 0, [byte n, byte (d.conv n).chan, byte ev, 0] ++ leBytes 4 (d.reg (R.AX_DATA n)).toNat ++
    leBytes 4 (d.reg (R.AX_TS n)).toNat ++ leBytes 2 (d.get (R.AX_STAT_SEQ n)) ++ leBytes 2 ws⟩

/-- What the channel in force puts to the modulator over its reference (R216, R217), as a ratio whose second part is
positive. Voltages are in µV and VREF is 2.5 V; a sensor's reading keeps its own scale. TCAP is left to `Dev.tcapInput`. -/
def Conv.input (c : Conv) (x : AuxIn) : Int × Nat :=
  let ref := if bitOf c.cfg 5 then x.vin.toNat.max 1 else 2500000
  match c.chan with
  | 0 => (x.a0, ref)
  | 1 => (x.a1, ref)
  | 2 => (x.a2, ref)
  | 3 => (x.a3, ref)
  | 4 => (x.a0 - x.a1, ref)
  | 5 => (x.a2 - x.a3, ref)
  | 6 => (1, 1)
  | 7 => (x.vin, 4 * 2500000)
  | 8 => (x.vddio, 4 * 2500000)
  | 9 => (x.vcore, 2500000)
  | 10 => (x.vhv, 8 * 2500000)
  | 11 => (x.t0, 2 ^ 23)
  | 12 => (x.t1, 2 ^ 23)
  | _ => (0, 1)

/-- `k` from `n` for the small `k` of a filter: the product of `k` factors over k!. -/
def choose (n k : Nat) : Nat := ((List.range k).map (fun i => n - i)).foldl (· * ·) 1 / ((List.range k).map (· + 1)).foldl (· * ·) 1

/-- The weight that the newest `t` samples have in one output of a sinc filter of order `n` and decimation ratio `r`, of
r^n in all: the coefficient of z^(t−1) in (1 − z^r)^n / (1 − z)^(n+1) (R222). -/
def sincWeight (n r t : Nat) : Int :=
  ((List.range (n + 1)).map (fun i =>
    if t ≤ i * r then 0 else (if i % 2 = 0 then 1 else -1) * ((choose n i * choose (t - 1 - i * r + n) n : Nat) : Int))).sum

/-- The weight of the samples from `a` on and before `b` in sinc output number `k`, which ends with sample k·r − 1; the
filter was empty at sample 0 (R223). -/
def spanWeight (n r k a b : Nat) : Int := sincWeight n r (k * r - a) - sincWeight n r (k * r - b)

/-- The mean of the sinc outputs `k`, `k + 1`, … (`cnt` of them) over the inputs `ins`, as a ratio (R222, R223). -/
def Conv.mean (c : Conv) (k cnt : Nat) (ins : List (Nat × AuxIn)) : Int × Nat :=
  let (n, r, _) := c.filter
  let ends := ins.tail.map (·.1) ++ [(k + cnt) * r]
  let s := (ins.zip ends).foldl (fun (acc : Int × Nat) e =>
    let (x, q) := c.input e.1.2
    let w := ((List.range cnt).map (fun j => spanWeight n r (k + j) e.1.1 e.2)).sum
    if acc.2 = q then (acc.1 + w * x, q) else (acc.1 * q + w * x * acc.2, acc.2 * q)) (0, 1)
  (s.1, s.2 * (r ^ n * cnt))

/-- What TCAP puts to the modulator over VREF from the reset on (R221): 1.25 V times the test capacitor over the mutual
feedback, as a ratio. -/
def Dev.tcapInput (d : Dev) : Int × Nat :=
  (d.get R.OTP_TCAP_CAP, 2 * (d.get (R.OTP_CF_CAP (d.get R.ACQ_AFE_CFM))).max 1)

/-- The part of its final value that the mean of the sinc outputs `k`, `k + 1`, … (`cnt` of them) reaches for an input that
stands still since the reset, as a ratio: 1 once the filter is full, less in an EARLY output (R222, R225). -/
def Conv.filled (c : Conv) (k cnt : Nat) : Int × Nat :=
  let (n, r, _) := c.filter
  (((List.range cnt).map (fun j => spanWeight n r (k + j) 0 ((k + cnt) * r))).sum, r ^ n * cnt)

/-- The value of the sinc outputs from `k` on (`cnt` of them) before the corrections: round(2^23 · Vin / Vref), for the
sensors a temperature made with the OTP trim (R218, R219, R221). -/
def Dev.auxRaw (d : Dev) (n k cnt : Nat) (ins : List (Nat × AuxIn)) : Int :=
  let c := d.conv n
  let m := c.mean k cnt ins
  let v := roundDiv (2 ^ 23 * m.1) m.2
  if c.chan = 13 then
    let f := c.filled k cnt
    roundDiv (2 ^ 23 * d.tcapInput.1 * f.1) (d.tcapInput.2 * f.2)
  else if c.chan = 11 then Config.sensorTemp v (d.getS R.OTP_TEMP0_OFS) (d.get R.OTP_TEMP0_SLOPE)
  else if c.chan = 12 then Config.sensorTemp v (d.getS R.OTP_TEMP1_OFS) (d.get R.OTP_TEMP1_SLOPE)
  else v

/-- The next output of converter `n` (R223, R225): whether it is an EARLY one, its first sinc output and how many it
takes. -/
def Conv.next (c : Conv) : Bool × Nat × Nat :=
  let (n, _, avg) := c.filter
  if bitOf c.cfg 2 && c.outs == 0 && decide (c.early + 1 < n) then (true, c.early + 1, 1)
  else (false, n + c.outs * avg, avg)

/-- The µs at which the sinc output before number `k` ends: k · OSR modulator clocks of 3.072 MHz after the reset. -/
def Conv.endAt (c : Conv) (k : Nat) : Nat := c.resetAt + k * c.filter.2.1 * 125 / 384

/-- The correction in force (R256), clamped to 24 bits (R218): value and OVR. -/
def Dev.axCorrect (d : Dev) (n : Nat) (raw : Int) : Int × Bool :=
  let v := roundDiv ((raw - d.getS (R.CAL_AXOFS_VAL n)) * d.get (R.CAL_AXGAIN_VAL n)) (2 ^ 22)
  let c := clampI (-8388608) 8388607 v
  (c, decide (c ≠ v))

/-- The events of an output's windows (R234): WCEV, the EVENT entry, the wake of R596. -/
def Dev.windowEvents (d : Dev) (m : Nat) : Dev :=
  if m = 0 then d
  else
    let d := d.put R.AUX_WCEV_EV (d.get R.AUX_WCEV_EV ||| m)
    let d := if (bitsOf 8 m).any (fun k => d.is (R.WC_CFG_IE k)) then d.event evWc else d
    if d.wakeSet R.PWR_WAKE_WC ≠ 0 then d.wakeCause R.PWR_WSRC_WC else d

/-- Whether converter `n` delivers: the AUX domain on, EN 1, its modulator running, no CAL_AUX run on it (R226, R229,
R241). -/
def Dev.delivers (d : Dev) (n : Nat) : Bool :=
  d.auxOn && d.is (R.AX_CFG_EN n) && d.is (R.AX_STAT_RUN n) && !d.occupied n

/-- AUX_OUTPUT: converter `n` delivers its next output, formed from the inputs `ins` since its reset. An output whose
conversion has not ended is none (R223). -/
def Dev.auxOutput (d : Dev) (n : Nat) (ins : List (Nat × AuxIn)) : Dev :=
  let c := d.conv n
  let (early, k, cnt) := c.next
  let due := c.endAt (k + cnt - 1)
  if !d.delivers n || decide (d.clock < due) then d
  else
    let bad := c.chan == 13 && !(c.tcap && d.tcapOk)
    let (v, ovr) := if bad then ((0 : Int), false) else d.axCorrect n (d.auxRaw n k cnt ins)
    let w := unsigned 24 v + (if early then 2 ^ 25 else 2 ^ 24) + (if ovr then 2 ^ 26 else 0) + (if bad then 2 ^ 28 else 0)
    let d := (d.setReg (R.AX_DATA n) (word w)).setReg (R.AX_TS n) (word (d.microsAt due))
    let d := d.incWrap (R.AX_STAT_SEQ n)
    let d := d.setConv n { c with early := if early then k else c.early, outs := if early then c.outs else c.outs + 1 }
    let d := if bitOf c.cfg 1 && !early then d.put (R.AX_STAT_RUN n) 0 else d
    let (d, m) := if early || bad then (d, 0) else d.windowsSee n v
    let d := d.windowEvents m
    if bitOf c.cfg 4 || (bitsOf 8 m).any (fun k => d.is (R.WC_CFG_RPT k)) then d.report (d.auxReport n m) else d

/-! ### Reads (R230) -/

/-- A read of AXn_DATA latches AXn_TS and SEQ for its side. -/
def Dev.auxLatch (d : Dev) (host : Bool) (n : Nat) : Dev :=
  let c := d.conv n
  let l := (some (d.reg (R.AX_TS n)).toNat, some (d.get (R.AX_STAT_SEQ n)))
  d.setConv n (if host then { c with latchH := l } else { c with latchP := l })

/-- The read of AXn_TS or AXn_STAT that uses a latched value: the value, and the latch without it. -/
def Dev.auxLatched (d : Dev) (host ts : Bool) (n : Nat) : Option Nat × Dev :=
  let c := d.conv n
  let l := if host then c.latchH else c.latchP
  let v := if ts then l.1 else l.2
  let l' := if ts then (none, l.2) else (l.1, none)
  (v, d.setConv n (if host then { c with latchH := l' } else { c with latchP := l' }))

/-- The AUX domain drains (R239, R271, R272): runs and waiting results end; loaded values still wait for their converter's
reset (R268). -/
def Dev.auxDrain (d : Dev) : Dev :=
  let d := d.calAbortAux 0x08 0
  let waits := d.aux.conv.any (fun c => c.calNext.any (fun y => y.2.2))
  let d : Dev := { d with aux := d.aux.calDrop (fun y => y.2.2) }
  let d := [0, 1].foldl (fun d n => (d.put (R.AX_STAT_RUN n) 0).put (R.AX_DATA_DATA_VALID n) 0) d
  if waits then
    (d.put R.CAL_STATUS_PEND (setBit (d.get R.CAL_STATUS_PEND) 3 false)).calReason 3 0x08 0
  else d

end Sys2Proof.Machine
end

