-- ==== Sys2Proof/Machine/Crc.lean ====
section
/-!
DEFINITION. Machine/Crc.lean: the checks over bytes: the CRC-32 of R266, the CRC-16/CCITT of R399, and the AES-128
CMAC of R298 (FIPS 197, SP 800-38B).
-/

namespace Sys2Proof.Machine

/-- `n` shifts of the reflected CRC-32 register. -/
def crc32Bits : Nat → BitVec 32 → BitVec 32
  | 0, c => c
  | n + 1, c => crc32Bits n (if c.getLsbD 0 then (c >>> 1) ^^^ 0xEDB88320#32 else c >>> 1)

/-- The CRC-32 of IEEE 802.3 (R266). -/
def crc32 (bs : List Byte) : BitVec 32 :=
  (bs.foldl (fun c b => crc32Bits 8 (c ^^^ b.setWidth 32)) 0xFFFFFFFF#32) ^^^ 0xFFFFFFFF#32

/-- The CRC-32 of a ring frame, over its header and its payload (R524). -/
def ringCrc (typ src dst seq frame : Nat) (body : List Byte) : BitVec 32 :=
  let b := fun (n : Nat) => BitVec.ofNat 8 n
  crc32 ([b typ, b src, b dst, b seq, b body.length, b (body.length / 256), b frame, b (frame / 256)] ++ body)

/-- `n` shifts of the CRC-16/CCITT register. -/
def crc16Bits : Nat → BitVec 16 → BitVec 16
  | 0, c => c
  | n + 1, c => crc16Bits n (if c.getLsbD 15 then (c <<< 1) ^^^ 0x1021#16 else c <<< 1)

/-- The CRC-16/CCITT of R399: initial 0xFFFF, no reflection, no final XOR. -/
def crc16 (bs : List Byte) : BitVec 16 :=
  bs.foldl (fun (c : BitVec 16) (b : Byte) => crc16Bits 8 (c ^^^ ((b.setWidth 16) <<< (8 : Nat)))) 0xFFFF#16

/-! ### AES-128 -/

/-- Multiplication by x in GF(2^8). -/
def xtime (b : Byte) : Byte := if b.getLsbD 7 then (b <<< 1) ^^^ 0x1B#8 else b <<< 1

/-- Multiplication in GF(2^8), over the low `n` bits of the second factor. -/
def gmulN : Nat → Byte → Byte → Byte
  | 0, _, _ => 0
  | n + 1, a, b => (if b.getLsbD 0 then a else 0) ^^^ gmulN n (xtime a) (b >>> 1)

def gmul (a b : Byte) : Byte := gmulN 8 a b

/-- a^254, the inverse in GF(2^8) (0 for 0). -/
def ginv (a : Byte) : Byte :=
  let a2 := gmul a a
  let a4 := gmul a2 a2
  let a8 := gmul a4 a4
  let a16 := gmul a8 a8
  let a32 := gmul a16 a16
  let a64 := gmul a32 a32
  let a128 := gmul a64 a64
  gmul a128 (gmul a64 (gmul a32 (gmul a16 (gmul a8 (gmul a4 a2)))))

/-- The AES S-box. -/
def sbox (a : Byte) : Byte :=
  let b := ginv a
  b ^^^ b.rotateLeft 1 ^^^ b.rotateLeft 2 ^^^ b.rotateLeft 3 ^^^ b.rotateLeft 4 ^^^ 0x63#8

def xorBytes (a b : List Byte) : List Byte := a.zipWith (· ^^^ ·) b

/-- The next round key (16 bytes) for round constant `rc`. -/
def nextKey (k : List Byte) (rc : Byte) : List Byte :=
  let w := fun i => (k.drop (4 * i)).take 4
  let t := ((w 3).drop 1 ++ (w 3).take 1).map sbox
  let t := xorBytes t [rc, 0, 0, 0]
  let w0 := xorBytes (w 0) t
  let w1 := xorBytes (w 1) w0
  let w2 := xorBytes (w 2) w1
  w0 ++ w1 ++ w2 ++ xorBytes (w 3) w2

/-- ShiftRows on a state in column order. -/
def shiftRows (s : List Byte) : List Byte :=
  (List.range 16).map (fun i => s.getD ((i + 4 * (i % 4)) % 16) 0)

/-- MixColumns on one column. -/
def mixCol (c : List Byte) : List Byte :=
  let a := fun i => c.getD (i % 4) 0
  (List.range 4).map (fun i => gmul (a i) 2 ^^^ gmul (a (i + 1)) 3 ^^^ a (i + 2) ^^^ a (i + 3))

def mixColumns (s : List Byte) : List Byte :=
  (List.range 4).flatMap (fun i => mixCol ((s.drop (4 * i)).take 4))

/-- The rounds of AES-128: `n` rounds left, the key of the previous round, its round constant. -/
def aesRounds : Nat → List Byte → Byte → List Byte → List Byte
  | 0, _, _, s => s
  | n + 1, k, rc, s =>
    let k' := nextKey k rc
    let t := shiftRows (s.map sbox)
    let t := if n = 0 then t else mixColumns t
    aesRounds n k' (xtime rc) (xorBytes t k')

/-- AES-128 of one block (16 bytes). -/
def aes128 (key block : List Byte) : List Byte := aesRounds 10 key 1 (xorBytes block key)

/-- A 16-byte string doubled in GF(2^128), first byte most significant. -/
def dbl (b : List Byte) : List Byte :=
  let n := b.foldl (fun n x => n * 256 + x.toNat) 0
  let m := n * 2 % 2 ^ 128
  let m := if n / 2 ^ 127 = 1 then m ^^^ 0x87 else m
  (List.range 16).map (fun i => byte (m / 256 ^ (15 - i)))

/-- The CBC-MAC over the whole blocks before the last. -/
def cbcMac (key : List Byte) : Nat → List Byte → List Byte → List Byte × List Byte
  | 0, x, m => (x, m)
  | n + 1, x, m =>
    if m.length ≤ 16 then (x, m) else cbcMac key n (aes128 key (xorBytes x (m.take 16))) (m.drop 16)

/-- The AES-128 CMAC of a message. -/
def cmac (key msg : List Byte) : List Byte :=
  let z := List.replicate 16 (0 : Byte)
  let k1 := dbl (aes128 key z)
  let k2 := dbl k1
  let (x, m) := cbcMac key (msg.length / 16 + 1) z msg
  let last := if m.length = 16 then xorBytes m k1
    else xorBytes (m ++ [0x80#8] ++ List.replicate (15 - m.length) 0) k2
  aes128 key (xorBytes x last)

end Sys2Proof.Machine
end

