-- ==== Sys2Proof/Machine/Calib.lean ====
section
/-!
DEFINITION. Machine/Calib.lean: calibration (chapter 09): requests and refusals, the run frames of the touch kinds,
their results and checks, CAL_AUX, taking force, the signature, the calibration image, loads and defaults.
-/

namespace Sys2Proof.Machine

/-! ### The panel signature (R264) -/

/-- CAL_SIG of the configuration in force. -/
def Dev.calSig (d : Dev) : Word :=
  let ws := (List.range 50).map (fun n => d.reg (R.ACQ_ELROLE n)) ++
    [d.reg R.ACQ_GEOMX, d.reg R.ACQ_GEOMY, d.reg R.ACQ_CODE, d.reg R.ACQ_AFE &&& 0xFF,
     word (d.get R.CL_STATUS_NODE), d.reg R.OTP_SERIAL0, d.reg R.OTP_SERIAL1]
  crc32 (ws.flatMap (fun w => leBytes 4 w.toNat))

/-! ### Requests (R247, R248, R254, R272) -/

/-- Why a request for `kind` is refused: NOT_RUNNING, BUSY, CLUSTER; a CAL_AUX request while the AUX domain is off
ends with ABORTED (R248, R271; log entry 13). -/
def Dev.calRefusal (d : Dev) (kind : Nat) : Option Nat :=
  if kind = 3 then
    if d.is R.CAL_STATUS_BUSYA then some 0x02 else if !d.auxOn then some 0x08 else none
  else if d.st ≠ stRunning then some 0x01
  else if d.is R.CAL_STATUS_BUSYT then some 0x02
  else if d.isMember then some 0x0B else none

/-- A refused request: CAL_RESULT and CAL_REASON, no fault (R248, R260). -/
def Dev.calRefuse (d : Dev) (kind code tag : Nat) : Dev :=
  let d := d.calReason kind code 0
  d.report (d.calReport kind code 0 false (d.is R.CAL_CFG_REPEAT) (d.get (calCount kind)) tag)

/-- CAL_SIG as it reads: 0 while the IMG domain is not ON (R264, R574). -/
def Dev.calSigShown (d : Dev) : Word := if d.domOn 6 then d.calSig else 0

/-- The empty gathering of a pass. -/
def Dev.passNone (d : Dev) : CalPass := ⟨0, d.img.els.map (fun _ => (0, 0, 0)), [], []⟩

/-- An accepted request (R247, R256, R272): the run slot is busy, a waiting result of the kind is replaced, its staged
offsets with it. -/
def Dev.calBegin (d : Dev) (kind : Nat) : Dev :=
  let cfg := (d.reg R.CAL_CFG).toNat
  let d := d.put R.CAL_STATUS_PEND (setBit (d.get R.CAL_STATUS_PEND) kind false)
  if kind = 3 then
    let sel := d.get R.CAL_CFG_AXSEL
    let d := { d.put R.CAL_STATUS_BUSYA 1 with
      cal := { d.cal with aux := some ⟨sel, cfg, [], none⟩ },
      aux := d.aux.calDrop (fun y => y.2.2) }
    [0, 1].foldl (fun d n => if bitOf sel n then d.put (R.AX_DATA_STALE n) 1 else d) d
  else
    let d := (((d.put R.CAL_STATUS_BUSYT 1).put R.CAL_STATUS_KINDT kind).put R.CAL_STATUS_PASS2 0).put R.CAL_STATUS_NRUN 0
    let d := (d.cal.wait.filter (fun w => w.1 == kind)).foldl (fun d w => d.unstageOffs w.2.2) d
    { d with cal := { d.cal with touch := some ⟨kind, cfg, none, none, none, d.passNone⟩,
                                 wait := d.cal.wait.filter (fun w => w.1 != kind), cald := [] } }

/-- CAL_CMD with GO (R247). -/
def Dev.calGo (d : Dev) (kind : Nat) : Dev :=
  match d.calRefusal kind with
  | some c => d.calRefuse kind c 0
  | none => d.calBegin kind

/-- CAL_CMD with ABORT (R271). -/
def Dev.calAbort (d : Dev) (kind : Nat) : Dev :=
  d.calEnds (fun d => if kind = 3 then d.calAbortAux 0x08 0 else d.calAbortTouch)

/-- Whether a frame is a run frame of the touch-kind run in progress. -/
def Dev.isRunFrame (d : Dev) (f : Frame) : Bool :=
  d.cal.touch.any (fun t => t.start.any (fun s => decide (s ≤ f.tick)))

/-- The tick at which a touch-kind run starts (R249). -/
def Dev.calTick (d : Dev) : Dev :=
  match d.cal.touch with
  | some t => if t.start.isNone then
      { d with cal := { d.cal with touch := some { t with start := some (d.get R.TICK_COUNT_COUNT), pass := d.passNone } } }
    else d
  | none => d

/-! ### Gathering (R252, R255) -/

/-- One more value in a list of sums by key. -/
def addSum (l : List (Nat × Int × Nat)) (k : Nat) (s : Int) (n : Nat) : List (Nat × Int × Nat) :=
  match l.lookup k with
  | some (a, b) => (k, a + s, b + n) :: l.filter (fun e => e.1 != k)
  | none => (k, s, n) :: l

/-- A usable run frame gathered (R249): the elements' measurements, and for the channels their listen samples and
code-row-0 sums. -/
def Dev.calGather (d : Dev) (f : Frame) (p : CalPass) : CalPass :=
  let acc := p.acc.zipWith (fun (a : Nat × Nat × Nat) (e : Elem) =>
    if e.fresh then (a.1 + e.m, a.2.1 + e.m * e.m, a.2.2 + 1) else a) d.img.els
  let lofs := f.lofs.foldl (fun l e => addSum l e.1 e.2.1 e.2.2) p.lofs
  let q0 := if f.mutScan then d.senseChannels.foldl (fun l ch => addSum l ch (codeSum 0 (f.y.getD ch [])) 1) p.q0 else p.q0
  ⟨p.got + 1, acc, lofs, q0⟩

/-- Whether a run frame is usable: no stale column, no deadline cut; on a lead no member missing either (R249, R536). -/
def Dev.calUsable (d : Dev) (f : Frame) : Bool :=
  !f.cut && !(f.cols.any (fun c => c.2.isNone)) && !d.is R.CL_STALEM_MEMB

/-! ### Results of a pass (R252–R257) -/

/-- Elements of the pass with the sum, square sum and count they gathered. -/
def Dev.passEls (d : Dev) (p : CalPass) : List (Elem × Nat × Nat × Nat) := d.img.els.zip p.acc

/-- The mean of what an element gathered, with 8 fraction bits. -/
def passMean (a : Nat × Nat × Nat) : Int := roundDiv ((a.1 : Int) * 256) (max 1 a.2.2)

/-- The untouched nodes of a pass: outside the freeze set, never stale, no outlier of the model on the pass means. -/
def Dev.untouched (d : Dev) (p : CalPass) : List (Elem × Int) :=
  let nodes := (d.passEls p).filter (fun e => e.1.isM)
  let m := nodes.map (fun e => (e.1, passMean e.2, e.2.2.2))
  let full := m.foldl (fun n e => max n e.2.2) 0
  let med := fun (q : Elem → Bool) => medianI ((m.filter (fun e => q e.1)).map (fun e => e.2.1))
  let pan := medianI (m.map (fun e => e.2.1))
  let cols := (m.map (fun e => e.1.c)).dedup.map (fun c => (c, med (fun e => e.c == c)))
  let rows := (m.map (fun e => e.1.r)).dedup.map (fun r => (r, med (fun e => e.r == r)))
  let thr : Int := (d.get R.IMG_THR_THRM * 256 : Nat)
  (m.filter (fun e => !d.freezeSet.contains (0, e.1.c, e.1.r) && e.2.2 == full && decide (0 < full) &&
    decide ((cols.lookup e.1.c).getD 0 + (rows.lookup e.1.r).getD 0 - pan - e.2.1 < thr))).map (fun e => (e.1, e.2.1))

/-- The untouched nodes of cluster row `r` (R253, R254): of a lead also those that its members reported. -/
def Dev.rowCount (d : Dev) (un : List (Elem × Int)) (r : Nat) : Nat :=
  (un.filter (fun e => e.1.r == r)).length +
    ((d.cal.cald.flatMap (fun m => m.rows.filter (fun e => e.1 == r))).map (fun e => e.2.2)).sum

/-- TOUCHED and its DETAIL (R257): the lines to be calibrated are columns for CAL_AFE and rows for CAL_LINE. -/
def Dev.calTouched (d : Dev) (kind : Nat) (un : List (Elem × Int)) : Option Nat :=
  let total := (d.img.els.filter (·.isM)).length
  let short := if kind = 0 then
      (d.senseChannels.filter (fun ch => decide ((un.filter (fun e => e.1.c == d.elIndex ch)).length < 8))).head?
    else if kind = 1 then
      ((List.range d.nRows).filter (fun r => decide (d.rowCount un r < 8))).head?
    else none
  if 4 * un.length < 3 * total then some (short.getD 0) else short

/-- A gain scaled by pan / line, or none where the line's median is not positive (R252, R253). -/
def scaleGain (g : Nat) (pan line : Int) : Nat := if line ≤ 0 then 2 ^ 16 else (roundDiv (g * pan) line.toNat).toNat

/-- The row medians and counts of the untouched nodes of this device (R253, R254); the column medians, of the columns that
hold such a node. -/
def Dev.rowMedians (d : Dev) (un : List (Elem × Int)) : List (Nat × Int × Nat) :=
  (List.range d.nRows).map (fun r =>
    let l := (un.filter (fun e => e.1.r == r)).map (·.2)
    (r, medianI l, l.length))
def Dev.colMedians (d : Dev) (un : List (Elem × Int)) : List (Nat × Int) :=
  d.senseChannels.filterMap (fun ch =>
    let l := (un.filter (fun e => e.1.c == d.elIndex ch)).map (·.2)
    if l.isEmpty then none else some (ch, medianI l))

/-- panmed: over all untouched nodes, or in a cluster over all nodes' column medians (R252, R254). -/
def Dev.panmed (d : Dev) (un : List (Elem × Int)) : Int :=
  if d.enumerated then
    medianI (((d.colMedians un).map (·.2)) ++ d.cal.cald.flatMap (fun m => m.cols.map (·.2)))
  else medianI (un.map (·.2))

def Dev.rowmed (d : Dev) (un : List (Elem × Int)) (r : Nat) : Int :=
  let own := (d.rowMedians un).filter (fun e => e.1 == r)
  let all := if d.enumerated then own ++ d.cal.cald.flatMap (fun m => m.rows.filter (fun e => e.1 == r)) else own
  let n := (all.map (fun e => e.2.2)).sum
  if n = 0 then 0 else roundDiv ((all.map (fun e => e.2.1 * (e.2.2 : Int))).sum) n

/-- The least number whose square is `x` or more. -/
def ceilSqrt (x : Nat) : Nat := if Nat.sqrt x * Nat.sqrt x = x then Nat.sqrt x else Nat.sqrt x + 1

/-- The standard deviation of what an element gathered, exactly: (v, n) stands for the root of v over n. -/
def devOf (a : Nat × Nat × Nat) : Nat × Nat := (a.2.2 * a.2.1 - a.1 * a.1, max 1 a.2.2)

/-- The 90th percentile by nearest rank of deviations so written. -/
def pct90 (l : List (Nat × Nat)) : Nat × Nat :=
  let s := l.mergeSort (fun a b => a.1 * (b.2 * b.2) ≤ b.1 * (a.2 * a.2))
  s.getD ((9 * s.length + 9) / 10 - 1) (0, 1)

/-- `k` times a deviation so written, rounded up (R255). -/
def devCeil (k : Nat) (s : Nat × Nat) : Nat := ceilDiv (ceilSqrt (k * k * s.1)) s.2

/-- The smaller mean self value of the electrodes that channel `ch` senses (R252), in 10 aF as a sum over a count. -/
def Dev.chanSelf (d : Dev) (p : CalPass) (ch : Nat) : Option (Nat × Nat) :=
  let els := ([ch, 32 + ch].filter (fun n => decide (n < 50) && (d.role n == 1 || d.role n == 2)))
  let vals := els.filterMap (fun n =>
    let k := if d.role n = 2 then 1 else 2
    ((d.passEls p).find? (fun e => e.1.kind == k && (if k = 1 then e.1.c else e.1.r) == d.elIndex n)).bind
      (fun e => if e.2.2.2 = 0 then none else some (e.2.1, e.2.2.2)))
  match vals with
  | [] => none
  | v :: vs => some (vs.foldl (fun a b => if b.1 * a.2 < a.1 * b.2 then b else a) v)

def calValsNone : CalVals := ⟨[], [], [], [], [], [], 0, 0, 0, 0, 0⟩

/-- The values that a pass of `kind` gives with the panel median `pan` (R252, R253, R255). -/
def Dev.passValsOf (d : Dev) (pan : Int) (kind cfg : Nat) (p : CalPass) (un : List (Elem × Int)) : CalVals :=
  if kind = 0 then
    let cm := d.colMedians un
    let k := Config.mutualLsb (d.get (R.OTP_CF_CAP (d.get R.ACQ_AFE_CFM))) (d.get (R.OTP_DRV_GAIN (d.get R.ACQ_STATUS_LEVELNOW)))
    { calValsNone with
      pan := pan
      gain := cm.map (fun e => (e.1, scaleGain (d.get (R.CAL_GAIN_GAIN e.1)) pan e.2))
      lofs := d.senseChannels.map (fun ch => (ch, match p.lofs.lookup ch with
        | some (s, n) => if n = 0 then d.getS (R.CAL_GAIN_LOFS ch) else roundDiv s n
        | none => d.getS (R.CAL_GAIN_LOFS ch)))
      offm := d.senseChannels.map (fun ch => (ch, d.getS (R.ACQ_OFF_OFFM ch) + (match p.q0.lookup ch with
        | some (s, n) => roundDiv (s * k) (d.codeLen * max 1 n * 65536 * 10000)
        | none => 0)))
      offs := d.senseChannels.map (fun ch => (ch, match d.chanSelf p ch with
        | some c => 9 * c.1 / (150000 * c.2)
        | none => d.get (R.ACQ_OFF_OFFS ch))) }
  else if kind = 1 then
    { calValsNone with pan := pan, lgain := (List.range d.nRows).map (fun r => (r, scaleGain (d.lineGain r) pan (d.rowmed un r))) }
  else
    let fz := fun (e : Elem) => d.freezeSet.contains (e.kind, e.c, e.r)
    let base := ((d.passEls p).filter (fun e => !fz e.1 && decide (0 < e.2.2.2))).map (fun e =>
      (e.1.kind, e.1.c, e.1.r, passMean e.2))
    let sm := pct90 (((d.passEls p).filter (fun e =>
      e.1.isM && un.any (fun u => u.1.c == e.1.c && u.1.r == e.1.r))).map (fun e => devOf e.2))
    let ss := pct90 (((d.passEls p).filter (fun e => !e.1.isM && !fz e.1 && decide (0 < e.2.2.2))).map (fun e => devOf e.2))
    { calValsNone with
      base := base, sigm := devCeil 4096 sm, sigs := devCeil 4096 ss,
      thrm := max (d.get R.CAL_LIM_THRMIN) (devCeil (cfg / 2 ^ 16 % 256) sm)
      thrs := max (d.get R.CAL_LIM_THRSMIN) (devCeil (cfg / 2 ^ 24) ss) }

/-- The values of a pass. -/
def Dev.passVals (d : Dev) (t : CalTouch) (un : List (Elem × Int)) : CalVals := d.passValsOf (d.panmed un) t.kind t.cfg t.pass un

/-! ### Checks (R258, R259) -/

/-- The code and DETAIL of the first limit of R258 that a result breaks. -/
def Dev.calCheck (d : Dev) (kind : Nat) (v : CalVals) : Option (Nat × Nat) :=
  let gl := d.get R.CAL_LIM_GLIM
  let badG := fun (g : Nat) => decide (gl * 32768 < 100 * ((g : Int) - 32768).natAbs)
  if kind = 2 then
    if d.get R.CAL_LIM_SIGMAX * 4096 < v.sigm ∨ 2 * d.get R.CAL_LIM_THRSMIN * 4096 < v.sigs then some (0x04, 0) else none
  else
    let gains := if kind = 0 then v.gain else v.lgain
    match gains.find? (fun e => badG e.2) with
    | some e => some (0x05, e.1)
    | none =>
      let bad := d.senseChannels.filter (fun ch => kind == 0 &&
        ((v.offm.lookup ch).any (fun o => decide (o < -512) || decide (511 < o)) ||
         (v.offs.lookup ch).any (fun o => decide (1023 < o)) ||
         (v.lofs.lookup ch).any (fun o => decide (512 < o.natAbs))))
      bad.head?.map (fun ch => (0x06, ch))

/-- Whether two numbers keyed alike differ by more than `tol`; the answer is the first such key. -/
def firstOff (tol : Nat) (a b : List (Nat × Int)) : Option Nat :=
  (a.find? (fun e => (b.lookup e.1).any (fun x => decide (tol < (e.2 - x).natAbs)))).map (·.1)

/-- REPEAT_MISMATCH and its DETAIL (R259). -/
def Dev.calMismatch (d : Dev) (kind : Nat) (a b : CalVals) : Option Nat :=
  let ints := fun (l : List (Nat × Nat)) => l.map (fun e => (e.1, (e.2 : Int)))
  let gt := d.get R.CAL_TOL_GTOL * 32768 / 10000
  let ot := d.get R.CAL_TOL_OTOL
  let bt := d.get R.CAL_TOL_BTOL
  if kind = 2 then
    if a.base.any (fun x => b.base.any (fun y => x.1 == y.1 && x.2.1 == y.2.1 && x.2.2.1 == y.2.2.1 &&
        decide ((if x.1 = 0 then bt * 256 else bt * 256 / 10) < (x.2.2.2 - y.2.2.2).natAbs))) then some 0 else none
  else
    ((firstOff gt (ints a.gain) (ints b.gain)).orElse fun _ => (firstOff gt (ints a.lgain) (ints b.lgain)).orElse fun _ =>
      (firstOff ot a.offm b.offm).orElse fun _ => (firstOff ot (ints a.offs) (ints b.offs)).orElse fun _ =>
      firstOff (4 * ot) a.lofs b.lofs)

/-- The mean of two passes (R259). -/
def meanVals (a b : CalVals) : CalVals :=
  let mn := fun (l m : List (Nat × Nat)) => l.map (fun e => (e.1, (roundDiv ((e.2 : Int) + ((m.lookup e.1).getD e.2)) 2).toNat))
  let mi := fun (l m : List (Nat × Int)) => l.map (fun e => (e.1, roundDiv (e.2 + ((m.lookup e.1).getD e.2)) 2))
  let me := fun (x y : Nat) => (roundDiv ((x : Int) + y) 2).toNat
  { gain := mn a.gain b.gain, lofs := mi a.lofs b.lofs, offm := mi a.offm b.offm, offs := mn a.offs b.offs,
    lgain := mn a.lgain b.lgain,
    base := a.base.map (fun x => match b.base.find? (fun y => x.1 == y.1 && x.2.1 == y.2.1 && x.2.2.1 == y.2.2.1) with
      | some y => (x.1, x.2.1, x.2.2.1, roundDiv (x.2.2.2 + y.2.2.2) 2)
      | none => x)
    thrm := me a.thrm b.thrm, thrs := me a.thrs b.thrs, sigm := me a.sigm b.sigm, sigs := me a.sigs b.sigs,
    pan := roundDiv (a.pan + b.pan) 2 }

/-! ### Taking force (R156, R261–R263) -/

/-- Whether the result of `kind` takes force AT_BOUNDARY under the run's CAL_CFG. -/
def atBoundary (cfg kind : Nat) : Bool := bitOf (cfg / 256) kind

/-- OFFM and OFFS of a result or a load staged for the next tick, whatever its timing: later writes win, and reads show
them (R98, R261, R268, R273). -/
def Dev.stageOffs (d : Dev) (v : CalVals) : Dev :=
  v.offm.foldl (fun d e => d.stage (R.ACQ_OFF e.1) (offWord e.2 ((v.offs.lookup e.1).getD (d.get (R.ACQ_OFF_OFFS e.1))))) d

/-- OFFM and OFFS of a result in force at once. -/
def Dev.putOffs (d : Dev) (v : CalVals) : Dev :=
  v.offm.foldl (fun d e => (d.put (R.ACQ_OFF_OFFM e.1) (unsigned 10 e.2)).put (R.ACQ_OFF_OFFS e.1)
    ((v.offs.lookup e.1).getD (d.get (R.ACQ_OFF_OFFS e.1)))) d

/-- The line gain of a cluster row set. -/
def Dev.putLine (d : Dev) (n g : Nat) : Dev :=
  if n % 2 = 0 then d.put (R.CAL_LGAIN_LO (n / 2)) g else d.put (R.CAL_LGAIN_HI (n / 2)) g

/-- Gains and LOFS of a result in force. -/
def Dev.putGains (d : Dev) (v : CalVals) : Dev :=
  let d := v.gain.foldl (fun d e => d.put (R.CAL_GAIN_GAIN e.1) e.2) d
  let d := v.lofs.foldl (fun d e => d.put (R.CAL_GAIN_LOFS e.1) (unsigned 16 e.2)) d
  v.lgain.foldl (fun d e => d.putLine e.1 e.2) d

/-- A CAL_BASE result takes effect (R156): the Sward outside the freeze set, exclusions cleared, SETTLED; the
thresholds bypass their staging (R261). -/
def Dev.putBase (d : Dev) (v : CalVals) : Dev :=
  let es := d.img.els.map (fun (e : Elem) =>
    if d.freezeSet.contains (e.kind, e.c, e.r) then { e with excl := false }
    else match v.base.find? (fun x => x.1 == e.kind && x.2.1 == e.c && x.2.2.1 == e.r) with
      | some x => { e with b := x.2.2.2, excl := false, neg := 0 }
      | none => { e with excl := false })
  let d := { d with img := { d.img with els := es, groups := [], hasM := true,
                                        hasS := d.img.hasS || v.base.any (fun x => x.1 != 0), mode := 0 } }
  let d := ((d.setSw 3).put R.IMG_NODES_NEXCL 0)
  (d.put R.IMG_THR_THRM v.thrm).put R.IMG_THR_THRS v.thrs

/-- A waiting result takes force. -/
def Dev.calForce (d : Dev) (kind : Nat) (v : CalVals) : Dev :=
  let d := { d with cal := { d.cal with wait := d.cal.wait.filter (fun w => w.1 != kind) } }
  let d := if kind = 2 then d.putBase v else d.putGains v
  d.calTaken kind

/-- What takes force at a tick beside the staged offsets: AT_BOUNDARY results, and the gains of loads (R261, R268). -/
def Dev.calAtTick (d : Dev) : Dev :=
  let d := d.cal.wait.foldl (fun d w => if w.2.1 then d.calForce w.1 w.2.2 else d) d
  match d.cal.loadTick with
  | none => d
  | some v => { d.putGains v with cal := { d.cal with loadTick := none } }

/-- Results that take force AT_ONCE as a frame's processing starts (R261). -/
def Dev.calAtStart (d : Dev) : Dev :=
  d.cal.wait.foldl (fun d w => if w.2.1 then d else d.calForce w.1 w.2.2) d

/-- A touch-kind run has its result (R258–R263). In a cluster every node takes it at the same tick (R254). -/
def Dev.calResult (d : Dev) (t : CalTouch) (v : CalVals) : Dev :=
  match d.calCheck t.kind v with
  | some (c, x) => d.calFail t.kind c x
  | none =>
    let d := (((d.put R.CAL_STATUS_BUSYT 0).put R.CAL_STATUS_PASS2 0).put R.CAL_STATUS_NRUN 0)
    let d := d.put R.CAL_STATUS_PEND (setBit (d.get R.CAL_STATUS_PEND) t.kind true)
    let d := if t.kind = 2 then (d.put R.CAL_SIGMA_SIGM (min (v.sigm / 256) 65535)).put R.CAL_SIGMA_SIGS (min (v.sigs / 256) 65535) else d
    let late := atBoundary t.cfg t.kind || d.enumerated
    let d := ({ d with cal := { d.cal with touch := none, wait := d.cal.wait ++ [(t.kind, late, v)] } } : Dev).stageOffs v
    let d := d.calReason t.kind 0 0
    let tag := ((d.calAsyncs t.kind).head?.map (·.tag)).getD 0
    let d := d.report (d.calReport t.kind 0 0 true (bitOf t.cfg 6) (d.get (calCount t.kind)) tag)
    d.endAsyncs (d.calAsyncs t.kind) csOk 0

/-- A pass is complete (R249, R257, R259). -/
def Dev.calPassEnd (d : Dev) (t : CalTouch) : Dev :=
  let un := d.untouched t.pass
  let late := d.enumerated && t.kind != 2 && decide ((d.cal.cald.filter (fun m => !m.more)).length < d.get R.CL_STATUS_NMEMB)
  match d.calTouched t.kind un with
  | some x => d.calFail t.kind 0x03 x
  | none =>
    if late then d.calFail t.kind 0x0B 0
    else
      let v := d.passVals t un
      if bitOf t.cfg 6 then
        match t.first with
        | none =>
          let d := d.put R.CAL_STATUS_PASS2 1
          let t2 : CalTouch := { t with first := some v, pass := d.passNone }
          { d with cal := { d.cal with cald := [], touch := some t2 } }
        | some u =>
          match d.calMismatch t.kind u v with
          | some x => if (d.calCheck t.kind (meanVals u v)).isSome then d.calResult t (meanVals u v) else d.calFail t.kind 0x07 x
          | none => d.calResult t (meanVals u v)
      else d.calResult t v

/-- One more run frame (R249): NRUN counts it, and 64 of them without a result fail the run. -/
def Dev.calSpan (d : Dev) (t : CalTouch) (f : Dev → Dev) : Dev :=
  let n := d.get R.CAL_STATUS_NRUN + 1
  let d := f (d.put R.CAL_STATUS_NRUN (min n 64))
  if 64 ≤ n && d.is R.CAL_STATUS_BUSYT then d.calFail t.kind 0x09 0 else d

/-- A run frame has been processed (R249): a usable one is gathered, and NFRAMES of them end the pass. -/
def Dev.calFrame (d : Dev) (f : Frame) : Dev :=
  match d.cal.touch with
  | none => d
  | some t => d.calSpan t (fun d =>
    let t := if d.calUsable f then { t with pass := d.calGather f t.pass } else t
    let d := { d with cal := { d.cal with touch := some t } }
    if t.cfg % 64 ≤ t.pass.got then d.calPassEnd t else d)

/-- A run frame abandoned by an image overrun is a run frame that is not usable (R58, R249). -/
def Dev.calOverrun (d : Dev) (f : Frame) : Dev :=
  match d.cal.touch with
  | none => d
  | some t => if d.isRunFrame f && !d.isMember then d.calSpan t id else d

/-! ### A cluster member's part (R254, R257–R259) -/

/-- A member gathers a usable run frame: a second pass follows the first with REPEAT, and what comes after the last is not
gathered. -/
def Dev.calMember (d : Dev) (f : Frame) (t : CalTouch) : CalTouch :=
  let full := decide (t.cfg % 64 ≤ t.pass.got)
  if !d.calUsable f || (full && (!bitOf t.cfg 6 || t.before.isSome)) then t
  else if full then { t with before := some t.pass, pass := d.calGather f d.passNone }
  else { t with pass := d.calGather f t.pass }

/-- A member's own result of `kind` under the lead's panmed and line gains, or why it has none: its passes must be
untouched, agree and keep the limits, as the lead's must (R257–R259). -/
def Dev.memberResult (d : Dev) (kind : Nat) (pan : Int) (lgain : List (Nat × Nat)) (t : CalTouch) : CalVals ⊕ (Nat × Nat) :=
  let ps := t.before.toList ++ [t.pass]
  let uns := ps.map d.untouched
  match uns.findSome? (d.calTouched (if kind = 1 then 2 else kind)) with
  | some x => .inr (3, x)
  | none =>
    let vs := (ps.zip uns).map (fun e =>
      let v := d.passValsOf pan kind t.cfg e.1 e.2
      if kind = 1 then { v with lgain := lgain } else v)
    let v := match vs with
      | [a, b] => meanVals a b
      | _ => vs.getD 0 calValsNone
    match d.calCheck kind v with
    | some c => .inr c
    | none => match vs with
      | [a, b] => match d.calMismatch kind a b with
        | some x => .inr (7, x)
        | none => .inl v
      | _ => .inl v

/-! ### CAL_AUX (R256, R262) -/

/-- Offset and gain of one converter from its raw outputs, in a pass. -/
def auxVals (s v : Int) : Int × Int := (s, if v - s ≤ 0 then 0 else roundDiv (2 ^ 44) (v - s).toNat)

/-- The limits of R258 for one converter's values. -/
def auxBad (ofs gain : Int) : Option Nat :=
  if gain * 100 < 98 * 0x400000 ∨ 102 * 0x400000 < gain * 100 then some 0x05
  else if 41943 < ofs.natAbs then some 0x06 else none

/-- CAL_AUX_PASS_END: each converter of the run has its two outputs (converter, raw s, raw v, whether one was
clamped). -/
def Dev.calAuxPass (d : Dev) (outs : List (Nat × Int × Int × Bool)) : Dev :=
  match d.cal.aux with
  | none => d
  | some r =>
    let sel := [0, 1].filter (bitOf r.sel)
    let got := sel.filterMap (fun n => outs.lookup n |>.map (fun o => (n, o)))
    if got.length < sel.length then d
    else
      let clamped := got.find? (fun e => e.2.2.2)
      let ovr := r.ovr.orElse (fun _ => clamped.map (·.1))
      let vals := got.map (fun e => (e.1, [e.2.1, e.2.2.1]))
      if bitOf r.cfg 6 && r.raw.isEmpty && !sel.isEmpty then
        { d with cal := { d.cal with aux := some { r with raw := vals, ovr := ovr } } }
      else
        let res := vals.map (fun e =>
          let (o, g) := auxVals (e.2.getD 0 0) (e.2.getD 1 0)
          match r.raw.lookup e.1 with
          | none => (e.1, o, g, false)
          | some l =>
            let (o1, g1) := auxVals (l.getD 0 0) (l.getD 1 0)
            (e.1, roundDiv (o + o1) 2, roundDiv (g + g1) 2,
              decide (16 * d.get R.CAL_TOL_ATOL < (o - o1).natAbs) ||
              decide (d.get R.CAL_TOL_GTOL * 0x400000 < 10000 * (g - g1).natAbs)))
        let release := fun (d : Dev) => sel.foldl (fun d n =>
          if d.is (R.AX_CFG_EN n) then d.syncReset n else d) d
        let fail : Option (Nat × Nat) :=
          match ovr with
          | some n => some (0x0A, n)
          | none => match res.findSome? (fun e => (auxBad e.2.1 e.2.2.1).map (fun c => (c, e.1))) with
            | some x => some x
            | none => (res.find? (fun e => e.2.2.2)).map (fun e => (0x07, e.1))
        match fail with
        | some (c, x) => d.calEnds (fun d => release (d.calFail 3 c x))
        | none =>
          let late := atBoundary r.cfg 3 && !sel.isEmpty
          let d := { d.put R.CAL_STATUS_BUSYA 0 with cal := { d.cal with aux := none } }
          let waiting := late && sel.any (fun n => !d.is (R.AX_CFG_EN n))
          let d := d.calReason 3 0 0
          let d := if late then
              let d := d.put R.CAL_STATUS_PEND (setBit (d.get R.CAL_STATUS_PEND) 3 true)
              release (res.foldl (fun d e => d.setConv e.1 { d.conv e.1 with
                calNext := some (unsigned 24 e.2.1, unsigned 24 e.2.2.1, true) }) d)
            else
              release ((res.foldl (fun d e => (d.put (R.CAL_AXOFS_VAL e.1) (unsigned 24 e.2.1)).put (R.CAL_AXGAIN_VAL e.1)
                (unsigned 24 e.2.2.1)) d).calTaken 3)
          let tag := ((d.calAsyncs 3).head?.map (·.tag)).getD 0
          let d := d.report (d.calReport 3 0 0 waiting (bitOf r.cfg 6) (d.get (calCount 3)) tag)
          d.endAsyncs (d.calAsyncs 3) csOk 0

/-! ### The calibration image (R265, R267, R268) -/

/-- Zero padding to a multiple of 4. -/
def pad4 (l : List Byte) : List Byte := l ++ List.replicate ((4 - l.length % 4) % 4) 0

/-- The kinds an image saved now holds: VALID and not waiting. -/
def Dev.calKinds (d : Dev) : Nat :=
  ((List.range 4).map (fun k => if bitOf (d.get R.CAL_STATUS_VALID) k && !bitOf (d.get R.CAL_STATUS_PEND) k then 2 ^ k else 0)).sum

/-- The Sward that the image engine keeps. -/
def Dev.elSward (d : Dev) : List (Nat × Nat × Nat × Int) := d.img.els.map (fun e => (e.kind, e.c, e.r, e.b))

/-- The Sward that an image saved now holds, an entry for every node and profile entry of the configuration: what a load
brought that no run has used yet, or else the one that the image engine keeps (R265, R268). -/
def Dev.savedSward (d : Dev) : List Int :=
  let b : List (Nat × Nat × Nat × Int) := if d.st = stRunning then d.elSward else d.img.restored.getD d.elSward
  let keys := d.freshEls.map (fun e => (e.kind, e.c, e.r))
  if b.map (fun x => (x.1, x.2.1, x.2.2.1)) = keys then b.map (·.2.2.2)
  else keys.map (fun k => ((b.find? (fun x => (x.1, x.2.1, x.2.2.1) == k)).map (·.2.2.2)).getD 0)

/-- The sections of the image for the kinds in `m`. -/
def Dev.calSections (d : Dev) (m : Nat) : List Byte :=
  let afe := (List.range 32).flatMap (fun k => leBytes 4 (d.reg (R.ACQ_OFF k)).toNat ++ leBytes 4 (d.reg (R.CAL_GAIN k)).toNat)
  let line := (List.range d.nRows).flatMap (fun r => leBytes 2 (d.lineGain r))
  let base := leBytes 2 (d.get R.IMG_THR_THRM) ++ leBytes 2 (d.get R.IMG_THR_THRS) ++
    d.savedSward.flatMap (fun b => leBytes 3 (unsigned 24 (b / 256)))
  let aux := [0, 1].flatMap (fun n => leBytes 4 (d.reg (R.CAL_AXOFS n)).toNat ++ leBytes 4 (d.reg (R.CAL_AXGAIN n)).toNat)
  (if bitOf m 0 then afe else []) ++ (if bitOf m 1 then pad4 line else []) ++ (if bitOf m 2 then pad4 base else []) ++
    (if bitOf m 3 then aux else [])

/-- The length of an image with the kinds in `m` for the given counts. -/
def calLength (m nsense nrows nprof : Nat) : Nat :=
  let up := fun (n : Nat) => (n + 3) / 4 * 4
  36 + (if bitOf m 0 then 256 else 0) + (if bitOf m 1 then up (2 * nrows) else 0) +
    (if bitOf m 2 then up (4 + 3 * (nsense * nrows + nprof)) else 0) + (if bitOf m 3 then 16 else 0)

/-- The calibration image (R265). -/
def Dev.calImage (d : Dev) : List Byte :=
  let m := d.calKinds
  let ns := d.get R.ACQ_ELSUM_NSENSE
  let np := ns + d.get R.ACQ_ELSUM_NDRIVE
  let body := leBytes 4 0x31434150 ++ leBytes 2 1 ++ leBytes 2 32 ++ leBytes 4 (calLength m ns d.nRows np) ++
    leBytes 4 d.calSigShown.toNat ++ [byte m, byte (d.get R.CL_STATUS_NODE), byte ns, 0] ++ leBytes 2 d.nRows ++ leBytes 2 np ++
    leBytes 4 d.uptime ++ leBytes 4 0 ++ d.calSections m
  body ++ leBytes 4 (crc32 body).toNat

/-- `n` values of `k` bytes from a list of bytes. -/
def leList (k : Nat) : Nat → List Byte → List Nat
  | 0, _ => []
  | n + 1, bs => leNat (bs.take k) :: leList k n (bs.drop k)

/-- Why an image is not loaded (R267): 1 magic, format or header length, 2 length, 3 CRC, 4 signature. -/
def Dev.calImageBad (d : Dev) (bs : List Byte) : Option Nat :=
  let f := fun (o n : Nat) => leNat ((bs.drop o).take n)
  let len := f 8 4
  if f 0 4 ≠ 0x31434150 ∨ f 4 2 ≠ 1 ∨ f 6 2 ≠ 32 then some 1
  else if len ≠ calLength (f 16 1) (f 18 1) (f 20 2) (f 22 2) ∨ bs.length < len then some 2
  else if (crc32 (bs.take (len - 4))).toNat ≠ f (len - 4) 4 then some 3
  else if f 12 4 ≠ d.calSigShown.toNat then some 4 else none

/-- The touch-kind values of an image. -/
def Dev.calParse (d : Dev) (bs : List Byte) : CalVals :=
  let m := leNat ((bs.drop 16).take 1)
  let s0 := bs.drop 32
  let afe := leList 4 64 s0
  let s1 := if bitOf m 0 then s0.drop 256 else s0
  let line := leList 2 d.nRows s1
  let s2 := if bitOf m 1 then s1.drop ((2 * d.nRows + 3) / 4 * 4) else s1
  let fresh := d.freshEls
  let vals := leList 3 fresh.length (s2.drop 4)
  let base := fresh.zipWith (fun (e : Elem) v => (e.kind, e.c, e.r, Int.ofNat (v * 256))) vals
  { calValsNone with
    gain := if bitOf m 0 then (List.range 32).map (fun k => (k, afe.getD (2 * k + 1) 0 % 65536)) else []
    lofs := if bitOf m 0 then (List.range 32).map (fun k => (k, signed 16 (afe.getD (2 * k + 1) 0 / 65536))) else []
    offm := if bitOf m 0 then (List.range 32).map (fun k => (k, signed 10 (afe.getD (2 * k) 0))) else []
    offs := if bitOf m 0 then (List.range 32).map (fun k => (k, afe.getD (2 * k) 0 / 65536 % 1024)) else []
    lgain := if bitOf m 1 then (List.range d.nRows).map (fun r => (r, line.getD r 0)) else []
    base := if bitOf m 2 then base else []
    thrm := leNat (s2.take 2), thrs := leNat ((s2.drop 2).take 2) }

/-- The AUX section of an image: OFS and GAIN of both converters. -/
def Dev.calParseAux (d : Dev) (bs : List Byte) : List Nat :=
  let m := leNat ((bs.drop 16).take 1)
  if bitOf m 3 then
    let off := calLength (m % 8) (d.get R.ACQ_ELSUM_NSENSE) d.nRows (d.get R.ACQ_ELSUM_NSENSE + d.get R.ACQ_ELSUM_NDRIVE) - 4
    leList 4 4 (bs.drop off)
  else []

/-- What two loads before one tick bring to it: the later stands over the earlier kind by kind (R268). -/
def CalVals.over (v w : CalVals) : CalVals :=
  { v with gain := if v.gain.isEmpty then w.gain else v.gain, lofs := if v.lofs.isEmpty then w.lofs else v.lofs,
           lgain := if v.lgain.isEmpty then w.lgain else v.lgain }

/-- An image that passed its tests is loaded (R267, R268). A result of a loaded kind that is due at the same tick gives way
(R273). -/
def Dev.calLoad (d : Dev) (bs : List Byte) : Dev :=
  let m := leNat ((bs.drop 16).take 1) % 16
  let d := d.setReg R.CAL_LSIG (word (leNat ((bs.drop 12).take 4)))
  let d := d.put R.CAL_STATUS_LOADED (d.get R.CAL_STATUS_LOADED ||| m)
  let d := d.put R.CAL_STATUS_VALID (d.get R.CAL_STATUS_VALID ||| m)
  let v := d.calParse bs
  let d := if bitOf m 2 then { d with img := { d.img with restored := some v.base } } else d
  let d : Dev := if d.st = stRunning then
      let gone := d.cal.wait.filter (fun w => w.2.1 && bitOf m w.1 && w.1 != 2)
      let d : Dev := { d with cal := { d.cal with
        loadTick := some ((d.cal.loadTick.map v.over).getD v), wait := d.cal.wait.filter (fun w => !gone.contains w),
        loadThr := if bitOf m 2 then some (v.thrm, v.thrs) else d.cal.loadThr } }
      let d := d.stageOffs v
      gone.foldl (fun d w => d.put R.CAL_STATUS_PEND (setBit (d.get R.CAL_STATUS_PEND) w.1 false)) d
    else
      let d := (d.putOffs v).putGains v
      if bitOf m 2 then (d.put R.IMG_THR_THRM v.thrm).put R.IMG_THR_THRS v.thrs else d
  match d.calParseAux bs with
  | [o0, g0, o1, g1] =>
    let d := d.setConv 0 { d.conv 0 with calNext := some (o0 % 2 ^ 24, g0 % 2 ^ 24, false) }
    let d := d.setConv 1 { d.conv 1 with calNext := some (o1 % 2 ^ 24, g1 % 2 ^ 24, false) }
    d.put R.CAL_STATUS_PEND (setBit (d.get R.CAL_STATUS_PEND) 3 false)
  | _ => d

/-! ### Defaults (R274) -/

/-- CAL_CMD with DEFAULTS. -/
def Dev.calDefaults (d : Dev) : Dev :=
  if d.busyState || d.is R.CAL_STATUS_BUSYT || d.is R.CAL_STATUS_BUSYA then d
  else
    let d := (List.range 32).foldl (fun d k => (d.put (R.CAL_GAIN_GAIN k) 0x8000).put (R.CAL_GAIN_LOFS k) 0) d
    let d := (List.range 400).foldl (fun d n => d.putLine n 0x8000) d
    let d := [0, 1].foldl (fun d n => (d.put (R.CAL_AXOFS_VAL n) 0).put (R.CAL_AXGAIN_VAL n) 0x400000) d
    let d := d.put R.CAL_STATUS_LOADED (d.get R.CAL_STATUS_LOADED &&& 4)
    d.put R.CAL_STATUS_VALID (d.get R.CAL_STATUS_VALID &&& 4)

end Sys2Proof.Machine
end

