-- ==== Sys2Proof/Machine/Operands.lean ====
section
/-!
DEFINITION. Machine/Operands.lean: the core registers, the forms of the second operand and the condition field of the
Odzia instructions (chapter 11).
-/

namespace Sys2Proof.Machine

/-! ### Core registers (R277) -/

/-- Register g`n`: g0 reads as 0. -/
def Dev.g (d : Dev) (n : BitVec 4) : Word := if n = 0 then 0 else sparseGet (fun _ => 0) d.seq.g n.toNat

/-- Register g`n` written; a write to g0 is discarded. -/
def Dev.setG (d : Dev) (n : BitVec 4) (v : Word) : Dev :=
  if n = 0 then d else { d with seq := { d.seq with g := sparseSet (fun _ => 0) d.seq.g n.toNat v } }

/-! ### The second operand (R316, R317, R322) -/

/-- rt as ext takes it, shifted left by scale. -/
def extScale (x : Word) (scale : BitVec 5) (ext : BitVec 2) : Word :=
  let y : Word := if ext = 0 then x else if ext = 1 then (x.setWidth 16).setWidth 32
    else if ext = 2 then (x.setWidth 16).signExtend 32 else (x.setWidth 8).signExtend 32
  y <<< scale.toNat

/-- op2 with a sign-extended immediate: ADD, ADDC, SUB, SUBB, MUL, MAC, MULHS, DIVS, REMS and every address. -/
def Dev.op2S (d : Dev) : Op2 → Word
  | .reg rt scale ext => extScale (d.g rt) scale ext
  | .imm v => v.signExtend 32

/-- op2 with a zero-extended immediate: every other ALU-format instruction. -/
def Dev.op2Z (d : Dev) : Op2 → Word
  | .reg rt scale ext => extScale (d.g rt) scale ext
  | .imm v => v.setWidth 32

/-- The amount of a shift: rt[4:0] or imm12[4:0]. -/
def Dev.amount (d : Dev) : Op2 → Nat
  | .reg rt _ _ => (d.g rt).toNat % 32
  | .imm v => v.toNat % 32

/-! ### Conditions (R313) -/

/-- Whether the condition `c` holds on the flags. -/
def Seq.holds (q : Seq) (c : BitVec 4) : Bool :=
  match c.toNat with
  | 0 => true
  | 1 => q.z
  | 2 => !q.z
  | 3 => q.c
  | 4 => !q.c
  | 5 => q.n
  | 6 => !q.n
  | 7 => q.v
  | 8 => !q.v
  | 9 => !q.c && !q.z
  | 10 => q.c || q.z
  | 11 => q.n == q.v
  | 12 => q.n != q.v
  | 13 => !q.z && q.n == q.v
  | 14 => q.z || q.n != q.v
  | _ => q.e

end Sys2Proof.Machine
end

