-- ==== Sys2Proof/Machine/Flags.lean ====
section
/-!
DEFINITION. Machine/Flags.lean: the results and flags of the Odzia ALU instructions (R318, R321–R326) and the flag word
(R352).
-/

namespace Sys2Proof.Machine

/-- What an ALU operation gives: the value, and the C and V that S = 1 sets, where the operation sets them. -/
structure AluRes where
  r : Word
  c : Option Bool
  v : Option Bool
deriving DecidableEq, Repr

/-- Whether an exact signed result does not fit 32 bits. -/
def overflows (i : Int) : Bool := decide (i < -2 ^ 31) || decide (2 ^ 31 ≤ i)

/-- A result that sets N and Z alone. -/
def plain (r : Word) : AluRes := ⟨r, none, none⟩

/-- a + b + carry in (R321). -/
def aluAdd (a b : Word) (cin : Bool) : AluRes :=
  let k := if cin then 1 else 0
  ⟨word (a.toNat + b.toNat + k), some (decide (2 ^ 32 ≤ a.toNat + b.toNat + k)), some (overflows (a.toInt + b.toInt + k))⟩

/-- a − b − borrow in (R321); C is the borrow. -/
def aluSub (a b : Word) (cin : Bool) : AluRes :=
  let k := if cin then 1 else 0
  ⟨a - b - word k, some (decide (a.toNat < b.toNat + k)), some (overflows (a.toInt - b.toInt - k))⟩

/-- |a − b| of unsigned values (R321). -/
def aluAbsd (a b : Word) : AluRes :=
  ⟨if b.toNat ≤ a.toNat then a - b else b - a, some (decide (a.toNat < b.toNat)), none⟩

/-- The shifts (R322): no C for an amount of 0. -/
def aluShl (a : Word) (n : Nat) : AluRes := ⟨a <<< n, if n = 0 then none else some (a.getLsbD (32 - n)), none⟩
def aluShr (a : Word) (n : Nat) : AluRes := ⟨a >>> n, if n = 0 then none else some (a.getLsbD (n - 1)), none⟩
def aluSar (a : Word) (n : Nat) : AluRes := ⟨a.sshiftRight n, if n = 0 then none else some (a.getLsbD (n - 1)), none⟩
def aluRor (a : Word) (n : Nat) : AluRes := ⟨a.rotateRight n, if n = 0 then none else some (a.getLsbD (n - 1)), none⟩

/-- The number of leading zero bits among the lowest `n` bits. -/
def clzN : Nat → Word → Nat
  | 0, _ => 0
  | n + 1, w => if w.getLsbD n then 0 else clzN n w + 1

/-- The high words of the 64-bit products (R324). -/
def aluMulhs (a b : Word) : AluRes := plain (BitVec.ofInt 32 (a.toInt * b.toInt / 2 ^ 32))
def aluMulhu (a b : Word) : AluRes := plain (word (a.toNat * b.toNat / 2 ^ 32))

/-- DIVU and REMU (R325), for a divisor that is not 0. -/
def aluDivu (a b : Word) : AluRes := plain (word (a.toNat / b.toNat))
def aluRemu (a b : Word) : AluRes := plain (word (a.toNat % b.toNat))

/-- LDI (R327): the value that rd takes from `imm` in LO, LOS or HI mode. -/
def ldiValue (old : Word) (mode : BitVec 2) (imm : BitVec 16) : Word :=
  if mode = 0 then imm.setWidth 32 else if mode = 1 then imm.signExtend 32 else imm ++ old.setWidth 16

/-- DIVS (R325): truncated quotient; V for the one overflow. -/
def aluDivs (a b : Word) : AluRes :=
  if a = 0x80000000 ∧ b = 0xFFFFFFFF then ⟨0x80000000, none, some true⟩
  else ⟨BitVec.ofInt 32 (a.toInt.tdiv b.toInt), none, some false⟩

/-- REMS (R325): the sign of a, or 0. -/
def aluRems (a b : Word) : AluRes := plain (BitVec.ofInt 32 (a.toInt.tmod b.toInt))

/-- 2^width − 1 for a width of `wm1` + 1. -/
def fieldMask (wm1 : BitVec 5) : Word := word (2 ^ (wm1.toNat + 1) - 1)

/-- The bitfield operations (R326). -/
def aluBfx (a : Word) (lsb wm1 : BitVec 5) : Word := (a >>> lsb.toNat) &&& fieldMask wm1
def aluBfxs (a : Word) (lsb wm1 : BitVec 5) : Word :=
  let f := aluBfx a lsb wm1
  if f.getLsbD wm1.toNat then f ||| ~~~ fieldMask wm1 else f
def aluBfi (rd a : Word) (lsb wm1 : BitVec 5) : Word :=
  let m := fieldMask wm1
  (rd &&& ~~~ (m <<< lsb.toNat)) ||| ((a &&& m) <<< lsb.toNat)

/-- The result written to rd, and with S = 1 the flags that the operation sets (R318). -/
def Dev.aluWrite (d : Dev) (s : Bool) (rd : BitVec 4) (x : AluRes) : Dev :=
  let d := d.setG rd x.r
  if s then { d with seq := { d.seq with n := x.r.msb, z := x.r == 0, c := x.c.getD d.seq.c, v := x.v.getD d.seq.v } }
  else d

/-- The flag word that MRF writes (R340, R352). -/
def Seq.flagWord (q : Seq) : Word :=
  word ((if q.v then 1 else 0) + (if q.c then 2 else 0) + (if q.z then 4 else 0) + (if q.n then 8 else 0) +
    (if q.e then 16 else 0))

/-- The flags that MWF sets (R340, R352). -/
def Seq.setFlags (q : Seq) (w : Word) : Seq :=
  { q with v := w.getLsbD 0, c := w.getLsbD 1, z := w.getLsbD 2, n := w.getLsbD 3, e := w.getLsbD 4 }

end Sys2Proof.Machine
end

