-- ==== Sys2Proof/Machine/Xram.lean ====
section
/-!
DEFINITION. Machine/Xram.lean: reads and writes of exchange RAM by its clients, with what ECC does (R419–R422).
-/

namespace Sys2Proof.Machine

/-- The ECC faults met and not yet counted are counted, single errors first (R420, R647). -/
def Dev.eccNote (d : Dev) : Dev :=
  (d.mem.met.mergeSort (fun a b => a.1 ≤ b.1)).foldl (fun (d : Dev) e => d.noteEvent e.1 e.2 0)
    { d with mem := { d.mem with met := [] } }

/-- The ECC faults met and not yet counted are counted, and their actions taken (R420, R635). -/
def Dev.eccFlush (d : Dev) : Dev := if d.mem.met.isEmpty then d else Dev.settleFaults 3 d.eccNote

/-- An access of `client` meets word `w`, and what it meets is counted. -/
def Dev.eccWord (d : Dev) (client w : Nat) : Dev := (d.eccMeet client w).eccFlush

/-- A client has read `n` bytes from offset `o`. -/
def Dev.eccTouch (d : Dev) (client o n : Nat) : Dev := ((wordsOf o n).foldl (fun d w => d.eccMeet client w) d).eccFlush

/-- A client has written bytes from offset `o`, and the errors that its read-modify-writes met are counted. -/
def Dev.xwriteEcc (d : Dev) (client o : Nat) (bs : List Byte) : Dev := (d.xwriteClean client o bs).eccFlush

/-- A bank of XRAM cleared with valid ECC (R422). -/
def Dev.xramClear (d : Dev) (b : Nat) : Dev :=
  { d with mem := { d.mem with
      xram := sparseDrop (fun a => bankOf a == b) d.mem.xram
      single := d.mem.single.filter (fun w => bankOf (8 * w) != b)
      poisoned := d.mem.poisoned.filter (fun w => bankOf (8 * w) != b) } }

/-- The scrub reads one word of bank `b` (R421, R590: none while the HFO is stopped). `upset` is what the environment has
done to that word: 0 nothing, 1 one bit, 2 more (log entry 15). The scrub stops while the bank is off and in Fallow. -/
def Dev.scrubBank (d : Dev) (b upset : Nat) : Dev :=
  if !d.is R.XR_CTRL_SCRUB || !d.domOn (1 + b) || d.pwr.mode == 2 || (d.st == stHeath && !d.pwr.hfoOn) then d
  else
    let pos := if b = 0 then d.mem.scrub0 else d.mem.scrub1
    let w := 4096 * b + pos % 4096
    let m := d.mem
    let clean := !m.single.contains w && !m.poisoned.contains w
    let m := if clean && upset == 1 then { m with single := w :: m.single }
      else if upset == 2 && !m.poisoned.contains w then
        { m with poisoned := w :: m.poisoned, single := m.single.filter (· != w) }
      else m
    let m := if b = 0 then { m with scrub0 := (pos + 1) % 4096 } else { m with scrub1 := (pos + 1) % 4096 }
    ({ d with mem := m } : Dev).eccWord clScrub w

/-- SCRUB_READ: one round of the scrub. -/
def Dev.scrubRead (d : Dev) (upset0 upset1 : Nat) : Dev := (d.scrubBank 0 upset0).scrubBank 1 upset1

end Sys2Proof.Machine
end

