-- ==== Sys2Proof/Machine/Seq.lean ====
section
/-!
DEFINITION. Machine/Seq.lean: how the Odzia core runs (chapter 10): fetch, the boundary between instructions with the
cycle budget, entries and handlers, WAIT, BREAK, halts; and the data and code spaces (R279, R280, R328–R334).
-/

namespace Sys2Proof.Machine

/-! ### Core state -/

/-- SEQ_STATUS.STATE. -/
def Dev.sq (d : Dev) : Nat := d.get R.SEQ_STATUS_STATE
def sqEmpty : Nat := 0
def sqIdle : Nat := 1
def sqBusy : Nat := 2
def sqWaiting : Nat := 3
def sqBreak : Nat := 4
def sqHalted : Nat := 5

/-- Domain SEQ is ON: what the core begins afresh, and its memories, need it. -/
def Dev.seqOn (d : Dev) : Bool := d.domOn 0

/-- Bytes of the IMEM bank `b` (0 A, 1 B). -/
def Dev.imem (d : Dev) (b : Nat) : List Host.Cell := if b = 0 then d.mem.imemA else d.mem.imemB
def Dev.setImem (d : Dev) (b : Nat) (m : List Host.Cell) : Dev :=
  if b = 0 then { d with mem := { d.mem with imemA := m } } else { d with mem := { d.mem with imemB := m } }
def Dev.activeBank (d : Dev) : Nat := d.get R.SEQ_STATUS_ACTIVE
def Dev.shadowBank (d : Dev) : Nat := 1 - d.activeBank

/-- Code word `a` of bank `b`. -/
def Dev.codeWord (d : Dev) (b a : Nat) : Word := word (leNat (readBytes imemDflt (d.imem b) (4 * a) 4))

/-- NWORDS of an image. -/
def Image.nwords (im : Image) : Nat := leNat ((im.header.drop 8).take 2)
def Dev.nwords (d : Dev) : Nat := (d.seq.active.map Image.nwords).getD 0

/-- The word fetched at word address `a` (R337). -/
def Dev.fetch (d : Dev) (a : Nat) : Option Word :=
  if a < d.nwords then some (d.codeWord d.activeBank a) else none

/-! ### Cycles and the budget (R288, R289, R348) -/

/-- Whether cycles count: STATE is RUNNING or STOPPING. -/
def Dev.counting (d : Dev) : Bool := d.st == stRunning || d.st == stStopping

/-- `n` cycles counted; the FAULT handler's cycles past the budget count against SEQ_FLIM. -/
def Dev.seqCount (d : Dev) (n : Nat) : Dev :=
  if !d.counting then d
  else
    let c := d.seq.cycles + n
    let past := if d.seq.budget ≠ 0 ∧ d.seq.budget ≤ c ∧ d.get R.SEQ_STATUS_ENTRY = 5 then min n (c - d.seq.budget) else 0
    { d with seq := { d.seq with cycles := c, flim := d.seq.flim + past,
                                 exhausted := d.seq.budget != 0 && decide (d.seq.budget ≤ c) } }

/-- The next word address (R337): a fetch at NWORDS or above raises PCRANGE. -/
def Dev.seqGoto (d : Dev) (next : Nat) : Dev :=
  if next < d.nwords then { d with seq := { d.seq with pc := next } }
  else d.seqFault 0x08 (next % 8192) (some next)

/-- The count has reached the budget, inside the FAULT handler the limit that SEQ_FLIM sets past it (R288, R289). -/
def Dev.seqSpent (d : Dev) : Bool :=
  d.counting && d.seq.exhausted && (d.get R.SEQ_STATUS_ENTRY != 5 || decide (d.get R.SEQ_FLIM_CYC < d.seq.flim))

/-- The boundary after the instruction at `a` (R288, R289): BUDGET, or FLIM inside the FAULT handler, before the next
fetch. -/
def Dev.seqDone (d : Dev) (a next : Nat) : Dev :=
  if d.seqSpent then
    if d.get R.SEQ_STATUS_ENTRY = 5 then ({ d with seq := { d.seq with pc := next % 8192 } } : Dev).seqHalt 0x15
    else d.seqFault 0x06 a none
  else d.seqGoto next

/-- The instruction at `a` has ended in handler `entry` with the core no longer fetching, after `n` cycles. An END and a BRK
are complete, so that a budget they reach raises BUDGET at once; a WAIT completes when it ends (R288). -/
def Dev.seqStopped (d : Dev) (entry n a : Nat) : Dev :=
  let d' := (d.put R.SEQ_STATUS_ENTRY entry).seqCount n
  if (d.get R.SEQ_STATUS_STATE = 1 ∨ d.get R.SEQ_STATUS_STATE = 4) ∧ d'.seqSpent = true then d'.seqDone a (a + 1)
  else d'.put R.SEQ_STATUS_ENTRY (d.get R.SEQ_STATUS_ENTRY)

/-! ### One instruction (R312–R315, R319) -/

/-- How an instruction ends: at the next word, at another word, with a fault, or with the core no longer running. -/
inductive SeqEnd where
  | next
  | goto (a : Nat)
  | fault (cause : Nat) (addr : Option Nat)
  | stop
deriving DecidableEq, Repr

/-- The core is BUSY and the word at its program counter is `w`. -/
def Dev.seqAt (d : Dev) (w : Word) : Bool := d.seqLive && d.sq == sqBusy && d.fetch d.seq.pc == some w

/-- The instruction `w` executes: a failed condition takes 1 cycle and does nothing (R315); otherwise `body` gives the
device after it, its cycles and how it ends. A command for an instruction that is not the next one, or that is an
illegal encoding, changes nothing (log entry 1). -/
def Dev.seqInsn (d : Dev) (w : Word) (cond : BitVec 4) (body : Dev → Dev × Nat × SeqEnd) : Dev :=
  if !d.seqAt w || illegal w then d
  else
    let a := d.seq.pc
    if !d.seq.holds cond then (d.seqCount 1).seqDone a (a + 1)
    else
      let (d', n, e) := body d
      match e with
      | .fault c addr => (d'.seqCount n).seqFault c a addr
      | .stop => d'.seqStopped (d.get R.SEQ_STATUS_ENTRY) n a
      | .next => if d'.sq = sqBusy then (d'.seqCount n).seqDone a (a + 1) else d'.seqCount n
      | .goto b => if d'.sq = sqBusy then (d'.seqCount n).seqDone a b else d'.seqCount n

/-- An instruction that writes one ALU result. -/
def Dev.seqAlu (d : Dev) (w : Word) (cond : BitVec 4) (s : Bool) (rd : BitVec 4) (cost : Nat) (f : Dev → AluRes) : Dev :=
  d.seqInsn w cond (fun d => (d.aluWrite s rd (f d), cost, .next))

/-- A fetched word that is illegal (R314). -/
def Dev.seqIllegal (d : Dev) (w : Word) : Dev :=
  if d.seqAt w && illegal w then (d.seqCount 1).seqFault 0x01 d.seq.pc none else d

/-! ### Data space (R279, R328–R331, R575) -/

/-- The fault that an access to data address `a` of `width` bytes meets before it is made. -/
def Dev.dataBad (d : Dev) (a width : Nat) : Option Nat :=
  if a % width ≠ 0 then some 0x02
  else if a < 0x4000 then none
  else if 0x10000 ≤ a ∧ a < 0x20000 then (if d.xramOn (a - 0x10000) then none else some 0x03)
  else some 0x03

/-- Cycles of one XRAM access (R330): 2 and the stall. With r reserved slots in the bank it is served within 64/p slots, p
being the largest power of two not above r, at two slots a cycle; so always within 34 cycles (R280, R424, R426). -/
def Dev.xramCost (d : Dev) (o : Nat) : Nat × Dev :=
  let s := Config.xramStall d.freeCount
  let r := d.get (if bankOf o = 0 then R.XR_GUAR_B0 clSeq else R.XR_GUAR_B1 clSeq)
  (if r = 0 then 2 + s else 2 + min ((32 + 2 ^ Nat.log2 r - 1) / 2 ^ Nat.log2 r) s, { d with freeCount := d.freeCount + 1 })

/-- A load: the value is put through `f` into rd. -/
def Dev.seqLoad (d : Dev) (rd rs : BitVec 4) (o : Op2) (width : Nat) (f : Nat → Word) : Dev × Nat × SeqEnd :=
  let a := (d.g rs + d.op2S o).toNat
  match d.dataBad a width with
  | some c => (d, 1, .fault c (some a))
  | none =>
    if a < 0x4000 then (d.setG rd (f (leNat (readBytes dmemDflt d.mem.dmem a width))), 1, .next)
    else
      let x := a - 0x10000
      let (n, d) := d.xramCost x
      let bad := !(d.poisonIn x width).isEmpty
      let v := d.xle x width
      let d := d.eccTouch clSeq x width
      if bad then (d, n, .fault 0x04 (some a)) else (d.setG rd (f v), n, .next)

/-- A store of the low `width` bytes of rd. -/
def Dev.seqStore (d : Dev) (rd rs : BitVec 4) (o : Op2) (width : Nat) : Dev × Nat × SeqEnd :=
  let a := (d.g rs + d.op2S o).toNat
  let bs := leBytes width (d.g rd).toNat
  match d.dataBad a width with
  | some c => (d, 1, .fault c (some a))
  | none =>
    if a < 0x4000 then ({ d with mem := { d.mem with dmem := writeBytes dmemDflt d.mem.dmem a bs } }, 1, .next)
    else
      let x := a - 0x10000
      let (n, d) := d.xramCost x
      let bad := !(d.poisonIn x width).isEmpty
      let d := d.eccTouch clSeq x width
      if bad then (d, n, .fault 0x04 (some a)) else (d.xwrite x bs, n, .next)

/-- TBL (R334). -/
def Dev.seqTbl (d : Dev) (rd rs : BitVec 4) (o : Op2) : Dev × Nat × SeqEnd :=
  let a := (d.g rs + d.op2S o).toNat
  match d.fetch a with
  | some w => (d.setG rd w, 2, .next)
  | none => (d, 2, .fault 0x09 (some a))

/-! ### Branches (R335, R336) -/

/-- A branch to word address `t`; a call first writes the return address to g15. -/
def Dev.seqJump (d : Dev) (link : Bool) (t : Nat) : Dev × Nat × SeqEnd :=
  (if link then d.setG 15 (word (d.seq.pc + 1)) else d, 2, .goto t)

/-- The target of B and BL. -/
def Dev.dispTarget (d : Dev) (disp : BitVec 22) : Nat := (word d.seq.pc + disp.signExtend 32).toNat

/-! ### Events and waiting (R286, R287, R338, R339) -/

/-- The pending events of a mask (bits [10:0]). -/
def Dev.evMasked (d : Dev) (m : Word) : Nat := d.get R.SEQ_EVPEND_EV &&& (m.toNat % 2048)

/-- rd and E take the pending events of a mask. -/
def Dev.seqEvents (d : Dev) (rd : BitVec 4) (v : Nat) : Dev :=
  let d := d.setG rd (word v)
  { d with seq := { d.seq with e := v != 0 } }

/-- T of R287: the current tick period in µs, or TICK_PERIOD.PERIOD while no tick is generated. -/
def Dev.tickPeriod (d : Dev) : Nat :=
  if d.ticking && d.tick.spacing != 0 then d.tick.spacing else d.get R.TICK_PERIOD_PERIOD

/-- WAIT begins, or ends at once (R287, R338). -/
def Dev.seqWait (d : Dev) (rd : BitVec 4) (t m : Word) : Dev × Nat × SeqEnd :=
  let v := d.evMasked m
  if v ≠ 0 then (d.seqEvents rd v, 2, .next)
  else
    let T := d.tickPeriod
    let n := if t.toNat = 0 then T else min t.toNat T
    let d := { d with seq := { d.seq with wait := some ⟨rd.toNat, m.toNat % 2048, d.clock, d.clock + n⟩ } }
    (d.put R.SEQ_STATUS_STATE sqWaiting, 2, .stop)

/-- WAIT_END: a bit of the mask is set, or min(t, T) has passed; before that it waits on (R287, R338). -/
def Dev.waitEnd (d : Dev) : Dev :=
  match d.seq.wait with
  | none => d
  | some w =>
    if !d.seqLive || d.sq != sqWaiting then d
    else
      let v := d.get R.SEQ_EVPEND_EV &&& w.mask
      if v = 0 ∧ d.clock < w.until_ then d else
      let d := d.seqEvents (BitVec.ofNat 4 w.rd) v
      let d := if v = 0 then d.inc R.SEQ_COUNTS_WAITTO else d
      let d := { d.put R.SEQ_STATUS_STATE sqBusy with seq := { d.seq with wait := none } }
      d.seqDone d.seq.pc (d.seq.pc + 1)

/-! ### Entries and handlers (R282–R285, R300, R301, R341) -/

/-- EVENT is raised while an enabled event is pending, but not in READY, PARKED, Heath or a device halt (R283, R285,
R308; log entry 7). -/
def Dev.eventRaised (d : Dev) : Bool :=
  (d.get R.SEQ_EVPEND_EV &&& d.get R.SEQ_EVEN_EV) != 0 && d.entryPresent 3 && d.st != stReady && d.st != stParked &&
    d.st != stHeath && d.st != stHalted && d.st != stFallowExit

/-- The highest pending entry in the order RESET, FAULT, TICK, FRAME, EVENT, as its code in SEQ_STATUS.ENTRY (R284). -/
def Dev.nextEntry (d : Dev) : Option Nat :=
  if d.seq.pReset then some 1 else if d.seq.pFault then some 5 else if d.seq.pTick then some 2
  else if d.seq.pFrame then some 3 else if d.eventRaised then some 4 else none

/-- HANDLER_START (R278, R282, R284). -/
def Dev.handlerStart (d : Dev) : Dev :=
  if !d.seqOn || d.sq != sqIdle then d
  else match d.nextEntry with
    | none => d
    | some e =>
      let q := d.seq
      let q := { q with
        pReset := q.pReset && e != 1, pFault := q.pFault && e != 5, pTick := q.pTick && e != 2,
        pFrame := q.pFrame && e != 3, lateTicks := 0, enteredAt := d.clock,
        e := (d.get R.SEQ_EVPEND_EV &&& d.get R.SEQ_EVEN_EV) != 0 }
      let d := ({ d with seq := q }.put R.SEQ_STATUS_STATE sqBusy).put R.SEQ_STATUS_ENTRY e
      d.seqGoto (4 * (e - 1))

/-- RESET has returned (R300, R301): STATE becomes READY, and a held RUN starts the consistency check. -/
def Dev.resetReturned (d : Dev) : Dev :=
  let run := d.seq.heldRun
  let d := { d with seq := { d.seq with heldRun := false } }
  if d.st = stBootWait then
    let d := d.setSt stReady
    if run then
      let d := (d.put R.SYS_CTRL_RUN 1).put R.SYS_STATUS_REFUSED 0
      { d.setSt stChecking with sys := { d.sys with checkFrom := stReady } }
    else d
  else d

/-- END (R341). Parked pins drive GPIO_OUT again once the first TICK handler in RUNNING has returned (R618). -/
def Dev.seqEnd (d : Dev) : Dev :=
  let e := d.get R.SEQ_STATUS_ENTRY
  let d := (d.put R.SEQ_STATUS_STATE sqIdle).put R.SEQ_STATUS_ENTRY 0
  let d : Dev := if e = 2 ∧ d.st = stRunning then { d with panel := { d.panel with parked := false } } else d
  if e = 1 then d.resetReturned else d

/-- BRK (R293, R343). -/
def Dev.seqBrk (d : Dev) : Dev × Nat × SeqEnd :=
  if d.is R.SEQ_CTRL_DBGEN then
    let d := (d.put R.SEQ_STATUS_STATE sqBreak).put R.SEQ_BRKPC_PC d.seq.pc
    ({ d with seq := { d.seq with breakAt := d.clock } }, 1, .stop)
  else (d, 1, .fault 0x07 none)

/-- A write of 1 to SEQ_CTRL.RESUME (R293): the cycles spent in BREAK count. -/
def Dev.seqResume (d : Dev) : Dev :=
  if !d.seqLive || d.sq != sqBreak then d
  else
    let d := d.put R.SEQ_STATUS_STATE sqBusy
    let d := d.seqCount (96 * (d.clock - d.seq.breakAt))
    d.seqDone d.seq.pc (d.seq.pc + 1)

/-- A write of 1 to SEQ_CTRL.HALTREQ (R291, R309, R346); an EMPTY or halted core has nothing to halt. -/
def Dev.seqHaltReq (d : Dev) : Dev :=
  if !d.seqLive || d.sq == sqEmpty || d.sq == sqHalted then d else d.seqHalt 0x16

/-- A write of 1 to SEQ_CTRL.CLRCNT. -/
def Dev.seqClrCnt (d : Dev) : Dev :=
  if d.seqOn then (d.setReg R.SEQ_COUNTS 0).setReg R.SEQ_CYCMAX 0 else d

/-- RESET_TIMEOUT: RESET has not returned 100 ms after its entry (R291, R307). -/
def Dev.resetTimeout (d : Dev) : Dev :=
  if d.seqLive && d.get R.SEQ_STATUS_ENTRY == 1 && decide (d.seq.enteredAt + 100000 ≤ d.clock) &&
      (d.sq == sqBusy || d.sq == sqWaiting || d.sq == sqBreak) then d.seqHalt 0x14
  else d

/-- A handler is running or waits (R59, R293). -/
def Dev.handlerRuns (d : Dev) : Bool := d.seqLive && (d.sq == sqBusy || d.sq == sqWaiting || d.sq == sqBreak)

/-- A running handler is stopped without a halt cause (R308). -/
def Dev.seqStopNow (d : Dev) : Dev :=
  if d.handlerRuns then
    let d := { d with seq := { d.seq with wait := none } }
    let d := (d.put R.SEQ_STATUS_STATE sqIdle).put R.SEQ_STATUS_ENTRY 0
    (d.inc R.SEQ_COUNTS_NFAULT).raise 0x06 3
  else d

/-- SEQ_STOP_TIMEOUT (R308). -/
def Dev.seqStopTimeout (d : Dev) : Dev := if d.st = stStopping then d.seqStopNow else d

/-- SEQ at a tick (R59, R283, R286, R288, R303, R304, R305, R310): the period's count is shown and restarts, the budget
takes force, late handlers, the TICK entry when `entry` asks for it. A budget reached in BREAK raises BUDGET before the
tick's entry (R293, R305). -/
def Dev.seqTick (d : Dev) (entry : Bool) : Dev :=
  if !d.seqLive then d
  else
    let d := if d.sq = sqBreak then
        let d := d.seqCount (96 * (d.clock - d.seq.breakAt))
        let d : Dev := { d with seq := { d.seq with breakAt := d.clock } }
        if d.seqSpent then d.seqDone d.seq.pc (d.seq.pc + 1) else d
      else d
    -- a WAIT that has reached the budget raises BUDGET when it ends
    let owed := d.sq == sqWaiting && d.seqSpent
    let c := min d.seq.cycles (2 ^ 23 - 1)
    let d := d.put R.SEQ_CYCLES_CYC c
    let d := if d.get R.SEQ_CYCMAX_CYC < c then d.put R.SEQ_CYCMAX_CYC c else d
    let d := { d with seq := { d.seq with cycles := 0, flim := if owed then d.seq.flim else 0, exhausted := owed,
                                            budget := d.get R.SEQ_BUDGET_CYC } }
    let d := if d.tick.first then d.event evStart else d
    if d.sq = sqEmpty ∨ d.sq = sqHalted then d
    else
      let d := if d.seq.pFrame then ({ d with seq := { d.seq with pFrame := false } } : Dev).raise 0x06 2 else d
      if d.handlerRuns then
        let n := d.seq.lateTicks + 1
        let d := { d with seq := { d.seq with lateTicks := n } }
        if 3 ≤ n then d.seqHalt 0x13
        else d.raise 0x06 1
      else if entry && d.entryPresent 1 && d.seqOn then
        { d with seq := { d.seq with pTick := true } }
      else d

/-- FRAME is raised (R44, R45, R283). -/
def Dev.raiseFrame (d : Dev) : Dev :=
  if d.seqOn && d.entryPresent 2 && d.sq != sqEmpty && d.sq != sqHalted then { d with seq := { d.seq with pFrame := true } } else d

end Sys2Proof.Machine
end

