-- ==== Sys2Proof/Machine/Panel.lean ====
section
/-!
DEFINITION. Machine/Panel.lean: timers, edge detectors and GPIO (chapter 12, R353–R370), on the µs, at a tick and at
their own writes.
-/

namespace Sys2Proof.Machine

/-! ### Edge detectors (R359–R363) -/

/-- The level of the source `snum` of type `styp`. -/
def Dev.edSource (d : Dev) (styp snum : Nat) : Bool :=
  match styp with
  | 0 => bitOf (d.get R.GPIO_IN_DEBOUNCED) snum
  | 1 => d.domOn 6 && !d.isMember && bitOf (d.reg R.CT_VKEYS).toNat snum
  | 2 => d.winLevel snum
  | 3 => d.domOn 11 && !d.isMember && d.is R.OPT_STATUS_DET
  | 4 => d.domOn 6 && !d.isMember && bitOf (d.reg R.CT_RGOCC).toNat snum
  | 5 => bitOf (d.get R.ED_FLAGS_FLAG) snum
  | _ => false

/-- The source that EDk watches. -/
def Dev.edLevelNow (d : Dev) (k : Nat) : Bool := d.edSource (d.get (R.ED_CFG_STYPE k)) (d.get (R.ED_CFG_SNUM k))

/-- Bit `k` of one of a pair of 32-bit mirror registers. -/
def Dev.putBit (d : Dev) (a0 a1 : Nat) (k : Nat) (b : Bool) : Dev :=
  let a := if k < 32 then a0 else a1
  d.setReg a (word (setBit (d.reg a).toNat (k % 32) b))

/-- F of EDk and its mirror. -/
def Dev.setF (d : Dev) (k : Nat) (b : Bool) : Dev :=
  (d.putB (R.ED_STAT_LEVEL k) b).putBit R.ED_LEVEL0 R.ED_LEVEL1 k b

/-- LAT of EDk and its mirror. -/
def Dev.setLat (d : Dev) (k : Nat) (b : Bool) : Dev :=
  (d.putB (R.ED_STAT_LAT k) b).putBit R.ED_LAT0 R.ED_LAT1 k b

/-- One sample of EDk at a tick (R360, R361). -/
def Dev.edSample (d : Dev) (k : Nat) : Dev :=
  if !d.is (R.ED_CFG_EN k) then d
  else
    let s := d.edLevelNow k
    let d := d.putB (R.ED_STAT_SRC k) s
    if s = d.is (R.ED_STAT_LEVEL k) then d.put (R.ED_STAT_CNT k) 0
    else
      let n := d.get (R.ED_STAT_CNT k) + 1
      if n ≤ d.get (R.ED_CFG_DEB k) then d.put (R.ED_STAT_CNT k) n
      else
        let d := (d.setF k s).put (R.ED_STAT_CNT k) 0
        if bitOf (d.get (R.ED_CFG_EDGE k)) (if s then 0 else 1) then
          let d := d.setLat k true
          if d.is (R.ED_CFG_IE k) then d.event evEd else d
        else d

def Dev.edSampleAll (d : Dev) : Dev := (List.range 64).foldl Dev.edSample d

/-- EDk armed or disabled by its configuration (R362). -/
def Dev.edArm (d : Dev) (k : Nat) : Dev :=
  let d := d.put (R.ED_STAT_CNT k) 0
  if d.is (R.ED_CFG_EN k) then
    let s := d.edLevelNow k
    (d.setF k s).putB (R.ED_STAT_SRC k) s
  else (d.setF k false).putB (R.ED_STAT_SRC k) false

/-- A write to EDk_CFG: an unknown STYPE, or an SNUM its STYPE has not, is ignored in full (R359, R362). -/
def Dev.edCfgWrite (d : Dev) (k v : Nat) : Dev :=
  let styp := v / 2 % 8
  let snum := v / 16 % 32
  if 6 ≤ styp ∨ (styp = 0 ∧ 5 < snum) ∨ (styp = 2 ∧ 7 < snum) then d
  else (d.setReg (R.ED_CFG k) (word v &&& 0xFF0FFF)).edArm k

/-! ### Timers (R353–R358) -/

/-- The timer input (R354, R379). -/
def Dev.tmInput (d : Dev) (k : Nat) : Bool :=
  if d.is (R.TM_CFG_SRC k) then
    let e := d.get (R.TM_CFG_EDSEL k)
    d.is (R.ED_CFG_EN e) && d.is (R.ED_STAT_LEVEL e)
  else d.is (R.TM_STAT_IN k)

/-- RUN, Q and COUNT of TMk. -/
def Dev.tmSet (d : Dev) (k : Nat) (run q : Bool) (count : Nat) : Dev :=
  ((d.putB (R.TM_STAT_RUN k) run).putB (R.TM_STAT_Q k) q).put (R.TM_COUNT_COUNT k) count

/-- EXP of TMk and its mirror. -/
def Dev.setExp (d : Dev) (k : Nat) (b : Bool) : Dev :=
  (d.putB (R.TM_STAT_EXP k) b).putBit R.GPIO_TMEXP0 R.GPIO_TMEXP1 k b

/-- TMk expires (R353, R356). -/
def Dev.tmExpire (d : Dev) (k : Nat) : Dev :=
  let q := d.is (R.TM_STAT_Q k)
  let n := d.get (R.TM_COUNT_COUNT k)
  let d := match d.get (R.TM_CFG_MODE k) with
    | 1 => d.tmSet k false true n
    | 2 | 3 | 4 => d.tmSet k false false n
    | 5 => d.tmSet k true (!q) 0
    | _ => d
  let d := d.setExp k true
  if d.is (R.TM_CFG_IE k) then d.event evTm else d

/-- What the mode's action on the input makes of RUN, Q and COUNT; the last answer tells that the timer starts, or
restarts, in this evaluation (table "Timer modes"). -/
def tmAct (mode preset : Nat) (inp rise run q : Bool) (n : Nat) : Bool × Bool × Nat × Bool :=
  match mode with
  | 1 => if !inp then (false, false, 0, false) else if !run && !q then (true, false, 0, true) else (run, q, n, false)
  | 2 => if inp then (false, true, 0, false) else if !run && q then (true, true, 0, true) else (run, q, n, false)
  | 3 => if rise && !run then (true, true, 0, true) else (run, q, n, false)
  | 4 => if rise then (true, true, 0, true) else (run, q, n, false)
  | 5 => if !inp then (false, false, 0, false) else if !run && preset != 0 then (true, q, 0, true) else (run, q, n, false)
  | _ => (false, false, 0, false)

/-- One evaluation of TMk, in which `units` of its base have elapsed (0 or 1) (R353, R355). -/
def Dev.tmEval (d : Dev) (units k : Nat) : Dev :=
  let inp := d.tmInput k
  let mode := d.get (R.TM_CFG_MODE k)
  let trig := bitOf d.panel.tmTrig k && (mode == 3 || mode == 4)
  let rise := (inp && !bitOf d.panel.tmPrev k) || trig
  let d := { d with panel := { d.panel with tmPrev := setBit d.panel.tmPrev k inp, tmTrig := setBit d.panel.tmTrig k false } }
  if mode = 0 then d
  else
    let preset := d.get (R.TM_PRESET_PRESET k)
    let (run, q, n, start) := tmAct mode preset inp rise (d.is (R.TM_STAT_RUN k)) (d.is (R.TM_STAT_Q k))
      (d.get (R.TM_COUNT_COUNT k))
    let n := if run && !start then n + units else n
    let d := if start then { d with panel := { d.panel with tmFrac := d.panel.tmFrac.filter (fun e => e.1 != k) } } else d
    let d := d.tmSet k run q (min n (2 ^ 24 - 1))
    if run && decide (preset ≤ n) then d.tmExpire k else d

/-- A µs passes for TMk: a unit of µs base, one thousandth of ms base (R354, R355, R358). -/
def Dev.tmMicro (d : Dev) (k : Nat) : Dev :=
  let base := d.get (R.TM_CFG_BASE k)
  let meadow := d.pwr.mode == 0
  if base = 2 then (if meadow then d.tmEval 1 k else d)
  else if base = 1 then
    if d.is (R.TM_STAT_RUN k) then
      let f := (d.panel.tmFrac.lookup k).getD 0 + 1
      let keep := d.panel.tmFrac.filter (fun e => e.1 != k)
      if f = 1000 then ({ d with panel := { d.panel with tmFrac := keep } } : Dev).tmEval 1 k
      else
        let d : Dev := { d with panel := { d.panel with tmFrac := (k, f) :: keep } }
        if meadow then d.tmEval 0 k else d
    else if meadow then d.tmEval 0 k else d
  else if meadow then d.tmEval 0 k else d

def Dev.timersMicro (d : Dev) : Dev := (List.range 64).foldl Dev.tmMicro d

/-- Every timer at a tick: tick-base timers count (R355, R370); in Heath the Heath ticks (R358). -/
def Dev.timersTick (d : Dev) : Dev :=
  (List.range 64).foldl (fun d k => d.tmEval (if d.get (R.TM_CFG_BASE k) = 0 then 1 else 0) k) d

/-- TIMER_EXPIRY: TMk is running and its COUNT reaches its PRESET. -/
def Dev.timerExpiry (d : Dev) (k : Nat) : Dev :=
  if k < 64 ∧ d.is (R.TM_STAT_RUN k) = true then
    (d.put (R.TM_COUNT_COUNT k) (d.get (R.TM_PRESET_PRESET k))).tmExpire k
  else d

/-- A write to TMk_CFG (R354, R357): 3 in BASE and 6 or 7 in MODE are ignored for that field. -/
def Dev.tmCfgWrite (d : Dev) (k v : Nat) : Dev :=
  let old := d.reg (R.TM_CFG k)
  let w : Word := word v &&& 0x3F7F
  let w := if 6 ≤ v % 8 then (R.TM_CFG_MODE k).into w ((R.TM_CFG_MODE k).of old) else w
  let w := if v / 8 % 4 = 3 then (R.TM_CFG_BASE k).into w ((R.TM_CFG_BASE k).of old) else w
  (d.setReg (R.TM_CFG k) w).tmSet k false false 0

/-- A write to TMk_PRESET (R357). -/
def Dev.tmPresetWrite (d : Dev) (k v : Nat) : Dev := d.put (R.TM_PRESET_PRESET k) v

/-- A write of 1 to TMk_STAT.TRIG: an edge for the next evaluation, in PULSE and RPULSE (R353, R377). -/
def Dev.tmTrig (d : Dev) (k : Nat) : Dev :=
  let mode := d.get (R.TM_CFG_MODE k)
  if k < 64 ∧ (mode = 3 ∨ mode = 4) then { d with panel := { d.panel with tmTrig := setBit d.panel.tmTrig k true } } else d

/-! ### GPIO and PWM (R364–R368) -/

/-- A write to GPIO_CFGn: 3 in DIR or PULL is ignored for that field; PWM only on G4 and G5 (R364, R383). -/
def Dev.gpioCfgWrite (d : Dev) (n v : Nat) : Dev :=
  let old := d.reg (R.GPIO_CFG n)
  let w : Word := word v &&& (if n = 4 ∨ n = 5 then 0xFF1F else 0xFF0F)
  let w := if v % 4 = 3 then (R.GPIO_CFG_DIR n).into w ((R.GPIO_CFG_DIR n).of old) else w
  let w := if v / 4 % 4 = 3 then (R.GPIO_CFG_PULL n).into w ((R.GPIO_CFG_PULL n).of old) else w
  (d.setReg (R.GPIO_CFG n) w).pwmSettle

def Dev.gpioSet (d : Dev) (v : Nat) : Dev := d.put R.GPIO_OUT_PINS (d.get R.GPIO_OUT_PINS ||| v % 64)
def Dev.gpioClr (d : Dev) (v : Nat) : Dev := d.put R.GPIO_OUT_PINS (d.get R.GPIO_OUT_PINS &&& (63 - v % 64))

/-- PWM_PERIOD_END. -/
def Dev.pwmEnd (d : Dev) (n : Nat) : Dev := if d.pwmRuns n then d.pwmPeriodEnd n else d

/-- A write to GPIO_PWM4 or GPIO_PWM5: a PERIOD below 2 is ignored; at once while the pin runs no PWM (R367). -/
def Dev.pwmWrite (d : Dev) (n v : Nat) : Dev :=
  let a := if n = 4 then R.GPIO_PWM4 else R.GPIO_PWM5
  let old := (d.reg a).toNat
  let v := if v % 65536 < 2 then v / 65536 * 65536 + old % 65536 else v
  (d.setReg a (word v)).pwmSettle

/-- What the active image says of the safe state: level and drive of pin `n` (R294, R368). -/
def Dev.safeBits (d : Dev) (n : Nat) : Bool × Bool := (bitOf d.panel.safe.1 n, bitOf d.panel.safe.2 n)

/-- What pin `n` puts on its pad: none at high impedance, else the level (an open-drain 1 is released) (R364, R366–R368,
R608, R616: a parked pin drives its safe level). `phase` is the µs into the PWM period. -/
def Dev.pinDrive (d : Dev) (n phase : Nat) : Option Bool :=
  let dir := d.get (R.GPIO_CFG_DIR n)
  let lvl := fun (b : Bool) => if dir = 2 ∧ b = true then none else some b
  if dir = 0 ∨ d.is R.SYS_STATUS_VDDIOOK = false then none
  else if d.is R.GPIO_STATUS_SAFE || d.panel.parked then
    let (v, on) := d.safeBits n
    if on then lvl v else none
  else if d.pwmRuns n then
    let p := if n = 4 then d.panel.pwm4 else d.panel.pwm5
    lvl (decide (phase % max 1 p.1 < p.2))
  else lvl (bitOf (d.get R.GPIO_OUT_PINS) n)

/-- The level at the pad of pin `n` where `lvl` is what the board puts on it: an output pin that drives reads its own pad
(R365). A running PWM is sampled wherever it stands, so its pad is what the board shows. -/
def Dev.padLevel (d : Dev) (n : Nat) (lvl : Bool) : Bool := if d.pwmRuns n then lvl else (d.pinDrive n 0).getD lvl

/-- The pads at an LFO sample (R365). -/
def Dev.padSample (d : Dev) (pads : Nat) : Nat :=
  ((List.range 6).map (fun n => if d.padLevel n (bitOf pads n) then 2 ^ n else 0)).sum

/-- GPIO_INPUT_DEBOUNCED: an LFO sample finds `pads`, and with it pin `n` has held `level` over DEB ms of samples, the
latest among them (R365); it may be a GPIO wake (R596). Without VDDIO the last levels stay (R608). -/
def Dev.gpioDebounced (d : Dev) (n : Nat) (level : Bool) (pads : Nat) : Dev :=
  if 6 ≤ n || d.sys.inReset || !d.is R.SYS_STATUS_VDDIOOK then d
  else
    let d := d.put R.GPIO_IN_RAW (d.padSample pads)
    if bitOf (d.get R.GPIO_IN_RAW) n != level then d else
    let d := d.put R.GPIO_IN_DEBOUNCED (setBit (d.get R.GPIO_IN_DEBOUNCED) n level)
    if (d.wakeSet R.PWR_WAKE_GPIO != 0) && bitOf (d.wakeSet R.PWR_WAKE_WPINS) n && bitOf (d.wakeSet R.PWR_WAKE_WLVL) n == level then
      d.wakeCause R.PWR_WSRC_GPIO
    else d

end Sys2Proof.Machine
end

