-- ==== Sys2Proof/Machine/Prog.lean ====
section
/-!
DEFINITION. Machine/Prog.lean: program images (chapter 10, R294–R303; chapter 12, R371–R381): loading, verification,
off-line activation, the on-line swap, and what a flash boot reads.
-/

namespace Sys2Proof.Machine

/-! ### Images (R294) -/

/-- `n` bytes of the header from offset `o`, little-endian. -/
def Image.field (im : Image) (o n : Nat) : Nat := leNat ((im.header.drop o).take n)

def Image.npre (im : Image) : Nat := im.field 46 2
def Image.tagged (im : Image) : Bool := bitOf (im.field 10 2) 0
def Image.inplace (im : Image) : Bool := bitOf (im.field 10 2) 1
def Image.preserve (im : Image) : Nat := im.field 26 2

/-- The preset entries: timer, configuration bits [15:0], preset. -/
def presetList : Nat → List Byte → List (Nat × Nat × Nat)
  | 0, _ => []
  | n + 1, bs => (leNat (bs.take 1), leNat ((bs.drop 2).take 2), leNat ((bs.drop 4).take 3)) :: presetList n (bs.drop 8)

def Image.presetEntries (im : Image) : List (Nat × Nat × Nat) := presetList (im.presets.length / 8) im.presets

/-- The image that bytes `bs` hold, with what part of them is code; `len` is the length given (R294, R296). -/
def imageOf (bs : List Byte) (len : Nat) : Image × List Byte :=
  let h := bs.take 64
  let im0 : Image := ⟨h, [], [], len⟩
  let np := min 64 im0.npre
  let code := if im0.inplace then 0 else 4 * min 8192 im0.nwords
  (⟨h, (bs.drop 64).take (8 * np), if im0.tagged then (bs.drop (64 + 8 * np + code)).take 16 else [], len⟩,
    (bs.drop (64 + 8 * np)).take code)

/-! ### Loading (R296, R473) -/

/-- PROG_LOAD of an image held in bytes: code into the shadow bank unless INPLACE, a descriptor, SLOADED, and a pending
swap cancelled (R380). -/
def Dev.progLoad (d : Dev) (bs : List Byte) : Dev :=
  let d := d.swapEnd 0x08
  let (im, code) := imageOf bs bs.length
  let b := d.shadowBank
  let d := d.setImem b (writeBytes imemDflt (d.imem b) 0 code)
  let d := { d with seq := { d.seq with shadow := some im } }
  (d.put R.SEQ_STATUS_SVERIFIED 0).put R.SEQ_STATUS_SLOADED 1

/-- A host write to the shadow IMEM window (R7, R296, R380). -/
def Dev.shadowWrite (d : Dev) (o : Nat) (bs : List Byte) : Dev :=
  let d := d.swapEnd 0x08
  let b := d.shadowBank
  (d.setImem b (writeBytes imemDflt (d.imem b) o bs)).put R.SEQ_STATUS_SVERIFIED 0

/-! ### Verification (R295, R297, R298) -/

/-- The code words of a bank as bytes. -/
def Dev.codeBytes (d : Dev) (b n : Nat) : List Byte := readBytes imemDflt (d.imem b) 0 (4 * n)

/-- The first offset of a list of tests that fails. -/
def firstBad (l : List (Nat × Bool)) : Option Nat := (l.find? (·.2)).map (·.1)

/-- Reserved bits and bytes of the preset entries (R294; the reserved bits of TMk_CFG among them, log entry 7). -/
def presetBad : Nat → Nat → List Byte → Option Nat
  | 0, _, _ => none
  | n + 1, o, bs =>
    match firstBad [(o + 1, bs.getD 1 0 != 0), (o + 7, bs.getD 7 0 != 0),
        (o + 2, leNat ((bs.drop 2).take 2) &&& 0xC080 != 0)] with
    | some x => some x
    | none => presetBad n (o + 8) (bs.drop 8)

/-- A preset timer number above 63 or repeated: the offset of its entry. -/
def presetRepeat : List Nat → Nat → List (Nat × Nat × Nat) → Option Nat
  | _, _, [] => none
  | seen, o, (k, _, _) :: rest => if 63 < k ∨ seen.contains k = true then some o else presetRepeat (k :: seen) (o + 8) rest

/-- Entry `e` breaks the test of code 0x04. -/
def Dev.entryBad (d : Dev) (im : Image) (b e : Nat) : Bool :=
  let v := imageEntry im e
  if v = 0xFFFF then e == 0
  else
    let w := d.codeWord b (4 * e)
    decide (im.nwords ≤ v) || decide (im.nwords < 4 * e + 1) ||
      (v != 4 * e && !(bits w 31 22 == 0x30 && (word (4 * e) + (w.setWidth 22).signExtend 32).toNat == v))

/-- The length an image should have (code 0x03). -/
def Image.expect (im : Image) : Nat :=
  64 + 8 * im.npre + (if im.inplace then 0 else 4 * im.nwords) + (if im.tagged then 16 else 0)

/-- The table "Verify results": code and DETAIL of an image whose code is in bank `b` (R297; DETAIL, log entry 7). -/
def Dev.verify (d : Dev) (im : Image) (b : Nat) : Nat × Nat :=
  let h := im.header
  let res := (List.range 12).map (fun k => (52 + k, h.getD (52 + k) 0 != 0))
  if im.field 0 4 ≠ 0x4F445A31 then (0x01, 0)
  else match firstBad ([(4, im.field 4 2 != 1), (6, im.field 6 2 != 64), (10, 4 ≤ im.field 10 2),
      (44, 64 ≤ im.field 44 1), (45, 64 ≤ im.field 45 1)] ++ res) with
  | some o => (0x02, o)
  | none => match presetBad (im.presets.length / 8) 64 im.presets with
  | some o => (0x02, o)
  | none =>
    if im.nwords = 0 ∨ 8192 < im.nwords then (0x03, 8)
    else if 64 < im.npre then (0x03, 46)
    else match presetRepeat [] 64 im.presetEntries with
    | some o => (0x03, o)
    | none =>
      if im.length ≠ im.expect then (0x03, im.expect % 65536)
      else match (List.range 5).find? (d.entryBad im b) with
      | some e => (0x04, e)
      | none =>
        if im.preserve % 4 ≠ 0 ∨ 16384 < im.preserve then (0x05, 26)
        else
          let msg := h ++ im.presets ++ d.codeBytes b im.nwords
          let zeroed := (h.take 12 ++ [0, 0, 0, 0] ++ h.drop 16) ++ im.presets ++ d.codeBytes b im.nwords
          let keyset := d.is R.OTP_SEC_KEYSET
          if (crc32 zeroed).toNat ≠ im.field 12 4 then (0x06, 12)
          else if keyset = true ∧ d.is R.OTP_SEC_AUTHREQ = true ∧ im.tagged = false then (0x07, 10)
          else if im.tagged = false then (0x00, 0)
          else if keyset = false then (0x09, 10)
          else if cmac ((List.range 16).map (fun k => byte (Config.programKey.toNat / 256 ^ (15 - k)))) msg = im.tag then (0x00, 0)
          else (0x08, 10)

/-- SEQ_VRES written. -/
def Dev.setVres (d : Dev) (r : Nat × Nat) : Dev := (d.put R.SEQ_VRES_CODE r.1).put R.SEQ_VRES_DETAIL r.2

/-- PROG_VERIFY of the loaded shadow image: the code of the result (R297, R474). `written` tells that the shadow bank is
written while it runs: CHANGED, where no test failed. -/
def Dev.progVerify (d : Dev) (written : Bool) : Nat × Dev :=
  match d.seq.shadow with
  | none => (0xFF, d)
  | some im =>
    if !d.is R.SEQ_STATUS_SLOADED then (0xFF, d)
    else
      let r := d.verify im d.shadowBank
      let r := if written && r.1 == 0 then (0x0A, 0) else r
      (r.1, (d.setVres r).putB R.SEQ_STATUS_SVERIFIED (r.1 == 0))

/-! ### Activation (R300) -/

/-- A timer of the preset table loaded with its configuration and preset, idle. -/
def Dev.presetIdle (d : Dev) (p : Nat × Nat × Nat) : Dev :=
  ((d.setReg (R.TM_CFG p.1) (word p.2.1 &&& 0x3F7F)).put (R.TM_PRESET_PRESET p.1) p.2.2).tmSet p.1 false false 0

/-- The safe values of the image that becomes active (R294, R373). -/
def Dev.safeTake (d : Dev) (im : Image) : Dev :=
  { d with panel := { d.panel with safe := ((im.header.getD 44 0).toNat, (im.header.getD 45 0).toNat) } }

/-- The active bank has been verified off line: presets, SEQ_IMGVER, the safe state ends, RESET is raised (R300, R368,
R292). -/
def Dev.activate (d : Dev) (im : Image) : Dev :=
  let d := (im.presetEntries.foldl Dev.presetIdle d).safeTake im
  let d := d.setReg R.SEQ_IMGVER (word (im.field 48 4))
  let d := (d.put R.SEQ_STATUS_AVERIFIED 1).put R.GPIO_STATUS_SAFE 0
  let d := (d.put R.SEQ_STATUS_STATE sqIdle).put R.SEQ_STATUS_ENTRY 0
  let d := { d with seq := { d.seq with active := some im, wait := none, pReset := true, pTick := false, pFrame := false,
                                        pFault := false, lateTicks := 0, enteredAt := d.clock } }
  if d.st = stReady then d.setSt stBootWait else d

/-- The shadow bank becomes active; the shadow then holds no loaded image (R300, R373; log entry 7). -/
def Dev.switchBanks (d : Dev) (im : Image) : Dev :=
  let d := d.put R.SEQ_STATUS_ACTIVE d.shadowBank
  let d := ((d.put R.SEQ_STATUS_SLOADED 0).put R.SEQ_STATUS_SVERIFIED 0).put R.SEQ_STATUS_AVERIFIED 1
  { d with seq := { d.seq with active := some im, shadow := none } }

/-! ### The swap (R372–R376, R379, R381) -/

/-- The tests 0x03: a retained timer listed with another MODE, BASE or SRC. -/
def Dev.retainMismatch (d : Dev) (im : Image) : Option Nat :=
  (im.presetEntries.find? (fun p => bitOf (im.field 28 8) p.1 &&
    (p.2.1 % 8 != d.get (R.TM_CFG_MODE p.1) || p.2.1 / 8 % 4 != d.get (R.TM_CFG_BASE p.1) ||
      p.2.1 / 64 % 2 != d.get (R.TM_CFG_SRC p.1)))).map (·.1)

/-- The first of codes 0x01 to 0x06 that holds, with its DETAIL; `again` at the swap tick, where BUSY is no test. -/
def Dev.swapCause (d : Dev) (again : Bool) : Option (Nat × Nat) :=
  let off := d.st == stBootWait || d.st == stReady
  let mismatch := if off then none else d.seq.shadow.bind d.retainMismatch
  if !d.is R.SEQ_STATUS_SLOADED || d.seq.shadow.isNone then some (0x01, 0)
  else if !d.is R.SEQ_STATUS_SVERIFIED then some (0x02, 0)
  else match mismatch with
  | some k => some (0x03, k)
  | none =>
    if !again && d.seq.swapWait.isSome then some (0x04, 0)
    else if d.st != stRunning && !off then some (0x05, 0)
    else if !off && (d.sq == sqHalted || d.sq == sqBreak) then some (0x06, 0) else none

/-- A swap that took force: GPIO_SWAPST (R376). -/
def Dev.swapDone (d : Dev) : Dev :=
  ((((d.put R.GPIO_SWAPST_CODE 0).put R.GPIO_SWAPST_STATE 2).put R.GPIO_SWAPST_DETAIL 0).put R.GPIO_SWAPST_TICK
    (d.get R.TICK_COUNT_COUNT))

/-- Timer TMk across the swap (table "State across a swap"). -/
def Dev.timerCross (d : Dev) (im : Image) (k : Nat) : Dev :=
  let kept := bitOf (im.field 28 8) k
  let d := match im.presetEntries.find? (fun p => p.1 == k) with
    | none => d
    | some p => (d.setReg (R.TM_CFG k) (word p.2.1 &&& 0x3F7F)).put (R.TM_PRESET_PRESET k) p.2.2
  if kept then
    -- a detector that is not retained shows its fresh F as a level, not as an edge (R379)
    if d.is (R.TM_CFG_SRC k) && !bitOf (im.field 36 8) (d.get (R.TM_CFG_EDSEL k)) then
      { d with panel := { d.panel with tmPrev := setBit d.panel.tmPrev k (d.tmInput k) } }
    else d
  else
    let d := (d.tmSet k false false 0).setExp k false
    let d := d.put (R.TM_STAT_IN k) 0
    let inp := d.tmInput k
    { d with panel := { d.panel with tmPrev := setBit d.panel.tmPrev k inp, tmTrig := setBit d.panel.tmTrig k false,
                                     tmFrac := d.panel.tmFrac.filter (fun e => e.1 != k) } }

/-- Edge detector EDk across the swap. -/
def Dev.edgeCross (d : Dev) (im : Image) (k : Nat) : Dev :=
  if bitOf (im.field 36 8) k then d
  else
    let d := (d.put (R.ED_STAT_CNT k) 0).setLat k false
    if d.is (R.ED_CFG_EN k) then d.setF k (d.edLevelNow k) else d

/-- The swap takes force at a tick (R373, R374): banks, DMEM above PRESERVE, edge detectors, timers, SWAPPED. -/
def Dev.swapNow (d : Dev) (im : Image) : Dev :=
  let d := (d.switchBanks im).safeTake im
  let d := d.setReg R.SEQ_IMGVER (word (im.field 48 4))
  let d : Dev := { d with mem := { d.mem with dmem := sparseDrop (fun a => decide (im.preserve ≤ a)) d.mem.dmem } }
  let d := (List.range 64).foldl (fun d k => d.edgeCross im k) d
  let d := (List.range 64).foldl (fun d k => d.timerCross im k) d
  let d := d.put R.SEQ_STATUS_SWAPPED 1
  let tag := d.seq.swapTag
  let d : Dev := { d with seq := { d.seq with swapWait := none } }
  let d := d.swapDone
  let d := d.report (d.programReport 0 0 tag)
  d.endAsyncs (d.asyncsOf 0x12) csOk (d.get R.GPIO_SWAPST_TICK)

/-- A pending swap is refused (R376): GPIO_SWAPST, the PROGRAM report, the COMPLETION. -/
def Dev.swapFail (d : Dev) (c : Nat × Nat) : Dev :=
  let d := d.swapRefuse c.1 c.2 d.seq.swapTag
  d.endAsyncs (d.asyncsOf 0x12) csRefused c.1

/-- The pending swap at a tick (R372, R376, R380, R381): a sequencer that is halted, or in BREAK, refuses it; at the first
tick with an idle sequencer, no FAULT entry due either, its tests are made again, and then it takes force. -/
def Dev.swapTick (d : Dev) : Dev :=
  match d.seq.swapWait, d.seq.shadow with
  | some n, some im =>
    if d.sq = sqHalted ∨ d.sq = sqBreak then d.swapFail (0x06, 0)
    else if d.sq = sqIdle ∧ d.seq.pFault = false then
      match d.swapCause true with
      | some c => d.swapFail c
      | none => d.swapNow im
    else if 64 ≤ n + 1 then d.swapFail (0x07, 0)
    else { d with seq := { d.seq with swapWait := some (n + 1) } }
  | some _, none => d.swapFail (0x01, 0)
  | none, _ => d

/-- SWAP_NO_IDLE: the 64th tick comes without an idle sequencer, as the 63 that the swap has waited. -/
def Dev.swapNoIdle (d : Dev) : Dev :=
  if d.seq.swapWait.any (fun n => decide (63 ≤ n)) && d.sq != sqIdle then d.swapFail (0x07, 0) else d

/-! ### Flash boot (R299, R563) -/

/-- One byte of the flash image at its place `p`: header, preset table, code into bank A, tag. -/
def Dev.bootByte (d : Dev) (b : Byte) : Dev :=
  let p := d.seq.bootPos
  let im := d.seq.active.getD ⟨[], [], [], 0⟩
  let np := 8 * min 64 im.npre
  let code := if im.inplace then 0 else 4 * min 8192 im.nwords
  let put (d : Dev) (im : Image) : Dev :=
    { d with seq := { d.seq with active := some { im with length := p + 1 }, bootPos := p + 1 } }
  if p < 64 then put d { im with header := im.header ++ [b] }
  else if p < 64 + np then put d { im with presets := im.presets ++ [b] }
  else if p < 64 + np + code then
    put { d with mem := { d.mem with imemA := sparseSet imemDflt d.mem.imemA (p - 64 - np) b } } im
  else put d { im with tag := im.tag ++ [b] }

/-- Bytes of the image still to be read after the header; none when the header fails at once. -/
def Dev.bootLeft (d : Dev) : Nat :=
  match d.seq.active with
  | none => 64
  | some im =>
    if d.seq.bootPos < 64 then 64 - d.seq.bootPos
    else if im.field 0 4 ≠ 0x4F445A31 ∨ 8192 < im.nwords ∨ 64 < im.npre then 0
    else im.expect - d.seq.bootPos

/-- The image has been read: bank A is verified and made ready to run, or the boot fails (R299, R300). -/
def Dev.bootVerify (d : Dev) : Dev :=
  let d := { d with seq := { d.seq with bootFrom := none } }
  match d.seq.active with
  | none => d
  | some im =>
    let r := d.verify im 0
    let d := (d.setVres r).put R.SEQ_STATUS_ACTIVE 0
    if r.1 = 0 then d.activate im else d.put R.SEQ_STATUS_AVERIFIED 0

/-- BOOT_TIMEOUT: the boot is not complete 30 ms after end of reset (R299). -/
def Dev.bootTimeout (d : Dev) : Dev :=
  if d.seq.bootFrom.any (fun t => decide (t + 30000 ≤ d.clock)) && d.seqOn then
    let d := d.setVres (0x0B, 0)
    let d := d.put R.SEQ_STATUS_AVERIFIED 0
    ({ d with seq := { d.seq with bootFrom := none } } : Dev).ppBootDrop
  else d

end Sys2Proof.Machine
end

