-- ==== Sys2Proof/Machine/Ring.lean ====
section
/-!
DEFINITION. Machine/Ring.lean: what a cluster node puts on the ring (chapter 16): frames and their sequence numbers,
the coding of deltas, NOISE, CORR, RETRY, STAGE; and what a node makes of a STAGE. Where the spec gives a frame's
content and no layout, the model lays it out in the order the content is listed, little-endian (log entry 16).
-/

namespace Sys2Proof.Machine

/-! ### Frames (R524, R535) -/

def frEnum : Nat := 0x01
def frConfig : Nat := 0x02
def frCheck : Nat := 0x03
def frCheckr : Nat := 0x04
def frStage : Nat := 0x10
def frRetry : Nat := 0x11
def frNoise : Nat := 0x20
def frCorr : Nat := 0x21
def frDelta : Nat := 0x22
def frCald : Nat := 0x30
def frCalr : Nat := 0x31
def frAck : Nat := 0x40
def frLeave : Nat := 0x41

def Dev.clNode (d : Dev) : Nat := d.get R.CL_STATUS_NODE

/-- A frame sent with the next SEQ of its type (R524); one from a member to the lead waits for its ACK (R535). The RING
domain must be on. -/
def Dev.clSend (d : Dev) (typ dst frame : Nat) (body : List Byte) : Dev :=
  if !d.domOn 8 then d
  else
    let q := (d.cl.seqs.lookup typ).getD 0
    let f : RingFrame := ⟨typ, d.clNode, dst, q, frame, body, ringCrc typ d.clNode dst q frame body⟩
    { d with cl := { d.cl with
        tx := d.cl.tx ++ [f], seqs := (typ, (q + 1) % 256) :: d.cl.seqs.filter (fun e => e.1 != typ),
        unacked := if d.isMember && dst == 0 then d.cl.unacked ++ [⟨f, 0⟩] else d.cl.unacked } }

/-- A frame forwarded as it is, with the CRC that it came with (R514). -/
def Dev.clForward (d : Dev) (f : RingFrame) : Dev :=
  if d.domOn 8 && d.isMember then { d with cl := { d.cl with tx := d.cl.tx ++ [f] } } else d

/-- Broadcast address. -/
def clAll : Nat := 0x0F

/-- A member of a running cluster, its lead. -/
def Dev.clMember (d : Dev) : Bool := d.enumerated && d.isMember
def Dev.clLead (d : Dev) : Bool := d.enumerated && d.isLead

/-- Members of the cluster, on the lead. -/
def Dev.clNodes (d : Dev) : List Nat := (List.range (d.get R.CL_STATUS_NMEMB)).map (· + 1)

/-! ### Noise (R118) -/

/-- The powers that this node computed for entry `h`: mean and maximum over its unclipped inputs, and their count. -/
def Dev.noisePower (d : Dev) (h : Nat) : Nat × Nat × Nat :=
  let f := d.get (R.HOP_TABLE_FREQ h)
  let good := d.acq.listen.filter (fun e => !e.2.1)
  if good.isEmpty || f < 4000 || 60000 < f then (0, 0, 0)
  else
    let p := good.map (fun e => demodPower e.2.2 (d.demodFreq f))
    (p.sum / good.length, p.foldl max 0, good.length)

/-- A member sends its NOISE frame when its demodulation ends (R526). -/
def Dev.clNoise (d : Dev) (frame : Nat) : Dev :=
  if d.clMember then
    d.clSend frNoise 0 frame ((List.range 8).flatMap (fun h =>
      let p := d.noisePower h
      leBytes 16 p.1 ++ leBytes 16 p.2.1 ++ [byte p.2.2]))
  else d

/-- Samples of one recorded input in the slot just listened to: 8 MS/s, 4 MS/s without interleave (R102, R251), over LEN
µs or the 100 µs of Heath (R119). -/
def Dev.listenSamples (d : Dev) (heath : Bool) : Nat :=
  (if d.acq.slow then 4 else 8) * (if heath then 100 else d.get R.HOP_LISTEN_LEN)

/-- The lead's levels combined with those that its members sent (R118): NMAX the maximum over the nodes, NMEAN over all
unclipped inputs. Where no node has an unclipped input both are 511, as R105 has it for one device, also on a lead without
a recorded input of its own (DESIGN CHOICE, log entry 19). WORST stays that of the lead's own pairs, because a member's
pair has no number there (DESIGN CHOICE, log entry 19). -/
def Dev.hopCombine (d : Dev) (heath : Bool) : Dev :=
  if !d.clLead || d.hop.mPow.isEmpty then d
  else
    let len := (d.acq.listen.map (fun e => e.2.2.length)).foldl max 0
    let d' := (List.range 8).foldl (fun (a : Dev) h =>
      let f := a.get (R.HOP_TABLE_FREQ h)
      if f < 4000 ∨ 60000 < f then a
      else
        let full := demodFull (if len = 0 then a.listenSamples heath else len) (d.demodFreq f)
        let ps := a.noisePower h :: (a.hop.mPow.map (fun m => m.2.getD h (0, 0, 0)))
        let n := (ps.map (·.2.2)).sum
        let mx := (ps.map (·.2.1)).foldl max 0
        if n = 0 then (a.put (R.HOP_NOISE_NMAX h) 511).put (R.HOP_NOISE_NMEAN h) 511
        else
          let a := a.put (R.HOP_NOISE_NMAX h)
            (max (if (a.noisePower h).2.2 = 0 then 0 else a.get (R.HOP_NOISE_NMAX h)) (nlevOf mx full))
          a.put (R.HOP_NOISE_NMEAN h) (nlevOf ((ps.map (fun p => p.1 * p.2.2)).sum) (full * n))) d
    d'

/-! ### Corrupt symbols and retries (R89, R526) -/

/-- The mutual scan of a cluster node: the exchange gap and the retry interval follow it (R526), with no retry until the
lead has chosen (R89); a member sends CORR. -/
def Dev.clMutual (d : Dev) : Dev :=
  match d.acq.now with
  | none => d
  | some f =>
    if !d.enumerated || !f.mutDone then d
    else
      let own := f.ask
      let gap := d.clock + d.get R.CL_CFG_XGAP
      let d : Dev := { d with acq := { d.acq with
        now := some { f with ask := [], clCorr := own, exch := some (gap, gap + d.retryInterval f) } } }
      if d.isMember then
        d.clSend frCorr 0 (f.tick % 65536) ((List.range (d.codeLen / 8)).map (fun k =>
          byte (((List.range 8).filter (fun b => own.contains (8 * k + b))).map (2 ^ ·)).sum))
      else d

/-- The lead chooses the retries from its own corrupt symbols and those received, and sends RETRY, in the exchange gap (R89,
R526). -/
def Dev.clChoose (d : Dev) : Dev :=
  match d.acq.now with
  | none => d
  | some f =>
    if !d.clLead || !d.inGap f || d.cl.retry.isSome then d
    else
      let all := (f.clCorr ++ d.cl.corr.flatMap (·.2)).dedup
      let pick := ((List.range d.codeLen).filter (all.contains ·)).take (d.get R.ACQ_AFE_RETRY)
      let d : Dev := { d with cl := { d.cl with retry := some pick, retryAck := false },
                              acq := { d.acq with now := some { f with ask := pick, ncorr := all.length } } }
      d.clSend frRetry clAll (f.tick % 65536) (pick.flatMap (leBytes 2))

/-! ### Deltas (R532) -/

/-- The leading elements of a list that meet `p`, at most `n` of them. -/
def takeRun (p : Int → Bool) : Nat → List Int → List Int
  | 0, _ => []
  | _, [] => []
  | n + 1, x :: xs => if p x then x :: takeRun p n xs else []

/-- The tokens of a list of coded values (table "Delta tokens"). -/
def deltaTokens : Nat → List Int → List Byte
  | 0, _ => []
  | _, [] => []
  | fuel + 1, x :: xs =>
    if x = 0 then
      let r := takeRun (· == 0) 128 (x :: xs)
      byte (r.length - 1) :: deltaTokens fuel ((x :: xs).drop r.length)
    else
      let r := takeRun (· != 0) 64 (x :: xs)
      let w := if r.all (fun v => decide (v.natAbs ≤ 32767)) then 2 else 3
      byte ((if w = 2 then 0x80 else 0xC0) + (r.length - 1)) ::
        (r.flatMap (fun v => leBytes w (unsigned (8 * w) v)) ++ deltaTokens fuel ((x :: xs).drop r.length))

/-- `n` signed values of `w` bytes. -/
def leInts (w : Nat) : Nat → List Byte → List Int
  | 0, _ => []
  | n + 1, bs => signed (8 * w) (leNat (bs.take w)) :: leInts w n (bs.drop w)

/-- The values that tokens hold. -/
def deltaValues : Nat → List Byte → List Int
  | 0, _ => []
  | _, [] => []
  | fuel + 1, t :: bs =>
    let k := t.toNat
    if k < 0x80 then List.replicate (k + 1) 0 ++ deltaValues fuel bs
    else
      let w := if k < 0xC0 then 2 else 3
      let n := k % 64 + 1
      leInts w n bs ++ deltaValues fuel (bs.drop (w * n))

/-- Where the values that tokens hold stand, the first token being at offset `o`: each value's token, and the first and
the last of its own bytes. -/
def deltaPlaces : Nat → Nat → List Byte → List (Nat × Nat × Nat)
  | 0, _, _ => []
  | _, _, [] => []
  | fuel + 1, o, t :: bs =>
    let k := t.toNat
    if k < 0x80 then List.replicate (k + 1) (o, o, o) ++ deltaPlaces fuel (o + 1) bs
    else
      let w := if k < 0xC0 then 2 else 3
      let n := k % 64 + 1
      (List.range n).map (fun i => (o, o + 1 + w * i, o + w * (i + 1))) ++ deltaPlaces fuel (o + 1 + w * n) (bs.drop (w * n))

/-- A delta as sent: 0 below the threshold (R532). -/
def sparse (thr : Nat) (v : Int) : Int := if v.natAbs < thr then 0 else clampI (-8388608) 8388607 v

/-- The tokens of one own column. -/
def Dev.colTokens (d : Dev) (c : Nat) : List Byte :=
  let es := d.img.els.filter (fun e => e.isM && e.c == c)
  deltaTokens (es.length + 1) (es.map (fun e => sparse (d.get R.CL_CFG_SPTHR) (e.delta d.img.hasM d.img.hasS)))

/-- The tokens of both own profiles. -/
def Dev.profTokens (d : Dev) : List Byte :=
  let es := (d.img.els.filter (fun e => e.kind == 1)) ++ (d.img.els.filter (fun e => e.kind == 2))
  deltaTokens (es.length + 1) (es.map (fun e => sparse (d.get R.CL_CFG_SPTHR / 10) (e.delta d.img.hasM d.img.hasS)))

/-- One column is stale in this frame: every element of it is. -/
def Dev.colStale (d : Dev) (c : Nat) : Bool := (d.img.els.filter (fun e => e.isM && e.c == c)).all (·.stale)

/-- Own columns, ascending. -/
def Dev.ownCols (d : Dev) : List Nat := ((d.senseChannels.map d.elIndex)).mergeSort (fun a b => a ≤ b)
def Dev.ownRows (d : Dev) : List Nat := ((d.elsOf 1).map d.elIndex).mergeSort (fun a b => a ≤ b)

/-- The columns packed whole into frames of at most 1024 payload bytes; a column that fits no frame ends it. Each frame:
first index, columns, tokens. -/
def packCols : List (Nat × List Byte) → Option (Nat × Nat × List Byte) → List (Nat × Nat × List Byte)
  | [], cur => cur.toList
  | (i, t) :: rest, cur =>
    if 1016 < t.length then cur.toList
    else match cur with
      | none => packCols rest (some (i, 1, t))
      | some (a, n, ts) =>
        if ts.length + t.length ≤ 1016 ∧ n < 32 then packCols rest (some (a, n + 1, ts ++ t))
        else (a, n, ts) :: packCols rest (some (i, 1, t))

/-- The payload bytes of a DELTA that sends the packed columns, and in its last frame `miss` stale ones of `z` bytes each
and the profiles. -/
def deltaBytes (packed : List (Nat × Nat × List Byte)) (miss z prof : Nat) : Nat :=
  (packed.map (fun p => p.2.2.length + 8)).sum + 8 + miss * z + prof

/-- The frames of a DELTA of at most `cap` bytes (R532): as many of the columns as fit, packed. -/
def deltaPack (cols : List (Nat × List Byte)) (z prof cap : Nat) : List (Nat × Nat × List Byte) :=
  let pack := fun (k : Nat) => packCols (cols.take k) none
  let fits := fun (k : Nat) => decide (deltaBytes (pack k) (cols.length - k) z prof ≤ cap)
  pack (((List.range (cols.length + 1)).reverse.find? fits).getD 0)

/-- A DELTA frame passes through the transmit buffer at offset `o` (R532): it is stored there, read again and sent, with
PSN where a word of it is poisoned. -/
def Dev.deltaOut (d : Dev) (frame o : Nat) (b : List Byte) : Dev :=
  let d := if o + b.length ≤ 0x10000 && d.xramOn o && d.xramOn (o + b.length - 1) then
      (d.xwriteClean clRing o b).eccTouch clRing o b.length
    else d
  let psn := !(d.poisonIn o b.length).isEmpty
  d.clSend frDelta 0 frame (if psn then b.set 2 (b.getD 2 0 ||| 2) else b)

/-- A member sends the DELTA frames of a processed frame (R526, R532). They stand in one half of CL_BUF, by the frame's
parity, one behind the other (DESIGN CHOICE, log entry 16). -/
def Dev.clDelta (d : Dev) (frame : Nat) : Dev :=
  if !d.clMember then d
  else
    let cols := d.ownCols
    let idx := (List.range cols.length).map (fun i => (i, d.colTokens (cols.getD i 0)))
    let prof := d.profTokens
    let zero := deltaTokens (d.nRows + 1) (List.replicate d.nRows 0)
    let packed := deltaPack idx zero.length prof.length (d.get R.CL_DCAP_DCAP)
    let sent := (packed.map (fun p => p.2.1)).sum
    let flags := 8 * d.get R.IMG_STATUS_SWSTATE + (if d.rejectedNow then 4 else 0) + 32 * d.get R.ACQ_STATUS_TCAP
    let stale := fun (a n : Nat) => (((List.range n).filter (fun i => d.colStale (cols.getD (a + i) 0))).map (2 ^ ·)).sum
    let mk := fun (a n fl st : Nat) (t : List Byte) => [byte a, byte n, byte fl, 0] ++ leBytes 4 st ++ t
    -- the last frame: the columns that did not fit are stale, the profiles follow
    let miss := min 32 (cols.length - sent)
    let last := mk sent miss (flags + 1) (2 ^ miss - 1) ((List.replicate miss zero).flatten ++ prof)
    let out := packed.map (fun p => mk p.1 p.2.1 flags (stale p.1 p.2.1) p.2.2) ++ [last]
    (out.foldl (fun (a : Dev × Nat) b => (a.1.deltaOut frame a.2 b, a.2 + b.length))
      (d, d.get R.CL_BUF_BASE + frame % 2 * d.get R.CL_DCAP_DCAP)).1

/-- A DELTA frame of member `src`, stored at offset `o`, taken by the lead: its columns' elements and, with LAST, its
profile entries (R532, R536). PSN and the stale bits make columns stale, a poisoned word those that it holds (R534), and
the rows of a node that has sent DOWN stay stale (R537, R544): they keep their previous values. -/
def Dev.clTake (d : Dev) (src o : Nat) (body : List Byte) : Dev :=
  let first := (body.getD 0 0).toNat
  let ncol := (body.getD 1 0).toNat
  let fl := (body.getD 2 0).toNat
  let lost := fun (a b : Nat) => !(d.poisonIn a (b + 1 - a)).isEmpty
  let fl := if lost o (o + 7) then fl ||| 2 else fl
  let stale := leNat ((body.drop 4).take 4)
  let vals := deltaValues body.length (body.drop 8)
  let bad := (deltaPlaces body.length (o + 8) (body.drop 8)).map (fun p => lost p.1 p.1 || lost p.2.1 p.2.2)
  let (cols, rows) := (d.cl.lines.lookup src).getD ([], [])
  let n := d.nRows
  let gone := fun (i : Nat) => bitOf fl 1 || bitOf stale i || ((bad.drop (i * n)).take n).any id
  let new := (List.range ncol).flatMap (fun i =>
    if gone i then []
    else ((List.range n).filter (fun r => !d.rowDown r)).map (fun r =>
      ((0, cols.getD (first + i) 0, r, vals.getD (i * n + r) 0, false) : Nat × Nat × Nat × Int × Bool)))
  let pv := (vals.zip bad).drop (ncol * n)
  let entry := fun (i kind c r : Nat) => (pv[i]?.filter (fun e => !e.2)).map (fun e =>
    ((kind, c, r, e.1, false) : Nat × Nat × Nat × Int × Bool))
  let prof := if bitOf fl 0 && !bitOf fl 1 then
      (List.range cols.length).filterMap (fun i => entry i 1 (cols.getD i 0) 0) ++
        (List.range rows.length).filterMap (fun i => entry (cols.length + i) 2 0 (rows.getD i 0))
    else []
  let add := new ++ prof
  let keep := d.cl.deltaEls.filter (fun e => !add.any (fun x => x.1 == e.1 && x.2.1 == e.2.1 && x.2.2.1 == e.2.2.1))
  let d := if bitOf fl 1 || (List.range ncol).any gone then d.put R.CL_STALEM_MEMB (setBit (d.get R.CL_STALEM_MEMB) (src - 1) true) else d
  { d with cl := { d.cl with deltaEls := keep ++ add } }

/-! ### STAGE (R529–R531) -/

/-- The rows of one column as runs of consecutive rows. -/
def rowRuns : List Nat → Option (Nat × Nat) → List (Nat × Nat)
  | [], cur => cur.toList
  | r :: rs, none => rowRuns rs (some (r, r))
  | r :: rs, some (a, b) => if r = b + 1 then rowRuns rs (some (a, r)) else (a, b) :: rowRuns rs (some (r, r))

/-- Nodes (kind 0) of a list of elements as runs: column, first row, last row. -/
def nodeRuns (nCols : Nat) (l : List (Nat × Nat × Nat)) : List (Nat × Nat × Nat) :=
  (List.range nCols).flatMap (fun c =>
    let rs := ((l.filter (fun e => e.1 == 0 && e.2.1 == c)).map (·.2.2)).mergeSort (fun a b => a ≤ b)
    (rowRuns rs none).map (fun p => (c, p.1, p.2)))

/-- Profile entries of a list of elements as ranges of columns and of rows; an empty range is 1 to 0. -/
def profRanges (l : List (Nat × Nat × Nat)) : List (Nat × Nat × Nat × Nat) :=
  let cs := ((l.filter (fun e => e.1 == 1)).map (fun e => e.2.1)).mergeSort (fun a b => a ≤ b)
  let rs := ((l.filter (fun e => e.1 == 2)).map (fun e => e.2.2)).mergeSort (fun a b => a ≤ b)
  ((rowRuns cs none).map (fun p => (p.1, p.2, 1, 0))) ++ ((rowRuns rs none).map (fun p => (1, 0, p.1, p.2)))

/-- A STAGE payload. -/
def Stage.bytes (s : Stage) : List Byte :=
  let run := fun (r : Nat × Nat × Nat) => leBytes 4 (r.1 + 512 * r.2.1 + 2 ^ 18 * r.2.2)
  let rng := fun (r : Nat × Nat × Nat × Nat) => leBytes 2 r.1 ++ leBytes 2 r.2.1 ++ leBytes 2 r.2.2.1 ++ leBytes 2 r.2.2.2
  leBytes 4 s.tick ++ [byte (s.flags % 128 + (if s.more then 128 else 0)), byte s.drive] ++ leBytes 2 s.frz.length ++
    leBytes 2 s.rel.length ++ leBytes 2 s.prf.length ++ s.frz.flatMap run ++ s.rel.flatMap run ++ s.prf.flatMap rng

/-- `n` runs, `n` ranges read from bytes. -/
def runList : Nat → List Byte → List (Nat × Nat × Nat)
  | 0, _ => []
  | n + 1, bs =>
    let w := leNat (bs.take 4)
    (w % 512, w / 512 % 512, w / 2 ^ 18 % 512) :: runList n (bs.drop 4)
def rangeList : Nat → List Byte → List (Nat × Nat × Nat × Nat)
  | 0, _ => []
  | n + 1, bs => (leNat (bs.take 2), leNat ((bs.drop 2).take 2), leNat ((bs.drop 4).take 2), leNat ((bs.drop 6).take 2)) ::
      rangeList n (bs.drop 8)

/-- A STAGE read from its payload. -/
def stageOf (bs : List Byte) : Stage :=
  let f := fun (o n : Nat) => leNat ((bs.drop o).take n)
  ⟨f 0 4, f 4 1 % 128, f 5 1, runList (f 6 2) (bs.drop 12), runList (f 8 2) (bs.drop (12 + 4 * f 6 2)),
    rangeList (f 10 2) (bs.drop (12 + 4 * f 6 2 + 4 * f 8 2)), bitOf (f 4 1) 7⟩

/-- A STAGE split into payloads of at most 1024 bytes (R530). -/
def Stage.split : Nat → Stage → List Stage
  | 0, s => [s]
  | k + 1, s =>
    if s.frz.length + s.rel.length + 2 * s.prf.length ≤ 253 then [{ s with more := false }]
    else if 200 < s.frz.length then
      { s with frz := s.frz.take 200, rel := [], prf := [], more := true } :: Stage.split k { s with frz := s.frz.drop 200 }
    else if 50 < s.rel.length then
      { s with rel := s.rel.take 50, prf := [], more := true } :: Stage.split k { s with frz := [], rel := s.rel.drop 50 }
    else { s with prf := s.prf.take 1, more := true } :: Stage.split k { s with frz := [], rel := [], prf := s.prf.drop 1 }

/-- Whether Gorse is to be active from the next tick, for the setting `g` of CT_CTRL.GORSE (R168). -/
def Dev.gorseWanted (d : Dev) (g : Nat) : Bool :=
  if g = 2 then true else if g = 1 then d.ct.gorseDue.getD d.gorseOn else false

/-- Whether hop entry `h` is enabled in the table as the staged writes will leave it (R123). -/
def Dev.hopEnNext (d : Dev) (h : Nat) : Bool := (R.HOP_TABLE_EN h).of (d.viewReg (R.HOP_TABLE h)) == 1

/-- The hop that the next tick applies, by the table as the staged writes will leave it (R121, R123). -/
def Dev.hopNext (d : Dev) : Option Nat :=
  (d.hop.forced.filter d.hopEnNext).orElse (fun _ => (d.hop.pending.map (·.1)).filter d.hopEnNext)

/-- The STAGE that the lead announces for its next tick (R529): pending hop, stop, re-formation, Gorse, Heath, run frames,
Lark; the lowest effective level over the nodes; freeze set and releases. -/
def Dev.stageNow (d : Dev) : Stage :=
  let hop := d.hopNext
  let b := fun (c : Bool) (k : Nat) => if c then 2 ^ k else 0
  let gorse := d.gorseWanted (R.CT_CTRL_GORSE.of (d.viewReg R.CT_CTRL))
  let heath := d.pwr.stateReq.any (fun q => q.kind == 1) || (d.st == stHeath && !d.pwr.waking)
  let lark := bitOf (d.viewReg R.CT_CTRL).toNat 2
  let cap := d.tempCap
  let lvl0 := min (if gorse then 3 else (R.ACQ_DRV_LEVEL).of (d.viewReg R.ACQ_DRV)) (d.get R.ACQ_DRV_VMAX)
  let lvl := if cap then min lvl0 2 else lvl0
  ⟨(d.get R.TICK_COUNT_COUNT + 1) % 2 ^ 32,
    b hop.isSome 0 + b (d.cl.clearRun || d.st == stStopping) 1 + b d.cl.reform 2 + b gorse 3 + b heath 4 +
      b d.cal.touch.isSome 5 + b lark 6,
    hop.getD (d.get R.HOP_STATUS_CUR) + 16 * lvl + 64 * d.ownLark,
    nodeRuns d.nCols d.img.freeze, nodeRuns d.nCols d.cl.rel.dedup, profRanges d.img.freeze, false⟩

/-- The lead sends STAGE for its next tick (R526). -/
def Dev.stageSend (d : Dev) : Dev :=
  if !d.clLead || d.cl.sent.isSome then d
  else
    let s := d.stageNow
    let d : Dev := { d with cl := { d.cl with sent := some s, echoed := false, resent := 0 } }
    (Stage.split 64 s).foldl (fun (d : Dev) x => d.clSend frStage clAll d.frameNo x.bytes) d

/-- RUN has been cleared on the lead after the STAGE of the next tick went out: that tick's STAGE goes out again, with STOP (R541).
-/
def Dev.stageStop (d : Dev) : Dev :=
  if d.clLead && d.cl.clearRun && d.cl.sent.any (fun s => !bitOf s.flags 1) then
    ({ d with cl := { d.cl with sent := none, staged := none } } : Dev).stageSend
  else d

/-- The elements that runs and ranges name. -/
def stageEls (runs : List (Nat × Nat × Nat)) (prf : List (Nat × Nat × Nat × Nat)) : List (Nat × Nat × Nat) :=
  let upto := fun (a b : Nat) => (List.range (b + 1 - a)).map (· + a)
  runs.flatMap (fun r => (upto r.2.1 r.2.2).map (fun k => (0, r.1, k))) ++
    prf.flatMap (fun p => (upto p.1 p.2.1).map (fun c => (1, c, 0)) ++ (upto p.2.2.1 p.2.2.2).map (fun r => (2, 0, r)))

/-- The area of the releases that runs name: their nodes, and the profile entries of the lines that these span, which are
those of the contacts' freeze areas (R141, R144, R530). -/
def releaseEls (runs : List (Nat × Nat × Nat)) : List (Nat × Nat × Nat) :=
  let upto := fun (a b : Nat) => (List.range (b + 1 - a)).map (· + a)
  stageEls runs [] ++ ((runs.map (·.1)).dedup.map (fun c => (1, c, 0))) ++
    ((runs.flatMap (fun r => upto r.2.1 r.2.2)).dedup.map (fun r => (2, 0, r)))

end Sys2Proof.Machine
end

