-- ==== Sys2Proof/Machine/Periph.lean ====
section
/-!
DEFINITION. Machine/Periph.lean: the periphery port (chapter 17): descriptors and their refusals, the queue, frames on
the port, timeouts, drain, and boot frames.
-/

namespace Sys2Proof.Machine

/-! ### Areas (R468) -/

/-- Whether bytes `o`..`o+n-1` meet the ring at `base` of `size` bytes, enabled by `en`. -/
def meetsRing (en : Bool) (base size o n : Nat) : Bool := en && decide (0 < n) && decide (o < base + size) && decide (base < o + n)

/-- A valid area: aligned to 4, inside XRAM, in banks that are on, outside the enabled rings. -/
def Dev.areaValid (d : Dev) (o n : Nat) : Bool :=
  o % 4 == 0 &&
    (n == 0 || (decide (o + n ≤ 0x10000) && d.xramOn o && d.xramOn (o + n - 1) &&
      !meetsRing (d.is R.CQ_CTRL_EN) (d.get R.CQ_GEOM_BASE) (2 ^ d.get R.CQ_GEOM_SZ) o n &&
      !meetsRing (d.is R.RQ_CTRL_EN) (d.get R.RQ_GEOM_BASE) (2 ^ d.get R.RQ_GEOM_SZ) o n))

/-! ### Descriptors (R550, R551, R559, R560) -/

/-- The transfer that descriptor `k` describes. -/
def Dev.ppDesc (d : Dev) (k : Nat) : Xfer :=
  ⟨k, none, (d.reg (R.PP_DCTL k)).toNat, (d.reg (R.PP_DCMD k)).toNat, (d.reg (R.PP_DADR k)).toNat, (d.reg (R.PP_DBUF k)).toNat⟩

/-- A field of the transfer is out of its range, or R551 is broken (R560 case 2). -/
def Xfer.bad (x : Xfer) : Bool :=
  x.target == 7 || x.ctl / 16 % 4 == 3 || x.ctl / 64 % 4 == 3 || x.dlane == 3 || x.clen == 3 || 5 ≤ x.alen ||
    4096 < x.dlen || (x.isRead && x.dlane != 0 && x.dummy == 0 && x.dlen != 0)

/-- While a frame runs, the port reads the first bytes of the next queued write (R552): at the frame's start, or as the
write joins the queue (DESIGN CHOICE, log entry 17). -/
def Dev.ppAhead (d : Dev) : Dev :=
  if d.pp.active.isNone || d.pp.ahead.isSome then d
  else match d.pp.queue.find? (fun x => !x.isRead) with
    | none => d
    | some x =>
      let n := min x.dlen 64
      ({ d with pp := { d.pp with ahead := some ⟨x, d.xbytes x.area n, d.firstPoison x.area n⟩ } } : Dev).eccTouch clPeri x.area n

/-- A transfer joins the queue. -/
def Dev.ppJoin (d : Dev) (x : Xfer) : Dev :=
  let d := if x.desc < 8 then (d.ppState x.desc 1).put (R.PP_DSTAT_COUNT x.desc) 0 else d
  (d.ppQueue (d.pp.queue ++ [x])).ppAhead

/-- The first case of R560 that holds. -/
def Dev.ppRefusal (d : Dev) (k : Nat) : Option Nat :=
  let x := d.ppDesc k
  if d.ppBusy k then some 1
  else if x.bad || x.start == 3 then some 2
  else if !d.areaValid x.area x.dlen then some 3
  else if x.start = 0 ∧ 16 ≤ d.pp.queue.length then some 4 else none

/-- Whether the port can take transfers: its domain is on and no flash boot is under way (R563). -/
def Dev.ppOpen (d : Dev) : Bool := d.domOn 9 && d.seq.bootFrom.isNone

/-- GO for one descriptor (R559, R560). -/
def Dev.ppGo (d : Dev) (k : Nat) : Dev :=
  if !d.ppOpen then d
  else match d.ppRefusal k with
    | some c =>
      ((d.put (R.PP_DSTAT_CAUSE k) c).ppState k 7).event evPp
    | none =>
      let d := d.put (R.PP_DSTAT_CAUSE k) 0
      if (d.ppDesc k).start = 0 then d.ppJoin (d.ppDesc k) else (d.ppState k 0).put (R.PP_DSTAT_ARMED k) 1

def Dev.ppGoStart (d : Dev) (m : Nat) : Dev := (bitsOf 8 m).foldl Dev.ppGo d

/-- STOP for one descriptor (R559). -/
def Dev.ppStop (d : Dev) (k : Nat) : Dev :=
  if !d.domOn 9 || !d.ppBusy k then d
  else
    let d := d.put (R.PP_DSTAT_ARMED k) 0
    if d.ppActive k then d
    else
      (d.ppQueue (d.pp.queue.filter (fun x => x.desc != k))).ppState k 5

def Dev.ppGoStop (d : Dev) (m : Nat) : Dev := (bitsOf 8 m).foldl Dev.ppStop d

/-- Armed descriptors join at a tick, ascending (R559). -/
def Dev.ppTick (d : Dev) : Dev :=
  if !d.ppOpen then d
  else (List.range 8).foldl (fun (d : Dev) k =>
    if !d.is (R.PP_DSTAT_ARMED k) then d
    else
      let x := d.ppDesc k
      let d := if x.start = 2 then d else d.put (R.PP_DSTAT_ARMED k) 0
      if d.ppQueued k || d.ppActive k then d.inc R.PP_COUNTS2_LO
      else if 16 ≤ d.pp.queue.length then ((d.put (R.PP_DSTAT_CAUSE k) 4).ppState k 7).event evPp
      else d.ppJoin x) d

/-- A write to one of the four words of a descriptor: ignored while it is queued, active or armed (R560). -/
def Dev.ppWordWrite (d : Dev) (k a : Nat) (v : Word) : Dev := if d.ppBusy k then d else d.setReg a v

/-! ### Frames (R550, R552, R553, R556, R558) -/

/-- The bytes of a value of `n` bytes, most significant first. -/
def beBytes (n v : Nat) : List Byte := (leBytes n v).reverse

/-- The bytes that a write has in the FIFO when its target is to be selected, with the first poisoned word among them:
they have been read ahead while another frame ran, or are read now (R552). -/
def Dev.ppPrefetch (d : Dev) (x : Xfer) : (List Byte × Option Nat) × Dev :=
  let n := min x.dlen 64
  if x.isRead then (([], none), d)
  else match d.pp.ahead.filter (fun a => a.x == x) with
    | some a => ((a.fifo, a.bad), { d with pp := { d.pp with ahead := none } })
    | none => ((d.xbytes x.area n, d.firstPoison x.area n), d.eccTouch clPeri x.area n)

/-- The target of `x` is selected, with what the FIFO holds, and its frame runs (R550, R553, R566). -/
def Dev.ppSelect (d : Dev) (x : Xfer) (fifo : List Byte) : Dev :=
  let d := if x.desc < 8 then d.ppState x.desc 2 else d
  let t := x.target
  let head := x.headWire (beBytes x.clen (x.cmdVal % 256 ^ x.clen)) (beBytes x.alen (x.adr % 256 ^ x.alen))
  let tc := if x.desc = 9 then 7 else (d.reg (R.PP_TCFG t)).toNat
  let f : PpFrame := ⟨x, tc, (d.reg (R.PP_TMARK t)).toNat, fifo, x.isRead && bitOf tc 11 && x.dlen != 0, false⟩
  let d : Dev := { d with pp := { d.pp with active := some f, wire := head } }
  (((d.put R.PP_STATUS_ACTIVE 1).put R.PP_STATUS_TARGET t).incWrap R.PP_COUNTS_LO).ppAhead

/-- PP_FRAME_START (R558): seated and with VDDIO up (R608, R614), the head of the queue is taken; a write prefetches up to
64 bytes and ends with ECC at a poisoned word before any select (R552, R562), unless counting that word halts the device. -/
def Dev.ppFrameStart (d : Dev) : Dev :=
  if !d.domOn 9 || d.pp.active.isSome || !d.is R.SYS_STATUS_SEATED || !d.is R.SYS_STATUS_VDDIOOK then d
  else match d.pp.queue with
    | [] => d
    | x :: rest =>
      let ((fifo, bad), d) := d.ppPrefetch x
      if d.pp.queue.isEmpty then d
      else match bad with
      | some w => (d.ppQueue rest).ppEnd x 6 0 (8 * w)
      | none => (d.ppQueue rest).ppSelect x fifo

/-- BUSYMAX busy bytes have passed without the mark (R556). -/
def Dev.markLate (_d : Dev) (f : PpFrame) (rx : List Byte) : Bool :=
  f.mark && decide (f.tmark / 65536 % 256 ≤ (markScan (f.tmark % 256) (f.tmark / 256 % 256) rx).1)

/-- The next boot frame, or the verification of the image that has been read (R299, R563). -/
def Dev.bootNext (d : Dev) : Dev :=
  let n := min 4096 d.bootLeft
  if n = 0 then d.bootVerify
  else d.ppJoin ⟨9, none, 8 + 1024 + 3 * 4096, 3 + 65536 * n, d.seq.bootPos, 0⟩

/-- PP_FRAME_END: the frame has moved all its data; `rx` holds the bytes received in the data phase of a read, busy bytes
and mark included (R550, R556, R561, R562). -/
def Dev.ppFrameEnd (d : Dev) (rx : List Byte) : Dev :=
  match d.pp.active with
  | none => d
  | some f =>
    if !d.ppLive then d
    else
      let x := f.x
      if x.isRead then
        let (r, d') := d.ppData f rx
        match r with
        | none => d
        | some data =>
          if data.length < x.dlen || d.markLate f rx then d
          else
            let data := data.take x.dlen
            let d := (d'.ppWire f (rx.length - (data.length - x.dlen))).ppIdle
            if x.desc = 9 then (data.foldl Dev.bootByte d).bootNext
            else
              let (bad, d) := d.ppStore x data
              let d := d.eccFlush
              match bad with
              | some w => d.ppEnd x 6 x.dlen (8 * w)
              | none => d.ppEnd x 3 x.dlen 0
      else
        let d := d.ppIdle
        let got := f.fifo.length
        match d.firstPoison (x.area + got) (x.dlen - got) with
        | some w =>
          let n := 8 * w - x.area
          ((d.ppWire f n).eccTouch clPeri (x.area + got) (max 1 (n + 1 - got))).ppEnd x 6 n (8 * w)
        | none => ((d.ppWire f x.dlen).eccTouch clPeri (x.area + got) (x.dlen - got)).ppEnd x 3 x.dlen 0

/-- The DETAIL of FS0D (table "Fault sources"). -/
def tmoDetail (x : Xfer) (busy : Nat) : Nat := x.target + 8 * busy + 256 * (if x.desc < 8 then x.desc else 0xFF)

/-- PP_PRDY_TIMEOUT (R555, R557). -/
def Dev.ppPrdyTimeout (d : Dev) (n : Nat) (rx : List Byte) : Dev :=
  match d.pp.active with
  | none => d
  | some f =>
    if !bitOf f.tcfg 10 || !d.ppLive then d
    else ((d.ppCut f 4 n rx).eccFlush.inc R.PP_COUNTS_HI).raise 0x0D (tmoDetail f.x 0)

/-- PP_MARK_TIMEOUT (R556, R557): BUSYMAX busy bytes have passed without the mark. -/
def Dev.ppMarkTimeout (d : Dev) (rx : List Byte) : Dev :=
  match d.pp.active with
  | none => d
  | some f =>
    if !d.ppLive || !d.markLate f rx then d
    else ((d.ppCut f 4 0 (rx.take (f.tmark / 65536 % 256))).eccFlush.inc R.PP_COUNTS_HI).raise 0x0D (tmoDetail f.x 1)

/-- PP_PRDY_READY: PRDY has risen again, and the frame goes on with its PSCK edges (R555): only time has passed. -/
def Dev.ppPrdyReady (d : Dev) : Dev := d

/-- PP_FIFO_RESUME: a paused frame goes on; it is counted once (R552, R570). -/
def Dev.ppFifoResume (d : Dev) : Dev :=
  match d.pp.active with
  | none => d
  | some f =>
    if d.ppNoPause f || !d.ppLive then d
    else
      let d := if f.paused then d else d.inc R.PP_COUNTS2_HI
      { d with pp := { d.pp with active := some { f with paused := true } } }

/-- Every transfer of the port ends with ABORTED, every armed descriptor is disarmed (R567, R569). `n` and `rx` are what
the frame in progress had moved. -/
def Dev.ppAbortAll (d : Dev) (n : Nat) (rx : List Byte) : Dev :=
  let d := match d.pp.active with
    | none => d
    | some f => (d.ppCut f 5 n rx).eccFlush
  let q := d.pp.queue
  let d := q.foldl (fun (d : Dev) x => d.ppEnd x 5 0 0) (d.ppQueue [])
  (List.range 8).foldl (fun (d : Dev) k => if d.is (R.PP_DSTAT_ARMED k) then d.ppAborted k else d) d

/-- PP_DRAIN_TIMEOUT (R567): 1 ms of drain has passed, or 1 ms in which a halt let the frame run on under the rules of DRAIN
(R463). -/
def Dev.ppDrainTimeout (d : Dev) (n : Nat) (rx : List Byte) : Dev :=
  if d.dom 9 = 3 ∨ d.pp.haltAt.any (fun t => decide (t + 1000 ≤ d.clock)) then d.ppAbortAll n rx else d

end Sys2Proof.Machine
end

