-- ==== Sys2Proof/Machine/Limits.lean ====
section
/-!
DEFINITION. Machine/Limits.lean: what the device computes before it accepts a setting or a request: the frame budget
(R50, R51, R80, R528, R588), the reservations of exchange RAM (R427–R430), the rings' geometry (R431), and what keeps a
domain from being switched off (R95, R429, R583).
-/

namespace Sys2Proof.Machine

/-! ### The frame budget -/

/-- The cluster's term (R528). -/
def Dev.clusterTerm (d : Dev) : Nat :=
  if d.enumerated then
    d.get R.CL_CFG_XGAP + d.get R.ACQ_AFE_RETRY * (d.get R.ACQ_CODE_MSETTLE + cyclesUs (d.get R.ACQ_CODE_P * d.symFactor) d.fMin)
  else 0

/-- T_ACQ of a plan with a listen length and ALT (R50, R528). -/
def Dev.tAcqOf (d : Dev) (listen : Nat) (plan : List Nat) (alt : Bool) : Nat :=
  let m := if plan.contains 1 then d.mutualTerm else 0
  let s := if plan.contains 2 then d.selfScanTerm + d.larkTerm plan else 0
  let a := if plan.contains 3 then approachTerm else 0
  10 + listen + (if alt then max m s else m + s) + a + d.clusterTerm

/-- T_ACQ and MINPER under the settings in force. -/
def Dev.tAcq (d : Dev) : Nat := d.tAcqOf (d.get R.HOP_LISTEN_LEN) d.plan (d.is R.TICK_PLAN_ALT)
def Dev.minPer (d : Dev) : Nat := d.tAcq + 150

/-- The phases of a Heath frame after the listen slot (R588). -/
def Dev.heathPlan (d : Dev) (hcfg : Nat) : List Nat :=
  [1] ++ (if bitOf hcfg 8 || d.is R.CT_CTRL_LARK then [2] else []) ++
    (if d.is R.OPT_CTRL_EN && d.is R.CT_WAKE_APPR then [3] else [])

/-- The Heath period in µs (R588). -/
def heathPeriod (hcfg : Nat) : Nat := 1000000 / (hcfg % 256)

/-- Whether the Heath frame fits the Heath period (R588). -/
def Dev.heathFits (d : Dev) : Bool :=
  let h := (d.reg R.PWR_HCFG).toNat
  decide (d.tAcqOf 100 (d.heathPlan h) false + 150 ≤ heathPeriod h)

/-- The shortest tick period of R51; a cluster member takes the one distributed at enumeration. -/
def Dev.shortestPeriod (d : Dev) : Nat :=
  match d.get R.TICK_CTRL_SRC with
  | 1 => 1000000 / (max 1 (d.get R.TICK_VSYNC_VMAX) * (d.get R.TICK_CTRL_RATIO + 1))
  | 2 => d.get R.CL_PERIOD_PERIOD
  | _ => d.get R.TICK_PERIOD_PERIOD

/-- The gating case of R51: no HSYNC lock, or a symbol longer than the quiet interval. -/
def Dev.gateBad (d : Dev) : Bool :=
  d.is R.TICK_CTRL_HSGATE &&
    (!d.is R.TICK_STATUS_HSLOCK || decide (d.get R.TICK_HSYNC_WIN * d.fMin < d.get R.ACQ_CODE_P * 4800000))

/-! ### Reservations (R427–R430) -/

/-- The reserved slots of client `c` in bank `b`, of a value of its XR_GUAR; recomputed for Heath with `heath`. -/
def guarOf (v : Word) (b : Nat) (heath : Bool) : Nat :=
  let r := v.toNat / 2 ^ (8 * b) % 64
  if heath && bitOf v.toNat 16 then 8 * r else r

/-- The sum in bank `b` over the values `vs`. -/
def guarSum (vs : List Word) (b : Nat) (heath : Bool) : Nat := (vs.map (fun v => guarOf v b heath)).sum

/-- The reservations in force, and those with the staged ones. -/
def Dev.guars (d : Dev) : List Word := (List.range 7).map (fun c => d.reg (R.XR_GUAR c))
def Dev.guarsStaged (d : Dev) : List Word := (List.range 7).map (fun c => d.viewReg (R.XR_GUAR c))

/-- The lowest bank whose recomputed sum exceeds 56 (R430). -/
def Dev.heathBank (d : Dev) : Option Nat := [0, 1].find? (fun b => decide (56 < guarSum d.guars b true))

/-- A write to XR_GUARc (R428). -/
def Dev.guarWrite (d : Dev) (c : Nat) (v : Word) : Dev :=
  let v := v &&& 0x13F3F
  let a := R.XR_GUAR c
  if !d.busyState then d.stageBusy a v
  else
    let vs := d.guarsStaged.set c v
    let fits := [0, 1].all (fun b => decide (guarSum vs b false ≤ 56) && decide (guarSum vs b true ≤ 56) &&
      (guarSum vs b false == 0 || d.domOn (1 + b)))
    if fits then d.stageBusy a v else d.put R.XR_STATUS_GREJ 1

/-- What XR_GSUM and XR_HSUM read as; a recomputed sum that does not fit its field has no stated value (log entry 3). -/
def Dev.guarSums (d : Dev) (heath : Bool) : Word :=
  let f := fun (b : Nat) =>
    let n := guarSum d.guars b heath
    if n < 512 then n else Config.freeNat (d.freeCount + b) % 512
  word (f 0 + 65536 * f 1)

/-! ### Ring geometry (R431) -/

/-- The first line of the table "Ring geometry causes" that holds for ring `r` (0 CQ, 1 RQ). -/
def Dev.ringCause (d : Dev) (r : Nat) : Option Nat :=
  let base := if r = 0 then d.get R.CQ_GEOM_BASE else d.get R.RQ_GEOM_BASE
  let sz := if r = 0 then d.get R.CQ_GEOM_SZ else d.get R.RQ_GEOM_SZ
  let oen := if r = 0 then d.is R.RQ_CTRL_EN else d.is R.CQ_CTRL_EN
  let ob := if r = 0 then d.get R.RQ_GEOM_BASE else d.get R.CQ_GEOM_BASE
  let os := if r = 0 then d.get R.RQ_GEOM_SZ else d.get R.CQ_GEOM_SZ
  if base % 8 ≠ 0 then some 1
  else if sz < 8 ∨ 15 < sz then some 2
  else if 0x10000 < base + 2 ^ sz ∨ bankOf base ≠ bankOf (base + 2 ^ sz - 1) then some 3
  else if r = 1 ∧ 2 ^ sz < 48 * (d.get R.RQ_CRES_CRES + 1) then some 4
  else if meetsRing oen ob (2 ^ os) base (2 ^ sz) then some 5
  else if !d.xramOn base then some 6 else none

/-! ### Domains in use (R95, R429, R583) -/

/-- The lowest electrode that needs the channels of domain `k` (3 AFEA, 4 AFEB), as R95 finds it. -/
def Dev.afeNeed (d : Dev) (k : Nat) : Option Nat :=
  let own := fun (n : Nat) => d.role n == 1 || d.role n == 2
  let lo := if k = 3 then 0 else 16
  let pass := if k = 3 then (List.range 16).map (· + 32) else [48, 49]
  ((List.range 16).map (· + lo)).find? own |>.orElse (fun _ => pass.find? (fun n => d.role n == 1))

/-- Bytes `o`..`o+n-1` lie in bank `b` at least in part. -/
def inBank (b o n : Nat) : Bool := decide (0 < n) && decide (o < 0x8000 * b + 0x8000) && decide (0x8000 * b < o + n)

/-- Whether bank `b` is in use (R429). -/
def Dev.bankUsed (d : Dev) (b : Nat) : Bool :=
  d.guars.any (fun v => guarOf v b false != 0) ||
    (d.is R.CQ_CTRL_EN && inBank b (d.get R.CQ_GEOM_BASE) (2 ^ d.get R.CQ_GEOM_SZ)) ||
    (d.is R.RQ_CTRL_EN && inBank b (d.get R.RQ_GEOM_BASE) (2 ^ d.get R.RQ_GEOM_SZ)) ||
    (d.pp.queue ++ (d.pp.active.map (·.x)).toList).any (fun x => x.desc != 9 && inBank b x.area x.dlen) ||
    (List.range 8).any (fun k => d.is (R.PP_DSTAT_ARMED k) && inBank b (d.ppDesc k).area (d.ppDesc k).dlen) ||
    (d.get R.CL_CTRL_ROLE != 0 && inBank b (d.get R.CL_BUF_BASE) (8 * d.get R.CL_BUF_SIZE))

/-- Why domain `k` is not switched off (table "Domains in use"): 2 IN_USE, 3 XR_BUSY. -/
def Dev.domInUse (d : Dev) (k : Nat) : Option Nat :=
  if k = 7 then some 2
  else if k = 0 ∨ k = 5 ∨ k = 6 then if d.busyState then some 2 else none
  else if k = 3 ∨ k = 4 then if d.busyState && (d.afeNeed k).isSome then some 2 else none
  else if k = 1 ∨ k = 2 then if d.bankUsed (k - 1) then some 3 else none
  else none

end Sys2Proof.Machine
end

