-- ==== Sys2Proof/Machine/Power.lean ====
section
/-!
DEFINITION. Machine/Power.lean: power states and domains (chapter 18): the domain state machine, requests and their
refusals, Heath and Fallow entry and exit, and the start of a flash boot.
-/

namespace Sys2Proof.Machine

/-! ### Contents of a domain (R572, R574) -/

/-- The state that domain `k` holds, as it is once the domain has been off: registers at their reset values, contents
gone; a bank kept in retention keeps its contents (R574, R594). -/
def Dev.domFresh (d : Dev) (k : Nat) : Dev :=
  let d : Dev := { d with regs := sparseDrop (fun a => regDomain a == some k) d.regs,
                          staged := d.staged.filter (fun e => regDomain e.1 != some k) }
  match k with
  | 0 => { d with seq := Seq.reset, mem := { d.mem with dmem := [], imemA := [], imemB := [] } }
  | 1 => if bitOf d.pwr.retained 1 then { d with pwr := { d.pwr with retained := setBit d.pwr.retained 1 false } } else d.xramClear 0
  | 2 => if bitOf d.pwr.retained 2 then { d with pwr := { d.pwr with retained := setBit d.pwr.retained 2 false } } else d.xramClear 1
  | 6 => { d with acq := { Acq.reset with hiZ := d.acq.hiZ }, hop := Hop.reset, img := Img.reset, ct := Ct.reset,
                  cal := { Cal.reset with aux := d.cal.aux }, aux := d.aux.calDrop (fun _ => true) }
  | 7 => (({ d with hp := { d.hp with queue := [], held := none } } : Dev).put R.HP_STATUS_QUAD 0).put R.HP_STATUS_WIP 0
  | 8 => { d with cl := Cl.reset }
  | 9 => { d with pp := Pp.reset }
  | 10 => { d with aux := { Aux.reset with conv := d.aux.conv.map (fun c => { Conv.reset with calNext := c.calNext }) },
                   cal := { d.cal with aux := none } }
  | 11 => { d with opt := Opt.reset (lfsrSeed (d.reg R.OTP_SERIAL0).toNat) }
  | _ => d

/-! ### Transitions (R576–R579) -/

/-- Domains whose transitions wait for a tick while one is generated: AFEA, AFEB, DRV (R577). -/
def tickGated (k : Nat) : Bool := k == 3 || k == 4 || k == 5

/-- A domain enters DRAIN; what it was doing is abandoned where the table "Drain policy" says so. A node whose link goes
off first sends DOWN (R545). OPT drains until the next tick while one is generated (R211, R578). -/
def Dev.drainStart (d : Dev) (k : Nat) : Dev :=
  let d := match k with
    | 8 => d.clusterLeave
    | 10 => d.calEnds Dev.auxDrain
    | 0 => { d with pwr := { d.pwr with drainAt := d.clock } }
    | 11 => { d with pwr := { d.pwr with tickOff := setBit d.pwr.tickOff 11 d.ticking } }
    | _ => d
  d.setDom k 3

/-- A switch-on request for domain `k` (R576, R577, R579). -/
def Dev.switchOn (d : Dev) (k : Nat) : Dev :=
  let s := d.dom k
  if s = 0 then
    if d.ticking && tickGated k then { d with pwr := { d.pwr with tickOn := setBit d.pwr.tickOn k true } } else d.setDom k 1
  else if s = 2 then { d with pwr := { d.pwr with tickOff := setBit d.pwr.tickOff k false } }
  else if s = 3 then d.drainCancel k
  else if s = 4 then { d with pwr := { d.pwr with onAfter := setBit d.pwr.onAfter k true } }
  else { d with pwr := { d.pwr with offAfter := setBit d.pwr.offAfter k false } }

/-- A switch-off request for domain `k` (R576, R577, R579). -/
def Dev.switchOff (d : Dev) (k : Nat) : Dev :=
  let s := d.dom k
  if s = 2 then
    if d.ticking && tickGated k then { d with pwr := { d.pwr with tickOff := setBit d.pwr.tickOff k true } } else d.drainStart k
  else if s = 0 then { d with pwr := { d.pwr with tickOn := setBit d.pwr.tickOn k false } }
  else if s = 4 then { d with pwr := { d.pwr with onAfter := setBit d.pwr.onAfter k false } }
  else if s = 3 then d
  else { d with pwr := { d.pwr with offAfter := setBit d.pwr.offAfter k true } }

/-- Domain `k` is ON or OFF with nothing more to do. -/
def Dev.domStable (d : Dev) (k : Nat) : Bool :=
  (d.dom k == 0 || d.dom k == 2) && !bitOf (d.pwr.tickOn ||| d.pwr.tickOff ||| d.pwr.onAfter ||| d.pwr.offAfter) k

/-! ### Requests that end (R581) -/

/-- The domain requests whose named domains have all reached ON or OFF end (R581). -/
def Dev.domReqsEnd (d : Dev) : Dev :=
  d.pwr.domReqs.foldl (fun (d : Dev) (q : DomReq) =>
    if !q.waits && (bitsOf 12 (q.on ||| q.off)).all d.domStable then
      ({ d with pwr := { d.pwr with domReqs := d.pwr.domReqs.erase q } } : Dev).pwrAnswer 0 q.cmd 0 0
    else d) d

/-! ### Domain requests (R581–R583, R600, R643) -/

/-- The transitions of a request start. -/
def Dev.domStart (d : Dev) (q : DomReq) : Dev :=
  (bitsOf 12 q.off).foldl Dev.switchOff ((bitsOf 12 q.on).foldl Dev.switchOn d)

/-- A domain request (R581). With `cmd` it is a POWER_REQ. -/
def Dev.domRequest (d : Dev) (on off : Nat) (cmd : Option Async) : Dev :=
  if on &&& off ≠ 0 then d
  else if on = 0 ∧ off = 0 ∧ cmd.isNone = true then d
  else if d.pwr.stateReq.isSome then d.pwrAnswer 0 cmd 0x08 0
  else if d.is R.FLT_TEMPST_CRIT && bitOf on 5 then d.pwrAnswer 0 cmd 0x02 5
  else match (bitsOf 12 off).find? (fun k => (d.domInUse k).isSome) with
  | some k => d.pwrAnswer 0 cmd ((d.domInUse k).getD 2) k
  | none =>
    let q : DomReq := ⟨on, off, cmd, d.st == stChecking⟩
    let d : Dev := { d with pwr := { d.pwr with domReqs := d.pwr.domReqs ++ [q] } }
    let d := d.pwrBusy
    if q.waits then d else (d.domStart q).domReqsEnd

/-- The requests that waited for the end of a check start (R600). -/
def Dev.domRelease (d : Dev) : Dev :=
  let w := d.pwr.domReqs.filter (·.waits)
  let d : Dev := { d with pwr := { d.pwr with domReqs := d.pwr.domReqs.map (fun q => { q with waits := false }) } }
  (w.foldl Dev.domStart d).domReqsEnd

/-- A fault has ended the check that ran in state `was`: the requests that it held start (R600, R636). -/
def Dev.checkLeft (d : Dev) (was : Nat) : Dev := if was = stChecking ∧ d.st ≠ stChecking then d.domRelease else d

/-- The reset set (R580). -/
def Dev.resetSet (d : Dev) : Nat := 0xCFF + (if d.is R.SYS_STRAPS_BOOT then 0x200 else 0)

/-- POWER_REQ with ACTION MEADOW (R582). -/
def Dev.meadowRequest (d : Dev) (cmd : Async) : Dev :=
  let set := 0xEFF + (if d.get R.CL_CTRL_ROLE != 0 then 0x100 else 0)
  d.domRequest (set &&& (0xFFF - d.domsOn)) 0 (some cmd)

/-- A write to PWR_DREQ. -/
def Dev.pwrDreq (d : Dev) (v : Nat) : Dev := if d.st = stHalted then d else d.domRequest (v % 4096) (v / 65536 % 4096) none

/-! ### Heath entry (R586, R587) -/

/-- A Heath request (R586). -/
def Dev.heathRequest (d : Dev) (cmd : Option Async) : Dev :=
  if d.st ≠ stRunning then d.pwrAnswer 1 cmd 0x01 0
  else if d.clMember then d.pwrAnswer 1 cmd 0x06 0
  else if d.pwr.stateReq.isSome then d.pwrAnswer 1 cmd 0x08 0
  else match d.heathBank with
  | some b => ((d.put R.XR_STATUS_HREJ 1).put R.XR_STATUS_HBANK b).pwrAnswer 1 cmd 0x04 b
  | none =>
    if !d.heathFits then d.pwrAnswer 1 cmd 0x05 0
    else
      ({ d with pwr := { d.pwr with stateReq := some ⟨1, cmd, false, false⟩, hcfg := (d.reg R.PWR_HCFG).toNat } } : Dev).pwrBusy

/-- The entry tick (R587 step 1): Heath entry begins. -/
def Dev.heathBegin (d : Dev) : Dev :=
  let d := d.leaveRunning
  { d with pwr := { d.pwr with stateReq := d.pwr.stateReq.map (fun q => { q with begun := true }) } }

/-- Every contact that is still reported goes UP with reason STOP, in one TOUCH report (R587, R60, R617). -/
def Dev.contactsStop (d : Dev) : Dev :=
  let (d, recs, _) := d.endContacts rrStop
  if recs.isEmpty || d.isMember then d else d.touch d.frameNo d.modeFlags (d.get R.TICK_LAST_TSTAMP) recs

/-- No handler runs, no entry is pending that a tick or a frame has raised, and no frame is left to process. -/
def Dev.quiet (d : Dev) : Bool :=
  !d.handlerRuns && !d.seq.pTick && !d.seq.pFrame && d.acq.now.isNone && d.acq.ready.isEmpty && d.acq.proc.isNone

/-- The GPIO pins show a wake level (R596). -/
def Dev.gpioWake (d : Dev) : Bool :=
  (d.wakeSet R.PWR_WAKE_GPIO != 0) && (List.range 6).any (fun n => bitOf (d.wakeSet R.PWR_WAKE_WPINS) n &&
    bitOf (d.get R.GPIO_IN_DEBOUNCED) n == bitOf (d.wakeSet R.PWR_WAKE_WLVL) n)

/-- The PLL, where it is in use (R660), runs with the HFO alone: in Heath it stops and starts with it (R590). -/
def Dev.pllRuns (d : Dev) : Bool := d.pwr.pllOn && d.pwr.hfoOn

/-- Heath needs the HFO no more, as its entry or a frame ends: it stops, unless a wake cause has been taken, the ring is
on or a converter is enabled (R590). -/
def Dev.hfoStop (d : Dev) : Dev :=
  if d.st = stHeath && !d.pwr.waking && !d.domOn 8 && !(d.domOn 10 && (d.is (R.AX_CFG_EN 0) || d.is (R.AX_CFG_EN 1))) then
    { d with pwr := { d.pwr with hfoOn := false } }
  else d

/-- The Heath set is off: STATE becomes HEATH (R587 steps 4 to 6); a wake cause that came during the entry, or is present
now, ends Heath at once (R599). -/
def Dev.heathEnter (d : Dev) : Dev :=
  if d.st == stRunning && d.pwr.stateReq.any (fun q => q.kind == 1 && q.done) &&
      (bitsOf 12 d.pwr.heathOff).all (fun k => d.dom k == 0) then
    let d := (d.setSt stHeath).inc R.PWR_COUNTS_HEATH
    let d : Dev := { d with pwr := { d.pwr with mode := 1, stateReq := none, wakeEn := (d.reg R.PWR_WAKE).toNat,
                                                tsFrom := some d.clock } }
    if d.pwr.wakeAt.isSome then d.heathLeave
    else if d.gpioWake then d.wakeCause R.PWR_WSRC_GPIO else d.hfoStop
  else d

/-- HEATH_ENTRY_COMPLETE: the last frame is reported and every handler has returned. The request is answered and the Heath
set switched off through DRAIN (R587 steps 2 and 3); RING stays on in a cluster (R591). -/
def Dev.heathComplete (d : Dev) : Dev :=
  match d.pwr.stateReq with
  | none => d
  | some q =>
    if q.kind ≠ 1 ∨ q.begun = false ∨ q.done = true ∨ d.quiet = false then d
    else
      let d := d.contactsStop
      let d : Dev := { d with pwr := { d.pwr with stateReq := some { q with done := true } } }
      let d := d.pwrAnswer 1 q.cmd 0 0
      let off := (bitsOf 12 (d.pwr.hcfg / 65536)).filter (fun k => d.domOn k && !(k == 8 && d.enumerated))
      let d : Dev := { d with pwr := { d.pwr with heathOff := (off.map (2 ^ ·)).sum } }
      (off.foldl Dev.drainStart d).heathEnter

/-- HEATH_HFO_START: the HFO runs 40 µs before a Heath tick (R590). -/
def Dev.hfoStart (d : Dev) : Dev := if d.st = stHeath then { d with pwr := { d.pwr with hfoOn := true } } else d

/-! ### Flash boot (R299, R563) -/

/-- The boot that follows end of reset, a Fallow exit, or an interrupted boot's reseat: with strap G0 the first boot
frame is queued. -/
def Dev.bootStart (d : Dev) : Dev :=
  if d.is R.SYS_STRAPS_BOOT then
    let d : Dev := { d with seq := { d.seq with bootFrom := some d.clock, bootPos := 0, active := none } }
    d.bootNext
  else d

/-! ### Fallow (R592–R595) -/

/-- The command ring is disabled: established entries not yet started are discarded (R460). -/
def Dev.cqOff (d : Dev) : Dev := { d.put R.CQ_CTRL_EN 0 with ring := { d.ring with established := [] } }

/-- The order in which Fallow entry switches the domains off (R593 steps 5 to 7). -/
def fallowOrder : List Nat := [11, 10, 9, 8, 6, 5, 3, 4, 0, 1, 2, 7]

/-- Fallow ends (R595): STATE FALLOW_EXIT, and the reset set is switched on. -/
def Dev.fallowExit (d : Dev) : Dev :=
  if d.pwr.mode ≠ 2 then d
  else
    let d : Dev := { d with pwr := { d.pwr with mode := 0, hfoOn := true,
                                                wakeAt := some (d.pwr.wakeAt.getD d.clock), waking := true } }
    (d.setSt stFallowExit).switchOnMask d.resetSet

/-- A removal in Fallow: every domain stays as it is (R619). The edge is the wake cause that the latency counts from (R596,
R598). -/
def Dev.removeFallow (d : Dev) : Dev :=
  let d := ((d.setSt stParked).put R.HP_STATUS_QUAD 0).put R.PWR_WSRC_SEAT 1
  { d with pwr := { d.pwr with wakeAt := some (d.pwr.wakeAt.getD d.clock) } }

/-- Fallow is reached (R593 steps 7 and 8). A removal or a wake cause that came during the entry acts now (R416, R599,
R625). -/
def Dev.fallowReached (d : Dev) : Dev :=
  let d : Dev := { d with pwr := { d.pwr with mode := 2, hfoOn := false, pllOn := false, pllLost := false, stateReq := none,
                                              tickOn := 0, tickOff := 0, onAfter := 0, offAfter := 0 } }
  let d := d.pwmSettle.inc R.PWR_COUNTS_FALLOW
  if d.is R.SYS_STATUS_SEATED = false then d.removeFallow
  else if d.pwr.wakeAt.isSome then d.fallowExit else d

/-- Fallow entry goes on through the domains of a list (R593 steps 5 to 7, R594): one that is off is passed over, a bank
that is to be kept goes into retention, and one that is ON drains; what follows waits until that one is OFF. -/
def Dev.fallowWalk : List Nat → Dev → Dev
  | [], d => d.fallowReached
  | k :: l, d =>
    let keep := (k == 1 && bitOf d.pwr.fcfg 0) || (k == 2 && bitOf d.pwr.fcfg 1)
    if d.dom k = 0 then Dev.fallowWalk l d
    else if d.dom k ≠ 2 then d
    else if keep then
      let d : Dev := { d with pwr := { d.pwr with retained := setBit d.pwr.retained k true } }
      Dev.fallowWalk l (d.setDom k 0)
    else d.drainStart k

/-- Fallow entry goes on where it is under way. -/
def Dev.fallowStep (d : Dev) : Dev :=
  if d.pwr.stateReq.any (fun q => q.kind == 2 && q.done) then Dev.fallowWalk fallowOrder d else d

/-- The steps of Fallow entry from BOOT_WAIT or READY (R593). -/
def Dev.fallowEnter (d : Dev) (own : Option Async) : Dev :=
  let d := d.endAsyncs (d.ring.asyncs.filter (fun a => some a != own)) csAborted 0
  let d := d.fenceEnd csAborted 0
  let d : Dev := { d with pwr := { d.pwr with stateReq := some ⟨2, own, true, true⟩, domReqs := [] },
                          cl := { d.cl with enum := none } }
  let d := d.pwrAnswer 2 own 0 0
  ((d.cqOff).put R.RQ_CTRL_EN 0).fallowStep

/-- The end of the exit (R595 steps 3 and 4, R598). -/
def Dev.fallowTry (d : Dev) : Dev :=
  if d.st ≠ stFallowExit then d
  else
    let d := if d.pwr.wakeAt.isSome && d.domOn 7 && d.domOn 0 && d.domOn 1 && d.domOn 2 then
        let lat := d.clock - d.pwr.wakeAt.getD d.clock
        let d := d.setWake.put R.PWR_WSRC_LAT (min lat 0xFFFF)
        { d with pwr := { d.pwr with wakeAt := none } }
      else d
    if (bitsOf 12 d.resetSet).all d.domOn then
      let d : Dev := { d with pwr := { d.pwr with waking := false } }
      (d.setSt stBootWait).bootStart
    else d

/-- The entry of a Fallow request (R593) begins once RUN is cleared. -/
def Dev.fallowTake (d : Dev) : Dev :=
  match d.pwr.stateReq with
  | some q => if q.kind = 2 ∧ q.done = false ∧ (d.st = stReady ∨ d.st = stBootWait) then d.fallowEnter q.cmd else d
  | none => d

/-- A Fallow request (R592): from RUNNING the device first stops as R60 lays down. -/
def Dev.fallowRequest (d : Dev) (cmd : Option Async) : Dev :=
  if d.st ≠ stBootWait ∧ d.st ≠ stReady ∧ d.st ≠ stRunning then d.pwrAnswer 2 cmd 0x01 0
  else if d.enumerated then d.pwrAnswer 2 cmd 0x07 0
  else if d.pwr.stateReq.isSome then d.pwrAnswer 2 cmd 0x08 0
  else
    let d := ({ d with pwr := { d.pwr with stateReq := some ⟨2, cmd, true, false⟩, fcfg := (d.reg R.PWR_FCFG).toNat } } : Dev).pwrBusy
    if d.st = stRunning then d.calEnds Dev.clearRun else d.fallowTake

/-- Writes to PWR_SREQ. -/
def Dev.pwrSreqHeath (d : Dev) : Dev := if d.st = stHalted then d else d.heathRequest none
def Dev.pwrSreqFallow (d : Dev) : Dev := if d.st = stHalted then d else d.fallowRequest none

/-! ### The ends of the transitions -/

/-- Something that waited for a domain may be done. -/
def Dev.domSettled (d : Dev) : Dev := d.domReqsEnd.heathEnter.heathTry.fallowStep.fallowTry

/-- DOMAIN_RAMP_UP_END (R574, R576, R579). RING's ramp ends with the lock of its link (R572). The port that comes back
serves, and sets WAKE, at the end of a wake from Heath or Fallow, and otherwise at once (R403, R404). -/
def Dev.rampUpEnd (d : Dev) (k : Nat) : Dev :=
  if 12 ≤ k ∨ d.dom k ≠ 1 ∨ (k = 8 ∧ d.cl.locked = false) then d
  else
    let d := (d.domFresh k).setDom k 2
    let d := if k = 5 then d.pumpDomain true else d
    let d := if k = 8 then d.put R.CL_STATUS_LINK 1 else d
    let d := if k = 7 ∧ d.hp.off = true ∧ d.st ≠ stFallowExit ∧ ¬(d.st = stHeath ∧ d.pwr.waking = true) then d.setWake else d
    let d := if bitOf d.pwr.offAfter k then
        ({ d with pwr := { d.pwr with offAfter := setBit d.pwr.offAfter k false } } : Dev).switchOff k
      else d
    d.domSettled

/-- Whether the work in flight of domain `k` lets its drain end (table "Drain policy"). A handler that still runs one tick
period after SEQ began to drain is stopped (R308); the frames on the wire are those that the node has sent and not idled
over. -/
def Dev.drainDone (d : Dev) (k : Nat) : Bool :=
  match k with
  | 0 => !d.handlerRuns || decide (d.pwr.drainAt + d.get R.TICK_PERIOD_PERIOD ≤ d.clock)
  | 8 => d.cl.tx.isEmpty
  | 6 => d.acq.proc.isNone && d.acq.ready.isEmpty
  | 7 => d.hp.held.isNone && d.hp.queue.isEmpty
  | 9 => d.pp.active.isNone
  | 11 => !bitOf d.pwr.tickOff 11
  | _ => true

/-- DOMAIN_DRAIN_END (R578). -/
def Dev.drainEnd (d : Dev) (k : Nat) : Dev :=
  if 12 ≤ k ∨ d.dom k ≠ 3 ∨ d.drainDone k = false then d
  else
    let d := match k with
      | 0 => d.seqStopNow
      | 5 => d.pumpDomain false
      | 7 => { d with hp := { d.hp with off := true } }
      | 9 => d.ppAbortAll 0 []
      | _ => d
    (d.domFresh k).setDom k 4

/-- DOMAIN_RAMP_DOWN_END (R576, R579). -/
def Dev.rampDownEnd (d : Dev) (k : Nat) : Dev :=
  if 12 ≤ k ∨ d.dom k ≠ 4 then d
  else if bitOf d.pwr.onAfter k then
    let d : Dev := { d with pwr := { d.pwr with onAfter := setBit d.pwr.onAfter k false,
                                                restarted := setBit d.pwr.restarted k true } }
    (d.put R.PWR_RESTART_RST (setBit (d.get R.PWR_RESTART_RST) k true)).setDom k 5
  else (d.setDom k 0).domSettled

/-- DOMAIN_RESTART_END (R579). -/
def Dev.restartEnd (d : Dev) (k : Nat) : Dev := if 12 ≤ k ∨ d.dom k ≠ 5 then d else d.setDom k 1

/-- A write of 1 to PWR_CMD.CLRCNT. -/
def Dev.pwrClrCnt (d : Dev) : Dev := d.setReg R.PWR_COUNTS 0

end Sys2Proof.Machine
end

