-- ==== Sys2Proof/Machine/Frames.lean ====
section
/-!
DEFINITION. Machine/Frames.lean: a frame from the end of its phases to its reports (R44, R57, R58, R84–R91, R481): the
acquisition events, the start and the end of processing, what a processed frame writes, and image dumps.
-/

namespace Sys2Proof.Machine

/-! ### Acquisition events -/

/-- NOISE_LEVELS: the demodulation of the frame's listen slot completes (R104); a member sends its levels (R526). Once the
frame's acquisition has ended they are not taken any more (DESIGN CHOICE, log entry 19). -/
def Dev.noiseEvent (d : Dev) : Dev :=
  match d.acq.now with
  | some f => if f.listened then d.noiseLevels.clNoise (f.tick % 65536) else d
  | none => d

/-- MUTUAL_SCAN: the scan has ended; in a cluster the lead chooses the retries (R82, R89). -/
def Dev.mutualEvent (d : Dev) (y : List (List Int)) (ovr : List (List Nat)) (vhvLow : List Nat) : Dev :=
  match d.acq.now with
  | some f =>
    if d.nextPhase f = some 1 ∧ f.mutDone = false then
      ((d.mutualScan y ovr vhvLow).clMutual.vhvSeen f.level !(vhvLow.contains (d.codeLen - 1))).phaseEnd
    else d
  | none => d

/-- SELF_PASS (R79). -/
def Dev.selfEvent (d : Dev) (ys : List (List Int)) (ovr : List Nat) (vhvLow : Bool) : Dev :=
  match d.acq.now with
  | some f => if d.nextPhase f = some 2 then ((d.selfPass ys ovr vhvLow).vhvSeen f.selfLevel !vhvLow).phaseEnd else d
  | none => d

/-- SYMBOL_RETRY: the next retry has run (R85); then it is seen whether another still fits (R86). -/
def Dev.retryEvent (d : Dev) (y : List Int) (ovr : List Nat) (vhvOk : Bool) : Dev :=
  match d.acq.now with
  | some f =>
    match d.retryNext f with
    | some j =>
      let f' := retryFrame f j y ovr (vhvOk || f.level == 0)
      (({ d with acq := { d.acq with now := some (d.retryLatch f') } } : Dev).vhvSeen f.level vhvOk).phaseEnd
    | none => d
  | none => d

/-- APPROACH_BURST: the burst of the frame has run (R203), where its APPROACH phase runs one. -/
def Dev.burstEvent (d : Dev) (words : List OptWord) (ledOc : Bool) : Dev :=
  match d.acq.now with
  | some f => if d.nextPhase f = some 3 ∧ f.approach = true then (d.approachBurst words ledOc).phaseEnd else d
  | none => d

/-- The phases that end by time: the retry interval of a cluster (R526), an APPROACH phase without a burst (R197). -/
def Dev.phaseTime (d : Dev) : Dev :=
  match d.acq.now with
  | none => d
  | some f =>
    if f.retryTime && f.exch.any (fun e => decide (f.phaseAt < e.2 ∧ e.2 ≤ d.clock)) then
      d.phaseFrom ((f.exch.map (·.2)).getD d.clock)
    else if d.nextPhase f == some 3 && !f.approach && decide (f.phaseAt + approachTerm ≤ d.clock) then
      ({ d with acq := { d.acq with now := some { f with apDone := true } } } : Dev).phaseFrom (f.phaseAt + approachTerm)
    else d

/-- A frame's acquisition has ended (R44): its status and faults, the hop decision, and its place before the image
engine. In a run frame of a calibration no normal hop is selected (R250); on a device whose ROLE is MEMBER none is, also
where it is not enumerated (DESIGN CHOICE, log entry 19). -/
def Dev.acqFinish (d : Dev) (f : Frame) : Dev :=
  -- between the frames of Heath no acquisition runs (R19)
  let d : Dev := { d with acq := { d.acq with now := none, hiZ := d.acq.hiZ || f.heath } }
  let d := (d.pumpTo f.level).frameStatus f |>.frameFaults f
  let d := d.hopCombine f.heath
  let run := d.isRunFrame f
  let old := d.hop.pending
  let d := d.hopDecide (if f.mutScan then f.ncorr else 0) d.isMember
  let d : Dev := if run && d.hop.pending.any (fun p => p.2.1 == 1) && old.isNone then
      { d.put R.HOP_STATUS_PENDING (if d.hop.forced.isSome then 1 else 0) with hop := { d.hop with pending := none } }
    else d
  if d.st = stHalted then d
  else { d with acq := { d.acq with ready := d.acq.ready ++ [f] }, hop := { d.hop with mPow := [] } }

/-- ACQUISITION_END. -/
def Dev.acqEnd (d : Dev) : Dev :=
  match d.acq.now with
  | some f => if d.frameComplete f then d.acqFinish f else d
  | none => d

/-- ACQUISITION_DEADLINE: acquisition is stopped (R57) with what the scan in progress had met (R125); an approach burst in
progress keeps its completed words (R209). -/
def Dev.acqDeadline (d : Dev) (words : List OptWord) (ledOc : Bool) (ovr : List (List Nat)) (vhvLow : List Nat) : Dev :=
  match d.acq.now with
  | none => d
  | some f =>
    if d.frameComplete f then d.acqFinish f
    else
      let d := if d.nextPhase f = some 3 then d.approachBurst words ledOc else d
      let f := { d.cutScan (d.acq.now.getD f) ovr vhvLow with cut := true, noRetry := true }
      (d.inc R.TICK_COUNTS_CUTS).acqFinish f

/-- ELECTRODE_SHORT (R91): in the cases that are monitored it is judged at once, counted once, and the driver released. -/
def Dev.elShorted (d : Dev) (n : Nat) : Dev :=
  if 50 ≤ n ∨ d.elShort n = true ∨ d.shortSeen n = false then d
  else
    let d : Dev := { d.supDrop n with acq := { d.acq with
      now := d.acq.now.map (fun f => { f with dead := n :: f.dead, shut := n :: f.shut }) } }
    (d.putBit R.ACQ_SHORTMAP0 R.ACQ_SHORTMAP1 n true).raise 0x04 n

/-- VHV_FAULT (R97): FS10 with the pump's target, while DRV is on and the effective level is above 0. -/
def Dev.vhvFault (d : Dev) : Dev :=
  if d.domOn 5 && d.is R.ACQ_STATUS_LEVELNOW then
    (({ d.put R.ACQ_STATUS_VHVOK 0 with acq := { d.acq with vhvDue := none } } : Dev).raise 0x10 d.acq.pump).checkLeft d.st
  else d

/-! ### The start of processing (R44) -/

/-- Every member's deltas of the frame have arrived at the lead. -/
def Dev.clAllIn (d : Dev) : Bool := !d.clLead || d.clNodes.all (fun k => d.cl.done.contains k || d.cl.down.contains k)

/-- The image engine takes the next frame: results due AT_ONCE take force (R261), its measurements are decoded. -/
def Dev.procStart (d : Dev) : Dev :=
  match d.acq.ready, d.acq.proc with
  | f :: rest, none =>
    let d := d.calAtStart
    let f := d.decodeFrame f
    let d : Dev := { d with acq := { d.acq with ready := rest, proc := some { f with at_ := d.clock } } }
    match d.img.dump with
    | some u => { d with img := { d.img with dump := some { u with skip := false } } }
    | none => d
  | _, _ => d

/-- FRAME_PROCESSING_START. -/
def Dev.procEvent (d : Dev) : Dev := if d.clAllIn then d.procStart else d

/-! ### Image dumps (R481, R500) -/

/-- A word of an IMAGE_CHUNK. -/
def chunkWord (v : Int) (stale : Bool) : List Byte := leBytes 4 (unsigned 24 v + if stale then 2 ^ 24 else 0)

/-- The elements that a dump of kind `what` holds, in order: value and STALE. -/
def Dev.dumpEls (d : Dev) (what : Nat) : List (Int × Bool) :=
  if what = 1 ∧ d.clLead = true then d.grid.flatMap (fun col => col.map (fun e => (e.1, e.2.1)))
  else if what = 4 ∧ d.clLead = true then
    let ps := d.profiles
    let of_ := fun k => ((ps.filter (fun p => p.1 == k)).mergeSort (fun a b => a.2.1 ≤ b.2.1)).map (fun p => (p.2.2.1, p.2.2.2))
    of_ 1 ++ of_ 2
  else
    let val := fun (e : Elem) => match what % 3 with
      | 0 => (e.m : Int)
      | 1 => e.delta d.img.hasM d.img.hasS
      | _ => e.bInt
    let key := fun (e : Elem) => 1000000 * e.kind + 1000 * e.c + e.r
    let es := (d.img.els.filter (fun e => if what < 3 then e.isM else !e.isM)).mergeSort (fun a b => key a ≤ key b)
    es.map (fun e => (val e, e.stale))

/-- A report that the command producing it waits for: behind those that already wait (R455). -/
def Dev.reportWait (d : Dev) (r : Report) : Dev :=
  if d.ring.waiting.isEmpty then d.report r else { d with ring := { d.ring with waiting := d.ring.waiting ++ [r] } }

/-- An asynchronous command ends after the reports it waits for; until its COMPLETION is written it is in flight (R452,
R455, R470, R481). -/
def Dev.endAsyncAfter (d : Dev) (a : Async) (status detail : Nat) : Dev :=
  if d.ring.waiting.isEmpty then d.endAsync a status detail
  else { d with ring := { d.ring with waiting := d.ring.waiting ++ [completion a.tag status a.op a.count detail a.seq] } }

/-- The chunks of one frame, at most `m` elements each. -/
def Dev.dumpChunks (d : Dev) (u : Dump) (fr m first : Nat) (lastFrame : Bool) : Nat → List (Int × Bool) → Dev
  | 0, _ => d
  | fuel + 1, els =>
    let now := els.take m
    let rest := els.drop m
    let fl := (if rest.isEmpty then 1 else 0) + (if lastFrame then 2 else 0) + (if now.any (·.2) then 4 else 0)
    let r : Report := ⟨0x88, u.tag, leBytes 2 fr ++ [byte u.what, byte fl] ++ leBytes 2 first ++ leBytes 2 now.length ++
      now.flatMap (fun e => chunkWord e.1 e.2)⟩
    let d := d.reportWait r
    if rest.isEmpty then d else d.dumpChunks u fr m (first + now.length) lastFrame fuel rest

/-- A processed frame dumped (R481). -/
def Dev.dumpFrame (d : Dev) (f : Frame) : Dev :=
  match d.img.dump with
  | none => d
  | some u =>
    if u.skip then d
    else
      let m := max 1 ((min (d.rqSize / 4) 4096 - 16) / 4)
      let els := d.dumpEls u.what
      let last := decide (u.frames ≤ u.done + 1)
      let d := d.dumpChunks u (f.tick % 65536) m 0 last (els.length + 1) els
      let d : Dev := { d with img := { d.img with dump := if last then none else some { u with done := u.done + 1 } } }
      if last then (d.asyncsOf 0x50).foldl (fun (d : Dev) a => d.endAsyncAfter a csOk (u.done + 1)) d else d

/-! ### What a processed frame does -/

/-- No frame will be processed after this one: RUN has been cleared, or Heath is due. A parked device ends its contacts
with a report of their own, after that of its last frame (R617). -/
def Dev.lastFrame (d : Dev) : Bool :=
  (d.st == stStopping || d.pwr.stateReq.any (fun q => q.kind == 1)) && d.acq.now.isNone && d.acq.ready.isEmpty

/-- The TOUCH of a frame: written when a reported contact exists or ends in it (R178), never on a cluster member (R518). -/
def Dev.touchFrame (d : Dev) (f : Frame) (recs : List (List Byte)) : Dev :=
  if recs.isEmpty || d.isMember then d
  else d.touch (f.tick % 65536) ((if f.gorse then 4 else 0) + (if f.lark then 8 else 0)) f.tlast recs

/-- The tracked contacts, as excluded groups see them: slot and blob (R139). -/
def Dev.tracked (d : Dev) : List (Nat × List (Nat × Nat)) := d.ct.contacts.map (fun k => (k.slot, k.blob))

/-- The Sward's part of a frame after its contacts: the excluded groups, then the updates. -/
def Dev.swardRest (d : Dev) (f : Frame) (ended : List (Contact × Nat)) (rs : Bool × Bool) : Dev :=
  (d.groupsFrame d.tracked (ended.map (fun e => e.1.slot)) rs).swardAfter f rs

/-- A rejection of the Sward, on the lead itself or on a member, makes every node take the model path from the next frame
(R159). -/
def Dev.rejectFrame (d : Dev) : Dev :=
  if d.clLead && (d.cl.rejected || d.rejectedNow) then
    { d.reformAsk with cl := { d.reformAsk.cl with rejected := false } }
  else d

/-- Whether a member is FORMING: no contact is reported (R159). -/
def Dev.membersForm (d : Dev) : Bool := d.clLead && d.cl.swst.any (fun e => e.2 == 1)

/-- A frame of Meadow on a single device or the lead: Sward, contacts, reports (R491, R699). -/
def Dev.liveFrame (d : Dev) (f : Frame) : Dev :=
  let (d, use, rs) := d.swardBefore f
  let (d, recs, ended) := if use && !d.membersForm then d.contactFrame f d.lastFrame else d.endContacts rrReform
  let d := d.gorseFrame f
  let d := if use then d.swardRest f ended rs else d
  let d := (d.touchFrame f recs).rejectFrame
  (d.gestureFrame f ended).ctKeys (f.tick % 65536) d.isMember

/-- A frame of Heath: contacts are tracked for the wake gestures; no TOUCH, KEY or view gesture (R158, R187). -/
def Dev.heathFrame (d : Dev) (f : Frame) : Dev :=
  let (d, use, rs) := d.swardBefore f
  let live := use && !d.membersForm
  let (d, _, ended) := if live then d.contactFrame f false else d.endContacts rrReform
  let d := d.gorseFrame f
  let d := (if use then d.swardRest f ended rs else d).rejectFrame
  let d := d.ctKeys (f.tick % 65536) true
  if live then d.wakeFrame f ended else d

/-- Line gains in CALR frames of at most 500 (R524): the kind, with bit 7 where another frame follows, panmed, their
number, and the gains. -/
def Dev.calrParts (d : Dev) (frame kind : Nat) (pan : Int) : Nat → List Nat → Dev
  | 0, _ => d
  | k + 1, gs =>
    let more := decide (500 < gs.length)
    let now := gs.take 500
    let d := d.clSend frCalr clAll frame (byte (kind + if more then 128 else 0) :: leBytes 4 (unsigned 32 pan) ++
      leBytes 2 now.length ++ now.flatMap (leBytes 2))
    if more then d.calrParts frame kind pan k (gs.drop 500) else d

/-- The lead sends the results of a run to its members (R254): its kind, panmed and the line gains. -/
def Dev.calrSend (d : Dev) (f : Frame) (kind : Nat) : Dev :=
  match d.cal.wait.find? (fun w => w.1 == kind) with
  | some (_, _, v) =>
    if d.clLead then d.calrParts (f.tick % 65536) kind v.pan (v.lgain.length + 1) (v.lgain.map (·.2)) else d
  | none => d

/-- A run frame of a touch-kind calibration (R249, R250): contacts are held. -/
def Dev.runFrame (d : Dev) (f : Frame) : Dev :=
  let d := d.freezeFrame
  let d := (d.setEls (d.img.els.map (d.measure f))).gorseFrame f
  let recs := (d.ct.contacts.filter (·.reported)).map (fun k => { k with stale := true }.record 3 0)
  let kind := (d.cal.touch.map (·.kind)).getD 3
  ((d.touchFrame f recs).calEnds (fun d => d.calFrame f)).calrSend f kind

/-- Medians in CALD frames with at most 90 rows each (R524): the columns, the number of rows, with bit 15 where another
frame follows, and the rows. -/
def Dev.caldParts (d : Dev) (frame : Nat) : Nat → List (Nat × Int) → List (Nat × Int × Nat) → Dev
  | 0, _, _ => d
  | k + 1, cs, rs =>
    let more := decide (90 < rs.length)
    let now := rs.take 90
    let d := d.clSend frCald 0 frame ([byte cs.length] ++
      cs.flatMap (fun e => leBytes 2 (d.elIndex e.1) ++ leBytes 4 (unsigned 32 e.2)) ++
      leBytes 2 (now.length + if more then 32768 else 0) ++
      now.flatMap (fun e => leBytes 2 e.1 ++ leBytes 4 (unsigned 32 e.2.1) ++ leBytes 2 e.2.2))
    if more then d.caldParts frame k [] (rs.drop 90) else d

/-- A member sends its medians of the run so far (R254). -/
def Dev.caldSend (d : Dev) (f : Frame) (t : CalTouch) : Dev :=
  let un := d.untouched t.pass
  let cs := d.colMedians un
  let rs := (d.rowMedians un).filter (fun e => e.2.2 != 0)
  d.caldParts (f.tick % 65536) (rs.length + 1) cs rs

/-- The blobs behind the announced freeze set: its nodes whose neighbours are all in it. STAGE carries no blobs, and a
member judges its excluded groups by these (DEDUCED, log entry 16). -/
def Dev.freezeCore (d : Dev) : List (Nat × Nat) :=
  let fz := (d.img.freeze.filter (fun e => e.1 == 0)).map (fun e => (e.2.1, e.2.2))
  fz.filter (fun n => [n.1 - 1, n.1, n.1 + 1].all (fun c => [n.2 - 1, n.2, n.2 + 1].all (fun r =>
    decide (d.nCols ≤ c) || decide (d.nRows ≤ r) || fz.contains (c, r))))

/-- A member takes it for a lift that no blob overlaps a group any more (DEDUCED, log entry 16). -/
def Dev.coreLost (d : Dev) : List Nat :=
  if d.img.groups.any (fun g => g.overlap && !grpOverlap d.img.els g d.freezeCore) then [0] else []

/-- A frame of a cluster member, in Heath too (R129, R158, R518, R526): its own Sward and deltas; no contacts. -/
def Dev.memberFrame (d : Dev) (f : Frame) : Dev :=
  if d.isRunFrame f then
    let d := d.freezeFrame
    let d := d.setEls (d.img.els.map (d.measure f))
    let d := match d.cal.touch with
      | some t =>
        let t := d.calMember f t
        ({ d with cal := { d.cal with touch := some t } } : Dev).caldSend f t
      | none => d
    d.clDelta (f.tick % 65536)
  else
    let (d, use, rs) := d.swardBefore f
    let d := if use then (d.groupsFrame [(0, d.freezeCore)] d.coreLost rs).swardAfter f rs else d
    d.clDelta (f.tick % 65536)

/-- The contacts and keys left when a parked device has processed its last frame (R617); the Sward is kept, Gorse
ends. -/
def Dev.parkedStop (d : Dev) : Dev :=
  let d := d.contactsStop
  let d := (d.ctRegs.put R.CT_STATUS_GORSEON 0).imgStop
  let d : Dev := { d with ct := { d.ct with gorseIn := 0, gorseOut := 0, gorseDue := none } }
  let had := d.domOn 6 && d.reg R.CT_VKEYS != 0
  let d := if had then (d.setReg R.CT_VKEYS 0).event evVkey else d
  if d.isMember || !d.domOn 6 then d else d.key d.frameNo 0

/-- TICK_IMGTIME of a finished frame (R46). LAST saturates as MAX does (DESIGN CHOICE, log entry 19). -/
def Dev.imgTime (d : Dev) (f : Frame) : Dev :=
  let n := min 65535 (d.clock - f.at_)
  let d := d.put R.TICK_IMGTIME_LAST n
  if d.get R.TICK_IMGTIME_MAX < n then d.put R.TICK_IMGTIME_MAX n else d

/-- FRAME_PROCESSED (R44–R46). -/
def Dev.frameProcessed (d : Dev) : Dev :=
  match d.acq.proc with
  | none => d
  | some f =>
    let d : Dev := { d with acq := { d.acq with proc := none } }
    let run := d.isRunFrame f
    let d := if d.isMember then d.memberFrame f else if f.heath then d.heathFrame f
      else if run then d.runFrame f else d.liveFrame f
    if d.st = stHalted then d
    else
      let d := d.openFrame f
      let d := if run then d else d.dumpFrame f
      let d := d.imgTime f
      let d := if d.st = stRunning ∨ d.st = stStopping then (if f.heath then d else d.raiseFrame) else d
      let d := d.stageSend
      if d.st = stParked then (if d.acq.ready.isEmpty then d.parkedStop else d)
      else if f.heath then d.hfoStop else d

/-! ### Releases and groups by their own rows (R139, R144, R145) -/

/-- A contact released by time: UP with its reason, its area re-baselined; the groups it overlapped have seen a lift
(R139). -/
def Dev.release (d : Dev) (k : Contact) (reason : Nat) (cnt : Field) : Dev :=
  let d := d.inc cnt
  let area := d.grid.freezeArea k.blob
  let d := d.rebase area
  let rest := d.ct.contacts.filter (fun c => c.slot != k.slot)
  let d : Dev := { d with ct := { d.ct with contacts := rest },
                          img := { d.img with freeze := d.img.freeze.filter (fun e => !area.contains e) } }
  let d := (d.groupsLift [k.slot]).ctRegs
  let d := if k.reported && !d.isMember && d.st != stHeath then
      d.touch d.frameNo d.modeFlags (d.get R.TICK_LAST_TSTAMP) [k.record 4 reason] else d
  d.ctKeys d.frameNo (d.isMember || d.st == stHeath)

/-- Whether a touch-kind run goes on: the timed releases wait for the first frame after it, which makes them (R250). -/
def Dev.calHolds (d : Dev) : Bool := d.cal.touch.any (·.start.isSome)

/-- `secs` seconds have passed since the instant `t`, to ±1 tick period (R144). -/
def Dev.limitMet (d : Dev) (t secs : Nat) : Bool := decide (t + 1000000 * secs ≤ d.clock + d.tick.spacing)

/-- The contact in a slot. -/
def Dev.contactAt (d : Dev) (slot : Nat) : Option Contact := d.ct.contacts.find? (fun k => k.slot == slot)

/-- A contact has been LARGE for the absorption time (R145). -/
def Dev.absorbMet (d : Dev) (k : Contact) : Bool :=
  d.is R.IMG_ABSORB_TIME && k.largeAt.any (fun t => d.limitMet t (d.get R.IMG_ABSORB_TIME))

/-- CONTACT_STUCK_RELEASE. Where the contact has reached the absorption time too, it goes ABSORBED (R153). -/
def Dev.stuckRelease (d : Dev) (slot : Nat) : Dev :=
  match d.contactAt slot with
  | some k =>
    if d.is R.IMG_REST_LIMIT && d.limitMet k.downAt (d.get R.IMG_REST_LIMIT) && !d.calHolds then
      if d.absorbMet k then d.release k rrAbsorbed R.IMG_COUNTS2_ABSORB else d.release k rrStuck R.IMG_COUNTS2_STUCK
    else d
  | none => d

/-- OBJECT_ABSORB. -/
def Dev.objectAbsorb (d : Dev) (slot : Nat) : Dev :=
  match d.contactAt slot with
  | some k =>
    if d.absorbMet k && !d.calHolds then
      d.release k rrAbsorbed R.IMG_COUNTS2_ABSORB
    else d
  | none => d

/-- EXCLUDED_GROUP_QUIET: group `k` has been without contact for 5 s and is cleared over the following frames. -/
def Dev.groupQuiet (d : Dev) (k : Nat) : Dev :=
  { d with img := { d.img with groups := d.img.groups.modify k (fun g =>
    if g.overlap || decide (d.clock < g.quiet + 5000000) then g else { g with still := true }) } }

end Sys2Proof.Machine
end

