-- ==== Sys2Proof/Machine/Tick.lean ====
section
/-!
DEFINITION. Machine/Tick.lean: ticks (chapter 02, R35–R63; R370): their sources, what takes force at a tick and in which
order, VSYNC and HSYNC, and in a cluster what a node applies of the STAGE (R529–R531).
-/

namespace Sys2Proof.Machine

/-! ### Settings that take force at a tick -/

/-- Pending hops whose targets the staged hop-table writes have disabled are dropped (R123). -/
def Dev.hopPrune (d : Dev) : Dev :=
  let d := if d.hop.forced.all d.hopEn then d
    else { d.put R.HOP_STATUS_FREJ 1 with hop := { d.hop with forced := none } }
  { d with hop := { d.hop with pending := d.hop.pending.filter (fun p => d.hopEn p.1) } }

/-- The lead at a TICK: the pending hop that it announced is applied, and a forced one ends the other (R121); one that it
has not announced stays pending, also where it takes the place of an announced one that was dropped (R123, R531). -/
def Dev.hopAnnounced (d : Dev) (s : Stage) : Dev :=
  let t := s.drive % 8
  let d := d.hopPrune
  let d := if !bitOf s.flags 0 then d.inc R.HOP_STATUS_DWELLCNT
    else if d.hop.forced == some t then
      ({ d with hop := { d.hop with forced := none, pending := none } } : Dev).hopApply t 3 0
    else match d.hop.pending with
      | some (t', c, lv) =>
        if t' = t then ({ d with hop := { d.hop with pending := none } } : Dev).hopApply t c lv else d.inc R.HOP_STATUS_DWELLCNT
      | none => d.inc R.HOP_STATUS_DWELLCNT
  d.putB R.HOP_STATUS_PENDING (d.hop.forced.isSome || d.hop.pending.isSome)

/-- A member follows the lead's hop (R118), also one announced at a TICK that it has missed. STAGE carries neither its cause
nor its level: both are free values (log entry 16), and a forced hop has no level (R121). -/
def Dev.hopFollow (d : Dev) (s : Stage) : Dev :=
  let t := s.drive % 8
  if !bitOf s.flags 0 && t == d.get R.HOP_STATUS_CUR then d.inc R.HOP_STATUS_DWELLCNT
  else
    let (c, d) := d.fresh
    let (lv, d) := d.fresh
    d.hopApply t (1 + c % 3) (if c % 3 = 2 then 0 else lv % 512)

/-- Gorse in force set (R168): a change ends a touch-kind run (R271). -/
def Dev.gorseSet (d : Dev) (on : Bool) : Dev :=
  let d : Dev := { d with ct := { d.ct with gorseDue := none } }
  if on = d.gorseOn then d
  else
    let d := d.calAbortTouch.putB R.CT_STATUS_GORSEON on
    { d with ct := { d.ct with gorseIn := 0, gorseOut := 0 } }

/-- The staged values take force (R4, R13); a region whose registers change loses its captured contacts (R192), and an
OPT_CTRL.EN that falls to 0 takes effect (R210). -/
def Dev.stagedForce (d : Dev) : Dev :=
  let hit := fun (k : Nat) => [R.CT_RGX k, R.CT_RGY k, R.CT_RGC k].any (fun a => d.viewReg a != d.reg a)
  let ks := (List.range 32).filter hit
  let was := d.is R.OPT_CTRL_EN
  let d := ks.foldl Dev.loseRegion d.applyStaged
  d.optTaken was

/-- The settings of a tick (R35, R69, R98, R121, R147, R168, R249, R261, R271): staged values, hop, calibration results,
Gorse and Lark, the effective level. At a `hold` tick, which applies no new STAGE, a node keeps the settings in force, and
what is staged stays staged (R521, R531). -/
def Dev.tickSettings (d : Dev) (hold : Bool) (stage : Option Stage) : Dev :=
  let freq := fun (d : Dev) => d.get (R.HOP_TABLE_FREQ (d.get R.HOP_STATUS_CUR))
  let f0 := freq d
  let l0 := d.get R.ACQ_STATUS_LEVELNOW
  let d : Dev := { d with acq := { d.acq with ready := d.acq.ready.map d.decodeFrame } }
  let d := if hold then d else d.stagedForce
  -- a new FREQ of the current entry is no hop (R122)
  let d := if freq d ≠ f0 then d.put R.HOP_STATUS_PCNT 0 else d
  let d := if hold then d.inc R.HOP_STATUS_DWELLCNT
    else match stage with
      | none => d.hopAtTick
      | some s => if d.isMember then d.hopFollow s else d.hopAnnounced s
  let d := if hold then d else d.calAtTick
  let d := if hold then d else
    match stage with
    | none => d.gorseSet (d.gorseWanted (d.get R.CT_CTRL_GORSE))
    | some s =>
      let d : Dev := { d with cl := { d.cl with frz := stageEls s.frz s.prf, capLevel := s.drive / 16 % 4, larkSelf := s.drive / 64 % 4 } }
      d.gorseSet (bitOf s.flags 3)
  let d := match stage with
    | some s => d.putB R.CT_STATUS_LARKON (bitOf s.flags 6)
    | none => if hold then d else d.putB R.CT_STATUS_LARKON (d.is R.CT_CTRL_LARK)
  let d := if hold then d else d.levelAtTick
  let d := if freq d ≠ f0 ∨ d.get R.ACQ_STATUS_LEVELNOW ≠ l0 then d.calAbortTouch.settingChanged else d
  if stage.any (fun s => !bitOf s.flags 5) || hold then d else d.calTick

/-- What a member applies of a STAGE beside its settings (R144, R145, R157, R254, R529–R531, R541, R591). A run that it
begins starts at this tick, as the lead's does (R249). A member whose banks do not fit the Heath reservations leaves
(R430). -/
def Dev.stageMember (d : Dev) (s : Stage) : Dev :=
  let d : Dev := { d with img := { d.img with freeze := stageEls s.frz s.prf, reform := d.img.reform || bitOf s.flags 2 } }
  let d := if s.rel.isEmpty then d else d.rebase (releaseEls s.rel)
  let d := if bitOf s.flags 5 && d.cal.touch.isNone then
      let (k, d) := d.fresh
      let t : CalTouch := ⟨k % 3, (d.reg R.CAL_CFG).toNat, some (d.get R.TICK_COUNT_COUNT), none, none, d.passNone⟩
      { d with cal := { d.cal with touch := some t, calr := [] } }
    else if !bitOf s.flags 5 then { d with cal := { d.cal with touch := none } } else d
  let d := if bitOf s.flags 1 then d.clearRun else d
  if bitOf s.flags 4 && d.st == stRunning && d.pwr.stateReq.isNone && !d.cl.quit then
    match d.heathBank with
    | some b => ((d.put R.XR_STATUS_HREJ 1).put R.XR_STATUS_HBANK b).clusterLeave
    | none => { d with pwr := { d.pwr with stateReq := some ⟨1, none, false, false⟩, hcfg := (d.reg R.PWR_HCFG).toNat } }
  else if !bitOf s.flags 4 && d.st == stHeath && !d.pwr.waking then d.heathLeave
  else if !bitOf s.flags 4 && d.pwr.stateReq.any (fun q => q.kind == 1 && q.begun) then
    { d with pwr := { d.pwr with wakeAt := some (d.pwr.wakeAt.getD d.clock) } }
  else d

/-! ### Frames at a tick -/

/-- Image overrun (R58): a frame not finished two ticks after its own is abandoned. -/
def Dev.overrun (d : Dev) : Dev :=
  let now := d.get R.TICK_COUNT_COUNT
  let late := fun (f : Frame) => decide (2 ≤ (now + 2 ^ 32 - f.tick) % 2 ^ 32)
  let old := (d.acq.proc.toList ++ d.acq.ready).filter late
  let d : Dev := { d with acq := { d.acq with proc := d.acq.proc.filter (fun f => !late f),
                                              ready := d.acq.ready.filter (fun f => !late f) } }
  old.foldl (fun (d : Dev) f => (d.calOverrun f).raise 0x05 (f.tick % 65536)) d

/-- The frame of a Heath tick (R588, R589). -/
def Dev.heathNewFrame (d : Dev) : Frame :=
  let p := d.heathPlan d.pwr.hcfg
  let appr := p.contains 3 && d.domOn 11
  { d.newFrame with heath := true, mutScan := true, selfScan := p.contains 2, approach := appr,
                    order := phaseOrder p true (p.contains 2) appr }

/-- Keymap bindings that wait for the tick are written (R479). -/
def Dev.edBindTick (d : Dev) : Dev :=
  let l := d.panel.edBind
  let d : Dev := { d with panel := { d.panel with edBind := [] } }
  l.foldl (fun (d : Dev) e => d.edCfgWrite e.1 e.2) d

/-- The period that follows a tick, in µs; the entry tick of Heath is followed by a Heath period (R587). -/
def Dev.nextPeriod (d : Dev) : Nat :=
  if d.st = stHeath ∨ d.pwr.stateReq.any (fun q => q.kind == 1 && q.begun) = true then heathPeriod d.pwr.hcfg
  else if d.clMember then d.get R.CL_PERIOD_PERIOD
  else if d.get R.TICK_CTRL_SRC = 1 then d.tick.vper / (d.get R.TICK_CTRL_RATIO + 1)
  else d.get R.TICK_PERIOD_PERIOD

/-- What a tick does (R35, R370). `count` is the new TICK_COUNT; `hold` and `stage` are those of a cluster. -/
def Dev.tickSteps (d : Dev) (count : Nat) (hold : Bool) (stage : Option Stage) : Dev :=
  let heath := d.st == stHeath
  let fence := d.fenceDone && d.ring.fence.any (·.atTick)
  -- an acquisition still running has met its deadline (R57)
  let d := d.acqDeadline [] false [] []
  let d := (d.put R.TICK_COUNT_COUNT count).put R.TICK_LAST_TSTAMP d.tstamp
  let d := d.overrun
  let d := d.tickSettings hold stage
  let d := match stage with
    | some s => if d.isMember then d.stageMember s else d
    | none => d
  let entering := d.st == stRunning && d.pwr.stateReq.any (fun q => q.kind == 1 && !q.begun) &&
    (stage.isNone && !hold || stage.any (fun s => bitOf s.flags 4))
  let d := if entering then d.heathBegin else d
  -- a lead whose stop has not been announced yet goes on with its members (R541)
  let d : Dev := if stage.any (fun s => bitOf s.flags 1) then { d with cl := { d.cl with clearRun := false } } else d
  let d : Dev := if stage.any (fun s => bitOf s.flags 2) then { d with cl := { d.cl with reform := false } } else d
  let going := (d.st == stRunning || (d.st == stStopping && d.clLead && d.cl.clearRun && !d.is R.FLT_TEMPST_CRIT)) && !d.cl.quit &&
    !d.pwr.stateReq.any (fun q => q.kind == 1 && q.begun)
  let d := (d.swapTick.edBindTick.edSampleAll).timersTick
  let d := if heath then d else d.seqTick going
  let d := d.ppTick.pwrTick.domSettled
  let d : Dev := { d with
    tick := { d.tick with lastTick := d.clock, held := 0, first := false, spacing := d.nextPeriod },
    aux := { d.aux with tickDue := d.aux.tickDue ++
                         (if d.get R.AUX_SYNC_SRC = 1 ∧ d.auxOn then [d.clock + d.get R.AUX_SYNC_DLY] else []) } }
  let d := if fence then d.fenceEnd csOk 0 else d
  let d := (if d.is R.RQ_STATUS_COAL then d.reclaimTick.roomReturn else d).eccFlush
  let d : Dev := { d with cl := { d.cl with
    deltaEls := d.cl.deltaEls.map (fun e => (e.1, e.2.1, e.2.2.1, e.2.2.2.1, true)),
    done := [], rx := [], retry := none, retryAck := false, corr := [], sent := none, echoed := false, resent := 0, staged := none,
    rel := match stage with
      | some s => d.cl.rel.filter (fun e => !(releaseEls s.rel).contains e)
      | none => d.cl.rel } }
  let d := if d.clLead then d.setReg R.CL_STALEM 0 else d
  if going && (d.st == stRunning || d.st == stStopping) then d.acqStart d.newFrame
  else if heath && d.st == stHeath && !d.pwr.waking then
    ({ d with pwr := { d.pwr with hfoOn := true } } : Dev).acqStart d.heathNewFrame
  else if d.st == stStopping || d.st == stRunning then { d with acq := { d.acq with hiZ := true } } else d

/-- One tick, with the actions that the end of a calibration run makes due. -/
def Dev.tickNow (d : Dev) (count : Nat) (hold : Bool) (stage : Option Stage) : Dev :=
  d.calEnds (fun d => d.tickSteps count hold stage)

/-- The count after this tick. -/
def Dev.nextCount (d : Dev) : Nat := (d.get R.TICK_COUNT_COUNT + 1) % 2 ^ 32

/-- A tick of a single device or of the lead: the lead distributes it (R519, R531). -/
def Dev.sourceTick (d : Dev) : Dev :=
  if d.clLead then
    if d.cl.echoed then
      let s := d.cl.sent
      (d.sendK kTick).tickNow d.nextCount false s
    else (d.sendK kTickH).tickNow d.nextCount true none
  else d.tickNow d.nextCount false none

/-! ### VSYNC and HSYNC (R37, R38, R49, R53–R56) -/

/-- The spacing of the ticks of one display frame: the most recently measured period divided by k (R37). -/
def Dev.vsyncSpacing (d : Dev) : Nat := d.tick.vper / (d.get R.TICK_CTRL_RATIO + 1)

/-- The tick of the VSYNC source that is due has been taken: when the next one is due. An aligned tick held past a later
edge goes first (R53). After an aligned tick k − 1 sub-ticks follow, spaced from its scheduled instant also where it was
held (DESIGN CHOICE, log entry 19); once VSYNC is lost, ticks go on at the last spacing (R37, R55). -/
def Dev.vsyncSteps (d : Dev) : Dev :=
  if d.get R.TICK_CTRL_SRC ≠ 1 then d
  else if d.tick.owed ≠ 0 then { d with tick := { d.tick with owed := d.tick.owed - 1 } }
  else
    match d.tick.due with
    | none => d
    | some t =>
      let left := if d.tick.aligned then d.get R.TICK_CTRL_RATIO else d.tick.subLeft - 1
      let more := decide (0 < d.vsyncSpacing) && (decide (0 < left) || d.tick.vsEdge.isNone)
      { d with tick := { d.tick with due := if more then some (t + d.vsyncSpacing) else none, aligned := false, subLeft := left } }

/-- MINPER has not passed since the previous tick (R53). -/
def Dev.tickEarly (d : Dev) : Bool := !d.tick.first && decide (d.clock < d.tick.lastTick + d.get R.TICK_BUDGET_MINPER)

/-- A tick of the VSYNC source is due (R37, R61). -/
def Dev.vsyncDue (d : Dev) : Bool := decide (0 < d.tick.owed) || d.tick.due.any (fun t => decide (t ≤ d.clock))

/-- The period of the tick source that is timed, PERIOD or in Heath the Heath period, has passed since the previous tick;
the first tick waits for none (R36, R61, R587, R588). -/
def Dev.periodOver (d : Dev) : Bool := d.tick.first || decide (d.tick.lastTick + d.tick.spacing ≤ d.clock)

/-- The device is in a state in which its own source gives ticks. -/
def Dev.sourced (d : Dev) : Bool := d.st == stRunning || d.st == stStopping

/-- A tick of the own source is issued; another one of VSYNC that is already due is held (R53). -/
def Dev.ownTick (d : Dev) : Dev :=
  let e := d.vsyncSteps.sourceTick
  if d.get R.TICK_CTRL_SRC == 1 && e.sourced && e.vsyncDue then { e with tick := { e.tick with held := 1 } } else e

/-- A tick of this device's source has come (R35–R37, R61): with INTERNAL once PERIOD has passed, with VSYNC only where an
edge, or VSYNC's loss, has made one due. One that comes before MINPER has passed is held (R53). -/
def Dev.tickEvent (d : Dev) : Dev :=
  if d.sourced = false ∨ d.get R.TICK_CTRL_SRC = 2 then d
  else if d.get R.TICK_CTRL_SRC = 1 ∧ d.vsyncDue = false then d
  else if d.get R.TICK_CTRL_SRC ≠ 1 ∧ d.periodOver = false then d
  else if d.tickEarly then { d with tick := { d.tick with held := 1 } }
  else d.ownTick

/-- HEATH_TICK (R40, R588): a cluster member takes its Heath ticks from the ring (R520). -/
def Dev.heathTick (d : Dev) : Dev :=
  if d.st ≠ stHeath ∨ d.clMember = true ∨ d.periodOver = false then d else d.sourceTick

/-- A valid VSYNC edge schedules the tick OFFSET µs after it. The sub-ticks of the previous display frame that have not been
issued are dropped and counted; its aligned tick, if MINPER still holds that back, stays held (R37, R53). -/
def Dev.vsyncAlign (d : Dev) (n : Nat) : Dev :=
  let back := d.sourced && d.tick.aligned && d.tick.due.isSome
  let owed := d.tick.owed + if back then 1 else 0
  let d := d.satAdd R.TICK_COUNTS_SKIP (if back then d.get R.TICK_CTRL_RATIO else d.tick.subLeft)
  { d with tick := { d.tick with vsEdge := some d.clock, vsValid := n, subLeft := 0, aligned := true, owed := owed,
                                 held := if d.tick.held = 1 ∧ owed = 0 then 0 else d.tick.held,
                                 due := some (d.clock + d.get R.TICK_VSYNC_OFFSET) } }

/-- VSYNC_EDGE (R37, R38, R53–R55). VDDIO must be up (R608). An edge that no edge precedes by 25000 µs or less counts as the
first of the two consecutive valid edges that lock (DEDUCED, log entry 13). -/
def Dev.vsyncEdge (d : Dev) : Dev :=
  if !d.is R.SYS_STATUS_VDDIOOK || d.sys.inReset then d
  else
    match d.tick.vsEdge.map (fun t => d.clock - t) with
    | some p =>
      if p < 6060 then d.put R.TICK_STATUS_VGLITCH 1
      else
        let n := if p ≤ 25000 then d.tick.vsValid + 1 else 1
        let lock := decide (2 ≤ n)
        let d := d.putB R.TICK_STATUS_VLOCK lock
        let d := d.put R.TICK_VMEAS_VPER (if lock then min p 65535 else 0)
        ({ d with tick := { d.tick with vper := p } } : Dev).vsyncAlign n
    | none => d.vsyncAlign 1

/-- VSYNC_LOSS (R55): no valid edge has come within 25000 µs of the previous one. VLOCK is cleared, FS11 counted, and
ticks go on at the last spacing: the next one that spacing after the previous tick, at once where this is past, also where
no edge has given a first tick yet (DESIGN CHOICES, log entry 19). -/
def Dev.vsyncLoss (d : Dev) : Dev :=
  if d.tick.vsEdge.all (fun t => decide (d.clock < t + 25000)) then d
  else
    let p := d.get R.TICK_VMEAS_VPER
    let d := (d.put R.TICK_STATUS_VLOCK 0).put R.TICK_VMEAS_VPER 0
    let next := d.tick.due.orElse (fun _ =>
      if d.vsyncSpacing = 0 then none else some (max d.clock (d.tick.lastTick + d.vsyncSpacing)))
    ({ d with tick := { d.tick with vsValid := 0, vsEdge := none, due := next } } : Dev).raise 0x11 p

/-- HSYNC_LOSS, and an edge after more than 64 µs (R56): the symbols that remain in a frame run ungated. -/
def Dev.hsyncLoss (d : Dev) : Dev :=
  let d := (d.put R.TICK_STATUS_HSLOCK 0).put R.TICK_VMEAS_HPER 0
  { d with tick := { d.tick with ungated := d.tick.ungated || (d.is R.TICK_CTRL_HSGATE && d.acq.now.isSome) } }

/-- HSYNC_EDGE with the line period measured, in 48 MHz cycles (R49); 64 µs are 3072 cycles. -/
def Dev.hsyncEdge (d : Dev) (cycles : Nat) : Dev :=
  if !d.is R.SYS_STATUS_VDDIOOK || d.sys.inReset then d
  else if cycles = 0 ∨ 3072 < cycles then d.hsyncLoss
  else (d.put R.TICK_STATUS_HSLOCK 1).put R.TICK_VMEAS_HPER cycles

/-! ### Writes of the TICK registers (R36, R42, R62–R64) -/

/-- A write to TICK_PERIOD (R36, R63, R543). -/
def Dev.tickPeriodWrite (d : Dev) (v : Nat) : Dev :=
  let n := v % 65536
  if n < 1000 ∨ 50000 < n then d
  else if n < d.get R.TICK_BUDGET_MINPER then d.put R.TICK_STATUS_PREJ 1
  else if d.clLead ∧ d.st = stRunning ∧ n < d.get R.CL_PERIOD_PERIOD then d.put R.TICK_STATUS_PREJ 1
  else d.stage R.TICK_PERIOD (word n)

/-- Whether a TICK_PLAN value may be written (R42). -/
def planValid (v : Nat) : Bool :=
  let p := [v % 4, v / 4 % 4, v / 16 % 4]
  let n := fun (c : Nat) => (p.filter (· == c)).length
  let tail := p.dropWhile (· != 0)
  n 1 == 1 && decide (n 2 ≤ 1) && decide (n 3 ≤ 1) && tail.all (· == 0) && (!bitOf v 8 || n 2 == 1)

/-- A write to TICK_PLAN. -/
def Dev.tickPlanWrite (d : Dev) (v : Nat) : Dev :=
  if planValid v then d.stage R.TICK_PLAN (word v &&& 0x13F) else d.put R.TICK_STATUS_PLANERR 1

/-- Writes of 1 to TICK_CLR. -/
def Dev.tickClrImgMax (d : Dev) : Dev := d.put R.TICK_IMGTIME_MAX 0
def Dev.tickClrCounts (d : Dev) : Dev := d.setReg R.TICK_COUNTS 0

end Sys2Proof.Machine
end

