-- ==== Sys2Proof/Machine/Check.lean ====
section
/-!
DEFINITION. Machine/Check.lean: the consistency check (R620, R622): its causes in the order of the table "Reason codes",
the entry to RUNNING, and the stop (R60).
-/

namespace Sys2Proof.Machine

/-- DETAIL with a cause in [31:24] and a number in [23:16] of SYS_REASON. -/
def det (hi lo : Nat) : Nat := 256 * (hi % 256) + lo % 256

/-! ### Lines (R18, R23–R25, R31, R74) -/

/-- The lowest electrode of role DRIVE or SENSE that meets `p`. -/
def Dev.lineEl (d : Dev) (p : Nat → Bool) : Option Nat :=
  (List.range 50).find? (fun n => (d.role n == 1 || d.role n == 2) && p n)

/-- A number from 0 to COUNT − 1 of either axis that no electrode of this device holds. -/
def Dev.lineMissing (d : Dev) : Bool :=
  let cs := (d.elsOf 2).map d.elIndex
  let rs := (d.elsOf 1).map d.elIndex
  !((List.range d.nCols).all cs.contains) || !((List.range d.nRows).all rs.contains)

/-- Cause 0x04: the DRIVE electrode of the lowest row number above the first whose predecessor is not held. -/
def Dev.rowGap (d : Dev) : Option Nat :=
  let rs := (d.elsOf 1).map d.elIndex
  let lo := rs.foldl min (rs.headD 0)
  let bad := rs.filter (fun r => decide (lo < r) && !rs.contains (r - 1))
  match bad with
  | [] => none
  | r :: rest => d.rowEl (rest.foldl min r)

/-- LINE_CONFLICT: the lowest cause that this node's own check finds, with its DETAIL (R31). -/
def Dev.lineCause (d : Dev) : Option Nat :=
  let limit := fun (n : Nat) => if d.role n = 2 then d.nCols else d.nRows
  let twin := fun (n : Nat) => (List.range 50).any (fun m => m != n && d.role m == d.role n && d.elIndex m == d.elIndex n)
  let pitchBad := fun (p : Nat) => decide (p < 256) || decide (448 < p)
  match d.lineEl (fun n => d.role n == 2 && decide (32 ≤ n)) with
  | some n => some (det 1 n)
  | none => match d.lineEl twin with
  | some n => some (det 2 n)
  | none => match d.lineEl (fun n => decide (limit n ≤ d.elIndex n)) with
  | some n => some (det 3 n)
  | none => match d.rowGap with
  | some n => some (det 4 n)
  | none =>
    if d.get R.CL_CTRL_ROLE = 0 ∧ d.lineMissing = true then some (det 5 0)
    else if d.nCols = 0 ∨ 256 < d.nCols ∨ d.nRows = 0 ∨ 400 < d.nRows ∨ pitchBad (d.get R.ACQ_GEOMX_PITCH) = true ∨
        pitchBad (d.get R.ACQ_GEOMY_PITCH) = true then some (det 6 0)
    else if 65535 < d.extX ∨ 65535 < d.extY then some (det 7 0) else none

/-- The smallest code length that serves `n` rows (R74). -/
def codeFor (n : Nat) : Nat := ([8, 16, 32, 64, 128, 256, 512].find? (fun l => decide (n < l))).getD 512

/-! ### Domains (R95, R211, R302, R584) -/

/-- DOMAIN_OFF: the DETAIL. -/
def Dev.domainCause (d : Dev) : Option Nat :=
  let a := if d.domOn 3 then none else d.afeNeed 3
  let b := if d.domOn 4 then none else d.afeNeed 4
  if !d.domOn 5 then some 0xFF
  else match a, b with
  | some m, some n => some (min m n)
  | some m, none => some m
  | none, some n => some n
  | none, none =>
    if d.plan.contains 3 && d.is R.OPT_CTRL_EN && !d.domOn 11 then some 0xFE
    else if !d.domOn 0 then some 0xFD
    else if !d.domOn 6 then some 0xFC else none

/-! ### Regions, rings, reservations -/

/-- REGION_INVALID (R183). -/
def Dev.regionsCause (d : Dev) : Option Nat :=
  let cs := (List.range 32).filterMap (fun k =>
    (d.regionCause (d.reg (R.CT_RGX k)) (d.reg (R.CT_RGY k)) (d.reg (R.CT_RGC k))).map (fun c => (c, k)))
  match [1, 2, 3].findSome? (fun c => cs.find? (fun e => e.1 == c)) with
  | some (c, k) => some (det c k)
  | none => none

/-- The enabled rings. -/
def Dev.ringsOn (d : Dev) : List Nat := (if d.is R.CQ_CTRL_EN then [0] else []) ++ (if d.is R.RQ_CTRL_EN then [1] else [])

/-- The first enabled ring whose geometry meets one of the causes `cs` (R432). -/
def Dev.ringsCause (d : Dev) (cs : List Nat) : Option Nat :=
  (d.ringsOn.findSome? (fun r => (d.ringCause r).bind (fun c => if cs.contains c then some (det c r) else none)))

/-- A reservation in a bank that is off (R427). -/
def Dev.guarOff (d : Dev) : Option Nat :=
  (List.range 7).findSome? (fun c => [0, 1].findSome? (fun b =>
    if guarOf (d.reg (R.XR_GUAR c)) b false != 0 && !d.domOn (1 + b) then some (det c b) else none))

/-- XR_OVERCOMMIT (R427). -/
def Dev.guarOver (d : Dev) : Option Nat :=
  [0, 1].findSome? (fun b => let s := guarSum d.guars b false; if 56 < s then some (det (min s 255) b) else none)

/-! ### Periphery (R564) -/

/-- The time of one periodic transfer in ns, without pauses. -/
def Dev.ppTime (d : Dev) (k : Nat) : Nat :=
  let x := d.ppDesc k
  let lanes := fun (c : Nat) => 2 ^ c
  let cyc := ceilDiv (8 * x.clen) (lanes (x.ctl / 16 % 4)) + ceilDiv (8 * x.alen) (lanes (x.ctl / 64 % 4)) + x.dummy +
    ceilDiv (8 * x.dlen) (lanes x.dlane)
  (d.get R.PP_CFG_SU + d.get R.PP_CFG_HOLD + d.get R.PP_CFG_DESEL) * 5 + cyc * 10 * (d.get (R.PP_TCFG_DIV x.target) + 1)

/-- PERI_CONFLICT. -/
def Dev.periCause (d : Dev) : Option Nat :=
  let ks := (List.range 8).filter (fun k => d.is (R.PP_DSTAT_ARMED k) && (d.ppDesc k).start == 2)
  match ks with
  | [] => none
  | k0 :: _ =>
    match ks.find? (fun k => !d.areaValid (d.ppDesc k).area (d.ppDesc k).dlen) with
    | some k => some (det 1 k)
    | none =>
      if d.shortestPeriod * 1000 < (ks.map d.ppTime).sum then some (det 2 k0)
      else if !d.domOn 9 then some (det 3 k0) else none

/-! ### Clusters (R39, R522, R523, R533, R534) -/

/-- CL_BUF is not in one bank that is on, or is too small (CLUSTER_MISMATCH cause 0x07). -/
def Dev.clBufBad (d : Dev) (need : Nat) : Bool :=
  let b := d.get R.CL_BUF_BASE
  let n := 8 * d.get R.CL_BUF_SIZE
  decide (b % 8 ≠ 0) || decide (n = 0) || decide (0x10000 < b + n) || decide (bankOf b ≠ bankOf (b + n - 1)) || !d.xramOn b ||
    decide (n < need)

/-- RING holds no reserved slot in the bank of CL_BUF. -/
def Dev.clNoSlot (d : Dev) : Bool := guarOf (d.reg (R.XR_GUAR clRing)) (bankOf (d.get R.CL_BUF_BASE)) false == 0

/-- The settings that CHECK carries (CLUSTER_MISMATCH cause 0x02), as words. -/
def Dev.clSettings (d : Dev) : List Word :=
  [d.reg R.ACQ_CODE, d.reg R.ACQ_SELF, word (d.get R.ACQ_AFE_RETRY), d.reg R.TICK_PLAN, d.reg R.ACQ_GEOMX, d.reg R.ACQ_GEOMY] ++
    (List.range 8).map (fun h => d.reg (R.HOP_TABLE h)) ++ [d.reg R.HOP_LISTEN]

/-- SRC is CLUSTER on a device that has no tick to take (R39). -/
def Dev.clSource (d : Dev) : Option Nat :=
  if d.get R.TICK_CTRL_SRC ≠ 2 then none
  else if d.get R.CL_CTRL_ROLE ≠ 2 then some (det 1 0)
  else if !d.enumerated then some (det 4 0) else none

/-- Every column of the lead and of its members, and every row: node and number. -/
def Dev.clCols (d : Dev) : List (Nat × Nat) :=
  d.ownCols.map (fun c => (0, c)) ++ d.cl.lines.flatMap (fun e => e.2.1.map (fun c => (e.1, c)))
def Dev.clRowsAll (d : Dev) : List (Nat × Nat) :=
  d.ownRows.map (fun c => (0, c)) ++ d.cl.lines.flatMap (fun e => e.2.2.map (fun c => (e.1, c)))

/-- The lowest member that holds a number which another node holds too. -/
def clTwin (l : List (Nat × Nat)) : Option Nat :=
  (List.range 8).find? (fun k => k != 0 && l.any (fun e => e.1 == k && l.any (fun x => x.1 != k && x.2 == e.2)))

/-- LINE_CONFLICT cause 0x05 on the lead (R31, R522). -/
def Dev.clLineCause (d : Dev) : Option Nat :=
  match [clTwin d.clCols, clTwin d.clRowsAll].filterMap id with
  | [] =>
    if (List.range d.nCols).all (fun c => d.clCols.any (fun e => e.2 == c)) &&
        (List.range d.nRows).all (fun r => d.clRowsAll.any (fun e => e.2 == r)) then none else some (det 5 0)
  | k :: ks => some (det 5 (ks.foldl min k))

/-- What a member's own answer makes of the lead's check: cause and node of CLUSTER_MISMATCH, and for cause 0x05 the
member's reason, also where it cannot check at all. -/
def Dev.clAnswer (d : Dev) : Option (Nat × Nat × Option (Nat × Nat)) :=
  let bad := d.cl.checks.filter (fun a => a.2.1 != 0)
  let own := fun (a : Nat × Nat × Nat) => if a.2.1 = 0x0C then a.2.2 / 256 % 256 else 5
  let l := bad.map (fun a => (own a, a.1, if a.2.1 = 0x0C ∧ own a ≠ 5 then none else some (a.2.1, a.2.2)))
  [1, 2, 3, 4, 5, 7].findSome? (fun c => (l.filter (fun e => e.2.2 != some (0x10, det 3 0))).find? (fun e => e.1 == c))

/-- CLUSTER_MISMATCH on the lead: its DETAIL, and what CL_MREASON takes. -/
def Dev.clMismatch (d : Dev) : Option (Nat × Option (Nat × Nat × Nat)) :=
  let missing := d.clNodes.find? (fun k => !d.cl.checks.any (fun a => a.1 == k))
  if !d.enumerated || !d.domOn 8 || !d.is R.CL_STATUS_LINK then some (det 4 0, none)
  else
    let a := d.clAnswer
    match a.filter (fun x => decide (x.1 ≤ 3)) with
    | some (c, k, _) => some (det c k, none)
    | none => match missing with
    | some k => some (det 4 k, none)
    | none => match a.filter (fun x => decide (x.1 ≤ 5)) with
    | some (c, k, r) => some (det c k, r.map (fun e => (k, e.1, e.2)))
    | none =>
      if d.shortestPeriod ≠ d.get R.CL_PERIOD_PERIOD then some (det 6 0, none)
      else if d.clBufBad (2 * (d.cl.dcaps.map (·.2)).sum) then some (det 7 0, none)
      else match a with
      | some (c, k, _) => some (det c k, none)
      | none => none

/-- RING_BANDWIDTH (R533). -/
def Dev.clBandwidth (d : Dev) : Option Nat :=
  let wait := d.get R.CL_CFG_WAIT
  let sum := (d.cl.dcaps.map (fun e => e.2 + 64)).sum
  if 1000 * wait < 20000 + 80 * sum + d.get R.CL_RTT_NS then some (det 1 0)
  else if d.shortestPeriod < d.tAcq + wait + 150 then some (det 2 0)
  else if d.clNoSlot || d.cl.checks.any (fun a => a.2.1 == 0x10) then some (det 3 0) else none

/-- What a member's own check finds of the cluster's causes. -/
def Dev.clMemberCause (d : Dev) (settings : List Word) : Option (Nat × Nat) :=
  if d.get R.TICK_CTRL_SRC ≠ 2 then some (0x0C, det 1 0)
  else if settings ≠ d.clSettings then some (0x0C, det 2 0)
  else if d.is R.OPT_CTRL_EN then some (0x0C, det 3 0)
  else if d.clBufBad (2 * d.get R.CL_DCAP_DCAP) then some (0x0C, det 7 0)
  else if d.clNoSlot then some (0x10, det 3 0) else none

/-! ### The check (R622) -/

/-- A reason code with its DETAIL, where the DETAIL is there. -/
def reason (code : Nat) : Option Nat → Option (Nat × Nat)
  | some x => some (code, x)
  | none => none

/-- The tests that need no answer of another node, in the order of the table "Reason codes": code and DETAIL. The gating
case of R51 refuses by itself, whatever MINPER is (DESIGN CHOICE, log entry 19). -/
def Dev.ownCauses (d : Dev) : List (Option (Nat × Nat)) :=
  let seq := d.domOn 0
  [ (if seq && (d.seq.active.isNone || d.seq.bootFrom.isSome) then some (0x01, 0) else none),
    (if seq && d.seq.active.isSome && d.seq.bootFrom.isNone && !d.is R.SEQ_STATUS_AVERIFIED then some (0x02, d.get R.SEQ_VRES_CODE) else none),
    reason 0x0A d.domainCause,
    reason 0x05 d.lineCause,
    (if d.codeLen ≤ d.nRows then some (0x04, codeFor d.nRows) else none),
    (if d.get R.ACQ_DRV_VMAX < d.get R.ACQ_DRV_LEVEL ∨
        ((d.gorseMay || d.is R.CT_CTRL_LARK) = true ∧ d.get R.ACQ_DRV_VMAX < 3) then some (0x0B, 0) else none),
    (match d.tableCause with | some (c, h) => some (0x0E, det c h) | none => none),
    reason 0x0F d.regionsCause,
    reason 0x09 (d.ringsCause [1, 2, 3, 4]),
    reason 0x08 (d.ringsCause [5]),
    reason 0x07 (d.guarOff.orElse (fun _ => d.ringsCause [6])),
    reason 0x06 d.guarOver,
    (if d.get R.CAL_STATUS_LOADED ≠ 0 ∧ d.calSig ≠ d.reg R.CAL_LSIG then some (0x12, d.get R.CAL_STATUS_LOADED) else none),
    reason 0x11 d.periCause,
    (if d.get R.TICK_CTRL_SRC = 1 ∧ d.is R.TICK_STATUS_VLOCK = false then some (0x0D, 0) else none),
    (match d.clSource with
      | some x => some (0x0C, x)
      | none =>
        if d.gateBad then some (0x03, 0xFFFF)
        else if d.shortestPeriod < d.minPer then some (0x03, min d.minPer 0xFFFE) else none) ]

/-- The first cause of this node's own tests. -/
def Dev.ownCause (d : Dev) : Option (Nat × Nat) := d.ownCauses.findSome? id

/-- The first cause that refuses RUN: a lead tests its members' answers last. -/
def Dev.checkCause (d : Dev) : Option (Nat × Nat) :=
  match d.ownCause with
  | some c => some c
  | none =>
    if d.isLead then
      if d.enumerated && decide (d.clNodes.all (fun k => d.cl.checks.any (fun a => a.1 == k))) then
        match d.clLineCause with
        | some x => some (0x05, x)
        | none => match d.clMismatch with
        | some (x, _) => some (0x0C, x)
        | none => reason 0x10 d.clBandwidth
      else reason 0x0C (d.clMismatch.map (·.1))
    else none

/-! ### RUN (R301, R518, R620) -/

/-- A check has started: the lead asks its members (R518). -/
def Dev.checkAsk (d : Dev) : Dev :=
  let d : Dev := { d with cl := { d.cl with checks := [], lines := [], dcaps := [], pass2 := false } }
  if d.clLead then d.clSend frCheck clAll d.frameNo (d.clSettings.flatMap (fun w => leBytes 4 w.toNat)) else d

/-- RUN_SET: a write of 1 to SYS_CTRL.RUN. During RESET a write by the program is held (R301); a member's RUN follows
the lead (R518). The lead asks its members. While the device enters Fallow the write is ignored (DESIGN CHOICE, log entry
18). -/
def Dev.runSet (d : Dev) (prog : Bool) : Dev :=
  if d.clMember || d.sys.inReset || d.pwr.mode == 2 || d.pwr.stateReq.isSome then d
  else if prog && d.st == stBootWait && d.get R.SEQ_STATUS_ENTRY == 1 then { d with seq := { d.seq with heldRun := true } }
  else if d.st = stBootWait ∨ d.st = stReady then
    let d := (d.put R.SYS_CTRL_RUN 1).put R.SYS_STATUS_REFUSED 0
    ({ d.setSt stChecking with sys := { d.sys with checkFrom := d.st } } : Dev).checkAsk
  else d

/-- END (R301, R341): a RUN held during RESET starts the check as RUN_SET does. -/
def Dev.seqEndRun (d : Dev) : Dev :=
  let d' := d.seqEnd
  if d.st ≠ stChecking ∧ d'.st = stChecking then d'.checkAsk else d'

/-- RUN_CLEAR: a write of 0 to SYS_CTRL.RUN (R621). -/
def Dev.runClear (d : Dev) : Dev :=
  if d.clMember then d
  else
    let was := d.st
    let d := (d.calEnds Dev.clearRun).stageStop
    if was = stChecking then d.domRelease else d

/-- The device enters RUNNING (R51, R61, R108, R117, R132, R268, R304, R620). -/
def Dev.enterRunning (d : Dev) : Dev :=
  let d := ((d.setReg R.SYS_REASON 0).put R.SYS_CTRL_RUN 1).put R.SYS_STATUS_REFUSED 0
  let d := (d.put R.TICK_BUDGET_TACQ (min d.tAcq 65535)).put R.TICK_BUDGET_MINPER (min d.minPer 65535)
  let d := d.setSt stRunning
  let d : Dev := match d.cal.loadThr with
    | some (m, s) => { (d.put R.IMG_THR_THRM m).put R.IMG_THR_THRS s with cal := { d.cal with loadThr := none } }
    | none => d
  let d : Dev := { d with
    acq := { d.acq with orient := (d.reg R.ACQ_ORIENT).toNat }
    tick := { d.tick with first := true, held := 0, subLeft := 0, owed := 0, due := none, aligned := false, spacing := 0, lastTick := d.clock }
    cl := { d.cl with sent := none, echoed := false, staged := none, down := [], missing := [], holdN := 0, clearRun := false,
                      deltaEls := [], done := [], rx := [], rel := [], lossN := [], checkReq := false, quit := false, frz := [],
                      capLevel := d.ownLevel, larkSelf := d.ownLark } }
  (d.put R.HOP_FMIN_FMIN d.fMin).hopStart.imgStart.stageSend

/-- CHECK_END. -/
def Dev.checkEnd (d : Dev) : Dev :=
  if d.st ≠ stChecking then d
  else
    let d' := match d.checkCause with
      | none => d.enterRunning
      | some (c, x) =>
        let d := ((d.hopDrop.put R.SYS_REASON_CODE c).put R.SYS_REASON_DETAIL x).put R.SYS_CTRL_RUN 0
        let d := if c = 0x0C ∧ d.isLead then
            match d.clMismatch with
            | some (_, some (k, m, y)) => ((d.put R.CL_MREASON_NODE k).put R.CL_MREASON_CODE m).put R.CL_MREASON_DETAIL y
            | _ => d
          else d
        (d.put R.SYS_STATUS_REFUSED 1).setSt d.sys.checkFrom
    d'.domRelease

/-! ### The stop (R60, R132, R168, R593) -/

/-- STOP_COMPLETE: every frame acquired before the stop is processed and its handler has returned. -/
def Dev.stopComplete (d : Dev) : Dev :=
  if d.st ≠ stStopping || !d.quiet || (d.clLead && d.cl.clearRun) then d
  else
    let d := d.contactsStop
    let d := d.ctRegs.ctKeys d.frameNo d.isMember
    let d := (d.put R.CT_STATUS_GORSEON 0).imgStop
    let d : Dev := { d with acq := { d.acq with hiZ := true, listen := [] },
                            ct := { d.ct with gorseIn := 0, gorseOut := 0, gorseDue := none } }
    let d := (d.setSt stReady).pwrTick
    let d : Dev := { d with tick := { d.tick with held := 0, due := none, subLeft := 0, owed := 0 } }
    d.fallowTake

end Sys2Proof.Machine
end

