-- ==== Sys2Proof/Machine/Cluster.lean ====
section
/-!
DEFINITION. Machine/Cluster.lean: what a cluster node does with the characters and frames that reach it on the ring, and
at the deadlines of an exchange (chapter 16). Frame layouts that the spec leaves open are those of Machine/Ring.lean
(log entry 16).
-/

namespace Sys2Proof.Machine

/-! ### Reception (R514, R524, R525, R535) -/

/-- The bytes `o`..`o+n-1` of a payload as a number. -/
def bodyAt (b : List Byte) (o n : Nat) : Nat := leNat ((b.drop o).take n)

/-- Whether the CRC that came with a frame of type `typ` is right (R524). -/
def msgOk (m : RingMsg) (typ : Nat) : Bool := m.crc == ringCrc typ m.src m.dst m.seq m.frame m.body

/-- A ring frame of type `typ` has arrived on CLI. A member forwards it, the lead removes it (R514); one with a CRC error
is counted and dropped (R525). `lead` acts on frames for node 0 and on echoes, `member` on those for this node. -/
def Dev.clRx (d : Dev) (typ : Nat) (m : RingMsg) (lead member : Dev → Dev) : Dev :=
  if !d.domOn 8 || d.get R.CL_CTRL_ROLE == 0 then d
  else
    let d := d.clForward ⟨typ, m.src, m.dst, m.seq, m.frame, m.body, m.crc⟩
    if !msgOk m typ then (d.inc R.CL_COUNTS_LO).raise 0x09 (typ + 256 * (m.src % 8))
    else if 1024 < m.body.length then d
    else if d.isLead then (if m.dst == 0 || m.src == 0 then lead d else d)
    else if m.dst == clAll || (m.dst == d.clNode && m.dst != 0) then member d else d

/-- A frame of a member that reaches the lead: always acknowledged; a duplicate is discarded (R535). -/
def Dev.clAccept (d : Dev) (typ : Nat) (m : RingMsg) (act : Dev → Dev) : Dev :=
  if m.src = 0 then d
  else
    let d := d.clSend frAck m.src m.frame [byte typ, byte m.seq]
    if d.cl.seen.contains (m.src, typ, m.seq) then d
    else act { d with cl := { d.cl with
      seen := (m.src, typ, m.seq) :: d.cl.seen.filter (fun e => !(e.1 == m.src && e.2.1 == typ)) } }

/-- A frame that only the lead takes. -/
def Dev.clToLead (d : Dev) (typ : Nat) (m : RingMsg) (act : Dev → Dev) : Dev :=
  d.clRx typ m (fun d => d.clAccept typ m act) id

/-! ### Enumeration (R516, R517, R519, R522) -/

/-- The compensation of member `k`, RTT − (k·w + (k − 1)·80) with the estimated wire delay of one hop w = (RTT − 80·N) /
(N + 1), rounded once to whole ns (R519). -/
def compOf (rtt n k : Nat) : Nat :=
  (roundDiv (((rtt : Int) - (k - 1 : Nat) * 80) * (n + 1) - k * ((rtt : Int) - 80 * n)) (n + 1)).toNat

/-- Enumeration or dissolution ends: the COMPLETION of CLUSTER_CFG. -/
def Dev.enumEnd (d : Dev) (status detail : Nat) : Dev :=
  match d.cl.enum with
  | none => d
  | some e => ({ d with cl := { d.cl with enum := none } } : Dev).endAsync e.cmd status detail

/-- Enumeration fails with `cause`: no node is left enumerated (R516). -/
def Dev.enumFail (d : Dev) (cause : Nat) : Dev :=
  let n := d.get R.CL_STATUS_NMEMB
  let d := d.clSend frLeave clAll 0 []
  (d.put R.CL_STATUS_ENUM 0).enumEnd csRefused (n + 256 * cause)

/-- Every member has confirmed CONFIG: the lead is enumerated. -/
def Dev.enumDone (d : Dev) : Dev :=
  match d.cl.enum with
  | none => d
  | some e =>
    let n := d.get R.CL_STATUS_NMEMB
    if e.step = 5 ∧ (List.range n).all (fun k => e.oks.contains (k + 1)) = true then
      let d := (d.put R.CL_STATUS_ENUM 1).put R.CL_STATUS_NODE 0
      let d := (d.put R.CL_COMP_NS (d.get R.CL_RTT_NS)).put R.CL_PERIOD_PERIOD d.shortestPeriod
      let d := (d.put R.CL_ROWS_FIRST (d.get R.ACQ_DRANGE_DLOW + 1)).put R.CL_ROWS_LAST (d.get R.ACQ_DRANGE_DHIGH + 1)
      d.enumEnd csOk n
    else d

/-- CLUSTER_CFG ENUMERATE starts on the lead (R516). Where its CLI is not locked it fails, and members of an earlier
cluster are told to leave. -/
def Dev.enumStart (d : Dev) (expect : Nat) (cmd : Async) : Dev :=
  let d : Dev := { d with cl := { d.cl with enum := some ⟨1, expect, 0, 0, [], cmd⟩ } }
  let d := if d.domOn 8 then d.put R.CL_STATUS_NMEMB 0 else d
  if !d.isLead then d.enumEnd csRefused 0x100
  else if d.enumerated then d.enumFail 1
  else if !d.domOn 8 then d.enumEnd csRefused 0x200
  else if !d.is R.CL_STATUS_LINK then d.enumFail 2
  else d.clSend frEnum clAll 0 [1]

/-- CLUSTER_CFG DISSOLVE starts on the lead (R517); without a cluster there is no member left to leave. -/
def Dev.dissolveStart (d : Dev) (cmd : Async) : Dev :=
  let d : Dev := { d with cl := { d.cl with enum := some ⟨4, 0, 0, 0, [], cmd⟩ } }
  if d.clLead then d.clSend frLeave clAll 0 [] else d.enumEnd csOk 0

/-- ENUM: a member that is not enumerated takes the ID and forwards the next; the lead's echo counts them (R516). -/
def Dev.clEnum (d : Dev) (m : RingMsg) : Dev :=
  if !d.domOn 8 || d.get R.CL_CTRL_ROLE == 0 then d
  else if !msgOk m frEnum then
    ((d.clForward ⟨frEnum, m.src, m.dst, m.seq, m.frame, m.body, m.crc⟩).inc R.CL_COUNTS_LO).raise 0x09 (frEnum + 256 * (m.src % 8))
  else
    let next := bodyAt m.body 0 1
    if d.isMember then
      if d.enumerated then d.clForward ⟨frEnum, m.src, m.dst, m.seq, m.frame, m.body, m.crc⟩
      else
        let d := d.put R.CL_STATUS_NODE next
        let body := byte (next + 1) :: m.body.drop 1
        d.clForward ⟨frEnum, m.src, m.dst, m.seq, m.frame, body, ringCrc frEnum m.src m.dst m.seq m.frame body⟩
    else match d.cl.enum with
      | none => d
      | some e =>
        if e.step ≠ 1 then d
        else
          let n := next - 1
          let d := d.put R.CL_STATUS_NMEMB (min n 7)
          if 7 < n then d.enumFail 4
          else if n ≠ e.expect then d.enumFail 3
          else
            let d : Dev := { d with cl := { d.cl with enum := some { e with step := 2 } } }
            (List.range 16).foldl (fun (d : Dev) _ => d.sendK kMeasure) d

/-- MEASURE: a member forwards it; on the lead it is an echo, and after the last one CONFIG goes out (R516). -/
def Dev.clMeasure (d : Dev) (echo : Echo) : Dev :=
  if !d.domOn 8 then d
  else if d.isMember then d.sendK kMeasure
  else match d.cl.enum with
    | none => d
    | some e =>
      if e.step ≠ 2 then d
      else
        let e : EnumRun := { e with sum := e.sum + echo.ns, count := e.count + 1 }
        let d : Dev := { d with cl := { d.cl with enum := some e } }
        if e.count < 16 then d
        else
          let n := d.get R.CL_STATUS_NMEMB
          let rtt := (roundDiv e.sum 16).toNat
          let d := d.put R.CL_RTT_NS (min rtt 65535)
          if 250 * (n + 1) < rtt then d.enumFail 5
          else
            let d : Dev := { d with cl := { d.cl with enum := some { e with step := 3 } } }
            d.clSend frConfig clAll 0 (leBytes 2 rtt ++ leBytes 2 d.shortestPeriod ++ [byte n] ++
              (List.range n).flatMap (fun k => leBytes 2 (compOf rtt n (k + 1))) ++
              (List.range n).flatMap (fun k =>
                let b := echo.blocks.getD k (0, 0)
                leBytes 2 b.1 ++ leBytes 2 b.2))

/-- The lines of a CHECKR payload, each with its electrode in [14:9] and its number in [8:0] (log entry 16). -/
def Dev.lineWords (d : Dev) (r : Nat) : List Nat :=
  ((d.elsOf r).map (fun n => d.elIndex n % 512 + 512 * n)).mergeSort (fun a b => a % 512 ≤ b % 512)

/-- A CHECKR payload: code, DETAIL, CL_DCAP, and the assignments of columns and rows. -/
def Dev.checkrBody (d : Dev) (code detail : Nat) : List Byte :=
  [byte code] ++ leBytes 2 detail ++ leBytes 2 (d.get R.CL_DCAP_DCAP) ++ [byte d.ownCols.length, byte d.ownRows.length] ++
    (d.lineWords 2).flatMap (leBytes 2) ++ (d.lineWords 1).flatMap (leBytes 2)

/-- `n` numbers of two bytes. -/
def halfList : Nat → List Byte → List Nat
  | 0, _ => []
  | n + 1, bs => leNat (bs.take 2) :: halfList n (bs.drop 2)

/-- CONFIG: a member in READY takes its place in the cluster and confirms (R516, R519, R522). -/
def Dev.clConfig (d : Dev) (m : RingMsg) : Dev :=
  d.clRx frConfig m
    (fun d => match d.cl.enum with
      | some e => if e.step = 3 then ({ d with cl := { d.cl with enum := some { e with step := 5 } } } : Dev).enumDone else d
      | none => d)
    (fun d =>
      if d.st ≠ stReady then d.clSend frCheckr 0 0 (d.checkrBody 1 0)
      else
        let k := d.clNode
        let d := (d.put R.CL_RTT_NS (bodyAt m.body 0 2)).put R.CL_PERIOD_PERIOD (bodyAt m.body 2 2)
        let d := d.put R.CL_COMP_NS (bodyAt m.body (5 + 2 * (k - 1)) 2)
        let d := (d.put R.CL_ROWS_FIRST (d.get R.ACQ_DRANGE_DLOW + 1)).put R.CL_ROWS_LAST (d.get R.ACQ_DRANGE_DHIGH + 1)
        (d.put R.CL_STATUS_ENUM 1).clSend frCheckr 0 0 (d.checkrBody 0 0))

/-- LEAVE (R517): members clear ENUM and NODE; the lead's echo ends the dissolution. -/
def Dev.clLeave (d : Dev) (m : RingMsg) : Dev :=
  d.clRx frLeave m
    (fun d => match d.cl.enum with
      | some e => if e.step = 4 then (d.put R.CL_STATUS_ENUM 0).enumEnd csOk 0 else d
      | none => d)
    (fun d => (d.put R.CL_STATUS_ENUM 0).put R.CL_STATUS_NODE 0)

/-- ENUM_ECHO_TIMEOUT: an echo has not returned within 50 µs, or a confirmation is missing (R516). -/
def Dev.enumEchoTimeout (d : Dev) : Dev :=
  match d.cl.enum with
  | none => d
  | some e => if e.step = 5 then d.enumFail 6 else if e.step = 4 then (d.put R.CL_STATUS_ENUM 0).enumEnd csOk 0 else d.enumFail 2

/-! ### The check (R518, R522, R523) -/

/-- The words of a CHECK payload. -/
def wordList : Nat → List Byte → List Word
  | 0, _ => []
  | n + 1, bs => word (leNat (bs.take 4)) :: wordList n (bs.drop 4)

/-- CHECK: a member runs its own check and answers; the self term of its budget counts pass 2 when any node needs it
(R81). -/
def Dev.clCheck (d : Dev) (ask : CheckAsk) : Dev :=
  let m := ask.msg
  d.clRx frCheck m id (fun d =>
    let d : Dev := { d with cl := { d.cl with pass2 := ask.pass2 } }
    if d.st ≠ stBootWait ∧ d.st ≠ stReady then d.clSend frCheckr 0 m.frame (d.checkrBody 0x0C (det 5 d.clNode))
    else
      let c := match d.ownCause with
        | some c => some c
        | none => d.clMemberCause (wordList (m.body.length / 4) m.body)
      match c with
      | some (code, x) =>
        let d := ((d.put R.SYS_REASON_CODE code).put R.SYS_REASON_DETAIL x).put R.SYS_STATUS_REFUSED 1
        ({ d with cl := { d.cl with checkReq := false } } : Dev).clSend frCheckr 0 m.frame (d.checkrBody code x)
      | none =>
        ({ d.put R.SYS_STATUS_REFUSED 0 with cl := { d.cl with checkReq := true } } : Dev).clSend frCheckr 0 m.frame
          (d.checkrBody 0 0))

/-- CHECKR: the lead takes a member's answer to CHECK, or its confirmation of CONFIG. -/
def Dev.clCheckr (d : Dev) (m : RingMsg) : Dev :=
  d.clToLead frCheckr m (fun d =>
    let code := bodyAt m.body 0 1
    match d.cl.enum with
    | some e =>
      if code ≠ 0 then d.enumFail 6
      else ({ d with cl := { d.cl with enum := some { e with oks := m.src :: e.oks } } } : Dev).enumDone
    | none =>
      let nc := bodyAt m.body 5 1
      let nr := bodyAt m.body 6 1
      let keep {α : Type} (l : List (Nat × α)) : List (Nat × α) := l.filter (fun e => e.1 != m.src)
      { d with cl := { d.cl with
          checks := keep d.cl.checks ++ [(m.src, code, bodyAt m.body 1 2)]
          dcaps := keep d.cl.dcaps ++ [(m.src, bodyAt m.body 3 2)]
          lines := keep d.cl.lines ++ [(m.src, (halfList nc (m.body.drop 7)).map (· % 512),
            (halfList nr (m.body.drop (7 + 2 * nc))).map (· % 512))]
          pass2 := d.cl.pass2 || (halfList nr (m.body.drop (7 + 2 * nc))).any (fun w => decide (32 * 512 ≤ w % 32768)) } })

/-! ### Ticks of a member (R519–R521, R531, R538) -/

/-- A member whose check has passed enters RUNNING with its lead, at the first STAGE or tick that follows (R518). -/
def Dev.memberEnter (d : Dev) : Dev :=
  if d.cl.checkReq && (d.st == stReady || d.st == stBootWait) then d.enterRunning else d

/-- A tick that a member takes from the ring applies the STAGE that has arrived whole for it; at a TICKH none (R531). -/
def Dev.memberTick (d : Dev) (h : Bool) : Dev :=
  match d.cl.staged with
  | some s => if h || s.more then d.tickNow d.nextCount true none else d.tickNow s.tick false (some s)
  | none => d.tickNow d.nextCount true none

/-- TICK or TICKH on a member (R520, R531). One that comes before MINPER has passed is held (R53); in Heath MINPER does not
bind the ring's ticks (R588). -/
def Dev.ringTickOf (d : Dev) (k : Nat) (h : Bool) : Dev :=
  if !d.domOn 8 || !d.isMember then d
  else
    let d := ((d.sendK k).put R.CL_STATUS_HOLD 0).memberEnter
    if !d.clMember || !d.ticking then d
    else
      let d : Dev := { d with cl := { d.cl with holdN := 0 } }
      if d.st ≠ stHeath ∧ d.tickEarly = true then { d with tick := { d.tick with held := if h then 3 else 2 } } else d.memberTick h

/-- RING_TICK: the TICK character on a member. -/
def Dev.ringTick (d : Dev) : Dev := d.ringTickOf kTick false

/-- TICKH on a member: a tick that applies no new STAGE. -/
def Dev.ringTickH (d : Dev) : Dev := d.ringTickOf kTickH true

/-- A tick that was held is issued once MINPER has passed since the previous one (R53). -/
def Dev.heldTick (d : Dev) : Dev :=
  if d.tick.held = 0 ∨ d.ticking = false ∨ d.tickEarly = true then d
  else if d.tick.held = 1 then d.ownTick
  else d.memberTick (d.tick.held == 3)

/-- A loss handled under R537 or R538: one event of FS0A, RUN cleared, LOST. -/
def Dev.clLoss (d : Dev) (detail : Nat) : Dev :=
  (((d.put R.CL_STATUS_LOST 1).raise 0x0A detail).calEnds Dev.runEnds).stageStop

/-- MEMBER_HOLDOVER (R521, R538). -/
def Dev.memberHoldover (d : Dev) : Dev :=
  if !d.isMember || !d.domOn 8 || !d.ticking then d
  else
    let d := (d.put R.CL_STATUS_HOLD 1).inc R.CL_COUNTS2_HI
    let n := d.cl.holdN + 1
    let d : Dev := { d with cl := { d.cl with holdN := n } }
    let d := d.tickNow d.nextCount true none
    if n = 3 then d.acqStop.clLoss (0x400 + d.clNode) else d

/-! ### Exchanges within a frame (R526–R532, R542) -/

/-- STAGE frames assembled. -/
def stageJoin (old : Option Stage) (s : Stage) : Stage :=
  match old with
  | some o => if o.more then { s with frz := o.frz ++ s.frz, rel := o.rel ++ s.rel, prf := o.prf ++ s.prf } else s
  | none => s

/-- STAGE: a member keeps it for the next TICK; the lead checks its echo, and resends a failed one at most twice (R530,
R531). -/
def Dev.clStage (d : Dev) (m : RingMsg) : Dev :=
  if d.isLead && !msgOk m frStage && m.src == 0 && d.domOn 8 then
    let d := (d.inc R.CL_COUNTS_LO).raise 0x09 frStage
    match d.cl.sent with
    | some s =>
      if 2 ≤ d.cl.resent then d
      else
        let d : Dev := { d with cl := { d.cl with resent := d.cl.resent + 1, staged := none, echoed := false } }
        (Stage.split 64 s).foldl (fun (d : Dev) x => d.clSend frStage clAll d.frameNo x.bytes) d
    | none => d
  else d.clRx frStage m
    (fun d =>
      let s := stageJoin d.cl.staged (stageOf m.body)
      if s.more then { d with cl := { d.cl with staged := some s } }
      else { d with cl := { d.cl with staged := none, echoed := d.cl.echoed || d.cl.sent == some s } })
    (fun d =>
      let d := d.memberEnter
      { d with cl := { d.cl with staged := some (stageJoin d.cl.staged (stageOf m.body)) } })

/-- RETRY: every node re-drives the symbols it names, when it has come by the end of the gap; the lead sees its echo (R89,
R526, R527). -/
def Dev.clRetry (d : Dev) (m : RingMsg) : Dev :=
  d.clRx frRetry m
    (fun d => { d with cl := { d.cl with retryAck := d.cl.retry.isSome } })
    (fun d =>
      let l := halfList (m.body.length / 2) m.body
      match d.acq.now with
      | some f =>
        if d.inGap f && d.cl.retry.isNone then
          { d with cl := { d.cl with retry := some l }, acq := { d.acq with now := some { f with ask := l } } }
        else d
      | none => d)

/-- `n` NOISE triples. -/
def noiseList : Nat → List Byte → List (Nat × Nat × Nat)
  | 0, _ => []
  | n + 1, bs => (leNat (bs.take 16), leNat ((bs.drop 16).take 16), leNat ((bs.drop 32).take 1)) :: noiseList n (bs.drop 33)

/-- NOISE: the lead uses those that arrive before its acquisition ends (R118, R526). -/
def Dev.clNoiseRx (d : Dev) (m : RingMsg) : Dev :=
  d.clToLead frNoise m (fun d =>
    if d.acq.now.any (fun f => f.tick % 65536 == m.frame) then
      { d with hop := { d.hop with mPow := d.hop.mPow.filter (fun e => e.1 != m.src) ++ [(m.src, noiseList 8 m.body)] } }
    else d)

/-- The symbol indices that a bitmap names. -/
def bitmapBits : Nat → List Byte → List Nat
  | _, [] => []
  | k, b :: bs => (bitsOf 8 b.toNat).map (· + 8 * k) ++ bitmapBits (k + 1) bs

/-- CORR: the lead chooses the retries once every CORR has arrived (R526); one that comes after RETRY was sent only is
acknowledged (R542). -/
def Dev.clCorrRx (d : Dev) (m : RingMsg) : Dev :=
  d.clToLead frCorr m (fun d =>
    if d.cl.retry.isSome || !d.acq.now.any (fun f => f.tick % 65536 == m.frame) then d
    else
      let d : Dev := { d with cl := { d.cl with corr := d.cl.corr.filter (fun e => e.1 != m.src) ++ [(m.src, bitmapBits 0 m.body)] } }
      if d.clNodes.all (fun k => d.cl.corr.any (fun e => e.1 == k)) then d.clChoose else d)

/-- RETRY_CHOICE_DEADLINE: XGAP/2 into the exchange gap (R526). -/
def Dev.retryChoice (d : Dev) : Dev := d.clChoose

/-- No retry is run in the frame being acquired. -/
def Dev.noRetryNow (d : Dev) : Dev :=
  { d with acq := { d.acq with now := d.acq.now.map (fun (f : Frame) => { f with noRetry := true }) } }

/-- RETRY_ECHO_DEADLINE: the echo of RETRY has not returned intact 1 µs before the gap ends (R527). -/
def Dev.retryEcho (d : Dev) : Dev :=
  if d.clLead && d.acq.now.any d.inGap && !d.cl.retryAck then (d.sendK kRcancel).noRetryNow else d

/-- RCANCEL on a member (R527). -/
def Dev.ringRcancel (d : Dev) : Dev := if d.domOn 8 && d.isMember then (d.sendK kRcancel).noRetryNow else d

/-- STAGE_DEADLINE: 30 µs before the next tick (R526). -/
def Dev.stageDeadline (d : Dev) : Dev := if d.ticking then d.stageSend else d

/-- A frame number that the lead still waits to process. -/
def Dev.frameWaits (d : Dev) (n : Nat) : Bool := (d.acq.now.toList ++ d.acq.ready).any (fun f => f.tick % 65536 == n)

/-- Where the lead stores a DELTA of member `src` (R534): each member has two areas of its CL_DCAP bytes, one behind those
of the members before it, used by the frame's parity (DESIGN CHOICE, log entry 16). -/
def Dev.deltaPlace (d : Dev) (src frame : Nat) : Nat :=
  let cap := fun (k : Nat) => (d.cl.dcaps.lookup k).getD 0
  d.get R.CL_BUF_BASE + 2 * ((List.range src).map cap).sum + frame % 2 * cap src

/-- What has come of the DELTA of `src` for `frame`. -/
def Dev.deltaRx (d : Dev) (src frame : Nat) : DeltaRx :=
  (d.cl.rx.find? (fun x => x.src == src && x.frame == frame)).getD ⟨src, frame, 0, [], false⟩

/-- A DELTA frame's payload with those that came before it. -/
def DeltaRx.add (x : DeltaRx) (body : List Byte) : DeltaRx :=
  { x with
    bytes := x.bytes + body.length
    cols := x.cols ++ (List.range (bodyAt body 1 1)).map (· + bodyAt body 0 1)
    last := x.last || bitOf (bodyAt body 2 1) 0 }

/-- Every column of a member has come, and its last frame. -/
def Dev.deltaWhole (d : Dev) (x : DeltaRx) : Bool :=
  x.last && (List.range ((d.cl.lines.lookup x.src).getD ([], [])).1.length).all x.cols.contains

/-- A DELTA frame stored in the lead's buffer, whose words the lead then reads (R419, R534). -/
def Dev.deltaStore (d : Dev) (o : Nat) (body : List Byte) : Dev :=
  if o + body.length ≤ 0x10000 && d.xramOn o && d.xramOn (o + body.length - 1) then
    (d.xwriteClean clRing o body).eccTouch clRing o body.length
  else d

/-- DELTA (R529, R532, R536, R544): the member's frame counts as arrived once all its columns have come. -/
def Dev.clDeltaRx (d : Dev) (m : RingMsg) : Dev :=
  d.clToLead frDelta m (fun d =>
    if !d.frameWaits m.frame || d.cl.down.contains m.src then d
    else
      let fl := bodyAt m.body 2 1
      let old := d.deltaRx m.src m.frame
      let x := old.add m.body
      let o := d.deltaPlace m.src m.frame + old.bytes
      let d := (d.deltaStore o m.body).clTake m.src o m.body
      let tc := d.cl.tcap.filter (· != m.src)
      let d : Dev := { d with cl := { d.cl with
        tcap := if bitOf fl 5 then m.src :: tc else tc
        rejected := d.cl.rejected || bitOf fl 2
        swst := (m.src, fl / 8 % 4) :: d.cl.swst.filter (fun e => e.1 != m.src)
        missing := d.cl.missing.filter (fun e => e.1 != m.src)
        rx := x :: d.cl.rx.filter (fun y => !(y.src == m.src && y.frame == m.frame)) } }
      if d.deltaWhole x then { d with cl := { d.cl with done := m.src :: d.cl.done } } else d)

/-- DELTA_DEADLINE (R536, R538): a member whose DELTA is not all there is late; one of which nothing has come is missing. -/
def Dev.deltaDeadline (d : Dev) : Dev :=
  if !d.clLead || d.acq.ready.isEmpty || d.acq.proc.isSome then d
  else
    let late := d.clNodes.filter (fun k => !d.cl.done.contains k && !d.cl.down.contains k)
    let d := late.foldl (fun (d : Dev) k =>
      let d := (d.inc R.CL_COUNTS2_LO).put R.CL_STALEM_MEMB (setBit (d.get R.CL_STALEM_MEMB) (k - 1) true)
      if d.cl.rx.any (fun x => x.src == k) then d
      else
        let n := (d.cl.missing.lookup k).getD 0 + 1
        { d with cl := { d.cl with missing := (k, n) :: d.cl.missing.filter (fun e => e.1 != k) } }) d
    let d := match late.find? (fun k => (d.cl.missing.lookup k).getD 0 == 3) with
      | some k => d.clLoss (0x200 + k)
      | none => d
    d.procStart

/-! ### Calibration (R254) -/

/-- `n` column medians: column, value. -/
def caldCols : Nat → List Byte → List (Nat × Int)
  | 0, _ => []
  | n + 1, bs => (leNat (bs.take 2), signed 32 (leNat ((bs.drop 2).take 4))) :: caldCols n (bs.drop 6)

/-- `n` row medians: row, value, count. -/
def caldRows : Nat → List Byte → List (Nat × Int × Nat)
  | 0, _ => []
  | n + 1, bs => (leNat (bs.take 2), signed 32 (leNat ((bs.drop 2).take 4)), leNat ((bs.drop 6).take 2)) :: caldRows n (bs.drop 8)

/-- CALD: the lead keeps a member's medians and counts, those of one frame together. -/
def Dev.clCald (d : Dev) (m : RingMsg) : Dev :=
  d.clToLead frCald m (fun d =>
    let nc := bodyAt m.body 0 1
    let nr := bodyAt m.body (1 + 6 * nc) 2
    let old := d.cal.cald.filter (fun e => e.src == m.src && e.frame == m.frame)
    let new : Cald := ⟨m.src, m.frame, decide (32768 ≤ nr), old.flatMap (·.cols) ++ caldCols nc (m.body.drop 1),
      old.flatMap (·.rows) ++ caldRows (nr % 32768) (m.body.drop (3 + 6 * nc))⟩
    { d with cal := { d.cal with cald := d.cal.cald.filter (fun e => e.src != m.src) ++ [new] } })

/-- CALR: once the last part has come, a member forms its own results with panmed and the line gains, and takes them at
the next tick (R254). One that fails its own tests changes nothing on the member (R258–R260). The kind is the one that
CALR names: STAGE carries none (log entry 16). -/
def Dev.clCalr (d : Dev) (m : RingMsg) : Dev :=
  d.clRx frCalr m id (fun d =>
    match d.cal.touch with
    | none => d
    | some t =>
      let kind := bodyAt m.body 0 1 % 4
      let pan := signed 32 (bodyAt m.body 1 4)
      let n := bodyAt m.body 5 2
      let gains := d.cal.calr ++ halfList n (m.body.drop 7)
      let d : Dev := { d with cal := { d.cal with calr := if bitOf (bodyAt m.body 0 1) 7 then gains else [] } }
      if bitOf (bodyAt m.body 0 1) 7 then d
      else match d.memberResult kind pan ((List.range gains.length).map (fun r => (r, gains.getD r 0))) t with
      | .inr (c, x) => Dev.settleFaults 3 (d.calFail kind c x)
      | .inl v =>
        let d := d.put R.CAL_STATUS_PEND (setBit (d.get R.CAL_STATUS_PEND) kind true)
        ({ d with cal := { d.cal with touch := none, wait := d.cal.wait.filter (fun w => w.1 != kind) ++ [(kind, true, v)] } }
          : Dev).stageOffs v)

/-! ### Acknowledgement (R535) -/

/-- ACK: the frame it names is confirmed. -/
def Dev.clAck (d : Dev) (m : RingMsg) : Dev :=
  d.clRx frAck m id (fun d =>
    { d with cl := { d.cl with
      unacked := d.cl.unacked.filter (fun u => !(u.f.typ == bodyAt m.body 0 1 && u.f.seq == bodyAt m.body 1 1)) } })

/-- ACK_TIMEOUT: the frame whose ACK is due next is sent again, at most twice; its next time-out then comes last (R535). -/
def Dev.ackTimeout (d : Dev) : Dev :=
  match d.cl.unacked with
  | [] => d
  | u :: rest =>
    if !d.domOn 8 || !d.isMember then d
    else if u.tries < 2 then
      ({ d with cl := { d.cl with tx := d.cl.tx ++ [u.f], unacked := rest ++ [⟨u.f, u.tries + 1⟩] } } : Dev).inc R.CL_COUNTS_HI
    else { d with cl := { d.cl with unacked := rest } }

/-! ### Losses (R513, R537–R539, R544) -/

/-- RING_DOWN: node `n` has stopped acquisition. -/
def Dev.ringDown (d : Dev) (n : Nat) : Dev :=
  if !d.domOn 8 then d
  else if d.isMember then
    let d := d.sendK kDown
    if d.ticking then { d.acqStop.put R.CL_STATUS_LOST 1 with cl := { d.acqStop.cl with quit := true } } else d
  else if !d.clLead || !d.ticking || n == 0 || decide (7 < n) then d
  else
    let (cols, rows) := (d.cl.lines.lookup n).getD ([], [])
    let gone : Nat × Nat × Nat × Int × Bool → Bool := fun e =>
      if e.1 = 2 then rows.contains e.2.2.1 else if e.1 = 1 then cols.contains e.2.1
      else cols.contains e.2.1 || rows.contains e.2.2.1
    let now := d.get R.TICK_COUNT_COUNT
    let first := !d.cl.lossN.contains now
    let d := d.put R.CL_STALEM_MEMB (setBit (d.get R.CL_STALEM_MEMB) (n - 1) true)
    let d : Dev := { d with cl := { d.cl with
      down := n :: d.cl.down
      lossN := [now]
      deltaEls := d.cl.deltaEls.map (fun e => (e.1, e.2.1, e.2.2.1, e.2.2.2.1, e.2.2.2.2 || gone e)) } }
    if first then d.clLoss (0x100 + n) else d

/-- A node loses its lock on CLI: LINK reads 0 and ENUM is cleared (R539); a lead notes that its cluster was running. -/
def Dev.linkLost (d : Dev) : Dev :=
  let run := d.clLead && d.ticking
  let d := (d.put R.CL_STATUS_LINK 0).put R.CL_STATUS_ENUM 0
  { d with cl := { d.cl with unlocked := d.cl.unlocked || run } }

/-- CLI_UNLOCK: the lead's CLI has stayed unlocked for 2 µs (R538, R539). -/
def Dev.cliUnlock (d : Dev) : Dev :=
  if !d.domOn 8 || !d.isLead then d
  else
    let run := (d.clLead || d.cl.unlocked) && d.ticking
    let d := d.linkLost
    let d := if run then d.clLoss 0x300 else d
    { d with cl := { d.cl with unlocked := false } }

/-- LINK_LOCK (R513). A lock met while RING ramps up ends its ramp (R572). -/
def Dev.linkLock (d : Dev) : Dev :=
  if d.domOn 8 then { d.put R.CL_STATUS_LINK 1 with cl := { d.cl with unlocked := false } }
  else if d.dom 8 = 1 then { d with cl := { d.cl with locked := true } } else d

/-- LINK_LOSS: a node loses its lock on CLI (R539). -/
def Dev.linkLoss (d : Dev) : Dev := if d.domOn 8 then d.linkLost else { d with cl := { d.cl with locked := false } }

/-! ### Writes (R515, R546) -/

/-- A write to CL_CTRL.ROLE. -/
def Dev.clRoleWrite (d : Dev) (v : Nat) : Dev :=
  if d.domOn 8 && (d.st == stBootWait || d.st == stReady) && !d.enumerated && v % 4 != 3 then d.put R.CL_CTRL_ROLE (v % 4) else d

/-- A write of 1 to CL_CMD.CLRCNT. -/
def Dev.clClrCnt (d : Dev) : Dev := if d.domOn 8 then (d.setReg R.CL_COUNTS 0).setReg R.CL_COUNTS2 0 else d

end Sys2Proof.Machine
end

