-- ==== Sys2Proof/Machine/TempFault.lean ====
section
/-!
DEFINITION. Machine/TempFault.lean: temperature supervision and the writes of the fault registers (chapter 20,
R638–R651, R655).
-/

namespace Sys2Proof.Machine

/-! ### Temperature (R638–R643) -/

/-- A threshold in °C seen by a reading `t` in 1/16 °C: the run count shown (the entry count, or the leave count while
the state is in force), and whether the state is entered or left (R639). -/
def tempCount (thr hys : Nat) (inForce : Bool) (n : Nat) (t : Int) : Nat × Bool :=
  let hit := if inForce then decide (t < ((thr : Int) - hys) * 16) else decide ((thr : Int) * 16 ≤ t)
  if hit then (if 8 ≤ n + 1 then (0, true) else (n + 1, false)) else (0, false)

/-- Entry to the critical state (R642). The frame being acquired is cut as at its deadline (R57). -/
def Dev.tempCritical (d : Dev) : Dev :=
  let d := d.clusterDown
  let d := match d.acq.now with
    | some f =>
      let d := (d.inc R.TICK_COUNTS_CUTS).acqFinish { f with cut := true, noRetry := true }
      { d with acq := { d.acq with hiZ := true } }
    | none => d
  let d := if d.st = stHeath ∨ d.st = stRunning then d.runEnds else d
  if d.domOn 5 then
    { d.drainStart 5 with pwr := { d.pwr with tickOff := setBit d.pwr.tickOff 5 false }, flt := { d.flt with drvOff := true } }
  else d

/-- The critical state is left: DRV is switched back on (R643). -/
def Dev.tempCool (d : Dev) : Dev :=
  if d.flt.drvOff then ({ d with flt := { d.flt with drvOff := false } } : Dev).switchOn 5 else d

/-- TEMP_SAMPLE: the readings of TEMP0 and TEMP1 in 1/16 °C. What the sample makes lasting is recorded before any action (R647).
-/
def Dev.tempSample (d : Dev) (t0 t1 : Int) : Dev :=
  if d.sys.inReset then d
  else
    let t := max t0 t1
    let d := (d.put R.FLT_TEMPST_TNOW (unsigned 16 t)).putB R.FLT_TEMPST_SRC (decide (t0 < t1))
    let d := if d.getS R.FLT_TMAX_TMAX < t then d.put R.FLT_TMAX_TMAX (unsigned 16 t) else d
    let hys := d.get R.FLT_TEMP_HYS
    let w := d.is R.FLT_TEMPST_WARN
    let c := d.is R.FLT_TEMPST_CRIT
    let (wn, wch) := tempCount (d.get R.FLT_TEMP_WARN) hys w (d.get R.FLT_TEMPST_WRUN) t
    let (cn, cch) := tempCount (d.get R.FLT_TEMP_CRIT) hys c (d.get R.FLT_TEMPST_CRUN) t
    let d := (d.put R.FLT_TEMPST_WRUN wn).put R.FLT_TEMPST_CRUN cn
    let d := if wch then d.putB R.FLT_TEMPST_WARN (!w) else d
    let d := if cch then d.putB R.FLT_TEMPST_CRIT (!c) else d
    let detail := unsigned 16 (Int.fdiv t 16)
    let was := d.st
    let d := if wch && !w then d.noteEvent 0x0E detail 0 else d
    let d := Dev.settleFaults 3 (if cch && !c then d.noteEvent 0x0F detail 0 else d)
    let d := d.checkLeft was
    if !cch then d else if c then d.tempCool else (d.calEnds Dev.tempCritical).stageStop

/-- A write to FLT_TEMP (R651). -/
def Dev.fltTempWrite (d : Dev) (v : Nat) : Dev :=
  let warn := v % 256
  let crit := v / 256 % 256
  let hys := v / 65536 % 16
  if crit ≤ warn ∨ warn < 60 ∨ 125 < warn ∨ crit < 80 ∨ 150 < crit ∨ hys = 0 then d
  else ((d.setReg R.FLT_TEMP (word (v % 2 ^ 20))).put R.FLT_TEMPST_WRUN 0).put R.FLT_TEMPST_CRUN 0

/-! ### Windows, counters and the log (R632, R644, R649, R650, R655) -/

/-- FAULT_WINDOW_CLOSE: WIN ms have passed since the window of `src` opened. -/
def Dev.faultWindowClose (d : Dev) (src : Nat) : Dev :=
  if d.flt.windows.any (fun w => w.src == src && decide (w.opened + 1000 * w.win ≤ d.micros)) &&
      decide (1 ≤ src) && decide (src ≤ 22) then d.windowClose src
  else d

/-- Every EVENTS, LASTING and WCNT 0, every window closed (R649). -/
def Dev.fltClrCnt (d : Dev) : Dev :=
  (List.range 22).foldl (fun (d : Dev) k => (d.windowClose (k + 1)).setReg (R.FLT_CNT k) 0) d

/-- LOG_LOST cleared. -/
def Dev.fltClrLost (d : Dev) : Dev := d.put R.FLT_LOG_LOST 0

/-- FLT_TMAX set to 0x8000. -/
def Dev.fltClrTmax (d : Dev) : Dev := d.put R.FLT_TMAX_TMAX 0x8000

/-- A write to FLT_CFGs of source `k + 1` (R650): ACTION, RPT and LOG at once; WIN and LIMIT reach the next window. -/
def Dev.fltCfgWrite (d : Dev) (k : Nat) (v : Word) : Dev :=
  if 22 ≤ k then d
  else
    let old := d.reg (R.FLT_CFG k)
    let w := v &&& 0x0FFFFFFF
    let w := if v.toNat % 65536 = 0 then (R.FLT_CFG_WIN k).into w ((R.FLT_CFG_WIN k).of old) else w
    let w := if (R.FLT_CFG_ACTION k).of v = 3 ∨ k = 21 then (R.FLT_CFG_ACTION k).into w ((R.FLT_CFG_ACTION k).of old) else w
    d.setReg (R.FLT_CFG k) w

end Sys2Proof.Machine
end

