-- ==== Sys2Proof/Machine/Rings.lean ====
section
/-!
DEFINITION. Machine/Rings.lean: the two rings as the host and the fetch unit see them (chapter 14): indices, enabling,
polling and fetch bursts, malformed entries, and how an established command runs and ends.
-/

namespace Sys2Proof.Machine

/-! ### Indices (R438–R443) -/

def Dev.cqSize (d : Dev) : Nat := 2 ^ d.get R.CQ_GEOM_SZ

/-- A write to CQ_PI (R439, R442). -/
def Dev.cqPiWrite (d : Dev) (v : Nat) : Dev :=
  let v := v % 65536
  if d.is R.CQ_CTRL_MODE then d
  else
    let ci := d.get R.CQ_CI_INDEX
    let old := (d.get R.CQ_PI_INDEX + 65536 - ci) % 65536
    let new := (v + 65536 - ci) % 65536
    if v % 8 ≠ 0 ∨ new < old ∨ d.cqSize < new then d.put R.XR_STATUS_PIREJ 1 else d.put R.CQ_PI_INDEX v

/-- A write to RQ_CI (R440, R443). -/
def Dev.rqCiWrite (d : Dev) (v : Nat) : Dev :=
  let v := v % 65536
  if d.is R.RQ_CTRL_MODE then d
  else
    let old := d.get R.RQ_CI_INDEX
    let n := (v + 65536 - old) % 65536
    if v % 8 ≠ 0 ∨ d.rqUnread < n then d.put R.XR_STATUS_CIREJ 1
    else
      let d := d.put R.RQ_CI_INDEX v
      ({ d with ring := { d.ring with unread := dropUnread d.ring.unread n } } : Dev).rqAttn

/-! ### Enabling (R431, R433, R457, R460) -/

/-- A ring is not enabled (R431). -/
def Dev.enRefused (d : Dev) (r cause : Nat) : Dev :=
  ((d.put R.XR_STATUS_ENREJ 1).put R.XR_STATUS_ENCAUSE cause).put R.XR_STATUS_ENRING r

/-- A write to CQ_CTRL: MODE only while the ring is disabled, PFDEPTH up to 128 (R433); HALTED ignores it (R624). -/
def Dev.cqCtrlWrite (d : Dev) (v : Nat) : Dev :=
  if d.st = stHalted then d
  else
    let was := d.is R.CQ_CTRL_EN
    let d := if was then d else d.put R.CQ_CTRL_MODE (v / 2)
    let d := if 128 < v / 256 % 256 then d else d.put R.CQ_CTRL_PFDEPTH (v / 256)
    if bitOf v 0 then
      if was then d
      else match d.ringCause 0 with
        | some c => d.enRefused 0 c
        | none => d.put R.CQ_CTRL_EN 1
    else if was then d.cqOff else d

/-- A write to RQ_CTRL; HALTED ignores it (R624). -/
def Dev.rqCtrlWrite (d : Dev) (v : Nat) : Dev :=
  if d.st = stHalted then d
  else
    let was := d.is R.RQ_CTRL_EN
    let d := if was then d else d.put R.RQ_CTRL_MODE (v / 2)
    if bitOf v 0 then
      if was then d
      else match d.ringCause 1 with
        | some c => d.enRefused 1 c
        | none => d.put R.RQ_CTRL_EN 1
    else d.put R.RQ_CTRL_EN 0

/-- REPORT_ROOM_RETURN (R456, R457): nothing is written while the report writer does not run. -/
def Dev.reportRoom (d : Dev) : Dev := if d.rqRuns then d.roomReturn.eccFlush else d

/-- RQ_WATERMARK_TIMEOUT (R458): HP_ATTN.RQ is set when the oldest unread entry was written at least TMO µs ago. -/
def Dev.rqTimeout (d : Dev) : Dev := d.rqAttn

/-! ### Entries (R435, R466) -/

/-- The bytes `o`..`o+n-1` of an entry as a number. -/
def eAt (e : List Byte) (o n : Nat) : Nat := leNat ((e.drop o).take n)
def eFlags (e : List Byte) : Nat := eAt e 0 1
def eOp (e : List Byte) : Nat := eAt e 1 1
def eLen (e : List Byte) : Nat := eAt e 2 2
def eTag (e : List Byte) : Nat := eAt e 4 2
def eSeq (e : List Byte) : Nat := eAt e 6 1
def eSlot (e : List Byte) : Nat := slotLen (4 * eLen e)

/-- The command opcodes (table "Commands"). -/
def cmdOps : List Nat :=
  [0x00, 0x01, 0x10, 0x11, 0x12, 0x20, 0x21, 0x22, 0x30, 0x31, 0x40, 0x50, 0x60, 0x70, 0x80, 0x90, 0x91, 0x92, 0xA0, 0xF0]

/-- A reserved bit of byte 0, or of the payload as laid down for the opcode, is 1 (R449, R466). -/
def reservedSet (e : List Byte) : Bool :=
  let z := fun (o n : Nat) => eAt e o n != 0
  let m := fun (o n k : Nat) => (eAt e o n &&& k) != 0
  bitsOf 6 (eFlags e) != [] ||
  match eOp e with
  | 0x10 => z 10 2
  | 0x20 => m 8 1 0xFC || z 9 3
  | 0x21 | 0x22 => z 12 4
  | 0x30 => z 10 6 || (List.range (min 32 (eAt e 9 1))).any (fun i => m (24 + 12 * i) 4 (0xFFFFFFFF - 0x007F1F07))
  | 0x31 => z 9 7 || (List.range (min 64 (eAt e 8 1))).any (fun i => m (17 + 4 * i) 1 0xE0 || m (18 + 4 * i) 1 0xF8)
  | 0x40 => (List.range 8).any (fun h => m (8 + 4 * h) 4 0xFFFE0000)
  | 0x50 => z 10 2
  | 0x60 => m 8 1 0x78 || m 9 1 0xC0 || m 10 1 0xE0 || m 11 1 0xE0 || z 22 2
  | 0x70 => z 9 1 || m 10 2 0xF000 || m 12 2 0xF000 || z 14 2
  | 0x80 => z 10 6
  | 0x90 => z 10 2
  | 0x92 => m 8 4 0xFFFFE000
  | 0xA0 => z 10 2
  | 0xF0 => m 8 1 0xFE || z 9 1 || z 12 4
  | _ => false

/-! ### Malformed entries (R449, R450) -/

/-- A malformed entry: cause, XRAM offset, SEQ found and expected, opcode. -/
structure Malf where
  cause  : Nat
  offset : Nat
  seqf   : Nat
  seqx   : Nat
  op     : Nat
deriving DecidableEq, Repr

/-- What the device does at a malformed entry. -/
def Dev.cqMalformed (d : Dev) (m : Malf) : Dev :=
  let d : Dev := { d.batchClose csOk with ring := { (d.batchClose csOk).ring with established := [] } }
  let d := (d.put R.XR_MALF_CAUSE m.cause).put R.XR_MALF_OFFSET m.offset
  let d := ((d.put R.XR_MALF2_SEQF m.seqf).put R.XR_MALF2_SEQX m.seqx).put R.XR_MALF2_OPCODE m.op
  Dev.settleFaults 3 (d.noteDirect 0x16 m.offset m.cause true)

/-! ### Fetch bursts (R446–R448) -/

/-- What a burst has read: the entries established, the bytes they take, the burst's limit, a malformed entry. -/
structure Burst where
  entries : List (List Byte)
  kept    : Nat
  limit   : Nat
  malf    : Option Malf
deriving DecidableEq, Repr

/-- The entries that a burst at position `pos` establishes: `room` bytes up to the ring end, `avail` published bytes in
INDEX mode; in OWNER mode an entry whose byte 0 lies before the limit is looked at, and the burst is extended to the end
of every entry established (R447). -/
def Dev.burstScan (d : Dev) (own : Bool) (pos room avail : Nat) : Nat → Burst → Burst
  | 0, b => b
  | fuel + 1, b =>
    let o := pos + b.kept
    let head := d.xbytes o 8
    if (if own then min b.limit room ≤ b.kept else min avail room < b.kept + 8) then b
    else if own && !bitOf (eFlags head) 7 then b
    else
      let bad := fun (c : Nat) => { b with malf := some ⟨c, o, eSeq head, (d.get R.CQ_SEQX_SEQ + b.entries.length) % 256, eOp head⟩ }
      let len := eLen head
      let slot := slotLen (4 * len)
      if !own && decide (avail < b.kept + slot) then b
      else if !(d.poisonIn o 8).isEmpty then bad 1
      else if hchk (head.take 7) ≠ head.getD 7 0 then bad 2
      else if len < 2 ∨ 1024 < len ∨ (eOp head = 0 ∧ b.kept + slot ≠ room) then bad 3
      else if !(d.poisonIn o (4 * len)).isEmpty then bad 1
      else if room < b.kept + slot then bad 4
      else
        let e := d.xbytes o (4 * len)
        if eSeq e ≠ (d.get R.CQ_SEQX_SEQ + b.entries.length) % 256 then bad 5
        else if !cmdOps.contains (eOp e) then bad 6
        else if reservedSet e then bad 7
        else d.burstScan own pos room avail fuel
          { b with entries := b.entries ++ [e], kept := b.kept + slot, limit := max b.limit (b.kept + slot) }

/-- The fetch unit may poll (R446, R448, R453, R587, R592). -/
def Dev.cqPolls (d : Dev) : Bool :=
  d.is R.CQ_CTRL_EN && d.is R.RQ_CTRL_EN && d.st != stHalted && d.st != stHeath && d.pwr.mode == 0 &&
    d.ring.established.isEmpty && d.ring.fence.isNone && (d.ring.batch.isSome || d.reserveOk)

/-- COMMAND_POLL. The faults that one burst meets, poisoned words and a malformed entry, are all recorded before an action
is taken (R647). In INDEX mode a poll that samples no new bytes starts no burst (log entry 14). -/
def Dev.commandPoll (d : Dev) : Dev :=
  let d := if d.is R.CQ_CTRL_EN && d.ring.established.isEmpty && d.ring.fence.isNone then d.reclaimReserve.eccFlush else d
  if !d.cqPolls then d
  else
    let ci := d.get R.CQ_CI_INDEX
    let own := d.is R.CQ_CTRL_MODE
    let at_ := ci % d.cqSize
    let pos := d.get R.CQ_GEOM_BASE + at_
    let room := d.cqSize - at_
    let avail := (d.get R.CQ_PI_INDEX + 65536 - ci) % 65536
    let pf := d.get R.CQ_CTRL_PFDEPTH
    if !own && avail == 0 then d
    else
      let lim := min room (if own then max 8 pf else avail + pf)
      let b := d.burstScan own pos room avail 4096 ⟨[], 0, lim, none⟩
      let d := (wordsOf pos (min b.limit room)).foldl (fun d w => d.eccMeet clCqf w) d
      match b.malf with
        | some m => d.eccNote.cqMalformed m
        | none =>
          let d := d.eccFlush
          if d.st = stHalted then d
          else
            let d := if b.kept < b.limit then d.inc R.CQ_COUNTS_REFETCH else d
            { d with ring := { d.ring with established := b.entries } }

/-! ### Execution (R448, R451–R453) -/

/-- Whether a front established entry that `ok` accepts is executed now (R448, R453). -/
def Dev.cqRuns (d : Dev) (ok : List Byte → Bool) : Bool :=
  d.ring.established.head?.any ok && !(d.st == stHalted || d.st == stHeath || d.pwr.mode != 0 || d.ring.fence.isSome) &&
    (d.ring.batch.isSome || d.reserveOk)

/-- The front established entry is executed by `body` when `ok` accepts it. An entry that would open a new batch while
the reserve condition fails is not fetched: it is read again at a later poll (R453). -/
def Dev.cqRun (d : Dev) (ok : List Byte → Bool) (body : Dev → List Byte → Dev) : Dev :=
  match d.ring.established with
  | [] => d
  | e :: rest =>
    if !ok e || d.st == stHalted || d.st == stHeath || d.pwr.mode != 0 || d.ring.fence.isSome then d
    else if d.ring.batch.isNone && !d.reserveOk then { d with ring := { d.ring with established := [] } }
    else body { d with ring := { d.ring with established := rest } } e

/-- A synchronous command has ended (R448, R451, R452). -/
def Dev.cqSync (d : Dev) (e : List Byte) (status detail : Nat) : Dev :=
  if d.st = stHalted then d
  else
    let d := d.batchJoin (eOp e) (eTag e) (eSeq e) detail
    let d := d.cqPass (eFlags e) (eSlot e)
    if bitOf (eFlags e) 6 || status != csOk then d.batchClose status else d

/-- An asynchronous command has started. -/
def Dev.cqAsync (d : Dev) (e : List Byte) (arg : Nat) : Async × Dev :=
  let (a, d) := d.asyncStart (eOp e) (eTag e) (eSeq e) arg
  (a, d.cqPass (eFlags e) (eSlot e))

/-- The checks that precede a command's own, in the order LEN, STATE, BUSY (R467, R470, R471; log entry 14). -/
def Dev.cqChecked (d : Dev) (e : List Byte) (len : Nat) (states : List Nat) (one : Bool) (body : Dev → Dev) : Dev :=
  if eLen e ≠ len then d.cqSync e csBadLen 0
  else if states ≠ [] ∧ states.contains d.st = false then d.cqSync e csState d.st
  else if one && !(d.asyncsOf (eOp e)).isEmpty then d.cqSync e csBusy 0
  else body d

/-- Bytes `o`..`o+n-1` of XRAM read by a command (R468): none, and the offset of the first poisoned word, where one is
met. -/
def Dev.cqRead (d : Dev) (o n : Nat) : Option Nat × Dev := ((d.firstPoison o n).map (8 * ·), d.eccTouch clCqf o n)

end Sys2Proof.Machine
end

