-- ==== Sys2Proof/Machine/Cmds.lean ====
section
/-!
DEFINITION. Machine/Cmds.lean: what each ring command does (chapter 15). Every definition here acts on the front
established entry when its opcode is the command's, and leaves the device as it is otherwise.
-/

namespace Sys2Proof.Machine

/-- The front established entry has opcode `op`. -/
def isOp (op : Nat) (e : List Byte) : Bool := eOp e == op

/-! ### PAD, NOP, programs (R437, R466, R473–R475) -/

/-- PAD and NOP. -/
def Dev.cmdPad (d : Dev) : Dev := d.cqRun (isOp 0x00) (fun d e => d.cqSync e csOk 0)
def Dev.cmdNop (d : Dev) : Dev := d.cqRun (isOp 0x01) (fun d e => d.cqSync e csOk 0)

/-- The bytes of the image at `area` that PROG_LOAD reads: with INPLACE only header, preset table and tag (R296). -/
def Dev.loadSpan (d : Dev) (area len : Nat) : Nat :=
  let h := d.xbytes area 64
  let im : Image := ⟨h, [], [], len⟩
  if im.inplace then min len (64 + 8 * im.npre + (if im.tagged then 16 else 0)) else len

def Dev.cmdProgLoad (d : Dev) : Dev :=
  d.cqRun (isOp 0x10) (fun d e => d.cqChecked e 4 [] false (fun d =>
    let area := eAt e 8 2
    let len := eAt e 12 4
    if len < 64 ∨ 33360 < len then d.cqSync e csBadParam 12
    else if !d.areaValid area len then d.cqSync e csBadArea 8
    else
      let n := d.loadSpan area len
      let bs := d.xbytes area len
      let (bad, d) := d.cqRead area n
      match bad with
      | some o => d.cqSync e csEcc o
      | none => (if d.seqOn then d.progLoad bs else d).cqSync e csOk 0))

/-- PROG_VERIFY; `written` tells that the front of the host's commit queue, a write to the shadow bank, commits while it
runs. -/
def Dev.cmdProgVerify (d : Dev) (written : Bool) : Dev :=
  d.cqRun (isOp 0x11) (fun d e => d.cqChecked e 2 [] false (fun d =>
    let (c, d) := d.progVerify written
    d.cqSync e (if c = 0 then csOk else csRefused) c))

/-- PROG_SWAP: a second one while one is in flight is refused and leaves the pending one (R380, R470). -/
def Dev.cmdProgSwap (d : Dev) : Dev :=
  d.cqRun (isOp 0x12) (fun d e => d.cqChecked e 2 [] false (fun d =>
    let tag := eTag e
    if !(d.asyncsOf 0x12).isEmpty || d.seq.swapWait.isSome then
      let d := ((d.put R.GPIO_SWAPST_CODE 4).put R.GPIO_SWAPST_DETAIL 0).put R.GPIO_SWAPST_TICK (d.get R.TICK_COUNT_COUNT)
      (d.report (d.programReport 1 4 tag)).cqSync e csRefused 4
    else match d.swapCause false with
    | some (c, x) => (d.swapRefuse c x tag).cqSync e csRefused c
    | none =>
      if d.st = stRunning then
        let (_, d) := d.cqAsync e 0
        ({ d with seq := { d.seq with swapWait := some 0, swapTag := tag } } : Dev).put R.GPIO_SWAPST_STATE 1
      else match d.seq.shadow with
        | none => d.cqSync e csRefused 1
        | some im =>
          let d := (d.switchBanks im).swapDone
          let d := d.setReg R.SEQ_IMGVER (word (im.field 48 4))
          ((d.report (d.programReport 2 0 tag)).cqSync e csOk 0).activate im))

/-! ### Calibration (R476, R477) -/

def Dev.cmdCalRun (d : Dev) : Dev :=
  d.cqRun (isOp 0x20) (fun d e => d.cqChecked e 3 [] false (fun d =>
    let kind := eAt e 8 1 % 4
    let (a, d) := d.cqAsync e kind
    match d.calRefusal kind with
    | some c => (d.calRefuse kind c (eTag e)).endAsync a csRefused c
    | none => d.calBegin kind))

def Dev.cmdCalSave (d : Dev) : Dev :=
  d.cqRun (isOp 0x21) (fun d e => d.cqChecked e 4 [] false (fun d =>
    let o := eAt e 8 2
    let n := eAt e 10 2
    let im := d.calImage
    if !d.areaValid o n then d.cqSync e csBadArea 8
    else if n < im.length then d.cqSync e csBadParam im.length
    else (d.xwriteEcc clCqf o im).cqSync e csOk im.length))

def Dev.cmdCalLoad (d : Dev) : Dev :=
  d.cqRun (isOp 0x22) (fun d e => d.cqChecked e 4 [] false (fun d =>
    let o := eAt e 8 2
    let n := eAt e 10 2
    if !d.areaValid o n then d.cqSync e csBadArea 8
    else if d.is R.CAL_STATUS_BUSYT then d.cqSync e csBusy 0
    else
      let bs := d.xbytes o n
      let (bad, d) := d.cqRead o n
      match bad with
      | some x => d.cqSync e csEcc x
      | none => match d.calImageBad bs with
        | some c => d.cqSync e csRefused c
        | none => (d.calLoad bs).cqSync e csOk (leNat ((bs.drop 16).take 1) % 16)))

/-! ### Regions, keymap, hop table (R478–R480) -/

/-- The regions of a REGION_SET: number, RGX, RGY, RGC. -/
def regionsOf (e : List Byte) : List (Nat × Word × Word × Word) :=
  (List.range (eAt e 9 1)).map (fun i =>
    (eAt e 8 1 + i, word (eAt e (16 + 12 * i) 4), word (eAt e (20 + 12 * i) 4), word (eAt e (24 + 12 * i) 4)))

/-- The lowest cause that an enabled region of the command meets, with the lowest region that meets it (R183). -/
def Dev.regionsBad (d : Dev) (l : List (Nat × Word × Word × Word)) : Option (Nat × Nat) :=
  [1, 2, 3].findSome? (fun c =>
    (l.find? (fun r => d.regionCause r.2.1 r.2.2.1 r.2.2.2 == some c)).map (fun r => (c, r.1)))

def Dev.cmdRegionSet (d : Dev) : Dev :=
  d.cqRun (isOp 0x30) (fun d e => d.cqChecked e (4 + 3 * eAt e 9 1) [] false (fun d =>
    let first := eAt e 8 1
    let n := eAt e 9 1
    if 31 < first then d.cqSync e csBadParam 8
    else if n = 0 ∨ 32 < n ∨ 32 < first + n then d.cqSync e csBadParam 9
    else
      let l := regionsOf e
      match d.regionsBad l with
      | some (c, k) => d.cqSync e csRefused (256 * c + k)
      | none =>
        let d := if d.regReachable (R.CT_RGX 0) then
            l.foldl (fun (d : Dev) r =>
              ((d.stageBusy (R.CT_RGX r.1) r.2.1).stageBusy (R.CT_RGY r.1) r.2.2.1).stageBusy (R.CT_RGC r.1) r.2.2.2) d
          else d
        d.cqSync e csOk 0))

/-- The bindings of a KEYMAP_SET: detector and EDk_CFG value. -/
def bindingsOf (e : List Byte) : List (Nat × Nat) :=
  (List.range (eAt e 8 1)).map (fun i =>
    let md := eAt e (18 + 4 * i) 1
    (eAt e (16 + 4 * i) 1,
      1 + 2 + 16 * (eAt e (17 + 4 * i) 1 % 32) + 512 * (md % 4) + 2048 * (md / 4 % 2) + 65536 * eAt e (19 + 4 * i) 1))

/-- The first binding whose ED is above 63 or came before. -/
def bindingBad : Nat → List Nat → List (Nat × Nat) → Option Nat
  | _, _, [] => none
  | i, seen, b :: rest => if 63 < b.1 || seen.contains b.1 then some i else bindingBad (i + 1) (b.1 :: seen) rest

def Dev.cmdKeymapSet (d : Dev) : Dev :=
  d.cqRun (isOp 0x31) (fun d e => d.cqChecked e (4 + eAt e 8 1) [] false (fun d =>
    let n := eAt e 8 1
    if n = 0 ∨ 64 < n then d.cqSync e csBadParam 8
    else
      let l := bindingsOf e
      match bindingBad 0 [] l with
      | some i => d.cqSync e csBadParam (16 + 4 * i)
      | none =>
        let d : Dev := if d.ticking then
            { d with panel := { d.panel with edBind := d.panel.edBind.filter (fun b => !(l.map (·.1)).contains b.1) ++ l } }
          else l.foldl (fun d b => d.edCfgWrite b.1 b.2) d
        d.cqSync e csOk 0))

/-- The causes of a HOP_TABLE_SET that would not be staged (R480): `ws` the table as it would stand, `ch` the entries
that change. -/
def Dev.tableSetBad (d : Dev) (ws : List Word) : Option (Nat × Nat) :=
  let t := tableOf ws
  let hs := List.range 8
  let en := fun h => (t.getD h (0, false)).2
  let was := fun h => bitOf (d.viewReg (R.HOP_TABLE h)).toNat 16
  match hs.find? (fun h => en h && decide ((t.getD h (0, false)).1 < d.get R.HOP_FMIN_FMIN)) with
  | some h => some (1, h)
  | none => match hs.find? (tableBad2 t) with
  | some h => some (2, h)
  | none => match hs.find? (tableBad3 (d.get R.HOP_LISTEN_LEN) t) with
  | some h => some (3, h)
  | none =>
    if !en (d.get R.HOP_STATUS_CUR) then some (4, d.get R.HOP_STATUS_CUR)
    else if d.is R.HOP_CTRL_MODE && (hs.filter en).length < 2 then
      some (5, ((hs.filter (fun h => was h && !en h)).headD 0))
    else none

def Dev.cmdHopTableSet (d : Dev) : Dev :=
  d.cqRun (isOp 0x40) (fun d e => d.cqChecked e 10 [] false (fun d =>
    let w := fun h => word (eAt e (8 + 4 * h) 4) &&& 0x1FFFF
    let hs := List.range 8
    if !d.regReachable (R.HOP_TABLE 0) then d.cqSync e csOk 0
    else if d.busyState then
      let ch := hs.filter (fun h => w h != d.reg (R.HOP_TABLE h))
      let ws := hs.map (fun h => if ch.contains h then w h else d.viewReg (R.HOP_TABLE h))
      if ch.isEmpty then d.cqSync e csOk 0
      else match d.tableSetBad ws with
      | some (c, h) => d.cqSync e csRefused (256 * c + h)
      | none =>
        let d := ch.foldl (fun (d : Dev) h =>
          d.stageBusy (R.HOP_TABLE h) (w h)) d
        d.cqSync e csOk 0
    else (hs.foldl (fun (d : Dev) h => d.stageBusy (R.HOP_TABLE h) (w h)) d).cqSync e csOk 0))

/-! ### IMAGE_DUMP, PERI_XFER (R481, R483) -/

def Dev.cmdImageDump (d : Dev) : Dev :=
  d.cqRun (isOp 0x50) (fun d e => d.cqChecked e 3 [stRunning] true (fun d =>
    let what := eAt e 8 1
    let n := eAt e 9 1
    if 5 < what then d.cqSync e csBadParam 8
    else if n = 0 then d.cqSync e csBadParam 9
    else
      let (_, d) := d.cqAsync e 0
      { d with img := { d.img with dump := some ⟨what, n, 0, eTag e, d.acq.proc.isSome⟩ } }))

/-- The transfer of a PERI_XFER in the layout of the descriptors (R560), without its command. -/
def xferOf (e : List Byte) : Xfer :=
  let b8 := eAt e 8 1
  let l := eAt e 9 1
  let b10 := eAt e 10 1
  { desc := 8, cmd := none,
    ctl := b8 % 8 + 8 * (b8 / 128) + 16 * (l % 4) + 64 * (l / 4 % 4) + 256 * (l / 16 % 4) + 1024 * (b10 % 4) +
      4096 * (b10 / 4 % 8) + 65536 * (eAt e 11 1 % 32),
    dcmd := eAt e 12 2 + 65536 * eAt e 14 2, adr := eAt e 16 4, buf := eAt e 20 2 }

/-- The byte offset of the first field of a PERI_XFER out of its range. -/
def xferBad (e : List Byte) : Option Nat :=
  let x := xferOf e
  let l := eAt e 9 1
  if x.target = 7 then some 8
  else if l % 4 = 3 ∨ l / 4 % 4 = 3 ∨ l / 16 % 4 = 3 then some 9
  else if x.clen = 3 ∨ 4 < x.alen then some 10
  else if x.isRead = true ∧ x.dlane ≠ 0 ∧ x.dummy = 0 ∧ eAt e 14 2 ≠ 0 then some 11
  else if 4096 < eAt e 14 2 then some 14 else none

def Dev.cmdPeriXfer (d : Dev) : Dev :=
  d.cqRun (isOp 0x60) (fun d e => d.cqChecked e 6 [] false (fun d =>
    match xferBad e with
    | some o => d.cqSync e csBadParam o
    | none =>
      if !d.areaValid (eAt e 20 2) (eAt e 14 2) then d.cqSync e csBadArea 20
      else if d.seq.bootFrom.isSome || 16 ≤ d.pp.queue.length then d.cqSync e csBusy 0
      else if !d.domOn 9 then d.cqSync e csAborted 0
      else
        let (a, d) := d.cqAsync e 0
        d.ppJoin { xferOf e with cmd := some a }))

/-! ### POWER_REQ (R484), CLUSTER_CFG (R485) -/

/-- The states in which POWER_REQ runs. -/
def powerStates : List Nat := [stBootWait, stReady, stRunning]

/-- POWER_REQ with one of the actions `acts`; `go` makes the request. -/
def Dev.cmdPowerReq (d : Dev) (acts : Nat → Bool) (go : Dev → Nat → Nat → Async → Dev) : Dev :=
  d.cqRun (fun e => isOp 0x70 e && acts (eAt e 8 1)) (fun d e => d.cqChecked e 4 powerStates true (fun d =>
    let act := eAt e 8 1
    let on := eAt e 10 2
    let off := eAt e 12 2
    if 3 < act then d.cqSync e csBadParam 8
    else if act ≠ 0 ∧ on ≠ 0 then d.cqSync e csBadParam 10
    else if act ≠ 0 ∧ off ≠ 0 then d.cqSync e csBadParam 12
    else if on &&& off ≠ 0 then d.cqSync e csBadParam 10
    else
      let (a, d) := d.cqAsync e 0
      go d on off a))

/-- ACTION 0, and an ACTION out of range. -/
def Dev.cmdPowerDomains (d : Dev) : Dev :=
  d.cmdPowerReq (fun a => a == 0 || 3 < a) (fun d on off a => d.domRequest on off (some a))
def Dev.cmdPowerHeath (d : Dev) : Dev := d.cmdPowerReq (· == 1) (fun d _ _ a => d.heathRequest (some a))
def Dev.cmdPowerFallow (d : Dev) : Dev := d.cmdPowerReq (· == 2) (fun d _ _ a => d.fallowRequest (some a))
def Dev.cmdPowerMeadow (d : Dev) : Dev := d.cmdPowerReq (· == 3) (fun d _ _ a => d.meadowRequest a)

/-- CLUSTER_CFG: an enumerated member ends it with CLUSTER. -/
def Dev.cmdClusterCfg (d : Dev) (acts : Nat → Bool) (go : Dev → Nat → Async → Dev) : Dev :=
  d.cqRun (fun e => isOp 0x80 e && acts (eAt e 8 1)) (fun d e =>
    if eLen e ≠ 4 then d.cqSync e csBadLen 0
    else if d.st ≠ stReady then d.cqSync e csState d.st
    else if d.clMember then d.cqSync e csCluster (d.get R.CL_STATUS_NODE)
    else if !(d.asyncsOf 0x80).isEmpty then d.cqSync e csBusy 0
    else
      let act := eAt e 8 1
      let n := eAt e 9 1
      if 1 < act then d.cqSync e csBadParam 8
      else if (act = 0 ∧ (n = 0 ∨ 7 < n)) ∨ (act = 1 ∧ n ≠ 0) then d.cqSync e csBadParam 9
      else
        let (a, d) := d.cqAsync e 0
        go d n a)

/-- ACTION 0, and an ACTION out of range. -/
def Dev.cmdEnumerate (d : Dev) : Dev :=
  d.cmdClusterCfg (fun a => a == 0 || 1 < a) (fun d n a => d.enumStart n a)
def Dev.cmdDissolve (d : Dev) : Dev := d.cmdClusterCfg (· == 1) (fun d _ a => d.dissolveStart a)

/-! ### LOG_READ, counters, mailbox (R486–R489, R504) -/

/-- A log entry as the LOG report shows it; an index that holds none shows zeros (R504). -/
def logBytes : Option LogEntry → List Byte
  | none => List.replicate 16 0
  | some l => [byte l.src, byte ((if l.lasting then 1 else 0) + (if l.pinned then 2 else 0))] ++ leBytes 2 l.events ++
      leBytes 4 l.tstamp ++ leBytes 4 l.uptime ++ leBytes 2 l.detail ++ leBytes 2 l.tick

/-- The LOG report: as many of the `n` entries as a report of this ring may hold (R434, R486; log entry 14). -/
def Dev.logReport (d : Dev) (first count tag : Nat) : Report :=
  let n := min count d.touchMax
  ⟨0x8C, tag, leBytes 2 (d.get R.FLT_LOG_LOST) ++ [byte n, byte first, 0, 0, 0, 0] ++
    (List.range n).flatMap (fun i => logBytes d.flt.log[first + i]?)⟩

def Dev.cmdLogRead (d : Dev) : Dev :=
  d.cqRun (isOp 0x90) (fun d e => d.cqChecked e 3 [] true (fun d =>
    let first := eAt e 8 1
    let n := eAt e 9 1
    if 31 < first then d.cqSync e csBadParam 8
    else if n = 0 ∨ 32 < n ∨ 32 < first + n then d.cqSync e csBadParam 9
    else
      let (a, d) := d.cqAsync e 0
      (d.reportWait (d.logReport first n (eTag e))).endAsyncAfter a csOk n))

/-- A register as the counter block shows it: 0 when its domain is not on. -/
def Dev.blockReg (d : Dev) (a : Nat) : Nat := if d.regReachable a then (d.reg a).toNat else 0

/-- The counter block (R487). -/
def Dev.counterBlock (d : Dev) : List Byte :=
  let words := [40 + 0x10000, d.uptime, d.tstamp] ++
    [R.TICK_COUNT, R.TICK_COUNTS, R.HOP_COUNT, R.IMG_COUNTS, R.IMG_COUNTS2, R.CT_COUNTS, R.OPT_COUNTS, R.AUX_COUNTS,
     R.CAL_COUNT0, R.CAL_COUNT1, R.SEQ_COUNTS, R.HP_COUNTS, R.CQ_COUNTS].map d.blockReg ++
    [d.get R.RQ_LOST_LOST, d.get R.FLT_LOG_LOST] ++
    (List.range 22).map (fun k => d.get (R.FLT_CNT_EVENTS k) + 65536 * d.get (R.FLT_CNT_LASTING k) + 2 ^ 24 * (k + 1))
  words.flatMap (leBytes 4)

def Dev.cmdCountersRead (d : Dev) : Dev :=
  d.cqRun (isOp 0x91) (fun d e => d.cqChecked e 3 [] false (fun d =>
    let o := eAt e 8 2
    let n := eAt e 10 2
    if n < 160 then d.cqSync e csBadParam 160
    else if !d.areaValid o n then d.cqSync e csBadArea 8
    else (d.xwriteEcc clCqf o d.counterBlock).cqSync e csOk 160))

/-- A counter register cleared, when its domain is on. -/
def Dev.clearReg (d : Dev) (a : Nat) : Dev := if d.regReachable a then d.setReg a 0 else d

/-- The counters of one bit of the table "COUNTERS_CLEAR mask". -/
def Dev.clearCounters (d : Dev) (k : Nat) : Dev :=
  match k with
  | 0 => d.clearReg R.TICK_COUNTS
  | 1 => (d.clearReg R.IMG_COUNTS).clearReg R.IMG_COUNTS2
  | 2 => d.clearReg R.CT_COUNTS
  | 3 => d.clearReg R.OPT_COUNTS
  | 4 => d.clearReg R.AUX_COUNTS
  | 5 => (d.clearReg R.CAL_COUNT0).clearReg R.CAL_COUNT1
  | 6 => (d.clearReg R.SEQ_COUNTS).clearReg R.SEQ_CYCMAX
  | 7 => d.clearReg R.HP_COUNTS
  | 8 => d.put R.CQ_COUNTS_REFETCH 0
  | 9 => d.put R.RQ_LOST_LOST 0
  | 10 => d.fltClrCnt
  | 11 => d.put R.FLT_LOG_LOST 0
  | 12 => d.put R.TICK_IMGTIME_MAX 0
  | _ => d

def Dev.cmdCountersClear (d : Dev) : Dev :=
  d.cqRun (isOp 0x92) (fun d e => d.cqChecked e 3 [] false (fun d =>
    ((bitsOf 13 (eAt e 8 4)).foldl Dev.clearCounters d).cqSync e csOk 0))

def Dev.cmdMailbox (d : Dev) : Dev :=
  d.cqRun (isOp 0xA0) (fun d e =>
    let dest := eAt e 8 2
    let n := 4 * eLen e - 12
    if eLen e < 3 then d.cqSync e csBadLen 0
    else if d.seqOn = false ∨ d.sq = sqEmpty ∨ d.sq = sqHalted then d.cqSync e csNoProgram 0
    else if bitOf (d.get R.SEQ_EVPEND_EV) evMbox then d.cqSync e csMboxBusy 0
    else if !d.areaValid dest n then d.cqSync e csBadArea 8
    else
      let d := d.xwriteEcc clCqf dest ((e.drop 12).take n)
      let d := (d.put R.SEQ_MBOX_OFFSET dest).put R.SEQ_MBOX_LEN n
      (d.event evMbox).cqSync e csOk n)

/-! ### FENCE (R490) -/

/-- FENCE: with nothing in flight and no tick to wait for it ends at once. -/
def Dev.cmdFence (d : Dev) : Dev :=
  d.cqRun (isOp 0xF0) (fun d e => d.cqChecked e 4 [] false (fun d =>
    let atTick := bitOf (eAt e 8 1) 0
    let d := d.batchJoin 0xF0 (eTag e) (eSeq e) 0
    let d : Dev := { d with ring := { d.ring with fence := some ⟨eFlags e, eSlot e, atTick, eAt e 10 2, d.clock⟩ } }
    if d.fenceDone && !(atTick && d.ticking) then d.fenceEnd csOk 0 else d))

/-- FENCE_RELEASE. -/
def Dev.fenceRelease (d : Dev) : Dev :=
  match d.ring.fence with
  | some f => if d.fenceDone && !(f.atTick && d.ticking) then d.fenceEnd csOk 0 else d
  | none => d

/-- FENCE_TIMEOUT: TIMEOUT ms have passed since the FENCE began. -/
def Dev.fenceTimeout (d : Dev) : Dev :=
  match d.ring.fence with
  | some f => if f.timeout = 0 ∨ d.clock < f.from_ + 1000 * f.timeout then d else d.fenceEnd csTimeout d.ring.asyncs.length
  | none => d

end Sys2Proof.Machine
end

