-- ==== Sys2Proof/Machine/RegIo.lean ====
section
/-!
DEFINITION. Machine/RegIo.lean: reads and writes of the I/O registers by the host and by the program (R3–R8, R10, R13,
R687; the rules on each register in its own chapter). The commands that write one register, the host port's
commits and the OUT instruction all go through `Dev.ioWrite`; reads go through `Dev.ioRead`.
-/

namespace Sys2Proof.Machine

/-! ### Field ranges -/

/-- The fields of the register at `a` that ignore a value outside their range. -/
def fieldRanges (a : Nat) : List (Field × (Nat → Bool)) :=
  let within := fun (lo hi n : Nat) => decide (lo ≤ n) && decide (n ≤ hi)
  if a = R.TICK_CTRL then [(R.TICK_CTRL_SRC, (· != 3))]
  else if a = R.TICK_VSYNC then [(R.TICK_VSYNC_OFFSET, within 0 1000), (R.TICK_VSYNC_VMAX, within 40 165)]
  else if a = R.ACQ_CODE then [(R.ACQ_CODE_LSEL, (· != 7)), (R.ACQ_CODE_P, within 2 64)]
  else if a = R.ACQ_SELF then [(R.ACQ_SELF_NSELF, (· != 0)), (R.ACQ_SELF_PSELF, within 2 64)]
  else if a = R.ACQ_AFE then [(R.ACQ_AFE_RETRY, within 0 4)]
  else if a = R.ACQ_CORR then [(R.ACQ_CORR_OPENTHR, within 1 100)]
  else if a = R.HOP_CFG then [(R.HOP_CFG_PERSIST, (· != 0)), (R.HOP_CFG_DWELL, within 8 255)]
  else if a = R.HOP_LISTEN then [(R.HOP_LISTEN_LEN, within 100 400)]
  else if a = R.IMG_DRIFT then [(R.IMG_DRIFT_DSHIFT, within 2 12)]
  else if a = R.IMG_REST then [(R.IMG_REST_LIMIT, within 0 64800)]
  else if a = R.CT_CTRL then [(R.CT_CTRL_GORSE, (· != 3))]
  else if a = R.CT_GORSE then [(R.CT_GORSE_GENTER, (· != 0)), (R.CT_GORSE_GEXIT, (· != 0))]
  else if a = R.OPT_LED then [(R.OPT_LED_IDRV, within 0 25)]
  else if a = R.OPT_DIST then [(R.OPT_DIST_DREF, within 1 300)]
  else if a = R.OPT_DET then [(R.OPT_DET_NPERS, (· != 0))]
  else if a = R.AUX_SYNC then [(R.AUX_SYNC_SRC, (· != 3)), (R.AUX_SYNC_GPIN, within 0 5), (R.AUX_SYNC_DLY, within 0 1000)]
  else if a = R.CAL_CFG then [(R.CAL_CFG_NFRAMES, within 8 32)]
  else if a = R.CAL_LIM then [(R.CAL_LIM_GLIM, within 1 99)]
  else if a = R.HP_CFG then [(R.HP_CFG_D4, within 2 15)]
  else if a = R.CQ_POLL then [(R.CQ_POLL_POLL, (· != 1))]
  else if a = R.RQ_CRES then [(R.RQ_CRES_CRES, within 1 16)]
  else if a = R.CL_CFG then [(R.CL_CFG_WAIT, within 50 1000), (R.CL_CFG_XGAP, within 10 63)]
  else if a = R.CL_DCAP then [(R.CL_DCAP_DCAP, within 256 16384)]
  else if a = R.PP_CFG then [(R.PP_CFG_SU, (· != 0)), (R.PP_CFG_HOLD, (· != 0)), (R.PP_CFG_DESEL, (· != 0))]
  else if R.PP_TCFG 0 ≤ a ∧ a < R.PP_DCTL 0 then
    let t := (a - R.PP_TCFG 0) / 8
    if a = R.PP_TCFG t then [(R.PP_TCFG_DIV t, (· != 0)), (R.PP_TCFG_PTMO t, (· != 0))]
    else [(R.PP_TMARK_BUSYMAX t, (· != 0))]
  else if a = R.PWR_HCFG then [(R.PWR_HCFG_RATE, within 5 120)]
  else []

/-- The written value with the fields out of range at what a read returns. -/
def Dev.inRange (d : Dev) (a v : Nat) : Nat :=
  ((fieldRanges a).foldl (fun (w : Word) f => if f.2 (f.1.of w) then w else f.1.into w (f.1.of (d.viewReg a))) (word v)).toNat

/-! ### Writes that need no more than their access codes (R4, R5, R8, R13) -/

/-- A write by access code: RW bits at once, W1C bits cleared by a 1, RWS bits staged. -/
def Dev.plainWrite (d : Dev) (a v : Nat) : Dev :=
  match regSpec? a with
  | none => d
  | some r =>
    let w := word (d.inRange a v)
    let rw := word r.rw
    let d := d.setReg a ((d.reg a &&& ~~~ (rw ||| (w &&& word r.w1c))) ||| (w &&& rw))
    if r.rws = 0 then d else d.stage a w

/-- A write that keeps the bits of `keep` as they are. -/
def Dev.keepWrite (d : Dev) (a v : Nat) (keep : Word) : Dev :=
  d.plainWrite a ((word v &&& ~~~ keep) ||| (d.viewReg a &&& keep)).toNat

/-- The registers that ignore writes in CHECKING, RUNNING, STOPPING and HEATH (R30, R62, R93, R124). -/
def heldOff (a : Nat) : Bool :=
  (R.ACQ_ELROLE 0 ≤ a && a ≤ R.ACQ_ELROLE 49) || [R.ACQ_GEOMX, R.ACQ_GEOMY, R.ACQ_ORIENT, R.TICK_CTRL, R.TICK_VSYNC, R.TICK_HSYNC,
    R.ACQ_CODE, R.ACQ_SELF, R.ACQ_CORR, R.HOP_CTRL, R.HOP_CFG, R.HOP_LISTEN].contains a

/-- The registers that ignore writes in HALTED (R624). -/
def haltedOff : List Nat := [R.SYS_CTRL, R.CQ_CTRL, R.RQ_CTRL, R.PWR_DREQ, R.PWR_SREQ, R.SEQ_CTRL, R.HOP_FORCE, R.CAL_CMD, R.PP_GO]

/-! ### Blocks with rules of their own -/

/-- SYS and TICK. -/
def Dev.ioSysTick (d : Dev) (host : Bool) (a v : Nat) : Dev :=
  if a = R.SYS_CTRL then (if bitOf v 0 then d.runSet (!host) else d.runClear)
  else if a = R.TICK_PERIOD then d.tickPeriodWrite v
  else if a = R.TICK_PLAN then d.tickPlanWrite v
  else if a = R.TICK_CLR then
    let d := if bitOf v 0 then d.tickClrImgMax else d
    if bitOf v 1 then d.tickClrCounts else d
  else d.plainWrite a v

/-- ACQ and HOP (R30, R34, R93, R94, R114, R122, R132). A write that changes both VMAX and LEVEL is tested with the VMAX it
writes (DESIGN CHOICE, log entry 19). -/
def Dev.ioAcqHop (d : Dev) (a v : Nat) : Dev :=
  if a = R.ACQ_DRV then
    let busy := d.busyState
    let keep := if busy then R.ACQ_DRV_VMAX.mask ||| R.ACQ_DRV_SLEW.mask else 0
    let vmax := if busy then d.get R.ACQ_DRV_VMAX else R.ACQ_DRV_VMAX.of (word v)
    if vmax < R.ACQ_DRV_LEVEL.of (word v) then (d.keepWrite a v (keep ||| R.ACQ_DRV_LEVEL.mask)).put R.ACQ_STATUS_LREJ 1
    else d.keepWrite a v keep
  else if a = R.ACQ_AFE then
    d.keepWrite a v (if d.busyState then R.ACQ_AFE_CFM.mask ||| R.ACQ_AFE_CFS.mask else 0)
  else if R.ACQ_ELROLE 0 ≤ a ∧ a ≤ R.ACQ_ELROLE 49 then (d.plainWrite a v).recomputeEls.swardDiscard
  else if a = R.ACQ_GEOMX ∨ a = R.ACQ_GEOMY then (d.plainWrite a v).swardDiscard
  else if a = R.HOP_FORCE then d.hopForce (v % 8) (bitOf v 8) d.clMember
  else if R.HOP_TABLE 0 ≤ a ∧ a ≤ R.HOP_TABLE 7 then d.hopTableWrite ((a - R.HOP_TABLE 0) / 4) (word v)
  else d.plainWrite a v

/-- A write of 1 to IMG_CMD.REFORM (R157, R271). -/
def Dev.imgReform (d : Dev) : Dev :=
  if d.get R.IMG_STATUS_SWSTATE = 1 then d
  else
    d.calEnds (fun d => d.calAbortTouch.reformAsk)

/-- A write to CT_CTRL (R191). Outside the states in which it is staged LARK is in force at once, and LARKON shows it
(R170). -/
def Dev.ctCtrlWrite (d : Dev) (v : Nat) : Dev :=
  let w := word v
  let on := d.get R.CT_CTRL_GORSE = 0 ∧ R.CT_CTRL_GORSE.of w ≠ 0 ∧ R.CT_CTRL_GORSE.of w ≠ 3
  if d.busyState = true ∧ (on ∨ (d.get R.CT_CTRL_LARK = 0 ∧ R.CT_CTRL_LARK.of w = 1)) then d.put R.CT_STATUS_MREJ 1
  else
    let d' := d.stageBusy R.CT_CTRL (word (d.inRange R.CT_CTRL v))
    if d.busyState then d' else d'.putB R.CT_STATUS_LARKON (d'.is R.CT_CTRL_LARK)

/-- A write to CT_RGXk, CT_RGYk or CT_RGCk (R192). -/
def Dev.regionWrite (d : Dev) (a v : Nat) : Dev :=
  let k := a / 4 % 32
  let see := fun (b : Nat) => if a = b then word v &&& rwsMask b else d.viewReg b
  if d.busyState && (d.regionCause (see (R.CT_RGX k)) (see (R.CT_RGY k)) (see (R.CT_RGC k))).isSome then d.put R.CT_STATUS_RREJ 1
  else d.stageBusy a (word v)

/-- IMG and CT. -/
def Dev.ioImgCt (d : Dev) (a v : Nat) : Dev :=
  if a = R.IMG_CMD then
    let d := if bitOf v 0 then d.imgReform else d
    if bitOf v 1 then (d.setReg R.IMG_COUNTS 0).setReg R.IMG_COUNTS2 0 else d
  else if a = R.CT_CTRL then d.ctCtrlWrite v
  else if a = R.CT_CMD then (if bitOf v 0 then d.setReg R.CT_COUNTS 0 else d)
  else if R.CT_RGX 0 ≤ a ∧ a ≤ R.CT_RGC 31 then d.regionWrite a v
  else d.plainWrite a v

/-- OPT, AUX and CAL (R206, R210, R227–R229, R247, R271, R274). -/
def Dev.ioSide (d : Dev) (a v : Nat) : Dev :=
  if a = R.OPT_CTRL then
    let was := d.is R.OPT_CTRL_EN
    (d.plainWrite a v).optTaken was
  else if a = R.OPT_CMD then
    let d := if bitOf v 0 then d.optXtcap else d
    if bitOf v 1 then d.setReg R.OPT_COUNTS 0 else d
  else if a = R.AUX_CMD then
    let sync := bitOf v 0 && d.get R.AUX_SYNC_SRC == 0
    let d := d.syncResets (fun n => bitOf v (1 + n) || (sync && d.syncen n))
    if bitOf v 3 then d.setReg R.AUX_COUNTS 0 else d
  else if a = R.AX_CFG 0 then d.axCfgWrite 0 v
  else if a = R.AX_CFG 1 then d.axCfgWrite 1 v
  else if a = R.AX_FILT 0 then d.axFiltWrite 0 v
  else if a = R.AX_FILT 1 then d.axFiltWrite 1 v
  else if R.WC_CFG 0 ≤ a ∧ a ≤ R.WC_CFG 7 ∧ (a - R.WC_CFG 0) % 16 = 0 then d.wcCfgWrite ((a - R.WC_CFG 0) / 16) v
  else if a = R.CAL_CMD then
    let kind := v % 4
    let d := if bitOf v 5 then d.calAbort kind else d
    let d := if bitOf v 6 then d.calDefaults else d
    let d := if bitOf v 7 then (d.setReg R.CAL_COUNT0 0).setReg R.CAL_COUNT1 0 else d
    if bitOf v 4 then d.calGo kind else d
  else d.plainWrite a v

/-- SEQ (R286, R293, R309, R311). -/
def Dev.ioSeq (d : Dev) (host : Bool) (a v : Nat) : Dev :=
  if a = R.SEQ_CTRL then
    let d := d.plainWrite a v
    let d := if bitOf v 3 then d.seqClrCnt else d
    let d := if bitOf v 1 then d.seqResume else d
    if bitOf v 2 then d.seqHaltReq else d
  else if a = R.SEQ_DOORBELL then
    let d := d.plainWrite a v
    if host then d.event evDoorbell else d
  else d.plainWrite a v

/-- A W1C write to one of a pair of 32-bit mirrors: every bit written as 1 is cleared by `clr`. -/
def Dev.mirrorClear (d : Dev) (first v : Nat) (clr : Dev → Nat → Dev) : Dev :=
  (bitsOf 32 v).foldl (fun d k => clr d (first + k)) d

/-- TM, ED and GPIO (chapter 12). -/
def Dev.ioPanel (d : Dev) (a v : Nat) : Dev :=
  if a < 0x2800 then
    let k := (a - 0x2400) / 16
    if a = R.TM_CFG k then d.tmCfgWrite k v
    else if a = R.TM_PRESET k then d.tmPresetWrite k v
    else if a = R.TM_STAT k then
      let d := d.put (R.TM_STAT_IN k) v
      let d := if bitOf v 3 then d.setExp k false else d
      if bitOf v 4 then d.tmTrig k else d
    else d
  else if a < 0x2A00 then
    let k := (a - 0x2800) / 8
    if a = R.ED_CFG k then d.edCfgWrite k v
    else if bitOf v 1 then d.setLat k false else d
  else if a = R.ED_LAT0 then d.mirrorClear 0 v (fun d k => d.setLat k false)
  else if a = R.ED_LAT1 then d.mirrorClear 32 v (fun d k => d.setLat k false)
  else if R.GPIO_CFG 0 ≤ a ∧ a ≤ R.GPIO_CFG 5 then d.gpioCfgWrite ((a - R.GPIO_CFG 0) / 4) v
  else if a = R.GPIO_SET then d.gpioSet v
  else if a = R.GPIO_CLR then d.gpioClr v
  else if a = R.GPIO_PWM4 then d.pwmWrite 4 v
  else if a = R.GPIO_PWM5 then d.pwmWrite 5 v
  else if a = R.GPIO_TMEXP0 then d.mirrorClear 0 v (fun d k => d.setExp k false)
  else if a = R.GPIO_TMEXP1 then d.mirrorClear 32 v (fun d k => d.setExp k false)
  else d.plainWrite a v

/-- HP_COUNTS cleared; HP_ACK.VALID cleared (R401, R418). -/
def Dev.hpClrCnt (d : Dev) : Dev := d.setReg R.HP_COUNTS 0
def Dev.hpAckClr (d : Dev) : Dev := d.put R.HP_ACK_VALID 0

/-- HP and XR (R401, R403, R428, R433, R439, R440, R455). -/
def Dev.ioHpXr (d : Dev) (a v : Nat) : Dev :=
  if a = R.HP_ATTN then (d.plainWrite a v).rqAttn.holdAttn
  else if a = R.HP_ATTSET then (if bitOf v 0 then d.put R.HP_ATTN_PROG 1 else d)
  else if a = R.HP_CMD then
    let d := if bitOf v 0 then d.hpClrCnt else d
    if bitOf v 1 then d.hpAckClr else d
  else if R.XR_GUAR 0 ≤ a ∧ a < R.XR_GSUM then d.guarWrite ((a - R.XR_GUAR 0) / 4) (word v)
  else if a = R.CQ_GEOM ∨ a = R.CQ_SEQX then (if d.is R.CQ_CTRL_EN then d else d.plainWrite a v)
  else if a = R.RQ_GEOM ∨ a = R.RQ_CRES ∨ a = R.RQ_SEQX then (if d.is R.RQ_CTRL_EN then d else d.plainWrite a v)
  else if a = R.CQ_CTRL then d.cqCtrlWrite v
  else if a = R.RQ_CTRL then d.rqCtrlWrite v
  else if a = R.CQ_PI then d.cqPiWrite v
  else if a = R.RQ_CI then d.rqCiWrite v
  else if a = R.RQ_WM then (d.plainWrite a v).rqAttn
  else d.plainWrite a v

/-- PP_COUNTS and PP_COUNTS2 cleared (R571). -/
def Dev.ppClrCnt (d : Dev) : Dev := (d.setReg R.PP_COUNTS 0).setReg R.PP_COUNTS2 0

/-- CL and PP (R515, R559, R560). -/
def Dev.ioClPp (d : Dev) (a v : Nat) : Dev :=
  if a = R.CL_CTRL then d.clRoleWrite v
  else if a = R.CL_CMD then (if bitOf v 0 then d.clClrCnt else d)
  else if a = R.PP_GO then (d.ppGoStart (v % 256)).ppGoStop (v / 256 % 256)
  else if a = R.PP_CMD then (if bitOf v 0 then d.ppClrCnt else d)
  else if R.PP_DCTL 0 ≤ a ∧ a < R.PP_DSTAT 0 then
    let k := (a - R.PP_DCTL 0) / 16
    if d.ppBusy k then d else d.plainWrite a v
  else d.plainWrite a v

/-- PWR and FLT (R581, R586, R592, R605, R644, R649–R651, R655). -/
def Dev.ioPwrFlt (d : Dev) (a v : Nat) : Dev :=
  if a = R.PWR_DREQ then d.pwrDreq v
  else if a = R.PWR_SREQ then (if v % 4 = 1 then d.pwrSreqHeath else if v % 4 = 2 then d.pwrSreqFallow else d)
  else if a = R.PWR_HCFG then d.keepWrite a v 0x00FF0000
  else if a = R.PWR_CMD then (if bitOf v 0 then d.pwrClrCnt else d)
  else if a = R.FLT_TEMP then d.fltTempWrite v
  else if a = R.FLT_CMD then
    let d := if bitOf v 0 then d.fltClrCnt else d
    let d := if bitOf v 1 then d.fltClrLost else d
    if bitOf v 2 then d.fltClrTmax else d
  else if R.FLT_CFG 0 ≤ a ∧ a ≤ R.FLT_CFG 21 then d.fltCfgWrite ((a - R.FLT_CFG 0) / 4) (word v)
  else d.plainWrite a v

/-! ### One write, one read -/

/-- A write of `v` to the I/O register at `a` (a multiple of 4), by the host (or by a command of the host) or by the
program. In reset nothing is written; registers of a domain that is not ON ignore it (R574); so do the writes that HALTED
and the running states forbid. -/
def Dev.ioWrite (d : Dev) (host : Bool) (a v : Nat) : Dev :=
  if d.sys.inReset || !d.regReachable a || (regSpec? a).isNone then d
  else if d.st = stHalted ∧ haltedOff.contains a = true then d
  else if d.busyState = true ∧ heldOff a = true then d
  else if a < 0x400 then d.ioSysTick host a v
  else if a < 0xA00 then d.ioAcqHop a v
  else if a < 0x1400 then d.ioImgCt a v
  else if a < 0x2000 then d.ioSide a v
  else if a < 0x2400 then d.ioSeq host a v
  else if a < 0x3000 then d.ioPanel a v
  else if a < 0x3800 then d.ioHpXr a v
  else if a < 0x4000 then d.ioClPp a v
  else d.ioPwrFlt a v

/-- A read of the I/O register at `a`, by the host or by the program: its value, and the device after it, which differs
for the converters' read latches alone (R230). Registers of a domain that is not ON read 0 (R574). ACQ_ORIENT reads as
written, also between a write in READY and the next RUN, with which it takes force (R30, R33; DESIGN CHOICE, log entry
19). -/
def Dev.ioRead (d : Dev) (host : Bool) (a : Nat) : Word × Dev :=
  if !d.regReachable a then (0, d)
  else if a = R.SYS_UPTIME then (word d.uptime, d)
  else if a = R.SYS_TSTAMP then (word d.tstamp, d)
  else if a = R.CAL_SIG then (d.calSig, d)
  else if a = R.XR_GSUM then (d.guarSums false, d)
  else if a = R.XR_HSUM then (d.guarSums true, d)
  else if d.isMember = true ∧ (a = R.CT_STATUS ∨ a = R.CT_VKEYS ∨ a = R.CT_RGOCC) then (0, d)
  else if a = R.IMG_STATUS ∧ d.clLead = true then
    let s := (d.cl.swst.map (·.2)).foldl min (d.get R.IMG_STATUS_SWSTATE)
    (R.IMG_STATUS_SWSTATE.into (d.reg a) s, d)
  else if a = R.AX_DATA 0 ∨ a = R.AX_DATA 1 then
    (d.reg a, d.auxLatch host (if a = R.AX_DATA 0 then 0 else 1))
  else if a = R.AX_TS 0 ∨ a = R.AX_TS 1 then
    let (v, d') := d.auxLatched host true (if a = R.AX_TS 0 then 0 else 1)
    ((v.map word).getD (d.reg a), d')
  else if a = R.AX_STAT 0 ∨ a = R.AX_STAT 1 then
    let n := if a = R.AX_STAT 0 then 0 else 1
    let (v, d') := d.auxLatched host false n
    (match v with
      | some q => (R.AX_STAT_SEQ n).into (d.reg a) q
      | none => d.reg a, d')
  else (d.viewReg a, d)

end Sys2Proof.Machine
end

