-- ==== Sys2Proof/Machine/Startup.lean ====
section
/-!
DEFINITION. Machine/Startup.lean: resets, seating and removal, VDDIO, host qualification and the oscillator (chapter
19, R606–R629, R660).
-/

namespace Sys2Proof.Machine

/-! ### Resets (R607, R609–R612, R627, R628) -/

/-- What asserts a reset: power-on, RST_N, a 0x99 frame, a chain 0x99 segment; its bit of SYS_RESET. -/
inductive ResetCause where
  | por
  | pin
  | soft
  | chain
deriving DecidableEq, Repr

/-- The bit of SYS_RESET that a cause sets. -/
def ResetCause.flag : ResetCause → Nat
  | .por => 1
  | .pin => 2
  | .soft => 4
  | .chain => 8

/-- SYS_RESET after one more cause: the causes of one reset are recorded together; COUNT counts the resets since
power-on. A RST_N edge that comes at the instant at which a soft reset has ended falls together with it (R628, DEDUCED, log
entry 20). -/
def Dev.resetWord (d : Dev) (c : ResetCause) : Word :=
  let old := (d.reg R.SYS_RESET).toNat
  let same := d.clock == 0 && c == .pin && decide (4 ≤ old % 16) && !bitOf old 1
  if c = .por then 1
  else if d.sys.inReset || same then word (old ||| c.flag)
  else word (c.flag + 65536 * min 65535 (old / 65536 + 1))

/-- The device held in reset: every register at its reset value but for SYS_RESET, SYS_HALT_INFO (kept but for
power-on), the level of SEAT_N and of VDDIO; the counter of the free values goes on. -/
def Dev.resetDev (d : Dev) (c : ResetCause) : Dev :=
  let w := d.resetWord c
  let r : Dev := { Dev.reset with freeCount := d.freeCount }
  let r := r.put R.SYS_STRAPS_SEATPIN (d.get R.SYS_STRAPS_SEATPIN)
  let r := r.put R.SYS_STATUS_VDDIOOK (d.get R.SYS_STATUS_VDDIOOK)
  let r := r.setReg R.SYS_RESET w
  let r := if c = .por then r else r.setReg R.SYS_HALT_INFO (d.reg R.SYS_HALT_INFO)
  { r with sys := { r.sys with seatFell := if d.is R.SYS_STRAPS_SEATPIN then none else some 0 } }

/-- End of reset (R610, R612, R613, R630): the straps are sampled, time starts, the reset set is on, STATE is BOOT_WAIT,
and with G0 = 1 the flash boot starts. -/
def Dev.endOfReset (d : Dev) (g0 g1 : Bool) : Dev :=
  let d := ((d.putB R.SYS_STRAPS_BOOT g0).putB R.SYS_STRAPS_CHAIN g1).put R.SYS_STRAPS_SEATPIN 0
  let d := (d.putB R.HP_STATUS_CHAIN g1).put R.SYS_STATUS_SEATED 1
  let d : Dev := { d with clock := 0, sys := { d.sys with inReset := false, seatFell := none, hostQual := false },
                          pwr := { d.pwr with hfoOn := true } }
  let d := if g0 then d.setDom 9 2 else d
  (d.setSt stBootWait).bootStart

/-- POWER_ON_RESET: seating is measured afresh. -/
def Dev.powerOnReset (d : Dev) : Dev := d.resetDev .por

/-- A reset of a device that was seated ends at once, with the straps then on G0 and G1; else when it is seated (R610,
R627). -/
def Dev.warmReset (d : Dev) (c : ResetCause) (g0 g1 : Bool) : Dev :=
  let seated := d.is R.SYS_STATUS_SEATED
  let d := d.resetDev c
  if seated then d.endOfReset g0 g1 else d

/-- RST_N. -/
def Dev.rstN (d : Dev) (g0 g1 : Bool) : Dev := d.warmReset .pin g0 g1

/-! ### Seating (R610, R614–R619, R626, R627) -/

/-- SEAT_N_FALLING_EDGE: the seating count starts. -/
def Dev.seatFall (d : Dev) : Dev :=
  if d.is R.SYS_STRAPS_SEATPIN then
    { d.put R.SYS_STRAPS_SEATPIN 0 with sys := { d.sys with seatFell := some d.clock } }
  else d

/-- SEAT_N has been low for 8 ms. -/
def Dev.seatHeld (d : Dev) : Bool := d.sys.seatFell.any (fun t => decide (t + 8000 ≤ d.clock))

/-- The device is seated again with power intact, SEAT_N having been low for 8 ms (R618, R619, R626). -/
def Dev.seatAgain (d : Dev) : Dev :=
  if d.sys.inReset || d.is R.SYS_STATUS_SEATED || !d.seatHeld then d
  else
    let d := (d.put R.SYS_STATUS_SEATED 1).put R.SYS_STRAPS_SEATPIN 0
    let d : Dev := { d with sys := { d.sys with seatFell := none, hostQual := false } }
    if d.st ≠ stParked then (if d.st = stHalted then d.pumpTo (d.get R.ACQ_STATUS_LEVELNOW) else d)
    else if d.pwr.mode = 2 then d.fallowExit
    else
      let d := d.setSt (if d.sys.returnTo = stBootWait then stBootWait else stReady)
      let d := d.pumpTo (d.get R.ACQ_STATUS_LEVELNOW)
      let d := d.switchOnMask d.pwr.heathOff
      let d : Dev := { d with pwr := { d.pwr with heathOff := 0 } }
      let d := if d.sys.returnTo = stHeath then d.hostBack else d
      if d.seq.bootFrom.isSome then
        d.ppBootDrop.bootStart
      else d

/-- SEATED: SEAT_N has been low for 8 ms. It may end reset; the straps then are g0 and g1. -/
def Dev.seated (d : Dev) (g0 g1 : Bool) : Dev := if d.sys.inReset then d.endOfReset g0 g1 else d.seatAgain

/-- The frame in progress on the periphery port ends with ABORTED (R569); `n` and `rx` are what it had moved. -/
def Dev.ppFrameAbort (d : Dev) (n : Nat) (rx : List Byte) : Dev :=
  match d.pp.active with
  | none => d
  | some f => (d.ppCut f 5 n rx).eccFlush

/-- The output and port actions of R616 that every removal makes. -/
def Dev.removeOutputs (d : Dev) (n : Nat) (rx : List Byte) : Dev :=
  let d := d.ppFrameAbort n rx
  let d : Dev := { d with sys := { d.sys with hostQual := false }, hp := { d.hp with held := none },
                          panel := { d.panel with parked := true } }
  d.pwmSettle

/-- The charge pump stops and VHV is bled (R616). -/
def Dev.pumpStop (d : Dev) : Dev :=
  let d := if d.acq.pump = 0 then d else d.put R.ACQ_STATUS_VHVOK 0
  { d with acq := { d.acq with pump := 0, vhvDue := none } }

/-- Acquisition stops: the frame being acquired is abandoned, electrodes at high impedance, pump off (R616). -/
def Dev.acqAbandon (d : Dev) : Dev :=
  { d.pumpStop with acq := { d.pumpStop.acq with now := none, listen := [], hiZ := true }
                    tick := { d.tick with held := 0, due := none, subLeft := 0, owed := 0 } }

/-- A removal from a state other than HALTED and Fallow. -/
def Dev.removeLive (d : Dev) : Dev :=
  let was := d.st
  let d := d.clusterDown.clearRun
  let d := if was = stChecking then d.domRelease else if was = stHeath then d.hopDrop.calDiscard else d
  let d := d.heathCancel
  let d : Dev := { d with pwr := { d.pwr with mode := 0, waking := false, wakeAt := none, tsFrom := none, endRun := false,
                                              hfoOn := true },
                          cl := { d.cl with clearRun := false } }
  let d := (((d.acqAbandon.put R.SYS_CTRL_RUN 0).setSt stParked).put R.HP_STATUS_QUAD 0).pwrTick
  let d : Dev := { d with sys := { d.sys with returnTo := was } }
  if d.acq.ready.isEmpty && d.acq.proc.isNone then d.parkedStop else d

/-- REMOVAL (R616–R619, R625, R626). A Fallow entry completes first, with the commits that wait (R413, R625); the device
stops at once where its entry still waits for the stop. -/
def Dev.removal (d : Dev) (n : Nat) (rx : List Byte) : Dev :=
  let d : Dev := { d.put R.SYS_STRAPS_SEATPIN 1 with sys := { d.sys with seatFell := none } }
  if d.sys.inReset || !d.is R.SYS_STATUS_SEATED then d
  else
    let d := (d.put R.SYS_STATUS_SEATED 0).removeOutputs n rx |>.pumpStop
    if d.st = stHalted then d
    else if d.pwr.mode = 2 then d.removeFallow
    else match d.pwr.stateReq with
    | some q =>
      if q.kind = 2 then
        if q.done then d
        else (((d.acqStop.contactsStop.imgStop.put R.SYS_CTRL_RUN 0).setSt stReady).pwrTick).fallowTake
      else d.calEnds Dev.removeLive
    | none => d.calEnds Dev.removeLive

/-! ### VDDIO, host qualification, oscillator (R608, R615, R660) -/

/-- VDDIO_DROP: FS14 is counted once per drop; the host port waits for qualification. -/
def Dev.vddioDrop (d : Dev) : Dev :=
  if !d.is R.SYS_STATUS_VDDIOOK then d
  else
    let d := d.put R.SYS_STATUS_VDDIOOK 0
    if d.sys.inReset then d
    else
      ({ d with sys := { d.sys with hostQual := false }, hp := { d.hp with held := none } } : Dev).raise 0x14 0

/-- VDDIO_RETURN. -/
def Dev.vddioReturn (d : Dev) : Dev :=
  if d.is R.SYS_STATUS_VDDIOOK then d
  else { d.put R.SYS_STATUS_VDDIOOK 1 with sys := { d.sys with hostQual := false } }

/-- HOST_QUALIFICATION. -/
def Dev.hostQualify (d : Dev) : Dev :=
  if d.sys.inReset || !d.is R.SYS_STATUS_SEATED || !d.is R.SYS_STATUS_VDDIOOK then d
  else { d with sys := { d.sys with hostQual := true } }

/-- PLL_SWITCH: in BOOT_WAIT or READY the HFO-derived clocks move to the PLL, unless CLKIN was lost since the reset or
Fallow exit; a cluster member stays on its recovered clock. In CHECKING it is the move that a RUN written before it waits
for (DEDUCED, log entry 20). -/
def Dev.pllSwitch (d : Dev) : Dev :=
  if d.sys.inReset || d.pwr.pllLost || d.clMember || !(d.st == stBootWait || d.st == stReady || d.st == stChecking) then d
  else { d with pwr := { d.pwr with pllOn := true } }

/-- CLKIN_LOSS: back to the HFO until the next reset or Fallow exit. A cluster member ignores CLKIN. -/
def Dev.clkinLoss (d : Dev) : Dev :=
  if d.pwr.pllOn && !d.clMember then { d with pwr := { d.pwr with pllOn := false, pllLost := true } } else d

end Sys2Proof.Machine
end

