-- ==== Sys2Proof/Machine/HostPort.lean ====
section
/-!
DEFINITION. Machine/HostPort.lean: the host port (chapter 13): frames and their opcodes, reads and their pause points,
write frames and the commit queue, acknowledged writes, and chain mode. Each frame arrives whole, as one command at its
release; `mode3` is the clock mode sampled at its start and `clean` tells that it was released where its rule wants it.
-/

namespace Sys2Proof.Machine

/-! ### Frames (R385, R407, R414, R615) -/

/-- Frames reach the device: out of reset, seated, VDDIO up, the host qualified (R608, R614, R615). -/
def Dev.portUp (d : Dev) : Bool := !d.sys.inReset && d.is R.SYS_STATUS_SEATED && d.is R.SYS_STATUS_VDDIOOK && d.sys.hostQual

/-- The port serves its full opcode set: HOST domain on, once WAKE has been set after Heath or Fallow, not in chain mode
(R404). -/
def Dev.portServes (d : Dev) : Bool := d.portUp && d.domOn 7 && !d.hp.off && !d.is R.SYS_STRAPS_CHAIN

/-- A frame in progress goes on: also while HOST drains, which waits for its release (R412). -/
def Dev.portRuns (d : Dev) : Bool := d.portUp && (d.domOn 7 || d.dom 7 == 3) && !d.hp.off && !d.is R.SYS_STRAPS_CHAIN

/-- A frame begins: its clock mode is recorded, and a read that was still held back is over. -/
def Dev.frameBegin (d : Dev) (mode3 : Bool) : Dev :=
  { d.putB R.HP_STATUS_CLKMODE mode3 with hp := { d.hp with held := none, out := [] } }

/-- A frame. The clock mode is sampled at its start whether or not the port serves it; the front end that watches while
the HOST domain is off ignores it (R385, R404); one that comes while HOST drains has been preceded by the release of the
read that was held (R412). -/
def Dev.hostFrame (d : Dev) (mode3 : Bool) (body : Dev → Dev) : Dev :=
  if d.portServes then body (d.frameBegin mode3)
  else if d.portUp && !d.is R.SYS_STRAPS_CHAIN then
    { d.putB R.HP_STATUS_CLKMODE mode3 with hp := { d.hp with held := none } }
  else d

/-- The release of a frame is ragged (R397, R407, R410): HP_ERR.RAGGED, HP_COUNTS.RAGGED, and FS08 with its DETAIL. -/
def Dev.ragged (d : Dev) (detail : Nat) : Dev := ((d.put R.HP_ERR_RAGGED 1).inc R.HP_COUNTS_RAGGED).raise 0x08 detail

/-- The frame's bytes out. -/
def Dev.sends (d : Dev) (bs : List Byte) : Dev := { d with hp := { d.hp with out := bs } }

/-! ### Address space (R7, R8, R11, R14, R389) -/

def ioBase : Nat := 0x100000
def imemWin : Nat := 0x200000
def dmemBase : Nat := 0x300000

/-- Whether a host address lies in I/O space. -/
def inIo (a : Nat) : Bool := decide (ioBase ≤ a) && decide (a < 0x110000)
def inDmem (a : Nat) : Bool := decide (dmemBase ≤ a) && decide (a < 0x304000)

/-- The sequencer runs (R14). -/
def Dev.seqRuns (d : Dev) : Bool := !(d.sq == sqEmpty || d.sq == sqHalted)

/-- DMEM takes host writes: the sequencer does not run and STATE is not BOOT_WAIT (R14, R301). -/
def Dev.dmemOpen (d : Dev) : Bool := !d.seqRuns && d.st != stBootWait

/-- HRDY (R393, R402, R608, R614): none where it is released, else its level. `frame` tells that a frame is in progress:
with STRETCH it then shows whether data is ready, and otherwise attention. A frame that is held runs under HP_CFG and
HP_ATTEN as it found them (R411). -/
def Dev.hrdy (d : Dev) (frame : Bool) : Option Bool :=
  let cfg := (d.hp.held.map (·.cfg)).getD (d.reg R.HP_CFG)
  let atten := (d.hp.held.map (·.atten)).getD (d.reg R.HP_ATTEN)
  let od := R.HP_CFG_HRDYOD.of cfg != 0
  let pol := R.HP_CFG_ATTPOL.of cfg != 0
  if d.sys.inReset || !d.is R.SYS_STATUS_SEATED || !d.is R.SYS_STATUS_VDDIOOK then none
  else if frame && d.portRuns && R.HP_CFG_NRMODE.of cfg == 0 then
    if d.hp.held.isSome then some false else if od then none else some true
  else if (d.reg R.HP_ATTN &&& atten) != 0 then some pol
  else if od then none else some (!pol)

/-- What the host reads in `n` bytes from address `a`: at most `fuel` stretches, each within one region and, in I/O space,
within one register, which is sampled once. DMEM reads as 0x00 while domain SEQ is not ON, DRAIN included: the spec says
so for registers (R574) and for XRAM (R575) alone (DESIGN CHOICE, log entry 17). -/
def Dev.hostBytes (d : Dev) : Nat → Nat → Nat → List Byte × Dev
  | 0, _, _ => ([], d)
  | fuel + 1, a, n =>
    if n = 0 then ([], d)
    else
      let a := a % 2 ^ 24
      let (bs, d) : List Byte × Dev :=
        if a < 0x10000 then
          let k := min n (0x8000 - a % 0x8000)
          if d.xramOn a then (d.xbytes a k, d.eccTouch clHost a k) else (List.replicate k 0, d)
        else if inIo a then
          let k := min n (4 - a % 4)
          let (v, d) := d.ioRead true ((a - ioBase) / 4 * 4)
          (((leBytes 4 v.toNat).drop (a % 4)).take k, d)
        else if inDmem a then
          let k := min n (0x304000 - a)
          (if d.seqOn then readBytes dmemDflt d.mem.dmem (a - dmemBase) k else List.replicate k 0, d)
        else ([0], d)
      let (rest, d) := d.hostBytes fuel (a + bs.length) (n - bs.length)
      (bs ++ rest, d)

/-- Bytes that commit from address `a` on (R398): whole registers in I/O space; a bank that is off, DMEM while it is not
open, and unmapped addresses drop them. -/
def Dev.commitBytes (d : Dev) : Nat → Nat → List Byte → Dev
  | 0, _, _ => d
  | fuel + 1, a, bs =>
    if bs.isEmpty then d
    else
      let a := a % 2 ^ 24
      let (k, d) : Nat × Dev :=
        if a < 0x10000 then
          let k := 0x8000 - a % 0x8000
          (k, if d.xramOn a then d.xwriteEcc clHost a (bs.take k) else d)
        else if inIo a then (4, d.ioWrite true (a - ioBase) (leNat (bs.take 4)))
        else if imemWin ≤ a ∧ a < 0x208000 then
          let k := 0x208000 - a
          (k, if d.seqOn then d.shadowWrite (a - imemWin) (bs.take k) else d)
        else if inDmem a then
          let k := 0x304000 - a
          (k, if d.seqOn && d.dmemOpen then
              { d with mem := { d.mem with dmem := writeBytes dmemDflt d.mem.dmem (a - dmemBase) (bs.take k) } }
            else d)
        else (1, d)
      d.commitBytes fuel (a + min k bs.length) (bs.drop k)

/-! ### Reads (R386, R389, R391–R395) -/

/-- Whether R394 bounds the holds of a read of `n` bytes from `addr`, the commit queue being empty: it lies in I/O space,
DMEM or unmapped space, or in a bank where HOST holds at least 2 slots. -/
def Dev.readBounded (d : Dev) (addr n : Nat) : Bool :=
  (List.range n).all (fun i =>
    let a := (addr + i) % 2 ^ 24
    if a < 0x10000 then decide (2 ≤ d.get (if bankOf a = 0 then R.XR_GUAR_B0 clHost else R.XR_GUAR_B1 clHost))
    else !(decide (imemWin ≤ a) && decide (a < 0x208000)))

/-- The frame runs in BUSY mode (R393, R411). -/
def HeldRead.busy (h : HeldRead) : Bool := R.HP_CFG_NRMODE.of h.cfg != 0

/-- The bytes that a read sends once its data is ready at a pause point, as `h` names them; `late` names those of them
that are not fetched in time, none of a read that R394 bounds. With STRETCH the device holds the data back at the next
pause point that comes before one; in BUSY mode it sends 0x00 in place of such a byte and sets HP_ERR.UNDR (R392, R393,
R395). -/
def Dev.readOn (d : Dev) (h : HeldRead) (late : List Nat) : Dev :=
  let addr := h.addr
  let n := h.left
  let late := if h.bound then [] else late
  if h.busy then
    let (bs, d) := d.hostBytes n addr n
    let miss := late.any (fun i => decide (i < n))
    let d := if miss then d.put R.HP_ERR_UNDR 1 else d
    { d with hp := { d.hp with out := d.hp.out ++ bs.mapIdx (fun i b => if late.contains i then 0 else b) } }
  else
    let stop := (List.range n).find? (fun i => i != 0 && (addr + i) % 8 == 0 && late.contains i)
    let k := stop.getD n
    let (bs, d) := d.hostBytes k addr k
    { d with hp := { d.hp with out := d.hp.out ++ bs, held := stop.map (fun i => { h with addr := (addr + i) % 2 ^ 24, left := n - i }) } }

/-- A read frame. The data is held back at the first pause point while a write frame waits for its commit, or while its
first byte is not fetched (R392). -/
def Dev.hostRead (d : Dev) (mode3 : Bool) (addr n : Nat) (late : List Nat) : Dev :=
  d.hostFrame mode3 (fun d =>
    let h : HeldRead := ⟨addr, n, d.reg R.HP_CFG, d.reg R.HP_ATTEN, d.hp.queue.isEmpty && d.readBounded addr n⟩
    if !d.hp.queue.isEmpty || (late.contains 0 && n != 0) then { d with hp := { d.hp with held := some h } }
    else (if h.busy then d.sends [0xD1] else d).readOn h late)

/-- READ_PAUSE_RESUME: the data held back is ready, after `busy` busy bytes in BUSY mode (R393). -/
def Dev.pauseResume (d : Dev) (busy : Nat) (late : List Nat) : Dev :=
  match d.hp.held with
  | none => d
  | some h =>
    if !d.portRuns || !d.hp.queue.isEmpty then d
    else
      let d : Dev := { d with hp := { d.hp with held := none } }
      (if h.busy then d.sends (List.replicate (min busy 64) 0x5A ++ [0xD1]) else d).readOn h (late.filter (· != 0))

/-- BUSY_BYTE_LIMIT (R395). A read that R394 bounds is ready before it. -/
def Dev.busyLimit (d : Dev) : Dev :=
  match d.hp.held with
  | none => d
  | some h =>
    if !d.portRuns || !h.busy || h.bound then d
    else
      let d : Dev := { d with hp := { d.hp with held := none } }
      (d.put R.HP_ERR_RTO 1).sends (List.replicate 64 0x5A ++ 0xE7 :: List.replicate h.left 0)

/-! ### Writes (R397, R398) -/

/-- Data bytes of a frame that lie in I/O space: one at least, the last one. -/
def touchesIo (addr n : Nat) : Bool := (List.range n).any (fun i => inIo ((addr + i) % 2 ^ 24))
def endsInIo (addr n : Nat) : Bool := decide (0 < n) && inIo ((addr + n - 1) % 2 ^ 24)
def touchesDmem (addr n : Nat) : Bool := (List.range n).any (fun i => inDmem ((addr + i) % 2 ^ 24))

/-- A frame joins the commit queue. -/
def Dev.queueFrame (d : Dev) (addr : Nat) (bs : List Byte) : Dev :=
  ({ d with hp := { d.hp with queue := d.hp.queue ++ [(addr, bs)] } } : Dev).put R.HP_STATUS_WIP 1

/-- A write frame. -/
def Dev.hostWrite (d : Dev) (mode3 clean : Bool) (addr : Nat) (bs : List Byte) : Dev :=
  d.hostFrame mode3 (fun d =>
    let n := bs.length
    if !clean || (endsInIo addr n && n % 4 != 0) then d.ragged 1
    else if touchesIo addr n && addr % 4 != 0 then d.put R.HP_ERR_ALIGN 1
    else if 1024 < n then d.put R.HP_ERR_LONG 1
    else if 2 ≤ d.hp.queue.length then d.put R.HP_ERR_WOVR 1
    else if n = 0 then d
    else d.queueFrame addr bs)

/-- WRITE_COMMIT: the frame at the front of the queue commits. -/
def Dev.writeCommit (d : Dev) : Dev :=
  match d.hp.queue with
  | [] => d
  | (addr, bs) :: rest =>
    if !(d.domOn 7 || d.dom 7 == 3) then d
    else
      let d : Dev := { d with hp := { d.hp with queue := rest } }
      let d := d.putB R.HP_STATUS_WIP (!rest.isEmpty)
      d.commitBytes bs.length addr bs

/-! ### Status and ID (R15, R390, R396) -/

/-- The status byte. -/
def Dev.statusByte (d : Dev) : Byte :=
  let b := fun (c : Bool) (k : Nat) => if c then 2 ^ k else 0
  byte (b (d.is R.HP_STATUS_WIP) 0 + b (d.is R.HP_STATUS_QUAD) 1 + b d.attention 2 + b (d.st == stHalted) 3 +
    b (d.st == stRunning) 4 + b (d.reg R.HP_ERR != 0) 5 + b d.hp.ackErr 6 + 128)

def Dev.readStatus (d : Dev) (mode3 : Bool) (n : Nat) : Dev :=
  d.hostFrame mode3 (fun d => d.sends (List.replicate n d.statusByte))

def Dev.readId (d : Dev) (mode3 : Bool) (n : Nat) : Dev :=
  d.hostFrame mode3 (fun d => d.sends (([0x4A, 0x32, 0x50, 0x0B] ++ List.replicate (n - 4) (0 : Byte)).take n))

/-! ### Frames of the command byte alone (R387, R388, R404, R405, R407) -/

/-- 0x35; in quad-command mode it is ignored. -/
def Dev.quadEnter (d : Dev) (mode3 clean : Bool) : Dev :=
  d.hostFrame mode3 (fun d =>
    if d.is R.HP_STATUS_QUAD then d else if clean then d.put R.HP_STATUS_QUAD 1 else d.ragged 2)

/-- 0xF5; in normal mode it is ignored. -/
def Dev.quadExit (d : Dev) (mode3 clean : Bool) : Dev :=
  d.hostFrame mode3 (fun d =>
    if !d.is R.HP_STATUS_QUAD then d else if clean then d.put R.HP_STATUS_QUAD 0 else d.ragged 2)

/-- The host wake (R404, R591, R595, R596): it ends Fallow and Heath; on a Heath member of a cluster it only brings the
port back; in Meadow it has no effect but on an entry in progress. -/
def Dev.hostWake (d : Dev) : Dev :=
  if d.pwr.mode = 2 then
    if d.st = stParked then d
    else
      let d := d.put R.PWR_WSRC_HOSTWAKE 1
      ({ d with pwr := { d.pwr with wakeAt := some d.clock } } : Dev).fallowExit
  else if d.st = stHeath ∧ d.clMember = true then d.hostBack
  else d.wakeCause R.PWR_WSRC_HOSTWAKE

/-- 0xAB; with the HOST domain off the front end knows only the bare command byte (R404). The clock mode is sampled either
way (R385). -/
def Dev.wake (d : Dev) (mode3 clean : Bool) : Dev :=
  if !d.portUp || d.is R.SYS_STRAPS_CHAIN then d
  else if d.domOn 7 && !d.hp.off then
    let d := d.frameBegin mode3
    if clean then d.hostWake else d.ragged 2
  else
    let d := d.putB R.HP_STATUS_CLKMODE mode3
    if clean then d.hostWake else d

/-- 0xB9. -/
def Dev.enterFallow (d : Dev) (mode3 clean : Bool) : Dev :=
  d.hostFrame mode3 (fun d => if clean then d.fallowRequest none else d.ragged 2)

/-- A frame with an unknown opcode (R387). -/
def Dev.unknownOp (d : Dev) (mode3 : Bool) : Dev := d.hostFrame mode3 (fun d => d.put R.HP_ERR_BADOP 1)

/-- 0x99 (R406, R417). While PARKED it still resets the device, and nothing else of a frame acts (R627). -/
def Dev.softReset (d : Dev) (mode3 clean : Bool) (data : List Byte) (g0 g1 : Bool) : Dev :=
  if d.st = stParked ∧ !d.sys.inReset ∧ d.is R.SYS_STATUS_VDDIOOK ∧ d.domOn 7 ∧ !d.is R.SYS_STRAPS_CHAIN ∧ clean ∧ data = [0x3C]
  then d.warmReset .soft g0 g1
  else d.hostFrame mode3 (fun d =>
    if clean && data == [0x3C] then d.warmReset .soft g0 g1 else d.put R.HP_ERR_BADCONF 1)

/-! ### Acknowledged write (R399–R401) -/

/-- The bytes under the CRC: address, SEQ, LEN, data. -/
def ackBytes (addr seq : Nat) (bs : List Byte) : List Byte :=
  [byte (addr / 65536), byte (addr / 256), byte addr, byte seq, byte bs.length] ++ bs

/-- The acknowledgement status by the first line of the table that applies. -/
def Dev.ackStatus (d : Dev) (addr seq crc : Nat) (bs : List Byte) : Nat :=
  let n := bs.length
  let same := d.is R.HP_ACK_VALID && d.get R.HP_ACK_SEQ == seq
  if (crc16 (ackBytes addr seq bs)).toNat ≠ crc then 4
  else if same && d.get R.HP_ACKCRC_CRC != crc then 3
  else if same then 2
  else if (touchesIo addr n && addr % 4 != 0) || (endsInIo addr n && n % 4 != 0) || 2 ≤ d.hp.queue.length ||
      (touchesDmem addr n && d.seqRuns) then 5
  else 1

/-- The HP_ERR bit of a REJECTED frame. -/
def Dev.ackReject (d : Dev) (addr n : Nat) : Dev :=
  if endsInIo addr n && n % 4 != 0 then d.put R.HP_ERR_RAGGED 1
  else if touchesIo addr n && addr % 4 != 0 then d.put R.HP_ERR_ALIGN 1
  else if 2 ≤ d.hp.queue.length then d.put R.HP_ERR_WOVR 1
  else d

/-- ACKNOWLEDGED_WRITE with 1 to 256 data bytes; released before its last CRC bit (`complete` false) it is ragged. -/
def Dev.ackWrite (d : Dev) (mode3 complete : Bool) (addr seq crc : Nat) (bs : List Byte) : Dev :=
  d.hostFrame mode3 (fun d =>
    if !complete then ({ d with hp := { d.hp with ackErr := true } } : Dev).ragged 1
    else
      let s := d.ackStatus addr seq crc bs
      let d : Dev := { d with hp := { d.hp with ackErr := s != 1 && s != 2 } }
      let d := match s with
        | 4 => (d.inc R.HP_COUNTS_CRCERR).raise 0x07 seq
        | 5 => d.ackReject addr bs.length
        | 1 =>
          let d := ((d.put R.HP_ACK_SEQ seq).put R.HP_ACK_VALID 1).put R.HP_ACKCRC_CRC crc
          d.queueFrame addr bs
        | _ => d
      ((d.put R.HP_ACK_LASTST s).put R.HP_ACK_LASTSEQ seq).sends [byte s, byte seq])

/-! ### Chain mode (R408–R410, R629) -/

/-- The bits of a 64-bit word, the most significant first, as the chain register gives them out. -/
def regBits (r : BitVec 64) : List Bool := (List.range 64).map (fun i => r.getLsbD (63 - i))

/-- The chain register after it has taken `bits` in, each into bit 0 at a rising edge (R409). -/
def chainIn (r : BitVec 64) (bits : List Bool) : BitVec 64 := bits.foldl (fun r b => r <<< 1 ||| (if b then 1 else 0)) r

/-- What goes out on HIO1 while `bits` come in: the register's bits, then those taken in (R409, R410). Each edge finds bit
63 of the register on HIO1 (DEDUCED, log entry 13). -/
def chainOut (r : BitVec 64) (bits : List Bool) : List Bool := (regBits r ++ bits).take bits.length

/-- The response in the chain register: result code, address, data (R410). -/
def chainWord (c addr x : Nat) : BitVec 64 := BitVec.ofNat 64 (c % 256 * 2 ^ 56 + addr % 2 ^ 24 * 2 ^ 32 + x % 2 ^ 32)

/-- What goes out in a frame of 64 edges: the response of the frame before. -/
def Dev.chainBits (d : Dev) : List Bool := regBits d.hp.chain

/-- A release in chain mode: `out` went out on HIO1 meanwhile, whether or not the HOST domain is on (R410); `body`
executes the segment and gives the result code and data; the register then holds the response. A device that the segment
resets answers nothing. -/
def Dev.chainFrame (d : Dev) (mode3 : Bool) (addr : Nat) (out : List Bool) (body : Dev → Dev × Option (Nat × Nat)) : Dev :=
  if !d.portUp || !d.is R.SYS_STRAPS_CHAIN then d
  else
    match body { d.putB R.HP_STATUS_CLKMODE mode3 with hp := { d.hp with shifted := out } } with
    | (d, some (c, x)) => { d with hp := { d.hp with chain := chainWord c addr x } }
    | (d, none) => d

/-- The response data of a segment that is not executed: the spec states none (log entry 3). -/
def Dev.chainNoData (d : Dev) (c : Nat) : Dev × Option (Nat × Nat) :=
  let (x, d) := d.fresh
  (d, some (c, x % 2 ^ 32))

/-- A segment that needs the HOST domain (result 4 while it is off), and for 0x02 and 0x03 an aligned address. -/
def Dev.chainAwake (d : Dev) (aligned : Bool) (body : Dev → Dev × Option (Nat × Nat)) : Dev × Option (Nat × Nat) :=
  if !d.domOn 7 then d.chainNoData 4 else if !aligned then d.chainNoData 3 else body d

def Dev.chainNone (d : Dev) : Dev × Option (Nat × Nat) := (d, some (1, 0))

def Dev.chainWrite (d : Dev) (addr data : Nat) : Dev × Option (Nat × Nat) :=
  d.chainAwake (addr % 4 == 0) (fun d =>
    if inDmem addr && d.seqRuns then d.chainNoData 6
    else (d.commitBytes 4 addr (leBytes 4 data), some (1, data)))

def Dev.chainRead (d : Dev) (addr : Nat) : Dev × Option (Nat × Nat) :=
  d.chainAwake (addr % 4 == 0) (fun d =>
    let (bs, d) := d.hostBytes 4 addr 4
    (d, some (1, leNat bs)))

def Dev.chainStatus (d : Dev) : Dev × Option (Nat × Nat) := d.chainAwake true (fun d => (d, some (1, d.statusByte.toNat)))
def Dev.chainId (d : Dev) : Dev × Option (Nat × Nat) := d.chainAwake true (fun d => (d, some (1, 0x4A32500B)))
def Dev.chainReset (d : Dev) (data : Nat) (g0 g1 : Bool) : Dev × Option (Nat × Nat) :=
  d.chainAwake true (fun d => if data = 0x3C then (d.warmReset .chain g0 g1, none) else d.chainNoData 2)
def Dev.chainWake (d : Dev) : Dev × Option (Nat × Nat) := (d.hostWake, some (1, 0))
def Dev.chainFallow (d : Dev) : Dev × Option (Nat × Nat) := d.chainAwake true (fun d => (d.fallowRequest none, some (1, 0)))

/-- A segment in the register: command, address, data. -/
def Dev.chainExec (d : Dev) (cmd addr data : Nat) (g0 g1 : Bool) : Dev × Option (Nat × Nat) :=
  match cmd with
  | 0x00 => d.chainNone
  | 0x02 => d.chainWrite addr data
  | 0x03 => d.chainRead addr
  | 0x05 => d.chainStatus
  | 0x9F => d.chainId
  | 0x99 => d.chainReset data g0 g1
  | 0xAB => d.chainWake
  | 0xB9 => d.chainFallow
  | _ => d.chainAwake true (fun d => d.chainNoData 2)

/-- CHAIN_SEGMENT: a release after `edges` rising edges that took `bits` in on HIO0; an edge count that is not a non-zero
multiple of 64 discards what is in the register. -/
def Dev.chainSegment (d : Dev) (mode3 : Bool) (edges : Nat) (bits : List Bool) (g0 g1 : Bool) : Dev :=
  let seg := chainIn d.hp.chain bits
  let addr := seg.toNat / 2 ^ 32 % 2 ^ 24
  d.chainFrame mode3 addr (chainOut d.hp.chain bits) (fun d =>
    if edges ≠ 0 ∧ edges % 64 = 0 then d.chainExec (seg.toNat / 2 ^ 56) addr (seg.toNat % 2 ^ 32) g0 g1
    else (d.ragged 3).chainNoData 5)

end Sys2Proof.Machine
end

