-- ==== Sys2Proof/Machine/Act.lean ====
section
/-!
DEFINITION. Machine/Act.lean: how a command acts on the machine, the device while no command waits, and the operations
that a single command needs beyond the shared ones: the core's divisions and I/O accesses, the triggers of the
converters, and characters on CLI.
-/

namespace Sys2Proof.Machine

/-! ### Commands -/

/-- A command acts on the device, which does nothing while it is held in reset (R607, R609). The queue stays as it is. -/
def act (s : State) (f : Dev → Dev) : Host.Outcome State Fault Refusal :=
  .next { s with dev := if s.dev.sys.inReset then s.dev else f s.dev }

/-- A command that acts in reset too: the reset sources, SEAT_N and VDDIO. -/
def actAlways (s : State) (f : Dev → Dev) : Host.Outcome State Fault Refusal := .next { s with dev := f s.dev }

/-! ### The Odzia core (R325, R332, R333, R339, R349) -/

/-- An instruction that divides: `ab` gives the dividend and the divisor. -/
def Dev.seqDiv (d : Dev) (w : Word) (cond : BitVec 4) (sf : Bool) (rd : BitVec 4) (ab : Dev → Word × Word)
    (f : Word → Word → AluRes) : Dev :=
  d.seqInsn w cond (fun d =>
    let x := ab d
    if x.2 = 0 then (d, 1, .fault 0x05 none) else (d.aluWrite sf rd (f x.1 x.2), 18, .next))

/-- The fault that an access to I/O address `a` meets. -/
def ioBad (a : Nat) : Option Nat := if a % 4 ≠ 0 then some 0x02 else if 0xFFFF < a then some 0x03 else none

/-- IN. -/
def Dev.seqIn (d : Dev) (rd rs : BitVec 4) (o : Op2) : Dev × Nat × SeqEnd :=
  let a := (d.g rs + d.op2S o).toNat
  match ioBad a with
  | some c => (d, 2, .fault c (some a))
  | none =>
    let r := d.ioRead false a
    (r.2.setG rd r.1, 2, .next)

/-- OUT: the write takes effect after the instruction has completed, with the core at the next word. -/
def Dev.seqOut (d : Dev) (rd rs : BitVec 4) (o : Op2) : Dev × Nat × SeqEnd :=
  let a := (d.g rs + d.op2S o).toNat
  match ioBad a with
  | some c => (d, 2, .fault c (some a))
  | none =>
    let d' : Dev := { d with seq := { d.seq with pc := d.seq.pc + 1 } }
    (d'.ioWrite false a (d.g rd).toNat, 2, .next)

/-- The pending bits of `v`, all of them pending, are cleared. -/
def Dev.evClear (d : Dev) (v : Nat) : Dev := d.put R.SEQ_EVPEND_EV (d.get R.SEQ_EVPEND_EV - v)

/-! ### Registers -/

/-- CT_RGXk, CT_RGYk or CT_RGCk. -/
def regionReg (which k : Nat) : Nat := if which = 0 then R.CT_RGX k else if which = 1 then R.CT_RGY k else R.CT_RGC k

/-- A write of 1 to TMk_STAT.TRIG that leaves IN as it is. -/
def Dev.ioTmTrig (d : Dev) (k : Nat) : Dev := d.ioWrite true (R.TM_STAT k) (16 + d.get (R.TM_STAT_IN k))

/-- Whether PROG_VERIFY comes to the front while the front of the commit queue is a host write to the loaded shadow bank. -/
def Dev.shadowRace (d : Dev) : Bool :=
  d.cqRuns (fun e => isOp 0x11 e && eLen e == 2) && d.seqOn && d.seq.shadow.isSome && d.is R.SEQ_STATUS_SLOADED &&
    d.hp.queue.head?.any (fun f => decide (f.1 < 0x208000) && decide (imemWin < f.1 + f.2.length))

/-- PROG_VERIFY. Whether a host write to the shadow bank that waits commits while it runs is left open (free, log entry 3):
then the result is CHANGED (R297), and the write clears SVERIFIED (R296). -/
def Dev.verifyWhile (d : Dev) : Dev :=
  if d.shadowRace then
    let (k, d) := d.fresh
    if k % 2 = 1 then (d.cmdProgVerify true).writeCommit else d.cmdProgVerify false
  else d.cmdProgVerify false

/-! ### Triggers of the converters (R228) -/

/-- An edge on pin G`pin`: it fires the trigger when GPIN names the pin and GEDGE the edge (1 takes rising edges, 2 falling
ones, 3 both). -/
def Dev.auxGpioTrigger (d : Dev) (pin : Nat) (rising : Bool) : Dev :=
  if d.get R.AUX_SYNC_SRC = 2 ∧ d.get R.AUX_SYNC_GPIN = pin ∧
      bitOf (d.get R.AUX_SYNC_GEDGE) (if rising then 0 else 1) = true then d.commonTrigger else d

/-- The trigger of a tick fires, DLY µs after it and not before. -/
def Dev.auxTickTrigger (d : Dev) : Dev :=
  match d.aux.tickDue.find? (fun t => decide (t ≤ d.clock)) with
  | none => d
  | some t =>
    let d : Dev := { d with aux := { d.aux with tickDue := d.aux.tickDue.erase t } }
    if d.get R.AUX_SYNC_SRC = 1 then d.commonTrigger else d

/-! ### Characters on CLI (R608) -/

/-- What arrives on CLI is ignored while VDDIO is low. -/
def Dev.cliIn (d : Dev) (f : Dev → Dev) : Dev := if d.is R.SYS_STATUS_VDDIOOK then f d else d

/-! ### Time -/

/-- A µs passes while no command waits (log entry 2): domain requests that waited for a check that has ended start (R600),
the timers count, what the node put on CLO has left, a phase of a frame that ends by time ends (R197, R526), and a tick
that was held comes once MINPER has passed (R53), VHV reaches its target (R68), a stop on a lead is announced (R541), and
ECC errors that the rings' own upkeep met are counted (R420). Bindings that waited for a tick are written where none
comes. -/
def Dev.idle (d : Dev) : Dev :=
  if d.sys.inReset then d
  else
    let d : Dev := { d with clock := d.clock + 1, cl := { d.cl with tx := [], txK := [] } }
    let d := d.timersMicro
    let d := if d.ticking || d.panel.edBind.isEmpty then d else d.edBindTick
    let d := if d.st == stChecking || d.pwr.domReqs.all (fun q => !q.waits) then d else d.domRelease
    d.eccFlush.stageStop.phaseTime.vhvTime.heldTick

end Sys2Proof.Machine
end

