-- ==== Sys2Proof/Machine/ExecCluster.lean ====
section
/-!
DEFINITION. Machine/ExecCluster.lean: the meanings of the commands of the cluster ring (chapter 16).
-/

namespace Sys2Proof.Machine

/-- CL_ROLE_WRITE (R515): A write to CL_CTRL.ROLE is accepted only in BOOT_WAIT or READY while not enumerated. -/
def execClRoleWrite (v : BitVec 32) (s : State) : Host.Outcome State Fault Refusal :=
  act s (fun d => d.ioWrite true R.CL_CTRL v.toNat)

/-- CL_CLRCNT (R546): A write of 1 to CL_CMD.CLRCNT clears CL_COUNTS and CL_COUNTS2. -/
def execClClrcnt (s : State) : Host.Outcome State Fault Refusal :=
  act s (fun d => d.ioWrite true R.CL_CMD 1)

/-- LINK_LOCK (R513): The receiver decodes 64 consecutive valid characters and LINK sets. -/
def execLinkLock (s : State) : Host.Outcome State Fault Refusal :=
  act s (fun d => d.cliIn (fun d => d.linkLock))

/-- RING_TICK (R519): A TICK character arrives, and the node takes its tick after its compensation and applies the
STAGE. -/
def execRingTick (s : State) : Host.Outcome State Fault Refusal :=
  act s (fun d => d.cliIn (fun d => d.ringTick))

/-- TICKH (R531): A TICKH character gives a tick that applies no new STAGE. -/
def execTickh (s : State) : Host.Outcome State Fault Refusal :=
  act s (fun d => d.cliIn (fun d => d.ringTickH))

/-- RCANCEL (R527): An RCANCEL character makes the node run no retry in the frame. -/
def execRcancel (s : State) : Host.Outcome State Fault Refusal :=
  act s (fun d => d.cliIn (fun d => d.ringRcancel))

/-- MEASURE (R516): A MEASURE character travels the ring so that the lead can measure RTT. -/
def execMeasure (echo : Echo) (s : State) : Host.Outcome State Fault Refusal :=
  act s (fun d => d.cliIn (fun d => d.clMeasure echo))

/-- RING_DOWN (R537): A DOWN character reports that a node has stopped; the lead counts FS0A and clears RUN, and
members stop acquisition. -/
def execRingDown (node : Fin 8) (s : State) : Host.Outcome State Fault Refusal :=
  act s (fun d => d.cliIn (fun d => d.ringDown node.val))

/-- ENUM (R516): An ENUM broadcast gives a member its ID and counts the members. -/
def execEnum (m : RingMsg) (s : State) : Host.Outcome State Fault Refusal :=
  act s (fun d => d.cliIn (fun d => d.clEnum m))

/-- CONFIG (R516): A CONFIG broadcast delivers RTT, compensations, CL_PERIOD and the row blocks. -/
def execConfig (m : RingMsg) (s : State) : Host.Outcome State Fault Refusal :=
  act s (fun d => d.cliIn (fun d => d.clConfig m))

/-- CHECK (R518): A CHECK broadcast makes each member run its own check. -/
def execCheck (ask : CheckAsk) (s : State) : Host.Outcome State Fault Refusal :=
  act s (fun d => d.cliIn (fun d => d.clCheck ask))

/-- CHECKR (R518): A member's CHECKR answer reaches the lead. -/
def execCheckr (m : RingMsg) (s : State) : Host.Outcome State Fault Refusal :=
  act s (fun d => d.cliIn (fun d => d.clCheckr m))

/-- STAGE (R530): A STAGE broadcast announces the hop, freeze set, stop and modes for the next tick. -/
def execStage (m : RingMsg) (s : State) : Host.Outcome State Fault Refusal :=
  act s (fun d => d.cliIn (fun d => d.clStage m))

/-- RETRY (R89): A RETRY broadcast names the symbols that every node re-drives. -/
def execRetry (m : RingMsg) (s : State) : Host.Outcome State Fault Refusal :=
  act s (fun d => d.cliIn (fun d => d.clRetry m))

/-- NOISE (R118): A member's NOISE frame delivers its noise powers to the lead. -/
def execNoise (m : RingMsg) (s : State) : Host.Outcome State Fault Refusal :=
  act s (fun d => d.cliIn (fun d => d.clNoiseRx m))

/-- CORR (R89): A member's CORR frame delivers its corrupt symbol indices. -/
def execCorr (m : RingMsg) (s : State) : Host.Outcome State Fault Refusal :=
  act s (fun d => d.cliIn (fun d => d.clCorrRx m))

/-- DELTA (R532): A member's DELTA frame delivers its coded deltas to the lead. -/
def execDelta (m : RingMsg) (s : State) : Host.Outcome State Fault Refusal :=
  act s (fun d => d.cliIn (fun d => d.clDeltaRx m))

/-- CALD (R254): A member's CALD frame delivers its calibration medians and counts. -/
def execCald (m : RingMsg) (s : State) : Host.Outcome State Fault Refusal :=
  act s (fun d => d.cliIn (fun d => d.clCald m))

/-- CALR (R254): A CALR broadcast delivers panmed and the line gains. -/
def execCalr (m : RingMsg) (s : State) : Host.Outcome State Fault Refusal :=
  act s (fun d => d.cliIn (fun d => d.clCalr m))

/-- ACK (R535): An ACK frame confirms a member frame. -/
def execAck (m : RingMsg) (s : State) : Host.Outcome State Fault Refusal :=
  act s (fun d => d.cliIn (fun d => d.clAck m))

/-- LEAVE (R517): A LEAVE broadcast dissolves the cluster. -/
def execLeave (m : RingMsg) (s : State) : Host.Outcome State Fault Refusal :=
  act s (fun d => d.cliIn (fun d => d.clLeave m))

/-- ACK_TIMEOUT (R535): No ACK arrives within 20 µs, and the member resends the frame. -/
def execAckTimeout (s : State) : Host.Outcome State Fault Refusal :=
  act s (fun d => d.ackTimeout)

/-- ENUM_ECHO_TIMEOUT (R516): An enumeration echo does not return within 50 µs, and enumeration fails. -/
def execEnumEchoTimeout (s : State) : Host.Outcome State Fault Refusal :=
  act s (fun d => d.enumEchoTimeout)

/-- MEMBER_HOLDOVER (R521): No TICK arrives within 1 µs of the predicted instant, so the member issues the tick itself
in holdover. -/
def execMemberHoldover (s : State) : Host.Outcome State Fault Refusal :=
  act s (fun d => d.memberHoldover)

/-- DELTA_DEADLINE (R536): At the delta deadline the lead starts processing, with the missing columns held stale. -/
def execDeltaDeadline (s : State) : Host.Outcome State Fault Refusal :=
  act s (fun d => d.deltaDeadline)

/-- CLI_UNLOCK (R538): The lead's CLI stays unlocked for 2 µs, so it counts FS0A and clears RUN. -/
def execCliUnlock (s : State) : Host.Outcome State Fault Refusal :=
  act s (fun d => d.cliUnlock)

/-- LINK_LOSS (R539): A member's receiver loses lock on CLI, so LINK and ENUM clear and the node must be
re-enumerated. -/
def execLinkLoss (s : State) : Host.Outcome State Fault Refusal :=
  act s (fun d => d.linkLoss)

/-- RETRY_CHOICE_DEADLINE (R526): At XGAP/2 into the exchange gap, the lead chooses the retries from the CORR frames
received and sends RETRY. -/
def execRetryChoiceDeadline (s : State) : Host.Outcome State Fault Refusal :=
  act s (fun d => d.retryChoice)

/-- RETRY_ECHO_DEADLINE (R527): 1 µs before the exchange gap ends, with the RETRY echo not returned intact, the lead
sends RCANCEL. -/
def execRetryEchoDeadline (s : State) : Host.Outcome State Fault Refusal :=
  act s (fun d => d.retryEcho)

/-- STAGE_DEADLINE (R526): 30 µs before the next tick, the lead sends STAGE even though its processing of the frame
has not ended. -/
def execStageDeadline (s : State) : Host.Outcome State Fault Refusal :=
  act s (fun d => d.stageDeadline)

end Sys2Proof.Machine
end

