-- ==== Sys2Proof/Machine/ExecCommand.lean ====
section
/-!
DEFINITION. Machine/ExecCommand.lean: the meanings of the commands of the command ring's commands (chapter 15), and a
write to any register.
-/

namespace Sys2Proof.Machine

/-- PAD (R437): The PAD command executes nothing. -/
def execPad (s : State) : Host.Outcome State Fault Refusal :=
  act s (fun d => d.cmdPad)

/-- NOP (R466): The NOP command does nothing. -/
def execNop (s : State) : Host.Outcome State Fault Refusal :=
  act s (fun d => d.cmdNop)

/-- PROG_LOAD (R473): Copies an image from XRAM into the shadow bank. -/
def execProgLoad (s : State) : Host.Outcome State Fault Refusal :=
  act s (fun d => d.cmdProgLoad)

/-- PROG_VERIFY (R474): Verifies the shadow image under R297. -/
def execProgVerify (s : State) : Host.Outcome State Fault Refusal :=
  act s (fun d => d.verifyWhile)

/-- PROG_SWAP (R475): Requests an on-line swap, or activates the image off line. -/
def execProgSwap (s : State) : Host.Outcome State Fault Refusal :=
  act s (fun d => d.cmdProgSwap)

/-- CAL_RUN (R476): Starts a calibration run of the given kind. -/
def execCalRun (s : State) : Host.Outcome State Fault Refusal :=
  act s (fun d => d.cmdCalRun)

/-- CAL_SAVE (R477): Writes the calibration image to an XRAM area. -/
def execCalSave (s : State) : Host.Outcome State Fault Refusal :=
  act s (fun d => d.cmdCalSave)

/-- CAL_LOAD (R477): Loads a calibration image from XRAM after checking it. -/
def execCalLoad (s : State) : Host.Outcome State Fault Refusal :=
  act s (fun d => d.cmdCalLoad)

/-- REGION_SET (R478): Tests and writes a set of regions so that they take force together. -/
def execRegionSet (s : State) : Host.Outcome State Fault Refusal :=
  act s (fun d => d.cmdRegionSet)

/-- KEYMAP_SET (R479): Binds virtual keys to edge detectors. -/
def execKeymapSet (s : State) : Host.Outcome State Fault Refusal :=
  act s (fun d => d.cmdKeymapSet)

/-- HOP_TABLE_SET (R480): Tests and writes all eight hop-table entries. -/
def execHopTableSet (s : State) : Host.Outcome State Fault Refusal :=
  act s (fun d => d.cmdHopTableSet)

/-- IMAGE_DUMP (R481): Dumps the next processed frames as IMAGE_CHUNK reports. -/
def execImageDump (s : State) : Host.Outcome State Fault Refusal :=
  act s (fun d => d.cmdImageDump)

/-- PERI_XFER (R483): Queues one periphery transfer. -/
def execPeriXfer (s : State) : Host.Outcome State Fault Refusal :=
  act s (fun d => d.cmdPeriXfer)

/-- POWER_REQ_DOMAINS (R581): POWER_REQ with ACTION 0 switches the named domains on and off. -/
def execPowerReqDomains (s : State) : Host.Outcome State Fault Refusal :=
  act s (fun d => d.cmdPowerDomains)

/-- POWER_REQ_HEATH (R586): POWER_REQ with ACTION 1 requests Heath. -/
def execPowerReqHeath (s : State) : Host.Outcome State Fault Refusal :=
  act s (fun d => d.cmdPowerHeath)

/-- POWER_REQ_FALLOW (R592): POWER_REQ with ACTION 2 requests Fallow. -/
def execPowerReqFallow (s : State) : Host.Outcome State Fault Refusal :=
  act s (fun d => d.cmdPowerFallow)

/-- POWER_REQ_MEADOW (R582): POWER_REQ with ACTION 3 switches on the Meadow set. -/
def execPowerReqMeadow (s : State) : Host.Outcome State Fault Refusal :=
  act s (fun d => d.cmdPowerMeadow)

/-- CLUSTER_CFG_ENUMERATE (R516): Enumerates the cluster from the lead. -/
def execClusterCfgEnumerate (s : State) : Host.Outcome State Fault Refusal :=
  act s (fun d => d.cmdEnumerate)

/-- CLUSTER_CFG_DISSOLVE (R517): Dissolves the cluster with a LEAVE broadcast. -/
def execClusterCfgDissolve (s : State) : Host.Outcome State Fault Refusal :=
  act s (fun d => d.cmdDissolve)

/-- LOG_READ (R486): Writes one LOG report of fault log entries. -/
def execLogRead (s : State) : Host.Outcome State Fault Refusal :=
  act s (fun d => d.cmdLogRead)

/-- COUNTERS_READ (R487): Writes the counter block, sampled in one cycle, to an area. -/
def execCountersRead (s : State) : Host.Outcome State Fault Refusal :=
  act s (fun d => d.cmdCountersRead)

/-- COUNTERS_CLEAR (R488): Clears the counters that the mask names. -/
def execCountersClear (s : State) : Host.Outcome State Fault Refusal :=
  act s (fun d => d.cmdCountersClear)

/-- MAILBOX (R489): Copies data to XRAM for the program and sets SEQ_MBOX and EVPEND.MBOX. -/
def execMailbox (s : State) : Host.Outcome State Fault Refusal :=
  act s (fun d => d.cmdMailbox)

/-- FENCE (R490): Starts a barrier that waits for every earlier asynchronous command. -/
def execFence (s : State) : Host.Outcome State Fault Refusal :=
  act s (fun d => d.cmdFence)

/-- FENCE_RELEASE (R490): The earlier asynchronous commands have completed, and at the next tick if requested the
FENCE ends with OK. -/
def execFenceRelease (s : State) : Host.Outcome State Fault Refusal :=
  act s (fun d => d.fenceRelease)

/-- FENCE_TIMEOUT (R490): The FENCE TIMEOUT passes, and the FENCE ends with TIMEOUT. -/
def execFenceTimeout (s : State) : Host.Outcome State Fault Refusal :=
  act s (fun d => d.fenceTimeout)

/-- REGISTER_WRITE (R4): A write to a register that has no row of its own acts by its access code, with RWS staging.
-/
def execRegisterWrite (prog : Bool) (addr : BitVec 16) (v : BitVec 32)
    (s : State) : Host.Outcome State Fault Refusal :=
  act s (fun d => d.ioWrite (!prog) addr.toNat v.toNat)

end Sys2Proof.Machine
end

