-- ==== Sys2Proof/Machine/ExecCore.lean ====
section
/-!
DEFINITION. Machine/ExecCore.lean: the meanings of the commands of the Odzia instructions and the sequencer (chapters
10 and 11).
-/

namespace Sys2Proof.Machine

/-- ADD (R321): Adds op2 to rs. -/
def execInsAdd (cond : BitVec 4) (sf : Bool) (rd : BitVec 4) (rs : BitVec 4) (o : Op2)
    (s : State) : Host.Outcome State Fault Refusal :=
  act s (fun d => d.seqAlu (encAlu cond 0x00 sf rd rs o) cond sf rd 1 (fun d => aluAdd (d.g rs) (d.op2S o) false))

/-- ADDC (R321): Adds op2 and the carry to rs. -/
def execInsAddc (cond : BitVec 4) (sf : Bool) (rd : BitVec 4) (rs : BitVec 4) (o : Op2)
    (s : State) : Host.Outcome State Fault Refusal :=
  act s (fun d => d.seqAlu (encAlu cond 0x01 sf rd rs o) cond sf rd 1 (fun d => aluAdd (d.g rs) (d.op2S o) d.seq.c))

/-- SUB (R321): Subtracts op2 from rs, with C as the borrow. -/
def execInsSub (cond : BitVec 4) (sf : Bool) (rd : BitVec 4) (rs : BitVec 4) (o : Op2)
    (s : State) : Host.Outcome State Fault Refusal :=
  act s (fun d => d.seqAlu (encAlu cond 0x02 sf rd rs o) cond sf rd 1 (fun d => aluSub (d.g rs) (d.op2S o) false))

/-- SUBB (R321): Subtracts op2 and the borrow from rs. -/
def execInsSubb (cond : BitVec 4) (sf : Bool) (rd : BitVec 4) (rs : BitVec 4) (o : Op2)
    (s : State) : Host.Outcome State Fault Refusal :=
  act s (fun d => d.seqAlu (encAlu cond 0x03 sf rd rs o) cond sf rd 1 (fun d => aluSub (d.g rs) (d.op2S o) d.seq.c))

/-- ABSD (R321): Writes the unsigned absolute difference of rs and op2. -/
def execInsAbsd (cond : BitVec 4) (sf : Bool) (rd : BitVec 4) (rs : BitVec 4) (o : Op2)
    (s : State) : Host.Outcome State Fault Refusal :=
  act s (fun d => d.seqAlu (encAlu cond 0x04 sf rd rs o) cond sf rd 1 (fun d => aluAbsd (d.g rs) (d.op2Z o)))

/-- AND (R321): Bitwise AND of rs and op2. -/
def execInsAnd (cond : BitVec 4) (sf : Bool) (rd : BitVec 4) (rs : BitVec 4) (o : Op2)
    (s : State) : Host.Outcome State Fault Refusal :=
  act s (fun d => d.seqAlu (encAlu cond 0x05 sf rd rs o) cond sf rd 1 (fun d => plain (d.g rs &&& d.op2Z o)))

/-- OR (R321): Bitwise OR of rs and op2. -/
def execInsOr (cond : BitVec 4) (sf : Bool) (rd : BitVec 4) (rs : BitVec 4) (o : Op2)
    (s : State) : Host.Outcome State Fault Refusal :=
  act s (fun d => d.seqAlu (encAlu cond 0x06 sf rd rs o) cond sf rd 1 (fun d => plain (d.g rs ||| d.op2Z o)))

/-- XOR (R321): Bitwise XOR of rs and op2. -/
def execInsXor (cond : BitVec 4) (sf : Bool) (rd : BitVec 4) (rs : BitVec 4) (o : Op2)
    (s : State) : Host.Outcome State Fault Refusal :=
  act s (fun d => d.seqAlu (encAlu cond 0x07 sf rd rs o) cond sf rd 1 (fun d => plain (d.g rs ^^^ d.op2Z o)))

/-- ANDN (R321): rs AND NOT op2. -/
def execInsAndn (cond : BitVec 4) (sf : Bool) (rd : BitVec 4) (rs : BitVec 4) (o : Op2)
    (s : State) : Host.Outcome State Fault Refusal :=
  act s (fun d => d.seqAlu (encAlu cond 0x08 sf rd rs o) cond sf rd 1 (fun d => plain (d.g rs &&& ~~~ d.op2Z o)))

/-- MOV (R321): Copies op2 to rd. -/
def execInsMov (cond : BitVec 4) (sf : Bool) (rd : BitVec 4) (o : Op2)
    (s : State) : Host.Outcome State Fault Refusal :=
  act s (fun d => d.seqAlu (encAlu cond 0x09 sf rd 0 o) cond sf rd 1 (fun d => plain (d.op2Z o)))

/-- NOT (R321): Writes the complement of op2 to rd. -/
def execInsNot (cond : BitVec 4) (sf : Bool) (rd : BitVec 4) (o : Op2)
    (s : State) : Host.Outcome State Fault Refusal :=
  act s (fun d => d.seqAlu (encAlu cond 0x0A sf rd 0 o) cond sf rd 1 (fun d => plain (~~~ d.op2Z o)))

/-- SHL (R322): Shifts rs left. -/
def execInsShl (cond : BitVec 4) (sf : Bool) (rd : BitVec 4) (rs : BitVec 4) (o : Op2)
    (s : State) : Host.Outcome State Fault Refusal :=
  act s (fun d => d.seqAlu (encAlu cond 0x0B sf rd rs o) cond sf rd 1 (fun d => aluShl (d.g rs) (d.amount o)))

/-- SHR (R322): Shifts rs right with zero fill. -/
def execInsShr (cond : BitVec 4) (sf : Bool) (rd : BitVec 4) (rs : BitVec 4) (o : Op2)
    (s : State) : Host.Outcome State Fault Refusal :=
  act s (fun d => d.seqAlu (encAlu cond 0x0C sf rd rs o) cond sf rd 1 (fun d => aluShr (d.g rs) (d.amount o)))

/-- SAR (R322): Shifts rs right with sign fill. -/
def execInsSar (cond : BitVec 4) (sf : Bool) (rd : BitVec 4) (rs : BitVec 4) (o : Op2)
    (s : State) : Host.Outcome State Fault Refusal :=
  act s (fun d => d.seqAlu (encAlu cond 0x0D sf rd rs o) cond sf rd 1 (fun d => aluSar (d.g rs) (d.amount o)))

/-- ROR (R322): Rotates rs right. -/
def execInsRor (cond : BitVec 4) (sf : Bool) (rd : BitVec 4) (rs : BitVec 4) (o : Op2)
    (s : State) : Host.Outcome State Fault Refusal :=
  act s (fun d => d.seqAlu (encAlu cond 0x0E sf rd rs o) cond sf rd 1 (fun d => aluRor (d.g rs) (d.amount o)))

/-- CLZ (R323): Counts the leading zero bits of rs. -/
def execInsClz (cond : BitVec 4) (sf : Bool) (rd : BitVec 4) (rs : BitVec 4)
    (s : State) : Host.Outcome State Fault Refusal :=
  act s (fun d => d.seqAlu (encAlu cond 0x0F sf rd rs (opReg 0)) cond sf rd 1 (fun d => plain (word (clzN 32 (d.g rs)))))

/-- MUL (R324): Writes the low 32 bits of the product. -/
def execInsMul (cond : BitVec 4) (sf : Bool) (rd : BitVec 4) (rs : BitVec 4) (o : Op2)
    (s : State) : Host.Outcome State Fault Refusal :=
  act s (fun d => d.seqAlu (encAlu cond 0x10 sf rd rs o) cond sf rd 2 (fun d => plain (d.g rs * d.op2S o)))

/-- MAC (R324): Adds the product to rd. -/
def execInsMac (cond : BitVec 4) (sf : Bool) (rd : BitVec 4) (rs : BitVec 4) (o : Op2)
    (s : State) : Host.Outcome State Fault Refusal :=
  act s (fun d => d.seqAlu (encAlu cond 0x11 sf rd rs o) cond sf rd 2 (fun d => plain (d.g rd + d.g rs * d.op2S o)))

/-- MULHS (R324): Writes the high 32 bits of the signed product. -/
def execInsMulhs (cond : BitVec 4) (sf : Bool) (rd : BitVec 4) (rs : BitVec 4) (o : Op2)
    (s : State) : Host.Outcome State Fault Refusal :=
  act s (fun d => d.seqAlu (encAlu cond 0x12 sf rd rs o) cond sf rd 2 (fun d => aluMulhs (d.g rs) (d.op2S o)))

/-- MULHU (R324): Writes the high 32 bits of the unsigned product. -/
def execInsMulhu (cond : BitVec 4) (sf : Bool) (rd : BitVec 4) (rs : BitVec 4) (o : Op2)
    (s : State) : Host.Outcome State Fault Refusal :=
  act s (fun d => d.seqAlu (encAlu cond 0x13 sf rd rs o) cond sf rd 2 (fun d => aluMulhu (d.g rs) (d.op2Z o)))

/-- DIVS (R325): Signed division, with a DIVZERO fault on a zero divisor. -/
def execInsDivs (cond : BitVec 4) (sf : Bool) (rd : BitVec 4) (rs : BitVec 4) (o : Op2)
    (s : State) : Host.Outcome State Fault Refusal :=
  act s (fun d => d.seqDiv (encAlu cond 0x14 sf rd rs o) cond sf rd (fun d => (d.g rs, d.op2S o)) aluDivs)

/-- DIVU (R325): Unsigned division. -/
def execInsDivu (cond : BitVec 4) (sf : Bool) (rd : BitVec 4) (rs : BitVec 4) (o : Op2)
    (s : State) : Host.Outcome State Fault Refusal :=
  act s (fun d => d.seqDiv (encAlu cond 0x15 sf rd rs o) cond sf rd (fun d => (d.g rs, d.op2Z o)) aluDivu)

/-- REMS (R325): Signed remainder. -/
def execInsRems (cond : BitVec 4) (sf : Bool) (rd : BitVec 4) (rs : BitVec 4) (o : Op2)
    (s : State) : Host.Outcome State Fault Refusal :=
  act s (fun d => d.seqDiv (encAlu cond 0x16 sf rd rs o) cond sf rd (fun d => (d.g rs, d.op2S o)) aluRems)

/-- REMU (R325): Unsigned remainder. -/
def execInsRemu (cond : BitVec 4) (sf : Bool) (rd : BitVec 4) (rs : BitVec 4) (o : Op2)
    (s : State) : Host.Outcome State Fault Refusal :=
  act s (fun d => d.seqDiv (encAlu cond 0x17 sf rd rs o) cond sf rd (fun d => (d.g rs, d.op2Z o)) aluRemu)

/-- BFX (R326): Extracts a bitfield with zero extension. -/
def execInsBfx (cond : BitVec 4) (sf : Bool) (rd : BitVec 4) (rs : BitVec 4) (lsb : BitVec 5) (wm1 : BitVec 5)
    (s : State) : Host.Outcome State Fault Refusal :=
  act s (fun d => d.seqAlu (encAlu cond 0x18 sf rd rs (opField lsb wm1)) cond sf rd 1 (fun d => plain (aluBfx (d.g rs) lsb wm1)))

/-- BFXS (R326): Extracts a bitfield with sign extension. -/
def execInsBfxs (cond : BitVec 4) (sf : Bool) (rd : BitVec 4) (rs : BitVec 4) (lsb : BitVec 5) (wm1 : BitVec 5)
    (s : State) : Host.Outcome State Fault Refusal :=
  act s (fun d => d.seqAlu (encAlu cond 0x19 sf rd rs (opField lsb wm1)) cond sf rd 1 (fun d => plain (aluBfxs (d.g rs) lsb wm1)))

/-- BFI (R326): Inserts a bitfield into rd. -/
def execInsBfi (cond : BitVec 4) (sf : Bool) (rd : BitVec 4) (rs : BitVec 4) (lsb : BitVec 5) (wm1 : BitVec 5)
    (s : State) : Host.Outcome State Fault Refusal :=
  act s (fun d => d.seqAlu (encAlu cond 0x1A sf rd rs (opField lsb wm1)) cond sf rd 1
    (fun d => plain (aluBfi (d.g rd) (d.g rs) lsb wm1)))

/-- LD (R328): Loads a 32-bit word from data space. -/
def execInsLd (cond : BitVec 4) (rd : BitVec 4) (rs : BitVec 4) (o : Op2)
    (s : State) : Host.Outcome State Fault Refusal :=
  act s (fun d => d.seqInsn (encMem cond 0x20 rd rs o) cond (fun d => d.seqLoad rd rs o 4 word))

/-- LDH (R328): Loads a halfword with zero extension. -/
def execInsLdh (cond : BitVec 4) (rd : BitVec 4) (rs : BitVec 4) (o : Op2)
    (s : State) : Host.Outcome State Fault Refusal :=
  act s (fun d => d.seqInsn (encMem cond 0x21 rd rs o) cond (fun d => d.seqLoad rd rs o 2 word))

/-- LDHS (R328): Loads a halfword with sign extension. -/
def execInsLdhs (cond : BitVec 4) (rd : BitVec 4) (rs : BitVec 4) (o : Op2)
    (s : State) : Host.Outcome State Fault Refusal :=
  act s (fun d => d.seqInsn (encMem cond 0x22 rd rs o) cond
    (fun d => d.seqLoad rd rs o 2 (fun v => (BitVec.ofNat 16 v).signExtend 32)))

/-- LDB (R328): Loads a byte with zero extension. -/
def execInsLdb (cond : BitVec 4) (rd : BitVec 4) (rs : BitVec 4) (o : Op2)
    (s : State) : Host.Outcome State Fault Refusal :=
  act s (fun d => d.seqInsn (encMem cond 0x23 rd rs o) cond (fun d => d.seqLoad rd rs o 1 word))

/-- LDBS (R328): Loads a byte with sign extension. -/
def execInsLdbs (cond : BitVec 4) (rd : BitVec 4) (rs : BitVec 4) (o : Op2)
    (s : State) : Host.Outcome State Fault Refusal :=
  act s (fun d => d.seqInsn (encMem cond 0x24 rd rs o) cond (fun d => d.seqLoad rd rs o 1 (fun v => (byte v).signExtend 32)))

/-- ST (R328): Stores a 32-bit word. -/
def execInsSt (cond : BitVec 4) (rd : BitVec 4) (rs : BitVec 4) (o : Op2)
    (s : State) : Host.Outcome State Fault Refusal :=
  act s (fun d => d.seqInsn (encMem cond 0x25 rd rs o) cond (fun d => d.seqStore rd rs o 4))

/-- STH (R328): Stores a halfword. -/
def execInsSth (cond : BitVec 4) (rd : BitVec 4) (rs : BitVec 4) (o : Op2)
    (s : State) : Host.Outcome State Fault Refusal :=
  act s (fun d => d.seqInsn (encMem cond 0x26 rd rs o) cond (fun d => d.seqStore rd rs o 2))

/-- STB (R328): Stores a byte. -/
def execInsStb (cond : BitVec 4) (rd : BitVec 4) (rs : BitVec 4) (o : Op2)
    (s : State) : Host.Outcome State Fault Refusal :=
  act s (fun d => d.seqInsn (encMem cond 0x27 rd rs o) cond (fun d => d.seqStore rd rs o 1))

/-- IN (R332): Reads a 32-bit I/O register. -/
def execInsIn (cond : BitVec 4) (rd : BitVec 4) (rs : BitVec 4) (o : Op2)
    (s : State) : Host.Outcome State Fault Refusal :=
  act s (fun d => d.seqInsn (encMem cond 0x28 rd rs o) cond (fun d => d.seqIn rd rs o))

/-- OUT (R332): Writes a 32-bit I/O register. -/
def execInsOut (cond : BitVec 4) (rd : BitVec 4) (rs : BitVec 4) (o : Op2)
    (s : State) : Host.Outcome State Fault Refusal :=
  act s (fun d => d.seqInsn (encMem cond 0x29 rd rs o) cond (fun d => d.seqOut rd rs o))

/-- TBL (R334): Reads a code word from the active bank. -/
def execInsTbl (cond : BitVec 4) (rd : BitVec 4) (rs : BitVec 4) (o : Op2)
    (s : State) : Host.Outcome State Fault Refusal :=
  act s (fun d => d.seqInsn (encMem cond 0x2A rd rs o) cond (fun d => d.seqTbl rd rs o))

/-- B (R335): Branches by a word displacement. -/
def execInsB (cond : BitVec 4) (disp : BitVec 22) (s : State) : Host.Outcome State Fault Refusal :=
  act s (fun d => d.seqInsn (encBranch cond 0x30 disp) cond (fun d => d.seqJump false (d.dispTarget disp)))

/-- BL (R335): Branches and writes the return address to g15. -/
def execInsBl (cond : BitVec 4) (disp : BitVec 22) (s : State) : Host.Outcome State Fault Refusal :=
  act s (fun d => d.seqInsn (encBranch cond 0x31 disp) cond (fun d => d.seqJump true (d.dispTarget disp)))

/-- JR (R336): Jumps to the address held in rs. -/
def execInsJr (cond : BitVec 4) (rs : BitVec 4) (s : State) : Host.Outcome State Fault Refusal :=
  act s (fun d => d.seqInsn (encAlu cond 0x32 false 0 rs (opReg 0)) cond (fun d => d.seqJump false (d.g rs).toNat))

/-- JL (R336): Jumps to rs and writes the return address to g15. -/
def execInsJl (cond : BitVec 4) (rs : BitVec 4) (s : State) : Host.Outcome State Fault Refusal :=
  act s (fun d => d.seqInsn (encAlu cond 0x33 false 0 rs (opReg 0)) cond (fun d => d.seqJump true (d.g rs).toNat))

/-- LDI (R327): Loads a 16-bit immediate in LO, LOS or HI mode. -/
def execInsLdi (cond : BitVec 4) (rd : BitVec 4) (mode : BitVec 2) (imm : BitVec 16)
    (s : State) : Host.Outcome State Fault Refusal :=
  act s (fun d => d.seqInsn (encLong cond 0x34 rd mode imm) cond (fun d => (d.setG rd (ldiValue (d.g rd) mode imm), 1, .next)))

/-- WAIT (R338): Waits for masked event bits, or for a timeout; it ends at once if a bit is already set. -/
def execInsWait (cond : BitVec 4) (rd : BitVec 4) (rs : BitVec 4) (o : Op2)
    (s : State) : Host.Outcome State Fault Refusal :=
  act s (fun d => d.seqInsn (encAlu cond 0x35 false rd rs o) cond (fun d => d.seqWait rd (d.g rs) (d.op2Z o)))

/-- WAIT_END (R287): A WAIT ends when an event bit is set or the timeout passes, and rd and E are written. -/
def execWaitEnd (s : State) : Host.Outcome State Fault Refusal :=
  act s (fun d => d.waitEnd)

/-- EVT (R339): Reads the masked event bits into rd and sets E. -/
def execInsEvt (cond : BitVec 4) (rd : BitVec 4) (o : Op2) (s : State) : Host.Outcome State Fault Refusal :=
  act s (fun d => d.seqInsn (encAlu cond 0x36 false rd 0 o) cond (fun d => (d.seqEvents rd (d.evMasked (d.op2Z o)), 2, .next)))

/-- EVC (R339): Reads and clears the masked event bits and sets E. -/
def execInsEvc (cond : BitVec 4) (rd : BitVec 4) (o : Op2) (s : State) : Host.Outcome State Fault Refusal :=
  act s (fun d => d.seqInsn (encAlu cond 0x37 false rd 0 o) cond
    (fun d => ((d.seqEvents rd (d.evMasked (d.op2Z o))).evClear (d.evMasked (d.op2Z o)), 2, .next)))

/-- MRF (R340): Writes the flag word to rd. -/
def execInsMrf (cond : BitVec 4) (rd : BitVec 4) (s : State) : Host.Outcome State Fault Refusal :=
  act s (fun d => d.seqInsn (encAlu cond 0x38 false rd 0 (opReg 0)) cond (fun d => (d.setG rd d.seq.flagWord, 1, .next)))

/-- MWF (R340): Sets the flags from op2. -/
def execInsMwf (cond : BitVec 4) (o : Op2) (s : State) : Host.Outcome State Fault Refusal :=
  act s (fun d => d.seqInsn (encAlu cond 0x39 false 0 0 o) cond (fun d => ({ d with seq := d.seq.setFlags (d.op2Z o) }, 1, .next)))

/-- END (R341): Ends the running handler. -/
def execInsEnd (cond : BitVec 4) (s : State) : Host.Outcome State Fault Refusal :=
  act s (fun d => d.seqInsn (encBranch cond 0x3A 0) cond (fun d => (d.seqEndRun, 1, .stop)))

/-- HALT (R342): Halts the sequencer with cause HALTINSN. -/
def execInsHalt (cond : BitVec 4) (s : State) : Host.Outcome State Fault Refusal :=
  act s (fun d => d.seqInsn (encBranch cond 0x3B 0) cond (fun d => ((d.seqCount 1).seqHalt 0x10, 0, .stop)))

/-- BRK (R343): Stops in BREAK when DBGEN is 1, and raises the BRK fault otherwise. -/
def execInsBrk (cond : BitVec 4) (s : State) : Host.Outcome State Fault Refusal :=
  act s (fun d => d.seqInsn (encBranch cond 0x3C 0) cond (fun d => d.seqBrk))

/-- ILLEGAL_ENCODING (R314): A fetched word that is an illegal encoding raises the fault ILLEGAL. -/
def execIllegalEncoding (w : BitVec 32) (s : State) : Host.Outcome State Fault Refusal :=
  act s (fun d => d.seqIllegal w)

/-- HANDLER_START (R284): The core is idle with entries pending, and the highest pending entry starts at its vector.
-/
def execHandlerStart (s : State) : Host.Outcome State Fault Refusal :=
  act s (fun d => d.handlerStart)

/-- RESET_TIMEOUT (R291): RESET has not returned 100 ms after its entry, and the sequencer halts with RESETTO. -/
def execResetTimeout (s : State) : Host.Outcome State Fault Refusal :=
  act s (fun d => d.resetTimeout)

/-- SEQ_RESUME (R293): A write of 1 to SEQ_CTRL.RESUME continues from BREAK at the next word. -/
def execSeqResume (s : State) : Host.Outcome State Fault Refusal :=
  act s (fun d => d.ioWrite true R.SEQ_CTRL (d.get R.SEQ_CTRL_DBGEN + 2))

/-- SEQ_HALTREQ (R309): A write of 1 to SEQ_CTRL.HALTREQ halts the sequencer with HOSTREQ. -/
def execSeqHaltreq (s : State) : Host.Outcome State Fault Refusal :=
  act s (fun d => d.ioWrite true R.SEQ_CTRL (d.get R.SEQ_CTRL_DBGEN + 4))

/-- SEQ_CLRCNT (R311): A write of 1 to SEQ_CTRL.CLRCNT clears SEQ_COUNTS and SEQ_CYCMAX. -/
def execSeqClrcnt (s : State) : Host.Outcome State Fault Refusal :=
  act s (fun d => d.ioWrite true R.SEQ_CTRL (d.get R.SEQ_CTRL_DBGEN + 8))

/-- SEQ_DOORBELL_WRITE (R286): A host write to SEQ_DOORBELL stores the value and sets EVPEND.DOORBELL. -/
def execSeqDoorbellWrite (v : BitVec 32) (s : State) : Host.Outcome State Fault Refusal :=
  act s (fun d => d.ioWrite true R.SEQ_DOORBELL v.toNat)

/-- SEQ_EVEN_WRITE (R310): A write to SEQ_EVEN takes effect at once and may raise EVENT. -/
def execSeqEvenWrite (v : BitVec 32) (s : State) : Host.Outcome State Fault Refusal :=
  act s (fun d => d.ioWrite true R.SEQ_EVEN v.toNat)

end Sys2Proof.Machine
end

