-- ==== Sys2Proof/Machine/ExecFault.lean ====
section
/-!
DEFINITION. Machine/ExecFault.lean: the meanings of the commands of temperature and fault supervision (chapter 20).
-/

namespace Sys2Proof.Machine

/-- TEMP_SAMPLE (R638): Every 32 ms the temperature is sampled, and the warning and critical states are entered or
left. -/
def execTempSample (t0 : Int) (t1 : Int) (s : State) : Host.Outcome State Fault Refusal :=
  act s (fun d => d.tempSample t0 t1)

/-- FAULT_WINDOW_CLOSE (R632): WIN ms after it opened, a source's window closes and WCNT returns to 0. -/
def execFaultWindowClose (k : Fin 22) (s : State) : Host.Outcome State Fault Refusal :=
  act s (fun d => d.faultWindowClose (k.val + 1))

/-- FLT_CLRCNT (R649): A write of 1 to FLT_CMD.CLRCNT clears the fault counters and closes every window. -/
def execFltClrcnt (s : State) : Host.Outcome State Fault Refusal :=
  act s (fun d => d.ioWrite true R.FLT_CMD 1)

/-- FLT_CLRLOST (R644): A write of 1 to FLT_CMD.CLRLOST clears LOG_LOST. -/
def execFltClrlost (s : State) : Host.Outcome State Fault Refusal :=
  act s (fun d => d.ioWrite true R.FLT_CMD 2)

/-- FLT_CLRTMAX (R655): A write of 1 to FLT_CMD.CLRTMAX resets FLT_TMAX. -/
def execFltClrtmax (s : State) : Host.Outcome State Fault Refusal :=
  act s (fun d => d.ioWrite true R.FLT_CMD 4)

/-- FLT_TEMP_WRITE (R651): A write to FLT_TEMP sets new thresholds and resets the counts, or is ignored in full. -/
def execFltTempWrite (v : BitVec 32) (s : State) : Host.Outcome State Fault Refusal :=
  act s (fun d => d.ioWrite true R.FLT_TEMP v.toNat)

/-- FLT_CFG_WRITE (R650): A write to FLT_CFGs applies ACTION, RPT and LOG at once, and WIN and LIMIT from the next
window. -/
def execFltCfgWrite (k : Fin 22) (v : BitVec 32) (s : State) : Host.Outcome State Fault Refusal :=
  act s (fun d => d.ioWrite true (R.FLT_CFG k.val) v.toNat)

end Sys2Proof.Machine
end

