-- ==== Sys2Proof/Machine/ExecFrame.lean ====
section
/-!
DEFINITION. Machine/ExecFrame.lean: the meanings of the commands of the phases of a frame and what its processing
brings (chapters 03 to 07).
-/

namespace Sys2Proof.Machine

/-- LISTEN_SLOT (R102): The listen slot ends after the converter pairs have recorded the undriven inputs in interleave
mode. -/
def execListenSlot (inputs : List (Nat × Bool × List Nat)) (s : State) : Host.Outcome State Fault Refusal :=
  act s (fun d => d.listenSlot inputs)

/-- NOISE_LEVELS (R104): The listen demodulation completes and writes every HOP_NOISEh and CLIP in one cycle. -/
def execNoiseLevels (s : State) : Host.Outcome State Fault Refusal :=
  act s (fun d => d.noiseEvent)

/-- MUTUAL_SCAN (R82): The last mutual symbol ends, the overloads and the residual check mark the corrupt symbols, and
the retries are chosen. -/
def execMutualScan (y : List (List Int)) (ovr : List (List Nat)) (vhvLow : List Nat)
    (s : State) : Host.Outcome State Fault Refusal :=
  act s (fun d => d.mutualEvent y ovr vhvLow)

/-- SYMBOL_RETRY (R85): One retry of a corrupt symbol completes and replaces the results on the channels that had
marked it corrupt. -/
def execSymbolRetry (y : List Int) (ovr : List Nat) (vhvOk : Bool) (s : State) : Host.Outcome State Fault Refusal :=
  act s (fun d => d.retryEvent y ovr vhvOk)

/-- SELF_PASS (R79): A self pass completes, and the self values of the sensed electrodes are formed or held stale. -/
def execSelfPass (ys : List (List Int)) (ovr : List Nat) (vhvLow : Bool)
    (s : State) : Host.Outcome State Fault Refusal :=
  act s (fun d => d.selfEvent ys ovr vhvLow)

/-- APPROACH_BURST (R203): The coded IR burst ends: the device forms the approach sample, the distance, DET and BLIND
and the ambient light, and writes an APPROACH report. -/
def execApproachBurst (words : List (List (Nat × Nat))) (ledOc : Bool)
    (s : State) : Host.Outcome State Fault Refusal :=
  act s (fun d => d.burstEvent words ledOc)

/-- ACQUISITION_END (R44): A frame's acquisition ends: ACQ_FSTAT is updated, the hop decision runs and the frame is
ready for processing. -/
def execAcquisitionEnd (s : State) : Host.Outcome State Fault Refusal :=
  act s (fun d => d.acqEnd)

/-- ACQUISITION_DEADLINE (R57): Acquisition has not ended at the deadline, so it is stopped, the remaining retries are
abandoned and CUTS is counted. -/
def execAcquisitionDeadline (burst : BurstCut) (scan : ScanCut) (s : State) : Host.Outcome State Fault Refusal :=
  act s (fun d => d.acqDeadline burst.words burst.ledOc scan.ovr scan.vhvLow)

/-- FRAME_PROCESSING_START (R44): Once both its acquisition and the previous frame's processing have ended, the image
engine starts processing the frame. -/
def execFrameProcessingStart (s : State) : Host.Outcome State Fault Refusal :=
  act s (fun d => d.procEvent)

/-- FRAME_PROCESSED (R44): The image engine finishes a frame: it updates the Sward, contacts, keys and gestures,
writes the reports and raises FRAME. -/
def execFrameProcessed (s : State) : Host.Outcome State Fault Refusal :=
  act s (fun d => d.frameProcessed)

/-- CONTACT_STUCK_RELEASE (R144): A contact reaches REST_LIMIT: it is released as STUCK and its area is re-baselined.
-/
def execContactStuckRelease (slot : Fin 16) (s : State) : Host.Outcome State Fault Refusal :=
  act s (fun d => d.stuckRelease slot.val)

/-- OBJECT_ABSORB (R145): A LARGE contact reaches the absorption time: it is released as ABSORBED and taken into the
Sward. -/
def execObjectAbsorb (slot : Fin 16) (s : State) : Host.Outcome State Fault Refusal :=
  act s (fun d => d.objectAbsorb slot.val)

/-- EXCLUDED_GROUP_QUIET (R139): An excluded group stays without contact for 5 s and is cleared from the means of the
following 8 frames. -/
def execExcludedGroupQuiet (k : Nat) (s : State) : Host.Outcome State Fault Refusal :=
  act s (fun d => d.groupQuiet k)

/-- ELECTRODE_SHORT (R91): A driver's current exceeds its limit for more than 2 µs: the electrode is marked shorted,
FS04 is counted and the driver is released. -/
def execElectrodeShort (n : Fin 50) (s : State) : Host.Outcome State Fault Refusal :=
  act s (fun d => d.elShorted n.val)

/-- VHV_FAULT (R97): VHV stays outside ±5 % of its target for more than 500 µs, and FS10 is counted. -/
def execVhvFault (s : State) : Host.Outcome State Fault Refusal :=
  act s (fun d => d.vhvFault)

end Sys2Proof.Machine
end

