-- ==== Sys2Proof/Machine/ExecHost.lean ====
section
/-!
DEFINITION. Machine/ExecHost.lean: the meanings of the commands of frames on the host port (chapter 13).
-/

namespace Sys2Proof.Machine

/-- READ (R386): Host opcode 0x03 reads data on one lane from the address. -/
def execRead (mode3 : Bool) (addr : BitVec 24) (span : ReadSpan) (s : State) :
    Host.Outcome State Fault Refusal :=
  act s (fun d => d.hostRead mode3 addr.toNat span.n span.late)

/-- FAST_READ (R386): Host opcode 0x0B reads with D1 dummy cycles. -/
def execFastRead (mode3 : Bool) (addr : BitVec 24) (span : ReadSpan) (s : State) :
    Host.Outcome State Fault Refusal :=
  act s (fun d => d.hostRead mode3 addr.toNat span.n span.late)

/-- READ_1_1_4 (R386): Host opcode 0x6B reads with four-lane data. -/
def execRead114 (mode3 : Bool) (addr : BitVec 24) (span : ReadSpan) (s : State) :
    Host.Outcome State Fault Refusal :=
  act s (fun d => d.hostRead mode3 addr.toNat span.n span.late)

/-- READ_1_4_4 (R386): Host opcode 0xEB reads with four-lane address and data. -/
def execRead144 (mode3 : Bool) (addr : BitVec 24) (span : ReadSpan) (s : State) :
    Host.Outcome State Fault Refusal :=
  act s (fun d => d.hostRead mode3 addr.toNat span.n span.late)

/-- WRITE (R397): Host opcode 0x02 write frame is received, and at its release it is queued or discarded. -/
def execWrite (mode3 : Bool) (clean : Bool) (addr : BitVec 24) (bs : List Byte)
    (s : State) : Host.Outcome State Fault Refusal :=
  act s (fun d => d.hostWrite mode3 clean addr.toNat bs)

/-- WRITE_1_1_4 (R397): Host opcode 0x32 write frame with four-lane data. -/
def execWrite114 (mode3 : Bool) (clean : Bool) (addr : BitVec 24) (bs : List Byte)
    (s : State) : Host.Outcome State Fault Refusal :=
  act s (fun d => d.hostWrite mode3 clean addr.toNat bs)

/-- WRITE_1_4_4 (R397): Host opcode 0x38 write frame with four-lane address and data. -/
def execWrite144 (mode3 : Bool) (clean : Bool) (addr : BitVec 24) (bs : List Byte)
    (s : State) : Host.Outcome State Fault Refusal :=
  act s (fun d => d.hostWrite mode3 clean addr.toNat bs)

/-- WRITE_COMMIT (R398): A queued write frame commits its bytes to XRAM, the I/O registers, DMEM or the shadow IMEM
window. -/
def execWriteCommit (s : State) : Host.Outcome State Fault Refusal :=
  act s (fun d => d.writeCommit)

/-- READ_PAUSE_RESUME (R393): Data held back at a pause point becomes ready, and the device raises HRDY or sends the
marker. -/
def execReadPauseResume (rest : ReadRest) (s : State) : Host.Outcome State Fault Refusal :=
  act s (fun d => d.pauseResume rest.busy rest.late)

/-- BUSY_BYTE_LIMIT (R395): 64 busy bytes pass without data, so the device sends 0xE7 and zeros and sets RTO. -/
def execBusyByteLimit (s : State) : Host.Outcome State Fault Refusal :=
  act s (fun d => d.busyLimit)

/-- READ_STATUS (R390): Host opcode 0x05 returns the status byte repeatedly. -/
def execReadStatus (mode3 : Bool) (n : Nat) (s : State) : Host.Outcome State Fault Refusal :=
  act s (fun d => d.readStatus mode3 n)

/-- READ_ID (R15): Host opcode 0x9F returns 0x4A 0x32 0x50 0x0B. -/
def execReadId (mode3 : Bool) (n : Nat) (s : State) : Host.Outcome State Fault Refusal :=
  act s (fun d => d.readId mode3 n)

/-- ENTER_QUAD_COMMAND_MODE (R388): Host opcode 0x35 enters quad-command mode at its release. -/
def execEnterQuadCommandMode (mode3 : Bool) (clean : Bool) (s : State) : Host.Outcome State Fault Refusal :=
  act s (fun d => d.quadEnter mode3 clean)

/-- EXIT_QUAD_COMMAND_MODE (R388): Host opcode 0xF5 leaves quad-command mode. -/
def execExitQuadCommandMode (mode3 : Bool) (clean : Bool) (s : State) : Host.Outcome State Fault Refusal :=
  act s (fun d => d.quadExit mode3 clean)

/-- ACKNOWLEDGED_WRITE (R400): Host opcode 0xA2 checks its CRC and SEQ, returns an acknowledgement status and commits
when accepted. -/
def execAcknowledgedWrite (mode3 : Bool) (complete : Bool) (addr : BitVec 24) (seq : BitVec 8) (crc : BitVec 16) (bs : List Byte)
    (s : State) : Host.Outcome State Fault Refusal :=
  act s (fun d => d.ackWrite mode3 complete addr.toNat seq.toNat crc.toNat bs)

/-- WAKE (R404): Host opcode 0xAB is a wake source in Heath and Fallow. -/
def execWake (mode3 : Bool) (clean : Bool) (s : State) : Host.Outcome State Fault Refusal :=
  act s (fun d => d.wake mode3 clean)

/-- ENTER_FALLOW (R405): Host opcode 0xB9 requests Fallow at its release. -/
def execEnterFallow (mode3 : Bool) (clean : Bool) (s : State) : Host.Outcome State Fault Refusal :=
  act s (fun d => d.enterFallow mode3 clean)

/-- SOFT_RESET (R406): Host opcode 0x99 with the data byte 0x3C resets the device. -/
def execSoftReset (mode3 : Bool) (clean : Bool) (data : List Byte) (g0 : Bool) (g1 : Bool)
    (s : State) : Host.Outcome State Fault Refusal :=
  act s (fun d => d.softReset mode3 clean data g0 g1)

/-- UNKNOWN_OPCODE (R387): A frame with an unknown opcode is ignored and sets BADOP. -/
def execUnknownOpcode (mode3 : Bool) (_op : BitVec 8) (s : State) : Host.Outcome State Fault Refusal :=
  act s (fun d => d.unknownOp mode3)

/-- CHAIN_SEGMENT (R410): At a chain release each device checks its edge count, executes its segment or flags it
ragged, and loads its response. -/
def execChainSegment (mode3 : Bool) (edges : Nat) (bits : List Bool) (g0 : Bool) (g1 : Bool)
    (s : State) : Host.Outcome State Fault Refusal :=
  act s (fun d => d.chainSegment mode3 edges bits g0 g1)

/-- CHAIN_NONE (R410): Chain command 0x00 does nothing. -/
def execChainNone (mode3 : Bool) (addr : BitVec 24) (s : State) : Host.Outcome State Fault Refusal :=
  act s (fun d => d.chainFrame mode3 addr.toNat d.chainBits (fun d => d.chainNone))

/-- CHAIN_WRITE (R410): Chain command 0x02 writes one word. -/
def execChainWrite (mode3 : Bool) (addr : BitVec 24) (data : BitVec 32)
    (s : State) : Host.Outcome State Fault Refusal :=
  act s (fun d => d.chainFrame mode3 addr.toNat d.chainBits (fun d => d.chainWrite addr.toNat data.toNat))

/-- CHAIN_READ (R410): Chain command 0x03 reads one word. -/
def execChainRead (mode3 : Bool) (addr : BitVec 24) (s : State) : Host.Outcome State Fault Refusal :=
  act s (fun d => d.chainFrame mode3 addr.toNat d.chainBits (fun d => d.chainRead addr.toNat))

/-- CHAIN_READ_STATUS (R410): Chain command 0x05 returns the status byte. -/
def execChainReadStatus (mode3 : Bool) (addr : BitVec 24) (s : State) : Host.Outcome State Fault Refusal :=
  act s (fun d => d.chainFrame mode3 addr.toNat d.chainBits (fun d => d.chainStatus))

/-- CHAIN_READ_ID (R410): Chain command 0x9F returns the ID. -/
def execChainReadId (mode3 : Bool) (addr : BitVec 24) (s : State) : Host.Outcome State Fault Refusal :=
  act s (fun d => d.chainFrame mode3 addr.toNat d.chainBits (fun d => d.chainId))

/-- CHAIN_SOFT_RESET (R410): Chain command 0x99 with data 0x3C resets the device. -/
def execChainSoftReset (mode3 : Bool) (addr : BitVec 24) (data : BitVec 32) (g0 : Bool) (g1 : Bool)
    (s : State) : Host.Outcome State Fault Refusal :=
  act s (fun d => d.chainFrame mode3 addr.toNat d.chainBits (fun d => d.chainReset data.toNat g0 g1))

/-- CHAIN_WAKE (R410): Chain command 0xAB acts as the host wake. -/
def execChainWake (mode3 : Bool) (addr : BitVec 24) (s : State) : Host.Outcome State Fault Refusal :=
  act s (fun d => d.chainFrame mode3 addr.toNat d.chainBits (fun d => d.chainWake))

/-- CHAIN_ENTER_FALLOW (R410): Chain command 0xB9 requests Fallow. -/
def execChainEnterFallow (mode3 : Bool) (addr : BitVec 24) (s : State) : Host.Outcome State Fault Refusal :=
  act s (fun d => d.chainFrame mode3 addr.toNat d.chainBits (fun d => d.chainFallow))

/-- HP_ATTSET_PROG (R403): A write of 1 to HP_ATTSET.PROG sets HP_ATTN.PROG. -/
def execHpAttsetProg (s : State) : Host.Outcome State Fault Refusal :=
  act s (fun d => d.ioWrite true R.HP_ATTSET 1)

/-- HP_CLRCNT (R418): A write of 1 to HP_CMD.CLRCNT clears HP_COUNTS. -/
def execHpClrcnt (s : State) : Host.Outcome State Fault Refusal :=
  act s (fun d => d.ioWrite true R.HP_CMD 1)

/-- HP_ACKCLR (R401): A write of 1 to HP_CMD.ACKCLR clears HP_ACK.VALID. -/
def execHpAckclr (s : State) : Host.Outcome State Fault Refusal :=
  act s (fun d => d.ioWrite true R.HP_CMD 2)

end Sys2Proof.Machine
end

