-- ==== Sys2Proof/Machine/ExecImage.lean ====
section
/-!
DEFINITION. Machine/ExecImage.lean: the meanings of the commands of registers of the image engine, contacts,
acquisition and hop control (chapters 01 to 06).
-/

namespace Sys2Proof.Machine

/-- IMG_REFORM (R157): A write of 1 to IMG_CMD.REFORM discards the Sward and runs the model path. -/
def execImgReform (s : State) : Host.Outcome State Fault Refusal :=
  act s (fun d => d.ioWrite true R.IMG_CMD 1)

/-- IMG_CLRCNT (R160): A write of 1 to IMG_CMD.CLRCNT clears IMG_COUNTS and IMG_COUNTS2. -/
def execImgClrcnt (s : State) : Host.Outcome State Fault Refusal :=
  act s (fun d => d.ioWrite true R.IMG_CMD 2)

/-- CT_CTRL_WRITE (R191): A write to CT_CTRL is staged, or ignored with MREJ when it would enable Gorse or Lark while
running. -/
def execCtCtrlWrite (v : BitVec 32) (s : State) : Host.Outcome State Fault Refusal :=
  act s (fun d => d.ioWrite true R.CT_CTRL v.toNat)

/-- REGION_WRITE (R192): A write to CT_RGXk, CT_RGYk or CT_RGCk is tested and staged, or rejected with RREJ. -/
def execRegionWrite (which : Fin 3) (k : Fin 32) (v : BitVec 32) (s : State) : Host.Outcome State Fault Refusal :=
  act s (fun d => d.ioWrite true (regionReg which.val k.val) v.toNat)

/-- CT_CLRCNT (R194): A write of 1 to CT_CMD.CLRCNT clears CT_COUNTS. -/
def execCtClrcnt (s : State) : Host.Outcome State Fault Refusal :=
  act s (fun d => d.ioWrite true R.CT_CMD 1)

/-- ACQ_DRV_WRITE (R94): A write to ACQ_DRV stages LEVEL, or rejects it with LREJ when it exceeds VMAX. -/
def execAcqDrvWrite (v : BitVec 32) (s : State) : Host.Outcome State Fault Refusal :=
  act s (fun d => d.ioWrite true R.ACQ_DRV v.toNat)

/-- ELECTRODE_ROLE_WRITE (R34): A write to ACQ_ELROLEn recomputes ELSUM, DRANGE and CAL_SIG and discards any Sward. -/
def execElectrodeRoleWrite (n : Fin 50) (v : BitVec 32) (s : State) : Host.Outcome State Fault Refusal :=
  act s (fun d => d.ioWrite true (R.ACQ_ELROLE n.val) v.toNat)

/-- GEOMETRY_WRITE (R132): A write to ACQ_GEOMX or ACQ_GEOMY discards any Sward and recomputes the signature. -/
def execGeometryWrite (y : Bool) (v : BitVec 32) (s : State) : Host.Outcome State Fault Refusal :=
  act s (fun d => d.ioWrite true (if y then R.ACQ_GEOMY else R.ACQ_GEOMX) v.toNat)

/-- HOP_FORCE (R114): A write to HOP_FORCE with GO makes a forced hop pending, or sets FREJ. -/
def execHopForce (h : Fin 8) (s : State) : Host.Outcome State Fault Refusal :=
  act s (fun d => d.ioWrite true R.HOP_FORCE (256 + h.val))

/-- HOP_TABLE_WRITE (R122): A write to HOP_TABLEh while running is tested and staged, or rejected with TREJ. -/
def execHopTableWrite (h : Fin 8) (v : BitVec 32) (s : State) : Host.Outcome State Fault Refusal :=
  act s (fun d => d.ioWrite true (R.HOP_TABLE h.val) v.toNat)

end Sys2Proof.Machine
end

