-- ==== Sys2Proof/Machine/ExecPanel.lean ====
section
/-!
DEFINITION. Machine/ExecPanel.lean: the meanings of the commands of timers, edge detectors and GPIO (chapter 12).
-/

namespace Sys2Proof.Machine

/-- TIMER_EXPIRY (R356): A running timer's COUNT reaches PRESET: Q changes per its mode, and EXP and the TM event are
set. -/
def execTimerExpiry (k : Fin 64) (s : State) : Host.Outcome State Fault Refusal :=
  act s (fun d => d.timerExpiry k.val)

/-- TM_CFG_WRITE (R357): A write to TMk_CFG sets the timer idle with its new configuration. -/
def execTmCfgWrite (k : Fin 64) (v : BitVec 32) (s : State) : Host.Outcome State Fault Refusal :=
  act s (fun d => d.ioWrite true (R.TM_CFG k.val) v.toNat)

/-- TM_PRESET_WRITE (R357): A write to TMk_PRESET takes effect at once and keeps COUNT. -/
def execTmPresetWrite (k : Fin 64) (v : BitVec 32) (s : State) : Host.Outcome State Fault Refusal :=
  act s (fun d => d.ioWrite true (R.TM_PRESET k.val) v.toNat)

/-- TM_TRIG (R353): A write of 1 to TMk_STAT.TRIG counts as a rising edge in PULSE and RPULSE. -/
def execTmTrig (k : Fin 64) (s : State) : Host.Outcome State Fault Refusal :=
  act s (fun d => d.ioTmTrig k.val)

/-- ED_CFG_WRITE (R362): A write to EDk_CFG arms the detector with F loaded from its source, or disables it. -/
def execEdCfgWrite (k : Fin 64) (v : BitVec 32) (s : State) : Host.Outcome State Fault Refusal :=
  act s (fun d => d.ioWrite true (R.ED_CFG k.val) v.toNat)

/-- GPIO_SET (R366): Sets the GPIO_OUT bits written as 1. -/
def execGpioSet (v : BitVec 32) (s : State) : Host.Outcome State Fault Refusal :=
  act s (fun d => d.ioWrite true R.GPIO_SET v.toNat)

/-- GPIO_CLR (R366): Clears the GPIO_OUT bits written as 1. -/
def execGpioClr (v : BitVec 32) (s : State) : Host.Outcome State Fault Refusal :=
  act s (fun d => d.ioWrite true R.GPIO_CLR v.toNat)

/-- GPIO_INPUT_DEBOUNCED (R365): A pin level held over DEB ms of LFO samples becomes the debounced input, which may be
a GPIO wake. -/
def execGpioInputDebounced (n : Fin 6) (pins : PinSample) (s : State) : Host.Outcome State Fault Refusal :=
  act s (fun d => d.gpioDebounced n.val pins.level pins.pads.toNat)

/-- PWM_PERIOD_END (R367): A PWM period of G4 or G5 ends, and a pending PERIOD or DUTY write takes effect. -/
def execPwmPeriodEnd (n : Fin 6) (s : State) : Host.Outcome State Fault Refusal :=
  act s (fun d => d.pwmEnd n.val)

/-- SWAP_NO_IDLE (R372): 64 ticks pass without an idle sequencer, so the pending swap is refused with NO_IDLE. -/
def execSwapNoIdle (s : State) : Host.Outcome State Fault Refusal :=
  act s (fun d => d.swapNoIdle)

end Sys2Proof.Machine
end

