-- ==== Sys2Proof/Machine/ExecPeri.lean ====
section
/-!
DEFINITION. Machine/ExecPeri.lean: the meanings of the commands of the periphery port (chapter 17).
-/

namespace Sys2Proof.Machine

/-- PP_GO_START (R559): A write of 1 to a PP_GO.GO bit queues or arms the descriptor, or refuses it. -/
def execPpGoStart (m : BitVec 8) (s : State) : Host.Outcome State Fault Refusal :=
  act s (fun d => d.ioWrite true R.PP_GO m.toNat)

/-- PP_GO_STOP (R559): A write of 1 to a PP_GO.STOP bit disarms the descriptor and removes it from the queue. -/
def execPpGoStop (m : BitVec 8) (s : State) : Host.Outcome State Fault Refusal :=
  act s (fun d => d.ioWrite true R.PP_GO (256 * m.toNat))

/-- PP_CLRCNT (R571): A write of 1 to PP_CMD.CLRCNT clears PP_COUNTS and PP_COUNTS2. -/
def execPpClrcnt (s : State) : Host.Outcome State Fault Refusal :=
  act s (fun d => d.ioWrite true R.PP_CMD 1)

/-- PP_FRAME_START (R558): A transfer reaches the head of the queue with the port idle, and its target is selected. -/
def execPpFrameStart (s : State) : Host.Outcome State Fault Refusal :=
  act s (fun d => d.ppFrameStart)

/-- PP_FIFO_RESUME (R552): The FIFO can supply or accept the next byte again, and a paused frame resumes. -/
def execPpFifoResume (s : State) : Host.Outcome State Fault Refusal :=
  act s (fun d => d.ppFifoResume)

/-- PP_FRAME_END (R561): A periphery frame ends, the select is released, and the descriptor or PERI_XFER completes. -/
def execPpFrameEnd (rx : List Byte) (s : State) : Host.Outcome State Fault Refusal :=
  act s (fun d => d.ppFrameEnd rx)

/-- PP_PRDY_TIMEOUT (R555): PRDY stays low for PTMO µs, so the frame ends with TIMEOUT and FS0D is counted. -/
def execPpPrdyTimeout (n : Nat) (rx : List Byte) (s : State) : Host.Outcome State Fault Refusal :=
  act s (fun d => d.ppPrdyTimeout n rx)

/-- PP_MARK_TIMEOUT (R556): BUSYMAX busy bytes pass without the ready mark, so the frame ends with TIMEOUT. -/
def execPpMarkTimeout (rx : List Byte) (s : State) : Host.Outcome State Fault Refusal :=
  act s (fun d => d.ppMarkTimeout rx)

/-- PP_DRAIN_TIMEOUT (R567): The PERI drain lasts 1 ms, so the frame is stopped and every transfer is aborted. -/
def execPpDrainTimeout (n : Nat) (rx : List Byte) (s : State) : Host.Outcome State Fault Refusal :=
  act s (fun d => d.ppDrainTimeout n rx)

/-- PP_PRDY_READY (R555): PRDY rises again during a stretch, and the periphery frame resumes its PSCK edges. -/
def execPpPrdyReady (s : State) : Host.Outcome State Fault Refusal :=
  act s (fun d => d.ppPrdyReady)

end Sys2Proof.Machine
end

