-- ==== Sys2Proof/Machine/ExecPower.lean ====
section
/-!
DEFINITION. Machine/ExecPower.lean: the meanings of the commands of power domains and states (chapter 18).
-/

namespace Sys2Proof.Machine

/-- PWR_DREQ (R581): A write to PWR_DREQ requests domains on and off, after the refusal tests. -/
def execPwrDreq (v : BitVec 32) (s : State) : Host.Outcome State Fault Refusal :=
  act s (fun d => d.ioWrite true R.PWR_DREQ v.toNat)

/-- PWR_SREQ_HEATH (R586): A write of ACTION 1 to PWR_SREQ requests Heath. -/
def execPwrSreqHeath (s : State) : Host.Outcome State Fault Refusal :=
  act s (fun d => d.ioWrite true R.PWR_SREQ 1)

/-- PWR_SREQ_FALLOW (R592): A write of ACTION 2 to PWR_SREQ requests Fallow and runs the Fallow entry sequence. -/
def execPwrSreqFallow (s : State) : Host.Outcome State Fault Refusal :=
  act s (fun d => d.ioWrite true R.PWR_SREQ 2)

/-- PWR_CLRCNT (R605): A write of 1 to PWR_CMD.CLRCNT clears PWR_COUNTS. -/
def execPwrClrcnt (s : State) : Host.Outcome State Fault Refusal :=
  act s (fun d => d.ioWrite true R.PWR_CMD 1)

/-- DOMAIN_RAMP_UP_END (R576): A domain completes its ramp-up and reaches ON with its registers at reset values. -/
def execDomainRampUpEnd (k : Fin 12) (s : State) : Host.Outcome State Fault Refusal :=
  act s (fun d => d.rampUpEnd k.val)

/-- DOMAIN_DRAIN_END (R578): A domain's drain ends under its policy, and it passes to RAMP_DOWN. -/
def execDomainDrainEnd (k : Fin 12) (s : State) : Host.Outcome State Fault Refusal :=
  act s (fun d => d.drainEnd k.val)

/-- DOMAIN_RAMP_DOWN_END (R576): A domain reaches OFF, or enters RESTART when switch-on was requested meanwhile. -/
def execDomainRampDownEnd (k : Fin 12) (s : State) : Host.Outcome State Fault Refusal :=
  act s (fun d => d.rampDownEnd k.val)

/-- DOMAIN_RESTART_END (R579): After 1 µs of RESTART the domain passes to RAMP_UP. -/
def execDomainRestartEnd (k : Fin 12) (s : State) : Host.Outcome State Fault Refusal :=
  act s (fun d => d.restartEnd k.val)

/-- HEATH_TICK (R588): A Heath period expires on the LFO, and a reduced Heath frame runs. -/
def execHeathTick (s : State) : Host.Outcome State Fault Refusal :=
  act s (fun d => d.heathTick)

/-- HEATH_HFO_START (R590): 40 µs before each Heath tick the HFO is started. -/
def execHeathHfoStart (s : State) : Host.Outcome State Fault Refusal :=
  act s (fun d => d.hfoStart)

end Sys2Proof.Machine
end

