-- ==== Sys2Proof/Machine/ExecRing.lean ====
section
/-!
DEFINITION. Machine/ExecRing.lean: the meanings of the commands of exchange RAM, the two rings (chapter 14).
-/

namespace Sys2Proof.Machine

/-- CQ_PI_WRITE (R439): A write to CQ_PI publishes command entries, or is ignored with PIREJ. -/
def execCqPiWrite (v : BitVec 32) (s : State) : Host.Outcome State Fault Refusal :=
  act s (fun d => d.ioWrite true R.CQ_PI v.toNat)

/-- RQ_CI_WRITE (R440): A write to RQ_CI frees report space, or is ignored with CIREJ. -/
def execRqCiWrite (v : BitVec 32) (s : State) : Host.Outcome State Fault Refusal :=
  act s (fun d => d.ioWrite true R.RQ_CI v.toNat)

/-- CQ_ENABLE (R431): A write of 1 to CQ_CTRL.EN enables the command ring, or is refused with ENREJ. -/
def execCqEnable (v : BitVec 32) (s : State) : Host.Outcome State Fault Refusal :=
  act s (fun d => d.ioWrite true R.CQ_CTRL (setBit v.toNat 0 true))

/-- CQ_DISABLE (R460): A write of 0 to CQ_CTRL.EN stops fetching and discards the established entries not yet started.
-/
def execCqDisable (v : BitVec 32) (s : State) : Host.Outcome State Fault Refusal :=
  act s (fun d => d.ioWrite true R.CQ_CTRL (setBit v.toNat 0 false))

/-- RQ_ENABLE (R431): A write of 1 to RQ_CTRL.EN enables the report ring, or is refused. -/
def execRqEnable (v : BitVec 32) (s : State) : Host.Outcome State Fault Refusal :=
  act s (fun d => d.ioWrite true R.RQ_CTRL (setBit v.toNat 0 true))

/-- RQ_DISABLE (R457): A write of 0 to RQ_CTRL.EN stops report writing. -/
def execRqDisable (v : BitVec 32) (s : State) : Host.Outcome State Fault Refusal :=
  act s (fun d => d.ioWrite true R.RQ_CTRL (setBit v.toNat 0 false))

/-- XR_GUAR_WRITE (R428): A write to XR_GUARc is staged if the bank sums fit, and otherwise sets GREJ. -/
def execXrGuarWrite (c : Fin 7) (v : BitVec 32) (s : State) : Host.Outcome State Fault Refusal :=
  act s (fun d => d.ioWrite true (R.XR_GUAR c.val) v.toNat)

/-- SCRUB_READ (R421): In each round the scrub reads one word per bank and corrects or records ECC errors. -/
def execScrubRead (upset0 : Fin 3) (upset1 : Fin 3) (s : State) : Host.Outcome State Fault Refusal :=
  act s (fun d => d.scrubRead upset0.val upset1.val)

/-- COMMAND_POLL (R446): The poll interval expires and the fetch unit samples CQ_PI, or bursts at CQ_CI, and
establishes entries. -/
def execCommandPoll (s : State) : Host.Outcome State Fault Refusal :=
  act s (fun d => d.commandPoll)

/-- REPORT_ROOM_RETURN (R456): Room returns in the report ring, and the device writes an OVERFLOW report and then the
pending coalesced reports. -/
def execReportRoomReturn (s : State) : Host.Outcome State Fault Refusal :=
  act s (fun d => d.reportRoom)

/-- RQ_WATERMARK_TIMEOUT (R458): The oldest unread report reaches the TMO age, and HP_ATTN.RQ is set. -/
def execRqWatermarkTimeout (s : State) : Host.Outcome State Fault Refusal :=
  act s (fun d => d.rqTimeout)

end Sys2Proof.Machine
end

