-- ==== Sys2Proof/Machine/ExecSide.lean ====
section
/-!
DEFINITION. Machine/ExecSide.lean: the meanings of the commands of the approach channel, the auxiliary converters and
calibration (chapters 07 to 09).
-/

namespace Sys2Proof.Machine

/-- OPT_XTCAP (R206): A write of 1 to OPT_CMD.XTCAP starts or restarts crosstalk capture. -/
def execOptXtcap (s : State) : Host.Outcome State Fault Refusal :=
  act s (fun d => d.ioWrite true R.OPT_CMD 1)

/-- OPT_CLRCNT (R215): A write of 1 to OPT_CMD.CLRCNT clears OPT_COUNTS. -/
def execOptClrcnt (s : State) : Host.Outcome State Fault Refusal :=
  act s (fun d => d.ioWrite true R.OPT_CMD 2)

/-- AUX_SYNC (R228): A write of 1 to AUX_CMD.SYNC fires the common trigger when SRC is PROGRAM. -/
def execAuxSync (s : State) : Host.Outcome State Fault Refusal :=
  act s (fun d => d.ioWrite true R.AUX_CMD 1)

/-- AUX_RESET_CONVERTER (R227): A write of 1 to AUX_CMD.RSTn gives converter n a synchronising reset. -/
def execAuxResetConverter (n : Fin 2) (s : State) : Host.Outcome State Fault Refusal :=
  act s (fun d => d.ioWrite true R.AUX_CMD (2 + 2 * n.val))

/-- AUX_CLRCNT (R244): A write of 1 to AUX_CMD.CLRCNT clears AUX_COUNTS. -/
def execAuxClrcnt (s : State) : Host.Outcome State Fault Refusal :=
  act s (fun d => d.ioWrite true R.AUX_CMD 8)

/-- AX_ENABLE (R227): Writing AXn_CFG.EN from 0 to 1 resets the converter and starts it. -/
def execAxEnable (n : Fin 2) (v : BitVec 32) (s : State) : Host.Outcome State Fault Refusal :=
  act s (fun d => d.ioWrite true (R.AX_CFG n.val) (setBit v.toNat 0 true))

/-- AX_DISABLE (R238): Writing AXn_CFG.EN to 0 stops the converter at once and abandons its conversion. -/
def execAxDisable (n : Fin 2) (v : BitVec 32) (s : State) : Host.Outcome State Fault Refusal :=
  act s (fun d => d.ioWrite true (R.AX_CFG n.val) (setBit v.toNat 0 false))

/-- AX_CONFIG_WRITE (R229): A write to AXn_CFG or AXn_FILT is held until the converter's next synchronising reset. -/
def execAxConfigWrite (n : Fin 2) (filt : Bool) (v : BitVec 32) (s : State) : Host.Outcome State Fault Refusal :=
  act s (fun d => d.ioWrite true (if filt then R.AX_FILT n.val else R.AX_CFG n.val) v.toNat)

/-- AUX_GPIO_TRIGGER (R228): The chosen edge on the GPIO pin fires the common trigger. -/
def execAuxGpioTrigger (edge : PinEdge) (s : State) : Host.Outcome State Fault Refusal :=
  act s (fun d => d.auxGpioTrigger edge.pin.val edge.rising)

/-- AUX_TICK_TRIGGER (R228): DLY µs after a tick, the common trigger fires. -/
def execAuxTickTrigger (s : State) : Host.Outcome State Fault Refusal :=
  act s (fun d => d.auxTickTrigger)

/-- AUX_OUTPUT (R224): A converter delivers an output: the device writes DATA, TS and SEQ, classes the windows and
writes an AUX report. -/
def execAuxOutput (n : Fin 2) (ins : List (Nat × AuxIn)) (s : State) : Host.Outcome State Fault Refusal :=
  act s (fun d => d.auxOutput n.val ins)

/-- WINDOW_ARM (R233): A write to WCk_CFG with EN 1 arms the window with new bounds, or is refused with WREJ. -/
def execWindowArm (k : Fin 8) (v : BitVec 32) (s : State) : Host.Outcome State Fault Refusal :=
  act s (fun d => d.ioWrite true (R.WC_CFG k.val) (setBit v.toNat 0 true))

/-- WINDOW_DISARM (R240): A write to WCk_CFG with EN 0 clears STATE to IN without an event. -/
def execWindowDisarm (k : Fin 8) (v : BitVec 32) (s : State) : Host.Outcome State Fault Refusal :=
  act s (fun d => d.ioWrite true (R.WC_CFG k.val) (setBit v.toNat 0 false))

/-- AUX_DATA_READ (R230): A read of AXn_DATA latches AXn_TS and SEQ for the same side. -/
def execAuxDataRead (host : Bool) (n : Fin 2) (s : State) : Host.Outcome State Fault Refusal :=
  act s (fun d => (d.ioRead host (R.AX_DATA n.val)).2)

/-- CAL_GO (R247): A write of CAL_CMD with GO starts a calibration run of KIND, or refuses it. -/
def execCalGo (kind : Fin 4) (s : State) : Host.Outcome State Fault Refusal :=
  act s (fun d => d.ioWrite true R.CAL_CMD (16 + kind.val))

/-- CAL_ABORT (R271): A write of CAL_CMD with ABORT ends the run of KIND with ABORTED. -/
def execCalAbort (kind : Fin 4) (s : State) : Host.Outcome State Fault Refusal :=
  act s (fun d => d.ioWrite true R.CAL_CMD (32 + kind.val))

/-- CAL_DEFAULTS (R274): A write of CAL_CMD with DEFAULTS restores the default calibration values. -/
def execCalDefaults (kind : Fin 4) (s : State) : Host.Outcome State Fault Refusal :=
  act s (fun d => d.ioWrite true R.CAL_CMD (64 + kind.val))

/-- CAL_CLRCNT (R276): A write of CAL_CMD with CLRCNT clears CAL_COUNT0 and CAL_COUNT1. -/
def execCalClrcnt (s : State) : Host.Outcome State Fault Refusal :=
  act s (fun d => d.ioWrite true R.CAL_CMD 128)

/-- CAL_AUX_PASS_END (R256): A CAL_AUX pass completes its two outputs, and the offset and gain are computed and
checked. -/
def execCalAuxPassEnd (outs : List (Nat × Int × Int × Bool)) (s : State) : Host.Outcome State Fault Refusal :=
  act s (fun d => d.calAuxPass outs)

end Sys2Proof.Machine
end

