-- ==== Sys2Proof/Machine/ExecStartup.lean ====
section
/-!
DEFINITION. Machine/ExecStartup.lean: the meanings of the commands of start-up, reset, seating, supplies and the
oscillator (chapter 19).
-/

namespace Sys2Proof.Machine

/-- POWER_ON_RESET (R607): VIN rises through 2.5 V, or dips below 2.4 V in any state, and the power-on reset asserts;
it releases after 200 µs and every piece of state is lost. -/
def execPowerOnReset (s : State) : Host.Outcome State Fault Refusal :=
  actAlways s (fun d => d.powerOnReset)

/-- RST_N (R609): RST_N is held low for at least 10 µs and resets the device. -/
def execRstN (g0 : Bool) (g1 : Bool) (s : State) : Host.Outcome State Fault Refusal :=
  actAlways s (fun d => d.rstN g0 g1)

/-- SEATED (R610): SEAT_N has been low for 8 ms and the device becomes seated; this may be the instant that ends
reset. -/
def execSeated (g0 : Bool) (g1 : Bool) (s : State) : Host.Outcome State Fault Refusal :=
  actAlways s (fun d => d.seated g0 g1)

/-- REMOVAL (R616): A rising edge of SEAT_N stops acquisition, sets the pins to high impedance, parks the GPIO pins,
clears RUN and enters PARKED. -/
def execRemoval (moved : Nat) (rx : List Byte) (s : State) : Host.Outcome State Fault Refusal :=
  actAlways s (fun d => d.removal moved rx)

/-- RESEAT (R618): After a removal the device becomes seated again with power intact and returns to BOOT_WAIT or READY
with its outputs enabled. -/
def execReseat (s : State) : Host.Outcome State Fault Refusal :=
  act s (fun d => d.seatAgain)

/-- HOST_QUALIFICATION (R615): HCS_N is seen high for 2 µs after reset, reseat or VDDIO return, and the host port
begins to serve frames. -/
def execHostQualification (s : State) : Host.Outcome State Fault Refusal :=
  act s (fun d => d.hostQualify)

/-- VDDIO_DROP (R608): VDDIO falls below its threshold: the VDDIO outputs go to high impedance, the ports are ignored
and FS14 is counted. -/
def execVddioDrop (s : State) : Host.Outcome State Fault Refusal :=
  actAlways s (fun d => d.vddioDrop)

/-- VDDIO_RETURN (R608): VDDIO rises above its threshold again, and the outputs are enabled while the host port waits
for qualification. -/
def execVddioReturn (s : State) : Host.Outcome State Fault Refusal :=
  actAlways s (fun d => d.vddioReturn)

/-- PLL_SWITCH (R660): CLKIN is measured as valid and the PLL locks, so the device moves every HFO-derived clock to
the PLL without a glitch. -/
def execPllSwitch (s : State) : Host.Outcome State Fault Refusal :=
  act s (fun d => d.pllSwitch)

/-- CLKIN_LOSS (R660): CLKIN stops for more than 2 µs while the PLL is in use, and the device returns to the HFO. -/
def execClkinLoss (s : State) : Host.Outcome State Fault Refusal :=
  act s (fun d => d.clkinLoss)

/-- BOOT_TIMEOUT (R299): A flash boot is not complete 30 ms after end of reset and fails with BOOT_TIMEOUT. -/
def execBootTimeout (s : State) : Host.Outcome State Fault Refusal :=
  act s (fun d => d.bootTimeout)

/-- SEAT_N_FALLING_EDGE (R627): SEAT_N falls and the 8 ms seating count starts, or restarts after a removal or during
RST_N. -/
def execSeatNFallingEdge (s : State) : Host.Outcome State Fault Refusal :=
  actAlways s (fun d => d.seatFall)

end Sys2Proof.Machine
end

