-- ==== Sys2Proof/Machine/ExecTick.lean ====
section
/-!
DEFINITION. Machine/ExecTick.lean: the meanings of the commands of RUN, the states, ticks, VSYNC and HSYNC (chapters
02 and 19).
-/

namespace Sys2Proof.Machine

/-- RUN_SET (R620): A write of 1 to SYS_CTRL.RUN in BOOT_WAIT or READY clears REFUSED and starts the consistency
check. -/
def execRunSet (prog : Bool) (s : State) : Host.Outcome State Fault Refusal :=
  act s (fun d => d.ioWrite (!prog) R.SYS_CTRL 1)

/-- RUN_CLEAR (R621): A write of 0 to SYS_CTRL.RUN cancels a check in progress, or starts STOPPING from RUNNING. -/
def execRunClear (prog : Bool) (s : State) : Host.Outcome State Fault Refusal :=
  act s (fun d => d.ioWrite (!prog) R.SYS_CTRL 0)

/-- CHECK_END (R620): The consistency check ends: it either sets RUNNING, or refuses, writes SYS_REASON and clears
RUN. -/
def execCheckEnd (s : State) : Host.Outcome State Fault Refusal :=
  act s (fun d => d.checkEnd)

/-- STOP_COMPLETE (R60): The frames acquired before RUN was cleared have been processed and the handler has returned,
and STATE passes to READY. -/
def execStopComplete (s : State) : Host.Outcome State Fault Refusal :=
  act s (fun d => d.stopComplete)

/-- SEQ_STOP_TIMEOUT (R308): One tick period passes after RUN is cleared with a handler still running; the core is
stopped and FS06 is counted. -/
def execSeqStopTimeout (s : State) : Host.Outcome State Fault Refusal :=
  act s (fun d => d.seqStopTimeout)

/-- TICK (R35): A tick from the internal period, a VSYNC offset, a sub-tick or a cluster TICK increments TICK_COUNT,
applies the staged values and any pending hop, and raises TICK. -/
def execTick (s : State) : Host.Outcome State Fault Refusal :=
  act s (fun d => d.tickEvent)

/-- HEATH_ENTRY_COMPLETE (R587): Once every handler has returned, the device writes the POWER report, drains the Heath
set, slows the XRAM and sets STATE to HEATH. -/
def execHeathEntryComplete (s : State) : Host.Outcome State Fault Refusal :=
  act s (fun d => d.heathComplete)

/-- VSYNC_EDGE (R38): An active VSYNC edge is measured, validated and locked, schedules the aligned tick, and is
ignored as a glitch if it comes too early. -/
def execVsyncEdge (s : State) : Host.Outcome State Fault Refusal :=
  act s (fun d => d.vsyncEdge)

/-- VSYNC_LOSS (R55): No valid VSYNC edge arrives within 25000 µs, so VLOCK clears, FS11 is counted and ticks continue
at the last spacing. -/
def execVsyncLoss (s : State) : Host.Outcome State Fault Refusal :=
  act s (fun d => d.vsyncLoss)

/-- HSYNC_LOSS (R56): HSYNC edges stop for more than 64 µs: HSLOCK falls and the remaining symbols of the frame run
ungated. -/
def execHsyncLoss (s : State) : Host.Outcome State Fault Refusal :=
  act s (fun d => d.hsyncLoss)

/-- TICK_PERIOD_WRITE (R63): A write to TICK_PERIOD is staged, ignored when out of range, or rejected with PREJ when
below MINPER. -/
def execTickPeriodWrite (v : BitVec 32) (s : State) : Host.Outcome State Fault Refusal :=
  act s (fun d => d.ioWrite true R.TICK_PERIOD v.toNat)

/-- TICK_PLAN_WRITE (R42): A write to TICK_PLAN is staged when valid, and otherwise ignored with PLANERR. -/
def execTickPlanWrite (v : BitVec 32) (s : State) : Host.Outcome State Fault Refusal :=
  act s (fun d => d.ioWrite true R.TICK_PLAN v.toNat)

/-- TICK_CLR_IMGMAX (R64): A write of 1 to TICK_CLR.IMGMAX clears TICK_IMGTIME.MAX. -/
def execTickClrImgmax (s : State) : Host.Outcome State Fault Refusal :=
  act s (fun d => d.ioWrite true R.TICK_CLR 1)

/-- TICK_CLR_COUNTS (R64): A write of 1 to TICK_CLR.COUNTS clears TICK_COUNTS. -/
def execTickClrCounts (s : State) : Host.Outcome State Fault Refusal :=
  act s (fun d => d.ioWrite true R.TICK_CLR 2)

/-- HSYNC_EDGE (R49): An active HSYNC edge is measured into HPER, sets or keeps HSLOCK, and starts the next gated
symbol DLY cycles later. -/
def execHsyncEdge (cycles : Nat) (s : State) : Host.Outcome State Fault Refusal :=
  act s (fun d => d.hsyncEdge cycles)

end Sys2Proof.Machine
end

