-- ==== Sys2Proof/Machine/Dispatch.lean ====
section
/-!
DEFINITION. Machine/Dispatch.lean: one arm per command, each one direct call of its meaning.
-/

namespace Sys2Proof.Machine

/-- The effect of a command on everything but the queue. -/
def exec (i : Instr) (s : State) : Host.Outcome State Fault Refusal :=
  match i with
  | .powerOnReset => Sys2Proof.Machine.execPowerOnReset s
  | .rstN g0 g1 => Sys2Proof.Machine.execRstN g0 g1 s
  | .seated g0 g1 => Sys2Proof.Machine.execSeated g0 g1 s
  | .removal moved rx => Sys2Proof.Machine.execRemoval moved rx s
  | .reseat => Sys2Proof.Machine.execReseat s
  | .hostQualification => Sys2Proof.Machine.execHostQualification s
  | .vddioDrop => Sys2Proof.Machine.execVddioDrop s
  | .vddioReturn => Sys2Proof.Machine.execVddioReturn s
  | .pllSwitch => Sys2Proof.Machine.execPllSwitch s
  | .clkinLoss => Sys2Proof.Machine.execClkinLoss s
  | .bootTimeout => Sys2Proof.Machine.execBootTimeout s
  | .runSet prog => Sys2Proof.Machine.execRunSet prog s
  | .runClear prog => Sys2Proof.Machine.execRunClear prog s
  | .checkEnd => Sys2Proof.Machine.execCheckEnd s
  | .stopComplete => Sys2Proof.Machine.execStopComplete s
  | .seqStopTimeout => Sys2Proof.Machine.execSeqStopTimeout s
  | .tick => Sys2Proof.Machine.execTick s
  | .heathEntryComplete => Sys2Proof.Machine.execHeathEntryComplete s
  | .vsyncEdge => Sys2Proof.Machine.execVsyncEdge s
  | .vsyncLoss => Sys2Proof.Machine.execVsyncLoss s
  | .hsyncLoss => Sys2Proof.Machine.execHsyncLoss s
  | .listenSlot inputs => Sys2Proof.Machine.execListenSlot inputs s
  | .noiseLevels => Sys2Proof.Machine.execNoiseLevels s
  | .mutualScan y ovr vhvLow => Sys2Proof.Machine.execMutualScan y ovr vhvLow s
  | .symbolRetry y ovr vhvOk => Sys2Proof.Machine.execSymbolRetry y ovr vhvOk s
  | .selfPass ys ovr vhvLow => Sys2Proof.Machine.execSelfPass ys ovr vhvLow s
  | .approachBurst words ledOc => Sys2Proof.Machine.execApproachBurst words ledOc s
  | .acquisitionEnd => Sys2Proof.Machine.execAcquisitionEnd s
  | .acquisitionDeadline burst scan => Sys2Proof.Machine.execAcquisitionDeadline burst scan s
  | .frameProcessingStart => Sys2Proof.Machine.execFrameProcessingStart s
  | .frameProcessed => Sys2Proof.Machine.execFrameProcessed s
  | .contactStuckRelease slot => Sys2Proof.Machine.execContactStuckRelease slot s
  | .objectAbsorb slot => Sys2Proof.Machine.execObjectAbsorb slot s
  | .excludedGroupQuiet k => Sys2Proof.Machine.execExcludedGroupQuiet k s
  | .electrodeShort n => Sys2Proof.Machine.execElectrodeShort n s
  | .vhvFault => Sys2Proof.Machine.execVhvFault s
  | .insAdd cond sf rd rs o => Sys2Proof.Machine.execInsAdd cond sf rd rs o s
  | .insAddc cond sf rd rs o => Sys2Proof.Machine.execInsAddc cond sf rd rs o s
  | .insSub cond sf rd rs o => Sys2Proof.Machine.execInsSub cond sf rd rs o s
  | .insSubb cond sf rd rs o => Sys2Proof.Machine.execInsSubb cond sf rd rs o s
  | .insAbsd cond sf rd rs o => Sys2Proof.Machine.execInsAbsd cond sf rd rs o s
  | .insAnd cond sf rd rs o => Sys2Proof.Machine.execInsAnd cond sf rd rs o s
  | .insOr cond sf rd rs o => Sys2Proof.Machine.execInsOr cond sf rd rs o s
  | .insXor cond sf rd rs o => Sys2Proof.Machine.execInsXor cond sf rd rs o s
  | .insAndn cond sf rd rs o => Sys2Proof.Machine.execInsAndn cond sf rd rs o s
  | .insMov cond sf rd o => Sys2Proof.Machine.execInsMov cond sf rd o s
  | .insNot cond sf rd o => Sys2Proof.Machine.execInsNot cond sf rd o s
  | .insShl cond sf rd rs o => Sys2Proof.Machine.execInsShl cond sf rd rs o s
  | .insShr cond sf rd rs o => Sys2Proof.Machine.execInsShr cond sf rd rs o s
  | .insSar cond sf rd rs o => Sys2Proof.Machine.execInsSar cond sf rd rs o s
  | .insRor cond sf rd rs o => Sys2Proof.Machine.execInsRor cond sf rd rs o s
  | .insClz cond sf rd rs => Sys2Proof.Machine.execInsClz cond sf rd rs s
  | .insMul cond sf rd rs o => Sys2Proof.Machine.execInsMul cond sf rd rs o s
  | .insMac cond sf rd rs o => Sys2Proof.Machine.execInsMac cond sf rd rs o s
  | .insMulhs cond sf rd rs o => Sys2Proof.Machine.execInsMulhs cond sf rd rs o s
  | .insMulhu cond sf rd rs o => Sys2Proof.Machine.execInsMulhu cond sf rd rs o s
  | .insDivs cond sf rd rs o => Sys2Proof.Machine.execInsDivs cond sf rd rs o s
  | .insDivu cond sf rd rs o => Sys2Proof.Machine.execInsDivu cond sf rd rs o s
  | .insRems cond sf rd rs o => Sys2Proof.Machine.execInsRems cond sf rd rs o s
  | .insRemu cond sf rd rs o => Sys2Proof.Machine.execInsRemu cond sf rd rs o s
  | .insBfx cond sf rd rs lsb wm1 => Sys2Proof.Machine.execInsBfx cond sf rd rs lsb wm1 s
  | .insBfxs cond sf rd rs lsb wm1 => Sys2Proof.Machine.execInsBfxs cond sf rd rs lsb wm1 s
  | .insBfi cond sf rd rs lsb wm1 => Sys2Proof.Machine.execInsBfi cond sf rd rs lsb wm1 s
  | .insLd cond rd rs o => Sys2Proof.Machine.execInsLd cond rd rs o s
  | .insLdh cond rd rs o => Sys2Proof.Machine.execInsLdh cond rd rs o s
  | .insLdhs cond rd rs o => Sys2Proof.Machine.execInsLdhs cond rd rs o s
  | .insLdb cond rd rs o => Sys2Proof.Machine.execInsLdb cond rd rs o s
  | .insLdbs cond rd rs o => Sys2Proof.Machine.execInsLdbs cond rd rs o s
  | .insSt cond rd rs o => Sys2Proof.Machine.execInsSt cond rd rs o s
  | .insSth cond rd rs o => Sys2Proof.Machine.execInsSth cond rd rs o s
  | .insStb cond rd rs o => Sys2Proof.Machine.execInsStb cond rd rs o s
  | .insIn cond rd rs o => Sys2Proof.Machine.execInsIn cond rd rs o s
  | .insOut cond rd rs o => Sys2Proof.Machine.execInsOut cond rd rs o s
  | .insTbl cond rd rs o => Sys2Proof.Machine.execInsTbl cond rd rs o s
  | .insB cond disp => Sys2Proof.Machine.execInsB cond disp s
  | .insBl cond disp => Sys2Proof.Machine.execInsBl cond disp s
  | .insJr cond rs => Sys2Proof.Machine.execInsJr cond rs s
  | .insJl cond rs => Sys2Proof.Machine.execInsJl cond rs s
  | .insLdi cond rd mode imm => Sys2Proof.Machine.execInsLdi cond rd mode imm s
  | .insWait cond rd rs o => Sys2Proof.Machine.execInsWait cond rd rs o s
  | .waitEnd => Sys2Proof.Machine.execWaitEnd s
  | .insEvt cond rd o => Sys2Proof.Machine.execInsEvt cond rd o s
  | .insEvc cond rd o => Sys2Proof.Machine.execInsEvc cond rd o s
  | .insMrf cond rd => Sys2Proof.Machine.execInsMrf cond rd s
  | .insMwf cond o => Sys2Proof.Machine.execInsMwf cond o s
  | .insEnd cond => Sys2Proof.Machine.execInsEnd cond s
  | .insHalt cond => Sys2Proof.Machine.execInsHalt cond s
  | .insBrk cond => Sys2Proof.Machine.execInsBrk cond s
  | .illegalEncoding w => Sys2Proof.Machine.execIllegalEncoding w s
  | .handlerStart => Sys2Proof.Machine.execHandlerStart s
  | .resetTimeout => Sys2Proof.Machine.execResetTimeout s
  | .seqResume => Sys2Proof.Machine.execSeqResume s
  | .seqHaltreq => Sys2Proof.Machine.execSeqHaltreq s
  | .seqClrcnt => Sys2Proof.Machine.execSeqClrcnt s
  | .seqDoorbellWrite v => Sys2Proof.Machine.execSeqDoorbellWrite v s
  | .seqEvenWrite v => Sys2Proof.Machine.execSeqEvenWrite v s
  | .timerExpiry k => Sys2Proof.Machine.execTimerExpiry k s
  | .tmCfgWrite k v => Sys2Proof.Machine.execTmCfgWrite k v s
  | .tmPresetWrite k v => Sys2Proof.Machine.execTmPresetWrite k v s
  | .tmTrig k => Sys2Proof.Machine.execTmTrig k s
  | .edCfgWrite k v => Sys2Proof.Machine.execEdCfgWrite k v s
  | .gpioSet v => Sys2Proof.Machine.execGpioSet v s
  | .gpioClr v => Sys2Proof.Machine.execGpioClr v s
  | .gpioInputDebounced n pins => Sys2Proof.Machine.execGpioInputDebounced n pins s
  | .pwmPeriodEnd n => Sys2Proof.Machine.execPwmPeriodEnd n s
  | .swapNoIdle => Sys2Proof.Machine.execSwapNoIdle s
  | .read mode3 addr span => Sys2Proof.Machine.execRead mode3 addr span s
  | .fastRead mode3 addr span => Sys2Proof.Machine.execFastRead mode3 addr span s
  | .read114 mode3 addr span => Sys2Proof.Machine.execRead114 mode3 addr span s
  | .read144 mode3 addr span => Sys2Proof.Machine.execRead144 mode3 addr span s
  | .write mode3 clean addr bs => Sys2Proof.Machine.execWrite mode3 clean addr bs s
  | .write114 mode3 clean addr bs => Sys2Proof.Machine.execWrite114 mode3 clean addr bs s
  | .write144 mode3 clean addr bs => Sys2Proof.Machine.execWrite144 mode3 clean addr bs s
  | .writeCommit => Sys2Proof.Machine.execWriteCommit s
  | .readPauseResume rest => Sys2Proof.Machine.execReadPauseResume rest s
  | .busyByteLimit => Sys2Proof.Machine.execBusyByteLimit s
  | .readStatus mode3 n => Sys2Proof.Machine.execReadStatus mode3 n s
  | .readId mode3 n => Sys2Proof.Machine.execReadId mode3 n s
  | .enterQuadCommandMode mode3 clean => Sys2Proof.Machine.execEnterQuadCommandMode mode3 clean s
  | .exitQuadCommandMode mode3 clean => Sys2Proof.Machine.execExitQuadCommandMode mode3 clean s
  | .acknowledgedWrite mode3 complete addr seq crc bs => Sys2Proof.Machine.execAcknowledgedWrite mode3 complete addr seq crc bs s
  | .wake mode3 clean => Sys2Proof.Machine.execWake mode3 clean s
  | .enterFallow mode3 clean => Sys2Proof.Machine.execEnterFallow mode3 clean s
  | .softReset mode3 clean data g0 g1 => Sys2Proof.Machine.execSoftReset mode3 clean data g0 g1 s
  | .unknownOpcode mode3 op => Sys2Proof.Machine.execUnknownOpcode mode3 op s
  | .chainSegment mode3 edges bits g0 g1 => Sys2Proof.Machine.execChainSegment mode3 edges bits g0 g1 s
  | .chainNone mode3 addr => Sys2Proof.Machine.execChainNone mode3 addr s
  | .chainWrite mode3 addr data => Sys2Proof.Machine.execChainWrite mode3 addr data s
  | .chainRead mode3 addr => Sys2Proof.Machine.execChainRead mode3 addr s
  | .chainReadStatus mode3 addr => Sys2Proof.Machine.execChainReadStatus mode3 addr s
  | .chainReadId mode3 addr => Sys2Proof.Machine.execChainReadId mode3 addr s
  | .chainSoftReset mode3 addr data g0 g1 => Sys2Proof.Machine.execChainSoftReset mode3 addr data g0 g1 s
  | .chainWake mode3 addr => Sys2Proof.Machine.execChainWake mode3 addr s
  | .chainEnterFallow mode3 addr => Sys2Proof.Machine.execChainEnterFallow mode3 addr s
  | .hpAttsetProg => Sys2Proof.Machine.execHpAttsetProg s
  | .hpClrcnt => Sys2Proof.Machine.execHpClrcnt s
  | .hpAckclr => Sys2Proof.Machine.execHpAckclr s
  | .cqPiWrite v => Sys2Proof.Machine.execCqPiWrite v s
  | .rqCiWrite v => Sys2Proof.Machine.execRqCiWrite v s
  | .cqEnable v => Sys2Proof.Machine.execCqEnable v s
  | .cqDisable v => Sys2Proof.Machine.execCqDisable v s
  | .rqEnable v => Sys2Proof.Machine.execRqEnable v s
  | .rqDisable v => Sys2Proof.Machine.execRqDisable v s
  | .xrGuarWrite c v => Sys2Proof.Machine.execXrGuarWrite c v s
  | .scrubRead upset0 upset1 => Sys2Proof.Machine.execScrubRead upset0 upset1 s
  | .commandPoll => Sys2Proof.Machine.execCommandPoll s
  | .reportRoomReturn => Sys2Proof.Machine.execReportRoomReturn s
  | .rqWatermarkTimeout => Sys2Proof.Machine.execRqWatermarkTimeout s
  | .pad => Sys2Proof.Machine.execPad s
  | .nop => Sys2Proof.Machine.execNop s
  | .progLoad => Sys2Proof.Machine.execProgLoad s
  | .progVerify => Sys2Proof.Machine.execProgVerify s
  | .progSwap => Sys2Proof.Machine.execProgSwap s
  | .calRun => Sys2Proof.Machine.execCalRun s
  | .calSave => Sys2Proof.Machine.execCalSave s
  | .calLoad => Sys2Proof.Machine.execCalLoad s
  | .regionSet => Sys2Proof.Machine.execRegionSet s
  | .keymapSet => Sys2Proof.Machine.execKeymapSet s
  | .hopTableSet => Sys2Proof.Machine.execHopTableSet s
  | .imageDump => Sys2Proof.Machine.execImageDump s
  | .periXfer => Sys2Proof.Machine.execPeriXfer s
  | .powerReqDomains => Sys2Proof.Machine.execPowerReqDomains s
  | .powerReqHeath => Sys2Proof.Machine.execPowerReqHeath s
  | .powerReqFallow => Sys2Proof.Machine.execPowerReqFallow s
  | .powerReqMeadow => Sys2Proof.Machine.execPowerReqMeadow s
  | .clusterCfgEnumerate => Sys2Proof.Machine.execClusterCfgEnumerate s
  | .clusterCfgDissolve => Sys2Proof.Machine.execClusterCfgDissolve s
  | .logRead => Sys2Proof.Machine.execLogRead s
  | .countersRead => Sys2Proof.Machine.execCountersRead s
  | .countersClear => Sys2Proof.Machine.execCountersClear s
  | .mailbox => Sys2Proof.Machine.execMailbox s
  | .fence => Sys2Proof.Machine.execFence s
  | .fenceRelease => Sys2Proof.Machine.execFenceRelease s
  | .fenceTimeout => Sys2Proof.Machine.execFenceTimeout s
  | .imgReform => Sys2Proof.Machine.execImgReform s
  | .imgClrcnt => Sys2Proof.Machine.execImgClrcnt s
  | .ctCtrlWrite v => Sys2Proof.Machine.execCtCtrlWrite v s
  | .regionWrite which k v => Sys2Proof.Machine.execRegionWrite which k v s
  | .ctClrcnt => Sys2Proof.Machine.execCtClrcnt s
  | .tickPeriodWrite v => Sys2Proof.Machine.execTickPeriodWrite v s
  | .tickPlanWrite v => Sys2Proof.Machine.execTickPlanWrite v s
  | .tickClrImgmax => Sys2Proof.Machine.execTickClrImgmax s
  | .tickClrCounts => Sys2Proof.Machine.execTickClrCounts s
  | .acqDrvWrite v => Sys2Proof.Machine.execAcqDrvWrite v s
  | .electrodeRoleWrite n v => Sys2Proof.Machine.execElectrodeRoleWrite n v s
  | .geometryWrite y v => Sys2Proof.Machine.execGeometryWrite y v s
  | .hopForce h => Sys2Proof.Machine.execHopForce h s
  | .hopTableWrite h v => Sys2Proof.Machine.execHopTableWrite h v s
  | .optXtcap => Sys2Proof.Machine.execOptXtcap s
  | .optClrcnt => Sys2Proof.Machine.execOptClrcnt s
  | .auxSync => Sys2Proof.Machine.execAuxSync s
  | .auxResetConverter n => Sys2Proof.Machine.execAuxResetConverter n s
  | .auxClrcnt => Sys2Proof.Machine.execAuxClrcnt s
  | .axEnable n v => Sys2Proof.Machine.execAxEnable n v s
  | .axDisable n v => Sys2Proof.Machine.execAxDisable n v s
  | .axConfigWrite n filt v => Sys2Proof.Machine.execAxConfigWrite n filt v s
  | .auxGpioTrigger edge => Sys2Proof.Machine.execAuxGpioTrigger edge s
  | .auxTickTrigger => Sys2Proof.Machine.execAuxTickTrigger s
  | .auxOutput n ins => Sys2Proof.Machine.execAuxOutput n ins s
  | .windowArm k v => Sys2Proof.Machine.execWindowArm k v s
  | .windowDisarm k v => Sys2Proof.Machine.execWindowDisarm k v s
  | .auxDataRead host n => Sys2Proof.Machine.execAuxDataRead host n s
  | .calGo kind => Sys2Proof.Machine.execCalGo kind s
  | .calAbort kind => Sys2Proof.Machine.execCalAbort kind s
  | .calDefaults kind => Sys2Proof.Machine.execCalDefaults kind s
  | .calClrcnt => Sys2Proof.Machine.execCalClrcnt s
  | .calAuxPassEnd outs => Sys2Proof.Machine.execCalAuxPassEnd outs s
  | .ppGoStart m => Sys2Proof.Machine.execPpGoStart m s
  | .ppGoStop m => Sys2Proof.Machine.execPpGoStop m s
  | .ppClrcnt => Sys2Proof.Machine.execPpClrcnt s
  | .ppFrameStart => Sys2Proof.Machine.execPpFrameStart s
  | .ppFifoResume => Sys2Proof.Machine.execPpFifoResume s
  | .ppFrameEnd rx => Sys2Proof.Machine.execPpFrameEnd rx s
  | .ppPrdyTimeout n rx => Sys2Proof.Machine.execPpPrdyTimeout n rx s
  | .ppMarkTimeout rx => Sys2Proof.Machine.execPpMarkTimeout rx s
  | .ppDrainTimeout n rx => Sys2Proof.Machine.execPpDrainTimeout n rx s
  | .pwrDreq v => Sys2Proof.Machine.execPwrDreq v s
  | .pwrSreqHeath => Sys2Proof.Machine.execPwrSreqHeath s
  | .pwrSreqFallow => Sys2Proof.Machine.execPwrSreqFallow s
  | .pwrClrcnt => Sys2Proof.Machine.execPwrClrcnt s
  | .domainRampUpEnd k => Sys2Proof.Machine.execDomainRampUpEnd k s
  | .domainDrainEnd k => Sys2Proof.Machine.execDomainDrainEnd k s
  | .domainRampDownEnd k => Sys2Proof.Machine.execDomainRampDownEnd k s
  | .domainRestartEnd k => Sys2Proof.Machine.execDomainRestartEnd k s
  | .heathTick => Sys2Proof.Machine.execHeathTick s
  | .heathHfoStart => Sys2Proof.Machine.execHeathHfoStart s
  | .tempSample t0 t1 => Sys2Proof.Machine.execTempSample t0 t1 s
  | .faultWindowClose k => Sys2Proof.Machine.execFaultWindowClose k s
  | .fltClrcnt => Sys2Proof.Machine.execFltClrcnt s
  | .fltClrlost => Sys2Proof.Machine.execFltClrlost s
  | .fltClrtmax => Sys2Proof.Machine.execFltClrtmax s
  | .fltTempWrite v => Sys2Proof.Machine.execFltTempWrite v s
  | .fltCfgWrite k v => Sys2Proof.Machine.execFltCfgWrite k v s
  | .clRoleWrite v => Sys2Proof.Machine.execClRoleWrite v s
  | .clClrcnt => Sys2Proof.Machine.execClClrcnt s
  | .linkLock => Sys2Proof.Machine.execLinkLock s
  | .ringTick => Sys2Proof.Machine.execRingTick s
  | .tickh => Sys2Proof.Machine.execTickh s
  | .rcancel => Sys2Proof.Machine.execRcancel s
  | .measure echo => Sys2Proof.Machine.execMeasure echo s
  | .ringDown node => Sys2Proof.Machine.execRingDown node s
  | .enum m => Sys2Proof.Machine.execEnum m s
  | .config m => Sys2Proof.Machine.execConfig m s
  | .check ask => Sys2Proof.Machine.execCheck ask s
  | .checkr m => Sys2Proof.Machine.execCheckr m s
  | .stage m => Sys2Proof.Machine.execStage m s
  | .retry m => Sys2Proof.Machine.execRetry m s
  | .noise m => Sys2Proof.Machine.execNoise m s
  | .corr m => Sys2Proof.Machine.execCorr m s
  | .delta m => Sys2Proof.Machine.execDelta m s
  | .cald m => Sys2Proof.Machine.execCald m s
  | .calr m => Sys2Proof.Machine.execCalr m s
  | .ack m => Sys2Proof.Machine.execAck m s
  | .leave m => Sys2Proof.Machine.execLeave m s
  | .ackTimeout => Sys2Proof.Machine.execAckTimeout s
  | .enumEchoTimeout => Sys2Proof.Machine.execEnumEchoTimeout s
  | .memberHoldover => Sys2Proof.Machine.execMemberHoldover s
  | .deltaDeadline => Sys2Proof.Machine.execDeltaDeadline s
  | .cliUnlock => Sys2Proof.Machine.execCliUnlock s
  | .registerWrite prog addr v => Sys2Proof.Machine.execRegisterWrite prog addr v s
  | .hsyncEdge cycles => Sys2Proof.Machine.execHsyncEdge cycles s
  | .linkLoss => Sys2Proof.Machine.execLinkLoss s
  | .seatNFallingEdge => Sys2Proof.Machine.execSeatNFallingEdge s
  | .ppPrdyReady => Sys2Proof.Machine.execPpPrdyReady s
  | .retryChoiceDeadline => Sys2Proof.Machine.execRetryChoiceDeadline s
  | .retryEchoDeadline => Sys2Proof.Machine.execRetryEchoDeadline s
  | .stageDeadline => Sys2Proof.Machine.execStageDeadline s

end Sys2Proof.Machine
end

