-- ==== Sys2Proof/Machine/Step.lean ====
section
/-!
DEFINITION. Machine/Step.lean: one step of the device. It takes the command at the front of the queue; while none waits,
a µs passes.
-/

namespace Sys2Proof.Machine

/-- One step: the command at the front of the queue acts on the device with the queue's rest; with an empty queue time
passes (log entry 2). -/
def step (s : State) : Host.Outcome State Fault Refusal :=
  match s.pending with
  | [] => .next { s with dev := s.dev.idle }
  | c :: rest => exec c { s with pending := rest }

/-- `s` with the command that the word spells at the front of its queue. The table gives no row a word, so nothing
changes. -/
def State.withFetchWord (s : State) (nbits w : Nat) : State :=
  match decodeTableWord nbits w with
  | some c => { s with pending := c :: s.pending }
  | none => s

end Sys2Proof.Machine
end

