-- ==== Sys2Proof/WellFormed.lean ====
section
/-!
DEFINITION. WellFormed.lean: which commands the spec gives a meaning with these operands: an instruction whose word is
legal (R314), a measurement within the converter's codes, an aligned register address, a frame within its lengths.
-/

namespace Sys2Proof

/-- Chips of an approach burst: two 14-bit codes each. -/
def optChipsOk (w : List (Nat × Nat)) : Bool := w.all (fun c => decide (c.1 < 16384) && decide (c.2 < 16384))

/-- A word of an approach burst: 13 chips (R200). -/
def optWordOk (w : List (Nat × Nat)) : Bool :=
  w.length == 13 && optChipsOk w

/-- The words that a cut burst ran: all but the last whole (R209). -/
def optCutOk (ws : List (List (Nat × Nat))) : Bool :=
  decide (ws.length ≤ 4) && ws.dropLast.all optWordOk && (ws.getLast?.all (fun w => decide (w.length ≤ 13) && optChipsOk w))

/-- The inputs of a converter since its reset: from modulator clock 0 on, in rising order, with VIN above AGND. -/
def auxInsOk (ins : List (Nat × AuxIn)) : Bool :=
  (ins.map (·.1)).head? == some 0 && (ins.map (·.1)).Pairwise (· < ·) && ins.all (fun e => decide (0 < e.2.vin))

/-- A ring frame within R524. -/
def RingMsg.ok (m : RingMsg) : Bool :=
  decide (m.src < 8) && (decide (m.dst < 8) || m.dst == 15) && decide (m.seq < 256) && decide (m.frame < 65536) &&
    decide (m.body.length ≤ 1024)

/-- Whether a command is well formed. -/
def Instr.wellFormed : Instr → Bool
  | .powerOnReset => true
  | .rstN _ _ => true
  | .seated _ _ => true
  | .removal _ _ => true
  | .reseat => true
  | .hostQualification => true
  | .vddioDrop => true
  | .vddioReturn => true
  | .pllSwitch => true
  | .clkinLoss => true
  | .bootTimeout => true
  | .runSet _ => true
  | .runClear _ => true
  | .checkEnd => true
  | .stopComplete => true
  | .seqStopTimeout => true
  | .tick => true
  | .heathEntryComplete => true
  | .vsyncEdge => true
  | .vsyncLoss => true
  | .hsyncLoss => true
  | .listenSlot inputs => inputs.all (fun e => e.2.2.all (fun c => decide (c < 16384)))
  | .noiseLevels => true
  | .mutualScan _ _ _ => true
  | .symbolRetry _ _ _ => true
  | .selfPass _ _ _ => true
  | .approachBurst words _ => decide (words.length ≤ 4) && words.all optWordOk
  | .acquisitionEnd => true
  | .acquisitionDeadline burst _ => optCutOk burst.words
  | .frameProcessingStart => true
  | .frameProcessed => true
  | .contactStuckRelease _ => true
  | .objectAbsorb _ => true
  | .excludedGroupQuiet _ => true
  | .electrodeShort _ => true
  | .vhvFault => true
  | .insAdd cond sf rd rs o => legalWord (encAlu cond 0x00 sf rd rs o)
  | .insAddc cond sf rd rs o => legalWord (encAlu cond 0x01 sf rd rs o)
  | .insSub cond sf rd rs o => legalWord (encAlu cond 0x02 sf rd rs o)
  | .insSubb cond sf rd rs o => legalWord (encAlu cond 0x03 sf rd rs o)
  | .insAbsd cond sf rd rs o => legalWord (encAlu cond 0x04 sf rd rs o)
  | .insAnd cond sf rd rs o => legalWord (encAlu cond 0x05 sf rd rs o)
  | .insOr cond sf rd rs o => legalWord (encAlu cond 0x06 sf rd rs o)
  | .insXor cond sf rd rs o => legalWord (encAlu cond 0x07 sf rd rs o)
  | .insAndn cond sf rd rs o => legalWord (encAlu cond 0x08 sf rd rs o)
  | .insMov cond sf rd o => legalWord (encAlu cond 0x09 sf rd 0 o)
  | .insNot cond sf rd o => legalWord (encAlu cond 0x0A sf rd 0 o)
  | .insShl cond sf rd rs o => legalWord (encAlu cond 0x0B sf rd rs o)
  | .insShr cond sf rd rs o => legalWord (encAlu cond 0x0C sf rd rs o)
  | .insSar cond sf rd rs o => legalWord (encAlu cond 0x0D sf rd rs o)
  | .insRor cond sf rd rs o => legalWord (encAlu cond 0x0E sf rd rs o)
  | .insClz _ _ _ _ => true
  | .insMul cond sf rd rs o => legalWord (encAlu cond 0x10 sf rd rs o)
  | .insMac cond sf rd rs o => legalWord (encAlu cond 0x11 sf rd rs o)
  | .insMulhs cond sf rd rs o => legalWord (encAlu cond 0x12 sf rd rs o)
  | .insMulhu cond sf rd rs o => legalWord (encAlu cond 0x13 sf rd rs o)
  | .insDivs cond sf rd rs o => legalWord (encAlu cond 0x14 sf rd rs o)
  | .insDivu cond sf rd rs o => legalWord (encAlu cond 0x15 sf rd rs o)
  | .insRems cond sf rd rs o => legalWord (encAlu cond 0x16 sf rd rs o)
  | .insRemu cond sf rd rs o => legalWord (encAlu cond 0x17 sf rd rs o)
  | .insBfx cond sf rd rs lsb wm1 => legalWord (encAlu cond 0x18 sf rd rs (opField lsb wm1))
  | .insBfxs cond sf rd rs lsb wm1 => legalWord (encAlu cond 0x19 sf rd rs (opField lsb wm1))
  | .insBfi cond sf rd rs lsb wm1 => legalWord (encAlu cond 0x1A sf rd rs (opField lsb wm1))
  | .insLd cond rd rs o => legalWord (encMem cond 0x20 rd rs o)
  | .insLdh cond rd rs o => legalWord (encMem cond 0x21 rd rs o)
  | .insLdhs cond rd rs o => legalWord (encMem cond 0x22 rd rs o)
  | .insLdb cond rd rs o => legalWord (encMem cond 0x23 rd rs o)
  | .insLdbs cond rd rs o => legalWord (encMem cond 0x24 rd rs o)
  | .insSt cond rd rs o => legalWord (encMem cond 0x25 rd rs o)
  | .insSth cond rd rs o => legalWord (encMem cond 0x26 rd rs o)
  | .insStb cond rd rs o => legalWord (encMem cond 0x27 rd rs o)
  | .insIn cond rd rs o => legalWord (encMem cond 0x28 rd rs o)
  | .insOut cond rd rs o => legalWord (encMem cond 0x29 rd rs o)
  | .insTbl cond rd rs o => legalWord (encMem cond 0x2A rd rs o)
  | .insB _ _ => true
  | .insBl _ _ => true
  | .insJr _ _ => true
  | .insJl _ _ => true
  | .insLdi _ _ mode _ => mode != 3
  | .insWait cond rd rs o => legalWord (encAlu cond 0x35 false rd rs o)
  | .waitEnd => true
  | .insEvt cond rd o => legalWord (encAlu cond 0x36 false rd 0 o)
  | .insEvc cond rd o => legalWord (encAlu cond 0x37 false rd 0 o)
  | .insMrf _ _ => true
  | .insMwf cond o => legalWord (encAlu cond 0x39 false 0 0 o)
  | .insEnd _ => true
  | .insHalt _ => true
  | .insBrk _ => true
  | .illegalEncoding w => illegal w
  | .handlerStart => true
  | .resetTimeout => true
  | .seqResume => true
  | .seqHaltreq => true
  | .seqClrcnt => true
  | .seqDoorbellWrite _ => true
  | .seqEvenWrite _ => true
  | .timerExpiry _ => true
  | .tmCfgWrite _ _ => true
  | .tmPresetWrite _ _ => true
  | .tmTrig _ => true
  | .edCfgWrite _ _ => true
  | .gpioSet _ => true
  | .gpioClr _ => true
  | .gpioInputDebounced _ _ => true
  | .pwmPeriodEnd n => n == 4 || n == 5
  | .swapNoIdle => true
  | .read _ _ _ => true
  | .fastRead _ _ _ => true
  | .read114 _ _ _ => true
  | .read144 _ _ _ => true
  | .write _ _ _ _ => true
  | .write114 _ _ _ _ => true
  | .write144 _ _ _ _ => true
  | .writeCommit => true
  | .readPauseResume _ => true
  | .busyByteLimit => true
  | .readStatus _ _ => true
  | .readId _ _ => true
  | .enterQuadCommandMode _ _ => true
  | .exitQuadCommandMode _ _ => true
  | .acknowledgedWrite _ _ _ _ _ bs => decide (1 ≤ bs.length) && decide (bs.length ≤ 256)
  | .wake _ _ => true
  | .enterFallow _ _ => true
  | .softReset _ _ _ _ _ => true
  | .unknownOpcode _ op =>
    !([0x03, 0x0B, 0x6B, 0xEB, 0x02, 0x32, 0x38, 0x05, 0x9F, 0x35, 0xF5, 0xA2, 0xAB, 0xB9, 0x99] : List (BitVec 8)).contains op
  | .chainSegment _ edges bits _ _ => bits.length == edges
  | .chainNone _ _ => true
  | .chainWrite _ _ _ => true
  | .chainRead _ _ => true
  | .chainReadStatus _ _ => true
  | .chainReadId _ _ => true
  | .chainSoftReset _ _ _ _ _ => true
  | .chainWake _ _ => true
  | .chainEnterFallow _ _ => true
  | .hpAttsetProg => true
  | .hpClrcnt => true
  | .hpAckclr => true
  | .cqPiWrite _ => true
  | .rqCiWrite _ => true
  | .cqEnable _ => true
  | .cqDisable _ => true
  | .rqEnable _ => true
  | .rqDisable _ => true
  | .xrGuarWrite _ _ => true
  | .scrubRead _ _ => true
  | .commandPoll => true
  | .reportRoomReturn => true
  | .rqWatermarkTimeout => true
  | .pad => true
  | .nop => true
  | .progLoad => true
  | .progVerify => true
  | .progSwap => true
  | .calRun => true
  | .calSave => true
  | .calLoad => true
  | .regionSet => true
  | .keymapSet => true
  | .hopTableSet => true
  | .imageDump => true
  | .periXfer => true
  | .powerReqDomains => true
  | .powerReqHeath => true
  | .powerReqFallow => true
  | .powerReqMeadow => true
  | .clusterCfgEnumerate => true
  | .clusterCfgDissolve => true
  | .logRead => true
  | .countersRead => true
  | .countersClear => true
  | .mailbox => true
  | .fence => true
  | .fenceRelease => true
  | .fenceTimeout => true
  | .imgReform => true
  | .imgClrcnt => true
  | .ctCtrlWrite _ => true
  | .regionWrite _ _ _ => true
  | .ctClrcnt => true
  | .tickPeriodWrite _ => true
  | .tickPlanWrite _ => true
  | .tickClrImgmax => true
  | .tickClrCounts => true
  | .acqDrvWrite _ => true
  | .electrodeRoleWrite _ _ => true
  | .geometryWrite _ _ => true
  | .hopForce _ => true
  | .hopTableWrite _ _ => true
  | .optXtcap => true
  | .optClrcnt => true
  | .auxSync => true
  | .auxResetConverter _ => true
  | .auxClrcnt => true
  | .axEnable _ _ => true
  | .axDisable _ _ => true
  | .axConfigWrite _ _ _ => true
  | .auxGpioTrigger _ => true
  | .auxTickTrigger => true
  | .auxOutput _ ins => auxInsOk ins
  | .windowArm _ _ => true
  | .windowDisarm _ _ => true
  | .auxDataRead _ _ => true
  | .calGo _ => true
  | .calAbort _ => true
  | .calDefaults _ => true
  | .calClrcnt => true
  | .calAuxPassEnd _ => true
  | .ppGoStart _ => true
  | .ppGoStop _ => true
  | .ppClrcnt => true
  | .ppFrameStart => true
  | .ppFifoResume => true
  | .ppFrameEnd _ => true
  | .ppPrdyTimeout _ _ => true
  | .ppMarkTimeout _ => true
  | .ppDrainTimeout _ _ => true
  | .pwrDreq _ => true
  | .pwrSreqHeath => true
  | .pwrSreqFallow => true
  | .pwrClrcnt => true
  | .domainRampUpEnd _ => true
  | .domainDrainEnd _ => true
  | .domainRampDownEnd _ => true
  | .domainRestartEnd _ => true
  | .heathTick => true
  | .heathHfoStart => true
  | .tempSample _ _ => true
  | .faultWindowClose _ => true
  | .fltClrcnt => true
  | .fltClrlost => true
  | .fltClrtmax => true
  | .fltTempWrite _ => true
  | .fltCfgWrite _ _ => true
  | .clRoleWrite _ => true
  | .clClrcnt => true
  | .linkLock => true
  | .ringTick => true
  | .tickh => true
  | .rcancel => true
  | .measure echo => decide (echo.blocks.length ≤ 7) && echo.blocks.all (fun b => decide (b.1 ≤ b.2) && decide (b.2 ≤ 400))
  | .ringDown _ => true
  | .enum m => m.ok
  | .config m => m.ok
  | .check ask => ask.msg.ok
  | .checkr m => m.ok
  | .stage m => m.ok
  | .retry m => m.ok
  | .noise m => m.ok
  | .corr m => m.ok
  | .delta m => m.ok
  | .cald m => m.ok
  | .calr m => m.ok
  | .ack m => m.ok
  | .leave m => m.ok
  | .ackTimeout => true
  | .enumEchoTimeout => true
  | .memberHoldover => true
  | .deltaDeadline => true
  | .cliUnlock => true
  | .registerWrite _ addr _ => addr.toNat % 4 == 0
  | .hsyncEdge _ => true
  | .linkLoss => true
  | .seatNFallingEdge => true
  | .ppPrdyReady => true
  | .retryChoiceDeadline => true
  | .retryEchoDeadline => true
  | .stageDeadline => true

end Sys2Proof
end

