-- ==== Sys2Proof/Safety.lean ====
section
/-!
DEFINITION. Safety.lean: the terms in which claims speak of a device: its memories and registers in canonical form, what
can change a device in reset, an instruction that the core is about to execute, and what one that completes leaves.
-/

namespace Sys2Proof.Machine

/-! ### Canonical form -/

/-- The memories of a device are in canonical form. -/
def Mems.wf (m : Mems) : Bool :=
  sparseWf xramDflt m.xram && sparseWf dmemDflt m.dmem && sparseWf imemDflt m.imemA && sparseWf imemDflt m.imemB

/-- Memories, I/O registers and core registers are in canonical form, so that devices that hold the same are equal. -/
def Dev.canonical (d : Dev) : Bool :=
  d.mem.wf && sparseWf regReset d.regs && sparseWf (fun _ => (0 : Word)) d.seq.g

/-! ### Reset -/

/-- The commands that act on a device that is held in reset: the reset sources, SEAT_N and VDDIO (R607–R610, R627). -/
def wakesReset : Instr → Bool
  | .powerOnReset => true
  | .rstN _ _ => true
  | .seated _ _ => true
  | .removal _ _ => true
  | .vddioDrop => true
  | .vddioReturn => true
  | .seatNFallingEdge => true
  | _ => false

/-- `t` is the device `d` as a reset holds it (R607, R609, R611): all of it as after power-on, with SYS_RESET at `w` and
SYS_HALT_INFO at `h`; the levels of SEAT_N and VDDIO are the environment's, and the number of free values given so far
stays. -/
def Dev.resetTo (d t : Dev) (w h : Word) : Prop :=
  t = { Dev.reset with
        freeCount := d.freeCount, regs := t.regs
        sys := { Dev.reset.sys with seatFell := if d.is R.SYS_STRAPS_SEATPIN then none else some 0 } } ∧
  t.reg R.SYS_RESET = w ∧ t.reg R.SYS_HALT_INFO = h ∧
  t.reg R.SYS_STRAPS = R.SYS_STRAPS_SEATPIN.into (regReset R.SYS_STRAPS) (d.get R.SYS_STRAPS_SEATPIN) ∧
  t.reg R.SYS_STATUS = R.SYS_STATUS_VDDIOOK.into (regReset R.SYS_STATUS) (d.get R.SYS_STATUS_VDDIOOK) ∧
  ∀ a, a ∉ [R.SYS_RESET, R.SYS_HALT_INFO, R.SYS_STRAPS, R.SYS_STATUS] → t.reg a = regReset a

/-- `t` is the seated device `d` as a reset leaves it (R610–R613): out of reset again at once, in BOOT_WAIT, its time at 0,
SYS_RESET at `w`, SYS_HALT_INFO kept, the straps as they now stand; with G0 = 1 the flash boot's first read waits at the
periphery port. All else is as after power-on. -/
def Dev.restartTo (d t : Dev) (w : Word) (g0 g1 : Bool) : Prop :=
  t = { Dev.reset with
        freeCount := d.freeCount, regs := t.regs, sys := { Dev.reset.sys with inReset := false }
        pwr := { Pwr.reset with hfoOn := true }
        seq := if g0 then { Seq.reset with bootFrom := some 0 } else Seq.reset, pp := t.pp } ∧
  (g0 = false → t.pp = Pp.reset) ∧
  (g0 = true → ∃ x : Xfer, t.pp = { Pp.reset with queue := [x] } ∧ x.desc = 9 ∧ x.adr = 0 ∧ x.dlen = 64) ∧
  t.reg R.SYS_RESET = w ∧ t.reg R.SYS_HALT_INFO = d.reg R.SYS_HALT_INFO ∧
  t.st = stBootWait ∧ t.is R.SYS_STATUS_SEATED = true ∧ t.is R.SYS_STRAPS_SEATPIN = false ∧
  t.is R.SYS_STRAPS_BOOT = g0 ∧ t.is R.SYS_STRAPS_CHAIN = g1 ∧ t.is R.HP_STATUS_CHAIN = g1 ∧
  t.is R.SYS_STATUS_VDDIOOK = d.is R.SYS_STATUS_VDDIOOK ∧
  ∀ a, a ∉ [R.SYS_RESET, R.SYS_HALT_INFO, R.SYS_STRAPS, R.SYS_STATUS, R.HP_STATUS, R.PWR_DST1, R.PWR_ON, R.PP_STATUS] →
    t.reg a = regReset a

/-- SYS_RESET after one more reset, whose cause sets the bits of `flag` (R611, table SYS_RESET). -/
def Dev.oneMoreReset (d : Dev) (flag : Nat) : Word :=
  BitVec.ofNat 32 (flag + 65536 * min 65535 ((d.reg R.SYS_RESET).toNat / 65536 + 1))

/-! ### Calibration runs -/

/-- No calibration run is in progress, or FS13, whose event a run that ends without a result makes, does not halt the device
(R260, R636). -/
def Dev.calQuiet (d : Dev) : Prop :=
  (d.is R.CAL_STATUS_BUSYT = false ∧ d.is R.CAL_STATUS_BUSYA = false) ∨ (d.flt.due = [] ∧ d.fltAction 0x13 ≠ 2)

/-! ### Fallow -/

/-- Nothing keeps the device from beginning to enter Fallow: BOOT_WAIT or READY outside a cluster, no state request in
progress, no wake, a domain ON, no halt by a CAL_AUX run that ends (R592, R593). -/
def Dev.mayFallow (d : Dev) : Prop :=
  (d.st = stBootWait ∨ d.st = stReady) ∧ d.enumerated = false ∧ d.pwr.stateReq = none ∧ d.pwr.wakeAt = none ∧ d.domOn 7 = true ∧
    d.calQuiet

/-- The order in which Fallow entry switches the domains off (R593 steps 5 to 7). -/
def fallowDomains : List Nat := [11, 10, 9, 8, 6, 5, 3, 4, 0, 1, 2, 7]

/-- Domain `k` is a bank of exchange RAM that Fallow keeps in retention (R594). -/
def Dev.keptBank (cfg : Word) (k : Nat) : Bool := (k == 1 && cfg.getLsbD 0) || (k == 2 && cfg.getLsbD 1)

/-- `t` is `d` as it begins to enter Fallow: both rings disabled, the request answered without a cause and still in
progress, and where every domain is ON or OFF, the first in the order of R593 that is ON and not kept drains, the others
as they were, but for kept banks before it, which are OFF (R593, R594). -/
def Dev.entersFallow (d t : Dev) : Prop :=
  t.st = d.st ∧ t.clock = d.clock ∧ t.is R.CQ_CTRL_EN = false ∧ t.is R.RQ_CTRL_EN = false ∧ t.get R.PWR_RES_CODE = 0 ∧
  t.get R.PWR_RES_KIND = 2 ∧ (∃ q, t.pwr.stateReq = some q ∧ q.kind = 2 ∧ q.done = true) ∧
  ((∀ k, k < 12 → d.dom k = 0 ∨ d.dom k = 2) →
    ∀ k, fallowDomains.find? (fun k => d.domOn k && !Dev.keptBank (d.reg R.PWR_FCFG) k) = some k → t.dom k = 3 ∧
      ∀ j, j < 12 → j ≠ k → t.dom j = if Dev.keptBank (d.reg R.PWR_FCFG) j && fallowDomains.idxOf j < fallowDomains.idxOf k then 0 else d.dom j)

/-- `t` is `d` in Fallow, reached as its last domain is OFF: every domain OFF, the HFO stopped (R593, R594). -/
def Dev.inFallow (d t : Dev) : Prop :=
  t.pwr.mode = 2 ∧ t.st = d.st ∧ t.clock = d.clock ∧ (∀ k, k < 12 → t.dom k = 0) ∧ t.pwr.stateReq = none ∧
  t.pwr.hfoOn = false ∧ t.mem = d.mem

/-- `t` is `d`, in Fallow before, as the host wake leaves it: FALLOW_EXIT, with the source recorded and the domains of the
reset set ramping up (R595, R596). -/
def Dev.wakes (d t : Dev) : Prop :=
  t.is R.PWR_WSRC_HOSTWAKE = true ∧ t.st = stFallowExit ∧ t.pwr.mode = 0 ∧ t.pwr.hfoOn = true ∧ t.pwr.wakeAt = some d.clock ∧
  ∀ k, k < 12 → bitOf d.resetSet k = true → d.dom k = 0 → t.dom k = 1

/-! ### Commands -/

/-- The command `c` completes in every state out of reset whose device meets `p`: it leaves the device that `f` says,
and the queue as it was. -/
def Does (c : Instr) (p : Dev → Prop) (f : Dev → Dev) : Prop :=
  ∀ s : State, s.dev.sys.inReset = false → p s.dev → Sys2Proof.Machine.exec c s = .next { s with dev := f s.dev }

/-- The command `c` completes in every state out of reset whose device meets `p`: it leaves a device that `q` says of the
device before and after, and the queue as it was. -/
def Leaves (c : Instr) (p : Dev → Prop) (q : Dev → Dev → Prop) : Prop :=
  ∀ s : State, s.dev.sys.inReset = false → p s.dev →
    ∃ t : State, Sys2Proof.Machine.exec c s = .next t ∧ t.pending = s.pending ∧ q s.dev t.dev

/-! ### Writes of registers -/

/-- The register at `a` is reached by writes away from HALTED: its domain is ON (R574, R624). -/
def Dev.reached (d : Dev) (a : Nat) : Prop := d.regReachable a = true ∧ d.st ≠ stHalted

/-- It is also reached by writes that the running states hold off (R30). -/
def Dev.writable (d : Dev) (a : Nat) : Prop := d.reached a ∧ d.busyState = false

/-- `t` is `d` but for the registers of `as`. -/
def Dev.butRegs (d t : Dev) (as : List Nat) : Prop := (∀ b, b ∉ as → t.reg b = d.reg b) ∧ t = { d with regs := t.regs }

/-- `t` is `d` once the register at `a` has taken `v` by its access codes (R4, R8, R13): its RW bits take `v` in force,
its W1C bits that `v` holds are cleared, its RWS bits take `v` where a read sees it; every other register, every other
staged value and all else is as it was. -/
def Dev.takes (d t : Dev) (a : Nat) (v : Word) : Prop :=
  (∀ b, b ≠ a → t.reg b = d.reg b ∧ t.stagedAt b = d.stagedAt b) ∧ t = { d with regs := t.regs, staged := t.staged } ∧
  ∃ r, regSpec? a = some r ∧
    let now := BitVec.ofNat 32 r.rw
    let later := BitVec.ofNat 32 r.rws
    let gone := v &&& BitVec.ofNat 32 r.w1c
    t.viewReg a = (d.viewReg a &&& ~~~(now ||| later ||| gone)) ||| (v &&& (now ||| later)) ∧
    (d.ticking = true → t.reg a = (d.reg a &&& ~~~(now ||| gone)) ||| (v &&& now))

/-! ### Ring commands -/

/-- `e` is the established entry at the front of the command ring and the device can execute it: out of halts, Heath and
standby, behind no FENCE, in an open batch or with a reservation to be had (R448, R453). -/
def Dev.atFront (d : Dev) (e : List Byte) : Prop :=
  d.ring.established.head? = some e ∧ d.st ≠ stHalted ∧ d.st ≠ stHeath ∧ d.pwr.mode = 0 ∧ d.ring.fence = none ∧
  (d.ring.batch.isSome = true ∨ d.reserveOk = true)

/-- The device once the entry at the front has been taken. -/
def Dev.taken (d : Dev) : Dev := { d with ring := { d.ring with established := d.ring.established.tail } }

/-- The command `c` of the ring, of opcode `op` and length `len` in words, completes wherever an entry of it that meets `p`
is at the front: it leaves what `f` says of that entry and the device that has taken it. -/
def Executes (c : Instr) (op len : Nat) (p : List Byte → Dev → Prop) (f : List Byte → Dev → Dev) : Prop :=
  ∀ e : List Byte, Does c (fun d => d.atFront e ∧ eOp e = op ∧ eLen e = len ∧ p e d) (fun d => f e d.taken)

/-- The same where the command leaves a device that `q` says of the entry and the device before and after. -/
def ExecutesTo (c : Instr) (op len : Nat) (p : List Byte → Dev → Prop) (q : List Byte → Dev → Dev → Prop) : Prop :=
  ∀ e : List Byte, Leaves c (fun d => d.atFront e ∧ eOp e = op ∧ eLen e = len ∧ p e d) (q e)

/-- `t` has passed the entry `e`, which `d` had at the front: CQ_CI stands behind its slot, and the expected SEQ and the
count of executed entries are one up (R436, R438, R448). -/
def Dev.passes (d t : Dev) (e : List Byte) : Prop :=
  t.get R.CQ_CI_INDEX = (d.get R.CQ_CI_INDEX + eSlot e) % 65536 ∧ t.get R.CQ_SEQX_SEQ = (d.get R.CQ_SEQX_SEQ + 1) % 256 ∧
  t.get R.CQ_COUNTS_EXEC = (d.get R.CQ_COUNTS_EXEC + 1) % 65536

/-- The entry `e` has ended OK with DETAIL `x`: it is passed and has joined the batch, whose COMPLETION its flag asks for at
once (R451–R453). -/
def Dev.endsOk (d t : Dev) (e : List Byte) (x : Nat) : Prop :=
  d.passes t e ∧ t.ring.batch = if bitOf (eFlags e) 6 then none
    else some ⟨(d.ring.batch.map (·.count)).getD 0 + 1, eTag e, eOp e, eSeq e, x⟩

/-- The entry `e` has ended with an error status: it is passed, and its batch is completed (R452). -/
def Dev.endsBad (d t : Dev) (e : List Byte) : Prop := d.passes t e ∧ t.ring.batch = none

/-- The asynchronous command of the entry `e` is in flight: the entry is passed, and the batch before it is part of the
command's COMPLETION (R452). -/
def Dev.inProgress (d t : Dev) (e : List Byte) : Prop :=
  d.passes t e ∧ t.ring.batch = none ∧
  ∃ a : Async, t.ring.asyncs = d.ring.asyncs ++ [a] ∧ a.op = eOp e ∧ a.tag = eTag e ∧ a.seq = eSeq e ∧
    a.count = (d.ring.batch.map (·.count)).getD 0 + 1

/-- The record of the asynchronous command that the entry `e` starts, and the device in which it is in flight (R452). -/
def Dev.inFlight (d : Dev) (e : List Byte) (arg : Nat) : Async := (d.cqAsync e arg).1
def Dev.started (d : Dev) (e : List Byte) (arg : Nat) : Dev := (d.cqAsync e arg).2

/-- No word of exchange RAM has an ECC error, and none met is still to be counted. -/
def Dev.xramClean (d : Dev) : Prop := d.mem.single = [] ∧ d.mem.poisoned = [] ∧ d.mem.met = []

/-! ### Instructions of the core -/

/-- The core is about to execute the word `w`: the device is out of reset, the core is on and BUSY, and the word at its
program counter is `w`, which is legal and whose condition `cond` holds (R313, R314). -/
def Dev.about (d : Dev) (w : Word) (cond : BitVec 4) : Prop :=
  d.sys.inReset = false ∧ d.seqAt w = true ∧ illegal w = false ∧ d.seq.holds cond = true

/-- `k` more cycles stay within the budget of the tick period, where cycles count (R288, R289). -/
def Dev.roomFor (d : Dev) (k : Nat) : Prop := d.counting = true → d.seq.budget = 0 ∨ d.seq.cycles + k < d.seq.budget

/-- The instruction after this one lies in the image (R337). -/
def Dev.nextInImage (d : Dev) : Prop := d.seq.pc + 1 < d.nwords

/-- The device once an instruction of `k` cycles has completed with the core at word address `next`: cycles count in
RUNNING and STOPPING (R288, R348). -/
def Dev.ran (d : Dev) (k next : Nat) : Dev :=
  { d with seq := { d.seq with
      cycles := if d.counting then d.seq.cycles + k else d.seq.cycles
      exhausted := if d.counting then false else d.seq.exhausted
      pc := next } }

/-- N and Z of a result, with the C and V an operation sets, written with S = 1 (R318). -/
def Seq.withFlags (q : Seq) (s : Bool) (r : Word) (c v : Option Bool) : Seq :=
  if s then { q with n := r.msb, z := decide (r = 0), c := c.getD q.c, v := v.getD q.v } else q

/-- The device with the result `r` in g`rd` and, with S = 1, its flags (R277, R318). -/
def Dev.result (d : Dev) (s : Bool) (rd : BitVec 4) (r : Word) (c v : Option Bool) : Dev :=
  { d.setG rd r with seq := (d.setG rd r).seq.withFlags s r c v }

/-- The instruction `i`, of condition `cond`, completes in every state that is about to execute it, in `k` cycles that
fit the budget, with the next word in the image: it leaves what `f` says, the core at the next word, and all else as it
was. -/
def CompletesWith (i : Instr) (cond : BitVec 4) (k : Nat) (f : Dev → Dev) : Prop :=
  ∀ (s : State) (w : Word), coreWord i = some w → s.dev.about w cond → s.dev.roomFor k → s.dev.nextInImage →
    Sys2Proof.Machine.exec i s = .next { s with dev := (f s.dev).ran k (s.dev.seq.pc + 1) }

/-- The same in the states that meet `p`, in a number of cycles that depends on the state. -/
def CompletesWhen (i : Instr) (cond : BitVec 4) (p : Dev → Prop) (k : Dev → Nat) (f : Dev → Dev) : Prop :=
  ∀ (s : State) (w : Word), coreWord i = some w → s.dev.about w cond → p s.dev → s.dev.roomFor (k s.dev) →
    s.dev.nextInImage → Sys2Proof.Machine.exec i s = .next { s with dev := (f s.dev).ran (k s.dev) (s.dev.seq.pc + 1) }

/-- The instruction `i`, of condition `cond`, goes to the word address `dest` of the image, after 2 cycles, in every state
that is about to execute it: it leaves what `f` says, and all else as it was. -/
def BranchesTo (i : Instr) (cond : BitVec 4) (dest : Dev → Nat) (f : Dev → Dev) : Prop :=
  ∀ (s : State) (w : Word), coreWord i = some w → s.dev.about w cond → s.dev.roomFor 2 → dest s.dev < s.dev.nwords →
    Sys2Proof.Machine.exec i s = .next { s with dev := (f s.dev).ran 2 (dest s.dev) }

/-- The instruction `i`, of condition `cond`, faults with `cause` and the address `addr` in every state that is about to
execute it and meets `p`, after `k` cycles: the device counts the cycles and takes the fault of R290, and all else is as
it was. -/
def FaultsWith (i : Instr) (cond : BitVec 4) (p : Dev → Prop) (k cause : Nat) (addr : Dev → Option Nat) : Prop :=
  ∀ (s : State) (w : Word), coreWord i = some w → s.dev.about w cond → p s.dev →
    Sys2Proof.Machine.exec i s =
      .next { s with dev := (s.dev.seqCount k).seqFault cause s.dev.seq.pc (addr s.dev) }

/-- No byte of exchange RAM from `o` on, `n` bytes long, lies in a word with an ECC error, and no error met is still to be
counted (R420). -/
def Dev.eccFree (d : Dev) (o n : Nat) : Prop :=
  d.mem.met = [] ∧ ∀ w, w ∈ d.mem.single ∨ w ∈ d.mem.poisoned → ¬(o < 8 * w + 8 ∧ 8 * w < o + n)

/-- An aligned access of `n` bytes to DMEM; one to exchange RAM, its bank ON and its words without ECC errors (R329). -/
def Dev.dmemOk (_d : Dev) (a n : Nat) : Prop := a % n = 0 ∧ a < 0x4000
def Dev.xramOk (d : Dev) (a n : Nat) : Prop :=
  a % n = 0 ∧ 0x10000 ≤ a ∧ a < 0x20000 ∧ d.xramOn (a - 0x10000) = true ∧ d.eccFree (a - 0x10000) n

/-- The byte at data address `a`, of DMEM or of exchange RAM. -/
def Dev.dataByte (d : Dev) (a : Nat) : Byte :=
  if a < 0x10000 then sparseGet dmemDflt d.mem.dmem a else sparseGet xramDflt d.mem.xram (a - 0x10000)

/-- The cycles of an access to data address `a`: 1 in DMEM, 2 and a free stall in exchange RAM (R280); the free value
that it takes. -/
def Dev.dataCycles (d : Dev) (a : Nat) : Nat := if a < 0x4000 then 1 else (d.xramCost (a - 0x10000)).1
def Dev.dataFree (d : Dev) (a : Nat) : Dev := if a < 0x4000 then d else { d with freeCount := d.freeCount + 1 }

/-- The address of a load or store (R328). -/
def Dev.dataAddr (d : Dev) (rs : BitVec 4) (o : Op2) : Nat := (d.g rs + d.op2S o).toNat

end Sys2Proof.Machine
end

