-- ==== Sys2Proof/Certificates/Slice0/Obligations.lean ====
section
/-!
DEFINITION. Certificates/Slice0/Obligations.lean: the statements for the provers: of the whole machine, then of each
family of commands.
-/

open Sys2Proof Sys2Proof.Machine

/-! ### The whole machine -/

/-- R607, R611, R687: after power-on the queue is empty, the device is held in reset, every register reads its reset value
but for SYS_RESET (POR) and the level of SEAT_N, and memories and registers are in canonical form. The level of SEAT_N is
the model's choice (log entry 6). -/
def Obligations.ResetStateIsCanonical : Prop :=
  State.reset.pending = [] ∧ State.reset.dev.canonical = true ∧ State.reset.dev.sys.inReset = true ∧
  State.reset.dev.reg R.SYS_RESET = 1 ∧ State.reset.dev.is R.SYS_STRAPS_SEATPIN = true ∧
  ∀ a, a ≠ R.SYS_RESET → a ≠ R.SYS_STRAPS → State.reset.dev.reg a = regReset a

/-- The command at the front of the queue acts on the device with the rest of the queue waiting. -/
def Obligations.StepTakesTheFrontCommand : Prop :=
  ∀ (s : State) (c : Instr), Sys2Proof.Machine.step { s with pending := c :: s.pending } = Sys2Proof.Machine.exec c s

/-- A step with no command waiting lets a microsecond pass (log entry 2): in reset nothing changes; otherwise the time
since the end of reset goes up by one where no tick, no domain request, no ECC error and, without ticks, no key binding
waits, and with it SYS_TSTAMP outside Heath (R630); the queue stays empty. -/
def Obligations.EmptyQueueLetsTimePass : Prop :=
  ∀ s : State, s.pending = [] →
    (s.dev.sys.inReset = true → Sys2Proof.Machine.step s = .next s) ∧
    (s.dev.sys.inReset = false → s.dev.tick.held = 0 → (∀ q ∈ s.dev.pwr.domReqs, q.waits = false) → (s.dev.ticking = true ∨ s.dev.panel.edBind = []) →
      s.dev.mem.met = [] →
      ∃ t, Sys2Proof.Machine.step s = .next t ∧ t.pending = [] ∧ t.dev.clock = s.dev.clock + 1 ∧ t.dev.mem = s.dev.mem ∧
        (s.dev.pwr.tsFrom = none → t.dev.tstamp = (s.dev.tstamp + 1) % 2 ^ 32))

/-- No command ends in a fault or a refusal, and none touches the queue: the device reports what goes wrong in its own
registers and goes on. -/
def Obligations.EveryCommandAnswersNext : Prop :=
  ∀ (c : Instr) (s : State), ∃ t, Sys2Proof.Machine.exec c s = .next t ∧ t.pending = s.pending

/-- R607, R609: a device that is held in reset stays as it is under every command but the reset sources, SEAT_N and
VDDIO, for as long as only such commands wait. -/
def Obligations.ResetHoldsTheDevice : Prop :=
  ∀ (d : Dev) (s t : State), d.sys.inReset = true →
    s.dev = d ∧ (∀ c ∈ s.pending, wakesReset c = false) → Sys2Proof.Machine.step s = .next t →
    t.dev = d ∧ (∀ c ∈ t.pending, wakesReset c = false)

/-- Every step keeps memories, I/O registers and core registers in canonical form: devices that hold the same contents
are equal data. -/
def Obligations.StepKeepsCanonicalForm : Prop :=
  ∀ s t : State, s.dev.canonical = true → Sys2Proof.Machine.step s = .next t → t.dev.canonical = true

/-- R312, R314, R320: the word of every well-formed instruction of the core is legal and decodes to that instruction,
with every operand. -/
def Obligations.DecodeOfEncodeIsIdentity : Prop :=
  ∀ (i : Instr) (w : Word), i.wellFormed = true → coreWord i = some w → illegal w = false ∧ coreDecode w = some i

/-- R312, R314: a word either is illegal and no instruction, or is the word of the one well-formed instruction that it
decodes to. -/
def Obligations.EveryWordHasOneMeaning : Prop :=
  ∀ w : Word, (illegal w = true ∧ coreDecode w = none) ∨
    (illegal w = false ∧ ∃ i, coreDecode w = some i ∧ coreWord i = some w ∧ i.wellFormed = true)

/-! ### Instructions of the core (chapter 11) -/

/-- R321: ADD, ADDC, SUB, SUBB and ABSD write the sum, the difference or the unsigned distance of rs and op2, AND, OR,
XOR, ANDN, MOV and NOT the bitwise result; for the first, C is the carry or the borrow and V tells that the exact signed
result does not fit 32 bits; ABSD leaves V, and the logic operations leave C and V. -/
def Obligations.AluResultsAndFlags : Prop :=
  ∀ (cond : BitVec 4) (sf : Bool) (rd rs : BitVec 4) (o : Op2),
    CompletesWith (.insAdd cond sf rd rs o) cond 1 (fun d =>
      let a := d.g rs
      let b := d.op2S o
      d.result sf rd (a + b) (some (decide (2 ^ 32 ≤ a.toNat + b.toNat))) (some (decide ((a + b).toInt ≠ a.toInt + b.toInt)))) ∧
    CompletesWith (.insAddc cond sf rd rs o) cond 1 (fun d =>
      let a := d.g rs
      let b := d.op2S o
      let k := d.seq.c.toNat
      let r := a + b + BitVec.ofNat 32 k
      d.result sf rd r (some (decide (2 ^ 32 ≤ a.toNat + b.toNat + k))) (some (decide (r.toInt ≠ a.toInt + b.toInt + k)))) ∧
    CompletesWith (.insSub cond sf rd rs o) cond 1 (fun d =>
      let a := d.g rs
      let b := d.op2S o
      d.result sf rd (a - b) (some (decide (a.toNat < b.toNat))) (some (decide ((a - b).toInt ≠ a.toInt - b.toInt)))) ∧
    CompletesWith (.insSubb cond sf rd rs o) cond 1 (fun d =>
      let a := d.g rs
      let b := d.op2S o
      let k := d.seq.c.toNat
      let r := a - b - BitVec.ofNat 32 k
      d.result sf rd r (some (decide (a.toNat < b.toNat + k))) (some (decide (r.toInt ≠ a.toInt - b.toInt - k)))) ∧
    CompletesWith (.insAbsd cond sf rd rs o) cond 1 (fun d =>
      let a := d.g rs
      let b := d.op2Z o
      d.result sf rd (if b.toNat ≤ a.toNat then a - b else b - a) (some (decide (a.toNat < b.toNat))) none) ∧
    CompletesWith (.insAnd cond sf rd rs o) cond 1 (fun d => d.result sf rd (d.g rs &&& d.op2Z o) none none) ∧
    CompletesWith (.insOr cond sf rd rs o) cond 1 (fun d => d.result sf rd (d.g rs ||| d.op2Z o) none none) ∧
    CompletesWith (.insXor cond sf rd rs o) cond 1 (fun d => d.result sf rd (d.g rs ^^^ d.op2Z o) none none) ∧
    CompletesWith (.insAndn cond sf rd rs o) cond 1 (fun d => d.result sf rd (d.g rs &&& ~~~ d.op2Z o) none none) ∧
    CompletesWith (.insMov cond sf rd o) cond 1 (fun d => d.result sf rd (d.op2Z o) none none) ∧
    CompletesWith (.insNot cond sf rd o) cond 1 (fun d => d.result sf rd (~~~ d.op2Z o) none none)

/-- R322: bit i of a shift's result is a bit of rs, zero or the sign; C is the last bit shifted out and stays when the
amount is 0; V stays. R323: CLZ writes the number of leading zero bits of rs: the `n` for which rs lies below 2^(32−n) and,
unless it is 0, not below 2^(31−n). -/
def Obligations.ShiftsAndLeadingZeros : Prop :=
  (∀ (cond : BitVec 4) (sf : Bool) (rd rs : BitVec 4) (o : Op2),
    ∃ shl shr sar ror : Dev → Word,
      (∀ d, let n := d.amount o
        let a := d.g rs
        n < 32 ∧
        ∀ i, i < 32 →
          (shl d).getLsbD i = (decide (n ≤ i) && a.getLsbD (i - n)) ∧
          (shr d).getLsbD i = a.getLsbD (i + n) ∧
          (sar d).getLsbD i = (if i + n < 32 then a.getLsbD (i + n) else a.msb) ∧
          (ror d).getLsbD i = a.getLsbD ((i + n) % 32)) ∧
      CompletesWith (.insShl cond sf rd rs o) cond 1 (fun d => let n := d.amount o
        d.result sf rd (shl d) (if n = 0 then none else some ((d.g rs).getLsbD (32 - n))) none) ∧
      CompletesWith (.insShr cond sf rd rs o) cond 1 (fun d => let n := d.amount o
        d.result sf rd (shr d) (if n = 0 then none else some ((d.g rs).getLsbD (n - 1))) none) ∧
      CompletesWith (.insSar cond sf rd rs o) cond 1 (fun d => let n := d.amount o
        d.result sf rd (sar d) (if n = 0 then none else some ((d.g rs).getLsbD (n - 1))) none) ∧
      CompletesWith (.insRor cond sf rd rs o) cond 1 (fun d => let n := d.amount o
        d.result sf rd (ror d) (if n = 0 then none else some ((d.g rs).getLsbD (n - 1))) none)) ∧
  ∀ (cond : BitVec 4) (sf : Bool) (rd rs : BitVec 4), ∃ n : Dev → Nat,
    (∀ d, n d ≤ 32 ∧ (d.g rs).toNat < 2 ^ (32 - n d) ∧ (d.g rs ≠ 0 → 2 ^ (31 - n d) ≤ (d.g rs).toNat ∧ n d ≤ 31) ∧
      (d.g rs = 0 → n d = 32)) ∧
    CompletesWith (.insClz cond sf rd rs) cond 1 (fun d => d.result sf rd (BitVec.ofNat 32 (n d)) none none)

/-- R324: MUL and MAC write the low word of a product (MAC adds rd), MULHS and MULHU the high word of the signed and of
the unsigned 64-bit product; they take 2 cycles and leave C and V. -/
def Obligations.MultiplyResults : Prop :=
  ∀ (cond : BitVec 4) (sf : Bool) (rd rs : BitVec 4) (o : Op2),
    CompletesWith (.insMul cond sf rd rs o) cond 2 (fun d =>
      d.result sf rd (BitVec.ofInt 32 ((d.g rs).toInt * (d.op2S o).toInt)) none none) ∧
    CompletesWith (.insMac cond sf rd rs o) cond 2 (fun d =>
      d.result sf rd (BitVec.ofInt 32 ((d.g rd).toInt + (d.g rs).toInt * (d.op2S o).toInt)) none none) ∧
    CompletesWith (.insMulhs cond sf rd rs o) cond 2 (fun d =>
      d.result sf rd (((d.g rs).signExtend 64 * (d.op2S o).signExtend 64).extractLsb' 32 32) none none) ∧
    CompletesWith (.insMulhu cond sf rd rs o) cond 2 (fun d =>
      d.result sf rd (((d.g rs).setWidth 64 * (d.op2Z o).setWidth 64).extractLsb' 32 32) none none)

/-- R325: for a divisor that is not 0 the divisions take 18 cycles and write the quotient truncated towards zero or the
remainder with the sign of the dividend; DIVS sets V for the one quotient that does not fit, with the result 0x80000000,
and clears it otherwise; C stays. A
divisor of 0 raises DIVZERO after 1 cycle and writes nothing (R290). -/
def Obligations.DivisionResults : Prop :=
  ∀ (cond : BitVec 4) (sf : Bool) (rd rs : BitVec 4) (o : Op2),
    CompletesWhen (.insDivs cond sf rd rs o) cond (fun d => d.op2S o ≠ 0) (fun _ => 18) (fun d =>
      let a := (d.g rs).toInt
      let b := (d.op2S o).toInt
      d.result sf rd (BitVec.ofInt 32 (a.tdiv b)) none (some (decide (a = -2 ^ 31 ∧ b = -1)))) ∧
    CompletesWhen (.insDivu cond sf rd rs o) cond (fun d => d.op2Z o ≠ 0) (fun _ => 18) (fun d =>
      d.result sf rd (BitVec.ofNat 32 ((d.g rs).toNat / (d.op2Z o).toNat)) none none) ∧
    CompletesWhen (.insRems cond sf rd rs o) cond (fun d => d.op2S o ≠ 0) (fun _ => 18) (fun d =>
      let a := (d.g rs).toInt
      let b := (d.op2S o).toInt
      d.result sf rd (BitVec.ofInt 32 (a - a.tdiv b * b)) none none) ∧
    CompletesWhen (.insRemu cond sf rd rs o) cond (fun d => d.op2Z o ≠ 0) (fun _ => 18) (fun d =>
      d.result sf rd (BitVec.ofNat 32 ((d.g rs).toNat % (d.op2Z o).toNat)) none none) ∧
    FaultsWith (.insDivs cond sf rd rs o) cond (fun d => d.op2S o = 0) 1 0x05 (fun _ => none) ∧
    FaultsWith (.insDivu cond sf rd rs o) cond (fun d => d.op2Z o = 0) 1 0x05 (fun _ => none) ∧
    FaultsWith (.insRems cond sf rd rs o) cond (fun d => d.op2S o = 0) 1 0x05 (fun _ => none) ∧
    FaultsWith (.insRemu cond sf rd rs o) cond (fun d => d.op2Z o = 0) 1 0x05 (fun _ => none)

/-- R326, R327, R340: a bitfield that fits the word is extracted with zeros or with its sign, or inserted between the
bits around it; LDI loads its halfword; MRF writes the flag word; MWF sets the flags. -/
def Obligations.FieldsAndMoves : Prop :=
  ∀ (cond : BitVec 4) (sf : Bool) (rd rs : BitVec 4) (lsb wm1 : BitVec 5) (o : Op2) (imm : BitVec 16),
    (lsb.toNat + wm1.toNat ≤ 31 → ∃ bfx bfxs bfi : Dev → Word,
      (∀ d i, i < 32 →
        (bfx d).getLsbD i = (decide (i ≤ wm1.toNat) && (d.g rs).getLsbD (lsb.toNat + i)) ∧
        (bfxs d).getLsbD i = (d.g rs).getLsbD (lsb.toNat + min i wm1.toNat) ∧
        (bfi d).getLsbD i = (if lsb.toNat ≤ i ∧ i ≤ lsb.toNat + wm1.toNat then (d.g rs).getLsbD (i - lsb.toNat)
          else (d.g rd).getLsbD i)) ∧
      CompletesWith (.insBfx cond sf rd rs lsb wm1) cond 1 (fun d => d.result sf rd (bfx d) none none) ∧
      CompletesWith (.insBfxs cond sf rd rs lsb wm1) cond 1 (fun d => d.result sf rd (bfxs d) none none) ∧
      CompletesWith (.insBfi cond sf rd rs lsb wm1) cond 1 (fun d => d.result sf rd (bfi d) none none)) ∧
    CompletesWith (.insLdi cond rd 0 imm) cond 1 (fun d => d.setG rd (imm.setWidth 32)) ∧
    CompletesWith (.insLdi cond rd 1 imm) cond 1 (fun d => d.setG rd (imm.signExtend 32)) ∧
    CompletesWith (.insLdi cond rd 2 imm) cond 1 (fun d => d.setG rd (imm ++ (d.g rd).setWidth 16)) ∧
    CompletesWith (.insMrf cond rd) cond 1 (fun d => d.setG rd (BitVec.ofNat 32 (d.seq.v.toNat + 2 * d.seq.c.toNat +
      4 * d.seq.z.toNat + 8 * d.seq.n.toNat + 16 * d.seq.e.toNat))) ∧
    CompletesWith (.insMwf cond o) cond 1 (fun d =>
      let f := fun (k : Nat) => (d.op2Z o).getLsbD k
      { d with seq := { d.seq with v := f 0, c := f 1, z := f 2, n := f 3, e := f 4 } })

/-- R328, R329: an aligned load from DMEM or exchange RAM writes to rd the little-endian word or the extended halfword or
byte at rs + op2, in the cycles of R280, and changes nothing else. -/
def Obligations.LoadsReadDataSpace : Prop :=
  ∀ (cond : BitVec 4) (rd rs : BitVec 4) (o : Op2),
    let at_ := fun (d : Dev) (i : Nat) => d.dataByte (d.dataAddr rs o + i)
    let ok := fun (n : Nat) (d : Dev) => d.dmemOk (d.dataAddr rs o) n ∨ d.xramOk (d.dataAddr rs o) n
    let cost := fun (d : Dev) => d.dataCycles (d.dataAddr rs o)
    let got := fun (v : Dev → Word) (d : Dev) => (d.dataFree (d.dataAddr rs o)).setG rd (v d)
    CompletesWhen (.insLd cond rd rs o) cond (ok 4) cost (got fun d => at_ d 3 ++ at_ d 2 ++ at_ d 1 ++ at_ d 0) ∧
    CompletesWhen (.insLdh cond rd rs o) cond (ok 2) cost (got fun d => (at_ d 1 ++ at_ d 0).setWidth 32) ∧
    CompletesWhen (.insLdhs cond rd rs o) cond (ok 2) cost (got fun d => (at_ d 1 ++ at_ d 0).signExtend 32) ∧
    CompletesWhen (.insLdb cond rd rs o) cond (ok 1) cost (got fun d => (at_ d 0).setWidth 32) ∧
    CompletesWhen (.insLdbs cond rd rs o) cond (ok 1) cost (got fun d => (at_ d 0).signExtend 32)

/-- R328, R329, R331: an aligned store writes the low bytes of rd, least significant first, at rs + op2; every other byte
of data space reads as before, and nothing but that memory, the cycles and the program counter changes. -/
def Obligations.StoresWriteTheirBytesAlone : Prop :=
  ∀ (cond : BitVec 4) (rd rs : BitVec 4) (o : Op2) (n : Nat) (i : Instr),
    (n = 4 ∧ i = .insSt cond rd rs o) ∨ (n = 2 ∧ i = .insSth cond rd rs o) ∨ (n = 1 ∧ i = .insStb cond rd rs o) →
    ∀ (s : State) (w : Word), coreWord i = some w → s.dev.about w cond → s.dev.nextInImage →
      let d := s.dev
      let a := d.dataAddr rs o
      d.dmemOk a n ∨ d.xramOk a n → d.roomFor (d.dataCycles a) →
      ∃ m : Mems,
        (∀ x, ({ d with mem := m } : Dev).dataByte x =
          if a ≤ x ∧ x < a + n then (d.g rd).extractLsb' (8 * (x - a)) 8 else d.dataByte x) ∧
        (a < 0x4000 → m = { d.mem with dmem := m.dmem }) ∧ (0x4000 ≤ a → m = { d.mem with xram := m.xram }) ∧
        Sys2Proof.Machine.exec i s =
          .next { s with dev := ({ d.dataFree a with mem := m } : Dev).ran (d.dataCycles a) (d.seq.pc + 1) }

/-- R329, R332, R290: a load, store, IN or OUT whose address is not aligned raises ALIGN, and one whose address lies
outside its space raises BADADDR; neither accesses anything. -/
def Obligations.BadAddressesFault : Prop :=
  ∀ (cond : BitVec 4) (rd rs : BitVec 4) (o : Op2),
    let a := fun (d : Dev) => d.dataAddr rs o
    let odd := fun (n : Nat) (d : Dev) => a d % n ≠ 0
    let far := fun (n : Nat) (d : Dev) => a d % n = 0 ∧ 0x4000 ≤ a d ∧ ¬(0x10000 ≤ a d ∧ a d < 0x20000)
    let farIo := fun (d : Dev) => a d % 4 = 0 ∧ 0xFFFF < a d
    (∀ i n, (i, n) ∈ [(Instr.insLd cond rd rs o, 4), (.insLdh cond rd rs o, 2), (.insLdhs cond rd rs o, 2), (.insLdb cond rd rs o, 1),
        (.insLdbs cond rd rs o, 1), (.insSt cond rd rs o, 4), (.insSth cond rd rs o, 2), (.insStb cond rd rs o, 1)] →
      FaultsWith i cond (odd n) 1 0x02 (fun d => some (a d)) ∧ FaultsWith i cond (far n) 1 0x03 (fun d => some (a d))) ∧
    (∀ i, i ∈ [Instr.insIn cond rd rs o, .insOut cond rd rs o] →
      FaultsWith i cond (odd 4) 2 0x02 (fun d => some (a d)) ∧ FaultsWith i cond farIo 2 0x03 (fun d => some (a d)))

/-- R332, R334: IN writes to rd what a read of the register at rs + op2 by the program gives; OUT writes rd to it, with
the core at the next word; TBL writes the code word of the active bank, and raises TBLRANGE beyond the image. -/
def Obligations.InOutAndTables : Prop :=
  ∀ (cond : BitVec 4) (rd rs : BitVec 4) (o : Op2),
    let a := fun (d : Dev) => d.dataAddr rs o
    CompletesWhen (.insIn cond rd rs o) cond (fun d => a d % 4 = 0 ∧ a d ≤ 0xFFFF) (fun _ => 2)
      (fun d => (d.ioRead false (a d)).2.setG rd (d.ioRead false (a d)).1) ∧
    (∀ (s : State) (w : Word), coreWord (.insOut cond rd rs o) = some w → s.dev.about w cond →
      a s.dev % 4 = 0 → a s.dev ≤ 0xFFFF →
      let pc := s.dev.seq.pc
      let d := (({ s.dev with seq := { s.dev.seq with pc := pc + 1 } } : Dev).ioWrite false (a s.dev) (s.dev.g rd).toNat).seqCount 2
      Sys2Proof.Machine.exec (.insOut cond rd rs o) s = .next { s with dev := if d.sq = sqBusy then d.seqDone pc (pc + 1) else d }) ∧
    CompletesWhen (.insTbl cond rd rs o) cond (fun d => a d < d.nwords) (fun _ => 2)
      (fun d => d.setG rd (d.codeWord d.activeBank (a d))) ∧
    FaultsWith (.insTbl cond rd rs o) cond (fun d => d.nwords ≤ a d) 2 0x09 (fun d => some (a d))

/-- R335, R336: B and BL go to A + sx(disp22), JR and JL to the address in rs, each in 2 cycles; BL and JL first put
A + 1 in g15, JL after it has read rs. -/
def Obligations.BranchesAndCalls : Prop :=
  ∀ (cond : BitVec 4) (rs : BitVec 4) (disp : BitVec 22),
    let target := fun (d : Dev) => (BitVec.ofNat 32 d.seq.pc + disp.signExtend 32).toNat
    let link := fun (d : Dev) => d.setG 15 (BitVec.ofNat 32 (d.seq.pc + 1))
    BranchesTo (.insB cond disp) cond target (fun d => d) ∧ BranchesTo (.insBl cond disp) cond target link ∧
    BranchesTo (.insJr cond rs) cond (fun d => (d.g rs).toNat) (fun d => d) ∧
    BranchesTo (.insJl cond rs) cond (fun d => (d.g rs).toNat) link

/-- R287, R338, R339: EVT and EVC write the pending events of the mask to rd and set E to whether there are any; EVC then
clears them. WAIT does what EVT does when an event of the mask is pending; otherwise the core waits, at most one tick
period. WAIT_END, once an event of the mask is pending or the time has passed, gives a waiting core what EVT would, counts
a wait without an event, and lets it go on; sooner it does nothing. -/
def Obligations.EventsAndWaiting : Prop :=
  ∀ (cond : BitVec 4) (rd rs : BitVec 4) (o : Op2),
    let ev := fun (d : Dev) => d.get R.SEQ_EVPEND_EV &&& ((d.op2Z o).toNat % 2048)
    let take := fun (d : Dev) (rd : BitVec 4) (v : Nat) =>
      ({ d.setG rd (BitVec.ofNat 32 v) with seq := { (d.setG rd (BitVec.ofNat 32 v)).seq with e := decide (v ≠ 0) } } : Dev)
    CompletesWith (.insEvt cond rd o) cond 2 (fun d => take d rd (ev d)) ∧
    CompletesWith (.insEvc cond rd o) cond 2 (fun d =>
      (take d rd (ev d)).put R.SEQ_EVPEND_EV (d.get R.SEQ_EVPEND_EV - ev d)) ∧
    CompletesWhen (.insWait cond rd rs o) cond (fun d => ev d ≠ 0) (fun _ => 2) (fun d => take d rd (ev d)) ∧
    (∀ (s : State) (w : Word), coreWord (.insWait cond rd rs o) = some w → s.dev.about w cond → ev s.dev = 0 →
      s.dev.roomFor 2 →
      let d := s.dev
      let n := if (d.g rs).toNat = 0 then d.tickPeriod else min (d.g rs).toNat d.tickPeriod
      let wait : WaitInfo := ⟨rd.toNat, (d.op2Z o).toNat % 2048, d.clock, d.clock + n⟩
      let d1 : Dev := { d with seq := { d.seq with wait := some wait } }
      Sys2Proof.Machine.exec (.insWait cond rd rs o) s =
        .next { s with dev := (d1.put R.SEQ_STATUS_STATE 3).ran 2 d.seq.pc }) ∧
    (∀ (s : State) (x : WaitInfo), s.dev.sys.inReset = false → s.dev.seqOn = true → s.dev.sq = sqWaiting →
      s.dev.seq.wait = some x → s.dev.get R.SEQ_EVPEND_EV &&& x.mask ≠ 0 ∨ x.until_ ≤ s.dev.clock →
      let v := s.dev.get R.SEQ_EVPEND_EV &&& x.mask
      let d1 := take s.dev (BitVec.ofNat 4 x.rd) v
      let d2 := if v = 0 then d1.inc R.SEQ_COUNTS_WAITTO else d1
      let d3 := d2.put R.SEQ_STATUS_STATE 2
      Sys2Proof.Machine.exec .waitEnd s = .next { s with dev :=
        ({ d3 with seq := { d3.seq with wait := none } } : Dev).seqDone s.dev.seq.pc (s.dev.seq.pc + 1) }) ∧
    ∀ x : WaitInfo, Does .waitEnd (fun d => d.seq.wait = some x ∧ d.get R.SEQ_EVPEND_EV &&& x.mask = 0 ∧ d.clock < x.until_)
      (fun d => d)

/-- R292, R293, R300, R301, R341–R343, R618: END leaves the core idle, outside every handler: in TICK the pins parked by a
removal are driven again, and in RESET STATE becomes READY, or a RUN held meanwhile starts the check from there. HALT
halts the core with HALTINSN; BRK stops it in BREAK at its own address when DBGEN is 1, and raises the fault BRK when it
is 0. -/
def Obligations.HandlerEndsAndStops : Prop :=
  ∀ (cond : BitVec 4) (s : State) (w : Word), s.dev.about w cond → s.dev.roomFor 1 →
    let d := s.dev
    let e := (d.put R.SEQ_STATUS_STATE 1).put R.SEQ_STATUS_ENTRY 0
    (coreWord (.insEnd cond) = some w → d.get R.SEQ_STATUS_ENTRY ≠ 1 → ¬(d.get R.SEQ_STATUS_ENTRY = 2 ∧ d.st = stRunning) →
      Sys2Proof.Machine.exec (.insEnd cond) s = .next { s with dev := e.ran 1 d.seq.pc }) ∧
    (coreWord (.insEnd cond) = some w → d.get R.SEQ_STATUS_ENTRY = 2 → d.st = stRunning →
      Sys2Proof.Machine.exec (.insEnd cond) s =
        .next { s with dev := ({ e with panel := { e.panel with parked := false } } : Dev).ran 1 d.seq.pc }) ∧
    (coreWord (.insEnd cond) = some w → d.get R.SEQ_STATUS_ENTRY = 1 → d.st = stBootWait → d.seq.heldRun = false →
      Sys2Proof.Machine.exec (.insEnd cond) s = .next { s with dev := (e.setSt stReady).ran 1 d.seq.pc }) ∧
    (coreWord (.insEnd cond) = some w → d.get R.SEQ_STATUS_ENTRY = 1 → d.st = stBootWait → d.seq.heldRun = true →
      ∃ t, Sys2Proof.Machine.exec (.insEnd cond) s = .next t ∧ t.pending = s.pending ∧ t.dev.sq = sqIdle ∧
        t.dev.get R.SEQ_STATUS_ENTRY = 0 ∧ t.dev.st = stChecking ∧ t.dev.sys.checkFrom = stReady ∧
        t.dev.is R.SYS_CTRL_RUN = true ∧ t.dev.is R.SYS_STATUS_REFUSED = false ∧
        t.dev.seq = { d.seq with heldRun := false } ∧ t.dev.mem = d.mem) ∧
    (coreWord (.insHalt cond) = some w →
      Sys2Proof.Machine.exec (.insHalt cond) s = .next { s with dev := ((d.ran 1 d.seq.pc).seqHalt 0x10).seqCount 0 }) ∧
    (coreWord (.insBrk cond) = some w → d.is R.SEQ_CTRL_DBGEN = true →
      ∃ t, Sys2Proof.Machine.exec (.insBrk cond) s = .next t ∧ t.dev.sq = sqBreak ∧
        t.dev.get R.SEQ_BRKPC_PC = d.seq.pc % 8192 ∧ t.dev.seq.breakAt = d.clock ∧ t.dev.mem = d.mem ∧ t.dev.seq.g = d.seq.g) ∧
    (coreWord (.insBrk cond) = some w → d.is R.SEQ_CTRL_DBGEN = false →
      Sys2Proof.Machine.exec (.insBrk cond) s = .next { s with dev := (d.ran 1 d.seq.pc).seqFault 0x07 d.seq.pc none })

/-- R315: an instruction whose condition fails takes 1 cycle and changes no register, flag, memory or I/O register,
whatever the instruction is. -/
def Obligations.FailedConditionDoesNothing : Prop :=
  ∀ (i : Instr) (w : Word) (s : State), coreWord i = some w → illegal w = false → s.dev.sys.inReset = false →
    s.dev.seqAt w = true → s.dev.seq.holds (w.extractLsb' 28 4) = false → s.dev.roomFor 1 → s.dev.nextInImage →
    Sys2Proof.Machine.exec i s = .next { s with dev := s.dev.ran 1 (s.dev.seq.pc + 1) }

/-! ### Handlers and controls of the core (chapter 10) -/

/-- R282, R284: an idle core starts the highest pending entry, in the order RESET, FAULT, TICK, FRAME, EVENT, at its vector,
with E telling whether an enabled event is pending; the entry waits no more, the others still do, and nothing else
changes. -/
def Obligations.HandlersStartByPriority : Prop :=
  ∀ e : Nat, Leaves .handlerStart
    (fun d => d.seqOn = true ∧ d.sq = sqIdle ∧ 4 * (e - 1) < d.nwords ∧
      (if d.seq.pReset then e = 1 else if d.seq.pFault then e = 5 else if d.seq.pTick then e = 2
        else if d.seq.pFrame then e = 3 else e = 4 ∧ d.eventRaised = true))
    (fun d t => t.sq = sqBusy ∧ t.get R.SEQ_STATUS_ENTRY = e ∧ t.get R.SEQ_STATUS_ACTIVE = d.get R.SEQ_STATUS_ACTIVE ∧
      t.seq = { d.seq with
        pReset := d.seq.pReset && e != 1, pFault := d.seq.pFault && e != 5, pTick := d.seq.pTick && e != 2,
        pFrame := d.seq.pFrame && e != 3, lateTicks := 0, enteredAt := d.clock, pc := 4 * (e - 1),
        e := decide (d.get R.SEQ_EVPEND_EV &&& d.get R.SEQ_EVEN_EV ≠ 0) } ∧
      t = { d with regs := t.regs, seq := t.seq } ∧ ∀ a, a ≠ R.SEQ_STATUS → t.reg a = d.reg a)

/-- R290, R291, R307, R314: a fetched word that is illegal raises ILLEGAL after 1 cycle; RESET that has not returned 100
ms after its entry halts the core with RESETTO. A fault of a handler other than FAULT, in a program with a FAULT handler,
and where FS15 does not halt the device, is recorded and leaves the core idle with that entry pending. -/
def Obligations.IllegalWordsAndResetTimeout : Prop :=
  (∀ w : BitVec 32, Does (.illegalEncoding w) (fun d => d.seqAt w = true ∧ illegal w = true)
    (fun d => (d.seqCount 1).seqFault 0x01 d.seq.pc none)) ∧
  Does .resetTimeout (fun d => d.seqOn = true ∧ d.get R.SEQ_STATUS_ENTRY = 1 ∧ d.seq.enteredAt + 100000 ≤ d.clock ∧ (d.sq = sqBusy ∨ d.sq = sqWaiting ∨ d.sq = sqBreak))
    (fun d => d.seqHalt 0x14) ∧
  (∀ (d : Dev) (cause pc : Nat) (addr : Option Nat), cause < 256 → pc < 8192 → d.seqOn = true → d.sq = sqBusy →
    d.get R.SEQ_STATUS_ENTRY ≠ 5 → d.entryPresent 4 = true → d.flt.due = [] →
    d.fltAction 0x15 ≠ 2 → let t := d.seqFault cause pc addr
      t.get R.SEQ_FAULT_CAUSE = cause ∧ t.get R.SEQ_FAULT_PC = pc ∧ t.get R.SEQ_FAULT_ENTRY = d.get R.SEQ_STATUS_ENTRY ∧
      t.sq = sqIdle ∧ t.get R.SEQ_STATUS_ENTRY = 0 ∧ t.seq.pFault = true ∧ t.seq.g = d.seq.g)

/-- R286, R293, R309–R311: RESUME continues from BREAK at the next word, with the cycles spent there counted; HALTREQ
halts a core that is neither EMPTY nor halted, with HOSTREQ; CLRCNT clears SEQ_COUNTS and SEQ_CYCMAX; a doorbell of the
host is stored and raises its event; SEQ_EVEN is written at once. -/
def Obligations.SequencerControlWrites : Prop :=
  (Leaves .seqResume (fun d => d.reached R.SEQ_CTRL ∧ d.sq = sqBreak ∧ d.roomFor (96 * (d.clock - d.seq.breakAt)) ∧ d.nextInImage)
    (fun d t => t.sq = sqBusy ∧ t.seq = (d.ran (96 * (d.clock - d.seq.breakAt)) (d.seq.pc + 1)).seq ∧
      t = { d with regs := t.regs, seq := t.seq } ∧ ∀ a, a ≠ R.SEQ_STATUS → t.reg a = d.reg a)) ∧
  (Leaves .seqHaltreq (fun d => d.reached R.SEQ_CTRL ∧ d.sq ≠ sqEmpty ∧ d.sq ≠ sqHalted)
    (fun d t => ∃ e, d.butRegs e [] ∧ t = e.seqHalt 0x16)) ∧
  (Leaves .seqHaltreq (fun d => d.reached R.SEQ_CTRL ∧ (d.sq = sqEmpty ∨ d.sq = sqHalted)) (fun d t => d.butRegs t [])) ∧
  (Leaves .seqClrcnt (fun d => d.reached R.SEQ_CTRL)
    (fun d t => d.butRegs t [R.SEQ_COUNTS, R.SEQ_CYCMAX] ∧ t.reg R.SEQ_COUNTS = 0 ∧ t.reg R.SEQ_CYCMAX = 0)) ∧
  (∀ v : BitVec 32,
    Leaves (.seqDoorbellWrite v) (fun d => d.seqOn = true) (fun d t =>
      d.butRegs t [R.SEQ_DOORBELL, R.SEQ_EVPEND] ∧ t.reg R.SEQ_DOORBELL = v ∧
      ∀ k, bitOf (t.get R.SEQ_EVPEND_EV) k = (k == 2 || bitOf (d.get R.SEQ_EVPEND_EV) k)) ∧
    Leaves (.seqEvenWrite v) (fun d => d.seqOn = true) (fun d t => d.butRegs t [R.SEQ_EVEN] ∧ t.get R.SEQ_EVEN_EV = v.toNat % 2048))

/-! ### Start-up, reset, seating, supplies (chapter 19) -/

/-- R607, R609–R613, R630: a power-on reset loses every piece of state: the device is held in reset with every register at
its reset value, but for POR in SYS_RESET and the levels of SEAT_N and VDDIO. RST_N does the same to a device that is not
seated, but SYS_HALT_INFO keeps its value, and SYS_RESET records the pin: with one more reset since power-on, or, where
the device was still in reset, beside that reset's causes. A device that was seated is out of reset again at once, seated,
its time at 0, the straps as G0 and G1 then stand, in BOOT_WAIT, and with G0 = 1 the flash boot reads the first 64 bytes.
-/
def Obligations.ResetsAndTheirCauses : Prop :=
  let pinWord := fun (d : Dev) => if d.sys.inReset then BitVec.ofNat 32 ((d.reg R.SYS_RESET).toNat ||| 2)
    else d.oneMoreReset 2
  (∀ s : State, ∃ t : State, Sys2Proof.Machine.exec .powerOnReset s = .next t ∧ t.pending = s.pending ∧
    s.dev.resetTo t.dev 1 (regReset R.SYS_HALT_INFO)) ∧
  (∀ (s : State) (g0 g1 : Bool), s.dev.is R.SYS_STATUS_SEATED = false →
    ∃ t : State, Sys2Proof.Machine.exec (.rstN g0 g1) s = .next t ∧ t.pending = s.pending ∧
      s.dev.resetTo t.dev (pinWord s.dev) (s.dev.reg R.SYS_HALT_INFO)) ∧
  ∀ (s : State) (g0 g1 : Bool), s.dev.is R.SYS_STATUS_SEATED = true →
    ∃ t : State, Sys2Proof.Machine.exec (.rstN g0 g1) s = .next t ∧ t.pending = s.pending ∧
      s.dev.restartTo t.dev (pinWord s.dev) g0 g1

/-- R610, R612, R613, R627: the falling edge of SEAT_N starts the count of 8 ms, and a rising edge in reset ends it. The
seated instant ends reset with the straps sampled, time at 0 and STATE BOOT_WAIT. -/
def Obligations.SeatingEndsReset : Prop :=
  (∀ s : State, s.dev.is R.SYS_STRAPS_SEATPIN = true →
    ∃ t : State, Sys2Proof.Machine.exec .seatNFallingEdge s = .next t ∧ t.pending = s.pending ∧
      t.dev.is R.SYS_STRAPS_SEATPIN = false ∧ t.dev = { s.dev with regs := t.dev.regs, sys := { s.dev.sys with seatFell := some s.dev.clock } } ∧
      ∀ a, a ≠ R.SYS_STRAPS → t.dev.reg a = s.dev.reg a) ∧
  (∀ (s : State) (n : Nat) (rx : List Byte), s.dev.sys.inReset = true →
    ∃ t : State, Sys2Proof.Machine.exec (.removal n rx) s = .next t ∧ t.pending = s.pending ∧
      t.dev.is R.SYS_STRAPS_SEATPIN = true ∧ t.dev = { s.dev with regs := t.dev.regs, sys := { s.dev.sys with seatFell := none } } ∧
      ∀ a, a ≠ R.SYS_STRAPS → t.dev.reg a = s.dev.reg a) ∧
  (∀ (s : State) (g0 g1 : Bool), s.dev.sys.inReset = true →
    ∃ t : State, Sys2Proof.Machine.exec (.seated g0 g1) s = .next t ∧ t.pending = s.pending ∧ t.dev.sys.inReset = false ∧
      t.dev.clock = 0 ∧ t.dev.st = stBootWait ∧ t.dev.is R.SYS_STATUS_SEATED = true ∧ t.dev.is R.SYS_STRAPS_BOOT = g0 ∧
      t.dev.is R.SYS_STRAPS_CHAIN = g1 ∧ t.dev.is R.SYS_STRAPS_SEATPIN = false ∧ t.dev.mem = s.dev.mem ∧
      t.dev.reg R.SYS_RESET = s.dev.reg R.SYS_RESET ∧ t.dev.reg R.SYS_HALT_INFO = s.dev.reg R.SYS_HALT_INFO)

/-- R19, R413, R616, R618, R619, R625, R626, R537: a rising SEAT_N unseats the device. With no periphery frame in
progress: from any state but HALTED and Fallow, with no state request, acquisition ends with every electrode at high
impedance and the pump off, RUN and quad mode are cleared, the pins park, STATE is PARKED, and a node of a running cluster
sends DOWN. HALTED stays HALTED; Fallow turns to PARKED with every domain as it is and SEAT recorded as wake source. When
SEAT_N has then been low for 8 ms the device is seated again: from BOOT_WAIT or READY it returns there, else to READY,
with the domains switched on that Heath had switched off, and HOST; HALTED stays; Fallow ends by the exit. The host port
serves only after qualification. -/
def Obligations.RemovalAndReseat : Prop :=
  let gone := fun (d t : Dev) => t.is R.SYS_STATUS_SEATED = false ∧ t.is R.SYS_STRAPS_SEATPIN = true ∧ t.sys.hostQual = false ∧
    t.sys.seatFell = none ∧ t.hp.held = none ∧ t.panel.parked = true ∧ t.acq.pump = 0 ∧ t.clock = d.clock
  let back := fun (t : Dev) => t.is R.SYS_STATUS_SEATED = true ∧ t.is R.SYS_STRAPS_SEATPIN = false ∧ t.sys.hostQual = false ∧
    t.sys.seatFell = none
  let lost := fun (d : Dev) => d.is R.SYS_STATUS_SEATED = false ∧ ∃ t0, d.sys.seatFell = some t0 ∧ t0 + 8000 ≤ d.clock
  (∀ (n : Nat) (rx : List Byte),
    Leaves (.removal n rx) (fun d => d.is R.SYS_STATUS_SEATED = true ∧ d.st ≠ stHalted ∧ d.pwr.mode ≠ 2 ∧ d.pwr.stateReq = none ∧
        d.pp.active = none ∧ d.calQuiet)
      (fun d t => gone d t ∧ t.st = stParked ∧ t.is R.SYS_CTRL_RUN = false ∧ t.is R.HP_STATUS_QUAD = false ∧ t.acq.now = none ∧
        t.acq.hiZ = true ∧ t.sys.returnTo = d.st ∧ t.tick.held = 0 ∧ t.tick.due = none ∧ t.pwr.mode = 0 ∧
        (d.enumerated = true → d.ticking = true → d.domOn 8 = true → 7 ∈ t.cl.txK)) ∧
    Leaves (.removal n rx) (fun d => d.is R.SYS_STATUS_SEATED = true ∧ d.st = stHalted ∧ d.pp.active = none)
      (fun d t => gone d t ∧ t.st = stHalted ∧ t.mem = d.mem ∧ t.ring = d.ring) ∧
    Leaves (.removal n rx) (fun d => d.is R.SYS_STATUS_SEATED = true ∧ d.st ≠ stHalted ∧ d.pwr.mode = 2 ∧ d.pp.active = none)
      (fun d t => gone d t ∧ t.st = stParked ∧ t.is R.PWR_WSRC_SEAT = true ∧ t.mem = d.mem ∧ t.pwr.mode = 2 ∧
        t.reg R.PWR_DST0 = d.reg R.PWR_DST0 ∧ t.reg R.PWR_DST1 = d.reg R.PWR_DST1)) ∧
  Leaves .reseat (fun d => lost d ∧ d.st = stParked ∧ d.pwr.mode = 0 ∧ d.seq.bootFrom = none)
    (fun d t => back t ∧ t.st = (if d.sys.returnTo = stBootWait then stBootWait else stReady) ∧ t.mem = d.mem ∧
      t.pwr.heathOff = 0 ∧ (∀ k, k < 12 → bitOf d.pwr.heathOff k = true → d.dom k = 0 → t.dom k = 1) ∧
      ∀ k, k < 12 → bitOf d.pwr.heathOff k = false → (k = 7 → d.sys.returnTo ≠ stHeath) → t.dom k = d.dom k) ∧
  Leaves .reseat (fun d => lost d ∧ d.st = stParked ∧ d.pwr.mode = 2)
    (fun d t => back t ∧ t.st = stFallowExit ∧ t.pwr.mode = 0 ∧ t.pwr.hfoOn = true ∧ t.mem = d.mem) ∧
  Leaves .reseat (fun d => lost d ∧ d.st = stHalted) (fun d t => back t ∧ t.st = stHalted ∧ t.mem = d.mem ∧ t.ring = d.ring)

/-- R608, R615: VDDIO falling is one event of FS14 and stops the host port; on its return, and after a reset or a reseat,
the port serves nothing until HCS_N has been seen high. R660: in BOOT_WAIT or READY, and in the check that follows, the
clocks move to the PLL once CLKIN has locked (CHECKING: log entry 20), and back to the oscillator when it stops, until the
next reset or Fallow exit. R299: a flash boot that is not complete 30 ms after its start ends as an image that failed its
check. -/
def Obligations.SuppliesClocksAndBootTimeout : Prop :=
  Does .vddioDrop (fun d => d.is R.SYS_STATUS_VDDIOOK = true) (fun d =>
    let e := d.put R.SYS_STATUS_VDDIOOK 0
    ({ e with sys := { e.sys with hostQual := false }, hp := { e.hp with held := none } } : Dev).raise 0x14 0) ∧
  Does .vddioReturn (fun d => d.is R.SYS_STATUS_VDDIOOK = false) (fun d =>
    let e := d.put R.SYS_STATUS_VDDIOOK 1
    { e with sys := { e.sys with hostQual := false } }) ∧
  Does .hostQualification (fun d => d.is R.SYS_STATUS_SEATED = true ∧ d.is R.SYS_STATUS_VDDIOOK = true)
    (fun d => { d with sys := { d.sys with hostQual := true } }) ∧
  Does .pllSwitch (fun d => d.pwr.pllLost = false ∧ d.clMember = false ∧ (d.st = stBootWait ∨ d.st = stReady ∨ d.st = stChecking))
    (fun d => { d with pwr := { d.pwr with pllOn := true } }) ∧
  Does .pllSwitch (fun d => d.pwr.pllLost = true) (fun d => d) ∧
  Does .clkinLoss (fun d => d.pwr.pllOn = true ∧ d.clMember = false)
    (fun d => { d with pwr := { d.pwr with pllOn := false, pllLost := true } }) ∧
  (∀ t0 : Nat,
    Leaves .bootTimeout (fun d => d.seq.bootFrom = some t0 ∧ t0 + 30000 ≤ d.clock ∧ d.seqOn = true)
      (fun d t => t.seq = { d.seq with bootFrom := none } ∧ t.get R.SEQ_VRES_CODE = 0x0B ∧ t.is R.SEQ_STATUS_AVERIFIED = false ∧
        (∀ x ∈ t.pp.queue, x.desc ≠ 9) ∧ (∀ f, t.pp.active = some f → f.x.desc ≠ 9) ∧
        d.butRegs { t with seq := d.seq, pp := d.pp } [R.SEQ_VRES, R.SEQ_STATUS, R.PP_STATUS] ∧
        t.get R.PP_STATUS_QCNT = t.pp.queue.length % 32))

/-! ### RUN, states and ticks (chapters 02 and 19) -/

/-- R301, R518, R620: a write of 1 to RUN in BOOT_WAIT or READY sets RUN, clears REFUSED and starts the check, on a lead
with a CHECK to its members; by the program within RESET it is held; in every other state, on a cluster member, and while a
power state is being entered (log entry 18), it has no effect. The check ends in RUNNING, with SYS_REASON 0 and its budget
stored, when no cause is found, and otherwise with the cause in SYS_REASON, RUN cleared, REFUSED set, no hop pending (R125)
and the state it came from (no domain request waiting for it). -/
def Obligations.RunStartsTheCheck : Prop :=
  let free := fun (d : Dev) => d.clMember = false ∧ d.pwr.mode ≠ 2 ∧ d.pwr.stateReq = none
  let held := fun (prog : Bool) (d : Dev) => prog = true ∧ d.st = stBootWait ∧ d.get R.SEQ_STATUS_ENTRY = 1
  (∀ prog : Bool,
    Leaves (.runSet prog) (fun d => free d ∧ (d.st = stReady ∨ d.st = stBootWait) ∧ ¬held prog d)
      (fun d t => t.st = stChecking ∧ t.is R.SYS_CTRL_RUN = true ∧ t.is R.SYS_STATUS_REFUSED = false ∧
        t.sys = { d.sys with checkFrom := d.st } ∧ t = { d with regs := t.regs, sys := t.sys, cl := t.cl } ∧
        (∀ a, a ≠ R.SYS_CTRL → a ≠ R.SYS_STATUS → t.reg a = d.reg a) ∧
        (d.clLead = false → t.cl.tx = d.cl.tx) ∧
        (d.clLead = true → d.domOn 8 = true → ∃ f : RingFrame, t.cl.tx = d.cl.tx ++ [f] ∧ f.typ = 3 ∧ f.dst = 15)) ∧
    Does (.runSet prog) (fun d => free d ∧ held prog d)
      (fun d => { d with seq := { d.seq with heldRun := true } }) ∧
    Does (.runSet prog) (fun d => d.clMember = true ∨ d.pwr.stateReq.isSome = true ∨ d.pwr.mode = 2 ∨ (d.st ≠ stReady ∧ d.st ≠ stBootWait)) (fun d => d)) ∧
  Leaves .checkEnd (fun d => d.st = stChecking ∧ d.checkCause = none ∧ d.clMember = false ∧ d.pwr.domReqs = [])
    (fun d t => t.st = stRunning ∧ t.is R.SYS_CTRL_RUN = true ∧ t.reg R.SYS_REASON = 0 ∧
      t.get R.TICK_BUDGET_TACQ = min d.tAcq 65535 ∧ t.get R.TICK_BUDGET_MINPER = min d.minPer 65535 ∧
      t.get R.HOP_STATUS_CUR = d.get R.HOP_CTRL_START ∧ t.tick.first = true ∧ t.tick.due = none ∧
      t.acq.orient = (d.reg R.ACQ_ORIENT).toNat ∧ t.mem = d.mem ∧ t.ring = d.ring ∧ t.seq = d.seq) ∧
  (∀ r : Nat × Nat,
    Leaves .checkEnd (fun d => d.st = stChecking ∧ d.checkCause = some r ∧ d.pwr.domReqs = []) (fun d t =>
      t.get R.SYS_REASON_CODE = r.1 % 256 ∧ t.get R.SYS_REASON_DETAIL = r.2 % 65536 ∧ t.is R.SYS_CTRL_RUN = false ∧
      t.is R.SYS_STATUS_REFUSED = true ∧ t.st = d.sys.checkFrom % 16 ∧ t.get R.HOP_STATUS_PENDING = 0 ∧
      t.hop = { d.hop with pending := none, forced := none } ∧
      d.butRegs { t with hop := d.hop } [R.SYS_REASON, R.SYS_CTRL, R.SYS_STATUS, R.CL_MREASON, R.HOP_STATUS]))

/-- R60, R125, R308, R621: a write of 0 to RUN cancels a check, back to the state it came from with no reason recorded and
no hop pending; from RUNNING it clears RUN, drops a pending hop and starts STOPPING; in any other state, and on a cluster
member, it has no effect. A handler that still runs one period later is stopped and counted. Once every frame is processed
and its handler has returned, every contact and virtual key ends, the electrodes float and STATE is READY. -/
def Obligations.RunClearStops : Prop :=
  (∀ prog : Bool,
    Leaves (.runClear prog) (fun d => d.clMember = false ∧ d.st = stChecking ∧ d.pwr.domReqs = [] ∧ d.calQuiet)
      (fun d t => t.st = d.sys.checkFrom % 16 ∧ t.is R.SYS_CTRL_RUN = false ∧ t.reg R.SYS_REASON = 0 ∧
        t.get R.HOP_STATUS_PENDING = 0 ∧ t.hop = { d.hop with pending := none, forced := none } ∧
        d.butRegs { t with hop := d.hop, cl := d.cl } [R.SYS_STATUS, R.SYS_CTRL, R.SYS_REASON, R.HOP_STATUS] ∧
        (d.clLead = false → t.cl = d.cl)) ∧
    Leaves (.runClear prog) (fun d => d.clMember = false ∧ d.st = stRunning ∧ d.calQuiet)
      (fun d t => t.st = stStopping ∧ t.is R.SYS_CTRL_RUN = false ∧ t.get R.HOP_STATUS_PENDING = 0 ∧
        t.hop = { d.hop with pending := none, forced := none }) ∧
    Does (.runClear prog) (fun d => d.clMember = true ∨
      (d.st ≠ stChecking ∧ d.st ≠ stRunning ∧ d.flt.due = [] ∧ ¬(d.clLead = true ∧ d.cl.clearRun = true))) (fun d => d)) ∧
  Does .seqStopTimeout (fun d => d.st = stStopping ∧ d.handlerRuns = true) (fun d =>
    let e : Dev := { d with seq := { d.seq with wait := none } }
    let e := (e.put R.SEQ_STATUS_STATE 1).put R.SEQ_STATUS_ENTRY 0
    (e.inc R.SEQ_COUNTS_NFAULT).raise 0x06 3) ∧
  Leaves .stopComplete (fun d => d.st = stStopping ∧ d.quiet = true ∧ ¬(d.clLead = true ∧ d.cl.clearRun = true) ∧
      d.pwr.stateReq = none)
    (fun d t => t.st = stReady ∧ t.acq = { d.acq with hiZ := true, listen := [] } ∧ t.ct.contacts = [] ∧
      t.get R.CT_STATUS_NTRACK = 0 ∧ t.is R.CT_STATUS_GORSEON = false ∧ t.reg R.CT_VKEYS = 0 ∧ t.tick.held = 0 ∧
      t.tick.due = none ∧ t.img.kept = decide (2 ≤ d.get R.IMG_STATUS_SWSTATE) ∧
      (d.ct.contacts = [] → d.reg R.CT_VKEYS = 0 → t.mem = d.mem ∧ t.ring = d.ring))

/-- R35–R37, R53, R61, R519, R531: the first tick, or one that PERIOD has passed before, and no sooner than MINPER after the
previous one, increments TICK_COUNT and records SYS_TSTAMP, with no announced settings; one that comes sooner is held; with
VSYNC it comes where it is due, an aligned tick held past a later edge goes first, and the next sub-tick is due one spacing
later. A lead sends TICK with the settings whose echo has returned, and else TICKH. R587, R588, R590: Heath has its own
ticks, with the oscillator running 40 µs before each; its entry's work done, the contacts end, the request is answered, and
the Heath set drains; with no domain of it ON, STATE is HEATH at once. -/
def Obligations.TicksOfTheSource : Prop :=
  let runs := fun (d : Dev) => d.st = stRunning ∨ d.st = stStopping
  let passed := fun (d : Dev) => d.tick.first = true ∨ d.tick.lastTick + d.tick.spacing ≤ d.clock
  let early := fun (d : Dev) => d.tick.first = false ∧ d.clock < d.tick.lastTick + d.get R.TICK_BUDGET_MINPER
  let timed := fun (d : Dev) => runs d ∧ d.get R.TICK_CTRL_SRC = 0
  let goes := fun (d : Dev) => timed d ∧ passed d ∧ ¬early d
  let synced := fun (d : Dev) => runs d ∧ d.get R.TICK_CTRL_SRC = 1
  let next := fun (d : Dev) => (d.get R.TICK_COUNT_COUNT + 1) % 2 ^ 32
  let gap := fun (d : Dev) => d.tick.vper / (d.get R.TICK_CTRL_RATIO + 1)
  let queued := fun (e : Dev) => if e.sourced && e.vsyncDue then ({ e with tick := { e.tick with held := 1 } } : Dev) else e
  let holds := fun (d : Dev) => ({ d with tick := { d.tick with held := 1 } } : Dev)
  Does .tick (fun d => goes d ∧ d.clLead = false) (fun d => d.tickNow (next d) false none) ∧
  Leaves .tick (fun d => goes d ∧ d.clLead = false) (fun d t =>
    t.get R.TICK_COUNT_COUNT = next d ∧ t.get R.TICK_LAST_TSTAMP = d.tstamp ∧ t.tick.lastTick = d.clock ∧
    t.tick.first = false ∧ t.tick.held = 0) ∧
  Does .tick (fun d => timed d ∧ passed d ∧ early d) holds ∧
  Does .tick (fun d => (timed d ∧ ¬passed d) ∨ ¬runs d ∨ d.get R.TICK_CTRL_SRC = 2) (fun d => d) ∧
  (∀ t0 : Nat,
    Does .tick (fun d => synced d ∧ d.tick.owed = 0 ∧ d.tick.due = some t0 ∧ t0 ≤ d.clock ∧ ¬early d ∧ d.clLead = false)
      (fun d =>
        let left := if d.tick.aligned then d.get R.TICK_CTRL_RATIO else d.tick.subLeft - 1
        let due := if 0 < gap d ∧ (0 < left ∨ d.tick.vsEdge = none) then some (t0 + gap d) else none
        queued (({ d with tick := { d.tick with due := due, aligned := false, subLeft := left } } : Dev).tickNow (next d) false none)) ∧
    Does .tick (fun d => synced d ∧ d.tick.owed = 0 ∧ (d.tick.due = none ∨ (d.tick.due = some t0 ∧ d.clock < t0))) (fun d => d) ∧
    Does .tick (fun d => synced d ∧ early d ∧ (0 < d.tick.owed ∨ (d.tick.due = some t0 ∧ t0 ≤ d.clock))) holds) ∧
  Does .tick (fun d => synced d ∧ 0 < d.tick.owed ∧ ¬early d ∧ d.clLead = false)
    (fun d => queued (({ d with tick := { d.tick with owed := d.tick.owed - 1 } } : Dev).tickNow (next d) false none)) ∧
  Does .tick (fun d => goes d ∧ d.clLead = true ∧ d.cl.echoed = true) (fun d => (d.sendK 1).tickNow (next d) false d.cl.sent) ∧
  Does .tick (fun d => goes d ∧ d.clLead = true ∧ d.cl.echoed = false) (fun d => (d.sendK 2).tickNow (next d) true none) ∧
  Does .heathTick (fun d => d.st = stHeath ∧ d.clMember = false ∧ d.clLead = false ∧ passed d) (fun d => d.tickNow (next d) false none) ∧
  Does .heathTick (fun d => d.st ≠ stHeath ∨ d.clMember = true ∨ ¬passed d) (fun d => d) ∧
  Does .heathHfoStart (fun d => d.st = stHeath) (fun d => { d with pwr := { d.pwr with hfoOn := true } }) ∧
  Does .heathHfoStart (fun d => d.st ≠ stHeath) (fun d => d) ∧
  Does .heathEntryComplete (fun d => d.pwr.stateReq = none) (fun d => d) ∧
  (∀ q : StateReq,
    Does .heathEntryComplete (fun d => d.pwr.stateReq = some q ∧ (q.kind ≠ 1 ∨ q.begun = false ∨ q.done = true ∨ d.quiet = false))
      (fun d => d) ∧
    (q.kind = 1 → q.begun = true → q.done = false →
      let set := fun (d : Dev) => (bitsOf 12 (d.pwr.hcfg / 65536)).filter (fun k => d.domOn k && !(k == 8 && d.enumerated))
      let done := fun (d : Dev) => d.pwr.stateReq = some q ∧ d.quiet = true ∧ d.calQuiet
      let ends := fun (d t : Dev) => t.ct.contacts = [] ∧ t.get R.PWR_RES_CODE = 0 ∧ t.get R.PWR_RES_KIND = 1 ∧
        t.pwr.heathOff = ((set d).map (2 ^ ·)).sum ∧ ∀ k, k < 12 → t.dom k = if k ∈ set d then 3 else d.dom k
      Leaves .heathEntryComplete (fun d => done d ∧ set d ≠ [])
        (fun d t => ends d t ∧ t.st = d.st ∧ t.pwr.mode = d.pwr.mode ∧ t.pwr.stateReq = some { q with done := true }) ∧
      Leaves .heathEntryComplete (fun d => done d ∧ set d = [] ∧ d.st = stRunning ∧ d.pwr.mode = 0 ∧ d.pwr.wakeAt = none ∧ d.gpioWake = false)
        (fun d t => ends d t ∧ t.st = stHeath ∧ t.pwr.mode = 1 ∧ t.pwr.stateReq = none ∧ t.pwr.wakeEn = (d.reg R.PWR_WAKE).toNat ∧
          t.pwr.tsFrom = some d.clock)))

/-- R37, R38, R49, R53–R56: an edge of VSYNC sooner than 6060 µs after the last is a glitch; the second edge within 25 ms
locks and shows the period; each valid one schedules the aligned tick OFFSET µs later and drops and counts the sub-ticks
not yet issued, while an aligned tick that MINPER still holds back stays held. VSYNC lost for 25 ms clears the lock and
counts FS11 with the last period, and ticks stay due at the last spacing. HSYNC locks on a line period of at most 64 µs;
its loss, or a longer line, ungates the rest of a frame that is gated. -/
def Obligations.VsyncAndHsyncLock : Prop :=
  let back := fun (d : Dev) => (d.st = stRunning ∨ d.st = stStopping) ∧ d.tick.aligned = true ∧ d.tick.due ≠ none
  let owed := fun (d : Dev) => d.tick.owed + if back d then 1 else 0
  let aligned := fun (d : Dev) (n : Nat) (p : Nat) => { d.tick with
    vper := p, vsEdge := some d.clock, vsValid := n, subLeft := 0, aligned := true, owed := owed d,
    held := if d.tick.held = 1 ∧ owed d = 0 then 0 else d.tick.held, due := some (d.clock + d.get R.TICK_VSYNC_OFFSET) }
  let skips := fun (d t : Dev) => t.get R.TICK_COUNTS_SKIP =
    min (d.get R.TICK_COUNTS_SKIP + if back d then d.get R.TICK_CTRL_RATIO else d.tick.subLeft) (2 ^ R.TICK_COUNTS_SKIP.width - 1)
  let lost := fun (d t : Dev) => t.is R.TICK_STATUS_HSLOCK = false ∧ t.get R.TICK_VMEAS_HPER = 0 ∧
    t.tick = { d.tick with ungated := d.tick.ungated || (d.is R.TICK_CTRL_HSGATE && d.acq.now.isSome) } ∧
    d.butRegs { t with tick := d.tick } [R.TICK_STATUS, R.TICK_VMEAS]
  (∀ t0 : Nat, let at_ := fun (d : Dev) => d.is R.SYS_STATUS_VDDIOOK = true ∧ d.tick.vsEdge = some t0
    Does .vsyncEdge (fun d => at_ d ∧ d.clock - t0 < 6060) (fun d => d.put R.TICK_STATUS_VGLITCH 1) ∧
    Leaves .vsyncEdge (fun d => at_ d ∧ 6060 ≤ d.clock - t0 ∧ d.clock - t0 ≤ 25000 ∧ 1 ≤ d.tick.vsValid)
      (fun d t => t.is R.TICK_STATUS_VLOCK = true ∧ t.get R.TICK_VMEAS_VPER = d.clock - t0 ∧ skips d t ∧
        t.tick = aligned d (d.tick.vsValid + 1) (d.clock - t0) ∧
        d.butRegs { t with tick := d.tick } [R.TICK_STATUS, R.TICK_VMEAS, R.TICK_COUNTS]) ∧
    Leaves .vsyncEdge (fun d => at_ d ∧ 6060 ≤ d.clock - t0 ∧ (25000 < d.clock - t0 ∨ d.tick.vsValid = 0))
      (fun d t => t.is R.TICK_STATUS_VLOCK = false ∧ t.get R.TICK_VMEAS_VPER = 0 ∧ skips d t ∧ t.tick = aligned d 1 (d.clock - t0) ∧
        d.butRegs { t with tick := d.tick } [R.TICK_STATUS, R.TICK_VMEAS, R.TICK_COUNTS]) ∧
    Leaves .vsyncLoss (fun d => d.tick.vsEdge = some t0 ∧ t0 + 25000 ≤ d.clock)
      (fun d t => ∃ e : Dev, t = e.raise 0x11 (d.get R.TICK_VMEAS_VPER) ∧ e.is R.TICK_STATUS_VLOCK = false ∧
        e.get R.TICK_VMEAS_VPER = 0 ∧ e.tick = { d.tick with vsValid := 0, vsEdge := none, due := e.tick.due } ∧
        (∀ t1, d.tick.due = some t1 → e.tick.due = some t1) ∧
        (d.tick.due = none → 0 < d.vsyncSpacing → e.tick.due = some (max d.clock (d.tick.lastTick + d.vsyncSpacing))) ∧
        d.butRegs { e with tick := d.tick } [R.TICK_STATUS, R.TICK_VMEAS])) ∧
  Leaves .vsyncEdge (fun d => d.is R.SYS_STATUS_VDDIOOK = true ∧ d.tick.vsEdge = none)
    (fun d t => skips d t ∧ t.tick = aligned d 1 d.tick.vper ∧ d.butRegs { t with tick := d.tick } [R.TICK_COUNTS]) ∧
  (∀ n : Nat,
    (0 < n → n ≤ 3072 → Does (.hsyncEdge n) (fun d => d.is R.SYS_STATUS_VDDIOOK = true)
      (fun d => (d.put R.TICK_STATUS_HSLOCK 1).put R.TICK_VMEAS_HPER n)) ∧
    (n = 0 ∨ 3072 < n → Leaves (.hsyncEdge n) (fun d => d.is R.SYS_STATUS_VDDIOOK = true) lost)) ∧
  Leaves .hsyncLoss (fun _ => True) lost

/-- R36, R42, R63, R64, R543: TICK_PERIOD takes a period from 1000 to 50000 µs that is not below MINPER, nor on a running
lead below the cluster's shortest, staged for the next tick while ticks come and at once otherwise; it ignores one out of
range, and rejects the others with PREJ. An invalid TICK_PLAN sets PLANERR; the clears of TICK_CLR take effect at once. -/
def Obligations.TickRegisterWrites : Prop :=
  (∀ v : BitVec 32, let n := v.toNat % 65536
    let low := fun (d : Dev) => n < d.get R.TICK_BUDGET_MINPER ∨ (d.clLead = true ∧ d.st = stRunning ∧ n < d.get R.CL_PERIOD_PERIOD)
    Does (.tickPeriodWrite v) (fun _ => n < 1000 ∨ 50000 < n) (fun d => d) ∧
    Does (.tickPeriodWrite v) (fun d => 1000 ≤ n ∧ n ≤ 50000 ∧ low d) (fun d => d.put R.TICK_STATUS_PREJ 1) ∧
    Does (.tickPeriodWrite v) (fun d => 1000 ≤ n ∧ n ≤ 50000 ∧ ¬low d) (fun d => d.stage R.TICK_PERIOD (BitVec.ofNat 32 n)) ∧
    Does (.tickPlanWrite v) (fun _ => planValid v.toNat = true) (fun d => d.stage R.TICK_PLAN (v &&& 0x13F)) ∧
    Does (.tickPlanWrite v) (fun _ => planValid v.toNat = false) (fun d => d.put R.TICK_STATUS_PLANERR 1)) ∧
  Does .tickClrImgmax (fun _ => True) (fun d => d.put R.TICK_IMGTIME_MAX 0) ∧
  Does .tickClrCounts (fun _ => True) (fun d => d.setReg R.TICK_COUNTS 0)

/-- R4, R5, R13: a value staged while ticks come is not in force before the tick, a later one replaces it, and the tick
puts the staged bits of every register in force and leaves none waiting; while no tick comes it is in force at once. -/
def Obligations.StagedValuesWaitForTheTick : Prop :=
  ∀ (d : Dev) (a : Nat) (v : Word),
    (d.ticking = true → ∀ b, (d.stage a v).reg b = d.reg b) ∧
    (d.ticking = true → (d.stage a v).stagedAt a = some (v &&& rwsMask a)) ∧
    (d.ticking = true → ∀ w : Word, (d.stage a w).stage a v = d.stage a v) ∧
    (d.ticking = true → (d.stage a v).applyStaged.reg a = (d.reg a &&& ~~~ rwsMask a) ||| (v &&& rwsMask a)) ∧
    (d.ticking = false → (d.stage a v).reg a = (d.reg a &&& ~~~ rwsMask a) ||| (v &&& rwsMask a)) ∧
    d.applyStaged.staged = []

/-! ### Frames (chapters 03 to 07) -/

/-- R79, R82, R84, R85, R86, R88, R102–R106, R200, R203, R204: in a frame, the listen slot records every pair that has an
input, with whether it clipped. The levels then read 0 where nothing was recorded and 511 where every input clipped, and
CLIP counts the clipped. The mutual scan marks, as corrupt and to be retried, exactly the symbols that overloaded or
failed the residual check on some channel or ran with VHV out of its limit, and asks for no retry once none can end by the
deadline. A retry replaces the value on the channels that had marked it corrupt, unless it is not clean. A self pass gives
each electrode of the pass its symbols, or none where its channel overloaded, VHV was out of its limit or its line is
dead. A burst of accepted words makes the approach sample. -/
def Obligations.FrameMeasurementsAreTaken : Prop :=
  let only := fun (d t : Dev) => d.butRegs { t with acq := d.acq, freeCount := d.freeCount } [R.ACQ_STATUS]
  let pairs := fun (d : Dev) => (List.range 16).filter (fun k => d.role (2 * k) = 2 ∨ d.role (2 * k + 1) = 2)
  (∀ (f : Frame) (inputs : List (Nat × Bool × List Nat)),
    Leaves (.listenSlot inputs) (fun d => d.acq.now = some f ∧ f.listened = false) (fun d t => only d t ∧
      (∃ g, t.acq.now = some g ∧ g.listened = true ∧ g.tick = f.tick ∧ g.y = f.y ∧ g.phaseAt = d.clock) ∧
      t.acq.listen.map (·.1) = pairs d ∧
      (d.cal.touch = none → t.acq.listen.map (fun e => (e.1, e.2.1)) =
        (pairs d).map (fun k => (k, ((inputs.lookup k).getD (false, [])).1)))) ∧
    Leaves .noiseLevels (fun d => d.acq.now = some f ∧ f.listened = true ∧ d.clMember = false ∧ d.acq.listen.length ≤ 16)
      (fun d t => d.butRegs t (R.HOP_STATUS :: (List.range 8).map R.HOP_NOISE) ∧
        t.get R.HOP_STATUS_CLIP = (d.acq.listen.filter (fun e => e.2.1)).length ∧
        ∀ h, h < 8 →
          (d.acq.listen = [] → t.get (R.HOP_NOISE_NMAX h) = 0 ∧ t.get (R.HOP_NOISE_NMEAN h) = 0 ∧ t.get (R.HOP_NOISE_WORST h) = 0) ∧
          (d.acq.listen ≠ [] → (∀ e ∈ d.acq.listen, e.2.1 = true) → 4000 ≤ d.get (R.HOP_TABLE_FREQ h) →
            d.get (R.HOP_TABLE_FREQ h) ≤ 60000 → t.get (R.HOP_NOISE_NMAX h) = 511 ∧ t.get (R.HOP_NOISE_NMEAN h) = 511))) ∧
  (∀ (f : Frame) (y : List (List Int)) (ovr : List (List Nat)) (low : List Nat),
    Leaves (.mutualScan y ovr low) (fun d => d.acq.now = some f ∧ d.nextPhase f = some 1 ∧ f.mutDone = false ∧ d.enumerated = false)
      (fun d t => only d t ∧ ∃ g, t.acq.now = some g ∧ g.mutDone = true ∧ g.ncorr = g.ask.length ∧ g.phaseAt = d.clock ∧
        (d.tick.lastTick + d.tick.spacing < d.clock + 150 → g.noRetry = true) ∧
        ∀ j, j ∈ g.ask ↔ j < d.codeLen ∧ ∃ ch, ch < 32 ∧ d.role ch = 2 ∧
          (j ∈ ovr.getD ch [] ∨ (f.level ≠ 0 ∧ j ∈ low) ∨ residualBad d.nRows (d.get R.ACQ_CORR_RESTHR) (g.y.getD ch []) j = true))) ∧
  (∀ (f : Frame) (y : List Int) (ovr : List Nat) (vhvOk : Bool) (j : Nat) (rest : List Nat),
    Leaves (.symbolRetry y ovr vhvOk) (fun d => d.acq.now = some f ∧ f.retryTime = true ∧ f.noRetry = false ∧
        f.nretry < d.get R.ACQ_AFE_RETRY ∧ f.ask = j :: rest ∧ ∀ e, f.exch = some e → e.1 ≤ d.clock ∧ d.clock ≤ e.2)
      (fun d t => only d t ∧ ∃ g, t.acq.now = some g ∧ g.nretry = f.nretry + 1 ∧ g.ask = rest ∧
        ∀ ch, ch < 32 → g.y.getD ch [] =
          if j ∈ f.bad.getD ch [] ∧ (vhvOk = true ∨ f.level = 0) ∧ ch ∉ ovr then (f.y.getD ch []).set j (y.getD ch 0)
          else f.y.getD ch [])) ∧
  (∀ (f : Frame) (ys : List (List Int)) (ovr : List Nat) (low : Bool),
    Leaves (.selfPass ys ovr low) (fun d => d.acq.now = some f ∧ d.nextPhase f = some 2)
      (fun d t => only d t ∧ ∃ g new, t.acq.now = some g ∧ g.selfDone = f.selfDone + 1 ∧ g.selfRaw = f.selfRaw ++ new ∧
        new.map (fun e => (e.1, e.2.1)) = d.selfEls f.selfDone ∧
        ∀ e ∈ new, e.2.2.2 = if e.2.1 ∈ ovr ∨ (low = true ∧ f.selfLevel ≠ 0) ∨ d.elDead f e.1 = true then none
          else some ((List.range (d.get R.ACQ_SELF_NSELF)).map (fun j => (ys.getD e.2.1 []).getD j 0)))) ∧
  (∀ (f : Frame) (words : List OptWord) (oc : Bool),
    Leaves (.approachBurst words oc) (fun d => d.acq.now = some f ∧ d.nextPhase f = some 3 ∧ f.approach = true ∧ d.domOn 11 = true ∧
        words ≠ [] ∧ words.length ≤ 4 ∧ ∀ w ∈ words, w.length = 13 ∧ d.wordBad (onOff w) = false)
      (fun d t =>
        let n := words.length
        let sig := clampI (-32768) 32767 (roundDiv ((words.map (fun w => wordSum (onOff w))).sum) (13 * n) - d.getS R.OPT_XT_XTALK)
        (∃ g, t.acq.now = some g ∧ g.apDone = true ∧ g.tick = f.tick) ∧ t.get R.OPT_SAMPLE_NWORD = n ∧
        t.get R.OPT_SAMPLE_SIG = unsigned 16 sig ∧ t.get R.OPT_SAMPLE_DIST = d.distance sig ∧
        t.opt.lfsr = lfsrRun (13 * n) d.opt.lfsr ∧ (oc = true → t.is R.OPT_STATUS_LEDOC = true)))

/-- R44, R46, R57, R87: a frame whose phases have run ends: with no overload and no corrupt symbol its status shows so,
and it waits for the image engine. At the deadline a frame that has not ended is stopped: it is marked as cut, CUTS
counts, and no retry follows. The engine takes the next frame once it has none, and decodes it. A processed frame has left
the engine, with its time in TICK_IMGTIME; in Meadow it has run the image chain and raised FRAME. -/
def Obligations.FrameEndsAndIsProcessed : Prop :=
  (∀ f : Frame,
    let clean := fun (d : Dev) => d.acq.now = some f ∧ f.ovl = none ∧ f.lovl = none ∧ f.ncorr = 0 ∧ f.nretry ≤ 4 ∧
      d.clLead = false ∧ d.st ≠ stHalted ∧ d.flt.due = []
    Leaves .acquisitionEnd (fun d => clean d ∧ d.frameComplete f = true)
      (fun d t => t.acq.now = none ∧ t.acq.ready = d.acq.ready ++ [f] ∧ t.get R.ACQ_FSTAT_NCORR = 0 ∧
        t.get R.ACQ_FSTAT_NRETRY = f.nretry ∧ t.is R.ACQ_FSTAT_OVL = false ∧ t.mem = d.mem ∧ t.st = d.st) ∧
    Does .acquisitionEnd (fun d => d.acq.now = some f ∧ d.frameComplete f = true) (fun d => d.acqFinish f) ∧
    Does .acquisitionEnd (fun d => d.acq.now = some f ∧ d.frameComplete f = false) (fun d => d) ∧
    (∀ oc : Bool, Leaves (.acquisitionDeadline ⟨[], oc⟩ ⟨[], []⟩)
      (fun d => clean d ∧ d.frameComplete f = false ∧ d.nextPhase f ≠ some 3)
      (fun d t => t.acq.now = none ∧ t.get R.TICK_COUNTS_CUTS = min (d.get R.TICK_COUNTS_CUTS + 1) 65535 ∧
        t.acq.ready = d.acq.ready ++ [{ f with cut := true, noRetry := true }] ∧ t.st = d.st)) ∧
    (∀ (words : List OptWord) (oc : Bool) (ovr : List (List Nat)) (low : List Nat),
      Does (.acquisitionDeadline ⟨words, oc⟩ ⟨ovr, low⟩) (fun d => d.acq.now = some f ∧ d.frameComplete f = false ∧ d.nextPhase f ≠ some 3)
        (fun d => (d.inc R.TICK_COUNTS_CUTS).acqFinish { d.cutScan f ovr low with cut := true, noRetry := true })) ∧
    (∀ rest : List Frame,
      Leaves .frameProcessingStart (fun d => d.acq.ready = f :: rest ∧ d.acq.proc = none ∧ d.clLead = false ∧ d.cal.wait = [])
        (fun d t => t.acq.ready = rest ∧ (∃ g, t.acq.proc = some g ∧ g.decoded = true ∧ g.tick = f.tick ∧ g.at_ = d.clock) ∧
          t = { d with acq := t.acq, img := t.img })) ∧
    Does .frameProcessingStart (fun d => d.acq.proc = some f ∨ d.acq.ready = []) (fun d => d) ∧
    Leaves .frameProcessed (fun d => d.acq.proc = some f) (fun d t => t.acq.proc = none ∧
      (t.st = stHalted ∨ t.get R.TICK_IMGTIME_LAST = min 65535 (d.clock - f.at_))) ∧
    Does .frameProcessed (fun d => d.acq.proc = some f ∧ f.heath = false ∧ d.isMember = false ∧ d.isRunFrame f = false)
      (fun d =>
        let e := ({ d with acq := { d.acq with proc := none } } : Dev).liveFrame f
        if e.st = stHalted then e
        else
          let e := ((e.openFrame f).dumpFrame f).imgTime f
          let e := (if e.st = stRunning ∨ e.st = stStopping then e.raiseFrame else e).stageSend
          if e.st = stParked ∧ e.acq.ready = [] then e.parkedStop else e)) ∧
  Does .frameProcessed (fun d => d.acq.proc = none) (fun d => d)

/-- R91, R97, R139, R144, R145, R153, R250: while no calibration run holds the contacts, a contact at its time limit is
released as STUCK, or as ABSORBED where it has been LARGE for the absorption time too, and one that has been LARGE so long
as ABSORBED, each counted and no longer tracked; sooner neither is. A group that has been without contact for 5 s is marked
for clearing, and no other. A monitored electrode that is shorted is marked, released and counted once in FS04; VHV off its
target, with DRV on and a level in force, reads so and counts in FS10 with the pump's target. -/
def Obligations.ReleasesAndFrontEndFaults : Prop :=
  let due := fun (d : Dev) (t0 secs : Nat) => secs ≠ 0 ∧ t0 + 1000000 * secs ≤ d.clock + d.tick.spacing
  let gone := fun (slot : Nat) (k : Contact) (reason : Nat) (cnt : Field) (d t : Dev) => t = d.release k reason cnt ∧
    t.ct.contacts = d.ct.contacts.filter (fun c => c.slot != slot) ∧ t.get cnt = min (d.get cnt + 1) 65535
  (∀ (slot : Fin 16) (k : Contact), k.slot = slot.val →
    let here := fun (d : Dev) => d.contactAt slot.val = some k
    let stuck := fun (d : Dev) => due d k.downAt (d.get R.IMG_REST_LIMIT) ∧ d.calHolds = false
    let large := fun (d : Dev) => (∃ t0, k.largeAt = some t0 ∧ due d t0 (d.get R.IMG_ABSORB_TIME)) ∧ d.calHolds = false
    Leaves (.contactStuckRelease slot) (fun d => here d ∧ stuck d ∧ ¬large d) (gone slot.val k 1 R.IMG_COUNTS2_STUCK) ∧
    Leaves (.contactStuckRelease slot) (fun d => here d ∧ stuck d ∧ large d) (gone slot.val k 2 R.IMG_COUNTS2_ABSORB) ∧
    Does (.contactStuckRelease slot) (fun d => here d ∧ ¬stuck d) (fun d => d) ∧
    Leaves (.objectAbsorb slot) (fun d => here d ∧ large d) (gone slot.val k 2 R.IMG_COUNTS2_ABSORB) ∧
    Does (.objectAbsorb slot) (fun d => here d ∧ ¬large d) (fun d => d)) ∧
  (∀ (slot : Fin 16) (c : Instr), c ∈ [Instr.contactStuckRelease slot, .objectAbsorb slot] →
    Does c (fun d => d.contactAt slot.val = none) (fun d => d)) ∧
  (∀ (k : Nat) (g : Grp),
    Leaves (.excludedGroupQuiet k) (fun d => d.img.groups[k]? = some g ∧ g.overlap = false ∧ g.quiet + 5000000 ≤ d.clock)
      (fun d t => t = { d with img := { d.img with groups := t.img.groups } } ∧
        t.img.groups[k]? = some { g with still := true } ∧ ∀ j, j ≠ k → t.img.groups[j]? = d.img.groups[j]?) ∧
    Does (.excludedGroupQuiet k) (fun d => d.img.groups[k]? = some g ∧ (g.overlap = true ∨ d.clock < g.quiet + 5000000))
      (fun d => d)) ∧
  (∀ n : Fin 50,
    Does (.electrodeShort n) (fun d => d.elShort n.val = false ∧ d.shortSeen n.val = true) (fun d =>
      let now := d.acq.now.map (fun f => { f with dead := n.val :: f.dead, shut := n.val :: f.shut })
      (({ d.supDrop n.val with acq := { d.acq with now := now } } : Dev).putBit R.ACQ_SHORTMAP0 R.ACQ_SHORTMAP1 n.val true).raise
        0x04 n.val) ∧
    Does (.electrodeShort n) (fun d => d.elShort n.val = true ∨ d.shortSeen n.val = false) (fun d => d)) ∧
  Does .vhvFault (fun d => d.domOn 5 = true ∧ d.is R.ACQ_STATUS_LEVELNOW = true) (fun d =>
    let e := d.put R.ACQ_STATUS_VHVOK 0
    (({ e with acq := { e.acq with vhvDue := none } } : Dev).raise 0x10 d.acq.pump).checkLeft d.st) ∧
  Does .vhvFault (fun d => d.domOn 5 = false ∨ d.is R.ACQ_STATUS_LEVELNOW = false) (fun d => d)

/-! ### Panel logic (chapter 12) -/

/-- R353, R354, R356, R357, R377: a running timer that expires has COUNT at PRESET (0 in CYCLE), EXP set in both places,
and RUN and Q as its mode says, and raises the TM event where IE is 1; no input, no other timer's bit and no other event
changes. A timer that does not run does not expire. A write to TMk_CFG stops the timer with RUN, Q and COUNT at 0 and EXP
unchanged, and takes the configuration, with 3 in BASE and 6 or 7 in MODE ignored for that field; a write to TMk_PRESET
keeps COUNT; a trigger is kept for the next evaluation in PULSE and RPULSE, and in the other modes changes nothing. -/
def Obligations.TimersExpireAndAreWritten : Prop :=
  let own := fun (k : Fin 64) => if k.val < 32 then R.GPIO_TMEXP0 else R.GPIO_TMEXP1
  ∀ (k : Fin 64) (v : BitVec 32),
    Leaves (.timerExpiry k) (fun d => d.is (R.TM_STAT_RUN k.val) = true)
      (fun d t =>
        let mode := d.get (R.TM_CFG_MODE k.val)
        (mode = 1 → t.is (R.TM_STAT_RUN k.val) = false ∧ t.is (R.TM_STAT_Q k.val) = true) ∧
        (mode = 2 ∨ mode = 3 ∨ mode = 4 → t.is (R.TM_STAT_RUN k.val) = false ∧ t.is (R.TM_STAT_Q k.val) = false) ∧
        (mode = 5 → t.is (R.TM_STAT_RUN k.val) = true ∧ t.is (R.TM_STAT_Q k.val) = !d.is (R.TM_STAT_Q k.val)) ∧
        (mode = 0 ∨ 5 < mode → t.is (R.TM_STAT_RUN k.val) = true ∧ t.is (R.TM_STAT_Q k.val) = d.is (R.TM_STAT_Q k.val)) ∧
        t.get (R.TM_COUNT_COUNT k.val) = (if mode = 5 then 0 else d.get (R.TM_PRESET_PRESET k.val)) ∧
        t.is (R.TM_STAT_EXP k.val) = true ∧ t.is (R.TM_STAT_IN k.val) = d.is (R.TM_STAT_IN k.val) ∧
        (∀ j, j < 32 → (t.reg (own k)).getLsbD j = (decide (j = k.val % 32) || (d.reg (own k)).getLsbD j)) ∧
        (∀ j, j < 11 → bitOf (t.get R.SEQ_EVPEND_EV) j =
          (bitOf (d.get R.SEQ_EVPEND_EV) j || (decide (j = 5) && d.seqLive && d.is (R.TM_CFG_IE k.val)))) ∧
        d.butRegs t [R.TM_STAT k.val, R.TM_COUNT k.val, own k, R.SEQ_EVPEND]) ∧
    Does (.timerExpiry k) (fun d => d.is (R.TM_STAT_RUN k.val) = false) (fun d => d) ∧
    Leaves (.tmCfgWrite k v) (fun _ => True) (fun d t =>
      d.butRegs t [R.TM_CFG k.val, R.TM_STAT k.val, R.TM_COUNT k.val] ∧ t.is (R.TM_STAT_RUN k.val) = false ∧
      t.is (R.TM_STAT_Q k.val) = false ∧ t.get (R.TM_COUNT_COUNT k.val) = 0 ∧
      t.is (R.TM_STAT_EXP k.val) = d.is (R.TM_STAT_EXP k.val) ∧ t.is (R.TM_STAT_IN k.val) = d.is (R.TM_STAT_IN k.val) ∧
      t.get (R.TM_CFG_MODE k.val) = (if v.toNat % 8 < 6 then v.toNat % 8 else d.get (R.TM_CFG_MODE k.val)) ∧
      t.get (R.TM_CFG_BASE k.val) = (if v.toNat / 8 % 4 = 3 then d.get (R.TM_CFG_BASE k.val) else v.toNat / 8 % 4) ∧
      t.is (R.TM_CFG_IE k.val) = v.getLsbD 5 ∧ t.is (R.TM_CFG_SRC k.val) = v.getLsbD 6 ∧
      t.get (R.TM_CFG_EDSEL k.val) = v.toNat / 256 % 64) ∧
    Leaves (.tmPresetWrite k v) (fun _ => True) (fun d t =>
      d.butRegs t [R.TM_PRESET k.val] ∧ t.get (R.TM_PRESET_PRESET k.val) = v.toNat % 2 ^ 24) ∧
    Leaves (.tmTrig k) (fun d => d.get (R.TM_CFG_MODE k.val) = 3 ∨ d.get (R.TM_CFG_MODE k.val) = 4) (fun d t =>
      t = { d with regs := t.regs, panel := { d.panel with tmTrig := t.panel.tmTrig } } ∧ (∀ a, t.reg a = d.reg a) ∧
      ∀ j, bitOf t.panel.tmTrig j = (j == k.val || bitOf d.panel.tmTrig j)) ∧
    Leaves (.tmTrig k) (fun d => d.get (R.TM_CFG_MODE k.val) ≠ 3 ∧ d.get (R.TM_CFG_MODE k.val) ≠ 4) (fun d t => d.butRegs t [])

/-- R359, R362, R365–R367, R372, R596, R597: a write to EDk_CFG of a source that exists sets F and SRC to its level now with
EN = 1 and to 0 without, CNT to 0, with its latch, the other detectors and the events as they were, and one of a source that
does not exist is ignored. GPIO_SET and GPIO_CLR change the written bits of GPIO_OUT alone. A sample shows the level of each
pad in RAW, and a pin that has held its level long enough shows it in DEBOUNCED too; where that is a wake level, it also
ends Heath, and nothing more happens outside Heath and its entry. A PWM that runs takes its written PERIOD and DUTY when its
period ends. A swap that has waited 63 ticks and finds no idle core at the next is refused with NO_IDLE, and no other swap
is. -/
def Obligations.EdgesPinsAndSwaps : Prop :=
  (∀ (k : Fin 64) (v : BitVec 32), let styp := v.toNat / 2 % 8
    let snum := v.toNat / 16 % 32
    let known := styp < 6 ∧ (styp = 0 → snum ≤ 5) ∧ (styp = 2 → snum ≤ 7)
    Does (.edCfgWrite k v) (fun _ => ¬known) (fun d => d) ∧
    Leaves (.edCfgWrite k v) (fun _ => known) (fun d t =>
      let f := v.getLsbD 0 && d.edSource styp snum
      let own := if k.val < 32 then R.ED_LEVEL0 else R.ED_LEVEL1
      t.reg (R.ED_CFG k.val) = v &&& 0xFF0FFF ∧ t.get (R.ED_STAT_CNT k.val) = 0 ∧
      t.is (R.ED_STAT_LEVEL k.val) = f ∧ t.is (R.ED_STAT_SRC k.val) = f ∧
      t.is (R.ED_STAT_LAT k.val) = d.is (R.ED_STAT_LAT k.val) ∧
      (∀ j, j < 32 → (t.reg own).getLsbD j = if j = k.val % 32 then f else (d.reg own).getLsbD j) ∧
      d.butRegs t [R.ED_CFG k.val, R.ED_STAT k.val, own])) ∧
  (∀ v : BitVec 32,
    Leaves (.gpioSet v) (fun _ => True) (fun d t => d.butRegs t [R.GPIO_OUT] ∧
      ∀ n, n < 6 → bitOf (t.get R.GPIO_OUT_PINS) n = (v.getLsbD n || bitOf (d.get R.GPIO_OUT_PINS) n)) ∧
    Leaves (.gpioClr v) (fun _ => True) (fun d t => d.butRegs t [R.GPIO_OUT] ∧
      ∀ n, n < 6 → bitOf (t.get R.GPIO_OUT_PINS) n = (!v.getLsbD n && bitOf (d.get R.GPIO_OUT_PINS) n))) ∧
  (∀ (n : Fin 6) (level : Bool) (pads : BitVec 6),
    let pad := fun (d : Dev) (j : Nat) => if d.pwmRuns j then pads.getLsbD j else (d.pinDrive j 0).getD (pads.getLsbD j)
    let raw := fun (d t : Dev) => ∀ j, j < 6 → bitOf (t.get R.GPIO_IN_RAW) j = pad d j
    let taken := fun (d t : Dev) => ∀ j, j < 6 →
      bitOf (t.get R.GPIO_IN_DEBOUNCED) j = if j = n.val then level else bitOf (d.get R.GPIO_IN_DEBOUNCED) j
    let up := fun (d : Dev) => d.is R.SYS_STATUS_VDDIOOK = true
    let wakes := fun (d : Dev) => d.wakeSet R.PWR_WAKE_GPIO ≠ 0 ∧ bitOf (d.wakeSet R.PWR_WAKE_WPINS) n.val = true ∧
      bitOf (d.wakeSet R.PWR_WAKE_WLVL) n.val = level
    Leaves (.gpioInputDebounced n ⟨level, pads⟩)
      (fun d => up d ∧ pad d n.val = level ∧ (¬wakes d ∨ (d.st ≠ stHeath ∧ d.pwr.stateReq = none)))
      (fun d t => d.butRegs t [R.GPIO_IN] ∧ raw d t ∧ taken d t) ∧
    Leaves (.gpioInputDebounced n ⟨level, pads⟩)
      (fun d => up d ∧ pad d n.val = level ∧ wakes d ∧ d.st = stHeath ∧ d.enumerated = false ∧ d.pwr.waking = false)
      (fun d t => raw d t ∧ taken d t ∧ t.is R.PWR_WSRC_GPIO = true ∧ t.pwr.hfoOn = true) ∧
    Leaves (.gpioInputDebounced n ⟨level, pads⟩) (fun d => up d ∧ pad d n.val ≠ level)
      (fun d t => d.butRegs t [R.GPIO_IN] ∧ raw d t ∧ t.get R.GPIO_IN_DEBOUNCED = d.get R.GPIO_IN_DEBOUNCED) ∧
    Does (.gpioInputDebounced n ⟨level, pads⟩) (fun d => d.is R.SYS_STATUS_VDDIOOK = false) (fun d => d)) ∧
  Does (.pwmPeriodEnd 4) (fun d => d.pwmRuns 4 = true)
    (fun d => { d with panel := { d.panel with pwm4 := (d.get R.GPIO_PWM4_PERIOD, d.get R.GPIO_PWM4_DUTY) } }) ∧
  Does (.pwmPeriodEnd 5) (fun d => d.pwmRuns 5 = true)
    (fun d => { d with panel := { d.panel with pwm5 := (d.get R.GPIO_PWM5_PERIOD, d.get R.GPIO_PWM5_DUTY) } }) ∧
  (∀ n : Fin 6, Does (.pwmPeriodEnd n) (fun d => d.pwmRuns n.val = false) (fun d => d)) ∧
  (∀ n : Nat, 63 ≤ n →
    Leaves .swapNoIdle (fun d => d.seq.swapWait = some n ∧ d.sq ≠ sqIdle)
      (fun d t => t = d.swapFail (0x07, 0) ∧ t.get R.GPIO_SWAPST_CODE = 0x07 ∧ t.seq.swapWait = none ∧
        t.seq.shadow = d.seq.shadow ∧ t.seq.active = d.seq.active)) ∧
  Does .swapNoIdle (fun d => d.seq.swapWait = none ∨ d.sq = sqIdle ∨ ∃ n, n < 63 ∧ d.seq.swapWait = some n) (fun d => d)

/-! ### The host port (chapter 13) -/

/-- R15, R386, R390–R396, R411: a read frame that nothing holds back sends the bytes from its address on, behind the
marker byte in BUSY mode; of a bank of exchange RAM that is ON these are the bytes it holds, which reading leaves as they
are. A byte that is late reads 0x00 with UNDR in BUSY mode; in STRETCH mode the data stops at the next late byte at a
multiple of 8. Of a read whose holds R394 bounds no byte is late once its data goes. Behind a waiting write, or before a
late first byte, the frame is held back with the mode that it began in (R411); READ_PAUSE_RESUME then sends the rest,
behind its busy bytes and the marker in BUSY mode, up to the next late byte in STRETCH mode, and BUSY_BYTE_LIMIT ends one
that R394 does not bound with RTO. A status frame answers with the status byte, and an ID frame
with 0x4A 0x32 0x50 0x0B and then 0x00; neither is held back, and each changes nothing but the recorded clock mode. -/
def Obligations.HostReadsReturnBytes : Prop :=
  let shows := fun (late : List Nat) (bs : List Byte) => bs.mapIdx (fun j b => if j ∈ late then 0 else b)
  let busy := fun (d : Dev) => d.is R.HP_CFG_NRMODE = true
  let begun := fun (d : Dev) (a n : Nat) (b : Bool) => (some ⟨a, n, d.reg R.HP_CFG, d.reg R.HP_ATTEN, b⟩ : Option HeldRead)
  let stops := fun (a n : Nat) (late : List Nat) (k : Nat) => k ≠ 0 ∧ k < n ∧ (a + k) % 8 = 0 ∧ k ∈ late
  let adds := fun (e : Dev) (bs : List Byte) => ({ e with hp := { e.hp with out := e.hp.out ++ bs } } : Dev)
  let held := fun (e : Dev) (h : Option HeldRead) => ({ e with hp := { e.hp with held := h } } : Dev)
  let lies := fun (d : Dev) (a n : Nat) => a + n ≤ 0x8000 ∧ d.domOn 1 = true ∧ d.eccFree a n
  let bytes := fun (d : Dev) (a n : Nat) => (List.range n).map (fun j => d.dataByte (0x10000 + a + j))
  (∀ (m : Bool) (addr : BitVec 24) (n : Nat) (late : List Nat) (i : Instr),
    i ∈ [Instr.read m addr ⟨n, late⟩, .fastRead m addr ⟨n, late⟩, .read114 m addr ⟨n, late⟩, .read144 m addr ⟨n, late⟩] →
    let a := addr.toNat
    let goes := fun (d : Dev) => d.portServes = true ∧ d.hp.queue = [] ∧ (0 ∈ late → n = 0)
    Does i (fun d => goes d ∧ busy d ∧ (d.readBounded a n = true ∨ ∀ j ∈ late, n ≤ j)) (fun d =>
      let r := ((d.frameBegin m).sends [0xD1]).hostBytes n a n
      adds r.2 r.1) ∧
    Does i (fun d => goes d ∧ busy d ∧ d.readBounded a n = false ∧ ∃ j ∈ late, j < n) (fun d =>
      let r := ((d.frameBegin m).sends [0xD1]).hostBytes n a n
      adds (r.2.put R.HP_ERR_UNDR 1) (shows late r.1)) ∧
    Does i (fun d => goes d ∧ ¬busy d ∧ (d.readBounded a n = true ∨ ∀ k, ¬stops a n late k)) (fun d =>
      let r := (d.frameBegin m).hostBytes n a n
      held (adds r.2 r.1) none) ∧
    (∀ k, stops a n late k → (∀ j, j < k → ¬stops a n late j) →
      Does i (fun d => goes d ∧ ¬busy d ∧ d.readBounded a n = false) (fun d =>
        let r := (d.frameBegin m).hostBytes k a k
        held (adds r.2 r.1) (begun d ((a + k) % 2 ^ 24) (n - k) false))) ∧
    Leaves i (fun d => goes d ∧ late = [] ∧ lies d a n)
      (fun d t => t.hp.out = (if d.is R.HP_CFG_NRMODE then [0xD1] else []) ++ bytes d a n ∧ t.mem = d.mem) ∧
    Does i (fun d => d.portServes = true ∧ (d.hp.queue ≠ [] ∨ (0 ∈ late ∧ n ≠ 0)))
      (fun d => held (d.frameBegin m) (begun d a n (d.hp.queue.isEmpty && d.readBounded a n)))) ∧
  (∀ (k : Nat) (late : List Nat) (h : HeldRead), let rest := late.filter (· ≠ 0)
    let goes := fun (d : Dev) => d.hp.held = some h ∧ d.portRuns = true ∧ d.hp.queue = []
    let resumed := fun (d : Dev) => ((held d none).sends (List.replicate (min k 64) 0x5A ++ [0xD1])).hostBytes h.left h.addr h.left
    (h.busy = true → h.bound = true ∨ (∀ j ∈ rest, h.left ≤ j) →
      Does (.readPauseResume ⟨k, late⟩) goes (fun d => adds (resumed d).2 (resumed d).1)) ∧
    (h.busy = true → h.bound = false → (∃ j ∈ rest, j < h.left) →
      Does (.readPauseResume ⟨k, late⟩) goes (fun d => adds ((resumed d).2.put R.HP_ERR_UNDR 1) (shows rest (resumed d).1))) ∧
    (h.busy = false → h.bound = true ∨ (∀ j, ¬stops h.addr h.left rest j) → Does (.readPauseResume ⟨k, late⟩) goes (fun d =>
      let r := (held d none).hostBytes h.left h.addr h.left
      held (adds r.2 r.1) none)) ∧
    (∀ k', h.busy = false → h.bound = false → stops h.addr h.left rest k' → (∀ j, j < k' → ¬stops h.addr h.left rest j) →
      Does (.readPauseResume ⟨k, late⟩) goes (fun d =>
        let r := (held d none).hostBytes k' h.addr k'
        held (adds r.2 r.1) (some { h with addr := (h.addr + k') % 2 ^ 24, left := h.left - k' }))) ∧
    (rest = [] → Leaves (.readPauseResume ⟨k, late⟩) (fun d => goes d ∧ lies d h.addr h.left) (fun d t =>
      t.hp.out = (if h.busy then List.replicate (min k 64) 0x5A ++ [0xD1] else d.hp.out) ++ bytes d h.addr h.left ∧
      t.hp.held = none ∧ t.mem = d.mem)) ∧
    Does (.readPauseResume ⟨k, late⟩) (fun d => d.hp.held = none ∨ d.hp.queue ≠ []) (fun d => d) ∧
    (h.busy = true → h.bound = false → Leaves .busyByteLimit (fun d => d.hp.held = some h ∧ d.portRuns = true) (fun d t =>
      t.is R.HP_ERR_RTO = true ∧ t.hp = { d.hp with out := List.replicate 64 0x5A ++ 0xE7 :: List.replicate h.left 0, held := none } ∧
      d.butRegs { t with hp := d.hp } [R.HP_ERR])) ∧
    (h.busy = false ∨ h.bound = true → Does .busyByteLimit (fun d => d.hp.held = some h) (fun d => d))) ∧
  (∀ (m : Bool) (n : Nat),
    Leaves (.readStatus m n) (fun d => d.portServes = true) (fun d t => d.butRegs { t with hp := d.hp } [R.HP_STATUS] ∧
      ∃ b : Byte, t.hp.out = List.replicate n b ∧ b.getLsbD 0 = d.is R.HP_STATUS_WIP ∧ b.getLsbD 1 = d.is R.HP_STATUS_QUAD ∧
        b.getLsbD 2 = (d.reg R.HP_ATTN &&& d.reg R.HP_ATTEN != 0) ∧ b.getLsbD 3 = (d.st == stHalted) ∧
        b.getLsbD 4 = (d.st == stRunning) ∧ b.getLsbD 5 = (d.reg R.HP_ERR != 0) ∧ b.getLsbD 6 = d.hp.ackErr ∧
        b.getLsbD 7 = true) ∧
    Leaves (.readId m n) (fun d => d.portServes = true) (fun d t => d.butRegs { t with hp := d.hp } [R.HP_STATUS] ∧
      t.hp.out.length = n ∧ ∀ j, j < n → t.hp.out[j]? = some (([0x4A, 0x32, 0x50, 0x0B] : List Byte).getD j 0)))

/-- R397, R398, R14: a write frame that is well released joins the commit queue with nothing written yet, and one without
data does nothing; one that is ragged, unaligned in I/O space, too long or third in the queue is dropped with its bit of
HP_ERR. Its commit writes exchange RAM and, where the program does not run, DMEM at its
bytes alone, and an I/O word through its register. -/
def Obligations.HostWritesCommitInOrder : Prop :=
  (∀ (m clean : Bool) (addr : BitVec 24) (bs : List Byte) (i : Instr),
    i ∈ [Instr.write m clean addr bs, .write114 m clean addr bs, .write144 m clean addr bs] →
    let n := bs.length
    let rag := clean = false ∨ (endsInIo addr.toNat n = true ∧ n % 4 ≠ 0)
    let odd := touchesIo addr.toNat n = true ∧ addr.toNat % 4 ≠ 0
    let drops := fun (f : Field) (d t : Dev) => t.is f = true ∧ t.hp = (d.frameBegin m).hp ∧ d.butRegs { t with hp := d.hp } [R.HP_ERR, R.HP_STATUS]
    Leaves i (fun d => d.portServes = true ∧ ¬rag ∧ ¬odd ∧ 0 < n ∧ n ≤ 1024 ∧ d.hp.queue.length < 2)
      (fun d t => t.hp = { (d.frameBegin m).hp with queue := d.hp.queue ++ [(addr.toNat, bs)] } ∧ t.is R.HP_STATUS_WIP = true ∧
        d.butRegs { t with hp := d.hp } [R.HP_STATUS]) ∧
    (bs = [] → Does i (fun d => d.portServes = true ∧ ¬rag ∧ ¬odd ∧ d.hp.queue.length < 2) (fun d => d.frameBegin m)) ∧
    Does i (fun d => d.portServes = true ∧ rag) (fun d => (d.frameBegin m).ragged 1) ∧
    Leaves i (fun d => d.portServes = true ∧ ¬rag ∧ odd) (drops R.HP_ERR_ALIGN) ∧
    Leaves i (fun d => d.portServes = true ∧ ¬rag ∧ ¬odd ∧ 1024 < n) (drops R.HP_ERR_LONG) ∧
    Leaves i (fun d => d.portServes = true ∧ ¬rag ∧ ¬odd ∧ n ≤ 1024 ∧ 2 ≤ d.hp.queue.length) (drops R.HP_ERR_WOVR)) ∧
  (∀ (addr : Nat) (bs : List Byte) (rest : List (Nat × List Byte)),
    let front := fun (d : Dev) => d.hp.queue = (addr, bs) :: rest ∧ (d.domOn 7 = true ∨ d.dom 7 = 3)
    let gone := fun (d t : Dev) => t.hp = { d.hp with queue := rest } ∧ t.is R.HP_STATUS_WIP = !rest.isEmpty ∧
      d.butRegs { t with hp := d.hp, mem := d.mem } [R.HP_STATUS]
    (addr + bs.length ≤ 0x8000 → 0 < bs.length →
      Leaves .writeCommit (fun d => front d ∧ d.domOn 1 = true ∧ d.eccFree addr bs.length)
        (fun d t => gone d t ∧ t.mem = { d.mem with xram := t.mem.xram } ∧
          ∀ o, t.xb o = if addr ≤ o ∧ o < addr + bs.length then bs.getD (o - addr) 0 else d.xb o)) ∧
    (∀ a, addr = 0x300000 + a → a + bs.length ≤ 0x4000 →
      Leaves .writeCommit (fun d => front d ∧ d.seqOn = true ∧ d.dmemOpen = true)
        (fun d t => gone d t ∧ t.mem = { d.mem with dmem := t.mem.dmem } ∧
          ∀ o, o < 0x4000 → t.dataByte o = if a ≤ o ∧ o < a + bs.length then bs.getD (o - a) 0 else d.dataByte o) ∧
      Leaves .writeCommit (fun d => front d ∧ d.dmemOpen = false) (fun d t => gone d t ∧ t.mem = d.mem)) ∧
    (∀ a, a < 0x10000 → addr = 0x100000 + a → bs.length = 4 →
      Does .writeCommit front (fun d =>
        (({ d with hp := { d.hp with queue := rest } } : Dev).putB R.HP_STATUS_WIP (!rest.isEmpty)).ioWrite true a
          ((bs.getD 0 0).toNat + 2 ^ 8 * (bs.getD 1 0).toNat + 2 ^ 16 * (bs.getD 2 0).toNat + 2 ^ 24 * (bs.getD 3 0).toNat))) ∧
    Does .writeCommit (fun d => d.hp.queue = []) (fun d => d))

/-- R399–R401, with the table of acknowledgement statuses: an acknowledged write with a wrong CRC is CRC_ERROR and counted
in FS07; one with the SEQ of the last accepted one is DUP_ACCEPTED where its CRC is that one's too and SEQ_CONFLICT
otherwise, neither executed; one that is misaligned, finds no buffer or writes DMEM while the program runs is REJECTED;
any other is ACCEPTED, is queued, and becomes the one to compare with. HP_ACK shows the status and SEQ, and so does the
frame. One that is cut short is ragged. -/
def Obligations.AcknowledgedWrites : Prop :=
  ∀ (m : Bool) (addr : BitVec 24) (q : BitVec 8) (crc : BitVec 16) (bs : List Byte),
    let n := bs.length
    let good := crc16 ([byte (addr.toNat / 65536), byte (addr.toNat / 256), byte addr.toNat, byte q.toNat, byte n] ++ bs) = crc
    let same := fun (d : Dev) => d.is R.HP_ACK_VALID = true ∧ d.get R.HP_ACK_SEQ = q.toNat
    let odd := touchesIo addr.toNat n = true ∧ addr.toNat % 4 ≠ 0
    let short := endsInIo addr.toNat n = true ∧ n % 4 ≠ 0
    let runs := fun (d : Dev) => touchesDmem addr.toNat n = true ∧ d.sq ≠ sqEmpty ∧ d.sq ≠ sqHalted
    let shows := fun (s : Nat) (t : Dev) => t.get R.HP_ACK_LASTST = s ∧ t.get R.HP_ACK_LASTSEQ = q.toNat ∧
      t.hp.out = [BitVec.ofNat 8 s, q] ∧ t.hp.held = none ∧ t.hp.ackErr = decide (s ≠ 1 ∧ s ≠ 2)
    Does (.acknowledgedWrite m false addr q crc bs) (fun d => d.portServes = true)
      (fun d => ({ d.frameBegin m with hp := { (d.frameBegin m).hp with ackErr := true } } : Dev).ragged 1) ∧
    Leaves (.acknowledgedWrite m true addr q crc bs)
      (fun d => d.portServes = true ∧ good ∧ ¬same d ∧ ¬odd ∧ ¬short ∧ d.hp.queue.length < 2 ∧ ¬runs d)
      (fun d t => shows 1 t ∧ t.hp.queue = d.hp.queue ++ [(addr.toNat, bs)] ∧ t.is R.HP_ACK_VALID = true ∧
        t.get R.HP_ACK_SEQ = q.toNat ∧ t.get R.HP_ACKCRC_CRC = crc.toNat ∧
        d.butRegs { t with hp := d.hp } [R.HP_STATUS, R.HP_ACK, R.HP_ACKCRC]) ∧
    Leaves (.acknowledgedWrite m true addr q crc bs) (fun d => d.portServes = true ∧ good ∧ same d ∧ d.get R.HP_ACKCRC_CRC = crc.toNat)
      (fun d t => shows 2 t ∧ t.hp.queue = d.hp.queue ∧ d.butRegs { t with hp := d.hp } [R.HP_STATUS, R.HP_ACK]) ∧
    Leaves (.acknowledgedWrite m true addr q crc bs) (fun d => d.portServes = true ∧ good ∧ same d ∧ d.get R.HP_ACKCRC_CRC ≠ crc.toNat)
      (fun d t => shows 3 t ∧ t.hp.queue = d.hp.queue ∧ d.butRegs { t with hp := d.hp } [R.HP_STATUS, R.HP_ACK]) ∧
    Leaves (.acknowledgedWrite m true addr q crc bs)
      (fun d => d.portServes = true ∧ good ∧ ¬same d ∧ (odd ∨ short ∨ 2 ≤ d.hp.queue.length ∨ runs d))
      (fun d t => shows 5 t ∧ t.hp.queue = d.hp.queue ∧ (short → t.is R.HP_ERR_RAGGED = true) ∧
        (odd ∧ ¬short → t.is R.HP_ERR_ALIGN = true) ∧ (¬odd ∧ ¬short ∧ 2 ≤ d.hp.queue.length → t.is R.HP_ERR_WOVR = true) ∧
        d.butRegs { t with hp := d.hp } [R.HP_STATUS, R.HP_ACK, R.HP_ERR]) ∧
    Does (.acknowledgedWrite m true addr q crc bs) (fun d => d.portServes = true ∧ ¬good) (fun d =>
      let e : Dev := { d.frameBegin m with hp := { (d.frameBegin m).hp with ackErr := true } }
      ((((e.inc R.HP_COUNTS_CRCERR).raise 0x07 q.toNat).put R.HP_ACK_LASTST 4).put R.HP_ACK_LASTSEQ q.toNat).sends [4, q])

/-- R387, R388, R403–R407, R418, R592, R595, R611: 0x35 and 0xF5 turn quad-command mode on and off and are ignored where
it is so already; a ragged release of the others is FS08 with detail 2, and so is one of 0x35 or 0xF5 where it would act;
an unknown opcode sets BADOP and has no other effect. ATTSET sets the program's attention; CLRCNT and ACKCLR clear their
registers. SOFT_RESET with the one data byte 0x3C resets a seated device, which is in BOOT_WAIT again with one more reset
recorded, and with any other data only sets BADCONF. ENTER_FALLOW begins the entry where nothing keeps the device from it,
stops a running device first, and is refused with cause 1 in a state that does not allow it. WAKE ends Fallow, with its
reset set ramping up; in Heath it is recorded as a wake source; in Meadow, with no entry in progress, it only records the
frame. -/
def Obligations.HostModesAndOpcodes : Prop :=
  (∀ m : Bool,
    Leaves (.enterQuadCommandMode m true) (fun d => d.portServes = true) (fun d t =>
      t.is R.HP_STATUS_QUAD = true ∧ d.butRegs { t with hp := d.hp } [R.HP_STATUS]) ∧
    Leaves (.exitQuadCommandMode m true) (fun d => d.portServes = true) (fun d t =>
      t.is R.HP_STATUS_QUAD = false ∧ d.butRegs { t with hp := d.hp } [R.HP_STATUS]) ∧
    (∀ clean : Bool,
      Does (.enterQuadCommandMode m clean) (fun d => d.portServes = true ∧ d.is R.HP_STATUS_QUAD = true) (fun d => d.frameBegin m) ∧
      Does (.exitQuadCommandMode m clean) (fun d => d.portServes = true ∧ d.is R.HP_STATUS_QUAD = false) (fun d => d.frameBegin m)) ∧
    Does (.enterQuadCommandMode m false) (fun d => d.portServes = true ∧ d.is R.HP_STATUS_QUAD = false)
      (fun d => (d.frameBegin m).ragged 2) ∧
    Does (.exitQuadCommandMode m false) (fun d => d.portServes = true ∧ d.is R.HP_STATUS_QUAD = true)
      (fun d => (d.frameBegin m).ragged 2) ∧
    Does (.enterFallow m false) (fun d => d.portServes = true) (fun d => (d.frameBegin m).ragged 2) ∧
    Does (.wake m false) (fun d => d.portServes = true) (fun d => (d.frameBegin m).ragged 2) ∧
    (∀ op : BitVec 8, Leaves (.unknownOpcode m op) (fun d => d.portServes = true) (fun d t =>
      t.is R.HP_ERR_BADOP = true ∧ d.butRegs { t with hp := d.hp } [R.HP_STATUS, R.HP_ERR]))) ∧
  Leaves .hpAttsetProg (fun _ => True) (fun d t => t.is R.HP_ATTN_PROG = true ∧ d.butRegs t [R.HP_ATTN]) ∧
  Leaves .hpClrcnt (fun _ => True) (fun d t => t.reg R.HP_COUNTS = 0 ∧ d.butRegs t [R.HP_COUNTS]) ∧
  Leaves .hpAckclr (fun _ => True) (fun d t => t.is R.HP_ACK_VALID = false ∧ d.butRegs t [R.HP_ACK]) ∧
  (∀ (m g0 g1 : Bool),
    Leaves (.softReset m true [0x3C] g0 g1) (fun d => d.portServes = true) (fun d t => d.restartTo t (d.oneMoreReset 4) g0 g1) ∧
    (∀ (clean : Bool) (data : List Byte), ¬(clean = true ∧ data = [0x3C]) →
      Leaves (.softReset m clean data g0 g1) (fun d => d.portServes = true) (fun d t =>
        t.is R.HP_ERR_BADCONF = true ∧ d.butRegs { t with hp := d.hp } [R.HP_STATUS, R.HP_ERR])) ∧
    Leaves (.enterFallow m true) (fun d => d.portServes = true ∧ d.mayFallow) (fun d t => d.entersFallow t) ∧
    Leaves (.enterFallow m true) (fun d => d.portServes = true ∧ d.st = stRunning ∧ d.enumerated = false ∧ d.pwr.stateReq = none ∧ d.calQuiet)
      (fun _ t => t.st = stStopping ∧ t.is R.SYS_CTRL_RUN = false ∧ t.pwr.stateReq = some ⟨2, none, true, false⟩) ∧
    Leaves (.enterFallow m true) (fun d => d.portServes = true ∧ d.st ≠ stRunning ∧ d.st ≠ stReady ∧ d.st ≠ stBootWait)
      (fun d t => t.st = d.st ∧ t.pwr.mode = d.pwr.mode ∧ t.get R.PWR_RES_CODE = 1 ∧ t.get R.PWR_RES_KIND = 2) ∧
    Leaves (.wake m true) (fun d => d.portUp = true ∧ d.is R.SYS_STRAPS_CHAIN = false ∧ d.pwr.mode = 2 ∧ d.st ≠ stParked) (fun d t => d.wakes t) ∧
    Leaves (.wake m true) (fun d => d.portServes = true ∧ d.st = stHeath ∧ d.pwr.mode ≠ 2 ∧ d.enumerated = false)
      (fun _ t => t.is R.PWR_WSRC_HOSTWAKE = true) ∧
    Does (.wake m true) (fun d => d.portServes = true ∧ d.st ≠ stHeath ∧ d.pwr.mode ≠ 2 ∧ d.pwr.stateReq = none) (fun d => d.frameBegin m))

/-- R408–R410, R629: in chain mode the bits on HIO0 shift into the register and those it holds out on HIO1, the result,
address and data of the frame before first; a release after a non-zero multiple of 64 edges executes the segment then in
the register, of whichever command, and the register then holds the result, the address and the data: 0x00 answers 0,
READ_ID and READ_STATUS their words, a read the word at its address, a write its data once it is written; a misaligned
address answers 3, another opcode 2, a device whose HOST domain is off 4, and a write to DMEM while the program runs 6;
SOFT_RESET resets with cause CHAIN; WAKE and ENTER_FALLOW act as 0xAB and 0xB9. Any other count of edges discards the
segment, with FS08 and result 5. The data of a segment that is not executed is free. -/
def Obligations.ChainSegmentsExecute : Prop :=
  ∀ (m : Bool) (addr : BitVec 24) (data : BitVec 32) (g0 g1 : Bool),
    let a := addr.toNat
    let served := fun (d : Dev) => d.portUp = true ∧ d.is R.SYS_STRAPS_CHAIN = true
    let awake := fun (d : Dev) => served d ∧ d.domOn 7 = true
    let holds := fun (c x : Nat) (h : Hp) => (h.chain >>> 56).toNat = c ∧ (h.chain >>> 32).toNat % 2 ^ 24 = a ∧ h.chain.toNat % 2 ^ 32 = x
    let answers := fun (c x : Nat) (e : Dev) =>
      ({ e with hp := { e.hp with chain := BitVec.ofNat 8 c ++ addr ++ BitVec.ofNat 32 x } } : Dev)
    let msbFirst := fun (r : BitVec 64) => (List.range 64).map (fun i => r.getLsbD (63 - i))
    let start := fun (d : Dev) => ({ d.putB R.HP_STATUS_CLKMODE m with hp := { d.hp with shifted := msbFirst d.hp.chain } } : Dev)
    let free := fun (c : Nat) (e : Dev) => answers c (Config.freeNat e.freeCount % 2 ^ 32) { e with freeCount := e.freeCount + 1 }
    Does (.chainNone m addr) served (fun d => answers 1 0 (start d)) ∧
    Does (.chainReadId m addr) awake (fun d => answers 1 0x4A32500B (start d)) ∧
    Does (.chainReadStatus m addr) awake (fun d => answers 1 (start d).statusByte.toNat (start d)) ∧
    Does (.chainRead m addr) (fun d => awake d ∧ a % 4 = 0)
      (fun d => let r := (start d).hostBytes 4 a 4
        answers 1 (leNat r.1) r.2) ∧
    Leaves (.chainRead m addr) (fun d => awake d ∧ a % 4 = 0 ∧ a < 0x8000 ∧ d.domOn 1 = true ∧ d.eccFree a 4)
      (fun d t => holds 1 (d.xle a 4) t.hp ∧ t.mem = d.mem) ∧
    Does (.chainWrite m addr data) (fun d => awake d ∧ a % 4 = 0 ∧ (inDmem a = false ∨ d.sq = sqEmpty ∨ d.sq = sqHalted))
      (fun d => answers 1 data.toNat ((start d).commitBytes 4 a (leBytes 4 data.toNat))) ∧
    Leaves (.chainWrite m addr data) (fun d => awake d ∧ a % 4 = 0 ∧ a < 0x8000 ∧ d.domOn 1 = true ∧ d.eccFree a 4)
      (fun d t => holds 1 data.toNat t.hp ∧ t.xle a 4 = data.toNat ∧ ∀ o, (o < a ∨ a + 4 ≤ o) → t.xb o = d.xb o) ∧
    Does (.chainWrite m addr data) (fun d => awake d ∧ a % 4 = 0 ∧ inDmem a = true ∧ d.sq ≠ sqEmpty ∧ d.sq ≠ sqHalted)
      (fun d => free 6 (start d)) ∧
    (∀ c : Instr, c ∈ [Instr.chainRead m addr, .chainWrite m addr data] → Does c (fun d => awake d ∧ a % 4 ≠ 0) (fun d => free 3 (start d))) ∧
    (∀ c : Instr, c ∈ [Instr.chainRead m addr, .chainWrite m addr data, .chainReadId m addr, .chainReadStatus m addr,
        .chainSoftReset m addr data g0 g1, .chainEnterFallow m addr] →
      Does c (fun d => served d ∧ d.domOn 7 = false) (fun d => free 4 (start d))) ∧
    Leaves (.chainSoftReset m addr 0x3C g0 g1) awake (fun d t => d.restartTo t (d.oneMoreReset 8) g0 g1) ∧
    (data ≠ 0x3C → Does (.chainSoftReset m addr data g0 g1) awake (fun d => free 2 (start d))) ∧
    Leaves (.chainWake m addr) (fun d => served d ∧ d.pwr.mode = 2 ∧ d.st ≠ stParked) (fun d t => d.wakes t ∧ holds 1 0 t.hp) ∧
    Does (.chainWake m addr) (fun d => served d ∧ d.st ≠ stHeath ∧ d.pwr.mode ≠ 2 ∧ d.pwr.stateReq = none) (fun d => answers 1 0 (start d)) ∧
    Leaves (.chainEnterFallow m addr) (fun d => awake d ∧ d.mayFallow) (fun d t => d.entersFallow t ∧ holds 1 0 t.hp) ∧
    (∀ bits : List Bool,
      let reg := fun (d : Dev) => bits.foldl (fun (r : BitVec 64) b => r <<< 1 ||| (if b then 1 else 0)) d.hp.chain
      let out := fun (d : Dev) => (msbFirst d.hp.chain ++ bits).take bits.length
      let shifted := fun (d : Dev) => ({ d.putB R.HP_STATUS_CLKMODE m with hp := { d.hp with shifted := out d } } : Dev)
      (bits.length % 64 ≠ 0 ∨ bits = [] → Does (.chainSegment m bits.length bits g0 g1) (fun d => served d ∧ (reg d).extractLsb' 32 24 = addr)
        (fun d => free 5 ((shifted d).ragged 3))) ∧
      (bits.length = 64 →
        (∀ (op : BitVec 8) (c : Instr),
          (op, c) ∈ [(0x00#8, Instr.chainNone m addr), (0x02#8, .chainWrite m addr data), (0x03#8, .chainRead m addr),
            (0x05#8, .chainReadStatus m addr), (0x9F#8, .chainReadId m addr), (0x99#8, .chainSoftReset m addr data g0 g1),
            (0xAB#8, .chainWake m addr), (0xB9#8, .chainEnterFallow m addr)] →
          bits = msbFirst (op ++ addr ++ data) →
          ∀ s : State, Sys2Proof.Machine.exec (.chainSegment m 64 bits g0 g1) s = Sys2Proof.Machine.exec c s)) ∧
      (bits ≠ [] → bits.length % 64 = 0 →
        (∀ op : BitVec 8, op ∉ [0x00, 0x02, 0x03, 0x05, 0x9F, 0x99, 0xAB, 0xB9] →
          Does (.chainSegment m bits.length bits g0 g1) (fun d => awake d ∧ reg d = op ++ addr ++ data) (fun d => free 2 (shifted d))) ∧
        Leaves (.chainSegment m bits.length bits g0 g1) (fun d => served d ∧ reg d = 0#8 ++ addr ++ data)
          (fun d t => t = answers 1 0 (shifted d) ∧ t.hp.shifted.length = bits.length ∧ t.hp.shifted.take 64 = msbFirst d.hp.chain)))


/-! ### Exchange RAM and its rings (chapter 14) -/

/-- R428, R431, R433, R439, R440, R442, R443: an index written in INDEX mode is taken when it is aligned and moves forward
within the ring, and is otherwise rejected with its bit; in OWNER mode it is ignored. A ring is enabled when no line of
its geometry table holds, and otherwise reports ring and cause; a write of EN 0 disables it. A reservation is taken in
force outside the running states; in them it is staged where it fits, and one that does not is rejected. -/
def Obligations.RingIndicesAndEnabling : Prop :=
  (∀ v : BitVec 32, let p := v.toNat % 65536
    let far := fun (d : Dev) (q : Nat) => (q + 65536 - d.get R.CQ_CI_INDEX) % 65536
    let okC := fun (d : Dev) => p % 8 = 0 ∧ far d (d.get R.CQ_PI_INDEX) ≤ far d p ∧ far d p ≤ 2 ^ d.get R.CQ_GEOM_SZ
    let freed := fun (d : Dev) => (p + 65536 - d.get R.RQ_CI_INDEX) % 65536
    let okR := fun (d : Dev) => p % 8 = 0 ∧ freed d ≤ (d.get R.RQ_PI_INDEX + 65536 - d.get R.RQ_CI_INDEX) % 65536
    Leaves (.cqPiWrite v) (fun d => d.is R.CQ_CTRL_MODE = false ∧ okC d) (fun d t => t.get R.CQ_PI_INDEX = p ∧ d.butRegs t [R.CQ_PI]) ∧
    Leaves (.cqPiWrite v) (fun d => d.is R.CQ_CTRL_MODE = false ∧ ¬okC d)
      (fun d t => t.is R.XR_STATUS_PIREJ = true ∧ d.butRegs t [R.XR_STATUS]) ∧
    Does (.cqPiWrite v) (fun d => d.is R.CQ_CTRL_MODE = true) (fun d => d) ∧
    Leaves (.rqCiWrite v) (fun d => d.is R.RQ_CTRL_MODE = false ∧ okR d)
      (fun d t => t.get R.RQ_CI_INDEX = p ∧ t.rqUnread + freed d = d.rqUnread ∧ d.butRegs { t with ring := d.ring } [R.RQ_CI, R.HP_ATTN]) ∧
    Leaves (.rqCiWrite v) (fun d => d.is R.RQ_CTRL_MODE = false ∧ ¬okR d)
      (fun d t => t.is R.XR_STATUS_CIREJ = true ∧ d.butRegs t [R.XR_STATUS]) ∧
    Does (.rqCiWrite v) (fun d => d.is R.RQ_CTRL_MODE = true) (fun d => d)) ∧
  (∀ v : BitVec 32, v.toNat / 256 % 256 ≤ 128 →
    Leaves (.cqEnable v) (fun d => d.st ≠ stHalted ∧ d.is R.CQ_CTRL_EN = false ∧ d.ringCause 0 = none)
      (fun d t => t.is R.CQ_CTRL_EN = true ∧ t.get R.CQ_CTRL_MODE = v.toNat / 2 % 2 ∧
        t.get R.CQ_CTRL_PFDEPTH = v.toNat / 256 % 256 ∧ d.butRegs t [R.CQ_CTRL]) ∧
    (∀ c, Leaves (.cqEnable v) (fun d => d.st ≠ stHalted ∧ d.is R.CQ_CTRL_EN = false ∧ d.ringCause 0 = some c)
      (fun d t => t.is R.CQ_CTRL_EN = false ∧ t.is R.XR_STATUS_ENREJ = true ∧ t.get R.XR_STATUS_ENCAUSE = c ∧
        t.get R.XR_STATUS_ENRING = 0 ∧ d.butRegs t [R.CQ_CTRL, R.XR_STATUS])) ∧
    Leaves (.cqDisable v) (fun d => d.st ≠ stHalted ∧ d.is R.CQ_CTRL_EN = true) (fun d t =>
      t.is R.CQ_CTRL_EN = false ∧ t.ring.established = [] ∧ t.get R.CQ_CTRL_MODE = d.get R.CQ_CTRL_MODE ∧
      d.butRegs { t with ring := d.ring } [R.CQ_CTRL])) ∧
  (∀ v : BitVec 32,
    Leaves (.rqEnable v) (fun d => d.st ≠ stHalted ∧ d.is R.RQ_CTRL_EN = false ∧ d.ringCause 1 = none)
      (fun d t => t.is R.RQ_CTRL_EN = true ∧ t.get R.RQ_CTRL_MODE = v.toNat / 2 % 2 ∧ d.butRegs t [R.RQ_CTRL]) ∧
    (∀ c, Leaves (.rqEnable v) (fun d => d.st ≠ stHalted ∧ d.is R.RQ_CTRL_EN = false ∧ d.ringCause 1 = some c)
      (fun d t => t.is R.RQ_CTRL_EN = false ∧ t.is R.XR_STATUS_ENREJ = true ∧ t.get R.XR_STATUS_ENCAUSE = c ∧
        t.get R.XR_STATUS_ENRING = 1 ∧ d.butRegs t [R.RQ_CTRL, R.XR_STATUS])) ∧
    Leaves (.rqDisable v) (fun d => d.st ≠ stHalted) (fun d t => t.is R.RQ_CTRL_EN = false ∧ d.butRegs t [R.RQ_CTRL])) ∧
  (∀ (c : Fin 7) (v : BitVec 32), let w := v &&& 0x13F3F
    let fits := fun (d : Dev) => ∀ b, b < 2 → guarSum (d.guarsStaged.set c.val w) b false ≤ 56 ∧
      guarSum (d.guarsStaged.set c.val w) b true ≤ 56 ∧ (guarSum (d.guarsStaged.set c.val w) b false = 0 ∨ d.domOn (1 + b) = true)
    Leaves (.xrGuarWrite c v) (fun d => d.busyState = false)
      (fun d t => t.reg (R.XR_GUAR c.val) &&& 0x13F3F = w ∧ d.butRegs { t with staged := d.staged } [R.XR_GUAR c.val]) ∧
    Leaves (.xrGuarWrite c v) (fun d => d.busyState = true ∧ fits d)
      (fun d t => t.viewReg (R.XR_GUAR c.val) &&& 0x13F3F = w ∧ t = { d with staged := t.staged }) ∧
    Leaves (.xrGuarWrite c v) (fun d => d.busyState = true ∧ ¬fits d)
      (fun d t => t.is R.XR_STATUS_GREJ = true ∧ d.butRegs t [R.XR_STATUS]))

/-- R420, R421, R446, R448, R456, R458: a scrub round that meets no error moves on one word in each bank that is ON, and
one that meets a single-bit error in the one bank that is ON (bank 1) records and counts it; without scrubbing nothing
happens. With the report ring in INDEX mode, a poll that finds one well-formed NOP published establishes it, and one
without new bytes or that may not be made does nothing. While the writer runs, a report that waits is written when there
is room for it. RQ attention is set once the oldest unread entry has been there for TMO, and not by the clock before. -/
def Obligations.RingEventsAdvance : Prop :=
  let scrubs := fun (d : Dev) => d.is R.XR_CTRL_SCRUB = true ∧ d.pwr.mode ≠ 2 ∧
    (d.st = stHeath → d.pwr.hfoOn = true) ∧ d.xramClean
  let index := fun (d : Dev) => d.is R.RQ_CTRL_MODE = false ∧ d.mem.met = []
  Leaves (.scrubRead 0 0) (fun d => scrubs d ∧ d.domOn 1 = true ∧ d.domOn 2 = true)
    (fun d t => t = { d with mem := { d.mem with scrub0 := (d.mem.scrub0 + 1) % 4096, scrub1 := (d.mem.scrub1 + 1) % 4096 } }) ∧
  (∀ u : Fin 3, let w := fun (d : Dev) => 4096 + d.mem.scrub1 % 4096
    Leaves (.scrubRead u 1) (fun d => scrubs d ∧ d.domOn 1 = false ∧ d.domOn 2 = true) (fun d t =>
    ∃ e : Dev, t = e.raise 0x0B (8 * w d) ∧ e.mem = { d.mem with scrub1 := (d.mem.scrub1 + 1) % 4096 } ∧
      e.get R.XR_ECCSB_OFFSET = 8 * w d ∧ e.is R.XR_ECCSB_VALID = true ∧ e.get R.XR_ECCSB_CLIENT = 7 ∧
      d.butRegs { e with mem := d.mem } [R.XR_ECCSB])) ∧
  (∀ u v : Fin 3, Does (.scrubRead u v) (fun d => d.is R.XR_CTRL_SCRUB = false ∨ d.pwr.mode = 2) (fun d => d)) ∧
  Does .commandPoll (fun d => index d ∧ d.cqPolls = false) (fun d => d) ∧
  Does .commandPoll (fun d => index d ∧ d.is R.CQ_CTRL_MODE = false ∧ d.get R.CQ_PI_INDEX = d.get R.CQ_CI_INDEX) (fun d => d) ∧
  (∀ e : List Byte,
    Leaves .commandPoll (fun d =>
        let ci := d.get R.CQ_CI_INDEX
        let at_ := ci % 2 ^ d.get R.CQ_GEOM_SZ
        d.cqPolls = true ∧ d.is R.CQ_CTRL_MODE = false ∧ (d.get R.CQ_PI_INDEX + 65536 - ci) % 65536 = 8 ∧
        at_ + 8 ≤ 2 ^ d.get R.CQ_GEOM_SZ ∧ d.xramClean ∧ d.xbytes (d.get R.CQ_GEOM_BASE + at_) 8 = e ∧
        eOp e = 0x01 ∧ eLen e = 2 ∧ eSeq e = d.get R.CQ_SEQX_SEQ ∧ eFlags e % 64 = 0 ∧ hchk (e.take 7) = e.getD 7 0)
      (fun d t => t.ring = { d.ring with established := [e] } ∧ d.butRegs { t with ring := d.ring } [R.CQ_COUNTS])) ∧
  (∀ r : Report, r.typ ≠ 0x80 →
    Leaves .reportRoomReturn (fun d => d.rqRuns = true ∧ index d ∧ d.ring.coal.overflow = false ∧ d.ring.waiting = [r] ∧ d.rqCan r = true ∧
        d.get R.RQ_PI_INDEX % 8 = 0 ∧ 3 ≤ d.get R.RQ_GEOM_SZ)
      (fun d t => t.ring.waiting = [] ∧ t.get R.RQ_PI_INDEX = (d.get R.RQ_PI_INDEX + d.rqNeed r) % 65536)) ∧
  Does .reportRoomReturn (fun d => d.rqRuns = false) (fun d => d) ∧
  (∀ (n t0 : Nat) (rest : List (Nat × Nat)),
    Leaves .rqWatermarkTimeout (fun d => d.get R.RQ_WM_TMO ≠ 0 ∧ d.ring.unread = (n, t0) :: rest ∧ t0 + d.get R.RQ_WM_TMO ≤ d.clock)
      (fun d t => t.is R.HP_ATTN_RQ = true ∧ d.butRegs t [R.HP_ATTN]) ∧
    Does .rqWatermarkTimeout (fun d => d.ring.unread = (n, t0) :: rest ∧ d.clock < t0 + d.get R.RQ_WM_TMO ∧
      d.rqUnread < d.get R.RQ_WM_LEVEL ∧ d.is R.RQ_STATUS_COAL = false) (fun d => d))

/-! ### Commands of the ring (chapter 15) -/

/-- R436, R438, R448, R451–R453, R466, R467, R490, R492: PAD and NOP only end: each joins the batch, CQ_CI passes its
slot, the expected SEQ and the count of executed entries go up by one. An entry of the wrong length ends with BADLEN, and
its COMPLETION is written where the report writer runs. A FENCE with nothing in flight ends at once, and otherwise waits;
it is released when nothing is in flight any more and the tick that it may ask for need not come, and not before, or times
out after its TIMEOUT with the number in flight, and not before. -/
def Obligations.RingCommandsEnd : Prop :=
  (∀ (e : List Byte) (c : Instr) (op : Nat), (c, op) ∈ [(Instr.pad, 0x00), (.nop, 0x01)] →
    Leaves c (fun d => d.atFront e ∧ eOp e = op) (fun d t => d.endsOk t e 0) ∧
    Leaves c (fun d => d.atFront e ∧ eOp e = op ∧ bitOf (eFlags e) 6 = false ∧ d.is R.CQ_CTRL_MODE = false)
      (fun d t => d.endsOk t e 0 ∧ t.ring = { d.taken.ring with batch := t.ring.batch } ∧
        d.butRegs { t with ring := d.ring } [R.CQ_CI, R.CQ_SEQX, R.CQ_COUNTS, R.RQ_STATUS])) ∧
  (∀ (e : List Byte) (c : Instr) (op len : Nat),
    (c, op, len) ∈ [(Instr.progLoad, 0x10, 4), (.progVerify, 0x11, 2), (.progSwap, 0x12, 2), (.calRun, 0x20, 3),
      (.calSave, 0x21, 4), (.calLoad, 0x22, 4), (.hopTableSet, 0x40, 10), (.imageDump, 0x50, 3), (.periXfer, 0x60, 6),
      (.logRead, 0x90, 3), (.countersRead, 0x91, 3), (.countersClear, 0x92, 3), (.fence, 0xF0, 4)] →
    Leaves c (fun d => d.atFront e ∧ eOp e = op ∧ eLen e ≠ len) (fun d t => d.endsBad t e) ∧
    Leaves c (fun d => d.atFront e ∧ eOp e = op ∧ eLen e ≠ len ∧ d.rqRuns = true ∧ d.ring.batch = none ∧
        d.is R.CQ_CTRL_MODE = false ∧ d.get R.RQ_PI_INDEX % d.rqSize + 16 ≤ d.rqSize)
      (fun d t => t.xbytes (d.rqBase + d.get R.RQ_PI_INDEX % d.rqSize) 16 =
        entryBytes (if d.is R.RQ_CTRL_MODE then 0x80 else 0) 0x80 (eTag e) (d.get R.RQ_SEQX_SEQ)
          (completion (eTag e) 1 op 1 0 (eSeq e)).body)) ∧
  (∀ e : List Byte, let fences := fun (d : Dev) => d.atFront e ∧ eOp e = 0xF0 ∧ eLen e = 4
    Leaves .fence (fun d => fences d ∧ d.ring.asyncs = [] ∧ d.ring.waiting = [] ∧ (bitOf (eAt e 8 1) 0 = false ∨ d.ticking = false))
      (fun d t => d.endsOk t e 0 ∧ t.ring.fence = none) ∧
    Leaves .fence (fun d => fences d ∧ (d.ring.asyncs ≠ [] ∨ (bitOf (eAt e 8 1) 0 = true ∧ d.ticking = true)))
      (fun d t => t.ring.fence = some ⟨eFlags e, eSlot e, bitOf (eAt e 8 1) 0, eAt e 10 2, d.clock⟩ ∧
        t.get R.CQ_CI_INDEX = d.get R.CQ_CI_INDEX ∧ t.ring.asyncs = d.ring.asyncs)) ∧
  (∀ f : Fence,
    let goes := fun (d t : Dev) => t.ring.fence = none ∧ t.get R.CQ_CI_INDEX = (d.get R.CQ_CI_INDEX + f.slot) % 65536 ∧
      t.get R.CQ_SEQX_SEQ = (d.get R.CQ_SEQX_SEQ + 1) % 256 ∧ t.ring.asyncs = d.ring.asyncs
    Leaves .fenceRelease (fun d => d.ring.fence = some f ∧ d.ring.asyncs = [] ∧ d.ring.waiting = [] ∧ (f.atTick = false ∨ d.ticking = false)) goes ∧
    Does .fenceRelease (fun d => d.ring.fence = some f ∧ (d.ring.asyncs ≠ [] ∨ (f.atTick = true ∧ d.ticking = true))) (fun d => d) ∧
    Leaves .fenceTimeout (fun d => d.ring.fence = some f ∧ f.timeout ≠ 0 ∧ f.from_ + 1000 * f.timeout ≤ d.clock) (fun d t =>
      goes d t ∧ t = d.fenceEnd 8 d.ring.asyncs.length ∧ t.ring.batch = none) ∧
    Does .fenceTimeout (fun d => d.ring.fence = some f ∧ (f.timeout = 0 ∨ d.clock < f.from_ + 1000 * f.timeout)) (fun d => d))

/-- R470, R471, R473–R477: PROG_LOAD loads the image of its area, not verified yet. PROG_VERIFY writes its result and ends
OK where the code is 0, refused otherwise; where a host write to the shadow bank waits, it may commit meanwhile, which
makes a good result CHANGED and the image unverified. PROG_SWAP in RUNNING waits for its tick, off line takes force at
once with RESET to run, and is refused with a cause that holds or while another waits. CAL_RUN starts a run that nothing
refuses and is refused with a cause that holds; CAL_SAVE writes the calibration image; CAL_LOAD takes one that is good and
refuses one that is bad. -/
def Obligations.ProgramAndCalibrationCommands : Prop :=
  let kind := fun (e : List Byte) => eAt e 8 1 % 4
  ExecutesTo .progLoad 0x10 4 (fun e d => 64 ≤ eAt e 12 4 ∧ eAt e 12 4 ≤ 33360 ∧ d.areaValid (eAt e 8 2) (eAt e 12 4) = true ∧
      d.xramClean ∧ d.seqOn = true)
    (fun e d t => d.endsOk t e 0 ∧ t.seq.shadow = some (imageOf (d.xbytes (eAt e 8 2) (eAt e 12 4)) (eAt e 12 4)).1 ∧
      t.is R.SEQ_STATUS_SLOADED = true ∧ t.is R.SEQ_STATUS_SVERIFIED = false ∧ t.seq.active = d.seq.active) ∧
  (∀ im : Image, let ready := fun (d : Dev) => d.seq.shadow = some im ∧ d.is R.SEQ_STATUS_SLOADED = true ∧ d.seqOn = true
    ExecutesTo .progVerify 0x11 2 (fun _ d => ready d ∧ ∀ f, d.hp.queue.head? = some f → 0x208000 ≤ f.1 ∨ f.1 + f.2.length ≤ 0x200000)
      (fun e d t => let r := d.verify im d.shadowBank
        (r.1 = 0 → d.endsOk t e 0) ∧ (r.1 ≠ 0 → d.endsBad t e) ∧ t.get R.SEQ_VRES_CODE = r.1 % 256 ∧
        t.is R.SEQ_STATUS_SVERIFIED = decide (r.1 = 0) ∧ t.seq.shadow = some im ∧ t.hp.queue = d.hp.queue) ∧
    (∀ (a : Nat) (bs : List Byte) (rest : List (Nat × List Byte)), 0x200000 ≤ a → a + bs.length ≤ 0x208000 → 0 < bs.length →
      ExecutesTo .progVerify 0x11 2 (fun _ d => ready d ∧ d.hp.queue = (a, bs) :: rest ∧ d.domOn 7 = true ∧
          (d.verify im d.shadowBank).1 = 0)
        (fun e d t =>
          (d.endsOk t e 0 ∧ t.get R.SEQ_VRES_CODE = 0 ∧ t.is R.SEQ_STATUS_SVERIFIED = true ∧ t.hp.queue = d.hp.queue) ∨
          (d.endsBad t e ∧ t.get R.SEQ_VRES_CODE = 0x0A ∧ t.is R.SEQ_STATUS_SVERIFIED = false ∧ t.hp.queue = rest)))) ∧
  ExecutesTo .progVerify 0x11 2 (fun _ d => d.seq.shadow = none) (fun e d t => d.endsBad t e ∧ t.seq = d.seq) ∧
  ExecutesTo .progSwap 0x12 2 (fun _ d => d.asyncsOf 0x12 = [] ∧ d.seq.swapWait = none ∧ d.swapCause false = none ∧ d.st = stRunning)
    (fun e d t => d.inProgress t e ∧ t.seq = { d.seq with swapWait := some 0, swapTag := eTag e } ∧ t.get R.GPIO_SWAPST_STATE = 1) ∧
  (∀ im : Image, ExecutesTo .progSwap 0x12 2 (fun _ d => d.asyncsOf 0x12 = [] ∧ d.seq.swapWait = none ∧ d.swapCause false = none ∧
      d.st ≠ stRunning ∧ d.seq.shadow = some im)
    (fun e d t => d.endsOk t e 0 ∧ t.seq.active = some im ∧ t.seq.shadow = none ∧ t.seq.pReset = true ∧ t.st = stBootWait ∧
      t.get R.SEQ_STATUS_ACTIVE = d.shadowBank ∧ t.is R.SEQ_STATUS_AVERIFIED = true ∧ t.get R.GPIO_SWAPST_STATE = 2)) ∧
  (∀ c x : Nat, ExecutesTo .progSwap 0x12 2 (fun _ d => d.asyncsOf 0x12 = [] ∧ d.seq.swapWait = none ∧ d.swapCause false = some (c, x))
    (fun e d t => d.endsBad t e ∧ t.get R.GPIO_SWAPST_CODE = c ∧ t.get R.GPIO_SWAPST_STATE = 3 ∧ t.seq = d.seq)) ∧
  ExecutesTo .progSwap 0x12 2 (fun _ d => d.seq.swapWait.isSome = true)
    (fun e d t => d.endsBad t e ∧ t.get R.GPIO_SWAPST_CODE = 4 ∧ t.seq = d.seq) ∧
  ExecutesTo .calRun 0x20 3 (fun e d => (d.taken.started e (kind e)).calRefusal (kind e) = none ∧ kind e ≠ 3)
    (fun e d t => d.inProgress t e ∧ t.is R.CAL_STATUS_BUSYT = true ∧ t.get R.CAL_STATUS_KINDT = kind e ∧ t.get R.CAL_STATUS_NRUN = 0 ∧
      t.cal.touch.isSome = true) ∧
  ExecutesTo .calRun 0x20 3 (fun e d => (d.taken.started e 3).calRefusal 3 = none ∧ kind e = 3)
    (fun e d t => d.inProgress t e ∧ t.is R.CAL_STATUS_BUSYA = true ∧ t.cal.aux.isSome = true) ∧
  (∀ c, ExecutesTo .calRun 0x20 3 (fun e d => (d.taken.started e (kind e)).calRefusal (kind e) = some c)
    (fun e d t => d.endsBad t e ∧ t.ring.asyncs.length = d.ring.asyncs.length ∧ t.cal = d.cal)) ∧
  ExecutesTo .calSave 0x21 4 (fun e d => d.areaValid (eAt e 8 2) (eAt e 10 2) = true ∧ d.taken.calImage.length ≤ eAt e 10 2 ∧
      d.xramClean ∧ d.is R.CQ_CTRL_MODE = false ∧ bitOf (eFlags e) 6 = false)
    (fun e d t => d.endsOk t e d.taken.calImage.length ∧ t.xbytes (eAt e 8 2) d.taken.calImage.length = d.taken.calImage) ∧
  ExecutesTo .calLoad 0x22 4 (fun e d => d.areaValid (eAt e 8 2) (eAt e 10 2) = true ∧ d.is R.CAL_STATUS_BUSYT = false ∧
      d.xramClean ∧ d.taken.calImageBad (d.xbytes (eAt e 8 2) (eAt e 10 2)) = none)
    (fun e d t => let bs := d.xbytes (eAt e 8 2) (eAt e 10 2)
      let m := leNat ((bs.drop 16).take 1) % 16
      d.endsOk t e m ∧ t.get R.CAL_STATUS_LOADED = d.get R.CAL_STATUS_LOADED ||| m ∧
        (t.reg R.CAL_LSIG).toNat = leNat ((bs.drop 12).take 4)) ∧
  (∀ c, ExecutesTo .calLoad 0x22 4 (fun e d => d.areaValid (eAt e 8 2) (eAt e 10 2) = true ∧ d.is R.CAL_STATUS_BUSYT = false ∧
      d.xramClean ∧ d.taken.calImageBad (d.xbytes (eAt e 8 2) (eAt e 10 2)) = some c)
    (fun e d t => d.endsBad t e ∧ t.cal = d.cal ∧ t.reg R.CAL_STATUS = d.reg R.CAL_STATUS))

/-- R478–R481, R483, R486–R489, R504: REGION_SET takes or stages the registers of its regions when every one is valid, and
refuses the lowest cause otherwise; KEYMAP_SET binds its edge detectors, at the next tick while ticks come; HOP_TABLE_SET
takes the table outside the running states; IMAGE_DUMP and PERI_XFER start; LOG_READ is passed and leaves no command in
flight; the counter block is written and the masked counters of TICK_COUNTS to HP_COUNTS cleared; MAILBOX copies its
payload, shows where, and raises its event, and ends with an error while the program has not taken the last one. -/
def Obligations.DataCommands : Prop :=
  let seen := fun (t : Dev) (a : Nat) (v : Word) => t.viewReg a &&& rwsMask a = v &&& rwsMask a
  (∀ n : Nat, 0 < n → n ≤ 32 → let valid := fun (e : List Byte) => eAt e 9 1 = n ∧ eAt e 8 1 + n ≤ 32
    ExecutesTo .regionSet 0x30 (4 + 3 * n) (fun e d => valid e ∧ d.regReachable (R.CT_RGX 0) = true ∧
        ∀ r ∈ regionsOf e, d.taken.regionCause r.2.1 r.2.2.1 r.2.2.2 = none)
      (fun e d t => d.endsOk t e 0 ∧ ∀ r ∈ regionsOf e,
        seen t (R.CT_RGX r.1) r.2.1 ∧ seen t (R.CT_RGY r.1) r.2.2.1 ∧ seen t (R.CT_RGC r.1) r.2.2.2) ∧
    ExecutesTo .regionSet 0x30 (4 + 3 * n) (fun e d => valid e ∧ ∃ r ∈ regionsOf e, d.taken.regionCause r.2.1 r.2.2.1 r.2.2.2 ≠ none)
      (fun e d t => d.endsBad t e ∧ t.staged = d.staged ∧ ∀ k, k < 32 → t.reg (R.CT_RGX k) = d.reg (R.CT_RGX k))) ∧
  (∀ n : Nat, 0 < n → n ≤ 64 →
    let valid := fun (e : List Byte) => eAt e 8 1 = n ∧ ((bindingsOf e).map (·.1)).Nodup ∧ ∀ b ∈ bindingsOf e, b.1 ≤ 63
    ExecutesTo .keymapSet 0x31 (4 + n) (fun e d => valid e ∧ d.ticking = false)
      (fun e d t => d.endsOk t e 0 ∧ ∀ b ∈ bindingsOf e, (t.reg (R.ED_CFG b.1)).toNat = b.2) ∧
    ExecutesTo .keymapSet 0x31 (4 + n) (fun e d => valid e ∧ d.ticking = true)
      (fun e d t => d.endsOk t e 0 ∧ (∀ b ∈ bindingsOf e, b ∈ t.panel.edBind) ∧ ∀ k, k < 64 → t.reg (R.ED_CFG k) = d.reg (R.ED_CFG k))) ∧
  ExecutesTo .hopTableSet 0x40 10 (fun _ d => d.regReachable (R.HOP_TABLE 0) = true ∧ d.busyState = false)
    (fun e d t => d.endsOk t e 0 ∧ ∀ h, h < 8 → seen t (R.HOP_TABLE h) (BitVec.ofNat 32 (eAt e (8 + 4 * h) 4) &&& 0x1FFFF)) ∧
  ExecutesTo .imageDump 0x50 3 (fun e d => d.st = stRunning ∧ d.asyncsOf 0x50 = [] ∧ eAt e 8 1 ≤ 5 ∧ eAt e 9 1 ≠ 0)
    (fun e d t => d.inProgress t e ∧
      t.img = { d.img with dump := some ⟨eAt e 8 1, eAt e 9 1, 0, eTag e, d.acq.proc.isSome⟩ }) ∧
  ExecutesTo .imageDump 0x50 3 (fun _ d => d.st ≠ stRunning) (fun e d t => d.endsBad t e ∧ t.img = d.img) ∧
  ExecutesTo .periXfer 0x60 6 (fun e d => xferBad e = none ∧ d.areaValid (eAt e 20 2) (eAt e 14 2) = true ∧ d.seq.bootFrom = none ∧
      d.pp.queue.length < 16 ∧ d.domOn 9 = true ∧ d.xramClean)
    (fun e d t => d.inProgress t e ∧ t.get R.PP_STATUS_QCNT = d.pp.queue.length + 1 ∧
      ∃ a : Async, t.ring.asyncs = d.ring.asyncs ++ [a] ∧
        t.pp = { d.pp with queue := d.pp.queue ++ [{ xferOf e with cmd := some a }], ahead := t.pp.ahead } ∧
        (d.pp.active = none → d.pp.ahead = none → t.pp.ahead = none)) ∧
  ExecutesTo .periXfer 0x60 6 (fun e d => xferBad e ≠ none ∨ d.areaValid (eAt e 20 2) (eAt e 14 2) = false)
    (fun e d t => d.endsBad t e ∧ t.pp = d.pp) ∧
  ExecutesTo .logRead 0x90 3 (fun e d => d.asyncsOf 0x90 = [] ∧ eAt e 9 1 ≠ 0 ∧ eAt e 8 1 + eAt e 9 1 ≤ 32)
    (fun e d t => d.passes t e ∧ t.ring.batch = none ∧ (d.ring.waiting = [] → t.ring.waiting = [] → t.ring.asyncs = d.ring.asyncs) ∧
      t = ((d.taken.started e 0).reportWait ((d.taken.started e 0).logReport (eAt e 8 1) (eAt e 9 1) (eTag e))).endAsyncAfter
        (d.taken.inFlight e 0) 0 (eAt e 9 1)) ∧
  ExecutesTo .countersRead 0x91 3 (fun e d => 160 ≤ eAt e 10 2 ∧ d.areaValid (eAt e 8 2) (eAt e 10 2) = true ∧ d.xramClean ∧
      d.is R.CQ_CTRL_MODE = false ∧ bitOf (eFlags e) 6 = false)
    (fun e d t => d.endsOk t e 160 ∧ t.xbytes (eAt e 8 2) 160 = d.counterBlock) ∧
  ExecutesTo .countersClear 0x92 3 (fun _ _ => True)
    (fun e d t => d.endsOk t e 0 ∧
      ∀ (k a : Nat), (k, a) ∈ [(0, R.TICK_COUNTS), (1, R.IMG_COUNTS), (1, R.IMG_COUNTS2), (2, R.CT_COUNTS), (3, R.OPT_COUNTS), (4, R.AUX_COUNTS),
          (5, R.CAL_COUNT0), (5, R.CAL_COUNT1), (6, R.SEQ_COUNTS), (6, R.SEQ_CYCMAX), (7, R.HP_COUNTS)] →
        t.reg a = if bitOf (eAt e 8 4) k = true ∧ d.regReachable a = true then 0 else d.reg a) ∧
  (∀ n : Nat, let runs := fun (d : Dev) => d.seqOn = true ∧ d.sq ≠ sqEmpty ∧ d.sq ≠ sqHalted
    ExecutesTo .mailbox 0xA0 (3 + n) (fun e d => runs d ∧ bitOf (d.get R.SEQ_EVPEND_EV) 1 = false ∧
        d.areaValid (eAt e 8 2) (4 * n) = true ∧ d.xramClean ∧ d.is R.CQ_CTRL_MODE = false ∧ bitOf (eFlags e) 6 = false)
      (fun e d t => d.endsOk t e (4 * n) ∧ t.get R.SEQ_MBOX_OFFSET = eAt e 8 2 ∧ t.get R.SEQ_MBOX_LEN = 4 * n % 2 ^ R.SEQ_MBOX_LEN.width ∧
        bitOf (t.get R.SEQ_EVPEND_EV) 1 = true ∧
        (e.length = 12 + 4 * n → t.xbytes (eAt e 8 2) (4 * n) = e.drop 12)) ∧
    ExecutesTo .mailbox 0xA0 (3 + n) (fun _ d => ¬runs d ∨ bitOf (d.get R.SEQ_EVPEND_EV) 1 = true)
      (fun e d t => d.endsBad t e ∧ t.reg R.SEQ_MBOX = d.reg R.SEQ_MBOX))

/-- R484, R485, R516, R517, R581–R583, R586, R592: POWER_REQ in BOOT_WAIT, READY or RUNNING, with none in flight and no
other state request in progress, starts its request: the domains it names ramp up or drain, or wait for a tick; Heath is
accepted where nothing refuses it; Fallow entry begins where nothing keeps the device from it; Meadow brings up the domains
of its set that are OFF. In another state it ends with STATE. CLUSTER_CFG in READY on a lead with a locked link sends
ENUM, and on the lead of a cluster LEAVE; a member of a cluster ends it with CLUSTER. -/
def Obligations.PowerAndClusterCommands : Prop :=
  let may := fun (d : Dev) => (d.st = stBootWait ∨ d.st = stReady ∨ d.st = stRunning) ∧ d.asyncsOf 0x70 = [] ∧ d.pwr.stateReq = none
  let plain := fun (act : Nat) (e : List Byte) => eAt e 8 1 = act ∧ eAt e 10 2 = 0 ∧ eAt e 12 2 = 0
  let node := fun (d : Dev) => d.st = stReady ∧ d.clMember = false ∧ d.asyncsOf 0x80 = []
  let waits := fun (d : Dev) (k : Nat) => d.ticking = true ∧ k ∈ [3, 4, 5]
  let rises := fun (d t : Dev) (on : Nat) => ∀ k, k < 12 → bitOf on k = true → d.dom k = 0 →
    (¬waits d k → t.dom k = 1) ∧ (waits d k → bitOf t.pwr.tickOn k = true)
  ExecutesTo .powerReqDomains 0x70 4 (fun e d => may d ∧ eAt e 8 1 = 0 ∧ eAt e 10 2 &&& eAt e 12 2 = 0 ∧ d.is R.FLT_TEMPST_CRIT = false ∧ d.calQuiet ∧
      ∀ k, k < 12 → bitOf (eAt e 12 2) k = true → (d.taken.started e 0).domInUse k = none)
    (fun e d t => d.passes t e ∧ rises d t (eAt e 10 2) ∧
      ∀ k, k < 12 → bitOf (eAt e 12 2) k = true → d.dom k = 2 → d.ticking = false → t.dom k = 3) ∧
  ExecutesTo .powerReqHeath 0x70 4 (fun e d => may d ∧ plain 1 e ∧ d.st = stRunning ∧ d.clMember = false ∧ d.heathBank = none ∧
      (d.taken.started e 0).heathFits = true)
    (fun e d t => d.inProgress t e ∧ ∃ a : Async, a.op = 0x70 ∧ a.tag = eTag e ∧
      t.pwr = { d.pwr with stateReq := some ⟨1, some a, false, false⟩, hcfg := (d.reg R.PWR_HCFG).toNat } ∧ t.is R.PWR_RES_BUSY = true) ∧
  ExecutesTo .powerReqFallow 0x70 4 (fun e d => may d ∧ plain 2 e ∧ d.mayFallow) (fun e d t => d.passes t e ∧ d.entersFallow t) ∧
  ExecutesTo .powerReqFallow 0x70 4 (fun e d => may d ∧ plain 2 e ∧ d.st = stRunning ∧ d.enumerated = false ∧ d.calQuiet)
    (fun e d t => d.passes t e ∧ t.st = stStopping ∧ t.is R.SYS_CTRL_RUN = false) ∧
  ExecutesTo .powerReqMeadow 0x70 4 (fun e d => may d ∧ plain 3 e ∧ d.is R.FLT_TEMPST_CRIT = false)
    (fun e d t => d.passes t e ∧
      rises d t ((0xEFF + (if d.get R.CL_CTRL_ROLE = 0 then 0 else 0x100)) &&& (0xFFF - d.domsOn))) ∧
  (∀ (c : Instr) (act : Nat), (c, act) ∈ [(Instr.powerReqDomains, 0), (.powerReqHeath, 1), (.powerReqFallow, 2), (.powerReqMeadow, 3)] →
    ExecutesTo c 0x70 4 (fun e d => eAt e 8 1 = act ∧ d.st ≠ stBootWait ∧ d.st ≠ stReady ∧ d.st ≠ stRunning)
      (fun e d t => d.endsBad t e ∧ t.pwr = d.pwr ∧ t = d.taken.cqSync e 4 d.st)) ∧
  ExecutesTo .clusterCfgEnumerate 0x80 4 (fun e d => node d ∧ eAt e 8 1 = 0 ∧ 0 < eAt e 9 1 ∧ eAt e 9 1 ≤ 7 ∧ d.isLead = true ∧
      d.enumerated = false ∧ d.domOn 8 = true ∧ d.is R.CL_STATUS_LINK = true)
    (fun e d t => d.inProgress t e ∧ t.get R.CL_STATUS_NMEMB = 0 ∧
      (∃ x : EnumRun, t.cl.enum = some x ∧ x.step = 1 ∧ x.expect = eAt e 9 1) ∧
      ∃ f : RingFrame, t.cl.tx = d.cl.tx ++ [f] ∧ f.typ = 1 ∧ f.dst = 15 ∧ f.body = [1]) ∧
  ExecutesTo .clusterCfgDissolve 0x80 4 (fun e d => node d ∧ eAt e 8 1 = 1 ∧ eAt e 9 1 = 0 ∧ d.clLead = true ∧ d.domOn 8 = true)
    (fun e d t => d.inProgress t e ∧ (∃ x : EnumRun, t.cl.enum = some x ∧ x.step = 4) ∧
      ∃ f : RingFrame, t.cl.tx = d.cl.tx ++ [f] ∧ f.typ = 0x41 ∧ f.dst = 15) ∧
  (∀ (c : Instr) (act : Nat), (c, act) ∈ [(Instr.clusterCfgEnumerate, 0), (.clusterCfgDissolve, 1)] →
    ExecutesTo c 0x80 4 (fun e d => eAt e 8 1 = act ∧ d.st = stReady ∧ d.clMember = true)
      (fun e d t => d.endsBad t e ∧ t.cl = d.cl ∧ t = d.taken.cqSync e 12 (d.get R.CL_STATUS_NODE)))

/-! ### Register writes of the image chain and of the side blocks (chapters 01 to 09) -/

/-- R30, R34, R94, R114, R118, R122, R132, R149, R157, R170, R191, R192: REFORM asks for a re-formation once, which a lead
announces, and ends a touch-kind run; CLRCNT clears the counts. CT_CTRL is taken, LARKON showing LARK at once outside the
running states, and in them MREJ refuses a write that starts Gorse or Lark. ACQ_DRV keeps VMAX and SLEW in them, and
refuses a LEVEL above VMAX with LREJ. Roles and geometry are taken outside them, with the Sward discarded, and ignored in
them. A region is taken, or in them refused with RREJ when it is invalid; so is a hop table entry, with TREJ. A forced hop
to another enabled entry becomes pending; one to an entry that is not enabled sets FREJ; a member ignores it. -/
def Obligations.ImageAndAcquisitionWrites : Prop :=
  let asks := fun (d : Dev) => ({ d with
    img := { d.img with reform := true }, cl := { d.cl with reform := d.cl.reform || (d.isLead && d.enumerated) } } : Dev)
  let dropped := fun (d t : Dev) => t.get R.IMG_STATUS_SWSTATE = 0 ∧
    t.img = { d.img with hasM := false, hasS := false, kept := false, restored := none, groups := [], mode := 0 }
  Does .imgReform (fun d => d.regReachable R.IMG_CMD = true ∧ d.get R.IMG_STATUS_SWSTATE ≠ 1 ∧ d.is R.CAL_STATUS_BUSYT = false ∧
    d.calQuiet) asks ∧
  Leaves .imgReform (fun d => d.regReachable R.IMG_CMD = true ∧ d.get R.IMG_STATUS_SWSTATE ≠ 1 ∧ d.is R.CAL_STATUS_BUSYT = true ∧
    d.calQuiet) (fun _ t => t.img.reform = true ∧ t.is R.CAL_STATUS_BUSYT = false ∧ t.cal.touch = none) ∧
  Does .imgReform (fun d => d.get R.IMG_STATUS_SWSTATE = 1) (fun d => d) ∧
  Does .imgClrcnt (fun d => d.regReachable R.IMG_CMD = true) (fun d => (d.setReg R.IMG_COUNTS 0).setReg R.IMG_COUNTS2 0) ∧
  Does .ctClrcnt (fun d => d.regReachable R.CT_CMD = true) (fun d => d.setReg R.CT_COUNTS 0) ∧
  (∀ v : BitVec 32,
    let enters := fun (d : Dev) => (d.get R.CT_CTRL_GORSE = 0 ∧ R.CT_CTRL_GORSE.of v ≠ 0 ∧ R.CT_CTRL_GORSE.of v ≠ 3) ∨
      (d.is R.CT_CTRL_LARK = false ∧ R.CT_CTRL_LARK.of v = 1)
    let mode := fun (d : Dev) => if R.CT_CTRL_GORSE.of v = 3 then R.CT_CTRL_GORSE.into v (R.CT_CTRL_GORSE.of (d.viewReg R.CT_CTRL)) else v
    let drv := fun (d : Dev) => if d.busyState then R.ACQ_DRV_SLEW.into (R.ACQ_DRV_VMAX.into v (d.get R.ACQ_DRV_VMAX)) (d.get R.ACQ_DRV_SLEW) else v
    Leaves (.ctCtrlWrite v) (fun d => d.regReachable R.CT_CTRL = true ∧ d.busyState = false) (fun d t =>
      t.is R.CT_STATUS_LARKON = (R.CT_CTRL_LARK.of v == 1) ∧
      d.takes (t.putB R.CT_STATUS_LARKON (d.is R.CT_STATUS_LARKON)) R.CT_CTRL (mode d)) ∧
    Leaves (.ctCtrlWrite v) (fun d => d.regReachable R.CT_CTRL = true ∧ d.busyState = true ∧ ¬enters d)
      (fun d t => d.takes t R.CT_CTRL (mode d)) ∧
    Leaves (.ctCtrlWrite v) (fun d => d.regReachable R.CT_CTRL = true ∧ d.busyState = true ∧ enters d)
      (fun d t => t.is R.CT_STATUS_MREJ = true ∧ d.butRegs t [R.CT_STATUS]) ∧
    Leaves (.acqDrvWrite v) (fun d => d.regReachable R.ACQ_DRV = true ∧ R.ACQ_DRV_LEVEL.of v ≤ R.ACQ_DRV_VMAX.of (drv d))
      (fun d t => d.takes t R.ACQ_DRV (drv d)) ∧
    Leaves (.acqDrvWrite v) (fun d => d.regReachable R.ACQ_DRV = true ∧ R.ACQ_DRV_VMAX.of (drv d) < R.ACQ_DRV_LEVEL.of v)
      (fun d t => ∃ e : Dev, t = e.put R.ACQ_STATUS_LREJ 1 ∧
        d.takes e R.ACQ_DRV (R.ACQ_DRV_LEVEL.into (drv d) (R.ACQ_DRV_LEVEL.of (d.viewReg R.ACQ_DRV)))) ∧
    (∀ (w : Fin 3) (k : Fin 32), let a := regionReg w.val k.val
      let bad := fun (d : Dev) =>
        let see := fun (b : Nat) => if b = a then v else d.viewReg b
        let x := see (R.CT_RGX k.val)
        let y := see (R.CT_RGY k.val)
        let c := see (R.CT_RGC k.val)
        let far := fun (swap : Bool) => if d.is R.ACQ_ORIENT_SWAPXY = swap then d.extX else d.extY
        (R.CT_RGC_EN k.val).of c = 1 ∧
          ((R.CT_RGX_HI k.val).of x < (R.CT_RGX_LO k.val).of x ∨ (R.CT_RGY_HI k.val).of y < (R.CT_RGY_LO k.val).of y ∨
            far false < (R.CT_RGX_HI k.val).of x ∨ far true < (R.CT_RGY_HI k.val).of y ∨ (R.CT_RGC_TYPE k.val).of c = 3)
      Leaves (.regionWrite w k v) (fun d => d.regReachable a = true ∧ ¬(d.busyState = true ∧ bad d)) (fun d t => d.takes t a v) ∧
      Leaves (.regionWrite w k v) (fun d => d.regReachable a = true ∧ d.busyState = true ∧ bad d)
        (fun d t => t.is R.CT_STATUS_RREJ = true ∧ d.butRegs t [R.CT_STATUS])) ∧
    (∀ n : Fin 50,
      Leaves (.electrodeRoleWrite n v) (fun d => d.regReachable (R.ACQ_ELROLE n.val) = true ∧ d.busyState = false) (fun d t =>
        t.role n.val = (R.ACQ_ELROLE_ROLE n.val).of v ∧ t.elIndex n.val = (R.ACQ_ELROLE_INDEX n.val).of v ∧
        (∀ m, m < 50 → m ≠ n.val → t.role m = d.role m ∧ t.elIndex m = d.elIndex m) ∧
        t.get R.ACQ_ELSUM_NSENSE = ((List.range 50).filter (fun m => t.role m = 2)).length ∧
        t.get R.ACQ_ELSUM_NDRIVE = ((List.range 50).filter (fun m => t.role m = 1)).length ∧ dropped d t) ∧
      Does (.electrodeRoleWrite n v) (fun d => d.busyState = true) (fun d => d)) ∧
    Leaves (.geometryWrite false v) (fun d => d.regReachable R.ACQ_GEOMX = true ∧ d.busyState = false)
      (fun d t => t.nCols = R.ACQ_GEOMX_COUNT.of v ∧ t.nRows = d.nRows ∧ dropped d t) ∧
    Leaves (.geometryWrite true v) (fun d => d.regReachable R.ACQ_GEOMY = true ∧ d.busyState = false)
      (fun d t => t.nRows = R.ACQ_GEOMY_COUNT.of v ∧ t.nCols = d.nCols ∧ dropped d t) ∧
    (∀ y : Bool, Does (.geometryWrite y v) (fun d => d.busyState = true) (fun d => d)) ∧
    (∀ h : Fin 8, let a := R.HOP_TABLE h.val
      let stands := fun (d : Dev) => d.tableOk ((List.range 8).map (fun g => if g = h.val then v &&& 0x1FFFF else d.viewReg (R.HOP_TABLE g)))
      Leaves (.hopTableWrite h v) (fun d => d.regReachable a = true ∧ ¬(d.busyState = true ∧ stands d = false)) (fun d t => d.takes t a v) ∧
      Leaves (.hopTableWrite h v) (fun d => d.regReachable a = true ∧ d.busyState = true ∧ stands d = false)
        (fun d t => t.is R.HOP_STATUS_TREJ = true ∧ d.butRegs t [R.HOP_STATUS]))) ∧
  (∀ h : Fin 8, let on := fun (d : Dev) => d.reached R.HOP_FORCE ∧ d.clMember = false
    Leaves (.hopForce h) (fun d => on d ∧ d.hopEn h.val = true ∧ d.get R.HOP_STATUS_CUR ≠ h.val) (fun d t =>
      t.hop = { d.hop with forced := some h.val } ∧ t.get R.HOP_STATUS_PENDING = 1 ∧ d.butRegs { t with hop := d.hop } [R.HOP_STATUS]) ∧
    Leaves (.hopForce h) (fun d => on d ∧ d.hopEn h.val = false)
      (fun d t => t.is R.HOP_STATUS_FREJ = true ∧ d.butRegs t [R.HOP_STATUS]) ∧
    Does (.hopForce h) (fun d => d.clMember = true ∨ (on d ∧ d.hopEn h.val = true ∧ d.get R.HOP_STATUS_CUR = h.val)) (fun d => d))

/-- R206, R214–R218, R222–R230, R233, R237, R238, R240: XTCAP starts its capture. The common trigger, from its own source
alone and for TICK once its time has come, resets the converters with SYNCEN; a reset lets what was held take force, with
an empty filter and its time noted. Enabling a converter resets it, and disabling it stops it and ends a CAL_AUX run on
it. An output comes once its conversion has ended: it is corrected, clamped, stamped and counted, SETTLING where it is an
early one, and SINGLE stops behind a settled one; TCAP reads 0 with CHERR where it cannot be measured. A window is armed
with bounds that fit and else refused; a read of the data latches stamp and SEQ for its side. -/
def Obligations.ConvertersWindowsAndApproach : Prop :=
  let two := fun (d : Dev) => d.auxOn = true ∧ d.aux.conv.length = 2
  let fresh := fun (d t : Dev) (n : Nat) => t.is (R.AX_DATA_DATA_VALID n) = false ∧ t.is (R.AX_STAT_RUN n) = t.is (R.AX_CFG_EN n) ∧
    (t.conv n).cfg = (t.reg (R.AX_CFG n)).toNat ∧ (t.conv n).filt = (t.reg (R.AX_FILT n)).toNat ∧ (t.conv n).early = 0 ∧
    (t.conv n).outs = 0 ∧ (t.conv n).resetAt = d.clock
  let fires := fun (c : Instr) (p : Dev → Prop) (q : Dev → Dev → Prop) => Leaves c (fun d => two d ∧ p d)
    (fun d t => q d t ∧ ∀ n, n < 2 → (bitOf (d.conv n).cfg 3 = true → fresh d t n) ∧
      (bitOf (d.conv n).cfg 3 = false → t.conv n = d.conv n ∧ t.reg (R.AX_STAT n) = d.reg (R.AX_STAT n) ∧ t.reg (R.AX_DATA n) = d.reg (R.AX_DATA n)))
  Does .optXtcap (fun d => d.domOn 11 = true) (fun d => { d.put R.OPT_STATUS_XTBUSY 1 with opt := { d.opt with xtSum := 0, xtN := 0, xtB := 0 } }) ∧
  Does .optClrcnt (fun d => d.domOn 11 = true) (fun d => d.setReg R.OPT_COUNTS 0) ∧
  fires .auxSync (fun d => d.get R.AUX_SYNC_SRC = 0) (fun _ _ => True) ∧
  Does .auxSync (fun d => d.auxOn = true ∧ d.get R.AUX_SYNC_SRC ≠ 0) (fun d => d) ∧
  Does .auxClrcnt (fun d => d.auxOn = true) (fun d => d.setReg R.AUX_COUNTS 0) ∧
  (∀ (pin : Fin 6) (up : Bool),
    let chosen := fun (d : Dev) => d.get R.AUX_SYNC_SRC = 2 ∧ d.get R.AUX_SYNC_GPIN = pin.val ∧
      bitOf (d.get R.AUX_SYNC_GEDGE) (if up then 0 else 1) = true
    fires (.auxGpioTrigger ⟨pin, up⟩) chosen (fun _ _ => True) ∧
    Does (.auxGpioTrigger ⟨pin, up⟩) (fun d => ¬chosen d) (fun d => d)) ∧
  (∀ t0 : Nat,
    fires .auxTickTrigger (fun d => d.aux.tickDue.find? (fun t => decide (t ≤ d.clock)) = some t0 ∧ d.get R.AUX_SYNC_SRC = 1)
      (fun d t => t.aux.tickDue = d.aux.tickDue.erase t0) ∧
    Does .auxTickTrigger (fun d => d.aux.tickDue.find? (fun t => decide (t ≤ d.clock)) = some t0 ∧ d.get R.AUX_SYNC_SRC ≠ 1)
      (fun d => { d with aux := { d.aux with tickDue := d.aux.tickDue.erase t0 } }) ∧
    Does .auxTickTrigger (fun d => ∀ t ∈ d.aux.tickDue, d.clock < t) (fun d => d)) ∧
  (∀ (n : Fin 2) (v : BitVec 32), let free := fun (d : Dev) => two d ∧ d.occupied n.val = false
    let keptOsr := v.toNat / 65536 % 32768 < 32 ∨ 16384 < v.toNat / 65536 % 32768
    let stopped := fun (t : Dev) => t.is (R.AX_CFG_EN n.val) = false ∧ t.is (R.AX_STAT_RUN n.val) = false
    Leaves (.auxResetConverter n) two (fun d t => fresh d t n.val ∧ t.reg (R.AX_CFG n.val) = d.reg (R.AX_CFG n.val) ∧
      t.reg (R.AX_FILT n.val) = d.reg (R.AX_FILT n.val) ∧ (t.conv n.val).calNext = none ∧
      ∀ ofs gain run, (d.conv n.val).calNext = some (ofs, gain, run) →
        t.get (R.CAL_AXOFS_VAL n.val) = ofs % 2 ^ 24 ∧ t.get (R.CAL_AXGAIN_VAL n.val) = gain % 2 ^ 24) ∧
    Leaves (.axEnable n v) (fun d => two d ∧ d.is (R.AX_CFG_EN n.val) = false) (fun d t => fresh d t n.val ∧
      t.is (R.AX_CFG_EN n.val) = true ∧ t.is (R.AX_STAT_RUN n.val) = true ∧
      t.get (R.AX_CFG_CHAN n.val) = if v.toNat / 256 % 16 = 15 then d.get (R.AX_CFG_CHAN n.val) else v.toNat / 256 % 16) ∧
    Leaves (.axDisable n v) free (fun d t => stopped t ∧ t.is (R.AX_DATA_DATA_VALID n.val) = false ∧ t.conv n.val = d.conv n.val) ∧
    Leaves (.axDisable n v) (fun d => two d ∧ d.occupied n.val = true ∧ d.calQuiet) (fun _ t => stopped t ∧
      t.is R.CAL_STATUS_BUSYA = false ∧ t.cal.aux = none) ∧
    (v.getLsbD 0 = true → Leaves (.axConfigWrite n false v) (fun d => d.auxOn = true ∧ d.is (R.AX_CFG_EN n.val) = true) (fun d t =>
      d.butRegs { t with pwr := d.pwr } [R.AX_CFG n.val] ∧ t.pwr = { d.pwr with hfoOn := d.pwr.hfoOn || d.st == stHeath } ∧
      t.reg (R.AX_CFG n.val) = (if v.toNat / 256 % 16 = 15 then (R.AX_CFG_CHAN n.val).into (v &&& 0xF3F) (d.get (R.AX_CFG_CHAN n.val)) else v &&& 0xF3F))) ∧
    (∀ s : State, Sys2Proof.Machine.exec (.axConfigWrite n false v) s =
      Sys2Proof.Machine.exec (if v.getLsbD 0 then .axEnable n v else .axDisable n v) s) ∧
    Leaves (.axConfigWrite n true v) (fun d => d.auxOn = true) (fun d t => d.butRegs t [R.AX_FILT n.val] ∧
      t.get (R.AX_FILT_PRESET n.val) = v.toNat % 4 ∧ t.get (R.AX_FILT_ORDER n.val) = v.toNat / 4 % 4 ∧
      t.get (R.AX_FILT_AVG n.val) = v.toNat / 256 % 64 ∧
      (keptOsr → t.get (R.AX_FILT_OSR n.val) = d.get (R.AX_FILT_OSR n.val)) ∧
      (¬keptOsr → t.get (R.AX_FILT_OSR n.val) = v.toNat / 65536 % 32768)) ∧
    (∀ ins : List (Nat × AuxIn),
      let nth := fun (d : Dev) => (d.conv n.val).next
      let ends := fun (d : Dev) => (d.conv n.val).endAt ((nth d).2.1 + (nth d).2.2 - 1)
      let goes := fun (d : Dev) => free d ∧ d.is (R.AX_CFG_EN n.val) = true ∧ d.is (R.AX_STAT_RUN n.val) = true ∧ ends d ≤ d.clock
      let lost := fun (d : Dev) => (d.conv n.val).chan = 13 ∧ ¬((d.conv n.val).tcap = true ∧ d.tcapOk = true)
      let v := fun (d : Dev) => roundDiv ((d.auxRaw n.val (nth d).2.1 (nth d).2.2 ins - d.getS (R.CAL_AXOFS_VAL n.val)) * d.get (R.CAL_AXGAIN_VAL n.val)) (2 ^ 22)
      let c := fun (d : Dev) => max (-8388608) (min 8388607 (v d))
      Leaves (.auxOutput n ins) goes (fun d t =>
        (t.reg (R.AX_TS n.val)).toNat = d.microsAt (ends d) % 2 ^ 32 ∧ t.get (R.AX_STAT_SEQ n.val) = (d.get (R.AX_STAT_SEQ n.val) + 1) % 65536 ∧
        t.is (R.AX_DATA_DATA_VALID n.val) = !(nth d).1 ∧ t.is (R.AX_DATA_SETTLING n.val) = (nth d).1 ∧
        (lost d → t.get (R.AX_DATA_DATA n.val) = 0 ∧ t.is (R.AX_DATA_CHERR n.val) = true) ∧
        (¬lost d → signed 24 (t.get (R.AX_DATA_DATA n.val)) = c d ∧ t.is (R.AX_DATA_OVR n.val) = decide (c d ≠ v d) ∧
          t.is (R.AX_DATA_CHERR n.val) = false) ∧
        t.is (R.AX_STAT_RUN n.val) = !(bitOf (d.conv n.val).cfg 1 && !(nth d).1) ∧
        (bitOf (d.conv n.val).cfg 4 = false → (∀ k, k < 8 → d.is (R.WC_CFG_EN k) = false) → t.mem = d.mem ∧ t.ring = d.ring)) ∧
      Does (.auxOutput n ins) (fun d => d.clock < ends d ∨ d.auxOn = false ∨ d.is (R.AX_CFG_EN n.val) = false ∨
        d.is (R.AX_STAT_RUN n.val) = false ∨ d.occupied n.val = true) (fun d => d)) ∧
    (∀ host : Bool, Leaves (.auxDataRead host n) two (fun d t =>
      t = { d with aux := t.aux } ∧
      (if host then (t.conv n.val).latchH else (t.conv n.val).latchP) =
        (some (d.reg (R.AX_TS n.val)).toNat, some (d.get (R.AX_STAT_SEQ n.val)))))) ∧
  (∀ (k : Fin 8) (v : BitVec 32),
    let fits := fun (d : Dev) => d.getS (R.WC_LO_BOUND k.val) + d.get (R.WC_HYS_HYS k.val) ≤
        d.getS (R.WC_HI_BOUND k.val) - d.get (R.WC_HYS_HYS k.val) ∧
      v.toNat / 4096 % 16 ≠ 15 ∧ v.toNat / 256 % 16 ≠ 0
    Leaves (.windowArm k v) (fun d => d.auxOn = true ∧ fits d) (fun d t =>
      t.is (R.WC_CFG_EN k.val) = true ∧ d.butRegs { t with aux := d.aux } [R.WC_CFG k.val] ∧
      t.get (R.WC_CFG_STATE k.val) = (if d.is (R.WC_CFG_EN k.val) then d.get (R.WC_CFG_STATE k.val) else 0)) ∧
    Leaves (.windowArm k v) (fun d => d.auxOn = true ∧ ¬fits d)
      (fun d t => t.is R.AUX_STATUS_WREJ = true ∧ d.butRegs t [R.AUX_STATUS]) ∧
    Leaves (.windowDisarm k v) (fun d => d.auxOn = true) (fun d t =>
      t.is (R.WC_CFG_EN k.val) = false ∧ t.get (R.WC_CFG_STATE k.val) = 0 ∧ d.butRegs { t with aux := d.aux } [R.WC_CFG k.val]))

/-- R247, R248, R256, R258, R259, R271, R274, R276: GO starts a run, with its slot busy, when nothing refuses it, and
otherwise records the cause with nothing else of calibration changed; ABORT ends the run of its slot and else does
nothing; DEFAULTS outside runs and running states sets gains to 1 and offsets to 0, and else does nothing; the counts
clear. A pass of CAL_AUX waits for all its converters; with REPEAT the first pass is kept for the second; at its end a
clamped output or a value outside the limits ends it with the values in force kept, and good values of an AT_ONCE run are
in force. -/
def Obligations.CalibrationCommandsByRegister : Prop :=
  (∀ kind : Fin 4, let on := fun (d : Dev) => d.reached R.CAL_CMD
    let refused := fun (d : Dev) =>
      if kind.val = 3 then if d.is R.CAL_STATUS_BUSYA then 2 else if d.auxOn then 0 else 8
      else if d.st ≠ stRunning then 1 else if d.is R.CAL_STATUS_BUSYT then 2 else if d.isMember then 0x0B else 0
    let slot := if kind.val = 3 then R.CAL_STATUS_BUSYA else R.CAL_STATUS_BUSYT
    Leaves (.calGo kind) (fun d => on d ∧ refused d ≠ 0) (fun d t => t.get R.CAL_REASON_CODE = refused d ∧
      t.get R.CAL_REASON_KIND = kind.val ∧ t.cal = d.cal ∧ t.reg R.CAL_STATUS = d.reg R.CAL_STATUS) ∧
    (kind.val ≠ 3 → Leaves (.calGo kind) (fun d => on d ∧ refused d = 0)
      (fun d t => t.is R.CAL_STATUS_BUSYT = true ∧ t.get R.CAL_STATUS_KINDT = kind.val ∧ t.get R.CAL_STATUS_NRUN = 0 ∧
        (∃ x : CalTouch, t.cal.touch = some x ∧ x.kind = kind.val ∧ x.cfg = (d.reg R.CAL_CFG).toNat ∧ x.start = none ∧ x.pass.got = 0) ∧
        d.butRegs { t with cal := d.cal } [R.CAL_STATUS])) ∧
    (kind.val = 3 → Leaves (.calGo kind) (fun d => on d ∧ refused d = 0)
      (fun d t => t.is R.CAL_STATUS_BUSYA = true ∧ t.cal.aux = some ⟨d.get R.CAL_CFG_AXSEL, (d.reg R.CAL_CFG).toNat, [], none⟩ ∧
        ∀ n, n < 2 → bitOf (d.get R.CAL_CFG_AXSEL) n = true → t.is (R.AX_DATA_STALE n) = true)) ∧
    Leaves (.calAbort kind) (fun d => on d ∧ d.is slot = true ∧ (kind.val = 3 → d.cal.aux.isSome = true) ∧ d.calQuiet)
      (fun _ t => t.is slot = false ∧ (if kind.val = 3 then t.cal.aux.isNone else t.cal.touch.isNone) = true ∧ t.get R.CAL_REASON_CODE = 8) ∧
    Does (.calAbort kind) (fun d => on d ∧ d.is slot = false ∧ (kind.val = 3 → d.cal.aux = none) ∧ d.calQuiet) (fun d => d) ∧
    Leaves (.calDefaults kind) (fun d => on d ∧ d.busyState = false ∧ d.is R.CAL_STATUS_BUSYT = false ∧ d.is R.CAL_STATUS_BUSYA = false)
      (fun d t => (∀ k, k < 32 → t.get (R.CAL_GAIN_GAIN k) = 0x8000 ∧ t.get (R.CAL_GAIN_LOFS k) = 0) ∧
        (∀ n, n < 400 → t.lineGain n = 0x8000) ∧
        (∀ n, n < 2 → t.get (R.CAL_AXOFS_VAL n) = 0 ∧ t.get (R.CAL_AXGAIN_VAL n) = 0x400000) ∧
        t = { d with regs := t.regs }) ∧
    Does (.calDefaults kind) (fun d => d.busyState = true ∨ d.is R.CAL_STATUS_BUSYT = true ∨ d.is R.CAL_STATUS_BUSYA = true) (fun d => d)) ∧
  Does .calClrcnt (fun d => d.reached R.CAL_CMD) (fun d => (d.setReg R.CAL_COUNT0 0).setReg R.CAL_COUNT1 0) ∧
  (∀ outs : List (Nat × Int × Int × Bool), Does (.calAuxPassEnd outs) (fun d => d.cal.aux = none) (fun d => d)) ∧
  (∀ (r : CalAux) (z f : Int) (clamped : Bool), r.sel = 1 →
    let g : Int := roundDiv (2 ^ 44) (f - z).toNat
    let fits := z < f ∧ 98 * 0x400000 ≤ g * 100 ∧ g * 100 ≤ 102 * 0x400000 ∧ z.natAbs ≤ 41943
    let ended := fun (t : Dev) => t.cal.aux = none ∧ t.is R.CAL_STATUS_BUSYA = false
    Does (.calAuxPassEnd []) (fun d => d.cal.aux = some r) (fun d => d) ∧
    (bitOf r.cfg 6 = true → r.raw = [] → r.ovr = none →
      Does (.calAuxPassEnd [(0, z, f, clamped)]) (fun d => d.cal.aux = some r) (fun d =>
        { d with cal := { d.cal with aux := some { r with raw := [(0, [z, f])], ovr := if clamped then some 0 else none } } })) ∧
    (bitOf r.cfg 6 = false → r.raw = [] → r.ovr = none → atBoundary r.cfg 3 = false → clamped = false → fits →
      Leaves (.calAuxPassEnd [(0, z, f, clamped)]) (fun d => d.cal.aux = some r ∧ d.aux.conv.all (fun x => x.calNext.isNone) = true)
        (fun _ t => ended t ∧ t.getS (R.CAL_AXOFS_VAL 0) = z ∧ t.get (R.CAL_AXGAIN_VAL 0) = g ∧ bitOf (t.get R.CAL_STATUS_VALID) 3 = true)) ∧
    (bitOf r.cfg 6 = false → r.raw = [] → r.ovr = none → (clamped = true ∨ ¬fits) →
      Leaves (.calAuxPassEnd [(0, z, f, clamped)])
        (fun d => d.cal.aux = some r ∧ d.aux.conv.all (fun x => x.calNext.isNone) = true ∧ d.calQuiet) (fun d t => ended t ∧
          t.reg (R.CAL_AXOFS 0) = d.reg (R.CAL_AXOFS 0) ∧ t.reg (R.CAL_AXGAIN 0) = d.reg (R.CAL_AXGAIN 0) ∧
          t.get R.CAL_REASON_CODE = if clamped then 0x0A else if 98 * 0x400000 ≤ g * 100 ∧ g * 100 ≤ 102 * 0x400000 ∧ z < f then 6 else 5)))

/-! ### Periphery port (chapter 17) -/

/-- R549, R552, R555–R562, R566, R567, R570, R571: GO refuses a descriptor with the first cause that holds, and else
queues or arms it; STOP takes it out. A frame starts with the head of the queue and the configuration of its target; it
pauses only where PERI's reservation does not keep up, counted once. A read that ends has written its bytes to its area
alone, a write changes no memory; each is DONE with its count, and the lines have carried the data. A late PRDY or a late
mark ends the frame in TIMEOUT with one event of FS0D; the end of a drain aborts everything. -/
def Obligations.PeripheryTransfers : Prop :=
  let on := fun (d : Dev) => d.reached R.PP_GO ∧ d.seq.bootFrom = none
  let pick := fun (k : Fin 8) => BitVec.ofNat 8 (2 ^ k.val)
  let lasts := fun (d : Dev) (f : PpFrame) => d.pp.active = some f ∧ d.ppLive = true ∧ d.xramClean
  (∀ m : BitVec 8,
    Does (.ppGoStart m) on (fun d => (bitsOf 8 m.toNat).foldl Dev.ppGo d) ∧
    Does (.ppGoStart m) (fun d => d.regReachable R.PP_GO = false ∨ d.st = stHalted ∨ d.seq.bootFrom ≠ none) (fun d => d) ∧
    Does (.ppGoStop m) (fun d => d.reached R.PP_GO) (fun d => (bitsOf 8 m.toNat).foldl Dev.ppStop d)) ∧
  (∀ k : Fin 8, let busy := fun (d : Dev) => d.ppQueued k.val = true ∨ d.ppActive k.val = true ∨ d.is (R.PP_DSTAT_ARMED k.val) = true
    let x := fun (d : Dev) => d.ppDesc k.val
    let cause := fun (d : Dev) => if d.ppBusy k.val then 1 else if (x d).bad || (x d).start == 3 then 2
      else if !d.areaValid (x d).area (x d).dlen then 3 else if (x d).start = 0 ∧ 16 ≤ d.pp.queue.length then 4 else 0
    Leaves (.ppGoStart (pick k)) (fun d => on d ∧ cause d ≠ 0) (fun d t => t.get (R.PP_DSTAT_STATE k.val) = 7 ∧
      t.get (R.PP_DSTAT_CAUSE k.val) = cause d ∧ d.butRegs t [R.PP_DSTAT k.val, R.SEQ_EVPEND]) ∧
    Leaves (.ppGoStart (pick k)) (fun d => on d ∧ cause d = 0 ∧ (x d).start = 0 ∧ d.xramClean) (fun d t =>
      t.pp = { d.pp with queue := d.pp.queue ++ [x d], ahead := t.pp.ahead } ∧ (d.pp.active = none → d.pp.ahead = none → t.pp.ahead = none) ∧ t.get (R.PP_DSTAT_STATE k.val) = 1 ∧
      t.get (R.PP_DSTAT_COUNT k.val) = 0 ∧ t.get (R.PP_DSTAT_CAUSE k.val) = 0 ∧
      d.butRegs { t with pp := d.pp } [R.PP_DSTAT k.val, R.PP_STATUS]) ∧
    Leaves (.ppGoStart (pick k)) (fun d => on d ∧ cause d = 0 ∧ (x d).start ≠ 0) (fun d t =>
      t.is (R.PP_DSTAT_ARMED k.val) = true ∧ d.butRegs t [R.PP_DSTAT k.val]) ∧
    Leaves (.ppGoStop (pick k)) (fun d => d.reached R.PP_GO ∧ busy d) (fun d t => t.is (R.PP_DSTAT_ARMED k.val) = false ∧
      (d.ppActive k.val = false → t.get (R.PP_DSTAT_STATE k.val) = 5 ∧
        t.pp = { d.pp with queue := d.pp.queue.filter (fun y => y.desc ≠ k.val), ahead := t.pp.ahead } ∧
        (∀ a, t.pp.ahead = some a → d.pp.ahead = some a ∧ a.x ∈ t.pp.queue)) ∧
      (d.ppActive k.val = true → t.pp = d.pp)) ∧
    Does (.ppGoStop (pick k)) (fun d => d.reached R.PP_GO ∧ ¬busy d) (fun d => d)) ∧
  Does .ppClrcnt (fun d => d.domOn 9 = true) (fun d => (d.setReg R.PP_COUNTS 0).setReg R.PP_COUNTS2 0) ∧
  (∀ (x : Xfer) (rest : List Xfer), x.desc < 8 →
    Leaves .ppFrameStart (fun d => d.domOn 9 = true ∧ d.pp.queue = x :: rest ∧ d.pp.active = none ∧ d.is R.SYS_STATUS_SEATED = true ∧
        d.is R.SYS_STATUS_VDDIOOK = true ∧ d.xramClean ∧ ∀ a, d.pp.ahead = some a → a.bad = none)
      (fun d t => t.pp.queue = rest ∧ (∃ f, t.pp.active = some f ∧ f.x = x ∧ f.paused = false ∧
          f.tcfg = (d.reg (R.PP_TCFG x.target)).toNat ∧ f.mark = (x.isRead && bitOf f.tcfg 11 && x.dlen != 0) ∧
          (d.pp.ahead = none → f.fifo = if x.isRead then [] else d.xbytes x.area (min x.dlen 64))) ∧
        t.get (R.PP_DSTAT_STATE x.desc) = 2 ∧ t.is R.PP_STATUS_ACTIVE = true ∧ t.get R.PP_STATUS_TARGET = x.target ∧
        t.get R.PP_COUNTS_LO = (d.get R.PP_COUNTS_LO + 1) % 65536 ∧ t.mem = d.mem)) ∧
  Does .ppFrameStart (fun d => d.domOn 9 = false ∨ d.pp.active ≠ none ∨ d.pp.queue = [] ∨ d.is R.SYS_STATUS_SEATED = false ∨
    d.is R.SYS_STATUS_VDDIOOK = false) (fun d => d) ∧
  (∀ f : PpFrame, let width := 2 ^ f.x.dlane
    let count := fun (rx : List Byte) (n : Nat) => if f.x.isRead then min rx.length f.x.dlen else min n f.x.dlen
    let cutBy := fun (busy n : Nat) (d t : Dev) => ∃ e : Dev,
      t = e.raise 0x0D (f.x.target + 8 * busy + 256 * (if f.x.desc < 8 then f.x.desc else 255)) ∧ e.pp.active = none ∧
      e.pp.queue = d.pp.queue ∧ e.get R.PP_COUNTS_HI = min (d.get R.PP_COUNTS_HI + 1) 65535 ∧
      (f.x.desc < 8 → e.get (R.PP_DSTAT_STATE f.x.desc) = 4 ∧ e.get (R.PP_DSTAT_COUNT f.x.desc) = n)
    Leaves .ppFifoResume (fun d => d.pp.active = some f ∧ d.ppNoPause f = false ∧ d.ppLive = true) (fun d t =>
      t.pp = { d.pp with active := some { f with paused := true } } ∧ d.butRegs { t with pp := d.pp } [R.PP_COUNTS2] ∧
      t.get R.PP_COUNTS2_HI = if f.paused then d.get R.PP_COUNTS2_HI else min (d.get R.PP_COUNTS2_HI + 1) 65535) ∧
    Does .ppFifoResume (fun d => d.pp.active = some f ∧ (d.ppNoPause f = true ∨ d.ppLive = false)) (fun d => d) ∧
    (∀ rx : List Byte, f.x.desc < 8 → f.x.isRead = true → f.mark = false →
      (rx.length = f.x.dlen → Leaves (.ppFrameEnd rx) (fun d => lasts d f) (fun d t =>
        t.pp.queue = d.pp.queue ∧ t.pp.active = none ∧ t.get (R.PP_DSTAT_STATE f.x.desc) = 3 ∧
        t.get (R.PP_DSTAT_COUNT f.x.desc) = f.x.dlen ∧ t.is R.PP_STATUS_ACTIVE = false ∧
        ∀ o, t.xb o = if f.x.area ≤ o ∧ o < f.x.area + rx.length then rx.getD (o - f.x.area) 0 else d.xb o)) ∧
      (rx.length < f.x.dlen → Does (.ppFrameEnd rx) (fun d => lasts d f) (fun d => d))) ∧
    (∀ rx : List Byte, f.x.desc < 8 → f.x.isRead = false →
      Leaves (.ppFrameEnd rx) (fun d => lasts d f) (fun d t => t.pp.queue = d.pp.queue ∧ t.pp.active = none ∧
        t.get (R.PP_DSTAT_STATE f.x.desc) = 3 ∧ t.get (R.PP_DSTAT_COUNT f.x.desc) = f.x.dlen ∧ t.mem = d.mem ∧
        (f.x.dlane < 3 → ∃ w, t.pp.wire = d.pp.wire ++ w ∧ w.length = 8 * f.x.dlen / width))) ∧
    (∀ (n : Nat) (rx : List Byte),
      (f.mark = false → bitOf f.tcfg 10 = true → Leaves (.ppPrdyTimeout n rx) (fun d => lasts d f) (cutBy 0 (count rx n))) ∧
      (bitOf f.tcfg 10 = false → Does (.ppPrdyTimeout n rx) (fun d => d.pp.active = some f) (fun d => d))) ∧
    (∀ rx : List Byte, let late := f.mark = true ∧ f.tmark / 65536 % 256 ≤ (rx.takeWhile (fun b => b.toNat ≠ f.tmark / 256 % 256)).length
      (late → f.x.isRead = true → Leaves (.ppMarkTimeout rx) (fun d => lasts d f) (cutBy 1 0)) ∧
      (¬late → Does (.ppMarkTimeout rx) (fun d => d.pp.active = some f) (fun d => d)))) ∧
  (∀ (n : Nat) (rx : List Byte),
    Leaves (.ppDrainTimeout n rx) (fun d => (d.dom 9 = 3 ∨ ∃ t0, d.pp.haltAt = some t0 ∧ t0 + 1000 ≤ d.clock) ∧ d.xramClean) (fun d t => t.pp.queue = [] ∧ t.pp.active = none ∧
      (∀ k, k < 8 → t.is (R.PP_DSTAT_ARMED k) = false) ∧ ∀ x ∈ d.pp.queue, x.desc < 8 → t.get (R.PP_DSTAT_STATE x.desc) = 5) ∧
    Does (.ppDrainTimeout n rx) (fun d => d.dom 9 ≠ 3 ∧ ∀ t0, d.pp.haltAt = some t0 → d.clock < t0 + 1000) (fun d => d) ∧
    (∀ c : Instr, c ∈ [Instr.ppFifoResume, .ppFrameEnd rx, .ppPrdyTimeout n rx, .ppMarkTimeout rx] →
      Does c (fun d => d.pp.active = none) (fun d => d))) ∧
  Does .ppPrdyReady (fun _ => True) (fun d => d)

/-! ### Power (chapter 18) -/

/-- R308, R572, R574, R576–R579, R581, R583, R586, R587, R592, R593, R595, R598, R600, R605, R643: a domain whose ramp is
over (RING: once its link has locked) is ON with the registers it holds at their reset values, or drains at once where it
is wanted OFF; one whose work in flight is done ramps down, and is then OFF, or restarts where it is wanted again; the
other domains stay. With its last domain a request ends with cause 0, an exit from Fallow ends in BOOT_WAIT, and the entry
of Heath or Fallow is complete. A write to PWR_DREQ is ignored where its masks meet, refused with the first cause that
holds, left waiting in CHECKING, and else starts its transitions, or has them wait for a tick; one to PWR_SREQ is refused
with the first cause that holds, or accepted; CLRCNT clears the counts. -/
def Obligations.PowerDomainsAndRequests : Prop :=
  let others := fun (k : Nat) (d t : Dev) => ∀ j, j < 12 → j ≠ k → t.dom j = d.dom j
  let calm := fun (d : Dev) => d.pwr.domReqs = [] ∧ d.pwr.stateReq = none ∧ d.pwr.waking = false ∧ d.st ≠ stFallowExit
  let empty := fun (k : Nat) (t : Dev) => ∀ a, regDomain a = some k → a ≠ R.CL_STATUS → t.reg a = regReset a
  let answers := fun (kind code dom : Nat) (d t : Dev) => t.get R.PWR_RES_CODE = code ∧ t.get R.PWR_RES_KIND = kind ∧
    t.get R.PWR_RES_DOMAIN = dom ∧ t.is R.PWR_RES_SRC = false ∧ t.pwr = { d.pwr with restarted := 0 } ∧ ∀ j, j < 12 → t.dom j = d.dom j
  let done := fun (k : Nat) (d : Dev) =>
    (k = 0 → d.handlerRuns = false ∨ d.pwr.drainAt + d.get R.TICK_PERIOD_PERIOD ≤ d.clock) ∧
    (k = 6 → d.acq.proc = none ∧ d.acq.ready = []) ∧ (k = 7 → d.hp.held = none ∧ d.hp.queue = []) ∧ (k = 8 → d.cl.tx = []) ∧
    (k = 9 → d.pp.active = none) ∧ (k = 11 → bitOf d.pwr.tickOff 11 = false)
  let waits := fun (d : Dev) (k : Nat) => d.ticking = true ∧ k ∈ [3, 4, 5]
  let rises := fun (d : Dev) (k : Nat) => d.dom k = 1 ∧ (k = 8 → d.cl.locked = true)
  (∀ k : Fin 12,
    Leaves (.domainRampUpEnd k) (fun d => rises d k.val ∧ bitOf d.pwr.offAfter k.val = false ∧ calm d) (fun d t =>
      t.dom k.val = 2 ∧ others k.val d t ∧ bitOf (t.get R.PWR_ON_ON) k.val = true ∧ empty k.val t ∧
      (k.val = 8 → t.is R.CL_STATUS_LINK = true ∧ t.is R.CL_STATUS_ENUM = false) ∧
      (k.val = 7 → d.hp.off = true → d.st ≠ stHeath → t.is R.HP_ATTN_WAKE = true ∧ t.hp.off = false) ∧ t.pwr.domReqs = []) ∧
    Leaves (.domainRampUpEnd k) (fun d => rises d k.val ∧ bitOf d.pwr.offAfter k.val = true ∧ calm d ∧ d.ticking = false ∧ d.calQuiet)
      (fun d t => t.dom k.val = 3 ∧ others k.val d t ∧ bitOf t.pwr.offAfter k.val = false) ∧
    Leaves (.domainRampUpEnd k) (fun d => rises d k.val ∧ d.pwr.domReqs = [⟨2 ^ k.val, 0, none, false⟩] ∧ d.pwr.stateReq = none ∧
        d.pwr.tickOn = 0 ∧ d.pwr.tickOff = 0 ∧ d.pwr.onAfter = 0 ∧ d.pwr.offAfter = 0 ∧ d.pwr.waking = false ∧ d.st ≠ stFallowExit)
      (fun _ t => t.dom k.val = 2 ∧ t.pwr.domReqs = [] ∧ t.get R.PWR_RES_CODE = 0 ∧ t.is R.PWR_RES_BUSY = false) ∧
    (∀ t0 : Nat, Leaves (.domainRampUpEnd k) (fun d => d.dom k.val = 1 ∧ bitOf d.pwr.offAfter k.val = false ∧ d.pwr.domReqs = [] ∧
        d.pwr.stateReq = none ∧ d.st = stFallowExit ∧ d.pwr.wakeAt = some t0 ∧ d.is R.SYS_STRAPS_BOOT = false ∧ k.val ∉ [8, 9] ∧
        ∀ j, j < 12 → j ≠ k.val → j ∉ [8, 9] → d.dom j = 2)
      (fun d t => t.st = stBootWait ∧ t.is R.HP_ATTN_WAKE = true ∧ t.get R.PWR_WSRC_LAT = min (d.clock - t0) 65535)) ∧
    Does (.domainRampUpEnd k) (fun d => ¬rises d k.val) (fun d => d) ∧
    Leaves (.domainDrainEnd k) (fun d => d.dom k.val = 3 ∧ done k.val d) (fun d t => t.dom k.val = 4 ∧ others k.val d t ∧
      empty k.val t ∧ (∀ a, regDomain a = some k.val → t.regReachable a = false) ∧ (k.val = 0 → t.seq = Seq.reset ∧ t.mem.dmem = []) ∧
      (k.val = 8 → t.cl = Cl.reset) ∧ (k.val = 9 → t.pp = Pp.reset)) ∧
    Does (.domainDrainEnd k) (fun d => d.dom k.val ≠ 3 ∨ ¬done k.val d) (fun d => d) ∧
    Leaves (.domainRampDownEnd k) (fun d => d.dom k.val = 4 ∧ bitOf d.pwr.onAfter k.val = false ∧ calm d)
      (fun d t => t.dom k.val = 0 ∧ others k.val d t ∧ d.butRegs t [R.PWR_DST0, R.PWR_DST1, R.PWR_ON]) ∧
    (∀ q : StateReq, q.kind = 1 → q.done = true → Leaves (.domainRampDownEnd k) (fun d => d.dom k.val = 4 ∧ d.st = stRunning ∧
        bitOf d.pwr.onAfter k.val = false ∧ d.pwr.domReqs = [] ∧ d.pwr.stateReq = some q ∧ d.pwr.wakeAt = none ∧ d.gpioWake = false ∧
        d.pwr.heathOff < 4096 ∧ ∀ j, j < 12 → bitOf d.pwr.heathOff j = true → j ≠ k.val → d.dom j = 0) (fun d t =>
      t.st = stHeath ∧ t.dom k.val = 0 ∧ others k.val d t ∧ t.pwr.mode = 1 ∧ t.pwr.stateReq = none ∧ t.pwr.wakeEn = (d.reg R.PWR_WAKE).toNat ∧
      t.pwr.tsFrom = some d.clock ∧ t.get R.PWR_COUNTS_HEATH = min (d.get R.PWR_COUNTS_HEATH + 1) 65535)) ∧
    (∀ q : StateReq, q.kind = 2 → q.done = true → Leaves (.domainRampDownEnd k) (fun d => d.dom k.val = 4 ∧ (d.st = stReady ∨ d.st = stBootWait) ∧
        bitOf d.pwr.onAfter k.val = false ∧ d.pwr.domReqs = [] ∧ d.pwr.stateReq = some q ∧ d.pwr.wakeAt = none ∧ d.is R.SYS_STATUS_SEATED = true ∧
        ∀ j, j < 12 → j ≠ k.val → d.dom j = 0) (fun d t => d.inFallow t)) ∧
    Leaves (.domainRampDownEnd k) (fun d => d.dom k.val = 4 ∧ bitOf d.pwr.onAfter k.val = true) (fun d t => t.dom k.val = 5 ∧
      others k.val d t ∧ bitOf (t.get R.PWR_RESTART_RST) k.val = true ∧ bitOf t.pwr.onAfter k.val = false ∧ t.mem = d.mem) ∧
    Does (.domainRampDownEnd k) (fun d => d.dom k.val ≠ 4) (fun d => d) ∧
    Leaves (.domainRestartEnd k) (fun d => d.dom k.val = 5)
      (fun d t => t.dom k.val = 1 ∧ others k.val d t ∧ d.butRegs t [R.PWR_DST0, R.PWR_DST1, R.PWR_ON]) ∧
    Does (.domainRestartEnd k) (fun d => d.dom k.val ≠ 5) (fun d => d)) ∧
  (∀ v : BitVec 32, let on := v.toNat % 4096
    let off := v.toNat / 65536 % 4096
    let asks := on &&& off = 0 ∧ (on ≠ 0 ∨ off ≠ 0)
    let hot := fun (d : Dev) => d.is R.FLT_TEMPST_CRIT = true ∧ bitOf on 5 = true
    let used := fun (d : Dev) (k : Nat) => bitOf off k = true ∧ d.domInUse k ≠ none
    let serves := fun (d : Dev) => d.st ≠ stHalted ∧ d.pwr.stateReq = none
    Does (.pwrDreq v) (fun d => d.st = stHalted ∨ ¬asks) (fun d => d) ∧
    (asks →
      Leaves (.pwrDreq v) (fun d => d.st ≠ stHalted ∧ d.pwr.stateReq ≠ none) (answers 0 8 0) ∧
      Leaves (.pwrDreq v) (fun d => serves d ∧ hot d) (answers 0 2 5) ∧
      (∀ k c : Nat, k < 12 → Leaves (.pwrDreq v) (fun d => serves d ∧ ¬hot d ∧ used d k ∧ (∀ j, j < k → ¬used d j) ∧ d.domInUse k = some c)
        (answers 0 c k)) ∧
      Leaves (.pwrDreq v) (fun d => serves d ∧ d.st = stChecking ∧ ¬hot d ∧ ∀ k, k < 12 → ¬used d k) (fun d t =>
        t.pwr = { d.pwr with domReqs := d.pwr.domReqs ++ [⟨on, off, none, true⟩] } ∧ t.is R.PWR_RES_BUSY = true ∧
        d.butRegs { t with pwr := d.pwr } [R.PWR_RES]) ∧
      Leaves (.pwrDreq v) (fun d => serves d ∧ d.st ≠ stChecking ∧ ¬hot d ∧ (∀ k, k < 12 → ¬used d k) ∧ d.calQuiet) (fun d t => ∀ k, k < 12 →
        (bitOf on k = true → d.dom k = 0 → if waits d k then bitOf t.pwr.tickOn k = true ∧ t.dom k = 0 else t.dom k = 1) ∧
        (bitOf off k = true → d.dom k = 2 → if waits d k then bitOf t.pwr.tickOff k = true ∧ t.dom k = 2 else t.dom k = 3) ∧
        (bitOf on k = false → bitOf off k = false → t.dom k = d.dom k)))) ∧
  (∀ c : Instr, c ∈ [Instr.pwrSreqHeath, .pwrSreqFallow] → Does c (fun d => d.st = stHalted) (fun d => d)) ∧
  Leaves .pwrSreqHeath (fun d => d.st ≠ stHalted ∧ d.st ≠ stRunning) (answers 1 1 0) ∧
  Leaves .pwrSreqHeath (fun d => d.st = stRunning ∧ d.clMember = true) (answers 1 6 0) ∧
  Leaves .pwrSreqHeath (fun d => d.st = stRunning ∧ d.clMember = false ∧ d.pwr.stateReq ≠ none) (answers 1 8 0) ∧
  (∀ b : Nat, Leaves .pwrSreqHeath (fun d => d.st = stRunning ∧ d.clMember = false ∧ d.pwr.stateReq = none ∧ d.heathBank = some b)
    (fun d t => answers 1 4 b d t ∧ t.is R.XR_STATUS_HREJ = true ∧ t.get R.XR_STATUS_HBANK = b)) ∧
  Leaves .pwrSreqHeath (fun d => d.st = stRunning ∧ d.clMember = false ∧ d.pwr.stateReq = none ∧ d.heathBank = none ∧ d.heathFits = false)
    (answers 1 5 0) ∧
  Leaves .pwrSreqHeath (fun d => d.st = stRunning ∧ d.clMember = false ∧ d.pwr.stateReq = none ∧ d.heathBank = none ∧ d.heathFits = true)
    (fun d t => t.pwr = { d.pwr with stateReq := some ⟨1, none, false, false⟩, hcfg := (d.reg R.PWR_HCFG).toNat } ∧
      t.is R.PWR_RES_BUSY = true ∧ d.butRegs { t with pwr := d.pwr } [R.PWR_RES]) ∧
  Leaves .pwrSreqFallow (fun d => d.st ≠ stHalted ∧ d.st ≠ stRunning ∧ d.st ≠ stReady ∧ d.st ≠ stBootWait) (answers 2 1 0) ∧
  Leaves .pwrSreqFallow (fun d => d.st ∈ [stRunning, stReady, stBootWait] ∧ d.enumerated = true) (answers 2 7 0) ∧
  Leaves .pwrSreqFallow (fun d => d.st ∈ [stRunning, stReady, stBootWait] ∧ d.enumerated = false ∧ d.pwr.stateReq ≠ none) (answers 2 8 0) ∧
  Leaves .pwrSreqFallow (fun d => d.st = stRunning ∧ d.enumerated = false ∧ d.pwr.stateReq = none ∧ d.calQuiet)
    (fun d t => t.st = stStopping ∧ t.is R.SYS_CTRL_RUN = false ∧
      t.pwr = { d.pwr with stateReq := some ⟨2, none, true, false⟩, fcfg := (d.reg R.PWR_FCFG).toNat }) ∧
  Leaves .pwrSreqFallow (fun d => d.mayFallow) (fun d t => d.entersFallow t) ∧
  Does .pwrClrcnt (fun _ => True) (fun d => d.setReg R.PWR_COUNTS 0)

/-! ### Temperature and fault registers (chapter 20) -/

/-- R632, R638–R644, R649–R651, R655: a cool sample shows the higher reading and restarts the runs; the eighth reading in
a row at the warning threshold sets WARN with one event of FS0E; the eighth at the critical threshold sets CRIT, switches
DRV off and ends RUNNING, and the eighth below it by
the hysteresis clears CRIT and switches DRV on again. A window closes
once its time has passed, with its count 0; the clears take effect; FLT_TEMP takes values that fit and ignores the others;
FLT_CFGs keeps WIN against a 0 and ACTION against a 3 and, for FS16, always. -/
def Obligations.TemperatureAndFaultRegisters : Prop :=
  (∀ t0 t1 : Int, let t := max t0 t1
    Leaves (.tempSample t0 t1) (fun d => d.is R.FLT_TEMPST_WARN = false ∧ d.is R.FLT_TEMPST_CRIT = false ∧ d.flt.due = [] ∧
        t < 16 * (d.get R.FLT_TEMP_WARN : Int) ∧ t < 16 * (d.get R.FLT_TEMP_CRIT : Int))
      (fun d u => u.get R.FLT_TEMPST_TNOW = unsigned 16 t ∧ u.is R.FLT_TEMPST_SRC = decide (t0 < t1) ∧
        u.get R.FLT_TEMPST_WRUN = 0 ∧ u.get R.FLT_TEMPST_CRUN = 0 ∧ u.is R.FLT_TEMPST_WARN = false ∧
        d.butRegs u [R.FLT_TEMPST, R.FLT_TMAX] ∧
        u.get R.FLT_TMAX_TMAX = (if d.getS R.FLT_TMAX_TMAX < t then unsigned 16 t else d.get R.FLT_TMAX_TMAX)) ∧
    Leaves (.tempSample t0 t1) (fun d => d.is R.FLT_TEMPST_WARN = false ∧ d.is R.FLT_TEMPST_CRIT = false ∧
        16 * (d.get R.FLT_TEMP_WARN : Int) ≤ t ∧ t < 16 * (d.get R.FLT_TEMP_CRIT : Int) ∧ d.get R.FLT_TEMPST_WRUN = 7 ∧
        d.st ≠ stChecking)
      (fun d u => ∃ e : Dev, d.butRegs e [R.FLT_TEMPST, R.FLT_TMAX] ∧ e.is R.FLT_TEMPST_WARN = true ∧
        e.get R.FLT_TEMPST_TNOW = unsigned 16 t ∧ u = e.raise 0x0E (unsigned 16 (Int.fdiv t 16))) ∧
    Leaves (.tempSample t0 t1) (fun d => d.is R.FLT_TEMPST_WARN = true ∧ d.is R.FLT_TEMPST_CRIT = false ∧
        16 * (d.get R.FLT_TEMP_CRIT : Int) ≤ t ∧ d.get R.FLT_TEMPST_CRUN = 7 ∧ d.dom 5 = 2 ∧
        bitOf d.pwr.tickOff 5 = false ∧ d.st ≠ stHeath)
      (fun _ u => u.is R.FLT_TEMPST_CRIT = true ∧ u.dom 5 = 3 ∧ u.flt.drvOff = true ∧ u.st ≠ stRunning ∧ u.st ≠ stHeath) ∧
    Leaves (.tempSample t0 t1) (fun d => d.is R.FLT_TEMPST_WARN = true ∧ d.is R.FLT_TEMPST_CRIT = true ∧
        t < 16 * ((d.get R.FLT_TEMP_CRIT : Int) - d.get R.FLT_TEMP_HYS) ∧ d.get R.FLT_TEMPST_CRUN = 7 ∧ d.flt.due = [])
      (fun d u => u.is R.FLT_TEMPST_CRIT = false ∧ u.flt.drvOff = false ∧
        (d.flt.drvOff = true → d.dom 5 = 0 → d.ticking = false → u.dom 5 = 1) ∧ (d.flt.drvOff = false → u.dom 5 = d.dom 5))) ∧
  (∀ k : Fin 22, ∀ v : BitVec 32,
    let past := fun (d : Dev) => ∃ w ∈ d.flt.windows, w.src = k.val + 1 ∧ w.opened + 1000 * w.win ≤ d.micros
    Leaves (.faultWindowClose k) past (fun d t =>
      t.flt = { d.flt with windows := d.flt.windows.filter (fun w => w.src != k.val + 1) } ∧
      t.get (R.FLT_CNT_WCNT k.val) = 0 ∧ bitOf (t.get R.FLT_WOPEN_OPEN) k.val = false ∧
      d.butRegs { t with flt := d.flt } [R.FLT_CNT k.val, R.FLT_WOPEN]) ∧
    Does (.faultWindowClose k) (fun d => ¬past d) (fun d => d) ∧
    Leaves (.fltCfgWrite k v) (fun _ => True) (fun d t => d.butRegs t [R.FLT_CFG k.val] ∧
      t.get (R.FLT_CFG_WIN k.val) = (if v.toNat % 65536 = 0 then d.get (R.FLT_CFG_WIN k.val) else v.toNat % 65536) ∧
      t.get (R.FLT_CFG_LIMIT k.val) = (R.FLT_CFG_LIMIT k.val).of v ∧
      t.get (R.FLT_CFG_ACTION k.val) =
        (if (R.FLT_CFG_ACTION k.val).of v = 3 ∨ k.val = 21 then d.get (R.FLT_CFG_ACTION k.val) else (R.FLT_CFG_ACTION k.val).of v) ∧
      t.get (R.FLT_CFG_RPT k.val) = (R.FLT_CFG_RPT k.val).of v ∧ t.get (R.FLT_CFG_LOG k.val) = (R.FLT_CFG_LOG k.val).of v)) ∧
  Leaves .fltClrcnt (fun _ => True) (fun d t => (∀ k, k < 22 → t.reg (R.FLT_CNT k) = 0 ∧ bitOf (t.get R.FLT_WOPEN_OPEN) k = false) ∧
    (∀ w ∈ t.flt.windows, w.src = 0 ∨ 22 < w.src) ∧ t.flt.log = d.flt.log ∧ t.mem = d.mem) ∧
  Leaves .fltClrlost (fun _ => True) (fun d t => t.get R.FLT_LOG_LOST = 0 ∧ d.butRegs t [R.FLT_LOG]) ∧
  Leaves .fltClrtmax (fun _ => True) (fun d t => t.get R.FLT_TMAX_TMAX = 0x8000 ∧ d.butRegs t [R.FLT_TMAX]) ∧
  (∀ v : BitVec 32, let w := v.toNat % 256
    let c := v.toNat / 256 % 256
    let fits := w < c ∧ 60 ≤ w ∧ w ≤ 125 ∧ 80 ≤ c ∧ c ≤ 150 ∧ v.toNat / 65536 % 16 ≠ 0
    Leaves (.fltTempWrite v) (fun _ => fits) (fun d t => (t.reg R.FLT_TEMP).toNat = v.toNat % 2 ^ 20 ∧
      t.get R.FLT_TEMPST_WRUN = 0 ∧ t.get R.FLT_TEMPST_CRUN = 0 ∧ d.butRegs t [R.FLT_TEMP, R.FLT_TEMPST]) ∧
    Does (.fltTempWrite v) (fun _ => ¬fits) (fun d => d))

/-! ### Cluster ring (chapter 16) -/

/-- R513, R514, R516, R519–R521, R527, R531, R537–R539, R608: a member passes every character on; TICK is its tick, with
the announced settings when they are whole, no sooner than MINPER after the last; RCANCEL ends the retries; DOWN stops
acquisition; a member without TICK holds over and stops at the third. The lead measures the ring with MEASURE, and a
node's DOWN or an unlocked CLI is a loss on it: LOST, one event of FS0A, RUN cleared. A lost lock clears LINK and ENUM.
While VDDIO is low nothing that comes in on CLI acts. -/
def Obligations.RingCharactersAndTicks : Prop :=
  let cli := fun (d : Dev) => d.is R.SYS_STATUS_VDDIOOK = true ∧ d.domOn 8 = true
  let emits := fun (k : Nat) (d : Dev) => ({ d with cl := { d.cl with txK := d.cl.txK ++ [k] } } : Dev)
  let member := fun (d : Dev) => cli d ∧ d.isMember = true
  let ticks := fun (d : Dev) => member d ∧ d.clMember = true ∧ d.ticking = true
  let early := fun (d : Dev) => d.st ≠ stHeath ∧ d.tick.first = false ∧ d.clock < d.tick.lastTick + d.get R.TICK_BUDGET_MINPER
  let locked := fun (d : Dev) => let e := d.put R.CL_STATUS_HOLD 0
    ({ e with cl := { e.cl with holdN := 0 } } : Dev)
  let next := fun (d : Dev) => (d.get R.TICK_COUNT_COUNT + 1) % 2 ^ 32
  let stops := fun (t : Dev) => t.is R.CL_STATUS_LOST = true ∧ t.st ≠ stRunning ∧ t.st ≠ stHeath
  let counts := fun (d t : Dev) => t.get (R.FLT_CNT_EVENTS 9) = min (d.get (R.FLT_CNT_EVENTS 9) + 1) 65535
  let unlinked := fun (d t : Dev) => t.is R.CL_STATUS_LINK = false ∧ t.is R.CL_STATUS_ENUM = false ∧ d.butRegs { t with cl := d.cl } [R.CL_STATUS]
  (∀ (x : Echo) (n : Fin 8) (m : RingMsg) (p : Bool) (c : Instr),
    c ∈ [Instr.ringTick, .tickh, .rcancel, .measure x, .ringDown n, .enum m, .config m, .check ⟨m, p⟩, .checkr m, .stage m,
      .retry m, .noise m, .corr m, .delta m, .cald m, .calr m, .ack m, .leave m] →
    Does c (fun d => d.is R.SYS_STATUS_VDDIOOK = false ∨ d.domOn 8 = false) (fun d => d)) ∧
  Leaves .linkLock cli (fun d t => t.is R.CL_STATUS_LINK = true ∧ t.cl = { d.cl with unlocked := false } ∧
    d.butRegs { t with cl := d.cl } [R.CL_STATUS]) ∧
  Does .linkLock (fun d => d.is R.SYS_STATUS_VDDIOOK = true ∧ d.dom 8 = 1) (fun d => { d with cl := { d.cl with locked := true } }) ∧
  Does .linkLock (fun d => d.is R.SYS_STATUS_VDDIOOK = false ∨ (d.dom 8 ≠ 1 ∧ d.dom 8 ≠ 2)) (fun d => d) ∧
  Does .linkLoss (fun d => d.domOn 8 = false) (fun d => { d with cl := { d.cl with locked := false } }) ∧
  Leaves .linkLoss (fun d => d.domOn 8 = true) (fun d t => unlinked d t ∧
    t.cl = { d.cl with unlocked := d.cl.unlocked || (d.clLead && d.ticking) }) ∧
  Leaves .cliUnlock (fun d => d.domOn 8 = true ∧ d.isLead = true ∧ ¬((d.enumerated = true ∨ d.cl.unlocked = true) ∧ d.ticking = true))
    (fun d t => unlinked d t ∧ t.cl = { d.cl with unlocked := false }) ∧
  Leaves .cliUnlock (fun d => d.domOn 8 = true ∧ d.isLead = true ∧ (d.enumerated = true ∨ d.cl.unlocked = true) ∧ d.ticking = true)
    (fun d t => t.is R.CL_STATUS_LINK = false ∧ t.is R.CL_STATUS_ENUM = false ∧ stops t ∧ counts d t) ∧
  Does .cliUnlock (fun d => d.domOn 8 = false ∨ d.isLead = false) (fun d => d) ∧
  (∀ (c : Instr) (k : Nat), (c, k) ∈ [(Instr.ringTick, 1), (.tickh, 2)] →
    Does c (fun d => ticks d ∧ ¬early d ∧ (c = .tickh ∨ ∀ s, d.cl.staged = some s → s.more = true))
      (fun d => (locked (emits k d)).tickNow (next d) true none) ∧
    Does c (fun d => ticks d ∧ early d)
      (fun d => let e := locked (emits k d)
        { e with tick := { e.tick with held := k + 1 } }) ∧
    Does c (fun d => member d ∧ d.ticking = false ∧ d.cl.checkReq = false) (fun d => (emits k d).put R.CL_STATUS_HOLD 0)) ∧
  (∀ s : Stage, s.more = false →
    Does .ringTick (fun d => ticks d ∧ ¬early d ∧ d.cl.staged = some s) (fun d => (locked (emits 1 d)).tickNow s.tick false (some s)) ∧
    Leaves .ringTick (fun d => ticks d ∧ ¬early d ∧ d.cl.staged = some s ∧ d.flt.due = []) (fun d t =>
      t.get R.TICK_COUNT_COUNT = s.tick % 2 ^ 32 ∧ t.get R.TICK_LAST_TSTAMP = d.tstamp ∧ t.is R.CL_STATUS_HOLD = false ∧
      t.cl.staged = none)) ∧
  Leaves .rcancel member (fun d t => t = { emits 3 d with acq := { d.acq with now := t.acq.now } } ∧
    t.acq.now = d.acq.now.map (fun f => { f with noRetry := true })) ∧
  (∀ x : Echo, Does (.measure x) member (emits 6) ∧
    (∀ e : EnumRun, e.step = 2 →
      let on := fun (d : Dev) => cli d ∧ d.isMember = false ∧ d.cl.enum = some e
      let rtt := (roundDiv ((e.sum + x.ns : Nat) : Int) 16).toNat
      let long := fun (d : Dev) => 250 * (d.get R.CL_STATUS_NMEMB + 1) < rtt
      (e.count < 15 → Does (.measure x) on
        (fun d => { d with cl := { d.cl with enum := some { e with sum := e.sum + x.ns, count := e.count + 1 } } })) ∧
      (e.count = 15 →
        Leaves (.measure x) (fun d => on d ∧ ¬long d) (fun d t => t.get R.CL_RTT_NS = min rtt 65535 ∧
          t.cl.enum = some { e with sum := e.sum + x.ns, count := 16, step := 3 } ∧
          ∃ f : RingFrame, t.cl.tx = d.cl.tx ++ [f] ∧ f.typ = 2 ∧ f.dst = 15 ∧ bodyAt f.body 0 2 = rtt % 65536 ∧
            let n := d.get R.CL_STATUS_NMEMB
            ∀ k, k < n → bodyAt f.body (5 + 2 * n + 4 * k) 2 = (x.blocks.getD k (0, 0)).1 % 65536 ∧
              bodyAt f.body (7 + 2 * n + 4 * k) 2 = (x.blocks.getD k (0, 0)).2 % 65536) ∧
        Leaves (.measure x) (fun d => on d ∧ long d) (fun d t => t.cl.enum = none ∧ t.enumerated = false ∧
          ∃ f : RingFrame, t.cl.tx = d.cl.tx ++ [f] ∧ f.typ = 0x41 ∧ f.dst = 15)))) ∧
  (∀ n : Fin 8,
    Leaves (.ringDown n) (fun d => member d ∧ d.ticking = true) (fun d t => t.is R.CL_STATUS_LOST = true ∧ t.cl = { (emits 7 d).cl with quit := true } ∧
      t.acq.now = none ∧ t.acq.ready = [] ∧ t.acq.proc = none ∧ t.acq.hiZ = true) ∧
    Does (.ringDown n) (fun d => member d ∧ d.ticking = false) (emits 7) ∧
    (n.val ≠ 0 → Leaves (.ringDown n) (fun d => cli d ∧ d.clLead = true ∧ d.ticking = true) (fun d t =>
      n.val ∈ t.cl.down ∧ bitOf (t.get R.CL_STALEM_MEMB) (n.val - 1) = true ∧
      (d.get R.TICK_COUNT_COUNT ∉ d.cl.lossN → stops t ∧ counts d t))) ∧
    Does (.ringDown n) (fun d => cli d ∧ d.isMember = false ∧ (d.clLead = false ∨ d.ticking = false ∨ n.val = 0)) (fun d => d)) ∧
  Does .memberHoldover (fun d => d.domOn 8 = true ∧ d.isMember = true ∧ d.ticking = true ∧ d.cl.holdN ≠ 2) (fun d =>
    let e := (d.put R.CL_STATUS_HOLD 1).inc R.CL_COUNTS2_HI
    ({ e with cl := { e.cl with holdN := d.cl.holdN + 1 } } : Dev).tickNow (next d) true none) ∧
  Leaves .memberHoldover (fun d => d.domOn 8 = true ∧ d.isMember = true ∧ d.ticking = true ∧ d.cl.holdN = 2)
    (fun _ t => stops t ∧ t.acq.now = none) ∧
  Does .memberHoldover (fun d => d.domOn 8 = false ∨ d.isMember = false ∨ d.ticking = false) (fun d => d)

/-- R89, R118, R254, R514, R516–R518, R524–R527, R530–R532, R535: a member forwards each frame and acts on one for it:
ENUM gives it its number, CONFIG enumerates it in READY, CHECK is answered, STAGE takes it into RUNNING after a passed
check and is kept, RETRY is taken, CALR gives it its results, ACK confirms, LEAVE ends its membership; a frame with a CRC
error is counted in FS09 and dropped. The lead acts on the echoes, acknowledges every frame for it and acts on one that it
has not seen. The layouts of the payloads are the model's (log entry 16). -/
def Obligations.RingFramesAreTaken : Prop :=
  ∀ m : RingMsg,
    let up := fun (d : Dev) => d.is R.SYS_STATUS_VDDIOOK = true ∧ d.domOn 8 = true
    let fwd := fun (typ : Nat) (d : Dev) =>
      ({ d with cl := { d.cl with tx := d.cl.tx ++ [⟨typ, m.src, m.dst, m.seq, m.frame, m.body, m.crc⟩] } } : Dev)
    let ok := fun (typ : Nat) => msgOk m typ = true ∧ m.body.length ≤ 1024
    let mine := fun (typ : Nat) (d : Dev) => up d ∧ d.get R.CL_CTRL_ROLE = 2 ∧ ok typ ∧ (m.dst = 15 ∨ (m.dst = d.get R.CL_STATUS_NODE ∧ m.dst ≠ 0))
    let lead := fun (d : Dev) => up d ∧ d.get R.CL_CTRL_ROLE = 1
    let echo := fun (typ : Nat) (d : Dev) => lead d ∧ ok typ ∧ m.src = 0
    let toLead := fun (typ : Nat) (d : Dev) => lead d ∧ ok typ ∧ m.dst = 0 ∧ m.src ≠ 0
    let new := fun (typ : Nat) (d : Dev) => toLead typ d ∧ (m.src, typ, m.seq) ∉ d.cl.seen
    let gone := fun (_ t : Dev) => t.cl.enum = none ∧ t.enumerated = false ∧
      ∃ f : RingFrame, t.cl.tx.getLast? = some f ∧ f.typ = 0x41 ∧ f.dst = 15
    let replies := fun (code : Nat) (d t : Dev) => ∃ f : RingFrame, t.cl.tx = d.cl.tx ++ [f] ∧ f.typ = 4 ∧ f.dst = 0 ∧
      f.body.head? = some (BitVec.ofNat 8 code)
    (∀ (p : Bool) (c : Instr) (typ : Nat), (c, typ) ∈ [(Instr.enum m, 1), (.config m, 2), (.check ⟨m, p⟩, 3), (.checkr m, 4), (.stage m, 0x10), (.retry m, 0x11),
        (.noise m, 0x20), (.corr m, 0x21), (.delta m, 0x22), (.cald m, 0x30), (.calr m, 0x31), (.ack m, 0x40), (.leave m, 0x41)] →
      Does c (fun d => up d ∧ d.get R.CL_CTRL_ROLE = 2 ∧ msgOk m typ = false)
        (fun d => ((fwd typ d).inc R.CL_COUNTS_LO).raise 0x09 (typ + 256 * (m.src % 8)))) ∧
    Leaves (.enum m) (fun d => up d ∧ d.get R.CL_CTRL_ROLE = 2 ∧ msgOk m 1 = true ∧ d.enumerated = false ∧ bodyAt m.body 0 1 < 8)
      (fun d t => t.get R.CL_STATUS_NODE = bodyAt m.body 0 1 ∧ d.butRegs { t with cl := d.cl } [R.CL_STATUS] ∧
        let body := BitVec.ofNat 8 (bodyAt m.body 0 1 + 1) :: m.body.drop 1
        t.cl = { d.cl with tx := d.cl.tx ++
          [⟨1, m.src, m.dst, m.seq, m.frame, body, ringCrc 1 m.src m.dst m.seq m.frame body⟩] }) ∧
    Does (.enum m) (fun d => up d ∧ d.get R.CL_CTRL_ROLE = 2 ∧ msgOk m 1 = true ∧ d.enumerated = true) (fwd 1) ∧
    (∀ e : EnumRun, let n := bodyAt m.body 0 1 - 1
      Leaves (.enum m) (fun d => lead d ∧ msgOk m 1 = true ∧ d.cl.enum = some e ∧ e.step = 1 ∧ n ≤ 7 ∧ n = e.expect)
        (fun d t => t.get R.CL_STATUS_NMEMB = n ∧ t.cl = { d.cl with enum := some { e with step := 2 }, txK := d.cl.txK ++ List.replicate 16 6 }) ∧
      Leaves (.enum m) (fun d => lead d ∧ msgOk m 1 = true ∧ d.cl.enum = some e ∧ e.step = 1 ∧ ¬(n ≤ 7 ∧ n = e.expect)) gone ∧
      Leaves (.config m) (fun d => echo 2 d ∧ d.cl.enum = some e ∧ e.step = 3 ∧ ∃ k, k < d.get R.CL_STATUS_NMEMB ∧ k + 1 ∉ e.oks)
        (fun d t => t = { d with cl := { d.cl with enum := some { e with step := 5 } } }) ∧
      Leaves (.checkr m) (fun d => new 4 d ∧ d.cl.enum = some e ∧ e.step = 5 ∧ bodyAt m.body 0 1 = 0 ∧
          ∀ k, k < d.get R.CL_STATUS_NMEMB → k + 1 ∈ m.src :: e.oks)
        (fun d t => t.enumerated = true ∧ t.cl.enum = none ∧ t.get R.CL_STATUS_NODE = 0 ∧ t.get R.CL_STATUS_NMEMB = d.get R.CL_STATUS_NMEMB) ∧
      Leaves (.checkr m) (fun d => new 4 d ∧ d.cl.enum = some e ∧ bodyAt m.body 0 1 ≠ 0) gone ∧
      Leaves (.leave m) (fun d => echo 0x41 d ∧ d.cl.enum = some e ∧ e.step = 4) (fun _ t => t.cl.enum = none ∧ t.enumerated = false)) ∧
    Leaves (.config m) (fun d => mine 2 d ∧ d.st = stReady) (fun d t => t.enumerated = true ∧ t.get R.CL_RTT_NS = bodyAt m.body 0 2 ∧
      t.get R.CL_PERIOD_PERIOD = bodyAt m.body 2 2 ∧ t.get R.CL_STATUS_NODE = d.get R.CL_STATUS_NODE ∧ replies 0 (fwd 2 d) t) ∧
    Leaves (.config m) (fun d => mine 2 d ∧ d.st ≠ stReady) (fun d t => d.butRegs { t with cl := d.cl } [] ∧ replies 1 (fwd 2 d) t) ∧
    (∀ p : Bool, let asked := fun (d : Dev) => ({ fwd 3 d with cl := { (fwd 3 d).cl with pass2 := p } } : Dev)
      let cause := fun (d : Dev) => ((asked d).ownCause).or ((asked d).clMemberCause (wordList (m.body.length / 4) m.body))
      let may := fun (d : Dev) => mine 3 d ∧ (d.st = stBootWait ∨ d.st = stReady)
      Leaves (.check ⟨m, p⟩) (fun d => may d ∧ cause d = none)
        (fun d t => t.cl.checkReq = true ∧ t.cl.pass2 = p ∧ t.is R.SYS_STATUS_REFUSED = false ∧ d.butRegs { t with cl := d.cl } [R.SYS_STATUS] ∧
          replies 0 (fwd 3 d) t) ∧
      (∀ code x : Nat, Leaves (.check ⟨m, p⟩) (fun d => may d ∧ cause d = some (code, x)) (fun d t => t.cl.checkReq = false ∧
        t.get R.SYS_REASON_CODE = code % 256 ∧ t.get R.SYS_REASON_DETAIL = x % 65536 ∧ t.is R.SYS_STATUS_REFUSED = true ∧
        d.butRegs { t with cl := d.cl } [R.SYS_REASON, R.SYS_STATUS] ∧ replies code (fwd 3 d) t)) ∧
      Leaves (.check ⟨m, p⟩) (fun d => mine 3 d ∧ d.st ≠ stBootWait ∧ d.st ≠ stReady)
        (fun d t => d.butRegs { t with cl := d.cl } [] ∧ replies 0x0C (fwd 3 d) t)) ∧
    Does (.stage m) (fun d => mine 0x10 d ∧ (d.cl.checkReq = false ∨ (d.st ≠ stReady ∧ d.st ≠ stBootWait)))
      (fun d => { fwd 0x10 d with cl := { (fwd 0x10 d).cl with staged := some (stageJoin d.cl.staged (stageOf m.body)) } }) ∧
    Leaves (.stage m) (fun d => mine 0x10 d ∧ d.cl.checkReq = true ∧ (d.st = stReady ∨ d.st = stBootWait))
      (fun _ t => t.st = stRunning ∧ t.cl.checkReq = false ∧ t.cl.staged = some (stageOf m.body)) ∧
    (∀ s : Stage,
      Leaves (.stage m) (fun d => echo 0x10 d ∧ d.cl.staged = none ∧ d.cl.sent = some s ∧ stageOf m.body = s ∧ s.more = false)
        (fun d t => t = { d with cl := { d.cl with echoed := true } }) ∧
      Leaves (.stage m) (fun d => lead d ∧ msgOk m 0x10 = false ∧ m.src = 0 ∧ d.cl.sent = some s ∧ d.cl.resent < 2)
        (fun d t => t.cl.resent = d.cl.resent + 1 ∧ t.cl.echoed = false ∧ t.cl.staged = none ∧ t.cl.sent = some s)) ∧
    Does (.retry m) (echo 0x11) (fun d => { d with cl := { d.cl with retryAck := d.cl.retry.isSome } }) ∧
    (∀ (f : Frame) (gap : Nat × Nat), f.retryTime = true → f.exch = some gap →
      Leaves (.retry m) (fun d => mine 0x11 d ∧ d.acq.now = some f ∧ d.clock ≤ gap.1 ∧ d.cl.retry = none) (fun d t =>
      let l := halfList (m.body.length / 2) m.body
      t.cl.retry = some l ∧ t.acq = { d.acq with now := some { f with ask := l } } ∧ d.butRegs { t with cl := d.cl, acq := d.acq } [])) ∧
    Does (.retry m) (fun d => mine 0x11 d ∧ (d.acq.now = none ∨ d.cl.retry.isSome = true)) (fwd 0x11) ∧
    (∀ y : CalTouch, let kind := bodyAt m.body 0 1 % 4
      let more := bitOf (bodyAt m.body 0 1) 7 = true
      Leaves (.calr m) (fun d => mine 0x31 d ∧ d.cal.touch = some y ∧ more) (fun d t =>
        t = { fwd 0x31 d with cal := { d.cal with calr := d.cal.calr ++ halfList (bodyAt m.body 5 2) (m.body.drop 7) } }) ∧
      Leaves (.calr m) (fun d => mine 0x31 d ∧ d.cal.touch = some y ∧ ¬more ∧ kind < 3 ∧ d.flt.due = []) (fun d t => t.cal.touch = none ∧
        ((∃ v, (kind, true, v) ∈ t.cal.wait ∧ bitOf (t.get R.CAL_STATUS_PEND) kind = true) ∨
          (t.cal.wait = d.cal.wait ∧ t.get R.CAL_REASON_KIND = kind ∧ t.get R.CAL_REASON_CODE ∈ [3, 4, 5, 6, 7])))) ∧
    Does (.calr m) (fun d => mine 0x31 d ∧ d.cal.touch = none) (fwd 0x31) ∧
    Does (.ack m) (mine 0x40) (fun d => { fwd 0x40 d with cl := { (fwd 0x40 d).cl with
      unacked := d.cl.unacked.filter (fun u => !(u.f.typ == bodyAt m.body 0 1 && u.f.seq == bodyAt m.body 1 1)) } }) ∧
    Leaves (.leave m) (mine 0x41) (fun d t => t.enumerated = false ∧ t.get R.CL_STATUS_NODE = 0 ∧ t.cl = (fwd 0x41 d).cl ∧
      d.butRegs { t with cl := d.cl } [R.CL_STATUS]) ∧
    (∀ c typ, (c, typ) ∈ [(Instr.checkr m, 4), (.noise m, 0x20), (.corr m, 0x21), (.delta m, 0x22), (.cald m, 0x30)] →
      Does c (fun d => toLead typ d ∧ (m.src, typ, m.seq) ∈ d.cl.seen)
        (fun d => d.clSend 0x40 m.src m.frame [BitVec.ofNat 8 typ, BitVec.ofNat 8 m.seq])) ∧
    Leaves (.checkr m) (fun d => new 4 d ∧ d.cl.enum = none)
      (fun d t => (m.src, bodyAt m.body 0 1, bodyAt m.body 1 2) ∈ t.cl.checks ∧ d.butRegs { t with cl := d.cl } []) ∧
    (∀ f : Frame, f.tick % 65536 = m.frame →
      Leaves (.noise m) (fun d => new 0x20 d ∧ d.acq.now = some f)
        (fun d t => (m.src, noiseList 8 m.body) ∈ t.hop.mPow ∧ d.butRegs { t with cl := d.cl, hop := d.hop } []) ∧
      Leaves (.corr m) (fun d => new 0x21 d ∧ d.acq.now = some f ∧ d.cl.retry = none ∧
          ∃ k ∈ d.clNodes, k ≠ m.src ∧ ∀ e ∈ d.cl.corr, e.1 ≠ k)
        (fun d t => (m.src, bitmapBits 0 m.body) ∈ t.cl.corr ∧ d.butRegs { t with cl := d.cl } [])) ∧
    Leaves (.delta m) (fun d => new 0x22 d ∧ d.frameWaits m.frame = true ∧ m.src ∉ d.cl.down ∧ d.xramClean) (fun d t =>
      (∃ x ∈ t.cl.rx, x = (d.deltaRx m.src m.frame).add m.body ∧
        t.cl.done = if x.last = true ∧ ∀ k, k < ((d.cl.lines.lookup m.src).getD ([], [])).1.length → k ∈ x.cols then m.src :: d.cl.done else d.cl.done) ∧
      (m.src, bodyAt m.body 2 1 / 8 % 4) ∈ t.cl.swst ∧ (∀ e ∈ t.cl.missing, e.1 ≠ m.src) ∧
      d.butRegs { t with cl := d.cl, mem := d.mem } [R.CL_STALEM]) ∧
    Leaves (.cald m) (new 0x30) (fun d t => (∃ x ∈ t.cal.cald, x.src = m.src ∧ x.frame = m.frame ∧
        x.more = decide (32768 ≤ bodyAt m.body (1 + 6 * bodyAt m.body 0 1) 2)) ∧ d.butRegs { t with cl := d.cl, cal := d.cal } [])

/-- R515, R516, R526, R527, R535, R536, R538, R546: the role is written only outside a cluster in BOOT_WAIT or READY; a
frame without ACK is sent again twice and then dropped; a missing echo fails the enumeration, or ends a dissolution; at
the deltas' deadline processing starts, with members whose deltas have not come marked stale and lost at the third time;
the retries chosen are corrupt symbols of some node, at most RETRY; without their echo RCANCEL goes out; STAGE goes out
before the tick. -/
def Obligations.RingDeadlinesAndRole : Prop :=
  (∀ v : BitVec 32,
    Leaves (.clRoleWrite v) (fun d => d.domOn 8 = true ∧ (d.st = stBootWait ∨ d.st = stReady) ∧ d.enumerated = false ∧ v.toNat % 4 ≠ 3)
      (fun d t => t.get R.CL_CTRL_ROLE = v.toNat % 4 ∧ d.butRegs t [R.CL_CTRL]) ∧
    Does (.clRoleWrite v) (fun d => d.enumerated = true ∨ (d.st ≠ stBootWait ∧ d.st ≠ stReady) ∨ v.toNat % 4 = 3) (fun d => d)) ∧
  Does .clClrcnt (fun d => d.domOn 8 = true) (fun d => (d.setReg R.CL_COUNTS 0).setReg R.CL_COUNTS2 0) ∧
  (∀ (u : Unacked) (rest : List Unacked), let on := fun (d : Dev) => d.domOn 8 = true ∧ d.isMember = true ∧ d.cl.unacked = u :: rest
    (u.tries < 2 → Does .ackTimeout on (fun d =>
      ({ d with cl := { d.cl with tx := d.cl.tx ++ [u.f], unacked := rest ++ [⟨u.f, u.tries + 1⟩] } } : Dev).inc R.CL_COUNTS_HI)) ∧
    (2 ≤ u.tries → Does .ackTimeout on (fun d => { d with cl := { d.cl with unacked := rest } }))) ∧
  Does .ackTimeout (fun d => d.cl.unacked = [] ∨ d.isMember = false) (fun d => d) ∧
  (∀ e : EnumRun, let on := fun (d : Dev) => d.cl.enum = some e ∧ d.domOn 8 = true
    Leaves .enumEchoTimeout on (fun d t => t.cl.enum = none ∧ t.enumerated = false ∧
      (e.step ≠ 4 → ∃ f : RingFrame, t.cl.tx = d.cl.tx ++ [f] ∧ f.typ = 0x41 ∧ f.dst = 15) ∧ (e.step = 4 → t.cl.tx = d.cl.tx))) ∧
  Does .enumEchoTimeout (fun d => d.cl.enum = none) (fun d => d) ∧
  (∀ (f : Frame) (rest : List Frame), let due := fun (d : Dev) => d.clLead = true ∧ d.acq.ready = f :: rest ∧ d.acq.proc = none
    let late := fun (d : Dev) (k : Nat) => k ∈ d.clNodes ∧ k ∉ d.cl.done ∧ k ∉ d.cl.down
    Leaves .deltaDeadline (fun d => due d ∧ d.cal.wait = [] ∧ ∀ k, late d k → (d.cl.missing.lookup k).getD 0 < 2) (fun d t =>
      t.acq.ready = rest ∧ (∃ g, t.acq.proc = some g ∧ g.decoded = true ∧ g.tick = f.tick ∧ g.at_ = d.clock) ∧
      (∀ k, 1 ≤ k → k ≤ 7 → bitOf (t.get R.CL_STALEM_MEMB) (k - 1) = (bitOf (d.get R.CL_STALEM_MEMB) (k - 1) || decide (late d k))) ∧
      d.butRegs { t with acq := d.acq, img := d.img, cl := d.cl } [R.CL_STALEM, R.CL_COUNTS2]) ∧
    Leaves .deltaDeadline (fun d => due d ∧ ∃ k, late d k ∧ (d.cl.missing.lookup k).getD 0 = 2 ∧ ∀ x ∈ d.cl.rx, x.src ≠ k)
      (fun _ t => t.is R.CL_STATUS_LOST = true ∧ t.st ≠ stRunning)) ∧
  Does .deltaDeadline (fun d => d.clLead = false ∨ d.acq.ready = [] ∨ d.acq.proc.isSome = true) (fun d => d) ∧
  (∀ (f : Frame) (gap : Nat × Nat), f.retryTime = true → f.exch = some gap →
    Leaves .retryChoiceDeadline (fun d => d.clLead = true ∧ d.acq.now = some f ∧ d.clock ≤ gap.1 ∧ d.cl.retry = none) (fun d t =>
      ∃ pick, t.cl.retry = some pick ∧ t.acq.now.map (·.ask) = some pick ∧ pick.length ≤ d.get R.ACQ_AFE_RETRY ∧
        (∀ j ∈ pick, j ∈ f.clCorr ∨ ∃ e ∈ d.cl.corr, j ∈ e.2) ∧ d.butRegs { t with cl := d.cl, acq := d.acq } []) ∧
    Leaves .retryEchoDeadline (fun d => d.clLead = true ∧ d.acq.now = some f ∧ d.clock ≤ gap.1 ∧ d.cl.retryAck = false) (fun d t =>
      t.acq = { d.acq with now := some { f with noRetry := true } } ∧ d.butRegs { t with acq := d.acq, cl := d.cl } [] ∧
      t.cl = if d.domOn 8 then { d.cl with txK := d.cl.txK ++ [3] } else d.cl)) ∧
  Does .retryChoiceDeadline (fun d => d.clLead = false ∨ d.acq.now.all (fun f => !d.inGap f) = true ∨ d.cl.retry.isSome = true) (fun d => d) ∧
  Does .retryEchoDeadline (fun d => d.clLead = false ∨ d.acq.now.all (fun f => !d.inGap f) = true ∨ d.cl.retryAck = true) (fun d => d) ∧
  Leaves .stageDeadline (fun d => d.ticking = true ∧ d.clLead = true ∧ d.cl.sent = none) (fun d t =>
    t.cl.sent = some d.stageNow ∧ t.cl.echoed = false ∧ d.butRegs { t with cl := d.cl } []) ∧
  Does .stageDeadline (fun d => d.ticking = false ∨ d.clLead = false ∨ d.cl.sent.isSome = true) (fun d => d)

/-! ### Access to registers -/

/-- R4, R8, R30, R574, R624: a register write by host or program is ignored in a domain that is not ON, at an address that
is no register, in HALTED at the registers that HALTED closes, and in the running states at those they hold off; any other
register without field ranges or an action of its own takes the written value by its access codes, and nothing else
changes. A register of a domain that is not ON reads 0, and reading any register but those of the converters changes
nothing. -/
def Obligations.RegisterAccess : Prop :=
  (∀ (prog : Bool) (a : BitVec 16) (v : BitVec 32),
    Does (.registerWrite prog a v) (fun d => d.regReachable a.toNat = false ∨ regSpec? a.toNat = none ∨
        (d.st = stHalted ∧ a.toNat ∈ [R.SYS_CTRL, R.CQ_CTRL, R.RQ_CTRL, R.PWR_DREQ, R.PWR_SREQ, R.SEQ_CTRL, R.HOP_FORCE, R.CAL_CMD, R.PP_GO]) ∨
        (d.busyState = true ∧ ((R.ACQ_ELROLE 0 ≤ a.toNat ∧ a.toNat ≤ R.ACQ_ELROLE 49) ∨ a.toNat ∈ [R.ACQ_GEOMX, R.ACQ_GEOMY, R.ACQ_ORIENT,
          R.TICK_CTRL, R.TICK_VSYNC, R.TICK_HSYNC, R.ACQ_CODE, R.ACQ_SELF, R.ACQ_CORR, R.HOP_CTRL, R.HOP_CFG, R.HOP_LISTEN])))
      (fun d => d) ∧
    (a.toNat ∈ [R.IMG_THR, R.IMG_ABSORB, R.CT_SEG, R.CT_WAKE, R.OPT_LIM, R.CAL_TOL, R.SEQ_BUDGET, R.SEQ_EVEN, R.HP_ATTEN, R.CQ_GEOM,
        R.CL_BUF, R.PWR_WAKE, R.PWR_FCFG] →
      Leaves (.registerWrite prog a v) (fun d => d.regReachable a.toNat = true ∧ d.is R.CQ_CTRL_EN = false)
        (fun d t => d.takes t a.toNat v))) ∧
  (∀ (d : Dev) (host : Bool) (a : Nat),
    (d.regReachable a = false → d.ioRead host a = (0, d)) ∧
    (a ∉ [R.AX_DATA 0, R.AX_DATA 1, R.AX_TS 0, R.AX_TS 1, R.AX_STAT 0, R.AX_STAT 1] → (d.ioRead host a).2 = d))
end

