-- ==== Sys2Proof/Laws/Sparse.lean ====
section
/-!
SUPPORT. Laws/Sparse.lean: reads after writes of the sparse contents, and that every operation on them keeps the
canonical form.
-/

namespace Sys2Proof.Machine

variable {α : Type} {dflt : Nat → α}

/-! ### Reads after writes -/

theorem sparseGet_erase (l : List (Nat × α)) (a b : Nat) :
    sparseGet dflt (sparseErase l a) b = if b = a then dflt b else sparseGet dflt l b := by
  induction l with
  | nil => simp [sparseErase, sparseGet]
  | cons e l ih =>
    obtain ⟨k, v⟩ := e
    by_cases hk : k = a
    · by_cases hb : b = a <;> simp_all [sparseErase, sparseGet]
      intro h; exact absurd h.symm hb
    · by_cases hb : k = b
      · subst hb; simp_all [sparseErase, sparseGet]
      · simp_all [sparseErase, sparseGet]

theorem sparseGet_insert_ne (l : List (Nat × α)) (a b : Nat) (v : α) (h : b ≠ a) :
    sparseGet dflt (sparseInsert l a v) b = sparseGet dflt l b := by
  induction l with
  | nil => simp [sparseInsert, sparseGet, h.symm]
  | cons e l ih =>
    obtain ⟨k, w⟩ := e
    simp only [sparseInsert]
    split
    · simp [sparseGet, h.symm]
    · simp [sparseGet, ih]

theorem sparseGet_insert_self (l : List (Nat × α)) (a : Nat) (v : α) (h : ∀ e ∈ l, e.1 ≠ a) :
    sparseGet dflt (sparseInsert l a v) a = v := by
  induction l with
  | nil => simp [sparseInsert, sparseGet]
  | cons e l ih =>
    obtain ⟨k, w⟩ := e
    have hk : k ≠ a := h (k, w) (by simp)
    simp only [sparseInsert]
    split
    · simp [sparseGet]
    · simp only [sparseGet, if_neg hk]
      exact ih (fun e he => h e (by simp [he]))

theorem mem_sparseErase {l : List (Nat × α)} {a : Nat} {e : Nat × α} (h : e ∈ sparseErase l a) : e ∈ l ∧ e.1 ≠ a := by
  induction l with
  | nil => simp [sparseErase] at h
  | cons x l ih =>
    obtain ⟨k, v⟩ := x
    simp only [sparseErase] at h
    split at h
    · have := ih h; exact ⟨by simp [this.1], this.2⟩
    · rcases List.mem_cons.1 h with rfl | h
      · exact ⟨by simp, by assumption⟩
      · have := ih h; exact ⟨by simp [this.1], this.2⟩

variable [DecidableEq α]

/-- What a key reads as after one key is given a value. -/
theorem sparseGet_set (l : List (Nat × α)) (a b : Nat) (v : α) :
    sparseGet dflt (sparseSet dflt l a v) b = if b = a then v else sparseGet dflt l b := by
  unfold sparseSet
  split
  · rename_i h
    rw [sparseGet_erase]
    split <;> simp_all
  · by_cases hb : b = a
    · subst hb
      rw [sparseGet_insert_self _ _ _ (fun e he => (mem_sparseErase he).2), if_pos rfl]
    · rw [sparseGet_insert_ne _ _ _ _ hb, sparseGet_erase, if_neg hb, if_neg hb]

/-! ### The canonical form -/

theorem sparseWfFrom_mono {lo lo' : Nat} {l : List (Nat × α)} (h : sparseWfFrom dflt lo l = true) (hl : lo' ≤ lo) :
    sparseWfFrom dflt lo' l = true := by
  cases l with
  | nil => rfl
  | cons e l =>
    obtain ⟨k, v⟩ := e
    simp only [sparseWfFrom, Bool.and_eq_true, decide_eq_true_eq] at h ⊢
    exact ⟨⟨by omega, h.1.2⟩, h.2⟩

theorem sparseWfFrom_erase {lo : Nat} {l : List (Nat × α)} (h : sparseWfFrom dflt lo l = true) (a : Nat) :
    sparseWfFrom dflt lo (sparseErase l a) = true := by
  induction l generalizing lo with
  | nil => rfl
  | cons e l ih =>
    obtain ⟨k, v⟩ := e
    simp only [sparseWfFrom, Bool.and_eq_true, decide_eq_true_eq] at h
    simp only [sparseErase]
    split
    · exact sparseWfFrom_mono (ih h.2) (by omega)
    · simp only [sparseWfFrom, Bool.and_eq_true, decide_eq_true_eq]
      exact ⟨h.1, ih h.2⟩

theorem sparseWfFrom_insert {lo : Nat} {l : List (Nat × α)} {a : Nat} {v : α} (h : sparseWfFrom dflt lo l = true)
    (ha : ∀ e ∈ l, e.1 ≠ a) (hlo : lo ≤ a) (hv : v ≠ dflt a) : sparseWfFrom dflt lo (sparseInsert l a v) = true := by
  induction l generalizing lo with
  | nil => simp [sparseInsert, sparseWfFrom, hlo, hv]
  | cons e l ih =>
    obtain ⟨k, w⟩ := e
    have hk : k ≠ a := ha (k, w) (by simp)
    simp only [sparseWfFrom, Bool.and_eq_true, decide_eq_true_eq] at h
    simp only [sparseInsert]
    split
    · simp only [sparseWfFrom, Bool.and_eq_true, decide_eq_true_eq]
      exact ⟨⟨hlo, hv⟩, ⟨by omega, h.1.2⟩, h.2⟩
    · simp only [sparseWfFrom, Bool.and_eq_true, decide_eq_true_eq]
      exact ⟨h.1, ih h.2 (fun e he => ha e (by simp [he])) (by omega)⟩

/-- A write keeps the canonical form. -/
theorem sparseWf_set {l : List (Nat × α)} (h : sparseWf dflt l = true) (a : Nat) (v : α) :
    sparseWf dflt (sparseSet dflt l a v) = true := by
  unfold sparseSet
  split
  · exact sparseWfFrom_erase h a
  · rename_i hv
    exact sparseWfFrom_insert (sparseWfFrom_erase h a) (fun e he => (mem_sparseErase he).2) (Nat.zero_le _) hv

/-- What is left when a part returns to its defaults is canonical. -/
theorem sparseWf_drop {l : List (Nat × α)} (h : sparseWf dflt l = true) (drop : Nat → Bool) :
    sparseWf dflt (sparseDrop drop l) = true := by
  unfold sparseWf at h ⊢
  generalize 0 = lo at h ⊢
  induction l generalizing lo with
  | nil => rfl
  | cons e l ih =>
    obtain ⟨k, v⟩ := e
    simp only [sparseWfFrom, Bool.and_eq_true, decide_eq_true_eq] at h
    simp only [sparseDrop, List.filter_cons]
    split
    · simp only [sparseWfFrom, Bool.and_eq_true, decide_eq_true_eq]
      exact ⟨h.1, ih _ h.2⟩
    · exact sparseWfFrom_mono (ih _ h.2) (by omega)

/-- Empty contents are canonical. -/
@[simp] theorem sparseWf_nil : sparseWf dflt ([] : List (Nat × α)) = true := rfl

/-! ### Bytes -/

/-- A write of bytes keeps the canonical form. -/
theorem sparseWf_writeBytes {dflt : Nat → Byte} {m : List Host.Cell} (h : sparseWf dflt m = true) (a : Nat) (bs : List Byte) :
    sparseWf dflt (writeBytes dflt m a bs) = true := by
  induction bs generalizing m a with
  | nil => exact h
  | cons b bs ih => exact ih (sparseWf_set h a b) _

/-- What a byte reads as after a write of bytes. -/
theorem sparseGet_writeBytes (dflt : Nat → Byte) (m : List Host.Cell) (a : Nat) (bs : List Byte) (x : Nat) :
    sparseGet dflt (writeBytes dflt m a bs) x =
      if h : a ≤ x ∧ x < a + bs.length then bs[x - a]'(by omega) else sparseGet dflt m x := by
  induction bs generalizing m a with
  | nil => simp [writeBytes]
  | cons b bs ih =>
    simp only [writeBytes, ih, sparseGet_set, List.length_cons]
    by_cases hx : x = a
    · subst hx; simp
    · by_cases h1 : a + 1 ≤ x ∧ x < a + 1 + bs.length
      · have h2 : a ≤ x ∧ x < a + (bs.length + 1) := by omega
        have h3 : x - a = (x - (a + 1)) + 1 := by omega
        rw [dif_pos h1, dif_pos h2]
        simp only [h3, List.getElem_cons_succ]
      · have h2 : ¬ (a ≤ x ∧ x < a + (bs.length + 1)) := by omega
        rw [dif_neg h1, dif_neg h2, if_neg hx]

/-- A byte outside a write reads as before. -/
theorem sparseGet_writeBytes_out (dflt : Nat → Byte) (m : List Host.Cell) (a : Nat) (bs : List Byte) (x : Nat)
    (h : x < a ∨ a + bs.length ≤ x) : sparseGet dflt (writeBytes dflt m a bs) x = sparseGet dflt m x := by
  rw [sparseGet_writeBytes, dif_neg (by omega)]

@[simp] theorem readBytes_length (dflt : Nat → Byte) (m : List Host.Cell) (a n : Nat) : (readBytes dflt m a n).length = n := by
  induction n generalizing a with
  | zero => rfl
  | succ n ih => simp [readBytes, ih]

/-- Bytes read where they were written. -/
theorem readBytes_writeBytes (dflt : Nat → Byte) (m : List Host.Cell) (a : Nat) (bs : List Byte) :
    readBytes dflt (writeBytes dflt m a bs) a bs.length = bs := by
  have key : ∀ n k, (∀ i < n, sparseGet dflt (writeBytes dflt m a bs) (k + i) = sparseGet dflt (writeBytes dflt m a bs) (k + i)) →
      readBytes dflt (writeBytes dflt m a bs) k n = (List.range n).map (fun i => sparseGet dflt (writeBytes dflt m a bs) (k + i)) := by
    intro n
    induction n with
    | zero => intro k _; rfl
    | succ n ih =>
      intro k _
      simp only [readBytes, ih (k + 1) (fun _ _ => rfl), List.range_succ_eq_map, List.map_cons, List.map_map, Nat.add_zero]
      congr 1
      apply List.map_congr_left
      intro i _
      simp [Nat.add_comm 1 i, Nat.add_assoc]
  rw [key _ _ (fun _ _ => rfl)]
  apply List.ext_getElem
  · simp
  · intro i h1 h2
    simp only [List.getElem_map, List.getElem_range, sparseGet_writeBytes]
    rw [dif_pos (by simp at h1; omega)]
    simp

@[simp] theorem leBytes_length (n v : Nat) : (leBytes n v).length = n := by
  induction n generalizing v with
  | zero => rfl
  | succ n ih => simp [leBytes, ih]

/-- The number in the `n` bytes of `v`. -/
theorem leNat_leBytes (n v : Nat) : leNat (leBytes n v) = v % 256 ^ n := by
  induction n generalizing v with
  | zero => simp [leBytes, leNat, Nat.mod_one]
  | succ n ih =>
    simp only [leBytes, leNat, ih, BitVec.toNat_ofNat]
    rw [show (256 : Nat) ^ (n + 1) = 256 * 256 ^ n from by ring, Nat.mod_mul]

end Sys2Proof.Machine
end

