-- ==== Sys2Proof/Laws/Fields.lean ====
section
/-!
SUPPORT. Laws/Fields.lean: what a register and a field read as after a write to a register or a field.
-/

namespace Sys2Proof.Machine

/-! ### Bits of a field -/

theorem Field.mask_bit (f : Field) (i : Nat) (hi : i < 32) :
    f.mask.getLsbD i = (decide (f.lo ≤ i) && decide (i < f.lo + f.width)) := by
  unfold Field.mask
  rw [BitVec.getLsbD_ofNat, Nat.testBit_mul_two_pow, Nat.testBit_two_pow_sub_one]
  by_cases h1 : f.lo ≤ i <;> by_cases h2 : i < f.lo + f.width <;> simp [hi, h1, h2] <;> omega

theorem Field.of_bit (f : Field) (v : Word) (j : Nat) : (f.of v).testBit j = (decide (j < f.width) && v.getLsbD (f.lo + j)) := by
  unfold Field.of
  rw [Nat.testBit_mod_two_pow, Nat.testBit_div_two_pow, BitVec.getLsbD, Nat.add_comm]

theorem Field.into_bit (f : Field) (v : Word) (n i : Nat) (hi : i < 32) :
    (f.into v n).getLsbD i = if f.lo ≤ i ∧ i < f.lo + f.width then n.testBit (i - f.lo) else v.getLsbD i := by
  unfold Field.into
  rw [BitVec.getLsbD_or, BitVec.getLsbD_and, BitVec.getLsbD_and, BitVec.getLsbD_not, Field.mask_bit f i hi,
    BitVec.getLsbD_ofNat, Nat.testBit_mul_two_pow, Nat.testBit_mod_two_pow]
  by_cases h1 : f.lo ≤ i <;> by_cases h2 : i < f.lo + f.width <;> simp [hi, h1, h2]
  omega

/-- The value of a field after it is set: the value modulo the field's width. -/
theorem Field.of_into (f : Field) (v : Word) (n : Nat) (h : f.lo + f.width ≤ 32) : f.of (f.into v n) = n % 2 ^ f.width := by
  apply Nat.eq_of_testBit_eq
  intro j
  rw [Field.of_bit, Nat.testBit_mod_two_pow]
  by_cases hj : j < f.width
  · rw [Field.into_bit f v n _ (by omega), if_pos (by omega)]
    simp [hj]
  · simp [hj]

/-- Another field of the same register keeps its value. -/
theorem Field.of_into_ne (f g : Field) (v : Word) (n : Nat) (h : f.lo + f.width ≤ g.lo ∨ g.lo + g.width ≤ f.lo) :
    g.of (f.into v n) = g.of v := by
  apply Nat.eq_of_testBit_eq
  intro j
  rw [Field.of_bit, Field.of_bit]
  by_cases hj : j < g.width
  · by_cases h32 : g.lo + j < 32
    · rw [Field.into_bit f v n _ h32, if_neg (by omega)]
    · rw [BitVec.getLsbD_of_ge _ _ (by omega), BitVec.getLsbD_of_ge _ _ (by omega)]
  · simp [hj]

theorem Field.of_lt (f : Field) (v : Word) : f.of v < 2 ^ f.width := Nat.mod_lt _ (by positivity)

/-! ### Registers -/

/-- What a register reads as after a register is written. -/
theorem Dev.reg_setReg (d : Dev) (a b : Nat) (v : Word) : (d.setReg a v).reg b = if b = a then v else d.reg b :=
  sparseGet_set d.regs a b v

@[simp] theorem Dev.reg_setReg_self (d : Dev) (a : Nat) (v : Word) : (d.setReg a v).reg a = v := by simp [Dev.reg_setReg]

theorem Dev.reg_setReg_ne (d : Dev) (a b : Nat) (v : Word) (h : b ≠ a) : (d.setReg a v).reg b = d.reg b := by
  simp [Dev.reg_setReg, h]

theorem Dev.reg_put (d : Dev) (f : Field) (n b : Nat) :
    (d.put f n).reg b = if b = f.addr then f.into (d.reg f.addr) n else d.reg b := Dev.reg_setReg _ _ _ _

theorem Dev.reg_put_ne (d : Dev) (f : Field) (n b : Nat) (h : b ≠ f.addr) : (d.put f n).reg b = d.reg b := by
  simp [Dev.reg_put, h]

/-- A field read after it is set. -/
theorem Dev.get_put_self (d : Dev) (f : Field) (n : Nat) (h : f.lo + f.width ≤ 32) : (d.put f n).get f = n % 2 ^ f.width := by
  simp [Dev.get, Dev.reg_put, Field.of_into _ _ _ h]

/-- A field read after another one, apart from it, is set. -/
theorem Dev.get_put_ne (d : Dev) (f g : Field) (n : Nat)
    (h : g.addr ≠ f.addr ∨ f.lo + f.width ≤ g.lo ∨ g.lo + g.width ≤ f.lo) : (d.put f n).get g = d.get g := by
  unfold Dev.get
  rw [Dev.reg_put]
  split
  · rename_i he
    rw [Field.of_into_ne _ _ _ _ (by rcases h with h | h; exact absurd he h; exact h), he]
  · rfl

theorem Dev.get_setReg_ne (d : Dev) (a : Nat) (v : Word) (g : Field) (h : g.addr ≠ a) : (d.setReg a v).get g = d.get g := by
  unfold Dev.get; rw [Dev.reg_setReg_ne _ _ _ _ h]

theorem Dev.get_setReg_self (d : Dev) (g : Field) (v : Word) : (d.setReg g.addr v).get g = g.of v := by
  simp [Dev.get]

theorem Dev.get_lt (d : Dev) (f : Field) : d.get f < 2 ^ f.width := Field.of_lt _ _

/-- A field read as a flag after it is set from one. -/
theorem Dev.is_putB_self (d : Dev) (f : Field) (b : Bool) (h : f.lo + f.width ≤ 32) (hw : 0 < f.width) : (d.putB f b).is f = b := by
  unfold Dev.is Dev.putB
  rw [Dev.get_put_self _ _ _ h]
  cases b
  · simp
  · have : 2 ≤ 2 ^ f.width := by
      calc 2 = 2 ^ 1 := rfl
        _ ≤ 2 ^ f.width := Nat.pow_le_pow_right (by omega) hw
    simp [Nat.mod_eq_of_lt (show 1 < 2 ^ f.width by omega)]

theorem Dev.is_put_ne (d : Dev) (f g : Field) (n : Nat)
    (h : g.addr ≠ f.addr ∨ f.lo + f.width ≤ g.lo ∨ g.lo + g.width ≤ f.lo) : (d.put f n).is g = d.is g := by
  unfold Dev.is; rw [Dev.get_put_ne _ _ _ _ h]

/-! ### The registers as a list

A field of a device is a field of its register list; so a read after an update of any other part of the device is, by
unfolding, the read before it. -/

/-- A field of a register list. -/
def rget (r : List (Nat × Word)) (f : Field) : Nat := f.of (sparseGet regReset r f.addr)

/-- A register list with a field set. -/
def rput (r : List (Nat × Word)) (f : Field) (n : Nat) : List (Nat × Word) :=
  sparseSet regReset r f.addr (f.into (sparseGet regReset r f.addr) n)

theorem Dev.get_eq (d : Dev) (f : Field) : d.get f = rget d.regs f := rfl
theorem Dev.reg_eq (d : Dev) (a : Nat) : d.reg a = sparseGet regReset d.regs a := rfl
theorem Dev.is_eq (d : Dev) (f : Field) : d.is f = (rget d.regs f != 0) := rfl
theorem Dev.put_regs (d : Dev) (f : Field) (n : Nat) : (d.put f n).regs = rput d.regs f n := rfl
theorem Dev.putB_regs (d : Dev) (f : Field) (b : Bool) : (d.putB f b).regs = rput d.regs f (if b then 1 else 0) := rfl
theorem Dev.setSt_regs (d : Dev) (n : Nat) : (d.setSt n).regs = rput d.regs R.SYS_STATUS_STATE n := rfl
theorem Dev.setReg_regs (d : Dev) (a : Nat) (v : Word) : (d.setReg a v).regs = sparseSet regReset d.regs a v := rfl

theorem rget_rput_self (r : List (Nat × Word)) (f : Field) (n : Nat) (h : f.lo + f.width ≤ 32) :
    rget (rput r f n) f = n % 2 ^ f.width := by
  unfold rget rput
  rw [sparseGet_set, if_pos rfl, Field.of_into _ _ _ h]

theorem rget_rput_ne (r : List (Nat × Word)) (f g : Field) (n : Nat)
    (h : g.addr ≠ f.addr ∨ f.lo + f.width ≤ g.lo ∨ g.lo + g.width ≤ f.lo) : rget (rput r f n) g = rget r g := by
  unfold rget rput
  rw [sparseGet_set]
  split
  · rename_i he
    rw [Field.of_into_ne _ _ _ _ (by rcases h with h | h; exact absurd he h; exact h), he]
  · rfl

theorem rget_sparseSet_ne (r : List (Nat × Word)) (a : Nat) (v : Word) (g : Field) (h : g.addr ≠ a) :
    rget (sparseSet regReset r a v) g = rget r g := by
  unfold rget
  rw [sparseGet_set, if_neg h]

theorem rget_sparseSet_self (r : List (Nat × Word)) (v : Word) (g : Field) :
    rget (sparseSet regReset r g.addr v) g = g.of v := by
  unfold rget
  rw [sparseGet_set, if_pos rfl]

theorem sparseGet_rput_ne (r : List (Nat × Word)) (f : Field) (n b : Nat) (h : b ≠ f.addr) :
    sparseGet regReset (rput r f n) b = sparseGet regReset r b := by
  unfold rput
  rw [sparseGet_set, if_neg h]

end Sys2Proof.Machine
end

