-- ==== Sys2Proof/Laws/State.lean ====
section
/-!
SUPPORT. Laws/State.lean: what each update of the device leaves in each part of it: a write of registers, core registers or
memory changes that part alone.
-/

namespace Sys2Proof.Machine

/-! ### A register written -/

@[simp] theorem Dev.setReg_clock (d : Dev) (a : Nat) (v : Word) : (d.setReg a v).clock = d.clock := rfl
@[simp] theorem Dev.setReg_freeCount (d : Dev) (a : Nat) (v : Word) : (d.setReg a v).freeCount = d.freeCount := rfl
@[simp] theorem Dev.setReg_staged (d : Dev) (a : Nat) (v : Word) : (d.setReg a v).staged = d.staged := rfl
@[simp] theorem Dev.setReg_mem (d : Dev) (a : Nat) (v : Word) : (d.setReg a v).mem = d.mem := rfl
@[simp] theorem Dev.setReg_sys (d : Dev) (a : Nat) (v : Word) : (d.setReg a v).sys = d.sys := rfl
@[simp] theorem Dev.setReg_tick (d : Dev) (a : Nat) (v : Word) : (d.setReg a v).tick = d.tick := rfl
@[simp] theorem Dev.setReg_acq (d : Dev) (a : Nat) (v : Word) : (d.setReg a v).acq = d.acq := rfl
@[simp] theorem Dev.setReg_hop (d : Dev) (a : Nat) (v : Word) : (d.setReg a v).hop = d.hop := rfl
@[simp] theorem Dev.setReg_img (d : Dev) (a : Nat) (v : Word) : (d.setReg a v).img = d.img := rfl
@[simp] theorem Dev.setReg_ct (d : Dev) (a : Nat) (v : Word) : (d.setReg a v).ct = d.ct := rfl
@[simp] theorem Dev.setReg_opt (d : Dev) (a : Nat) (v : Word) : (d.setReg a v).opt = d.opt := rfl
@[simp] theorem Dev.setReg_aux (d : Dev) (a : Nat) (v : Word) : (d.setReg a v).aux = d.aux := rfl
@[simp] theorem Dev.setReg_cal (d : Dev) (a : Nat) (v : Word) : (d.setReg a v).cal = d.cal := rfl
@[simp] theorem Dev.setReg_seq (d : Dev) (a : Nat) (v : Word) : (d.setReg a v).seq = d.seq := rfl
@[simp] theorem Dev.setReg_panel (d : Dev) (a : Nat) (v : Word) : (d.setReg a v).panel = d.panel := rfl
@[simp] theorem Dev.setReg_hp (d : Dev) (a : Nat) (v : Word) : (d.setReg a v).hp = d.hp := rfl
@[simp] theorem Dev.setReg_ring (d : Dev) (a : Nat) (v : Word) : (d.setReg a v).ring = d.ring := rfl
@[simp] theorem Dev.setReg_cl (d : Dev) (a : Nat) (v : Word) : (d.setReg a v).cl = d.cl := rfl
@[simp] theorem Dev.setReg_pp (d : Dev) (a : Nat) (v : Word) : (d.setReg a v).pp = d.pp := rfl
@[simp] theorem Dev.setReg_pwr (d : Dev) (a : Nat) (v : Word) : (d.setReg a v).pwr = d.pwr := rfl
@[simp] theorem Dev.setReg_flt (d : Dev) (a : Nat) (v : Word) : (d.setReg a v).flt = d.flt := rfl

/-! ### A field set -/

@[simp] theorem Dev.put_clock (d : Dev) (f : Field) (n : Nat) : (d.put f n).clock = d.clock := rfl
@[simp] theorem Dev.put_freeCount (d : Dev) (f : Field) (n : Nat) : (d.put f n).freeCount = d.freeCount := rfl
@[simp] theorem Dev.put_staged (d : Dev) (f : Field) (n : Nat) : (d.put f n).staged = d.staged := rfl
@[simp] theorem Dev.put_mem (d : Dev) (f : Field) (n : Nat) : (d.put f n).mem = d.mem := rfl
@[simp] theorem Dev.put_sys (d : Dev) (f : Field) (n : Nat) : (d.put f n).sys = d.sys := rfl
@[simp] theorem Dev.put_tick (d : Dev) (f : Field) (n : Nat) : (d.put f n).tick = d.tick := rfl
@[simp] theorem Dev.put_acq (d : Dev) (f : Field) (n : Nat) : (d.put f n).acq = d.acq := rfl
@[simp] theorem Dev.put_hop (d : Dev) (f : Field) (n : Nat) : (d.put f n).hop = d.hop := rfl
@[simp] theorem Dev.put_img (d : Dev) (f : Field) (n : Nat) : (d.put f n).img = d.img := rfl
@[simp] theorem Dev.put_ct (d : Dev) (f : Field) (n : Nat) : (d.put f n).ct = d.ct := rfl
@[simp] theorem Dev.put_opt (d : Dev) (f : Field) (n : Nat) : (d.put f n).opt = d.opt := rfl
@[simp] theorem Dev.put_aux (d : Dev) (f : Field) (n : Nat) : (d.put f n).aux = d.aux := rfl
@[simp] theorem Dev.put_cal (d : Dev) (f : Field) (n : Nat) : (d.put f n).cal = d.cal := rfl
@[simp] theorem Dev.put_seq (d : Dev) (f : Field) (n : Nat) : (d.put f n).seq = d.seq := rfl
@[simp] theorem Dev.put_panel (d : Dev) (f : Field) (n : Nat) : (d.put f n).panel = d.panel := rfl
@[simp] theorem Dev.put_hp (d : Dev) (f : Field) (n : Nat) : (d.put f n).hp = d.hp := rfl
@[simp] theorem Dev.put_ring (d : Dev) (f : Field) (n : Nat) : (d.put f n).ring = d.ring := rfl
@[simp] theorem Dev.put_cl (d : Dev) (f : Field) (n : Nat) : (d.put f n).cl = d.cl := rfl
@[simp] theorem Dev.put_pp (d : Dev) (f : Field) (n : Nat) : (d.put f n).pp = d.pp := rfl
@[simp] theorem Dev.put_pwr (d : Dev) (f : Field) (n : Nat) : (d.put f n).pwr = d.pwr := rfl
@[simp] theorem Dev.put_flt (d : Dev) (f : Field) (n : Nat) : (d.put f n).flt = d.flt := rfl

/-! ### A flag set -/

@[simp] theorem Dev.putB_clock (d : Dev) (f : Field) (b : Bool) : (d.putB f b).clock = d.clock := rfl
@[simp] theorem Dev.putB_freeCount (d : Dev) (f : Field) (b : Bool) : (d.putB f b).freeCount = d.freeCount := rfl
@[simp] theorem Dev.putB_staged (d : Dev) (f : Field) (b : Bool) : (d.putB f b).staged = d.staged := rfl
@[simp] theorem Dev.putB_mem (d : Dev) (f : Field) (b : Bool) : (d.putB f b).mem = d.mem := rfl
@[simp] theorem Dev.putB_sys (d : Dev) (f : Field) (b : Bool) : (d.putB f b).sys = d.sys := rfl
@[simp] theorem Dev.putB_tick (d : Dev) (f : Field) (b : Bool) : (d.putB f b).tick = d.tick := rfl
@[simp] theorem Dev.putB_acq (d : Dev) (f : Field) (b : Bool) : (d.putB f b).acq = d.acq := rfl
@[simp] theorem Dev.putB_hop (d : Dev) (f : Field) (b : Bool) : (d.putB f b).hop = d.hop := rfl
@[simp] theorem Dev.putB_img (d : Dev) (f : Field) (b : Bool) : (d.putB f b).img = d.img := rfl
@[simp] theorem Dev.putB_ct (d : Dev) (f : Field) (b : Bool) : (d.putB f b).ct = d.ct := rfl
@[simp] theorem Dev.putB_opt (d : Dev) (f : Field) (b : Bool) : (d.putB f b).opt = d.opt := rfl
@[simp] theorem Dev.putB_aux (d : Dev) (f : Field) (b : Bool) : (d.putB f b).aux = d.aux := rfl
@[simp] theorem Dev.putB_cal (d : Dev) (f : Field) (b : Bool) : (d.putB f b).cal = d.cal := rfl
@[simp] theorem Dev.putB_seq (d : Dev) (f : Field) (b : Bool) : (d.putB f b).seq = d.seq := rfl
@[simp] theorem Dev.putB_panel (d : Dev) (f : Field) (b : Bool) : (d.putB f b).panel = d.panel := rfl
@[simp] theorem Dev.putB_hp (d : Dev) (f : Field) (b : Bool) : (d.putB f b).hp = d.hp := rfl
@[simp] theorem Dev.putB_ring (d : Dev) (f : Field) (b : Bool) : (d.putB f b).ring = d.ring := rfl
@[simp] theorem Dev.putB_cl (d : Dev) (f : Field) (b : Bool) : (d.putB f b).cl = d.cl := rfl
@[simp] theorem Dev.putB_pp (d : Dev) (f : Field) (b : Bool) : (d.putB f b).pp = d.pp := rfl
@[simp] theorem Dev.putB_pwr (d : Dev) (f : Field) (b : Bool) : (d.putB f b).pwr = d.pwr := rfl
@[simp] theorem Dev.putB_flt (d : Dev) (f : Field) (b : Bool) : (d.putB f b).flt = d.flt := rfl

/-! ### A counter raised -/

@[simp] theorem Dev.inc_clock (d : Dev) (f : Field) : (d.inc f).clock = d.clock := rfl
@[simp] theorem Dev.inc_freeCount (d : Dev) (f : Field) : (d.inc f).freeCount = d.freeCount := rfl
@[simp] theorem Dev.inc_staged (d : Dev) (f : Field) : (d.inc f).staged = d.staged := rfl
@[simp] theorem Dev.inc_mem (d : Dev) (f : Field) : (d.inc f).mem = d.mem := rfl
@[simp] theorem Dev.inc_sys (d : Dev) (f : Field) : (d.inc f).sys = d.sys := rfl
@[simp] theorem Dev.inc_tick (d : Dev) (f : Field) : (d.inc f).tick = d.tick := rfl
@[simp] theorem Dev.inc_acq (d : Dev) (f : Field) : (d.inc f).acq = d.acq := rfl
@[simp] theorem Dev.inc_hop (d : Dev) (f : Field) : (d.inc f).hop = d.hop := rfl
@[simp] theorem Dev.inc_img (d : Dev) (f : Field) : (d.inc f).img = d.img := rfl
@[simp] theorem Dev.inc_ct (d : Dev) (f : Field) : (d.inc f).ct = d.ct := rfl
@[simp] theorem Dev.inc_opt (d : Dev) (f : Field) : (d.inc f).opt = d.opt := rfl
@[simp] theorem Dev.inc_aux (d : Dev) (f : Field) : (d.inc f).aux = d.aux := rfl
@[simp] theorem Dev.inc_cal (d : Dev) (f : Field) : (d.inc f).cal = d.cal := rfl
@[simp] theorem Dev.inc_seq (d : Dev) (f : Field) : (d.inc f).seq = d.seq := rfl
@[simp] theorem Dev.inc_panel (d : Dev) (f : Field) : (d.inc f).panel = d.panel := rfl
@[simp] theorem Dev.inc_hp (d : Dev) (f : Field) : (d.inc f).hp = d.hp := rfl
@[simp] theorem Dev.inc_ring (d : Dev) (f : Field) : (d.inc f).ring = d.ring := rfl
@[simp] theorem Dev.inc_cl (d : Dev) (f : Field) : (d.inc f).cl = d.cl := rfl
@[simp] theorem Dev.inc_pp (d : Dev) (f : Field) : (d.inc f).pp = d.pp := rfl
@[simp] theorem Dev.inc_pwr (d : Dev) (f : Field) : (d.inc f).pwr = d.pwr := rfl
@[simp] theorem Dev.inc_flt (d : Dev) (f : Field) : (d.inc f).flt = d.flt := rfl

/-! ### A counter raised by several -/

@[simp] theorem Dev.satAdd_clock (d : Dev) (f : Field) (n : Nat) : (d.satAdd f n).clock = d.clock := rfl
@[simp] theorem Dev.satAdd_freeCount (d : Dev) (f : Field) (n : Nat) : (d.satAdd f n).freeCount = d.freeCount := rfl
@[simp] theorem Dev.satAdd_staged (d : Dev) (f : Field) (n : Nat) : (d.satAdd f n).staged = d.staged := rfl
@[simp] theorem Dev.satAdd_mem (d : Dev) (f : Field) (n : Nat) : (d.satAdd f n).mem = d.mem := rfl
@[simp] theorem Dev.satAdd_sys (d : Dev) (f : Field) (n : Nat) : (d.satAdd f n).sys = d.sys := rfl
@[simp] theorem Dev.satAdd_tick (d : Dev) (f : Field) (n : Nat) : (d.satAdd f n).tick = d.tick := rfl
@[simp] theorem Dev.satAdd_acq (d : Dev) (f : Field) (n : Nat) : (d.satAdd f n).acq = d.acq := rfl
@[simp] theorem Dev.satAdd_hop (d : Dev) (f : Field) (n : Nat) : (d.satAdd f n).hop = d.hop := rfl
@[simp] theorem Dev.satAdd_img (d : Dev) (f : Field) (n : Nat) : (d.satAdd f n).img = d.img := rfl
@[simp] theorem Dev.satAdd_ct (d : Dev) (f : Field) (n : Nat) : (d.satAdd f n).ct = d.ct := rfl
@[simp] theorem Dev.satAdd_opt (d : Dev) (f : Field) (n : Nat) : (d.satAdd f n).opt = d.opt := rfl
@[simp] theorem Dev.satAdd_aux (d : Dev) (f : Field) (n : Nat) : (d.satAdd f n).aux = d.aux := rfl
@[simp] theorem Dev.satAdd_cal (d : Dev) (f : Field) (n : Nat) : (d.satAdd f n).cal = d.cal := rfl
@[simp] theorem Dev.satAdd_seq (d : Dev) (f : Field) (n : Nat) : (d.satAdd f n).seq = d.seq := rfl
@[simp] theorem Dev.satAdd_panel (d : Dev) (f : Field) (n : Nat) : (d.satAdd f n).panel = d.panel := rfl
@[simp] theorem Dev.satAdd_hp (d : Dev) (f : Field) (n : Nat) : (d.satAdd f n).hp = d.hp := rfl
@[simp] theorem Dev.satAdd_ring (d : Dev) (f : Field) (n : Nat) : (d.satAdd f n).ring = d.ring := rfl
@[simp] theorem Dev.satAdd_cl (d : Dev) (f : Field) (n : Nat) : (d.satAdd f n).cl = d.cl := rfl
@[simp] theorem Dev.satAdd_pp (d : Dev) (f : Field) (n : Nat) : (d.satAdd f n).pp = d.pp := rfl
@[simp] theorem Dev.satAdd_pwr (d : Dev) (f : Field) (n : Nat) : (d.satAdd f n).pwr = d.pwr := rfl
@[simp] theorem Dev.satAdd_flt (d : Dev) (f : Field) (n : Nat) : (d.satAdd f n).flt = d.flt := rfl

/-! ### A domain set -/

@[simp] theorem Dev.setDom_clock (d : Dev) (k s : Nat) : (d.setDom k s).clock = d.clock := rfl
@[simp] theorem Dev.setDom_freeCount (d : Dev) (k s : Nat) : (d.setDom k s).freeCount = d.freeCount := rfl
@[simp] theorem Dev.setDom_staged (d : Dev) (k s : Nat) : (d.setDom k s).staged = d.staged := rfl
@[simp] theorem Dev.setDom_mem (d : Dev) (k s : Nat) : (d.setDom k s).mem = d.mem := rfl
@[simp] theorem Dev.setDom_sys (d : Dev) (k s : Nat) : (d.setDom k s).sys = d.sys := rfl
@[simp] theorem Dev.setDom_tick (d : Dev) (k s : Nat) : (d.setDom k s).tick = d.tick := rfl
@[simp] theorem Dev.setDom_acq (d : Dev) (k s : Nat) : (d.setDom k s).acq = d.acq := rfl
@[simp] theorem Dev.setDom_hop (d : Dev) (k s : Nat) : (d.setDom k s).hop = d.hop := rfl
@[simp] theorem Dev.setDom_img (d : Dev) (k s : Nat) : (d.setDom k s).img = d.img := rfl
@[simp] theorem Dev.setDom_ct (d : Dev) (k s : Nat) : (d.setDom k s).ct = d.ct := rfl
@[simp] theorem Dev.setDom_opt (d : Dev) (k s : Nat) : (d.setDom k s).opt = d.opt := rfl
@[simp] theorem Dev.setDom_aux (d : Dev) (k s : Nat) : (d.setDom k s).aux = d.aux := rfl
@[simp] theorem Dev.setDom_cal (d : Dev) (k s : Nat) : (d.setDom k s).cal = d.cal := rfl
@[simp] theorem Dev.setDom_seq (d : Dev) (k s : Nat) : (d.setDom k s).seq = d.seq := rfl
@[simp] theorem Dev.setDom_panel (d : Dev) (k s : Nat) : (d.setDom k s).panel = d.panel := rfl
@[simp] theorem Dev.setDom_hp (d : Dev) (k s : Nat) : (d.setDom k s).hp = d.hp := rfl
@[simp] theorem Dev.setDom_ring (d : Dev) (k s : Nat) : (d.setDom k s).ring = d.ring := rfl
@[simp] theorem Dev.setDom_cl (d : Dev) (k s : Nat) : (d.setDom k s).cl = d.cl := rfl
@[simp] theorem Dev.setDom_pp (d : Dev) (k s : Nat) : (d.setDom k s).pp = d.pp := rfl
@[simp] theorem Dev.setDom_pwr (d : Dev) (k s : Nat) : (d.setDom k s).pwr = d.pwr := rfl
@[simp] theorem Dev.setDom_flt (d : Dev) (k s : Nat) : (d.setDom k s).flt = d.flt := rfl

/-! ### A core register written -/

@[simp] theorem Dev.setG_clock (d : Dev) (r : BitVec 4) (v : Word) : (d.setG r v).clock = d.clock := by unfold Dev.setG; split <;> rfl
@[simp] theorem Dev.setG_freeCount (d : Dev) (r : BitVec 4) (v : Word) : (d.setG r v).freeCount = d.freeCount := by unfold Dev.setG; split <;> rfl
@[simp] theorem Dev.setG_regs (d : Dev) (r : BitVec 4) (v : Word) : (d.setG r v).regs = d.regs := by unfold Dev.setG; split <;> rfl
@[simp] theorem Dev.setG_staged (d : Dev) (r : BitVec 4) (v : Word) : (d.setG r v).staged = d.staged := by unfold Dev.setG; split <;> rfl
@[simp] theorem Dev.setG_mem (d : Dev) (r : BitVec 4) (v : Word) : (d.setG r v).mem = d.mem := by unfold Dev.setG; split <;> rfl
@[simp] theorem Dev.setG_sys (d : Dev) (r : BitVec 4) (v : Word) : (d.setG r v).sys = d.sys := by unfold Dev.setG; split <;> rfl
@[simp] theorem Dev.setG_tick (d : Dev) (r : BitVec 4) (v : Word) : (d.setG r v).tick = d.tick := by unfold Dev.setG; split <;> rfl
@[simp] theorem Dev.setG_acq (d : Dev) (r : BitVec 4) (v : Word) : (d.setG r v).acq = d.acq := by unfold Dev.setG; split <;> rfl
@[simp] theorem Dev.setG_hop (d : Dev) (r : BitVec 4) (v : Word) : (d.setG r v).hop = d.hop := by unfold Dev.setG; split <;> rfl
@[simp] theorem Dev.setG_img (d : Dev) (r : BitVec 4) (v : Word) : (d.setG r v).img = d.img := by unfold Dev.setG; split <;> rfl
@[simp] theorem Dev.setG_ct (d : Dev) (r : BitVec 4) (v : Word) : (d.setG r v).ct = d.ct := by unfold Dev.setG; split <;> rfl
@[simp] theorem Dev.setG_opt (d : Dev) (r : BitVec 4) (v : Word) : (d.setG r v).opt = d.opt := by unfold Dev.setG; split <;> rfl
@[simp] theorem Dev.setG_aux (d : Dev) (r : BitVec 4) (v : Word) : (d.setG r v).aux = d.aux := by unfold Dev.setG; split <;> rfl
@[simp] theorem Dev.setG_cal (d : Dev) (r : BitVec 4) (v : Word) : (d.setG r v).cal = d.cal := by unfold Dev.setG; split <;> rfl
@[simp] theorem Dev.setG_panel (d : Dev) (r : BitVec 4) (v : Word) : (d.setG r v).panel = d.panel := by unfold Dev.setG; split <;> rfl
@[simp] theorem Dev.setG_hp (d : Dev) (r : BitVec 4) (v : Word) : (d.setG r v).hp = d.hp := by unfold Dev.setG; split <;> rfl
@[simp] theorem Dev.setG_ring (d : Dev) (r : BitVec 4) (v : Word) : (d.setG r v).ring = d.ring := by unfold Dev.setG; split <;> rfl
@[simp] theorem Dev.setG_cl (d : Dev) (r : BitVec 4) (v : Word) : (d.setG r v).cl = d.cl := by unfold Dev.setG; split <;> rfl
@[simp] theorem Dev.setG_pp (d : Dev) (r : BitVec 4) (v : Word) : (d.setG r v).pp = d.pp := by unfold Dev.setG; split <;> rfl
@[simp] theorem Dev.setG_pwr (d : Dev) (r : BitVec 4) (v : Word) : (d.setG r v).pwr = d.pwr := by unfold Dev.setG; split <;> rfl
@[simp] theorem Dev.setG_flt (d : Dev) (r : BitVec 4) (v : Word) : (d.setG r v).flt = d.flt := by unfold Dev.setG; split <;> rfl

/-! ### An event raised -/

@[simp] theorem Dev.event_clock (d : Dev) (b : Nat) : (d.event b).clock = d.clock := by unfold Dev.event; split <;> rfl
@[simp] theorem Dev.event_freeCount (d : Dev) (b : Nat) : (d.event b).freeCount = d.freeCount := by unfold Dev.event; split <;> rfl
@[simp] theorem Dev.event_staged (d : Dev) (b : Nat) : (d.event b).staged = d.staged := by unfold Dev.event; split <;> rfl
@[simp] theorem Dev.event_mem (d : Dev) (b : Nat) : (d.event b).mem = d.mem := by unfold Dev.event; split <;> rfl
@[simp] theorem Dev.event_sys (d : Dev) (b : Nat) : (d.event b).sys = d.sys := by unfold Dev.event; split <;> rfl
@[simp] theorem Dev.event_tick (d : Dev) (b : Nat) : (d.event b).tick = d.tick := by unfold Dev.event; split <;> rfl
@[simp] theorem Dev.event_acq (d : Dev) (b : Nat) : (d.event b).acq = d.acq := by unfold Dev.event; split <;> rfl
@[simp] theorem Dev.event_hop (d : Dev) (b : Nat) : (d.event b).hop = d.hop := by unfold Dev.event; split <;> rfl
@[simp] theorem Dev.event_img (d : Dev) (b : Nat) : (d.event b).img = d.img := by unfold Dev.event; split <;> rfl
@[simp] theorem Dev.event_ct (d : Dev) (b : Nat) : (d.event b).ct = d.ct := by unfold Dev.event; split <;> rfl
@[simp] theorem Dev.event_opt (d : Dev) (b : Nat) : (d.event b).opt = d.opt := by unfold Dev.event; split <;> rfl
@[simp] theorem Dev.event_aux (d : Dev) (b : Nat) : (d.event b).aux = d.aux := by unfold Dev.event; split <;> rfl
@[simp] theorem Dev.event_cal (d : Dev) (b : Nat) : (d.event b).cal = d.cal := by unfold Dev.event; split <;> rfl
@[simp] theorem Dev.event_seq (d : Dev) (b : Nat) : (d.event b).seq = d.seq := by unfold Dev.event; split <;> rfl
@[simp] theorem Dev.event_panel (d : Dev) (b : Nat) : (d.event b).panel = d.panel := by unfold Dev.event; split <;> rfl
@[simp] theorem Dev.event_hp (d : Dev) (b : Nat) : (d.event b).hp = d.hp := by unfold Dev.event; split <;> rfl
@[simp] theorem Dev.event_ring (d : Dev) (b : Nat) : (d.event b).ring = d.ring := by unfold Dev.event; split <;> rfl
@[simp] theorem Dev.event_cl (d : Dev) (b : Nat) : (d.event b).cl = d.cl := by unfold Dev.event; split <;> rfl
@[simp] theorem Dev.event_pp (d : Dev) (b : Nat) : (d.event b).pp = d.pp := by unfold Dev.event; split <;> rfl
@[simp] theorem Dev.event_pwr (d : Dev) (b : Nat) : (d.event b).pwr = d.pwr := by unfold Dev.event; split <;> rfl
@[simp] theorem Dev.event_flt (d : Dev) (b : Nat) : (d.event b).flt = d.flt := by unfold Dev.event; split <;> rfl

/-! ### Exchange RAM written -/

@[simp] theorem Dev.xwrite_clock (d : Dev) (o : Nat) (bs : List Byte) : (d.xwrite o bs).clock = d.clock := rfl
@[simp] theorem Dev.xwrite_freeCount (d : Dev) (o : Nat) (bs : List Byte) : (d.xwrite o bs).freeCount = d.freeCount := rfl
@[simp] theorem Dev.xwrite_regs (d : Dev) (o : Nat) (bs : List Byte) : (d.xwrite o bs).regs = d.regs := rfl
@[simp] theorem Dev.xwrite_staged (d : Dev) (o : Nat) (bs : List Byte) : (d.xwrite o bs).staged = d.staged := rfl
@[simp] theorem Dev.xwrite_sys (d : Dev) (o : Nat) (bs : List Byte) : (d.xwrite o bs).sys = d.sys := rfl
@[simp] theorem Dev.xwrite_tick (d : Dev) (o : Nat) (bs : List Byte) : (d.xwrite o bs).tick = d.tick := rfl
@[simp] theorem Dev.xwrite_acq (d : Dev) (o : Nat) (bs : List Byte) : (d.xwrite o bs).acq = d.acq := rfl
@[simp] theorem Dev.xwrite_hop (d : Dev) (o : Nat) (bs : List Byte) : (d.xwrite o bs).hop = d.hop := rfl
@[simp] theorem Dev.xwrite_img (d : Dev) (o : Nat) (bs : List Byte) : (d.xwrite o bs).img = d.img := rfl
@[simp] theorem Dev.xwrite_ct (d : Dev) (o : Nat) (bs : List Byte) : (d.xwrite o bs).ct = d.ct := rfl
@[simp] theorem Dev.xwrite_opt (d : Dev) (o : Nat) (bs : List Byte) : (d.xwrite o bs).opt = d.opt := rfl
@[simp] theorem Dev.xwrite_aux (d : Dev) (o : Nat) (bs : List Byte) : (d.xwrite o bs).aux = d.aux := rfl
@[simp] theorem Dev.xwrite_cal (d : Dev) (o : Nat) (bs : List Byte) : (d.xwrite o bs).cal = d.cal := rfl
@[simp] theorem Dev.xwrite_seq (d : Dev) (o : Nat) (bs : List Byte) : (d.xwrite o bs).seq = d.seq := rfl
@[simp] theorem Dev.xwrite_panel (d : Dev) (o : Nat) (bs : List Byte) : (d.xwrite o bs).panel = d.panel := rfl
@[simp] theorem Dev.xwrite_hp (d : Dev) (o : Nat) (bs : List Byte) : (d.xwrite o bs).hp = d.hp := rfl
@[simp] theorem Dev.xwrite_ring (d : Dev) (o : Nat) (bs : List Byte) : (d.xwrite o bs).ring = d.ring := rfl
@[simp] theorem Dev.xwrite_cl (d : Dev) (o : Nat) (bs : List Byte) : (d.xwrite o bs).cl = d.cl := rfl
@[simp] theorem Dev.xwrite_pp (d : Dev) (o : Nat) (bs : List Byte) : (d.xwrite o bs).pp = d.pp := rfl
@[simp] theorem Dev.xwrite_pwr (d : Dev) (o : Nat) (bs : List Byte) : (d.xwrite o bs).pwr = d.pwr := rfl
@[simp] theorem Dev.xwrite_flt (d : Dev) (o : Nat) (bs : List Byte) : (d.xwrite o bs).flt = d.flt := rfl

/-! ### A free value taken -/

@[simp] theorem Dev.fresh_dev_clock (d : Dev) : (d.fresh.2).clock = d.clock := rfl
@[simp] theorem Dev.fresh_dev_regs (d : Dev) : (d.fresh.2).regs = d.regs := rfl
@[simp] theorem Dev.fresh_dev_staged (d : Dev) : (d.fresh.2).staged = d.staged := rfl
@[simp] theorem Dev.fresh_dev_mem (d : Dev) : (d.fresh.2).mem = d.mem := rfl
@[simp] theorem Dev.fresh_dev_sys (d : Dev) : (d.fresh.2).sys = d.sys := rfl
@[simp] theorem Dev.fresh_dev_tick (d : Dev) : (d.fresh.2).tick = d.tick := rfl
@[simp] theorem Dev.fresh_dev_acq (d : Dev) : (d.fresh.2).acq = d.acq := rfl
@[simp] theorem Dev.fresh_dev_hop (d : Dev) : (d.fresh.2).hop = d.hop := rfl
@[simp] theorem Dev.fresh_dev_img (d : Dev) : (d.fresh.2).img = d.img := rfl
@[simp] theorem Dev.fresh_dev_ct (d : Dev) : (d.fresh.2).ct = d.ct := rfl
@[simp] theorem Dev.fresh_dev_opt (d : Dev) : (d.fresh.2).opt = d.opt := rfl
@[simp] theorem Dev.fresh_dev_aux (d : Dev) : (d.fresh.2).aux = d.aux := rfl
@[simp] theorem Dev.fresh_dev_cal (d : Dev) : (d.fresh.2).cal = d.cal := rfl
@[simp] theorem Dev.fresh_dev_seq (d : Dev) : (d.fresh.2).seq = d.seq := rfl
@[simp] theorem Dev.fresh_dev_panel (d : Dev) : (d.fresh.2).panel = d.panel := rfl
@[simp] theorem Dev.fresh_dev_hp (d : Dev) : (d.fresh.2).hp = d.hp := rfl
@[simp] theorem Dev.fresh_dev_ring (d : Dev) : (d.fresh.2).ring = d.ring := rfl
@[simp] theorem Dev.fresh_dev_cl (d : Dev) : (d.fresh.2).cl = d.cl := rfl
@[simp] theorem Dev.fresh_dev_pp (d : Dev) : (d.fresh.2).pp = d.pp := rfl
@[simp] theorem Dev.fresh_dev_pwr (d : Dev) : (d.fresh.2).pwr = d.pwr := rfl
@[simp] theorem Dev.fresh_dev_flt (d : Dev) : (d.fresh.2).flt = d.flt := rfl

/-! ### Core registers (R277) -/

/-- What a core register reads as after one is written: g0 stays 0. -/
theorem Dev.g_setG (d : Dev) (r x : BitVec 4) (v : Word) :
    (d.setG r v).g x = if x = 0 then 0 else if x = r then v else d.g x := by
  unfold Dev.setG Dev.g
  by_cases hx : x = 0
  · simp [hx]
  · by_cases hr : r = 0
    · rw [if_pos hr, if_neg hx, if_neg hx, if_neg (fun h => hx (h.trans hr))]
    · have hn : x.toNat = r.toNat ↔ x = r := BitVec.toNat_inj
      rw [if_neg hr, if_neg hx, if_neg hx, if_neg hx]
      simp only [sparseGet_set, hn]

@[simp] theorem Dev.g_zero (d : Dev) : d.g 0 = 0 := rfl

@[simp] theorem Dev.setG_seq_n (d : Dev) (r : BitVec 4) (v : Word) : (d.setG r v).seq.n = d.seq.n := by
  unfold Dev.setG; split <;> rfl
@[simp] theorem Dev.setG_seq_z (d : Dev) (r : BitVec 4) (v : Word) : (d.setG r v).seq.z = d.seq.z := by
  unfold Dev.setG; split <;> rfl
@[simp] theorem Dev.setG_seq_c (d : Dev) (r : BitVec 4) (v : Word) : (d.setG r v).seq.c = d.seq.c := by
  unfold Dev.setG; split <;> rfl
@[simp] theorem Dev.setG_seq_v (d : Dev) (r : BitVec 4) (v : Word) : (d.setG r v).seq.v = d.seq.v := by
  unfold Dev.setG; split <;> rfl
@[simp] theorem Dev.setG_seq_e (d : Dev) (r : BitVec 4) (v : Word) : (d.setG r v).seq.e = d.seq.e := by
  unfold Dev.setG; split <;> rfl
@[simp] theorem Dev.setG_seq_pc (d : Dev) (r : BitVec 4) (v : Word) : (d.setG r v).seq.pc = d.seq.pc := by
  unfold Dev.setG; split <;> rfl
@[simp] theorem Dev.setG_seq_wait (d : Dev) (r : BitVec 4) (v : Word) : (d.setG r v).seq.wait = d.seq.wait := by
  unfold Dev.setG; split <;> rfl
@[simp] theorem Dev.setG_seq_cycles (d : Dev) (r : BitVec 4) (v : Word) : (d.setG r v).seq.cycles = d.seq.cycles := by
  unfold Dev.setG; split <;> rfl
@[simp] theorem Dev.setG_seq_budget (d : Dev) (r : BitVec 4) (v : Word) : (d.setG r v).seq.budget = d.seq.budget := by
  unfold Dev.setG; split <;> rfl
@[simp] theorem Dev.setG_seq_exhausted (d : Dev) (r : BitVec 4) (v : Word) : (d.setG r v).seq.exhausted = d.seq.exhausted := by
  unfold Dev.setG; split <;> rfl
@[simp] theorem Dev.setG_seq_flim (d : Dev) (r : BitVec 4) (v : Word) : (d.setG r v).seq.flim = d.seq.flim := by
  unfold Dev.setG; split <;> rfl
@[simp] theorem Dev.setG_seq_active (d : Dev) (r : BitVec 4) (v : Word) : (d.setG r v).seq.active = d.seq.active := by
  unfold Dev.setG; split <;> rfl
@[simp] theorem Dev.setG_seq_shadow (d : Dev) (r : BitVec 4) (v : Word) : (d.setG r v).seq.shadow = d.seq.shadow := by
  unfold Dev.setG; split <;> rfl
@[simp] theorem Dev.setG_seq_pReset (d : Dev) (r : BitVec 4) (v : Word) : (d.setG r v).seq.pReset = d.seq.pReset := by
  unfold Dev.setG; split <;> rfl
@[simp] theorem Dev.setG_seq_pTick (d : Dev) (r : BitVec 4) (v : Word) : (d.setG r v).seq.pTick = d.seq.pTick := by
  unfold Dev.setG; split <;> rfl
@[simp] theorem Dev.setG_seq_pFrame (d : Dev) (r : BitVec 4) (v : Word) : (d.setG r v).seq.pFrame = d.seq.pFrame := by
  unfold Dev.setG; split <;> rfl
@[simp] theorem Dev.setG_seq_pFault (d : Dev) (r : BitVec 4) (v : Word) : (d.setG r v).seq.pFault = d.seq.pFault := by
  unfold Dev.setG; split <;> rfl
@[simp] theorem Dev.setG_seq_heldRun (d : Dev) (r : BitVec 4) (v : Word) : (d.setG r v).seq.heldRun = d.seq.heldRun := by
  unfold Dev.setG; split <;> rfl
@[simp] theorem Dev.setG_seq_breakAt (d : Dev) (r : BitVec 4) (v : Word) : (d.setG r v).seq.breakAt = d.seq.breakAt := by
  unfold Dev.setG; split <;> rfl
@[simp] theorem Dev.setG_seq_lateTicks (d : Dev) (r : BitVec 4) (v : Word) : (d.setG r v).seq.lateTicks = d.seq.lateTicks := by
  unfold Dev.setG; split <;> rfl

@[simp] theorem Dev.reg_setG (d : Dev) (r : BitVec 4) (v : Word) (a : Nat) : (d.setG r v).reg a = d.reg a := by
  unfold Dev.setG; split <;> rfl

@[simp] theorem Dev.get_setG (d : Dev) (r : BitVec 4) (v : Word) (f : Field) : (d.setG r v).get f = d.get f := by
  unfold Dev.get; simp

/-! ### Exchange RAM -/

/-- What a byte of exchange RAM reads as after a write. -/
theorem Dev.xb_xwrite (d : Dev) (o : Nat) (bs : List Byte) (x : Nat) :
    (d.xwrite o bs).xb x = if h : o ≤ x ∧ x < o + bs.length then bs[x - o]'(by omega) else d.xb x :=
  sparseGet_writeBytes xramDflt d.mem.xram o bs x

end Sys2Proof.Machine
end

