-- ==== Sys2Proof/Laws/Core.lean ====
section
/-!
SUPPORT. Laws/Core.lean: how commands act, and what one instruction of the Odzia core does as a whole: it is not the next
one and does nothing, or its condition fails, or its body runs and the core goes on, faults or stops.
-/

namespace Sys2Proof.Machine

/-! ### Commands -/

theorem act_live {s : State} (h : s.dev.sys.inReset = false) (f : Dev → Dev) :
    act s f = .next { s with dev := f s.dev } := by
  unfold act; simp [h]

theorem act_reset {s : State} (h : s.dev.sys.inReset = true) (f : Dev → Dev) : act s f = .next s := by
  unfold act; simp [h]

/-- A command answers a next state with the same queue. -/
theorem act_next (s : State) (f : Dev → Dev) : ∃ t, act s f = .next t ∧ t.pending = s.pending := ⟨_, rfl, rfl⟩

theorem actAlways_next (s : State) (f : Dev → Dev) : ∃ t, actAlways s f = .next t ∧ t.pending = s.pending := ⟨_, rfl, rfl⟩

/-! ### Cycles (R288) -/

/-- Cycles that fit the budget are counted, and nothing else changes. -/
theorem Dev.seqCount_room {d : Dev} {k : Nat} (h : d.roomFor k) : d.seqCount k = d.ran k d.seq.pc := by
  unfold Dev.seqCount Dev.ran
  by_cases hc : d.counting = true
  · rcases h hc with hb | hb
    · simp [hc, hb]
    · have h1 : ¬ (d.seq.budget ≤ d.seq.cycles + k) := by omega
      simp [hc, h1]
  · simp [hc]

theorem Dev.ran_counting (d : Dev) (k n : Nat) : (d.ran k n).counting = d.counting := rfl
theorem Dev.ran_nwords (d : Dev) (k n : Nat) : (d.ran k n).nwords = d.nwords := rfl

/-- Cycles that fit the budget leave it unspent. -/
theorem Dev.seqSpent_ran (d : Dev) (k n : Nat) : (d.ran k n).seqSpent = false := by
  unfold Dev.seqSpent
  rw [Dev.ran_counting]
  by_cases hc : d.counting = true <;> simp [Dev.ran, hc]

/-- An instruction that completes within the budget goes on at `next` when that lies in the image. -/
theorem Dev.seqDone_room {d : Dev} {k a next : Nat} (h : d.roomFor k) (hn : next < d.nwords) :
    (d.seqCount k).seqDone a next = d.ran k next := by
  rw [Dev.seqCount_room h]
  unfold Dev.seqDone Dev.seqGoto
  rw [Dev.seqSpent_ran, if_neg (by decide), if_pos (show next < (d.ran k d.seq.pc).nwords from hn)]
  rfl

/-! ### One instruction -/

/-- An instruction that is not the next one changes nothing. -/
theorem Dev.seqInsn_not {d : Dev} {w : Word} (h : d.seqAt w = false) (cond : BitVec 4) (body : Dev → Dev × Nat × SeqEnd) :
    d.seqInsn w cond body = d := by
  unfold Dev.seqInsn; simp [h]

/-- An instruction whose condition fails takes one cycle and does nothing (R315). -/
theorem Dev.seqInsn_skip {d : Dev} {w : Word} {cond : BitVec 4} (body : Dev → Dev × Nat × SeqEnd)
    (ha : d.seqAt w = true) (hl : illegal w = false) (hc : d.seq.holds cond = false) (hr : d.roomFor 1) (hn : d.nextInImage) :
    d.seqInsn w cond body = d.ran 1 (d.seq.pc + 1) := by
  unfold Dev.seqInsn
  simp only [ha, hl, hc, Bool.not_true, Bool.or_self, Bool.false_eq_true, if_false, Bool.not_false, if_true]
  exact Dev.seqDone_room hr hn

/-- What the instruction does when its condition holds, before the core goes on. -/
theorem Dev.seqInsn_body {d d' : Dev} {w : Word} {cond : BitVec 4} {body : Dev → Dev × Nat × SeqEnd} {n : Nat} {e : SeqEnd}
    (h : d.about w cond) (hb : body d = (d', n, e)) :
    d.seqInsn w cond body = match e with
      | .fault c addr => (d'.seqCount n).seqFault c d.seq.pc addr
      | .stop => d'.seqStopped (d.get R.SEQ_STATUS_ENTRY) n d.seq.pc
      | .next => if d'.sq = sqBusy then (d'.seqCount n).seqDone d.seq.pc (d.seq.pc + 1) else d'.seqCount n
      | .goto b => if d'.sq = sqBusy then (d'.seqCount n).seqDone d.seq.pc b else d'.seqCount n := by
  unfold Dev.seqInsn
  obtain ⟨_, ha, hl, hc⟩ := h
  simp only [ha, hl, hc, Bool.not_true, Bool.or_self, Bool.false_eq_true, if_false, hb]
  cases e <;> rfl

theorem Dev.about_busy {d : Dev} {w : Word} {cond : BitVec 4} (h : d.about w cond) : d.sq = sqBusy := by
  have := h.2.1
  simp [Dev.seqAt] at this
  exact this.1.2

/-- An instruction that completes at the next word within the budget. -/
theorem Dev.seqInsn_next {d d' : Dev} {w : Word} {cond : BitVec 4} {body : Dev → Dev × Nat × SeqEnd} {n : Nat}
    (h : d.about w cond) (hb : body d = (d', n, .next)) (hs : d'.sq = sqBusy) (hr : d'.roomFor n)
    (hn : d.seq.pc + 1 < d'.nwords) : d.seqInsn w cond body = d'.ran n (d.seq.pc + 1) := by
  rw [Dev.seqInsn_body h hb]
  simp only [hs, if_true]
  exact Dev.seqDone_room hr hn

/-- An instruction that goes to word address `b` of the image within the budget. -/
theorem Dev.seqInsn_goto {d d' : Dev} {w : Word} {cond : BitVec 4} {body : Dev → Dev × Nat × SeqEnd} {n b : Nat}
    (h : d.about w cond) (hb : body d = (d', n, .goto b)) (hs : d'.sq = sqBusy) (hr : d'.roomFor n)
    (hn : b < d'.nwords) : d.seqInsn w cond body = d'.ran n b := by
  rw [Dev.seqInsn_body h hb]
  simp only [hs, if_true]
  exact Dev.seqDone_room hr hn

/-! ### How an instruction completes or faults -/

/-- A body that keeps what the boundary between instructions looks at, completes. -/
theorem insn_completes {i : Instr} {cond : BitVec 4} {p : Dev → Prop} {k : Dev → Nat} {f : Dev → Dev} {w₀ : Word}
    {body : Dev → Dev × Nat × SeqEnd} (hw : coreWord i = some w₀)
    (he : ∀ s, Sys2Proof.Machine.exec i s = act s (fun d => d.seqInsn w₀ cond body))
    (hb : ∀ d, p d → body d = (f d, k d, .next)) (hs : ∀ d, p d → (f d).sq = d.sq)
    (hc : ∀ d, p d → (f d).counting = d.counting)
    (hq : ∀ d, p d → (f d).seq.budget = d.seq.budget ∧ (f d).seq.cycles = d.seq.cycles ∧ (f d).seq.active = d.seq.active) :
    CompletesWhen i cond p k f := by
  intro s w hw' ha hp hr hn
  rw [hw] at hw'
  cases hw'
  rw [he, act_live ha.1]
  obtain ⟨h1, h2, h3⟩ := hq _ hp
  rw [Dev.seqInsn_next ha (hb _ hp) ((hs _ hp).trans (Dev.about_busy ha)) ?_ ?_]
  · intro h
    rw [h1, h2]
    exact hr ((hc _ hp) ▸ h)
  · unfold Dev.nwords
    rw [h3]
    exact hn

/-- The same for an instruction whose cycles do not depend on the state. -/
theorem insn_completes_with {i : Instr} {cond : BitVec 4} {k : Nat} {f : Dev → Dev} {w₀ : Word}
    {body : Dev → Dev × Nat × SeqEnd} (hw : coreWord i = some w₀)
    (he : ∀ s, Sys2Proof.Machine.exec i s = act s (fun d => d.seqInsn w₀ cond body))
    (hb : ∀ d, body d = (f d, k, .next)) (hs : ∀ d, (f d).sq = d.sq) (hc : ∀ d, (f d).counting = d.counting)
    (hq : ∀ d, (f d).seq.budget = d.seq.budget ∧ (f d).seq.cycles = d.seq.cycles ∧ (f d).seq.active = d.seq.active) :
    CompletesWith i cond k f := fun s w h1 h2 h3 h4 =>
  insn_completes (p := fun _ => True) (k := fun _ => k) hw he (fun d _ => hb d) (fun d _ => hs d) (fun d _ => hc d)
    (fun d _ => hq d) s w h1 h2 trivial h3 h4

/-- A body that meets a fault before it does anything. -/
theorem insn_faults {i : Instr} {cond : BitVec 4} {p : Dev → Prop} {k cause : Nat} {addr : Dev → Option Nat} {w₀ : Word}
    {body : Dev → Dev × Nat × SeqEnd} (hw : coreWord i = some w₀)
    (he : ∀ s, Sys2Proof.Machine.exec i s = act s (fun d => d.seqInsn w₀ cond body))
    (hb : ∀ d, p d → body d = (d, k, .fault cause (addr d))) : FaultsWith i cond p k cause addr := by
  intro s w hw' ha hp
  rw [hw] at hw'
  cases hw'
  rw [he, act_live ha.1, Dev.seqInsn_body ha (hb _ hp)]

/-- A branch. -/
theorem insn_branches {i : Instr} {cond : BitVec 4} {dest : Dev → Nat} {f : Dev → Dev} {w₀ : Word}
    {body : Dev → Dev × Nat × SeqEnd} (hw : coreWord i = some w₀)
    (he : ∀ s, Sys2Proof.Machine.exec i s = act s (fun d => d.seqInsn w₀ cond body))
    (hb : ∀ d, body d = (f d, 2, .goto (dest d))) (hs : ∀ d, (f d).sq = d.sq) (hc : ∀ d, (f d).counting = d.counting)
    (hq : ∀ d, (f d).seq.budget = d.seq.budget ∧ (f d).seq.cycles = d.seq.cycles ∧ (f d).seq.active = d.seq.active) :
    BranchesTo i cond dest f := by
  intro s w hw' ha hr hn
  rw [hw] at hw'
  cases hw'
  rw [he, act_live ha.1]
  obtain ⟨h1, h2, h3⟩ := hq s.dev
  rw [Dev.seqInsn_goto ha (hb _) ((hs _).trans (Dev.about_busy ha)) ?_ ?_]
  · intro h
    rw [h1, h2]
    exact hr ((hc s.dev) ▸ h)
  · unfold Dev.nwords
    rw [h3]
    exact hn

@[simp] theorem Dev.setG_sq (d : Dev) (r : BitVec 4) (v : Word) : (d.setG r v).sq = d.sq := Dev.get_setG d r v _
@[simp] theorem Dev.setG_counting (d : Dev) (r : BitVec 4) (v : Word) : (d.setG r v).counting = d.counting := by
  unfold Dev.counting Dev.st; simp

/-! ### Results (R318) -/

theorem Dev.result_sq (d : Dev) (s : Bool) (rd : BitVec 4) (r : Word) (c v : Option Bool) : (d.result s rd r c v).sq = d.sq :=
  Dev.get_setG d rd r _

theorem Dev.result_counting (d : Dev) (s : Bool) (rd : BitVec 4) (r : Word) (c v : Option Bool) :
    (d.result s rd r c v).counting = d.counting := Dev.setG_counting d rd r

theorem Dev.result_seq (d : Dev) (s : Bool) (rd : BitVec 4) (r : Word) (c v : Option Bool) :
    (d.result s rd r c v).seq.budget = d.seq.budget ∧ (d.result s rd r c v).seq.cycles = d.seq.cycles ∧
      (d.result s rd r c v).seq.active = d.seq.active := by
  unfold Dev.result Seq.withFlags
  cases s <;> simp

theorem Dev.aluWrite_eq (d : Dev) (s : Bool) (rd : BitVec 4) (x : AluRes) :
    d.aluWrite s rd x = d.result s rd x.r x.c x.v := by
  unfold Dev.aluWrite Dev.result Seq.withFlags
  cases s
  · rfl
  · simp only [if_true]
    rfl

theorem Dev.result_get (d : Dev) (s : Bool) (rd : BitVec 4) (r : Word) (c v : Option Bool) (f : Field) :
    (d.result s rd r c v).get f = d.get f := by
  unfold Dev.result
  exact Dev.get_setG d rd r f

theorem Dev.result_roomFor {d : Dev} {k : Nat} (h : d.roomFor k) (s : Bool) (rd : BitVec 4) (r : Word) (c v : Option Bool) :
    (d.result s rd r c v).roomFor k := by
  intro hc
  have h1 : d.counting = true := by
    have : (d.result s rd r c v).counting = d.counting := by
      unfold Dev.counting Dev.st; rw [Dev.result_get]
    rw [← this]; exact hc
  have := h h1
  unfold Dev.result Seq.withFlags
  cases s <;> simpa using this

theorem Dev.result_nwords (d : Dev) (s : Bool) (rd : BitVec 4) (r : Word) (c v : Option Bool) :
    (d.result s rd r c v).nwords = d.nwords := by
  unfold Dev.result Seq.withFlags Dev.nwords
  cases s <;> simp

/-- An instruction of the ALU format that completes: its result, its flags, its cycles, and nothing else. -/
theorem Dev.seqAlu_next {d : Dev} {w : Word} {cond : BitVec 4} {k : Nat} (s : Bool) (rd : BitVec 4) (f : Dev → AluRes)
    (h : d.about w cond) (hr : d.roomFor k) (hn : d.nextInImage) :
    d.seqAlu w cond s rd k f = (d.result s rd (f d).r (f d).c (f d).v).ran k (d.seq.pc + 1) := by
  unfold Dev.seqAlu
  refine Dev.seqInsn_next h (d' := d.result s rd (f d).r (f d).c (f d).v) ?_ ?_ (Dev.result_roomFor hr s rd _ _ _) ?_
  · rw [Dev.aluWrite_eq]
  · unfold Dev.sq; rw [Dev.result_get]; exact Dev.about_busy h
  · rw [Dev.result_nwords]; exact hn

end Sys2Proof.Machine
end

