-- ==== Sys2Proof/Laws/Access.lean ====
section
/-!
SUPPORT. Laws/Access.lean: the loads and stores of the core in DMEM and in exchange RAM: what
ECC leaves alone, which bytes an access reads and writes.
-/

namespace Sys2Proof.Machine

/-! ### Exchange RAM without errors (R420) -/

theorem mem_wordsOf {o n w : Nat} (h : w ∈ wordsOf o n) : o < 8 * w + 8 ∧ 8 * w < o + n := by
  unfold wordsOf at h
  split at h
  · simp at h
  · simp only [List.mem_map, List.mem_range] at h
    obtain ⟨k, hk, rfl⟩ := h
    omega

/-- Where no error met is still to be counted, there is nothing to count. -/
theorem Dev.eccFlush_nil {d : Dev} (h : d.mem.met = []) : d.eccFlush = d := by
  rw [Dev.eccFlush, h]
  rfl

/-- Words without an error are met without a change. -/
theorem Dev.eccMeet_clean {d : Dev} (client : Nat) (l : List Nat) (hl : ∀ w ∈ l, w ∉ d.mem.single ∧ w ∉ d.mem.poisoned) :
    l.foldl (fun d w => d.eccMeet client w) d = d := by
  induction l with
  | nil => rfl
  | cons w l ih =>
    have hw := hl w (by simp)
    rw [List.foldl_cons, show d.eccMeet client w = d from by simp [Dev.eccMeet, hw.1, hw.2]]
    exact ih (fun x hx => hl x (by simp [hx]))

/-- An access that meets no word with an error changes nothing. -/
theorem Dev.eccTouch_free {d : Dev} {o n : Nat} (h : d.eccFree o n) (client : Nat) : d.eccTouch client o n = d := by
  unfold Dev.eccTouch
  rw [Dev.eccMeet_clean client _ (fun w hw => ?_), Dev.eccFlush_nil h.1]
  have := mem_wordsOf hw
  exact ⟨fun hs => h.2 w (.inl hs) this, fun hp => h.2 w (.inr hp) this⟩

theorem Dev.poisonIn_free {d : Dev} {o n : Nat} (h : d.eccFree o n) : d.poisonIn o n = [] := by
  unfold Dev.poisonIn
  rw [List.filter_eq_nil_iff]
  intro w hw
  have := h.2 w (.inr hw)
  simp only [Bool.and_eq_true, decide_eq_true_eq]
  exact this

/-- A write that meets no word with an error changes the bytes alone. -/
theorem Dev.xwrite_free {d : Dev} {o : Nat} {bs : List Byte} (h : d.eccFree o bs.length) :
    d.xwrite o bs = { d with mem := { d.mem with xram := writeBytes xramDflt d.mem.xram o bs } } := by
  unfold Dev.xwrite
  have : d.mem.single.filter (fun w => !(decide (o < 8 * w + 8) && decide (8 * w < o + bs.length))) = d.mem.single := by
    rw [List.filter_eq_self]
    intro w hw
    have := h.2 w (.inl hw)
    simp only [Bool.not_eq_true', Bool.and_eq_false_iff, decide_eq_false_iff_not]
    tauto
  rw [this]

/-! ### Little-endian values (R2) -/

theorem word_leNat_four (a b c d : Byte) : word (leNat [a, b, c, d]) = d ++ c ++ b ++ a := by
  apply BitVec.eq_of_toNat_eq
  have := a.isLt; have := b.isLt; have := c.isLt; have := d.isLt
  simp only [leNat, BitVec.toNat_append, BitVec.toNat_ofNat]
  rw [← Nat.shiftLeft_add_eq_or_of_lt (by omega), ← Nat.shiftLeft_add_eq_or_of_lt (by omega),
    ← Nat.shiftLeft_add_eq_or_of_lt (by omega)]
  simp only [Nat.shiftLeft_eq]
  omega

theorem ofNat_leNat_two (a b : Byte) : BitVec.ofNat 16 (leNat [a, b]) = b ++ a := by
  apply BitVec.eq_of_toNat_eq
  have := a.isLt; have := b.isLt
  simp only [leNat, BitVec.toNat_append, BitVec.toNat_ofNat]
  rw [← Nat.shiftLeft_add_eq_or_of_lt (by omega)]
  simp only [Nat.shiftLeft_eq]
  omega

theorem word_leNat_two (a b : Byte) : word (leNat [a, b]) = (b ++ a).setWidth 32 := by
  have h := congrArg BitVec.toNat (ofNat_leNat_two a b)
  have := a.isLt; have := b.isLt
  apply BitVec.eq_of_toNat_eq
  rw [BitVec.toNat_setWidth, ← h]
  simp only [leNat, BitVec.toNat_ofNat]
  omega

theorem word_leNat_one (a : Byte) : word (leNat [a]) = a.setWidth 32 := by
  apply BitVec.eq_of_toNat_eq
  have := a.isLt
  simp only [leNat, BitVec.toNat_ofNat, BitVec.toNat_setWidth]
  omega

theorem byte_leNat_one (a : Byte) : byte (leNat [a]) = a := by
  apply BitVec.eq_of_toNat_eq
  have := a.isLt
  simp only [leNat, BitVec.toNat_ofNat]
  omega

/-- Byte `i` of a value laid out least significant byte first. -/
theorem leBytes_getElem (n v i : Nat) (h : i < (leBytes n v).length) : (leBytes n v)[i] = byte (v / 256 ^ i) := by
  induction n generalizing v i with
  | zero => simp [leBytes] at h
  | succ n ih =>
    cases i with
    | zero => simp [leBytes]
    | succ i =>
      simp only [leBytes, List.getElem_cons_succ]
      rw [ih, Nat.div_div_eq_div_mul, show 256 * 256 ^ i = 256 ^ (i + 1) from by ring]

theorem byte_of_word (v : Word) (i : Nat) : byte (v.toNat / 256 ^ i) = v.extractLsb' (8 * i) 8 := by
  apply BitVec.eq_of_toNat_eq
  rw [BitVec.extractLsb'_toNat, Nat.shiftRight_eq_div_pow, BitVec.toNat_ofNat, pow_mul]
  rfl

/-! ### Where an access goes (R329) -/

theorem Dev.dataBad_dmem {d : Dev} {a n : Nat} (h : d.dmemOk a n) : d.dataBad a n = none := by
  unfold Dev.dataBad
  rw [if_neg (not_not.2 h.1), if_pos h.2]

theorem Dev.dataBad_xram {d : Dev} {a n : Nat} (h : d.xramOk a n) : d.dataBad a n = none := by
  obtain ⟨h1, h2, h3, h4, _⟩ := h
  unfold Dev.dataBad
  rw [if_neg (not_not.2 h1), if_neg (by omega), if_pos ⟨h2, h3⟩, if_pos h4]

/-- An aligned access of at most 4 bytes stays on its side of data space. -/
theorem Dev.dmemOk_end {d : Dev} {a n : Nat} (h : d.dmemOk a n) (hn : n = 1 ∨ n = 2 ∨ n = 4) : a + n ≤ 0x4000 := by
  obtain ⟨h1, h2⟩ := h
  rcases hn with rfl | rfl | rfl <;> omega

end Sys2Proof.Machine
end

