-- ==== Sys2Proof/Laws/Alu.lean ====
section
/-!
SUPPORT. Laws/Alu.lean: what the results and flags of the ALU operations are in plain arithmetic and bit by bit, and how
an ALU instruction completes.
-/

namespace Sys2Proof.Machine

/-- An instruction of the ALU format completes with the result and flags of its operation. -/
theorem alu_completes {i : Instr} {cond : BitVec 4} {k : Nat} {sf : Bool} {rd : BitVec 4} {w₀ : Word} {f : Dev → AluRes}
    {g : Dev → Dev} (hw : coreWord i = some w₀)
    (he : ∀ s, Sys2Proof.Machine.exec i s = act s (fun d => d.seqAlu w₀ cond sf rd k f))
    (hg : ∀ d, g d = d.result sf rd (f d).r (f d).c (f d).v) : CompletesWith i cond k g := by
  intro s w hw' ha hr hn
  rw [hw] at hw'
  cases hw'
  rw [he, act_live ha.1, Dev.seqAlu_next sf rd f ha hr hn, hg]

/-! ### Overflow (R321) -/

/-- V tells that the result, read as signed, is not the exact signed result. -/
theorem overflows_eq (r : Word) (i : Int) (h : r.toInt = i.bmod (2 ^ 32)) (hi : -2 ^ 33 < i) (hj : i < 2 ^ 33) :
    overflows i = decide (r.toInt ≠ i) := by
  rw [h]
  unfold overflows
  simp only [Int.bmod_def]
  norm_num at *
  rw [Bool.eq_iff_iff]
  simp
  constructor <;> intro h
  · split <;> omega
  · split at h <;> omega

theorem Word.toInt_range (a : Word) : -2 ^ 31 ≤ a.toInt ∧ a.toInt < 2 ^ 31 := by
  have h1 := BitVec.toInt_lt (x := a)
  have h2 := BitVec.le_toInt (x := a)
  norm_num at *
  omega

theorem Word.toInt_add_carry (a b : Word) (k : Bool) :
    (a + b + BitVec.ofNat 32 k.toNat).toInt = (a.toInt + b.toInt + k.toNat).bmod (2 ^ 32) := by
  rw [BitVec.toInt_add, BitVec.toInt_add]
  cases k <;> simp

theorem Word.toInt_sub_borrow (a b : Word) (k : Bool) :
    (a - b - BitVec.ofNat 32 k.toNat).toInt = (a.toInt - b.toInt - k.toNat).bmod (2 ^ 32) := by
  rw [BitVec.toInt_sub, BitVec.toInt_sub]
  cases k <;> simp

/-- The sum, its carry and its overflow. -/
theorem aluAdd_eq (a b : Word) (k : Bool) :
    aluAdd a b k = ⟨a + b + BitVec.ofNat 32 k.toNat, some (decide (2 ^ 32 ≤ a.toNat + b.toNat + k.toNat)),
      some (decide ((a + b + BitVec.ofNat 32 k.toNat).toInt ≠ a.toInt + b.toInt + k.toNat))⟩ := by
  have ha := Word.toInt_range a
  have hb := Word.toInt_range b
  rw [← overflows_eq _ _ (Word.toInt_add_carry a b k) (by cases k <;> simp <;> omega) (by cases k <;> simp <;> omega)]
  cases k <;> simp [aluAdd, BitVec.ofNat_add]

/-- The difference, its borrow and its overflow. -/
theorem aluSub_eq (a b : Word) (k : Bool) :
    aluSub a b k = ⟨a - b - BitVec.ofNat 32 k.toNat, some (decide (a.toNat < b.toNat + k.toNat)),
      some (decide ((a - b - BitVec.ofNat 32 k.toNat).toInt ≠ a.toInt - b.toInt - k.toNat))⟩ := by
  have ha := Word.toInt_range a
  have hb := Word.toInt_range b
  rw [← overflows_eq _ _ (Word.toInt_sub_borrow a b k) (by cases k <;> simp <;> omega) (by cases k <;> simp <;> omega)]
  cases k <;> simp [aluSub]

/-! ### Shifts (R322) -/

theorem Dev.amount_lt (d : Dev) (o : Op2) : d.amount o < 32 := by cases o <;> exact Nat.mod_lt _ (by decide)

theorem Word.shl_bit (a : Word) (n i : Nat) (hi : i < 32) : (a <<< n).getLsbD i = (decide (n ≤ i) && a.getLsbD (i - n)) := by
  rw [BitVec.getLsbD_shiftLeft]
  by_cases h : i < n
  · simp [h]
  · have : n ≤ i := by omega
    simp [h, hi, this]

theorem Word.shr_bit (a : Word) (n i : Nat) : (a >>> n).getLsbD i = a.getLsbD (i + n) := by
  rw [BitVec.getLsbD_ushiftRight, Nat.add_comm]

theorem Word.sar_bit (a : Word) (n i : Nat) (hi : i < 32) :
    (a.sshiftRight n).getLsbD i = if i + n < 32 then a.getLsbD (i + n) else a.msb := by
  rw [BitVec.getLsbD_sshiftRight, Nat.add_comm n i]
  simp [Nat.not_le.2 hi]

theorem Word.ror_bit (a : Word) (n i : Nat) (hn : n < 32) (hi : i < 32) :
    (a.rotateRight n).getLsbD i = a.getLsbD ((i + n) % 32) := by
  rw [BitVec.getLsbD_rotateRight, Nat.mod_eq_of_lt hn]
  by_cases h : i < 32 - n
  · rw [show (i + n) % 32 = n + i from by omega]
    simp [h]
  · rw [show (i + n) % 32 = i - (32 - n) from by omega]
    simp [h, hi]

/-! ### Leading zeros (R323) -/

/-- Where the highest bit of the lowest `m` lies. -/
theorem clzN_spec (m : Nat) (w : Word) (hm : m ≤ 32) (h : w.toNat < 2 ^ m) :
    clzN m w ≤ m ∧ w.toNat < 2 ^ (m - clzN m w) ∧ (w ≠ 0 → clzN m w + 1 ≤ m ∧ 2 ^ (m - 1 - clzN m w) ≤ w.toNat) ∧
      (w = 0 → clzN m w = m) := by
  induction m generalizing w with
  | zero =>
    have h0 : w = 0 := BitVec.eq_of_toNat_eq (by simp at h ⊢; exact h)
    subst h0
    simp [clzN]
  | succ m ih =>
    have hb : w.getLsbD m = decide (2 ^ m ≤ w.toNat) := by
      rw [BitVec.getLsbD, Bool.eq_iff_iff, decide_eq_true_iff]
      constructor
      · intro h'
        exact Nat.ge_two_pow_of_testBit h'
      · intro h'
        have h1 : w.toNat / 2 ^ m = 1 := by
          apply Nat.div_eq_of_lt_le
          · omega
          · rw [Nat.pow_succ] at h
            omega
        rw [Nat.testBit_eq_decide_div_mod_eq, h1]
        rfl
    simp only [clzN, hb]
    by_cases hc : 2 ^ m ≤ w.toNat
    · simp only [hc, decide_true, if_true]
      refine ⟨by omega, by simpa using h, fun _ => ⟨by omega, by simpa using hc⟩, ?_⟩
      rintro rfl
      simp at hc
    · simp only [hc, decide_false, Bool.false_eq_true, if_false]
      have := ih w (by omega) (by omega)
      refine ⟨by omega, ?_, ?_, ?_⟩
      · rw [Nat.add_sub_add_right]
        exact this.2.1
      · intro h0
        have h1 := this.2.2.1 h0
        refine ⟨by omega, ?_⟩
        rw [show m + 1 - 1 - (clzN m w + 1) = m - 1 - clzN m w from by omega]
        exact h1.2
      · intro h0
        rw [this.2.2.2 h0]

/-! ### Divisions (R325) -/

theorem aluDivs_eq (a b : Word) (hb : b ≠ 0) :
    aluDivs a b = ⟨BitVec.ofInt 32 (a.toInt.tdiv b.toInt), none, some (decide (a.toInt = -2 ^ 31 ∧ b.toInt = -1))⟩ := by
  have ha : a = 0x80000000 ↔ a.toInt = -2 ^ 31 :=
    ⟨fun h => by subst h; rfl, fun h => BitVec.eq_of_toInt_eq (by rw [h]; rfl)⟩
  have hb' : b = 0xFFFFFFFF ↔ b.toInt = -1 :=
    ⟨fun h => by subst h; rfl, fun h => BitVec.eq_of_toInt_eq (by rw [h]; rfl)⟩
  unfold aluDivs
  by_cases h : a = 0x80000000 ∧ b = 0xFFFFFFFF
  · rw [if_pos h]
    obtain ⟨h1, h2⟩ := h
    subst h1 h2
    rfl
  · rw [if_neg h]
    have : ¬(a.toInt = -2 ^ 31 ∧ b.toInt = -1) := fun hh => h ⟨ha.2 hh.1, hb'.2 hh.2⟩
    simp only [this, decide_false]

end Sys2Proof.Machine
end

