-- ==== Sys2Proof/Laws/Canonical.lean ====
section
/-!
SUPPORT. Laws/Canonical.lean: the canonical form of memories and registers, kept by each operation that writes them.
-/

namespace Sys2Proof.Machine

theorem Mems.wf_iff {m : Mems} : m.wf = true ↔
    sparseWf xramDflt m.xram = true ∧ sparseWf dmemDflt m.dmem = true ∧ sparseWf imemDflt m.imemA = true ∧
      sparseWf imemDflt m.imemB = true := by
  simp [Mems.wf, and_assoc]

theorem Dev.canonical_iff {d : Dev} : d.canonical = true ↔
    d.mem.wf = true ∧ sparseWf regReset d.regs = true ∧ sparseWf (fun _ => (0 : Word)) d.seq.g = true := by
  simp [Dev.canonical, and_assoc]

/-- Canonical form speaks of the memories, the I/O registers and the core registers alone. -/
theorem Dev.canonical_congr {d e : Dev} (hm : e.mem = d.mem) (hr : e.regs = d.regs) (hg : e.seq.g = d.seq.g) :
    e.canonical = d.canonical := by
  simp [Dev.canonical, hm, hr, hg]

theorem reset_mems_wf : Mems.reset.wf = true := by decide

/-! ### Registers -/

theorem Dev.canonical_setReg {d : Dev} (h : d.canonical = true) (a : Nat) (v : Word) : (d.setReg a v).canonical = true := by
  rw [Dev.canonical_iff] at h ⊢
  exact ⟨h.1, sparseWf_set h.2.1 a v, h.2.2⟩

theorem Dev.canonical_put {d : Dev} (h : d.canonical = true) (f : Field) (n : Nat) : (d.put f n).canonical = true :=
  Dev.canonical_setReg h _ _

theorem Dev.canonical_setG {d : Dev} (h : d.canonical = true) (n : BitVec 4) (v : Word) : (d.setG n v).canonical = true := by
  unfold Dev.setG
  split
  · exact h
  · rw [Dev.canonical_iff] at h ⊢
    exact ⟨h.1, h.2.1, sparseWf_set h.2.2 _ v⟩

/-! ### Memories -/

theorem Dev.canonical_xram {d : Dev} (h : d.canonical = true) {m : List Host.Cell} (hm : sparseWf xramDflt m = true)
    (s p : List Nat) : ({ d with mem := { d.mem with xram := m, single := s, poisoned := p } } : Dev).canonical = true := by
  rw [Dev.canonical_iff, Mems.wf_iff] at h ⊢
  exact ⟨⟨hm, h.1.2⟩, h.2⟩

theorem Dev.canonical_ecc {d : Dev} (h : d.canonical = true) (s p : List Nat) :
    ({ d with mem := { d.mem with single := s, poisoned := p } } : Dev).canonical = true := by
  rw [Dev.canonical_iff, Mems.wf_iff] at h ⊢
  exact h

theorem Dev.canonical_dmem {d : Dev} (h : d.canonical = true) {m : List Host.Cell} (hm : sparseWf dmemDflt m = true) :
    ({ d with mem := { d.mem with dmem := m } } : Dev).canonical = true := by
  rw [Dev.canonical_iff, Mems.wf_iff] at h ⊢
  exact ⟨⟨h.1.1, hm, h.1.2.2⟩, h.2⟩

theorem Dev.xram_wf {d : Dev} (h : d.canonical = true) : sparseWf xramDflt d.mem.xram = true :=
  (Mems.wf_iff.1 (Dev.canonical_iff.1 h).1).1

theorem Dev.dmem_wf {d : Dev} (h : d.canonical = true) : sparseWf dmemDflt d.mem.dmem = true :=
  (Mems.wf_iff.1 (Dev.canonical_iff.1 h).1).2.1

theorem Dev.imem_wf {d : Dev} (h : d.canonical = true) (b : Nat) : sparseWf imemDflt (d.imem b) = true := by
  have hw := (Mems.wf_iff.1 (Dev.canonical_iff.1 h).1).2.2
  unfold Dev.imem
  split
  · exact hw.1
  · exact hw.2

theorem Dev.canonical_setImem {d : Dev} (h : d.canonical = true) (b : Nat) {m : List Host.Cell}
    (hm : sparseWf imemDflt m = true) : (d.setImem b m).canonical = true := by
  unfold Dev.setImem
  split <;> rw [Dev.canonical_iff, Mems.wf_iff] at h ⊢
  · exact ⟨⟨h.1.1, h.1.2.1, hm, h.1.2.2.2⟩, h.2⟩
  · exact ⟨⟨h.1.1, h.1.2.1, h.1.2.2.1, hm⟩, h.2⟩

theorem Dev.canonical_xwrite {d : Dev} (h : d.canonical = true) (o : Nat) (bs : List Byte) : (d.xwrite o bs).canonical = true :=
  Dev.canonical_xram h (sparseWf_writeBytes (Dev.xram_wf h) o bs) _ d.mem.poisoned

theorem Dev.canonical_xwriteWhole {d : Dev} (h : d.canonical = true) (o : Nat) (bs : List Byte) :
    (d.xwriteWhole o bs).canonical = true :=
  Dev.canonical_ecc (Dev.canonical_xwrite h o bs) (d.xwrite o bs).mem.single _

theorem Dev.canonical_xramClear {d : Dev} (h : d.canonical = true) (b : Nat) : (d.xramClear b).canonical = true :=
  Dev.canonical_xram h (sparseWf_drop (Dev.xram_wf h) _) _ _

theorem Dev.canonical_foldl {α : Type} {f : Dev → α → Dev} (hf : ∀ d x, d.canonical = true → (f d x).canonical = true)
    (l : List α) {d : Dev} (h : d.canonical = true) : (l.foldl f d).canonical = true := by
  induction l generalizing d with
  | nil => exact h
  | cons x xs ih => exact ih (hf d x h)

theorem Dev.canonical_met {d : Dev} (h : d.canonical = true) (s : List Nat) (m : List (Nat × Nat)) :
    ({ d with mem := { d.mem with single := s, met := m } } : Dev).canonical = true := by
  rw [Dev.canonical_iff, Mems.wf_iff] at h ⊢
  exact h

theorem Dev.canonical_eccMeet {d : Dev} (h : d.canonical = true) (client w : Nat) : (d.eccMeet client w).canonical = true := by
  unfold Dev.eccMeet
  split
  · exact Dev.canonical_put (Dev.canonical_put (Dev.canonical_put (Dev.canonical_met h _ _) _ _) _ _) _ _
  · split
    · exact Dev.canonical_put (Dev.canonical_put (Dev.canonical_put (Dev.canonical_met h d.mem.single _) _ _) _ _) _ _
    · exact h

theorem Dev.canonical_xwriteClean {d : Dev} (h : d.canonical = true) (client o : Nat) (bs : List Byte) :
    (d.xwriteClean client o bs).canonical = true := by
  refine Dev.canonical_foldl (fun d w h => ?_) _ h
  dsimp only
  split
  · exact Dev.canonical_xwriteWhole h _ _
  · split
    · exact Dev.canonical_eccMeet h _ _
    · exact Dev.canonical_xwrite (Dev.canonical_eccMeet h _ _) _ _

/-- The code of flash boot, byte by byte into bank A. -/
theorem Dev.canonical_bootByte {d : Dev} (h : d.canonical = true) (b : Byte) : (d.bootByte b).canonical = true := by
  have hi : sparseWf imemDflt d.mem.imemA = true := Dev.imem_wf h 0
  unfold Dev.bootByte
  dsimp only
  repeat' split
  all_goals first
    | exact h
    | (rw [Dev.canonical_iff, Mems.wf_iff] at h ⊢
       exact ⟨⟨h.1.1, h.1.2.1, sparseWf_set hi _ _, h.1.2.2.2⟩, h.2⟩)

/-- A store of the core to DMEM, and a write of the host into it. -/
theorem Dev.canonical_dmemWrite {d : Dev} (h : d.canonical = true) (a : Nat) (bs : List Byte) :
    ({ d with mem := { d.mem with dmem := writeBytes dmemDflt d.mem.dmem a bs } } : Dev).canonical = true :=
  Dev.canonical_dmem h (sparseWf_writeBytes (Dev.dmem_wf h) a bs)

/-- The contents a domain loses. -/
theorem Dev.canonical_dropRegs {d : Dev} (h : d.canonical = true) (p : Nat → Bool) (st : List (Nat × Word)) :
    ({ d with regs := sparseDrop p d.regs, staged := st } : Dev).canonical = true := by
  rw [Dev.canonical_iff] at h ⊢
  exact ⟨h.1, sparseWf_drop h.2.1 p, h.2.2⟩

theorem Dev.canonical_dropDmem {d : Dev} (h : d.canonical = true) (p : Nat → Bool) :
    ({ d with mem := { d.mem with dmem := sparseDrop p d.mem.dmem } } : Dev).canonical = true :=
  Dev.canonical_dmem h (sparseWf_drop (Dev.dmem_wf h) p)

end Sys2Proof.Machine
end

