-- ==== Sys2Proof/Laws/Commands.lean ====
section
/-!
SUPPORT. Laws/Commands.lean: how claims about commands are proved: from the effect of a meaning on the device to `Does` and
`Leaves`; what writes leave of the other registers; the front of the command ring; frames of the host port.
-/

namespace Sys2Proof.Machine

/-! ### From a meaning's effect to a claim -/

theorem does_of_act {c : Instr} {p : Dev → Prop} {f g : Dev → Dev} (he : ∀ s, Sys2Proof.Machine.exec c s = act s f)
    (h : ∀ d, d.sys.inReset = false → p d → f d = g d) : Does c p g := by
  intro s h0 hp
  rw [he]
  unfold act
  rw [h0, if_neg Bool.false_ne_true, h _ h0 hp]

theorem does_of_actAlways {c : Instr} {p : Dev → Prop} {f g : Dev → Dev}
    (he : ∀ s, Sys2Proof.Machine.exec c s = actAlways s f) (h : ∀ d, d.sys.inReset = false → p d → f d = g d) : Does c p g := by
  intro s h0 hp
  rw [he]
  unfold actAlways
  rw [h _ h0 hp]

theorem leaves_of_act {c : Instr} {p : Dev → Prop} {f : Dev → Dev} {q : Dev → Dev → Prop}
    (he : ∀ s, Sys2Proof.Machine.exec c s = act s f) (h : ∀ d, d.sys.inReset = false → p d → q d (f d)) : Leaves c p q := by
  intro s h0 hp
  refine ⟨{ s with dev := f s.dev }, ?_, rfl, h _ h0 hp⟩
  rw [he]
  unfold act
  rw [h0, if_neg Bool.false_ne_true]

theorem leaves_of_actAlways {c : Instr} {p : Dev → Prop} {f : Dev → Dev} {q : Dev → Dev → Prop}
    (he : ∀ s, Sys2Proof.Machine.exec c s = actAlways s f) (h : ∀ d, d.sys.inReset = false → p d → q d (f d)) : Leaves c p q :=
  fun s h0 hp => ⟨_, he s, rfl, h _ h0 hp⟩

theorem Leaves.of_does {c : Instr} {p : Dev → Prop} {f : Dev → Dev} {q : Dev → Dev → Prop} (h : Does c p f)
    (hq : ∀ d, d.sys.inReset = false → p d → q d (f d)) : Leaves c p q :=
  fun s h0 hp => ⟨_, h s h0 hp, rfl, hq _ h0 hp⟩

/-! ### The other registers -/

theorem Dev.butRegs_refl (d : Dev) (as : List Nat) : d.butRegs d as := ⟨fun _ _ => rfl, rfl⟩

theorem Dev.butRegs_setReg {d t : Dev} {as : List Nat} (h : d.butRegs t as) {a : Nat} (ha : a ∈ as) (v : Word) :
    d.butRegs (t.setReg a v) as := by
  refine ⟨fun b hb => ?_, ?_⟩
  · rw [Dev.reg_setReg_ne _ _ _ _ (fun h' => hb (by rw [h']; exact ha))]
    exact h.1 b hb
  · rw [h.2]
    rfl

theorem Dev.butRegs_put {d t : Dev} {as : List Nat} (h : d.butRegs t as) {f : Field} (ha : f.addr ∈ as) (n : Nat) :
    d.butRegs (t.put f n) as :=
  Dev.butRegs_setReg h ha _

theorem Dev.butRegs_putB {d t : Dev} {as : List Nat} (h : d.butRegs t as) {f : Field} (ha : f.addr ∈ as) (b : Bool) :
    d.butRegs (t.putB f b) as := Dev.butRegs_put h ha _

theorem Dev.butRegs_inc {d t : Dev} {as : List Nat} (h : d.butRegs t as) {f : Field} (ha : f.addr ∈ as) :
    d.butRegs (t.inc f) as := Dev.butRegs_put h ha _

theorem Dev.butRegs_event {d t : Dev} {as : List Nat} (h : d.butRegs t as) (ha : R.SEQ_EVPEND ∈ as) (b : Nat) :
    d.butRegs (t.event b) as := by
  unfold Dev.event
  split
  · exact Dev.butRegs_put h ha _
  · exact h

/-! ### The command ring -/

theorem Dev.cqRun_front {d : Dev} {e : List Byte} (h : d.atFront e) {ok : List Byte → Bool} (ho : ok e = true)
    (body : Dev → List Byte → Dev) : d.cqRun ok body = body d.taken e := by
  obtain ⟨h1, h2, h3, h4, h5, h6⟩ := h
  unfold Dev.cqRun
  cases hx : d.ring.established with
  | nil => rw [hx] at h1; simp at h1
  | cons x rest =>
    rw [hx] at h1
    obtain rfl : x = e := by simpa using h1
    have a2 : (d.st == stHalted) = false := by simpa using h2
    have a3 : (d.st == stHeath) = false := by simpa using h3
    have hc : (d.ring.batch.isNone && !d.reserveOk) = false := by
      rcases h6 with h6 | h6
      · cases hb : d.ring.batch <;> simp [hb] at h6 ⊢
      · simp [h6]
    simp only [ho, a2, a3, h4, h5, hc, Bool.not_true, Option.isSome_none, bne_self_eq_false, Bool.or_false,
      Bool.false_eq_true, if_false, Dev.taken, hx, List.tail_cons]

/-- A command that passes the common checks. -/
theorem Dev.cqChecked_ok {d : Dev} {e : List Byte} {len : Nat} {states : List Nat} {one : Bool} (hl : eLen e = len)
    (hs : states = [] ∨ states.contains d.st = true) (ho : one = true → d.asyncsOf (eOp e) = []) (body : Dev → Dev) :
    d.cqChecked e len states one body = body d := by
  unfold Dev.cqChecked
  rw [if_neg (by simp [hl]), if_neg (by rcases hs with rfl | hs <;> simp_all), if_neg]
  cases one
  · simp
  · simp [ho rfl]

theorem Dev.cqChecked_len {d : Dev} {e : List Byte} {len : Nat} (states : List Nat) (one : Bool) (hl : eLen e ≠ len)
    (body : Dev → Dev) : d.cqChecked e len states one body = d.cqSync e csBadLen 0 := by
  unfold Dev.cqChecked
  rw [if_pos hl]

/-- A command `c` of the ring whose meaning runs the entry at the front of opcode `op`. -/
theorem executes_of {c : Instr} {op len : Nat} {p : List Byte → Dev → Prop} {f : List Byte → Dev → Dev}
    {ok : List Byte → Bool} {body : Dev → List Byte → Dev} (he : ∀ s, Sys2Proof.Machine.exec c s = act s (fun d => d.cqRun ok body))
    (hk : ∀ e, eOp e = op → (∃ d, p e d) → ok e = true)
    (h : ∀ e d, d.sys.inReset = false → d.atFront e → eOp e = op → eLen e = len → p e d → body d.taken e = f e d.taken) :
    Executes c op len p f := by
  intro e
  refine does_of_act he (fun d h0 hp => ?_)
  obtain ⟨h1, h2, h3, h4⟩ := hp
  rw [Dev.cqRun_front h1 (hk e h2 ⟨d, h4⟩)]
  exact h e d h0 h1 h2 h3 h4

/-! ### The host port -/

theorem Dev.hostFrame_serves {d : Dev} (h : d.portServes = true) (m : Bool) (body : Dev → Dev) :
    d.hostFrame m body = body (d.frameBegin m) := by
  unfold Dev.hostFrame
  rw [if_pos h]

@[simp] theorem Dev.frameBegin_hp (d : Dev) (m : Bool) : (d.frameBegin m).hp = { d.hp with held := none, out := [] } := rfl

theorem Dev.frameBegin_get (d : Dev) (m : Bool) (f : Field) (h : f.addr ≠ R.HP_STATUS) : (d.frameBegin m).get f = d.get f :=
  Dev.get_setReg_ne _ _ _ _ h

theorem Dev.butRegs_frameBegin (d : Dev) (m : Bool) {as : List Nat} (h : R.HP_STATUS ∈ as) :
    d.butRegs { d.frameBegin m with hp := d.hp } as := Dev.butRegs_putB (f := R.HP_STATUS_CLKMODE) (d.butRegs_refl as) h m

end Sys2Proof.Machine
end

