-- ==== Sys2Proof/Laws/RegIo.lean ====
section
/-!
SUPPORT. Laws/RegIo.lean: what a register write reaches: the gates of `Dev.ioWrite` said once, its dispatch for each block of
registers, and the writes that need no more than their access codes.
-/

namespace Sys2Proof.Machine

/-- The gates of a register write: away from them it is its block's. -/
theorem Dev.ioWrite_live {d : Dev} (h0 : d.sys.inReset = false) {a : Nat} (hr : d.regReachable a = true)
    (hs : (regSpec? a).isNone = false) (hh : haltedOff.contains a = true → d.st ≠ stHalted)
    (hb : heldOff a = true → d.busyState = false) (host : Bool) (v : Nat) :
    d.ioWrite host a v =
      if a < 0x400 then d.ioSysTick host a v
      else if a < 0xA00 then d.ioAcqHop a v
      else if a < 0x1400 then d.ioImgCt a v
      else if a < 0x2000 then d.ioSide a v
      else if a < 0x2400 then d.ioSeq host a v
      else if a < 0x3000 then d.ioPanel a v
      else if a < 0x3800 then d.ioHpXr a v
      else if a < 0x4000 then d.ioClPp a v
      else d.ioPwrFlt a v := by
  unfold Dev.ioWrite
  rw [if_neg (by simp [h0, hr, hs]), if_neg (fun x => hh x.2 x.1), if_neg (fun x => by simp [hb x.2] at x)]

theorem Dev.ioWrite_gone {d : Dev} {a : Nat} (h : d.sys.inReset = true ∨ d.regReachable a = false ∨ regSpec? a = none)
    (host : Bool) (v : Nat) : d.ioWrite host a v = d := by
  unfold Dev.ioWrite
  rw [if_pos]
  rcases h with h | h | h <;> simp [h]

theorem Dev.ioWrite_halted {d : Dev} {a : Nat} (hs : d.st = stHalted) (ha : haltedOff.contains a = true) (host : Bool) (v : Nat) :
    d.ioWrite host a v = d := by
  unfold Dev.ioWrite
  split
  · rfl
  · rw [if_pos ⟨hs, ha⟩]

theorem Dev.ioWrite_held {d : Dev} {a : Nat} (hs : d.busyState = true) (ha : heldOff a = true) (host : Bool) (v : Nat) :
    d.ioWrite host a v = d := by
  unfold Dev.ioWrite
  split
  · rfl
  · split
    · rfl
    · rw [if_pos ⟨hs, ha⟩]

/-- A value of a register without field ranges is taken as it is. -/
theorem Dev.inRange_free (d : Dev) {a : Nat} (h : fieldRanges a = []) (v : Word) : d.inRange a v.toNat = v.toNat := by
  unfold Dev.inRange
  rw [h]
  simp

theorem mask_away (o w m x : Word) (y : Word) : ((o &&& ~~~m) ||| (w &&& m)) &&& ~~~(x ||| m ||| y) = o &&& ~~~(x ||| m ||| y) := by
  ext i hi
  simp only [BitVec.getElem_and, BitVec.getElem_or, BitVec.getElem_not]
  cases o[i] <;> cases w[i] <;> cases m[i] <;> cases x[i] <;> cases y[i] <;> rfl

theorem mask_join (o w m x y : Word) :
    (((o &&& ~~~(x ||| (w &&& y))) ||| (w &&& x)) &&& ~~~m) ||| (w &&& m) =
      (o &&& ~~~(x ||| m ||| (w &&& y))) ||| (w &&& (x ||| m)) := by
  ext i hi
  simp only [BitVec.getElem_and, BitVec.getElem_or, BitVec.getElem_not]
  cases o[i] <;> cases w[i] <;> cases m[i] <;> cases x[i] <;> cases y[i] <;> rfl

/-- A plain write of a value within its ranges does what its access codes say. -/
theorem Dev.plainWrite_takes (d : Dev) {a : Nat} {r : RegSpec} (hr : regSpec? a = some r) (v : Word)
    (hv : d.inRange a v.toNat = v.toNat) : d.takes (d.plainWrite a v.toNat) a v := by
  have hw : word (d.inRange a v.toNat) = v := by rw [hv]; simp [word]
  unfold Dev.plainWrite
  rw [hr]
  simp only [hw]
  have hm : rwsMask a = word r.rws := by simp [rwsMask, hr]
  split
  · rename_i h0
    refine ⟨fun b hb => ⟨Dev.reg_setReg_ne _ _ _ _ hb, rfl⟩, rfl, r, hr, ?_, fun _ => by simp⟩
    have : ∀ x : Dev, x.viewReg a = x.reg a := by
      intro x
      unfold Dev.viewReg
      split
      · rw [hm, h0]
        show x.reg a &&& ~~~ (0#32) ||| _ &&& (0#32) = x.reg a
        rw [BitVec.and_zero, BitVec.or_zero, BitVec.not_zero, BitVec.and_allOnes]
      · rfl
    rw [this, this]
    simp [h0, word]
  · rename_i h0
    have hne : R.SYS_STATUS_STATE.addr ≠ a := by
      rintro rfl
      exact h0 (by have : regSpec? R.SYS_STATUS = some r := hr
                   have e : (regSpec? R.SYS_STATUS).map (·.rws) = some 0 := rfl
                   rw [this] at e
                   simpa using e)
    have stays : ∀ w, (d.setReg a w).ticking = d.ticking := fun w => by
      unfold Dev.ticking
      rw [Dev.get_setReg_ne _ _ _ _ hne]
    have away : ∀ x y : Word, d.viewReg a &&& ~~~(x ||| word r.rws ||| y) = d.reg a &&& ~~~(x ||| word r.rws ||| y) := by
      intro x y
      unfold Dev.viewReg
      rw [hm]
      split
      · exact mask_away _ _ _ _ _
      · rfl
    unfold Dev.stage
    rw [hm]
    have look : ∀ (l : List (Nat × Word)) (b : Nat), b ≠ a → (l.filter (fun e => e.1 != a)).lookup b = l.lookup b := by
      intro l b hb
      induction l with
      | nil => rfl
      | cons x xs ih =>
        obtain ⟨k, w⟩ := x
        by_cases hk : k = a
        · have hbk : (b == k) = false := by simpa [hk] using hb
          simp [hk, ih, List.lookup_cons, show (b == a) = false by simpa using hb]
        · by_cases hbk : b = k
          · subst hbk
            simp [hk]
          · simp [hk, List.lookup_cons, show (b == k) = false by simpa using hbk, ih]
    split
    · rename_i h2
      refine ⟨fun b hb => ⟨Dev.reg_setReg_ne _ _ _ _ hb, ?_⟩, rfl, r, hr, ?_, fun _ => Dev.reg_setReg_self _ _ _⟩
      · show List.lookup b ((a, _) :: _) = _
        rw [List.lookup_cons, show (b == a) = false by simpa using hb]
        exact look _ _ hb
      · refine Eq.trans ?_ (congrArg (· ||| (v &&& (word r.rw ||| word r.rws))) (away (word r.rw) (v &&& word r.w1c))).symm
        unfold Dev.viewReg Dev.stagedAt
        simp only [Dev.setReg_staged, List.lookup_cons_self, hm]
        show ((Dev.setReg _ _ _).reg a &&& _ ||| _) = _
        rw [Dev.reg_setReg_self]
        rw [BitVec.and_assoc v, BitVec.and_self]
        exact mask_join _ _ _ _ _
    · rename_i h2
      refine ⟨fun b hb => ⟨?_, look _ _ hb⟩, rfl, r, hr, ?_, fun h3 => absurd h3 (fun h4 => h2 (by rw [stays]; exact h4))⟩
      · exact (Dev.reg_setReg_ne _ _ _ _ hb).trans (Dev.reg_setReg_ne _ _ _ _ hb)
      · have hn : ∀ l : List (Nat × Word), (l.filter (fun e => e.1 != a)).lookup a = none := by
          intro l
          induction l with
          | nil => rfl
          | cons x xs ih =>
            by_cases hk : x.1 = a
            · simp [hk, ih]
            · rw [List.filter_cons_of_pos (by simpa using hk), List.lookup_cons, show (a == x.1) = false by simpa using Ne.symm hk]; exact ih
        refine Eq.trans ?_ (congrArg (· ||| (v &&& (word r.rw ||| word r.rws))) (away (word r.rw) (v &&& word r.w1c))).symm
        unfold Dev.viewReg Dev.stagedAt
        simp only [Dev.setReg_staged, hn]
        show (Dev.setReg _ _ _).reg a = _
        rw [Dev.reg_setReg_self, Dev.reg_setReg_self]
        exact mask_join _ _ _ _ _

end Sys2Proof.Machine
end

