-- ==== Sys2Proof/Tests/Slice0.lean ====
section
/-!
SUPPORT. Tests/Slice0.lean: words of the spec and what they decode to, ill-formed commands that the checks refuse, single steps
on small states, and for each statement with hypotheses a state and operands that meet them.
-/

namespace Sys2Proof.Tests

open Sys2Proof Sys2Proof.Machine

-- one theorem after the other: each check of a witness by the kernel takes a stack of its own
set_option Elab.async false

/-! ### Words, from the example of chapter 11 and the table "Opcode map" -/

theorem test_word_ldi : coreDecode 0x0D041000 = some (.insLdi 0 1 0 0x1000) := by decide
theorem test_word_in : coreDecode 0x0A04302C = some (.insIn 0 2 1 (.imm 0x2C)) := by decide
theorem test_word_tst : coreDecode 0x01605008 = some (.insAnd 0 true 0 2 (.imm 8)) := by decide
theorem test_word_ld : coreDecode 0x08061100 = some (.insLd 0 3 0 (.imm 0x100)) := by decide
theorem test_word_add_nz : coreDecode 0x20067001 = some (.insAdd 2 false 3 3 (.imm 1)) := by decide
theorem test_word_mov_ze : coreDecode 0x12461000 = some (.insMov 1 false 3 (.imm 0)) := by decide
theorem test_word_st : coreDecode 0x09461100 = some (.insSt 0 3 0 (.imm 0x100)) := by decide
theorem test_word_cmp : coreDecode 0x00A070F0 = some (.insSub 0 true 0 3 (.imm 240)) := by decide
theorem test_word_end : coreDecode 0x0E800000 = some (.insEnd 0) := by decide
theorem test_word_erased : coreDecode 0xFFFFFFFF = none := by decide
theorem test_word_zero : coreDecode 0 = some (.insAdd 0 false 0 0 (.reg 0 0 0)) := by decide

/-- Inputs of the converters with `v` µV at VIN. -/
def ins (v : Int) : AuxIn := ⟨0, 0, 0, 0, v, 0, 0, 0, 0, 0⟩

/-! ### Ill-formed commands, one for each check of WellFormed -/

/-- The other core instructions have a word for every operand. -/
theorem test_illFormed : ([
  .insShl 0 false 1 1 (.reg 1 1 0), .insShr 0 false 1 1 (.imm 32), .insSar 0 false 1 1 (.reg 1 0 1), .insRor 0 false 1 1 (.imm 0xFFF),
  .insBfx 0 false 1 1 31 1, .insBfxs 0 false 1 1 1 31, .insBfi 0 false 1 1 16 16, .insLd 0 1 1 (.reg 1 0 1), .insLdh 0 1 1 (.reg 1 0 1),
  .insLdhs 0 1 1 (.reg 1 0 1), .insLdb 0 1 1 (.reg 1 0 1), .insLdbs 0 1 1 (.reg 1 0 1), .insSt 0 1 1 (.reg 1 0 1),
  .insSth 0 1 1 (.reg 1 0 1), .insStb 0 1 1 (.reg 1 0 1), .insIn 0 1 1 (.reg 1 0 1), .insOut 0 1 1 (.reg 1 0 1),
  .insTbl 0 1 1 (.reg 1 0 1), .insLdi 0 1 3 0, .illegalEncoding 0,
  .pwmPeriodEnd 3, .acknowledgedWrite false true 0 0 0 [], .acknowledgedWrite false true 0 0 0 (List.replicate 257 0),
  .unknownOpcode false 0x03, .registerWrite false 2 0, .listenSlot [(0, false, [16384])],
  .approachBurst [[(0, 0)]] false, .approachBurst (List.replicate 5 (List.replicate 13 (0, 0))) false,
  .acquisitionDeadline ⟨[List.replicate 13 (16384, 0)], false⟩ ⟨[], []⟩, .acquisitionDeadline ⟨[[(0, 0)], []], false⟩ ⟨[], []⟩,
  .auxOutput 0 [], .auxOutput 0 [(1, ins 1)], .auxOutput 0 [(0, ins 0)], .auxOutput 0 [(0, ins 1), (0, ins 1)],
  .chainSegment false 64 [true] false false, .enum ⟨0, 8, 0, 0, 0, []⟩, .config ⟨0, 0, 9, 0, 0, []⟩, .check ⟨⟨0, 0, 0, 256, 0, []⟩, false⟩,
  .stage ⟨0, 0, 0, 0, 65536, []⟩, .delta ⟨0, 0, 0, 0, 0, List.replicate 1025 0⟩] : List Instr).all (fun i => !i.wellFormed) = true := by decide +kernel

/-- The nearest well-formed commands. -/
theorem test_wellFormed : ([.insAdd 0 false 1 1 (.reg 1 0 2), .insBfx 0 false 1 1 31 0, .insBfi 0 false 1 1 16 15, .insLdi 0 1 2 0,
    .illegalEncoding 0xFFFFFFFF, .pwmPeriodEnd 4, .acknowledgedWrite false true 0 0 0 [0], .unknownOpcode false 0x04,
    .registerWrite false 4 0, .listenSlot [(0, false, [16383])], .approachBurst [List.replicate 13 (16383, 0)] false,
    .acquisitionDeadline ⟨[List.replicate 13 (0, 0), [(0, 0)]], false⟩ ⟨[], []⟩, .auxOutput 0 [(0, ins 1), (1, ins 1)],
    .chainSegment false 1 [true] false false, .enum ⟨0, 7, 15, 255, 65535, []⟩] : List Instr).all Instr.wellFormed = true := by decide +kernel

/-! ### Devices for the witnesses -/

/-- A seated device out of reset in BOOT_WAIT, VDDIO there, the host qualified, every domain ON. -/
def seated : Dev := { Dev.reset with
  regs := (List.range 12).foldl (fun d k => d.setDom k 2) ((Dev.reset.put R.SYS_STATUS_SEATED 1).put R.SYS_STATUS_VDDIOOK 1) |>.regs
  sys := { Dev.reset.sys with inReset := false, hostQual := true } }

/-- The same with the given values in fields of its registers. -/
def dev (l : List (Field × Nat)) : Dev := { seated with regs := (l.foldl (fun d e => d.put e.1 e.2) seated).regs }

/-- Every hypothesis of a statement about a device out of reset holds of such a device. -/
theorem dev_out_of_reset (l : List (Field × Nat)) : (dev l).sys.inReset = false := rfl

/-- The core about to execute `w` at word address 0 of an image of 100 words, with `g` in its registers. -/
def core (w : Word) (g : List (Nat × Word)) (l : List (Field × Nat)) : Dev := { dev ((R.SEQ_STATUS_STATE, 2) :: l) with
  mem := { Mems.reset with imemA := (List.range 4).map (fun i => (i, w.extractLsb' (8 * i) 8)) }
  seq := { Seq.reset with g := g, active := some ⟨[0, 0, 0, 0, 0, 0, 0, 0, 100] ++ List.replicate 80 0, [], [], 0⟩ } }

/-! ### Witnesses: the whole machine and the core -/

/-- One instruction of each kind that completes, in a state that is about to execute it, with room and a next word. -/
def coreInsns : List Instr := [
  .insAdd 0 true 1 2 (.imm 1), .insAddc 0 false 1 2 (.imm 1), .insSub 0 true 1 2 (.imm 1), .insSubb 0 true 1 2 (.imm 1),
  .insAbsd 0 true 1 2 (.imm 1), .insAnd 0 true 1 2 (.imm 1), .insOr 0 true 1 2 (.imm 1), .insXor 0 true 1 2 (.imm 1),
  .insAndn 0 true 1 2 (.imm 1), .insMov 0 true 1 (.imm 1), .insNot 0 true 1 (.imm 1), .insShl 0 true 1 2 (.imm 1),
  .insShr 0 true 1 2 (.imm 1), .insSar 0 true 1 2 (.imm 0), .insRor 0 true 1 2 (.imm 31), .insClz 0 true 1 2,
  .insMul 0 true 1 2 (.imm 1), .insMac 0 true 1 2 (.imm 1), .insMulhs 0 true 1 2 (.imm 1), .insMulhu 0 true 1 2 (.imm 1),
  .insDivs 0 true 1 2 (.imm 1), .insDivu 0 true 1 2 (.imm 1), .insRems 0 true 1 2 (.imm 1), .insRemu 0 true 1 2 (.imm 1),
  .insBfx 0 true 1 2 0 31, .insBfxs 0 true 1 2 31 0, .insBfi 0 true 1 2 16 15, .insLd 0 1 2 (.imm 0), .insLdh 0 1 2 (.imm 0),
  .insLdhs 0 1 2 (.imm 0), .insLdb 0 1 2 (.imm 0), .insLdbs 0 1 2 (.imm 0), .insSt 0 1 2 (.imm 0), .insSth 0 1 2 (.imm 0),
  .insStb 0 1 2 (.imm 0), .insIn 0 1 2 (.imm 0), .insOut 0 1 2 (.imm 0), .insTbl 0 1 2 (.imm 0), .insB 0 0, .insBl 0 99,
  .insJr 0 2, .insJl 0 2, .insLdi 0 1 0 7, .insLdi 0 1 1 7, .insLdi 0 1 2 7, .insWait 0 1 2 (.imm 1), .insEvt 0 1 (.imm 1),
  .insEvc 0 1 (.imm 1), .insMrf 0 1, .insMwf 0 (.imm 31), .insEnd 0, .insHalt 0, .insBrk 0]

/-- Whether the device is about to execute `i`, of condition `cond`, with room for 18 cycles and a next word. -/
def meetsAbout (i : Instr) (cond : BitVec 4) (g : List (Nat × Word)) (l : List (Field × Nat)) : Bool :=
  match coreWord i with
  | none => false
  | some w =>
    let d := core w g l
    !d.sys.inReset && d.seqAt w && !illegal w && d.seq.holds cond && decide (d.seq.pc + 1 < d.nwords) &&
      (!d.counting || d.seq.budget == 0 || decide (d.seq.cycles + 18 < d.seq.budget))

theorem witness_about : coreInsns.all (fun i => meetsAbout i 0 [] [] && i.wellFormed) = true := by decide +kernel

/-- In RUNNING the cycles count. -/
theorem witness_about_running : meetsAbout (.insAdd 0 true 1 2 (.imm 1)) 0 [] [(R.SYS_STATUS_STATE, 3)] = true := by decide +kernel

theorem witness_DecodeOfEncode : coreWord (.insMov 0 false 3 (.imm 0)) = some 0x02461000 ∧
    (Instr.insMov 0 false 3 (.imm 0)).wellFormed = true := by decide +kernel

theorem witness_ResetHolds : State.reset.dev.sys.inReset = true ∧ wakesReset .tick = false := by decide

theorem witness_EmptyQueue :
    let s : State := ⟨[], dev [(R.SYS_STATUS_STATE, 3)]⟩
    s.pending = [] ∧ s.dev.sys.inReset = false ∧ s.dev.tick.held = 0 ∧ (∀ q ∈ s.dev.pwr.domReqs, q.waits = false) ∧
      s.dev.ticking = true ∧ s.dev.mem.met = [] ∧ s.dev.pwr.tsFrom = none ∧ State.reset.dev.sys.inReset = true := by decide +kernel

theorem witness_StepKeepsCanonicalForm : seated.canonical = true := by decide +kernel

/-- The operands of the cases of the divisions and of the bitfields. -/
theorem witness_DivisionResults : (core 0 [] []).op2S (.imm 1) ≠ 0 ∧ (core 0 [] []).op2S (.imm 0) = 0 ∧
    (core 0 [] []).op2Z (.imm 0xFFF) ≠ 0 ∧ (core 0 [] []).op2Z (.imm 0) = 0 ∧ (31#5).toNat + (0#5).toNat ≤ 31 := by decide +kernel

/-- Addresses at the ends of DMEM and of exchange RAM, and those that no access reaches. -/
theorem witness_data_addresses :
    let at_ := fun (a : Word) => (core 0 [(2, a)] []).dataAddr 2 (.imm 0)
    (at_ 0 % 4 = 0 ∧ at_ 0x3FFC < 0x4000) ∧
    (at_ 0x1FFFC % 4 = 0 ∧ 0x10000 ≤ at_ 0x10000 ∧ at_ 0x1FFFC < 0x20000 ∧ (core 0 [] []).xramOn (0x1FFFC - 0x10000) = true ∧
      (core 0 [] []).mem.met = [] ∧ (core 0 [] []).mem.single = [] ∧ (core 0 [] []).mem.poisoned = []) ∧
    at_ 1 % 4 ≠ 0 ∧ at_ 0x3FFF % 2 ≠ 0 ∧ (at_ 0x4000 % 4 = 0 ∧ 0x4000 ≤ at_ 0x4000 ∧ ¬(0x10000 ≤ at_ 0x4000)) ∧
    ¬(at_ 0x20000 < 0x20000) ∧ 0xFFFF < at_ 0x10000 ∧ at_ 0xFFFC ≤ 0xFFFF := by decide +kernel

/-- A table entry and a target inside the image, and the first beyond it. -/
theorem witness_InOutAndTables : (core 0 [(2, 99)] []).dataAddr 2 (.imm 0) < (core 0 [] []).nwords ∧
    (core 0 [] []).nwords ≤ (core 0 [(2, 100)] []).dataAddr 2 (.imm 0) := by decide +kernel

theorem witness_BranchesAndCalls :
    (BitVec.ofNat 32 (core 0 [] []).seq.pc + (99#22).signExtend 32).toNat < (core 0 [] []).nwords ∧
    ((core 0 [(2, 99)] []).g 2).toNat < (core 0 [] []).nwords := by decide +kernel

/-- An event that waits and none; a core that waits, before its end and at it. -/
theorem witness_EventsAndWaiting : (dev [(R.SEQ_EVPEND_EV, 1)]).get R.SEQ_EVPEND_EV &&& (1 % 2048) ≠ 0 ∧
    (dev []).get R.SEQ_EVPEND_EV &&& (1 % 2048) = 0 ∧
    (let w : WaitInfo := ⟨1, 1, 0, 10⟩
      let d := { dev [(R.SEQ_STATUS_STATE, 3)] with seq := { Seq.reset with wait := some w } }
      d.seqOn = true ∧ d.sq = sqWaiting ∧ d.seq.wait = some w ∧ d.get R.SEQ_EVPEND_EV &&& w.mask = 0 ∧ d.clock < w.until_ ∧
        w.until_ ≤ { d with clock := 10 }.clock) := by decide +kernel

theorem witness_HandlerEndsAndStops :
    (core 0 [] []).get R.SEQ_STATUS_ENTRY ≠ 1 ∧ (core 0 [] []).get R.SEQ_STATUS_ENTRY ≠ 2 ∧
    (let d := core 0 [] [(R.SEQ_STATUS_ENTRY, 2), (R.SYS_STATUS_STATE, 3)]; d.get R.SEQ_STATUS_ENTRY = 2 ∧ d.st = stRunning) ∧
    (let d := core 0 [] [(R.SEQ_STATUS_ENTRY, 1)]; d.get R.SEQ_STATUS_ENTRY = 1 ∧ d.st = stBootWait ∧ d.seq.heldRun = false ∧
      { d.seq with heldRun := true }.heldRun = true) ∧
    (core 0 [] [(R.SEQ_CTRL_DBGEN, 1)]).is R.SEQ_CTRL_DBGEN = true ∧ (core 0 [] []).is R.SEQ_CTRL_DBGEN = false := by decide +kernel

theorem witness_FailedCondition : meetsAbout (.insAdd 1 true 1 2 (.imm 1)) 0 [] [] = true ∧
    (core 0 [] []).seq.holds 1 = false := by decide +kernel

/-- Each entry pending above those below it, and EVENT. -/
theorem witness_HandlersStartByPriority :
    ([(1, true, true, true, true), (5, false, true, true, true), (2, false, false, true, true), (3, false, false, false, true),
      (4, false, false, false, false)] : List (Nat × Bool × Bool × Bool × Bool)).all (fun x =>
      let (e, r, f, t, fr) := x
      let c := core 0 [] [(R.SEQ_STATUS_STATE, 1), (R.SEQ_EVPEND_EV, 4), (R.SEQ_EVEN_EV, 4)]
      let d := { c with clock := 5, seq := { c.seq with pReset := r, pFault := f, pTick := t, pFrame := fr } }
      d.seqOn && d.sq == sqIdle && decide (4 * (e - 1) < d.nwords) &&
        (if d.seq.pReset then e == 1 else if d.seq.pFault then e == 5 else if d.seq.pTick then e == 2
          else if d.seq.pFrame then e == 3 else e == 4 && d.eventRaised)) = true := by decide +kernel

theorem witness_IllegalWordsAndResetTimeout :
    ((core 0xFFFFFFFF [] []).seqAt 0xFFFFFFFF = true ∧ illegal 0xFFFFFFFF = true) ∧
    (let d := { core 0 [] [(R.SEQ_STATUS_ENTRY, 1)] with clock := 100000 };
      d.seqOn = true ∧ d.get R.SEQ_STATUS_ENTRY = 1 ∧ d.seq.enteredAt + 100000 ≤ d.clock ∧ d.sq = sqBusy) ∧
    (let d := core 0 [] [];
      d.seqOn = true ∧ d.sq = sqBusy ∧ d.get R.SEQ_STATUS_ENTRY ≠ 5 ∧ d.entryPresent 4 = true ∧ d.flt.due = [] ∧
        d.fltAction 0x15 ≠ 2) := by decide +kernel

theorem witness_SequencerControlWrites :
    let reached := fun (d : Dev) => d.regReachable R.SEQ_CTRL = true ∧ d.st ≠ stHalted
    (let d := core 0 [] [(R.SEQ_STATUS_STATE, 4)];
      reached d ∧ d.sq = sqBreak ∧ d.counting = false ∧ d.seq.pc + 1 < d.nwords ∧ d.sq ≠ sqEmpty ∧ d.sq ≠ sqHalted ∧ d.seqOn = true) ∧
    (reached (dev []) ∧ (dev []).sq = sqEmpty) ∧
    (reached (dev [(R.SEQ_STATUS_STATE, 5)]) ∧ (dev [(R.SEQ_STATUS_STATE, 5)]).sq = sqHalted) := by decide +kernel

/-! ### Witnesses: start-up, ticks, frames, panel -/

/-- A frame of tick 7 whose phases have all run. -/
def frame : Frame := { (dev []).newFrame with
  tick := 7, mutScan := true, selfScan := false, approach := false, mutDone := true, listened := true, noRetry := false, ask := [3] }

/-- The device acquiring `f`. -/
def acquiring (f : Frame) (l : List (Field × Nat)) : Dev := { dev l with acq := { Acq.reset with now := some f, hiZ := false } }

theorem witness_ResetsAndTheirCauses : (dev []).sys.inReset = false ∧ (dev []).is R.SYS_STATUS_SEATED = true ∧
    (dev [(R.SYS_STATUS_SEATED, 0)]).is R.SYS_STATUS_SEATED = false ∧ State.reset.dev.is R.SYS_STATUS_SEATED = false := by decide +kernel

theorem witness_SeatingEndsReset : State.reset.dev.is R.SYS_STRAPS_SEATPIN = true ∧ State.reset.dev.sys.inReset = true := by
  decide +kernel

/-- Removal from RUNNING on a lead, in HALTED, in Fallow; a reseat of each, 8 ms after SEAT_N fell. -/
theorem witness_RemovalAndReseat :
    let calm := fun (d : Dev) => d.is R.CAL_STATUS_BUSYT = false ∧ d.is R.CAL_STATUS_BUSYA = false
    (let d := dev [(R.SYS_STATUS_STATE, 3), (R.CL_CTRL_ROLE, 1), (R.CL_STATUS_ENUM, 1)];
      d.is R.SYS_STATUS_SEATED = true ∧ d.st ≠ stHalted ∧ d.pwr.mode ≠ 2 ∧ d.pwr.stateReq = none ∧ d.pp.active = none ∧ calm d ∧
        d.enumerated = true ∧ d.ticking = true ∧ d.domOn 8 = true) ∧
    (let d := dev [(R.SYS_STATUS_STATE, stHalted)];
      d.is R.SYS_STATUS_SEATED = true ∧ d.st = stHalted ∧ d.pp.active = none) ∧
    (let d := { dev [(R.SYS_STATUS_STATE, 1)] with pwr := { Pwr.reset with mode := 2 } };
      d.is R.SYS_STATUS_SEATED = true ∧ d.st ≠ stHalted ∧ d.pwr.mode = 2 ∧ d.pp.active = none) ∧
    (let lost := fun (st : Nat) => ({ dev [(R.SYS_STATUS_SEATED, 0), (R.SYS_STATUS_STATE, st), (domField 4, 0)] with
        clock := 8000, sys := { seated.sys with seatFell := some 0 }, pwr := { Pwr.reset with heathOff := 16 } } : Dev);
      ((lost stParked).is R.SYS_STATUS_SEATED = false ∧ (lost stParked).sys.seatFell = some 0 ∧ 0 + 8000 ≤ (lost stParked).clock) ∧
      ((lost stParked).st = stParked ∧ (lost stParked).pwr.mode = 0 ∧ (lost stParked).seq.bootFrom = none ∧
        (lost stParked).sys.returnTo = stBootWait ∧ bitOf (lost stParked).pwr.heathOff 4 = true ∧ (lost stParked).dom 4 = 0 ∧
        bitOf (lost stParked).pwr.heathOff 3 = false) ∧
      ({ (lost stParked).pwr with mode := 2 }.mode = 2) ∧ (lost stHalted).st = stHalted) := by decide +kernel

theorem witness_SuppliesClocksAndBootTimeout :
    ((dev []).is R.SYS_STATUS_VDDIOOK = true ∧ (dev []).is R.SYS_STATUS_SEATED = true) ∧
    (dev [(R.SYS_STATUS_VDDIOOK, 0)]).is R.SYS_STATUS_VDDIOOK = false ∧
    ((dev []).pwr.pllLost = false ∧ (dev []).clMember = false ∧ (dev []).st = stBootWait) ∧
    (let d := { dev [] with pwr := { Pwr.reset with pllOn := true } }; d.pwr.pllOn = true ∧ d.clMember = false) ∧
    ({ Pwr.reset with pllLost := true }.pllLost = true) ∧
    (let d := { dev [] with clock := 30000, seq := { Seq.reset with bootFrom := some 0 } };
      d.seq.bootFrom = some 0 ∧ 0 + 30000 ≤ d.clock ∧ d.seqOn = true) := by decide +kernel

theorem witness_RunClearStops :
    let calm := fun (d : Dev) => d.is R.CAL_STATUS_BUSYT = false ∧ d.is R.CAL_STATUS_BUSYA = false
    (let d := dev [(R.SYS_STATUS_STATE, 2)]; d.clMember = false ∧ d.st = stChecking ∧ d.pwr.domReqs = [] ∧ calm d) ∧
    (let d := dev [(R.SYS_STATUS_STATE, 3)]; d.clMember = false ∧ d.st = stRunning ∧ calm d) ∧
    ((dev []).st ≠ stChecking ∧ (dev []).st ≠ stRunning ∧ (dev []).flt.due = [] ∧ (dev []).clLead = false) ∧
    (dev [(R.SYS_STATUS_STATE, 3), (R.CL_CTRL_ROLE, 2), (R.CL_STATUS_ENUM, 1)]).clMember = true ∧
    (let d := dev [(R.SYS_STATUS_STATE, stStopping), (R.SEQ_STATUS_STATE, 2), (R.SEQ_STATUS_ENTRY, 2)];
      d.st = stStopping ∧ d.handlerRuns = true) ∧
    (let d := dev [(R.SYS_STATUS_STATE, stStopping)];
      d.st = stStopping ∧ d.quiet = true ∧ ¬(d.clLead = true ∧ d.cl.clearRun = true) ∧ d.pwr.stateReq = none ∧
        d.ct.contacts = [] ∧ d.reg R.CT_VKEYS = 0) := by decide +kernel

theorem witness_TicksOfTheSource :
    let run := (R.SYS_STATUS_STATE, 3)
    let at_ := fun (n : Nat) (l : List (Field × Nat)) => ({ dev (run :: (R.TICK_CTRL_SRC, 0) :: (R.TICK_BUDGET_MINPER, 6060) :: l) with
      clock := n, tick := { TickGen.reset with first := false, lastTick := 0, spacing := 6060 } } : Dev)
    let passed := fun (d : Dev) => d.tick.first = true ∨ d.tick.lastTick + d.tick.spacing ≤ d.clock
    let early := fun (d : Dev) => d.tick.first = false ∧ d.clock < d.tick.lastTick + d.get R.TICK_BUDGET_MINPER
    ((at_ 0 []).st = stRunning ∧ (at_ 0 []).get R.TICK_CTRL_SRC = 0 ∧ passed (at_ 6060 []) ∧ ¬early (at_ 6060 []) ∧ ¬passed (at_ 6059 []) ∧
      (at_ 0 []).clLead = false) ∧
    (let d := at_ 6060 [(R.TICK_BUDGET_MINPER, 6061)]; passed d ∧ early d) ∧
    (let d := { at_ 6060 [(R.TICK_CTRL_SRC, 1)] with tick := { TickGen.reset with first := false, due := some 6060 } };
      d.get R.TICK_CTRL_SRC = 1 ∧ d.tick.owed = 0 ∧ d.tick.due = some 6060 ∧ 6060 ≤ d.clock ∧ ¬early d ∧ 6059 < 6060 ∧ TickGen.reset.due = none ∧
        { d.tick with owed := 1 }.owed = 1) ∧
    (let d := { at_ 6059 [(R.TICK_CTRL_SRC, 1)] with tick := { TickGen.reset with first := false, due := some 6059 } };
      early d ∧ d.tick.due = some 6059 ∧ 6059 ≤ d.clock) ∧
    ((dev []).st ≠ stRunning ∧ (dev []).st ≠ stStopping ∧ (at_ 0 [(R.TICK_CTRL_SRC, 2)]).get R.TICK_CTRL_SRC = 2) ∧
    (let d := at_ 6060 [(R.CL_CTRL_ROLE, 1), (R.CL_STATUS_ENUM, 1)];
      passed d ∧ ¬early d ∧ d.clLead = true ∧ d.cl.echoed = false ∧ { d.cl with echoed := true }.echoed = true) ∧
    (let d := at_ 6060 [(R.SYS_STATUS_STATE, stHeath)]; d.st = stHeath ∧ d.clMember = false ∧ d.clLead = false ∧ passed d) ∧
    (¬passed (at_ 6059 [(R.SYS_STATUS_STATE, stHeath)]) ∧ (dev []).st ≠ stHeath) ∧
    (dev []).pwr.stateReq = none ∧
    (let q : StateReq := ⟨1, none, true, false⟩
      let d := fun (off : Nat) => ({ dev [run] with pwr := { Pwr.reset with stateReq := some q, hcfg := 65536 * off } } : Dev)
      let set := fun (d : Dev) => (bitsOf 12 (d.pwr.hcfg / 65536)).filter (fun k => d.domOn k && !(k == 8 && d.enumerated));
      q.kind = 1 ∧ q.begun = true ∧ q.done = false ∧ (d 0).pwr.stateReq = some q ∧ (d 0).pwr.mode = 0 ∧ (d 0).quiet = true ∧
        (d 0).pwr.wakeAt = none ∧ (d 0).gpioWake = false ∧ (d 0).is R.CAL_STATUS_BUSYT = false ∧ (d 0).is R.CAL_STATUS_BUSYA = false ∧
        set (d 0) = [] ∧ set (d 0xFFF) = List.range 12 ∧ { q with done := true }.done = true) := by decide +kernel

/-- An edge 6059 µs after the last is a glitch, one after 6060 or 25000 µs counts, one after 25001 µs is a first edge. -/
theorem witness_VsyncAndHsyncLock :
    let at_ := fun (n : Nat) => { dev [(R.TICK_STATUS_VLOCK, 1)] with
      clock := 100 + n, tick := { TickGen.reset with vsEdge := some 100, vsValid := 1, due := some 7 } }
    ((at_ 0).is R.SYS_STATUS_VDDIOOK = true ∧ (at_ 0).tick.vsEdge = some 100 ∧ 1 ≤ (at_ 0).tick.vsValid) ∧
    (at_ 6059).clock - 100 < 6060 ∧ 6060 ≤ (at_ 6060).clock - 100 ∧ (at_ 25000).clock - 100 ≤ 25000 ∧ 25000 < (at_ 25001).clock - 100 ∧
    100 + 25000 ≤ (at_ 25000).clock ∧ (at_ 25000).tick.due = some 7 ∧
    (let d := { dev [(R.TICK_CTRL_RATIO, 1)] with clock := 25000, tick := { TickGen.reset with vsEdge := some 0, vper := 16667 } };
      d.tick.due = none ∧ 0 < d.vsyncSpacing) ∧
    (dev []).tick.vsEdge = none ∧ (0 < 1 ∧ 3072 ≤ 3072 ∧ 3072 < 3073) := by decide +kernel

/-- A period of 6059 µs lies below MINPER; one of 50000 µs below the cluster's shortest. -/
theorem witness_TickRegisterWrites :
    let d := dev [(R.TICK_BUDGET_MINPER, 6060)]
    (999#32).toNat % 65536 < 1000 ∧ 50000 < (50001#32).toNat % 65536 ∧
    (1000 ≤ (6059#32).toNat % 65536 ∧ (6059#32).toNat % 65536 < d.get R.TICK_BUDGET_MINPER) ∧
    (d.get R.TICK_BUDGET_MINPER ≤ (6060#32).toNat % 65536 ∧ (50000#32).toNat % 65536 ≤ 50000 ∧ d.clLead = false) ∧
    (let e := dev [(R.CL_CTRL_ROLE, 1), (R.CL_STATUS_ENUM, 1), (R.SYS_STATUS_STATE, 3), (R.CL_PERIOD_PERIOD, 50001)];
      e.clLead = true ∧ e.st = stRunning ∧ (50000#32).toNat % 65536 < e.get R.CL_PERIOD_PERIOD) ∧
    planValid 1 = true ∧ planValid 0xFF = false := by decide +kernel

theorem witness_StagedValues : (dev [(R.SYS_STATUS_STATE, 3)]).ticking = true ∧ (dev []).ticking = false := by decide +kernel

/-- What each phase of a frame asks for, the phase next to run. -/
theorem witness_FrameMeasurementsAreTaken :
    (let f := { frame with listened := false }; (acquiring f []).acq.now = some f ∧ f.listened = false ∧ (acquiring f []).cal.touch = none) ∧
    (let d := acquiring frame []; d.acq.now = some frame ∧ frame.listened = true ∧ d.clMember = false ∧ d.acq.listen.length ≤ 16 ∧
      d.acq.listen = []) ∧
    (let e := dev [(R.HOP_TABLE_FREQ 7, 60000), (R.HOP_TABLE_FREQ 0, 4000)];
      [(0, true, ([] : List Int))] ≠ [] ∧ (∀ x ∈ [(0, true, ([] : List Int))], x.2.1 = true) ∧
      4000 ≤ e.get (R.HOP_TABLE_FREQ 0) ∧ e.get (R.HOP_TABLE_FREQ 7) ≤ 60000) ∧
    (let f := { frame with mutDone := false, order := [1] };
      let d := acquiring f [];
      d.nextPhase f = some 1 ∧ f.mutDone = false ∧ d.enumerated = false ∧ d.tick.lastTick + d.tick.spacing < d.clock + 150) ∧
    (let f := { frame with order := [1] };
      f.retryTime = true ∧ f.noRetry = false ∧ f.nretry < (acquiring f [(R.ACQ_AFE_RETRY, 1)]).get R.ACQ_AFE_RETRY ∧ f.ask = 3 :: [] ∧ f.exch = none) ∧
    (let f := { frame with selfScan := true, order := [2] }; (acquiring f []).nextPhase f = some 2) ∧
    (let f := { frame with approach := true, order := [3] };
      let d := acquiring f [];
      let w : OptWord := List.replicate 13 (1, 1);
      d.nextPhase f = some 3 ∧ f.approach = true ∧ d.domOn 11 = true ∧ [w] ≠ [] ∧ [w, w, w, w].length ≤ 4 ∧ w.length = 13 ∧
        d.wordBad (onOff w) = false) := by decide +kernel

theorem witness_FrameEndsAndIsProcessed :
    let clean := fun (d : Dev) (f : Frame) => d.acq.now = some f ∧ f.ovl = none ∧ f.lovl = none ∧ f.ncorr = 0 ∧ f.nretry ≤ 4 ∧
      d.clLead = false ∧ d.st ≠ stHalted ∧ d.flt.due = []
    (let f := { frame with ask := [], order := [1] }; clean (acquiring f []) f ∧ (acquiring f []).frameComplete f = true) ∧
    (let f := { frame with mutDone := false, order := [1] };
      clean (acquiring f []) f ∧ (acquiring f []).frameComplete f = false ∧ (acquiring f []).nextPhase f ≠ some 3) ∧
    (let d : Dev := { dev [] with acq := { Acq.reset with ready := [frame] } };
      d.acq.ready = frame :: [] ∧ d.acq.proc = none ∧ d.clLead = false ∧ d.cal.wait = []) ∧
    (let d : Dev := { dev [] with acq := { Acq.reset with proc := some frame } };
      d.acq.proc = some frame ∧ frame.heath = false ∧ d.isMember = false ∧ d.isRunFrame frame = false) := by decide +kernel

/-- A contact in slot 15, LARGE since its DOWN. -/
def contact : Contact :=
  { slot := 15, id := 1, cls := clLarge, reported := true, x := 0, y := 0, qx := 0, qy := 0, first := false, state := 1, z := 0,
    area := 0, major := 0, minor := 0, stale := false, edge := false, prov := false, blob := [], peak := (0, 0), nx := 0, ny := 0,
    downAt := 0, gDown := 0, largeAt := some 0, x0 := 0, y0 := 0, region := none, lost := false, keyIn := false, sole := false,
    leftTap := false, leftHold := false, didHold := false, didSwipe := false, swFar := false, sup := false, renew := false }

/-- Times met at their very µs, and one µs sooner. -/
theorem witness_ReleasesAndFrontEndFaults :
    (let d := fun (rest absorb n : Nat) => ({ dev [(R.IMG_REST_LIMIT, rest), (R.IMG_ABSORB_TIME, absorb)] with
        clock := n, ct := { Ct.reset with contacts := [contact] } } : Dev)
      let due := fun (d : Dev) (secs : Nat) => secs ≠ 0 ∧ 0 + 1000000 * secs ≤ d.clock + d.tick.spacing
      let stuck := fun (d : Dev) => due d (d.get R.IMG_REST_LIMIT)
      let large := fun (d : Dev) => due d (d.get R.IMG_ABSORB_TIME);
      (d 1 1 0).contactAt 15 = some contact ∧ contact.slot = (15 : Fin 16).val ∧ contact.largeAt = some 0 ∧ contact.downAt = 0 ∧
      (d 1 1 0).calHolds = false ∧ (stuck (d 1 2 1000000) ∧ ¬large (d 1 2 1000000)) ∧ (stuck (d 1 1 1000000) ∧ large (d 1 1 1000000)) ∧
      (¬stuck (d 1 1 999999) ∧ ¬large (d 1 1 999999)) ∧ (¬stuck (d 0 0 1000000) ∧ ¬large (d 0 0 1000000)) ∧ (dev []).contactAt 15 = none) ∧
    (let g : Grp := ⟨[0], 0, [], false, false, false⟩;
      ({ Img.reset with groups := [g] } : Img).groups[0]? = some g ∧ g.overlap = false ∧ g.quiet + 5000000 ≤ 5000000 ∧ 4999999 < g.quiet + 5000000 ∧
        { g with overlap := true }.overlap = true) ∧
    (let d := (acquiring { frame with mutDone := false, order := [1] } []).setReg (R.ACQ_ELROLE 49) 1;
      d.elShort 49 = false ∧ d.shortSeen 49 = true ∧ d.shortSeen 0 = false ∧ (d.setReg R.ACQ_SHORTMAP1 0x20000).elShort 49 = true) ∧
    (let d := dev [(R.ACQ_STATUS_LEVELNOW, 3)]; d.domOn 5 = true ∧ d.is R.ACQ_STATUS_LEVELNOW = true) ∧
    (dev []).is R.ACQ_STATUS_LEVELNOW = false ∧ (dev [(domField 5, 0)]).domOn 5 = false := by decide +kernel

theorem witness_TimersExpireAndAreWritten :
    (let d := dev [(R.TM_STAT_RUN 63, 1), (R.TM_CFG_MODE 63, 5), (R.TM_CFG_IE 63, 1)];
      d.is (R.TM_STAT_RUN 63) = true ∧ d.get (R.TM_CFG_MODE 63) = 5 ∧ d.domOn 0 = true ∧ d.is (R.TM_CFG_IE 63) = true) ∧
    (dev []).get (R.TM_CFG_MODE 0) = 0 ∧ (dev []).is (R.TM_STAT_RUN 0) = false ∧ (dev [(R.TM_CFG_MODE 0, 1)]).get (R.TM_CFG_MODE 0) = 1 ∧ (dev [(R.TM_CFG_MODE 0, 2)]).get (R.TM_CFG_MODE 0) = 2 ∧
    (dev [(R.TM_CFG_MODE 0, 3)]).get (R.TM_CFG_MODE 0) = 3 ∧ (dev [(R.TM_CFG_MODE 0, 4)]).get (R.TM_CFG_MODE 0) = 4 := by
  decide +kernel

theorem witness_EdgesPinsAndSwaps :
    (let styp := fun (v : Nat) => v / 2 % 8;
      let snum := fun (v : Nat) => v / 16 % 32;
      (styp 0x50 < 6 ∧ styp 0x50 = 0 ∧ snum 0x50 ≤ 5) ∧ ¬(snum 0x60 ≤ 5) ∧ (styp 0x74 = 2 ∧ snum 0x74 ≤ 7) ∧ ¬(styp 0xC < 6)) ∧
    (let d := dev []; d.is R.SYS_STATUS_VDDIOOK = true ∧ d.wakeSet R.PWR_WAKE_GPIO = 0 ∧ d.pinDrive 5 0 = none ∧
      (32#6).getLsbD 5 = true ∧ (0#6).getLsbD 5 = false) ∧
    (let w := [(R.PWR_WAKE_GPIO, 1), (R.PWR_WAKE_WPINS, 32), (R.PWR_WAKE_WLVL, 32)]
      let d := dev ((R.SYS_STATUS_STATE, stHeath) :: w);
      d.wakeSet R.PWR_WAKE_GPIO ≠ 0 ∧ bitOf (d.wakeSet R.PWR_WAKE_WPINS) 5 = true ∧ bitOf (d.wakeSet R.PWR_WAKE_WLVL) 5 = true ∧ d.st = stHeath ∧
      d.enumerated = false ∧ d.pwr.waking = false ∧ d.pwmRuns 5 = false ∧ d.pinDrive 5 0 = none ∧ (dev w).st ≠ stHeath ∧ (dev w).pwr.stateReq = none) ∧
    (dev [(R.SYS_STATUS_VDDIOOK, 0)]).is R.SYS_STATUS_VDDIOOK = false ∧
    (dev [(R.GPIO_CFG_PWM 4, 1), (R.GPIO_CFG_DIR 4, 1), (R.GPIO_STATUS_SAFE, 0)]).pwmRuns 4 = true ∧
    (dev [(R.GPIO_CFG_PWM 5, 1), (R.GPIO_CFG_DIR 5, 1), (R.GPIO_STATUS_SAFE, 0)]).pwmRuns 5 = true ∧ (dev []).pwmRuns 4 = false ∧
    (let d := { dev [(R.SEQ_STATUS_STATE, 2)] with seq := { Seq.reset with swapWait := some 63 } };
      d.seq.swapWait = some 63 ∧ d.sq ≠ sqIdle) ∧ 62 < 63 := by decide +kernel

/-! ### Witnesses: the host port, exchange RAM and the commands of the ring -/

/-- A device whose host port holds `h`. -/
def port (h : Hp) (l : List (Field × Nat)) : Dev := { dev l with hp := h }

/-- Reads to the end of exchange RAM, with no late byte, one late byte, a pause point at a multiple of 8; held reads. -/
theorem witness_HostReadsReturnBytes :
    let stops := fun (a n : Nat) (late : List Nat) (k : Nat) => k ≠ 0 ∧ k < n ∧ (a + k) % 8 = 0 ∧ k ∈ late
    let free := fun (d : Dev) => d.mem.met = [] ∧ d.mem.single = [] ∧ d.mem.poisoned = []
    (let d := dev [];
      (d.portServes = true ∧ d.hp.queue = [] ∧ d.is R.HP_CFG_NRMODE = false ∧ 0x7FFF + 1 ≤ 0x8000 ∧ d.domOn 1 = true ∧ free d) ∧
      ¬stops 5 9 [4] 4 ∧ stops 5 9 [3, 4] 3 ∧ ∀ j, j < 3 → ¬stops 5 9 [3, 4] j) ∧
    (dev [(R.HP_CFG_NRMODE, 1)]).is R.HP_CFG_NRMODE = true ∧ (∀ j ∈ [9], 9 ≤ j) ∧ (∃ j ∈ [8], j < 9) ∧
    (port { Hp.reset with queue := [(0, [1])] } []).hp.queue ≠ [] ∧ 0 ∈ [0] ∧
    ((dev []).readBounded 0x100000 4 = true ∧ ((dev []).setReg (R.XR_GUAR clHost) 0).readBounded 0 4 = false) ∧
    ([(0, false, 2), (1, false, 2), (0, true, 2), (1, true, 3)] : List (Nat × Bool × Nat)).all (fun x =>
      let h : HeldRead := ⟨5, 9, R.HP_CFG_NRMODE.into 0 x.1, 0, x.2.1⟩
      let e := port { Hp.reset with held := some h } [(domField 7, x.2.2)]
      e.hp.held == some h && e.portRuns && e.hp.queue.isEmpty && h.busy == (x.1 == 1) && h.bound == x.2.1) = true ∧
    (dev []).hp.held = none := by
  decide +kernel

/-- A frame up to the I/O space, one that is ragged there, one unaligned, one too long, a third one; commits of each space. -/
theorem witness_HostWritesCommitInOrder :
    let d := dev []
    (d.portServes = true ∧ d.hp.queue.length < 2 ∧ endsInIo 0x7FFF 1 = false ∧ touchesIo 0x7FFF 1 = false) ∧
    (endsInIo 0x100000 5 = true ∧ 5 % 4 ≠ 0) ∧ (touchesIo 0x100002 4 = true ∧ 0x100002 % 4 ≠ 0 ∧ endsInIo 0x100002 4 = true ∧ 4 % 4 = 0) ∧
    ((List.replicate 1025 (0 : Byte)).length = 1025 ∧ endsInIo 0 1025 = false ∧ touchesIo 0 1025 = false) ∧
    2 ≤ (port { Hp.reset with queue := [(0, [1]), (1, [2])] } []).hp.queue.length ∧
    (let e := port { Hp.reset with queue := [(0x7FFF, [1])] } [];
      e.hp.queue = (0x7FFF, [1]) :: [] ∧ 0x7FFF + 1 ≤ 0x8000 ∧ e.domOn 7 = true ∧ (dev [(domField 7, 3)]).dom 7 = 3 ∧ e.domOn 1 = true ∧
      e.mem.met = [] ∧ e.mem.single = [] ∧ e.mem.poisoned = []) ∧
    (let e := port { Hp.reset with queue := [(0x303FFF, [1])] } [(R.SYS_STATUS_STATE, 1)];
      e.hp.queue = (0x300000 + 0x3FFF, [1]) :: [] ∧ 0x3FFF + 1 ≤ 0x4000 ∧ e.seqOn = true ∧ e.dmemOpen = true ∧
      (dev [(R.SEQ_STATUS_STATE, 1), (R.SYS_STATUS_STATE, 3)]).dmemOpen = false) ∧
    (let e := port { Hp.reset with queue := [(0x10FFFC, [1, 2, 3, 4])] } [];
      e.hp.queue = (0x100000 + 0xFFFC, [1, 2, 3, 4]) :: [] ∧ 0xFFFC < 0x10000 ∧ e.domOn 7 = true) := by decide +kernel

theorem witness_AcknowledgedWrites :
    let d := dev []
    let crc := crc16 ([byte 0, byte 0, byte 8, byte 5, byte 1] ++ [9])
    (d.portServes = true ∧ d.is R.HP_ACK_VALID = false ∧ touchesIo 8 1 = false ∧ endsInIo 8 1 = false ∧ touchesDmem 8 1 = false ∧
      d.hp.queue.length < 2) ∧ crc ≠ crc + 1 ∧
    (let e := dev [(R.HP_ACK_VALID, 1), (R.HP_ACK_SEQ, 5), (R.HP_ACKCRC_CRC, crc.toNat)];
      e.is R.HP_ACK_VALID = true ∧ e.get R.HP_ACK_SEQ = 5 ∧ e.get R.HP_ACKCRC_CRC = crc.toNat) ∧
    (dev [(R.HP_ACKCRC_CRC, (crc + 1).toNat)]).get R.HP_ACKCRC_CRC ≠ crc.toNat ∧
    (touchesIo 0x100002 4 = true ∧ 0x100002 % 4 ≠ 0 ∧ endsInIo 0x100000 5 = true ∧ 5 % 4 ≠ 0 ∧
      2 ≤ (port { Hp.reset with queue := [(0, [1]), (1, [2])] } []).hp.queue.length ∧ touchesDmem 0x300000 1 = true ∧
      (dev [(R.SEQ_STATUS_STATE, 1)]).sq ≠ sqEmpty ∧ (dev [(R.SEQ_STATUS_STATE, 1)]).sq ≠ sqHalted) := by decide +kernel

theorem witness_HostModesAndOpcodes :
    ((dev []).portServes = true ∧ (dev []).is R.HP_STATUS_QUAD = false) ∧
    ((dev [(R.HP_STATUS_QUAD, 1)]).portServes = true ∧ (dev [(R.HP_STATUS_QUAD, 1)]).is R.HP_STATUS_QUAD = true) ∧
    ([0x3D] : List Byte) ≠ [0x3C] ∧
    (let d := dev []; d.st = stBootWait ∧ d.enumerated = false ∧ d.pwr.stateReq = none ∧ d.hp.queue = [] ∧ d.pwr.wakeAt = none ∧
      d.is R.CAL_STATUS_BUSYT = false ∧ d.is R.CAL_STATUS_BUSYA = false ∧ d.st ≠ stHeath ∧ d.pwr.mode ≠ 2) ∧
    (let d := dev [(R.SYS_STATUS_STATE, 3)]; d.portServes = true ∧ d.st = stRunning ∧ d.enumerated = false) ∧
    (let d := dev [(R.SYS_STATUS_STATE, stStopping)]; d.portServes = true ∧ d.st ≠ stRunning ∧ d.st ≠ stReady ∧ d.st ≠ stBootWait) ∧
    (let d := { dev [(domField 7, 0)] with pwr := { Pwr.reset with mode := 2 } };
      d.portUp = true ∧ d.is R.SYS_STRAPS_CHAIN = false ∧ d.pwr.mode = 2 ∧ d.st ≠ stParked) ∧
    (let d := dev [(R.SYS_STATUS_STATE, stHeath)]; d.portServes = true ∧ d.st = stHeath ∧ d.pwr.mode ≠ 2 ∧ d.enumerated = false) := by
  decide +kernel

theorem witness_ChainSegmentsExecute :
    let d := dev [(R.SYS_STRAPS_CHAIN, 1)]
    (d.portUp = true ∧ d.is R.SYS_STRAPS_CHAIN = true ∧ d.domOn 7 = true) ∧ (8 % 4 = 0 ∧ inDmem 8 = false) ∧ 9 % 4 ≠ 0 ∧
    (8 < 0x8000 ∧ d.domOn 1 = true ∧ d.mem.met = [] ∧ d.mem.single = [] ∧ d.mem.poisoned = []) ∧
    (let e := dev [(R.SYS_STRAPS_CHAIN, 1), (R.SEQ_STATUS_STATE, 1)]; inDmem 0x300000 = true ∧ 0x300000 % 4 = 0 ∧ e.sq ≠ sqEmpty ∧ e.sq ≠ sqHalted) ∧
    (let e := dev [(R.SYS_STRAPS_CHAIN, 1), (domField 7, 0)];
      e.portUp = true ∧ e.is R.SYS_STRAPS_CHAIN = true ∧ e.domOn 7 = false ∧ { e.pwr with mode := 2 }.mode = 2 ∧ e.st ≠ stParked) ∧
    (d.st = stBootWait ∧ d.enumerated = false ∧ d.pwr.stateReq = none ∧ d.hp.queue = [] ∧ d.pwr.wakeAt = none ∧ d.hp.held = none ∧
      d.is R.CAL_STATUS_BUSYT = false ∧ d.is R.CAL_STATUS_BUSYA = false ∧ d.st ≠ stHeath ∧ d.pwr.mode ≠ 2) ∧
    (0x3D : Word) ≠ 0x3C ∧
    (let reg := fun (bits : List Bool) => bits.foldl (fun (r : BitVec 64) b => r <<< 1 ||| (if b then 1 else 0)) d.hp.chain
      let msbFirst := fun (r : BitVec 64) => (List.range 64).map (fun i => r.getLsbD (63 - i));
      ((List.replicate 65 true).length % 64 ≠ 0 ∧ (reg (List.replicate 65 false)).extractLsb' 32 24 = 0#24) ∧
      ((List.replicate 64 false ++ msbFirst 0x0100000801234567).length = 128 ∧ 128 % 64 = 0 ∧ reg (msbFirst 0x0100000801234567) = 0x01#8 ++ 8#24 ++ 0x01234567#32) ∧
      reg (List.replicate 64 false) = 0#8 ++ 0#24 ++ 0#32) ∧
    (0x01 : Byte) ∉ ([0x00, 0x02, 0x03, 0x05, 0x9F, 0x99, 0xAB, 0xB9] : List Byte) := by
  decide +kernel

/-- A ring of 256 bytes that fills; rings that may be enabled and that may not. -/
theorem witness_RingIndicesAndEnabling :
    (let d := dev [(R.CQ_CTRL_MODE, 0), (R.CQ_GEOM_SZ, 8), (R.CQ_CI_INDEX, 0xFFF8), (R.CQ_PI_INDEX, 0xFFF8)];
      let far := fun (q : Nat) => (q + 65536 - d.get R.CQ_CI_INDEX) % 65536;
      d.is R.CQ_CTRL_MODE = false ∧ 248 % 8 = 0 ∧ far (d.get R.CQ_PI_INDEX) ≤ far 248 ∧ far 248 = 256 ∧ far 248 ≤ 2 ^ d.get R.CQ_GEOM_SZ ∧
      ¬(far 256 ≤ 2 ^ d.get R.CQ_GEOM_SZ) ∧ 249 % 8 ≠ 0) ∧
    (let d := dev [(R.RQ_CTRL_MODE, 0), (R.RQ_CI_INDEX, 8), (R.RQ_PI_INDEX, 32)];
      d.is R.RQ_CTRL_MODE = false ∧ (32 + 65536 - d.get R.RQ_CI_INDEX) % 65536 ≤ (d.get R.RQ_PI_INDEX + 65536 - d.get R.RQ_CI_INDEX) % 65536 ∧
      ¬((40 + 65536 - d.get R.RQ_CI_INDEX) % 65536 ≤ (d.get R.RQ_PI_INDEX + 65536 - d.get R.RQ_CI_INDEX) % 65536)) ∧
    (dev [(R.CQ_CTRL_MODE, 1)]).is R.CQ_CTRL_MODE = true ∧ (dev [(R.RQ_CTRL_MODE, 1)]).is R.RQ_CTRL_MODE = true ∧
    (let d := dev [(R.CQ_GEOM_BASE, 0), (R.CQ_GEOM_SZ, 12), (R.RQ_GEOM_BASE, 0x1000), (R.RQ_GEOM_SZ, 12)];
      d.st ≠ stHalted ∧ d.is R.CQ_CTRL_EN = false ∧ d.ringCause 0 = none ∧ d.is R.RQ_CTRL_EN = false ∧ d.ringCause 1 = none) ∧
    (dev [(R.CQ_GEOM_SZ, 7)]).ringCause 0 = some 2 ∧ (dev [(R.RQ_GEOM_SZ, 7)]).ringCause 1 = some 2 ∧
    (dev [(R.CQ_CTRL_EN, 1)]).is R.CQ_CTRL_EN = true ∧ (dev []).busyState = false ∧ (0x8000#32).toNat / 256 % 256 ≤ 128 ∧
    (let run := dev [(R.SYS_STATUS_STATE, 3)]
      let fits := fun (d : Dev) (v : Word) => (List.range 2).all (fun b => decide (guarSum (d.guarsStaged.set 6 (v &&& 0x13F3F)) b false ≤ 56) &&
        decide (guarSum (d.guarsStaged.set 6 (v &&& 0x13F3F)) b true ≤ 56) && (guarSum (d.guarsStaged.set 6 (v &&& 0x13F3F)) b false == 0 || d.domOn (1 + b)))
      run.busyState = true ∧ fits run 0x101 = true ∧ fits run 0x3F3F = false ∧ (dev [(R.SYS_STATUS_STATE, 3), (domField 1, 0)]).busyState = true ∧
        fits (dev [(R.SYS_STATUS_STATE, 3), (domField 1, 0)]) 0x101 = false) := by decide +kernel

/-- The bytes of an entry: flags 0, opcode, length in words, TAG 7, SEQ 0, header check, then what follows. -/
def entry (op len : Nat) (rest : List Byte) : List Byte :=
  let h : List Byte := [0, byte op, byte len, 0, 7, 0, 0]
  h ++ [hchk h] ++ rest ++ List.replicate (4 * len - 8 - rest.length) 0

/-- A device with `e` at the front of its command ring, in an open batch. -/
def front (e : List Byte) (l : List (Field × Nat)) : Dev :=
  { dev l with ring := { Ring.reset with established := [e], batch := some ⟨1, 0, 1, 0, 0⟩ } }

/-- Whether the device can execute the entry `e`, of opcode `op` and length `len`, which is at its front. -/
def meetsFront (e : List Byte) (op len : Nat) (d : Dev) : Bool :=
  d.ring.established.head? == some e && d.st != stHalted && d.st != stHeath && d.pwr.mode == 0 && d.ring.fence.isNone &&
    d.ring.batch.isSome && eOp e == op && eLen e == len && !d.sys.inReset

theorem witness_RingEventsAdvance :
    let clean := fun (d : Dev) => d.mem.single = [] ∧ d.mem.poisoned = [] ∧ d.mem.met = []
    (let d := dev [(R.XR_CTRL_SCRUB, 1)];
      d.is R.XR_CTRL_SCRUB = true ∧ d.domOn 1 = true ∧ d.domOn 2 = true ∧ d.pwr.mode ≠ 2 ∧ d.st ≠ stHeath ∧ clean d) ∧
    ((dev [(R.XR_CTRL_SCRUB, 1), (domField 1, 0)]).domOn 1 = false ∧ (dev [(R.XR_CTRL_SCRUB, 1), (domField 1, 0)]).domOn 2 = true ∧
      (dev [(R.XR_CTRL_SCRUB, 0)]).is R.XR_CTRL_SCRUB = false) ∧
    (let d := dev [(R.RQ_CTRL_MODE, 0), (R.CQ_CTRL_MODE, 0)];
      d.is R.RQ_CTRL_MODE = false ∧ clean d ∧ d.cqPolls = false ∧ d.is R.CQ_CTRL_MODE = false ∧ d.get R.CQ_PI_INDEX = d.get R.CQ_CI_INDEX) ∧
    (let e := entry 1 2 [];
      let d := { dev [(R.CQ_CTRL_EN, 1), (R.CQ_CTRL_MODE, 0), (R.RQ_CTRL_EN, 1), (R.CQ_GEOM_SZ, 8), (R.CQ_CI_INDEX, 248), (R.CQ_PI_INDEX, 256),
          (R.SYS_STATUS_STATE, 1)] with
        mem := { Mems.reset with xram := (List.range 8).map (fun i => (248 + i, e.getD i 0)) }
        ring := { Ring.reset with batch := some ⟨1, 0, 1, 0, 0⟩ } };
      let at_ := d.get R.CQ_CI_INDEX % 2 ^ d.get R.CQ_GEOM_SZ;
      d.cqPolls = true ∧ d.is R.CQ_CTRL_MODE = false ∧ (d.get R.CQ_PI_INDEX + 65536 - d.get R.CQ_CI_INDEX) % 65536 = 8 ∧
      at_ + 8 ≤ 2 ^ d.get R.CQ_GEOM_SZ ∧ clean d ∧ d.xbytes (d.get R.CQ_GEOM_BASE + at_) 8 = e ∧
      eOp e = 0x01 ∧ eLen e = 2 ∧ eSeq e = d.get R.CQ_SEQX_SEQ ∧ eFlags e % 64 = 0 ∧ hchk (e.take 7) = e.getD 7 0) ∧
    (let r : Report := ⟨0x20, 0, List.replicate 8 0⟩
      let d := { dev [(R.RQ_CTRL_EN, 1), (R.RQ_CTRL_MODE, 0), (R.RQ_GEOM_SZ, 8)] with ring := { Ring.reset with waiting := [r] } }
      r.typ ≠ 0x80 ∧ d.rqRuns = true ∧ d.is R.RQ_CTRL_MODE = false ∧ d.ring.coal.overflow = false ∧ d.ring.waiting = [r] ∧ d.rqCan r = true ∧
        d.get R.RQ_PI_INDEX % 8 = 0 ∧ 3 ≤ d.get R.RQ_GEOM_SZ ∧ (dev []).rqRuns = false) ∧
    (let d := fun (n : Nat) => ({ dev [(R.RQ_WM_TMO, 1), (R.RQ_WM_LEVEL, 25)] with clock := n, ring := { Ring.reset with unread := [(24, 0)] } } : Dev);
      (d 0).get R.RQ_WM_TMO ≠ 0 ∧ (d 0).ring.unread = (24, 0) :: [] ∧ 0 + (d 0).get R.RQ_WM_TMO ≤ (d 1).clock ∧
        (d 0).clock < 0 + (d 0).get R.RQ_WM_TMO ∧ (d 0).rqUnread < (d 0).get R.RQ_WM_LEVEL ∧ (d 0).is R.RQ_STATUS_COAL = false) := by
  decide +kernel

theorem witness_RingCommandsEnd :
    ([0, 1] : List Nat).all (fun op => meetsFront (entry op 2 []) op 2 (front (entry op 2 []) [])) = true ∧
    (let e := entry 1 2 []; bitOf (eFlags e) 6 = false ∧ (front e [(R.CQ_CTRL_MODE, 0)]).is R.CQ_CTRL_MODE = false) ∧
    ([0x10, 0x11, 0x12, 0x20, 0x21, 0x22, 0x40, 0x50, 0x60, 0x90, 0x91, 0x92, 0xF0] : List Nat).all
      (fun op => meetsFront (entry op 5 []) op 5 (front (entry op 5 []) [])) = true ∧
    (let e := entry 0x10 5 []
      let d := { front e [(R.RQ_CTRL_EN, 1), (R.CQ_CTRL_MODE, 0), (R.RQ_GEOM_SZ, 8)] with ring := { Ring.reset with established := [e] } }
      d.rqRuns = true ∧ d.ring.batch = none ∧ d.reserveOk = true ∧ d.is R.CQ_CTRL_MODE = false ∧
        d.get R.RQ_PI_INDEX % d.rqSize + 16 ≤ d.rqSize) ∧
    (let e := entry 0xF0 4 [1]; meetsFront e 0xF0 4 (front e []) = true ∧ (front e []).ring.asyncs = [] ∧ (front e []).ring.waiting = [] ∧
      bitOf (eAt e 8 1) 0 = true ∧ (front e []).ticking = false ∧ (front e [(R.SYS_STATUS_STATE, 3)]).ticking = true) ∧
    (let f : Fence := ⟨0, 16, true, 5, 0⟩
      let r := { Ring.reset with fence := some f };
      r.fence = some f ∧ r.asyncs = [] ∧ r.waiting = [] ∧ { r with asyncs := [⟨0x10, 0, 0, 0, 0⟩] }.asyncs ≠ [] ∧ f.atTick = true ∧
        f.timeout ≠ 0 ∧ f.from_ + 1000 * f.timeout ≤ 5000 ∧ 4999 < f.from_ + 1000 * f.timeout) := by
  decide +kernel

theorem witness_ProgramAndCalibrationCommands :
    let clean := fun (d : Dev) => d.mem.single = [] ∧ d.mem.poisoned = [] ∧ d.mem.met = []
    (let e := entry 0x10 4 [0, 0, 0, 0, 64];
      let d := front e [];
      meetsFront e 0x10 4 d = true ∧ 64 ≤ eAt e 12 4 ∧ eAt e 12 4 ≤ 33360 ∧ d.areaValid (eAt e 8 2) (eAt e 12 4) = true ∧
        clean d ∧ d.seqOn = true) ∧
    (let e := entry 0x12 2 [];
      let im : Image := ⟨List.replicate 64 0, [], [], 64⟩
      let c := fun (st : Nat) => front e [(R.SYS_STATUS_STATE, st), (R.SEQ_STATUS_SLOADED, 1), (R.SEQ_STATUS_SVERIFIED, 1)];
      let d := fun (st : Nat) => ({ c st with seq := { Seq.reset with shadow := some im } } : Dev);
      meetsFront e 0x12 2 (d 3) = true ∧ (d 3).asyncsOf 0x12 = [] ∧ (d 3).seq.swapWait = none ∧ (d 3).swapCause false = none ∧
        (d 3).st = stRunning ∧ (d 1).swapCause false = none ∧ (d 1).st ≠ stRunning ∧ (d 1).seq.shadow = some im ∧
        (c 3).swapCause false = some (1, 0) ∧ { (c 3).seq with swapWait := some 0 }.swapWait.isSome = true) ∧
    (let e := entry 0x11 2 []
      let im : Image := ⟨List.replicate 64 0, [], [], 64⟩
      let c := front e [(R.SEQ_STATUS_SLOADED, 1)];
      let d := { c with seq := { Seq.reset with shadow := some im } };
      meetsFront e 0x11 2 d = true ∧ d.seq.shadow = some im ∧ d.is R.SEQ_STATUS_SLOADED = true ∧ d.seqOn = true ∧ d.hp.queue = [] ∧
        c.seq.shadow = none) ∧
    ([0, 3] : List Nat).all (fun k =>
      let e := entry 0x20 3 [byte k];
      let d := front e [(R.SYS_STATUS_STATE, 3)];
      meetsFront e 0x20 3 d && (d.taken.started e k).calRefusal k == none && eAt e 8 1 % 4 == k) = true ∧
    (let e := entry 0x20 3 []; ((front e []).taken.started e 0).calRefusal (eAt e 8 1 % 4) = some 1) ∧
    (let e := entry 0x21 4 [0, 0, 0, 1];
      let d := front e [(R.CQ_CTRL_MODE, 0)];
      meetsFront e 0x21 4 d = true ∧ d.areaValid (eAt e 8 2) (eAt e 10 2) = true ∧ d.taken.calImage.length ≤ eAt e 10 2 ∧ clean d ∧
        d.is R.CQ_CTRL_MODE = false ∧ bitOf (eFlags e) 6 = false) := by
  decide +kernel

/-- An image of one erased word, whose CRC-32 is right, and a host write to the last byte of its bank's window. -/
theorem witness_progVerify_changed :
    let im : Image := ⟨[0x31, 0x5A, 0x44, 0x4F, 1, 0, 64, 0, 1, 0, 0, 0] ++ leBytes 4 1312789704 ++ [0, 0] ++ List.replicate 8 0xFF ++
      List.replicate 38 0, [], [], 68⟩
    let e := entry 0x11 2 []
    let c := front e [(R.SEQ_STATUS_SLOADED, 1)]
    let d := { c with seq := { Seq.reset with shadow := some im }, hp := { Hp.reset with queue := [(0x207FFF, [1])] } }
    meetsFront e 0x11 2 d = true ∧ d.seq.shadow = some im ∧ d.is R.SEQ_STATUS_SLOADED = true ∧ d.seqOn = true ∧
      d.hp.queue = (0x207FFF, [1]) :: [] ∧ d.domOn 7 = true ∧ (d.verify im d.shadowBank).1 = 0 ∧
      0x200000 ≤ 0x207FFF ∧ 0x207FFF + 1 ≤ 0x208000 := by decide +kernel

set_option maxRecDepth 20000 in
theorem witness_calLoad :
    (let e := entry 0x22 4 [0, 0, 0, 1];
      let c := front e [];
      let d := c.xwriteClean 0 0 c.calImage;
      meetsFront e 0x22 4 d = true ∧ d.areaValid (eAt e 8 2) (eAt e 10 2) = true ∧ d.is R.CAL_STATUS_BUSYT = false ∧
        d.mem.single = [] ∧ d.mem.poisoned = [] ∧ d.mem.met = [] ∧ d.taken.calImageBad (d.xbytes (eAt e 8 2) (eAt e 10 2)) = none ∧
        (c.taken.calImageBad (c.xbytes (eAt e 8 2) (eAt e 10 2))).isSome = true) := by decide +kernel

theorem witness_DataCommands :
    let clean := fun (d : Dev) => d.mem.single = [] ∧ d.mem.poisoned = [] ∧ d.mem.met = []
    (let e := entry 0x30 7 [31, 1];
      let d := front e [];
      meetsFront e 0x30 (4 + 3 * 1) d = true ∧ eAt e 9 1 = 1 ∧ eAt e 8 1 + 1 ≤ 32 ∧ d.regReachable (R.CT_RGX 0) = true ∧
      (regionsOf e).all (fun r => d.taken.regionCause r.2.1 r.2.2.1 r.2.2.2 == none) = true) ∧
    (let e := entry 0x30 7 ([31, 1] ++ List.replicate 10 0 ++ List.replicate 12 255);
      meetsFront e 0x30 (4 + 3 * 1) (front e []) = true ∧ eAt e 9 1 = 1 ∧ eAt e 8 1 + 1 ≤ 32 ∧
      (regionsOf e).any (fun r => (front e []).taken.regionCause r.2.1 r.2.2.1 r.2.2.2 != none) = true) ∧
    (let e := entry 0x31 5 [1, 0, 0, 0, 0, 0, 0, 0, 63];
      meetsFront e 0x31 (4 + 1) (front e []) = true ∧ eAt e 8 1 = 1 ∧ (front e []).ticking = false ∧
      (front e [(R.SYS_STATUS_STATE, 3)]).ticking = true ∧
      ((bindingsOf e).map (·.1)).Nodup ∧ (bindingsOf e).map (·.1) = [63] ∧ ∀ b ∈ bindingsOf e, b.1 ≤ 63) ∧
    (let e := entry 0x40 10 []; meetsFront e 0x40 10 (front e []) = true ∧ (front e []).regReachable (R.HOP_TABLE 0) = true ∧
      (front e []).busyState = false) ∧
    (let e := entry 0x50 3 [5, 1];
      let d := front e [(R.SYS_STATUS_STATE, 3)];
      meetsFront e 0x50 3 d = true ∧ d.st = stRunning ∧ d.asyncsOf 0x50 = [] ∧ eAt e 8 1 ≤ 5 ∧ eAt e 9 1 ≠ 0 ∧ (front e []).st ≠ stRunning) ∧
    (let e := entry 0x60 6 [];
      let d := front e [];
      meetsFront e 0x60 6 d = true ∧ xferBad e = none ∧ d.areaValid (eAt e 20 2) (eAt e 14 2) = true ∧ d.seq.bootFrom = none ∧
        d.pp.queue.length < 16 ∧ d.domOn 9 = true ∧ clean d ∧ xferBad (entry 0x60 6 [255, 255, 255, 255, 255, 255]) ≠ none) ∧
    (let e := entry 0x90 3 [31, 1]; meetsFront e 0x90 3 (front e []) = true ∧ (front e []).asyncsOf 0x90 = [] ∧ eAt e 9 1 ≠ 0 ∧
      eAt e 8 1 + eAt e 9 1 ≤ 32) ∧
    (let e := entry 0x91 3 [0, 0, 160]; meetsFront e 0x91 3 (front e [(R.CQ_CTRL_MODE, 0)]) = true ∧ 160 ≤ eAt e 10 2 ∧
      (front e []).areaValid (eAt e 8 2) (eAt e 10 2) = true ∧ clean (front e []) ∧ (front e [(R.CQ_CTRL_MODE, 0)]).is R.CQ_CTRL_MODE = false ∧
      bitOf (eFlags e) 6 = false) ∧
    (let e := entry 0x92 3 [255, 255, 255, 255]; meetsFront e 0x92 3 (front e []) = true ∧ bitOf (eAt e 8 4) 7 = true ∧
      (front e []).regReachable R.HP_COUNTS = true) ∧
    (let e := entry 0xA0 4 [];
      let d := front e [(R.SEQ_STATUS_STATE, 1), (R.CQ_CTRL_MODE, 0)];
      meetsFront e 0xA0 (3 + 1) d = true ∧ d.seqOn = true ∧ d.sq ≠ sqEmpty ∧ d.sq ≠ sqHalted ∧ bitOf (d.get R.SEQ_EVPEND_EV) 1 = false ∧
        d.areaValid (eAt e 8 2) (4 * 1) = true ∧ clean d ∧ d.is R.CQ_CTRL_MODE = false ∧ bitOf (eFlags e) 6 = false ∧
        e.length = 12 + 4 * 1 ∧ (front e []).sq = sqEmpty) := by
  dsimp only; refine ⟨?_, ?_, ?_, ?_, ?_, ?_⟩ <;> decide +kernel

set_option maxRecDepth 20000 in
theorem witness_PowerAndClusterCommands :
    let calm := fun (d : Dev) => d.is R.CAL_STATUS_BUSYT = false ∧ d.is R.CAL_STATUS_BUSYA = false
    ([0, 1, 2, 3] : List Nat).all (fun act =>
      let e := entry 0x70 4 [byte act]
      let d := front e []
      let x := front e [(R.SYS_STATUS_STATE, stStopping)]
      meetsFront e 0x70 4 d && d.st == stBootWait && (d.asyncsOf 0x70).isEmpty && d.pwr.stateReq.isNone && eAt e 8 1 == act &&
      eAt e 10 2 == 0 && eAt e 12 2 == 0 &&
      meetsFront e 0x70 4 x && x.st != stBootWait && x.st != stReady && x.st != stRunning) = true ∧
    (let e := entry 0x70 4 [0, 0, 0, 8, 16];
      let d := front e [(domField 11, 0)];
      meetsFront e 0x70 4 d = true ∧ calm d ∧ eAt e 10 2 &&& eAt e 12 2 = 0 ∧ bitOf (eAt e 10 2) 11 = true ∧ d.dom 11 = 0 ∧
        bitOf (eAt e 12 2) 4 = true ∧ (d.taken.started e 0).domInUse 4 = none ∧ d.dom 4 = 2 ∧ d.is R.FLT_TEMPST_CRIT = false) ∧
    (let e := entry 0x70 4 [1];
      let d := front e [(R.SYS_STATUS_STATE, 3)];
      meetsFront e 0x70 4 d = true ∧ d.st = stRunning ∧ d.clMember = false ∧ d.heathBank = none ∧ (d.taken.started e 0).heathFits = true) ∧
    (let d := front (entry 0x70 4 [2]) []; d.enumerated = false ∧ d.hp.queue = [] ∧ d.pwr.wakeAt = none ∧ d.hp.held = none ∧ calm d) ∧
    (let e := entry 0x80 4 [0, 7];
      let d := front e [(R.SYS_STATUS_STATE, 1), (R.CL_CTRL_ROLE, 1), (R.CL_STATUS_LINK, 1)];
      meetsFront e 0x80 4 d = true ∧ d.st = stReady ∧ d.clMember = false ∧ d.asyncsOf 0x80 = [] ∧ eAt e 8 1 = 0 ∧ 0 < eAt e 9 1 ∧
        eAt e 9 1 ≤ 7 ∧ d.isLead = true ∧ d.enumerated = false ∧ d.domOn 8 = true ∧ d.is R.CL_STATUS_LINK = true) ∧
    (let e := entry 0x80 4 [1];
      let d := front e [(R.SYS_STATUS_STATE, 1), (R.CL_CTRL_ROLE, 1), (R.CL_STATUS_ENUM, 1)];
      meetsFront e 0x80 4 d = true ∧ eAt e 8 1 = 1 ∧ eAt e 9 1 = 0 ∧ d.clLead = true ∧ d.st = stReady ∧ d.clMember = false ∧
      (front e [(R.SYS_STATUS_STATE, 1), (R.CL_CTRL_ROLE, 2), (R.CL_STATUS_ENUM, 1)]).clMember = true) := by decide +kernel

/-! ### Witnesses: image chain, side blocks, power, faults, cluster ring, register access -/

/-- A device with 32 columns, 18 rows and a verified image: one that passes the consistency check. -/
def panel (l : List (Field × Nat)) : Dev :=
  let d := dev l
  { d with
    regs := d.regs.filter (·.1 < 0x500) ++ (List.range 32).map (fun n => (R.ACQ_ELROLE n, BitVec.ofNat 32 (2 + 16 * n))) ++
      (List.range 18).map (fun n => (R.ACQ_ELROLE (32 + n), BitVec.ofNat 32 (1 + 16 * n))) ++
      [(R.ACQ_ELSUM, 0x01001220), (R.ACQ_DRANGE, 0x110000), (R.CT_CTRL, 0x30), (R.SEQ_STATUS, 0x89)] ++ d.regs.filter (0x2004 < ·.1)
    seq := { Seq.reset with active := some ⟨[0x31, 0x5A, 0x44, 0x4F, 1, 0, 64, 0, 21, 0, 0, 0, 0, 0, 0, 0, 20, 0] ++
      List.replicate 8 0xFF ++ List.replicate 38 0, [], [], 0⟩ } }

set_option maxRecDepth 20000 in
theorem witness_RunStartsTheCheck :
    (let d := dev [(R.SYS_STATUS_STATE, 1)];
      d.clMember = false ∧ d.clLead = false ∧ d.pwr.mode ≠ 2 ∧ d.pwr.stateReq = none ∧ d.st = stReady ∧
      ({ d with pwr := { Pwr.reset with stateReq := some ⟨2, none, true, true⟩ } } : Dev).pwr.stateReq.isSome = true) ∧
    (let d := dev [(R.SYS_STATUS_STATE, 1), (R.CL_CTRL_ROLE, 1), (R.CL_STATUS_ENUM, 1)];
      d.clMember = false ∧ d.clLead = true ∧ d.domOn 8 = true ∧ d.pwr.mode ≠ 2 ∧ d.st = stReady) ∧
    (let d := dev [(R.SEQ_STATUS_ENTRY, 1)];
      d.clMember = false ∧ d.pwr.mode ≠ 2 ∧ d.st = stBootWait ∧ d.get R.SEQ_STATUS_ENTRY = 1) ∧
    ((dev [(R.SYS_STATUS_STATE, 3)]).st ≠ stReady ∧ (dev [(R.SYS_STATUS_STATE, 3)]).st ≠ stBootWait) ∧
    (let d := panel [(R.SYS_STATUS_STATE, 2)]; d.st = stChecking ∧ d.checkCause = none ∧ d.clMember = false ∧ d.pwr.domReqs = []) ∧
    (let d := dev [(R.SYS_STATUS_STATE, 2)]; d.st = stChecking ∧ d.checkCause = some (1, 0) ∧ d.pwr.domReqs = []) := by decide +kernel

/-- Writes of the image chain and of the scans outside the running states and in them, at the last region, electrode and
hop entry. -/
theorem witness_ImageAndAcquisitionWrites :
    let d := dev []
    let run := fun (l : List (Field × Nat)) => dev ((R.SYS_STATUS_STATE, 3) :: l)
    (d.regReachable R.IMG_CMD = true ∧ d.get R.IMG_STATUS_SWSTATE ≠ 1 ∧ d.is R.CAL_STATUS_BUSYT = false ∧ d.calQuiet) ∧
    (let e := run [(R.CAL_STATUS_BUSYT, 1)];
      e.regReachable R.IMG_CMD = true ∧ e.get R.IMG_STATUS_SWSTATE ≠ 1 ∧ e.is R.CAL_STATUS_BUSYT = true ∧ e.calQuiet) ∧
    (dev [(R.IMG_STATUS_SWSTATE, 1)]).get R.IMG_STATUS_SWSTATE = 1 ∧ d.regReachable R.CT_CMD = true ∧
    (d.regReachable R.CT_CTRL = true ∧ d.busyState = false ∧ R.CT_CTRL_GORSE.of (R.CT_CTRL_GORSE.into 0 3) = 3) ∧
    (let e := run [(R.CT_CTRL_GORSE, 0), (R.CT_CTRL_LARK, 0)];
      e.regReachable R.CT_CTRL = true ∧ e.busyState = true ∧ e.get R.CT_CTRL_GORSE = 0 ∧ e.is R.CT_CTRL_LARK = false ∧
      R.CT_CTRL_GORSE.of (R.CT_CTRL_GORSE.into 0 2) = 2 ∧ R.CT_CTRL_LARK.of (R.CT_CTRL_LARK.into 0 1) = 1 ∧
      R.CT_CTRL_GORSE.of (0 : Word) = 0 ∧ R.CT_CTRL_LARK.of (0 : Word) = 0) ∧
    (let drv := R.ACQ_DRV_VMAX.into 0 2
      let low := R.ACQ_DRV_LEVEL.into drv 2
      let high := R.ACQ_DRV_LEVEL.into drv 3;
      d.regReachable R.ACQ_DRV = true ∧ R.ACQ_DRV_LEVEL.of low ≤ R.ACQ_DRV_VMAX.of low ∧ R.ACQ_DRV_VMAX.of high < R.ACQ_DRV_LEVEL.of high) ∧
    (let box := fun (hi en : Nat) => dev [(R.SYS_STATUS_STATE, 3), (R.CT_RGC_EN 31, en), (R.CT_RGX_LO 31, 0), (R.CT_RGX_HI 31, hi),
        (R.CT_RGY_LO 31, 0), (R.CT_RGY_HI 31, 0), (R.ACQ_ORIENT_SWAPXY, 0)];
      (box 0 0).regReachable (regionReg 2 31) = true ∧ (box 0 0).busyState = true ∧ d.busyState = false ∧
      (R.CT_RGC_EN 31).of ((R.CT_RGC_EN 31).into 0 1) = 1 ∧ (box 0 0).extX < (R.CT_RGX_HI 31).of ((R.CT_RGX_HI 31).into 0 65535)) ∧
    (d.regReachable (R.ACQ_ELROLE 49) = true ∧ d.regReachable R.ACQ_GEOMX = true ∧ d.regReachable R.ACQ_GEOMY = true) ∧
    (let e := run [(R.HOP_TABLE_EN 7, 1)]
      let all := fun (v : Word) => e.tableOk ((List.range 8).map (fun g => if g = 7 then v &&& 0x1FFFF else e.viewReg (R.HOP_TABLE g)));
      e.regReachable (R.HOP_TABLE 7) = true ∧ e.busyState = true ∧ all 0xFFFFFFFF = false ∧ all (e.viewReg (R.HOP_TABLE 7)) = e.tableOk ((List.range 8).map (fun g => e.viewReg (R.HOP_TABLE g)))) ∧
    (d.reached R.HOP_FORCE ∧ d.clMember = false ∧ (dev [(R.HOP_TABLE_EN 7, 0)]).hopEn 7 = false) ∧
    (let e := dev [(R.HOP_TABLE_EN 7, 1), (R.HOP_STATUS_CUR, 0)]; e.reached R.HOP_FORCE ∧ e.hopEn 7 = true ∧ e.get R.HOP_STATUS_CUR ≠ 7) ∧
    (let e := dev [(R.HOP_TABLE_EN 7, 1), (R.HOP_STATUS_CUR, 7)]; e.reached R.HOP_FORCE ∧ e.hopEn 7 = true ∧ e.get R.HOP_STATUS_CUR = 7) ∧
    (dev [(R.SYS_STATUS_STATE, 1), (R.CL_CTRL_ROLE, 2), (R.CL_STATUS_ENUM, 1)]).clMember = true := by
  delta Dev.calQuiet Dev.reached; decide +kernel

/-- A converter with one early output before its first settled one, at the very µs at which each ends; the trigger from each
source; bounds of a window that just fit. -/
theorem witness_ConvertersWindowsAndApproach :
    let d := dev [(R.AUX_SYNC_SRC, 0)]
    let two := fun (d : Dev) => d.auxOn = true ∧ d.aux.conv.length = 2
    let conv := fun (c : Conv) (clock : Nat) (l : List (Field × Nat)) =>
      ({ dev ([(R.AX_CFG_EN 1, 1), (R.AX_STAT_RUN 1, 1)] ++ l) with clock := clock, aux := { Aux.reset with conv := [Aux.reset.conv.getD 0 c, c] } } : Dev)
    let ends := fun (d : Dev) => (d.conv 1).endAt ((d.conv 1).next.2.1 + (d.conv 1).next.2.2 - 1)
    let c : Conv := ⟨1 + 4, 1024 * 65536 + 4, 0, 0, 0, false, (none, none), (none, none), none⟩
    (d.domOn 11 = true ∧ two d ∧ d.get R.AUX_SYNC_SRC = 0) ∧ (dev [(R.AUX_SYNC_SRC, 1)]).get R.AUX_SYNC_SRC ≠ 0 ∧
    (let e := dev [(R.AUX_SYNC_SRC, 2), (R.AUX_SYNC_GPIN, 5), (R.AUX_SYNC_GEDGE, 3)];
      two e ∧ e.get R.AUX_SYNC_SRC = 2 ∧ e.get R.AUX_SYNC_GPIN = 5 ∧ bitOf (e.get R.AUX_SYNC_GEDGE) 0 = true ∧ bitOf (e.get R.AUX_SYNC_GEDGE) 1 = true) ∧
    (let e := { dev [(R.AUX_SYNC_SRC, 1)] with clock := 9, aux := { Aux.reset with tickDue := [10, 9] } };
      two e ∧ e.aux.tickDue.find? (fun t => decide (t ≤ e.clock)) = some 9 ∧ e.get R.AUX_SYNC_SRC = 1 ∧
      (dev [(R.AUX_SYNC_SRC, 2)]).get R.AUX_SYNC_SRC ≠ 1 ∧ ∀ t ∈ e.aux.tickDue, { e with clock := 8 }.clock < t) ∧
    (two d ∧ d.occupied 1 = false ∧ d.is (R.AX_CFG_EN 1) = false ∧ (15 * 256) / 256 % 16 = 15 ∧ (14 * 256) / 256 % 16 = 14 ∧
      (conv { c with calNext := some (5, 6, true) } 0 []).aux.conv.length = 2 ∧
      ((conv { c with calNext := some (5, 6, true) } 0 []).conv 1).calNext = some (5, 6, true)) ∧
    (let e := { dev [(R.CAL_STATUS_BUSYA, 1)] with cal := { Cal.reset with aux := some ⟨2, 0, [], none⟩ } };
      two e ∧ e.occupied 1 = true ∧ e.calQuiet) ∧
    ((dev [(R.AX_CFG_EN 1, 1)]).is (R.AX_CFG_EN 1) = true ∧ (dev [(R.AX_CFG_EN 1, 1)]).auxOn = true ∧ (1#32).getLsbD 0 = true) ∧
    (31 < 32 ∧ 16384 < 16385 ∧ (32 * 65536) / 65536 % 32768 = 32 ∧ (16384 * 65536) / 65536 % 32768 = 16384) ∧
    ([c, { c with early := 1 }, { c with cfg := 1 }, { c with cfg := 1 + 13 * 256 }, { c with cfg := 1 + 13 * 256, tcap := true }].all (fun c =>
      let e := conv c 0 [(R.SYS_STATUS_STATE, 1)]
      let at_ := fun (k : Nat) => conv c k [(R.SYS_STATUS_STATE, 1)]
      two (at_ (ends e)) && (at_ (ends e)).occupied 1 == false && (at_ (ends e)).is (R.AX_CFG_EN 1) && (at_ (ends e)).is (R.AX_STAT_RUN 1) &&
      decide (ends (at_ (ends e)) ≤ (at_ (ends e)).clock ∧ (at_ (ends e - 1)).clock < ends (at_ (ends e - 1))))) = true ∧
    (c.next.1 = true ∧ { c with early := 1 }.next.1 = false ∧ { c with cfg := 1 }.next.1 = false ∧ c.chan ≠ 13 ∧ { c with cfg := 1 + 13 * 256 }.chan = 13 ∧
      bitOf c.cfg 4 = false ∧ (∀ k, k < 8 → (conv c 0 []).is (R.WC_CFG_EN k) = false) ∧ (conv c 0 [(R.SYS_STATUS_STATE, 1)]).tcapOk = true) ∧
    (let w := fun (hi : Nat) => dev [(R.WC_LO_BOUND 7, 1), (R.WC_HYS_HYS 7, 2), (R.WC_HI_BOUND 7, hi)]
      let fits := fun (d : Dev) => d.getS (R.WC_LO_BOUND 7) + d.get (R.WC_HYS_HYS 7) ≤ d.getS (R.WC_HI_BOUND 7) - d.get (R.WC_HYS_HYS 7);
      (w 5).auxOn = true ∧ fits (w 5) ∧ ¬fits (w 4) ∧ 0x100 / 4096 % 16 ≠ 15 ∧ 0x100 / 256 % 16 ≠ 0) := by
  delta Dev.calQuiet; decide +kernel

/-- Runs that start and that are refused by each cause; results of one converter at the limits and just beyond them. -/
theorem witness_CalibrationCommandsByRegister :
    (let d := dev [(R.SYS_STATUS_STATE, 3)];
      d.reached R.CAL_CMD ∧ d.st = stRunning ∧ d.is R.CAL_STATUS_BUSYT = false ∧ d.isMember = false ∧ d.is R.CAL_STATUS_BUSYA = false ∧
        d.auxOn = true) ∧
    (let d := dev [];
      d.reached R.CAL_CMD ∧ d.st ≠ stRunning ∧ d.busyState = false ∧ d.is R.CAL_STATUS_BUSYT = false ∧ d.is R.CAL_STATUS_BUSYA = false ∧
        d.calQuiet ∧ d.cal.aux = none) ∧
    (let d := dev [(R.SYS_STATUS_STATE, 3), (R.CL_CTRL_ROLE, 2), (R.CL_STATUS_ENUM, 1)];
      d.reached R.CAL_CMD ∧ d.st = stRunning ∧ d.is R.CAL_STATUS_BUSYT = false ∧ d.isMember = true) ∧
    (let d := dev [(domField 10, 0)]; d.reached R.CAL_CMD ∧ d.is R.CAL_STATUS_BUSYA = false ∧ d.auxOn = false) ∧
    (let d := { dev [(R.SYS_STATUS_STATE, 3), (R.CAL_STATUS_BUSYA, 1), (R.CAL_STATUS_BUSYT, 1)] with cal := { Cal.reset with aux := some ⟨1, 0, [], none⟩ } };
      d.reached R.CAL_CMD ∧ d.is R.CAL_STATUS_BUSYA = true ∧ d.is R.CAL_STATUS_BUSYT = true ∧ d.cal.aux.isSome = true ∧ d.calQuiet ∧ d.busyState = true ∧
      d.aux.conv.all (fun x => x.calNext.isNone) = true) ∧
    (let r : CalAux := ⟨1, 64, [], none⟩; r.sel = 1 ∧ bitOf r.cfg 6 = true ∧ r.raw = [] ∧ r.ovr = none ∧
      ({ Cal.reset with aux := some r } : Cal).aux = some r ∧ bitOf { r with cfg := 0 }.cfg 6 = false ∧ atBoundary 0 3 = false) ∧
    (let g := fun (z f : Int) => (roundDiv (2 ^ 44) (f - z).toNat : Int)
      let fits := fun (z f : Int) => z < f ∧ 98 * 0x400000 ≤ g z f * 100 ∧ g z f * 100 ≤ 102 * 0x400000 ∧ z.natAbs ≤ 41943;
      fits 41943 (41943 + 4194304) ∧ ¬fits 41944 (41944 + 4194304) ∧ fits 0 4112063 ∧ ¬fits 0 4112062 ∧ ¬fits 5 5) := by
  delta Dev.calQuiet Dev.reached; dsimp only; refine ⟨?_, ?_, ?_, ?_, ?_⟩ <;> decide +kernel

/-- A read of 3 bytes by the descriptor 7, one by a command of the ring, and a frame of it. -/
def xfer : Xfer := ⟨7, none, 8, 3 * 65536, 0, 0⟩
def ppFrame (mark : Bool) : PpFrame := ⟨xfer, 0x400, 0, [], mark, false⟩

/-- Every cause of a refusal with none before it; the port at work on the frame and draining; a mark that is late by one byte. -/
theorem witness_PeripheryTransfers :
    let d := dev []
    let on := fun (d : Dev) => d.reached R.PP_GO ∧ d.seq.bootFrom = none
    let f := ppFrame false
    let w := { f with x := { xfer with ctl := 0 } }
    let m := { ppFrame true with tmark := 0x2A5 * 256 }
    let works := fun (st : Nat) (f : PpFrame) => ({ (dev [(domField 9, st)]).setReg (R.XR_GUAR clPeri) 0x3F3F with pp := { Pp.reset with queue := [xfer], active := some f } } : Dev)
    let lasts := fun (d : Dev) (f : PpFrame) => d.pp.active = some f ∧ d.ppLive = true ∧ d.xramClean
    let cause := fun (d : Dev) => if d.ppBusy 7 then 1 else if (d.ppDesc 7).bad || (d.ppDesc 7).start == 3 then 2
      else if !d.areaValid (d.ppDesc 7).area (d.ppDesc 7).dlen then 3 else if (d.ppDesc 7).start = 0 ∧ 16 ≤ d.pp.queue.length then 4 else 0
    (on d ∧ cause d = 0 ∧ (d.ppDesc 7).start = 0) ∧ ((dev [(domField 9, 0)]).regReachable R.PP_GO = false ∧ (dev [(R.SYS_STATUS_STATE, stHalted)]).st = stHalted) ∧
    (let e := { d with pp := { Pp.reset with queue := [xfer] } };
      on e ∧ cause e = 1 ∧ e.ppQueued 7 = true ∧ e.ppActive 7 = false ∧ xfer.desc < 8 ∧ e.domOn 9 = true ∧ e.is R.SYS_STATUS_SEATED = true ∧
      e.is R.SYS_STATUS_VDDIOOK = true ∧ e.xramClean ∧ e.pp.queue = xfer :: [] ∧ e.pp.active = none ∧ e.pp.ahead = none) ∧
    (on (d.setReg (R.PP_DCTL 7) 7) ∧ cause (d.setReg (R.PP_DCTL 7) 7) = 2) ∧
    (let e := (d.setReg (R.PP_DBUF 7) 2).setReg (R.PP_DCMD 7) 0x10000; on e ∧ cause e = 3) ∧
    (let e := { d with pp := { Pp.reset with queue := List.replicate 16 ⟨0, none, 0, 0, 0, 0⟩ } }; on e ∧ cause e = 4) ∧
    (let e := d.setReg (R.PP_DBUF 7) 0x10000; on e ∧ cause e = 0 ∧ (e.ppDesc 7).start ≠ 0) ∧
    (lasts (works 2 f) f ∧ lasts (works 2 w) w ∧ lasts (works 2 m) m ∧ lasts (works 3 f) f ∧ f.x.desc < 8) ∧
    ((works 2 f).ppActive 7 = true ∧ (works 2 f).reached R.PP_GO ∧ (works 2 f).ppNoPause f = true ∧ (works 3 f).dom 9 = 3 ∧
      (let g := { f with x := { xfer with dcmd := 65 * 65536 } }; d.ppNoPause g = false ∧ { g with paused := true }.paused = true) ∧
      (let e : Dev := { d with clock := 1000, pp := { Pp.reset with haltAt := some 0 } }; e.pp.haltAt = some 0 ∧ 0 + 1000 ≤ e.clock ∧ ¬(0 + 1000 ≤ 999) ∧ e.xramClean) ∧
      (works 3 f).xramClean) ∧
    (f.x.isRead = true ∧ f.mark = false ∧ f.x.dlen = 3 ∧ w.x.isRead = false ∧ w.x.dlane < 3 ∧ bitOf f.tcfg 10 = true ∧ bitOf { f with tcfg := 0 }.tcfg 10 = false) ∧
    (let late := fun (rx : List Byte) => m.tmark / 65536 % 256 ≤ (rx.takeWhile (fun b => b.toNat ≠ m.tmark / 256 % 256)).length;
      m.mark = true ∧ m.x.isRead = true ∧ late [1, 2, 0xA5] ∧ ¬late [1, 0xA5]) ∧
    (d.dom 9 ≠ 3 ∧ d.pp.active = none) := by
  delta Dev.xramClean Dev.reached; dsimp only; refine ⟨?_, ?_, ?_, ?_, ?_, ?_, ?_, ?_, ?_⟩ <;> decide +kernel

/-- A domain in each of its states, at the last one and at those with work in flight; requests with each cause. -/
theorem witness_PowerDomainsAndRequests :
    let calm := fun (d : Dev) => d.pwr.domReqs = [] ∧ d.pwr.stateReq = none ∧ d.pwr.waking = false ∧ d.st ≠ stFallowExit
    let serves := fun (d : Dev) => d.st ≠ stHalted ∧ d.pwr.stateReq = none
    let heath : StateReq := ⟨1, none, false, false⟩
    let busy := fun (l : List (Field × Nat)) => ({ dev l with pwr := { Pwr.reset with stateReq := some heath } } : Dev)
    (let d := dev [(domField 11, 1)]; d.dom 11 = 1 ∧ bitOf d.pwr.offAfter 11 = false ∧ calm d ∧
      (let e := { d with pwr := { Pwr.reset with offAfter := 2 ^ 11 } };
        bitOf e.pwr.offAfter 11 = true ∧ calm e ∧ e.ticking = false ∧ e.calQuiet)) ∧ regDomain R.AUX_SYNC = some 10 ∧
    (let d := { dev [(domField 11, 1)] with pwr := { Pwr.reset with domReqs := [⟨2 ^ 11, 0, none, false⟩] } };
      d.dom 11 = 1 ∧ d.pwr.domReqs = [⟨2 ^ 11, 0, none, false⟩] ∧ d.pwr.stateReq = none ∧ d.pwr.tickOn = 0 ∧ d.pwr.tickOff = 0 ∧ d.pwr.onAfter = 0 ∧
      d.pwr.offAfter = 0 ∧ d.pwr.waking = false ∧ d.st ≠ stFallowExit) ∧
    (let d := { dev [(domField 11, 1), (domField 8, 0), (domField 9, 0), (R.SYS_STATUS_STATE, stFallowExit)] with pwr := { Pwr.reset with wakeAt := some 5 } };
      d.dom 11 = 1 ∧ bitOf d.pwr.offAfter 11 = false ∧ d.pwr.domReqs = [] ∧ d.st = stFallowExit ∧ d.pwr.wakeAt = some 5 ∧
      d.is R.SYS_STRAPS_BOOT = false ∧ 11 ∉ [8, 9] ∧ ∀ j, j < 12 → j ≠ 11 → j ∉ [8, 9] → d.dom j = 2) ∧
    (let d := dev [(domField 0, 3), (domField 6, 3), (domField 7, 3), (domField 8, 3), (domField 9, 3)];
      (∀ k ∈ [0, 6, 7, 8, 9], d.dom k = 3) ∧ d.handlerRuns = false ∧ d.acq.proc = none ∧ d.acq.ready = [] ∧ d.hp.held = none ∧ d.hp.queue = [] ∧ d.cl.tx = [] ∧
      d.pp.active = none ∧ (let e := { d with pp := { Pp.reset with active := some (ppFrame false) } }; e.dom 9 = 3 ∧ e.pp.active ≠ none)) ∧
    (let d := dev [(domField 11, 4)]; d.dom 11 = 4 ∧ bitOf d.pwr.onAfter 11 = false ∧ calm d ∧ bitOf ({ Pwr.reset with onAfter := 4095 } : Pwr).onAfter 11 = true) ∧
    (let d := { dev [(domField 8, 1)] with cl := { Cl.reset with locked := true } }; d.dom 8 = 1 ∧ d.cl.locked = true ∧ (dev [(domField 8, 1)]).cl.locked = false) ∧
    (let d := { dev [(domField 7, 1)] with hp := { Hp.reset with off := true } }; d.dom 7 = 1 ∧ d.hp.off = true ∧ d.st ≠ stHeath) ∧
    (let q : StateReq := ⟨1, none, true, true⟩
      let d := { dev [(R.SYS_STATUS_STATE, 3), (domField 11, 4), (domField 10, 0)] with pwr := { Pwr.reset with stateReq := some q, heathOff := 0xC00 } };
      q.kind = 1 ∧ q.done = true ∧ d.dom 11 = 4 ∧ d.st = stRunning ∧ bitOf d.pwr.onAfter 11 = false ∧ d.pwr.domReqs = [] ∧ d.pwr.stateReq = some q ∧
      d.pwr.wakeAt = none ∧ d.gpioWake = false ∧ d.pwr.heathOff < 4096 ∧ ∀ j, j < 12 → bitOf d.pwr.heathOff j = true → j ≠ 11 → d.dom j = 0) ∧
    (let q : StateReq := ⟨2, none, true, true⟩
      let d := { dev ((R.SYS_STATUS_STATE, 1) :: (domField 7, 4) :: ((List.range 12).filter (· ≠ 7)).map (fun k => (domField k, 0))) with
        pwr := { Pwr.reset with stateReq := some q } };
      q.kind = 2 ∧ q.done = true ∧ d.dom 7 = 4 ∧ d.st = stReady ∧ bitOf d.pwr.onAfter 7 = false ∧ d.pwr.domReqs = [] ∧ d.pwr.stateReq = some q ∧
      d.pwr.wakeAt = none ∧ d.is R.SYS_STATUS_SEATED = true ∧ ∀ j, j < 12 → j ≠ 7 → d.dom j = 0) ∧
    (dev [(domField 11, 5)]).dom 11 = 5 ∧
    (let on := (0x0800#32).toNat % 4096
      let off := (0x08000000#32).toNat / 65536 % 4096;
      on &&& 0 = 0 ∧ on ≠ 0 ∧ 0 &&& off = 0 ∧ off ≠ 0 ∧ on &&& off ≠ 0 ∧ bitOf off 11 = true) ∧
    (let d := busy []; d.st ≠ stHalted ∧ d.pwr.stateReq ≠ none) ∧
    (let d := dev [(R.FLT_TEMPST_CRIT, 1)]; serves d ∧ d.is R.FLT_TEMPST_CRIT = true ∧ bitOf 32 5 = true) ∧
    (let d := dev []; serves d ∧ d.is R.FLT_TEMPST_CRIT = false ∧ d.domInUse 7 = some 2 ∧ (∀ j, j < 7 → bitOf 128 j = false) ∧ d.domInUse 11 = none ∧
      (∀ k, k < 12 → bitOf 0 k = false) ∧ d.st ≠ stChecking ∧ d.calQuiet ∧ d.dom 11 = 2 ∧ d.ticking = false) ∧
    (serves (dev [(R.SYS_STATUS_STATE, 2)]) ∧ (dev [(R.SYS_STATUS_STATE, 2)]).st = stChecking) ∧
    (let d := dev [(R.SYS_STATUS_STATE, 3), (domField 4, 0)]; serves d ∧ d.ticking = true ∧ d.dom 4 = 0 ∧ d.dom 11 = 2 ∧ d.domInUse 11 = none ∧ d.calQuiet) ∧
    ((dev []).st ≠ stHalted ∧ (dev []).st ≠ stRunning ∧ (dev [(R.SYS_STATUS_STATE, stHalted)]).st = stHalted) ∧
    (dev [(R.SYS_STATUS_STATE, 3), (R.CL_CTRL_ROLE, 2), (R.CL_STATUS_ENUM, 1)]).clMember = true ∧
    (let d := busy [(R.SYS_STATUS_STATE, 3)]; d.st = stRunning ∧ d.clMember = false ∧ d.enumerated = false ∧ d.pwr.stateReq ≠ none) ∧
    (let d := (dev [(R.SYS_STATUS_STATE, 3)]).setReg (R.XR_GUAR 0) 0x13F3F
      let d := d.setReg (R.XR_GUAR 1) 0x13F3F;
      d.st = stRunning ∧ d.clMember = false ∧ d.pwr.stateReq = none ∧ d.heathBank = some 0) ∧
    (let d := dev [(R.SYS_STATUS_STATE, 3)];
      d.st = stRunning ∧ d.clMember = false ∧ d.pwr.stateReq = none ∧ d.heathBank = none ∧ d.heathFits = true ∧ d.enumerated = false ∧ d.calQuiet) ∧
    (let d := panel [(R.SYS_STATUS_STATE, 3), (R.PWR_HCFG_RATE, 100), (R.ACQ_CODE_P, 63), (R.ACQ_CODE_MSETTLE, 255)];
      d.st = stRunning ∧ d.clMember = false ∧ d.pwr.stateReq = none ∧ d.heathBank = none ∧ d.heathFits = false) ∧
    (let d := dev [(R.SYS_STATUS_STATE, stStopping)]; d.st ≠ stHalted ∧ d.st ≠ stRunning ∧ d.st ≠ stReady ∧ d.st ≠ stBootWait) ∧
    (let d := dev [(R.SYS_STATUS_STATE, 1), (R.CL_STATUS_ENUM, 1)]; d.st ∈ [stRunning, stReady, stBootWait] ∧ d.enumerated = true) ∧
    (let d := dev [(R.SYS_STATUS_STATE, 1)]; d.mayFallow ∧ d.hp.held = none) := by
  delta Dev.mayFallow; delta Dev.calQuiet; dsimp only; refine ⟨?_, ?_, ?_, ?_, ?_, ?_, ?_, ?_, ?_, ?_, ?_, ?_, ?_, ?_, ?_, ?_, ?_, ?_, ?_⟩ <;> decide +kernel

/-- Readings at the thresholds and one unit below; a window at the µs at which it closes and one sooner. -/
theorem witness_TemperatureAndFaultRegisters :
    let hot := fun (warn crit w c : Nat) => dev [(R.FLT_TEMP_WARN, 100), (R.FLT_TEMP_CRIT, 120), (R.FLT_TEMP_HYS, 5), (R.FLT_TEMPST_WARN, warn),
      (R.FLT_TEMPST_CRIT, crit), (R.FLT_TEMPST_WRUN, w), (R.FLT_TEMPST_CRUN, c)];
    (let d := hot 0 0 7 0;
      d.is R.FLT_TEMPST_WARN = false ∧ d.is R.FLT_TEMPST_CRIT = false ∧ (1599 : Int) < 16 * (d.get R.FLT_TEMP_WARN : Int) ∧
      (1599 : Int) < 16 * (d.get R.FLT_TEMP_CRIT : Int) ∧ 16 * (d.get R.FLT_TEMP_WARN : Int) ≤ 1600 ∧ (1919 : Int) < 16 * (d.get R.FLT_TEMP_CRIT : Int) ∧
      d.get R.FLT_TEMPST_WRUN = 7) ∧
    (let d := hot 1 0 0 7; d.is R.FLT_TEMPST_WARN = true ∧ d.is R.FLT_TEMPST_CRIT = false ∧ 16 * (d.get R.FLT_TEMP_CRIT : Int) ≤ 1920 ∧
      d.get R.FLT_TEMPST_CRUN = 7 ∧ d.dom 5 = 2) ∧
    (let d := hot 1 1 0 7; d.is R.FLT_TEMPST_WARN = true ∧ d.is R.FLT_TEMPST_CRIT = true ∧
      (1839 : Int) < 16 * ((d.get R.FLT_TEMP_CRIT : Int) - d.get R.FLT_TEMP_HYS) ∧ d.get R.FLT_TEMPST_CRUN = 7 ∧ d.ticking = false) ∧
    (let past := fun (n : Nat) => ∃ w ∈ ({ Flt.reset with windows := [⟨22, 0, 1, 1⟩] } : Flt).windows, w.src = 21 + 1 ∧ w.opened + 1000 * w.win ≤ n;
      (past 1000 ∨ past 1001) ∧ ¬past 0) ∧
    (let fits := fun (v : Nat) => v % 256 < v / 256 % 256 ∧ 60 ≤ v % 256 ∧ v % 256 ≤ 125 ∧ 80 ≤ v / 256 % 256 ∧ v / 256 % 256 ≤ 150 ∧ v / 65536 % 16 ≠ 0;
      fits (60 + 256 * 80 + 65536) ∧ fits (125 + 256 * 150 + 65536) ∧ ¬fits (126 + 256 * 150 + 65536) ∧ ¬fits (60 + 256 * 80)) ∧
    ((0 : Nat) % 65536 = 0 ∧ (R.FLT_CFG_ACTION 21).of ((R.FLT_CFG_ACTION 21).into 0 3) = 3) := by decide +kernel

/-- A node of the given role in a cluster of two members. -/
def node (role : Nat) (l : List (Field × Nat)) : Dev :=
  dev ([(R.CL_CTRL_ROLE, role), (R.CL_STATUS_ENUM, 1), (R.CL_STATUS_NODE, if role = 2 then 1 else 0), (R.CL_STATUS_NMEMB, 2)] ++ l)

/-- Nodes that tick, that tick too early by one µs, that hold over for the third time; the echoes of MEASURE at the longest
round trip of two members and one above it. -/
theorem witness_RingCharactersAndTicks :
    let run := (R.SYS_STATUS_STATE, 3)
    let cli := fun (d : Dev) => d.is R.SYS_STATUS_VDDIOOK = true ∧ d.domOn 8 = true
    let ticks := fun (d : Dev) => cli d ∧ d.isMember = true ∧ d.clMember = true ∧ d.ticking = true
    let early := fun (d : Dev) => d.st ≠ stHeath ∧ d.tick.first = false ∧ d.clock < d.tick.lastTick + d.get R.TICK_BUDGET_MINPER
    let at_ := fun (n : Nat) => ({ node 2 [run, (R.TICK_BUDGET_MINPER, 900)] with clock := n, tick := { TickGen.reset with first := false, lastTick := 100 } } : Dev)
    let s : Stage := ⟨1, 0, 0, [], [], [], false⟩
    let held := fun (n : Nat) => ({ node 2 [run] with cl := { Cl.reset with holdN := n } } : Dev)
    ((dev [(R.SYS_STATUS_VDDIOOK, 0)]).is R.SYS_STATUS_VDDIOOK = false ∧ (dev [(domField 8, 0)]).domOn 8 = false ∧ (dev []).domOn 8 = true ∧
      (dev [(domField 8, 1)]).dom 8 = 1 ∧ (dev [(domField 8, 0)]).dom 8 ≠ 1 ∧ (dev [(domField 8, 0)]).dom 8 ≠ 2) ∧
    (ticks (at_ 1000) ∧ ¬early (at_ 1000) ∧ (at_ 1000).cl.staged = none ∧ (at_ 1000).flt.due = []) ∧ (ticks (at_ 999) ∧ early (at_ 999)) ∧
    (s.more = false ∧ { s with more := true }.more = true ∧ ({ at_ 1000 with cl := { Cl.reset with staged := some s } } : Dev).cl.staged = some s) ∧
    (let d := node 1 [run]; d.isLead = true ∧ d.clLead = true ∧ d.enumerated = true ∧ d.ticking = true ∧ cli d ∧ d.get R.TICK_COUNT_COUNT ∉ d.cl.lossN) ∧
    (let d := node 1 []; d.isLead = true ∧ d.ticking = false ∧ d.domOn 8 = true ∧ d.isMember = false ∧ cli d) ∧
    (let d := { node 1 [run, (R.CL_STATUS_ENUM, 0)] with cl := { Cl.reset with unlocked := true } };
      d.isLead = true ∧ d.enumerated = false ∧ d.cl.unlocked = true ∧ d.ticking = true) ∧
    (let d := node 2 []; cli d ∧ d.isMember = true ∧ d.isLead = false ∧ d.ticking = false ∧ d.cl.checkReq = false) ∧
    (let e : EnumRun := ⟨2, 2, 0, 14, [], ⟨0x80, 0, 0, 0, 0⟩⟩
      let d := fun (e : EnumRun) => ({ node 1 [] with cl := { Cl.reset with enum := some e } } : Dev)
      let long := fun (e : EnumRun) (ns : Nat) => 250 * ((d e).get R.CL_STATUS_NMEMB + 1) < (roundDiv ((e.sum + ns : Nat) : Int) 16).toNat
      let e' := { e with sum := 11000, count := 15 };
      cli (d e) ∧ (d e).isMember = false ∧ (d e).cl.enum = some e ∧ e.step = 2 ∧ e.count < 15 ∧ e'.count = 15 ∧ ¬long e' 1007 ∧ long e' 1008) ∧
    (({ node 2 [run] with acq := { Acq.reset with now := some frame } } : Dev).acq.now = some frame) ∧
    (let d := held 2; d.domOn 8 = true ∧ d.isMember = true ∧ d.ticking = true ∧ d.cl.holdN = 2 ∧ (held 1).cl.holdN ≠ 2 ∧ (held 0).cl.holdN ≠ 2) := by
  dsimp only; refine ⟨?_, ?_, ?_, ?_, ?_, ?_⟩ <;> decide +kernel

/-- A frame in the exchange gap of its mutual scan. -/
def gapped : Frame := { frame with exch := some (0, 90) }

/-- A frame to node 1, and one from it to the lead. -/
def toMember (typ : Nat) (body : List Byte) : RingMsg := ⟨ringCrc typ 0 1 5 7 body, 0, 1, 5, 7, body⟩
def toLead (typ : Nat) (body : List Byte) : RingMsg := ⟨ringCrc typ 1 0 5 7 body, 1, 0, 5, 7, body⟩

set_option maxRecDepth 20000 in
/-- A member as the frames for it find it. -/
theorem witness_RingFramesAreTaken_member :
    let m := toMember 2 [1]
    let mine := fun (d : Dev) => d.is R.SYS_STATUS_VDDIOOK = true ∧ d.domOn 8 = true ∧ d.get R.CL_CTRL_ROLE = 2 ∧
      m.dst = d.get R.CL_STATUS_NODE ∧ m.dst ≠ 0
    let run := (R.SYS_STATUS_STATE, 3)
    (mine (node 2 [(R.SYS_STATUS_STATE, 1)]) ∧ (node 2 [(R.SYS_STATUS_STATE, 1)]).st = stReady ∧ msgOk m 2 = true ∧ m.body.length ≤ 1024 ∧
      msgOk { m with crc := 0 } 2 = false ∧ (toMember 2 (List.replicate 1024 0)).body.length = 1024) ∧
    (let d := dev [(R.CL_CTRL_ROLE, 2)];
      d.enumerated = false ∧ d.get R.CL_CTRL_ROLE = 2 ∧ bodyAt [7] 0 1 < 8 ∧ (node 2 []).enumerated = true) ∧
    (mine (node 2 [run]) ∧ (node 2 [run]).st ≠ stReady ∧ (node 2 [run]).st ≠ stBootWait) ∧
    (let d := (panel [(R.SYS_STATUS_STATE, 1), (R.TICK_CTRL_SRC, 2), (R.CL_CTRL_ROLE, 2), (R.CL_STATUS_ENUM, 1), (R.CL_STATUS_NODE, 1),
        (R.CL_STATUS_NMEMB, 1), (R.CL_PERIOD_PERIOD, 16667), (R.CL_STATUS_LINK, 1)]).setReg (R.XR_GUAR clRing) 0x10101
      let body := d.clSettings.flatMap (fun w => leBytes 4 w.toNat)
      let c := toMember 3 body
      let fwd := ({ d with cl := { d.cl with tx := d.cl.tx ++ [⟨3, c.src, c.dst, c.seq, c.frame, c.body, c.crc⟩], pass2 := true } } : Dev);
      mine d ∧ d.st = stReady ∧ fwd.ownCause = none ∧ fwd.clMemberCause (wordList (body.length / 4) body) = none ∧
        fwd.clMemberCause (wordList 1 [0, 0, 0, 0]) = some (0x0C, det 2 0)) ∧
    (let d := node 2 [(R.SYS_STATUS_STATE, 1)]
      let e := { d with cl := { Cl.reset with checkReq := true } };
      d.cl.checkReq = false ∧ mine e ∧ e.cl.checkReq = true ∧ e.st = stReady) ∧
    (let d := { node 2 [run] with acq := { Acq.reset with now := some gapped } }
      let e := { d with cl := { Cl.reset with retry := some [] } };
      mine d ∧ d.acq.now = some gapped ∧ gapped.retryTime = true ∧ gapped.exch = some (0, 90) ∧ d.clock ≤ 0 ∧ d.cl.retry = none ∧ e.cl.retry.isSome = true ∧ (node 2 [run]).acq.now = none) ∧
    (let y : CalTouch := ⟨1, 0, none, none, none, ⟨0, [], [], []⟩⟩
      let d := { node 2 [run] with cal := { Cal.reset with touch := some y } };
      mine d ∧ d.cal.touch = some y ∧ bodyAt [1] 0 1 % 4 < 3 ∧ bitOf (bodyAt [0x81] 0 1) 7 = true ∧ bitOf (bodyAt [1] 0 1) 7 = false ∧ d.flt.due = [] ∧
        (node 2 [run]).cal.touch = none) := by
  dsimp only; refine ⟨?_, ?_, ?_, ?_, ?_, ?_⟩ <;> decide +kernel

/-- The lead in each step of an enumeration, with a STAGE on the ring, and with the frames of its members. -/
theorem witness_RingFramesAreTaken_lead :
    let l := node 1 []
    let lead := fun (d : Dev) => d.is R.SYS_STATUS_VDDIOOK = true ∧ d.domOn 8 = true ∧ d.get R.CL_CTRL_ROLE = 1
    let echo : RingMsg := ⟨ringCrc 2 0 15 5 7 [], 0, 15, 5, 7, []⟩
    let with_ := fun (c : Cl) => ({ l with cl := c } : Dev)
    let e : EnumRun := ⟨1, 2, 0, 0, [], ⟨0x80, 0, 0, 0, 0⟩⟩
    (lead l ∧ echo.src = 0 ∧ msgOk echo 2 = true ∧ echo.body.length ≤ 1024 ∧ (toLead 4 []).dst = 0 ∧ (toLead 4 []).src ≠ 0 ∧ msgOk (toLead 4 []) 4 = true ∧
      (1, 4, 5) ∉ l.cl.seen ∧ (1, 4, 5) ∈ ({ Cl.reset with seen := [(1, 4, 5)] } : Cl).seen ∧ l.cl.enum = none) ∧
    (let n := bodyAt [3] 0 1 - 1; e.step = 1 ∧ n ≤ 7 ∧ n = e.expect ∧ ¬(bodyAt [2] 0 1 - 1 ≤ 7 ∧ bodyAt [2] 0 1 - 1 = e.expect)) ∧
    (let e := { e with step := 3, oks := [2] }
      let d := with_ { Cl.reset with enum := some e };
      lead d ∧ d.cl.enum = some e ∧ e.step = 3 ∧ 0 < d.get R.CL_STATUS_NMEMB ∧ 0 + 1 ∉ e.oks) ∧
    (let e := { e with step := 5, oks := [2] }
      let d := with_ { Cl.reset with enum := some e };
      lead d ∧ d.cl.enum = some e ∧ e.step = 5 ∧ bodyAt [0] 0 1 = 0 ∧ bodyAt [1] 0 1 ≠ 0 ∧
        ∀ k, k < d.get R.CL_STATUS_NMEMB → k + 1 ∈ (toLead 4 []).src :: e.oks) ∧
    ({ e with step := 4 }.step = 4 ∧ (with_ { Cl.reset with enum := some { e with step := 4 } }).cl.enum = some { e with step := 4 }) ∧
    (let s := stageOf (List.replicate 12 0)
      let d := fun (n : Nat) => with_ { Cl.reset with sent := some s, resent := n };
      lead (d 1) ∧ (d 1).cl.staged = none ∧ (d 1).cl.sent = some s ∧ s.more = false ∧ (d 1).cl.resent < 2 ∧ msgOk echo 0x10 = false) ∧
    (let d := { l with acq := { Acq.reset with now := some frame } };
      lead d ∧ frame.tick % 65536 = (toLead 4 []).frame ∧ d.acq.now = some frame ∧ d.cl.retry = none ∧
        2 ∈ d.clNodes ∧ 2 ≠ (toLead 4 []).src ∧ ∀ e ∈ d.cl.corr, e.1 ≠ 2) ∧
    (let d := { l with acq := { Acq.reset with ready := [frame] } };
      lead d ∧ d.frameWaits 7 = true ∧ 1 ∉ d.cl.down ∧ d.xramClean ∧ bitOf (bodyAt [0, 0, 1] 2 1) 0 = true ∧ bitOf (bodyAt [0, 0, 0] 2 1) 0 = false) := by
  delta Dev.xramClean; dsimp only; refine ⟨?_, ?_, ?_, ?_, ?_, ?_⟩ <;> decide +kernel

/-- The role at its limits; a frame sent twice and three times; members late for the first and for the third time. -/
theorem witness_RingDeadlinesAndRole :
    let run := (R.SYS_STATUS_STATE, 3)
    (let d := dev [(R.SYS_STATUS_STATE, 1)]; d.domOn 8 = true ∧ d.st = stReady ∧ d.enumerated = false ∧ 2 % 4 ≠ 3 ∧ 7 % 4 = 3) ∧
    ((node 1 []).enumerated = true ∧ (dev [run]).st ≠ stBootWait ∧ (dev [run]).st ≠ stReady) ∧
    (let u : Unacked := ⟨⟨4, 1, 0, 0, 0, [], 0⟩, 1⟩
      let d := { node 2 [] with cl := { Cl.reset with unacked := [u] } };
      d.domOn 8 = true ∧ d.isMember = true ∧ d.cl.unacked = u :: [] ∧ u.tries < 2 ∧ 2 ≤ { u with tries := 2 }.tries ∧ (node 2 []).cl.unacked = []) ∧
    (let e : EnumRun := ⟨5, 2, 0, 0, [], ⟨0x80, 0, 0, 0, 0⟩⟩
      let d := { node 1 [] with cl := { Cl.reset with enum := some e } };
      e.step ≠ 4 ∧ { e with step := 4 }.step = 4 ∧ d.cl.enum = some e ∧ d.domOn 8 = true ∧ (node 1 []).cl.enum = none) ∧
    (let d := fun (n : Nat) => ({ node 1 [run] with acq := { Acq.reset with ready := [frame] }, cl := { Cl.reset with done := [1], missing := [(2, n)] } } : Dev)
      let late := fun (d : Dev) (k : Nat) => k ∈ d.clNodes ∧ k ∉ d.cl.done ∧ k ∉ d.cl.down;
      (d 1).clLead = true ∧ (d 1).acq.ready = frame :: [] ∧ (d 1).acq.proc = none ∧ (d 1).cal.wait = [] ∧ late (d 1) 2 ∧ ¬late (d 1) 1 ∧
        ((d 1).cl.missing.lookup 2).getD 0 < 2 ∧ ((d 2).cl.missing.lookup 2).getD 0 = 2 ∧ (d 2).cl.rx = []) ∧
    (let d := { node 1 [run] with acq := { Acq.reset with now := some gapped } };
      d.clLead = true ∧ d.acq.now = some gapped ∧ gapped.retryTime = true ∧ gapped.exch = some (0, 90) ∧ d.clock ≤ 0 ∧ d.cl.retry = none ∧
      d.cl.retryAck = false ∧ d.ticking = true ∧ d.cl.sent = none ∧ frame.exch = none ∧ d.inGap frame = false) ∧
    (let c := { Cl.reset with retry := some [3], retryAck := true }; c.retry.isSome = true ∧ c.retryAck = true) ∧
    (dev []).ticking = false ∧ (dev []).clLead = false ∧ (dev []).acq.now = none ∧ (dev []).acq.ready = [] := by
  dsimp only; refine ⟨?_, ?_, ?_, ?_, ?_, ?_⟩ <;> decide +kernel

theorem witness_RegisterAccess :
    (dev [(domField 10, 0)]).regReachable R.AUX_SYNC = false ∧ regSpec? 0xFFFC = none ∧ (dev [(R.SYS_STATUS_STATE, stHalted)]).st = stHalted ∧
    (dev [(R.SYS_STATUS_STATE, 3)]).busyState = true ∧
    ([R.IMG_THR, R.IMG_ABSORB, R.CT_SEG, R.CT_WAKE, R.OPT_LIM, R.CAL_TOL, R.SEQ_BUDGET, R.SEQ_EVEN, R.HP_ATTEN, R.CQ_GEOM, R.CL_BUF, R.PWR_WAKE,
      R.PWR_FCFG].all (fun a => (dev []).regReachable a)) = true ∧ (dev []).is R.CQ_CTRL_EN = false ∧
    R.IMG_THR ∉ [R.AX_DATA 0, R.AX_DATA 1, R.AX_TS 0, R.AX_TS 1, R.AX_STAT 0, R.AX_STAT 1] := by decide +kernel

/-! ### Single steps -/

/-- The device after one step on the command `c`. -/
def after (c : Instr) (d : Dev) : Dev :=
  match Sys2Proof.Machine.step ⟨[c], d⟩ with
  | .next t => t.dev
  | _ => d

/-- R321: 0x7FFFFFFF + 1 is negative and overflows; 0 − 1 borrows. -/
theorem test_add_wraps :
    let d := after (.insAdd 0 true 1 2 (.imm 1)) (core 0x00225001 [(2, 0x7FFFFFFF)] [])
    d.g 1 = 0x80000000 ∧ d.seq.n = true ∧ d.seq.v = true ∧ d.seq.c = false ∧ d.seq.pc = 1 := by decide +kernel
theorem test_sub_borrows :
    let d := after (.insSub 0 true 1 2 (.imm 1)) (core 0x00A25001 [] [])
    d.g 1 = 0xFFFFFFFF ∧ d.seq.c = true ∧ d.seq.v = false ∧ d.seq.n = true := by decide +kernel
/-- R277: g0 discards what is written to it. -/
theorem test_g0_discards : (after (.insAdd 0 false 0 2 (.imm 1)) (core 0x00005001 [(2, 5)] [])).g 0 = 0 := by decide +kernel
/-- R325: a divisor of 0 raises DIVZERO (cause 0x05). -/
theorem test_divide_by_zero : (after (.insDivu 0 false 1 2 (.imm 0)) (core 0x05425000 [(2, 5)] [])).get R.SEQ_FAULT_CAUSE = 5 := by
  decide +kernel
/-- R329: a word is stored with its least significant byte first. -/
theorem test_store_little_endian :
    let d := after (.insSt 0 1 0 (.imm 0x100)) (core 0x09421100 [(1, 0x04030201)] [])
    (d.dataByte 0x100, d.dataByte 0x103, d.dataByte 0x104) = (1, 4, sparseGet dmemDflt [] 0x104) := by decide +kernel
/-- R610: seating ends reset. -/
theorem test_seated : (after (.seated true false) State.reset.dev).sys.inReset = false := by decide +kernel
/-- R15: READ_ID answers the identification bytes in turn. -/
theorem test_read_id : (after (.readId false 4) (dev [])).hp.out = [0x4A, 0x32, 0x50, 0x0B] := by decide +kernel
/-- R387: an unknown opcode sets BADOP. -/
theorem test_unknown_opcode : (after (.unknownOpcode false 0x04) (dev [])).is R.HP_ERR_BADOP = true := by decide +kernel
/-- R409, R410, R15: 64 bits that spell READ_ID leave its result, address and identification word in the register, and the bits
that were in it have gone out. -/
theorem test_chain_read_id :
    let bits := (List.range 64).map (fun i => (0x9F00000800000000#64).getLsbD (63 - i))
    let d := after (.chainSegment false 64 bits false false) (dev [(R.SYS_STRAPS_CHAIN, 1)])
    d.hp.chain = 0x010000084A32500B ∧ d.hp.shifted = List.replicate 64 false := by decide +kernel
/-- R410: 63 edges discard the segment, with one event of FS08. -/
theorem test_chain_ragged :
    let d := after (.chainSegment false 63 (List.replicate 63 false) false false) (dev [(R.SYS_STRAPS_CHAIN, 1)])
    d.hp.shifted.length = 63 ∧ d.get (R.FLT_CNT_EVENTS 7) = 1 := by decide +kernel
/-- R36: a period below 1000 µs is ignored, one in range is taken. -/
theorem test_tick_period : (after (.tickPeriodWrite 999) (dev [(R.TICK_BUDGET_MINPER, 900)])).reg R.TICK_PERIOD = regReset R.TICK_PERIOD ∧
    (after (.tickPeriodWrite 1000) (dev [(R.TICK_BUDGET_MINPER, 900)])).reg R.TICK_PERIOD = 1000 := by decide +kernel
/-- R366: GPIO_SET and GPIO_CLR change the written bits alone. -/
theorem test_gpio : (after (.gpioSet 5) (dev [(R.GPIO_OUT_PINS, 2)])).get R.GPIO_OUT_PINS = 7 ∧
    (after (.gpioClr 5) (dev [(R.GPIO_OUT_PINS, 7)])).get R.GPIO_OUT_PINS = 2 := by decide +kernel
/-- R607: a command that is no reset source does nothing to a device in reset. -/
theorem test_reset_holds : after .tick State.reset.dev = State.reset.dev := by decide +kernel
/-- R223 and the table "Filter presets": with the third preset the first settled output ends 110 ms after the reset. -/
theorem test_first_output :
    let c : Conv := ⟨1, 3, 0, 0, 0, false, (none, none), (none, none), none⟩
    c.next = (false, 3, 20) ∧ c.endAt (3 + 20 - 1) = 110000 := by decide +kernel

end Sys2Proof.Tests
end

section
/-!
Proofs for the instructions of the core (chapter 11): what the products, remainders, bitfields and flag words are in plain
arithmetic and bit by bit, how a division, a move, a branch, an event instruction and a WAIT complete, and that every
instruction executes its word under its condition; then the statements O9 to O13, O18, O19 and O21.
-/

namespace Sys2Proof.Machine

/-! ### Results that set N and Z alone (R318) -/

/-- An instruction of the ALU format that sets N and Z alone. -/
theorem plain_completes {i : Instr} {cond : BitVec 4} {k : Nat} {sf : Bool} {rd : BitVec 4} {w₀ : Word} {r : Dev → Word}
    (hw : coreWord i = some w₀)
    (he : ∀ s, Sys2Proof.Machine.exec i s = act s (fun d => d.seqAlu w₀ cond sf rd k (fun d => plain (r d)))) :
    CompletesWith i cond k (fun d => d.result sf rd (r d) none none) :=
  alu_completes hw he (fun _ => rfl)

/-! ### Products (R324) -/

/-- The upper word of a 64-bit value is the quotient by 2^32 of the number that it holds. -/
theorem extractLsb'_high_ofInt (p : Int) : (BitVec.ofInt 64 p).extractLsb' 32 32 = BitVec.ofInt 32 (p / 2 ^ 32) := by
  apply BitVec.eq_of_toNat_eq
  rw [BitVec.extractLsb'_toNat, Nat.shiftRight_eq_div_pow, BitVec.toNat_ofInt, BitVec.toNat_ofInt]
  norm_num
  omega

/-- The low word of a signed product. -/
theorem Word.mul_eq_ofInt (a b : Word) : a * b = BitVec.ofInt 32 (a.toInt * b.toInt) := by
  rw [BitVec.ofInt_mul, BitVec.ofInt_toInt, BitVec.ofInt_toInt]

theorem Word.signExtend_mul (a b : Word) :
    a.signExtend 64 * b.signExtend 64 = BitVec.ofInt 64 (a.toInt * b.toInt) := by
  rw [BitVec.ofInt_mul]
  rfl

theorem Word.setWidth_mul (a b : Word) :
    a.setWidth 64 * b.setWidth 64 = BitVec.ofInt 64 ((a.toNat * b.toNat : Nat) : Int) := by
  rw [BitVec.ofInt_natCast, BitVec.ofNat_mul, BitVec.ofNat_toNat, BitVec.ofNat_toNat]

theorem aluMulhs_eq (a b : Word) : aluMulhs a b = plain ((a.signExtend 64 * b.signExtend 64).extractLsb' 32 32) := by
  rw [Word.signExtend_mul, extractLsb'_high_ofInt]
  rfl

theorem aluMulhu_eq (a b : Word) : aluMulhu a b = plain ((a.setWidth 64 * b.setWidth 64).extractLsb' 32 32) := by
  rw [Word.setWidth_mul, extractLsb'_high_ofInt]
  rfl

/-! ### Divisions (R325) -/

/-- The remainder of the quotient truncated towards zero. -/
theorem aluRems_eq (a b : Word) : aluRems a b = plain (BitVec.ofInt 32 (a.toInt - a.toInt.tdiv b.toInt * b.toInt)) := by
  unfold aluRems
  rw [Int.tmod_def, Int.mul_comm]

section
variable {i : Instr} {cond : BitVec 4} {sf : Bool} {rd : BitVec 4} {w₀ : Word} {a b : Dev → Word}
  {f : Word → Word → AluRes} {g : Dev → Dev}

/-- A division by a divisor that is not 0 completes in 18 cycles with the result and flags of its operation. -/
theorem div_completes (hw : coreWord i = some w₀)
    (he : ∀ s, Sys2Proof.Machine.exec i s = act s (fun d => d.seqDiv w₀ cond sf rd (fun d => (a d, b d)) f))
    (hg : ∀ d, b d ≠ 0 → g d = d.result sf rd (f (a d) (b d)).r (f (a d) (b d)).c (f (a d) (b d)).v) :
    CompletesWhen i cond (fun d => b d ≠ 0) (fun _ => 18) g := by
  refine insn_completes hw he (fun d h => ?_) (fun d h => ?_) (fun d h => ?_) (fun d h => ?_)
  · rw [hg d h, ← Dev.aluWrite_eq]
    exact if_neg h
  · rw [hg d h, Dev.result_sq]
  · rw [hg d h, Dev.result_counting]
  · rw [hg d h]
    exact Dev.result_seq ..

/-- A division by 0 faults with DIVZERO before it writes anything. -/
theorem div_faults (hw : coreWord i = some w₀)
    (he : ∀ s, Sys2Proof.Machine.exec i s = act s (fun d => d.seqDiv w₀ cond sf rd (fun d => (a d, b d)) f)) :
    FaultsWith i cond (fun d => b d = 0) 1 0x05 (fun _ => none) :=
  insn_faults hw he (fun _ h => if_pos h)

end

/-! ### Bitfields (R326) -/

theorem fieldMask_bit (wm1 : BitVec 5) (i : Nat) (hi : i < 32) : (fieldMask wm1).getLsbD i = decide (i ≤ wm1.toNat) := by
  unfold fieldMask
  rw [BitVec.getLsbD_ofNat, Nat.testBit_two_pow_sub_one]
  simp [hi]

theorem aluBfx_bit (a : Word) (lsb wm1 : BitVec 5) (i : Nat) (hi : i < 32) :
    (aluBfx a lsb wm1).getLsbD i = (decide (i ≤ wm1.toNat) && a.getLsbD (lsb.toNat + i)) := by
  unfold aluBfx
  rw [BitVec.getLsbD_and, fieldMask_bit wm1 i hi, BitVec.getLsbD_ushiftRight, Bool.and_comm]

/-- Above the field every bit is the field's highest. -/
theorem aluBfxs_bit (a : Word) (lsb wm1 : BitVec 5) (i : Nat) (hi : i < 32) :
    (aluBfxs a lsb wm1).getLsbD i = a.getLsbD (lsb.toNat + min i wm1.toNat) := by
  have htop : (aluBfx a lsb wm1).getLsbD wm1.toNat = a.getLsbD (lsb.toNat + wm1.toNat) := by
    rw [aluBfx_bit a lsb wm1 _ wm1.isLt]
    simp
  have hbits := aluBfx_bit a lsb wm1 i hi
  have hmask := fieldMask_bit wm1 i hi
  unfold aluBfxs
  simp only [htop]
  rcases le_or_gt i wm1.toNat with h | h
  · rw [Nat.min_eq_left h]
    split
    · rw [BitVec.getLsbD_or, BitVec.getLsbD_not, hbits, hmask]
      simp [h]
    · rw [hbits]
      simp [h]
  · rw [Nat.min_eq_right h.le]
    split
    · rename_i hs
      rw [BitVec.getLsbD_or, BitVec.getLsbD_not, hmask, hs]
      simp [hi, h.not_ge]
    · rename_i hs
      rw [hbits, Bool.eq_false_iff.2 hs]
      simp [h.not_ge]

theorem aluBfi_bit (r a : Word) (lsb wm1 : BitVec 5) (i : Nat) (hi : i < 32) :
    (aluBfi r a lsb wm1).getLsbD i =
      if lsb.toNat ≤ i ∧ i ≤ lsb.toNat + wm1.toNat then a.getLsbD (i - lsb.toNat) else r.getLsbD i := by
  have hm : i - lsb.toNat < 32 := by omega
  unfold aluBfi
  rw [BitVec.getLsbD_or, BitVec.getLsbD_and, BitVec.getLsbD_not, Word.shl_bit _ _ _ hi, Word.shl_bit _ _ _ hi,
    BitVec.getLsbD_and, fieldMask_bit wm1 _ hm]
  by_cases h1 : lsb.toNat ≤ i
  · have h2 : i - lsb.toNat ≤ wm1.toNat ↔ i ≤ lsb.toNat + wm1.toNat := by omega
    by_cases h3 : i ≤ lsb.toNat + wm1.toNat <;> simp [h1, h2, h3, hi]
  · simp [h1, hi]

/-! ### Moves (R327, R340) -/

theorem Seq.flagWord_eq (q : Seq) :
    q.flagWord = BitVec.ofNat 32 (q.v.toNat + 2 * q.c.toNat + 4 * q.z.toNat + 8 * q.n.toNat + 16 * q.e.toNat) := by
  unfold Seq.flagWord
  cases q.v <;> cases q.c <;> cases q.z <;> cases q.n <;> cases q.e <;> rfl

/-- An instruction that writes one core register and nothing else. -/
theorem move_completes {i : Instr} {cond rd : BitVec 4} {w₀ : Word} {v : Dev → Word} {k : Nat} (hw : coreWord i = some w₀)
    (he : ∀ s, Sys2Proof.Machine.exec i s = act s (fun d => d.seqInsn w₀ cond (fun d => (d.setG rd (v d), k, .next)))) :
    CompletesWith i cond k (fun d => d.setG rd (v d)) :=
  insn_completes_with hw he (fun _ => rfl) (fun _ => Dev.setG_sq ..) (fun _ => Dev.setG_counting ..) (fun _ => by simp)

/-! ### Branches (R335, R336) -/

section
variable {i : Instr} {cond : BitVec 4} {w₀ : Word} {dest : Dev → Nat}

theorem jump_branches (hw : coreWord i = some w₀)
    (he : ∀ s, Sys2Proof.Machine.exec i s = act s (fun d => d.seqInsn w₀ cond (fun d => d.seqJump false (dest d)))) :
    BranchesTo i cond dest (fun d => d) :=
  insn_branches hw he (fun _ => rfl) (fun _ => rfl) (fun _ => rfl) (fun _ => ⟨rfl, rfl, rfl⟩)

/-- A call goes to the target that it has before g15 is written. -/
theorem call_branches (hw : coreWord i = some w₀)
    (he : ∀ s, Sys2Proof.Machine.exec i s = act s (fun d => d.seqInsn w₀ cond (fun d => d.seqJump true (dest d)))) :
    BranchesTo i cond dest (fun d => d.setG 15 (BitVec.ofNat 32 (d.seq.pc + 1))) :=
  insn_branches hw he (fun _ => rfl) (fun _ => Dev.setG_sq ..) (fun _ => Dev.setG_counting ..) (fun _ => by simp)

end

/-! ### A register written twice -/

theorem sparseErase_of_forall_ne {α : Type} {l : List (Nat × α)} {a : Nat} (h : ∀ e ∈ l, e.1 ≠ a) : sparseErase l a = l := by
  induction l with
  | nil => rfl
  | cons e l ih =>
    rw [sparseErase, if_neg (h e (by simp)), ih (fun x hx => h x (by simp [hx]))]

theorem sparseErase_insert {α : Type} (l : List (Nat × α)) (a : Nat) (v : α) :
    sparseErase (sparseInsert l a v) a = sparseErase l a := by
  induction l with
  | nil => simp [sparseInsert, sparseErase]
  | cons e l ih =>
    rw [sparseInsert]
    split
    · simp [sparseErase]
    · rw [sparseErase, sparseErase, ih]

theorem sparseSet_sparseSet {α : Type} [DecidableEq α] {dflt : Nat → α} (l : List (Nat × α)) (a : Nat) (v w : α) :
    sparseSet dflt (sparseSet dflt l a v) a w = sparseSet dflt l a w := by
  have h : sparseErase (sparseSet dflt l a v) a = sparseErase l a := by
    have h0 : sparseErase (sparseErase l a) a = sparseErase l a :=
      sparseErase_of_forall_ne (fun _ he => (mem_sparseErase he).2)
    unfold sparseSet
    split
    · exact h0
    · rw [sparseErase_insert, h0]
  unfold sparseSet at h ⊢
  rw [h]

/-- A field set to what it holds leaves the register's value. -/
theorem Field.into_of (f : Field) (v : Word) : f.into v (f.of v) = v := by
  apply BitVec.eq_of_getLsbD_eq
  intro i hi
  rw [Field.into_bit f v _ i hi]
  split
  · rename_i h
    rw [Field.of_bit, show f.lo + (i - f.lo) = i from by omega]
    simp [show i - f.lo < f.width from by omega]
  · rfl

/-- After a write of its register, a field set to what it holds changes nothing. -/
theorem Dev.put_get_put (d : Dev) (f g : Field) (n : Nat) (h : g.addr = f.addr) :
    (d.put f n).put g ((d.put f n).get g) = d.put f n := by
  have hr : (d.put f n).put g ((d.put f n).get g) = (d.put f n).setReg f.addr ((d.put f n).reg f.addr) := by
    rw [Dev.put, Dev.get, Field.into_of, h]
  rw [hr, Dev.reg_put, if_pos rfl]
  exact congrArg (fun r => ({ d with regs := r } : Dev)) (sparseSet_sparseSet _ _ _ _)

/-! ### Events (R339) -/

theorem Dev.seqEvents_eq (d : Dev) (rd : BitVec 4) (v : Nat) :
    d.seqEvents rd v = { d.setG rd (BitVec.ofNat 32 v) with
      seq := { (d.setG rd (BitVec.ofNat 32 v)).seq with e := decide (v ≠ 0) } } := by
  have h : (v != 0) = decide (v ≠ 0) := by simp [bne, beq_eq_decide]
  unfold Dev.seqEvents
  rw [h]

@[simp] theorem Dev.seqEvents_get (d : Dev) (rd : BitVec 4) (v : Nat) (f : Field) : (d.seqEvents rd v).get f = d.get f :=
  Dev.get_setG d rd _ f

@[simp] theorem Dev.seqEvents_pc (d : Dev) (rd : BitVec 4) (v : Nat) : (d.seqEvents rd v).seq.pc = d.seq.pc :=
  Dev.setG_seq_pc d rd _

theorem Dev.seqEvents_counting (d : Dev) (rd : BitVec 4) (v : Nat) : (d.seqEvents rd v).counting = d.counting :=
  Dev.setG_counting d rd _

theorem Dev.seqEvents_seq (d : Dev) (rd : BitVec 4) (v : Nat) :
    (d.seqEvents rd v).seq.budget = d.seq.budget ∧ (d.seqEvents rd v).seq.cycles = d.seq.cycles ∧
      (d.seqEvents rd v).seq.active = d.seq.active :=
  ⟨Dev.setG_seq_budget d rd _, Dev.setG_seq_cycles d rd _, Dev.setG_seq_active d rd _⟩

/-- Whether cycles count is read from SYS_STATUS alone. -/
theorem Dev.counting_put {d : Dev} {f : Field} (n : Nat) (h : R.SYS_STATUS ≠ f.addr) : (d.put f n).counting = d.counting := by
  unfold Dev.counting Dev.st
  rw [Dev.get_put_ne _ _ _ _ (.inl h)]

theorem insEvt_completes (cond rd : BitVec 4) (o : Op2) :
    CompletesWith (.insEvt cond rd o) cond 2 (fun d => d.seqEvents rd (d.evMasked (d.op2Z o))) :=
  insn_completes_with rfl (fun _ => rfl) (fun _ => rfl) (fun d => d.seqEvents_get ..) (fun d => d.seqEvents_counting ..)
    (fun d => d.seqEvents_seq ..)

theorem insEvc_completes (cond rd : BitVec 4) (o : Op2) :
    CompletesWith (.insEvc cond rd o) cond 2 (fun d => (d.seqEvents rd (d.evMasked (d.op2Z o))).put R.SEQ_EVPEND_EV
      (d.get R.SEQ_EVPEND_EV - d.evMasked (d.op2Z o))) := by
  refine insn_completes_with rfl (fun _ => rfl) (fun d => ?_) (fun d => ?_) (fun d => ?_) (fun d => d.seqEvents_seq ..)
  · rw [Dev.evClear, Dev.seqEvents_get]
  · exact (Dev.get_put_ne _ _ _ _ (.inl (by decide))).trans (d.seqEvents_get ..)
  · exact (Dev.counting_put _ (by decide)).trans (d.seqEvents_counting ..)

/-! ### Waits (R287, R338) -/

theorem Dev.seqWait_pending {d : Dev} {m : Word} (h : d.evMasked m ≠ 0) (rd : BitVec 4) (t : Word) :
    d.seqWait rd t m = (d.seqEvents rd (d.evMasked m), 2, .next) := if_pos h

/-- The core waits from now on, for at most `t` µs (0 stands for the tick period) and no more than the tick period. -/
def Dev.waiting (d : Dev) (rd : BitVec 4) (t m : Word) : Dev :=
  let n := if t.toNat = 0 then d.tickPeriod else min t.toNat d.tickPeriod
  ({ d with seq := { d.seq with wait := some ⟨rd.toNat, m.toNat % 2048, d.clock, d.clock + n⟩ } } : Dev).put
    R.SEQ_STATUS_STATE sqWaiting

theorem Dev.seqWait_begins {d : Dev} {m : Word} (h : d.evMasked m = 0) (rd : BitVec 4) (t : Word) :
    d.seqWait rd t m = (d.waiting rd t m, 2, .stop) := if_neg (not_not.2 h)

theorem Dev.waiting_sq (d : Dev) (rd : BitVec 4) (t m : Word) : (d.waiting rd t m).sq = sqWaiting :=
  Dev.get_put_self _ _ _ (by decide)

theorem Dev.waiting_entry (d : Dev) (rd : BitVec 4) (t m : Word) :
    (d.waiting rd t m).get R.SEQ_STATUS_ENTRY = d.get R.SEQ_STATUS_ENTRY :=
  Dev.get_put_ne _ _ _ _ (.inr (by decide))

theorem Dev.waiting_roomFor {d : Dev} {k : Nat} (h : d.roomFor k) (rd : BitVec 4) (t m : Word) :
    (d.waiting rd t m).roomFor k := fun hc => h ((Dev.counting_put _ (by decide)).symm.trans hc)

/-- A WAIT that goes on is no boundary between instructions: its cycles count, and the core stays where it is (R288). -/
theorem Dev.seqStopped_waiting {d : Dev} {k : Nat} (a : Nat) (hs : d.sq = sqWaiting) (hr : d.roomFor k)
    (he : d.put R.SEQ_STATUS_ENTRY (d.get R.SEQ_STATUS_ENTRY) = d) :
    d.seqStopped (d.get R.SEQ_STATUS_ENTRY) k a = d.ran k d.seq.pc := by
  have hn : ¬((d.get R.SEQ_STATUS_STATE = 1 ∨ d.get R.SEQ_STATUS_STATE = 4) ∧ (d.ran k d.seq.pc).seqSpent = true) := by
    rw [show d.get R.SEQ_STATUS_STATE = 3 from hs]
    simp
  unfold Dev.seqStopped
  rw [he, Dev.seqCount_room hr]
  dsimp only
  rw [if_neg hn]
  exact congrArg (fun r => ({ d.ran k d.seq.pc with regs := r } : Dev)) (congrArg Dev.regs he)

theorem Dev.seqInsn_wait {d : Dev} {w : Word} {cond rd : BitVec 4} {t m : Dev → Word} (h : d.about w cond)
    (hv : d.evMasked (m d) = 0) (hr : d.roomFor 2) :
    d.seqInsn w cond (fun d => d.seqWait rd (t d) (m d)) = (d.waiting rd (t d) (m d)).ran 2 d.seq.pc := by
  rw [Dev.seqInsn_body h (Dev.seqWait_begins hv rd (t d))]
  dsimp only
  rw [← Dev.waiting_entry d rd (t d) (m d),
    Dev.seqStopped_waiting _ (d.waiting_sq ..) (Dev.waiting_roomFor hr _ _ _) (Dev.put_get_put _ _ _ _ rfl)]
  rfl

/-- A WAIT with no event of its mask pending leaves the core waiting at its own address. -/
theorem insWait_begins {s : State} {w : Word} {cond rd rs : BitVec 4} {o : Op2} (hw : coreWord (.insWait cond rd rs o) = some w)
    (ha : s.dev.about w cond) (hv : s.dev.evMasked (s.dev.op2Z o) = 0) (hr : s.dev.roomFor 2) :
    Sys2Proof.Machine.exec (.insWait cond rd rs o) s =
      .next { s with dev := (s.dev.waiting rd (s.dev.g rs) (s.dev.op2Z o)).ran 2 s.dev.seq.pc } := by
  cases hw
  rw [← Dev.seqInsn_wait (t := fun d => d.g rs) (m := fun d => d.op2Z o) ha hv hr]
  exact act_live ha.1 (fun d => d.seqInsn _ cond (fun d => d.seqWait rd (d.g rs) (d.op2Z o)))

/-- A WAIT with an event of its mask pending does what EVT does. -/
theorem insWait_completes (cond rd rs : BitVec 4) (o : Op2) :
    CompletesWhen (.insWait cond rd rs o) cond (fun d => d.evMasked (d.op2Z o) ≠ 0) (fun _ => 2)
      (fun d => d.seqEvents rd (d.evMasked (d.op2Z o))) :=
  insn_completes rfl (fun _ => rfl) (fun d h => Dev.seqWait_pending h rd (d.g rs)) (fun d _ => d.seqEvents_get ..)
    (fun d _ => d.seqEvents_counting ..) (fun d _ => d.seqEvents_seq ..)

/-- What the end of the wait `x` leaves before the core goes on. -/
def Dev.woken (d : Dev) (x : WaitInfo) : Dev :=
  let v := d.get R.SEQ_EVPEND_EV &&& x.mask
  let d1 := d.seqEvents (BitVec.ofNat 4 x.rd) v
  let d2 := (if v = 0 then d1.inc R.SEQ_COUNTS_WAITTO else d1).put R.SEQ_STATUS_STATE sqBusy
  { d2 with seq := { d2.seq with wait := none } }

theorem Dev.woken_pc (d : Dev) (x : WaitInfo) : (d.woken x).seq.pc = d.seq.pc := by
  unfold Dev.woken
  by_cases hv : d.get R.SEQ_EVPEND_EV &&& x.mask = 0 <;> simp [hv]

theorem Dev.waitEnd_ends {d : Dev} {x : WaitInfo} (hl : d.seqLive = true) (hs : d.sq = sqWaiting) (hx : d.seq.wait = some x)
    (h : d.get R.SEQ_EVPEND_EV &&& x.mask ≠ 0 ∨ x.until_ ≤ d.clock) :
    d.waitEnd = (d.woken x).seqDone d.seq.pc (d.seq.pc + 1) := by
  have h' : ¬(d.get R.SEQ_EVPEND_EV &&& x.mask = 0 ∧ d.clock < x.until_) := by omega
  rw [← Dev.woken_pc d x]
  simp only [Dev.waitEnd, hx, hl, hs, h', Bool.not_true, bne_self_eq_false, Bool.or_self, Bool.false_eq_true, if_false]
  rfl

theorem Dev.waitEnd_early {d : Dev} {x : WaitInfo} (hx : d.seq.wait = some x) (hv : d.get R.SEQ_EVPEND_EV &&& x.mask = 0)
    (hc : d.clock < x.until_) : d.waitEnd = d := by
  simp [Dev.waitEnd, hx, hv, hc]

/-- WAIT_END, when it is due, wakes the core and goes on at the next word. -/
theorem waitEnd_goesOn {s : State} {x : WaitInfo} (h0 : s.dev.sys.inReset = false) (hl : s.dev.seqLive = true)
    (hs : s.dev.sq = sqWaiting) (hx : s.dev.seq.wait = some x)
    (h : s.dev.get R.SEQ_EVPEND_EV &&& x.mask ≠ 0 ∨ x.until_ ≤ s.dev.clock) :
    Sys2Proof.Machine.exec .waitEnd s =
      .next { s with dev := (s.dev.woken x).seqDone s.dev.seq.pc (s.dev.seq.pc + 1) } := by
  rw [← Dev.waitEnd_ends hl hs hx h]
  exact act_live h0 _

/-! ### Conditions (R313, R315) -/

theorem encAlu_cond (cond : BitVec 4) (op : BitVec 6) (s : Bool) (rd rs : BitVec 4) (o : Op2) :
    (encAlu cond op s rd rs o).extractLsb' 28 4 = cond := by
  change BitVec.extractLsb' (n := 4 + 6 + 1 + 4 + 4 + 13) 28 4 (cond ++ op ++ BitVec.ofBool s ++ rd ++ rs ++ op2Bits o) = cond
  iterate 5 rw [BitVec.extractLsb'_append_eq_of_le (by decide)]
  exact BitVec.extractLsb'_eq_self

theorem encBranch_cond (cond : BitVec 4) (op : BitVec 6) (disp : BitVec 22) :
    (encBranch cond op disp).extractLsb' 28 4 = cond := by
  change BitVec.extractLsb' (n := 4 + 6 + 22) 28 4 (cond ++ op ++ disp) = cond
  iterate 2 rw [BitVec.extractLsb'_append_eq_of_le (by decide)]
  exact BitVec.extractLsb'_eq_self

theorem encLong_cond (cond : BitVec 4) (op : BitVec 6) (rd : BitVec 4) (mode : BitVec 2) (imm : BitVec 16) :
    (encLong cond op rd mode imm).extractLsb' 28 4 = cond := by
  change BitVec.extractLsb' (n := 4 + 6 + 4 + 2 + 16) 28 4 (cond ++ op ++ rd ++ mode ++ imm) = cond
  iterate 4 rw [BitVec.extractLsb'_append_eq_of_le (by decide)]
  exact BitVec.extractLsb'_eq_self

/-- A command that has a word is the execution of that word, under the condition in its bits [31:28]. -/
theorem exec_of_coreWord {i : Instr} {w : Word} (hw : coreWord i = some w) :
    ∃ body, ∀ s, Sys2Proof.Machine.exec i s = act s (fun d => d.seqInsn w (w.extractLsb' 28 4) body) := by
  unfold coreWord at hw
  split at hw <;> cases hw
  all_goals
    simp only [encMem, encAlu_cond, encBranch_cond, encLong_cond]
    exact ⟨_, fun _ => rfl⟩

/-! ### The obligations -/

/-- Settles O9: the sums and differences by `aluAdd_eq` and `aluSub_eq`, the rest by what each operation writes. -/
theorem aluResultsAndFlags : Obligations.AluResultsAndFlags := by
  intro cond sf rd rs o
  refine ⟨?add, ?addc, ?sub, ?subb, ?absd, ?and, ?or, ?xor, ?andn, ?mov, ?not⟩
  case add => exact alu_completes rfl (fun _ => rfl) (fun d => by simp [aluAdd_eq])
  case addc => exact alu_completes rfl (fun _ => rfl) (fun d => by simp [aluAdd_eq])
  case sub => exact alu_completes rfl (fun _ => rfl) (fun d => by simp [aluSub_eq])
  case subb => exact alu_completes rfl (fun _ => rfl) (fun d => by simp [aluSub_eq])
  case absd => exact alu_completes rfl (fun _ => rfl) (fun _ => rfl)
  all_goals exact plain_completes rfl (fun _ => rfl)

/-- Settles O10: the shifted words are the model's, and each bit of theirs is what `Word.shl_bit` and its like say; the
count is `clzN`, by `clzN_spec`. -/
theorem shiftsAndLeadingZeros : Obligations.ShiftsAndLeadingZeros := by
  refine ⟨fun cond sf rd rs o => ?shifts, fun cond sf rd rs => ?clz⟩
  case shifts =>
    refine ⟨fun d => d.g rs <<< d.amount o, fun d => d.g rs >>> d.amount o, fun d => (d.g rs).sshiftRight (d.amount o),
      fun d => (d.g rs).rotateRight (d.amount o), ?bits, ?shl, ?shr, ?sar, ?ror⟩
    case bits =>
      exact fun d => ⟨d.amount_lt o, fun i hi => ⟨Word.shl_bit _ _ i hi, Word.shr_bit _ _ i, Word.sar_bit _ _ i hi,
        Word.ror_bit _ _ i (d.amount_lt o) hi⟩⟩
    all_goals exact alu_completes rfl (fun _ => rfl) (fun _ => rfl)
  case clz =>
    refine ⟨fun d => clzN 32 (d.g rs), fun d => ?_, plain_completes rfl (fun _ => rfl)⟩
    obtain ⟨hle, hlt, hne, hzero⟩ := clzN_spec 32 (d.g rs) (Nat.le_refl 32) (d.g rs).isLt
    exact ⟨hle, hlt, fun h => ⟨(hne h).2, Nat.le_of_succ_le_succ (hne h).1⟩, hzero⟩

/-- Settles O11: each product is the model's by its equation. -/
theorem multiplyResults : Obligations.MultiplyResults := by
  intro cond sf rd rs o
  refine ⟨?mul, ?mac, ?mulhs, ?mulhu⟩
  case mul => exact alu_completes rfl (fun _ => rfl) (fun d => by rw [← Word.mul_eq_ofInt]; rfl)
  case mac =>
    refine alu_completes rfl (fun _ => rfl) (fun d => ?_)
    rw [BitVec.ofInt_add, BitVec.ofInt_toInt, ← Word.mul_eq_ofInt]
    rfl
  case mulhs => exact alu_completes rfl (fun _ => rfl) (fun d => by rw [aluMulhs_eq]; rfl)
  case mulhu => exact alu_completes rfl (fun _ => rfl) (fun d => by rw [aluMulhu_eq]; rfl)

/-- Settles O12: a divisor that is not 0 by `div_completes`, a divisor of 0 by `div_faults`. -/
theorem divisionResults : Obligations.DivisionResults := by
  intro cond sf rd rs o
  refine ⟨?divs, ?divu, ?rems, ?remu, ?_, ?_, ?_, ?_⟩
  case divs => exact div_completes rfl (fun _ => rfl) (fun d h => by rw [aluDivs_eq _ _ h])
  case divu => exact div_completes rfl (fun _ => rfl) (fun _ _ => rfl)
  case rems => exact div_completes rfl (fun _ => rfl) (fun d _ => by rw [aluRems_eq]; rfl)
  case remu => exact div_completes rfl (fun _ => rfl) (fun _ _ => rfl)
  all_goals exact div_faults rfl (fun _ => rfl)

/-- Settles O13: the bits of the bitfields by `aluBfx_bit`, `aluBfxs_bit` and `aluBfi_bit`. -/
theorem fieldsAndMoves : Obligations.FieldsAndMoves := by
  intro cond sf rd rs lsb wm1 o imm
  refine ⟨fun _ => ⟨fun d => aluBfx (d.g rs) lsb wm1, fun d => aluBfxs (d.g rs) lsb wm1,
    fun d => aluBfi (d.g rd) (d.g rs) lsb wm1, ?bits, ?bfx, ?bfxs, ?bfi⟩, ?lo, ?los, ?hi, ?mrf, ?mwf⟩
  case bits => exact fun d i hi => ⟨aluBfx_bit _ _ _ i hi, aluBfxs_bit _ _ _ i hi, aluBfi_bit _ _ _ _ i hi⟩
  case mrf =>
    simp only [← Seq.flagWord_eq]
    exact move_completes rfl (fun _ => rfl)
  case mwf =>
    exact insn_completes_with rfl (fun _ => rfl) (fun _ => rfl) (fun _ => rfl) (fun _ => rfl) (fun _ => ⟨rfl, rfl, rfl⟩)
  case bfx | bfxs | bfi => exact plain_completes rfl (fun _ => rfl)
  case lo | los | hi => exact move_completes rfl (fun _ => rfl)

/-- Settles O18: a jump or a call to the target that the instruction names. -/
theorem branchesAndCalls : Obligations.BranchesAndCalls := by
  intro cond rs disp target link
  exact ⟨jump_branches rfl (fun _ => rfl), call_branches rfl (fun _ => rfl), jump_branches rfl (fun _ => rfl),
    call_branches rfl (fun _ => rfl)⟩

/-- Settles O19: each command by its own lemma. The point that needs care is a WAIT that goes on: `seqStopped` writes ENTRY
twice with what it holds, which leaves the registers as they are (`Dev.put_get_put`, `Dev.seqStopped_waiting`). -/
theorem eventsAndWaiting : Obligations.EventsAndWaiting := by
  intro cond rd rs o ev take
  have htake : take = Dev.seqEvents := by
    funext d rd v
    exact (Dev.seqEvents_eq d rd v).symm
  rw [htake]
  refine ⟨insEvt_completes cond rd o, insEvc_completes cond rd o, insWait_completes cond rd rs o,
    fun s w => insWait_begins, fun s x h0 hon => waitEnd_goesOn h0 ?live, fun x => ?early⟩
  case live =>
    unfold Dev.seqLive
    rw [show s.dev.domOn 0 = true from hon, Bool.true_or]
  case early =>
    exact does_of_act (fun _ => rfl) fun d _ ⟨hx, hv, hc⟩ => Dev.waitEnd_early hx hv hc

/-- Settles O21: whatever the instruction is, it executes its word (`exec_of_coreWord`), and a condition that fails skips
it. -/
theorem failedConditionDoesNothing : Obligations.FailedConditionDoesNothing := by
  intro i w s hw hl hr ha hc hk hn
  obtain ⟨body, he⟩ := exec_of_coreWord hw
  rw [he, act_live hr, Dev.seqInsn_skip body ha hl hc hk hn]

end Sys2Proof.Machine
end

section
/-!
Proofs for the words of the core (chapter 11): the fields of a word, which words are legal, the instruction of a legal word
and the word put together again from its fields; then the statements O7 and O8.
-/

namespace Sys2Proof.Machine
set_option Elab.async false

/-! ### The fields of a word (R312) -/

theorem bits_eq (w : Word) (hi lo : Nat) : bits w hi lo = (w.extractLsb' lo (hi + 1 - lo)).toNat := by
  rw [bits, BitVec.extractLsb'_toNat, Nat.shiftRight_eq_div_pow]

section
variable (cond : BitVec 4) (op : BitVec 6) (s : Bool) (rd rs : BitVec 4) (o : Op2)

theorem encAlu_fields :
    (encAlu cond op s rd rs o).extractLsb' 22 6 = op ∧ (encAlu cond op s rd rs o).extractLsb' 21 1 = BitVec.ofBool s ∧
    (encAlu cond op s rd rs o).extractLsb' 17 4 = rd ∧ (encAlu cond op s rd rs o).extractLsb' 13 4 = rs ∧
    (encAlu cond op s rd rs o).extractLsb' 0 13 = op2Bits o := by
  change BitVec.extractLsb' (n := 4 + 6 + 1 + 4 + 4 + 13) 22 6 (cond ++ op ++ BitVec.ofBool s ++ rd ++ rs ++ op2Bits o) = _ ∧
    BitVec.extractLsb' (n := 4 + 6 + 1 + 4 + 4 + 13) 21 1 (cond ++ op ++ BitVec.ofBool s ++ rd ++ rs ++ op2Bits o) = _ ∧
    BitVec.extractLsb' (n := 4 + 6 + 1 + 4 + 4 + 13) 17 4 (cond ++ op ++ BitVec.ofBool s ++ rd ++ rs ++ op2Bits o) = _ ∧
    BitVec.extractLsb' (n := 4 + 6 + 1 + 4 + 4 + 13) 13 4 (cond ++ op ++ BitVec.ofBool s ++ rd ++ rs ++ op2Bits o) = _ ∧
    BitVec.extractLsb' (n := 4 + 6 + 1 + 4 + 4 + 13) 0 13 (cond ++ op ++ BitVec.ofBool s ++ rd ++ rs ++ op2Bits o) = _
  simp (disch := decide) only [BitVec.extractLsb'_append_eq_of_le, BitVec.extractLsb'_append_eq_of_add_le]
  simp

theorem bits_op_encAlu : bits (encAlu cond op s rd rs o) 27 22 = op.toNat := by
  rw [bits_eq]
  exact congrArg BitVec.toNat (encAlu_fields ..).1

theorem flag_encAlu : ((encAlu cond op s rd rs o)[21]) = s := by
  have h := congrArg (·.getLsbD 0) (encAlu_fields cond op s rd rs o).2.1
  simpa using h

theorem rd_encAlu : (encAlu cond op s rd rs o).extractLsb' 17 4 = rd := (encAlu_fields ..).2.2.1
theorem rs_encAlu : (encAlu cond op s rd rs o).extractLsb' 13 4 = rs := (encAlu_fields ..).2.2.2.1


/-- The bits of the second operand, each a bit of the word. -/
theorem low_encAlu {k n : Nat} (h : k + n ≤ 13) :
    (encAlu cond op s rd rs o).extractLsb' k n = (op2Bits o).extractLsb' k n := by
  rw [← (encAlu_fields cond op s rd rs o).2.2.2.2, BitVec.extractLsb'_extractLsb'_of_le h]

theorem wordOp2_encAlu : wordOp2 (encAlu cond op s rd rs o) = o := by
  have hb : (encAlu cond op s rd rs o).getLsbD 12 = (op2Bits o).getLsbD 12 := by
    have h := congrArg (·.getLsbD 0) (low_encAlu cond op s rd rs o (k := 12) (n := 1) (by decide))
    simpa using h
  unfold wordOp2
  rw [hb, low_encAlu _ _ _ _ _ _ (by decide), low_encAlu _ _ _ _ _ _ (by decide), low_encAlu _ _ _ _ _ _ (by decide),
    low_encAlu _ _ _ _ _ _ (by decide)]
  cases o with
  | reg rt scale ext =>
    have h0 : BitVec.getLsbD (w := 1 + 4 + 5 + 2 + 1) (0#1 ++ rt ++ scale ++ ext ++ 0#1) 12 = false := by
      simp only [BitVec.getLsbD_append]
      rfl
    change (if BitVec.getLsbD (w := 1 + 4 + 5 + 2 + 1) (0#1 ++ rt ++ scale ++ ext ++ 0#1) 12 = true then _ else
      Op2.reg (BitVec.extractLsb' (n := 1 + 4 + 5 + 2 + 1) 8 4 (0#1 ++ rt ++ scale ++ ext ++ 0#1))
        (BitVec.extractLsb' (n := 1 + 4 + 5 + 2 + 1) 3 5 (0#1 ++ rt ++ scale ++ ext ++ 0#1))
        (BitVec.extractLsb' (n := 1 + 4 + 5 + 2 + 1) 1 2 (0#1 ++ rt ++ scale ++ ext ++ 0#1))) = _
    rw [h0]
    simp (disch := decide) only [BitVec.extractLsb'_append_eq_of_le, BitVec.extractLsb'_append_eq_of_add_le]
    simp
  | imm v =>
    have h1 : BitVec.getLsbD (w := 1 + 12) (1#1 ++ v) 12 = true := by
      simp only [BitVec.getLsbD_append]
      rfl
    change (if BitVec.getLsbD (w := 1 + 12) (1#1 ++ v) 12 = true then
      Op2.imm (BitVec.extractLsb' (n := 1 + 12) 0 12 (1#1 ++ v)) else _) = _
    rw [h1, if_pos rfl, BitVec.extractLsb'_append_eq_of_add_le (by decide), BitVec.extractLsb'_eq_self]

/-- The two numbers of a bitfield operand (R326). -/
theorem field_encAlu (lsb wm1 : BitVec 5) :
    (encAlu cond op s rd rs (opField lsb wm1)).extractLsb' 0 5 = lsb ∧
      (encAlu cond op s rd rs (opField lsb wm1)).extractLsb' 5 5 = wm1 := by
  rw [low_encAlu _ _ _ _ _ _ (by decide), low_encAlu _ _ _ _ _ _ (by decide)]
  change BitVec.extractLsb' (n := 1 + (2 + 5 + 5)) 0 5 (1#1 ++ (0#2 ++ wm1 ++ lsb)) = lsb ∧
    BitVec.extractLsb' (n := 1 + (2 + 5 + 5)) 5 5 (1#1 ++ (0#2 ++ wm1 ++ lsb)) = wm1
  simp (disch := decide) only [BitVec.extractLsb'_append_eq_of_le, BitVec.extractLsb'_append_eq_of_add_le]
  simp

theorem encBranch_fields (disp : BitVec 22) : bits (encBranch cond op disp) 27 22 = op.toNat ∧
    (encBranch cond op disp).extractLsb' 0 22 = disp := by
  rw [bits_eq]
  change (BitVec.extractLsb' (n := 4 + 6 + 22) 22 6 (cond ++ op ++ disp)).toNat = _ ∧
    BitVec.extractLsb' (n := 4 + 6 + 22) 0 22 (cond ++ op ++ disp) = _
  simp (disch := decide) only [BitVec.extractLsb'_append_eq_of_le, BitVec.extractLsb'_append_eq_of_add_le]
  simp

theorem encLong_fields (mode : BitVec 2) (imm : BitVec 16) : bits (encLong cond op rd mode imm) 27 22 = op.toNat ∧
    (encLong cond op rd mode imm).extractLsb' 18 4 = rd ∧ (encLong cond op rd mode imm).extractLsb' 16 2 = mode ∧
    (encLong cond op rd mode imm).extractLsb' 0 16 = imm := by
  rw [bits_eq]
  change (BitVec.extractLsb' (n := 4 + 6 + 4 + 2 + 16) 22 6 (cond ++ op ++ rd ++ mode ++ imm)).toNat = _ ∧
    BitVec.extractLsb' (n := 4 + 6 + 4 + 2 + 16) 18 4 (cond ++ op ++ rd ++ mode ++ imm) = _ ∧
    BitVec.extractLsb' (n := 4 + 6 + 4 + 2 + 16) 16 2 (cond ++ op ++ rd ++ mode ++ imm) = _ ∧
    BitVec.extractLsb' (n := 4 + 6 + 4 + 2 + 16) 0 16 (cond ++ op ++ rd ++ mode ++ imm) = _
  simp (disch := decide) only [BitVec.extractLsb'_append_eq_of_le, BitVec.extractLsb'_append_eq_of_add_le]
  simp

end

/-! ### The instruction of a word -/

/-- The fields of an instruction's word are its operands. -/
theorem coreDecode_of_legal {i : Instr} {w : Word} (hw : coreWord i = some w) (hl : illegal w = false) :
    coreDecode w = some i := by
  unfold coreDecode
  rw [hl]
  unfold coreWord at hw
  split at hw <;> cases hw
  all_goals simp [encMem, bits_op_encAlu, encAlu_cond, flag_encAlu, rd_encAlu, rs_encAlu, wordOp2_encAlu, field_encAlu,
    encBranch_fields, encBranch_cond, encLong_fields, encLong_cond]

/-! ### A legal word from its fields (R314) -/

section
variable {w : Word}

theorem legal_low (hl : illegal w = false) (ho : opAlu (bits w 27 22) = true ∨ opMem (bits w 27 22) = true)
    (h : bits w 12 12 = 0) : bits w 0 0 = 0 := by
  have hlt : bits w 0 0 < 2 := Nat.mod_lt _ (by decide)
  have hm : bits w 2 0 = 0 → bits w 0 0 = 0 := by
    simp only [bits]
    omega
  unfold illegal at hl
  rcases ho with ho | ho
  · simp [ho, h] at hl
    omega
  · simp [ho, h] at hl
    exact hm (by tauto)

theorem legal_flag (hl : illegal w = false)
    (ho : opMem (bits w 27 22) = true ∨ (opAlu (bits w 27 22) = true ∧ opFlags (bits w 27 22) = false)) :
    bits w 21 21 = 0 := by
  have hlt : bits w 21 21 < 2 := Nat.mod_lt _ (by decide)
  unfold illegal at hl
  rcases ho with ho | ⟨ho, hf⟩
  · simp [ho] at hl
    omega
  · simp [ho, hf] at hl
    omega

theorem legal_forms (hl : illegal w = false) :
    unusedBad (bits w 27 22) w = false ∧ operandBad (bits w 27 22) w = false := by
  unfold illegal at hl
  simp at hl
  tauto

theorem extract_of_bits {lo k : Nat} {n : BitVec k} {hi : Nat} (hk : hi + 1 - lo = k) (h : bits w hi lo = n.toNat) :
    w.extractLsb' lo k = n := by
  subst hk
  rw [bits_eq] at h
  exact BitVec.eq_of_toNat_eq h

theorem bit_eq (k : Nat) (hk : k < 32) : w[k] = decide (bits w k k = 1) := by
  rw [← BitVec.getLsbD_eq_getElem, bits, show k + 1 - k = 1 by omega, BitVec.getLsbD, Nat.testBit_eq_decide_div_mod_eq, pow_one]

/-- The bits [12:0] of a word with a legal second operand spell that operand (R316). -/
theorem op2Bits_wordOp2 (h : bits w 12 12 = 0 → bits w 0 0 = 0) : op2Bits (wordOp2 w) = w.extractLsb' 0 13 := by
  have hlt : bits w 12 12 < 2 := Nat.mod_lt _ (by decide)
  unfold wordOp2
  rw [BitVec.getLsbD_eq_getElem (by decide), bit_eq 12 (by decide)]
  rcases Nat.lt_succ_iff_lt_or_eq.1 hlt with h0 | h1
  · have h0 : bits w 12 12 = 0 := by omega
    rw [h0, if_neg (by decide)]
    change 0#1 ++ w.extractLsb' 8 4 ++ w.extractLsb' 3 5 ++ w.extractLsb' 1 2 ++ 0#1 = _
    rw [← extract_of_bits (n := 0#1) (lo := 12) (hi := 12) rfl h0]
    conv_lhs => rhs; rw [extract_of_bits (n := 0#1) (lo := 12) (hi := 12) rfl h0,
      ← extract_of_bits (n := 0#1) (lo := 0) (hi := 0) rfl (h h0)]
    iterate 4 rw [BitVec.extractLsb'_append_extractLsb'_eq_extractLsb' (by decide)]
  · rw [h1, if_pos (by decide)]
    change 1#1 ++ w.extractLsb' 0 12 = _
    rw [← extract_of_bits (n := 1#1) (lo := 12) (hi := 12) rfl h1]
    rw [BitVec.extractLsb'_append_extractLsb'_eq_extractLsb' (by decide)]

theorem bits_zero_of_le {hi lo hi' lo' : Nat} (h : bits w hi lo = 0) (h1 : lo ≤ lo') (h2 : hi' ≤ hi) : bits w hi' lo' = 0 := by
  apply Nat.eq_of_testBit_eq
  intro i
  have hb := congrArg (·.testBit (lo' - lo + i)) h
  simp only [bits, Nat.testBit_mod_two_pow, Nat.testBit_div_two_pow, Nat.zero_testBit, Bool.and_eq_false_iff,
    decide_eq_false_iff_not] at hb ⊢
  rcases hb with hb | hb
  · exact .inl (by omega)
  · exact .inr (by rw [← hb]; congr 1; omega)

/-- Bits [12:0] all 0 spell an unscaled g0. -/
theorem op2Bits_zero (h : bits w 12 0 = 0) : op2Bits (opReg 0) = w.extractLsb' 0 13 :=
  (extract_of_bits (n := op2Bits (opReg 0)) (hi := 12) rfl h).symm

/-- The bits [12:0] of a word with a legal bitfield operand (R326). -/
theorem op2Bits_opField (h1 : bits w 12 12 = 1) (h2 : bits w 11 10 = 0) :
    op2Bits (opField (w.extractLsb' 0 5) (w.extractLsb' 5 5)) = w.extractLsb' 0 13 := by
  change 1#1 ++ (0#2 ++ _ ++ _) = _
  rw [← extract_of_bits (n := 1#1) (lo := 12) (hi := 12) rfl h1, ← extract_of_bits (n := 0#2) (lo := 10) (hi := 11) rfl h2]
  iterate 3 rw [BitVec.extractLsb'_append_extractLsb'_eq_extractLsb' (by decide)]

/-- A word is put together from its fields. -/
theorem encAlu_of_fields {op : BitVec 6} {s : Bool} {rd rs : BitVec 4} {o : Op2} (hop : bits w 27 22 = op.toNat)
    (hs : w[21] = s) (hrd : w.extractLsb' 17 4 = rd) (hrs : w.extractLsb' 13 4 = rs) (ho : op2Bits o = w.extractLsb' 0 13) :
    encAlu (w.extractLsb' 28 4) op s rd rs o = w := by
  have hop' : w.extractLsb' 22 6 = op := by
    rw [bits_eq] at hop
    exact BitVec.eq_of_toNat_eq hop
  have hs' : BitVec.ofBool s = w.extractLsb' 21 1 := by
    subst hs
    ext i hi
    obtain rfl : i = 0 := by omega
    simp
  unfold encAlu
  rw [← hop', hs', ← hrd, ← hrs, ho]
  iterate 5 rw [BitVec.extractLsb'_append_extractLsb'_eq_extractLsb' (by decide)]
  simp

theorem encBranch_of_fields {op : BitVec 6} {disp : BitVec 22} (hop : bits w 27 22 = op.toNat)
    (hd : w.extractLsb' 0 22 = disp) : encBranch (w.extractLsb' 28 4) op disp = w := by
  have hop' : w.extractLsb' 22 6 = op := by
    rw [bits_eq] at hop
    exact BitVec.eq_of_toNat_eq hop
  unfold encBranch
  rw [← hop', ← hd]
  iterate 2 rw [BitVec.extractLsb'_append_extractLsb'_eq_extractLsb' (by decide)]
  simp

theorem encLong_of_fields {op : BitVec 6} (hop : bits w 27 22 = op.toNat) :
    encLong (w.extractLsb' 28 4) op (w.extractLsb' 18 4) (w.extractLsb' 16 2) (w.extractLsb' 0 16) = w := by
  have hop' : w.extractLsb' 22 6 = op := by
    rw [bits_eq] at hop
    exact BitVec.eq_of_toNat_eq hop
  unfold encLong
  rw [← hop']
  iterate 4 rw [BitVec.extractLsb'_append_extractLsb'_eq_extractLsb' (by decide)]
  simp

variable {op : BitVec 6}

/-- A word of the ALU format with every field in use. -/
theorem word_alu (hl : illegal w = false) (hop : bits w 27 22 = op.toNat) (hf : opAlu op.toNat = true) :
    some (encAlu (w.extractLsb' 28 4) op (w.getLsbD 21) (w.extractLsb' 17 4) (w.extractLsb' 13 4) (wordOp2 w)) = some w :=
  congrArg some (encAlu_of_fields hop rfl rfl rfl (op2Bits_wordOp2 (legal_low hl (.inl (hop ▸ hf)))))

theorem flag_clear {n : Nat} (hl : illegal w = false) (hop : bits w 27 22 = n)
    (hf : opMem n = true ∨ (opAlu n = true ∧ opFlags n = false)) : w[21] = false := by
  rw [bit_eq 21 (by decide), legal_flag hl (hop ▸ hf)]
  decide

/-- A word of the memory format, or of the ALU format without flags. -/
theorem word_noFlag (hl : illegal w = false) (hop : bits w 27 22 = op.toNat)
    (hf : opMem op.toNat = true ∨ (opAlu op.toNat = true ∧ opFlags op.toNat = false)) :
    some (encAlu (w.extractLsb' 28 4) op false (w.extractLsb' 17 4) (w.extractLsb' 13 4) (wordOp2 w)) = some w :=
  congrArg some (encAlu_of_fields hop (flag_clear hl hop hf) rfl rfl
    (op2Bits_wordOp2 (legal_low hl (hop ▸ hf.symm.imp_left (·.1)))))

/-- A word of the ALU format without rs. -/
theorem word_aluNoRs (hl : illegal w = false) (hop : bits w 27 22 = op.toNat) (hf : opAlu op.toNat = true)
    (hrs : bits w 16 13 = 0) :
    some (encAlu (w.extractLsb' 28 4) op (w.getLsbD 21) (w.extractLsb' 17 4) 0 (wordOp2 w)) = some w :=
  congrArg some (encAlu_of_fields hop rfl rfl (extract_of_bits (hi := 16) rfl hrs)
    (op2Bits_wordOp2 (legal_low hl (.inl (hop ▸ hf)))))

/-- A word of a bitfield instruction. -/
theorem word_field (hop : bits w 27 22 = op.toNat) (h : ¬bits w 12 12 = 0 ∧ bits w 11 10 = 0) :
    some (encAlu (w.extractLsb' 28 4) op (w.getLsbD 21) (w.extractLsb' 17 4) (w.extractLsb' 13 4)
      (opField (w.extractLsb' 0 5) (w.extractLsb' 5 5))) = some w :=
  congrArg some (encAlu_of_fields hop rfl rfl rfl (op2Bits_opField (by
    have hlt : bits w 12 12 < 2 := Nat.mod_lt _ (by decide)
    omega) h.2))
end

/-- The word of the instruction that a word decodes to is that word: by format, each field is where it was read. -/
theorem coreWord_of_decode {w : Word} {i : Instr} (hd : coreDecode w = some i) : coreWord i = some w := by
  unfold coreDecode at hd
  dsimp only at hd
  split at hd
  · cases hd
  · rename_i hl
    have hl := Bool.eq_false_iff.2 hl
    obtain ⟨hu, hp⟩ := legal_forms hl
    split at hd <;> cases hd
    case h_1.refl | h_2.refl | h_3.refl | h_4.refl | h_5.refl | h_6.refl | h_7.refl | h_8.refl | h_9.refl | h_12.refl | h_13.refl
        | h_14.refl | h_15.refl | h_17.refl | h_18.refl | h_19.refl | h_20.refl | h_21.refl | h_22.refl | h_23.refl
        | h_24.refl =>
      exact word_alu hl ‹_› rfl
    case h_10.refl | h_11.refl =>
      exact word_aluNoRs hl ‹_› rfl (by simpa [unusedBad, *] using hu)
    case h_25.refl | h_26.refl | h_27.refl =>
      exact word_field ‹_› (by simp [operandBad, *] at hp; exact hp.1)
    case h_28.refl | h_29.refl | h_30.refl | h_31.refl | h_32.refl | h_33.refl | h_34.refl | h_35.refl | h_36.refl
        | h_37.refl | h_38.refl =>
      exact word_noFlag hl ‹_› (.inl rfl)
    case h_44.refl =>
      exact word_noFlag hl ‹_› (.inr ⟨rfl, rfl⟩)
    case h_39.refl | h_40.refl =>
      exact congrArg some (encBranch_of_fields ‹_› rfl)
    case h_43.refl =>
      exact congrArg some (encLong_of_fields ‹_›)
    case h_16.refl =>
      exact congrArg some (encAlu_of_fields ‹_› rfl rfl rfl (op2Bits_zero (by simpa [unusedBad, *] using hu)))
    case h_41.refl | h_42.refl =>
      have hz : bits w 20 17 = 0 ∧ bits w 12 0 = 0 := by simpa [unusedBad, *] using hu
      exact congrArg some (encAlu_of_fields ‹_› (flag_clear hl ‹_› (.inr ⟨rfl, rfl⟩)) (extract_of_bits (hi := 20) rfl hz.1) rfl
        (op2Bits_zero hz.2))
    case h_45.refl | h_46.refl =>
      exact congrArg some (encAlu_of_fields ‹_› (flag_clear hl ‹_› (.inr ⟨rfl, rfl⟩)) rfl
        (extract_of_bits (hi := 16) rfl (by simpa [unusedBad, *] using hu))
        (op2Bits_wordOp2 (legal_low hl (.inl (by rw [‹bits w 27 22 = _›]; rfl)))))
    case h_47.refl =>
      have hz : bits w 16 0 = 0 := by simpa [unusedBad, *] using hu
      exact congrArg some (encAlu_of_fields ‹_› (flag_clear hl ‹_› (.inr ⟨rfl, rfl⟩)) rfl
        (extract_of_bits (hi := 16) rfl (bits_zero_of_le hz (by decide) (by decide)))
        (op2Bits_zero (bits_zero_of_le hz (by decide) (by decide))))
    case h_48.refl =>
      have hz : bits w 20 13 = 0 := by simpa [unusedBad, *] using hu
      exact congrArg some (encAlu_of_fields ‹_› (flag_clear hl ‹_› (.inr ⟨rfl, rfl⟩))
        (extract_of_bits (hi := 20) rfl (bits_zero_of_le hz (by decide) (by decide)))
        (extract_of_bits (hi := 16) rfl (bits_zero_of_le hz (by decide) (by decide)))
        (op2Bits_wordOp2 (legal_low hl (.inl (by rw [‹bits w 27 22 = _›]; rfl)))))
    case h_49.refl | h_50.refl | h_51.refl =>
      exact congrArg some (encBranch_of_fields ‹_› (extract_of_bits (hi := 21) rfl (by simpa [unusedBad, *] using hu)))

/-- Every legal word has an instruction: the opcodes without one are illegal. -/
theorem coreDecode_some {w : Word} (hl : illegal w = false) : ∃ i, coreDecode w = some i := by
  have hlt : bits w 27 22 < 64 := Nat.mod_lt _ (by decide)
  have : 0x3D ≤ bits w 27 22 → illegal w = true := by unfold illegal; intro h; simp [h]
  have : 0x1B ≤ bits w 27 22 → bits w 27 22 ≤ 0x1F → illegal w = true := by unfold illegal; intro h h'; simp [h, h']
  have : 0x2B ≤ bits w 27 22 → bits w 27 22 ≤ 0x2F → illegal w = true := by unfold illegal; intro h h'; simp [h, h']
  unfold coreDecode
  dsimp only
  rw [if_neg (by simp [hl])]
  split
  any_goals exact ⟨_, rfl⟩
  exfalso
  rw [hl] at *
  simp at *
  omega



section
variable (cond : BitVec 4) (op : BitVec 6) (s : Bool) (rd rs : BitVec 4) (o : Op2)

/-- The fields of an ALU or memory word as numbers. -/
theorem encAlu_bits : bits (encAlu cond op s rd rs o) 21 21 = s.toNat ∧ bits (encAlu cond op s rd rs o) 20 17 = rd.toNat ∧
    bits (encAlu cond op s rd rs o) 16 13 = rs.toNat ∧ bits (encAlu cond op s rd rs o) 12 0 = (op2Bits o).toNat := by
  obtain ⟨_, hs, hrd, hrs, ho⟩ := encAlu_fields cond op s rd rs o
  simp only [bits_eq, Nat.reduceAdd, Nat.reduceSub, hs, hrd, hrs, ho, BitVec.toNat_ofBool, and_self]

end

section
variable {w : Word}

theorem legal_clz (hop : bits w 27 22 = 0x0F) (h : bits w 12 0 = 0) : illegal w = false := by
  simp [illegal, hop, opAlu, opMem, opFlags, unusedBad, operandBad, h, bits_zero_of_le h]

theorem legal_jump (hop : bits w 27 22 = 0x32 ∨ bits w 27 22 = 0x33) (h21 : bits w 21 21 = 0) (h20 : bits w 20 17 = 0)
    (h : bits w 12 0 = 0) : illegal w = false := by
  rcases hop with hop | hop <;>
    simp [illegal, hop, opAlu, opMem, opFlags, unusedBad, operandBad, h21, h20, h, bits_zero_of_le h]

theorem legal_mrf (hop : bits w 27 22 = 0x38) (h21 : bits w 21 21 = 0) (h : bits w 16 0 = 0) : illegal w = false := by
  simp [illegal, hop, opAlu, opMem, opFlags, unusedBad, operandBad, h21, h, bits_zero_of_le h]

theorem legal_end (hop : bits w 27 22 = 0x3A ∨ bits w 27 22 = 0x3B ∨ bits w 27 22 = 0x3C) (h : bits w 21 0 = 0) :
    illegal w = false := by
  rcases hop with hop | hop | hop <;>
    simp [illegal, hop, opAlu, opMem, opFlags, unusedBad, operandBad, h, bits_zero_of_le h]

theorem legal_branch (hop : bits w 27 22 = 0x30 ∨ bits w 27 22 = 0x31) : illegal w = false := by
  rcases hop with hop | hop <;> simp [illegal, hop, opAlu, opMem, opFlags, unusedBad, operandBad]

theorem illegal_ldi (hop : bits w 27 22 = 0x34) : illegal w = (bits w 17 16 == 3) := by
  simp [illegal, hop, opAlu, opMem, opFlags, unusedBad, operandBad]

end

theorem bits_mode_encLong (cond : BitVec 4) (op : BitVec 6) (rd : BitVec 4) (mode : BitVec 2) (imm : BitVec 16) :
    bits (encLong cond op rd mode imm) 17 16 = mode.toNat := by
  rw [bits_eq]
  exact congrArg BitVec.toNat (encLong_fields cond op rd mode imm).2.2.1

theorem bits_disp_encBranch (cond : BitVec 4) (op : BitVec 6) (disp : BitVec 22) :
    bits (encBranch cond op disp) 21 0 = disp.toNat := by
  rw [bits_eq]
  exact congrArg BitVec.toNat (encBranch_fields cond op disp).2

/-- An instruction of the core is well formed just where its word is legal. -/
theorem wellFormed_iff {i : Instr} {w : Word} (hw : coreWord i = some w) : i.wellFormed = true ↔ illegal w = false := by
  unfold coreWord at hw
  split at hw <;> cases hw
  all_goals simp only [Instr.wellFormed, legalWord, Bool.not_eq_true', true_iff]
  case h_16.refl cond sf rd rs => exact legal_clz (bits_op_encAlu ..) (encAlu_bits ..).2.2.2
  case h_41.refl cond rs =>
    obtain ⟨h21, h20, _, h12⟩ := encAlu_bits cond 0x32 false 0 rs (opReg 0)
    exact legal_jump (.inl (bits_op_encAlu ..)) h21 h20 h12
  case h_42.refl cond rs =>
    obtain ⟨h21, h20, _, h12⟩ := encAlu_bits cond 0x33 false 0 rs (opReg 0)
    exact legal_jump (.inr (bits_op_encAlu ..)) h21 h20 h12
  case h_47.refl cond rd =>
    obtain ⟨h21, _, h16, h12⟩ := encAlu_bits cond 0x38 false rd 0 (opReg 0)
    refine legal_mrf (bits_op_encAlu ..) h21 ?_
    replace h16 : bits _ 16 13 = 0 := h16
    replace h12 : bits _ 12 0 = 0 := h12
    simp only [bits] at h16 h12 ⊢
    omega
  case h_43.refl cond rd mode imm =>
    rw [illegal_ldi (encLong_fields ..).1, bits_mode_encLong, bne_iff_ne, beq_eq_false_iff_ne, ne_eq, ne_eq, BitVec.toNat_eq]
    rfl
  case h_39.refl => exact legal_branch (.inl (encBranch_fields ..).1)
  case h_40.refl => exact legal_branch (.inr (encBranch_fields ..).1)
  case h_49.refl => exact legal_end (.inl (encBranch_fields ..).1) (bits_disp_encBranch ..)
  case h_50.refl => exact legal_end (.inr (.inl (encBranch_fields ..).1)) (bits_disp_encBranch ..)
  case h_51.refl => exact legal_end (.inr (.inr (encBranch_fields ..).1)) (bits_disp_encBranch ..)

/-- Settles O7: a well-formed instruction's word is legal, and the fields of a legal word are the operands it was made of. -/
theorem decodeOfEncodeIsIdentity : Obligations.DecodeOfEncodeIsIdentity := by
  intro i w hwf hw
  have hl := (wellFormed_iff hw).1 hwf
  exact ⟨hl, coreDecode_of_legal hw hl⟩

/-- Settles O8: a legal word decodes to an instruction, whose word is put together again from the fields it was read from. -/
theorem everyWordHasOneMeaning : Obligations.EveryWordHasOneMeaning := by
  intro w
  cases hl : illegal w with
  | true => exact .inl ⟨rfl, by simp [coreDecode, hl]⟩
  | false =>
    obtain ⟨i, hd⟩ := coreDecode_some hl
    have hw := coreWord_of_decode hd
    exact .inr ⟨rfl, i, hd, hw, (wellFormed_iff hw).2 hl⟩

end Sys2Proof.Machine
end

section
/-!
Proofs for the whole machine: the state after power-on, the queue, the commands that reset holds off; then the statements
O1, O2, O4 and O5.
-/

namespace Sys2Proof.Machine
set_option Elab.async false

/-! ### How a command acts -/

/-- Every command acts on the device alone, and in reset only the commands that `wakesReset` names do. -/
theorem exec_acts (c : Instr) : ∃ f : Dev → Dev,
    (∀ s, Sys2Proof.Machine.exec c s = act s f) ∨ (wakesReset c = true ∧ ∀ s, Sys2Proof.Machine.exec c s = actAlways s f) := by
  delta exec
  cases c
  case powerOnReset | rstN | seated | removal | vddioDrop | vddioReturn | seatNFallingEdge =>
    exact ⟨_, .inr ⟨rfl, fun _ => rfl⟩⟩
  all_goals exact ⟨_, .inl fun _ => rfl⟩

/-- A command that reset holds off leaves a device in reset as it is. -/
theorem exec_held {c : Instr} (hc : wakesReset c = false) {s : State} (h : s.dev.sys.inReset = true) :
    Sys2Proof.Machine.exec c s = .next s := by
  obtain ⟨f, hf | hf⟩ := exec_acts c
  · rw [hf, act_reset h]
  · rw [hf.1] at hc
    cases hc

/-! ### The obligations -/

/-- Settles O1: the two registers that power-on lists, and the defaults of all others. -/
theorem resetStateIsCanonical : Obligations.ResetStateIsCanonical := by
  refine ⟨rfl, by decide, rfl, by decide, by decide, fun a h1 h2 => ?_⟩
  change sparseGet regReset [(R.SYS_STRAPS, 4), (R.SYS_RESET, 1)] a = regReset a
  rw [sparseGet, if_neg (Ne.symm h2), sparseGet, if_neg (Ne.symm h1), sparseGet]

/-- Settles O2, by the definition of a step on a queue that is not empty. -/
theorem stepTakesTheFrontCommand : Obligations.StepTakesTheFrontCommand := by
  intro s c
  unfold step
  rfl

/-- Settles O4: both ways in which a command acts answer a next state with the same queue. -/
theorem everyCommandAnswersNext : Obligations.EveryCommandAnswersNext := by
  intro c s
  obtain ⟨f, hf | ⟨_, hf⟩⟩ := exec_acts c
  · rw [hf]
    exact act_next s f
  · rw [hf]
    exact actAlways_next s f

/-- Settles O5: a step takes a command that reset holds off, or passes a microsecond, which reset holds off too. -/
theorem resetHoldsTheDevice : Obligations.ResetHoldsTheDevice := by
  intro d s t hd ⟨hs, hq⟩ hstep
  subst hs
  unfold step at hstep
  split at hstep
  · cases hstep
    exact ⟨by simp [Dev.idle, hd], hq⟩
  · rename_i c rest hp
    rw [hp] at hq
    rw [exec_held (s := { s with pending := rest }) (hq c (by simp)) hd] at hstep
    cases hstep
    exact ⟨rfl, fun x hx => hq x (by simp [hx])⟩

end Sys2Proof.Machine
end

section
/-!
Proofs that every step keeps the canonical form.
-/

namespace Sys2Proof.Machine

/-- The bytes of one access of a host read. -/
def Dev.hostChunk (d : Dev) (a n : Nat) : List Byte × Dev :=
  if a < 0x10000 then
    let k := min n (0x8000 - a % 0x8000)
    if d.xramOn a then (d.xbytes a k, d.eccTouch clHost a k) else (List.replicate k 0, d)
  else if inIo a then
    let k := min n (4 - a % 4)
    let (v, d) := d.ioRead true ((a - ioBase) / 4 * 4)
    (((leBytes 4 v.toNat).drop (a % 4)).take k, d)
  else if inDmem a then
    let k := min n (0x304000 - a)
    (if d.seqOn then readBytes dmemDflt d.mem.dmem (a - dmemBase) k else List.replicate k 0, d)
  else ([0], d)

/-- A host read takes the bytes of one access, and then the rest. -/
theorem Dev.hostBytes_succ (d : Dev) (f a n : Nat) :
    d.hostBytes (f + 1) a n = if n = 0 then ([], d) else
      let c := d.hostChunk (a % 2 ^ 24) n
      let r := c.2.hostBytes f (a % 2 ^ 24 + c.1.length) (n - c.1.length)
      (c.1 ++ r.1, r.2) := by
  delta Dev.hostBytes
  delta Dev.hostBytes._f
  delta Dev.hostChunk
  rfl

/-- Memories, I/O registers and core registers are in canonical form: `Dev.canonical` as a proposition. -/
def Dev.Wf (d : Dev) : Prop := d.canonical = true

namespace Dev.Wf

set_option Elab.async false
variable {d e : Dev}

/-- Canonical form speaks of the memories, the I/O registers and the core registers alone. -/
theorem congr (h : d.Wf) (hr : e.regs = d.regs := by rfl) (hg : e.seq.g = d.seq.g := by rfl)
    (hx : e.mem.xram = d.mem.xram := by rfl) (hd : e.mem.dmem = d.mem.dmem := by rfl)
    (ha : e.mem.imemA = d.mem.imemA := by rfl) (hb : e.mem.imemB = d.mem.imemB := by rfl) : e.Wf := by
  unfold Dev.Wf Dev.canonical Mems.wf at h ⊢
  rw [hr, hg, hx, hd, ha, hb]
  exact h

theorem ite {c : Prop} [Decidable c] (h : d.Wf) (h' : e.Wf) : (if c then d else e).Wf := by
  split
  · exact h
  · exact h'

theorem foldl {α : Type} {f : Dev → α → Dev} {l : List α} (hf : ∀ d x, d.Wf → (f d x).Wf) (h : d.Wf) : (l.foldl f d).Wf :=
  Dev.canonical_foldl hf l h

theorem ite_fst {α : Type} {c : Prop} [Decidable c] {p q : Dev × α} (h : p.1.Wf) (h' : q.1.Wf) : (if c then p else q).1.Wf := by
  split
  · exact h
  · exact h'

theorem ite_snd {α : Type} {c : Prop} [Decidable c] {p q : α × Dev} (h : p.2.Wf) (h' : q.2.Wf) : (if c then p else q).2.Wf := by
  split
  · exact h
  · exact h'

theorem foldl_fst {α β : Type} {f : Dev × β → α → Dev × β} {l : List α} {p : Dev × β} (hf : ∀ p x, p.1.Wf → (f p x).1.Wf)
    (h : p.1.Wf) : (l.foldl f p).1.Wf := by
  induction l generalizing p with
  | nil => exact h
  | cons x l ih => exact ih (hf p x h)

theorem of_fst {α : Type} {p : Dev × α} {a : α} (h : p = (d, a)) (hp : p.1.Wf) : d.Wf := by rw [h] at hp; exact hp
theorem of_snd {α : Type} {p : α × Dev} {a : α} (h : p = (a, d)) (hp : p.2.Wf) : d.Wf := by rw [h] at hp; exact hp

/-! ### The writes -/

theorem setReg {a : Nat} {v : Word} (h : d.Wf) : (d.setReg a v).Wf := Dev.canonical_setReg h a v
theorem put {f : Field} {n : Nat} (h : d.Wf) : (d.put f n).Wf := Dev.canonical_put h f n
theorem setG {n : BitVec 4} {v : Word} (h : d.Wf) : (d.setG n v).Wf := Dev.canonical_setG h n v
theorem xwrite {o : Nat} {bs : List Byte} (h : d.Wf) : (d.xwrite o bs).Wf := Dev.canonical_xwrite h o bs
theorem xwriteWhole {o : Nat} {bs : List Byte} (h : d.Wf) : (d.xwriteWhole o bs).Wf := Dev.canonical_xwriteWhole h o bs
theorem xramClear {b : Nat} (h : d.Wf) : (d.xramClear b).Wf := Dev.canonical_xramClear h b
theorem eccMeet {client w : Nat} (h : d.Wf) : (d.eccMeet client w).Wf := Dev.canonical_eccMeet h client w
theorem xwriteClean {client o : Nat} {bs : List Byte} (h : d.Wf) : (d.xwriteClean client o bs).Wf :=
  Dev.canonical_xwriteClean h client o bs
theorem imemWrite {b o : Nat} {bs : List Byte} (h : d.Wf) : (d.setImem b (writeBytes imemDflt (d.imem b) o bs)).Wf :=
  Dev.canonical_setImem h b (sparseWf_writeBytes (Dev.imem_wf h b) o bs)
theorem bootByte {b : Byte} (h : d.Wf) : (d.bootByte b).Wf := Dev.canonical_bootByte h b
theorem reset : Dev.Wf Dev.reset := Machine.resetStateIsCanonical.2.1

/-- The I/O registers replaced by others in canonical form. -/
theorem regs {r : List (Nat × Word)} (h : d.Wf) (hr : sparseWf regReset r = true) : ({ d with regs := r } : Dev).Wf :=
  Dev.canonical_iff.2 ⟨(Dev.canonical_iff.1 h).1, hr, (Dev.canonical_iff.1 h).2.2⟩

theorem regs_wf (h : d.Wf) : sparseWf regReset d.regs = true := (Dev.canonical_iff.1 h).2.1

/-! ### Ops -/

theorem putB {f : Field} {b : Bool} (h : d.Wf) : (d.putB f b).Wf := h.put
theorem satAdd {f : Field} {k : Nat} (h : d.Wf) : (d.satAdd f k).Wf := h.put
theorem inc {f : Field} (h : d.Wf) : (d.inc f).Wf := h.satAdd
theorem incWrap {f : Field} (h : d.Wf) : (d.incWrap f).Wf := h.put

theorem stage {a : Nat} {v : Word} (h : d.Wf) : (d.stage a v).Wf := by
  unfold Dev.stage
  extract_lets m1 e1
  have he1 : e1.Wf := h.setReg
  exact ite (congr h) (congr he1)

theorem applyStaged (h : d.Wf) : d.applyStaged.Wf := by
  unfold Dev.applyStaged
  extract_lets d1
  have hd1 : d1.Wf := by
    unfold d1
    induction d.staged with
    | nil => exact h
    | cons e l ih => exact ih.setReg
  exact congr hd1

theorem setSt {s : Nat} (h : d.Wf) : (d.setSt s).Wf := h.put
theorem stageBusy {a : Nat} {v : Word} (h : d.Wf) : (d.stageBusy a v).Wf := ite (congr h) h.stage

theorem setDom {k : Nat} {s : Nat} (h : d.Wf) : (d.setDom k s).Wf := by
  unfold Dev.setDom
  extract_lets d1
  have hd1 : d1.Wf := h.put
  exact hd1.put

theorem holdAttn (h : d.Wf) : d.holdAttn.Wf := ite h.put h
theorem event {b : Nat} (h : d.Wf) : (d.event b).Wf := ite h.put h
theorem fresh (h : d.Wf) : (d.fresh).2.Wf := congr h

/-! ### Reports -/

theorem rqPut {typ : Nat} {tag : Nat} {body : List Byte} (h : d.Wf) : (d.rqPut typ tag body).Wf := by
  unfold Dev.rqPut
  extract_lets n1 pos1 flags1 bs1 d1 d2 d3 e1
  have hd1 : d1.Wf := h.xwriteWhole
  have hd2 : d2.Wf := hd1.put
  have hd3 : d3.Wf := hd2.put
  exact congr hd3

theorem rqAttn (h : d.Wf) : d.rqAttn.Wf := by
  unfold Dev.rqAttn
  extract_lets old1
  exact h.putB

theorem rqEmit {r : Report} (h : d.Wf) : (d.rqEmit r).Wf := by
  unfold Dev.rqEmit
  extract_lets pad1 d1
  have hd1 : d1.Wf := ite h h.rqPut
  exact hd1.rqPut.rqAttn

theorem reclaimAll {n : Nat} (h : d.Wf) : (d.reclaimAll n).Wf := by
  induction n generalizing d with
  | zero => exact h
  | succ n ih =>
    unfold Dev.reclaimAll
    extract_lets o1 d1 d2
    have hd1 : d1.Wf := h.eccMeet
    split
    · exact h
    · extract_lets d2
      have hd2 : d2.Wf := hd1.put
      split
      · exact hd1
      · exact ih (congr hd2)

theorem reclaim {r : Report} (h : d.Wf) : (d.reclaim r).Wf := ite h.reclaimAll.rqAttn h
theorem reclaimTick (h : d.Wf) : d.reclaimTick.Wf := ite h.reclaimAll.rqAttn h

theorem rqLost {typ : Nat} (h : d.Wf) : (d.rqLost typ).Wf := by
  unfold Dev.rqLost
  extract_lets l1 k1 l2 d1 e1 e2
  have hd1 : d1.Wf := h.inc
  exact congr hd1

theorem rqPending (h : d.Wf) : d.rqPending.Wf := by
  unfold Dev.rqPending
  extract_lets e1 e2
  exact ((congr h).put).rqAttn

theorem keepUps {us : List (List Byte)} (h : d.Wf) : (d.keepUps us).Wf := by
  unfold Dev.keepUps
  refine foldl ?_ h
  intro d' x hd1'
  extract_lets l1 d1 e1 e2 e3 e4
  have hd1 : d1.Wf := hd1'.inc
  exact ite (congr hd1) (congr hd1')

theorem keepTouch {a1 : List Byte} {recs : List (List Byte)} (h : d.Wf) : (d.keepTouch a1 recs).Wf := by
  unfold Dev.keepTouch
  extract_lets d1 e1 e2 d2
  have hd1 : d1.Wf := by
    unfold d1
    split
    · exact h
    · exact h.keepUps.rqLost
  have hd2 : d2.Wf := congr hd1
  exact hd2.rqPending

theorem keep {r : Report} (h : d.Wf) : (d.keep r).Wf := by
  unfold Dev.keep
  extract_lets c1 r1 d1 e1 e2 kind1 d2 e3 e4 d3 e5 e6 d4 e7 e8 e9
  have hd1 : d1.Wf := ite h.rqLost h
  have hd2 : d2.Wf := ite h.rqLost h
  have hd3 : d3.Wf := ite h.rqLost h
  have hd4 : d4.Wf := ite h.rqLost h
  refine ite (ite ?_ ?_) (ite (congr hd1).rqPending (ite (congr hd2).rqPending
    (ite (congr hd3).rqPending (ite (congr hd4).rqPending
      (ite (congr h) h.rqLost.rqPending)))))
  · cases c1.aux0
    · exact (congr h).rqPending
    · exact (congr (h.rqLost (typ := 0x84))).rqPending
  · cases c1.aux1
    · exact (congr h).rqPending
    · exact (congr (h.rqLost (typ := 0x84))).rqPending

theorem report {r : Report} (h : d.Wf) : (d.report r).Wf := by
  unfold Dev.report
  extract_lets d1
  have hd1 : d1.Wf := h.reclaim
  exact ite hd1 (ite hd1.rqEmit hd1.keep)

theorem keepBoth {a1 : List Byte} {ups : List (List Byte)} {recs : List (List Byte)} (h : d.Wf) :
    (d.keepBoth a1 ups recs).Wf := by
  unfold Dev.keepBoth
  extract_lets e1 e2 d1
  have hd1 : d1.Wf := congr h
  exact ite hd1.rqPending hd1.keepTouch

theorem touchOut {head : List Byte} {ups recs : List (List Byte)} {n : Nat} (h : d.Wf) :
    (d.touchOut head ups recs n).Wf := by
  induction n generalizing d ups recs with
  | zero =>
    unfold Dev.touchOut
    exact h.keepBoth
  | succ n ih =>
    unfold Dev.touchOut
    extract_lets m1 now1 ups1 recs1 more1 r1 d1 d2
    have hd1 : d1.Wf := h.reclaim
    have hd2 : d2.Wf := hd1.rqEmit
    exact ite (ite (ih hd2) hd2) hd1.keepBoth

theorem touch {frame : Nat} {flags : Nat} {tlast : Nat} {recs : List (List Byte)} (h : d.Wf) :
    (d.touch frame flags tlast recs).Wf := by
  unfold Dev.touch
  extract_lets head1
  exact ite h (ite h.keepTouch h.touchOut)

theorem key {frame : Nat} {vkeys : Nat} (h : d.Wf) : (d.key frame vkeys).Wf := by
  unfold Dev.key
  extract_lets r1 d1 d2 e1 d3 e2 e3
  have hd1 : d1.Wf := h.reclaim
  have hd2 : d2.Wf := hd1.rqEmit
  have hd3 : d3.Wf := ite hd1.rqLost hd1
  exact ite hd1 (ite (congr hd2) ((congr hd3).rqPending))

theorem flushTouch (h : d.Wf) : d.flushTouch.Wf := by
  unfold Dev.flushTouch
  extract_lets c1 e1 d1
  have hd1 : d1.Wf := congr h
  split
  · exact h
  · split
    · exact hd1.touchOut

theorem flushOne {r? : Option Report} (h : d.Wf) : (d.flushOne r?).Wf := by
  unfold Dev.flushOne
  split
  · exact h
  · exact h.report

theorem flushWaiting {l : List Report} (h : d.Wf) : (d.flushWaiting l).Wf := by
  induction l generalizing d with
  | nil => exact congr h
  | cons r rs ih =>
    unfold Dev.flushWaiting
    extract_lets d1 e1 d2
    have hd1 : d1.Wf := h.reclaim
    have hd2 : d2.Wf := congr hd1
    exact ite (ih hd2.put.rqEmit) (ite (ih hd1.rqEmit) (congr hd1))

theorem roomReturn (h : d.Wf) : d.roomReturn.Wf := by
  unfold Dev.roomReturn
  extract_lets c1 o1 d1 d2 e1 e2 d3 d4 d5 d6 d7 d8 d9 d10
  have hd1 : d1.Wf := h.reclaim
  have hd2 : d2.Wf := hd1.rqEmit
  have hd3 : d3.Wf := congr hd2
  have hd4 : d4.Wf := hd3.put
  have hd5 : d5.Wf := hd4.flushTouch
  have hd6 : d6.Wf := by
    unfold d6
    split
    · exact hd5
    · exact hd5.key
  have hd7 : d7.Wf := hd6.flushOne.flushOne
  have hd8 : d8.Wf := hd7.flushOne
  have hd9 : d9.Wf := foldl (fun _ _ h10 => h10.report) hd8
  have hd10 : d10.Wf := ite hd9.flushOne.flushOne hd1
  exact hd10.flushWaiting.rqAttn

theorem complete {tag : Nat} {status : Nat} {op : Nat} {count : Nat} {detail : Nat} {seq : Nat} (h : d.Wf) :
    (d.complete tag status op count detail seq).Wf := by
  unfold Dev.complete
  extract_lets r1 e1
  exact ite h (ite h.put.rqEmit (congr h))

theorem endAsync {a : Async} {status : Nat} {detail : Nat} (h : d.Wf) : (d.endAsync a status detail).Wf := by
  unfold Dev.endAsync
  extract_lets d1 e1
  have hd1 : d1.Wf := h.complete
  exact congr hd1

theorem endAsyncs {l : List Async} {status : Nat} {detail : Nat} (h : d.Wf) : (d.endAsyncs l status detail).Wf :=
  foldl (fun _ _ h2 => h2.endAsync) h

theorem batchJoin {op : Nat} {tag : Nat} {seq : Nat} {detail : Nat} (h : d.Wf) : (d.batchJoin op tag seq detail).Wf := by
  unfold Dev.batchJoin
  extract_lets e1
  split
  · exact (congr h).put
  · exact congr h

theorem batchClose {status : Nat} (h : d.Wf) : (d.batchClose status).Wf := by
  unfold Dev.batchClose
  extract_lets e1
  split
  · exact h
  · exact (congr h).complete

theorem cqPass {flags : Nat} {slot : Nat} (h : d.Wf) : (d.cqPass flags slot).Wf := by
  unfold Dev.cqPass
  extract_lets ci1 d1
  have hd1 : d1.Wf := ite h.xwriteClean h
  exact hd1.put.put.incWrap

theorem reclaimReserve (h : d.Wf) : d.reclaimReserve.Wf := ite h.reclaimAll.rqAttn h

theorem asyncStart {op : Nat} {tag : Nat} {seq : Nat} {arg : Nat} (h : d.Wf) : (d.asyncStart op tag seq arg).2.Wf := by
  unfold Dev.asyncStart
  cases d.ring.batch
  · exact congr (h.put (f := R.RQ_STATUS_HELD) (n := d.get R.RQ_STATUS_HELD + 1))
  · exact congr h

theorem fenceEnd {status : Nat} {detail : Nat} (h : d.Wf) : (d.fenceEnd status detail).Wf := by
  unfold Dev.fenceEnd
  extract_lets e1 d1
  have hd1 : d1.Wf := congr h
  split
  · exact h
  · extract_lets d2
    have hd2 : d2.Wf := hd1.cqPass
    exact ite hd2.batchClose hd2

theorem fault {src : Nat} {lasting : Nat} {action : Nat} {detail : Nat} {forceSlot : Bool} (h : d.Wf) :
    (d.fault src lasting action detail forceSlot).Wf := by
  unfold Dev.fault
  extract_lets ev1 ln1 r1 d1
  have hd1 : d1.Wf := h.reclaim
  exact ite hd1.rqEmit.put (ite hd1.rqEmit.put hd1)

/-! ### PortFrame -/

theorem ppState {k : Nat} {s : Nat} (h : d.Wf) : (d.ppState k s).Wf := h.put

theorem ppEnd {x : Xfer} {s : Nat} {count : Nat} {ecc : Nat} (h : d.Wf) : (d.ppEnd x s count ecc).Wf := by
  unfold Dev.ppEnd
  split
  · exact h.ppState.put.event
  · split
    · exact h.endAsync
    · exact h

theorem ppIdle (h : d.Wf) : d.ppIdle.Wf := by
  unfold Dev.ppIdle
  extract_lets e1
  exact ((congr h).put).put

theorem ppQueue {q : List Xfer} (h : d.Wf) : (d.ppQueue q).Wf := by
  unfold Dev.ppQueue
  extract_lets e1
  exact (congr h).put

theorem ppWire {f : PpFrame} {n : Nat} (h : d.Wf) : (d.ppWire f n).Wf := by
  unfold Dev.ppWire
  extract_lets e1
  exact congr h

theorem periRead {o : Nat} {n : Nat} (h : d.Wf) : (d.periRead o n).Wf := foldl (fun _ _ h2 => h2.eccMeet) h

theorem ppData {f : PpFrame} {rx : List Byte} (h : d.Wf) : (d.ppData f rx).2.Wf := by
  unfold Dev.ppData
  split
  · split
    · exact ite h.put h
  · exact h

theorem ppStore {x : Xfer} {bs : List Byte} (h : d.Wf) : (d.ppStore x bs).2.Wf := by
  unfold Dev.ppStore
  extract_lets part1
  exact h.xwriteClean

theorem ppPauseCut {f : PpFrame} (h : d.Wf) : (d.ppPauseCut f).Wf := by
  unfold Dev.ppPauseCut
  split
  · exact h
  · split
    · rename_i q1a _
      have hq1a : q1a.Wf := of_snd ‹_› h.fresh
      exact ite hq1a.inc hq1a

theorem ppCut {f : PpFrame} {s : Nat} {n : Nat} {rx : List Byte} (h : d.Wf) : (d.ppCut f s n rx).Wf := by
  unfold Dev.ppCut
  extract_lets d1 n1
  have hd1 : d1.Wf := h.ppPauseCut.ppIdle
  split
  · exact hd1
  · split
    · split
      · rename_i q2a _
        have hq2a : q2a.Wf := of_snd ‹_› hd1.ppData
        extract_lets data1
        split
        · rename_i q3a _
          have hq3a : q3a.Wf := of_snd ‹_› hq2a.ppWire.ppStore
          exact hq3a.ppEnd
    · exact hd1.ppWire.periRead.ppEnd

theorem freshBytes {n : Nat} (h : d.Wf) : (d.freshBytes n).2.Wf := by
  unfold Dev.freshBytes
  split
  · rename_i q1a _
    have hq1a : q1a.Wf := of_snd ‹_› h.fresh
    exact hq1a

theorem ppBootDrop (h : d.Wf) : d.ppBootDrop.Wf := by
  unfold Dev.ppBootDrop
  extract_lets d1
  have hd1 : d1.Wf := h.ppQueue
  exact ite hd1.ppIdle hd1

/-! ### Stops -/

theorem pumpTo {l : Nat} (h : d.Wf) : (d.pumpTo l).Wf := by
  unfold Dev.pumpTo
  extract_lets e1 e2 e3
  have he1 : e1.Wf := h.put
  have he3 : e3.Wf := h.put
  split
  · exact h
  · split
    · exact congr he1
    · split
      · exact congr he3
      · split
        · rename_i q3a _
          have hq3a : q3a.Wf := of_snd ‹_› h.fresh
          extract_lets e4 e5
          have he4 : e4.Wf := hq3a.put
          exact congr he4

theorem vhvTime (h : d.Wf) : d.vhvTime.Wf := by
  unfold Dev.vhvTime
  extract_lets e1 e2
  have he1 : e1.Wf := h.put
  exact ite (congr he1) h

theorem acqStop (h : d.Wf) : d.acqStop.Wf := by
  unfold Dev.acqStop
  extract_lets e1
  exact (congr h).pumpTo

theorem sendK {k : Nat} (h : d.Wf) : (d.sendK k).Wf := by
  unfold Dev.sendK
  extract_lets e1
  exact ite (congr h) h

theorem pwrTick (h : d.Wf) : d.pwrTick.Wf := by
  unfold Dev.pwrTick
  extract_lets on1 off1 e1 d1 d2
  have hd1 : d1.Wf := congr h
  have hd2 : d2.Wf := foldl (fun _ _ h3 => ite h3.setDom h3) hd1
  exact foldl (fun _ _ h4 => ite h4.setDom h4) hd2

theorem setWake (h : d.Wf) : d.setWake.Wf := by
  unfold Dev.setWake
  extract_lets e1 e2
  have he1 : e1.Wf := h.put
  exact congr he1

theorem clusterDown (h : d.Wf) : d.clusterDown.Wf := ite h.sendK h

theorem clusterLeave (h : d.Wf) : d.clusterLeave.Wf := by
  unfold Dev.clusterLeave
  extract_lets e1 e2
  have he1 : e1.Wf := h.sendK.acqStop
  exact ite (congr he1) h

theorem ppAborted {k : Nat} (h : d.Wf) : (d.ppAborted k).Wf := ite h.put.put h

theorem ppHalt {malformed : Bool} (h : d.Wf) : (d.ppHalt malformed).Wf := by
  unfold Dev.ppHalt
  extract_lets ks1 live1 d1 e1 d2
  have hd1 : d1.Wf := h.ppQueue
  have hd2 : d2.Wf := by
    unfold d2
    split
    · exact hd1
    · extract_lets e2 f1
      split
      · exact congr hd1
      · split
        · rename_i q2a _
          have hq2a : q2a.Wf := of_snd ‹_› hd1.fresh
          split
          · rename_i q3a _
            have hq3a : q3a.Wf := of_snd ‹_› hq2a.freshBytes
            exact hq3a.ppCut
  exact ite (foldl (fun _ _ h4 => h4.ppAborted) hd2) hd2

theorem ppDisarmPeriodic (h : d.Wf) : d.ppDisarmPeriodic.Wf := by
  unfold Dev.ppDisarmPeriodic
  extract_lets ks1
  exact foldl (fun _ _ h2 => h2.ppAborted) h

/-! ### Faults -/

theorem logWrite {src : Nat} {lasting : Bool} {detail : Nat} (h : d.Wf) : (d.logWrite src lasting detail).Wf := by
  unfold Dev.logWrite
  extract_lets l1 e1 e2
  exact ite ((congr h).put) ((congr h).inc)

theorem windowClose {src : Nat} (h : d.Wf) : (d.windowClose src).Wf := by
  unfold Dev.windowClose
  extract_lets e1 d1 d2
  have hd1 : d1.Wf := congr h
  have hd2 : d2.Wf := hd1.put
  exact hd2.put

theorem windowOpen {src : Nat} (h : d.Wf) : (d.windowOpen src).2.Wf := by
  unfold Dev.windowOpen
  extract_lets fresh1
  have hfresh1 : ∀ x0, x0.Wf → (fresh1 x0).2.Wf := by
    intro x0 hx0
    unfold fresh1
    extract_lets w1 e1
    exact (congr hx0).put
  split
  · exact hfresh1 _ h
  · exact ite_snd h (hfresh1 _ h.windowClose)

theorem lasting {src : Nat} {detail : Nat} {cause : Nat} {forceSlot : Bool} (h : d.Wf) :
    (d.lasting src detail cause forceSlot).Wf := by
  unfold Dev.lasting
  extract_lets act1 d1 d2 d3 d4 d5 e1
  have hd1 : d1.Wf := h.inc
  have hd2 : d2.Wf := hd1.put.put.put
  have hd3 : d3.Wf := hd2.fault
  have hd4 : d4.Wf := hd3.logWrite
  have hd5 : d5.Wf := hd4.put
  exact congr hd5

theorem noteEvent {src : Nat} {detail : Nat} {cause : Nat} (h : d.Wf) : (d.noteEvent src detail cause).Wf := by
  unfold Dev.noteEvent
  extract_lets d1 d2
  have hd1 : d1.Wf := h.inc
  have hd2 : d2.Wf := ite hd1.put hd1
  split
  · rename_i q3a _
    have hq3a : q3a.Wf := of_snd ‹_› hd2.windowOpen
    extract_lets n1 d3 d4
    have hd3 : d3.Wf := hq3a.inc
    have hd4 : d4.Wf := ite hd3.fault hd3
    exact ite hd3.lasting (ite hd4.logWrite hd4)

theorem noteDirect {src : Nat} {detail : Nat} {cause : Nat} {forceSlot : Bool} (h : d.Wf) :
    (d.noteDirect src detail cause forceSlot).Wf := by
  unfold Dev.noteDirect
  extract_lets d1
  have hd1 : d1.Wf := h.inc
  split
  · rename_i q2a _
    have hq2a : q2a.Wf := of_snd ‹_› hd1.windowOpen
    extract_lets d2
    have hd2 : d2.Wf := hq2a.inc
    exact hd2.lasting

theorem pwmPeriodEnd {n : Nat} (h : d.Wf) : (d.pwmPeriodEnd n).Wf := by
  unfold Dev.pwmPeriodEnd
  extract_lets e1
  exact ite (congr h) (ite (congr h) h)

theorem pwmSettle (h : d.Wf) : d.pwmSettle.Wf := foldl (fun _ _ h2 => ite h2 h2.pwmPeriodEnd) h
theorem safeState (h : d.Wf) : d.safeState.Wf := h.put.pwmSettle

theorem stopCore {state : Nat} (h : d.Wf) : (d.stopCore state).Wf := by
  unfold Dev.stopCore
  extract_lets e1 d1
  have hd1 : d1.Wf := congr h
  exact hd1.put.put

theorem swapRefuse {code : Nat} {detail : Nat} {tag : Nat} (h : d.Wf) : (d.swapRefuse code detail tag).Wf := by
  unfold Dev.swapRefuse
  extract_lets e1 d1 d2 d3
  have hd1 : d1.Wf := congr h
  have hd2 : d2.Wf := hd1.put.put.put
  have hd3 : d3.Wf := hd2.put
  exact hd3.report

theorem swapHalted (h : d.Wf) : d.swapHalted.Wf := by
  unfold Dev.swapHalted
  extract_lets e1 d1 d2
  have hd1 : d1.Wf := congr h
  have hd2 : d2.Wf := hd1.put.put.put
  exact ite hd2.put h

theorem swapEnd {code : Nat} (h : d.Wf) : (d.swapEnd code).Wf := by
  unfold Dev.swapEnd
  extract_lets d1
  have hd1 : d1.Wf := h.swapRefuse
  exact ite hd1.endAsyncs h

theorem calReason {kind : Nat} {code : Nat} {detail : Nat} (h : d.Wf) : (d.calReason kind code detail).Wf :=
  h.put.put.put.event

theorem calFail {kind : Nat} {code : Nat} {detail : Nat} (h : d.Wf) : (d.calFail kind code detail).Wf := by
  unfold Dev.calFail
  extract_lets rep1 d1 e1 d2 d3 tag1 d4 d5
  have hd1 : d1.Wf := ite h.put h.put.put.put
  have hd2 : d2.Wf := ite (congr hd1) (congr hd1)
  have hd3 : d3.Wf := hd2.calReason
  have hd4 : d4.Wf := hd3.report
  have hd5 : d5.Wf := hd4.endAsyncs
  exact hd5.noteEvent

theorem calAbortTouch (h : d.Wf) : d.calAbortTouch.Wf := ite h.calFail h

theorem setConv {n : Nat} {c : Conv} (h : d.Wf) : (d.setConv n c).Wf := by
  unfold Dev.setConv
  extract_lets e1
  exact congr h

theorem convStart {n : Nat} (h : d.Wf) : (d.convStart n).Wf := by
  unfold Dev.convStart
  extract_lets c1 d1
  have hd1 : d1.Wf := h.setConv
  exact hd1.put.put

theorem auxResume (h : d.Wf) : d.auxResume.Wf := by
  unfold Dev.auxResume
  refine foldl ?_ h
  intro d' x hd1'
  extract_lets c1
  exact ite hd1'.convStart hd1'

theorem pwrBusy (h : d.Wf) : d.pwrBusy.Wf := h.putB

theorem pwrAnswer {kind : Nat} {cmd : Option Async} {cause : Nat} {dom : Nat} (h : d.Wf) :
    (d.pwrAnswer kind cmd cause dom).Wf := by
  unfold Dev.pwrAnswer
  extract_lets d1 tag1 d2 e1 d3
  have hd1 : d1.Wf := h.put.put.putB.put.pwrBusy
  have hd2 : d2.Wf := hd1.report
  have hd3 : d3.Wf := congr hd2
  split
  · exact ite hd3.endAsync hd3.endAsync
  · exact hd3

theorem drainCancel {k : Nat} (h : d.Wf) : (d.drainCancel k).Wf := by
  unfold Dev.drainCancel
  extract_lets e1 e2 d1
  have he1 : e1.Wf := h.setDom
  have hd1 : d1.Wf := congr he1
  exact ite hd1.auxResume hd1

theorem switchOnOne {k : Nat} (h : d.Wf) : (d.switchOnOne k).Wf := by
  unfold Dev.switchOnOne
  extract_lets s1 e1
  exact ite h.setDom (ite h.drainCancel (ite (congr h) h))

theorem switchOnMask {m : Nat} (h : d.Wf) : (d.switchOnMask m).Wf := foldl (fun _ _ h2 => h2.switchOnOne) h

theorem hostBack (h : d.Wf) : d.hostBack.Wf := by
  unfold Dev.hostBack
  extract_lets d1
  have hd1 : d1.Wf := h.switchOnOne
  exact ite hd1.setWake hd1

theorem heathFinish (h : d.Wf) : d.heathFinish.Wf := by
  unfold Dev.heathFinish
  extract_lets lat1 d1 d2 e1 e2 e3 e4
  have hd1 : d1.Wf := h.setSt.setWake
  have hd2 : d2.Wf := hd1.put
  exact congr hd2

theorem heathCancel (h : d.Wf) : d.heathCancel.Wf := by
  unfold Dev.heathCancel
  extract_lets e1 d1 e2 e3
  have hd1 : d1.Wf := congr h
  have he2 : e2.Wf := hd1.switchOnMask
  split
  · exact ite h (ite (congr he2) hd1.pwrAnswer)
  · exact h

theorem dumpAbort (h : d.Wf) : d.dumpAbort.Wf := by
  unfold Dev.dumpAbort
  extract_lets e1 part1 e2
  split
  · exact congr h
  · extract_lets whole1 done1 d1
    have hd1 : d1.Wf := congr h
    exact hd1.endAsync

theorem leaveRunning (h : d.Wf) : d.leaveRunning.Wf := h.calAbortTouch.swapEnd.dumpAbort
theorem unstageOffs {v : CalVals} (h : d.Wf) : (d.unstageOffs v).Wf := congr h

theorem calDiscard (h : d.Wf) : d.calDiscard.Wf := by
  unfold Dev.calDiscard
  refine foldl ?_ h
  intro d' x hd1'
  extract_lets d1 e1 d2
  have hd1 : d1.Wf := hd1'.unstageOffs
  have hd2 : d2.Wf := congr hd1
  exact ite hd2.put.calReason hd1'

theorem hopDrop (h : d.Wf) : d.hopDrop.Wf := by
  unfold Dev.hopDrop
  extract_lets e1 e2
  have he1 : e1.Wf := h.put
  exact congr he1

theorem clearRun (h : d.Wf) : d.clearRun.Wf := by
  unfold Dev.clearRun
  extract_lets d1 e1 d2 d3
  have hd1 : d1.Wf := h.put.hopDrop
  have hd2 : d2.Wf := congr hd1
  have hd3 : d3.Wf := hd2.calDiscard.leaveRunning.heathCancel
  exact ite h.hopDrop.setSt.put.setReg (ite hd3.setSt h)

theorem heathTry (h : d.Wf) : d.heathTry.Wf := ite (ite h.heathFinish.clearRun h.heathFinish) h

theorem heathLeave (h : d.Wf) : d.heathLeave.Wf := by
  unfold Dev.heathLeave
  extract_lets e1 d1
  have hd1 : d1.Wf := congr h
  exact hd1.switchOnMask.heathTry

theorem runEnds (h : d.Wf) : d.runEnds.Wf := by
  unfold Dev.runEnds
  extract_lets e1
  exact ite ((congr h).heathLeave) h.clearRun

theorem halt {src : Nat} {cause : Nat} {detail : Nat} (h : d.Wf) : (d.halt src cause detail).Wf := by
  unfold Dev.halt
  extract_lets heath1 d1 d2 d3 d4 d5 d6 d7 auxCmd1 d8 d9 e1 e2 e3 e4 e5 d10 d11 d12
  have hd1 : d1.Wf := h.put.put.put
  have hd2 : d2.Wf := hd1.clusterDown
  have hd3 : d3.Wf := hd2.setSt
  have hd4 : d4.Wf := hd3.acqStop
  have hd5 : d5.Wf := ite hd4.stopCore hd4
  have hd6 : d6.Wf := hd5.swapHalted
  have hd7 : d7.Wf := hd6.put
  have hd8 : d8.Wf := ite hd7.put.put.put hd7
  have hd9 : d9.Wf := ite hd8.put hd8
  have hd10 : d10.Wf := congr hd9
  have hd11 : d11.Wf := hd10.ppHalt.pwrTick.pwrBusy
  have hd12 : d12.Wf := ite hd11.hostBack hd11.switchOnOne
  exact ite h hd12.safeState.holdAttn

theorem takeAction {a : Nat × Nat × Nat} (h : d.Wf) : (d.takeAction a).Wf := by
  unfold Dev.takeAction
  extract_lets e1
  split
  · extract_lets act1
    exact ite h (ite h.halt (ite (ite (congr h) (ite (congr h) (ite h.ppDisarmPeriodic (ite ((ite h.clusterDown
        h).runEnds) h)))) h))

theorem settleFaults {n : Nat} (h : d.Wf) : (Dev.settleFaults n d).Wf := by
  induction n generalizing d with
  | zero => exact congr h
  | succ n ih =>
    unfold Dev.settleFaults
    extract_lets due1 e1 d1 deg1 hlt1
    have hd1 : d1.Wf := congr h
    exact ite h (ih (foldl (fun _ _ h => h.takeAction) hd1))

theorem calEnds {f : Dev → Dev} (h : d.Wf) (hf1 : ∀ x0, x0.Wf → (f x0).Wf) : (d.calEnds f).Wf :=
  ite ((hf1 _ h).settleFaults) (hf1 _ h)

theorem raise {src : Nat} {detail : Nat} (h : d.Wf) : (d.raise src detail).Wf := h.noteEvent.settleFaults

theorem raiseDirect {src : Nat} {detail : Nat} {cause : Nat} (h : d.Wf) : (d.raiseDirect src detail cause).Wf :=
  h.noteDirect.settleFaults

theorem seqHalt {cause : Nat} (h : d.Wf) : (d.seqHalt cause).Wf := by
  unfold Dev.seqHalt
  extract_lets d1 d2
  have hd1 : d1.Wf := h.put.put
  have hd2 : d2.Wf := hd1.stopCore.safeState.holdAttn
  exact ite hd2.raiseDirect hd2.raiseDirect

theorem seqFault {cause : Nat} {pc : Nat} {addr : Option Nat} (h : d.Wf) : (d.seqFault cause pc addr).Wf := by
  unfold Dev.seqFault
  extract_lets entry1 d1 d2 d3 e1 d4 d5 d6 e2
  have hd1 : d1.Wf := h.put.put.put
  have hd2 : d2.Wf := by
    unfold d2
    split
    · exact hd1
    · exact hd1.put
  have hd3 : d3.Wf := hd2.inc
  have hd4 : d4.Wf := congr hd3
  have hd5 : d5.Wf := hd4.raise
  have hd6 : d6.Wf := hd5.put.put
  exact ite hd5 (ite hd5.seqHalt (ite hd5.seqHalt (congr hd6)))

/-! ### Acq -/

theorem supDrop {n : Nat} (h : d.Wf) : (d.supDrop n).Wf := by
  unfold Dev.supDrop
  extract_lets e1
  exact ite h (congr h)

theorem recomputeEls (h : d.Wf) : d.recomputeEls.Wf := by
  unfold Dev.recomputeEls
  extract_lets rows1 lo1 hi1 d1
  have hd1 : d1.Wf := h.setReg
  exact hd1.setReg

theorem vhvSeen {level : Nat} {ok : Bool} (h : d.Wf) : (d.vhvSeen level ok).Wf := by
  unfold Dev.vhvSeen
  extract_lets e1 e2
  have he1 : e1.Wf := h.put
  exact ite h (ite (congr he1) h.put)

theorem levelAtTick (h : d.Wf) : d.levelAtTick.Wf := by
  unfold Dev.levelAtTick
  extract_lets l1 d1
  have hd1 : d1.Wf := h.put
  exact hd1.putB.pumpTo

theorem pumpDomain {on : Bool} (h : d.Wf) : (d.pumpDomain on).Wf := by
  unfold Dev.pumpDomain
  extract_lets e1 e2
  have he2 : e2.Wf := h.put
  exact ite (ite h.pumpTo h) (ite ((congr h).pumpTo) (congr he2))

theorem acqStart {f : Frame} (h : d.Wf) : (d.acqStart f).Wf := by
  unfold Dev.acqStart
  extract_lets e1 e2
  exact congr h

theorem pumpPhase (h : d.Wf) : d.pumpPhase.Wf := by
  unfold Dev.pumpPhase
  split
  · exact h.pumpTo
  · exact h

theorem phaseFrom {t : Nat} (h : d.Wf) : (d.phaseFrom t).Wf := by
  unfold Dev.phaseFrom
  extract_lets e1
  exact (congr h).pumpPhase

theorem phaseEnd (h : d.Wf) : d.phaseEnd.Wf := h.phaseFrom

theorem mutualScan {y : List (List Int)} {ovr : List (List Nat)} {vhvLow : List Nat} (h : d.Wf) :
    (d.mutualScan y ovr vhvLow).Wf := by
  unfold Dev.mutualScan
  extract_lets L1 y1 chans1 e1
  split
  · exact h
  · extract_lets low1 bad1 ask1 f1
    exact ite h (congr h)

theorem selfPass {ys : List (List Int)} {ovr : List Nat} {vhvLow : Bool} (h : d.Wf) : (d.selfPass ys ovr vhvLow).Wf := by
  unfold Dev.selfPass
  extract_lets n1 e1
  split
  · exact h
  · extract_lets one1 f1
    exact ite h (congr h)

theorem frameStatus {f : Frame} (h : d.Wf) : (d.frameStatus f).Wf := by
  unfold Dev.frameStatus
  extract_lets held1 d1 d2
  have hd1 : d1.Wf := h.setReg
  have hd2 : d2.Wf := hd1.put.put.put
  exact hd2.putB

theorem frameFaults {f : Frame} (h : d.Wf) : (d.frameFaults f).Wf := by
  unfold Dev.frameFaults
  extract_lets d1
  have hd1 : d1.Wf := by
    unfold d1
    split
    · exact h
    · exact h.noteEvent
  exact (ite hd1.noteEvent hd1).settleFaults

/-! ### Hop -/

theorem listenSlot {inputs : List (Nat × Bool × List Nat)} (h : d.Wf) : (d.listenSlot inputs).Wf := by
  unfold Dev.listenSlot
  extract_lets e1
  split
  · exact h
  · extract_lets afe1 rec1 lofs1 clipped1 f1
    exact ite h ((congr h).phaseEnd)

theorem noiseLevels (h : d.Wf) : d.noiseLevels.Wf := by
  unfold Dev.noiseLevels
  extract_lets put1 d1
  have hput1 : ∀ x0 x1, x0.Wf → (put1 x0 x1).Wf := by
    intro x0 x1 hx0
    unfold put1
    split
    · exact hx0.put.put.put
  have hd1 : d1.Wf := foldl hput1 h
  exact hd1.put

theorem hopDecide {ncorr : Nat} {member : Bool} (h : d.Wf) : (d.hopDecide ncorr member).Wf := by
  unfold Dev.hopDecide
  extract_lets cur1 lv1 per1 pc1 force1 e1 d1 d2 e2 e3
  have hd1 : d1.Wf := congr h
  have hd2 : d2.Wf := hd1.put
  have he2 : e2.Wf := hd2.put
  split
  · exact ite hd2.put hd2
  · split
    · exact hd2
    · split
      · split
        · exact hd2
        · exact congr he2
      · split
        · exact hd2
        · exact ite (congr he2) hd2

theorem hopApply {t : Nat} {cause : Nat} {lv : Nat} (h : d.Wf) : (d.hopApply t cause lv).Wf := by
  unfold Dev.hopApply
  extract_lets n1 d1 d2 d3 d4
  have hd1 : d1.Wf := h.put.put.put.put
  have hd2 : d2.Wf := hd1.put
  have hd3 : d3.Wf := hd2.incWrap
  have hd4 : d4.Wf := hd3.put.put.put
  exact hd4.event

theorem hopAtTick (h : d.Wf) : d.hopAtTick.Wf := by
  unfold Dev.hopAtTick
  extract_lets fo1 pe1 e1 d1 d2 other1
  have hd1 : d1.Wf := congr h
  have hd2 : d2.Wf := hd1.put
  have hother1 : ∀ x0, x0.Wf → (other1 x0).Wf := by
    intro x0 hx0
    unfold other1
    clear_value pe1
    split
    · exact ite hx0.hopApply hx0.inc
    · exact hx0.inc
  clear_value fo1
  split
  · exact ite hd2.hopApply (hother1 _ hd2.put)
  · exact hother1 _ hd2

theorem hopForce {idx : Nat} {go : Bool} {member : Bool} (h : d.Wf) : (d.hopForce idx go member).Wf := by
  unfold Dev.hopForce
  extract_lets e1 e2
  have he1 : e1.Wf := h.put
  exact ite h (ite h.put (ite h (congr he1)))

theorem hopStart (h : d.Wf) : d.hopStart.Wf := by
  unfold Dev.hopStart
  extract_lets e1 d1
  have hd1 : d1.Wf := congr h
  exact hd1.put.put.put.put

theorem hopTableWrite {a1 : Nat} {v : Word} (h : d.Wf) : (d.hopTableWrite a1 v).Wf := by
  unfold Dev.hopTableWrite
  extract_lets v1 ws1
  exact ite (ite h.stageBusy h.put) h.stageBusy

/-! ### Image -/

theorem setSw {s : Nat} (h : d.Wf) : (d.setSw s).Wf := ite h h.put.put

theorem setEls {es : List Elem} (h : d.Wf) : (d.setEls es).Wf := by
  unfold Dev.setEls
  extract_lets e1
  exact congr h

theorem swardDiscard (h : d.Wf) : d.swardDiscard.Wf := by
  unfold Dev.swardDiscard
  extract_lets e1 d1
  have hd1 : d1.Wf := congr h
  exact hd1.setSw.put.put

theorem formStart (h : d.Wf) : d.formStart.Wf := by
  unfold Dev.formStart
  extract_lets es1 e1 d1
  have hd1 : d1.Wf := congr h
  exact hd1.setSw.put.put

theorem imgStart (h : d.Wf) : d.imgStart.Wf := by
  unfold Dev.imgStart
  extract_lets fresh1 base1 es1 e1 d1 e2 gs1 d2
  have hd1 : d1.Wf := congr h
  have hd2 : d2.Wf := congr hd1
  split
  · split
    · extract_lets es2 d3
      have hd3 : d3.Wf := congr hd1
      exact hd3.setSw.put.put
    · exact ite hd2.put ((congr hd1).formStart)
  · exact (congr hd1).formStart

theorem imgStop (h : d.Wf) : d.imgStop.Wf := by
  unfold Dev.imgStop
  extract_lets e1
  exact congr h

theorem reformAsk (h : d.Wf) : d.reformAsk.Wf := by
  unfold Dev.reformAsk
  extract_lets e1 e2
  exact congr h

theorem settingChanged (h : d.Wf) : d.settingChanged.Wf := by
  unfold Dev.settingChanged
  extract_lets e1
  exact congr h

theorem reseat {f : Frame} (h : d.Wf) : (d.reseat f).Wf := by
  unfold Dev.reseat
  extract_lets due1 es1 enough1 d1 again1 e1
  have hd1 : d1.Wf := ite (ite h h.inc) h.put
  split
  · extract_lets es2 es3 es4 cs1
    exact ite h (congr hd1)

theorem regroup (h : d.Wf) : d.regroup.Wf := by
  unfold Dev.regroup
  extract_lets es1 idx1 gs1 e1 d1 d2
  have hd1 : d1.Wf := congr h
  have hd2 : d2.Wf := hd1.put
  exact ite hd2.setSw (ite hd2.setSw hd2)

theorem formFrame {f : Frame} (h : d.Wf) : (d.formFrame f).Wf := by
  unfold Dev.formFrame
  extract_lets es1 nM1 nS1 withSelf1 e1 e2 d1
  have he1 : e1.Wf := h.put
  have hd1 : d1.Wf := congr he1
  split
  · split
    · rename_i q3a _
      have hq3a : q3a.Wf := of_snd ‹_› (ite_snd hd1.fresh hd1)
      extract_lets es2 e3 d2
      have hd2 : d2.Wf := congr hq3a
      exact hd2.setSw.regroup
  · exact hd1

theorem keptFrame {old : List Elem} {f : Frame} {rs : Bool × Bool} (h : d.Wf) : (d.keptFrame old f rs).Wf := by
  unfold Dev.keptFrame
  extract_lets hasM1 hasS1 add1 nM1 nS1 es1 endM1 endS1 fin1 done1 e1
  exact ite h (congr h)

theorem trackFrame {f : Frame} (h : d.Wf) : (d.trackFrame f).Wf := by
  unfold Dev.trackFrame
  extract_lets sh1 ds1 runs1 es1
  exact ite h h.setEls

theorem freezeFrame (h : d.Wf) : d.freezeFrame.Wf := by
  unfold Dev.freezeFrame
  extract_lets fz1 es1
  exact h.setEls.put

theorem negFrame {old : List Elem} {f : Frame} (h : d.Wf) : (d.negFrame old f).Wf := by
  unfold Dev.negFrame
  extract_lets hasM1 hasS1 pos1 one1 res1 n1 d1
  have hd1 : d1.Wf := h.setEls.satAdd
  exact ite h.setEls (ite hd1.regroup hd1)

theorem groupsFrame {ks : List (Nat × List (Nat × Nat))} {ups : List Nat} {rs : Bool × Bool} (h : d.Wf) :
    (d.groupsFrame ks ups rs).Wf := by
  unfold Dev.groupsFrame
  extract_lets gs1 step1 es1 e1 d1
  have hd1 : d1.Wf := congr h
  exact ite h hd1.regroup

theorem openAxis {meds : List (Nat × Int)} (h : d.Wf) : (d.openAxis meds).Wf := by
  unfold Dev.openAxis
  extract_lets ref1 pct1
  refine foldl ?_ h
  intro d' x hd1'
  split
  · extract_lets n1 put1 d1 e1 d2 d3
    have hput1 : ∀ x0 x1, x0.Wf → (put1 x0 x1).Wf := fun _ _ h3 => congr h3
    have hd1 : d1.Wf := hput1 _ _ hd1'.supDrop
    have hd2 : d2.Wf := congr hd1
    have hd3 : d3.Wf := ite hd2.put hd2.put
    exact ite hd1' (ite hd3.raise (hput1 _ _ hd1'))

theorem openFrame {f : Frame} (h : d.Wf) : (d.openFrame f).Wf := by
  unfold Dev.openFrame
  extract_lets nodes1 med1 cols1 rows1
  exact ite h h.openAxis.openAxis

theorem swardBefore {f : Frame} (h : d.Wf) : (d.swardBefore f).1.Wf := by
  unfold Dev.swardBefore
  extract_lets d1 d2 e1 d3 d4 again1 e2 d5 d6 rs1 d7 nodes1 off1 first1 test1 e3 d8 gs1 e4
  have hd1 : d1.Wf := h.freezeFrame
  have hd2 : d2.Wf := ite hd1.formStart hd1
  have hd3 : d3.Wf := congr hd2
  have hd4 : d4.Wf := hd3.setEls
  have hd5 : d5.Wf := congr hd4
  have hd6 : d6.Wf := ite hd5.formStart hd5
  have hd7 : d7.Wf := hd4.reseat
  have hd8 : d8.Wf := congr hd7
  exact ite_fst hd6.formFrame (ite_fst hd8.formStart.put (congr hd8))

theorem swardAfter {f : Frame} {rs : Bool × Bool} (h : d.Wf) : (d.swardAfter f rs).Wf := by
  unfold Dev.swardAfter
  extract_lets old1
  exact h.trackFrame.keptFrame.negFrame

/-! ### Contact -/

theorem rebase {area : List (Nat × Nat × Nat)} (h : d.Wf) : (d.rebase area).Wf := by
  unfold Dev.rebase
  extract_lets es1 e1 e2 e3
  have he1 : e1.Wf := h.setEls
  exact congr he1

theorem ctRegs (h : d.Wf) : d.ctRegs.Wf := by
  unfold Dev.ctRegs
  extract_lets ks1 d1
  have hd1 : d1.Wf := h.put.put
  exact hd1.setReg

theorem ctKeys {frame : Nat} {silent : Bool} (h : d.Wf) : (d.ctKeys frame silent).Wf := by
  unfold Dev.ctKeys
  extract_lets v1 d1
  have hd1 : d1.Wf := h.setReg.event
  exact ite h (ite hd1 hd1.key)

theorem contactFrame {f : Frame} {stop : Bool} (h : d.Wf) : (d.contactFrame f stop).1.Wf := by
  unfold Dev.contactFrame
  extract_lets g1 cs1 idx1 olds1 pr1 palm1 cs2 stay1 gone1 blobs1 goneR1 left1 slots1
  split
  · extract_lets d1 d2 lim1 abs1 due1 ends1 kept1 d3 d4 d5 all1 ups1
    have hd1 : d1.Wf := ite h.inc h
    have hd2 : d2.Wf := hd1.satAdd
    have hd3 : d3.Wf := hd2.satAdd
    have hd4 : d4.Wf := hd3.satAdd
    have hd5 : d5.Wf := foldl (fun _ _ h6 => h6.rebase) hd4
    split
    · extract_lets d6 live1 stops1 recs1 endedAll1 final1 e1 e2 d7
      have hd6 : d6.Wf := hd5.put
      have hd7 : d7.Wf := congr hd6
      exact hd7.ctRegs

theorem groupsLift {slots : List Nat} (h : d.Wf) : (d.groupsLift slots).Wf := by
  unfold Dev.groupsLift
  extract_lets e1
  exact congr h

theorem endContacts {reason : Nat} (h : d.Wf) : (d.endContacts reason).1.Wf := by
  unfold Dev.endContacts
  extract_lets ks1 recs1 e1 e2 d1
  have hd1 : d1.Wf := congr h
  exact hd1.groupsLift.ctRegs

theorem gorseFrame {f : Frame} (h : d.Wf) : (d.gorseFrame f).Wf := by
  unfold Dev.gorseFrame
  extract_lets e1 n1 due1 g1 n2 due2
  exact ite (congr h) (ite (congr h) (congr h))

theorem loseRegion {k : Nat} (h : d.Wf) : (d.loseRegion k).Wf := by
  unfold Dev.loseRegion
  extract_lets e1 d1
  have hd1 : d1.Wf := congr h
  exact ite hd1.setReg h

/-! ### Gesture -/

theorem viewFrame {f : Frame} {ended : List (Contact × Nat)} {r : Nat} (h : d.Wf) : (d.viewFrame f ended r).1.Wf := by
  unfold Dev.viewFrame
  extract_lets fr1 mask1 n1 upd1 res1 last1 ups1 single1 e1 d1 taps1
  have hd1 : d1.Wf := congr h
  generalize hq : List.foldl _ (d1, []) taps1 = q
  have hq' : q.1.Wf := by
    rw [← hq]
    exact foldl_fst (fun _ _ hp => congr hp) hd1
  exact congr hq'

theorem gestureFrame {f : Frame} {ended : List (Contact × Nat)} (h : d.Wf) : (d.gestureFrame f ended).Wf := by
  unfold Dev.gestureFrame
  extract_lets e1 views1
  split
  · exact congr h
  · refine foldl ?_ h
    intro d' x hd1'
    split
    · rename_i q2a _ _
      have hq2a : q2a.Wf := of_fst ‹_› hd1'.viewFrame
      exact foldl (fun _ _ h4 => h4.report) hq2a

theorem wakeCause {f : Field} (h : d.Wf) : (d.wakeCause f).Wf := by
  unfold Dev.wakeCause
  extract_lets d1 e1
  have hd1 : d1.Wf := h.put
  exact ite (ite h (ite hd1 hd1.heathLeave)) (ite (congr hd1) h)

theorem wakeGesture {frame : Nat} {code : Nat} {id : Nat} {x : Int} {y : Int} (h : d.Wf) :
    (d.wakeGesture frame code id x y).Wf := by
  unfold Dev.wakeGesture
  extract_lets d1
  have hd1 : d1.Wf := ite h h.report
  exact ite hd1.wakeCause hd1

theorem wakeFrame {f : Frame} {ended : List (Contact × Nat)} (h : d.Wf) : (d.wakeFrame f ended).Wf := by
  unfold Dev.wakeFrame
  extract_lets fr1 n1 res1 swipe1 e1 d1 taps1
  have hd1 : d1.Wf := congr h
  generalize hq : List.foldl _ (d1, none) taps1 = q
  have hq' : q.1.Wf := by
    rw [← hq]
    exact foldl_fst (fun _ _ hp => congr hp) hd1
  obtain ⟨d2, dbl⟩ := q
  have hd2 : d2.Wf := hq'
  dsimp only
  clear_value swipe1
  split
  · exact ite hd2.wakeGesture hd2
  · exact ite hd2.wakeGesture hd2
  · exact ite hd2.wakeGesture hd2

/-! ### Approach -/

theorem optWord {w : OptWord} (h : d.Wf) : (d.optWord w).Wf := by
  unfold Dev.optWord
  extract_lets e1 e2 d1 n1 d2 d3 n2 e3 d4
  have he1 : e1.Wf := h.inc
  have hd1 : d1.Wf := congr he1
  have hd2 : d2.Wf := hd1.put
  have hd3 : d3.Wf := hd2.put.put.inc
  have he3 : e3.Wf := h.put
  have hd4 : d4.Wf := congr he3
  exact ite (ite hd3.raise hd2) (ite hd4.put hd4)

theorem optSample {good : List OptWord} {wins : Bool} (h : d.Wf) : (d.optSample good wins).Wf := by
  unfold Dev.optSample
  extract_lets n1 d1 mean1 sig1 dist1 d2 per1 near1 far1 e1 d3
  have hd1 : d1.Wf := h.put
  have hd2 : d2.Wf := hd1.put.put
  have hd3 : d3.Wf := congr hd2
  exact ite hd1 (ite hd3.put (ite hd3.put hd3))

theorem optCapture {good : List OptWord} (h : d.Wf) : (d.optCapture good).Wf := by
  unfold Dev.optCapture
  extract_lets use1 o1 o2 d1
  have hd1 : d1.Wf := congr h
  exact ite h (ite hd1.put.put (ite hd1.put.put hd1))

theorem optAmbient {offs : List Nat} (h : d.Wf) : (d.optAmbient offs).Wf := by
  unfold Dev.optAmbient
  extract_lets n1 good1 prev1 e1 d1 g1 num1 lux1 top1 d2
  have hd1 : d1.Wf := congr h
  have hd2 : d2.Wf := ite hd1.put hd1
  split
  · split
    · rename_i q3a _
      have hq3a : q3a.Wf := of_snd ‹_› hd1.fresh
      exact hq3a.put
  · exact hd2.put

theorem optReport {f : Frame} {det : Nat} {blind : Nat} (h : d.Wf) : (d.optReport f det blind).Wf := by
  unfold Dev.optReport
  extract_lets changed1 d1 div1 n1 nth1 e1 d2
  have hd1 : d1.Wf := ite h.event h
  have hd2 : d2.Wf := congr hd1
  exact ite (ite hd1.wakeGesture hd1) (ite hd2.report hd2)

theorem optWords {words : List OptWord} (h : d.Wf) : (d.optWords words).1.Wf := foldl_fst (fun _ _ h2 => h2.optWord) h

theorem burst {f : Frame} {words : List OptWord} {ledOc : Bool} (h : d.Wf) : (d.burst f words ledOc).Wf := by
  unfold Dev.burst
  extract_lets all1 words1 det1 blind1 d1 d2 e1 d3 good1
  have hd1 : d1.Wf := h.put
  have hd2 : d2.Wf := ite hd1.put hd1
  have hd3 : d3.Wf := congr hd2
  split
  · rename_i q4a _ _
    have hq4a : q4a.Wf := of_fst ‹_› hd3.optWords
    extract_lets d4 d5 d6
    have hd4 : d4.Wf := hq4a.optSample
    have hd5 : d5.Wf := hd4.optCapture
    have hd6 : d6.Wf := hd5.optAmbient
    exact hd6.optReport

theorem approachBurst {words : List OptWord} {ledOc : Bool} (h : d.Wf) : (d.approachBurst words ledOc).Wf := by
  unfold Dev.approachBurst
  extract_lets e1
  split
  · exact h
  · extract_lets d1
    have hd1 : d1.Wf := congr h
    exact ite h hd1.burst

theorem optOff (h : d.Wf) : d.optOff.Wf := by
  unfold Dev.optOff
  extract_lets changed1 d1 e1 d2 d3
  have hd1 : d1.Wf := h.put.put.put.put
  have hd2 : d2.Wf := congr hd1
  have hd3 : d3.Wf := hd2.event
  exact ite hd2 (ite hd3 hd3.report)

theorem optTaken {was : Bool} (h : d.Wf) : (d.optTaken was).Wf := by
  unfold Dev.optTaken
  extract_lets d1
  have hd1 : d1.Wf := ite h h.put
  exact ite hd1.optOff hd1

theorem optXtcap (h : d.Wf) : d.optXtcap.Wf := by
  unfold Dev.optXtcap
  extract_lets e1 e2
  have he1 : e1.Wf := h.put
  exact congr he1

/-! ### AuxConv -/

theorem setWin {k : Nat} {w : Win} (h : d.Wf) : (d.setWin k w).Wf := by
  unfold Dev.setWin
  extract_lets e1
  exact congr h

theorem calTaken {kind : Nat} (h : d.Wf) : (d.calTaken kind).Wf := by
  unfold Dev.calTaken
  extract_lets d1 d2 d3 d4
  have hd1 : d1.Wf := h.put
  have hd2 : d2.Wf := hd1.put
  have hd3 : d3.Wf := hd2.put
  have hd4 : d4.Wf := hd3.inc
  exact hd4.setReg.setReg

theorem convCal {n : Nat} (h : d.Wf) : (d.convCal n).Wf := by
  unfold Dev.convCal
  extract_lets c1 d1
  have hd1 : d1.Wf := h.setConv
  split
  · exact h
  · extract_lets d2
    have hd2 : d2.Wf := hd1.put.put
    exact ite hd2.calTaken hd2

theorem syncReset {n : Nat} (h : d.Wf) : (d.syncReset n).Wf := by
  unfold Dev.syncReset
  extract_lets c1 d1 d2
  have hd1 : d1.Wf := ite h.inc h
  have hd2 : d2.Wf := hd1.setConv
  exact ite h hd2.convStart.convCal

theorem syncResets {which : Nat → Bool} (h : d.Wf) : (d.syncResets which).Wf :=
  foldl (fun _ _ h2 => ite h2.syncReset h2) h

theorem commonTrigger (h : d.Wf) : d.commonTrigger.Wf := h.syncResets

theorem calAbortAux {code : Nat} {detail : Nat} (h : d.Wf) : (d.calAbortAux code detail).Wf := by
  unfold Dev.calAbortAux
  extract_lets d1
  have hd1 : d1.Wf := h.calFail
  split
  · exact h
  · exact foldl (fun _ _ h3 => ite h3.syncReset h3) hd1

theorem axCfgWrite {n : Nat} {v : Nat} (h : d.Wf) : (d.axCfgWrite n v).Wf := by
  unfold Dev.axCfgWrite
  extract_lets was1 keep1 d1 d2 e1 d3 d4
  have hd1 : d1.Wf := h.setReg
  have hd2 : d2.Wf := ite hd1.put hd1
  have hd3 : d3.Wf := ite (congr hd2) hd2
  have hd4 : d4.Wf := hd2.put.put
  exact ite (ite hd3 hd3.syncReset) (ite (hd4.calEnds (fun _ h6 => h6.calAbortAux)) hd4)

theorem axFiltWrite {n : Nat} {v : Nat} (h : d.Wf) : (d.axFiltWrite n v).Wf := by
  unfold Dev.axFiltWrite
  extract_lets keep1 osr1 d1
  have hd1 : d1.Wf := h.setReg
  exact ite hd1.put hd1

theorem wcCfgWrite {k : Nat} {v : Nat} (h : d.Wf) : (d.wcCfgWrite k v).Wf := by
  unfold Dev.wcCfgWrite
  extract_lets lo1 hi1 hys1 pers1 chan1 st1 was1 d1 d2 e1
  have hd1 : d1.Wf := h.setReg
  have hd2 : d2.Wf := hd1.put
  exact ite (ite h.put hd2.setWin) hd1.setWin

theorem windowsSee {n : Nat} {v : Int} (h : d.Wf) : (d.windowsSee n v).1.Wf := by
  unfold Dev.windowsSee
  refine foldl_fst (fun p k hp => ?_) h
  obtain ⟨d', m⟩ := p
  dsimp only
  split
  · exact (hp.setWin).put
  · exact hp

theorem windowEvents {m : Nat} (h : d.Wf) : (d.windowEvents m).Wf := by
  unfold Dev.windowEvents
  extract_lets d1 d2
  have hd1 : d1.Wf := h.put
  have hd2 : d2.Wf := ite hd1.event hd1
  exact ite h (ite hd2.wakeCause hd2)

theorem auxOutput {n : Nat} {ins : List (Nat × AuxIn)} (h : d.Wf) : (d.auxOutput n ins).Wf := by
  unfold Dev.auxOutput
  extract_lets c1 bad1
  split
  · extract_lets due1
    split
    · exact h
    · split
      · extract_lets w1 d1 d2 d3 d4
        have hd1 : d1.Wf := h.setReg.setReg
        have hd2 : d2.Wf := hd1.incWrap
        have hd3 : d3.Wf := hd2.setConv
        have hd4 : d4.Wf := ite hd3.put hd3
        clear_value d4
        split
        · rename_i d5 _ heq
          have hd5 : d5.Wf := of_fst heq (ite_fst hd4 hd4.windowsSee)
          extract_lets d6
          have hd6 : d6.Wf := hd5.windowEvents
          exact ite hd6.report hd6

theorem auxLatch {a1 : Bool} {n : Nat} (h : d.Wf) : (d.auxLatch a1 n).Wf := by
  unfold Dev.auxLatch
  extract_lets c1 l1
  exact h.setConv

theorem auxLatched {a1 : Bool} {ts : Bool} {n : Nat} (h : d.Wf) : (d.auxLatched a1 ts n).2.Wf := by
  unfold Dev.auxLatched
  extract_lets c1 l1 v1 l2
  exact h.setConv

theorem auxDrain (h : d.Wf) : d.auxDrain.Wf := by
  unfold Dev.auxDrain
  extract_lets d1 waits1 d2 d3
  have hd1 : d1.Wf := h.calAbortAux
  have hd2 : d2.Wf := congr hd1
  have hd3 : d3.Wf := foldl (fun _ _ h4 => h4.put.put) hd2
  exact ite hd3.put.calReason hd3

/-! ### Calib -/

theorem calRefuse {kind : Nat} {code : Nat} {tag : Nat} (h : d.Wf) : (d.calRefuse kind code tag).Wf := by
  unfold Dev.calRefuse
  extract_lets d1
  have hd1 : d1.Wf := h.calReason
  exact hd1.report

theorem calBegin {kind : Nat} (h : d.Wf) : (d.calBegin kind).Wf := by
  unfold Dev.calBegin
  extract_lets cfg1 d1 sel1 e1 e2 d2 d3 d4 e3
  have hd1 : d1.Wf := h.put
  have he1 : e1.Wf := hd1.put
  have hd2 : d2.Wf := congr he1
  have hd3 : d3.Wf := hd1.put.put.put.put
  have hd4 : d4.Wf := foldl (fun _ _ h6 => h6.unstageOffs) hd3
  exact ite (foldl (fun _ _ h7 => ite h7.put h7) hd2) (congr hd4)

theorem calGo {kind : Nat} (h : d.Wf) : (d.calGo kind).Wf := by
  unfold Dev.calGo
  split
  · exact h.calRefuse
  · exact h.calBegin

theorem calAbort {kind : Nat} (h : d.Wf) : (d.calAbort kind).Wf :=
  h.calEnds (fun _ h2 => ite h2.calAbortAux h2.calAbortTouch)

theorem calTick (h : d.Wf) : d.calTick.Wf := by
  unfold Dev.calTick
  extract_lets e1
  split
  · exact ite (congr h) h
  · exact h

theorem stageOffs {v : CalVals} (h : d.Wf) : (d.stageOffs v).Wf := foldl (fun _ _ h2 => h2.stage) h
theorem putOffs {v : CalVals} (h : d.Wf) : (d.putOffs v).Wf := foldl (fun _ _ h2 => h2.put.put) h
theorem putLine {n : Nat} {g : Nat} (h : d.Wf) : (d.putLine n g).Wf := ite h.put h.put

theorem putGains {v : CalVals} (h : d.Wf) : (d.putGains v).Wf := by
  unfold Dev.putGains
  extract_lets d1 d2
  have hd1 : d1.Wf := foldl (fun _ _ h2 => h2.put) h
  have hd2 : d2.Wf := foldl (fun _ _ h3 => h3.put) hd1
  exact foldl (fun _ _ h4 => h4.putLine) hd2

theorem putBase {v : CalVals} (h : d.Wf) : (d.putBase v).Wf := by
  unfold Dev.putBase
  extract_lets es1 e1 d1 d2
  have hd1 : d1.Wf := congr h
  have hd2 : d2.Wf := hd1.setSw.put
  exact hd2.put.put

theorem calForce {kind : Nat} {v : CalVals} (h : d.Wf) : (d.calForce kind v).Wf := by
  unfold Dev.calForce
  extract_lets e1 d1 d2
  have hd1 : d1.Wf := congr h
  have hd2 : d2.Wf := ite hd1.putBase hd1.putGains
  exact hd2.calTaken

theorem calAtTick (h : d.Wf) : d.calAtTick.Wf := by
  unfold Dev.calAtTick
  extract_lets d1 e1
  have hd1 : d1.Wf := foldl (fun _ _ h2 => ite h2.calForce h2) h
  split
  · exact hd1
  · extract_lets e2
    have he2 : e2.Wf := hd1.putGains
    exact congr he2

theorem calAtStart (h : d.Wf) : d.calAtStart.Wf := foldl (fun _ _ h2 => ite h2 h2.calForce) h

theorem calResult {t : CalTouch} {v : CalVals} (h : d.Wf) : (d.calResult t v).Wf := by
  unfold Dev.calResult
  extract_lets d1 d2 d3 late1 e1 d4 d5 tag1 d6
  have hd1 : d1.Wf := h.put.put.put
  have hd2 : d2.Wf := hd1.put
  have hd3 : d3.Wf := ite hd2.put.put hd2
  have hd4 : d4.Wf := (congr hd3).stageOffs
  have hd5 : d5.Wf := hd4.calReason
  have hd6 : d6.Wf := hd5.report
  split
  · exact h.calFail
  · exact hd6.endAsyncs

theorem calPassEnd {t : CalTouch} (h : d.Wf) : (d.calPassEnd t).Wf := by
  unfold Dev.calPassEnd
  extract_lets un1 late1 v1 d1 t1 e1
  have hd1 : d1.Wf := h.put
  split
  · exact h.calFail
  · split
    · exact h.calFail
    · split
      · split
        · exact congr hd1
        · split
          · exact ite h.calResult h.calFail
          · exact h.calResult
      · exact h.calResult

theorem calSpan {t : CalTouch} {f : Dev → Dev} (h : d.Wf) (hf2 : ∀ x0, x0.Wf → (f x0).Wf) : (d.calSpan t f).Wf := by
  unfold Dev.calSpan
  extract_lets n1 d1
  have hd1 : d1.Wf := hf2 _ h.put
  exact ite hd1.calFail hd1

theorem calFrame {f : Frame} (h : d.Wf) : (d.calFrame f).Wf := by
  unfold Dev.calFrame
  split
  · exact h
  · refine calSpan h ?_
    intro d' hd1'
    extract_lets t1 e1 d1
    have hd1 : d1.Wf := congr hd1'
    exact ite hd1.calPassEnd hd1

theorem calOverrun {f : Frame} (h : d.Wf) : (d.calOverrun f).Wf := by
  unfold Dev.calOverrun
  split
  · exact h
  · exact ite (h.calSpan (fun _ h => h)) h

theorem calAuxPass {outs : List (Nat × Int × Int × Bool)} (h : d.Wf) : (d.calAuxPass outs).Wf := by
  unfold Dev.calAuxPass
  extract_lets e1 e2 d1 d2 d3
  have he2 : e2.Wf := h.put
  have hd1 : d1.Wf := congr he2
  have hd2 : d2.Wf := hd1.calReason
  have hd3 : d3.Wf := hd2.put
  split
  · exact h
  · extract_lets sel1 got1 clamped1 ovr1 vals1 res1 release1 fail1 late1 waiting1 d4 tag1 d5
    have hrelease1 : ∀ x0, x0.Wf → (release1 x0).Wf := fun _ h6 => foldl (fun _ _ h7 => ite h7.syncReset h7) h6
    have hd4 : d4.Wf := ite (hrelease1 _ (foldl (fun _ _ h7 => h7.setConv) hd3)) (hrelease1 _ ((foldl (fun _ _ h7 =>
        h7.put.put) hd2).calTaken))
    have hd5 : d5.Wf := hd4.report
    split
    · exact h
    · split
      · exact congr h
      · clear_value fail1
        split
        · exact h.calEnds (fun _ h9 => hrelease1 _ h9.calFail)
        · exact hd5.endAsyncs

theorem calLoad {bs : List Byte} (h : d.Wf) : (d.calLoad bs).Wf := by
  unfold Dev.calLoad
  extract_lets m1 d1 d2 d3 v1 e1 d4 gone1 e2 d5 d6 d7 d8 e3
  have hd1 : d1.Wf := h.setReg
  have hd2 : d2.Wf := hd1.put
  have hd3 : d3.Wf := hd2.put
  have hd4 : d4.Wf := ite (congr hd3) hd3
  have hd5 : d5.Wf := congr hd4
  have hd6 : d6.Wf := hd5.stageOffs
  have hd7 : d7.Wf := hd4.putOffs.putGains
  have hd8 : d8.Wf := ite (foldl (fun _ _ h9 => h9.put) hd6) (ite hd7.put.put hd7)
  split
  · extract_lets d9 e4 d10
    have hd9 : d9.Wf := hd8.setConv
    have hd10 : d10.Wf := hd9.setConv
    exact hd10.put
  · exact hd8

theorem calDefaults (h : d.Wf) : d.calDefaults.Wf := by
  unfold Dev.calDefaults
  extract_lets d1 d2 d3 d4
  have hd1 : d1.Wf := foldl (fun _ _ h2 => h2.put.put) h
  have hd2 : d2.Wf := foldl (fun _ _ h3 => h3.putLine) hd1
  have hd3 : d3.Wf := foldl (fun _ _ h4 => h4.put.put) hd2
  have hd4 : d4.Wf := hd3.put
  exact ite h hd4.put

/-! ### Flags -/

theorem aluWrite {s : Bool} {rd : BitVec 4} {x : AluRes} (h : d.Wf) : (d.aluWrite s rd x).Wf := by
  unfold Dev.aluWrite
  extract_lets d1 e1
  have hd1 : d1.Wf := h.setG
  exact ite (congr hd1) hd1

/-! ### Xram -/

theorem eccNote (h : d.Wf) : d.eccNote.Wf := by
  unfold Dev.eccNote
  extract_lets e1
  exact foldl (fun _ _ h2 => h2.noteEvent) (congr h)

theorem eccFlush (h : d.Wf) : d.eccFlush.Wf := ite h h.eccNote.settleFaults
theorem eccWord {client : Nat} {w : Nat} (h : d.Wf) : (d.eccWord client w).Wf := h.eccMeet.eccFlush

theorem eccTouch {client : Nat} {o : Nat} {n : Nat} (h : d.Wf) : (d.eccTouch client o n).Wf :=
  (foldl (fun _ _ h2 => h2.eccMeet) h).eccFlush

theorem xwriteEcc {client : Nat} {o : Nat} {bs : List Byte} (h : d.Wf) : (d.xwriteEcc client o bs).Wf :=
  h.xwriteClean.eccFlush

theorem scrubBank {b : Nat} {upset : Nat} (h : d.Wf) : (d.scrubBank b upset).Wf := by
  unfold Dev.scrubBank
  extract_lets pos1 w1 m1 clean1 m2 m3
  have hm2 : m2.xram = m1.xram ∧ m2.dmem = m1.dmem ∧ m2.imemA = m1.imemA ∧ m2.imemB = m1.imemB := by
    unfold m2
    split
    · exact ⟨rfl, rfl, rfl, rfl⟩
    · split <;> exact ⟨rfl, rfl, rfl, rfl⟩
  have hm3 : m3.xram = m2.xram ∧ m3.dmem = m2.dmem ∧ m3.imemA = m2.imemA ∧ m3.imemB = m2.imemB := by
    unfold m3
    split <;> exact ⟨rfl, rfl, rfl, rfl⟩
  obtain ⟨hx, hd, ha, hb⟩ := hm2
  obtain ⟨hx', hd', ha', hb'⟩ := hm3
  exact ite h (eccWord (h.congr rfl rfl (hx'.trans hx) (hd'.trans hd) (ha'.trans ha) (hb'.trans hb)))

theorem scrubRead {upset0 : Nat} {upset1 : Nat} (h : d.Wf) : (d.scrubRead upset0 upset1).Wf := h.scrubBank.scrubBank

/-! ### Seq -/

theorem seqCount {n : Nat} (h : d.Wf) : (d.seqCount n).Wf := by
  unfold Dev.seqCount
  extract_lets c1 past1 e1
  exact ite h (congr h)

theorem seqGoto {next : Nat} (h : d.Wf) : (d.seqGoto next).Wf := by
  unfold Dev.seqGoto
  extract_lets e1
  exact ite (congr h) h.seqFault

theorem seqDone {a : Nat} {next : Nat} (h : d.Wf) : (d.seqDone a next).Wf := by
  unfold Dev.seqDone
  extract_lets e1
  exact ite (ite ((congr h).seqHalt) h.seqFault) h.seqGoto

theorem seqStopped {entry : Nat} {n : Nat} {a : Nat} (h : d.Wf) : (d.seqStopped entry n a).Wf := by
  unfold Dev.seqStopped
  extract_lets d1
  have hd1 : d1.Wf := h.put.seqCount
  exact ite hd1.seqDone hd1.put

theorem seqInsn {w : Word} {cond : BitVec 4} {body : Dev → Dev × Nat × SeqEnd} (h : d.Wf) (hf3 : ∀ x0, x0.Wf → (body
    x0).1.Wf) : (d.seqInsn w cond body).Wf := by
  unfold Dev.seqInsn
  extract_lets a1
  split
  · exact h
  · split
    · exact h.seqCount.seqDone
    · split
      · rename_i q2a _ _ _
        have hq2a : q2a.Wf := of_fst ‹_› (hf3 _ h)
        split
        · exact hq2a.seqCount.seqFault
        · exact hq2a.seqStopped
        · exact ite hq2a.seqCount.seqDone hq2a.seqCount
        · exact ite hq2a.seqCount.seqDone hq2a.seqCount

theorem seqAlu {w : Word} {cond : BitVec 4} {s : Bool} {rd : BitVec 4} {cost : Nat} {f : Dev → AluRes} (h : d.Wf) :
    (d.seqAlu w cond s rd cost f).Wf :=
  h.seqInsn (fun _ h2 => h2.aluWrite)

theorem seqIllegal {w : Word} (h : d.Wf) : (d.seqIllegal w).Wf := ite h.seqCount.seqFault h

theorem xramCost {o : Nat} (h : d.Wf) : (d.xramCost o).2.Wf := by
  unfold Dev.xramCost
  extract_lets s1 r1
  exact congr h

theorem seqLoad {rd : BitVec 4} {rs : BitVec 4} {o : Op2} {width : Nat} {f : Nat → Word} (h : d.Wf) :
    (d.seqLoad rd rs o width f).1.Wf := by
  unfold Dev.seqLoad
  extract_lets a1 x1
  split
  · exact h
  · split
    · exact h.setG
    · split
      · rename_i q1a _
        have hq1a : q1a.Wf := of_snd ‹_› h.xramCost
        extract_lets bad1 v1 d1
        have hd1 : d1.Wf := hq1a.eccTouch
        exact ite_fst hd1 hd1.setG

theorem seqStore {rd : BitVec 4} {rs : BitVec 4} {o : Op2} {width : Nat} (h : d.Wf) :
    (d.seqStore rd rs o width).1.Wf := by
  unfold Dev.seqStore
  extract_lets a1 bs1 e1 x1
  split
  · exact h
  · split
    · exact Dev.canonical_dmemWrite h _ _
    · split
      · rename_i q1a _
        have hq1a : q1a.Wf := of_snd ‹_› h.xramCost
        extract_lets bad1 d1
        have hd1 : d1.Wf := hq1a.eccTouch
        split
        · exact hd1
        · exact hd1.xwrite

theorem seqTbl {rd : BitVec 4} {rs : BitVec 4} {o : Op2} (h : d.Wf) : (d.seqTbl rd rs o).1.Wf := by
  unfold Dev.seqTbl
  extract_lets a1
  split
  · exact h.setG
  · exact h

theorem seqJump {link : Bool} {t : Nat} (h : d.Wf) : (d.seqJump link t).1.Wf := ite h.setG h

theorem seqEvents {rd : BitVec 4} {v : Nat} (h : d.Wf) : (d.seqEvents rd v).Wf := by
  unfold Dev.seqEvents
  extract_lets d1 e1
  have hd1 : d1.Wf := h.setG
  exact congr hd1

theorem seqWait {rd : BitVec 4} {t : Word} {m : Word} (h : d.Wf) : (d.seqWait rd t m).1.Wf := by
  unfold Dev.seqWait
  extract_lets v1 T1 n1 e1 d1
  have hd1 : d1.Wf := congr h
  exact ite_fst h.seqEvents hd1.put

theorem waitEnd (h : d.Wf) : d.waitEnd.Wf := by
  unfold Dev.waitEnd
  split
  · exact h
  · extract_lets v1 d1 d2 e1 e2 d3
    have hd1 : d1.Wf := h.seqEvents
    have hd2 : d2.Wf := ite hd1.inc hd1
    have he1 : e1.Wf := hd2.put
    have hd3 : d3.Wf := congr he1
    exact ite h (ite h hd3.seqDone)

theorem handlerStart (h : d.Wf) : d.handlerStart.Wf := by
  unfold Dev.handlerStart
  extract_lets q1
  split
  · exact h
  · split
    · exact h
    · extract_lets q2 d1
      have hd1 : d1.Wf := ((congr h).put).put
      exact hd1.seqGoto

theorem resetReturned (h : d.Wf) : d.resetReturned.Wf := by
  unfold Dev.resetReturned
  extract_lets run1 e1 d1 d2 d3 e2 e3
  have hd1 : d1.Wf := congr h
  have hd2 : d2.Wf := hd1.setSt
  have hd3 : d3.Wf := hd2.put.put
  have he2 : e2.Wf := hd3.setSt
  exact ite (ite (congr he2) hd2) hd1

theorem seqEnd (h : d.Wf) : d.seqEnd.Wf := by
  unfold Dev.seqEnd
  extract_lets e1 d1 e2 d2
  have hd1 : d1.Wf := h.put.put
  have hd2 : d2.Wf := ite (congr hd1) hd1
  exact ite hd2.resetReturned hd2

theorem seqBrk (h : d.Wf) : (d.seqBrk).1.Wf := by
  unfold Dev.seqBrk
  extract_lets d1 e1
  have hd1 : d1.Wf := h.put.put
  exact ite_fst (congr hd1) h

theorem seqResume (h : d.Wf) : d.seqResume.Wf := by
  unfold Dev.seqResume
  extract_lets d1 d2
  have hd1 : d1.Wf := h.put
  have hd2 : d2.Wf := hd1.seqCount
  exact ite h hd2.seqDone

theorem seqHaltReq (h : d.Wf) : d.seqHaltReq.Wf := ite h h.seqHalt
theorem seqClrCnt (h : d.Wf) : d.seqClrCnt.Wf := ite h.setReg.setReg h
theorem resetTimeout (h : d.Wf) : d.resetTimeout.Wf := ite h.seqHalt h

theorem seqStopNow (h : d.Wf) : d.seqStopNow.Wf := by
  unfold Dev.seqStopNow
  extract_lets e1 d1 d2
  have hd1 : d1.Wf := congr h
  have hd2 : d2.Wf := hd1.put.put
  exact ite hd2.inc.raise h

theorem seqStopTimeout (h : d.Wf) : d.seqStopTimeout.Wf := ite h.seqStopNow h

theorem seqTick {entry : Bool} (h : d.Wf) : (d.seqTick entry).Wf := by
  unfold Dev.seqTick
  extract_lets d1 e1 d2 d3 owed1 c1 d4 d5 e2 d6 d7 e3 d8 n1 e4 d9
  have hd1 : d1.Wf := h.seqCount
  have hd2 : d2.Wf := congr hd1
  have hd3 : d3.Wf := ite (ite hd2.seqDone hd2) h
  have hd4 : d4.Wf := hd3.put
  have hd5 : d5.Wf := ite hd4.put hd4
  have hd6 : d6.Wf := congr hd5
  have hd7 : d7.Wf := ite hd6.event hd6
  have hd8 : d8.Wf := ite ((congr hd7).raise) hd7
  have hd9 : d9.Wf := congr hd8
  exact ite h (ite hd7 (ite (ite hd9.seqHalt hd9.raise) (ite (congr hd8) hd8)))

theorem raiseFrame (h : d.Wf) : d.raiseFrame.Wf := by
  unfold Dev.raiseFrame
  extract_lets e1
  exact ite (congr h) h

/-! ### Panel -/

theorem putBit {a0 : Nat} {a1 : Nat} {k : Nat} {b : Bool} (h : d.Wf) : (d.putBit a0 a1 k b).Wf := by
  unfold Dev.putBit
  extract_lets a2
  exact h.setReg

theorem setF {k : Nat} {b : Bool} (h : d.Wf) : (d.setF k b).Wf := h.putB.putBit
theorem setLat {k : Nat} {b : Bool} (h : d.Wf) : (d.setLat k b).Wf := h.putB.putBit

theorem edSample {k : Nat} (h : d.Wf) : (d.edSample k).Wf := by
  unfold Dev.edSample
  extract_lets s1 d1 n1 d2 d3
  have hd1 : d1.Wf := h.putB
  have hd2 : d2.Wf := hd1.setF.put
  have hd3 : d3.Wf := hd2.setLat
  exact ite h (ite hd1.put (ite hd1.put (ite (ite hd3.event hd3) hd2)))

theorem edSampleAll (h : d.Wf) : d.edSampleAll.Wf := foldl (fun _ _ h2 => h2.edSample) h

theorem edArm {k : Nat} (h : d.Wf) : (d.edArm k).Wf := by
  unfold Dev.edArm
  extract_lets d1 s1
  have hd1 : d1.Wf := h.put
  exact ite hd1.setF.putB hd1.setF.putB

theorem edCfgWrite {k : Nat} {v : Nat} (h : d.Wf) : (d.edCfgWrite k v).Wf := by
  unfold Dev.edCfgWrite
  extract_lets styp1 snum1
  exact ite h h.setReg.edArm

theorem tmSet {k : Nat} {run : Bool} {q : Bool} {count : Nat} (h : d.Wf) : (d.tmSet k run q count).Wf := h.putB.putB.put
theorem setExp {k : Nat} {b : Bool} (h : d.Wf) : (d.setExp k b).Wf := h.putB.putBit

theorem tmExpire {k : Nat} (h : d.Wf) : (d.tmExpire k).Wf := by
  unfold Dev.tmExpire
  extract_lets q1 n1 d1 d2
  have hd1 : d1.Wf := by
    unfold d1
    split
    · exact h.tmSet
    · exact h.tmSet
    · exact h.tmSet
    · exact h.tmSet
    · exact h.tmSet
    · exact h
  have hd2 : d2.Wf := hd1.setExp
  exact ite hd2.event hd2

theorem tmEval {units : Nat} {k : Nat} (h : d.Wf) : (d.tmEval units k).Wf := by
  unfold Dev.tmEval
  extract_lets inp1 mode1 trig1 rise1 e1 d1 preset1 e2
  have hd1 : d1.Wf := congr h
  split
  · exact hd1
  · split
    · extract_lets n1 d2 d3
      have hd2 : d2.Wf := ite (congr hd1) hd1
      have hd3 : d3.Wf := hd2.tmSet
      exact ite hd3.tmExpire hd3

theorem tmMicro {k : Nat} (h : d.Wf) : (d.tmMicro k).Wf := by
  unfold Dev.tmMicro
  extract_lets base1 meadow1 f1 keep1 e1 d1
  have hd1 : d1.Wf := congr h
  exact ite (ite h.tmEval h) (ite (ite (ite ((congr h).tmEval) (ite hd1.tmEval hd1)) (ite h.tmEval h)) (ite h.tmEval h))

theorem timersMicro (h : d.Wf) : d.timersMicro.Wf := foldl (fun _ _ h2 => h2.tmMicro) h
theorem timersTick (h : d.Wf) : d.timersTick.Wf := foldl (fun _ _ h2 => h2.tmEval) h
theorem timerExpiry {k : Nat} (h : d.Wf) : (d.timerExpiry k).Wf := ite h.put.tmExpire h

theorem tmCfgWrite {k : Nat} {v : Nat} (h : d.Wf) : (d.tmCfgWrite k v).Wf := by
  unfold Dev.tmCfgWrite
  extract_lets old1 w1 w2 w3
  exact h.setReg.tmSet

theorem tmPresetWrite {k : Nat} {v : Nat} (h : d.Wf) : (d.tmPresetWrite k v).Wf := h.put

theorem tmTrig {k : Nat} (h : d.Wf) : (d.tmTrig k).Wf := by
  unfold Dev.tmTrig
  extract_lets mode1 e1
  exact ite (congr h) h

theorem gpioCfgWrite {n : Nat} {v : Nat} (h : d.Wf) : (d.gpioCfgWrite n v).Wf := by
  unfold Dev.gpioCfgWrite
  extract_lets old1 w1 w2 w3
  exact h.setReg.pwmSettle

theorem gpioSet {v : Nat} (h : d.Wf) : (d.gpioSet v).Wf := h.put
theorem gpioClr {v : Nat} (h : d.Wf) : (d.gpioClr v).Wf := h.put
theorem pwmEnd {n : Nat} (h : d.Wf) : (d.pwmEnd n).Wf := ite h.pwmPeriodEnd h

theorem pwmWrite {n : Nat} {v : Nat} (h : d.Wf) : (d.pwmWrite n v).Wf := by
  unfold Dev.pwmWrite
  extract_lets a1 old1 v1
  exact h.setReg.pwmSettle

theorem gpioDebounced {n : Nat} {level : Bool} {pads : Nat} (h : d.Wf) : (d.gpioDebounced n level pads).Wf := by
  unfold Dev.gpioDebounced
  extract_lets d1 d2
  have hd1 : d1.Wf := h.put
  have hd2 : d2.Wf := hd1.put
  exact ite h (ite hd1 (ite hd2.wakeCause hd2))

/-! ### Prog -/

theorem progLoad {bs : List Byte} (h : d.Wf) : (d.progLoad bs).Wf := by
  unfold Dev.progLoad
  extract_lets d1 b1
  have hd1 : d1.Wf := h.swapEnd
  split
  · extract_lets d2 e1 d3
    have hd2 : d2.Wf := hd1.imemWrite
    have hd3 : d3.Wf := congr hd2
    exact hd3.put.put

theorem shadowWrite {o : Nat} {bs : List Byte} (h : d.Wf) : (d.shadowWrite o bs).Wf := by
  unfold Dev.shadowWrite
  extract_lets d1 b1
  have hd1 : d1.Wf := h.swapEnd
  exact (hd1.imemWrite).put

theorem setVres {r : Nat × Nat} (h : d.Wf) : (d.setVres r).Wf := h.put.put

theorem progVerify {written : Bool} (h : d.Wf) : (d.progVerify written).2.Wf := by
  unfold Dev.progVerify
  split
  · exact h
  · extract_lets r1 r2
    exact ite_snd h h.setVres.putB

theorem presetIdle {p : Nat × Nat × Nat} (h : d.Wf) : (d.presetIdle p).Wf := h.setReg.put.tmSet

theorem safeTake {im : Image} (h : d.Wf) : (d.safeTake im).Wf := by
  unfold Dev.safeTake
  extract_lets e1
  exact congr h

theorem activate {im : Image} (h : d.Wf) : (d.activate im).Wf := by
  unfold Dev.activate
  extract_lets d1 d2 d3 d4 e1 d5
  have hd1 : d1.Wf := (foldl (fun _ _ h2 => h2.presetIdle) h).safeTake
  have hd2 : d2.Wf := hd1.setReg
  have hd3 : d3.Wf := hd2.put.put
  have hd4 : d4.Wf := hd3.put.put
  have hd5 : d5.Wf := congr hd4
  exact ite hd5.setSt hd5

theorem switchBanks {im : Image} (h : d.Wf) : (d.switchBanks im).Wf := by
  unfold Dev.switchBanks
  extract_lets d1 d2 e1
  have hd1 : d1.Wf := h.put
  have hd2 : d2.Wf := hd1.put.put.put
  exact congr hd2

theorem swapDone (h : d.Wf) : d.swapDone.Wf := h.put.put.put.put

theorem timerCross {im : Image} {k : Nat} (h : d.Wf) : (d.timerCross im k).Wf := by
  unfold Dev.timerCross
  extract_lets kept1 d1 e1 d2 d3 inp1 e2
  have hd1 : d1.Wf := by
    unfold d1
    split
    · exact h
    · exact h.setReg.put
  have hd2 : d2.Wf := hd1.tmSet.setExp
  have hd3 : d3.Wf := hd2.put
  exact ite (ite (congr hd1) hd1) (congr hd3)

theorem edgeCross {im : Image} {k : Nat} (h : d.Wf) : (d.edgeCross im k).Wf := by
  unfold Dev.edgeCross
  extract_lets d1
  have hd1 : d1.Wf := h.put.setLat
  exact ite h (ite hd1.setF hd1)

theorem swapNow {im : Image} (h : d.Wf) : (d.swapNow im).Wf := by
  unfold Dev.swapNow
  extract_lets d1 d2 e1 d3 d4 d5 d6 tag1 e2 d7 d8 d9
  have hd1 : d1.Wf := h.switchBanks.safeTake
  have hd2 : d2.Wf := hd1.setReg
  have hd3 : d3.Wf := Dev.canonical_dropDmem hd2 _
  have hd4 : d4.Wf := foldl (fun _ _ h5 => h5.edgeCross) hd3
  have hd5 : d5.Wf := foldl (fun _ _ h6 => h6.timerCross) hd4
  have hd6 : d6.Wf := hd5.put
  have hd7 : d7.Wf := congr hd6
  have hd8 : d8.Wf := hd7.swapDone
  have hd9 : d9.Wf := hd8.report
  exact hd9.endAsyncs

theorem swapFail {c : Nat × Nat} (h : d.Wf) : (d.swapFail c).Wf := by
  unfold Dev.swapFail
  extract_lets d1
  have hd1 : d1.Wf := h.swapRefuse
  exact hd1.endAsyncs

theorem swapTick (h : d.Wf) : d.swapTick.Wf := by
  unfold Dev.swapTick
  extract_lets e1
  split
  · split
    · exact h.swapFail
    · split
      · split
        · exact h.swapFail
        · exact h.swapNow
      · exact ite h.swapFail (congr h)
  · exact h.swapFail
  · exact h

theorem swapNoIdle (h : d.Wf) : d.swapNoIdle.Wf := ite h.swapFail h

theorem bootVerify (h : d.Wf) : d.bootVerify.Wf := by
  unfold Dev.bootVerify
  extract_lets e1 d1
  have hd1 : d1.Wf := congr h
  split
  · exact hd1
  · extract_lets r1 d2
    have hd2 : d2.Wf := hd1.setVres.put
    exact ite hd2.activate hd2.put

theorem bootTimeout (h : d.Wf) : d.bootTimeout.Wf := by
  unfold Dev.bootTimeout
  extract_lets d1 d2 e1
  have hd1 : d1.Wf := h.setVres
  have hd2 : d2.Wf := hd1.put
  exact ite ((congr hd2).ppBootDrop) h

/-! ### Ring -/

theorem clSend {typ : Nat} {dst : Nat} {frame : Nat} {body : List Byte} (h : d.Wf) :
    (d.clSend typ dst frame body).Wf := by
  unfold Dev.clSend
  extract_lets q1 f1 e1
  exact ite h (congr h)

theorem clForward {f : RingFrame} (h : d.Wf) : (d.clForward f).Wf := by
  unfold Dev.clForward
  extract_lets e1
  exact ite (congr h) h

theorem clNoise {frame : Nat} (h : d.Wf) : (d.clNoise frame).Wf := ite h.clSend h

theorem hopCombine {a1 : Bool} (h : d.Wf) : (d.hopCombine a1).Wf := by
  unfold Dev.hopCombine
  extract_lets len1 d1
  have hd1 : d1.Wf := by
    unfold d1
    refine foldl ?_ h
    intro d' x hd1'
    extract_lets f1 full1 ps1 n1 mx1 a1
    have ha1 : a1.Wf := hd1'.put
    exact ite hd1' (ite hd1'.put.put ha1.put)
  exact ite h hd1

theorem clMutual (h : d.Wf) : d.clMutual.Wf := by
  unfold Dev.clMutual
  extract_lets gap1 e1
  split
  · exact h
  · extract_lets own1 d1
    have hd1 : d1.Wf := congr h
    exact ite h (ite hd1.clSend hd1)

theorem clChoose (h : d.Wf) : d.clChoose.Wf := by
  unfold Dev.clChoose
  extract_lets e1 e2
  split
  · exact h
  · extract_lets all1 pick1 d1
    have hd1 : d1.Wf := congr h
    exact ite h hd1.clSend

theorem deltaOut {frame : Nat} {o : Nat} {b : List Byte} (h : d.Wf) : (d.deltaOut frame o b).Wf := by
  unfold Dev.deltaOut
  extract_lets d1 psn1
  have hd1 : d1.Wf := ite h.xwriteClean.eccTouch h
  exact hd1.clSend

theorem clDelta {frame : Nat} (h : d.Wf) : (d.clDelta frame).Wf := by
  unfold Dev.clDelta
  extract_lets cols1 idx1 prof1 zero1 packed1 sent1 flags1 stale1 mk1 miss1 last1 out1
  exact ite h (foldl_fst (fun _ _ h2 => h2.deltaOut) h)

theorem clTake {src : Nat} {o : Nat} {body : List Byte} (h : d.Wf) : (d.clTake src o body).Wf := by
  unfold Dev.clTake
  extract_lets first1 ncol1 fl1 lost1 fl2 stale1 vals1 bad1 n1 gone1 pv1 entry1 d1 e1
  have hd1 : d1.Wf := ite h.put h
  split
  · extract_lets new1 prof1 add1 keep1
    exact congr hd1

theorem stageSend (h : d.Wf) : d.stageSend.Wf := by
  unfold Dev.stageSend
  extract_lets s1 e1 d1
  have hd1 : d1.Wf := congr h
  exact ite h (foldl (fun _ _ h3 => h3.clSend) hd1)

theorem stageStop (h : d.Wf) : d.stageStop.Wf := by
  unfold Dev.stageStop
  extract_lets e1
  exact ite ((congr h).stageSend) h

/-! ### Periph -/

theorem ppAhead (h : d.Wf) : d.ppAhead.Wf := by
  unfold Dev.ppAhead
  extract_lets e1
  split
  · exact h
  · split
    · exact h
    · extract_lets n1
      exact (congr h).eccTouch

theorem ppJoin {x : Xfer} (h : d.Wf) : (d.ppJoin x).Wf := by
  unfold Dev.ppJoin
  extract_lets d1
  have hd1 : d1.Wf := ite h.ppState.put h
  exact hd1.ppQueue.ppAhead

theorem ppGo {k : Nat} (h : d.Wf) : (d.ppGo k).Wf := by
  unfold Dev.ppGo
  extract_lets d1
  have hd1 : d1.Wf := h.put
  split
  · exact h
  · split
    · exact h.put.ppState.event
    · exact ite hd1.ppJoin hd1.ppState.put

theorem ppGoStart {m : Nat} (h : d.Wf) : (d.ppGoStart m).Wf := foldl (fun _ _ h2 => h2.ppGo) h

theorem ppStop {k : Nat} (h : d.Wf) : (d.ppStop k).Wf := by
  unfold Dev.ppStop
  extract_lets d1
  have hd1 : d1.Wf := h.put
  exact ite h (ite hd1 hd1.ppQueue.ppState)

theorem ppGoStop {m : Nat} (h : d.Wf) : (d.ppGoStop m).Wf := foldl (fun _ _ h2 => h2.ppStop) h

theorem ppTick (h : d.Wf) : d.ppTick.Wf := by
  unfold Dev.ppTick
  split
  · exact h
  · refine foldl ?_ h
    intro d' x hd1'
    extract_lets x1 d1
    have hd1 : d1.Wf := ite hd1' hd1'.put
    exact ite hd1' (ite hd1.inc (ite hd1.put.ppState.event hd1.ppJoin))

theorem ppPrefetch {x : Xfer} (h : d.Wf) : (d.ppPrefetch x).2.Wf := by
  unfold Dev.ppPrefetch
  extract_lets n1 e1
  split
  · exact h
  · split
    · exact congr h
    · exact h.eccTouch

theorem ppSelect {x : Xfer} {fifo : List Byte} (h : d.Wf) : (d.ppSelect x fifo).Wf := by
  unfold Dev.ppSelect
  extract_lets d1 t1 head1 tc1 f1 e1 d2
  have hd1 : d1.Wf := ite h.ppState h
  have hd2 : d2.Wf := congr hd1
  exact hd2.put.put.incWrap.ppAhead

theorem ppFrameStart (h : d.Wf) : d.ppFrameStart.Wf := by
  unfold Dev.ppFrameStart
  split
  · exact h
  · split
    · exact h
    · split
      · rename_i q1a _
        have hq1a : q1a.Wf := of_snd ‹_› h.ppPrefetch
        split
        · exact hq1a
        · split
          · exact hq1a.ppQueue.ppEnd
          · exact hq1a.ppQueue.ppSelect

theorem bootNext (h : d.Wf) : d.bootNext.Wf := by
  unfold Dev.bootNext
  extract_lets n1
  exact ite h.bootVerify h.ppJoin

theorem ppFrameEnd {rx : List Byte} (h : d.Wf) : (d.ppFrameEnd rx).Wf := by
  unfold Dev.ppFrameEnd
  extract_lets d1
  have hd1 : d1.Wf := h.ppIdle
  split
  · exact h
  · extract_lets x1 got1
    split
    · exact h
    · split
      · split
        · rename_i q2a _
          have hq2a : q2a.Wf := of_snd ‹_› h.ppData
          split
          · exact h
          · extract_lets data1 d2
            have hd2 : d2.Wf := hq2a.ppWire.ppIdle
            split
            · exact h
            · split
              · exact (foldl (fun _ _ h5 => h5.bootByte) hd2).bootNext
              · split
                · rename_i q4a _
                  have hq4a : q4a.Wf := of_snd ‹_› hd2.ppStore
                  extract_lets d3
                  have hd3 : d3.Wf := hq4a.eccFlush
                  split
                  · exact hd3.ppEnd
                  · exact hd3.ppEnd
      · split
        · extract_lets n1
          exact hd1.ppWire.eccTouch.ppEnd
        · exact hd1.ppWire.eccTouch.ppEnd

theorem ppPrdyTimeout {n : Nat} {rx : List Byte} (h : d.Wf) : (d.ppPrdyTimeout n rx).Wf := by
  unfold Dev.ppPrdyTimeout
  split
  · exact h
  · exact ite h h.ppCut.eccFlush.inc.raise

theorem ppMarkTimeout {rx : List Byte} (h : d.Wf) : (d.ppMarkTimeout rx).Wf := by
  unfold Dev.ppMarkTimeout
  split
  · exact h
  · exact ite h h.ppCut.eccFlush.inc.raise

theorem ppPrdyReady (h : d.Wf) : d.ppPrdyReady.Wf := h

theorem ppFifoResume (h : d.Wf) : d.ppFifoResume.Wf := by
  unfold Dev.ppFifoResume
  split
  · exact h
  · extract_lets d1 e1
    have hd1 : d1.Wf := ite h h.inc
    exact ite h (congr hd1)

theorem ppAbortAll {n : Nat} {rx : List Byte} (h : d.Wf) : (d.ppAbortAll n rx).Wf := by
  unfold Dev.ppAbortAll
  extract_lets d1 q1 d2
  have hd1 : d1.Wf := by
    unfold d1
    split
    · exact h
    · exact h.ppCut.eccFlush
  have hd2 : d2.Wf := foldl (fun _ _ h3 => h3.ppEnd) hd1.ppQueue
  exact foldl (fun _ _ h4 => ite h4.ppAborted h4) hd2

theorem ppDrainTimeout {n : Nat} {rx : List Byte} (h : d.Wf) : (d.ppDrainTimeout n rx).Wf := ite h.ppAbortAll h

/-! ### Limits -/

theorem guarWrite {c : Nat} {v : Word} (h : d.Wf) : (d.guarWrite c v).Wf := by
  unfold Dev.guarWrite
  extract_lets v1 a1 vs1 fits1
  exact ite h.stageBusy (ite h.stageBusy h.put)

/-! ### Power -/

theorem domFresh {k : Nat} (h : d.Wf) : (d.domFresh k).Wf := by
  unfold Dev.domFresh
  extract_lets d1 e1 e2 e3 e4 e5 e6 e7 e8
  have hd1 : d1.Wf := Dev.canonical_dropRegs h _ _
  split
  · have hx : sparseWf xramDflt d1.mem.xram = true := Dev.xram_wf hd1
    exact Dev.canonical_iff.2 ⟨Mems.wf_iff.2 ⟨hx, rfl, rfl, rfl⟩, hd1.regs_wf, rfl⟩
  · exact ite (congr hd1) hd1.xramClear
  · exact ite (congr hd1) hd1.xramClear
  · exact congr hd1
  · exact ((congr hd1).put).put
  · exact congr hd1
  · exact congr hd1
  · exact congr hd1
  · exact congr hd1
  · exact hd1

theorem drainStart {k : Nat} (h : d.Wf) : (d.drainStart k).Wf := by
  unfold Dev.drainStart
  extract_lets e1 d1
  have hd1 : d1.Wf := by
    unfold d1
    split
    · exact h.clusterLeave
    · exact h.calEnds (fun _ h2 => h2.auxDrain)
    · exact congr h
    · exact congr h
    · exact h
  exact hd1.setDom

theorem switchOn {k : Nat} (h : d.Wf) : (d.switchOn k).Wf := by
  unfold Dev.switchOn
  extract_lets s1 e1
  exact ite (ite (congr h) h.setDom) (ite (congr h) (ite h.drainCancel (ite (congr h) (congr h))))

theorem switchOff {k : Nat} (h : d.Wf) : (d.switchOff k).Wf := by
  unfold Dev.switchOff
  extract_lets s1 e1
  exact ite (ite (congr h) h.drainStart) (ite (congr h) (ite (congr h) (ite h (congr h))))

theorem domReqsEnd (h : d.Wf) : d.domReqsEnd.Wf := foldl (fun _ _ h2 => ite ((congr h2).pwrAnswer) h2) h

theorem domStart {q : DomReq} (h : d.Wf) : (d.domStart q).Wf :=
  foldl (fun _ _ h2 => h2.switchOff) (foldl (fun _ _ h2 => h2.switchOn) h)

theorem domRequest {on : Nat} {off : Nat} {cmd : Option Async} (h : d.Wf) : (d.domRequest on off cmd).Wf := by
  unfold Dev.domRequest
  extract_lets q1 e1 d1 d2
  have hd1 : d1.Wf := congr h
  have hd2 : d2.Wf := hd1.pwrBusy
  split
  · exact h
  · split
    · exact h
    · split
      · exact h.pwrAnswer
      · split
        · exact h.pwrAnswer
        · split
          · exact h.pwrAnswer
          · exact ite hd2 hd2.domStart.domReqsEnd

theorem domRelease (h : d.Wf) : d.domRelease.Wf := by
  unfold Dev.domRelease
  extract_lets w1 e1 d1
  have hd1 : d1.Wf := congr h
  exact (foldl (fun _ _ h3 => h3.domStart) hd1).domReqsEnd

theorem checkLeft {was : Nat} (h : d.Wf) : (d.checkLeft was).Wf := ite h.domRelease h

theorem meadowRequest {cmd : Async} (h : d.Wf) : (d.meadowRequest cmd).Wf := by
  unfold Dev.meadowRequest
  extract_lets set1
  exact h.domRequest

theorem pwrDreq {v : Nat} (h : d.Wf) : (d.pwrDreq v).Wf := ite h h.domRequest

theorem heathRequest {cmd : Option Async} (h : d.Wf) : (d.heathRequest cmd).Wf := by
  unfold Dev.heathRequest
  extract_lets e1
  split
  · exact h.pwrAnswer
  · split
    · exact h.pwrAnswer
    · split
      · exact h.pwrAnswer
      · split
        · exact h.put.put.pwrAnswer
        · exact ite h.pwrAnswer ((congr h).pwrBusy)

theorem heathBegin (h : d.Wf) : d.heathBegin.Wf := by
  unfold Dev.heathBegin
  extract_lets d1 e1
  have hd1 : d1.Wf := h.leaveRunning
  exact congr hd1

theorem contactsStop (h : d.Wf) : d.contactsStop.Wf := by
  unfold Dev.contactsStop
  split
  · rename_i q1a _ _ _
    have hq1a : q1a.Wf := of_fst ‹_› h.endContacts
    exact ite hq1a hq1a.touch

theorem hfoStop (h : d.Wf) : d.hfoStop.Wf := by
  unfold Dev.hfoStop
  extract_lets e1
  exact ite (congr h) h

theorem heathEnter (h : d.Wf) : d.heathEnter.Wf := by
  unfold Dev.heathEnter
  extract_lets d1 e1 d2
  have hd1 : d1.Wf := h.setSt.inc
  have hd2 : d2.Wf := congr hd1
  exact ite (ite hd2.heathLeave (ite hd2.wakeCause hd2.hfoStop)) h

theorem heathComplete (h : d.Wf) : d.heathComplete.Wf := by
  unfold Dev.heathComplete
  extract_lets d1 e1
  have hd1 : d1.Wf := h.contactsStop
  split
  · exact h
  · extract_lets d2 d3 off1 e2 d4
    have hd2 : d2.Wf := congr hd1
    have hd3 : d3.Wf := hd2.pwrAnswer
    have hd4 : d4.Wf := congr hd3
    exact ite h ((foldl (fun _ _ h6 => h6.drainStart) hd4).heathEnter)

theorem hfoStart (h : d.Wf) : d.hfoStart.Wf := by
  unfold Dev.hfoStart
  extract_lets e1
  exact ite (congr h) h

theorem bootStart (h : d.Wf) : d.bootStart.Wf := by
  unfold Dev.bootStart
  extract_lets e1 d1
  have hd1 : d1.Wf := congr h
  exact ite hd1.bootNext h

theorem cqOff (h : d.Wf) : d.cqOff.Wf := by
  unfold Dev.cqOff
  extract_lets e1 e2
  have he1 : e1.Wf := h.put
  exact congr he1

theorem fallowExit (h : d.Wf) : d.fallowExit.Wf := by
  unfold Dev.fallowExit
  extract_lets e1 d1
  have hd1 : d1.Wf := congr h
  exact ite h hd1.setSt.switchOnMask

theorem removeFallow (h : d.Wf) : d.removeFallow.Wf := by
  unfold Dev.removeFallow
  extract_lets d1 e1
  have hd1 : d1.Wf := h.setSt.put.put
  exact congr hd1

theorem fallowReached (h : d.Wf) : d.fallowReached.Wf := by
  unfold Dev.fallowReached
  extract_lets e1 d1 d2
  have hd1 : d1.Wf := congr h
  have hd2 : d2.Wf := hd1.pwmSettle.inc
  exact ite hd2.removeFallow (ite hd2.fallowExit hd2)

theorem fallowWalk {l : List Nat} (h : d.Wf) : (Dev.fallowWalk l d).Wf := by
  induction l generalizing d with
  | nil => exact h.fallowReached
  | cons k l ih =>
    unfold Dev.fallowWalk
    extract_lets keep1 e1 d1
    have hd1 : d1.Wf := congr h
    exact ite (ih h) (ite h (ite (ih hd1.setDom) h.drainStart))

theorem fallowStep (h : d.Wf) : d.fallowStep.Wf := ite h.fallowWalk h

theorem fallowEnter {own : Option Async} (h : d.Wf) : (d.fallowEnter own).Wf := by
  unfold Dev.fallowEnter
  extract_lets d1 d2 e1 e2 d3 d4
  have hd1 : d1.Wf := h.endAsyncs
  have hd2 : d2.Wf := hd1.fenceEnd
  have hd3 : d3.Wf := congr hd2
  have hd4 : d4.Wf := hd3.pwrAnswer
  exact hd4.cqOff.put.fallowStep

theorem fallowTry (h : d.Wf) : d.fallowTry.Wf := by
  unfold Dev.fallowTry
  extract_lets lat1 d1 e1 d2 e2 d3
  have hd1 : d1.Wf := h.setWake.put
  have hd2 : d2.Wf := ite (congr hd1) h
  have hd3 : d3.Wf := congr hd2
  exact ite h (ite hd3.setSt.bootStart hd2)

theorem fallowTake (h : d.Wf) : d.fallowTake.Wf := by
  unfold Dev.fallowTake
  split
  · exact ite h.fallowEnter h
  · exact h

theorem fallowRequest {cmd : Option Async} (h : d.Wf) : (d.fallowRequest cmd).Wf := by
  unfold Dev.fallowRequest
  extract_lets e1 d1
  have hd1 : d1.Wf := (congr h).pwrBusy
  exact ite h.pwrAnswer (ite h.pwrAnswer (ite h.pwrAnswer (ite (hd1.calEnds (fun _ h3 => h3.clearRun)) hd1.fallowTake)))

theorem pwrSreqHeath (h : d.Wf) : d.pwrSreqHeath.Wf := ite h h.heathRequest
theorem pwrSreqFallow (h : d.Wf) : d.pwrSreqFallow.Wf := ite h h.fallowRequest
theorem domSettled (h : d.Wf) : d.domSettled.Wf := h.domReqsEnd.heathEnter.heathTry.fallowStep.fallowTry

theorem rampUpEnd {k : Nat} (h : d.Wf) : (d.rampUpEnd k).Wf := by
  unfold Dev.rampUpEnd
  extract_lets d1 d2 d3 d4 e1 d5
  have hd1 : d1.Wf := h.domFresh.setDom
  have hd2 : d2.Wf := ite hd1.pumpDomain hd1
  have hd3 : d3.Wf := ite hd2.put hd2
  have hd4 : d4.Wf := ite hd3.setWake hd3
  have hd5 : d5.Wf := ite ((congr hd4).switchOff) hd4
  exact ite h hd5.domSettled

theorem drainEnd {k : Nat} (h : d.Wf) : (d.drainEnd k).Wf := by
  unfold Dev.drainEnd
  extract_lets e1 d1
  have hd1 : d1.Wf := by
    unfold d1
    split
    · exact h.seqStopNow
    · exact h.pumpDomain
    · exact congr h
    · exact h.ppAbortAll
    · exact h
  exact ite h hd1.domFresh.setDom

theorem rampDownEnd {k : Nat} (h : d.Wf) : (d.rampDownEnd k).Wf := by
  unfold Dev.rampDownEnd
  extract_lets e1 d1
  have hd1 : d1.Wf := congr h
  exact ite h (ite hd1.put.setDom h.setDom.domSettled)

theorem restartEnd {k : Nat} (h : d.Wf) : (d.restartEnd k).Wf := ite h h.setDom
theorem pwrClrCnt (h : d.Wf) : d.pwrClrCnt.Wf := h.setReg

/-! ### Frames -/

theorem noiseEvent (h : d.Wf) : d.noiseEvent.Wf := by
  unfold Dev.noiseEvent
  split
  · exact ite h.noiseLevels.clNoise h
  · exact h

theorem mutualEvent {y : List (List Int)} {ovr : List (List Nat)} {vhvLow : List Nat} (h : d.Wf) :
    (d.mutualEvent y ovr vhvLow).Wf := by
  unfold Dev.mutualEvent
  split
  · exact ite h.mutualScan.clMutual.vhvSeen.phaseEnd h
  · exact h

theorem selfEvent {ys : List (List Int)} {ovr : List Nat} {vhvLow : Bool} (h : d.Wf) :
    (d.selfEvent ys ovr vhvLow).Wf := by
  unfold Dev.selfEvent
  split
  · exact ite h.selfPass.vhvSeen.phaseEnd h
  · exact h

theorem retryEvent {y : List Int} {ovr : List Nat} {vhvOk : Bool} (h : d.Wf) : (d.retryEvent y ovr vhvOk).Wf := by
  unfold Dev.retryEvent
  extract_lets e1
  split
  · split
    · extract_lets f1
      exact ((congr h).vhvSeen).phaseEnd
    · exact h
  · exact h

theorem burstEvent {words : List OptWord} {ledOc : Bool} (h : d.Wf) : (d.burstEvent words ledOc).Wf := by
  unfold Dev.burstEvent
  split
  · exact ite h.approachBurst.phaseEnd h
  · exact h

theorem phaseTime (h : d.Wf) : d.phaseTime.Wf := by
  unfold Dev.phaseTime
  extract_lets e1
  split
  · exact h
  · exact ite h.phaseFrom (ite ((congr h).phaseFrom) h)

theorem acqFinish {f : Frame} (h : d.Wf) : (d.acqFinish f).Wf := by
  unfold Dev.acqFinish
  extract_lets e1 d1 d2 d3 run1 old1 d4 e2 e3 d5 e4 e5
  have hd1 : d1.Wf := congr h
  have hd2 : d2.Wf := hd1.pumpTo.frameStatus.frameFaults
  have hd3 : d3.Wf := hd2.hopCombine
  have hd4 : d4.Wf := hd3.hopDecide
  have he2 : e2.Wf := hd4.put
  have hd5 : d5.Wf := ite (congr he2) hd4
  exact ite hd5 (congr hd5)

theorem acqEnd (h : d.Wf) : d.acqEnd.Wf := by
  unfold Dev.acqEnd
  split
  · exact ite h.acqFinish h
  · exact h

theorem acqDeadline {words : List OptWord} {ledOc : Bool} {ovr : List (List Nat)} {vhvLow : List Nat} (h : d.Wf) :
    (d.acqDeadline words ledOc ovr vhvLow).Wf := by
  unfold Dev.acqDeadline
  split
  · exact h
  · extract_lets d1 e1 f1
    have hd1 : d1.Wf := ite h.approachBurst h
    exact ite h.acqFinish hd1.inc.acqFinish

theorem elShorted {n : Nat} (h : d.Wf) : (d.elShorted n).Wf := by
  unfold Dev.elShorted
  extract_lets e1 e2 d1
  have he1 : e1.Wf := h.supDrop
  have hd1 : d1.Wf := congr he1
  exact ite h hd1.putBit.raise

theorem vhvFault (h : d.Wf) : d.vhvFault.Wf := by
  unfold Dev.vhvFault
  extract_lets e1 e2
  have he1 : e1.Wf := h.put
  exact ite (((congr he1).raise).checkLeft) h

theorem procStart (h : d.Wf) : d.procStart.Wf := by
  unfold Dev.procStart
  extract_lets d1 e1
  have hd1 : d1.Wf := h.calAtStart
  split
  · extract_lets f1 d2 e2
    have hd2 : d2.Wf := congr hd1
    split
    · exact congr hd2
    · exact hd2
  · exact h

theorem procEvent (h : d.Wf) : d.procEvent.Wf := ite h.procStart h

theorem reportWait {r : Report} (h : d.Wf) : (d.reportWait r).Wf := by
  unfold Dev.reportWait
  extract_lets e1
  exact ite h.report (congr h)

theorem endAsyncAfter {a : Async} {status : Nat} {detail : Nat} (h : d.Wf) : (d.endAsyncAfter a status detail).Wf := by
  unfold Dev.endAsyncAfter
  extract_lets e1
  exact ite h.endAsync (congr h)

theorem dumpChunks {u : Dump} {fr m first : Nat} {lastFrame : Bool} {n : Nat} {els : List (Int × Bool)} (h : d.Wf) :
    (d.dumpChunks u fr m first lastFrame n els).Wf := by
  induction n generalizing d first els with
  | zero => exact h
  | succ n ih =>
    unfold Dev.dumpChunks
    extract_lets now1 rest1 fl1 r1 d1
    have hd1 : d1.Wf := h.reportWait
    exact ite hd1 (ih hd1)

theorem dumpFrame {f : Frame} (h : d.Wf) : (d.dumpFrame f).Wf := by
  unfold Dev.dumpFrame
  extract_lets m1
  split
  · exact h
  · extract_lets els1 last1 d1 e1 d2
    have hd1 : d1.Wf := h.dumpChunks
    have hd2 : d2.Wf := congr hd1
    exact ite h (ite (foldl (fun _ _ h4 => h4.endAsyncAfter) hd2) hd2)

theorem touchFrame {f : Frame} {recs : List (List Byte)} (h : d.Wf) : (d.touchFrame f recs).Wf := ite h h.touch

theorem swardRest {f : Frame} {ended : List (Contact × Nat)} {rs : Bool × Bool} (h : d.Wf) :
    (d.swardRest f ended rs).Wf :=
  h.groupsFrame.swardAfter

theorem rejectFrame (h : d.Wf) : d.rejectFrame.Wf := by
  unfold Dev.rejectFrame
  extract_lets e1 e2
  have he1 : e1.Wf := h.reformAsk
  exact ite (congr he1) h

theorem liveFrame {f : Frame} (h : d.Wf) : (d.liveFrame f).Wf := by
  unfold Dev.liveFrame
  split
  · rename_i q1a _ _ _
    have hq1a : q1a.Wf := of_fst ‹_› h.swardBefore
    split
    · rename_i q2a _ _ _
      have hq2a : q2a.Wf := of_fst ‹_› (ite_fst hq1a.contactFrame hq1a.endContacts)
      extract_lets d1 d2 d3
      have hd1 : d1.Wf := hq2a.gorseFrame
      have hd2 : d2.Wf := ite hd1.swardRest hd1
      have hd3 : d3.Wf := hd2.touchFrame.rejectFrame
      exact hd3.gestureFrame.ctKeys

theorem heathFrame {f : Frame} (h : d.Wf) : (d.heathFrame f).Wf := by
  unfold Dev.heathFrame
  split
  · rename_i q1a _ _ _
    have hq1a : q1a.Wf := of_fst ‹_› h.swardBefore
    extract_lets live1
    split
    · rename_i q2a _ _ _
      have hq2a : q2a.Wf := of_fst ‹_› (ite_fst hq1a.contactFrame hq1a.endContacts)
      extract_lets d1 d2 d3
      have hd1 : d1.Wf := hq2a.gorseFrame
      have hd2 : d2.Wf := (ite hd1.swardRest hd1).rejectFrame
      have hd3 : d3.Wf := hd2.ctKeys
      exact ite hd3.wakeFrame hd3

theorem calrParts {frame kind : Nat} {pan : Int} {n : Nat} {gs : List Nat} (h : d.Wf) :
    (d.calrParts frame kind pan n gs).Wf := by
  induction n generalizing d gs with
  | zero => exact h
  | succ n ih =>
    unfold Dev.calrParts
    extract_lets more1 now1 d1
    have hd1 : d1.Wf := h.clSend
    exact ite (ih hd1) hd1

theorem calrSend {f : Frame} {kind : Nat} (h : d.Wf) : (d.calrSend f kind).Wf := by
  unfold Dev.calrSend
  split
  · exact ite h.calrParts h
  · exact h

theorem runFrame {f : Frame} (h : d.Wf) : (d.runFrame f).Wf := by
  unfold Dev.runFrame
  extract_lets d1 d2 recs1 kind1
  have hd1 : d1.Wf := h.freezeFrame
  have hd2 : d2.Wf := hd1.setEls.gorseFrame
  exact (hd2.touchFrame.calEnds (fun _ h4 => h4.calFrame)).calrSend

theorem caldParts {frame n : Nat} {cs : List (Nat × Int)} {rs : List (Nat × Int × Nat)} (h : d.Wf) :
    (d.caldParts frame n cs rs).Wf := by
  induction n generalizing d cs rs with
  | zero => exact h
  | succ n ih =>
    unfold Dev.caldParts
    extract_lets more1 now1 d1
    have hd1 : d1.Wf := h.clSend
    exact ite (ih hd1) hd1

theorem caldSend {f : Frame} {t : CalTouch} (h : d.Wf) : (d.caldSend f t).Wf := by
  unfold Dev.caldSend
  extract_lets un1 cs1 rs1
  exact h.caldParts

theorem memberFrame {f : Frame} (h : d.Wf) : (d.memberFrame f).Wf := by
  unfold Dev.memberFrame
  extract_lets d1 d2 e1 d3
  have hd1 : d1.Wf := h.freezeFrame
  have hd2 : d2.Wf := hd1.setEls
  have hd3 : d3.Wf := by
    unfold d3
    split
    · extract_lets t1
      exact (congr hd2).caldSend
    · exact hd2
  split
  · exact hd3.clDelta
  · split
    · rename_i q4a _ _ _
      have hq4a : q4a.Wf := of_fst ‹_› h.swardBefore
      extract_lets d4
      have hd4 : d4.Wf := ite hq4a.groupsFrame.swardAfter hq4a
      exact hd4.clDelta

theorem parkedStop (h : d.Wf) : d.parkedStop.Wf := by
  unfold Dev.parkedStop
  extract_lets d1 d2 e1 d3 had1 d4
  have hd1 : d1.Wf := h.contactsStop
  have hd2 : d2.Wf := hd1.ctRegs.put.imgStop
  have hd3 : d3.Wf := congr hd2
  have hd4 : d4.Wf := ite hd3.setReg.event hd3
  exact ite hd4 hd4.key

theorem imgTime {f : Frame} (h : d.Wf) : (d.imgTime f).Wf := by
  unfold Dev.imgTime
  extract_lets n1 d1
  have hd1 : d1.Wf := h.put
  exact ite hd1.put hd1

theorem frameProcessed (h : d.Wf) : d.frameProcessed.Wf := by
  unfold Dev.frameProcessed
  extract_lets e1 d1
  have hd1 : d1.Wf := congr h
  split
  · exact h
  · extract_lets run1 d2 d3 d4 d5 d6 d7
    have hd2 : d2.Wf := ite hd1.memberFrame (ite hd1.heathFrame (ite hd1.runFrame hd1.liveFrame))
    have hd3 : d3.Wf := hd2.openFrame
    have hd4 : d4.Wf := ite hd3 hd3.dumpFrame
    have hd5 : d5.Wf := hd4.imgTime
    have hd6 : d6.Wf := ite (ite hd5 hd5.raiseFrame) hd5
    have hd7 : d7.Wf := hd6.stageSend
    exact ite hd2 (ite (ite hd7.parkedStop hd7) (ite hd7.hfoStop hd7))

theorem release {k : Contact} {reason : Nat} {cnt : Field} (h : d.Wf) : (d.release k reason cnt).Wf := by
  unfold Dev.release
  extract_lets d1 area1 d2 rest1 e1 e2 d3 d4 d5
  have hd1 : d1.Wf := h.inc
  have hd2 : d2.Wf := hd1.rebase
  have hd3 : d3.Wf := congr hd2
  have hd4 : d4.Wf := hd3.groupsLift.ctRegs
  have hd5 : d5.Wf := ite hd4.touch hd4
  exact hd5.ctKeys

theorem stuckRelease {slot : Nat} (h : d.Wf) : (d.stuckRelease slot).Wf := by
  unfold Dev.stuckRelease
  split
  · exact ite (ite h.release h.release) h
  · exact h

theorem objectAbsorb {slot : Nat} (h : d.Wf) : (d.objectAbsorb slot).Wf := by
  unfold Dev.objectAbsorb
  split
  · exact ite h.release h
  · exact h

theorem groupQuiet {k : Nat} (h : d.Wf) : (d.groupQuiet k).Wf := by
  unfold Dev.groupQuiet
  extract_lets e1
  exact congr h

/-! ### Tick -/

theorem hopPrune (h : d.Wf) : d.hopPrune.Wf := by
  unfold Dev.hopPrune
  extract_lets e1 e2 d1 e3
  have he1 : e1.Wf := h.put
  have hd1 : d1.Wf := ite h (congr he1)
  exact congr hd1

theorem hopAnnounced {s : Stage} (h : d.Wf) : (d.hopAnnounced s).Wf := by
  unfold Dev.hopAnnounced
  extract_lets t1 d1 e1 d2
  have hd1 : d1.Wf := h.hopPrune
  have hd2 : d2.Wf := by
    unfold d2
    split
    · exact hd1.inc
    · split
      · exact (congr hd1).hopApply
      · split
        · exact ite ((congr hd1).hopApply) hd1.inc
        · exact hd1.inc
  exact hd2.putB

theorem hopFollow {s : Stage} (h : d.Wf) : (d.hopFollow s).Wf := by
  unfold Dev.hopFollow
  extract_lets t1
  split
  · exact h.inc
  · split
    · rename_i q1a _
      have hq1a : q1a.Wf := of_snd ‹_› h.fresh
      split
      · rename_i q2a _
        have hq2a : q2a.Wf := of_snd ‹_› hq1a.fresh
        exact hq2a.hopApply

theorem gorseSet {on : Bool} (h : d.Wf) : (d.gorseSet on).Wf := by
  unfold Dev.gorseSet
  extract_lets e1 d1 d2 e2
  have hd1 : d1.Wf := congr h
  have hd2 : d2.Wf := hd1.calAbortTouch.putB
  exact ite hd1 (congr hd2)

theorem stagedForce (h : d.Wf) : d.stagedForce.Wf := by
  unfold Dev.stagedForce
  extract_lets hit1 ks1 was1 d1
  have hd1 : d1.Wf := foldl (fun _ _ h2 => h2.loseRegion) h.applyStaged
  exact hd1.optTaken

theorem tickSettings {a1 : Bool} {stage : Option Stage} (h : d.Wf) : (d.tickSettings a1 stage).Wf := by
  unfold Dev.tickSettings
  extract_lets freq1 f1 l1 e1 d1 d2 d3 d4 d5 e2 d6 d7 d8 d9
  have hd1 : d1.Wf := congr h
  have hd2 : d2.Wf := ite hd1 hd1.stagedForce
  have hd3 : d3.Wf := ite hd2.put hd2
  have hd4 : d4.Wf := by
    unfold d4
    split
    · exact hd3.inc
    · split
      · exact hd3.hopAtTick
      · exact ite hd3.hopFollow hd3.hopAnnounced
  have hd5 : d5.Wf := ite hd4 hd4.calAtTick
  have hd6 : d6.Wf := by
    unfold d6
    split
    · exact hd5
    · split
      · exact hd5.gorseSet
      · extract_lets d10
        have hd10 : d10.Wf := congr hd5
        exact hd10.gorseSet
  have hd7 : d7.Wf := by
    unfold d7
    split
    · exact hd6.putB
    · exact ite hd6 hd6.putB
  have hd8 : d8.Wf := ite hd7 hd7.levelAtTick
  have hd9 : d9.Wf := ite hd8.calAbortTouch.settingChanged hd8
  exact ite hd9 hd9.calTick

theorem stageMember {s : Stage} (h : d.Wf) : (d.stageMember s).Wf := by
  unfold Dev.stageMember
  extract_lets e1 d1 d2 e2 d3 d4 e3
  have hd1 : d1.Wf := congr h
  have hd2 : d2.Wf := ite hd1 hd1.rebase
  have hd3 : d3.Wf := by
    unfold d3
    split
    · split
      · rename_i q3a _
        have hq3a : q3a.Wf := of_snd ‹_› hd2.fresh
        extract_lets t1 e4
        exact congr hq3a
    · exact ite (congr hd2) hd2
  have hd4 : d4.Wf := ite hd3.clearRun hd3
  split
  · split
    · exact hd4.put.put.clusterLeave
    · exact congr hd4
  · exact ite hd4.heathLeave (ite (congr hd4) hd4)

theorem overrun (h : d.Wf) : d.overrun.Wf := by
  unfold Dev.overrun
  extract_lets now1 late1 old1 e1 d1
  have hd1 : d1.Wf := congr h
  exact foldl (fun _ _ h3 => h3.calOverrun.raise) hd1

theorem edBindTick (h : d.Wf) : d.edBindTick.Wf := by
  unfold Dev.edBindTick
  extract_lets l1 e1 d1
  have hd1 : d1.Wf := congr h
  exact foldl (fun _ _ h3 => h3.edCfgWrite) hd1

theorem tickSteps {count : Nat} {a2 : Bool} {stage : Option Stage} (h : d.Wf) : (d.tickSteps count a2 stage).Wf := by
  unfold Dev.tickSteps
  extract_lets heath1 fence1 d1 d2 d3 d4 d5 entering1 d6 e1 d7 e2 d8 going1 d9 d10 d11 e3 e4 d12 d13 d14 e5 d15 d16 e6 e7
  have hd1 : d1.Wf := h.acqDeadline
  have hd2 : d2.Wf := hd1.put.put
  have hd3 : d3.Wf := hd2.overrun
  have hd4 : d4.Wf := hd3.tickSettings
  have hd5 : d5.Wf := by
    unfold d5
    split
    · exact ite hd4.stageMember hd4
    · exact hd4
  have hd6 : d6.Wf := ite hd5.heathBegin hd5
  have hd7 : d7.Wf := ite (congr hd6) hd6
  have hd8 : d8.Wf := ite (congr hd7) hd7
  have hd9 : d9.Wf := hd8.swapTick.edBindTick.edSampleAll.timersTick
  have hd10 : d10.Wf := ite hd9 hd9.seqTick
  have hd11 : d11.Wf := hd10.ppTick.pwrTick.domSettled
  have hd12 : d12.Wf := congr hd11
  have hd13 : d13.Wf := ite hd12.fenceEnd hd12
  have hd14 : d14.Wf := (ite hd13.reclaimTick.roomReturn hd13).eccFlush
  have hd15 : d15.Wf := congr hd14
  have hd16 : d16.Wf := ite hd15.setReg hd15
  exact ite hd16.acqStart (ite ((congr hd16).acqStart) (ite (congr hd16) hd16))

theorem tickNow {count : Nat} {a2 : Bool} {stage : Option Stage} (h : d.Wf) : (d.tickNow count a2 stage).Wf :=
  h.calEnds (fun _ h2 => h2.tickSteps)

theorem sourceTick (h : d.Wf) : d.sourceTick.Wf := by
  unfold Dev.sourceTick
  extract_lets s1
  exact ite (ite h.sendK.tickNow h.sendK.tickNow) h.tickNow

theorem vsyncSteps (h : d.Wf) : d.vsyncSteps.Wf := by
  unfold Dev.vsyncSteps
  extract_lets e1 left1 more1
  split
  · exact h
  · split
    · exact congr h
    · split
      · exact h
      · exact congr h

theorem ownTick (h : d.Wf) : d.ownTick.Wf := by
  unfold Dev.ownTick
  extract_lets e1 e2
  have he1 : e1.Wf := h.vsyncSteps.sourceTick
  exact ite (congr he1) he1

theorem tickEvent (h : d.Wf) : d.tickEvent.Wf := by
  unfold Dev.tickEvent
  extract_lets e1
  exact ite h (ite h (ite h (ite (congr h) h.ownTick)))

theorem heathTick (h : d.Wf) : d.heathTick.Wf := ite h h.sourceTick

theorem vsyncAlign {n : Nat} (h : d.Wf) : (d.vsyncAlign n).Wf := by
  unfold Dev.vsyncAlign
  extract_lets back1 owed1 d1 e1
  have hd1 : d1.Wf := h.satAdd
  exact congr hd1

theorem vsyncEdge (h : d.Wf) : d.vsyncEdge.Wf := by
  unfold Dev.vsyncEdge
  split
  · exact h
  · split
    · extract_lets n1 lock1 d1 d2 e1
      have hd1 : d1.Wf := h.putB
      have hd2 : d2.Wf := hd1.put
      exact ite h.put ((congr hd2).vsyncAlign)
    · exact h.vsyncAlign

theorem vsyncLoss (h : d.Wf) : d.vsyncLoss.Wf := by
  unfold Dev.vsyncLoss
  extract_lets p1 d1 next1 e1
  have hd1 : d1.Wf := h.put.put
  exact ite h ((congr hd1).raise)

theorem hsyncLoss (h : d.Wf) : d.hsyncLoss.Wf := by
  unfold Dev.hsyncLoss
  extract_lets d1 e1
  have hd1 : d1.Wf := h.put.put
  exact congr hd1

theorem hsyncEdge {cycles : Nat} (h : d.Wf) : (d.hsyncEdge cycles).Wf := ite h (ite h.hsyncLoss h.put.put)

theorem tickPeriodWrite {v : Nat} (h : d.Wf) : (d.tickPeriodWrite v).Wf := by
  unfold Dev.tickPeriodWrite
  extract_lets n1
  exact ite h (ite h.put (ite h.put h.stage))

theorem tickPlanWrite {v : Nat} (h : d.Wf) : (d.tickPlanWrite v).Wf := ite h.stage h.put
theorem tickClrImgMax (h : d.Wf) : d.tickClrImgMax.Wf := h.put
theorem tickClrCounts (h : d.Wf) : d.tickClrCounts.Wf := h.setReg

/-! ### Check -/

theorem checkAsk (h : d.Wf) : d.checkAsk.Wf := by
  unfold Dev.checkAsk
  extract_lets e1 d1
  have hd1 : d1.Wf := congr h
  exact ite hd1.clSend hd1

theorem runSet {prog : Bool} (h : d.Wf) : (d.runSet prog).Wf := by
  unfold Dev.runSet
  extract_lets e1 d1 e2 e3
  have hd1 : d1.Wf := h.put.put
  have he2 : e2.Wf := hd1.setSt
  exact ite h (ite (congr h) (ite ((congr he2).checkAsk) h))

theorem seqEndRun (h : d.Wf) : d.seqEndRun.Wf := by
  unfold Dev.seqEndRun
  extract_lets d1
  have hd1 : d1.Wf := h.seqEnd
  exact ite hd1.checkAsk hd1

theorem runClear (h : d.Wf) : d.runClear.Wf := by
  unfold Dev.runClear
  extract_lets was1 d1
  have hd1 : d1.Wf := (h.calEnds (fun _ h2 => h2.clearRun)).stageStop
  exact ite h (ite hd1.domRelease hd1)

theorem enterRunning (h : d.Wf) : d.enterRunning.Wf := by
  unfold Dev.enterRunning
  extract_lets d1 d2 d3 e1 d4 e2 e3 e4 d5
  have hd1 : d1.Wf := h.setReg.put.put
  have hd2 : d2.Wf := hd1.put.put
  have hd3 : d3.Wf := hd2.setSt
  have hd4 : d4.Wf := by
    unfold d4
    split
    · extract_lets e5
      have he5 : e5.Wf := hd3.put.put
      exact congr he5
    · exact hd3
  have hd5 : d5.Wf := congr hd4
  exact hd5.put.hopStart.imgStart.stageSend

theorem checkEnd (h : d.Wf) : d.checkEnd.Wf := by
  unfold Dev.checkEnd
  extract_lets d1
  have hd1 : d1.Wf := by
    unfold d1
    split
    · exact h.enterRunning
    · extract_lets d2 d3
      have hd2 : d2.Wf := h.hopDrop.put.put.put
      have hd3 : d3.Wf := by
        unfold d3
        split
        · split
          · exact hd2.put.put.put
          · exact hd2
        · exact hd2
      exact hd3.put.setSt
  exact ite h hd1.domRelease

theorem stopComplete (h : d.Wf) : d.stopComplete.Wf := by
  unfold Dev.stopComplete
  extract_lets d1 d2 d3 e1 e2 d4 d5 e3 d6
  have hd1 : d1.Wf := h.contactsStop
  have hd2 : d2.Wf := hd1.ctRegs.ctKeys
  have hd3 : d3.Wf := hd2.put.imgStop
  clear_value d3
  have hd4 : d4.Wf := congr hd3
  have hd5 : d5.Wf := hd4.setSt.pwrTick
  clear_value d5
  have hd6 : d6.Wf := congr hd5
  exact ite h hd6.fallowTake

/-! ### Cluster -/

theorem clRx {typ : Nat} {m : RingMsg} {lead : Dev → Dev} {member : Dev → Dev} (h : d.Wf) (hf3 : ∀ x0, x0.Wf → (lead
    x0).Wf) (hf4 : ∀ x0, x0.Wf → (member x0).Wf) : (d.clRx typ m lead member).Wf := by
  unfold Dev.clRx
  extract_lets d1
  have hd1 : d1.Wf := h.clForward
  exact ite h (ite hd1.inc.raise (ite hd1 (ite (ite (hf3 _ hd1) hd1) (ite (hf4 _ hd1) hd1))))

theorem clAccept {typ : Nat} {m : RingMsg} {act : Dev → Dev} (h : d.Wf) (hf3 : ∀ x0, x0.Wf → (act x0).Wf) :
    (d.clAccept typ m act).Wf := by
  unfold Dev.clAccept
  extract_lets d1 e1
  have hd1 : d1.Wf := h.clSend
  exact ite h (ite hd1 (hf3 _ (congr hd1)))

theorem clToLead {typ : Nat} {m : RingMsg} {act : Dev → Dev} (h : d.Wf) (hf3 : ∀ x0, x0.Wf → (act x0).Wf) :
    (d.clToLead typ m act).Wf :=
  h.clRx (fun _ h3 => h3.clAccept hf3) (fun _ h => h)

theorem enumEnd {status : Nat} {detail : Nat} (h : d.Wf) : (d.enumEnd status detail).Wf := by
  unfold Dev.enumEnd
  extract_lets e1
  split
  · exact h
  · exact (congr h).endAsync

theorem enumFail {cause : Nat} (h : d.Wf) : (d.enumFail cause).Wf := by
  unfold Dev.enumFail
  extract_lets n1 d1
  have hd1 : d1.Wf := h.clSend
  exact hd1.put.enumEnd

theorem enumDone (h : d.Wf) : d.enumDone.Wf := by
  unfold Dev.enumDone
  extract_lets n1 d1 d2 d3
  have hd1 : d1.Wf := h.put.put
  have hd2 : d2.Wf := hd1.put.put
  have hd3 : d3.Wf := hd2.put.put
  split
  · exact h
  · exact ite hd3.enumEnd h

theorem enumStart {expect : Nat} {cmd : Async} (h : d.Wf) : (d.enumStart expect cmd).Wf := by
  unfold Dev.enumStart
  extract_lets e1 d1 d2
  have hd1 : d1.Wf := congr h
  have hd2 : d2.Wf := ite hd1.put hd1
  exact ite hd2.enumEnd (ite hd2.enumFail (ite hd2.enumEnd (ite hd2.enumFail hd2.clSend)))

theorem dissolveStart {cmd : Async} (h : d.Wf) : (d.dissolveStart cmd).Wf := by
  unfold Dev.dissolveStart
  extract_lets e1 d1
  have hd1 : d1.Wf := congr h
  exact ite hd1.clSend hd1.enumEnd

theorem clEnum {m : RingMsg} (h : d.Wf) : (d.clEnum m).Wf := by
  unfold Dev.clEnum
  extract_lets next1 d1 body1 n1 d2 e1
  have hd1 : d1.Wf := h.put
  have hd2 : d2.Wf := h.put
  split
  · exact h
  · split
    · exact h.clForward.inc.raise
    · split
      · exact ite h.clForward hd1.clForward
      · split
        · exact h
        · extract_lets d3
          have hd3 : d3.Wf := congr hd2
          exact ite h (ite hd2.enumFail (ite hd2.enumFail (foldl (fun _ _ h5 => h5.sendK) hd3)))

theorem clMeasure {echo : Echo} (h : d.Wf) : (d.clMeasure echo).Wf := by
  unfold Dev.clMeasure
  extract_lets e1
  split
  · exact h
  · split
    · exact h.sendK
    · split
      · exact h
      · extract_lets e2 d1 n1 rtt1 d2 e3 d3
        have hd1 : d1.Wf := congr h
        have hd2 : d2.Wf := hd1.put
        have hd3 : d3.Wf := congr hd2
        exact ite h (ite hd1 (ite hd2.enumFail hd3.clSend))

theorem clConfig {m : RingMsg} (h : d.Wf) : (d.clConfig m).Wf := by
  unfold Dev.clConfig
  refine clRx h ?_ ?_
  · intro d' hd1'
    extract_lets e1
    split
    · exact ite ((congr hd1').enumDone) hd1'
    · exact hd1'
  · intro d' hd1'
    extract_lets k1 d1 d2 d3
    have hd1 : d1.Wf := hd1'.put.put
    have hd2 : d2.Wf := hd1.put
    have hd3 : d3.Wf := hd2.put.put
    exact ite hd1'.clSend hd3.put.clSend

theorem clLeave {m : RingMsg} (h : d.Wf) : (d.clLeave m).Wf := by
  unfold Dev.clLeave
  refine clRx h ?_ (fun _ h2 => h2.put.put)
  intro d' hd1'
  split
  · exact ite hd1'.put.enumEnd hd1'
  · exact hd1'

theorem enumEchoTimeout (h : d.Wf) : d.enumEchoTimeout.Wf := by
  unfold Dev.enumEchoTimeout
  split
  · exact h
  · exact ite h.enumFail (ite h.put.enumEnd h.enumFail)

theorem clCheck {ask : CheckAsk} (h : d.Wf) : (d.clCheck ask).Wf := by
  unfold Dev.clCheck
  extract_lets m1
  refine clRx h (fun _ h => h) ?_
  intro d' hd1'
  extract_lets e1 d1 c1 e2 e3
  have hd1 : d1.Wf := congr hd1'
  have he2 : e2.Wf := hd1.put
  split
  · exact hd1.clSend
  · clear_value c1
    split
    · extract_lets d2 e4
      have hd2 : d2.Wf := hd1.put.put.put
      exact (congr hd2).clSend
    · exact (congr he2).clSend

theorem clCheckr {m : RingMsg} (h : d.Wf) : (d.clCheckr m).Wf := by
  unfold Dev.clCheckr
  extract_lets code1 nc1 nr1 keep1
  refine clToLead h ?_
  intro d' hd1'
  extract_lets e1
  split
  · exact ite hd1'.enumFail ((congr hd1').enumDone)
  · exact congr hd1'

theorem memberEnter (h : d.Wf) : d.memberEnter.Wf := ite h.enterRunning h

theorem memberTick {a1 : Bool} (h : d.Wf) : (d.memberTick a1).Wf := by
  unfold Dev.memberTick
  split
  · exact ite h.tickNow h.tickNow
  · exact h.tickNow

theorem ringTickOf {k : Nat} {a2 : Bool} (h : d.Wf) : (d.ringTickOf k a2).Wf := by
  unfold Dev.ringTickOf
  extract_lets d1 e1 d2 e2
  have hd1 : d1.Wf := h.sendK.put.memberEnter
  have hd2 : d2.Wf := congr hd1
  exact ite h (ite hd1 (ite (congr hd2) hd2.memberTick))

theorem ringTick (h : d.Wf) : d.ringTick.Wf := h.ringTickOf
theorem ringTickH (h : d.Wf) : d.ringTickH.Wf := h.ringTickOf
theorem heldTick (h : d.Wf) : d.heldTick.Wf := ite h (ite h.ownTick h.memberTick)

theorem clLoss {detail : Nat} (h : d.Wf) : (d.clLoss detail).Wf :=
  (h.put.raise.calEnds (fun _ h2 => h2.runEnds)).stageStop

theorem memberHoldover (h : d.Wf) : d.memberHoldover.Wf := by
  unfold Dev.memberHoldover
  extract_lets d1 n1 e1 d2 d3
  have hd1 : d1.Wf := h.put.inc
  have hd2 : d2.Wf := congr hd1
  have hd3 : d3.Wf := hd2.tickNow
  exact ite h (ite hd3.acqStop.clLoss hd3)

theorem clStage {m : RingMsg} (h : d.Wf) : (d.clStage m).Wf := by
  unfold Dev.clStage
  extract_lets d1 e1 d2
  have hd1 : d1.Wf := h.inc.raise
  have hd2 : d2.Wf := congr hd1
  split
  · split
    · exact ite hd1 (foldl (fun _ _ h4 => h4.clSend) hd2)
    · exact hd1
  · refine clRx h ?_ ?_
    · intro d' hd3'
      extract_lets s1 e2
      exact ite (congr hd3') (congr hd3')
    · intro d' hd3'
      extract_lets d3 e2
      have hd3 : d3.Wf := hd3'.memberEnter
      exact congr hd3

theorem clRetry {m : RingMsg} (h : d.Wf) : (d.clRetry m).Wf := by
  unfold Dev.clRetry
  extract_lets l1
  refine clRx h (fun _ h2 => congr h2) ?_
  intro d' hd1'
  extract_lets e1 e2
  split
  · exact ite (congr hd1') hd1'
  · exact hd1'

theorem clNoiseRx {m : RingMsg} (h : d.Wf) : (d.clNoiseRx m).Wf := h.clToLead (fun _ h2 => ite (congr h2) h2)

theorem clCorrRx {m : RingMsg} (h : d.Wf) : (d.clCorrRx m).Wf := by
  unfold Dev.clCorrRx
  refine clToLead h ?_
  intro d' hd1'
  extract_lets e1 d1
  have hd1 : d1.Wf := congr hd1'
  exact ite hd1' (ite hd1.clChoose hd1)

theorem retryChoice (h : d.Wf) : d.retryChoice.Wf := h.clChoose

theorem noRetryNow (h : d.Wf) : d.noRetryNow.Wf := by
  unfold Dev.noRetryNow
  extract_lets e1
  exact congr h

theorem retryEcho (h : d.Wf) : d.retryEcho.Wf := ite h.sendK.noRetryNow h
theorem ringRcancel (h : d.Wf) : d.ringRcancel.Wf := ite h.sendK.noRetryNow h
theorem stageDeadline (h : d.Wf) : d.stageDeadline.Wf := ite h.stageSend h
theorem deltaStore {o : Nat} {body : List Byte} (h : d.Wf) : (d.deltaStore o body).Wf := ite h.xwriteClean.eccTouch h

theorem clDeltaRx {m : RingMsg} (h : d.Wf) : (d.clDeltaRx m).Wf := by
  unfold Dev.clDeltaRx
  extract_lets fl1
  refine clToLead h ?_
  intro d' hd1'
  extract_lets old1 x1 o1 d1 tc1 e1 d2 e2
  have hd1 : d1.Wf := hd1'.deltaStore.clTake
  have hd2 : d2.Wf := congr hd1
  exact ite hd1' (ite (congr hd2) hd2)

theorem deltaDeadline (h : d.Wf) : d.deltaDeadline.Wf := by
  unfold Dev.deltaDeadline
  extract_lets late1 d1 d2
  have hd1 : d1.Wf := by
    unfold d1
    refine foldl ?_ h
    intro d' x hd1'
    extract_lets d3 n1 e1
    have hd3 : d3.Wf := hd1'.inc.put
    exact ite hd3 (congr hd3)
  have hd2 : d2.Wf := by
    unfold d2
    split
    · exact hd1.clLoss
    · exact hd1
  exact ite h hd2.procStart

theorem clCald {m : RingMsg} (h : d.Wf) : (d.clCald m).Wf := by
  unfold Dev.clCald
  extract_lets nc1 nr1
  refine clToLead h ?_
  intro d' hd1'
  extract_lets old1 new1 e1
  exact congr hd1'

theorem clCalr {m : RingMsg} (h : d.Wf) : (d.clCalr m).Wf := by
  unfold Dev.clCalr
  extract_lets kind1 pan1 n1
  refine clRx h (fun _ h => h) ?_
  intro d' hd1'
  extract_lets gains1 e1 d1 d2 e2
  have hd1 : d1.Wf := congr hd1'
  have hd2 : d2.Wf := hd1.put
  split
  · exact hd1'
  · split
    · exact hd1
    · split
      · exact hd1.calFail.settleFaults
      · exact (congr hd2).stageOffs

theorem clAck {m : RingMsg} (h : d.Wf) : (d.clAck m).Wf := h.clRx (fun _ h => h) (fun _ h2 => congr h2)

theorem ackTimeout (h : d.Wf) : d.ackTimeout.Wf := by
  unfold Dev.ackTimeout
  extract_lets e1
  split
  · exact h
  · exact ite h (ite ((congr h).inc) (congr h))

theorem ringDown {n : Nat} (h : d.Wf) : (d.ringDown n).Wf := by
  unfold Dev.ringDown
  extract_lets d1 e1 e2 now1 first1 d2 e3
  have hd1 : d1.Wf := h.sendK
  have he1 : e1.Wf := hd1.acqStop.put
  have hd2 : d2.Wf := h.put
  split
  · exact h
  · split
    · exact ite (congr he1) hd1
    · split
      · exact h
      · split
        · extract_lets gone1 d3
          have hd3 : d3.Wf := congr hd2
          exact ite hd3.clLoss hd3

theorem linkLost (h : d.Wf) : d.linkLost.Wf := by
  unfold Dev.linkLost
  extract_lets run1 d1 e1
  have hd1 : d1.Wf := h.put.put
  exact congr hd1

theorem cliUnlock (h : d.Wf) : d.cliUnlock.Wf := by
  unfold Dev.cliUnlock
  extract_lets run1 d1 d2 e1
  have hd1 : d1.Wf := h.linkLost
  have hd2 : d2.Wf := ite hd1.clLoss hd1
  exact ite h (congr hd2)

theorem linkLock (h : d.Wf) : d.linkLock.Wf := by
  unfold Dev.linkLock
  extract_lets e1 e2
  have he1 : e1.Wf := h.put
  exact ite (congr he1) (ite (congr h) h)

theorem linkLoss (h : d.Wf) : d.linkLoss.Wf := by
  unfold Dev.linkLoss
  extract_lets e1
  exact ite h.linkLost (congr h)

theorem clRoleWrite {v : Nat} (h : d.Wf) : (d.clRoleWrite v).Wf := ite h.put h
theorem clClrCnt (h : d.Wf) : d.clClrCnt.Wf := ite h.setReg.setReg h

/-! ### TempFault -/

theorem tempCritical (h : d.Wf) : d.tempCritical.Wf := by
  unfold Dev.tempCritical
  extract_lets d1 d2 d3 e1 e2 e3
  have hd1 : d1.Wf := h.clusterDown
  have hd2 : d2.Wf := by
    unfold d2
    split
    · extract_lets d4 e4
      have hd4 : d4.Wf := hd1.inc.acqFinish
      exact congr hd4
    · exact hd1
  have hd3 : d3.Wf := ite hd2.runEnds hd2
  have he1 : e1.Wf := hd3.drainStart
  exact ite (congr he1) hd3

theorem tempCool (h : d.Wf) : d.tempCool.Wf := by
  unfold Dev.tempCool
  extract_lets e1
  exact ite ((congr h).switchOn) h

theorem tempSample {t0 : Int} {t1 : Int} (h : d.Wf) : (d.tempSample t0 t1).Wf := by
  unfold Dev.tempSample
  extract_lets t2 d1 d2 hys1 w1 c1 detail1
  have hd1 : d1.Wf := h.put.putB
  have hd2 : d2.Wf := ite hd1.put hd1
  split
  · exact h
  · split
    · split
      · extract_lets d3 d4 d5 was1 d6 d7 d8
        have hd3 : d3.Wf := hd2.put.put
        have hd4 : d4.Wf := ite hd3.putB hd3
        have hd5 : d5.Wf := ite hd4.putB hd4
        have hd6 : d6.Wf := ite hd5.noteEvent hd5
        have hd7 : d7.Wf := (ite hd6.noteEvent hd6).settleFaults
        have hd8 : d8.Wf := hd7.checkLeft
        exact ite hd8 (ite hd8.tempCool ((hd8.calEnds (fun _ h10 => h10.tempCritical)).stageStop))

theorem fltTempWrite {v : Nat} (h : d.Wf) : (d.fltTempWrite v).Wf := by
  unfold Dev.fltTempWrite
  extract_lets warn1 crit1 hys1
  exact ite h h.setReg.put.put

theorem faultWindowClose {src : Nat} (h : d.Wf) : (d.faultWindowClose src).Wf := ite h.windowClose h
theorem fltClrCnt (h : d.Wf) : d.fltClrCnt.Wf := foldl (fun _ _ h2 => h2.windowClose.setReg) h
theorem fltClrLost (h : d.Wf) : d.fltClrLost.Wf := h.put
theorem fltClrTmax (h : d.Wf) : d.fltClrTmax.Wf := h.put

theorem fltCfgWrite {k : Nat} {v : Word} (h : d.Wf) : (d.fltCfgWrite k v).Wf := by
  unfold Dev.fltCfgWrite
  extract_lets old1 w1 w2 w3
  exact ite h h.setReg

/-! ### Rings -/

theorem cqPiWrite {v : Nat} (h : d.Wf) : (d.cqPiWrite v).Wf := by
  unfold Dev.cqPiWrite
  extract_lets v1 ci1 old1 new1
  exact ite h (ite h.put h.put)

theorem rqCiWrite {v : Nat} (h : d.Wf) : (d.rqCiWrite v).Wf := by
  unfold Dev.rqCiWrite
  extract_lets v1 old1 n1 d1 e1
  have hd1 : d1.Wf := h.put
  exact ite h (ite h.put ((congr hd1).rqAttn))

theorem enRefused {r : Nat} {cause : Nat} (h : d.Wf) : (d.enRefused r cause).Wf := h.put.put.put

theorem cqCtrlWrite {v : Nat} (h : d.Wf) : (d.cqCtrlWrite v).Wf := by
  unfold Dev.cqCtrlWrite
  extract_lets was1 d1 d2
  have hd1 : d1.Wf := ite h h.put
  have hd2 : d2.Wf := ite hd1 hd1.put
  split
  · exact h
  · split
    · split
      · exact hd2
      · split
        · exact hd2.enRefused
        · exact hd2.put
    · exact ite hd2.cqOff hd2

theorem rqCtrlWrite {v : Nat} (h : d.Wf) : (d.rqCtrlWrite v).Wf := by
  unfold Dev.rqCtrlWrite
  extract_lets was1 d1
  have hd1 : d1.Wf := ite h h.put
  split
  · exact h
  · split
    · split
      · exact hd1
      · split
        · exact hd1.enRefused
        · exact hd1.put
    · exact hd1.put

theorem reportRoom (h : d.Wf) : d.reportRoom.Wf := ite h.roomReturn.eccFlush h
theorem rqTimeout (h : d.Wf) : d.rqTimeout.Wf := h.rqAttn

theorem cqMalformed {m : Malf} (h : d.Wf) : (d.cqMalformed m).Wf := by
  unfold Dev.cqMalformed
  extract_lets e1 e2 d1 d2 d3
  have he1 : e1.Wf := h.batchClose
  have hd1 : d1.Wf := congr he1
  have hd2 : d2.Wf := hd1.put.put
  have hd3 : d3.Wf := hd2.put.put.put
  exact hd3.noteDirect.settleFaults

theorem commandPoll (h : d.Wf) : d.commandPoll.Wf := by
  unfold Dev.commandPoll
  extract_lets d1 ci1 own1 at1 pos1 room1 avail1 pf1 lim1 b1 d2 d3 d4 e1
  have hd1 : d1.Wf := ite h.reclaimReserve.eccFlush h
  have hd2 : d2.Wf := foldl (fun _ _ h3 => h3.eccMeet) hd1
  have hd3 : d3.Wf := hd2.eccFlush
  have hd4 : d4.Wf := ite hd3.inc hd3
  split
  · exact hd1
  · split
    · exact hd1
    · split
      · exact hd2.eccNote.cqMalformed
      · exact ite hd3 (congr hd4)

theorem cqRun {ok : List Byte → Bool} {body : Dev → List Byte → Dev} (h : d.Wf) (hf2 : ∀ x0 x1, x0.Wf → (body x0
    x1).Wf) : (d.cqRun ok body).Wf := by
  unfold Dev.cqRun
  extract_lets e1
  split
  · exact h
  · exact ite h (ite (congr h) (hf2 _ _ (congr h)))

theorem cqSync {e : List Byte} {status : Nat} {detail : Nat} (h : d.Wf) : (d.cqSync e status detail).Wf := by
  unfold Dev.cqSync
  extract_lets d1 d2
  have hd1 : d1.Wf := h.batchJoin
  have hd2 : d2.Wf := hd1.cqPass
  exact ite h (ite hd2.batchClose hd2)

theorem cqAsync {e : List Byte} {arg : Nat} (h : d.Wf) : (d.cqAsync e arg).2.Wf := by
  unfold Dev.cqAsync
  split
  · rename_i q1a _
    have hq1a : q1a.Wf := of_snd ‹_› h.asyncStart
    exact hq1a.cqPass

theorem cqChecked {e : List Byte} {len : Nat} {states : List Nat} {one : Bool} {body : Dev → Dev} (h : d.Wf) (hf5 : ∀
    x0, x0.Wf → (body x0).Wf) : (d.cqChecked e len states one body).Wf :=
  ite h.cqSync (ite h.cqSync (ite h.cqSync (hf5 _ h)))

theorem cqRead {o : Nat} {n : Nat} (h : d.Wf) : (d.cqRead o n).2.Wf := h.eccTouch

/-! ### Cmds -/

theorem cmdPad (h : d.Wf) : d.cmdPad.Wf := h.cqRun (fun _ _ h2 => h2.cqSync)
theorem cmdNop (h : d.Wf) : d.cmdNop.Wf := h.cqRun (fun _ _ h2 => h2.cqSync)

theorem cmdProgLoad (h : d.Wf) : d.cmdProgLoad.Wf := by
  unfold Dev.cmdProgLoad
  refine cqRun h ?_
  intro d' x hd1'
  extract_lets area1 len1
  refine cqChecked hd1' ?_
  intro d' hd2'
  extract_lets n1 bs1
  split
  · exact hd2'.cqSync
  · split
    · exact hd2'.cqSync
    · split
      · rename_i q3a _
        have hq3a : q3a.Wf := of_snd ‹_› hd2'.cqRead
        split
        · exact hq3a.cqSync
        · exact (ite hq3a.progLoad hq3a).cqSync

theorem cmdProgVerify {written : Bool} (h : d.Wf) : (d.cmdProgVerify written).Wf := by
  unfold Dev.cmdProgVerify
  refine cqRun h ?_
  intro d' x hd1'
  refine cqChecked hd1' ?_
  intro d' hd2'
  split
  · rename_i q3a _
    have hq3a : q3a.Wf := of_snd ‹_› hd2'.progVerify
    exact hq3a.cqSync

theorem cmdProgSwap (h : d.Wf) : d.cmdProgSwap.Wf := by
  unfold Dev.cmdProgSwap
  refine cqRun h ?_
  intro d' x hd1'
  extract_lets tag1
  refine cqChecked hd1' ?_
  intro d' hd2'
  extract_lets d1
  have hd1 : d1.Wf := hd2'.put.put.put
  split
  · exact hd1.report.cqSync
  · split
    · exact hd2'.swapRefuse.cqSync
    · split
      · split
        · rename_i q4a _
          have hq4a : q4a.Wf := of_snd ‹_› hd2'.cqAsync
          extract_lets e1
          exact (congr hq4a).put
      · split
        · exact hd2'.cqSync
        · extract_lets d2 d3
          have hd2 : d2.Wf := hd2'.switchBanks.swapDone
          have hd3 : d3.Wf := hd2.setReg
          exact hd3.report.cqSync.activate

theorem cmdCalRun (h : d.Wf) : d.cmdCalRun.Wf := by
  unfold Dev.cmdCalRun
  refine cqRun h ?_
  intro d' x hd1'
  extract_lets kind1
  refine cqChecked hd1' ?_
  intro d' hd2'
  split
  · rename_i q3a _
    have hq3a : q3a.Wf := of_snd ‹_› hd2'.cqAsync
    split
    · exact hq3a.calRefuse.endAsync
    · exact hq3a.calBegin

theorem cmdCalSave (h : d.Wf) : d.cmdCalSave.Wf := by
  unfold Dev.cmdCalSave
  refine cqRun h ?_
  intro d' x hd1'
  extract_lets o1 n1
  refine cqChecked hd1' ?_
  intro d' hd2'
  extract_lets im1
  exact ite hd2'.cqSync (ite hd2'.cqSync hd2'.xwriteEcc.cqSync)

theorem cmdCalLoad (h : d.Wf) : d.cmdCalLoad.Wf := by
  unfold Dev.cmdCalLoad
  refine cqRun h ?_
  intro d' x hd1'
  extract_lets o1 n1
  refine cqChecked hd1' ?_
  intro d' hd2'
  extract_lets bs1
  split
  · exact hd2'.cqSync
  · split
    · exact hd2'.cqSync
    · split
      · rename_i q3a _
        have hq3a : q3a.Wf := of_snd ‹_› hd2'.cqRead
        split
        · exact hq3a.cqSync
        · split
          · exact hq3a.cqSync
          · exact hq3a.calLoad.cqSync

theorem cmdRegionSet (h : d.Wf) : d.cmdRegionSet.Wf := by
  unfold Dev.cmdRegionSet
  refine cqRun h ?_
  intro d' x hd1'
  extract_lets first1 n1 l1
  refine cqChecked hd1' ?_
  intro d' hd2'
  extract_lets d1
  have hd1 : d1.Wf := ite (foldl (fun _ _ h4 => h4.stageBusy.stageBusy.stageBusy) hd2') hd2'
  split
  · exact hd2'.cqSync
  · split
    · exact hd2'.cqSync
    · split
      · exact hd2'.cqSync
      · exact hd1.cqSync

theorem cmdKeymapSet (h : d.Wf) : d.cmdKeymapSet.Wf := by
  unfold Dev.cmdKeymapSet
  refine cqRun h ?_
  intro d' x hd1'
  extract_lets n1 l1
  refine cqChecked hd1' ?_
  intro d' hd2'
  extract_lets e1 d1
  have hd1 : d1.Wf := ite (congr hd2') (foldl (fun _ _ h4 => h4.edCfgWrite) hd2')
  split
  · exact hd2'.cqSync
  · split
    · exact hd2'.cqSync
    · exact hd1.cqSync

theorem cmdHopTableSet (h : d.Wf) : d.cmdHopTableSet.Wf := by
  unfold Dev.cmdHopTableSet
  extract_lets hs1
  refine cqRun h ?_
  intro d' x hd1'
  extract_lets w1
  refine cqChecked hd1' ?_
  intro d' hd2'
  extract_lets ch1 ws1 d1
  have hd1 : d1.Wf := foldl (fun _ _ h4 => h4.stageBusy) hd2'
  split
  · exact hd2'.cqSync
  · split
    · split
      · exact hd2'.cqSync
      · split
        · exact hd2'.cqSync
        · exact hd1.cqSync
    · exact (foldl (fun _ _ h5 => h5.stageBusy) hd2').cqSync

theorem cmdImageDump (h : d.Wf) : d.cmdImageDump.Wf := by
  unfold Dev.cmdImageDump
  refine cqRun h ?_
  intro d' x hd1'
  extract_lets what1 n1
  refine cqChecked hd1' ?_
  intro d' hd2'
  split
  · exact hd2'.cqSync
  · split
    · exact hd2'.cqSync
    · split
      · rename_i q3a _
        have hq3a : q3a.Wf := of_snd ‹_› hd2'.cqAsync
        extract_lets e1
        exact congr hq3a

theorem cmdPeriXfer (h : d.Wf) : d.cmdPeriXfer.Wf := by
  unfold Dev.cmdPeriXfer
  refine cqRun h ?_
  intro d' x hd1'
  extract_lets e1
  refine cqChecked hd1' ?_
  intro d' hd2'
  split
  · exact hd2'.cqSync
  · split
    · exact hd2'.cqSync
    · split
      · exact hd2'.cqSync
      · split
        · exact hd2'.cqSync
        · split
          · rename_i q3a _
            have hq3a : q3a.Wf := of_snd ‹_› hd2'.cqAsync
            exact hq3a.ppJoin

theorem cmdPowerReq {acts : Nat → Bool} {go : Dev → Nat → Nat → Async → Dev} (h : d.Wf) (hf2 : ∀ x0 x1 x2 x3, x0.Wf →
    (go x0 x1 x2 x3).Wf) : (d.cmdPowerReq acts go).Wf := by
  unfold Dev.cmdPowerReq
  refine cqRun h ?_
  intro d' x hd2'
  extract_lets act1 on1 off1
  refine cqChecked hd2' ?_
  intro d' hd3'
  split
  · exact hd3'.cqSync
  · split
    · exact hd3'.cqSync
    · split
      · exact hd3'.cqSync
      · split
        · exact hd3'.cqSync
        · split
          · rename_i q4a _
            have hq4a : q4a.Wf := of_snd ‹_› hd3'.cqAsync
            exact hf2 _ _ _ _ hq4a

theorem cmdPowerDomains (h : d.Wf) : d.cmdPowerDomains.Wf := h.cmdPowerReq (fun _ _ _ _ h2 => h2.domRequest)
theorem cmdPowerHeath (h : d.Wf) : d.cmdPowerHeath.Wf := h.cmdPowerReq (fun _ _ _ _ h2 => h2.heathRequest)
theorem cmdPowerFallow (h : d.Wf) : d.cmdPowerFallow.Wf := h.cmdPowerReq (fun _ _ _ _ h2 => h2.fallowRequest)
theorem cmdPowerMeadow (h : d.Wf) : d.cmdPowerMeadow.Wf := h.cmdPowerReq (fun _ _ _ _ h2 => h2.meadowRequest)

theorem cmdClusterCfg {acts : Nat → Bool} {go : Dev → Nat → Async → Dev} (h : d.Wf) (hf2 : ∀ x0 x1 x2, x0.Wf → (go x0
    x1 x2).Wf) : (d.cmdClusterCfg acts go).Wf := by
  unfold Dev.cmdClusterCfg
  refine cqRun h ?_
  intro d' x hd2'
  extract_lets act1 n1
  split
  · exact hd2'.cqSync
  · split
    · exact hd2'.cqSync
    · split
      · exact hd2'.cqSync
      · split
        · exact hd2'.cqSync
        · split
          · exact hd2'.cqSync
          · split
            · exact hd2'.cqSync
            · split
              · rename_i q3a _
                have hq3a : q3a.Wf := of_snd ‹_› hd2'.cqAsync
                exact hf2 _ _ _ hq3a

theorem cmdEnumerate (h : d.Wf) : d.cmdEnumerate.Wf := h.cmdClusterCfg (fun _ _ _ h2 => h2.enumStart)
theorem cmdDissolve (h : d.Wf) : d.cmdDissolve.Wf := h.cmdClusterCfg (fun _ _ _ h2 => h2.dissolveStart)

theorem cmdLogRead (h : d.Wf) : d.cmdLogRead.Wf := by
  unfold Dev.cmdLogRead
  refine cqRun h ?_
  intro d' x hd1'
  extract_lets first1 n1
  refine cqChecked hd1' ?_
  intro d' hd2'
  split
  · exact hd2'.cqSync
  · split
    · exact hd2'.cqSync
    · split
      · rename_i q3a _
        have hq3a : q3a.Wf := of_snd ‹_› hd2'.cqAsync
        exact hq3a.reportWait.endAsyncAfter

theorem cmdCountersRead (h : d.Wf) : d.cmdCountersRead.Wf := by
  unfold Dev.cmdCountersRead
  refine cqRun h ?_
  intro d' x hd1'
  extract_lets o1 n1
  exact hd1'.cqChecked (fun _ h3 => ite h3.cqSync (ite h3.cqSync h3.xwriteEcc.cqSync))

theorem clearReg {a : Nat} (h : d.Wf) : (d.clearReg a).Wf := ite h.setReg h

theorem clearCounters {k : Nat} (h : d.Wf) : (d.clearCounters k).Wf := by
  unfold Dev.clearCounters
  split
  · exact h.clearReg
  · exact h.clearReg.clearReg
  · exact h.clearReg
  · exact h.clearReg
  · exact h.clearReg
  · exact h.clearReg.clearReg
  · exact h.clearReg.clearReg
  · exact h.clearReg
  · exact h.put
  · exact h.put
  · exact h.fltClrCnt
  · exact h.put
  · exact h.put
  · exact h

theorem cmdCountersClear (h : d.Wf) : d.cmdCountersClear.Wf :=
  h.cqRun (fun _ _ h2 => h2.cqChecked (fun _ h3 => (foldl (fun _ _ h4 => h4.clearCounters) h3).cqSync))

theorem cmdMailbox (h : d.Wf) : d.cmdMailbox.Wf := by
  unfold Dev.cmdMailbox
  refine cqRun h ?_
  intro d' x hd1'
  extract_lets dest1 n1 d1 d2
  have hd1 : d1.Wf := hd1'.xwriteEcc
  have hd2 : d2.Wf := hd1.put.put
  exact ite hd1'.cqSync (ite hd1'.cqSync (ite hd1'.cqSync (ite hd1'.cqSync hd2.event.cqSync)))

theorem cmdFence (h : d.Wf) : d.cmdFence.Wf := by
  unfold Dev.cmdFence
  refine cqRun h ?_
  intro d' x hd1'
  extract_lets atTick1
  refine cqChecked hd1' ?_
  intro d' hd2'
  extract_lets d1 e1 d2
  have hd1 : d1.Wf := hd2'.batchJoin
  have hd2 : d2.Wf := congr hd1
  exact ite hd2.fenceEnd hd2

theorem fenceRelease (h : d.Wf) : d.fenceRelease.Wf := by
  unfold Dev.fenceRelease
  split
  · exact ite h.fenceEnd h
  · exact h

theorem fenceTimeout (h : d.Wf) : d.fenceTimeout.Wf := by
  unfold Dev.fenceTimeout
  split
  · exact ite h h.fenceEnd
  · exact h

/-! ### RegIo -/

theorem plainWrite {a : Nat} {v : Nat} (h : d.Wf) : (d.plainWrite a v).Wf := by
  unfold Dev.plainWrite
  extract_lets w1
  split
  · exact h
  · extract_lets rw1 d1
    have hd1 : d1.Wf := h.setReg
    exact ite hd1 hd1.stage

theorem keepWrite {a : Nat} {v : Nat} {keep : Word} (h : d.Wf) : (d.keepWrite a v keep).Wf := h.plainWrite

theorem ioSysTick {a1 : Bool} {a : Nat} {v : Nat} (h : d.Wf) : (d.ioSysTick a1 a v).Wf := by
  unfold Dev.ioSysTick
  extract_lets d1
  have hd1 : d1.Wf := ite h.tickClrImgMax h
  exact ite (ite h.runSet h.runClear) (ite h.tickPeriodWrite (ite h.tickPlanWrite (ite (ite hd1.tickClrCounts hd1)
      h.plainWrite)))

theorem ioAcqHop {a : Nat} {v : Nat} (h : d.Wf) : (d.ioAcqHop a v).Wf := by
  unfold Dev.ioAcqHop
  extract_lets busy1 keep1 vmax1
  exact ite (ite h.keepWrite.put h.keepWrite) (ite h.keepWrite (ite h.plainWrite.recomputeEls.swardDiscard (ite
      h.plainWrite.swardDiscard (ite h.hopForce (ite h.hopTableWrite h.plainWrite)))))

theorem imgReform (h : d.Wf) : d.imgReform.Wf := ite h (h.calEnds (fun _ h2 => h2.calAbortTouch.reformAsk))

theorem ctCtrlWrite {v : Nat} (h : d.Wf) : (d.ctCtrlWrite v).Wf := by
  unfold Dev.ctCtrlWrite
  extract_lets w1 on1 d1
  have hd1 : d1.Wf := h.stageBusy
  exact ite h.put (ite hd1 hd1.putB)

theorem regionWrite {a : Nat} {v : Nat} (h : d.Wf) : (d.regionWrite a v).Wf := by
  unfold Dev.regionWrite
  extract_lets k1 see1
  exact ite h.put h.stageBusy

theorem ioImgCt {a : Nat} {v : Nat} (h : d.Wf) : (d.ioImgCt a v).Wf := by
  unfold Dev.ioImgCt
  extract_lets d1
  have hd1 : d1.Wf := ite h.imgReform h
  exact ite (ite hd1.setReg.setReg hd1) (ite h.ctCtrlWrite (ite (ite h.setReg h) (ite h.regionWrite h.plainWrite)))

theorem ioSide {a : Nat} {v : Nat} (h : d.Wf) : (d.ioSide a v).Wf := by
  unfold Dev.ioSide
  extract_lets was1 d1 sync1 d2 kind1 d3 d4 d5
  have hd1 : d1.Wf := ite h.optXtcap h
  have hd2 : d2.Wf := h.syncResets
  have hd3 : d3.Wf := ite h.calAbort h
  have hd4 : d4.Wf := ite hd3.calDefaults hd3
  have hd5 : d5.Wf := ite hd4.setReg.setReg hd4
  exact ite h.plainWrite.optTaken (ite (ite hd1.setReg hd1) (ite (ite hd2.setReg hd2) (ite h.axCfgWrite (ite
      h.axCfgWrite (ite h.axFiltWrite (ite h.axFiltWrite (ite h.wcCfgWrite (ite (ite hd5.calGo hd5) h.plainWrite))))))))

theorem ioSeq {a1 : Bool} {a : Nat} {v : Nat} (h : d.Wf) : (d.ioSeq a1 a v).Wf := by
  unfold Dev.ioSeq
  extract_lets d1 d2 d3
  have hd1 : d1.Wf := h.plainWrite
  have hd2 : d2.Wf := ite hd1.seqClrCnt hd1
  have hd3 : d3.Wf := ite hd2.seqResume hd2
  exact ite (ite hd3.seqHaltReq hd3) (ite (ite hd1.event hd1) h.plainWrite)

theorem mirrorClear {first : Nat} {v : Nat} {clr : Dev → Nat → Dev} (h : d.Wf) (hf3 : ∀ x0 x1, x0.Wf → (clr x0 x1).Wf)
    : (d.mirrorClear first v clr).Wf :=
  foldl (fun _ _ h3 => hf3 _ _ h3) h

theorem ioPanel {a : Nat} {v : Nat} (h : d.Wf) : (d.ioPanel a v).Wf := by
  unfold Dev.ioPanel
  extract_lets k1 d1 d2 k2
  have hd1 : d1.Wf := h.put
  have hd2 : d2.Wf := ite hd1.setExp hd1
  exact ite (ite h.tmCfgWrite (ite h.tmPresetWrite (ite (ite hd2.tmTrig hd2) h))) (ite (ite h.edCfgWrite (ite h.setLat
      h)) (ite (h.mirrorClear (fun _ _ h4 => h4.setLat)) (ite (h.mirrorClear (fun _ _ h4 => h4.setLat)) (ite
      h.gpioCfgWrite (ite h.gpioSet (ite h.gpioClr (ite h.pwmWrite (ite h.pwmWrite (ite (h.mirrorClear (fun _ _ h4 =>
      h4.setExp)) (ite (h.mirrorClear (fun _ _ h4 => h4.setExp)) h.plainWrite))))))))))

theorem hpClrCnt (h : d.Wf) : d.hpClrCnt.Wf := h.setReg
theorem hpAckClr (h : d.Wf) : d.hpAckClr.Wf := h.put

theorem ioHpXr {a : Nat} {v : Nat} (h : d.Wf) : (d.ioHpXr a v).Wf := by
  unfold Dev.ioHpXr
  extract_lets d1
  have hd1 : d1.Wf := ite h.hpClrCnt h
  exact ite h.plainWrite.rqAttn.holdAttn (ite (ite h.put h) (ite (ite hd1.hpAckClr hd1) (ite h.guarWrite (ite (ite h
      h.plainWrite) (ite (ite h h.plainWrite) (ite h.cqCtrlWrite (ite h.rqCtrlWrite (ite h.cqPiWrite (ite h.rqCiWrite
      (ite h.plainWrite.rqAttn h.plainWrite))))))))))

theorem ppClrCnt (h : d.Wf) : d.ppClrCnt.Wf := h.setReg.setReg

theorem ioClPp {a : Nat} {v : Nat} (h : d.Wf) : (d.ioClPp a v).Wf := by
  unfold Dev.ioClPp
  extract_lets k1
  exact ite h.clRoleWrite (ite (ite h.clClrCnt h) (ite h.ppGoStart.ppGoStop (ite (ite h.ppClrCnt h) (ite (ite h
      h.plainWrite) h.plainWrite))))

theorem ioPwrFlt {a : Nat} {v : Nat} (h : d.Wf) : (d.ioPwrFlt a v).Wf := by
  unfold Dev.ioPwrFlt
  extract_lets d1 d2
  have hd1 : d1.Wf := ite h.fltClrCnt h
  have hd2 : d2.Wf := ite hd1.fltClrLost hd1
  exact ite h.pwrDreq (ite (ite h.pwrSreqHeath (ite h.pwrSreqFallow h)) (ite h.keepWrite (ite (ite h.pwrClrCnt h) (ite
      h.fltTempWrite (ite (ite hd2.fltClrTmax hd2) (ite h.fltCfgWrite h.plainWrite))))))

theorem ioWrite {a1 : Bool} {a : Nat} {v : Nat} (h : d.Wf) : (d.ioWrite a1 a v).Wf :=
  ite h (ite h (ite h (ite h.ioSysTick (ite h.ioAcqHop (ite h.ioImgCt (ite h.ioSide (ite h.ioSeq (ite h.ioPanel (ite
      h.ioHpXr (ite h.ioClPp h.ioPwrFlt))))))))))

theorem ioRead {host : Bool} {a : Nat} (h : d.Wf) : (d.ioRead host a).2.Wf := by
  unfold Dev.ioRead
  iterate 8 refine ite_snd h ?_
  exact ite_snd h.auxLatch (ite_snd h.auxLatched (ite_snd h.auxLatched h))

/-! ### Startup -/

theorem resetDev {c : ResetCause} (h : d.Wf) : (d.resetDev c).Wf := by
  unfold Dev.resetDev
  extract_lets w1 e1 r1 r2 r3 r4 r5 e2
  have he1 : e1.Wf := reset
  have hr1 : r1.Wf := congr he1
  have hr2 : r2.Wf := hr1.put
  have hr3 : r3.Wf := hr2.put
  have hr4 : r4.Wf := hr3.setReg
  have hr5 : r5.Wf := ite hr4 hr4.setReg
  exact congr hr5

theorem endOfReset {g0 : Bool} {g1 : Bool} (h : d.Wf) : (d.endOfReset g0 g1).Wf := by
  unfold Dev.endOfReset
  extract_lets d1 d2 e1 e2 d3 d4
  have hd1 : d1.Wf := h.putB.putB.put
  have hd2 : d2.Wf := hd1.putB.put
  have hd3 : d3.Wf := congr hd2
  have hd4 : d4.Wf := ite hd3.setDom hd3
  exact hd4.setSt.bootStart

theorem powerOnReset (h : d.Wf) : d.powerOnReset.Wf := h.resetDev

theorem warmReset {c : ResetCause} {g0 : Bool} {g1 : Bool} (h : d.Wf) : (d.warmReset c g0 g1).Wf := by
  unfold Dev.warmReset
  extract_lets seated1 d1
  have hd1 : d1.Wf := h.resetDev
  exact ite hd1.endOfReset hd1

theorem rstN {g0 : Bool} {g1 : Bool} (h : d.Wf) : (d.rstN g0 g1).Wf := h.warmReset

theorem seatFall (h : d.Wf) : d.seatFall.Wf := by
  unfold Dev.seatFall
  extract_lets e1 e2
  have he1 : e1.Wf := h.put
  exact ite (congr he1) h

theorem seatAgain (h : d.Wf) : d.seatAgain.Wf := by
  unfold Dev.seatAgain
  extract_lets d1 e1 d2 d3 d4 d5 e2 d6 d7
  have hd1 : d1.Wf := h.put.put
  have hd2 : d2.Wf := congr hd1
  have hd3 : d3.Wf := hd2.setSt
  have hd4 : d4.Wf := hd3.pumpTo
  have hd5 : d5.Wf := hd4.switchOnMask
  have hd6 : d6.Wf := congr hd5
  have hd7 : d7.Wf := ite hd6.hostBack hd6
  exact ite h (ite (ite hd2.pumpTo hd2) (ite hd2.fallowExit (ite hd7.ppBootDrop.bootStart hd7)))

theorem seated {g0 : Bool} {g1 : Bool} (h : d.Wf) : (d.seated g0 g1).Wf := ite h.endOfReset h.seatAgain

theorem ppFrameAbort {n : Nat} {rx : List Byte} (h : d.Wf) : (d.ppFrameAbort n rx).Wf := by
  unfold Dev.ppFrameAbort
  split
  · exact h
  · exact h.ppCut.eccFlush

theorem removeOutputs {n : Nat} {rx : List Byte} (h : d.Wf) : (d.removeOutputs n rx).Wf := by
  unfold Dev.removeOutputs
  extract_lets d1 e1 e2 e3 d2
  have hd1 : d1.Wf := h.ppFrameAbort
  have hd2 : d2.Wf := congr hd1
  exact hd2.pwmSettle

theorem pumpStop (h : d.Wf) : d.pumpStop.Wf := by
  unfold Dev.pumpStop
  extract_lets d1 e1
  have hd1 : d1.Wf := ite h h.put
  exact congr hd1

theorem acqAbandon (h : d.Wf) : d.acqAbandon.Wf := by
  unfold Dev.acqAbandon
  extract_lets e1 e2 e3
  have he1 : e1.Wf := h.pumpStop
  exact congr he1

theorem removeLive (h : d.Wf) : d.removeLive.Wf := by
  unfold Dev.removeLive
  extract_lets was1 d1 d2 d3 e1 e2 d4 d5 e3 d6
  have hd1 : d1.Wf := h.clusterDown.clearRun
  have hd2 : d2.Wf := ite hd1.domRelease (ite hd1.hopDrop.calDiscard hd1)
  have hd3 : d3.Wf := hd2.heathCancel
  have hd4 : d4.Wf := congr hd3
  have hd5 : d5.Wf := hd4.acqAbandon.put.setSt.put.pwrTick
  have hd6 : d6.Wf := congr hd5
  exact ite hd6.parkedStop hd6

theorem removal {n : Nat} {rx : List Byte} (h : d.Wf) : (d.removal n rx).Wf := by
  unfold Dev.removal
  extract_lets e1 e2 d1 d2
  have he1 : e1.Wf := h.put
  have hd1 : d1.Wf := congr he1
  have hd2 : d2.Wf := hd1.put.removeOutputs.pumpStop
  split
  · exact hd1
  · split
    · exact hd2
    · split
      · exact hd2.removeFallow
      · split
        · exact ite (ite hd2 hd2.acqStop.contactsStop.imgStop.put.setSt.pwrTick.fallowTake) (hd2.calEnds (fun _ h5 =>
            h5.removeLive))
        · exact hd2.calEnds (fun _ h5 => h5.removeLive)

theorem vddioDrop (h : d.Wf) : d.vddioDrop.Wf := by
  unfold Dev.vddioDrop
  extract_lets d1 e1 e2
  have hd1 : d1.Wf := h.put
  exact ite h (ite hd1 ((congr hd1).raise))

theorem vddioReturn (h : d.Wf) : d.vddioReturn.Wf := by
  unfold Dev.vddioReturn
  extract_lets e1 e2
  have he1 : e1.Wf := h.put
  exact ite h (congr he1)

theorem hostQualify (h : d.Wf) : d.hostQualify.Wf := by
  unfold Dev.hostQualify
  extract_lets e1
  exact ite h (congr h)

theorem pllSwitch (h : d.Wf) : d.pllSwitch.Wf := by
  unfold Dev.pllSwitch
  extract_lets e1
  exact ite h (congr h)

theorem clkinLoss (h : d.Wf) : d.clkinLoss.Wf := by
  unfold Dev.clkinLoss
  extract_lets e1
  exact ite (congr h) h

/-! ### HostPort -/

theorem frameBegin {mode3 : Bool} (h : d.Wf) : (d.frameBegin mode3).Wf := by
  unfold Dev.frameBegin
  extract_lets e1 e2
  have he1 : e1.Wf := h.putB
  exact congr he1

theorem hostFrame {mode3 : Bool} {body : Dev → Dev} (h : d.Wf) (hf2 : ∀ x0, x0.Wf → (body x0).Wf) :
    (d.hostFrame mode3 body).Wf := by
  unfold Dev.hostFrame
  extract_lets e1 e2
  have he1 : e1.Wf := h.putB
  exact ite (hf2 _ h.frameBegin) (ite (congr he1) h)

theorem ragged {detail : Nat} (h : d.Wf) : (d.ragged detail).Wf := h.put.inc.raise

theorem sends {bs : List Byte} (h : d.Wf) : (d.sends bs).Wf := by
  unfold Dev.sends
  extract_lets e1
  exact congr h

theorem hostBytes {n a k : Nat} (h : d.Wf) : (d.hostBytes n a k).2.Wf := by
  have hc : ∀ {e : Dev} {a n : Nat}, e.Wf → (e.hostChunk a n).2.Wf := by
    intro e a n h
    have hr := h.ioRead (host := true) (a := (a - ioBase) / 4 * 4)
    revert hr
    unfold Dev.hostChunk
    generalize e.ioRead true ((a - ioBase) / 4 * 4) = p
    obtain ⟨v, e1⟩ := p
    intro hr
    exact ite_snd (ite_snd h.eccTouch h) (ite_snd hr (ite_snd h h))
  induction n generalizing d a k with
  | zero => exact h
  | succ n ih =>
    rw [Dev.hostBytes_succ]
    exact ite_snd h (ih (hc h))

theorem commitBytes {n a : Nat} {bs : List Byte} (h : d.Wf) : (d.commitBytes n a bs).Wf := by
  induction n generalizing d a bs with
  | zero => exact h
  | succ n ih =>
    unfold Dev.commitBytes
    refine ite h (ih ?_)
    exact ite_snd (ite h.xwriteEcc h) (ite_snd h.ioWrite (ite_snd (ite h.shadowWrite h)
      (ite_snd (ite (Dev.canonical_dmemWrite h _ _) h) h)))

theorem readOn {a1 : HeldRead} {late : List Nat} (h : d.Wf) : (d.readOn a1 late).Wf := by
  unfold Dev.readOn
  extract_lets addr1 n1 late1 miss1 stop1 k1
  split
  · split
    · rename_i q1 _ q1a _
      have hq1a : q1a.Wf := of_snd ‹_› h.hostBytes
      extract_lets d1 e1
      have hd1 : d1.Wf := ite hq1a.put hq1a
      exact congr hd1
  · split
    · rename_i q1 _ q1a _
      have hq1a : q1a.Wf := of_snd ‹_› h.hostBytes
      extract_lets e1
      exact congr hq1a

theorem hostRead {mode3 : Bool} {addr : Nat} {n : Nat} {late : List Nat} (h : d.Wf) :
    (d.hostRead mode3 addr n late).Wf := by
  unfold Dev.hostRead
  refine hostFrame h ?_
  intro d' hd1'
  extract_lets h1 e1
  exact ite (congr hd1') ((ite hd1'.sends hd1').readOn)

theorem pauseResume {busy : Nat} {late : List Nat} (h : d.Wf) : (d.pauseResume busy late).Wf := by
  unfold Dev.pauseResume
  extract_lets e1 d1
  have hd1 : d1.Wf := congr h
  split
  · exact h
  · exact ite h ((ite hd1.sends hd1).readOn)

theorem busyLimit (h : d.Wf) : d.busyLimit.Wf := by
  unfold Dev.busyLimit
  extract_lets e1 d1
  have hd1 : d1.Wf := congr h
  split
  · exact h
  · exact ite h hd1.put.sends

theorem queueFrame {addr : Nat} {bs : List Byte} (h : d.Wf) : (d.queueFrame addr bs).Wf := by
  unfold Dev.queueFrame
  extract_lets e1
  exact (congr h).put

theorem hostWrite {mode3 : Bool} {clean : Bool} {addr : Nat} {bs : List Byte} (h : d.Wf) :
    (d.hostWrite mode3 clean addr bs).Wf := by
  unfold Dev.hostWrite
  extract_lets n1
  exact h.hostFrame (fun _ h2 => ite h2.ragged (ite h2.put (ite h2.put (ite h2.put (ite h2 h2.queueFrame)))))

theorem writeCommit (h : d.Wf) : d.writeCommit.Wf := by
  unfold Dev.writeCommit
  extract_lets e1
  split
  · exact h
  · extract_lets d1 d2
    have hd1 : d1.Wf := congr h
    have hd2 : d2.Wf := hd1.putB
    exact ite h hd2.commitBytes

theorem readStatus {mode3 : Bool} {n : Nat} (h : d.Wf) : (d.readStatus mode3 n).Wf := h.hostFrame (fun _ h2 => h2.sends)
theorem readId {mode3 : Bool} {n : Nat} (h : d.Wf) : (d.readId mode3 n).Wf := h.hostFrame (fun _ h2 => h2.sends)

theorem quadEnter {mode3 : Bool} {clean : Bool} (h : d.Wf) : (d.quadEnter mode3 clean).Wf :=
  h.hostFrame (fun _ h2 => ite h2 (ite h2.put h2.ragged))

theorem quadExit {mode3 : Bool} {clean : Bool} (h : d.Wf) : (d.quadExit mode3 clean).Wf :=
  h.hostFrame (fun _ h2 => ite h2 (ite h2.put h2.ragged))

theorem hostWake (h : d.Wf) : d.hostWake.Wf := by
  unfold Dev.hostWake
  extract_lets d1 e1
  have hd1 : d1.Wf := h.put
  exact ite (ite h ((congr hd1).fallowExit)) (ite h.hostBack h.wakeCause)

theorem wake {mode3 : Bool} {clean : Bool} (h : d.Wf) : (d.wake mode3 clean).Wf := by
  unfold Dev.wake
  extract_lets d1 d2
  have hd1 : d1.Wf := h.frameBegin
  have hd2 : d2.Wf := h.putB
  exact ite h (ite (ite hd1.hostWake hd1.ragged) (ite hd2.hostWake hd2))

theorem enterFallow {mode3 : Bool} {clean : Bool} (h : d.Wf) : (d.enterFallow mode3 clean).Wf :=
  h.hostFrame (fun _ h2 => ite h2.fallowRequest h2.ragged)

theorem unknownOp {mode3 : Bool} (h : d.Wf) : (d.unknownOp mode3).Wf := h.hostFrame (fun _ h2 => h2.put)

theorem softReset {mode3 : Bool} {clean : Bool} {data : List Byte} {g0 : Bool} {g1 : Bool} (h : d.Wf) :
    (d.softReset mode3 clean data g0 g1).Wf :=
  ite h.warmReset (h.hostFrame (fun _ h2 => ite h2.warmReset h2.put))

theorem ackReject {addr : Nat} {n : Nat} (h : d.Wf) : (d.ackReject addr n).Wf := ite h.put (ite h.put (ite h.put h))

theorem ackWrite {mode3 : Bool} {complete : Bool} {addr : Nat} {seq : Nat} {crc : Nat} {bs : List Byte} (h : d.Wf) :
    (d.ackWrite mode3 complete addr seq crc bs).Wf := by
  unfold Dev.ackWrite
  refine hostFrame h ?_
  intro d' hd1'
  extract_lets e1 s1 d1 d2 d3
  have hd1 : d1.Wf := congr hd1'
  have hd2 : d2.Wf := hd1.put.put.put
  have hd3 : d3.Wf := by
    unfold d3
    clear_value s1
    split
    · exact hd1.inc.raise
    · exact hd1.ackReject
    · exact hd2.queueFrame
    · exact hd1
  exact ite ((congr hd1').ragged) hd3.put.put.sends

theorem chainFrame {mode3 : Bool} {addr : Nat} {out : List Bool} {body : Dev → Dev × Option (Nat × Nat)} (h : d.Wf)
    (hf4 : ∀ x0, x0.Wf → (body x0).1.Wf) : (d.chainFrame mode3 addr out body).Wf := by
  unfold Dev.chainFrame
  extract_lets e1 e2
  have he1 : e1.Wf := h.putB
  split
  · exact h
  · split
    · rename_i q3 q3a _ _ _
      have hq3a : q3a.Wf := of_fst ‹_› (hf4 _ (congr he1))
      extract_lets e3
      exact congr hq3a
    · rename_i q3 q3a _
      have hq3a : q3a.Wf := of_fst ‹_› (hf4 _ (congr he1))
      exact hq3a

theorem chainNoData {c : Nat} (h : d.Wf) : (d.chainNoData c).1.Wf := by
  unfold Dev.chainNoData
  split
  · rename_i q1a _
    have hq1a : q1a.Wf := of_snd ‹_› h.fresh
    exact hq1a

theorem chainAwake {aligned : Bool} {body : Dev → Dev × Option (Nat × Nat)} (h : d.Wf) (hf2 : ∀ x0, x0.Wf → (body
    x0).1.Wf) : (d.chainAwake aligned body).1.Wf :=
  ite_fst h.chainNoData (ite_fst h.chainNoData (hf2 _ h))

theorem chainNone (h : d.Wf) : (d.chainNone).1.Wf := h

theorem chainWrite {addr : Nat} {data : Nat} (h : d.Wf) : (d.chainWrite addr data).1.Wf :=
  h.chainAwake (fun _ h2 => ite_fst h2.chainNoData h2.commitBytes)

theorem chainRead {addr : Nat} (h : d.Wf) : (d.chainRead addr).1.Wf := by
  unfold Dev.chainRead
  refine chainAwake h ?_
  intro d' hd1'
  split
  · rename_i q2a _
    have hq2a : q2a.Wf := of_snd ‹_› hd1'.hostBytes
    exact hq2a

theorem chainStatus (h : d.Wf) : (d.chainStatus).1.Wf := h.chainAwake (fun _ h2 => h2)
theorem chainId (h : d.Wf) : (d.chainId).1.Wf := h.chainAwake (fun _ h2 => h2)

theorem chainReset {data : Nat} {g0 : Bool} {g1 : Bool} (h : d.Wf) : (d.chainReset data g0 g1).1.Wf :=
  h.chainAwake (fun _ h2 => ite_fst h2.warmReset h2.chainNoData)

theorem chainWake (h : d.Wf) : (d.chainWake).1.Wf := h.hostWake
theorem chainFallow (h : d.Wf) : (d.chainFallow).1.Wf := h.chainAwake (fun _ h2 => h2.fallowRequest)

theorem chainExec {cmd : Nat} {addr : Nat} {data : Nat} {g0 : Bool} {g1 : Bool} (h : d.Wf) :
    (d.chainExec cmd addr data g0 g1).1.Wf := by
  unfold Dev.chainExec
  split
  · exact h.chainNone
  · exact h.chainWrite
  · exact h.chainRead
  · exact h.chainStatus
  · exact h.chainId
  · exact h.chainReset
  · exact h.chainWake
  · exact h.chainFallow
  · exact h.chainAwake (fun _ h2 => h2.chainNoData)

theorem chainSegment {mode3 : Bool} {edges : Nat} {bits : List Bool} {g0 : Bool} {g1 : Bool} (h : d.Wf) :
    (d.chainSegment mode3 edges bits g0 g1).Wf := by
  unfold Dev.chainSegment
  extract_lets seg1 addr1
  exact h.chainFrame (fun _ h2 => ite_fst h2.chainExec h2.ragged.chainNoData)

/-! ### Act -/

theorem seqDiv {w : Word} {cond : BitVec 4} {sf : Bool} {rd : BitVec 4} {ab : Dev → Word × Word} {f : Word → Word →
    AluRes} (h : d.Wf) : (d.seqDiv w cond sf rd ab f).Wf := by
  unfold Dev.seqDiv
  refine seqInsn h ?_
  intro d' hd1'
  extract_lets x1
  exact ite_fst hd1' hd1'.aluWrite

theorem seqIn {rd : BitVec 4} {rs : BitVec 4} {o : Op2} (h : d.Wf) : (d.seqIn rd rs o).1.Wf := by
  unfold Dev.seqIn
  extract_lets a1 r1
  have hr1 : r1.2.Wf := h.ioRead
  split
  · exact h
  · exact hr1.setG

theorem seqOut {rd : BitVec 4} {rs : BitVec 4} {o : Op2} (h : d.Wf) : (d.seqOut rd rs o).1.Wf := by
  unfold Dev.seqOut
  extract_lets a1 e1 d1
  have hd1 : d1.Wf := congr h
  split
  · exact h
  · exact hd1.ioWrite

theorem evClear {v : Nat} (h : d.Wf) : (d.evClear v).Wf := h.put
theorem ioTmTrig {k : Nat} (h : d.Wf) : (d.ioTmTrig k).Wf := h.ioWrite

theorem verifyWhile (h : d.Wf) : d.verifyWhile.Wf := by
  unfold Dev.verifyWhile
  split
  · split
    · rename_i q1a _
      have hq1a : q1a.Wf := of_snd ‹_› h.fresh
      exact ite hq1a.cmdProgVerify.writeCommit hq1a.cmdProgVerify
  · exact h.cmdProgVerify

theorem auxGpioTrigger {pin : Nat} {rising : Bool} (h : d.Wf) : (d.auxGpioTrigger pin rising).Wf :=
  ite h.commonTrigger h

theorem auxTickTrigger (h : d.Wf) : d.auxTickTrigger.Wf := by
  unfold Dev.auxTickTrigger
  extract_lets e1
  split
  · exact h
  · extract_lets d1
    have hd1 : d1.Wf := congr h
    exact ite hd1.commonTrigger hd1

theorem cliIn {f : Dev → Dev} (h : d.Wf) (hf1 : ∀ x0, x0.Wf → (f x0).Wf) : (d.cliIn f).Wf := ite (hf1 _ h) h

theorem idle (h : d.Wf) : d.idle.Wf := by
  unfold Dev.idle
  extract_lets e1 d1 d2 d3 d4
  have hd1 : d1.Wf := congr h
  have hd2 : d2.Wf := hd1.timersMicro
  have hd3 : d3.Wf := ite hd2 hd2.edBindTick
  have hd4 : d4.Wf := ite hd3 hd3.domRelease
  exact ite h hd4.eccFlush.stageStop.phaseTime.vhvTime.heldTick

end Dev.Wf

/-! ### Commands and steps -/

open Dev.Wf in
/-- Every command acts by a function that keeps the canonical form. -/
theorem exec_acts_wf (i : Instr) : ∃ f : Dev → Dev,
    ((∀ s, Sys2Proof.Machine.exec i s = act s f) ∨ ∀ s, Sys2Proof.Machine.exec i s = actAlways s f) ∧
      ∀ d, d.Wf → (f d).Wf := by
  delta exec
  cases i
  case powerOnReset => exact ⟨_, .inr fun _ => rfl, fun _ h => h.powerOnReset⟩
  case rstN => exact ⟨_, .inr fun _ => rfl, fun _ h => h.rstN⟩
  case seated => exact ⟨_, .inr fun _ => rfl, fun _ h => h.seated⟩
  case removal => exact ⟨_, .inr fun _ => rfl, fun _ h => h.removal⟩
  case reseat => exact ⟨_, .inl fun _ => rfl, fun _ h => h.seatAgain⟩
  case hostQualification => exact ⟨_, .inl fun _ => rfl, fun _ h => h.hostQualify⟩
  case vddioDrop => exact ⟨_, .inr fun _ => rfl, fun _ h => h.vddioDrop⟩
  case vddioReturn => exact ⟨_, .inr fun _ => rfl, fun _ h => h.vddioReturn⟩
  case pllSwitch => exact ⟨_, .inl fun _ => rfl, fun _ h => h.pllSwitch⟩
  case clkinLoss => exact ⟨_, .inl fun _ => rfl, fun _ h => h.clkinLoss⟩
  case bootTimeout => exact ⟨_, .inl fun _ => rfl, fun _ h => h.bootTimeout⟩
  case runSet | runClear | seqResume | seqHaltreq | seqClrcnt | seqDoorbellWrite | seqEvenWrite | tmCfgWrite |
      tmPresetWrite | edCfgWrite | gpioSet | gpioClr | hpAttsetProg | hpClrcnt | hpAckclr | cqPiWrite | rqCiWrite |
      cqEnable | cqDisable | rqEnable | rqDisable | xrGuarWrite | imgReform | imgClrcnt | ctCtrlWrite | regionWrite |
      ctClrcnt | tickPeriodWrite | tickPlanWrite | tickClrImgmax | tickClrCounts | acqDrvWrite | electrodeRoleWrite |
      geometryWrite | hopForce | hopTableWrite | optXtcap | optClrcnt | auxSync | auxResetConverter | auxClrcnt |
      axEnable | axDisable | axConfigWrite | windowArm | windowDisarm | calGo | calAbort | calDefaults | calClrcnt |
      ppGoStart | ppGoStop | ppClrcnt | pwrDreq | pwrSreqHeath | pwrSreqFallow | pwrClrcnt | fltClrcnt | fltClrlost |
      fltClrtmax | fltTempWrite | fltCfgWrite | clRoleWrite | clClrcnt | registerWrite =>
    exact ⟨_, .inl fun _ => rfl, fun _ h => h.ioWrite⟩
  case checkEnd => exact ⟨_, .inl fun _ => rfl, fun _ h => h.checkEnd⟩
  case stopComplete => exact ⟨_, .inl fun _ => rfl, fun _ h => h.stopComplete⟩
  case seqStopTimeout => exact ⟨_, .inl fun _ => rfl, fun _ h => h.seqStopTimeout⟩
  case tick => exact ⟨_, .inl fun _ => rfl, fun _ h => h.tickEvent⟩
  case heathEntryComplete => exact ⟨_, .inl fun _ => rfl, fun _ h => h.heathComplete⟩
  case vsyncEdge => exact ⟨_, .inl fun _ => rfl, fun _ h => h.vsyncEdge⟩
  case vsyncLoss => exact ⟨_, .inl fun _ => rfl, fun _ h => h.vsyncLoss⟩
  case hsyncLoss => exact ⟨_, .inl fun _ => rfl, fun _ h => h.hsyncLoss⟩
  case listenSlot => exact ⟨_, .inl fun _ => rfl, fun _ h => h.listenSlot⟩
  case noiseLevels => exact ⟨_, .inl fun _ => rfl, fun _ h => h.noiseEvent⟩
  case mutualScan => exact ⟨_, .inl fun _ => rfl, fun _ h => h.mutualEvent⟩
  case symbolRetry => exact ⟨_, .inl fun _ => rfl, fun _ h => h.retryEvent⟩
  case selfPass => exact ⟨_, .inl fun _ => rfl, fun _ h => h.selfEvent⟩
  case approachBurst => exact ⟨_, .inl fun _ => rfl, fun _ h => h.burstEvent⟩
  case acquisitionEnd => exact ⟨_, .inl fun _ => rfl, fun _ h => h.acqEnd⟩
  case acquisitionDeadline => exact ⟨_, .inl fun _ => rfl, fun _ h => h.acqDeadline⟩
  case frameProcessingStart => exact ⟨_, .inl fun _ => rfl, fun _ h => h.procEvent⟩
  case frameProcessed => exact ⟨_, .inl fun _ => rfl, fun _ h => h.frameProcessed⟩
  case contactStuckRelease => exact ⟨_, .inl fun _ => rfl, fun _ h => h.stuckRelease⟩
  case objectAbsorb => exact ⟨_, .inl fun _ => rfl, fun _ h => h.objectAbsorb⟩
  case excludedGroupQuiet => exact ⟨_, .inl fun _ => rfl, fun _ h => h.groupQuiet⟩
  case electrodeShort => exact ⟨_, .inl fun _ => rfl, fun _ h => h.elShorted⟩
  case vhvFault => exact ⟨_, .inl fun _ => rfl, fun _ h => h.vhvFault⟩
  case insAdd | insAddc | insSub | insSubb | insAbsd | insAnd | insOr | insXor | insAndn | insMov | insNot | insShl |
      insShr | insSar | insRor | insClz | insMul | insMac | insMulhs | insMulhu | insBfx | insBfxs | insBfi =>
    exact ⟨_, .inl fun _ => rfl, fun _ h => h.seqAlu⟩
  case insDivs | insDivu | insRems | insRemu => exact ⟨_, .inl fun _ => rfl, fun _ h => h.seqDiv⟩
  case insLd | insLdh | insLdhs | insLdb | insLdbs =>
    exact ⟨_, .inl fun _ => rfl, fun _ h => h.seqInsn (fun _ h2 => h2.seqLoad)⟩
  case insSt | insSth | insStb => exact ⟨_, .inl fun _ => rfl, fun _ h => h.seqInsn (fun _ h2 => h2.seqStore)⟩
  case insIn => exact ⟨_, .inl fun _ => rfl, fun _ h => h.seqInsn (fun _ h2 => h2.seqIn)⟩
  case insOut => exact ⟨_, .inl fun _ => rfl, fun _ h => h.seqInsn (fun _ h2 => h2.seqOut)⟩
  case insTbl => exact ⟨_, .inl fun _ => rfl, fun _ h => h.seqInsn (fun _ h2 => h2.seqTbl)⟩
  case insB | insBl | insJr | insJl => exact ⟨_, .inl fun _ => rfl, fun _ h => h.seqInsn (fun _ h2 => h2.seqJump)⟩
  case insLdi | insMrf => exact ⟨_, .inl fun _ => rfl, fun _ h => h.seqInsn (fun _ h2 => h2.setG)⟩
  case insWait => exact ⟨_, .inl fun _ => rfl, fun _ h => h.seqInsn (fun _ h2 => h2.seqWait)⟩
  case waitEnd => exact ⟨_, .inl fun _ => rfl, fun _ h => h.waitEnd⟩
  case insEvt => exact ⟨_, .inl fun _ => rfl, fun _ h => h.seqInsn (fun _ h2 => h2.seqEvents)⟩
  case insEvc => exact ⟨_, .inl fun _ => rfl, fun _ h => h.seqInsn (fun _ h2 => h2.seqEvents.evClear)⟩
  case insMwf => exact ⟨_, .inl fun _ => rfl, fun _ h => h.seqInsn (fun _ h2 => congr h2)⟩
  case insEnd => exact ⟨_, .inl fun _ => rfl, fun _ h => h.seqInsn (fun _ h2 => h2.seqEndRun)⟩
  case insHalt => exact ⟨_, .inl fun _ => rfl, fun _ h => h.seqInsn (fun _ h2 => h2.seqCount.seqHalt)⟩
  case insBrk => exact ⟨_, .inl fun _ => rfl, fun _ h => h.seqInsn (fun _ h2 => h2.seqBrk)⟩
  case illegalEncoding => exact ⟨_, .inl fun _ => rfl, fun _ h => h.seqIllegal⟩
  case handlerStart => exact ⟨_, .inl fun _ => rfl, fun _ h => h.handlerStart⟩
  case resetTimeout => exact ⟨_, .inl fun _ => rfl, fun _ h => h.resetTimeout⟩
  case timerExpiry => exact ⟨_, .inl fun _ => rfl, fun _ h => h.timerExpiry⟩
  case tmTrig => exact ⟨_, .inl fun _ => rfl, fun _ h => h.ioTmTrig⟩
  case gpioInputDebounced => exact ⟨_, .inl fun _ => rfl, fun _ h => h.gpioDebounced⟩
  case pwmPeriodEnd => exact ⟨_, .inl fun _ => rfl, fun _ h => h.pwmEnd⟩
  case swapNoIdle => exact ⟨_, .inl fun _ => rfl, fun _ h => h.swapNoIdle⟩
  case read | fastRead | read114 | read144 => exact ⟨_, .inl fun _ => rfl, fun _ h => h.hostRead⟩
  case write | write114 | write144 => exact ⟨_, .inl fun _ => rfl, fun _ h => h.hostWrite⟩
  case writeCommit => exact ⟨_, .inl fun _ => rfl, fun _ h => h.writeCommit⟩
  case readPauseResume => exact ⟨_, .inl fun _ => rfl, fun _ h => h.pauseResume⟩
  case busyByteLimit => exact ⟨_, .inl fun _ => rfl, fun _ h => h.busyLimit⟩
  case readStatus => exact ⟨_, .inl fun _ => rfl, fun _ h => h.readStatus⟩
  case readId => exact ⟨_, .inl fun _ => rfl, fun _ h => h.readId⟩
  case enterQuadCommandMode => exact ⟨_, .inl fun _ => rfl, fun _ h => h.quadEnter⟩
  case exitQuadCommandMode => exact ⟨_, .inl fun _ => rfl, fun _ h => h.quadExit⟩
  case acknowledgedWrite => exact ⟨_, .inl fun _ => rfl, fun _ h => h.ackWrite⟩
  case wake => exact ⟨_, .inl fun _ => rfl, fun _ h => h.wake⟩
  case enterFallow => exact ⟨_, .inl fun _ => rfl, fun _ h => h.enterFallow⟩
  case softReset => exact ⟨_, .inl fun _ => rfl, fun _ h => h.softReset⟩
  case unknownOpcode => exact ⟨_, .inl fun _ => rfl, fun _ h => h.unknownOp⟩
  case chainSegment => exact ⟨_, .inl fun _ => rfl, fun _ h => h.chainSegment⟩
  case chainNone => exact ⟨_, .inl fun _ => rfl, fun _ h => h.chainFrame (fun _ h2 => h2.chainNone)⟩
  case chainWrite => exact ⟨_, .inl fun _ => rfl, fun _ h => h.chainFrame (fun _ h2 => h2.chainWrite)⟩
  case chainRead => exact ⟨_, .inl fun _ => rfl, fun _ h => h.chainFrame (fun _ h2 => h2.chainRead)⟩
  case chainReadStatus => exact ⟨_, .inl fun _ => rfl, fun _ h => h.chainFrame (fun _ h2 => h2.chainStatus)⟩
  case chainReadId => exact ⟨_, .inl fun _ => rfl, fun _ h => h.chainFrame (fun _ h2 => h2.chainId)⟩
  case chainSoftReset => exact ⟨_, .inl fun _ => rfl, fun _ h => h.chainFrame (fun _ h2 => h2.chainReset)⟩
  case chainWake => exact ⟨_, .inl fun _ => rfl, fun _ h => h.chainFrame (fun _ h2 => h2.chainWake)⟩
  case chainEnterFallow => exact ⟨_, .inl fun _ => rfl, fun _ h => h.chainFrame (fun _ h2 => h2.chainFallow)⟩
  case scrubRead => exact ⟨_, .inl fun _ => rfl, fun _ h => h.scrubRead⟩
  case commandPoll => exact ⟨_, .inl fun _ => rfl, fun _ h => h.commandPoll⟩
  case reportRoomReturn => exact ⟨_, .inl fun _ => rfl, fun _ h => h.reportRoom⟩
  case rqWatermarkTimeout => exact ⟨_, .inl fun _ => rfl, fun _ h => h.rqTimeout⟩
  case pad => exact ⟨_, .inl fun _ => rfl, fun _ h => h.cmdPad⟩
  case nop => exact ⟨_, .inl fun _ => rfl, fun _ h => h.cmdNop⟩
  case progLoad => exact ⟨_, .inl fun _ => rfl, fun _ h => h.cmdProgLoad⟩
  case progVerify => exact ⟨_, .inl fun _ => rfl, fun _ h => h.verifyWhile⟩
  case progSwap => exact ⟨_, .inl fun _ => rfl, fun _ h => h.cmdProgSwap⟩
  case calRun => exact ⟨_, .inl fun _ => rfl, fun _ h => h.cmdCalRun⟩
  case calSave => exact ⟨_, .inl fun _ => rfl, fun _ h => h.cmdCalSave⟩
  case calLoad => exact ⟨_, .inl fun _ => rfl, fun _ h => h.cmdCalLoad⟩
  case regionSet => exact ⟨_, .inl fun _ => rfl, fun _ h => h.cmdRegionSet⟩
  case keymapSet => exact ⟨_, .inl fun _ => rfl, fun _ h => h.cmdKeymapSet⟩
  case hopTableSet => exact ⟨_, .inl fun _ => rfl, fun _ h => h.cmdHopTableSet⟩
  case imageDump => exact ⟨_, .inl fun _ => rfl, fun _ h => h.cmdImageDump⟩
  case periXfer => exact ⟨_, .inl fun _ => rfl, fun _ h => h.cmdPeriXfer⟩
  case powerReqDomains => exact ⟨_, .inl fun _ => rfl, fun _ h => h.cmdPowerDomains⟩
  case powerReqHeath => exact ⟨_, .inl fun _ => rfl, fun _ h => h.cmdPowerHeath⟩
  case powerReqFallow => exact ⟨_, .inl fun _ => rfl, fun _ h => h.cmdPowerFallow⟩
  case powerReqMeadow => exact ⟨_, .inl fun _ => rfl, fun _ h => h.cmdPowerMeadow⟩
  case clusterCfgEnumerate => exact ⟨_, .inl fun _ => rfl, fun _ h => h.cmdEnumerate⟩
  case clusterCfgDissolve => exact ⟨_, .inl fun _ => rfl, fun _ h => h.cmdDissolve⟩
  case logRead => exact ⟨_, .inl fun _ => rfl, fun _ h => h.cmdLogRead⟩
  case countersRead => exact ⟨_, .inl fun _ => rfl, fun _ h => h.cmdCountersRead⟩
  case countersClear => exact ⟨_, .inl fun _ => rfl, fun _ h => h.cmdCountersClear⟩
  case mailbox => exact ⟨_, .inl fun _ => rfl, fun _ h => h.cmdMailbox⟩
  case fence => exact ⟨_, .inl fun _ => rfl, fun _ h => h.cmdFence⟩
  case fenceRelease => exact ⟨_, .inl fun _ => rfl, fun _ h => h.fenceRelease⟩
  case fenceTimeout => exact ⟨_, .inl fun _ => rfl, fun _ h => h.fenceTimeout⟩
  case auxGpioTrigger => exact ⟨_, .inl fun _ => rfl, fun _ h => h.auxGpioTrigger⟩
  case auxTickTrigger => exact ⟨_, .inl fun _ => rfl, fun _ h => h.auxTickTrigger⟩
  case auxOutput => exact ⟨_, .inl fun _ => rfl, fun _ h => h.auxOutput⟩
  case auxDataRead => exact ⟨_, .inl fun _ => rfl, fun _ h => h.ioRead⟩
  case calAuxPassEnd => exact ⟨_, .inl fun _ => rfl, fun _ h => h.calAuxPass⟩
  case ppFrameStart => exact ⟨_, .inl fun _ => rfl, fun _ h => h.ppFrameStart⟩
  case ppFifoResume => exact ⟨_, .inl fun _ => rfl, fun _ h => h.ppFifoResume⟩
  case ppFrameEnd => exact ⟨_, .inl fun _ => rfl, fun _ h => h.ppFrameEnd⟩
  case ppPrdyTimeout => exact ⟨_, .inl fun _ => rfl, fun _ h => h.ppPrdyTimeout⟩
  case ppMarkTimeout => exact ⟨_, .inl fun _ => rfl, fun _ h => h.ppMarkTimeout⟩
  case ppDrainTimeout => exact ⟨_, .inl fun _ => rfl, fun _ h => h.ppDrainTimeout⟩
  case domainRampUpEnd => exact ⟨_, .inl fun _ => rfl, fun _ h => h.rampUpEnd⟩
  case domainDrainEnd => exact ⟨_, .inl fun _ => rfl, fun _ h => h.drainEnd⟩
  case domainRampDownEnd => exact ⟨_, .inl fun _ => rfl, fun _ h => h.rampDownEnd⟩
  case domainRestartEnd => exact ⟨_, .inl fun _ => rfl, fun _ h => h.restartEnd⟩
  case heathTick => exact ⟨_, .inl fun _ => rfl, fun _ h => h.heathTick⟩
  case heathHfoStart => exact ⟨_, .inl fun _ => rfl, fun _ h => h.hfoStart⟩
  case tempSample => exact ⟨_, .inl fun _ => rfl, fun _ h => h.tempSample⟩
  case faultWindowClose => exact ⟨_, .inl fun _ => rfl, fun _ h => h.faultWindowClose⟩
  case linkLock => exact ⟨_, .inl fun _ => rfl, fun _ h => h.cliIn (fun _ h2 => h2.linkLock)⟩
  case ringTick => exact ⟨_, .inl fun _ => rfl, fun _ h => h.cliIn (fun _ h2 => h2.ringTick)⟩
  case tickh => exact ⟨_, .inl fun _ => rfl, fun _ h => h.cliIn (fun _ h2 => h2.ringTickH)⟩
  case rcancel => exact ⟨_, .inl fun _ => rfl, fun _ h => h.cliIn (fun _ h2 => h2.ringRcancel)⟩
  case measure => exact ⟨_, .inl fun _ => rfl, fun _ h => h.cliIn (fun _ h2 => h2.clMeasure)⟩
  case ringDown => exact ⟨_, .inl fun _ => rfl, fun _ h => h.cliIn (fun _ h2 => h2.ringDown)⟩
  case enum => exact ⟨_, .inl fun _ => rfl, fun _ h => h.cliIn (fun _ h2 => h2.clEnum)⟩
  case config => exact ⟨_, .inl fun _ => rfl, fun _ h => h.cliIn (fun _ h2 => h2.clConfig)⟩
  case check => exact ⟨_, .inl fun _ => rfl, fun _ h => h.cliIn (fun _ h2 => h2.clCheck)⟩
  case checkr => exact ⟨_, .inl fun _ => rfl, fun _ h => h.cliIn (fun _ h2 => h2.clCheckr)⟩
  case stage => exact ⟨_, .inl fun _ => rfl, fun _ h => h.cliIn (fun _ h2 => h2.clStage)⟩
  case retry => exact ⟨_, .inl fun _ => rfl, fun _ h => h.cliIn (fun _ h2 => h2.clRetry)⟩
  case noise => exact ⟨_, .inl fun _ => rfl, fun _ h => h.cliIn (fun _ h2 => h2.clNoiseRx)⟩
  case corr => exact ⟨_, .inl fun _ => rfl, fun _ h => h.cliIn (fun _ h2 => h2.clCorrRx)⟩
  case delta => exact ⟨_, .inl fun _ => rfl, fun _ h => h.cliIn (fun _ h2 => h2.clDeltaRx)⟩
  case cald => exact ⟨_, .inl fun _ => rfl, fun _ h => h.cliIn (fun _ h2 => h2.clCald)⟩
  case calr => exact ⟨_, .inl fun _ => rfl, fun _ h => h.cliIn (fun _ h2 => h2.clCalr)⟩
  case ack => exact ⟨_, .inl fun _ => rfl, fun _ h => h.cliIn (fun _ h2 => h2.clAck)⟩
  case leave => exact ⟨_, .inl fun _ => rfl, fun _ h => h.cliIn (fun _ h2 => h2.clLeave)⟩
  case ackTimeout => exact ⟨_, .inl fun _ => rfl, fun _ h => h.ackTimeout⟩
  case enumEchoTimeout => exact ⟨_, .inl fun _ => rfl, fun _ h => h.enumEchoTimeout⟩
  case memberHoldover => exact ⟨_, .inl fun _ => rfl, fun _ h => h.memberHoldover⟩
  case deltaDeadline => exact ⟨_, .inl fun _ => rfl, fun _ h => h.deltaDeadline⟩
  case cliUnlock => exact ⟨_, .inl fun _ => rfl, fun _ h => h.cliUnlock⟩
  case hsyncEdge => exact ⟨_, .inl fun _ => rfl, fun _ h => h.hsyncEdge⟩
  case linkLoss => exact ⟨_, .inl fun _ => rfl, fun _ h => h.linkLoss⟩
  case seatNFallingEdge => exact ⟨_, .inr fun _ => rfl, fun _ h => h.seatFall⟩
  case ppPrdyReady => exact ⟨_, .inl fun _ => rfl, fun _ h => h.ppPrdyReady⟩
  case retryChoiceDeadline => exact ⟨_, .inl fun _ => rfl, fun _ h => h.retryChoice⟩
  case retryEchoDeadline => exact ⟨_, .inl fun _ => rfl, fun _ h => h.retryEcho⟩
  case stageDeadline => exact ⟨_, .inl fun _ => rfl, fun _ h => h.stageDeadline⟩

theorem exec_keeps_wf {i : Instr} {s t : State} (h : s.dev.Wf) (he : Sys2Proof.Machine.exec i s = .next t) : t.dev.Wf := by
  obtain ⟨f, hf, hk⟩ := exec_acts_wf i
  rcases hf with hf | hf <;> rw [hf] at he <;> cases he
  · exact Dev.Wf.ite h (hk _ h)
  · exact hk _ h

/-- Settles O6: a step is a command or the passing of a microsecond, and each keeps the canonical form. -/
theorem stepKeepsCanonicalForm : Obligations.StepKeepsCanonicalForm := by
  intro s t h hs
  have h : s.dev.Wf := h
  unfold step at hs
  split at hs
  · cases hs
    exact h.idle
  · rename_i c rest hp
    exact exec_keeps_wf (s := { s with pending := rest }) h hs

end Sys2Proof.Machine
end

section
/-!
Proofs for the loads and stores of the core, IN, OUT and TBL (chapter 11): which bytes an access to data space reads and
writes, where it faults, what a register read leaves; then the statements O14 to O17.
-/

namespace Sys2Proof.Machine
set_option Elab.async false

/-! ### Bytes of data space -/

theorem readBytes_eq_map (dflt : Nat → Byte) (m : List Host.Cell) (a n : Nat) :
    readBytes dflt m a n = (List.range n).map (fun i => sparseGet dflt m (a + i)) := by
  induction n generalizing a with
  | zero => rfl
  | succ n ih =>
    rw [readBytes, ih, List.range_succ_eq_map, List.map_cons, List.map_map]
    simp only [Nat.add_zero, Function.comp_def, Nat.succ_eq_add_one, Nat.add_assoc, Nat.add_comm 1]

/-- The `n` bytes of data space from `a` on. -/
def Dev.dataBytes (d : Dev) (a n : Nat) : List Byte := (List.range n).map (fun i => d.dataByte (a + i))

theorem Dev.dmem_dataBytes {d : Dev} {a n : Nat} (h : a + n ≤ 0x4000) :
    readBytes dmemDflt d.mem.dmem a n = d.dataBytes a n := by
  rw [readBytes_eq_map]
  refine List.map_congr_left fun i hi => ?_
  rw [List.mem_range] at hi
  exact (if_pos (by omega)).symm

theorem Dev.xram_dataBytes {d : Dev} {a : Nat} (h : 0x10000 ≤ a) (n : Nat) :
    readBytes xramDflt d.mem.xram (a - 0x10000) n = d.dataBytes a n := by
  rw [readBytes_eq_map]
  refine List.map_congr_left fun i _ => ?_
  unfold Dev.dataByte
  rw [if_neg (by omega), Nat.sub_add_comm h]

theorem Dev.dataBad_ok {d : Dev} {a n : Nat} (h : d.dmemOk a n ∨ d.xramOk a n) : d.dataBad a n = none :=
  h.elim Dev.dataBad_dmem Dev.dataBad_xram

/-- The stall and the free value of an access to exchange RAM. -/
theorem Dev.xramCost_data {d : Dev} {a : Nat} (h : ¬a < 0x4000) :
    d.xramCost (a - 0x10000) = (d.dataCycles a, d.dataFree a) := by
  unfold Dev.dataCycles Dev.dataFree
  rw [if_neg h, if_neg h]
  rfl

theorem Dev.dataFree_same (d : Dev) (a : Nat) : d.dataFree a = { d with freeCount := (d.dataFree a).freeCount } := by
  unfold Dev.dataFree
  split <;> rfl

theorem Dev.dataFree_eccFree {d : Dev} {a o n : Nat} (h : d.eccFree o n) : (d.dataFree a).eccFree o n := by
  rw [Dev.dataFree_same]
  exact h

/-- Where an access that is in order goes: to DMEM with all its bytes, or to exchange RAM. -/
theorem Dev.dataOk_cases {d : Dev} {a n : Nat} (hn : n = 1 ∨ n = 2 ∨ n = 4) (h : d.dmemOk a n ∨ d.xramOk a n) :
    a + n ≤ 0x4000 ∧ a < 0x4000 ∨ 0x10000 ≤ a ∧ ¬a < 0x4000 ∧ d.eccFree (a - 0x10000) n := by
  rcases h with h | ⟨_, h1, _, _, h2⟩
  · exact .inl ⟨Dev.dmemOk_end h hn, h.2⟩
  · exact .inr ⟨h1, by omega, h2⟩

/-! ### Loads (R328, R329) -/

/-- The body of a load that is in order: the value of its bytes goes to rd. -/
theorem Dev.seqLoad_ok {d : Dev} {rd rs : BitVec 4} {o : Op2} {n : Nat} (f : Nat → Word) (hn : n = 1 ∨ n = 2 ∨ n = 4)
    (h : d.dmemOk (d.dataAddr rs o) n ∨ d.xramOk (d.dataAddr rs o) n) :
    d.seqLoad rd rs o n f = ((d.dataFree (d.dataAddr rs o)).setG rd (f (leNat (d.dataBytes (d.dataAddr rs o) n))),
      d.dataCycles (d.dataAddr rs o), .next) := by
  have hb := Dev.dataBad_ok h
  have hc := Dev.dataOk_cases hn h
  rw [Dev.seqLoad, show (d.g rs + d.op2S o).toNat = d.dataAddr rs o from rfl]
  generalize d.dataAddr rs o = a at hb hc ⊢
  simp only [hb]
  rcases hc with ⟨h1, h2⟩ | ⟨h1, h2, h3⟩
  · rw [if_pos h2, Dev.dmem_dataBytes h1, Dev.dataFree, Dev.dataCycles, if_pos h2, if_pos h2]
  · have hx : (d.dataFree a).xle (a - 0x10000) n = leNat (d.dataBytes a n) := by
      rw [Dev.dataFree_same, ← Dev.xram_dataBytes h1]
      rfl
    simp only [if_neg h2, Dev.xramCost_data h2, Dev.eccTouch_free (Dev.dataFree_eccFree h3),
      Dev.poisonIn_free (Dev.dataFree_eccFree h3), List.isEmpty_nil, Bool.not_true, Bool.false_eq_true, if_false, hx]

/-- A load completes with the value of its bytes in rd. -/
theorem load_completes {i : Instr} {cond rd rs : BitVec 4} {o : Op2} {n : Nat} {w₀ : Word} {f : Nat → Word}
    {v : Dev → Word} (hw : coreWord i = some w₀)
    (he : ∀ s, Sys2Proof.Machine.exec i s = act s (fun d => d.seqInsn w₀ cond (fun d => d.seqLoad rd rs o n f)))
    (hn : n = 1 ∨ n = 2 ∨ n = 4) (hv : ∀ d, v d = f (leNat (d.dataBytes (d.dataAddr rs o) n))) :
    CompletesWhen i cond (fun d => d.dmemOk (d.dataAddr rs o) n ∨ d.xramOk (d.dataAddr rs o) n)
      (fun d => d.dataCycles (d.dataAddr rs o)) (fun d => (d.dataFree (d.dataAddr rs o)).setG rd (v d)) := by
  refine insn_completes hw he (fun d h => ?_) (fun d _ => ?_) (fun d _ => ?_) (fun d _ => ?_)
  · rw [Dev.seqLoad_ok f hn h, hv]
  · rw [Dev.setG_sq, Dev.dataFree_same]
    rfl
  · rw [Dev.setG_counting, Dev.dataFree_same]
    rfl
  · rw [Dev.dataFree_same]
    simp

/-! ### Stores (R328, R329, R331) -/

/-- The memories once `n` bytes of `v` have been written at the data address `a`. -/
def Dev.stored (d : Dev) (a n : Nat) (v : Word) : Mems :=
  if a < 0x4000 then { d.mem with dmem := writeBytes dmemDflt d.mem.dmem a (leBytes n v.toNat) }
  else { d.mem with xram := writeBytes xramDflt d.mem.xram (a - 0x10000) (leBytes n v.toNat) }

/-- Byte `x` of a value of `n` bytes written at `a`, and every other byte of that memory. -/
theorem sparseGet_writeBytes_word (dflt : Nat → Byte) (m : List Host.Cell) (a n : Nat) (v : Word) (x : Nat) :
    sparseGet dflt (writeBytes dflt m a (leBytes n v.toNat)) x =
      if a ≤ x ∧ x < a + n then v.extractLsb' (8 * (x - a)) 8 else sparseGet dflt m x := by
  simp only [sparseGet_writeBytes, leBytes_length, leBytes_getElem, byte_of_word]
  split <;> rfl

/-- A store writes the bytes of its value and leaves every other byte of data space. -/
theorem Dev.dataByte_stored {d : Dev} {a n : Nat} (h : a + n ≤ 0x4000 ∧ a < 0x4000 ∨ 0x10000 ≤ a) (v : Word) (x : Nat) :
    ({ d with mem := d.stored a n v } : Dev).dataByte x =
      if a ≤ x ∧ x < a + n then v.extractLsb' (8 * (x - a)) 8 else d.dataByte x := by
  unfold Dev.dataByte Dev.stored
  dsimp only
  rcases h with ⟨h1, h2⟩ | h1
  · simp only [if_pos h2, sparseGet_writeBytes_word]
    by_cases hx : x < 0x10000
    · simp only [if_pos hx]
    · simp only [if_neg hx, if_neg (show ¬(a ≤ x ∧ x < a + n) by omega)]
  · simp only [if_neg (show ¬a < 0x4000 by omega), sparseGet_writeBytes_word]
    by_cases hx : x < 0x10000
    · simp only [if_pos hx, if_neg (show ¬(a ≤ x ∧ x < a + n) by omega)]
    · have hr : a - 0x10000 ≤ x - 0x10000 ∧ x - 0x10000 < a - 0x10000 + n ↔ a ≤ x ∧ x < a + n := by omega
      simp only [if_neg hx, hr, show x - 0x10000 - (a - 0x10000) = x - a by omega]

/-- The body of a store that is in order. -/
theorem Dev.seqStore_ok {d : Dev} {rd rs : BitVec 4} {o : Op2} {n : Nat} (hn : n = 1 ∨ n = 2 ∨ n = 4)
    (h : d.dmemOk (d.dataAddr rs o) n ∨ d.xramOk (d.dataAddr rs o) n) :
    d.seqStore rd rs o n = ({ d.dataFree (d.dataAddr rs o) with mem := d.stored (d.dataAddr rs o) n (d.g rd) },
      d.dataCycles (d.dataAddr rs o), .next) := by
  have hb := Dev.dataBad_ok h
  have hc := Dev.dataOk_cases hn h
  rw [Dev.seqStore, show (d.g rs + d.op2S o).toNat = d.dataAddr rs o from rfl]
  generalize d.dataAddr rs o = a at hb hc ⊢
  simp only [hb]
  rcases hc with ⟨_, h2⟩ | ⟨_, h2, h3⟩
  · rw [if_pos h2, Dev.dataFree, Dev.dataCycles, Dev.stored, if_pos h2, if_pos h2, if_pos h2]
  · have hf := Dev.dataFree_eccFree (a := a) h3
    have hx : (d.dataFree a).xwrite (a - 0x10000) (leBytes n (d.g rd).toNat) =
        { d.dataFree a with mem := d.stored a n (d.g rd) } := by
      rw [Dev.xwrite_free (by simpa using hf), Dev.stored, if_neg h2, Dev.dataFree_same]
    simp only [if_neg h2, Dev.xramCost_data h2, Dev.eccTouch_free hf, Dev.poisonIn_free hf, List.isEmpty_nil, Bool.not_true,
      Bool.false_eq_true, if_false, hx]

/-- A store completes with the bytes of rd written. -/
theorem store_completes {i : Instr} {cond rd rs : BitVec 4} {o : Op2} {n : Nat} {w₀ : Word} (hw : coreWord i = some w₀)
    (he : ∀ s, Sys2Proof.Machine.exec i s = act s (fun d => d.seqInsn w₀ cond (fun d => d.seqStore rd rs o n)))
    (hn : n = 1 ∨ n = 2 ∨ n = 4) :
    CompletesWhen i cond (fun d => d.dmemOk (d.dataAddr rs o) n ∨ d.xramOk (d.dataAddr rs o) n)
      (fun d => d.dataCycles (d.dataAddr rs o))
      (fun d => { d.dataFree (d.dataAddr rs o) with mem := d.stored (d.dataAddr rs o) n (d.g rd) }) := by
  refine insn_completes hw he (fun d h => Dev.seqStore_ok hn h) (fun d _ => ?_) (fun d _ => ?_) (fun d _ => ?_)
  all_goals rw [Dev.dataFree_same]
  · rfl
  · rfl
  · exact ⟨rfl, rfl, rfl⟩

/-- The store instruction of `n` bytes. -/
theorem store_of_width {cond rd rs : BitVec 4} {o : Op2} {n : Nat} {i : Instr}
    (h : (n = 4 ∧ i = .insSt cond rd rs o) ∨ (n = 2 ∧ i = .insSth cond rd rs o) ∨ (n = 1 ∧ i = .insStb cond rd rs o)) :
    CompletesWhen i cond (fun d => d.dmemOk (d.dataAddr rs o) n ∨ d.xramOk (d.dataAddr rs o) n)
      (fun d => d.dataCycles (d.dataAddr rs o))
      (fun d => { d.dataFree (d.dataAddr rs o) with mem := d.stored (d.dataAddr rs o) n (d.g rd) }) := by
  obtain ⟨rfl, rfl⟩ | ⟨rfl, rfl⟩ | ⟨rfl, rfl⟩ := h
  all_goals exact store_completes rfl (fun _ => rfl) (by decide)

/-! ### Accesses that fault (R290, R329, R332) -/

theorem Dev.dataBad_odd {d : Dev} {a n : Nat} (h : a % n ≠ 0) : d.dataBad a n = some 0x02 := if_pos h

theorem Dev.dataBad_far {d : Dev} {a n : Nat} (h : a % n = 0 ∧ 0x4000 ≤ a ∧ ¬(0x10000 ≤ a ∧ a < 0x20000)) :
    d.dataBad a n = some 0x03 := by
  obtain ⟨h1, h2, h3⟩ := h
  unfold Dev.dataBad
  rw [if_neg (not_not.2 h1), if_neg (by omega), if_neg h3]

/-- A body that faults with what `bad` says of its address faults with ALIGN and BADADDR where `bad` does. -/
theorem access_faults {i : Instr} {cond rs : BitVec 4} {o : Op2} {n : Nat} {w₀ : Word} {body : Dev → Dev × Nat × SeqEnd}
    (hw : coreWord i = some w₀) (he : ∀ s, Sys2Proof.Machine.exec i s = act s (fun d => d.seqInsn w₀ cond body))
    (hb : ∀ d c, d.dataBad (d.dataAddr rs o) n = some c → body d = (d, 1, .fault c (some (d.dataAddr rs o)))) :
    FaultsWith i cond (fun d => d.dataAddr rs o % n ≠ 0) 1 0x02 (fun d => some (d.dataAddr rs o)) ∧
      FaultsWith i cond (fun d => d.dataAddr rs o % n = 0 ∧ 0x4000 ≤ d.dataAddr rs o ∧
        ¬(0x10000 ≤ d.dataAddr rs o ∧ d.dataAddr rs o < 0x20000)) 1 0x03 (fun d => some (d.dataAddr rs o)) :=
  ⟨insn_faults hw he fun d h => hb d _ (Dev.dataBad_odd h), insn_faults hw he fun d h => hb d _ (Dev.dataBad_far h)⟩

theorem Dev.seqLoad_bad {d : Dev} {rd rs : BitVec 4} {o : Op2} {n c : Nat} {f : Nat → Word}
    (h : d.dataBad (d.dataAddr rs o) n = some c) :
    d.seqLoad rd rs o n f = (d, 1, .fault c (some (d.dataAddr rs o))) := by
  unfold Dev.dataAddr at h ⊢
  simp only [Dev.seqLoad, h]

theorem Dev.seqStore_bad {d : Dev} {rd rs : BitVec 4} {o : Op2} {n c : Nat}
    (h : d.dataBad (d.dataAddr rs o) n = some c) :
    d.seqStore rd rs o n = (d, 1, .fault c (some (d.dataAddr rs o))) := by
  unfold Dev.dataAddr at h ⊢
  simp only [Dev.seqStore, h]

theorem ioBad_odd {a : Nat} (h : a % 4 ≠ 0) : ioBad a = some 0x02 := if_pos h

theorem ioBad_far {a : Nat} (h : a % 4 = 0 ∧ 0xFFFF < a) : ioBad a = some 0x03 := by
  unfold ioBad
  rw [if_neg (not_not.2 h.1), if_pos h.2]

theorem ioBad_ok {a : Nat} (h : a % 4 = 0 ∧ a ≤ 0xFFFF) : ioBad a = none := by
  unfold ioBad
  rw [if_neg (not_not.2 h.1), if_neg (by omega)]

/-- The same for IN and OUT. -/
theorem io_faults {i : Instr} {cond rs : BitVec 4} {o : Op2} {w₀ : Word} {body : Dev → Dev × Nat × SeqEnd}
    (hw : coreWord i = some w₀) (he : ∀ s, Sys2Proof.Machine.exec i s = act s (fun d => d.seqInsn w₀ cond body))
    (hb : ∀ d c, ioBad (d.dataAddr rs o) = some c → body d = (d, 2, .fault c (some (d.dataAddr rs o)))) :
    FaultsWith i cond (fun d => d.dataAddr rs o % 4 ≠ 0) 2 0x02 (fun d => some (d.dataAddr rs o)) ∧
      FaultsWith i cond (fun d => d.dataAddr rs o % 4 = 0 ∧ 0xFFFF < d.dataAddr rs o) 2 0x03
        (fun d => some (d.dataAddr rs o)) :=
  ⟨insn_faults hw he fun d h => hb d _ (ioBad_odd h), insn_faults hw he fun d h => hb d _ (ioBad_far h)⟩

theorem Dev.seqIn_bad {d : Dev} {rd rs : BitVec 4} {o : Op2} {c : Nat} (h : ioBad (d.dataAddr rs o) = some c) :
    d.seqIn rd rs o = (d, 2, .fault c (some (d.dataAddr rs o))) := by
  unfold Dev.dataAddr at h ⊢
  simp only [Dev.seqIn, h]

theorem Dev.seqOut_bad {d : Dev} {rd rs : BitVec 4} {o : Op2} {c : Nat} (h : ioBad (d.dataAddr rs o) = some c) :
    d.seqOut rd rs o = (d, 2, .fault c (some (d.dataAddr rs o))) := by
  unfold Dev.dataAddr at h ⊢
  simp only [Dev.seqOut, h]

/-! ### IN, OUT and TBL (R332, R334) -/

/-- The device `t` is `d` but for what the converters hold. -/
def Dev.sameButAux (d t : Dev) : Prop := t = { d with aux := t.aux }

theorem Dev.sameButAux_ite {d : Dev} {c : Prop} [Decidable c] {x y : Word × Dev} (hx : d.sameButAux x.2)
    (hy : d.sameButAux y.2) : d.sameButAux (if c then x else y).2 := by
  split
  · exact hx
  · exact hy

/-- A register read changes at most what the converters hold latched. -/
theorem Dev.ioRead_same (d : Dev) (host : Bool) (a : Nat) :
    (d.ioRead host a).2 = { d with aux := (d.ioRead host a).2.aux } := by
  change d.sameButAux (d.ioRead host a).2
  have hd : d.sameButAux d := rfl
  unfold Dev.ioRead
  iterate 8 refine Dev.sameButAux_ite hd ?_
  exact Dev.sameButAux_ite rfl (Dev.sameButAux_ite rfl (Dev.sameButAux_ite rfl hd))

theorem Dev.seqIn_ok {d : Dev} {rs : BitVec 4} {o : Op2} (rd : BitVec 4)
    (h : d.dataAddr rs o % 4 = 0 ∧ d.dataAddr rs o ≤ 0xFFFF) :
    d.seqIn rd rs o = ((d.ioRead false (d.dataAddr rs o)).2.setG rd (d.ioRead false (d.dataAddr rs o)).1, 2, .next) := by
  have hb := ioBad_ok h
  unfold Dev.dataAddr at hb ⊢
  simp only [Dev.seqIn, hb]

theorem Dev.seqOut_ok {d : Dev} {rs : BitVec 4} {o : Op2} (rd : BitVec 4)
    (h : d.dataAddr rs o % 4 = 0 ∧ d.dataAddr rs o ≤ 0xFFFF) :
    d.seqOut rd rs o = (({ d with seq := { d.seq with pc := d.seq.pc + 1 } } : Dev).ioWrite false (d.dataAddr rs o)
      (d.g rd).toNat, 2, .next) := by
  have hb := ioBad_ok h
  unfold Dev.dataAddr at hb ⊢
  simp only [Dev.seqOut, hb]

theorem Dev.seqTbl_ok {d : Dev} {rs : BitVec 4} {o : Op2} (rd : BitVec 4) (h : d.dataAddr rs o < d.nwords) :
    d.seqTbl rd rs o = (d.setG rd (d.codeWord d.activeBank (d.dataAddr rs o)), 2, .next) := by
  unfold Dev.dataAddr at h ⊢
  simp only [Dev.seqTbl, Dev.fetch, if_pos h]

theorem Dev.seqTbl_beyond {d : Dev} {rs : BitVec 4} {o : Op2} (rd : BitVec 4) (h : d.nwords ≤ d.dataAddr rs o) :
    d.seqTbl rd rs o = (d, 2, .fault 0x09 (some (d.dataAddr rs o))) := by
  unfold Dev.dataAddr at h ⊢
  simp only [Dev.seqTbl, Dev.fetch, if_neg (Nat.not_lt.2 h)]

theorem Dev.seqCount_regs (d : Dev) (n : Nat) : (d.seqCount n).regs = d.regs := by
  unfold Dev.seqCount
  split <;> rfl

/-! ### The obligations -/

/-- Settles O14: each load by `load_completes`, with its bytes put together least significant first. -/
theorem loadsReadDataSpace : Obligations.LoadsReadDataSpace := by
  intro cond rd rs o
  refine ⟨?ld, ?ldh, ?ldhs, ?ldb, ?ldbs⟩
  case ld => exact load_completes rfl (fun _ => rfl) (by decide) (fun d => (word_leNat_four ..).symm)
  case ldh => exact load_completes rfl (fun _ => rfl) (by decide) (fun d => (word_leNat_two ..).symm)
  case ldhs =>
    exact load_completes rfl (fun _ => rfl) (by decide) (fun d => congrArg (BitVec.signExtend 32) (ofNat_leNat_two ..).symm)
  case ldb => exact load_completes rfl (fun _ => rfl) (by decide) (fun d => (word_leNat_one _).symm)
  case ldbs =>
    exact load_completes rfl (fun _ => rfl) (by decide) (fun d => congrArg (BitVec.signExtend 32) (byte_leNat_one _).symm)

/-- Settles O15: the store completes by `store_of_width`; its bytes by `Dev.dataByte_stored`. -/
theorem storesWriteTheirBytesAlone : Obligations.StoresWriteTheirBytesAlone := by
  intro cond rd rs o n i hi s w hw ha hn d a hok hr
  have hw' : n = 1 ∨ n = 2 ∨ n = 4 := by omega
  refine ⟨d.stored a n (d.g rd), fun x => Dev.dataByte_stored ?_ _ x, fun h => ?_, fun h => ?_,
    store_of_width hi s w hw ha hok hr hn⟩
  · exact (Dev.dataOk_cases hw' hok).imp id And.left
  · rw [Dev.stored, if_pos h]
  · rw [Dev.stored, if_neg (Nat.not_lt.2 h)]

/-- Settles O16: every access looks at its address first. -/
theorem badAddressesFault : Obligations.BadAddressesFault := by
  intro cond rd rs o
  refine ⟨fun i n hi => ?_, fun i hi => ?_⟩
  · simp only [List.mem_cons, Prod.mk.injEq, List.not_mem_nil, or_false] at hi
    obtain ⟨rfl, rfl⟩ | ⟨rfl, rfl⟩ | ⟨rfl, rfl⟩ | ⟨rfl, rfl⟩ | ⟨rfl, rfl⟩ | ⟨rfl, rfl⟩ | ⟨rfl, rfl⟩ | ⟨rfl, rfl⟩ := hi
    iterate 5 exact access_faults rfl (fun _ => rfl) (fun _ _ h => Dev.seqLoad_bad h)
    all_goals exact access_faults rfl (fun _ => rfl) (fun _ _ h => Dev.seqStore_bad h)
  · simp only [List.mem_cons, List.not_mem_nil, or_false] at hi
    obtain rfl | rfl := hi
    · exact io_faults rfl (fun _ => rfl) (fun _ _ h => Dev.seqIn_bad h)
    · exact io_faults rfl (fun _ => rfl) (fun _ _ h => Dev.seqOut_bad h)

/-- Settles O17: a register read leaves the core as it is (`Dev.ioRead_same`); counting cycles leaves the registers. -/
theorem inOutAndTables : Obligations.InOutAndTables := by
  intro cond rd rs o
  refine ⟨?input, fun s w hw ha h1 h2 => ?output, ?table, ?beyond⟩
  case input =>
    refine insn_completes rfl (fun _ => rfl) (fun d h => Dev.seqIn_ok rd h) (fun d _ => ?_) (fun d _ => ?_) (fun d _ => ?_)
    · rw [Dev.setG_sq, Dev.ioRead_same]
      rfl
    · rw [Dev.setG_counting, Dev.ioRead_same]
      rfl
    · rw [Dev.ioRead_same]
      simp
  case output =>
    cases hw
    refine (act_live ha.1 (fun d => d.seqInsn _ cond (fun d => d.seqOut rd rs o))).trans ?_
    rw [Dev.seqInsn_body ha (Dev.seqOut_ok rd ⟨h1, h2⟩)]
    have hq : ∀ e : Dev, (e.seqCount 2).sq = e.sq := fun e => congrArg (rget · R.SEQ_STATUS_STATE) (e.seqCount_regs 2)
    simp only [hq]
  case table =>
    exact insn_completes rfl (fun _ => rfl) (fun d h => Dev.seqTbl_ok rd h) (fun d _ => d.setG_sq ..)
      (fun d _ => d.setG_counting ..) (fun d _ => by simp)
  case beyond => exact insn_faults rfl (fun _ => rfl) (fun _ h => Dev.seqTbl_beyond rd h)

end Sys2Proof.Machine
end

section
/-!
Refutation for the end of a handler (chapter 10): the statement O20 and the device that it fails on.
-/

namespace Sys2Proof.Machine
set_option Elab.async false

/-! ### HALT in a register list out of order (O20) -/

/-- A device in RUNNING about to execute HALT, with a result of calibration waiting for a tick, and a lasting FS0E that
ends RUNNING still to be acted on. Its register list, which names SEQ_EVPEND before SYS_STATUS, is not in canonical form. -/
def Dev.haltAmiss : Dev :=
  let r := (((Dev.reset.setDom 0 2).put R.SEQ_STATUS_STATE sqBusy).setSt stRunning).put (R.FLT_CFG_ACTION 13) 1
  { Dev.reset with
    regs := (R.SEQ_EVPEND, 1) :: r.regs
    sys := { Dev.reset.sys with inReset := false }
    mem := { Mems.reset with imemA := [(0, 0), (1, 0), (2, 0xC0), (3, 0x0E)] }
    seq := { Seq.reset with active := some ⟨[0, 0, 0, 0, 0, 0, 0, 0, 1] ++ List.replicate 80 0, [], [], 0⟩ }
    cal := { Cal.reset with wait := [(0, true, calValsNone)] }
    flt := { Flt.reset with due := [(0x0E, 0, 0)] } }

theorem Dev.haltAmiss_about : Dev.haltAmiss.about (encBranch 0 0x3B 0) 0 := by
  unfold Dev.about
  decide +kernel

theorem Dev.haltAmiss_roomFor : Dev.haltAmiss.roomFor 1 := fun _ => .inl rfl

/-! ### The obligations -/

/-- Refutes O20, by its clause about HALT, which holds of the contents of registers but not of register lists that are out of
canonical form: the event of the calibration result moves SEQ_EVPEND behind SYS_STATUS, and the write of ENTRY that ends the
instruction then moves SEQ_STATUS, with the value that it has. -/
theorem not_handlerEndsAndStops : ¬ Obligations.HandlerEndsAndStops := by
  intro h
  obtain ⟨-, -, -, -, hhalt, -, -⟩ := h 0 ⟨[], Dev.haltAmiss⟩ _ Dev.haltAmiss_about Dev.haltAmiss_roomFor
  have he := hhalt rfl
  rw [show Sys2Proof.Machine.exec (.insHalt 0) ⟨[], Dev.haltAmiss⟩ = act ⟨[], Dev.haltAmiss⟩ (fun d =>
    d.seqInsn (encBranch 0 0x3B 0) 0 (fun d => ((d.seqCount 1).seqHalt 0x10, 0, .stop))) from rfl, act_live rfl] at he
  have hr := congrArg (fun o => match o with | .next t => t.dev.regs | _ => []) he
  revert hr
  decide +kernel

end Sys2Proof.Machine
end

section
/-!
What a part of the model leaves alone: the components of the device and the registers that a function may write, so that
every other component and register is known to be as before.
-/

namespace Sys2Proof.Machine
set_option Elab.async false

/-- Components of the device, and registers: by their addresses, and families of registers by their first address and
their distance. -/
structure Dev.Scope where
  clock : Bool := false
  freeCount : Bool := false
  staged : Bool := false
  mem : Bool := false
  sys : Bool := false
  tick : Bool := false
  acq : Bool := false
  hop : Bool := false
  img : Bool := false
  ct : Bool := false
  opt : Bool := false
  aux : Bool := false
  cal : Bool := false
  seq : Bool := false
  panel : Bool := false
  hp : Bool := false
  ring : Bool := false
  cl : Bool := false
  pp : Bool := false
  pwr : Bool := false
  flt : Bool := false
  regs : List Nat := []
  fams : List (Nat × Nat) := []

namespace Dev.Scope

/-- The register at `a` is in scope. -/
def has (w : Dev.Scope) (a : Nat) : Bool :=
  w.regs.contains a || w.fams.any (fun f => decide (f.1 ≤ a) && decide (f.2 ∣ a - f.1))

/-- All of `v` is in the scope `w`. -/
def le (v w : Dev.Scope) : Bool :=
  (!v.clock || w.clock) && (!v.freeCount || w.freeCount) && (!v.staged || w.staged) && (!v.mem || w.mem) && (!v.sys || w.sys) &&
  (!v.tick || w.tick) && (!v.acq || w.acq) && (!v.hop || w.hop) && (!v.img || w.img) && (!v.ct || w.ct) &&
  (!v.opt || w.opt) && (!v.aux || w.aux) && (!v.cal || w.cal) && (!v.seq || w.seq) && (!v.panel || w.panel) &&
  (!v.hp || w.hp) && (!v.ring || w.ring) && (!v.cl || w.cl) && (!v.pp || w.pp) && (!v.pwr || w.pwr) &&
  (!v.flt || w.flt) &&
  v.regs.all w.has &&
  v.fams.all (fun f => w.fams.any (fun g => decide (g.1 ≤ f.1) && decide (g.2 ∣ f.1 - g.1) && decide (g.2 ∣ f.2)))

theorem has_of_le {v w : Dev.Scope} (h : v.le w = true) {a : Nat} (hv : v.has a = true) : w.has a = true := by
  simp only [le, Bool.and_eq_true, List.all_eq_true] at h
  obtain ⟨⟨-, hs⟩, hf⟩ := h
  rw [has, Bool.or_eq_true, List.contains_iff_mem, List.any_eq_true] at hv
  rcases hv with hv | ⟨f, hf1, hf2⟩
  · exact hs a hv
  · have hg := hf f hf1
    simp only [has, Bool.or_eq_true, List.any_eq_true, Bool.and_eq_true, decide_eq_true_eq] at hg hf2 ⊢
    obtain ⟨g, hg1, ⟨hg2, hg3⟩, hg4⟩ := hg
    refine .inr ⟨g, hg1, by omega, ?_⟩
    rw [show a - g.1 = (a - f.1) + (f.1 - g.1) by omega]
    exact Nat.dvd_add (hg4.trans hf2.2) hg3

theorem has_fam {w : Dev.Scope} (b s i : Nat) (h : (b, s) ∈ w.fams := by decide) : w.has (b + s * i) = true := by
  rw [has, Bool.or_eq_true, List.any_eq_true]
  exact .inr ⟨(b, s), h, by simp⟩

theorem or_trans {a b c : Bool} (h : (!a || b) = true) (h' : (!b || c) = true) : (!a || c) = true := by
  revert h h'
  revert a b c
  decide

theorem le_trans {u v w : Dev.Scope} (h : u.le v = true) (h' : v.le w = true) : u.le w = true := by
  have hr := h'
  simp only [le, Bool.and_eq_true, and_assoc] at h h' ⊢
  obtain ⟨u0, u1, u2, u3, u4, u5, u6, u7, u8, u9, u10, u11, u12, u13, u14, u15, u16, u17, u18, u19, u20, ur, uf⟩ := h
  obtain ⟨v0, v1, v2, v3, v4, v5, v6, v7, v8, v9, v10, v11, v12, v13, v14, v15, v16, v17, v18, v19, v20, -, vf⟩ := h'
  refine ⟨or_trans u0 v0, or_trans u1 v1, or_trans u2 v2, or_trans u3 v3, or_trans u4 v4, or_trans u5 v5, or_trans u6 v6, or_trans u7 v7, or_trans u8 v8, or_trans u9 v9, or_trans u10 v10, or_trans u11 v11, or_trans u12 v12, or_trans u13 v13, or_trans u14 v14, or_trans u15 v15, or_trans u16 v16, or_trans u17 v17, or_trans u18 v18, or_trans u19 v19, or_trans u20 v20, ?_, ?_⟩
  · rw [List.all_eq_true] at ur ⊢
    exact fun a ha => has_of_le hr (ur a ha)
  · simp only [List.all_eq_true, List.any_eq_true, Bool.and_eq_true, decide_eq_true_eq] at uf vf ⊢
    intro f hf
    obtain ⟨g, hg, ⟨hg1, hg2⟩, hg3⟩ := uf f hf
    obtain ⟨k, hk, ⟨hk1, hk2⟩, hk3⟩ := vf g hg
    refine ⟨k, hk, ⟨by omega, ?_⟩, hk3.trans hg3⟩
    rw [show f.1 - k.1 = (f.1 - g.1) + (g.1 - k.1) by omega]
    exact Nat.dvd_add (hk3.trans hg2) hk2

end Dev.Scope

/-- The device `t` is `d` but for what is in scope. -/
structure Dev.Keeps (w : Dev.Scope) (d t : Dev) : Prop where
  clock : w.clock = false → t.clock = d.clock
  freeCount : w.freeCount = false → t.freeCount = d.freeCount
  staged : w.staged = false → t.staged = d.staged
  mem : w.mem = false → t.mem = d.mem
  sys : w.sys = false → t.sys = d.sys
  tick : w.tick = false → t.tick = d.tick
  acq : w.acq = false → t.acq = d.acq
  hop : w.hop = false → t.hop = d.hop
  img : w.img = false → t.img = d.img
  ct : w.ct = false → t.ct = d.ct
  opt : w.opt = false → t.opt = d.opt
  aux : w.aux = false → t.aux = d.aux
  cal : w.cal = false → t.cal = d.cal
  seq : w.seq = false → t.seq = d.seq
  panel : w.panel = false → t.panel = d.panel
  hp : w.hp = false → t.hp = d.hp
  ring : w.ring = false → t.ring = d.ring
  cl : w.cl = false → t.cl = d.cl
  pp : w.pp = false → t.pp = d.pp
  pwr : w.pwr = false → t.pwr = d.pwr
  flt : w.flt = false → t.flt = d.flt
  reg : ∀ a, w.has a = false → t.reg a = d.reg a

namespace Dev.Keeps
variable {v w : Dev.Scope} {d e t : Dev}

theorem refl : Dev.Keeps w d d := by
  constructor
  all_goals
    intros
    rfl

/-- What keeps to the scope `v` keeps to a larger one. -/
theorem step (h : Dev.Keeps w d e) (hw : v.le w = true) (ht : Dev.Keeps v e t) : Dev.Keeps w d t := by
  have hc := hw
  simp only [Dev.Scope.le, Bool.and_eq_true, Bool.or_eq_true, Bool.not_eq_true', and_assoc] at hc
  obtain ⟨h0, h1, h2, h3, h4, h5, h6, h7, h8, h9, h10, h11, h12, h13, h14, h15, h16, h17, h18, h19, h20, -, -⟩ := hc
  constructor
  · exact fun x => (ht.clock (h0.resolve_right (by simp [x]))).trans (h.clock x)
  · exact fun x => (ht.freeCount (h1.resolve_right (by simp [x]))).trans (h.freeCount x)
  · exact fun x => (ht.staged (h2.resolve_right (by simp [x]))).trans (h.staged x)
  · exact fun x => (ht.mem (h3.resolve_right (by simp [x]))).trans (h.mem x)
  · exact fun x => (ht.sys (h4.resolve_right (by simp [x]))).trans (h.sys x)
  · exact fun x => (ht.tick (h5.resolve_right (by simp [x]))).trans (h.tick x)
  · exact fun x => (ht.acq (h6.resolve_right (by simp [x]))).trans (h.acq x)
  · exact fun x => (ht.hop (h7.resolve_right (by simp [x]))).trans (h.hop x)
  · exact fun x => (ht.img (h8.resolve_right (by simp [x]))).trans (h.img x)
  · exact fun x => (ht.ct (h9.resolve_right (by simp [x]))).trans (h.ct x)
  · exact fun x => (ht.opt (h10.resolve_right (by simp [x]))).trans (h.opt x)
  · exact fun x => (ht.aux (h11.resolve_right (by simp [x]))).trans (h.aux x)
  · exact fun x => (ht.cal (h12.resolve_right (by simp [x]))).trans (h.cal x)
  · exact fun x => (ht.seq (h13.resolve_right (by simp [x]))).trans (h.seq x)
  · exact fun x => (ht.panel (h14.resolve_right (by simp [x]))).trans (h.panel x)
  · exact fun x => (ht.hp (h15.resolve_right (by simp [x]))).trans (h.hp x)
  · exact fun x => (ht.ring (h16.resolve_right (by simp [x]))).trans (h.ring x)
  · exact fun x => (ht.cl (h17.resolve_right (by simp [x]))).trans (h.cl x)
  · exact fun x => (ht.pp (h18.resolve_right (by simp [x]))).trans (h.pp x)
  · exact fun x => (ht.pwr (h19.resolve_right (by simp [x]))).trans (h.pwr x)
  · exact fun x => (ht.flt (h20.resolve_right (by simp [x]))).trans (h.flt x)
  · exact fun a ha => (ht.reg a (Bool.eq_false_iff.2 fun x => Bool.eq_false_iff.1 ha (Dev.Scope.has_of_le hw x))).trans (h.reg a ha)

theorem ite {c : Prop} [Decidable c] (h : Dev.Keeps w d e) (h' : Dev.Keeps w d t) : Dev.Keeps w d (if c then e else t) := by
  split
  · exact h
  · exact h'

theorem ite_fst {α : Type} {c : Prop} [Decidable c] {p q : Dev × α} (h : Dev.Keeps w d p.1) (h' : Dev.Keeps w d q.1) :
    Dev.Keeps w d (if c then p else q).1 := by
  split
  · exact h
  · exact h'

theorem ite_snd {α : Type} {c : Prop} [Decidable c] {p q : α × Dev} (h : Dev.Keeps w d p.2) (h' : Dev.Keeps w d q.2) :
    Dev.Keeps w d (if c then p else q).2 := by
  split
  · exact h
  · exact h'

theorem foldl {α : Type} {f : Dev → α → Dev} {l : List α} (hf : ∀ x a, Dev.Keeps w d x → Dev.Keeps w d (f x a))
    (h : Dev.Keeps w d e) : Dev.Keeps w d (l.foldl f e) := by
  induction l generalizing e with
  | nil => exact h
  | cons a l ih => exact ih (hf e a h)

theorem foldl_fst {α β : Type} {f : Dev × β → α → Dev × β} {l : List α} {p : Dev × β}
    (hf : ∀ p x, Dev.Keeps w d p.1 → Dev.Keeps w d (f p x).1) (h : Dev.Keeps w d p.1) : Dev.Keeps w d (l.foldl f p).1 := by
  induction l generalizing p with
  | nil => exact h
  | cons x l ih => exact ih (hf p x h)

theorem of_fst {α : Type} {p : Dev × α} {a : α} (h : p = (e, a)) (hp : Dev.Keeps w d p.1) : Dev.Keeps w d e := by
  rw [h] at hp
  exact hp

theorem of_snd {α : Type} {p : α × Dev} {a : α} (h : p = (a, e)) (hp : Dev.Keeps w d p.2) : Dev.Keeps w d e := by
  rw [h] at hp
  exact hp

/-- A record update of components that are in scope. -/
theorem upd (h : Dev.Keeps w d e)
    (clock : w.clock = false → t.clock = e.clock := by intro _; rfl)
    (freeCount : w.freeCount = false → t.freeCount = e.freeCount := by intro _; rfl)
    (staged : w.staged = false → t.staged = e.staged := by intro _; rfl)
    (mem : w.mem = false → t.mem = e.mem := by intro _; rfl)
    (sys : w.sys = false → t.sys = e.sys := by intro _; rfl)
    (tick : w.tick = false → t.tick = e.tick := by intro _; rfl)
    (acq : w.acq = false → t.acq = e.acq := by intro _; rfl)
    (hop : w.hop = false → t.hop = e.hop := by intro _; rfl)
    (img : w.img = false → t.img = e.img := by intro _; rfl)
    (ct : w.ct = false → t.ct = e.ct := by intro _; rfl)
    (opt : w.opt = false → t.opt = e.opt := by intro _; rfl)
    (aux : w.aux = false → t.aux = e.aux := by intro _; rfl)
    (cal : w.cal = false → t.cal = e.cal := by intro _; rfl)
    (seq : w.seq = false → t.seq = e.seq := by intro _; rfl)
    (panel : w.panel = false → t.panel = e.panel := by intro _; rfl)
    (hp : w.hp = false → t.hp = e.hp := by intro _; rfl)
    (ring : w.ring = false → t.ring = e.ring := by intro _; rfl)
    (cl : w.cl = false → t.cl = e.cl := by intro _; rfl)
    (pp : w.pp = false → t.pp = e.pp := by intro _; rfl)
    (pwr : w.pwr = false → t.pwr = e.pwr := by intro _; rfl)
    (flt : w.flt = false → t.flt = e.flt := by intro _; rfl)
    (regs : t.regs = e.regs := by rfl) : Dev.Keeps w d t := by
  constructor
  · exact fun x => (clock x).trans (h.clock x)
  · exact fun x => (freeCount x).trans (h.freeCount x)
  · exact fun x => (staged x).trans (h.staged x)
  · exact fun x => (mem x).trans (h.mem x)
  · exact fun x => (sys x).trans (h.sys x)
  · exact fun x => (tick x).trans (h.tick x)
  · exact fun x => (acq x).trans (h.acq x)
  · exact fun x => (hop x).trans (h.hop x)
  · exact fun x => (img x).trans (h.img x)
  · exact fun x => (ct x).trans (h.ct x)
  · exact fun x => (opt x).trans (h.opt x)
  · exact fun x => (aux x).trans (h.aux x)
  · exact fun x => (cal x).trans (h.cal x)
  · exact fun x => (seq x).trans (h.seq x)
  · exact fun x => (panel x).trans (h.panel x)
  · exact fun x => (hp x).trans (h.hp x)
  · exact fun x => (ring x).trans (h.ring x)
  · exact fun x => (cl x).trans (h.cl x)
  · exact fun x => (pp x).trans (h.pp x)
  · exact fun x => (pwr x).trans (h.pwr x)
  · exact fun x => (flt x).trans (h.flt x)
  · intro a ha
    exact (congrArg (fun r => sparseGet regReset r a) regs).trans (h.reg a ha)

theorem setReg {a : Nat} {x : Word} (h : Dev.Keeps w d e) (ha : w.has a = true := by decide) :
    Dev.Keeps w d (e.setReg a x) := by
  constructor
  · exact h.clock
  · exact h.freeCount
  · exact h.staged
  · exact h.mem
  · exact h.sys
  · exact h.tick
  · exact h.acq
  · exact h.hop
  · exact h.img
  · exact h.ct
  · exact h.opt
  · exact h.aux
  · exact h.cal
  · exact h.seq
  · exact h.panel
  · exact h.hp
  · exact h.ring
  · exact h.cl
  · exact h.pp
  · exact h.pwr
  · exact h.flt
  · intro b hb
    rw [Dev.reg_setReg_ne _ _ _ _ (fun hab => by rw [hab, ha] at hb; cases hb)]
    exact h.reg b hb

theorem put {f : Field} {n : Nat} (h : Dev.Keeps w d e) (ha : w.has f.addr = true := by decide) :
    Dev.Keeps w d (e.put f n) := h.setReg ha

theorem putB {f : Field} {b : Bool} (h : Dev.Keeps w d e) (ha : w.has f.addr = true := by decide) :
    Dev.Keeps w d (e.putB f b) := h.put ha

theorem satAdd {f : Field} {n : Nat} (h : Dev.Keeps w d e) (ha : w.has f.addr = true := by decide) :
    Dev.Keeps w d (e.satAdd f n) := h.put ha

theorem inc {f : Field} (h : Dev.Keeps w d e) (ha : w.has f.addr = true := by decide) : Dev.Keeps w d (e.inc f) := h.put ha

theorem incWrap {f : Field} (h : Dev.Keeps w d e) (ha : w.has f.addr = true := by decide) : Dev.Keeps w d (e.incWrap f) :=
  h.put ha

theorem putBit {a b k : Nat} {x : Bool} (h : Dev.Keeps w d e) (ha : w.has a = true := by decide)
    (hb : w.has b = true := by decide) : Dev.Keeps w d (e.putBit a b k x) := by
  unfold Dev.putBit
  refine h.setReg ?_
  split
  · exact ha
  · exact hb

theorem stage {a : Nat} {x : Word} (h : Dev.Keeps w d e) (hs : w.staged = true) (ha : w.has a = true := by decide) :
    Dev.Keeps w d (e.stage a x) := by
  unfold Dev.stage
  exact ite (h.upd (staged := fun x => by rw [hs] at x; cases x))
    ((h.setReg ha).upd (staged := fun x => by rw [hs] at x; cases x))

/-! ### What is read -/

theorem get {f : Field} (h : Dev.Keeps w d t) (hf : w.has f.addr = false := by decide) : t.get f = d.get f :=
  congrArg f.of (h.reg _ hf)

theorem is {f : Field} (h : Dev.Keeps w d t) (hf : w.has f.addr = false := by decide) : t.is f = d.is f :=
  congrArg (fun n => n != 0) (h.get hf)

theorem st (h : Dev.Keeps w d t) (hf : w.has R.SYS_STATUS = false := by decide) : t.st = d.st := h.get hf

theorem ticking (h : Dev.Keeps w d t) (hf : w.has R.SYS_STATUS = false := by decide) : t.ticking = d.ticking :=
  congrArg (fun s => s == 3 || s == 4 || s == 7) (h.st hf)

theorem busyState (h : Dev.Keeps w d t) (hf : w.has R.SYS_STATUS = false := by decide) : t.busyState = d.busyState := by
  unfold Dev.busyState
  rw [h.st hf, h.ticking hf]

theorem dom (h : Dev.Keeps w d t) (k : Nat) (h0 : w.has R.PWR_DST0 = false := by decide)
    (h1 : w.has R.PWR_DST1 = false := by decide) : t.dom k = d.dom k := by
  refine h.get ?_
  unfold domField
  split
  · exact h0
  · exact h1

theorem domOn (h : Dev.Keeps w d t) (k : Nat) (h0 : w.has R.PWR_DST0 = false := by decide)
    (h1 : w.has R.PWR_DST1 = false := by decide) : t.domOn k = d.domOn k := by
  unfold Dev.domOn
  rw [h.dom k h0 h1]

theorem seqLive (h : Dev.Keeps w d t) (h0 : w.has R.PWR_DST0 = false := by decide)
    (h1 : w.has R.PWR_DST1 = false := by decide) : t.seqLive = d.seqLive := by
  unfold Dev.seqLive
  rw [h.dom 0 h0 h1, h.domOn 0 h0 h1]

theorem enumerated (h : Dev.Keeps w d t) (hf : w.has R.CL_STATUS = false := by decide) : t.enumerated = d.enumerated :=
  h.is hf

theorem isMember (h : Dev.Keeps w d t) (hf : w.has R.CL_CTRL = false := by decide) : t.isMember = d.isMember :=
  congrArg (fun n => n == 2) (h.get hf)

theorem isLead (h : Dev.Keeps w d t) (hf : w.has R.CL_CTRL = false := by decide) : t.isLead = d.isLead :=
  congrArg (fun n => n == 1) (h.get hf)

theorem clLead (h : Dev.Keeps w d t) (hs : w.has R.CL_STATUS = false := by decide)
    (hf : w.has R.CL_CTRL = false := by decide) : t.clLead = d.clLead := by
  unfold Dev.clLead
  rw [h.enumerated hs, h.isLead hf]

theorem clMember (h : Dev.Keeps w d t) (hs : w.has R.CL_STATUS = false := by decide)
    (hf : w.has R.CL_CTRL = false := by decide) : t.clMember = d.clMember := by
  unfold Dev.clMember
  rw [h.enumerated hs, h.isMember hf]

/-- What writes registers alone leaves all others. -/
theorem butRegs {as : List Nat} (h : Dev.Keeps { regs := as } d t) : d.butRegs t as := by
  refine ⟨fun b hb => h.reg b ?_, ?_⟩
  · simpa [Dev.Scope.has] using hb
  · rcases d with ⟨⟩
    rcases t with ⟨⟩
    obtain rfl := h.clock rfl
    obtain rfl := h.freeCount rfl
    obtain rfl := h.staged rfl
    obtain rfl := h.mem rfl
    obtain rfl := h.sys rfl
    obtain rfl := h.tick rfl
    obtain rfl := h.acq rfl
    obtain rfl := h.hop rfl
    obtain rfl := h.img rfl
    obtain rfl := h.ct rfl
    obtain rfl := h.opt rfl
    obtain rfl := h.aux rfl
    obtain rfl := h.cal rfl
    obtain rfl := h.seq rfl
    obtain rfl := h.panel rfl
    obtain rfl := h.hp rfl
    obtain rfl := h.ring rfl
    obtain rfl := h.cl rfl
    obtain rfl := h.pp rfl
    obtain rfl := h.pwr rfl
    obtain rfl := h.flt rfl
    rfl
/-- The device `t` with the components in scope as in `d`. -/
def restore (w : Dev.Scope) (d t : Dev) : Dev :=
  { t with
    clock := bif w.clock then d.clock else t.clock
    freeCount := bif w.freeCount then d.freeCount else t.freeCount
    staged := bif w.staged then d.staged else t.staged
    mem := bif w.mem then d.mem else t.mem
    sys := bif w.sys then d.sys else t.sys
    tick := bif w.tick then d.tick else t.tick
    acq := bif w.acq then d.acq else t.acq
    hop := bif w.hop then d.hop else t.hop
    img := bif w.img then d.img else t.img
    ct := bif w.ct then d.ct else t.ct
    opt := bif w.opt then d.opt else t.opt
    aux := bif w.aux then d.aux else t.aux
    cal := bif w.cal then d.cal else t.cal
    seq := bif w.seq then d.seq else t.seq
    panel := bif w.panel then d.panel else t.panel
    hp := bif w.hp then d.hp else t.hp
    ring := bif w.ring then d.ring else t.ring
    cl := bif w.cl then d.cl else t.cl
    pp := bif w.pp then d.pp else t.pp
    pwr := bif w.pwr then d.pwr else t.pwr
    flt := bif w.flt then d.flt else t.flt }

/-- What keeps to a scope differs in the registers of the scope alone, but for the components of the scope. -/
theorem restored (h : Dev.Keeps w d t) {as : List Nat} (hr : w.regs = as := by rfl) (hf : w.fams = [] := by rfl) :
    d.butRegs (Dev.Keeps.restore w d t) as := by
  have hc : ∀ {α : Type} {b : Bool} {x y : α}, (b = false → y = x) → (bif b then x else y) = x := by
    intro α b x y hb
    cases b
    · exact hb rfl
    · rfl
  have hk : Dev.Keeps { regs := as } d (Dev.Keeps.restore w d t) := by
    constructor
    · exact fun _ => hc h.clock
    · exact fun _ => hc h.freeCount
    · exact fun _ => hc h.staged
    · exact fun _ => hc h.mem
    · exact fun _ => hc h.sys
    · exact fun _ => hc h.tick
    · exact fun _ => hc h.acq
    · exact fun _ => hc h.hop
    · exact fun _ => hc h.img
    · exact fun _ => hc h.ct
    · exact fun _ => hc h.opt
    · exact fun _ => hc h.aux
    · exact fun _ => hc h.cal
    · exact fun _ => hc h.seq
    · exact fun _ => hc h.panel
    · exact fun _ => hc h.hp
    · exact fun _ => hc h.ring
    · exact fun _ => hc h.cl
    · exact fun _ => hc h.pp
    · exact fun _ => hc h.pwr
    · exact fun _ => hc h.flt
    · intro a ha
      refine h.reg a ?_
      simpa [Dev.Scope.has, hr, hf] using ha
  exact hk.butRegs

end Dev.Keeps
end Sys2Proof.Machine
end

section
/-!
What each part of the model may write (the scopes of the section before), in the order of the definitions: every other
component of the device and every other register is as before.
-/

namespace Sys2Proof.Machine
set_option Elab.async false

/-- What `Dev.setDom` may write. -/
abbrev Dev.setDomScope : Dev.Scope := { regs := [R.PWR_ON, R.PWR_DST0, R.PWR_DST1] }

theorem Dev.Keeps.setDom {w : Dev.Scope} {d₀ d : Dev} {k s : Nat} (h : Dev.Keeps w d₀ d)
    (hw : Dev.setDomScope.le w = true := by decide) : Dev.Keeps w d₀ (d.setDom k s) := by
  refine h.step hw ?_
  unfold Dev.setDom
  refine Dev.Keeps.put (Dev.Keeps.put .refl ?_)
  unfold domField
  split <;> rfl

/-- What `Dev.setVres` may write. -/
abbrev Dev.setVresScope : Dev.Scope := { regs := [R.SEQ_VRES] }

theorem Dev.Keeps.setVres {w : Dev.Scope} {d₀ d : Dev} {r : Nat × Nat} (h : Dev.Keeps w d₀ d)
    (hw : Dev.setVresScope.le w = true := by decide) : Dev.Keeps w d₀ (d.setVres r) := by
  refine h.step hw ?_
  have h : Dev.Keeps Dev.setVresScope d d := .refl
  unfold Dev.setVres
  exact h.put.put

/-- What `Dev.safeTake` may write. -/
abbrev Dev.safeTakeScope : Dev.Scope := { panel := true }

theorem Dev.Keeps.safeTake {w : Dev.Scope} {d₀ d : Dev} {im : Image} (h : Dev.Keeps w d₀ d)
    (hw : Dev.safeTakeScope.le w = true := by decide) : Dev.Keeps w d₀ (d.safeTake im) := by
  refine h.step hw ?_
  have h : Dev.Keeps Dev.safeTakeScope d d := .refl
  unfold Dev.safeTake
  extract_lets e1
  exact h.upd (panel := nofun)

/-- What `Dev.tmSet` may write. -/
abbrev Dev.tmSetScope : Dev.Scope := { fams := [(0x240c, 16), (0x2408, 16)] }

theorem Dev.Keeps.tmSet {w : Dev.Scope} {d₀ d : Dev} {k : Nat} {run : Bool} {q : Bool} {count : Nat} (h : Dev.Keeps w d₀ d)
    (hw : Dev.tmSetScope.le w = true := by decide) : Dev.Keeps w d₀ (d.tmSet k run q count) := by
  refine h.step hw ?_
  have h : Dev.Keeps Dev.tmSetScope d d := .refl
  unfold Dev.tmSet
  exact ((h.putB (Dev.Scope.has_fam 0x240c 16 _)).putB (Dev.Scope.has_fam 0x240c 16 _)).put (Dev.Scope.has_fam 0x2408 16 _)

/-- What `Dev.presetIdle` may write. -/
abbrev Dev.presetIdleScope : Dev.Scope := { fams := [(0x240c, 16), (0x2408, 16), (0x2400, 16), (0x2404, 16)] }

theorem Dev.Keeps.presetIdle {w : Dev.Scope} {d₀ d : Dev} {p : Nat × Nat × Nat} (h : Dev.Keeps w d₀ d)
    (hw : Dev.presetIdleScope.le w = true := by decide) : Dev.Keeps w d₀ (d.presetIdle p) := by
  refine h.step hw ?_
  have h : Dev.Keeps Dev.presetIdleScope d d := .refl
  unfold Dev.presetIdle
  exact ((h.setReg (Dev.Scope.has_fam 0x2400 16 _)).put (Dev.Scope.has_fam 0x2404 16 _)).tmSet

/-- What `Dev.setSt` may write. -/
abbrev Dev.setStScope : Dev.Scope := { regs := [R.SYS_STATUS] }

theorem Dev.Keeps.setSt {w : Dev.Scope} {d₀ d : Dev} {s : Nat} (h : Dev.Keeps w d₀ d)
    (hw : Dev.setStScope.le w = true := by decide) : Dev.Keeps w d₀ (d.setSt s) := by
  refine h.step hw ?_
  have h : Dev.Keeps Dev.setStScope d d := .refl
  unfold Dev.setSt
  exact h.put

/-- What `Dev.activate` may write. -/
abbrev Dev.activateScope : Dev.Scope := { seq := true, panel := true, regs := [R.SYS_STATUS, R.SEQ_STATUS, R.SEQ_IMGVER, R.GPIO_STATUS], fams := [(0x240c, 16), (0x2408, 16), (0x2400, 16), (0x2404, 16)] }

theorem Dev.Keeps.activate {w : Dev.Scope} {d₀ d : Dev} {im : Image} (h : Dev.Keeps w d₀ d)
    (hw : Dev.activateScope.le w = true := by decide) : Dev.Keeps w d₀ (d.activate im) := by
  refine h.step hw ?_
  have h : Dev.Keeps Dev.activateScope d d := .refl
  unfold Dev.activate
  extract_lets d1 d2 d3 d4 e1 d5
  have hd1 : Dev.Keeps Dev.activateScope d d1 := (Dev.Keeps.foldl (fun _ _ h2 => h2.presetIdle) h).safeTake
  have hd2 : Dev.Keeps Dev.activateScope d d2 := hd1.setReg
  have hd3 : Dev.Keeps Dev.activateScope d d3 := hd2.put.put
  have hd4 : Dev.Keeps Dev.activateScope d d4 := hd3.put.put
  have hd5 : Dev.Keeps Dev.activateScope d d5 := hd4.upd (seq := nofun)
  exact Dev.Keeps.ite hd5.setSt hd5

/-- What `Dev.bootVerify` may write. -/
abbrev Dev.bootVerifyScope : Dev.Scope := { seq := true, panel := true, regs := [R.SYS_STATUS, R.SEQ_STATUS, R.SEQ_IMGVER, R.SEQ_VRES, R.GPIO_STATUS], fams := [(0x240c, 16), (0x2408, 16), (0x2400, 16), (0x2404, 16)] }

theorem Dev.Keeps.bootVerify {w : Dev.Scope} {d₀ d : Dev}  (h : Dev.Keeps w d₀ d)
    (hw : Dev.bootVerifyScope.le w = true := by decide) : Dev.Keeps w d₀ (d.bootVerify) := by
  refine h.step hw ?_
  have h : Dev.Keeps Dev.bootVerifyScope d d := .refl
  unfold Dev.bootVerify
  extract_lets e1 d1
  have hd1 : Dev.Keeps Dev.bootVerifyScope d d1 := h.upd (seq := nofun)
  split
  · exact hd1
  · extract_lets r1 d2
    have hd2 : Dev.Keeps Dev.bootVerifyScope d d2 := hd1.setVres.put
    exact Dev.Keeps.ite hd2.activate hd2.put

/-- What `Dev.ppState` may write. -/
abbrev Dev.ppStateScope : Dev.Scope := { fams := [(0x3ce0, 4)] }

theorem Dev.Keeps.ppState {w : Dev.Scope} {d₀ d : Dev} {k : Nat} {s : Nat} (h : Dev.Keeps w d₀ d)
    (hw : Dev.ppStateScope.le w = true := by decide) : Dev.Keeps w d₀ (d.ppState k s) := by
  refine h.step hw ?_
  have h : Dev.Keeps Dev.ppStateScope d d := .refl
  unfold Dev.ppState
  exact h.put (Dev.Scope.has_fam 0x3ce0 4 _)

/-- What `Dev.sendK` may write. -/
abbrev Dev.sendKScope : Dev.Scope := { cl := true }

theorem Dev.Keeps.sendK {w : Dev.Scope} {d₀ d : Dev} {k : Nat} (h : Dev.Keeps w d₀ d)
    (hw : Dev.sendKScope.le w = true := by decide) : Dev.Keeps w d₀ (d.sendK k) := by
  refine h.step hw ?_
  have h : Dev.Keeps Dev.sendKScope d d := .refl
  unfold Dev.sendK
  extract_lets e1
  exact Dev.Keeps.ite (h.upd (cl := nofun)) h

/-- What `Dev.clusterDown` may write. -/
abbrev Dev.clusterDownScope : Dev.Scope := { cl := true }

theorem Dev.Keeps.clusterDown {w : Dev.Scope} {d₀ d : Dev}  (h : Dev.Keeps w d₀ d)
    (hw : Dev.clusterDownScope.le w = true := by decide) : Dev.Keeps w d₀ (d.clusterDown) := by
  refine h.step hw ?_
  have h : Dev.Keeps Dev.clusterDownScope d d := .refl
  unfold Dev.clusterDown
  exact Dev.Keeps.ite h.sendK h

/-- What `Dev.fresh` may write. -/
abbrev Dev.freshScope : Dev.Scope := { freeCount := true }

theorem Dev.Keeps.fresh {w : Dev.Scope} {d₀ d : Dev}  (h : Dev.Keeps w d₀ d)
    (hw : Dev.freshScope.le w = true := by decide) : Dev.Keeps w d₀ (d.fresh).2 := by
  refine h.step hw ?_
  have h : Dev.Keeps Dev.freshScope d d := .refl
  unfold Dev.fresh
  exact h.upd (freeCount := nofun)

/-- What `Dev.pumpTo` may write. -/
abbrev Dev.pumpToScope : Dev.Scope := { freeCount := true, acq := true, regs := [R.ACQ_STATUS] }

theorem Dev.Keeps.pumpTo {w : Dev.Scope} {d₀ d : Dev} {l : Nat} (h : Dev.Keeps w d₀ d)
    (hw : Dev.pumpToScope.le w = true := by decide) : Dev.Keeps w d₀ (d.pumpTo l) := by
  refine h.step hw ?_
  have h : Dev.Keeps Dev.pumpToScope d d := .refl
  unfold Dev.pumpTo
  extract_lets e1 e2 e3
  have he1 : Dev.Keeps Dev.pumpToScope d e1 := h.put
  have he3 : Dev.Keeps Dev.pumpToScope d e3 := h.put
  split
  · exact h
  · split
    · exact he1.upd (acq := nofun)
    · split
      · exact he3.upd (acq := nofun)
      · split
        · rename_i q3 _ q3a _
          have hq3a : Dev.Keeps Dev.pumpToScope d q3a := Dev.Keeps.of_snd ‹_› h.fresh
          extract_lets e4 e5
          have he4 : Dev.Keeps Dev.pumpToScope d e4 := hq3a.put
          exact he4.upd (acq := nofun)

/-- What `Dev.acqStop` may write. -/
abbrev Dev.acqStopScope : Dev.Scope := { freeCount := true, acq := true, regs := [R.ACQ_STATUS] }

theorem Dev.Keeps.acqStop {w : Dev.Scope} {d₀ d : Dev}  (h : Dev.Keeps w d₀ d)
    (hw : Dev.acqStopScope.le w = true := by decide) : Dev.Keeps w d₀ (d.acqStop) := by
  refine h.step hw ?_
  have h : Dev.Keeps Dev.acqStopScope d d := .refl
  unfold Dev.acqStop
  extract_lets e1
  exact (h.upd (acq := nofun)).pumpTo

/-- What `Dev.stopCore` may write. -/
abbrev Dev.stopCoreScope : Dev.Scope := { seq := true, regs := [R.SEQ_STATUS] }

theorem Dev.Keeps.stopCore {w : Dev.Scope} {d₀ d : Dev} {state : Nat} (h : Dev.Keeps w d₀ d)
    (hw : Dev.stopCoreScope.le w = true := by decide) : Dev.Keeps w d₀ (d.stopCore state) := by
  refine h.step hw ?_
  have h : Dev.Keeps Dev.stopCoreScope d d := .refl
  unfold Dev.stopCore
  extract_lets e1 d1
  have hd1 : Dev.Keeps Dev.stopCoreScope d d1 := h.upd (seq := nofun)
  exact hd1.put.put

/-- What `Dev.swapHalted` may write. -/
abbrev Dev.swapHaltedScope : Dev.Scope := { seq := true, regs := [R.GPIO_SWAPST] }

theorem Dev.Keeps.swapHalted {w : Dev.Scope} {d₀ d : Dev}  (h : Dev.Keeps w d₀ d)
    (hw : Dev.swapHaltedScope.le w = true := by decide) : Dev.Keeps w d₀ (d.swapHalted) := by
  refine h.step hw ?_
  have h : Dev.Keeps Dev.swapHaltedScope d d := .refl
  unfold Dev.swapHalted
  extract_lets e1 d1 d2
  have hd1 : Dev.Keeps Dev.swapHaltedScope d d1 := h.upd (seq := nofun)
  have hd2 : Dev.Keeps Dev.swapHaltedScope d d2 := hd1.put.put.put
  exact Dev.Keeps.ite hd2.put h

/-- What `Dev.pwrBusy` may write. -/
abbrev Dev.pwrBusyScope : Dev.Scope := { regs := [R.PWR_RES] }

theorem Dev.Keeps.pwrBusy {w : Dev.Scope} {d₀ d : Dev}  (h : Dev.Keeps w d₀ d)
    (hw : Dev.pwrBusyScope.le w = true := by decide) : Dev.Keeps w d₀ (d.pwrBusy) := by
  refine h.step hw ?_
  have h : Dev.Keeps Dev.pwrBusyScope d d := .refl
  unfold Dev.pwrBusy
  exact h.putB

/-- What `Dev.pwrTick` may write. -/
abbrev Dev.pwrTickScope : Dev.Scope := { pwr := true, regs := [R.PWR_ON, R.PWR_DST0, R.PWR_DST1] }

theorem Dev.Keeps.pwrTick {w : Dev.Scope} {d₀ d : Dev}  (h : Dev.Keeps w d₀ d)
    (hw : Dev.pwrTickScope.le w = true := by decide) : Dev.Keeps w d₀ (d.pwrTick) := by
  refine h.step hw ?_
  have h : Dev.Keeps Dev.pwrTickScope d d := .refl
  unfold Dev.pwrTick
  extract_lets on1 off1 e1 d1 d2
  have hd1 : Dev.Keeps Dev.pwrTickScope d d1 := h.upd (pwr := nofun)
  have hd2 : Dev.Keeps Dev.pwrTickScope d d2 := Dev.Keeps.foldl (fun _ _ h3 => Dev.Keeps.ite h3.setDom h3) hd1
  exact Dev.Keeps.foldl (fun _ _ h4 => Dev.Keeps.ite h4.setDom h4) hd2

/-- What `Dev.ppQueue` may write. -/
abbrev Dev.ppQueueScope : Dev.Scope := { pp := true, regs := [R.PP_STATUS] }

theorem Dev.Keeps.ppQueue {w : Dev.Scope} {d₀ d : Dev} {q : List Xfer} (h : Dev.Keeps w d₀ d)
    (hw : Dev.ppQueueScope.le w = true := by decide) : Dev.Keeps w d₀ (d.ppQueue q) := by
  refine h.step hw ?_
  have h : Dev.Keeps Dev.ppQueueScope d d := .refl
  unfold Dev.ppQueue
  extract_lets e1
  exact (h.upd (pp := nofun)).put

/-- What `Dev.freshBytes` may write. -/
abbrev Dev.freshBytesScope : Dev.Scope := { freeCount := true }

theorem Dev.Keeps.freshBytes {w : Dev.Scope} {d₀ d : Dev} {n : Nat} (h : Dev.Keeps w d₀ d)
    (hw : Dev.freshBytesScope.le w = true := by decide) : Dev.Keeps w d₀ (d.freshBytes n).2 := by
  refine h.step hw ?_
  have h : Dev.Keeps Dev.freshBytesScope d d := .refl
  unfold Dev.freshBytes
  split
  · rename_i q1 _ q1a _
    have hq1a : Dev.Keeps Dev.freshBytesScope d q1a := Dev.Keeps.of_snd ‹_› h.fresh
    exact hq1a

/-- What `Dev.ppIdle` may write. -/
abbrev Dev.ppIdleScope : Dev.Scope := { pp := true, regs := [R.PP_STATUS] }

theorem Dev.Keeps.ppIdle {w : Dev.Scope} {d₀ d : Dev}  (h : Dev.Keeps w d₀ d)
    (hw : Dev.ppIdleScope.le w = true := by decide) : Dev.Keeps w d₀ (d.ppIdle) := by
  refine h.step hw ?_
  have h : Dev.Keeps Dev.ppIdleScope d d := .refl
  unfold Dev.ppIdle
  extract_lets e1
  exact ((h.upd (pp := nofun)).put).put

/-- What `Dev.ppPauseCut` may write. -/
abbrev Dev.ppPauseCutScope : Dev.Scope := { freeCount := true, regs := [R.PP_COUNTS2] }

theorem Dev.Keeps.ppPauseCut {w : Dev.Scope} {d₀ d : Dev} {f : PpFrame} (h : Dev.Keeps w d₀ d)
    (hw : Dev.ppPauseCutScope.le w = true := by decide) : Dev.Keeps w d₀ (d.ppPauseCut f) := by
  refine h.step hw ?_
  have h : Dev.Keeps Dev.ppPauseCutScope d d := .refl
  unfold Dev.ppPauseCut
  split
  · exact h
  · split
    · rename_i q1 _ q1a _
      have hq1a : Dev.Keeps Dev.ppPauseCutScope d q1a := Dev.Keeps.of_snd ‹_› h.fresh
      exact Dev.Keeps.ite hq1a.inc hq1a

/-- What `Dev.ppData` may write. -/
abbrev Dev.ppDataScope : Dev.Scope := { regs := [R.PP_STATUS] }

theorem Dev.Keeps.ppData {w : Dev.Scope} {d₀ d : Dev} {f : PpFrame} {rx : List Byte} (h : Dev.Keeps w d₀ d)
    (hw : Dev.ppDataScope.le w = true := by decide) : Dev.Keeps w d₀ (d.ppData f rx).2 := by
  refine h.step hw ?_
  have h : Dev.Keeps Dev.ppDataScope d d := .refl
  unfold Dev.ppData
  split
  · split
    · exact Dev.Keeps.ite h.put h
  · exact h

/-- What `Dev.xwrite` may write. -/
abbrev Dev.xwriteScope : Dev.Scope := { mem := true }

theorem Dev.Keeps.xwrite {w : Dev.Scope} {d₀ d : Dev} {o : Nat} {bs : List Byte} (h : Dev.Keeps w d₀ d)
    (hw : Dev.xwriteScope.le w = true := by decide) : Dev.Keeps w d₀ (d.xwrite o bs) := by
  refine h.step hw ?_
  have h : Dev.Keeps Dev.xwriteScope d d := .refl
  unfold Dev.xwrite
  extract_lets e1
  exact h.upd (mem := nofun)

/-- What `Dev.xwriteWhole` may write. -/
abbrev Dev.xwriteWholeScope : Dev.Scope := { mem := true }

theorem Dev.Keeps.xwriteWhole {w : Dev.Scope} {d₀ d : Dev} {o : Nat} {bs : List Byte} (h : Dev.Keeps w d₀ d)
    (hw : Dev.xwriteWholeScope.le w = true := by decide) : Dev.Keeps w d₀ (d.xwriteWhole o bs) := by
  refine h.step hw ?_
  have h : Dev.Keeps Dev.xwriteWholeScope d d := .refl
  unfold Dev.xwriteWhole
  extract_lets d1 e1
  have hd1 : Dev.Keeps Dev.xwriteWholeScope d d1 := h.xwrite
  exact hd1.upd (mem := nofun)

/-- What `Dev.eccMeet` may write. -/
abbrev Dev.eccMeetScope : Dev.Scope := { mem := true, regs := [R.XR_ECCSB, R.XR_ECCDB] }

theorem Dev.Keeps.eccMeet {w : Dev.Scope} {d₀ d : Dev} {client : Nat} {a2 : Nat} (h : Dev.Keeps w d₀ d)
    (hw : Dev.eccMeetScope.le w = true := by decide) : Dev.Keeps w d₀ (d.eccMeet client a2) := by
  refine h.step hw ?_
  have h : Dev.Keeps Dev.eccMeetScope d d := .refl
  unfold Dev.eccMeet
  extract_lets e1 d1 d2
  have hd1 : Dev.Keeps Dev.eccMeetScope d d1 := h.upd (mem := nofun)
  have hd2 : Dev.Keeps Dev.eccMeetScope d d2 := h.upd (mem := nofun)
  exact Dev.Keeps.ite hd1.put.put.put (Dev.Keeps.ite hd2.put.put.put h)

/-- What `Dev.xwriteClean` may write. -/
abbrev Dev.xwriteCleanScope : Dev.Scope := { mem := true, regs := [R.XR_ECCSB, R.XR_ECCDB] }

theorem Dev.Keeps.xwriteClean {w : Dev.Scope} {d₀ d : Dev} {client : Nat} {o : Nat} {bs : List Byte} (h : Dev.Keeps w d₀ d)
    (hw : Dev.xwriteCleanScope.le w = true := by decide) : Dev.Keeps w d₀ (d.xwriteClean client o bs) := by
  refine h.step hw ?_
  have h : Dev.Keeps Dev.xwriteCleanScope d d := .refl
  unfold Dev.xwriteClean
  refine Dev.Keeps.foldl ?_ h
  intro d' x hd1'
  extract_lets lo1 hi1 part1
  exact Dev.Keeps.ite hd1'.xwriteWhole (Dev.Keeps.ite hd1'.eccMeet hd1'.eccMeet.xwrite)

/-- What `Dev.ppStore` may write. -/
abbrev Dev.ppStoreScope : Dev.Scope := { mem := true, regs := [R.XR_ECCSB, R.XR_ECCDB] }

theorem Dev.Keeps.ppStore {w : Dev.Scope} {d₀ d : Dev} {x : Xfer} {bs : List Byte} (h : Dev.Keeps w d₀ d)
    (hw : Dev.ppStoreScope.le w = true := by decide) : Dev.Keeps w d₀ (d.ppStore x bs).2 := by
  refine h.step hw ?_
  have h : Dev.Keeps Dev.ppStoreScope d d := .refl
  unfold Dev.ppStore
  extract_lets part1
  exact h.xwriteClean

/-- What `Dev.ppWire` may write. -/
abbrev Dev.ppWireScope : Dev.Scope := { pp := true }

theorem Dev.Keeps.ppWire {w : Dev.Scope} {d₀ d : Dev} {f : PpFrame} {n : Nat} (h : Dev.Keeps w d₀ d)
    (hw : Dev.ppWireScope.le w = true := by decide) : Dev.Keeps w d₀ (d.ppWire f n) := by
  refine h.step hw ?_
  have h : Dev.Keeps Dev.ppWireScope d d := .refl
  unfold Dev.ppWire
  extract_lets e1
  exact h.upd (pp := nofun)

/-- What `Dev.event` may write. -/
abbrev Dev.eventScope : Dev.Scope := { regs := [R.SEQ_EVPEND] }

theorem Dev.Keeps.event {w : Dev.Scope} {d₀ d : Dev} {b : Nat} (h : Dev.Keeps w d₀ d)
    (hw : Dev.eventScope.le w = true := by decide) : Dev.Keeps w d₀ (d.event b) := by
  refine h.step hw ?_
  have h : Dev.Keeps Dev.eventScope d d := .refl
  unfold Dev.event
  exact Dev.Keeps.ite h.put h

/-- What `Dev.rqPut` may write. -/
abbrev Dev.rqPutScope : Dev.Scope := { mem := true, ring := true, regs := [R.RQ_PI, R.RQ_SEQX] }

theorem Dev.Keeps.rqPut {w : Dev.Scope} {d₀ d : Dev} {typ : Nat} {tag : Nat} {body : List Byte} (h : Dev.Keeps w d₀ d)
    (hw : Dev.rqPutScope.le w = true := by decide) : Dev.Keeps w d₀ (d.rqPut typ tag body) := by
  refine h.step hw ?_
  have h : Dev.Keeps Dev.rqPutScope d d := .refl
  unfold Dev.rqPut
  extract_lets n1 pos1 flags1 bs1 d1 d2 d3 e1
  have hd1 : Dev.Keeps Dev.rqPutScope d d1 := h.xwriteWhole
  have hd2 : Dev.Keeps Dev.rqPutScope d d2 := hd1.put
  have hd3 : Dev.Keeps Dev.rqPutScope d d3 := hd2.put
  exact hd3.upd (ring := nofun)

/-- What `Dev.rqAttn` may write. -/
abbrev Dev.rqAttnScope : Dev.Scope := { regs := [R.HP_ATTN] }

theorem Dev.Keeps.rqAttn {w : Dev.Scope} {d₀ d : Dev}  (h : Dev.Keeps w d₀ d)
    (hw : Dev.rqAttnScope.le w = true := by decide) : Dev.Keeps w d₀ (d.rqAttn) := by
  refine h.step hw ?_
  have h : Dev.Keeps Dev.rqAttnScope d d := .refl
  unfold Dev.rqAttn
  extract_lets old1
  exact h.putB

/-- What `Dev.rqEmit` may write. -/
abbrev Dev.rqEmitScope : Dev.Scope := { mem := true, ring := true, regs := [R.HP_ATTN, R.RQ_PI, R.RQ_SEQX] }

theorem Dev.Keeps.rqEmit {w : Dev.Scope} {d₀ d : Dev} {r : Report} (h : Dev.Keeps w d₀ d)
    (hw : Dev.rqEmitScope.le w = true := by decide) : Dev.Keeps w d₀ (d.rqEmit r) := by
  refine h.step hw ?_
  have h : Dev.Keeps Dev.rqEmitScope d d := .refl
  unfold Dev.rqEmit
  extract_lets pad1 d1
  have hd1 : Dev.Keeps Dev.rqEmitScope d d1 := Dev.Keeps.ite h h.rqPut
  exact hd1.rqPut.rqAttn

/-- What `Dev.complete` may write. -/
abbrev Dev.completeScope : Dev.Scope := { mem := true, ring := true, regs := [R.HP_ATTN, R.RQ_PI, R.RQ_SEQX, R.RQ_STATUS] }

theorem Dev.Keeps.complete {w : Dev.Scope} {d₀ d : Dev} {tag : Nat} {status : Nat} {op : Nat} {count : Nat} {detail : Nat} {seq : Nat} (h : Dev.Keeps w d₀ d)
    (hw : Dev.completeScope.le w = true := by decide) : Dev.Keeps w d₀ (d.complete tag status op count detail seq) := by
  refine h.step hw ?_
  have h : Dev.Keeps Dev.completeScope d d := .refl
  unfold Dev.complete
  extract_lets r1 e1
  exact Dev.Keeps.ite h (Dev.Keeps.ite h.put.rqEmit (h.upd (ring := nofun)))

/-- What `Dev.endAsync` may write. -/
abbrev Dev.endAsyncScope : Dev.Scope := { mem := true, ring := true, regs := [R.HP_ATTN, R.RQ_PI, R.RQ_SEQX, R.RQ_STATUS] }

theorem Dev.Keeps.endAsync {w : Dev.Scope} {d₀ d : Dev} {a : Async} {status : Nat} {detail : Nat} (h : Dev.Keeps w d₀ d)
    (hw : Dev.endAsyncScope.le w = true := by decide) : Dev.Keeps w d₀ (d.endAsync a status detail) := by
  refine h.step hw ?_
  have h : Dev.Keeps Dev.endAsyncScope d d := .refl
  unfold Dev.endAsync
  extract_lets d1 e1
  have hd1 : Dev.Keeps Dev.endAsyncScope d d1 := h.complete
  exact hd1.upd (ring := nofun)

/-- What `Dev.ppEnd` may write. -/
abbrev Dev.ppEndScope : Dev.Scope := { mem := true, ring := true, regs := [R.SEQ_EVPEND, R.HP_ATTN, R.RQ_PI, R.RQ_SEQX, R.RQ_STATUS], fams := [(0x3ce0, 4)] }

theorem Dev.Keeps.ppEnd {w : Dev.Scope} {d₀ d : Dev} {x : Xfer} {s : Nat} {count : Nat} {ecc : Nat} (h : Dev.Keeps w d₀ d)
    (hw : Dev.ppEndScope.le w = true := by decide) : Dev.Keeps w d₀ (d.ppEnd x s count ecc) := by
  refine h.step hw ?_
  have h : Dev.Keeps Dev.ppEndScope d d := .refl
  unfold Dev.ppEnd
  split
  · exact (h.ppState.put (Dev.Scope.has_fam 0x3ce0 4 _)).event
  · split
    · exact h.endAsync
    · exact h

/-- What `Dev.periRead` may write. -/
abbrev Dev.periReadScope : Dev.Scope := { mem := true, regs := [R.XR_ECCSB, R.XR_ECCDB] }

theorem Dev.Keeps.periRead {w : Dev.Scope} {d₀ d : Dev} {o : Nat} {n : Nat} (h : Dev.Keeps w d₀ d)
    (hw : Dev.periReadScope.le w = true := by decide) : Dev.Keeps w d₀ (d.periRead o n) := by
  refine h.step hw ?_
  have h : Dev.Keeps Dev.periReadScope d d := .refl
  unfold Dev.periRead
  exact Dev.Keeps.foldl (fun _ _ h2 => h2.eccMeet) h

/-- What `Dev.ppCut` may write. -/
abbrev Dev.ppCutScope : Dev.Scope := { freeCount := true, mem := true, ring := true, pp := true, regs := [R.SEQ_EVPEND, R.HP_ATTN, R.XR_ECCSB, R.XR_ECCDB, R.RQ_PI, R.RQ_SEQX, R.RQ_STATUS, R.PP_STATUS, R.PP_COUNTS2], fams := [(0x3ce0, 4)] }

theorem Dev.Keeps.ppCut {w : Dev.Scope} {d₀ d : Dev} {f : PpFrame} {s : Nat} {n : Nat} {rx : List Byte} (h : Dev.Keeps w d₀ d)
    (hw : Dev.ppCutScope.le w = true := by decide) : Dev.Keeps w d₀ (d.ppCut f s n rx) := by
  refine h.step hw ?_
  have h : Dev.Keeps Dev.ppCutScope d d := .refl
  unfold Dev.ppCut
  extract_lets d1 n1
  have hd1 : Dev.Keeps Dev.ppCutScope d d1 := h.ppPauseCut.ppIdle
  split
  · exact hd1
  · split
    · split
      · rename_i q2 _ q2a _
        have hq2a : Dev.Keeps Dev.ppCutScope d q2a := Dev.Keeps.of_snd ‹_› hd1.ppData
        extract_lets data1
        split
        · rename_i q3 _ q3a _
          have hq3a : Dev.Keeps Dev.ppCutScope d q3a := Dev.Keeps.of_snd ‹_› hq2a.ppWire.ppStore
          exact hq3a.ppEnd
    · exact hd1.ppWire.periRead.ppEnd

/-- What `Dev.ppAborted` may write. -/
abbrev Dev.ppAbortedScope : Dev.Scope := { fams := [(0x3ce0, 4)] }

theorem Dev.Keeps.ppAborted {w : Dev.Scope} {d₀ d : Dev} {k : Nat} (h : Dev.Keeps w d₀ d)
    (hw : Dev.ppAbortedScope.le w = true := by decide) : Dev.Keeps w d₀ (d.ppAborted k) := by
  refine h.step hw ?_
  have h : Dev.Keeps Dev.ppAbortedScope d d := .refl
  unfold Dev.ppAborted
  exact Dev.Keeps.ite ((h.put (Dev.Scope.has_fam 0x3ce0 4 _)).put (Dev.Scope.has_fam 0x3ce0 4 _)) h

/-- What `Dev.ppHalt` may write. -/
abbrev Dev.ppHaltScope : Dev.Scope := { freeCount := true, mem := true, ring := true, pp := true, regs := [R.SEQ_EVPEND, R.HP_ATTN, R.XR_ECCSB, R.XR_ECCDB, R.RQ_PI, R.RQ_SEQX, R.RQ_STATUS, R.PP_STATUS, R.PP_COUNTS2], fams := [(0x3ce0, 4)] }

theorem Dev.Keeps.ppHalt {w : Dev.Scope} {d₀ d : Dev} {malformed : Bool} (h : Dev.Keeps w d₀ d)
    (hw : Dev.ppHaltScope.le w = true := by decide) : Dev.Keeps w d₀ (d.ppHalt malformed) := by
  refine h.step hw ?_
  have h : Dev.Keeps Dev.ppHaltScope d d := .refl
  unfold Dev.ppHalt
  extract_lets ks1 live1 d1 e1 d2
  have hd1 : Dev.Keeps Dev.ppHaltScope d d1 := h.ppQueue
  have hd2 : Dev.Keeps Dev.ppHaltScope d d2 := by
    unfold d2
    split
    · exact hd1
    · extract_lets e2 f1
      split
      · exact hd1.upd (pp := nofun)
      · split
        · rename_i q2 _ q2a _
          have hq2a : Dev.Keeps Dev.ppHaltScope d q2a := Dev.Keeps.of_snd ‹_› hd1.fresh
          split
          · rename_i q3 _ q3a _
            have hq3a : Dev.Keeps Dev.ppHaltScope d q3a := Dev.Keeps.of_snd ‹_› hq2a.freshBytes
            exact hq3a.ppCut
  exact Dev.Keeps.ite (Dev.Keeps.foldl (fun _ _ h4 => h4.ppAborted) hd2) hd2

/-- What `Dev.setConv` may write. -/
abbrev Dev.setConvScope : Dev.Scope := { aux := true }

theorem Dev.Keeps.setConv {w : Dev.Scope} {d₀ d : Dev} {n : Nat} {c : Conv} (h : Dev.Keeps w d₀ d)
    (hw : Dev.setConvScope.le w = true := by decide) : Dev.Keeps w d₀ (d.setConv n c) := by
  refine h.step hw ?_
  have h : Dev.Keeps Dev.setConvScope d d := .refl
  unfold Dev.setConv
  extract_lets e1
  exact h.upd (aux := nofun)

/-- What `Dev.convStart` may write. -/
abbrev Dev.convStartScope : Dev.Scope := { aux := true, fams := [(0x1818, 32), (0x1820, 32)] }

theorem Dev.Keeps.convStart {w : Dev.Scope} {d₀ d : Dev} {n : Nat} (h : Dev.Keeps w d₀ d)
    (hw : Dev.convStartScope.le w = true := by decide) : Dev.Keeps w d₀ (d.convStart n) := by
  refine h.step hw ?_
  have h : Dev.Keeps Dev.convStartScope d d := .refl
  unfold Dev.convStart
  extract_lets c1 d1
  have hd1 : Dev.Keeps Dev.convStartScope d d1 := h.setConv
  exact (hd1.put (Dev.Scope.has_fam 0x1818 32 _)).put (Dev.Scope.has_fam 0x1820 32 _)

/-- What `Dev.auxResume` may write. -/
abbrev Dev.auxResumeScope : Dev.Scope := { aux := true, fams := [(0x1818, 32), (0x1820, 32)] }

theorem Dev.Keeps.auxResume {w : Dev.Scope} {d₀ d : Dev}  (h : Dev.Keeps w d₀ d)
    (hw : Dev.auxResumeScope.le w = true := by decide) : Dev.Keeps w d₀ (d.auxResume) := by
  refine h.step hw ?_
  have h : Dev.Keeps Dev.auxResumeScope d d := .refl
  unfold Dev.auxResume
  refine Dev.Keeps.foldl ?_ h
  intro d' x hd1'
  extract_lets c1
  exact Dev.Keeps.ite hd1'.convStart hd1'

/-- What `Dev.drainCancel` may write. -/
abbrev Dev.drainCancelScope : Dev.Scope := { aux := true, pwr := true, regs := [R.PWR_ON, R.PWR_DST0, R.PWR_DST1], fams := [(0x1818, 32), (0x1820, 32)] }

theorem Dev.Keeps.drainCancel {w : Dev.Scope} {d₀ d : Dev} {k : Nat} (h : Dev.Keeps w d₀ d)
    (hw : Dev.drainCancelScope.le w = true := by decide) : Dev.Keeps w d₀ (d.drainCancel k) := by
  refine h.step hw ?_
  have h : Dev.Keeps Dev.drainCancelScope d d := .refl
  unfold Dev.drainCancel
  extract_lets e1 e2 d1
  have he1 : Dev.Keeps Dev.drainCancelScope d e1 := h.setDom
  have hd1 : Dev.Keeps Dev.drainCancelScope d d1 := he1.upd (pwr := nofun)
  exact Dev.Keeps.ite hd1.auxResume hd1

/-- What `Dev.switchOnOne` may write. -/
abbrev Dev.switchOnOneScope : Dev.Scope := { aux := true, pwr := true, regs := [R.PWR_ON, R.PWR_DST0, R.PWR_DST1], fams := [(0x1818, 32), (0x1820, 32)] }

theorem Dev.Keeps.switchOnOne {w : Dev.Scope} {d₀ d : Dev} {k : Nat} (h : Dev.Keeps w d₀ d)
    (hw : Dev.switchOnOneScope.le w = true := by decide) : Dev.Keeps w d₀ (d.switchOnOne k) := by
  refine h.step hw ?_
  have h : Dev.Keeps Dev.switchOnOneScope d d := .refl
  unfold Dev.switchOnOne
  extract_lets s1 e1
  exact Dev.Keeps.ite h.setDom (Dev.Keeps.ite h.drainCancel (Dev.Keeps.ite (h.upd (pwr := nofun)) h))

/-- What `Dev.setWake` may write. -/
abbrev Dev.setWakeScope : Dev.Scope := { hp := true, regs := [R.HP_ATTN] }

theorem Dev.Keeps.setWake {w : Dev.Scope} {d₀ d : Dev}  (h : Dev.Keeps w d₀ d)
    (hw : Dev.setWakeScope.le w = true := by decide) : Dev.Keeps w d₀ (d.setWake) := by
  refine h.step hw ?_
  have h : Dev.Keeps Dev.setWakeScope d d := .refl
  unfold Dev.setWake
  extract_lets e1 e2
  have he1 : Dev.Keeps Dev.setWakeScope d e1 := h.put
  exact he1.upd (hp := nofun)

/-- What `Dev.hostBack` may write. -/
abbrev Dev.hostBackScope : Dev.Scope := { aux := true, hp := true, pwr := true, regs := [R.HP_ATTN, R.PWR_ON, R.PWR_DST0, R.PWR_DST1], fams := [(0x1818, 32), (0x1820, 32)] }

theorem Dev.Keeps.hostBack {w : Dev.Scope} {d₀ d : Dev}  (h : Dev.Keeps w d₀ d)
    (hw : Dev.hostBackScope.le w = true := by decide) : Dev.Keeps w d₀ (d.hostBack) := by
  refine h.step hw ?_
  have h : Dev.Keeps Dev.hostBackScope d d := .refl
  unfold Dev.hostBack
  extract_lets d1
  have hd1 : Dev.Keeps Dev.hostBackScope d d1 := h.switchOnOne
  exact Dev.Keeps.ite hd1.setWake hd1

/-- What `Dev.holdAttn` may write. -/
abbrev Dev.holdAttnScope : Dev.Scope := { regs := [R.HP_ATTN] }

theorem Dev.Keeps.holdAttn {w : Dev.Scope} {d₀ d : Dev}  (h : Dev.Keeps w d₀ d)
    (hw : Dev.holdAttnScope.le w = true := by decide) : Dev.Keeps w d₀ (d.holdAttn) := by
  refine h.step hw ?_
  have h : Dev.Keeps Dev.holdAttnScope d d := .refl
  unfold Dev.holdAttn
  exact Dev.Keeps.ite h.put h

/-- What `Dev.pwmPeriodEnd` may write. -/
abbrev Dev.pwmPeriodEndScope : Dev.Scope := { panel := true }

theorem Dev.Keeps.pwmPeriodEnd {w : Dev.Scope} {d₀ d : Dev} {n : Nat} (h : Dev.Keeps w d₀ d)
    (hw : Dev.pwmPeriodEndScope.le w = true := by decide) : Dev.Keeps w d₀ (d.pwmPeriodEnd n) := by
  refine h.step hw ?_
  have h : Dev.Keeps Dev.pwmPeriodEndScope d d := .refl
  unfold Dev.pwmPeriodEnd
  extract_lets e1
  exact Dev.Keeps.ite (h.upd (panel := nofun)) (Dev.Keeps.ite (h.upd (panel := nofun)) h)

/-- What `Dev.pwmSettle` may write. -/
abbrev Dev.pwmSettleScope : Dev.Scope := { panel := true }

theorem Dev.Keeps.pwmSettle {w : Dev.Scope} {d₀ d : Dev}  (h : Dev.Keeps w d₀ d)
    (hw : Dev.pwmSettleScope.le w = true := by decide) : Dev.Keeps w d₀ (d.pwmSettle) := by
  refine h.step hw ?_
  have h : Dev.Keeps Dev.pwmSettleScope d d := .refl
  unfold Dev.pwmSettle
  exact Dev.Keeps.foldl (fun _ _ h2 => Dev.Keeps.ite h2 h2.pwmPeriodEnd) h

/-- What `Dev.safeState` may write. -/
abbrev Dev.safeStateScope : Dev.Scope := { panel := true, regs := [R.GPIO_STATUS] }

theorem Dev.Keeps.safeState {w : Dev.Scope} {d₀ d : Dev}  (h : Dev.Keeps w d₀ d)
    (hw : Dev.safeStateScope.le w = true := by decide) : Dev.Keeps w d₀ (d.safeState) := by
  refine h.step hw ?_
  have h : Dev.Keeps Dev.safeStateScope d d := .refl
  unfold Dev.safeState
  exact h.put.pwmSettle

/-- What `Dev.halt` may write. -/
abbrev Dev.haltScope : Dev.Scope := { freeCount := true, mem := true, acq := true, img := true, aux := true, cal := true, seq := true, panel := true, hp := true, ring := true, cl := true, pp := true, pwr := true, regs := [R.SYS_STATUS, R.SYS_HALT_INFO, R.ACQ_STATUS, R.CAL_STATUS, R.SEQ_STATUS, R.SEQ_EVPEND, R.GPIO_STATUS, R.GPIO_SWAPST, R.HP_ATTN, R.XR_ECCSB, R.XR_ECCDB, R.RQ_PI, R.RQ_SEQX, R.RQ_STATUS, R.PP_STATUS, R.PP_COUNTS2, R.PWR_ON, R.PWR_RES, R.PWR_DST0, R.PWR_DST1], fams := [(0x3ce0, 4), (0x1818, 32), (0x1820, 32)] }

theorem Dev.Keeps.halt {w : Dev.Scope} {d₀ d : Dev} {src : Nat} {cause : Nat} {detail : Nat} (h : Dev.Keeps w d₀ d)
    (hw : Dev.haltScope.le w = true := by decide) : Dev.Keeps w d₀ (d.halt src cause detail) := by
  refine h.step hw ?_
  have h : Dev.Keeps Dev.haltScope d d := .refl
  unfold Dev.halt
  extract_lets heath1 d1 d2 d3 d4 d5 d6 d7 auxCmd1 d8 d9 e1 e2 e3 e4 e5 d10 d11 d12
  have hd1 : Dev.Keeps Dev.haltScope d d1 := h.put.put.put
  have hd2 : Dev.Keeps Dev.haltScope d d2 := hd1.clusterDown
  have hd3 : Dev.Keeps Dev.haltScope d d3 := hd2.setSt
  have hd4 : Dev.Keeps Dev.haltScope d d4 := hd3.acqStop
  have hd5 : Dev.Keeps Dev.haltScope d d5 := Dev.Keeps.ite hd4.stopCore hd4
  have hd6 : Dev.Keeps Dev.haltScope d d6 := hd5.swapHalted
  have hd7 : Dev.Keeps Dev.haltScope d d7 := hd6.put
  have hd8 : Dev.Keeps Dev.haltScope d d8 := Dev.Keeps.ite hd7.put.put.put hd7
  have hd9 : Dev.Keeps Dev.haltScope d d9 := Dev.Keeps.ite hd8.put hd8
  have hd10 : Dev.Keeps Dev.haltScope d d10 := hd9.upd (img := nofun) (cal := nofun) (ring := nofun) (cl := nofun) (pwr := nofun)
  have hd11 : Dev.Keeps Dev.haltScope d d11 := hd10.ppHalt.pwrTick.pwrBusy
  have hd12 : Dev.Keeps Dev.haltScope d d12 := Dev.Keeps.ite hd11.hostBack hd11.switchOnOne
  exact Dev.Keeps.ite h hd12.safeState.holdAttn

/-- What `Dev.ppDisarmPeriodic` may write. -/
abbrev Dev.ppDisarmPeriodicScope : Dev.Scope := { fams := [(0x3ce0, 4)] }

theorem Dev.Keeps.ppDisarmPeriodic {w : Dev.Scope} {d₀ d : Dev}  (h : Dev.Keeps w d₀ d)
    (hw : Dev.ppDisarmPeriodicScope.le w = true := by decide) : Dev.Keeps w d₀ (d.ppDisarmPeriodic) := by
  refine h.step hw ?_
  have h : Dev.Keeps Dev.ppDisarmPeriodicScope d d := .refl
  unfold Dev.ppDisarmPeriodic
  extract_lets ks1
  exact Dev.Keeps.foldl (fun _ _ h2 => h2.ppAborted) h

/-- What `Dev.hopDrop` may write. -/
abbrev Dev.hopDropScope : Dev.Scope := { hop := true, regs := [R.HOP_STATUS] }

theorem Dev.Keeps.hopDrop {w : Dev.Scope} {d₀ d : Dev}  (h : Dev.Keeps w d₀ d)
    (hw : Dev.hopDropScope.le w = true := by decide) : Dev.Keeps w d₀ (d.hopDrop) := by
  refine h.step hw ?_
  have h : Dev.Keeps Dev.hopDropScope d d := .refl
  unfold Dev.hopDrop
  extract_lets e1 e2
  have he1 : Dev.Keeps Dev.hopDropScope d e1 := h.put
  exact he1.upd (hop := nofun)

/-- What `Dev.switchOnMask` may write. -/
abbrev Dev.switchOnMaskScope : Dev.Scope := { aux := true, pwr := true, regs := [R.PWR_ON, R.PWR_DST0, R.PWR_DST1], fams := [(0x1818, 32), (0x1820, 32)] }

theorem Dev.Keeps.switchOnMask {w : Dev.Scope} {d₀ d : Dev} {m : Nat} (h : Dev.Keeps w d₀ d)
    (hw : Dev.switchOnMaskScope.le w = true := by decide) : Dev.Keeps w d₀ (d.switchOnMask m) := by
  refine h.step hw ?_
  have h : Dev.Keeps Dev.switchOnMaskScope d d := .refl
  unfold Dev.switchOnMask
  exact Dev.Keeps.foldl (fun _ _ h2 => h2.switchOnOne) h

/-- What `Dev.reclaimAll` may write. -/
abbrev Dev.reclaimAllScope : Dev.Scope := { mem := true, ring := true, regs := [R.XR_ECCSB, R.XR_ECCDB, R.RQ_CI] }

theorem Dev.Keeps.reclaimAll {w : Dev.Scope} {d₀ d : Dev} {n : Nat} (h : Dev.Keeps w d₀ d)
    (hw : Dev.reclaimAllScope.le w = true := by decide) : Dev.Keeps w d₀ (d.reclaimAll n) := by
  refine h.step hw ?_
  suffices ∀ e, Dev.Keeps Dev.reclaimAllScope d e → Dev.Keeps Dev.reclaimAllScope d (e.reclaimAll n) from this d .refl
  induction n with
  | zero => exact fun e he => he
  | succ n ih =>
    intro e he
    unfold Dev.reclaimAll
    split
    · exact he
    · exact .ite he.eccMeet (ih _ (Dev.Keeps.upd (he.eccMeet.put (f := R.RQ_CI_INDEX)) (ring := nofun)))

/-- What `Dev.reclaim` may write. -/
abbrev Dev.reclaimScope : Dev.Scope := { mem := true, ring := true, regs := [R.HP_ATTN, R.XR_ECCSB, R.XR_ECCDB, R.RQ_CI] }

theorem Dev.Keeps.reclaim {w : Dev.Scope} {d₀ d : Dev} {r : Report} (h : Dev.Keeps w d₀ d)
    (hw : Dev.reclaimScope.le w = true := by decide) : Dev.Keeps w d₀ (d.reclaim r) := by
  refine h.step hw ?_
  have h : Dev.Keeps Dev.reclaimScope d d := .refl
  unfold Dev.reclaim
  exact Dev.Keeps.ite h.reclaimAll.rqAttn h

/-- What `Dev.rqLost` may write. -/
abbrev Dev.rqLostScope : Dev.Scope := { ring := true, regs := [R.RQ_LOST] }

theorem Dev.Keeps.rqLost {w : Dev.Scope} {d₀ d : Dev} {typ : Nat} (h : Dev.Keeps w d₀ d)
    (hw : Dev.rqLostScope.le w = true := by decide) : Dev.Keeps w d₀ (d.rqLost typ) := by
  refine h.step hw ?_
  have h : Dev.Keeps Dev.rqLostScope d d := .refl
  unfold Dev.rqLost
  extract_lets l1 k1 l2 d1 e1 e2
  have hd1 : Dev.Keeps Dev.rqLostScope d d1 := h.inc
  exact hd1.upd (ring := nofun)

/-- What `Dev.rqPending` may write. -/
abbrev Dev.rqPendingScope : Dev.Scope := { ring := true, regs := [R.HP_ATTN, R.RQ_STATUS] }

theorem Dev.Keeps.rqPending {w : Dev.Scope} {d₀ d : Dev}  (h : Dev.Keeps w d₀ d)
    (hw : Dev.rqPendingScope.le w = true := by decide) : Dev.Keeps w d₀ (d.rqPending) := by
  refine h.step hw ?_
  have h : Dev.Keeps Dev.rqPendingScope d d := .refl
  unfold Dev.rqPending
  extract_lets e1 e2
  exact ((h.upd (ring := nofun)).put).rqAttn

/-- What `Dev.keep` may write. -/
abbrev Dev.keepScope : Dev.Scope := { ring := true, regs := [R.HP_ATTN, R.RQ_LOST, R.RQ_STATUS] }

theorem Dev.Keeps.keep {w : Dev.Scope} {d₀ d : Dev} {r : Report} (h : Dev.Keeps w d₀ d)
    (hw : Dev.keepScope.le w = true := by decide) : Dev.Keeps w d₀ (d.keep r) := by
  refine h.step hw ?_
  have lost : ∀ n, Dev.Keeps Dev.keepScope d (d.rqLost n) := fun n => Dev.Keeps.rqLost .refl
  have once : ∀ (c : Prop) [Decidable c] n, Dev.Keeps Dev.keepScope d (if c then d.rqLost n else d) :=
    fun c _ n => .ite (lost n) .refl
  unfold Dev.keep
  dsimp only
  refine .ite (.ite ?_ ?_) (.ite ?_ (.ite ?_ (.ite ?_ (.ite ?_ (.ite ?_ (lost _).rqPending)))))
  · split
    · exact Dev.Keeps.rqPending (Dev.Keeps.refl.upd (ring := nofun))
    · exact Dev.Keeps.rqPending ((lost 0x84).upd (ring := nofun))
  · split
    · exact Dev.Keeps.rqPending (Dev.Keeps.refl.upd (ring := nofun))
    · exact Dev.Keeps.rqPending ((lost 0x84).upd (ring := nofun))
  · exact Dev.Keeps.rqPending ((once (d.ring.coal.approach.isSome = true) 0x85).upd (ring := nofun))
  · exact Dev.Keeps.rqPending ((once ((d.ring.coal.cal.lookup (r.body.getD 0 0).toNat).isSome = true) 0x87).upd (ring := nofun))
  · exact Dev.Keeps.rqPending ((once (d.ring.coal.program.isSome = true) 0x8A).upd (ring := nofun))
  · exact Dev.Keeps.rqPending ((once (d.ring.coal.power.isSome = true) 0x8B).upd (ring := nofun))
  · exact Dev.Keeps.refl.upd (ring := nofun)

/-- What `Dev.report` may write. -/
abbrev Dev.reportScope : Dev.Scope := { mem := true, ring := true, regs := [R.HP_ATTN, R.XR_ECCSB, R.XR_ECCDB, R.RQ_PI, R.RQ_CI, R.RQ_SEQX, R.RQ_LOST, R.RQ_STATUS] }

theorem Dev.Keeps.report {w : Dev.Scope} {d₀ d : Dev} {r : Report} (h : Dev.Keeps w d₀ d)
    (hw : Dev.reportScope.le w = true := by decide) : Dev.Keeps w d₀ (d.report r) := by
  refine h.step hw ?_
  have h : Dev.Keeps Dev.reportScope d d := .refl
  unfold Dev.report
  extract_lets d1
  have hd1 : Dev.Keeps Dev.reportScope d d1 := h.reclaim
  exact Dev.Keeps.ite hd1 (Dev.Keeps.ite hd1.rqEmit hd1.keep)

/-- What `Dev.pwrAnswer` may write. -/
abbrev Dev.pwrAnswerScope : Dev.Scope := { mem := true, ring := true, pwr := true, regs := [R.HP_ATTN, R.XR_ECCSB, R.XR_ECCDB, R.RQ_PI, R.RQ_CI, R.RQ_SEQX, R.RQ_LOST, R.RQ_STATUS, R.PWR_RES] }

theorem Dev.Keeps.pwrAnswer {w : Dev.Scope} {d₀ d : Dev} {kind : Nat} {cmd : Option Async} {cause : Nat} {dom : Nat} (h : Dev.Keeps w d₀ d)
    (hw : Dev.pwrAnswerScope.le w = true := by decide) : Dev.Keeps w d₀ (d.pwrAnswer kind cmd cause dom) := by
  refine h.step hw ?_
  have h : Dev.Keeps Dev.pwrAnswerScope d d := .refl
  unfold Dev.pwrAnswer
  extract_lets d1 tag1 d2 e1 d3
  have hd1 : Dev.Keeps Dev.pwrAnswerScope d d1 := h.put.put.putB.put.pwrBusy
  have hd2 : Dev.Keeps Dev.pwrAnswerScope d d2 := hd1.report
  have hd3 : Dev.Keeps Dev.pwrAnswerScope d d3 := hd2.upd (pwr := nofun)
  split
  · exact Dev.Keeps.ite hd3.endAsync hd3.endAsync
  · exact hd3

/-- What `Dev.heathCancel` may write. -/
abbrev Dev.heathCancelScope : Dev.Scope := { mem := true, aux := true, ring := true, pwr := true, regs := [R.HP_ATTN, R.XR_ECCSB, R.XR_ECCDB, R.RQ_PI, R.RQ_CI, R.RQ_SEQX, R.RQ_LOST, R.RQ_STATUS, R.PWR_ON, R.PWR_RES, R.PWR_DST0, R.PWR_DST1], fams := [(0x1818, 32), (0x1820, 32)] }

theorem Dev.Keeps.heathCancel {w : Dev.Scope} {d₀ d : Dev}  (h : Dev.Keeps w d₀ d)
    (hw : Dev.heathCancelScope.le w = true := by decide) : Dev.Keeps w d₀ (d.heathCancel) := by
  refine h.step hw ?_
  have h : Dev.Keeps Dev.heathCancelScope d d := .refl
  unfold Dev.heathCancel
  extract_lets e1 d1 e2 e3
  have hd1 : Dev.Keeps Dev.heathCancelScope d d1 := h.upd (pwr := nofun)
  have he2 : Dev.Keeps Dev.heathCancelScope d e2 := hd1.switchOnMask
  split
  · exact Dev.Keeps.ite h (Dev.Keeps.ite (he2.upd (pwr := nofun)) hd1.pwrAnswer)
  · exact h

/-- What `Dev.dumpAbort` may write. -/
abbrev Dev.dumpAbortScope : Dev.Scope := { mem := true, img := true, ring := true, regs := [R.HP_ATTN, R.RQ_PI, R.RQ_SEQX, R.RQ_STATUS] }

theorem Dev.Keeps.dumpAbort {w : Dev.Scope} {d₀ d : Dev}  (h : Dev.Keeps w d₀ d)
    (hw : Dev.dumpAbortScope.le w = true := by decide) : Dev.Keeps w d₀ (d.dumpAbort) := by
  refine h.step hw ?_
  have h : Dev.Keeps Dev.dumpAbortScope d d := .refl
  unfold Dev.dumpAbort
  extract_lets e1 part1 e2
  split
  · exact h.upd (img := nofun)
  · extract_lets whole1 done1 d1
    have hd1 : Dev.Keeps Dev.dumpAbortScope d d1 := h.upd (img := nofun) (ring := nofun)
    exact hd1.endAsync

/-- What `Dev.swapRefuse` may write. -/
abbrev Dev.swapRefuseScope : Dev.Scope := { mem := true, seq := true, ring := true, regs := [R.GPIO_SWAPST, R.HP_ATTN, R.XR_ECCSB, R.XR_ECCDB, R.RQ_PI, R.RQ_CI, R.RQ_SEQX, R.RQ_LOST, R.RQ_STATUS] }

theorem Dev.Keeps.swapRefuse {w : Dev.Scope} {d₀ d : Dev} {code : Nat} {detail : Nat} {tag : Nat} (h : Dev.Keeps w d₀ d)
    (hw : Dev.swapRefuseScope.le w = true := by decide) : Dev.Keeps w d₀ (d.swapRefuse code detail tag) := by
  refine h.step hw ?_
  have h : Dev.Keeps Dev.swapRefuseScope d d := .refl
  unfold Dev.swapRefuse
  extract_lets e1 d1 d2 d3
  have hd1 : Dev.Keeps Dev.swapRefuseScope d d1 := h.upd (seq := nofun)
  have hd2 : Dev.Keeps Dev.swapRefuseScope d d2 := hd1.put.put.put
  have hd3 : Dev.Keeps Dev.swapRefuseScope d d3 := hd2.put
  exact hd3.report

/-- What `Dev.endAsyncs` may write. -/
abbrev Dev.endAsyncsScope : Dev.Scope := { mem := true, ring := true, regs := [R.HP_ATTN, R.RQ_PI, R.RQ_SEQX, R.RQ_STATUS] }

theorem Dev.Keeps.endAsyncs {w : Dev.Scope} {d₀ d : Dev} {l : List Async} {status : Nat} {detail : Nat} (h : Dev.Keeps w d₀ d)
    (hw : Dev.endAsyncsScope.le w = true := by decide) : Dev.Keeps w d₀ (d.endAsyncs l status detail) := by
  refine h.step hw ?_
  have h : Dev.Keeps Dev.endAsyncsScope d d := .refl
  unfold Dev.endAsyncs
  exact Dev.Keeps.foldl (fun _ _ h2 => h2.endAsync) h

/-- What `Dev.swapEnd` may write. -/
abbrev Dev.swapEndScope : Dev.Scope := { mem := true, seq := true, ring := true, regs := [R.GPIO_SWAPST, R.HP_ATTN, R.XR_ECCSB, R.XR_ECCDB, R.RQ_PI, R.RQ_CI, R.RQ_SEQX, R.RQ_LOST, R.RQ_STATUS] }

theorem Dev.Keeps.swapEnd {w : Dev.Scope} {d₀ d : Dev} {code : Nat} (h : Dev.Keeps w d₀ d)
    (hw : Dev.swapEndScope.le w = true := by decide) : Dev.Keeps w d₀ (d.swapEnd code) := by
  refine h.step hw ?_
  have h : Dev.Keeps Dev.swapEndScope d d := .refl
  unfold Dev.swapEnd
  extract_lets d1
  have hd1 : Dev.Keeps Dev.swapEndScope d d1 := h.swapRefuse
  exact Dev.Keeps.ite hd1.endAsyncs h

/-- What `Dev.calReason` may write. -/
abbrev Dev.calReasonScope : Dev.Scope := { regs := [R.CAL_REASON, R.SEQ_EVPEND] }

theorem Dev.Keeps.calReason {w : Dev.Scope} {d₀ d : Dev} {kind : Nat} {code : Nat} {detail : Nat} (h : Dev.Keeps w d₀ d)
    (hw : Dev.calReasonScope.le w = true := by decide) : Dev.Keeps w d₀ (d.calReason kind code detail) := by
  refine h.step hw ?_
  have h : Dev.Keeps Dev.calReasonScope d d := .refl
  unfold Dev.calReason
  exact h.put.put.put.event

/-- What `Dev.windowClose` may write. -/
abbrev Dev.windowCloseScope : Dev.Scope := { flt := true, regs := [R.FLT_WOPEN], fams := [(0x44c0, 4)] }

theorem Dev.Keeps.windowClose {w : Dev.Scope} {d₀ d : Dev} {src : Nat} (h : Dev.Keeps w d₀ d)
    (hw : Dev.windowCloseScope.le w = true := by decide) : Dev.Keeps w d₀ (d.windowClose src) := by
  refine h.step hw ?_
  have h : Dev.Keeps Dev.windowCloseScope d d := .refl
  unfold Dev.windowClose
  extract_lets e1 d1 d2
  have hd1 : Dev.Keeps Dev.windowCloseScope d d1 := h.upd (flt := nofun)
  have hd2 : Dev.Keeps Dev.windowCloseScope d d2 := hd1.put (Dev.Scope.has_fam 0x44c0 4 _)
  exact hd2.put

/-- What `Dev.windowOpen` may write. -/
abbrev Dev.windowOpenScope : Dev.Scope := { flt := true, regs := [R.FLT_WOPEN], fams := [(0x44C0, 4)] }

theorem Dev.Keeps.windowOpen {w : Dev.Scope} {d₀ d : Dev} {src : Nat} (h : Dev.Keeps w d₀ d)
    (hw : Dev.windowOpenScope.le w = true := by decide) : Dev.Keeps w d₀ (d.windowOpen src).2 := by
  refine h.step hw ?_
  have hc : Dev.Keeps Dev.windowOpenScope d (d.windowClose src) := Dev.Keeps.windowClose .refl
  unfold Dev.windowOpen
  dsimp only
  split
  · exact Dev.Keeps.put (Dev.Keeps.upd (e := d) .refl (flt := nofun))
  · exact .ite_snd .refl (Dev.Keeps.put (Dev.Keeps.upd hc (flt := nofun)))

/-- What `Dev.fault` may write. -/
abbrev Dev.faultScope : Dev.Scope := { mem := true, ring := true, regs := [R.HP_ATTN, R.XR_ECCSB, R.XR_ECCDB, R.RQ_PI, R.RQ_CI, R.RQ_SEQX] }

theorem Dev.Keeps.fault {w : Dev.Scope} {d₀ d : Dev} {src : Nat} {lasting : Nat} {action : Nat} {detail : Nat} {forceSlot : Bool} (h : Dev.Keeps w d₀ d)
    (hw : Dev.faultScope.le w = true := by decide) : Dev.Keeps w d₀ (d.fault src lasting action detail forceSlot) := by
  refine h.step hw ?_
  have h : Dev.Keeps Dev.faultScope d d := .refl
  unfold Dev.fault
  extract_lets ev1 ln1 r1 d1
  have hd1 : Dev.Keeps Dev.faultScope d d1 := h.reclaim
  exact Dev.Keeps.ite hd1.rqEmit.put (Dev.Keeps.ite hd1.rqEmit.put hd1)

/-- What `Dev.logWrite` may write. -/
abbrev Dev.logWriteScope : Dev.Scope := { flt := true, regs := [R.FLT_LOG] }

theorem Dev.Keeps.logWrite {w : Dev.Scope} {d₀ d : Dev} {src : Nat} {lasting : Bool} {detail : Nat} (h : Dev.Keeps w d₀ d)
    (hw : Dev.logWriteScope.le w = true := by decide) : Dev.Keeps w d₀ (d.logWrite src lasting detail) := by
  refine h.step hw ?_
  have h : Dev.Keeps Dev.logWriteScope d d := .refl
  unfold Dev.logWrite
  extract_lets l1 e1 e2
  exact Dev.Keeps.ite ((h.upd (flt := nofun)).put) ((h.upd (flt := nofun)).inc)

/-- What `Dev.lasting` may write. -/
abbrev Dev.lastingScope : Dev.Scope := { mem := true, ring := true, flt := true, regs := [R.HP_ATTN, R.XR_ECCSB, R.XR_ECCDB, R.RQ_PI, R.RQ_CI, R.RQ_SEQX, R.FLT_LOG, R.FLT_LAST], fams := [(0x44c0, 4)] }

theorem Dev.Keeps.lasting {w : Dev.Scope} {d₀ d : Dev} {src : Nat} {detail : Nat} {cause : Nat} {forceSlot : Bool} (h : Dev.Keeps w d₀ d)
    (hw : Dev.lastingScope.le w = true := by decide) : Dev.Keeps w d₀ (d.lasting src detail cause forceSlot) := by
  refine h.step hw ?_
  have h : Dev.Keeps Dev.lastingScope d d := .refl
  unfold Dev.lasting
  extract_lets act1 d1 d2 d3 d4 d5 e1
  have hd1 : Dev.Keeps Dev.lastingScope d d1 := h.inc (Dev.Scope.has_fam 0x44c0 4 _)
  have hd2 : Dev.Keeps Dev.lastingScope d d2 := hd1.put.put.put
  have hd3 : Dev.Keeps Dev.lastingScope d d3 := hd2.fault
  have hd4 : Dev.Keeps Dev.lastingScope d d4 := hd3.logWrite
  have hd5 : Dev.Keeps Dev.lastingScope d d5 := hd4.put
  exact hd5.upd (flt := nofun)

/-- What `Dev.noteEvent` may write. -/
abbrev Dev.noteEventScope : Dev.Scope := { mem := true, ring := true, flt := true, regs := [R.HP_ATTN, R.XR_ECCSB, R.XR_ECCDB, R.RQ_PI, R.RQ_CI, R.RQ_SEQX, R.FLT_LOG, R.FLT_LAST, R.FLT_WOPEN], fams := [(0x44c0, 4)] }

theorem Dev.Keeps.noteEvent {w : Dev.Scope} {d₀ d : Dev} {src : Nat} {detail : Nat} {cause : Nat} (h : Dev.Keeps w d₀ d)
    (hw : Dev.noteEventScope.le w = true := by decide) : Dev.Keeps w d₀ (d.noteEvent src detail cause) := by
  refine h.step hw ?_
  have h : Dev.Keeps Dev.noteEventScope d d := .refl
  unfold Dev.noteEvent
  extract_lets d1 d2
  have hd1 : Dev.Keeps Dev.noteEventScope d d1 := h.inc (Dev.Scope.has_fam 0x44c0 4 _)
  have hd2 : Dev.Keeps Dev.noteEventScope d d2 := Dev.Keeps.ite hd1.put hd1
  split
  · rename_i q3 _ q3a _
    have hq3a : Dev.Keeps Dev.noteEventScope d q3a := Dev.Keeps.of_snd ‹_› hd2.windowOpen
    extract_lets n1 d3 d4
    have hd3 : Dev.Keeps Dev.noteEventScope d d3 := hq3a.inc (Dev.Scope.has_fam 0x44c0 4 _)
    have hd4 : Dev.Keeps Dev.noteEventScope d d4 := Dev.Keeps.ite hd3.fault hd3
    exact Dev.Keeps.ite hd3.lasting (Dev.Keeps.ite hd4.logWrite hd4)

/-- What `Dev.calFail` may write. -/
abbrev Dev.calFailScope : Dev.Scope := { mem := true, cal := true, ring := true, flt := true, regs := [R.CAL_STATUS, R.CAL_REASON, R.SEQ_EVPEND, R.HP_ATTN, R.XR_ECCSB, R.XR_ECCDB, R.RQ_PI, R.RQ_CI, R.RQ_SEQX, R.RQ_LOST, R.RQ_STATUS, R.FLT_LOG, R.FLT_LAST, R.FLT_WOPEN], fams := [(0x44c0, 4)] }

theorem Dev.Keeps.calFail {w : Dev.Scope} {d₀ d : Dev} {kind : Nat} {code : Nat} {detail : Nat} (h : Dev.Keeps w d₀ d)
    (hw : Dev.calFailScope.le w = true := by decide) : Dev.Keeps w d₀ (d.calFail kind code detail) := by
  refine h.step hw ?_
  have h : Dev.Keeps Dev.calFailScope d d := .refl
  unfold Dev.calFail
  extract_lets rep1 d1 e1 d2 d3 tag1 d4 d5
  have hd1 : Dev.Keeps Dev.calFailScope d d1 := Dev.Keeps.ite h.put h.put.put.put
  have hd2 : Dev.Keeps Dev.calFailScope d d2 := Dev.Keeps.ite (hd1.upd (cal := nofun)) (hd1.upd (cal := nofun))
  have hd3 : Dev.Keeps Dev.calFailScope d d3 := hd2.calReason
  have hd4 : Dev.Keeps Dev.calFailScope d d4 := hd3.report
  have hd5 : Dev.Keeps Dev.calFailScope d d5 := hd4.endAsyncs
  exact hd5.noteEvent

/-- What `Dev.calAbortTouch` may write. -/
abbrev Dev.calAbortTouchScope : Dev.Scope := { mem := true, cal := true, ring := true, flt := true, regs := [R.CAL_STATUS, R.CAL_REASON, R.SEQ_EVPEND, R.HP_ATTN, R.XR_ECCSB, R.XR_ECCDB, R.RQ_PI, R.RQ_CI, R.RQ_SEQX, R.RQ_LOST, R.RQ_STATUS, R.FLT_LOG, R.FLT_LAST, R.FLT_WOPEN], fams := [(0x44c0, 4)] }

theorem Dev.Keeps.calAbortTouch {w : Dev.Scope} {d₀ d : Dev}  (h : Dev.Keeps w d₀ d)
    (hw : Dev.calAbortTouchScope.le w = true := by decide) : Dev.Keeps w d₀ (d.calAbortTouch) := by
  refine h.step hw ?_
  have h : Dev.Keeps Dev.calAbortTouchScope d d := .refl
  unfold Dev.calAbortTouch
  exact Dev.Keeps.ite h.calFail h

/-- What `Dev.leaveRunning` may write. -/
abbrev Dev.leaveRunningScope : Dev.Scope := { mem := true, img := true, cal := true, seq := true, ring := true, flt := true, regs := [R.CAL_STATUS, R.CAL_REASON, R.SEQ_EVPEND, R.GPIO_SWAPST, R.HP_ATTN, R.XR_ECCSB, R.XR_ECCDB, R.RQ_PI, R.RQ_CI, R.RQ_SEQX, R.RQ_LOST, R.RQ_STATUS, R.FLT_LOG, R.FLT_LAST, R.FLT_WOPEN], fams := [(0x44c0, 4)] }

theorem Dev.Keeps.leaveRunning {w : Dev.Scope} {d₀ d : Dev}  (h : Dev.Keeps w d₀ d)
    (hw : Dev.leaveRunningScope.le w = true := by decide) : Dev.Keeps w d₀ (d.leaveRunning) := by
  refine h.step hw ?_
  have h : Dev.Keeps Dev.leaveRunningScope d d := .refl
  unfold Dev.leaveRunning
  exact h.calAbortTouch.swapEnd.dumpAbort

/-- What `Dev.unstageOffs` may write. -/
abbrev Dev.unstageOffsScope : Dev.Scope := { staged := true }

theorem Dev.Keeps.unstageOffs {w : Dev.Scope} {d₀ d : Dev} {v : CalVals} (h : Dev.Keeps w d₀ d)
    (hw : Dev.unstageOffsScope.le w = true := by decide) : Dev.Keeps w d₀ (d.unstageOffs v) := by
  refine h.step hw ?_
  have h : Dev.Keeps Dev.unstageOffsScope d d := .refl
  unfold Dev.unstageOffs
  exact h.upd (staged := nofun)

/-- What `Dev.calDiscard` may write. -/
abbrev Dev.calDiscardScope : Dev.Scope := { staged := true, cal := true, regs := [R.CAL_STATUS, R.CAL_REASON, R.SEQ_EVPEND] }

theorem Dev.Keeps.calDiscard {w : Dev.Scope} {d₀ d : Dev}  (h : Dev.Keeps w d₀ d)
    (hw : Dev.calDiscardScope.le w = true := by decide) : Dev.Keeps w d₀ (d.calDiscard) := by
  refine h.step hw ?_
  have h : Dev.Keeps Dev.calDiscardScope d d := .refl
  unfold Dev.calDiscard
  refine Dev.Keeps.foldl ?_ h
  intro d' x hd1'
  extract_lets d1 e1 d2
  have hd1 : Dev.Keeps Dev.calDiscardScope d d1 := hd1'.unstageOffs
  have hd2 : Dev.Keeps Dev.calDiscardScope d d2 := hd1.upd (cal := nofun)
  exact Dev.Keeps.ite hd2.put.calReason hd1'

/-- What `Dev.clearRun` may write. -/
abbrev Dev.clearRunScope : Dev.Scope := { staged := true, mem := true, hop := true, img := true, aux := true, cal := true, seq := true, ring := true, cl := true, pwr := true, flt := true, regs := [R.SYS_CTRL, R.SYS_STATUS, R.SYS_REASON, R.HOP_STATUS, R.CAL_STATUS, R.CAL_REASON, R.SEQ_EVPEND, R.GPIO_SWAPST, R.HP_ATTN, R.XR_ECCSB, R.XR_ECCDB, R.RQ_PI, R.RQ_CI, R.RQ_SEQX, R.RQ_LOST, R.RQ_STATUS, R.PWR_ON, R.PWR_RES, R.PWR_DST0, R.PWR_DST1, R.FLT_LOG, R.FLT_LAST, R.FLT_WOPEN], fams := [(0x1818, 32), (0x1820, 32), (0x44c0, 4)] }

theorem Dev.Keeps.clearRun {w : Dev.Scope} {d₀ d : Dev}  (h : Dev.Keeps w d₀ d)
    (hw : Dev.clearRunScope.le w = true := by decide) : Dev.Keeps w d₀ (d.clearRun) := by
  refine h.step hw ?_
  have h : Dev.Keeps Dev.clearRunScope d d := .refl
  unfold Dev.clearRun
  extract_lets d1 e1 d2 d3
  have hd1 : Dev.Keeps Dev.clearRunScope d d1 := h.put.hopDrop
  have hd2 : Dev.Keeps Dev.clearRunScope d d2 := hd1.upd (cl := nofun)
  have hd3 : Dev.Keeps Dev.clearRunScope d d3 := hd2.calDiscard.leaveRunning.heathCancel
  exact Dev.Keeps.ite h.hopDrop.setSt.put.setReg (Dev.Keeps.ite hd3.setSt h)

/-- What `Dev.heathFinish` may write. -/
abbrev Dev.heathFinishScope : Dev.Scope := { tick := true, img := true, ct := true, hp := true, pwr := true, regs := [R.SYS_STATUS, R.HP_ATTN, R.PWR_WSRC] }

theorem Dev.Keeps.heathFinish {w : Dev.Scope} {d₀ d : Dev}  (h : Dev.Keeps w d₀ d)
    (hw : Dev.heathFinishScope.le w = true := by decide) : Dev.Keeps w d₀ (d.heathFinish) := by
  refine h.step hw ?_
  have h : Dev.Keeps Dev.heathFinishScope d d := .refl
  unfold Dev.heathFinish
  extract_lets lat1 d1 d2 e1 e2 e3 e4
  have hd1 : Dev.Keeps Dev.heathFinishScope d d1 := h.setSt.setWake
  have hd2 : Dev.Keeps Dev.heathFinishScope d d2 := hd1.put
  exact hd2.upd (tick := nofun) (img := nofun) (ct := nofun) (pwr := nofun)

/-- What `Dev.heathTry` may write. -/
abbrev Dev.heathTryScope : Dev.Scope := { staged := true, mem := true, tick := true, hop := true, img := true, ct := true, aux := true, cal := true, seq := true, hp := true, ring := true, cl := true, pwr := true, flt := true, regs := [R.SYS_CTRL, R.SYS_STATUS, R.SYS_REASON, R.HOP_STATUS, R.CAL_STATUS, R.CAL_REASON, R.SEQ_EVPEND, R.GPIO_SWAPST, R.HP_ATTN, R.XR_ECCSB, R.XR_ECCDB, R.RQ_PI, R.RQ_CI, R.RQ_SEQX, R.RQ_LOST, R.RQ_STATUS, R.PWR_ON, R.PWR_RES, R.PWR_DST0, R.PWR_DST1, R.PWR_WSRC, R.FLT_LOG, R.FLT_LAST, R.FLT_WOPEN], fams := [(0x1818, 32), (0x1820, 32), (0x44c0, 4)] }

theorem Dev.Keeps.heathTry {w : Dev.Scope} {d₀ d : Dev}  (h : Dev.Keeps w d₀ d)
    (hw : Dev.heathTryScope.le w = true := by decide) : Dev.Keeps w d₀ (d.heathTry) := by
  refine h.step hw ?_
  have h : Dev.Keeps Dev.heathTryScope d d := .refl
  unfold Dev.heathTry
  exact Dev.Keeps.ite (Dev.Keeps.ite h.heathFinish.clearRun h.heathFinish) h

/-- What `Dev.heathLeave` may write. -/
abbrev Dev.heathLeaveScope : Dev.Scope := { staged := true, mem := true, tick := true, hop := true, img := true, ct := true, aux := true, cal := true, seq := true, hp := true, ring := true, cl := true, pwr := true, flt := true, regs := [R.SYS_CTRL, R.SYS_STATUS, R.SYS_REASON, R.HOP_STATUS, R.CAL_STATUS, R.CAL_REASON, R.SEQ_EVPEND, R.GPIO_SWAPST, R.HP_ATTN, R.XR_ECCSB, R.XR_ECCDB, R.RQ_PI, R.RQ_CI, R.RQ_SEQX, R.RQ_LOST, R.RQ_STATUS, R.PWR_ON, R.PWR_RES, R.PWR_DST0, R.PWR_DST1, R.PWR_WSRC, R.FLT_LOG, R.FLT_LAST, R.FLT_WOPEN], fams := [(0x1818, 32), (0x1820, 32), (0x44c0, 4)] }

theorem Dev.Keeps.heathLeave {w : Dev.Scope} {d₀ d : Dev}  (h : Dev.Keeps w d₀ d)
    (hw : Dev.heathLeaveScope.le w = true := by decide) : Dev.Keeps w d₀ (d.heathLeave) := by
  refine h.step hw ?_
  have h : Dev.Keeps Dev.heathLeaveScope d d := .refl
  unfold Dev.heathLeave
  extract_lets e1 d1
  have hd1 : Dev.Keeps Dev.heathLeaveScope d d1 := h.upd (pwr := nofun)
  exact hd1.switchOnMask.heathTry

/-- What `Dev.runEnds` may write. -/
abbrev Dev.runEndsScope : Dev.Scope := { staged := true, mem := true, tick := true, hop := true, img := true, ct := true, aux := true, cal := true, seq := true, hp := true, ring := true, cl := true, pwr := true, flt := true, regs := [R.SYS_CTRL, R.SYS_STATUS, R.SYS_REASON, R.HOP_STATUS, R.CAL_STATUS, R.CAL_REASON, R.SEQ_EVPEND, R.GPIO_SWAPST, R.HP_ATTN, R.XR_ECCSB, R.XR_ECCDB, R.RQ_PI, R.RQ_CI, R.RQ_SEQX, R.RQ_LOST, R.RQ_STATUS, R.PWR_ON, R.PWR_RES, R.PWR_DST0, R.PWR_DST1, R.PWR_WSRC, R.FLT_LOG, R.FLT_LAST, R.FLT_WOPEN], fams := [(0x1818, 32), (0x1820, 32), (0x44c0, 4)] }

theorem Dev.Keeps.runEnds {w : Dev.Scope} {d₀ d : Dev}  (h : Dev.Keeps w d₀ d)
    (hw : Dev.runEndsScope.le w = true := by decide) : Dev.Keeps w d₀ (d.runEnds) := by
  refine h.step hw ?_
  have h : Dev.Keeps Dev.runEndsScope d d := .refl
  unfold Dev.runEnds
  extract_lets e1
  exact Dev.Keeps.ite ((h.upd (pwr := nofun)).heathLeave) h.clearRun

/-- What `Dev.takeAction` may write. -/
abbrev Dev.takeActionScope : Dev.Scope := { freeCount := true, staged := true, mem := true, tick := true, acq := true, hop := true, img := true, ct := true, aux := true, cal := true, seq := true, panel := true, hp := true, ring := true, cl := true, pp := true, pwr := true, flt := true, regs := [R.SYS_CTRL, R.SYS_STATUS, R.SYS_REASON, R.SYS_HALT_INFO, R.ACQ_STATUS, R.HOP_STATUS, R.CAL_STATUS, R.CAL_REASON, R.SEQ_STATUS, R.SEQ_EVPEND, R.GPIO_STATUS, R.GPIO_SWAPST, R.HP_ATTN, R.XR_ECCSB, R.XR_ECCDB, R.RQ_PI, R.RQ_CI, R.RQ_SEQX, R.RQ_LOST, R.RQ_STATUS, R.PP_STATUS, R.PP_COUNTS2, R.PWR_ON, R.PWR_RES, R.PWR_DST0, R.PWR_DST1, R.PWR_WSRC, R.FLT_LOG, R.FLT_LAST, R.FLT_WOPEN], fams := [(0x3ce0, 4), (0x1818, 32), (0x1820, 32), (0x44c0, 4)] }

theorem Dev.Keeps.takeAction {w : Dev.Scope} {d₀ d : Dev} {a : Nat × Nat × Nat} (h : Dev.Keeps w d₀ d)
    (hw : Dev.takeActionScope.le w = true := by decide) : Dev.Keeps w d₀ (d.takeAction a) := by
  refine h.step hw ?_
  have h : Dev.Keeps Dev.takeActionScope d d := .refl
  unfold Dev.takeAction
  extract_lets e1
  split
  · extract_lets act1
    exact Dev.Keeps.ite h (Dev.Keeps.ite h.halt (Dev.Keeps.ite (Dev.Keeps.ite (h.upd (flt := nofun)) (Dev.Keeps.ite (h.upd (flt := nofun)) (Dev.Keeps.ite h.ppDisarmPeriodic (Dev.Keeps.ite ((Dev.Keeps.ite h.clusterDown h).runEnds) h)))) h))

/-- What `Dev.settleFaults` may write. -/
abbrev Dev.settleFaultsScope : Dev.Scope := { Dev.takeActionScope with flt := true }

theorem Dev.Keeps.settleFaults {w : Dev.Scope} {d₀ d : Dev} {n : Nat} (h : Dev.Keeps w d₀ d)
    (hw : Dev.settleFaultsScope.le w = true := by decide) : Dev.Keeps w d₀ (Dev.settleFaults n d) := by
  refine h.step hw ?_
  suffices ∀ e, Dev.Keeps Dev.settleFaultsScope d e → Dev.Keeps Dev.settleFaultsScope d (Dev.settleFaults n e) from this d .refl
  induction n with
  | zero => exact fun e he => he.upd (flt := nofun)
  | succ n ih =>
    intro e he
    unfold Dev.settleFaults
    exact .ite he (ih _ (Dev.Keeps.foldl (fun _ _ h => h.takeAction) (he.upd (flt := nofun))))

/-- What `Dev.eccNote` may write. -/
abbrev Dev.eccNoteScope : Dev.Scope := { mem := true, ring := true, flt := true, regs := [R.HP_ATTN, R.XR_ECCSB, R.XR_ECCDB, R.RQ_PI, R.RQ_CI, R.RQ_SEQX, R.FLT_LOG, R.FLT_LAST, R.FLT_WOPEN], fams := [(0x44c0, 4)] }

theorem Dev.Keeps.eccNote {w : Dev.Scope} {d₀ d : Dev}  (h : Dev.Keeps w d₀ d)
    (hw : Dev.eccNoteScope.le w = true := by decide) : Dev.Keeps w d₀ (d.eccNote) := by
  refine h.step hw ?_
  have h : Dev.Keeps Dev.eccNoteScope d d := .refl
  unfold Dev.eccNote
  extract_lets e1
  exact Dev.Keeps.foldl (fun _ _ h2 => h2.noteEvent) (h.upd (mem := nofun))

/-- What `Dev.eccFlush` may write. -/
abbrev Dev.eccFlushScope : Dev.Scope := { freeCount := true, staged := true, mem := true, tick := true, acq := true, hop := true, img := true, ct := true, aux := true, cal := true, seq := true, panel := true, hp := true, ring := true, cl := true, pp := true, pwr := true, flt := true, regs := [R.SYS_CTRL, R.SYS_STATUS, R.SYS_REASON, R.SYS_HALT_INFO, R.ACQ_STATUS, R.HOP_STATUS, R.CAL_STATUS, R.CAL_REASON, R.SEQ_STATUS, R.SEQ_EVPEND, R.GPIO_STATUS, R.GPIO_SWAPST, R.HP_ATTN, R.XR_ECCSB, R.XR_ECCDB, R.RQ_PI, R.RQ_CI, R.RQ_SEQX, R.RQ_LOST, R.RQ_STATUS, R.PP_STATUS, R.PP_COUNTS2, R.PWR_ON, R.PWR_RES, R.PWR_DST0, R.PWR_DST1, R.PWR_WSRC, R.FLT_LOG, R.FLT_LAST, R.FLT_WOPEN], fams := [(0x3ce0, 4), (0x1818, 32), (0x1820, 32), (0x44c0, 4)] }

theorem Dev.Keeps.eccFlush {w : Dev.Scope} {d₀ d : Dev}  (h : Dev.Keeps w d₀ d)
    (hw : Dev.eccFlushScope.le w = true := by decide) : Dev.Keeps w d₀ (d.eccFlush) := by
  refine h.step hw ?_
  have h : Dev.Keeps Dev.eccFlushScope d d := .refl
  unfold Dev.eccFlush
  exact Dev.Keeps.ite h h.eccNote.settleFaults

/-- What `Dev.eccTouch` may write. -/
abbrev Dev.eccTouchScope : Dev.Scope := { freeCount := true, staged := true, mem := true, tick := true, acq := true, hop := true, img := true, ct := true, aux := true, cal := true, seq := true, panel := true, hp := true, ring := true, cl := true, pp := true, pwr := true, flt := true, regs := [R.SYS_CTRL, R.SYS_STATUS, R.SYS_REASON, R.SYS_HALT_INFO, R.ACQ_STATUS, R.HOP_STATUS, R.CAL_STATUS, R.CAL_REASON, R.SEQ_STATUS, R.SEQ_EVPEND, R.GPIO_STATUS, R.GPIO_SWAPST, R.HP_ATTN, R.XR_ECCSB, R.XR_ECCDB, R.RQ_PI, R.RQ_CI, R.RQ_SEQX, R.RQ_LOST, R.RQ_STATUS, R.PP_STATUS, R.PP_COUNTS2, R.PWR_ON, R.PWR_RES, R.PWR_DST0, R.PWR_DST1, R.PWR_WSRC, R.FLT_LOG, R.FLT_LAST, R.FLT_WOPEN], fams := [(0x3ce0, 4), (0x1818, 32), (0x1820, 32), (0x44c0, 4)] }

theorem Dev.Keeps.eccTouch {w : Dev.Scope} {d₀ d : Dev} {client : Nat} {o : Nat} {n : Nat} (h : Dev.Keeps w d₀ d)
    (hw : Dev.eccTouchScope.le w = true := by decide) : Dev.Keeps w d₀ (d.eccTouch client o n) := by
  refine h.step hw ?_
  have h : Dev.Keeps Dev.eccTouchScope d d := .refl
  unfold Dev.eccTouch
  exact (Dev.Keeps.foldl (fun _ _ h2 => h2.eccMeet) h).eccFlush

/-- What `Dev.ppAhead` may write. -/
abbrev Dev.ppAheadScope : Dev.Scope := { freeCount := true, staged := true, mem := true, tick := true, acq := true, hop := true, img := true, ct := true, aux := true, cal := true, seq := true, panel := true, hp := true, ring := true, cl := true, pp := true, pwr := true, flt := true, regs := [R.SYS_CTRL, R.SYS_STATUS, R.SYS_REASON, R.SYS_HALT_INFO, R.ACQ_STATUS, R.HOP_STATUS, R.CAL_STATUS, R.CAL_REASON, R.SEQ_STATUS, R.SEQ_EVPEND, R.GPIO_STATUS, R.GPIO_SWAPST, R.HP_ATTN, R.XR_ECCSB, R.XR_ECCDB, R.RQ_PI, R.RQ_CI, R.RQ_SEQX, R.RQ_LOST, R.RQ_STATUS, R.PP_STATUS, R.PP_COUNTS2, R.PWR_ON, R.PWR_RES, R.PWR_DST0, R.PWR_DST1, R.PWR_WSRC, R.FLT_LOG, R.FLT_LAST, R.FLT_WOPEN], fams := [(0x3ce0, 4), (0x1818, 32), (0x1820, 32), (0x44c0, 4)] }

theorem Dev.Keeps.ppAhead {w : Dev.Scope} {d₀ d : Dev}  (h : Dev.Keeps w d₀ d)
    (hw : Dev.ppAheadScope.le w = true := by decide) : Dev.Keeps w d₀ (d.ppAhead) := by
  refine h.step hw ?_
  have h : Dev.Keeps Dev.ppAheadScope d d := .refl
  unfold Dev.ppAhead
  extract_lets e1
  split
  · exact h
  · split
    · exact h
    · extract_lets n1
      exact (h.upd (pp := nofun)).eccTouch

/-- What `Dev.ppJoin` may write. -/
abbrev Dev.ppJoinScope : Dev.Scope := { freeCount := true, staged := true, mem := true, tick := true, acq := true, hop := true, img := true, ct := true, aux := true, cal := true, seq := true, panel := true, hp := true, ring := true, cl := true, pp := true, pwr := true, flt := true, regs := [R.SYS_CTRL, R.SYS_STATUS, R.SYS_REASON, R.SYS_HALT_INFO, R.ACQ_STATUS, R.HOP_STATUS, R.CAL_STATUS, R.CAL_REASON, R.SEQ_STATUS, R.SEQ_EVPEND, R.GPIO_STATUS, R.GPIO_SWAPST, R.HP_ATTN, R.XR_ECCSB, R.XR_ECCDB, R.RQ_PI, R.RQ_CI, R.RQ_SEQX, R.RQ_LOST, R.RQ_STATUS, R.PP_STATUS, R.PP_COUNTS2, R.PWR_ON, R.PWR_RES, R.PWR_DST0, R.PWR_DST1, R.PWR_WSRC, R.FLT_LOG, R.FLT_LAST, R.FLT_WOPEN], fams := [(0x3ce0, 4), (0x1818, 32), (0x1820, 32), (0x44c0, 4)] }

theorem Dev.Keeps.ppJoin {w : Dev.Scope} {d₀ d : Dev} {x : Xfer} (h : Dev.Keeps w d₀ d)
    (hw : Dev.ppJoinScope.le w = true := by decide) : Dev.Keeps w d₀ (d.ppJoin x) := by
  refine h.step hw ?_
  have h : Dev.Keeps Dev.ppJoinScope d d := .refl
  unfold Dev.ppJoin
  extract_lets d1
  have hd1 : Dev.Keeps Dev.ppJoinScope d d1 := Dev.Keeps.ite (h.ppState.put (Dev.Scope.has_fam 0x3ce0 4 _)) h
  exact hd1.ppQueue.ppAhead

/-- What `Dev.bootNext` may write. -/
abbrev Dev.bootNextScope : Dev.Scope := { freeCount := true, staged := true, mem := true, tick := true, acq := true, hop := true, img := true, ct := true, aux := true, cal := true, seq := true, panel := true, hp := true, ring := true, cl := true, pp := true, pwr := true, flt := true, regs := [R.SYS_CTRL, R.SYS_STATUS, R.SYS_REASON, R.SYS_HALT_INFO, R.ACQ_STATUS, R.HOP_STATUS, R.CAL_STATUS, R.CAL_REASON, R.SEQ_STATUS, R.SEQ_EVPEND, R.SEQ_IMGVER, R.SEQ_VRES, R.GPIO_STATUS, R.GPIO_SWAPST, R.HP_ATTN, R.XR_ECCSB, R.XR_ECCDB, R.RQ_PI, R.RQ_CI, R.RQ_SEQX, R.RQ_LOST, R.RQ_STATUS, R.PP_STATUS, R.PP_COUNTS2, R.PWR_ON, R.PWR_RES, R.PWR_DST0, R.PWR_DST1, R.PWR_WSRC, R.FLT_LOG, R.FLT_LAST, R.FLT_WOPEN], fams := [(0x240c, 16), (0x2408, 16), (0x2400, 16), (0x2404, 16), (0x3ce0, 4), (0x1818, 32), (0x1820, 32), (0x44c0, 4)] }

theorem Dev.Keeps.bootNext {w : Dev.Scope} {d₀ d : Dev}  (h : Dev.Keeps w d₀ d)
    (hw : Dev.bootNextScope.le w = true := by decide) : Dev.Keeps w d₀ (d.bootNext) := by
  refine h.step hw ?_
  have h : Dev.Keeps Dev.bootNextScope d d := .refl
  unfold Dev.bootNext
  extract_lets n1
  exact Dev.Keeps.ite h.bootVerify h.ppJoin

/-- What `Dev.bootStart` may write. -/
abbrev Dev.bootStartScope : Dev.Scope := { freeCount := true, staged := true, mem := true, tick := true, acq := true, hop := true, img := true, ct := true, aux := true, cal := true, seq := true, panel := true, hp := true, ring := true, cl := true, pp := true, pwr := true, flt := true, regs := [R.SYS_CTRL, R.SYS_STATUS, R.SYS_REASON, R.SYS_HALT_INFO, R.ACQ_STATUS, R.HOP_STATUS, R.CAL_STATUS, R.CAL_REASON, R.SEQ_STATUS, R.SEQ_EVPEND, R.SEQ_IMGVER, R.SEQ_VRES, R.GPIO_STATUS, R.GPIO_SWAPST, R.HP_ATTN, R.XR_ECCSB, R.XR_ECCDB, R.RQ_PI, R.RQ_CI, R.RQ_SEQX, R.RQ_LOST, R.RQ_STATUS, R.PP_STATUS, R.PP_COUNTS2, R.PWR_ON, R.PWR_RES, R.PWR_DST0, R.PWR_DST1, R.PWR_WSRC, R.FLT_LOG, R.FLT_LAST, R.FLT_WOPEN], fams := [(0x240c, 16), (0x2408, 16), (0x2400, 16), (0x2404, 16), (0x3ce0, 4), (0x1818, 32), (0x1820, 32), (0x44c0, 4)] }

theorem Dev.Keeps.bootStart {w : Dev.Scope} {d₀ d : Dev}  (h : Dev.Keeps w d₀ d)
    (hw : Dev.bootStartScope.le w = true := by decide) : Dev.Keeps w d₀ (d.bootStart) := by
  refine h.step hw ?_
  have h : Dev.Keeps Dev.bootStartScope d d := .refl
  unfold Dev.bootStart
  extract_lets e1 d1
  have hd1 : Dev.Keeps Dev.bootStartScope d d1 := h.upd (seq := nofun)
  exact Dev.Keeps.ite hd1.bootNext h

/-- What `Dev.fallowExit` may write. -/
abbrev Dev.fallowExitScope : Dev.Scope := { aux := true, pwr := true, regs := [R.SYS_STATUS, R.PWR_ON, R.PWR_DST0, R.PWR_DST1], fams := [(0x1818, 32), (0x1820, 32)] }

theorem Dev.Keeps.fallowExit {w : Dev.Scope} {d₀ d : Dev}  (h : Dev.Keeps w d₀ d)
    (hw : Dev.fallowExitScope.le w = true := by decide) : Dev.Keeps w d₀ (d.fallowExit) := by
  refine h.step hw ?_
  have h : Dev.Keeps Dev.fallowExitScope d d := .refl
  unfold Dev.fallowExit
  extract_lets e1 d1
  have hd1 : Dev.Keeps Dev.fallowExitScope d d1 := h.upd (pwr := nofun)
  exact Dev.Keeps.ite h hd1.setSt.switchOnMask

/-- What `Dev.ppBootDrop` may write. -/
abbrev Dev.ppBootDropScope : Dev.Scope := { pp := true, regs := [R.PP_STATUS] }

theorem Dev.Keeps.ppBootDrop {w : Dev.Scope} {d₀ d : Dev}  (h : Dev.Keeps w d₀ d)
    (hw : Dev.ppBootDropScope.le w = true := by decide) : Dev.Keeps w d₀ (d.ppBootDrop) := by
  refine h.step hw ?_
  have h : Dev.Keeps Dev.ppBootDropScope d d := .refl
  unfold Dev.ppBootDrop
  extract_lets d1
  have hd1 : Dev.Keeps Dev.ppBootDropScope d d1 := h.ppQueue
  exact Dev.Keeps.ite hd1.ppIdle hd1

/-- What `Dev.seatAgain` may write. -/
abbrev Dev.seatAgainScope : Dev.Scope := { freeCount := true, staged := true, mem := true, sys := true, tick := true, acq := true, hop := true, img := true, ct := true, aux := true, cal := true, seq := true, panel := true, hp := true, ring := true, cl := true, pp := true, pwr := true, flt := true, regs := [R.SYS_CTRL, R.SYS_STATUS, R.SYS_REASON, R.SYS_STRAPS, R.SYS_HALT_INFO, R.ACQ_STATUS, R.HOP_STATUS, R.CAL_STATUS, R.CAL_REASON, R.SEQ_STATUS, R.SEQ_EVPEND, R.SEQ_IMGVER, R.SEQ_VRES, R.GPIO_STATUS, R.GPIO_SWAPST, R.HP_ATTN, R.XR_ECCSB, R.XR_ECCDB, R.RQ_PI, R.RQ_CI, R.RQ_SEQX, R.RQ_LOST, R.RQ_STATUS, R.PP_STATUS, R.PP_COUNTS2, R.PWR_ON, R.PWR_RES, R.PWR_DST0, R.PWR_DST1, R.PWR_WSRC, R.FLT_LOG, R.FLT_LAST, R.FLT_WOPEN], fams := [(0x1818, 32), (0x1820, 32), (0x240c, 16), (0x2408, 16), (0x2400, 16), (0x2404, 16), (0x3ce0, 4), (0x44c0, 4)] }

theorem Dev.Keeps.seatAgain {w : Dev.Scope} {d₀ d : Dev}  (h : Dev.Keeps w d₀ d)
    (hw : Dev.seatAgainScope.le w = true := by decide) : Dev.Keeps w d₀ (d.seatAgain) := by
  refine h.step hw ?_
  have h : Dev.Keeps Dev.seatAgainScope d d := .refl
  unfold Dev.seatAgain
  extract_lets d1 e1 d2 d3 d4 d5 e2 d6 d7
  have hd1 : Dev.Keeps Dev.seatAgainScope d d1 := h.put.put
  have hd2 : Dev.Keeps Dev.seatAgainScope d d2 := hd1.upd (sys := nofun)
  have hd3 : Dev.Keeps Dev.seatAgainScope d d3 := hd2.setSt
  have hd4 : Dev.Keeps Dev.seatAgainScope d d4 := hd3.pumpTo
  have hd5 : Dev.Keeps Dev.seatAgainScope d d5 := hd4.switchOnMask
  have hd6 : Dev.Keeps Dev.seatAgainScope d d6 := hd5.upd (pwr := nofun)
  have hd7 : Dev.Keeps Dev.seatAgainScope d d7 := Dev.Keeps.ite hd6.hostBack hd6
  exact Dev.Keeps.ite h (Dev.Keeps.ite (Dev.Keeps.ite hd2.pumpTo hd2) (Dev.Keeps.ite hd2.fallowExit (Dev.Keeps.ite hd7.ppBootDrop.bootStart hd7)))

/-- What `Dev.pumpStop` may write. -/
abbrev Dev.pumpStopScope : Dev.Scope := { acq := true, regs := [R.ACQ_STATUS] }

theorem Dev.Keeps.pumpStop {w : Dev.Scope} {d₀ d : Dev}  (h : Dev.Keeps w d₀ d)
    (hw : Dev.pumpStopScope.le w = true := by decide) : Dev.Keeps w d₀ (d.pumpStop) := by
  refine h.step hw ?_
  have h : Dev.Keeps Dev.pumpStopScope d d := .refl
  unfold Dev.pumpStop
  extract_lets d1 e1
  have hd1 : Dev.Keeps Dev.pumpStopScope d d1 := Dev.Keeps.ite h h.put
  exact hd1.upd (acq := nofun)

/-- What `Dev.ppFrameAbort` may write. -/
abbrev Dev.ppFrameAbortScope : Dev.Scope := { freeCount := true, staged := true, mem := true, tick := true, acq := true, hop := true, img := true, ct := true, aux := true, cal := true, seq := true, panel := true, hp := true, ring := true, cl := true, pp := true, pwr := true, flt := true, regs := [R.SYS_CTRL, R.SYS_STATUS, R.SYS_REASON, R.SYS_HALT_INFO, R.ACQ_STATUS, R.HOP_STATUS, R.CAL_STATUS, R.CAL_REASON, R.SEQ_STATUS, R.SEQ_EVPEND, R.GPIO_STATUS, R.GPIO_SWAPST, R.HP_ATTN, R.XR_ECCSB, R.XR_ECCDB, R.RQ_PI, R.RQ_CI, R.RQ_SEQX, R.RQ_LOST, R.RQ_STATUS, R.PP_STATUS, R.PP_COUNTS2, R.PWR_ON, R.PWR_RES, R.PWR_DST0, R.PWR_DST1, R.PWR_WSRC, R.FLT_LOG, R.FLT_LAST, R.FLT_WOPEN], fams := [(0x3ce0, 4), (0x1818, 32), (0x1820, 32), (0x44c0, 4)] }

theorem Dev.Keeps.ppFrameAbort {w : Dev.Scope} {d₀ d : Dev} {n : Nat} {rx : List Byte} (h : Dev.Keeps w d₀ d)
    (hw : Dev.ppFrameAbortScope.le w = true := by decide) : Dev.Keeps w d₀ (d.ppFrameAbort n rx) := by
  refine h.step hw ?_
  have h : Dev.Keeps Dev.ppFrameAbortScope d d := .refl
  unfold Dev.ppFrameAbort
  split
  · exact h
  · exact h.ppCut.eccFlush

/-- What `Dev.removeOutputs` may write. -/
abbrev Dev.removeOutputsScope : Dev.Scope := { freeCount := true, staged := true, mem := true, sys := true, tick := true, acq := true, hop := true, img := true, ct := true, aux := true, cal := true, seq := true, panel := true, hp := true, ring := true, cl := true, pp := true, pwr := true, flt := true, regs := [R.SYS_CTRL, R.SYS_STATUS, R.SYS_REASON, R.SYS_HALT_INFO, R.ACQ_STATUS, R.HOP_STATUS, R.CAL_STATUS, R.CAL_REASON, R.SEQ_STATUS, R.SEQ_EVPEND, R.GPIO_STATUS, R.GPIO_SWAPST, R.HP_ATTN, R.XR_ECCSB, R.XR_ECCDB, R.RQ_PI, R.RQ_CI, R.RQ_SEQX, R.RQ_LOST, R.RQ_STATUS, R.PP_STATUS, R.PP_COUNTS2, R.PWR_ON, R.PWR_RES, R.PWR_DST0, R.PWR_DST1, R.PWR_WSRC, R.FLT_LOG, R.FLT_LAST, R.FLT_WOPEN], fams := [(0x3ce0, 4), (0x1818, 32), (0x1820, 32), (0x44c0, 4)] }

theorem Dev.Keeps.removeOutputs {w : Dev.Scope} {d₀ d : Dev} {n : Nat} {rx : List Byte} (h : Dev.Keeps w d₀ d)
    (hw : Dev.removeOutputsScope.le w = true := by decide) : Dev.Keeps w d₀ (d.removeOutputs n rx) := by
  refine h.step hw ?_
  have h : Dev.Keeps Dev.removeOutputsScope d d := .refl
  unfold Dev.removeOutputs
  extract_lets d1 e1 e2 e3 d2
  have hd1 : Dev.Keeps Dev.removeOutputsScope d d1 := h.ppFrameAbort
  have hd2 : Dev.Keeps Dev.removeOutputsScope d d2 := hd1.upd (sys := nofun) (panel := nofun) (hp := nofun)
  exact hd2.pwmSettle

/-- What `Dev.removeFallow` may write. -/
abbrev Dev.removeFallowScope : Dev.Scope := { pwr := true, regs := [R.SYS_STATUS, R.HP_STATUS, R.PWR_WSRC] }

theorem Dev.Keeps.removeFallow {w : Dev.Scope} {d₀ d : Dev}  (h : Dev.Keeps w d₀ d)
    (hw : Dev.removeFallowScope.le w = true := by decide) : Dev.Keeps w d₀ (d.removeFallow) := by
  refine h.step hw ?_
  have h : Dev.Keeps Dev.removeFallowScope d d := .refl
  unfold Dev.removeFallow
  extract_lets d1 e1
  have hd1 : Dev.Keeps Dev.removeFallowScope d d1 := h.setSt.put.put
  exact hd1.upd (pwr := nofun)

/-- What `Dev.cqPass` may write. -/
abbrev Dev.cqPassScope : Dev.Scope := { mem := true, regs := [R.XR_ECCSB, R.XR_ECCDB, R.CQ_CI, R.CQ_SEQX, R.CQ_COUNTS] }

theorem Dev.Keeps.cqPass {w : Dev.Scope} {d₀ d : Dev} {flags : Nat} {slot : Nat} (h : Dev.Keeps w d₀ d)
    (hw : Dev.cqPassScope.le w = true := by decide) : Dev.Keeps w d₀ (d.cqPass flags slot) := by
  refine h.step hw ?_
  have h : Dev.Keeps Dev.cqPassScope d d := .refl
  unfold Dev.cqPass
  extract_lets ci1 d1
  have hd1 : Dev.Keeps Dev.cqPassScope d d1 := Dev.Keeps.ite h.xwriteClean h
  exact hd1.put.put.incWrap

/-- What `Dev.batchClose` may write. -/
abbrev Dev.batchCloseScope : Dev.Scope := { mem := true, ring := true, regs := [R.HP_ATTN, R.RQ_PI, R.RQ_SEQX, R.RQ_STATUS] }

theorem Dev.Keeps.batchClose {w : Dev.Scope} {d₀ d : Dev} {status : Nat} (h : Dev.Keeps w d₀ d)
    (hw : Dev.batchCloseScope.le w = true := by decide) : Dev.Keeps w d₀ (d.batchClose status) := by
  refine h.step hw ?_
  have h : Dev.Keeps Dev.batchCloseScope d d := .refl
  unfold Dev.batchClose
  extract_lets e1
  split
  · exact h
  · exact (h.upd (ring := nofun)).complete

/-- What `Dev.fenceEnd` may write. -/
abbrev Dev.fenceEndScope : Dev.Scope := { mem := true, ring := true, regs := [R.HP_ATTN, R.XR_ECCSB, R.XR_ECCDB, R.CQ_CI, R.CQ_SEQX, R.CQ_COUNTS, R.RQ_PI, R.RQ_SEQX, R.RQ_STATUS] }

theorem Dev.Keeps.fenceEnd {w : Dev.Scope} {d₀ d : Dev} {status : Nat} {detail : Nat} (h : Dev.Keeps w d₀ d)
    (hw : Dev.fenceEndScope.le w = true := by decide) : Dev.Keeps w d₀ (d.fenceEnd status detail) := by
  refine h.step hw ?_
  have h : Dev.Keeps Dev.fenceEndScope d d := .refl
  unfold Dev.fenceEnd
  extract_lets e1 d1
  have hd1 : Dev.Keeps Dev.fenceEndScope d d1 := h.upd (ring := nofun)
  split
  · exact h
  · extract_lets d2
    have hd2 : Dev.Keeps Dev.fenceEndScope d d2 := hd1.cqPass
    exact Dev.Keeps.ite hd2.batchClose hd2

/-- What `Dev.fallowReached` may write. -/
abbrev Dev.fallowReachedScope : Dev.Scope := { aux := true, panel := true, pwr := true, regs := [R.SYS_STATUS, R.HP_STATUS, R.PWR_ON, R.PWR_DST0, R.PWR_DST1, R.PWR_WSRC, R.PWR_COUNTS], fams := [(0x1818, 32), (0x1820, 32)] }

theorem Dev.Keeps.fallowReached {w : Dev.Scope} {d₀ d : Dev}  (h : Dev.Keeps w d₀ d)
    (hw : Dev.fallowReachedScope.le w = true := by decide) : Dev.Keeps w d₀ (d.fallowReached) := by
  refine h.step hw ?_
  have h : Dev.Keeps Dev.fallowReachedScope d d := .refl
  unfold Dev.fallowReached
  extract_lets e1 d1 d2
  have hd1 : Dev.Keeps Dev.fallowReachedScope d d1 := h.upd (pwr := nofun)
  have hd2 : Dev.Keeps Dev.fallowReachedScope d d2 := hd1.pwmSettle.inc
  exact Dev.Keeps.ite hd2.removeFallow (Dev.Keeps.ite hd2.fallowExit hd2)

/-- What `Dev.clusterLeave` may write. -/
abbrev Dev.clusterLeaveScope : Dev.Scope := { freeCount := true, acq := true, cl := true, regs := [R.ACQ_STATUS] }

theorem Dev.Keeps.clusterLeave {w : Dev.Scope} {d₀ d : Dev}  (h : Dev.Keeps w d₀ d)
    (hw : Dev.clusterLeaveScope.le w = true := by decide) : Dev.Keeps w d₀ (d.clusterLeave) := by
  refine h.step hw ?_
  have h : Dev.Keeps Dev.clusterLeaveScope d d := .refl
  unfold Dev.clusterLeave
  extract_lets e1 e2
  have he1 : Dev.Keeps Dev.clusterLeaveScope d e1 := h.sendK.acqStop
  exact Dev.Keeps.ite (he1.upd (cl := nofun)) h

/-- What `Dev.calEnds` may write, but for what ends the run. -/
abbrev Dev.calEndsScope : Dev.Scope := Dev.settleFaultsScope

theorem Dev.Keeps.calEnds {w : Dev.Scope} {d₀ d : Dev} {f : Dev → Dev} (h : Dev.Keeps w d₀ d)
    (hf : ∀ x, Dev.Keeps w d₀ x → Dev.Keeps w d₀ (f x)) (hw : Dev.calEndsScope.le w = true := by decide) :
    Dev.Keeps w d₀ (d.calEnds f) :=
  .ite ((hf _ h).settleFaults hw) (hf _ h)

/-- What `Dev.calTaken` may write. -/
abbrev Dev.calTakenScope : Dev.Scope := { regs := [R.CAL_STATUS, R.CAL_COUNT0, R.CAL_COUNT1], fams := [(0x1c30, 8), (0x1c34, 8)] }

theorem Dev.Keeps.calTaken {w : Dev.Scope} {d₀ d : Dev} {kind : Nat} (h : Dev.Keeps w d₀ d)
    (hw : Dev.calTakenScope.le w = true := by decide) : Dev.Keeps w d₀ (d.calTaken kind) := by
  refine h.step hw ?_
  have h : Dev.Keeps Dev.calTakenScope d d := .refl
  unfold Dev.calTaken
  extract_lets d1 d2 d3 d4
  have hd1 : Dev.Keeps Dev.calTakenScope d d1 := h.put
  have hd2 : Dev.Keeps Dev.calTakenScope d d2 := hd1.put
  have hd3 : Dev.Keeps Dev.calTakenScope d d3 := hd2.put
  have hd4 : Dev.Keeps Dev.calTakenScope d d4 := hd3.inc (by unfold calCount; split_ifs <;> rfl)
  exact (hd4.setReg (Dev.Scope.has_fam 0x1c30 8 _)).setReg (Dev.Scope.has_fam 0x1c34 8 _)

/-- What `Dev.convCal` may write. -/
abbrev Dev.convCalScope : Dev.Scope := { aux := true, regs := [R.CAL_STATUS, R.CAL_COUNT0, R.CAL_COUNT1], fams := [(0x1c58, 8), (0x1c5c, 8), (0x1c30, 8), (0x1c34, 8)] }

theorem Dev.Keeps.convCal {w : Dev.Scope} {d₀ d : Dev} {n : Nat} (h : Dev.Keeps w d₀ d)
    (hw : Dev.convCalScope.le w = true := by decide) : Dev.Keeps w d₀ (d.convCal n) := by
  refine h.step hw ?_
  have h : Dev.Keeps Dev.convCalScope d d := .refl
  unfold Dev.convCal
  extract_lets c1 d1
  have hd1 : Dev.Keeps Dev.convCalScope d d1 := h.setConv
  split
  · exact h
  · extract_lets d2
    have hd2 : Dev.Keeps Dev.convCalScope d d2 := (hd1.put (Dev.Scope.has_fam 0x1c58 8 _)).put (Dev.Scope.has_fam 0x1c5c 8 _)
    exact Dev.Keeps.ite hd2.calTaken hd2

/-- What `Dev.syncReset` may write. -/
abbrev Dev.syncResetScope : Dev.Scope := { aux := true, regs := [R.AUX_COUNTS, R.CAL_STATUS, R.CAL_COUNT0, R.CAL_COUNT1], fams := [(0x1c58, 8), (0x1c5c, 8), (0x1c30, 8), (0x1c34, 8), (0x1818, 32), (0x1820, 32)] }

theorem Dev.Keeps.syncReset {w : Dev.Scope} {d₀ d : Dev} {n : Nat} (h : Dev.Keeps w d₀ d)
    (hw : Dev.syncResetScope.le w = true := by decide) : Dev.Keeps w d₀ (d.syncReset n) := by
  refine h.step hw ?_
  have h : Dev.Keeps Dev.syncResetScope d d := .refl
  unfold Dev.syncReset
  extract_lets c1 d1 d2
  have hd1 : Dev.Keeps Dev.syncResetScope d d1 := Dev.Keeps.ite (h.inc (by split <;> rfl)) h
  have hd2 : Dev.Keeps Dev.syncResetScope d d2 := hd1.setConv
  exact Dev.Keeps.ite h hd2.convStart.convCal

/-- What `Dev.calAbortAux` may write. -/
abbrev Dev.calAbortAuxScope : Dev.Scope := { mem := true, aux := true, cal := true, ring := true, flt := true, regs := [R.AUX_COUNTS, R.CAL_STATUS, R.CAL_REASON, R.CAL_COUNT0, R.CAL_COUNT1, R.SEQ_EVPEND, R.HP_ATTN, R.XR_ECCSB, R.XR_ECCDB, R.RQ_PI, R.RQ_CI, R.RQ_SEQX, R.RQ_LOST, R.RQ_STATUS, R.FLT_LOG, R.FLT_LAST, R.FLT_WOPEN], fams := [(0x44c0, 4), (0x1c58, 8), (0x1c5c, 8), (0x1c30, 8), (0x1c34, 8), (0x1818, 32), (0x1820, 32)] }

theorem Dev.Keeps.calAbortAux {w : Dev.Scope} {d₀ d : Dev} {code : Nat} {detail : Nat} (h : Dev.Keeps w d₀ d)
    (hw : Dev.calAbortAuxScope.le w = true := by decide) : Dev.Keeps w d₀ (d.calAbortAux code detail) := by
  refine h.step hw ?_
  have h : Dev.Keeps Dev.calAbortAuxScope d d := .refl
  unfold Dev.calAbortAux
  extract_lets d1
  have hd1 : Dev.Keeps Dev.calAbortAuxScope d d1 := h.calFail
  split
  · exact h
  · exact Dev.Keeps.foldl (fun _ _ h3 => Dev.Keeps.ite h3.syncReset h3) hd1

/-- What `Dev.auxDrain` may write. -/
abbrev Dev.auxDrainScope : Dev.Scope := { mem := true, aux := true, cal := true, ring := true, flt := true, regs := [R.AUX_COUNTS, R.CAL_STATUS, R.CAL_REASON, R.CAL_COUNT0, R.CAL_COUNT1, R.SEQ_EVPEND, R.HP_ATTN, R.XR_ECCSB, R.XR_ECCDB, R.RQ_PI, R.RQ_CI, R.RQ_SEQX, R.RQ_LOST, R.RQ_STATUS, R.FLT_LOG, R.FLT_LAST, R.FLT_WOPEN], fams := [(0x44c0, 4), (0x1c58, 8), (0x1c5c, 8), (0x1c30, 8), (0x1c34, 8), (0x1818, 32), (0x1820, 32)] }

theorem Dev.Keeps.auxDrain {w : Dev.Scope} {d₀ d : Dev}  (h : Dev.Keeps w d₀ d)
    (hw : Dev.auxDrainScope.le w = true := by decide) : Dev.Keeps w d₀ (d.auxDrain) := by
  refine h.step hw ?_
  have h : Dev.Keeps Dev.auxDrainScope d d := .refl
  unfold Dev.auxDrain
  extract_lets d1 waits1 d2 d3
  have hd1 : Dev.Keeps Dev.auxDrainScope d d1 := h.calAbortAux
  have hd2 : Dev.Keeps Dev.auxDrainScope d d2 := hd1.upd (aux := nofun)
  have hd3 : Dev.Keeps Dev.auxDrainScope d d3 := Dev.Keeps.foldl (fun _ _ h4 => (h4.put (Dev.Scope.has_fam 0x1820 32 _)).put (Dev.Scope.has_fam 0x1818 32 _)) hd2
  exact Dev.Keeps.ite hd3.put.calReason hd3

/-- What `Dev.drainStart` may write. -/
abbrev Dev.drainStartScope : Dev.Scope := { freeCount := true, staged := true, mem := true, tick := true, acq := true, hop := true, img := true, ct := true, aux := true, cal := true, seq := true, panel := true, hp := true, ring := true, cl := true, pp := true, pwr := true, flt := true, regs := [R.SYS_CTRL, R.SYS_STATUS, R.SYS_REASON, R.SYS_HALT_INFO, R.ACQ_STATUS, R.HOP_STATUS, R.AUX_COUNTS, R.CAL_STATUS, R.CAL_REASON, R.CAL_COUNT0, R.CAL_COUNT1, R.SEQ_STATUS, R.SEQ_EVPEND, R.GPIO_STATUS, R.GPIO_SWAPST, R.HP_ATTN, R.XR_ECCSB, R.XR_ECCDB, R.RQ_PI, R.RQ_CI, R.RQ_SEQX, R.RQ_LOST, R.RQ_STATUS, R.PP_STATUS, R.PP_COUNTS2, R.PWR_ON, R.PWR_RES, R.PWR_DST0, R.PWR_DST1, R.PWR_WSRC, R.FLT_LOG, R.FLT_LAST, R.FLT_WOPEN], fams := [(0x3ce0, 4), (0x1818, 32), (0x1820, 32), (0x44c0, 4), (0x1c58, 8), (0x1c5c, 8), (0x1c30, 8), (0x1c34, 8)] }

theorem Dev.Keeps.drainStart {w : Dev.Scope} {d₀ d : Dev} {k : Nat} (h : Dev.Keeps w d₀ d)
    (hw : Dev.drainStartScope.le w = true := by decide) : Dev.Keeps w d₀ (d.drainStart k) := by
  refine h.step hw ?_
  have h : Dev.Keeps Dev.drainStartScope d d := .refl
  unfold Dev.drainStart
  extract_lets e1 d1
  have hd1 : Dev.Keeps Dev.drainStartScope d d1 := by
    unfold d1
    split
    · exact h.clusterLeave
    · exact h.calEnds (fun _ h2 => h2.auxDrain)
    · exact h.upd (pwr := nofun)
    · exact h.upd (pwr := nofun)
    · exact h
  exact hd1.setDom

/-- What `Dev.fallowWalk` may write. -/
abbrev Dev.fallowWalkScope : Dev.Scope :=
  { Dev.drainStartScope with freeCount := true, mem := true, hp := true, ring := true, pwr := true
                             regs := Dev.drainStartScope.regs ++ Dev.fallowReachedScope.regs ++ Dev.setDomScope.regs
                             fams := Dev.drainStartScope.fams ++ Dev.fallowReachedScope.fams }

theorem Dev.Keeps.fallowWalk {w : Dev.Scope} {d₀ d : Dev} {l : List Nat} (h : Dev.Keeps w d₀ d)
    (hw : Dev.fallowWalkScope.le w = true := by decide) : Dev.Keeps w d₀ (Dev.fallowWalk l d) := by
  refine h.step hw ?_
  suffices ∀ e, Dev.Keeps Dev.fallowWalkScope d e → Dev.Keeps Dev.fallowWalkScope d (Dev.fallowWalk l e) from this d .refl
  induction l with
  | nil => exact fun e he => he.fallowReached
  | cons k l ih =>
    intro e he
    unfold Dev.fallowWalk
    refine .ite (ih _ he) (.ite he (.ite (ih _ (Dev.Keeps.setDom ?_)) he.drainStart))
    exact he.upd (pwr := nofun)

/-- What `Dev.fallowStep` may write. -/
abbrev Dev.fallowStepScope : Dev.Scope := { freeCount := true, staged := true, mem := true, tick := true, acq := true, hop := true, img := true, ct := true, aux := true, cal := true, seq := true, panel := true, hp := true, ring := true, cl := true, pp := true, pwr := true, flt := true, regs := [R.SYS_CTRL, R.SYS_STATUS, R.SYS_REASON, R.SYS_HALT_INFO, R.ACQ_STATUS, R.HOP_STATUS, R.AUX_COUNTS, R.CAL_STATUS, R.CAL_REASON, R.CAL_COUNT0, R.CAL_COUNT1, R.SEQ_STATUS, R.SEQ_EVPEND, R.GPIO_STATUS, R.GPIO_SWAPST, R.HP_STATUS, R.HP_ATTN, R.XR_ECCSB, R.XR_ECCDB, R.RQ_PI, R.RQ_CI, R.RQ_SEQX, R.RQ_LOST, R.RQ_STATUS, R.PP_STATUS, R.PP_COUNTS2, R.PWR_ON, R.PWR_RES, R.PWR_DST0, R.PWR_DST1, R.PWR_WSRC, R.PWR_COUNTS, R.FLT_LOG, R.FLT_LAST, R.FLT_WOPEN], fams := [(0x3ce0, 4), (0x1818, 32), (0x1820, 32), (0x44c0, 4), (0x1c58, 8), (0x1c5c, 8), (0x1c30, 8), (0x1c34, 8)] }

theorem Dev.Keeps.fallowStep {w : Dev.Scope} {d₀ d : Dev}  (h : Dev.Keeps w d₀ d)
    (hw : Dev.fallowStepScope.le w = true := by decide) : Dev.Keeps w d₀ (d.fallowStep) := by
  refine h.step hw ?_
  have h : Dev.Keeps Dev.fallowStepScope d d := .refl
  unfold Dev.fallowStep
  exact Dev.Keeps.ite h.fallowWalk h

/-- What `Dev.cqOff` may write. -/
abbrev Dev.cqOffScope : Dev.Scope := { ring := true, regs := [R.CQ_CTRL] }

theorem Dev.Keeps.cqOff {w : Dev.Scope} {d₀ d : Dev}  (h : Dev.Keeps w d₀ d)
    (hw : Dev.cqOffScope.le w = true := by decide) : Dev.Keeps w d₀ (d.cqOff) := by
  refine h.step hw ?_
  have h : Dev.Keeps Dev.cqOffScope d d := .refl
  unfold Dev.cqOff
  extract_lets e1 e2
  have he1 : Dev.Keeps Dev.cqOffScope d e1 := h.put
  exact he1.upd (ring := nofun)

/-- What `Dev.fallowEnter` may write. -/
abbrev Dev.fallowEnterScope : Dev.Scope := { freeCount := true, staged := true, mem := true, tick := true, acq := true, hop := true, img := true, ct := true, aux := true, cal := true, seq := true, panel := true, hp := true, ring := true, cl := true, pp := true, pwr := true, flt := true, regs := [R.SYS_CTRL, R.SYS_STATUS, R.SYS_REASON, R.SYS_HALT_INFO, R.ACQ_STATUS, R.HOP_STATUS, R.AUX_COUNTS, R.CAL_STATUS, R.CAL_REASON, R.CAL_COUNT0, R.CAL_COUNT1, R.SEQ_STATUS, R.SEQ_EVPEND, R.GPIO_STATUS, R.GPIO_SWAPST, R.HP_STATUS, R.HP_ATTN, R.XR_ECCSB, R.XR_ECCDB, R.CQ_CTRL, R.CQ_CI, R.CQ_SEQX, R.CQ_COUNTS, R.RQ_CTRL, R.RQ_PI, R.RQ_CI, R.RQ_SEQX, R.RQ_LOST, R.RQ_STATUS, R.PP_STATUS, R.PP_COUNTS2, R.PWR_ON, R.PWR_RES, R.PWR_DST0, R.PWR_DST1, R.PWR_WSRC, R.PWR_COUNTS, R.FLT_LOG, R.FLT_LAST, R.FLT_WOPEN], fams := [(0x3ce0, 4), (0x1818, 32), (0x1820, 32), (0x44c0, 4), (0x1c58, 8), (0x1c5c, 8), (0x1c30, 8), (0x1c34, 8)] }

theorem Dev.Keeps.fallowEnter {w : Dev.Scope} {d₀ d : Dev} {own : Option Async} (h : Dev.Keeps w d₀ d)
    (hw : Dev.fallowEnterScope.le w = true := by decide) : Dev.Keeps w d₀ (d.fallowEnter own) := by
  refine h.step hw ?_
  have h : Dev.Keeps Dev.fallowEnterScope d d := .refl
  unfold Dev.fallowEnter
  extract_lets d1 d2 e1 e2 d3 d4
  have hd1 : Dev.Keeps Dev.fallowEnterScope d d1 := h.endAsyncs
  have hd2 : Dev.Keeps Dev.fallowEnterScope d d2 := hd1.fenceEnd
  have hd3 : Dev.Keeps Dev.fallowEnterScope d d3 := hd2.upd (cl := nofun) (pwr := nofun)
  have hd4 : Dev.Keeps Dev.fallowEnterScope d d4 := hd3.pwrAnswer
  exact hd4.cqOff.put.fallowStep

/-- What `Dev.fallowTake` may write. -/
abbrev Dev.fallowTakeScope : Dev.Scope := { freeCount := true, staged := true, mem := true, tick := true, acq := true, hop := true, img := true, ct := true, aux := true, cal := true, seq := true, panel := true, hp := true, ring := true, cl := true, pp := true, pwr := true, flt := true, regs := [R.SYS_CTRL, R.SYS_STATUS, R.SYS_REASON, R.SYS_HALT_INFO, R.ACQ_STATUS, R.HOP_STATUS, R.AUX_COUNTS, R.CAL_STATUS, R.CAL_REASON, R.CAL_COUNT0, R.CAL_COUNT1, R.SEQ_STATUS, R.SEQ_EVPEND, R.GPIO_STATUS, R.GPIO_SWAPST, R.HP_STATUS, R.HP_ATTN, R.XR_ECCSB, R.XR_ECCDB, R.CQ_CTRL, R.CQ_CI, R.CQ_SEQX, R.CQ_COUNTS, R.RQ_CTRL, R.RQ_PI, R.RQ_CI, R.RQ_SEQX, R.RQ_LOST, R.RQ_STATUS, R.PP_STATUS, R.PP_COUNTS2, R.PWR_ON, R.PWR_RES, R.PWR_DST0, R.PWR_DST1, R.PWR_WSRC, R.PWR_COUNTS, R.FLT_LOG, R.FLT_LAST, R.FLT_WOPEN], fams := [(0x3ce0, 4), (0x1818, 32), (0x1820, 32), (0x44c0, 4), (0x1c58, 8), (0x1c5c, 8), (0x1c30, 8), (0x1c34, 8)] }

theorem Dev.Keeps.fallowTake {w : Dev.Scope} {d₀ d : Dev}  (h : Dev.Keeps w d₀ d)
    (hw : Dev.fallowTakeScope.le w = true := by decide) : Dev.Keeps w d₀ (d.fallowTake) := by
  refine h.step hw ?_
  have h : Dev.Keeps Dev.fallowTakeScope d d := .refl
  unfold Dev.fallowTake
  split
  · exact Dev.Keeps.ite h.fallowEnter h
  · exact h

/-- What `Dev.imgStop` may write. -/
abbrev Dev.imgStopScope : Dev.Scope := { img := true }

theorem Dev.Keeps.imgStop {w : Dev.Scope} {d₀ d : Dev}  (h : Dev.Keeps w d₀ d)
    (hw : Dev.imgStopScope.le w = true := by decide) : Dev.Keeps w d₀ (d.imgStop) := by
  refine h.step hw ?_
  have h : Dev.Keeps Dev.imgStopScope d d := .refl
  unfold Dev.imgStop
  extract_lets e1
  exact h.upd (img := nofun)

/-- What `Dev.ctRegs` may write. -/
abbrev Dev.ctRegsScope : Dev.Scope := { regs := [R.CT_STATUS, R.CT_RGOCC] }

theorem Dev.Keeps.ctRegs {w : Dev.Scope} {d₀ d : Dev}  (h : Dev.Keeps w d₀ d)
    (hw : Dev.ctRegsScope.le w = true := by decide) : Dev.Keeps w d₀ (d.ctRegs) := by
  refine h.step hw ?_
  have h : Dev.Keeps Dev.ctRegsScope d d := .refl
  unfold Dev.ctRegs
  extract_lets ks1 d1
  have hd1 : Dev.Keeps Dev.ctRegsScope d d1 := h.put.put
  exact hd1.setReg

/-- What `Dev.groupsLift` may write. -/
abbrev Dev.groupsLiftScope : Dev.Scope := { img := true }

theorem Dev.Keeps.groupsLift {w : Dev.Scope} {d₀ d : Dev} {slots : List Nat} (h : Dev.Keeps w d₀ d)
    (hw : Dev.groupsLiftScope.le w = true := by decide) : Dev.Keeps w d₀ (d.groupsLift slots) := by
  refine h.step hw ?_
  have h : Dev.Keeps Dev.groupsLiftScope d d := .refl
  unfold Dev.groupsLift
  extract_lets e1
  exact h.upd (img := nofun)

/-- What `Dev.endContacts` may write. -/
abbrev Dev.endContactsScope : Dev.Scope := { img := true, ct := true, regs := [R.CT_STATUS, R.CT_RGOCC] }

theorem Dev.Keeps.endContacts {w : Dev.Scope} {d₀ d : Dev} {reason : Nat} (h : Dev.Keeps w d₀ d)
    (hw : Dev.endContactsScope.le w = true := by decide) : Dev.Keeps w d₀ (d.endContacts reason).1 := by
  refine h.step hw ?_
  have h : Dev.Keeps Dev.endContactsScope d d := .refl
  unfold Dev.endContacts
  extract_lets ks1 recs1 e1 e2 d1
  have hd1 : Dev.Keeps Dev.endContactsScope d d1 := h.upd (img := nofun) (ct := nofun)
  exact hd1.groupsLift.ctRegs

/-- What `Dev.keepUps` may write. -/
abbrev Dev.keepUpsScope : Dev.Scope := { ring := true, regs := [R.RQ_LOST] }

theorem Dev.Keeps.keepUps {w : Dev.Scope} {d₀ d : Dev} {us : List (List Byte)} (h : Dev.Keeps w d₀ d)
    (hw : Dev.keepUpsScope.le w = true := by decide) : Dev.Keeps w d₀ (d.keepUps us) := by
  refine h.step hw ?_
  have h : Dev.Keeps Dev.keepUpsScope d d := .refl
  unfold Dev.keepUps
  refine Dev.Keeps.foldl ?_ h
  intro d' x hd1'
  extract_lets l1 d1 e1 e2 e3 e4
  have hd1 : Dev.Keeps Dev.keepUpsScope d d1 := hd1'.inc
  exact Dev.Keeps.ite (hd1.upd (ring := nofun)) (hd1'.upd (ring := nofun))

/-- What `Dev.keepTouch` may write. -/
abbrev Dev.keepTouchScope : Dev.Scope := { ring := true, regs := [R.HP_ATTN, R.RQ_LOST, R.RQ_STATUS] }

theorem Dev.Keeps.keepTouch {w : Dev.Scope} {d₀ d : Dev} {a1 : List Byte} {recs : List (List Byte)} (h : Dev.Keeps w d₀ d)
    (hw : Dev.keepTouchScope.le w = true := by decide) : Dev.Keeps w d₀ (d.keepTouch a1 recs) := by
  refine h.step hw ?_
  have h : Dev.Keeps Dev.keepTouchScope d d := .refl
  unfold Dev.keepTouch
  extract_lets d1 e1 e2 d2
  have hd1 : Dev.Keeps Dev.keepTouchScope d d1 := by
    unfold d1
    split
    · exact h
    · exact h.keepUps.rqLost
  have hd2 : Dev.Keeps Dev.keepTouchScope d d2 := hd1.upd (ring := nofun)
  exact hd2.rqPending

/-- What `Dev.keepBoth` may write. -/
abbrev Dev.keepBothScope : Dev.Scope := { ring := true, regs := [R.HP_ATTN, R.RQ_LOST, R.RQ_STATUS] }

theorem Dev.Keeps.keepBoth {w : Dev.Scope} {d₀ d : Dev} {a1 : List Byte} {ups : List (List Byte)} {recs : List (List Byte)} (h : Dev.Keeps w d₀ d)
    (hw : Dev.keepBothScope.le w = true := by decide) : Dev.Keeps w d₀ (d.keepBoth a1 ups recs) := by
  refine h.step hw ?_
  have h : Dev.Keeps Dev.keepBothScope d d := .refl
  unfold Dev.keepBoth
  extract_lets e1 e2 d1
  have hd1 : Dev.Keeps Dev.keepBothScope d d1 := h.upd (ring := nofun)
  exact Dev.Keeps.ite hd1.rqPending hd1.keepTouch

/-- What `Dev.touchOut` may write. -/
abbrev Dev.touchOutScope : Dev.Scope := { mem := true, ring := true, regs := [R.HP_ATTN, R.XR_ECCSB, R.XR_ECCDB, R.RQ_PI, R.RQ_CI, R.RQ_SEQX, R.RQ_STATUS, R.RQ_LOST] }

theorem Dev.Keeps.touchOut {w : Dev.Scope} {d₀ d : Dev} {head : List Byte} {ups recs : List (List Byte)} {n : Nat}
    (h : Dev.Keeps w d₀ d) (hw : Dev.touchOutScope.le w = true := by decide) :
    Dev.Keeps w d₀ (d.touchOut head ups recs n) := by
  refine h.step hw ?_
  suffices ∀ e ups recs, Dev.Keeps Dev.touchOutScope d e → Dev.Keeps Dev.touchOutScope d (e.touchOut head ups recs n) from
    this d ups recs .refl
  induction n with
  | zero => exact fun e ups recs he => he.keepBoth
  | succ n ih =>
    intro e ups recs he
    unfold Dev.touchOut
    exact .ite (.ite (ih _ _ _ he.reclaim.rqEmit) he.reclaim.rqEmit) he.reclaim.keepBoth

/-- What `Dev.touch` may write. -/
abbrev Dev.touchScope : Dev.Scope := { mem := true, ring := true, regs := [R.HP_ATTN, R.XR_ECCSB, R.XR_ECCDB, R.RQ_PI, R.RQ_CI, R.RQ_SEQX, R.RQ_LOST, R.RQ_STATUS] }

theorem Dev.Keeps.touch {w : Dev.Scope} {d₀ d : Dev} {frame : Nat} {flags : Nat} {tlast : Nat} {recs : List (List Byte)} (h : Dev.Keeps w d₀ d)
    (hw : Dev.touchScope.le w = true := by decide) : Dev.Keeps w d₀ (d.touch frame flags tlast recs) := by
  refine h.step hw ?_
  have h : Dev.Keeps Dev.touchScope d d := .refl
  unfold Dev.touch
  extract_lets head1
  exact Dev.Keeps.ite h (Dev.Keeps.ite h.keepTouch h.touchOut)

/-- What `Dev.contactsStop` may write. -/
abbrev Dev.contactsStopScope : Dev.Scope := { mem := true, img := true, ct := true, ring := true, regs := [R.CT_STATUS, R.CT_RGOCC, R.HP_ATTN, R.XR_ECCSB, R.XR_ECCDB, R.RQ_PI, R.RQ_CI, R.RQ_SEQX, R.RQ_LOST, R.RQ_STATUS] }

theorem Dev.Keeps.contactsStop {w : Dev.Scope} {d₀ d : Dev}  (h : Dev.Keeps w d₀ d)
    (hw : Dev.contactsStopScope.le w = true := by decide) : Dev.Keeps w d₀ (d.contactsStop) := by
  refine h.step hw ?_
  have h : Dev.Keeps Dev.contactsStopScope d d := .refl
  unfold Dev.contactsStop
  split
  · rename_i q1 q1a _ _ _
    have hq1a : Dev.Keeps Dev.contactsStopScope d q1a := Dev.Keeps.of_fst ‹_› h.endContacts
    exact Dev.Keeps.ite hq1a hq1a.touch

/-- What `Dev.domReqsEnd` may write. -/
abbrev Dev.domReqsEndScope : Dev.Scope := { mem := true, ring := true, pwr := true, regs := [R.HP_ATTN, R.XR_ECCSB, R.XR_ECCDB, R.RQ_PI, R.RQ_CI, R.RQ_SEQX, R.RQ_LOST, R.RQ_STATUS, R.PWR_RES] }

theorem Dev.Keeps.domReqsEnd {w : Dev.Scope} {d₀ d : Dev}  (h : Dev.Keeps w d₀ d)
    (hw : Dev.domReqsEndScope.le w = true := by decide) : Dev.Keeps w d₀ (d.domReqsEnd) := by
  refine h.step hw ?_
  have h : Dev.Keeps Dev.domReqsEndScope d d := .refl
  unfold Dev.domReqsEnd
  exact Dev.Keeps.foldl (fun _ _ h2 => Dev.Keeps.ite ((h2.upd (pwr := nofun)).pwrAnswer) h2) h

/-- What `Dev.switchOff` may write. -/
abbrev Dev.switchOffScope : Dev.Scope := { freeCount := true, staged := true, mem := true, tick := true, acq := true, hop := true, img := true, ct := true, aux := true, cal := true, seq := true, panel := true, hp := true, ring := true, cl := true, pp := true, pwr := true, flt := true, regs := [R.SYS_CTRL, R.SYS_STATUS, R.SYS_REASON, R.SYS_HALT_INFO, R.ACQ_STATUS, R.HOP_STATUS, R.AUX_COUNTS, R.CAL_STATUS, R.CAL_REASON, R.CAL_COUNT0, R.CAL_COUNT1, R.SEQ_STATUS, R.SEQ_EVPEND, R.GPIO_STATUS, R.GPIO_SWAPST, R.HP_ATTN, R.XR_ECCSB, R.XR_ECCDB, R.RQ_PI, R.RQ_CI, R.RQ_SEQX, R.RQ_LOST, R.RQ_STATUS, R.PP_STATUS, R.PP_COUNTS2, R.PWR_ON, R.PWR_RES, R.PWR_DST0, R.PWR_DST1, R.PWR_WSRC, R.FLT_LOG, R.FLT_LAST, R.FLT_WOPEN], fams := [(0x3ce0, 4), (0x1818, 32), (0x1820, 32), (0x44c0, 4), (0x1c58, 8), (0x1c5c, 8), (0x1c30, 8), (0x1c34, 8)] }

theorem Dev.Keeps.switchOff {w : Dev.Scope} {d₀ d : Dev} {k : Nat} (h : Dev.Keeps w d₀ d)
    (hw : Dev.switchOffScope.le w = true := by decide) : Dev.Keeps w d₀ (d.switchOff k) := by
  refine h.step hw ?_
  have h : Dev.Keeps Dev.switchOffScope d d := .refl
  unfold Dev.switchOff
  extract_lets s1 e1
  exact Dev.Keeps.ite (Dev.Keeps.ite (h.upd (pwr := nofun)) h.drainStart) (Dev.Keeps.ite (h.upd (pwr := nofun)) (Dev.Keeps.ite (h.upd (pwr := nofun)) (Dev.Keeps.ite h (h.upd (pwr := nofun)))))

/-- What `Dev.switchOn` may write. -/
abbrev Dev.switchOnScope : Dev.Scope := { aux := true, pwr := true, regs := [R.PWR_ON, R.PWR_DST0, R.PWR_DST1], fams := [(0x1818, 32), (0x1820, 32)] }

theorem Dev.Keeps.switchOn {w : Dev.Scope} {d₀ d : Dev} {k : Nat} (h : Dev.Keeps w d₀ d)
    (hw : Dev.switchOnScope.le w = true := by decide) : Dev.Keeps w d₀ (d.switchOn k) := by
  refine h.step hw ?_
  have h : Dev.Keeps Dev.switchOnScope d d := .refl
  unfold Dev.switchOn
  extract_lets s1 e1
  exact Dev.Keeps.ite (Dev.Keeps.ite (h.upd (pwr := nofun)) h.setDom) (Dev.Keeps.ite (h.upd (pwr := nofun)) (Dev.Keeps.ite h.drainCancel (Dev.Keeps.ite (h.upd (pwr := nofun)) (h.upd (pwr := nofun)))))

/-- What `Dev.domStart` may write. -/
abbrev Dev.domStartScope : Dev.Scope := { freeCount := true, staged := true, mem := true, tick := true, acq := true, hop := true, img := true, ct := true, aux := true, cal := true, seq := true, panel := true, hp := true, ring := true, cl := true, pp := true, pwr := true, flt := true, regs := [R.SYS_CTRL, R.SYS_STATUS, R.SYS_REASON, R.SYS_HALT_INFO, R.ACQ_STATUS, R.HOP_STATUS, R.AUX_COUNTS, R.CAL_STATUS, R.CAL_REASON, R.CAL_COUNT0, R.CAL_COUNT1, R.SEQ_STATUS, R.SEQ_EVPEND, R.GPIO_STATUS, R.GPIO_SWAPST, R.HP_ATTN, R.XR_ECCSB, R.XR_ECCDB, R.RQ_PI, R.RQ_CI, R.RQ_SEQX, R.RQ_LOST, R.RQ_STATUS, R.PP_STATUS, R.PP_COUNTS2, R.PWR_ON, R.PWR_RES, R.PWR_DST0, R.PWR_DST1, R.PWR_WSRC, R.FLT_LOG, R.FLT_LAST, R.FLT_WOPEN], fams := [(0x1818, 32), (0x1820, 32), (0x3ce0, 4), (0x44c0, 4), (0x1c58, 8), (0x1c5c, 8), (0x1c30, 8), (0x1c34, 8)] }

theorem Dev.Keeps.domStart {w : Dev.Scope} {d₀ d : Dev} {q : DomReq} (h : Dev.Keeps w d₀ d)
    (hw : Dev.domStartScope.le w = true := by decide) : Dev.Keeps w d₀ (d.domStart q) := by
  refine h.step hw ?_
  have h : Dev.Keeps Dev.domStartScope d d := .refl
  unfold Dev.domStart
  exact Dev.Keeps.foldl (fun _ _ h2 => h2.switchOff) (Dev.Keeps.foldl (fun _ _ h2 => h2.switchOn) h)

/-- What `Dev.domRelease` may write. -/
abbrev Dev.domReleaseScope : Dev.Scope := { freeCount := true, staged := true, mem := true, tick := true, acq := true, hop := true, img := true, ct := true, aux := true, cal := true, seq := true, panel := true, hp := true, ring := true, cl := true, pp := true, pwr := true, flt := true, regs := [R.SYS_CTRL, R.SYS_STATUS, R.SYS_REASON, R.SYS_HALT_INFO, R.ACQ_STATUS, R.HOP_STATUS, R.AUX_COUNTS, R.CAL_STATUS, R.CAL_REASON, R.CAL_COUNT0, R.CAL_COUNT1, R.SEQ_STATUS, R.SEQ_EVPEND, R.GPIO_STATUS, R.GPIO_SWAPST, R.HP_ATTN, R.XR_ECCSB, R.XR_ECCDB, R.RQ_PI, R.RQ_CI, R.RQ_SEQX, R.RQ_LOST, R.RQ_STATUS, R.PP_STATUS, R.PP_COUNTS2, R.PWR_ON, R.PWR_RES, R.PWR_DST0, R.PWR_DST1, R.PWR_WSRC, R.FLT_LOG, R.FLT_LAST, R.FLT_WOPEN], fams := [(0x1818, 32), (0x1820, 32), (0x3ce0, 4), (0x44c0, 4), (0x1c58, 8), (0x1c5c, 8), (0x1c30, 8), (0x1c34, 8)] }

theorem Dev.Keeps.domRelease {w : Dev.Scope} {d₀ d : Dev}  (h : Dev.Keeps w d₀ d)
    (hw : Dev.domReleaseScope.le w = true := by decide) : Dev.Keeps w d₀ (d.domRelease) := by
  refine h.step hw ?_
  have h : Dev.Keeps Dev.domReleaseScope d d := .refl
  unfold Dev.domRelease
  extract_lets w1 e1 d1
  have hd1 : Dev.Keeps Dev.domReleaseScope d d1 := h.upd (pwr := nofun)
  exact (Dev.Keeps.foldl (fun _ _ h3 => h3.domStart) hd1).domReqsEnd

/-- What `Dev.acqAbandon` may write. -/
abbrev Dev.acqAbandonScope : Dev.Scope := { tick := true, acq := true, regs := [R.ACQ_STATUS] }

theorem Dev.Keeps.acqAbandon {w : Dev.Scope} {d₀ d : Dev}  (h : Dev.Keeps w d₀ d)
    (hw : Dev.acqAbandonScope.le w = true := by decide) : Dev.Keeps w d₀ (d.acqAbandon) := by
  refine h.step hw ?_
  have h : Dev.Keeps Dev.acqAbandonScope d d := .refl
  unfold Dev.acqAbandon
  extract_lets e1 e2 e3
  have he1 : Dev.Keeps Dev.acqAbandonScope d e1 := h.pumpStop
  exact he1.upd (tick := nofun) (acq := nofun)

/-- What `Dev.key` may write. -/
abbrev Dev.keyScope : Dev.Scope := { mem := true, ring := true, regs := [R.HP_ATTN, R.XR_ECCSB, R.XR_ECCDB, R.RQ_PI, R.RQ_CI, R.RQ_SEQX, R.RQ_LOST, R.RQ_STATUS] }

theorem Dev.Keeps.key {w : Dev.Scope} {d₀ d : Dev} {frame : Nat} {vkeys : Nat} (h : Dev.Keeps w d₀ d)
    (hw : Dev.keyScope.le w = true := by decide) : Dev.Keeps w d₀ (d.key frame vkeys) := by
  refine h.step hw ?_
  have h : Dev.Keeps Dev.keyScope d d := .refl
  unfold Dev.key
  extract_lets r1 d1 d2 e1 d3 e2 e3
  have hd1 : Dev.Keeps Dev.keyScope d d1 := h.reclaim
  have hd2 : Dev.Keeps Dev.keyScope d d2 := hd1.rqEmit
  have hd3 : Dev.Keeps Dev.keyScope d d3 := Dev.Keeps.ite hd1.rqLost hd1
  exact Dev.Keeps.ite hd1 (Dev.Keeps.ite (hd2.upd (ring := nofun)) ((hd3.upd (ring := nofun)).rqPending))

/-- What `Dev.hostQualify` may write. -/
abbrev Dev.hostQualifyScope : Dev.Scope := { sys := true }

theorem Dev.Keeps.hostQualify {w : Dev.Scope} {d₀ d : Dev}  (h : Dev.Keeps w d₀ d)
    (hw : Dev.hostQualifyScope.le w = true := by decide) : Dev.Keeps w d₀ (d.hostQualify) := by
  refine h.step hw ?_
  have h : Dev.Keeps Dev.hostQualifyScope d d := .refl
  unfold Dev.hostQualify
  extract_lets e1
  exact Dev.Keeps.ite h (h.upd (sys := nofun))

/-- What `Dev.raise` may write. -/
abbrev Dev.raiseScope : Dev.Scope := { freeCount := true, staged := true, mem := true, tick := true, acq := true, hop := true, img := true, ct := true, aux := true, cal := true, seq := true, panel := true, hp := true, ring := true, cl := true, pp := true, pwr := true, flt := true, regs := [R.SYS_CTRL, R.SYS_STATUS, R.SYS_REASON, R.SYS_HALT_INFO, R.ACQ_STATUS, R.HOP_STATUS, R.CAL_STATUS, R.CAL_REASON, R.SEQ_STATUS, R.SEQ_EVPEND, R.GPIO_STATUS, R.GPIO_SWAPST, R.HP_ATTN, R.XR_ECCSB, R.XR_ECCDB, R.RQ_PI, R.RQ_CI, R.RQ_SEQX, R.RQ_LOST, R.RQ_STATUS, R.PP_STATUS, R.PP_COUNTS2, R.PWR_ON, R.PWR_RES, R.PWR_DST0, R.PWR_DST1, R.PWR_WSRC, R.FLT_LOG, R.FLT_LAST, R.FLT_WOPEN], fams := [(0x3ce0, 4), (0x1818, 32), (0x1820, 32), (0x44c0, 4)] }

theorem Dev.Keeps.raise {w : Dev.Scope} {d₀ d : Dev} {src : Nat} {detail : Nat} (h : Dev.Keeps w d₀ d)
    (hw : Dev.raiseScope.le w = true := by decide) : Dev.Keeps w d₀ (d.raise src detail) := by
  refine h.step hw ?_
  have h : Dev.Keeps Dev.raiseScope d d := .refl
  unfold Dev.raise
  exact h.noteEvent.settleFaults

/-- What `Dev.vddioDrop` may write. -/
abbrev Dev.vddioDropScope : Dev.Scope := { freeCount := true, staged := true, mem := true, sys := true, tick := true, acq := true, hop := true, img := true, ct := true, aux := true, cal := true, seq := true, panel := true, hp := true, ring := true, cl := true, pp := true, pwr := true, flt := true, regs := [R.SYS_CTRL, R.SYS_STATUS, R.SYS_REASON, R.SYS_HALT_INFO, R.ACQ_STATUS, R.HOP_STATUS, R.CAL_STATUS, R.CAL_REASON, R.SEQ_STATUS, R.SEQ_EVPEND, R.GPIO_STATUS, R.GPIO_SWAPST, R.HP_ATTN, R.XR_ECCSB, R.XR_ECCDB, R.RQ_PI, R.RQ_CI, R.RQ_SEQX, R.RQ_LOST, R.RQ_STATUS, R.PP_STATUS, R.PP_COUNTS2, R.PWR_ON, R.PWR_RES, R.PWR_DST0, R.PWR_DST1, R.PWR_WSRC, R.FLT_LOG, R.FLT_LAST, R.FLT_WOPEN], fams := [(0x3ce0, 4), (0x1818, 32), (0x1820, 32), (0x44c0, 4)] }

theorem Dev.Keeps.vddioDrop {w : Dev.Scope} {d₀ d : Dev}  (h : Dev.Keeps w d₀ d)
    (hw : Dev.vddioDropScope.le w = true := by decide) : Dev.Keeps w d₀ (d.vddioDrop) := by
  refine h.step hw ?_
  have h : Dev.Keeps Dev.vddioDropScope d d := .refl
  unfold Dev.vddioDrop
  extract_lets d1 e1 e2
  have hd1 : Dev.Keeps Dev.vddioDropScope d d1 := h.put
  exact Dev.Keeps.ite h (Dev.Keeps.ite hd1 ((hd1.upd (sys := nofun) (hp := nofun)).raise))

/-- What `Dev.vddioReturn` may write. -/
abbrev Dev.vddioReturnScope : Dev.Scope := { sys := true, regs := [R.SYS_STATUS] }

theorem Dev.Keeps.vddioReturn {w : Dev.Scope} {d₀ d : Dev}  (h : Dev.Keeps w d₀ d)
    (hw : Dev.vddioReturnScope.le w = true := by decide) : Dev.Keeps w d₀ (d.vddioReturn) := by
  refine h.step hw ?_
  have h : Dev.Keeps Dev.vddioReturnScope d d := .refl
  unfold Dev.vddioReturn
  extract_lets e1 e2
  have he1 : Dev.Keeps Dev.vddioReturnScope d e1 := h.put
  exact Dev.Keeps.ite h (he1.upd (sys := nofun))

/-- What `Dev.pllSwitch` may write. -/
abbrev Dev.pllSwitchScope : Dev.Scope := { pwr := true }

theorem Dev.Keeps.pllSwitch {w : Dev.Scope} {d₀ d : Dev}  (h : Dev.Keeps w d₀ d)
    (hw : Dev.pllSwitchScope.le w = true := by decide) : Dev.Keeps w d₀ (d.pllSwitch) := by
  refine h.step hw ?_
  have h : Dev.Keeps Dev.pllSwitchScope d d := .refl
  unfold Dev.pllSwitch
  extract_lets e1
  exact Dev.Keeps.ite h (h.upd (pwr := nofun))

/-- What `Dev.clkinLoss` may write. -/
abbrev Dev.clkinLossScope : Dev.Scope := { pwr := true }

theorem Dev.Keeps.clkinLoss {w : Dev.Scope} {d₀ d : Dev}  (h : Dev.Keeps w d₀ d)
    (hw : Dev.clkinLossScope.le w = true := by decide) : Dev.Keeps w d₀ (d.clkinLoss) := by
  refine h.step hw ?_
  have h : Dev.Keeps Dev.clkinLossScope d d := .refl
  unfold Dev.clkinLoss
  extract_lets e1
  exact Dev.Keeps.ite (h.upd (pwr := nofun)) h

/-- What `Dev.bootTimeout` may write. -/
abbrev Dev.bootTimeoutScope : Dev.Scope := { seq := true, pp := true, regs := [R.SEQ_STATUS, R.SEQ_VRES, R.PP_STATUS] }

theorem Dev.Keeps.bootTimeout {w : Dev.Scope} {d₀ d : Dev}  (h : Dev.Keeps w d₀ d)
    (hw : Dev.bootTimeoutScope.le w = true := by decide) : Dev.Keeps w d₀ (d.bootTimeout) := by
  refine h.step hw ?_
  have h : Dev.Keeps Dev.bootTimeoutScope d d := .refl
  unfold Dev.bootTimeout
  extract_lets d1 d2 e1
  have hd1 : Dev.Keeps Dev.bootTimeoutScope d d1 := h.setVres
  have hd2 : Dev.Keeps Dev.bootTimeoutScope d d2 := hd1.put
  exact Dev.Keeps.ite ((hd2.upd (seq := nofun)).ppBootDrop) h

/-- What `Dev.clSend` may write. -/
abbrev Dev.clSendScope : Dev.Scope := { cl := true }

theorem Dev.Keeps.clSend {w : Dev.Scope} {d₀ d : Dev} {typ : Nat} {dst : Nat} {frame : Nat} {body : List Byte} (h : Dev.Keeps w d₀ d)
    (hw : Dev.clSendScope.le w = true := by decide) : Dev.Keeps w d₀ (d.clSend typ dst frame body) := by
  refine h.step hw ?_
  have h : Dev.Keeps Dev.clSendScope d d := .refl
  unfold Dev.clSend
  extract_lets q1 f1 e1
  exact Dev.Keeps.ite h (h.upd (cl := nofun))

/-- What `Dev.checkAsk` may write. -/
abbrev Dev.checkAskScope : Dev.Scope := { cl := true }

theorem Dev.Keeps.checkAsk {w : Dev.Scope} {d₀ d : Dev}  (h : Dev.Keeps w d₀ d)
    (hw : Dev.checkAskScope.le w = true := by decide) : Dev.Keeps w d₀ (d.checkAsk) := by
  refine h.step hw ?_
  have h : Dev.Keeps Dev.checkAskScope d d := .refl
  unfold Dev.checkAsk
  extract_lets e1 d1
  have hd1 : Dev.Keeps Dev.checkAskScope d d1 := h.upd (cl := nofun)
  exact Dev.Keeps.ite hd1.clSend hd1

/-- What `Dev.runSet` may write. -/
abbrev Dev.runSetScope : Dev.Scope := { sys := true, seq := true, cl := true, regs := [R.SYS_CTRL, R.SYS_STATUS] }

theorem Dev.Keeps.runSet {w : Dev.Scope} {d₀ d : Dev} {prog : Bool} (h : Dev.Keeps w d₀ d)
    (hw : Dev.runSetScope.le w = true := by decide) : Dev.Keeps w d₀ (d.runSet prog) := by
  refine h.step hw ?_
  have h : Dev.Keeps Dev.runSetScope d d := .refl
  unfold Dev.runSet
  extract_lets e1 d1 e2 e3
  have hd1 : Dev.Keeps Dev.runSetScope d d1 := h.put.put
  have he2 : Dev.Keeps Dev.runSetScope d e2 := hd1.setSt
  exact Dev.Keeps.ite h (Dev.Keeps.ite (h.upd (seq := nofun)) (Dev.Keeps.ite ((he2.upd (sys := nofun)).checkAsk) h))

/-- What `Dev.stageSend` may write. -/
abbrev Dev.stageSendScope : Dev.Scope := { cl := true }

theorem Dev.Keeps.stageSend {w : Dev.Scope} {d₀ d : Dev}  (h : Dev.Keeps w d₀ d)
    (hw : Dev.stageSendScope.le w = true := by decide) : Dev.Keeps w d₀ (d.stageSend) := by
  refine h.step hw ?_
  have h : Dev.Keeps Dev.stageSendScope d d := .refl
  unfold Dev.stageSend
  extract_lets s1 e1 d1
  have hd1 : Dev.Keeps Dev.stageSendScope d d1 := h.upd (cl := nofun)
  exact Dev.Keeps.ite h (Dev.Keeps.foldl (fun _ _ h3 => h3.clSend) hd1)

/-- What `Dev.stageStop` may write. -/
abbrev Dev.stageStopScope : Dev.Scope := { cl := true }

theorem Dev.Keeps.stageStop {w : Dev.Scope} {d₀ d : Dev}  (h : Dev.Keeps w d₀ d)
    (hw : Dev.stageStopScope.le w = true := by decide) : Dev.Keeps w d₀ (d.stageStop) := by
  refine h.step hw ?_
  have h : Dev.Keeps Dev.stageStopScope d d := .refl
  unfold Dev.stageStop
  extract_lets e1
  exact Dev.Keeps.ite ((h.upd (cl := nofun)).stageSend) h

/-- What `Dev.runClear` may write. -/
abbrev Dev.runClearScope : Dev.Scope := { freeCount := true, staged := true, mem := true, tick := true, acq := true, hop := true, img := true, ct := true, aux := true, cal := true, seq := true, panel := true, hp := true, ring := true, cl := true, pp := true, pwr := true, flt := true, regs := [R.SYS_CTRL, R.SYS_STATUS, R.SYS_REASON, R.SYS_HALT_INFO, R.ACQ_STATUS, R.HOP_STATUS, R.AUX_COUNTS, R.CAL_STATUS, R.CAL_REASON, R.CAL_COUNT0, R.CAL_COUNT1, R.SEQ_STATUS, R.SEQ_EVPEND, R.GPIO_STATUS, R.GPIO_SWAPST, R.HP_ATTN, R.XR_ECCSB, R.XR_ECCDB, R.RQ_PI, R.RQ_CI, R.RQ_SEQX, R.RQ_LOST, R.RQ_STATUS, R.PP_STATUS, R.PP_COUNTS2, R.PWR_ON, R.PWR_RES, R.PWR_DST0, R.PWR_DST1, R.PWR_WSRC, R.FLT_LOG, R.FLT_LAST, R.FLT_WOPEN], fams := [(0x3ce0, 4), (0x1818, 32), (0x1820, 32), (0x44c0, 4), (0x1c58, 8), (0x1c5c, 8), (0x1c30, 8), (0x1c34, 8)] }

theorem Dev.Keeps.runClear {w : Dev.Scope} {d₀ d : Dev}  (h : Dev.Keeps w d₀ d)
    (hw : Dev.runClearScope.le w = true := by decide) : Dev.Keeps w d₀ (d.runClear) := by
  refine h.step hw ?_
  have h : Dev.Keeps Dev.runClearScope d d := .refl
  unfold Dev.runClear
  extract_lets was1 d1
  have hd1 : Dev.Keeps Dev.runClearScope d d1 := (h.calEnds (fun _ h2 => h2.clearRun)).stageStop
  exact Dev.Keeps.ite h (Dev.Keeps.ite hd1.domRelease hd1)

/-- What `Dev.tickPeriodWrite` may write. -/
abbrev Dev.tickPeriodWriteScope : Dev.Scope := { staged := true, regs := [R.TICK_PERIOD, R.TICK_STATUS] }

theorem Dev.Keeps.tickPeriodWrite {w : Dev.Scope} {d₀ d : Dev} {v : Nat} (h : Dev.Keeps w d₀ d)
    (hw : Dev.tickPeriodWriteScope.le w = true := by decide) : Dev.Keeps w d₀ (d.tickPeriodWrite v) := by
  refine h.step hw ?_
  have h : Dev.Keeps Dev.tickPeriodWriteScope d d := .refl
  unfold Dev.tickPeriodWrite
  extract_lets n1
  exact Dev.Keeps.ite h (Dev.Keeps.ite h.put (Dev.Keeps.ite h.put (h.stage rfl)))

/-- What `Dev.tickPlanWrite` may write. -/
abbrev Dev.tickPlanWriteScope : Dev.Scope := { staged := true, regs := [R.TICK_PLAN, R.TICK_STATUS] }

theorem Dev.Keeps.tickPlanWrite {w : Dev.Scope} {d₀ d : Dev} {v : Nat} (h : Dev.Keeps w d₀ d)
    (hw : Dev.tickPlanWriteScope.le w = true := by decide) : Dev.Keeps w d₀ (d.tickPlanWrite v) := by
  refine h.step hw ?_
  have h : Dev.Keeps Dev.tickPlanWriteScope d d := .refl
  unfold Dev.tickPlanWrite
  exact Dev.Keeps.ite (h.stage rfl) h.put

/-- What `Dev.tickClrImgMax` may write. -/
abbrev Dev.tickClrImgMaxScope : Dev.Scope := { regs := [R.TICK_IMGTIME] }

theorem Dev.Keeps.tickClrImgMax {w : Dev.Scope} {d₀ d : Dev}  (h : Dev.Keeps w d₀ d)
    (hw : Dev.tickClrImgMaxScope.le w = true := by decide) : Dev.Keeps w d₀ (d.tickClrImgMax) := by
  refine h.step hw ?_
  have h : Dev.Keeps Dev.tickClrImgMaxScope d d := .refl
  unfold Dev.tickClrImgMax
  exact h.put

/-- What `Dev.tickClrCounts` may write. -/
abbrev Dev.tickClrCountsScope : Dev.Scope := { regs := [R.TICK_COUNTS] }

theorem Dev.Keeps.tickClrCounts {w : Dev.Scope} {d₀ d : Dev}  (h : Dev.Keeps w d₀ d)
    (hw : Dev.tickClrCountsScope.le w = true := by decide) : Dev.Keeps w d₀ (d.tickClrCounts) := by
  refine h.step hw ?_
  have h : Dev.Keeps Dev.tickClrCountsScope d d := .refl
  unfold Dev.tickClrCounts
  exact h.setReg

theorem Dev.Keeps.plainWrite {w : Dev.Scope} {d₀ d : Dev} {a v : Nat} (h : Dev.Keeps w d₀ d) (hs : w.staged = true)
    (ha : w.has a = true := by decide) : Dev.Keeps w d₀ (d.plainWrite a v) := by
  unfold Dev.plainWrite
  split
  · exact h
  · exact Dev.Keeps.ite (h.setReg ha) ((h.setReg ha).stage hs ha)

theorem Dev.Keeps.keepWrite {w : Dev.Scope} {d₀ d : Dev} {a v : Nat} {keep : Word} (h : Dev.Keeps w d₀ d)
    (hs : w.staged = true) (ha : w.has a = true := by decide) : Dev.Keeps w d₀ (d.keepWrite a v keep) :=
  h.plainWrite hs ha

/-- What `Dev.setSw` may write. -/
abbrev Dev.setSwScope : Dev.Scope := { regs := [R.IMG_STATUS, R.IMG_SWTIME] }

theorem Dev.Keeps.setSw {w : Dev.Scope} {d₀ d : Dev} {s : Nat} (h : Dev.Keeps w d₀ d)
    (hw : Dev.setSwScope.le w = true := by decide) : Dev.Keeps w d₀ (d.setSw s) := by
  refine h.step hw ?_
  have h : Dev.Keeps Dev.setSwScope d d := .refl
  unfold Dev.setSw
  exact Dev.Keeps.ite h h.put.put

/-- What `Dev.swardDiscard` may write. -/
abbrev Dev.swardDiscardScope : Dev.Scope := { img := true, regs := [R.IMG_STATUS, R.IMG_NODES, R.IMG_SWTIME] }

theorem Dev.Keeps.swardDiscard {w : Dev.Scope} {d₀ d : Dev}  (h : Dev.Keeps w d₀ d)
    (hw : Dev.swardDiscardScope.le w = true := by decide) : Dev.Keeps w d₀ (d.swardDiscard) := by
  refine h.step hw ?_
  have h : Dev.Keeps Dev.swardDiscardScope d d := .refl
  unfold Dev.swardDiscard
  extract_lets e1 d1
  have hd1 : Dev.Keeps Dev.swardDiscardScope d d1 := h.upd (img := nofun)
  exact hd1.setSw.put.put

/-- What `Dev.recomputeEls` may write. -/
abbrev Dev.recomputeElsScope : Dev.Scope := { regs := [R.ACQ_ELSUM, R.ACQ_DRANGE] }

theorem Dev.Keeps.recomputeEls {w : Dev.Scope} {d₀ d : Dev}  (h : Dev.Keeps w d₀ d)
    (hw : Dev.recomputeElsScope.le w = true := by decide) : Dev.Keeps w d₀ (d.recomputeEls) := by
  refine h.step hw ?_
  have h : Dev.Keeps Dev.recomputeElsScope d d := .refl
  unfold Dev.recomputeEls
  extract_lets rows1 lo1 hi1 d1
  have hd1 : Dev.Keeps Dev.recomputeElsScope d d1 := h.setReg
  exact hd1.setReg

/-- What `Dev.hopForce` may write. -/
abbrev Dev.hopForceScope : Dev.Scope := { hop := true, regs := [R.HOP_STATUS] }

theorem Dev.Keeps.hopForce {w : Dev.Scope} {d₀ d : Dev} {idx : Nat} {go : Bool} {member : Bool} (h : Dev.Keeps w d₀ d)
    (hw : Dev.hopForceScope.le w = true := by decide) : Dev.Keeps w d₀ (d.hopForce idx go member) := by
  refine h.step hw ?_
  have h : Dev.Keeps Dev.hopForceScope d d := .refl
  unfold Dev.hopForce
  extract_lets e1 e2
  have he1 : Dev.Keeps Dev.hopForceScope d e1 := h.put
  exact Dev.Keeps.ite h (Dev.Keeps.ite h.put (Dev.Keeps.ite h (he1.upd (hop := nofun))))

theorem Dev.Keeps.stageBusy {w : Dev.Scope} {d₀ d : Dev} {a : Nat} {v : Word} (h : Dev.Keeps w d₀ d) (hs : w.staged = true)
    (ha : w.has a = true := by decide) : Dev.Keeps w d₀ (d.stageBusy a v) :=
  Dev.Keeps.ite (h.upd (staged := fun x => by rw [hs] at x; cases x)) (h.stage hs ha)

/-- What `Dev.hopTableWrite` may write. -/
abbrev Dev.hopTableWriteScope : Dev.Scope := { staged := true, regs := [R.HOP_STATUS], fams := [(0x820, 4)] }

theorem Dev.Keeps.hopTableWrite {w : Dev.Scope} {d₀ d : Dev} {a1 : Nat} {v : Word} (h : Dev.Keeps w d₀ d)
    (hw : Dev.hopTableWriteScope.le w = true := by decide) : Dev.Keeps w d₀ (d.hopTableWrite a1 v) := by
  refine h.step hw ?_
  have h : Dev.Keeps Dev.hopTableWriteScope d d := .refl
  unfold Dev.hopTableWrite
  extract_lets v1 ws1
  exact Dev.Keeps.ite (Dev.Keeps.ite (h.stageBusy rfl (Dev.Scope.has_fam 0x820 4 _)) h.put) (h.stageBusy rfl (Dev.Scope.has_fam 0x820 4 _))

/-- What `Dev.reformAsk` may write. -/
abbrev Dev.reformAskScope : Dev.Scope := { img := true, cl := true }

theorem Dev.Keeps.reformAsk {w : Dev.Scope} {d₀ d : Dev}  (h : Dev.Keeps w d₀ d)
    (hw : Dev.reformAskScope.le w = true := by decide) : Dev.Keeps w d₀ (d.reformAsk) := by
  refine h.step hw ?_
  have h : Dev.Keeps Dev.reformAskScope d d := .refl
  unfold Dev.reformAsk
  extract_lets e1 e2
  exact h.upd (img := nofun) (cl := nofun)

/-- What `Dev.imgReform` may write. -/
abbrev Dev.imgReformScope : Dev.Scope := { freeCount := true, staged := true, mem := true, tick := true, acq := true, hop := true, img := true, ct := true, aux := true, cal := true, seq := true, panel := true, hp := true, ring := true, cl := true, pp := true, pwr := true, flt := true, regs := [R.SYS_CTRL, R.SYS_STATUS, R.SYS_REASON, R.SYS_HALT_INFO, R.ACQ_STATUS, R.HOP_STATUS, R.CAL_STATUS, R.CAL_REASON, R.SEQ_STATUS, R.SEQ_EVPEND, R.GPIO_STATUS, R.GPIO_SWAPST, R.HP_ATTN, R.XR_ECCSB, R.XR_ECCDB, R.RQ_PI, R.RQ_CI, R.RQ_SEQX, R.RQ_LOST, R.RQ_STATUS, R.PP_STATUS, R.PP_COUNTS2, R.PWR_ON, R.PWR_RES, R.PWR_DST0, R.PWR_DST1, R.PWR_WSRC, R.FLT_LOG, R.FLT_LAST, R.FLT_WOPEN], fams := [(0x3ce0, 4), (0x1818, 32), (0x1820, 32), (0x44c0, 4)] }

theorem Dev.Keeps.imgReform {w : Dev.Scope} {d₀ d : Dev}  (h : Dev.Keeps w d₀ d)
    (hw : Dev.imgReformScope.le w = true := by decide) : Dev.Keeps w d₀ (d.imgReform) := by
  refine h.step hw ?_
  have h : Dev.Keeps Dev.imgReformScope d d := .refl
  unfold Dev.imgReform
  exact Dev.Keeps.ite h (h.calEnds (fun _ h2 => h2.calAbortTouch.reformAsk))

/-- What `Dev.ctCtrlWrite` may write. -/
abbrev Dev.ctCtrlWriteScope : Dev.Scope := { staged := true, regs := [R.CT_CTRL, R.CT_STATUS] }

theorem Dev.Keeps.ctCtrlWrite {w : Dev.Scope} {d₀ d : Dev} {v : Nat} (h : Dev.Keeps w d₀ d)
    (hw : Dev.ctCtrlWriteScope.le w = true := by decide) : Dev.Keeps w d₀ (d.ctCtrlWrite v) := by
  refine h.step hw ?_
  have h : Dev.Keeps Dev.ctCtrlWriteScope d d := .refl
  unfold Dev.ctCtrlWrite
  extract_lets w1 on1 d1
  have hd1 : Dev.Keeps Dev.ctCtrlWriteScope d d1 := h.stageBusy rfl
  exact Dev.Keeps.ite h.put (Dev.Keeps.ite hd1 hd1.putB)

theorem Dev.Keeps.regionWrite {w : Dev.Scope} {d₀ d : Dev} {a v : Nat} (h : Dev.Keeps w d₀ d) (hs : w.staged = true)
    (ha : w.has a = true := by decide) (hc : w.has R.CT_STATUS = true := by decide) : Dev.Keeps w d₀ (d.regionWrite a v) := by
  unfold Dev.regionWrite
  exact .ite (h.put hc) (h.stageBusy hs ha)

/-- What `Dev.optOff` may write. -/
abbrev Dev.optOffScope : Dev.Scope := { mem := true, opt := true, ring := true, regs := [R.OPT_STATUS, R.SEQ_EVPEND, R.HP_ATTN, R.XR_ECCSB, R.XR_ECCDB, R.RQ_PI, R.RQ_CI, R.RQ_SEQX, R.RQ_LOST, R.RQ_STATUS] }

theorem Dev.Keeps.optOff {w : Dev.Scope} {d₀ d : Dev}  (h : Dev.Keeps w d₀ d)
    (hw : Dev.optOffScope.le w = true := by decide) : Dev.Keeps w d₀ (d.optOff) := by
  refine h.step hw ?_
  have h : Dev.Keeps Dev.optOffScope d d := .refl
  unfold Dev.optOff
  extract_lets changed1 d1 e1 d2 d3
  have hd1 : Dev.Keeps Dev.optOffScope d d1 := h.put.put.put.put
  have hd2 : Dev.Keeps Dev.optOffScope d d2 := hd1.upd (opt := nofun)
  have hd3 : Dev.Keeps Dev.optOffScope d d3 := hd2.event
  exact Dev.Keeps.ite hd2 (Dev.Keeps.ite hd3 hd3.report)

/-- What `Dev.optTaken` may write. -/
abbrev Dev.optTakenScope : Dev.Scope := { mem := true, opt := true, ring := true, regs := [R.OPT_STATUS, R.OPT_AMB, R.SEQ_EVPEND, R.HP_ATTN, R.XR_ECCSB, R.XR_ECCDB, R.RQ_PI, R.RQ_CI, R.RQ_SEQX, R.RQ_LOST, R.RQ_STATUS] }

theorem Dev.Keeps.optTaken {w : Dev.Scope} {d₀ d : Dev} {was : Bool} (h : Dev.Keeps w d₀ d)
    (hw : Dev.optTakenScope.le w = true := by decide) : Dev.Keeps w d₀ (d.optTaken was) := by
  refine h.step hw ?_
  have h : Dev.Keeps Dev.optTakenScope d d := .refl
  unfold Dev.optTaken
  extract_lets d1
  have hd1 : Dev.Keeps Dev.optTakenScope d d1 := Dev.Keeps.ite h h.put
  exact Dev.Keeps.ite hd1.optOff hd1

/-- What `Dev.optXtcap` may write. -/
abbrev Dev.optXtcapScope : Dev.Scope := { opt := true, regs := [R.OPT_STATUS] }

theorem Dev.Keeps.optXtcap {w : Dev.Scope} {d₀ d : Dev}  (h : Dev.Keeps w d₀ d)
    (hw : Dev.optXtcapScope.le w = true := by decide) : Dev.Keeps w d₀ (d.optXtcap) := by
  refine h.step hw ?_
  have h : Dev.Keeps Dev.optXtcapScope d d := .refl
  unfold Dev.optXtcap
  extract_lets e1 e2
  have he1 : Dev.Keeps Dev.optXtcapScope d e1 := h.put
  exact he1.upd (opt := nofun)

/-- What `Dev.syncResets` may write. -/
abbrev Dev.syncResetsScope : Dev.Scope := { aux := true, regs := [R.AUX_COUNTS, R.CAL_STATUS, R.CAL_COUNT0, R.CAL_COUNT1], fams := [(0x1c58, 8), (0x1c5c, 8), (0x1c30, 8), (0x1c34, 8), (0x1818, 32), (0x1820, 32)] }

theorem Dev.Keeps.syncResets {w : Dev.Scope} {d₀ d : Dev} {which : Nat → Bool} (h : Dev.Keeps w d₀ d)
    (hw : Dev.syncResetsScope.le w = true := by decide) : Dev.Keeps w d₀ (d.syncResets which) := by
  refine h.step hw ?_
  have h : Dev.Keeps Dev.syncResetsScope d d := .refl
  unfold Dev.syncResets
  exact Dev.Keeps.foldl (fun _ _ h2 => Dev.Keeps.ite h2.syncReset h2) h

/-- What `Dev.axCfgWrite` may write. -/
abbrev Dev.axCfgWriteScope : Dev.Scope := { freeCount := true, staged := true, mem := true, tick := true, acq := true, hop := true, img := true, ct := true, aux := true, cal := true, seq := true, panel := true, hp := true, ring := true, cl := true, pp := true, pwr := true, flt := true, regs := [R.SYS_CTRL, R.SYS_STATUS, R.SYS_REASON, R.SYS_HALT_INFO, R.ACQ_STATUS, R.HOP_STATUS, R.AUX_COUNTS, R.CAL_STATUS, R.CAL_REASON, R.CAL_COUNT0, R.CAL_COUNT1, R.SEQ_STATUS, R.SEQ_EVPEND, R.GPIO_STATUS, R.GPIO_SWAPST, R.HP_ATTN, R.XR_ECCSB, R.XR_ECCDB, R.RQ_PI, R.RQ_CI, R.RQ_SEQX, R.RQ_LOST, R.RQ_STATUS, R.PP_STATUS, R.PP_COUNTS2, R.PWR_ON, R.PWR_RES, R.PWR_DST0, R.PWR_DST1, R.PWR_WSRC, R.FLT_LOG, R.FLT_LAST, R.FLT_WOPEN], fams := [(0x1810, 32), (0x1820, 32), (0x1818, 32), (0x1c58, 8), (0x1c5c, 8), (0x1c30, 8), (0x1c34, 8), (0x3ce0, 4), (0x44c0, 4)] }

theorem Dev.Keeps.axCfgWrite {w : Dev.Scope} {d₀ d : Dev} {n : Nat} {v : Nat} (h : Dev.Keeps w d₀ d)
    (hw : Dev.axCfgWriteScope.le w = true := by decide) : Dev.Keeps w d₀ (d.axCfgWrite n v) := by
  refine h.step hw ?_
  have h : Dev.Keeps Dev.axCfgWriteScope d d := .refl
  unfold Dev.axCfgWrite
  extract_lets was1 keep1 d1 d2 e1 d3 d4
  have hd1 : Dev.Keeps Dev.axCfgWriteScope d d1 := h.setReg (Dev.Scope.has_fam 0x1810 32 _)
  have hd2 : Dev.Keeps Dev.axCfgWriteScope d d2 := Dev.Keeps.ite (hd1.put (Dev.Scope.has_fam 0x1810 32 _)) hd1
  have hd3 : Dev.Keeps Dev.axCfgWriteScope d d3 := Dev.Keeps.ite (hd2.upd (pwr := nofun)) hd2
  have hd4 : Dev.Keeps Dev.axCfgWriteScope d d4 := (hd2.put (Dev.Scope.has_fam 0x1820 32 _)).put (Dev.Scope.has_fam 0x1818 32 _)
  exact Dev.Keeps.ite (Dev.Keeps.ite hd3 hd3.syncReset) (Dev.Keeps.ite (hd4.calEnds (fun _ h6 => h6.calAbortAux)) hd4)

/-- What `Dev.axFiltWrite` may write. -/
abbrev Dev.axFiltWriteScope : Dev.Scope := { fams := [(0x1814, 32)] }

theorem Dev.Keeps.axFiltWrite {w : Dev.Scope} {d₀ d : Dev} {n : Nat} {v : Nat} (h : Dev.Keeps w d₀ d)
    (hw : Dev.axFiltWriteScope.le w = true := by decide) : Dev.Keeps w d₀ (d.axFiltWrite n v) := by
  refine h.step hw ?_
  have h : Dev.Keeps Dev.axFiltWriteScope d d := .refl
  unfold Dev.axFiltWrite
  extract_lets keep1 osr1 d1
  have hd1 : Dev.Keeps Dev.axFiltWriteScope d d1 := h.setReg (Dev.Scope.has_fam 0x1814 32 _)
  exact Dev.Keeps.ite (hd1.put (Dev.Scope.has_fam 0x1814 32 _)) hd1

/-- What `Dev.setWin` may write. -/
abbrev Dev.setWinScope : Dev.Scope := { aux := true }

theorem Dev.Keeps.setWin {w : Dev.Scope} {d₀ d : Dev} {k : Nat} {a2 : Win} (h : Dev.Keeps w d₀ d)
    (hw : Dev.setWinScope.le w = true := by decide) : Dev.Keeps w d₀ (d.setWin k a2) := by
  refine h.step hw ?_
  have h : Dev.Keeps Dev.setWinScope d d := .refl
  unfold Dev.setWin
  extract_lets e1
  exact h.upd (aux := nofun)

/-- What `Dev.wcCfgWrite` may write. -/
abbrev Dev.wcCfgWriteScope : Dev.Scope := { aux := true, regs := [R.AUX_STATUS], fams := [(0x1880, 16)] }

theorem Dev.Keeps.wcCfgWrite {w : Dev.Scope} {d₀ d : Dev} {k : Nat} {v : Nat} (h : Dev.Keeps w d₀ d)
    (hw : Dev.wcCfgWriteScope.le w = true := by decide) : Dev.Keeps w d₀ (d.wcCfgWrite k v) := by
  refine h.step hw ?_
  have h : Dev.Keeps Dev.wcCfgWriteScope d d := .refl
  unfold Dev.wcCfgWrite
  extract_lets lo1 hi1 hys1 pers1 chan1 st1 was1 d1 d2 e1
  have hd1 : Dev.Keeps Dev.wcCfgWriteScope d d1 := h.setReg (Dev.Scope.has_fam 0x1880 16 _)
  have hd2 : Dev.Keeps Dev.wcCfgWriteScope d d2 := hd1.put (Dev.Scope.has_fam 0x1880 16 _)
  exact Dev.Keeps.ite (Dev.Keeps.ite h.put hd2.setWin) hd1.setWin

/-- What `Dev.calAbort` may write. -/
abbrev Dev.calAbortScope : Dev.Scope := { freeCount := true, staged := true, mem := true, tick := true, acq := true, hop := true, img := true, ct := true, aux := true, cal := true, seq := true, panel := true, hp := true, ring := true, cl := true, pp := true, pwr := true, flt := true, regs := [R.SYS_CTRL, R.SYS_STATUS, R.SYS_REASON, R.SYS_HALT_INFO, R.ACQ_STATUS, R.HOP_STATUS, R.AUX_COUNTS, R.CAL_STATUS, R.CAL_REASON, R.CAL_COUNT0, R.CAL_COUNT1, R.SEQ_STATUS, R.SEQ_EVPEND, R.GPIO_STATUS, R.GPIO_SWAPST, R.HP_ATTN, R.XR_ECCSB, R.XR_ECCDB, R.RQ_PI, R.RQ_CI, R.RQ_SEQX, R.RQ_LOST, R.RQ_STATUS, R.PP_STATUS, R.PP_COUNTS2, R.PWR_ON, R.PWR_RES, R.PWR_DST0, R.PWR_DST1, R.PWR_WSRC, R.FLT_LOG, R.FLT_LAST, R.FLT_WOPEN], fams := [(0x3ce0, 4), (0x1818, 32), (0x1820, 32), (0x44c0, 4), (0x1c58, 8), (0x1c5c, 8), (0x1c30, 8), (0x1c34, 8)] }

theorem Dev.Keeps.calAbort {w : Dev.Scope} {d₀ d : Dev} {kind : Nat} (h : Dev.Keeps w d₀ d)
    (hw : Dev.calAbortScope.le w = true := by decide) : Dev.Keeps w d₀ (d.calAbort kind) := by
  refine h.step hw ?_
  have h : Dev.Keeps Dev.calAbortScope d d := .refl
  unfold Dev.calAbort
  exact h.calEnds (fun _ h2 => Dev.Keeps.ite h2.calAbortAux h2.calAbortTouch)

/-- What `Dev.putLine` may write. -/
abbrev Dev.putLineScope : Dev.Scope := { fams := [(0x4800, 4)] }

theorem Dev.Keeps.putLine {w : Dev.Scope} {d₀ d : Dev} {n g : Nat} (h : Dev.Keeps w d₀ d)
    (hw : Dev.putLineScope.le w = true := by decide) : Dev.Keeps w d₀ (d.putLine n g) := by
  refine h.step hw ?_
  exact Dev.Keeps.ite (Dev.Keeps.refl.put (Dev.Scope.has_fam 0x4800 4 _)) (Dev.Keeps.refl.put (Dev.Scope.has_fam 0x4800 4 _))

/-- What `Dev.calDefaults` may write. -/
abbrev Dev.calDefaultsScope : Dev.Scope := { regs := [R.CAL_STATUS], fams := [(0x1c80, 4), (0x4800, 4), (0x1c58, 8), (0x1c5c, 8)] }

theorem Dev.Keeps.calDefaults {w : Dev.Scope} {d₀ d : Dev}  (h : Dev.Keeps w d₀ d)
    (hw : Dev.calDefaultsScope.le w = true := by decide) : Dev.Keeps w d₀ (d.calDefaults) := by
  refine h.step hw ?_
  have h : Dev.Keeps Dev.calDefaultsScope d d := .refl
  unfold Dev.calDefaults
  extract_lets d1 d2 d3 d4
  have hd1 : Dev.Keeps Dev.calDefaultsScope d d1 := Dev.Keeps.foldl (fun _ _ h2 => (h2.put (Dev.Scope.has_fam 0x1c80 4 _)).put (Dev.Scope.has_fam 0x1c80 4 _)) h
  have hd2 : Dev.Keeps Dev.calDefaultsScope d d2 := Dev.Keeps.foldl (fun _ _ h3 => h3.putLine) hd1
  have hd3 : Dev.Keeps Dev.calDefaultsScope d d3 := Dev.Keeps.foldl (fun _ _ h4 => (h4.put (Dev.Scope.has_fam 0x1c58 8 _)).put (Dev.Scope.has_fam 0x1c5c 8 _)) hd2
  have hd4 : Dev.Keeps Dev.calDefaultsScope d d4 := hd3.put
  exact Dev.Keeps.ite h hd4.put

/-- What `Dev.calRefuse` may write. -/
abbrev Dev.calRefuseScope : Dev.Scope := { mem := true, ring := true, regs := [R.CAL_REASON, R.SEQ_EVPEND, R.HP_ATTN, R.XR_ECCSB, R.XR_ECCDB, R.RQ_PI, R.RQ_CI, R.RQ_SEQX, R.RQ_LOST, R.RQ_STATUS] }

theorem Dev.Keeps.calRefuse {w : Dev.Scope} {d₀ d : Dev} {kind : Nat} {code : Nat} {tag : Nat} (h : Dev.Keeps w d₀ d)
    (hw : Dev.calRefuseScope.le w = true := by decide) : Dev.Keeps w d₀ (d.calRefuse kind code tag) := by
  refine h.step hw ?_
  have h : Dev.Keeps Dev.calRefuseScope d d := .refl
  unfold Dev.calRefuse
  extract_lets d1
  have hd1 : Dev.Keeps Dev.calRefuseScope d d1 := h.calReason
  exact hd1.report

/-- What `Dev.calBegin` may write. -/
abbrev Dev.calBeginScope : Dev.Scope := { staged := true, aux := true, cal := true, regs := [R.CAL_STATUS], fams := [(0x1818, 32)] }

theorem Dev.Keeps.calBegin {w : Dev.Scope} {d₀ d : Dev} {kind : Nat} (h : Dev.Keeps w d₀ d)
    (hw : Dev.calBeginScope.le w = true := by decide) : Dev.Keeps w d₀ (d.calBegin kind) := by
  refine h.step hw ?_
  have h : Dev.Keeps Dev.calBeginScope d d := .refl
  unfold Dev.calBegin
  extract_lets cfg1 d1 sel1 e1 e2 d2 d3 d4 e3
  have hd1 : Dev.Keeps Dev.calBeginScope d d1 := h.put
  have he1 : Dev.Keeps Dev.calBeginScope d e1 := hd1.put
  have hd2 : Dev.Keeps Dev.calBeginScope d d2 := he1.upd (aux := nofun) (cal := nofun)
  have hd3 : Dev.Keeps Dev.calBeginScope d d3 := hd1.put.put.put.put
  have hd4 : Dev.Keeps Dev.calBeginScope d d4 := Dev.Keeps.foldl (fun _ _ h6 => h6.unstageOffs) hd3
  exact Dev.Keeps.ite (Dev.Keeps.foldl (fun _ _ h7 => Dev.Keeps.ite (h7.put (Dev.Scope.has_fam 0x1818 32 _)) h7) hd2) (hd4.upd (cal := nofun))

/-- What `Dev.calGo` may write. -/
abbrev Dev.calGoScope : Dev.Scope := { staged := true, mem := true, aux := true, cal := true, ring := true, regs := [R.CAL_STATUS, R.CAL_REASON, R.SEQ_EVPEND, R.HP_ATTN, R.XR_ECCSB, R.XR_ECCDB, R.RQ_PI, R.RQ_CI, R.RQ_SEQX, R.RQ_LOST, R.RQ_STATUS], fams := [(0x1818, 32)] }

theorem Dev.Keeps.calGo {w : Dev.Scope} {d₀ d : Dev} {kind : Nat} (h : Dev.Keeps w d₀ d)
    (hw : Dev.calGoScope.le w = true := by decide) : Dev.Keeps w d₀ (d.calGo kind) := by
  refine h.step hw ?_
  have h : Dev.Keeps Dev.calGoScope d d := .refl
  unfold Dev.calGo
  split
  · exact h.calRefuse
  · exact h.calBegin

/-- What `Dev.seqClrCnt` may write. -/
abbrev Dev.seqClrCntScope : Dev.Scope := { regs := [R.SEQ_CYCMAX, R.SEQ_COUNTS] }

theorem Dev.Keeps.seqClrCnt {w : Dev.Scope} {d₀ d : Dev}  (h : Dev.Keeps w d₀ d)
    (hw : Dev.seqClrCntScope.le w = true := by decide) : Dev.Keeps w d₀ (d.seqClrCnt) := by
  refine h.step hw ?_
  have h : Dev.Keeps Dev.seqClrCntScope d d := .refl
  unfold Dev.seqClrCnt
  exact Dev.Keeps.ite h.setReg.setReg h

/-- What `Dev.seqCount` may write. -/
abbrev Dev.seqCountScope : Dev.Scope := { seq := true }

theorem Dev.Keeps.seqCount {w : Dev.Scope} {d₀ d : Dev} {n : Nat} (h : Dev.Keeps w d₀ d)
    (hw : Dev.seqCountScope.le w = true := by decide) : Dev.Keeps w d₀ (d.seqCount n) := by
  refine h.step hw ?_
  have h : Dev.Keeps Dev.seqCountScope d d := .refl
  unfold Dev.seqCount
  extract_lets c1 past1 e1
  exact Dev.Keeps.ite h (h.upd (seq := nofun))

/-- What `Dev.noteDirect` may write. -/
abbrev Dev.noteDirectScope : Dev.Scope := { mem := true, ring := true, flt := true, regs := [R.HP_ATTN, R.XR_ECCSB, R.XR_ECCDB, R.RQ_PI, R.RQ_CI, R.RQ_SEQX, R.FLT_LOG, R.FLT_LAST, R.FLT_WOPEN], fams := [(0x44c0, 4)] }

theorem Dev.Keeps.noteDirect {w : Dev.Scope} {d₀ d : Dev} {src : Nat} {detail : Nat} {cause : Nat} {forceSlot : Bool} (h : Dev.Keeps w d₀ d)
    (hw : Dev.noteDirectScope.le w = true := by decide) : Dev.Keeps w d₀ (d.noteDirect src detail cause forceSlot) := by
  refine h.step hw ?_
  have h : Dev.Keeps Dev.noteDirectScope d d := .refl
  unfold Dev.noteDirect
  extract_lets d1
  have hd1 : Dev.Keeps Dev.noteDirectScope d d1 := h.inc (Dev.Scope.has_fam 0x44c0 4 _)
  split
  · rename_i q2 _ q2a _
    have hq2a : Dev.Keeps Dev.noteDirectScope d q2a := Dev.Keeps.of_snd ‹_› hd1.windowOpen
    extract_lets d2
    have hd2 : Dev.Keeps Dev.noteDirectScope d d2 := hq2a.inc (Dev.Scope.has_fam 0x44c0 4 _)
    exact hd2.lasting

/-- What `Dev.raiseDirect` may write. -/
abbrev Dev.raiseDirectScope : Dev.Scope := { freeCount := true, staged := true, mem := true, tick := true, acq := true, hop := true, img := true, ct := true, aux := true, cal := true, seq := true, panel := true, hp := true, ring := true, cl := true, pp := true, pwr := true, flt := true, regs := [R.SYS_CTRL, R.SYS_STATUS, R.SYS_REASON, R.SYS_HALT_INFO, R.ACQ_STATUS, R.HOP_STATUS, R.CAL_STATUS, R.CAL_REASON, R.SEQ_STATUS, R.SEQ_EVPEND, R.GPIO_STATUS, R.GPIO_SWAPST, R.HP_ATTN, R.XR_ECCSB, R.XR_ECCDB, R.RQ_PI, R.RQ_CI, R.RQ_SEQX, R.RQ_LOST, R.RQ_STATUS, R.PP_STATUS, R.PP_COUNTS2, R.PWR_ON, R.PWR_RES, R.PWR_DST0, R.PWR_DST1, R.PWR_WSRC, R.FLT_LOG, R.FLT_LAST, R.FLT_WOPEN], fams := [(0x3ce0, 4), (0x1818, 32), (0x1820, 32), (0x44c0, 4)] }

theorem Dev.Keeps.raiseDirect {w : Dev.Scope} {d₀ d : Dev} {src : Nat} {detail : Nat} {cause : Nat} (h : Dev.Keeps w d₀ d)
    (hw : Dev.raiseDirectScope.le w = true := by decide) : Dev.Keeps w d₀ (d.raiseDirect src detail cause) := by
  refine h.step hw ?_
  have h : Dev.Keeps Dev.raiseDirectScope d d := .refl
  unfold Dev.raiseDirect
  exact h.noteDirect.settleFaults

/-- What `Dev.seqHalt` may write. -/
abbrev Dev.seqHaltScope : Dev.Scope := { freeCount := true, staged := true, mem := true, tick := true, acq := true, hop := true, img := true, ct := true, aux := true, cal := true, seq := true, panel := true, hp := true, ring := true, cl := true, pp := true, pwr := true, flt := true, regs := [R.SYS_CTRL, R.SYS_STATUS, R.SYS_REASON, R.SYS_HALT_INFO, R.ACQ_STATUS, R.HOP_STATUS, R.CAL_STATUS, R.CAL_REASON, R.SEQ_STATUS, R.SEQ_EVPEND, R.SEQ_HALT, R.GPIO_STATUS, R.GPIO_SWAPST, R.HP_ATTN, R.XR_ECCSB, R.XR_ECCDB, R.RQ_PI, R.RQ_CI, R.RQ_SEQX, R.RQ_LOST, R.RQ_STATUS, R.PP_STATUS, R.PP_COUNTS2, R.PWR_ON, R.PWR_RES, R.PWR_DST0, R.PWR_DST1, R.PWR_WSRC, R.FLT_LOG, R.FLT_LAST, R.FLT_WOPEN], fams := [(0x3ce0, 4), (0x1818, 32), (0x1820, 32), (0x44c0, 4)] }

theorem Dev.Keeps.seqHalt {w : Dev.Scope} {d₀ d : Dev} {cause : Nat} (h : Dev.Keeps w d₀ d)
    (hw : Dev.seqHaltScope.le w = true := by decide) : Dev.Keeps w d₀ (d.seqHalt cause) := by
  refine h.step hw ?_
  have h : Dev.Keeps Dev.seqHaltScope d d := .refl
  unfold Dev.seqHalt
  extract_lets d1 d2
  have hd1 : Dev.Keeps Dev.seqHaltScope d d1 := h.put.put
  have hd2 : Dev.Keeps Dev.seqHaltScope d d2 := hd1.stopCore.safeState.holdAttn
  exact Dev.Keeps.ite hd2.raiseDirect hd2.raiseDirect

/-- What `Dev.seqFault` may write. -/
abbrev Dev.seqFaultScope : Dev.Scope := { freeCount := true, staged := true, mem := true, tick := true, acq := true, hop := true, img := true, ct := true, aux := true, cal := true, seq := true, panel := true, hp := true, ring := true, cl := true, pp := true, pwr := true, flt := true, regs := [R.SYS_CTRL, R.SYS_STATUS, R.SYS_REASON, R.SYS_HALT_INFO, R.ACQ_STATUS, R.HOP_STATUS, R.CAL_STATUS, R.CAL_REASON, R.SEQ_STATUS, R.SEQ_EVPEND, R.SEQ_FAULT, R.SEQ_FADDR, R.SEQ_HALT, R.SEQ_COUNTS, R.GPIO_STATUS, R.GPIO_SWAPST, R.HP_ATTN, R.XR_ECCSB, R.XR_ECCDB, R.RQ_PI, R.RQ_CI, R.RQ_SEQX, R.RQ_LOST, R.RQ_STATUS, R.PP_STATUS, R.PP_COUNTS2, R.PWR_ON, R.PWR_RES, R.PWR_DST0, R.PWR_DST1, R.PWR_WSRC, R.FLT_LOG, R.FLT_LAST, R.FLT_WOPEN], fams := [(0x3ce0, 4), (0x1818, 32), (0x1820, 32), (0x44c0, 4)] }

theorem Dev.Keeps.seqFault {w : Dev.Scope} {d₀ d : Dev} {cause : Nat} {pc : Nat} {addr : Option Nat} (h : Dev.Keeps w d₀ d)
    (hw : Dev.seqFaultScope.le w = true := by decide) : Dev.Keeps w d₀ (d.seqFault cause pc addr) := by
  refine h.step hw ?_
  have h : Dev.Keeps Dev.seqFaultScope d d := .refl
  unfold Dev.seqFault
  extract_lets entry1 d1 d2 d3 e1 d4 d5 d6 e2
  have hd1 : Dev.Keeps Dev.seqFaultScope d d1 := h.put.put.put
  have hd2 : Dev.Keeps Dev.seqFaultScope d d2 := by
    unfold d2
    split
    · exact hd1
    · exact hd1.put
  have hd3 : Dev.Keeps Dev.seqFaultScope d d3 := hd2.inc
  have hd4 : Dev.Keeps Dev.seqFaultScope d d4 := hd3.upd (seq := nofun)
  have hd5 : Dev.Keeps Dev.seqFaultScope d d5 := hd4.raise
  have hd6 : Dev.Keeps Dev.seqFaultScope d d6 := hd5.put.put
  exact Dev.Keeps.ite hd5 (Dev.Keeps.ite hd5.seqHalt (Dev.Keeps.ite hd5.seqHalt (hd6.upd (seq := nofun))))

/-- What `Dev.seqGoto` may write. -/
abbrev Dev.seqGotoScope : Dev.Scope := { freeCount := true, staged := true, mem := true, tick := true, acq := true, hop := true, img := true, ct := true, aux := true, cal := true, seq := true, panel := true, hp := true, ring := true, cl := true, pp := true, pwr := true, flt := true, regs := [R.SYS_CTRL, R.SYS_STATUS, R.SYS_REASON, R.SYS_HALT_INFO, R.ACQ_STATUS, R.HOP_STATUS, R.CAL_STATUS, R.CAL_REASON, R.SEQ_STATUS, R.SEQ_EVPEND, R.SEQ_FAULT, R.SEQ_FADDR, R.SEQ_HALT, R.SEQ_COUNTS, R.GPIO_STATUS, R.GPIO_SWAPST, R.HP_ATTN, R.XR_ECCSB, R.XR_ECCDB, R.RQ_PI, R.RQ_CI, R.RQ_SEQX, R.RQ_LOST, R.RQ_STATUS, R.PP_STATUS, R.PP_COUNTS2, R.PWR_ON, R.PWR_RES, R.PWR_DST0, R.PWR_DST1, R.PWR_WSRC, R.FLT_LOG, R.FLT_LAST, R.FLT_WOPEN], fams := [(0x3ce0, 4), (0x1818, 32), (0x1820, 32), (0x44c0, 4)] }

theorem Dev.Keeps.seqGoto {w : Dev.Scope} {d₀ d : Dev} {next : Nat} (h : Dev.Keeps w d₀ d)
    (hw : Dev.seqGotoScope.le w = true := by decide) : Dev.Keeps w d₀ (d.seqGoto next) := by
  refine h.step hw ?_
  have h : Dev.Keeps Dev.seqGotoScope d d := .refl
  unfold Dev.seqGoto
  extract_lets e1
  exact Dev.Keeps.ite (h.upd (seq := nofun)) h.seqFault

/-- What `Dev.seqDone` may write. -/
abbrev Dev.seqDoneScope : Dev.Scope := { freeCount := true, staged := true, mem := true, tick := true, acq := true, hop := true, img := true, ct := true, aux := true, cal := true, seq := true, panel := true, hp := true, ring := true, cl := true, pp := true, pwr := true, flt := true, regs := [R.SYS_CTRL, R.SYS_STATUS, R.SYS_REASON, R.SYS_HALT_INFO, R.ACQ_STATUS, R.HOP_STATUS, R.CAL_STATUS, R.CAL_REASON, R.SEQ_STATUS, R.SEQ_EVPEND, R.SEQ_FAULT, R.SEQ_FADDR, R.SEQ_HALT, R.SEQ_COUNTS, R.GPIO_STATUS, R.GPIO_SWAPST, R.HP_ATTN, R.XR_ECCSB, R.XR_ECCDB, R.RQ_PI, R.RQ_CI, R.RQ_SEQX, R.RQ_LOST, R.RQ_STATUS, R.PP_STATUS, R.PP_COUNTS2, R.PWR_ON, R.PWR_RES, R.PWR_DST0, R.PWR_DST1, R.PWR_WSRC, R.FLT_LOG, R.FLT_LAST, R.FLT_WOPEN], fams := [(0x3ce0, 4), (0x1818, 32), (0x1820, 32), (0x44c0, 4)] }

theorem Dev.Keeps.seqDone {w : Dev.Scope} {d₀ d : Dev} {a : Nat} {next : Nat} (h : Dev.Keeps w d₀ d)
    (hw : Dev.seqDoneScope.le w = true := by decide) : Dev.Keeps w d₀ (d.seqDone a next) := by
  refine h.step hw ?_
  have h : Dev.Keeps Dev.seqDoneScope d d := .refl
  unfold Dev.seqDone
  extract_lets e1
  exact Dev.Keeps.ite (Dev.Keeps.ite ((h.upd (seq := nofun)).seqHalt) h.seqFault) h.seqGoto

/-- What `Dev.seqResume` may write. -/
abbrev Dev.seqResumeScope : Dev.Scope := { freeCount := true, staged := true, mem := true, tick := true, acq := true, hop := true, img := true, ct := true, aux := true, cal := true, seq := true, panel := true, hp := true, ring := true, cl := true, pp := true, pwr := true, flt := true, regs := [R.SYS_CTRL, R.SYS_STATUS, R.SYS_REASON, R.SYS_HALT_INFO, R.ACQ_STATUS, R.HOP_STATUS, R.CAL_STATUS, R.CAL_REASON, R.SEQ_STATUS, R.SEQ_EVPEND, R.SEQ_FAULT, R.SEQ_FADDR, R.SEQ_HALT, R.SEQ_COUNTS, R.GPIO_STATUS, R.GPIO_SWAPST, R.HP_ATTN, R.XR_ECCSB, R.XR_ECCDB, R.RQ_PI, R.RQ_CI, R.RQ_SEQX, R.RQ_LOST, R.RQ_STATUS, R.PP_STATUS, R.PP_COUNTS2, R.PWR_ON, R.PWR_RES, R.PWR_DST0, R.PWR_DST1, R.PWR_WSRC, R.FLT_LOG, R.FLT_LAST, R.FLT_WOPEN], fams := [(0x3ce0, 4), (0x1818, 32), (0x1820, 32), (0x44c0, 4)] }

theorem Dev.Keeps.seqResume {w : Dev.Scope} {d₀ d : Dev}  (h : Dev.Keeps w d₀ d)
    (hw : Dev.seqResumeScope.le w = true := by decide) : Dev.Keeps w d₀ (d.seqResume) := by
  refine h.step hw ?_
  have h : Dev.Keeps Dev.seqResumeScope d d := .refl
  unfold Dev.seqResume
  extract_lets d1 d2
  have hd1 : Dev.Keeps Dev.seqResumeScope d d1 := h.put
  have hd2 : Dev.Keeps Dev.seqResumeScope d d2 := hd1.seqCount
  exact Dev.Keeps.ite h hd2.seqDone

/-- What `Dev.seqHaltReq` may write. -/
abbrev Dev.seqHaltReqScope : Dev.Scope := { freeCount := true, staged := true, mem := true, tick := true, acq := true, hop := true, img := true, ct := true, aux := true, cal := true, seq := true, panel := true, hp := true, ring := true, cl := true, pp := true, pwr := true, flt := true, regs := [R.SYS_CTRL, R.SYS_STATUS, R.SYS_REASON, R.SYS_HALT_INFO, R.ACQ_STATUS, R.HOP_STATUS, R.CAL_STATUS, R.CAL_REASON, R.SEQ_STATUS, R.SEQ_EVPEND, R.SEQ_HALT, R.GPIO_STATUS, R.GPIO_SWAPST, R.HP_ATTN, R.XR_ECCSB, R.XR_ECCDB, R.RQ_PI, R.RQ_CI, R.RQ_SEQX, R.RQ_LOST, R.RQ_STATUS, R.PP_STATUS, R.PP_COUNTS2, R.PWR_ON, R.PWR_RES, R.PWR_DST0, R.PWR_DST1, R.PWR_WSRC, R.FLT_LOG, R.FLT_LAST, R.FLT_WOPEN], fams := [(0x3ce0, 4), (0x1818, 32), (0x1820, 32), (0x44c0, 4)] }

theorem Dev.Keeps.seqHaltReq {w : Dev.Scope} {d₀ d : Dev}  (h : Dev.Keeps w d₀ d)
    (hw : Dev.seqHaltReqScope.le w = true := by decide) : Dev.Keeps w d₀ (d.seqHaltReq) := by
  refine h.step hw ?_
  have h : Dev.Keeps Dev.seqHaltReqScope d d := .refl
  unfold Dev.seqHaltReq
  exact Dev.Keeps.ite h h.seqHalt

/-- What `Dev.tmCfgWrite` may write. -/
abbrev Dev.tmCfgWriteScope : Dev.Scope := { fams := [(0x240c, 16), (0x2408, 16), (0x2400, 16)] }

theorem Dev.Keeps.tmCfgWrite {w : Dev.Scope} {d₀ d : Dev} {k : Nat} {v : Nat} (h : Dev.Keeps w d₀ d)
    (hw : Dev.tmCfgWriteScope.le w = true := by decide) : Dev.Keeps w d₀ (d.tmCfgWrite k v) := by
  refine h.step hw ?_
  have h : Dev.Keeps Dev.tmCfgWriteScope d d := .refl
  unfold Dev.tmCfgWrite
  extract_lets old1 w1 w2 w3
  exact (h.setReg (Dev.Scope.has_fam 0x2400 16 _)).tmSet

/-- What `Dev.tmPresetWrite` may write. -/
abbrev Dev.tmPresetWriteScope : Dev.Scope := { fams := [(0x2404, 16)] }

theorem Dev.Keeps.tmPresetWrite {w : Dev.Scope} {d₀ d : Dev} {k : Nat} {v : Nat} (h : Dev.Keeps w d₀ d)
    (hw : Dev.tmPresetWriteScope.le w = true := by decide) : Dev.Keeps w d₀ (d.tmPresetWrite k v) := by
  refine h.step hw ?_
  have h : Dev.Keeps Dev.tmPresetWriteScope d d := .refl
  unfold Dev.tmPresetWrite
  exact h.put (Dev.Scope.has_fam 0x2404 16 _)

/-- What `Dev.setExp` may write. -/
abbrev Dev.setExpScope : Dev.Scope := { regs := [R.GPIO_TMEXP0, R.GPIO_TMEXP1], fams := [(0x240c, 16)] }

theorem Dev.Keeps.setExp {w : Dev.Scope} {d₀ d : Dev} {k : Nat} {b : Bool} (h : Dev.Keeps w d₀ d)
    (hw : Dev.setExpScope.le w = true := by decide) : Dev.Keeps w d₀ (d.setExp k b) := by
  refine h.step hw ?_
  have h : Dev.Keeps Dev.setExpScope d d := .refl
  unfold Dev.setExp
  exact (h.putB (Dev.Scope.has_fam 0x240c 16 _)).putBit

/-- What `Dev.tmTrig` may write. -/
abbrev Dev.tmTrigScope : Dev.Scope := { panel := true }

theorem Dev.Keeps.tmTrig {w : Dev.Scope} {d₀ d : Dev} {k : Nat} (h : Dev.Keeps w d₀ d)
    (hw : Dev.tmTrigScope.le w = true := by decide) : Dev.Keeps w d₀ (d.tmTrig k) := by
  refine h.step hw ?_
  have h : Dev.Keeps Dev.tmTrigScope d d := .refl
  unfold Dev.tmTrig
  extract_lets mode1 e1
  exact Dev.Keeps.ite (h.upd (panel := nofun)) h

/-- What `Dev.setF` may write. -/
abbrev Dev.setFScope : Dev.Scope := { regs := [R.ED_LEVEL0, R.ED_LEVEL1], fams := [(0x2804, 8)] }

theorem Dev.Keeps.setF {w : Dev.Scope} {d₀ d : Dev} {k : Nat} {b : Bool} (h : Dev.Keeps w d₀ d)
    (hw : Dev.setFScope.le w = true := by decide) : Dev.Keeps w d₀ (d.setF k b) := by
  refine h.step hw ?_
  have h : Dev.Keeps Dev.setFScope d d := .refl
  unfold Dev.setF
  exact (h.putB (Dev.Scope.has_fam 0x2804 8 _)).putBit

/-- What `Dev.edArm` may write. -/
abbrev Dev.edArmScope : Dev.Scope := { regs := [R.ED_LEVEL0, R.ED_LEVEL1], fams := [(0x2804, 8)] }

theorem Dev.Keeps.edArm {w : Dev.Scope} {d₀ d : Dev} {k : Nat} (h : Dev.Keeps w d₀ d)
    (hw : Dev.edArmScope.le w = true := by decide) : Dev.Keeps w d₀ (d.edArm k) := by
  refine h.step hw ?_
  have h : Dev.Keeps Dev.edArmScope d d := .refl
  unfold Dev.edArm
  extract_lets d1 s1
  have hd1 : Dev.Keeps Dev.edArmScope d d1 := h.put (Dev.Scope.has_fam 0x2804 8 _)
  exact Dev.Keeps.ite (hd1.setF.putB (Dev.Scope.has_fam 0x2804 8 _)) (hd1.setF.putB (Dev.Scope.has_fam 0x2804 8 _))

/-- What `Dev.edCfgWrite` may write. -/
abbrev Dev.edCfgWriteScope : Dev.Scope := { regs := [R.ED_LEVEL0, R.ED_LEVEL1], fams := [(0x2804, 8), (0x2800, 8)] }

theorem Dev.Keeps.edCfgWrite {w : Dev.Scope} {d₀ d : Dev} {k : Nat} {v : Nat} (h : Dev.Keeps w d₀ d)
    (hw : Dev.edCfgWriteScope.le w = true := by decide) : Dev.Keeps w d₀ (d.edCfgWrite k v) := by
  refine h.step hw ?_
  have h : Dev.Keeps Dev.edCfgWriteScope d d := .refl
  unfold Dev.edCfgWrite
  extract_lets styp1 snum1
  exact Dev.Keeps.ite h ((h.setReg (Dev.Scope.has_fam 0x2800 8 _)).edArm)

/-- What `Dev.setLat` may write. -/
abbrev Dev.setLatScope : Dev.Scope := { regs := [R.ED_LAT0, R.ED_LAT1], fams := [(0x2804, 8)] }

theorem Dev.Keeps.setLat {w : Dev.Scope} {d₀ d : Dev} {k : Nat} {b : Bool} (h : Dev.Keeps w d₀ d)
    (hw : Dev.setLatScope.le w = true := by decide) : Dev.Keeps w d₀ (d.setLat k b) := by
  refine h.step hw ?_
  have h : Dev.Keeps Dev.setLatScope d d := .refl
  unfold Dev.setLat
  exact (h.putB (Dev.Scope.has_fam 0x2804 8 _)).putBit

/-- What `Dev.gpioCfgWrite` may write. -/
abbrev Dev.gpioCfgWriteScope : Dev.Scope := { panel := true, fams := [(0x2c00, 4)] }

theorem Dev.Keeps.gpioCfgWrite {w : Dev.Scope} {d₀ d : Dev} {n : Nat} {v : Nat} (h : Dev.Keeps w d₀ d)
    (hw : Dev.gpioCfgWriteScope.le w = true := by decide) : Dev.Keeps w d₀ (d.gpioCfgWrite n v) := by
  refine h.step hw ?_
  have h : Dev.Keeps Dev.gpioCfgWriteScope d d := .refl
  unfold Dev.gpioCfgWrite
  extract_lets old1 w1 w2 w3
  exact (h.setReg (Dev.Scope.has_fam 0x2c00 4 _)).pwmSettle

/-- What `Dev.gpioSet` may write. -/
abbrev Dev.gpioSetScope : Dev.Scope := { regs := [R.GPIO_OUT] }

theorem Dev.Keeps.gpioSet {w : Dev.Scope} {d₀ d : Dev} {v : Nat} (h : Dev.Keeps w d₀ d)
    (hw : Dev.gpioSetScope.le w = true := by decide) : Dev.Keeps w d₀ (d.gpioSet v) := by
  refine h.step hw ?_
  have h : Dev.Keeps Dev.gpioSetScope d d := .refl
  unfold Dev.gpioSet
  exact h.put

/-- What `Dev.gpioClr` may write. -/
abbrev Dev.gpioClrScope : Dev.Scope := { regs := [R.GPIO_OUT] }

theorem Dev.Keeps.gpioClr {w : Dev.Scope} {d₀ d : Dev} {v : Nat} (h : Dev.Keeps w d₀ d)
    (hw : Dev.gpioClrScope.le w = true := by decide) : Dev.Keeps w d₀ (d.gpioClr v) := by
  refine h.step hw ?_
  have h : Dev.Keeps Dev.gpioClrScope d d := .refl
  unfold Dev.gpioClr
  exact h.put

/-- What `Dev.pwmWrite` may write. -/
abbrev Dev.pwmWriteScope : Dev.Scope := { panel := true, regs := [R.GPIO_PWM4, R.GPIO_PWM5] }

theorem Dev.Keeps.pwmWrite {w : Dev.Scope} {d₀ d : Dev} {n v : Nat} (h : Dev.Keeps w d₀ d)
    (hw : Dev.pwmWriteScope.le w = true := by decide) : Dev.Keeps w d₀ (d.pwmWrite n v) := by
  refine h.step hw ?_
  refine Dev.Keeps.pwmSettle (Dev.Keeps.setReg .refl ?_)
  split <;> rfl

/-- What `Dev.hpClrCnt` may write. -/
abbrev Dev.hpClrCntScope : Dev.Scope := { regs := [R.HP_COUNTS] }

theorem Dev.Keeps.hpClrCnt {w : Dev.Scope} {d₀ d : Dev}  (h : Dev.Keeps w d₀ d)
    (hw : Dev.hpClrCntScope.le w = true := by decide) : Dev.Keeps w d₀ (d.hpClrCnt) := by
  refine h.step hw ?_
  have h : Dev.Keeps Dev.hpClrCntScope d d := .refl
  unfold Dev.hpClrCnt
  exact h.setReg

/-- What `Dev.hpAckClr` may write. -/
abbrev Dev.hpAckClrScope : Dev.Scope := { regs := [R.HP_ACK] }

theorem Dev.Keeps.hpAckClr {w : Dev.Scope} {d₀ d : Dev}  (h : Dev.Keeps w d₀ d)
    (hw : Dev.hpAckClrScope.le w = true := by decide) : Dev.Keeps w d₀ (d.hpAckClr) := by
  refine h.step hw ?_
  have h : Dev.Keeps Dev.hpAckClrScope d d := .refl
  unfold Dev.hpAckClr
  exact h.put

/-- What `Dev.guarWrite` may write. -/
abbrev Dev.guarWriteScope : Dev.Scope := { staged := true, regs := [R.XR_STATUS], fams := [(0x3410, 4)] }

theorem Dev.Keeps.guarWrite {w : Dev.Scope} {d₀ d : Dev} {c : Nat} {v : Word} (h : Dev.Keeps w d₀ d)
    (hw : Dev.guarWriteScope.le w = true := by decide) : Dev.Keeps w d₀ (d.guarWrite c v) := by
  refine h.step hw ?_
  have h : Dev.Keeps Dev.guarWriteScope d d := .refl
  unfold Dev.guarWrite
  extract_lets v1 a1 vs1 fits1
  exact Dev.Keeps.ite (h.stageBusy rfl (Dev.Scope.has_fam 0x3410 4 _)) (Dev.Keeps.ite (h.stageBusy rfl (Dev.Scope.has_fam 0x3410 4 _)) h.put)

/-- What `Dev.enRefused` may write. -/
abbrev Dev.enRefusedScope : Dev.Scope := { regs := [R.XR_STATUS] }

theorem Dev.Keeps.enRefused {w : Dev.Scope} {d₀ d : Dev} {r : Nat} {cause : Nat} (h : Dev.Keeps w d₀ d)
    (hw : Dev.enRefusedScope.le w = true := by decide) : Dev.Keeps w d₀ (d.enRefused r cause) := by
  refine h.step hw ?_
  have h : Dev.Keeps Dev.enRefusedScope d d := .refl
  unfold Dev.enRefused
  exact h.put.put.put

/-- What `Dev.cqCtrlWrite` may write. -/
abbrev Dev.cqCtrlWriteScope : Dev.Scope := { ring := true, regs := [R.XR_STATUS, R.CQ_CTRL] }

theorem Dev.Keeps.cqCtrlWrite {w : Dev.Scope} {d₀ d : Dev} {v : Nat} (h : Dev.Keeps w d₀ d)
    (hw : Dev.cqCtrlWriteScope.le w = true := by decide) : Dev.Keeps w d₀ (d.cqCtrlWrite v) := by
  refine h.step hw ?_
  have h : Dev.Keeps Dev.cqCtrlWriteScope d d := .refl
  unfold Dev.cqCtrlWrite
  extract_lets was1 d1 d2
  have hd1 : Dev.Keeps Dev.cqCtrlWriteScope d d1 := Dev.Keeps.ite h h.put
  have hd2 : Dev.Keeps Dev.cqCtrlWriteScope d d2 := Dev.Keeps.ite hd1 hd1.put
  split
  · exact h
  · split
    · split
      · exact hd2
      · split
        · exact hd2.enRefused
        · exact hd2.put
    · exact Dev.Keeps.ite hd2.cqOff hd2

/-- What `Dev.rqCtrlWrite` may write. -/
abbrev Dev.rqCtrlWriteScope : Dev.Scope := { regs := [R.XR_STATUS, R.RQ_CTRL] }

theorem Dev.Keeps.rqCtrlWrite {w : Dev.Scope} {d₀ d : Dev} {v : Nat} (h : Dev.Keeps w d₀ d)
    (hw : Dev.rqCtrlWriteScope.le w = true := by decide) : Dev.Keeps w d₀ (d.rqCtrlWrite v) := by
  refine h.step hw ?_
  have h : Dev.Keeps Dev.rqCtrlWriteScope d d := .refl
  unfold Dev.rqCtrlWrite
  extract_lets was1 d1
  have hd1 : Dev.Keeps Dev.rqCtrlWriteScope d d1 := Dev.Keeps.ite h h.put
  split
  · exact h
  · split
    · split
      · exact hd1
      · split
        · exact hd1.enRefused
        · exact hd1.put
    · exact hd1.put

/-- What `Dev.cqPiWrite` may write. -/
abbrev Dev.cqPiWriteScope : Dev.Scope := { regs := [R.XR_STATUS, R.CQ_PI] }

theorem Dev.Keeps.cqPiWrite {w : Dev.Scope} {d₀ d : Dev} {v : Nat} (h : Dev.Keeps w d₀ d)
    (hw : Dev.cqPiWriteScope.le w = true := by decide) : Dev.Keeps w d₀ (d.cqPiWrite v) := by
  refine h.step hw ?_
  have h : Dev.Keeps Dev.cqPiWriteScope d d := .refl
  unfold Dev.cqPiWrite
  extract_lets v1 ci1 old1 new1
  exact Dev.Keeps.ite h (Dev.Keeps.ite h.put h.put)

/-- What `Dev.rqCiWrite` may write. -/
abbrev Dev.rqCiWriteScope : Dev.Scope := { ring := true, regs := [R.HP_ATTN, R.XR_STATUS, R.RQ_CI] }

theorem Dev.Keeps.rqCiWrite {w : Dev.Scope} {d₀ d : Dev} {v : Nat} (h : Dev.Keeps w d₀ d)
    (hw : Dev.rqCiWriteScope.le w = true := by decide) : Dev.Keeps w d₀ (d.rqCiWrite v) := by
  refine h.step hw ?_
  have h : Dev.Keeps Dev.rqCiWriteScope d d := .refl
  unfold Dev.rqCiWrite
  extract_lets v1 old1 n1 d1 e1
  have hd1 : Dev.Keeps Dev.rqCiWriteScope d d1 := h.put
  exact Dev.Keeps.ite h (Dev.Keeps.ite h.put ((hd1.upd (ring := nofun)).rqAttn))

/-- What `Dev.clRoleWrite` may write. -/
abbrev Dev.clRoleWriteScope : Dev.Scope := { regs := [R.CL_CTRL] }

theorem Dev.Keeps.clRoleWrite {w : Dev.Scope} {d₀ d : Dev} {v : Nat} (h : Dev.Keeps w d₀ d)
    (hw : Dev.clRoleWriteScope.le w = true := by decide) : Dev.Keeps w d₀ (d.clRoleWrite v) := by
  refine h.step hw ?_
  have h : Dev.Keeps Dev.clRoleWriteScope d d := .refl
  unfold Dev.clRoleWrite
  exact Dev.Keeps.ite h.put h

/-- What `Dev.clClrCnt` may write. -/
abbrev Dev.clClrCntScope : Dev.Scope := { regs := [R.CL_COUNTS, R.CL_COUNTS2] }

theorem Dev.Keeps.clClrCnt {w : Dev.Scope} {d₀ d : Dev}  (h : Dev.Keeps w d₀ d)
    (hw : Dev.clClrCntScope.le w = true := by decide) : Dev.Keeps w d₀ (d.clClrCnt) := by
  refine h.step hw ?_
  have h : Dev.Keeps Dev.clClrCntScope d d := .refl
  unfold Dev.clClrCnt
  exact Dev.Keeps.ite h.setReg.setReg h

/-- What `Dev.ppStop` may write. -/
abbrev Dev.ppStopScope : Dev.Scope := { pp := true, regs := [R.PP_STATUS], fams := [(0x3ce0, 4)] }

theorem Dev.Keeps.ppStop {w : Dev.Scope} {d₀ d : Dev} {k : Nat} (h : Dev.Keeps w d₀ d)
    (hw : Dev.ppStopScope.le w = true := by decide) : Dev.Keeps w d₀ (d.ppStop k) := by
  refine h.step hw ?_
  have h : Dev.Keeps Dev.ppStopScope d d := .refl
  unfold Dev.ppStop
  extract_lets d1
  have hd1 : Dev.Keeps Dev.ppStopScope d d1 := h.put (Dev.Scope.has_fam 0x3ce0 4 _)
  exact Dev.Keeps.ite h (Dev.Keeps.ite hd1 hd1.ppQueue.ppState)

/-- What `Dev.ppGoStop` may write. -/
abbrev Dev.ppGoStopScope : Dev.Scope := { pp := true, regs := [R.PP_STATUS], fams := [(0x3ce0, 4)] }

theorem Dev.Keeps.ppGoStop {w : Dev.Scope} {d₀ d : Dev} {m : Nat} (h : Dev.Keeps w d₀ d)
    (hw : Dev.ppGoStopScope.le w = true := by decide) : Dev.Keeps w d₀ (d.ppGoStop m) := by
  refine h.step hw ?_
  have h : Dev.Keeps Dev.ppGoStopScope d d := .refl
  unfold Dev.ppGoStop
  exact Dev.Keeps.foldl (fun _ _ h2 => h2.ppStop) h

/-- What `Dev.ppGo` may write. -/
abbrev Dev.ppGoScope : Dev.Scope := { freeCount := true, staged := true, mem := true, tick := true, acq := true, hop := true, img := true, ct := true, aux := true, cal := true, seq := true, panel := true, hp := true, ring := true, cl := true, pp := true, pwr := true, flt := true, regs := [R.SYS_CTRL, R.SYS_STATUS, R.SYS_REASON, R.SYS_HALT_INFO, R.ACQ_STATUS, R.HOP_STATUS, R.CAL_STATUS, R.CAL_REASON, R.SEQ_STATUS, R.SEQ_EVPEND, R.GPIO_STATUS, R.GPIO_SWAPST, R.HP_ATTN, R.XR_ECCSB, R.XR_ECCDB, R.RQ_PI, R.RQ_CI, R.RQ_SEQX, R.RQ_LOST, R.RQ_STATUS, R.PP_STATUS, R.PP_COUNTS2, R.PWR_ON, R.PWR_RES, R.PWR_DST0, R.PWR_DST1, R.PWR_WSRC, R.FLT_LOG, R.FLT_LAST, R.FLT_WOPEN], fams := [(0x3ce0, 4), (0x1818, 32), (0x1820, 32), (0x44c0, 4)] }

theorem Dev.Keeps.ppGo {w : Dev.Scope} {d₀ d : Dev} {k : Nat} (h : Dev.Keeps w d₀ d)
    (hw : Dev.ppGoScope.le w = true := by decide) : Dev.Keeps w d₀ (d.ppGo k) := by
  refine h.step hw ?_
  have h : Dev.Keeps Dev.ppGoScope d d := .refl
  unfold Dev.ppGo
  extract_lets d1
  have hd1 : Dev.Keeps Dev.ppGoScope d d1 := h.put (Dev.Scope.has_fam 0x3ce0 4 _)
  split
  · exact h
  · split
    · exact ((h.put (Dev.Scope.has_fam 0x3ce0 4 _)).ppState).event
    · exact Dev.Keeps.ite hd1.ppJoin (hd1.ppState.put (Dev.Scope.has_fam 0x3ce0 4 _))

/-- What `Dev.ppGoStart` may write. -/
abbrev Dev.ppGoStartScope : Dev.Scope := { freeCount := true, staged := true, mem := true, tick := true, acq := true, hop := true, img := true, ct := true, aux := true, cal := true, seq := true, panel := true, hp := true, ring := true, cl := true, pp := true, pwr := true, flt := true, regs := [R.SYS_CTRL, R.SYS_STATUS, R.SYS_REASON, R.SYS_HALT_INFO, R.ACQ_STATUS, R.HOP_STATUS, R.CAL_STATUS, R.CAL_REASON, R.SEQ_STATUS, R.SEQ_EVPEND, R.GPIO_STATUS, R.GPIO_SWAPST, R.HP_ATTN, R.XR_ECCSB, R.XR_ECCDB, R.RQ_PI, R.RQ_CI, R.RQ_SEQX, R.RQ_LOST, R.RQ_STATUS, R.PP_STATUS, R.PP_COUNTS2, R.PWR_ON, R.PWR_RES, R.PWR_DST0, R.PWR_DST1, R.PWR_WSRC, R.FLT_LOG, R.FLT_LAST, R.FLT_WOPEN], fams := [(0x3ce0, 4), (0x1818, 32), (0x1820, 32), (0x44c0, 4)] }

theorem Dev.Keeps.ppGoStart {w : Dev.Scope} {d₀ d : Dev} {m : Nat} (h : Dev.Keeps w d₀ d)
    (hw : Dev.ppGoStartScope.le w = true := by decide) : Dev.Keeps w d₀ (d.ppGoStart m) := by
  refine h.step hw ?_
  have h : Dev.Keeps Dev.ppGoStartScope d d := .refl
  unfold Dev.ppGoStart
  exact Dev.Keeps.foldl (fun _ _ h2 => h2.ppGo) h

/-- What `Dev.ppClrCnt` may write. -/
abbrev Dev.ppClrCntScope : Dev.Scope := { regs := [R.PP_COUNTS, R.PP_COUNTS2] }

theorem Dev.Keeps.ppClrCnt {w : Dev.Scope} {d₀ d : Dev}  (h : Dev.Keeps w d₀ d)
    (hw : Dev.ppClrCntScope.le w = true := by decide) : Dev.Keeps w d₀ (d.ppClrCnt) := by
  refine h.step hw ?_
  have h : Dev.Keeps Dev.ppClrCntScope d d := .refl
  unfold Dev.ppClrCnt
  exact h.setReg.setReg

/-- What `Dev.domRequest` may write. -/
abbrev Dev.domRequestScope : Dev.Scope := { freeCount := true, staged := true, mem := true, tick := true, acq := true, hop := true, img := true, ct := true, aux := true, cal := true, seq := true, panel := true, hp := true, ring := true, cl := true, pp := true, pwr := true, flt := true, regs := [R.SYS_CTRL, R.SYS_STATUS, R.SYS_REASON, R.SYS_HALT_INFO, R.ACQ_STATUS, R.HOP_STATUS, R.AUX_COUNTS, R.CAL_STATUS, R.CAL_REASON, R.CAL_COUNT0, R.CAL_COUNT1, R.SEQ_STATUS, R.SEQ_EVPEND, R.GPIO_STATUS, R.GPIO_SWAPST, R.HP_ATTN, R.XR_ECCSB, R.XR_ECCDB, R.RQ_PI, R.RQ_CI, R.RQ_SEQX, R.RQ_LOST, R.RQ_STATUS, R.PP_STATUS, R.PP_COUNTS2, R.PWR_ON, R.PWR_RES, R.PWR_DST0, R.PWR_DST1, R.PWR_WSRC, R.FLT_LOG, R.FLT_LAST, R.FLT_WOPEN], fams := [(0x1818, 32), (0x1820, 32), (0x3ce0, 4), (0x44c0, 4), (0x1c58, 8), (0x1c5c, 8), (0x1c30, 8), (0x1c34, 8)] }

theorem Dev.Keeps.domRequest {w : Dev.Scope} {d₀ d : Dev} {on : Nat} {off : Nat} {cmd : Option Async} (h : Dev.Keeps w d₀ d)
    (hw : Dev.domRequestScope.le w = true := by decide) : Dev.Keeps w d₀ (d.domRequest on off cmd) := by
  refine h.step hw ?_
  have h : Dev.Keeps Dev.domRequestScope d d := .refl
  unfold Dev.domRequest
  extract_lets q1 e1 d1 d2
  have hd1 : Dev.Keeps Dev.domRequestScope d d1 := h.upd (pwr := nofun)
  have hd2 : Dev.Keeps Dev.domRequestScope d d2 := hd1.pwrBusy
  split
  · exact h
  · split
    · exact h
    · split
      · exact h.pwrAnswer
      · split
        · exact h.pwrAnswer
        · split
          · exact h.pwrAnswer
          · exact Dev.Keeps.ite hd2 hd2.domStart.domReqsEnd

/-- What `Dev.pwrDreq` may write. -/
abbrev Dev.pwrDreqScope : Dev.Scope := { freeCount := true, staged := true, mem := true, tick := true, acq := true, hop := true, img := true, ct := true, aux := true, cal := true, seq := true, panel := true, hp := true, ring := true, cl := true, pp := true, pwr := true, flt := true, regs := [R.SYS_CTRL, R.SYS_STATUS, R.SYS_REASON, R.SYS_HALT_INFO, R.ACQ_STATUS, R.HOP_STATUS, R.AUX_COUNTS, R.CAL_STATUS, R.CAL_REASON, R.CAL_COUNT0, R.CAL_COUNT1, R.SEQ_STATUS, R.SEQ_EVPEND, R.GPIO_STATUS, R.GPIO_SWAPST, R.HP_ATTN, R.XR_ECCSB, R.XR_ECCDB, R.RQ_PI, R.RQ_CI, R.RQ_SEQX, R.RQ_LOST, R.RQ_STATUS, R.PP_STATUS, R.PP_COUNTS2, R.PWR_ON, R.PWR_RES, R.PWR_DST0, R.PWR_DST1, R.PWR_WSRC, R.FLT_LOG, R.FLT_LAST, R.FLT_WOPEN], fams := [(0x1818, 32), (0x1820, 32), (0x3ce0, 4), (0x44c0, 4), (0x1c58, 8), (0x1c5c, 8), (0x1c30, 8), (0x1c34, 8)] }

theorem Dev.Keeps.pwrDreq {w : Dev.Scope} {d₀ d : Dev} {v : Nat} (h : Dev.Keeps w d₀ d)
    (hw : Dev.pwrDreqScope.le w = true := by decide) : Dev.Keeps w d₀ (d.pwrDreq v) := by
  refine h.step hw ?_
  have h : Dev.Keeps Dev.pwrDreqScope d d := .refl
  unfold Dev.pwrDreq
  exact Dev.Keeps.ite h h.domRequest

/-- What `Dev.heathRequest` may write. -/
abbrev Dev.heathRequestScope : Dev.Scope := { mem := true, ring := true, pwr := true, regs := [R.HP_ATTN, R.XR_STATUS, R.XR_ECCSB, R.XR_ECCDB, R.RQ_PI, R.RQ_CI, R.RQ_SEQX, R.RQ_LOST, R.RQ_STATUS, R.PWR_RES] }

theorem Dev.Keeps.heathRequest {w : Dev.Scope} {d₀ d : Dev} {cmd : Option Async} (h : Dev.Keeps w d₀ d)
    (hw : Dev.heathRequestScope.le w = true := by decide) : Dev.Keeps w d₀ (d.heathRequest cmd) := by
  refine h.step hw ?_
  have h : Dev.Keeps Dev.heathRequestScope d d := .refl
  unfold Dev.heathRequest
  extract_lets e1
  split
  · exact h.pwrAnswer
  · split
    · exact h.pwrAnswer
    · split
      · exact h.pwrAnswer
      · split
        · exact h.put.put.pwrAnswer
        · exact Dev.Keeps.ite h.pwrAnswer ((h.upd (pwr := nofun)).pwrBusy)

/-- What `Dev.pwrSreqHeath` may write. -/
abbrev Dev.pwrSreqHeathScope : Dev.Scope := { mem := true, ring := true, pwr := true, regs := [R.HP_ATTN, R.XR_STATUS, R.XR_ECCSB, R.XR_ECCDB, R.RQ_PI, R.RQ_CI, R.RQ_SEQX, R.RQ_LOST, R.RQ_STATUS, R.PWR_RES] }

theorem Dev.Keeps.pwrSreqHeath {w : Dev.Scope} {d₀ d : Dev}  (h : Dev.Keeps w d₀ d)
    (hw : Dev.pwrSreqHeathScope.le w = true := by decide) : Dev.Keeps w d₀ (d.pwrSreqHeath) := by
  refine h.step hw ?_
  have h : Dev.Keeps Dev.pwrSreqHeathScope d d := .refl
  unfold Dev.pwrSreqHeath
  exact Dev.Keeps.ite h h.heathRequest

/-- What `Dev.fallowRequest` may write. -/
abbrev Dev.fallowRequestScope : Dev.Scope := { freeCount := true, staged := true, mem := true, tick := true, acq := true, hop := true, img := true, ct := true, aux := true, cal := true, seq := true, panel := true, hp := true, ring := true, cl := true, pp := true, pwr := true, flt := true, regs := [R.SYS_CTRL, R.SYS_STATUS, R.SYS_REASON, R.SYS_HALT_INFO, R.ACQ_STATUS, R.HOP_STATUS, R.AUX_COUNTS, R.CAL_STATUS, R.CAL_REASON, R.CAL_COUNT0, R.CAL_COUNT1, R.SEQ_STATUS, R.SEQ_EVPEND, R.GPIO_STATUS, R.GPIO_SWAPST, R.HP_STATUS, R.HP_ATTN, R.XR_ECCSB, R.XR_ECCDB, R.CQ_CTRL, R.CQ_CI, R.CQ_SEQX, R.CQ_COUNTS, R.RQ_CTRL, R.RQ_PI, R.RQ_CI, R.RQ_SEQX, R.RQ_LOST, R.RQ_STATUS, R.PP_STATUS, R.PP_COUNTS2, R.PWR_ON, R.PWR_RES, R.PWR_DST0, R.PWR_DST1, R.PWR_WSRC, R.PWR_COUNTS, R.FLT_LOG, R.FLT_LAST, R.FLT_WOPEN], fams := [(0x3ce0, 4), (0x1818, 32), (0x1820, 32), (0x44c0, 4), (0x1c58, 8), (0x1c5c, 8), (0x1c30, 8), (0x1c34, 8)] }

theorem Dev.Keeps.fallowRequest {w : Dev.Scope} {d₀ d : Dev} {cmd : Option Async} (h : Dev.Keeps w d₀ d)
    (hw : Dev.fallowRequestScope.le w = true := by decide) : Dev.Keeps w d₀ (d.fallowRequest cmd) := by
  refine h.step hw ?_
  have h : Dev.Keeps Dev.fallowRequestScope d d := .refl
  unfold Dev.fallowRequest
  extract_lets e1 d1
  have hd1 : Dev.Keeps Dev.fallowRequestScope d d1 := (h.upd (pwr := nofun)).pwrBusy
  exact Dev.Keeps.ite h.pwrAnswer (Dev.Keeps.ite h.pwrAnswer (Dev.Keeps.ite h.pwrAnswer (Dev.Keeps.ite (hd1.calEnds (fun _ h3 => h3.clearRun)) hd1.fallowTake)))

/-- What `Dev.pwrSreqFallow` may write. -/
abbrev Dev.pwrSreqFallowScope : Dev.Scope := { freeCount := true, staged := true, mem := true, tick := true, acq := true, hop := true, img := true, ct := true, aux := true, cal := true, seq := true, panel := true, hp := true, ring := true, cl := true, pp := true, pwr := true, flt := true, regs := [R.SYS_CTRL, R.SYS_STATUS, R.SYS_REASON, R.SYS_HALT_INFO, R.ACQ_STATUS, R.HOP_STATUS, R.AUX_COUNTS, R.CAL_STATUS, R.CAL_REASON, R.CAL_COUNT0, R.CAL_COUNT1, R.SEQ_STATUS, R.SEQ_EVPEND, R.GPIO_STATUS, R.GPIO_SWAPST, R.HP_STATUS, R.HP_ATTN, R.XR_ECCSB, R.XR_ECCDB, R.CQ_CTRL, R.CQ_CI, R.CQ_SEQX, R.CQ_COUNTS, R.RQ_CTRL, R.RQ_PI, R.RQ_CI, R.RQ_SEQX, R.RQ_LOST, R.RQ_STATUS, R.PP_STATUS, R.PP_COUNTS2, R.PWR_ON, R.PWR_RES, R.PWR_DST0, R.PWR_DST1, R.PWR_WSRC, R.PWR_COUNTS, R.FLT_LOG, R.FLT_LAST, R.FLT_WOPEN], fams := [(0x3ce0, 4), (0x1818, 32), (0x1820, 32), (0x44c0, 4), (0x1c58, 8), (0x1c5c, 8), (0x1c30, 8), (0x1c34, 8)] }

theorem Dev.Keeps.pwrSreqFallow {w : Dev.Scope} {d₀ d : Dev}  (h : Dev.Keeps w d₀ d)
    (hw : Dev.pwrSreqFallowScope.le w = true := by decide) : Dev.Keeps w d₀ (d.pwrSreqFallow) := by
  refine h.step hw ?_
  have h : Dev.Keeps Dev.pwrSreqFallowScope d d := .refl
  unfold Dev.pwrSreqFallow
  exact Dev.Keeps.ite h h.fallowRequest

/-- What `Dev.pwrClrCnt` may write. -/
abbrev Dev.pwrClrCntScope : Dev.Scope := { regs := [R.PWR_COUNTS] }

theorem Dev.Keeps.pwrClrCnt {w : Dev.Scope} {d₀ d : Dev}  (h : Dev.Keeps w d₀ d)
    (hw : Dev.pwrClrCntScope.le w = true := by decide) : Dev.Keeps w d₀ (d.pwrClrCnt) := by
  refine h.step hw ?_
  have h : Dev.Keeps Dev.pwrClrCntScope d d := .refl
  unfold Dev.pwrClrCnt
  exact h.setReg

/-- What `Dev.fltTempWrite` may write. -/
abbrev Dev.fltTempWriteScope : Dev.Scope := { regs := [R.FLT_TEMP, R.FLT_TEMPST] }

theorem Dev.Keeps.fltTempWrite {w : Dev.Scope} {d₀ d : Dev} {v : Nat} (h : Dev.Keeps w d₀ d)
    (hw : Dev.fltTempWriteScope.le w = true := by decide) : Dev.Keeps w d₀ (d.fltTempWrite v) := by
  refine h.step hw ?_
  have h : Dev.Keeps Dev.fltTempWriteScope d d := .refl
  unfold Dev.fltTempWrite
  extract_lets warn1 crit1 hys1
  exact Dev.Keeps.ite h h.setReg.put.put

/-- What `Dev.fltClrCnt` may write. -/
abbrev Dev.fltClrCntScope : Dev.Scope := { flt := true, regs := [R.FLT_WOPEN], fams := [(0x44c0, 4)] }

theorem Dev.Keeps.fltClrCnt {w : Dev.Scope} {d₀ d : Dev}  (h : Dev.Keeps w d₀ d)
    (hw : Dev.fltClrCntScope.le w = true := by decide) : Dev.Keeps w d₀ (d.fltClrCnt) := by
  refine h.step hw ?_
  have h : Dev.Keeps Dev.fltClrCntScope d d := .refl
  unfold Dev.fltClrCnt
  exact Dev.Keeps.foldl (fun _ _ h2 => h2.windowClose.setReg (Dev.Scope.has_fam 0x44c0 4 _)) h

/-- What `Dev.fltClrLost` may write. -/
abbrev Dev.fltClrLostScope : Dev.Scope := { regs := [R.FLT_LOG] }

theorem Dev.Keeps.fltClrLost {w : Dev.Scope} {d₀ d : Dev}  (h : Dev.Keeps w d₀ d)
    (hw : Dev.fltClrLostScope.le w = true := by decide) : Dev.Keeps w d₀ (d.fltClrLost) := by
  refine h.step hw ?_
  have h : Dev.Keeps Dev.fltClrLostScope d d := .refl
  unfold Dev.fltClrLost
  exact h.put

/-- What `Dev.fltClrTmax` may write. -/
abbrev Dev.fltClrTmaxScope : Dev.Scope := { regs := [R.FLT_TMAX] }

theorem Dev.Keeps.fltClrTmax {w : Dev.Scope} {d₀ d : Dev}  (h : Dev.Keeps w d₀ d)
    (hw : Dev.fltClrTmaxScope.le w = true := by decide) : Dev.Keeps w d₀ (d.fltClrTmax) := by
  refine h.step hw ?_
  have h : Dev.Keeps Dev.fltClrTmaxScope d d := .refl
  unfold Dev.fltClrTmax
  exact h.put

/-- What `Dev.fltCfgWrite` may write. -/
abbrev Dev.fltCfgWriteScope : Dev.Scope := { fams := [(0x4440, 4)] }

theorem Dev.Keeps.fltCfgWrite {w : Dev.Scope} {d₀ d : Dev} {k : Nat} {v : Word} (h : Dev.Keeps w d₀ d)
    (hw : Dev.fltCfgWriteScope.le w = true := by decide) : Dev.Keeps w d₀ (d.fltCfgWrite k v) := by
  refine h.step hw ?_
  have h : Dev.Keeps Dev.fltCfgWriteScope d d := .refl
  unfold Dev.fltCfgWrite
  extract_lets old1 w1 w2 w3
  exact Dev.Keeps.ite h (h.setReg (Dev.Scope.has_fam 0x4440 4 _))

/-- What `Dev.formStart` may write. -/
abbrev Dev.formStartScope : Dev.Scope := { img := true, regs := [R.IMG_STATUS, R.IMG_NODES, R.IMG_SWTIME] }

theorem Dev.Keeps.formStart {w : Dev.Scope} {d₀ d : Dev}  (h : Dev.Keeps w d₀ d)
    (hw : Dev.formStartScope.le w = true := by decide) : Dev.Keeps w d₀ (d.formStart) := by
  refine h.step hw ?_
  have h : Dev.Keeps Dev.formStartScope d d := .refl
  unfold Dev.formStart
  extract_lets es1 e1 d1
  have hd1 : Dev.Keeps Dev.formStartScope d d1 := h.upd (img := nofun)
  exact hd1.setSw.put.put

/-- What `Dev.imgStart` may write. -/
abbrev Dev.imgStartScope : Dev.Scope := { img := true, regs := [R.IMG_STATUS, R.IMG_NODES, R.IMG_SWTIME] }

theorem Dev.Keeps.imgStart {w : Dev.Scope} {d₀ d : Dev}  (h : Dev.Keeps w d₀ d)
    (hw : Dev.imgStartScope.le w = true := by decide) : Dev.Keeps w d₀ (d.imgStart) := by
  refine h.step hw ?_
  have h : Dev.Keeps Dev.imgStartScope d d := .refl
  unfold Dev.imgStart
  extract_lets fresh1 base1 es1 e1 d1 e2 gs1 d2
  have hd1 : Dev.Keeps Dev.imgStartScope d d1 := h.upd (img := nofun)
  have hd2 : Dev.Keeps Dev.imgStartScope d d2 := hd1.upd (img := nofun)
  split
  · split
    · extract_lets es2 d3
      have hd3 : Dev.Keeps Dev.imgStartScope d d3 := hd1.upd (img := nofun)
      exact hd3.setSw.put.put
    · exact Dev.Keeps.ite hd2.put ((hd1.upd (img := nofun)).formStart)
  · exact (hd1.upd (img := nofun)).formStart

/-- What `Dev.hopStart` may write. -/
abbrev Dev.hopStartScope : Dev.Scope := { hop := true, regs := [R.HOP_STATUS] }

theorem Dev.Keeps.hopStart {w : Dev.Scope} {d₀ d : Dev}  (h : Dev.Keeps w d₀ d)
    (hw : Dev.hopStartScope.le w = true := by decide) : Dev.Keeps w d₀ (d.hopStart) := by
  refine h.step hw ?_
  have h : Dev.Keeps Dev.hopStartScope d d := .refl
  unfold Dev.hopStart
  extract_lets e1 d1
  have hd1 : Dev.Keeps Dev.hopStartScope d d1 := h.upd (hop := nofun)
  exact hd1.put.put.put.put

/-- What `Dev.enterRunning` may write. -/
abbrev Dev.enterRunningScope : Dev.Scope := { tick := true, acq := true, hop := true, img := true, cal := true, cl := true, regs := [R.SYS_CTRL, R.SYS_STATUS, R.SYS_REASON, R.TICK_BUDGET, R.HOP_STATUS, R.HOP_FMIN, R.IMG_STATUS, R.IMG_NODES, R.IMG_THR, R.IMG_SWTIME] }

theorem Dev.Keeps.enterRunning {w : Dev.Scope} {d₀ d : Dev}  (h : Dev.Keeps w d₀ d)
    (hw : Dev.enterRunningScope.le w = true := by decide) : Dev.Keeps w d₀ (d.enterRunning) := by
  refine h.step hw ?_
  have h : Dev.Keeps Dev.enterRunningScope d d := .refl
  unfold Dev.enterRunning
  extract_lets d1 d2 d3 e1 d4 e2 e3 e4 d5
  have hd1 : Dev.Keeps Dev.enterRunningScope d d1 := h.setReg.put.put
  have hd2 : Dev.Keeps Dev.enterRunningScope d d2 := hd1.put.put
  have hd3 : Dev.Keeps Dev.enterRunningScope d d3 := hd2.setSt
  have hd4 : Dev.Keeps Dev.enterRunningScope d d4 := by
    unfold d4
    split
    · extract_lets e5
      have he5 : Dev.Keeps Dev.enterRunningScope d e5 := hd3.put.put
      exact he5.upd (cal := nofun)
    · exact hd3
  have hd5 : Dev.Keeps Dev.enterRunningScope d d5 := hd4.upd (tick := nofun) (acq := nofun) (cl := nofun)
  exact hd5.put.hopStart.imgStart.stageSend

/-- What `Dev.checkEnd` may write. -/
abbrev Dev.checkEndScope : Dev.Scope := { freeCount := true, staged := true, mem := true, tick := true, acq := true, hop := true, img := true, ct := true, aux := true, cal := true, seq := true, panel := true, hp := true, ring := true, cl := true, pp := true, pwr := true, flt := true, regs := [R.SYS_CTRL, R.SYS_STATUS, R.SYS_REASON, R.SYS_HALT_INFO, R.TICK_BUDGET, R.ACQ_STATUS, R.HOP_STATUS, R.HOP_FMIN, R.IMG_STATUS, R.IMG_NODES, R.IMG_THR, R.IMG_SWTIME, R.AUX_COUNTS, R.CAL_STATUS, R.CAL_REASON, R.CAL_COUNT0, R.CAL_COUNT1, R.SEQ_STATUS, R.SEQ_EVPEND, R.GPIO_STATUS, R.GPIO_SWAPST, R.HP_ATTN, R.XR_ECCSB, R.XR_ECCDB, R.RQ_PI, R.RQ_CI, R.RQ_SEQX, R.RQ_LOST, R.RQ_STATUS, R.CL_MREASON, R.PP_STATUS, R.PP_COUNTS2, R.PWR_ON, R.PWR_RES, R.PWR_DST0, R.PWR_DST1, R.PWR_WSRC, R.FLT_LOG, R.FLT_LAST, R.FLT_WOPEN], fams := [(0x1818, 32), (0x1820, 32), (0x3ce0, 4), (0x44c0, 4), (0x1c58, 8), (0x1c5c, 8), (0x1c30, 8), (0x1c34, 8)] }

theorem Dev.Keeps.checkEnd {w : Dev.Scope} {d₀ d : Dev}  (h : Dev.Keeps w d₀ d)
    (hw : Dev.checkEndScope.le w = true := by decide) : Dev.Keeps w d₀ (d.checkEnd) := by
  refine h.step hw ?_
  have h : Dev.Keeps Dev.checkEndScope d d := .refl
  unfold Dev.checkEnd
  extract_lets d1
  have hd1 : Dev.Keeps Dev.checkEndScope d d1 := by
    unfold d1
    split
    · exact h.enterRunning
    · extract_lets d2 d3
      have hd2 : Dev.Keeps Dev.checkEndScope d d2 := h.hopDrop.put.put.put
      have hd3 : Dev.Keeps Dev.checkEndScope d d3 := by
        unfold d3
        split
        · split
          · exact hd2.put.put.put
          · exact hd2
        · exact hd2
      exact hd3.put.setSt
  exact Dev.Keeps.ite h hd1.domRelease

/-- What `Dev.ctKeys` may write. -/
abbrev Dev.ctKeysScope : Dev.Scope := { mem := true, ring := true, regs := [R.CT_VKEYS, R.SEQ_EVPEND, R.HP_ATTN, R.XR_ECCSB, R.XR_ECCDB, R.RQ_PI, R.RQ_CI, R.RQ_SEQX, R.RQ_LOST, R.RQ_STATUS] }

theorem Dev.Keeps.ctKeys {w : Dev.Scope} {d₀ d : Dev} {frame : Nat} {silent : Bool} (h : Dev.Keeps w d₀ d)
    (hw : Dev.ctKeysScope.le w = true := by decide) : Dev.Keeps w d₀ (d.ctKeys frame silent) := by
  refine h.step hw ?_
  have h : Dev.Keeps Dev.ctKeysScope d d := .refl
  unfold Dev.ctKeys
  extract_lets v1 d1
  have hd1 : Dev.Keeps Dev.ctKeysScope d d1 := h.setReg.event
  exact Dev.Keeps.ite h (Dev.Keeps.ite hd1 hd1.key)

/-- What `Dev.seqStopNow` may write. -/
abbrev Dev.seqStopNowScope : Dev.Scope := { freeCount := true, staged := true, mem := true, tick := true, acq := true, hop := true, img := true, ct := true, aux := true, cal := true, seq := true, panel := true, hp := true, ring := true, cl := true, pp := true, pwr := true, flt := true, regs := [R.SYS_CTRL, R.SYS_STATUS, R.SYS_REASON, R.SYS_HALT_INFO, R.ACQ_STATUS, R.HOP_STATUS, R.CAL_STATUS, R.CAL_REASON, R.SEQ_STATUS, R.SEQ_EVPEND, R.SEQ_COUNTS, R.GPIO_STATUS, R.GPIO_SWAPST, R.HP_ATTN, R.XR_ECCSB, R.XR_ECCDB, R.RQ_PI, R.RQ_CI, R.RQ_SEQX, R.RQ_LOST, R.RQ_STATUS, R.PP_STATUS, R.PP_COUNTS2, R.PWR_ON, R.PWR_RES, R.PWR_DST0, R.PWR_DST1, R.PWR_WSRC, R.FLT_LOG, R.FLT_LAST, R.FLT_WOPEN], fams := [(0x3ce0, 4), (0x1818, 32), (0x1820, 32), (0x44c0, 4)] }

theorem Dev.Keeps.seqStopNow {w : Dev.Scope} {d₀ d : Dev}  (h : Dev.Keeps w d₀ d)
    (hw : Dev.seqStopNowScope.le w = true := by decide) : Dev.Keeps w d₀ (d.seqStopNow) := by
  refine h.step hw ?_
  have h : Dev.Keeps Dev.seqStopNowScope d d := .refl
  unfold Dev.seqStopNow
  extract_lets e1 d1 d2
  have hd1 : Dev.Keeps Dev.seqStopNowScope d d1 := h.upd (seq := nofun)
  have hd2 : Dev.Keeps Dev.seqStopNowScope d d2 := hd1.put.put
  exact Dev.Keeps.ite hd2.inc.raise h

/-- What `Dev.seqStopTimeout` may write. -/
abbrev Dev.seqStopTimeoutScope : Dev.Scope := { freeCount := true, staged := true, mem := true, tick := true, acq := true, hop := true, img := true, ct := true, aux := true, cal := true, seq := true, panel := true, hp := true, ring := true, cl := true, pp := true, pwr := true, flt := true, regs := [R.SYS_CTRL, R.SYS_STATUS, R.SYS_REASON, R.SYS_HALT_INFO, R.ACQ_STATUS, R.HOP_STATUS, R.CAL_STATUS, R.CAL_REASON, R.SEQ_STATUS, R.SEQ_EVPEND, R.SEQ_COUNTS, R.GPIO_STATUS, R.GPIO_SWAPST, R.HP_ATTN, R.XR_ECCSB, R.XR_ECCDB, R.RQ_PI, R.RQ_CI, R.RQ_SEQX, R.RQ_LOST, R.RQ_STATUS, R.PP_STATUS, R.PP_COUNTS2, R.PWR_ON, R.PWR_RES, R.PWR_DST0, R.PWR_DST1, R.PWR_WSRC, R.FLT_LOG, R.FLT_LAST, R.FLT_WOPEN], fams := [(0x3ce0, 4), (0x1818, 32), (0x1820, 32), (0x44c0, 4)] }

theorem Dev.Keeps.seqStopTimeout {w : Dev.Scope} {d₀ d : Dev}  (h : Dev.Keeps w d₀ d)
    (hw : Dev.seqStopTimeoutScope.le w = true := by decide) : Dev.Keeps w d₀ (d.seqStopTimeout) := by
  refine h.step hw ?_
  have h : Dev.Keeps Dev.seqStopTimeoutScope d d := .refl
  unfold Dev.seqStopTimeout
  exact Dev.Keeps.ite h.seqStopNow h

/-- What `Dev.frameFaults` may write. -/
abbrev Dev.frameFaultsScope : Dev.Scope := { freeCount := true, staged := true, mem := true, tick := true, acq := true, hop := true, img := true, ct := true, aux := true, cal := true, seq := true, panel := true, hp := true, ring := true, cl := true, pp := true, pwr := true, flt := true, regs := [R.SYS_CTRL, R.SYS_STATUS, R.SYS_REASON, R.SYS_HALT_INFO, R.ACQ_STATUS, R.HOP_STATUS, R.CAL_STATUS, R.CAL_REASON, R.SEQ_STATUS, R.SEQ_EVPEND, R.GPIO_STATUS, R.GPIO_SWAPST, R.HP_ATTN, R.XR_ECCSB, R.XR_ECCDB, R.RQ_PI, R.RQ_CI, R.RQ_SEQX, R.RQ_LOST, R.RQ_STATUS, R.PP_STATUS, R.PP_COUNTS2, R.PWR_ON, R.PWR_RES, R.PWR_DST0, R.PWR_DST1, R.PWR_WSRC, R.FLT_LOG, R.FLT_LAST, R.FLT_WOPEN], fams := [(0x44c0, 4), (0x3ce0, 4), (0x1818, 32), (0x1820, 32)] }

theorem Dev.Keeps.frameFaults {w : Dev.Scope} {d₀ d : Dev} {f : Frame} (h : Dev.Keeps w d₀ d)
    (hw : Dev.frameFaultsScope.le w = true := by decide) : Dev.Keeps w d₀ (d.frameFaults f) := by
  refine h.step hw ?_
  have h : Dev.Keeps Dev.frameFaultsScope d d := .refl
  unfold Dev.frameFaults
  extract_lets d1
  have hd1 : Dev.Keeps Dev.frameFaultsScope d d1 := by
    unfold d1
    split
    · exact h
    · exact h.noteEvent
  exact (Dev.Keeps.ite hd1.noteEvent hd1).settleFaults

/-- What `Dev.frameStatus` may write. -/
abbrev Dev.frameStatusScope : Dev.Scope := { regs := [R.ACQ_FSTAT, R.ACQ_STALEMAP] }

theorem Dev.Keeps.frameStatus {w : Dev.Scope} {d₀ d : Dev} {f : Frame} (h : Dev.Keeps w d₀ d)
    (hw : Dev.frameStatusScope.le w = true := by decide) : Dev.Keeps w d₀ (d.frameStatus f) := by
  refine h.step hw ?_
  have h : Dev.Keeps Dev.frameStatusScope d d := .refl
  unfold Dev.frameStatus
  extract_lets held1 d1 d2
  have hd1 : Dev.Keeps Dev.frameStatusScope d d1 := h.setReg
  have hd2 : Dev.Keeps Dev.frameStatusScope d d2 := hd1.put.put.put
  exact hd2.putB

/-- What `Dev.hopCombine` may write. -/
abbrev Dev.hopCombineScope : Dev.Scope := { fams := [(0x840, 4)] }

theorem Dev.Keeps.hopCombine {w : Dev.Scope} {d₀ d : Dev} {a1 : Bool} (h : Dev.Keeps w d₀ d)
    (hw : Dev.hopCombineScope.le w = true := by decide) : Dev.Keeps w d₀ (d.hopCombine a1) := by
  refine h.step hw ?_
  have h : Dev.Keeps Dev.hopCombineScope d d := .refl
  unfold Dev.hopCombine
  extract_lets len1 d1
  have hd1 : Dev.Keeps Dev.hopCombineScope d d1 := by
    unfold d1
    refine Dev.Keeps.foldl ?_ h
    intro d' x hd1'
    extract_lets f1 full1 ps1 n1 mx1 a1
    have ha1 : Dev.Keeps Dev.hopCombineScope d a1 := hd1'.put (Dev.Scope.has_fam 0x840 4 _)
    exact Dev.Keeps.ite hd1' (Dev.Keeps.ite ((hd1'.put (Dev.Scope.has_fam 0x840 4 _)).put (Dev.Scope.has_fam 0x840 4 _)) (ha1.put (Dev.Scope.has_fam 0x840 4 _)))
  exact Dev.Keeps.ite h hd1

/-- What `Dev.hopDecide` may write. -/
abbrev Dev.hopDecideScope : Dev.Scope := { hop := true, flt := true, regs := [R.HOP_STATUS] }

theorem Dev.Keeps.hopDecide {w : Dev.Scope} {d₀ d : Dev} {ncorr : Nat} {member : Bool} (h : Dev.Keeps w d₀ d)
    (hw : Dev.hopDecideScope.le w = true := by decide) : Dev.Keeps w d₀ (d.hopDecide ncorr member) := by
  refine h.step hw ?_
  have h : Dev.Keeps Dev.hopDecideScope d d := .refl
  unfold Dev.hopDecide
  extract_lets cur1 lv1 per1 pc1 force1 e1 d1 d2 e2 e3
  have hd1 : Dev.Keeps Dev.hopDecideScope d d1 := h.upd (flt := nofun)
  have hd2 : Dev.Keeps Dev.hopDecideScope d d2 := hd1.put
  have he2 : Dev.Keeps Dev.hopDecideScope d e2 := hd2.put
  split
  · exact Dev.Keeps.ite hd2.put hd2
  · split
    · exact hd2
    · split
      · split
        · exact hd2
        · exact he2.upd (hop := nofun)
      · split
        · exact hd2
        · exact Dev.Keeps.ite (he2.upd (hop := nofun)) hd2

/-- What `Dev.acqFinish` may write. -/
abbrev Dev.acqFinishScope : Dev.Scope := { freeCount := true, staged := true, mem := true, tick := true, acq := true, hop := true, img := true, ct := true, aux := true, cal := true, seq := true, panel := true, hp := true, ring := true, cl := true, pp := true, pwr := true, flt := true, regs := [R.SYS_CTRL, R.SYS_STATUS, R.SYS_REASON, R.SYS_HALT_INFO, R.ACQ_STATUS, R.ACQ_FSTAT, R.ACQ_STALEMAP, R.HOP_STATUS, R.CAL_STATUS, R.CAL_REASON, R.SEQ_STATUS, R.SEQ_EVPEND, R.GPIO_STATUS, R.GPIO_SWAPST, R.HP_ATTN, R.XR_ECCSB, R.XR_ECCDB, R.RQ_PI, R.RQ_CI, R.RQ_SEQX, R.RQ_LOST, R.RQ_STATUS, R.PP_STATUS, R.PP_COUNTS2, R.PWR_ON, R.PWR_RES, R.PWR_DST0, R.PWR_DST1, R.PWR_WSRC, R.FLT_LOG, R.FLT_LAST, R.FLT_WOPEN], fams := [(0x44c0, 4), (0x3ce0, 4), (0x1818, 32), (0x1820, 32), (0x840, 4)] }

theorem Dev.Keeps.acqFinish {w : Dev.Scope} {d₀ d : Dev} {f : Frame} (h : Dev.Keeps w d₀ d)
    (hw : Dev.acqFinishScope.le w = true := by decide) : Dev.Keeps w d₀ (d.acqFinish f) := by
  refine h.step hw ?_
  have h : Dev.Keeps Dev.acqFinishScope d d := .refl
  unfold Dev.acqFinish
  extract_lets e1 d1 d2 d3 run1 old1 d4 e2 e3 d5 e4 e5
  have hd1 : Dev.Keeps Dev.acqFinishScope d d1 := h.upd (acq := nofun)
  have hd2 : Dev.Keeps Dev.acqFinishScope d d2 := hd1.pumpTo.frameStatus.frameFaults
  have hd3 : Dev.Keeps Dev.acqFinishScope d d3 := hd2.hopCombine
  have hd4 : Dev.Keeps Dev.acqFinishScope d d4 := hd3.hopDecide
  have he2 : Dev.Keeps Dev.acqFinishScope d e2 := hd4.put
  have hd5 : Dev.Keeps Dev.acqFinishScope d d5 := Dev.Keeps.ite (he2.upd (hop := nofun)) hd4
  exact Dev.Keeps.ite hd5 (hd5.upd (acq := nofun) (hop := nofun))

/-- What `Dev.optWord` may write. -/
abbrev Dev.optWordScope : Dev.Scope := { freeCount := true, staged := true, mem := true, tick := true, acq := true, hop := true, img := true, ct := true, opt := true, aux := true, cal := true, seq := true, panel := true, hp := true, ring := true, cl := true, pp := true, pwr := true, flt := true, regs := [R.SYS_CTRL, R.SYS_STATUS, R.SYS_REASON, R.SYS_HALT_INFO, R.ACQ_STATUS, R.HOP_STATUS, R.OPT_STATUS, R.OPT_COUNTS, R.CAL_STATUS, R.CAL_REASON, R.SEQ_STATUS, R.SEQ_EVPEND, R.GPIO_STATUS, R.GPIO_SWAPST, R.HP_ATTN, R.XR_ECCSB, R.XR_ECCDB, R.RQ_PI, R.RQ_CI, R.RQ_SEQX, R.RQ_LOST, R.RQ_STATUS, R.PP_STATUS, R.PP_COUNTS2, R.PWR_ON, R.PWR_RES, R.PWR_DST0, R.PWR_DST1, R.PWR_WSRC, R.FLT_LOG, R.FLT_LAST, R.FLT_WOPEN], fams := [(0x3ce0, 4), (0x1818, 32), (0x1820, 32), (0x44c0, 4)] }

theorem Dev.Keeps.optWord {w : Dev.Scope} {d₀ d : Dev} {a1 : OptWord} (h : Dev.Keeps w d₀ d)
    (hw : Dev.optWordScope.le w = true := by decide) : Dev.Keeps w d₀ (d.optWord a1) := by
  refine h.step hw ?_
  have h : Dev.Keeps Dev.optWordScope d d := .refl
  unfold Dev.optWord
  extract_lets e1 e2 d1 n1 d2 d3 n2 e3 d4
  have he1 : Dev.Keeps Dev.optWordScope d e1 := h.inc
  have hd1 : Dev.Keeps Dev.optWordScope d d1 := he1.upd (opt := nofun)
  have hd2 : Dev.Keeps Dev.optWordScope d d2 := hd1.put
  have hd3 : Dev.Keeps Dev.optWordScope d d3 := hd2.put.put.inc
  have he3 : Dev.Keeps Dev.optWordScope d e3 := h.put
  have hd4 : Dev.Keeps Dev.optWordScope d d4 := he3.upd (opt := nofun)
  exact Dev.Keeps.ite (Dev.Keeps.ite hd3.raise hd2) (Dev.Keeps.ite hd4.put hd4)

/-- What `Dev.optWords` may write. -/
abbrev Dev.optWordsScope : Dev.Scope := { freeCount := true, staged := true, mem := true, tick := true, acq := true, hop := true, img := true, ct := true, opt := true, aux := true, cal := true, seq := true, panel := true, hp := true, ring := true, cl := true, pp := true, pwr := true, flt := true, regs := [R.SYS_CTRL, R.SYS_STATUS, R.SYS_REASON, R.SYS_HALT_INFO, R.ACQ_STATUS, R.HOP_STATUS, R.OPT_STATUS, R.OPT_COUNTS, R.CAL_STATUS, R.CAL_REASON, R.SEQ_STATUS, R.SEQ_EVPEND, R.GPIO_STATUS, R.GPIO_SWAPST, R.HP_ATTN, R.XR_ECCSB, R.XR_ECCDB, R.RQ_PI, R.RQ_CI, R.RQ_SEQX, R.RQ_LOST, R.RQ_STATUS, R.PP_STATUS, R.PP_COUNTS2, R.PWR_ON, R.PWR_RES, R.PWR_DST0, R.PWR_DST1, R.PWR_WSRC, R.FLT_LOG, R.FLT_LAST, R.FLT_WOPEN], fams := [(0x3ce0, 4), (0x1818, 32), (0x1820, 32), (0x44c0, 4)] }

theorem Dev.Keeps.optWords {w : Dev.Scope} {d₀ d : Dev} {words : List OptWord} (h : Dev.Keeps w d₀ d)
    (hw : Dev.optWordsScope.le w = true := by decide) : Dev.Keeps w d₀ (d.optWords words).1 := by
  refine h.step hw ?_
  have h : Dev.Keeps Dev.optWordsScope d d := .refl
  unfold Dev.optWords
  exact Dev.Keeps.foldl_fst (fun _ _ h2 => h2.optWord) h

/-- What `Dev.optSample` may write. -/
abbrev Dev.optSampleScope : Dev.Scope := { opt := true, regs := [R.OPT_STATUS, R.OPT_SAMPLE] }

theorem Dev.Keeps.optSample {w : Dev.Scope} {d₀ d : Dev} {good : List OptWord} {wins : Bool} (h : Dev.Keeps w d₀ d)
    (hw : Dev.optSampleScope.le w = true := by decide) : Dev.Keeps w d₀ (d.optSample good wins) := by
  refine h.step hw ?_
  have h : Dev.Keeps Dev.optSampleScope d d := .refl
  unfold Dev.optSample
  extract_lets n1 d1 mean1 sig1 dist1 d2 per1 near1 far1 e1 d3
  have hd1 : Dev.Keeps Dev.optSampleScope d d1 := h.put
  have hd2 : Dev.Keeps Dev.optSampleScope d d2 := hd1.put.put
  have hd3 : Dev.Keeps Dev.optSampleScope d d3 := hd2.upd (opt := nofun)
  exact Dev.Keeps.ite hd1 (Dev.Keeps.ite hd3.put (Dev.Keeps.ite hd3.put hd3))

/-- What `Dev.optCapture` may write. -/
abbrev Dev.optCaptureScope : Dev.Scope := { opt := true, regs := [R.OPT_XT, R.OPT_STATUS] }

theorem Dev.Keeps.optCapture {w : Dev.Scope} {d₀ d : Dev} {good : List OptWord} (h : Dev.Keeps w d₀ d)
    (hw : Dev.optCaptureScope.le w = true := by decide) : Dev.Keeps w d₀ (d.optCapture good) := by
  refine h.step hw ?_
  have h : Dev.Keeps Dev.optCaptureScope d d := .refl
  unfold Dev.optCapture
  extract_lets use1 o1 o2 d1
  have hd1 : Dev.Keeps Dev.optCaptureScope d d1 := h.upd (opt := nofun)
  exact Dev.Keeps.ite h (Dev.Keeps.ite hd1.put.put (Dev.Keeps.ite hd1.put.put hd1))

/-- What `Dev.optAmbient` may write. -/
abbrev Dev.optAmbientScope : Dev.Scope := { freeCount := true, opt := true, regs := [R.OPT_STATUS, R.OPT_AMB] }

theorem Dev.Keeps.optAmbient {w : Dev.Scope} {d₀ d : Dev} {offs : List Nat} (h : Dev.Keeps w d₀ d)
    (hw : Dev.optAmbientScope.le w = true := by decide) : Dev.Keeps w d₀ (d.optAmbient offs) := by
  refine h.step hw ?_
  have h : Dev.Keeps Dev.optAmbientScope d d := .refl
  unfold Dev.optAmbient
  extract_lets n1 good1 prev1 e1 d1 g1 num1 lux1 top1 d2
  have hd1 : Dev.Keeps Dev.optAmbientScope d d1 := h.upd (opt := nofun)
  have hd2 : Dev.Keeps Dev.optAmbientScope d d2 := Dev.Keeps.ite hd1.put hd1
  split
  · split
    · rename_i q3 _ q3a _
      have hq3a : Dev.Keeps Dev.optAmbientScope d q3a := Dev.Keeps.of_snd ‹_› hd1.fresh
      exact hq3a.put
  · exact hd2.put

/-- What `Dev.wakeCause` may write. -/
abbrev Dev.wakeCauseScope : Dev.Scope := { Dev.heathLeaveScope with pwr := true, regs := R.PWR_WSRC :: Dev.heathLeaveScope.regs }

theorem Dev.Keeps.wakeCause {w : Dev.Scope} {d₀ d : Dev} {f : Field} (h : Dev.Keeps w d₀ d)
    (hf : f.addr = R.PWR_WSRC := by rfl) (hw : Dev.wakeCauseScope.le w = true := by decide) :
    Dev.Keeps w d₀ (d.wakeCause f) := by
  refine h.step hw ?_
  have hp : Dev.Keeps Dev.wakeCauseScope d (d.put f 1) := Dev.Keeps.put .refl (by rw [hf]; decide)
  unfold Dev.wakeCause
  exact .ite (.ite .refl (.ite hp hp.heathLeave)) (.ite (hp.upd (pwr := nofun)) .refl)

/-- What `Dev.wakeGesture` may write. -/
abbrev Dev.wakeGestureScope : Dev.Scope := { staged := true, mem := true, tick := true, hop := true, img := true, ct := true, aux := true, cal := true, seq := true, hp := true, ring := true, cl := true, pwr := true, flt := true, regs := [R.SYS_CTRL, R.SYS_STATUS, R.SYS_REASON, R.HOP_STATUS, R.CAL_STATUS, R.CAL_REASON, R.SEQ_EVPEND, R.GPIO_SWAPST, R.HP_ATTN, R.XR_ECCSB, R.XR_ECCDB, R.RQ_PI, R.RQ_CI, R.RQ_SEQX, R.RQ_LOST, R.RQ_STATUS, R.PWR_ON, R.PWR_RES, R.PWR_DST0, R.PWR_DST1, R.PWR_WSRC, R.FLT_LOG, R.FLT_LAST, R.FLT_WOPEN], fams := [(0x1818, 32), (0x1820, 32), (0x44c0, 4)] }

theorem Dev.Keeps.wakeGesture {w : Dev.Scope} {d₀ d : Dev} {frame : Nat} {code : Nat} {id : Nat} {x : Int} {y : Int} (h : Dev.Keeps w d₀ d)
    (hw : Dev.wakeGestureScope.le w = true := by decide) : Dev.Keeps w d₀ (d.wakeGesture frame code id x y) := by
  refine h.step hw ?_
  have h : Dev.Keeps Dev.wakeGestureScope d d := .refl
  unfold Dev.wakeGesture
  extract_lets d1
  have hd1 : Dev.Keeps Dev.wakeGestureScope d d1 := Dev.Keeps.ite h h.report
  exact Dev.Keeps.ite hd1.wakeCause hd1

/-- What `Dev.optReport` may write. -/
abbrev Dev.optReportScope : Dev.Scope := { staged := true, mem := true, tick := true, hop := true, img := true, ct := true, opt := true, aux := true, cal := true, seq := true, hp := true, ring := true, cl := true, pwr := true, flt := true, regs := [R.SYS_CTRL, R.SYS_STATUS, R.SYS_REASON, R.HOP_STATUS, R.CAL_STATUS, R.CAL_REASON, R.SEQ_EVPEND, R.GPIO_SWAPST, R.HP_ATTN, R.XR_ECCSB, R.XR_ECCDB, R.RQ_PI, R.RQ_CI, R.RQ_SEQX, R.RQ_LOST, R.RQ_STATUS, R.PWR_ON, R.PWR_RES, R.PWR_DST0, R.PWR_DST1, R.PWR_WSRC, R.FLT_LOG, R.FLT_LAST, R.FLT_WOPEN], fams := [(0x1818, 32), (0x1820, 32), (0x44c0, 4)] }

theorem Dev.Keeps.optReport {w : Dev.Scope} {d₀ d : Dev} {f : Frame} {det : Nat} {blind : Nat} (h : Dev.Keeps w d₀ d)
    (hw : Dev.optReportScope.le w = true := by decide) : Dev.Keeps w d₀ (d.optReport f det blind) := by
  refine h.step hw ?_
  have h : Dev.Keeps Dev.optReportScope d d := .refl
  unfold Dev.optReport
  extract_lets changed1 d1 div1 n1 nth1 e1 d2
  have hd1 : Dev.Keeps Dev.optReportScope d d1 := Dev.Keeps.ite h.event h
  have hd2 : Dev.Keeps Dev.optReportScope d d2 := hd1.upd (opt := nofun)
  exact Dev.Keeps.ite (Dev.Keeps.ite hd1.wakeGesture hd1) (Dev.Keeps.ite hd2.report hd2)

/-- What `Dev.burst` may write. -/
abbrev Dev.burstScope : Dev.Scope := { freeCount := true, staged := true, mem := true, tick := true, acq := true, hop := true, img := true, ct := true, opt := true, aux := true, cal := true, seq := true, panel := true, hp := true, ring := true, cl := true, pp := true, pwr := true, flt := true, regs := [R.SYS_CTRL, R.SYS_STATUS, R.SYS_REASON, R.SYS_HALT_INFO, R.ACQ_STATUS, R.HOP_STATUS, R.OPT_XT, R.OPT_STATUS, R.OPT_SAMPLE, R.OPT_AMB, R.OPT_COUNTS, R.CAL_STATUS, R.CAL_REASON, R.SEQ_STATUS, R.SEQ_EVPEND, R.GPIO_STATUS, R.GPIO_SWAPST, R.HP_ATTN, R.XR_ECCSB, R.XR_ECCDB, R.RQ_PI, R.RQ_CI, R.RQ_SEQX, R.RQ_LOST, R.RQ_STATUS, R.PP_STATUS, R.PP_COUNTS2, R.PWR_ON, R.PWR_RES, R.PWR_DST0, R.PWR_DST1, R.PWR_WSRC, R.FLT_LOG, R.FLT_LAST, R.FLT_WOPEN], fams := [(0x3ce0, 4), (0x1818, 32), (0x1820, 32), (0x44c0, 4)] }

theorem Dev.Keeps.burst {w : Dev.Scope} {d₀ d : Dev} {f : Frame} {words : List OptWord} {ledOc : Bool} (h : Dev.Keeps w d₀ d)
    (hw : Dev.burstScope.le w = true := by decide) : Dev.Keeps w d₀ (d.burst f words ledOc) := by
  refine h.step hw ?_
  have h : Dev.Keeps Dev.burstScope d d := .refl
  unfold Dev.burst
  extract_lets all1 words1 det1 blind1 d1 d2 e1 d3 good1
  have hd1 : Dev.Keeps Dev.burstScope d d1 := h.put
  have hd2 : Dev.Keeps Dev.burstScope d d2 := Dev.Keeps.ite hd1.put hd1
  have hd3 : Dev.Keeps Dev.burstScope d d3 := hd2.upd (opt := nofun)
  split
  · rename_i q4 q4a _ _
    have hq4a : Dev.Keeps Dev.burstScope d q4a := Dev.Keeps.of_fst ‹_› hd3.optWords
    extract_lets d4 d5 d6
    have hd4 : Dev.Keeps Dev.burstScope d d4 := hq4a.optSample
    have hd5 : Dev.Keeps Dev.burstScope d d5 := hd4.optCapture
    have hd6 : Dev.Keeps Dev.burstScope d d6 := hd5.optAmbient
    exact hd6.optReport

/-- What `Dev.approachBurst` may write. -/
abbrev Dev.approachBurstScope : Dev.Scope := { freeCount := true, staged := true, mem := true, tick := true, acq := true, hop := true, img := true, ct := true, opt := true, aux := true, cal := true, seq := true, panel := true, hp := true, ring := true, cl := true, pp := true, pwr := true, flt := true, regs := [R.SYS_CTRL, R.SYS_STATUS, R.SYS_REASON, R.SYS_HALT_INFO, R.ACQ_STATUS, R.HOP_STATUS, R.OPT_XT, R.OPT_STATUS, R.OPT_SAMPLE, R.OPT_AMB, R.OPT_COUNTS, R.CAL_STATUS, R.CAL_REASON, R.SEQ_STATUS, R.SEQ_EVPEND, R.GPIO_STATUS, R.GPIO_SWAPST, R.HP_ATTN, R.XR_ECCSB, R.XR_ECCDB, R.RQ_PI, R.RQ_CI, R.RQ_SEQX, R.RQ_LOST, R.RQ_STATUS, R.PP_STATUS, R.PP_COUNTS2, R.PWR_ON, R.PWR_RES, R.PWR_DST0, R.PWR_DST1, R.PWR_WSRC, R.FLT_LOG, R.FLT_LAST, R.FLT_WOPEN], fams := [(0x3ce0, 4), (0x1818, 32), (0x1820, 32), (0x44c0, 4)] }

theorem Dev.Keeps.approachBurst {w : Dev.Scope} {d₀ d : Dev} {words : List OptWord} {ledOc : Bool} (h : Dev.Keeps w d₀ d)
    (hw : Dev.approachBurstScope.le w = true := by decide) : Dev.Keeps w d₀ (d.approachBurst words ledOc) := by
  refine h.step hw ?_
  have h : Dev.Keeps Dev.approachBurstScope d d := .refl
  unfold Dev.approachBurst
  extract_lets e1
  split
  · exact h
  · extract_lets d1
    have hd1 : Dev.Keeps Dev.approachBurstScope d d1 := h.upd (acq := nofun)
    exact Dev.Keeps.ite h hd1.burst

/-- What `Dev.acqDeadline` may write. -/
abbrev Dev.acqDeadlineScope : Dev.Scope := { freeCount := true, staged := true, mem := true, tick := true, acq := true, hop := true, img := true, ct := true, opt := true, aux := true, cal := true, seq := true, panel := true, hp := true, ring := true, cl := true, pp := true, pwr := true, flt := true, regs := [R.SYS_CTRL, R.SYS_STATUS, R.SYS_REASON, R.SYS_HALT_INFO, R.TICK_COUNTS, R.ACQ_STATUS, R.ACQ_FSTAT, R.ACQ_STALEMAP, R.HOP_STATUS, R.OPT_XT, R.OPT_STATUS, R.OPT_SAMPLE, R.OPT_AMB, R.OPT_COUNTS, R.CAL_STATUS, R.CAL_REASON, R.SEQ_STATUS, R.SEQ_EVPEND, R.GPIO_STATUS, R.GPIO_SWAPST, R.HP_ATTN, R.XR_ECCSB, R.XR_ECCDB, R.RQ_PI, R.RQ_CI, R.RQ_SEQX, R.RQ_LOST, R.RQ_STATUS, R.PP_STATUS, R.PP_COUNTS2, R.PWR_ON, R.PWR_RES, R.PWR_DST0, R.PWR_DST1, R.PWR_WSRC, R.FLT_LOG, R.FLT_LAST, R.FLT_WOPEN], fams := [(0x3ce0, 4), (0x1818, 32), (0x1820, 32), (0x44c0, 4), (0x840, 4)] }

theorem Dev.Keeps.acqDeadline {w : Dev.Scope} {d₀ d : Dev} {words : List OptWord} {ledOc : Bool} {ovr : List (List Nat)} {vhvLow : List Nat} (h : Dev.Keeps w d₀ d)
    (hw : Dev.acqDeadlineScope.le w = true := by decide) : Dev.Keeps w d₀ (d.acqDeadline words ledOc ovr vhvLow) := by
  refine h.step hw ?_
  have h : Dev.Keeps Dev.acqDeadlineScope d d := .refl
  unfold Dev.acqDeadline
  split
  · exact h
  · extract_lets d1 e1 f1
    have hd1 : Dev.Keeps Dev.acqDeadlineScope d d1 := Dev.Keeps.ite h.approachBurst h
    exact Dev.Keeps.ite h.acqFinish hd1.inc.acqFinish

/-- What `Dev.calSpan` may write, but for what the span does. -/
abbrev Dev.calSpanScope : Dev.Scope := { Dev.calFailScope with regs := R.CAL_STATUS :: Dev.calFailScope.regs }

theorem Dev.Keeps.calSpan {w : Dev.Scope} {d₀ d : Dev} {t : CalTouch} {f : Dev → Dev} (h : Dev.Keeps w d₀ d)
    (hf : ∀ x, Dev.Keeps w d₀ x → Dev.Keeps w d₀ (f x)) (hw : Dev.calSpanScope.le w = true := by decide) :
    Dev.Keeps w d₀ (d.calSpan t f) := by
  have hs := hf _ (h.step hw (Dev.Keeps.put (n := min (d.get R.CAL_STATUS_NRUN + 1) 64) .refl (f := R.CAL_STATUS_NRUN)))
  unfold Dev.calSpan
  exact .ite (hs.step hw (Dev.Keeps.calFail .refl)) hs

/-- What `Dev.calOverrun` may write. -/
abbrev Dev.calOverrunScope : Dev.Scope := { mem := true, cal := true, ring := true, flt := true, regs := [R.CAL_STATUS, R.CAL_REASON, R.SEQ_EVPEND, R.HP_ATTN, R.XR_ECCSB, R.XR_ECCDB, R.RQ_PI, R.RQ_CI, R.RQ_SEQX, R.RQ_LOST, R.RQ_STATUS, R.FLT_LOG, R.FLT_LAST, R.FLT_WOPEN], fams := [(0x44c0, 4)] }

theorem Dev.Keeps.calOverrun {w : Dev.Scope} {d₀ d : Dev} {f : Frame} (h : Dev.Keeps w d₀ d)
    (hw : Dev.calOverrunScope.le w = true := by decide) : Dev.Keeps w d₀ (d.calOverrun f) := by
  refine h.step hw ?_
  have h : Dev.Keeps Dev.calOverrunScope d d := .refl
  unfold Dev.calOverrun
  split
  · exact h
  · exact Dev.Keeps.ite (h.calSpan (fun _ h => h)) h

/-- What `Dev.overrun` may write. -/
abbrev Dev.overrunScope : Dev.Scope := { freeCount := true, staged := true, mem := true, tick := true, acq := true, hop := true, img := true, ct := true, aux := true, cal := true, seq := true, panel := true, hp := true, ring := true, cl := true, pp := true, pwr := true, flt := true, regs := [R.SYS_CTRL, R.SYS_STATUS, R.SYS_REASON, R.SYS_HALT_INFO, R.ACQ_STATUS, R.HOP_STATUS, R.CAL_STATUS, R.CAL_REASON, R.SEQ_STATUS, R.SEQ_EVPEND, R.GPIO_STATUS, R.GPIO_SWAPST, R.HP_ATTN, R.XR_ECCSB, R.XR_ECCDB, R.RQ_PI, R.RQ_CI, R.RQ_SEQX, R.RQ_LOST, R.RQ_STATUS, R.PP_STATUS, R.PP_COUNTS2, R.PWR_ON, R.PWR_RES, R.PWR_DST0, R.PWR_DST1, R.PWR_WSRC, R.FLT_LOG, R.FLT_LAST, R.FLT_WOPEN], fams := [(0x3ce0, 4), (0x1818, 32), (0x1820, 32), (0x44c0, 4)] }

theorem Dev.Keeps.overrun {w : Dev.Scope} {d₀ d : Dev}  (h : Dev.Keeps w d₀ d)
    (hw : Dev.overrunScope.le w = true := by decide) : Dev.Keeps w d₀ (d.overrun) := by
  refine h.step hw ?_
  have h : Dev.Keeps Dev.overrunScope d d := .refl
  unfold Dev.overrun
  extract_lets now1 late1 old1 e1 d1
  have hd1 : Dev.Keeps Dev.overrunScope d d1 := h.upd (acq := nofun)
  exact Dev.Keeps.foldl (fun _ _ h3 => h3.calOverrun.raise) hd1

/-- What `Dev.loseRegion` may write. -/
abbrev Dev.loseRegionScope : Dev.Scope := { ct := true, regs := [R.CT_RGOCC] }

theorem Dev.Keeps.loseRegion {w : Dev.Scope} {d₀ d : Dev} {k : Nat} (h : Dev.Keeps w d₀ d)
    (hw : Dev.loseRegionScope.le w = true := by decide) : Dev.Keeps w d₀ (d.loseRegion k) := by
  refine h.step hw ?_
  have h : Dev.Keeps Dev.loseRegionScope d d := .refl
  unfold Dev.loseRegion
  extract_lets e1 d1
  have hd1 : Dev.Keeps Dev.loseRegionScope d d1 := h.upd (ct := nofun)
  exact Dev.Keeps.ite hd1.setReg h

/-- What `Dev.hopApply` may write. -/
abbrev Dev.hopApplyScope : Dev.Scope := { regs := [R.HOP_STATUS, R.HOP_COUNT, R.SEQ_EVPEND], fams := [(0x880, 8), (0x884, 8)] }

theorem Dev.Keeps.hopApply {w : Dev.Scope} {d₀ d : Dev} {t : Nat} {cause : Nat} {lv : Nat} (h : Dev.Keeps w d₀ d)
    (hw : Dev.hopApplyScope.le w = true := by decide) : Dev.Keeps w d₀ (d.hopApply t cause lv) := by
  refine h.step hw ?_
  have h : Dev.Keeps Dev.hopApplyScope d d := .refl
  unfold Dev.hopApply
  extract_lets n1 d1 d2 d3 d4
  have hd1 : Dev.Keeps Dev.hopApplyScope d d1 := (((h.put (Dev.Scope.has_fam 0x880 8 _)).put (Dev.Scope.has_fam 0x880 8 _)).put (Dev.Scope.has_fam 0x880 8 _)).put (Dev.Scope.has_fam 0x880 8 _)
  have hd2 : Dev.Keeps Dev.hopApplyScope d d2 := hd1.put (Dev.Scope.has_fam 0x884 8 _)
  have hd3 : Dev.Keeps Dev.hopApplyScope d d3 := hd2.incWrap
  have hd4 : Dev.Keeps Dev.hopApplyScope d d4 := hd3.put.put.put
  exact hd4.event

/-- What `Dev.hopFollow` may write. -/
abbrev Dev.hopFollowScope : Dev.Scope := { freeCount := true, regs := [R.HOP_STATUS, R.HOP_COUNT, R.SEQ_EVPEND], fams := [(0x880, 8), (0x884, 8)] }

theorem Dev.Keeps.hopFollow {w : Dev.Scope} {d₀ d : Dev} {s : Stage} (h : Dev.Keeps w d₀ d)
    (hw : Dev.hopFollowScope.le w = true := by decide) : Dev.Keeps w d₀ (d.hopFollow s) := by
  refine h.step hw ?_
  have h : Dev.Keeps Dev.hopFollowScope d d := .refl
  unfold Dev.hopFollow
  extract_lets t1
  split
  · exact h.inc
  · split
    · rename_i q1 _ q1a _
      have hq1a : Dev.Keeps Dev.hopFollowScope d q1a := Dev.Keeps.of_snd ‹_› h.fresh
      split
      · rename_i q2 _ q2a _
        have hq2a : Dev.Keeps Dev.hopFollowScope d q2a := Dev.Keeps.of_snd ‹_› hq1a.fresh
        exact hq2a.hopApply

/-- What `Dev.hopPrune` may write. -/
abbrev Dev.hopPruneScope : Dev.Scope := { hop := true, regs := [R.HOP_STATUS] }

theorem Dev.Keeps.hopPrune {w : Dev.Scope} {d₀ d : Dev}  (h : Dev.Keeps w d₀ d)
    (hw : Dev.hopPruneScope.le w = true := by decide) : Dev.Keeps w d₀ (d.hopPrune) := by
  refine h.step hw ?_
  have h : Dev.Keeps Dev.hopPruneScope d d := .refl
  unfold Dev.hopPrune
  extract_lets e1 e2 d1 e3
  have he1 : Dev.Keeps Dev.hopPruneScope d e1 := h.put
  have hd1 : Dev.Keeps Dev.hopPruneScope d d1 := Dev.Keeps.ite h (he1.upd (hop := nofun))
  exact hd1.upd (hop := nofun)

/-- What `Dev.hopAnnounced` may write. -/
abbrev Dev.hopAnnouncedScope : Dev.Scope := { hop := true, regs := [R.HOP_STATUS, R.HOP_COUNT, R.SEQ_EVPEND], fams := [(0x880, 8), (0x884, 8)] }

theorem Dev.Keeps.hopAnnounced {w : Dev.Scope} {d₀ d : Dev} {s : Stage} (h : Dev.Keeps w d₀ d)
    (hw : Dev.hopAnnouncedScope.le w = true := by decide) : Dev.Keeps w d₀ (d.hopAnnounced s) := by
  refine h.step hw ?_
  have h : Dev.Keeps Dev.hopAnnouncedScope d d := .refl
  unfold Dev.hopAnnounced
  extract_lets t1 d1 e1 d2
  have hd1 : Dev.Keeps Dev.hopAnnouncedScope d d1 := h.hopPrune
  have hd2 : Dev.Keeps Dev.hopAnnouncedScope d d2 := by
    unfold d2
    split
    · exact hd1.inc
    · split
      · exact (hd1.upd (hop := nofun)).hopApply
      · split
        · exact Dev.Keeps.ite ((hd1.upd (hop := nofun)).hopApply) hd1.inc
        · exact hd1.inc
  exact hd2.putB

/-- What `Dev.putBase` may write. -/
abbrev Dev.putBaseScope : Dev.Scope := { img := true, regs := [R.IMG_STATUS, R.IMG_NODES, R.IMG_THR, R.IMG_SWTIME] }

theorem Dev.Keeps.putBase {w : Dev.Scope} {d₀ d : Dev} {v : CalVals} (h : Dev.Keeps w d₀ d)
    (hw : Dev.putBaseScope.le w = true := by decide) : Dev.Keeps w d₀ (d.putBase v) := by
  refine h.step hw ?_
  have h : Dev.Keeps Dev.putBaseScope d d := .refl
  unfold Dev.putBase
  extract_lets es1 e1 d1 d2
  have hd1 : Dev.Keeps Dev.putBaseScope d d1 := h.upd (img := nofun)
  have hd2 : Dev.Keeps Dev.putBaseScope d d2 := hd1.setSw.put
  exact hd2.put.put

/-- What `Dev.putGains` may write. -/
abbrev Dev.putGainsScope : Dev.Scope := { fams := [(0x1c80, 4), (0x4800, 4)] }

theorem Dev.Keeps.putGains {w : Dev.Scope} {d₀ d : Dev} {v : CalVals} (h : Dev.Keeps w d₀ d)
    (hw : Dev.putGainsScope.le w = true := by decide) : Dev.Keeps w d₀ (d.putGains v) := by
  refine h.step hw ?_
  have h : Dev.Keeps Dev.putGainsScope d d := .refl
  unfold Dev.putGains
  extract_lets d1 d2
  have hd1 : Dev.Keeps Dev.putGainsScope d d1 := Dev.Keeps.foldl (fun _ _ h2 => h2.put (Dev.Scope.has_fam 0x1c80 4 _)) h
  have hd2 : Dev.Keeps Dev.putGainsScope d d2 := Dev.Keeps.foldl (fun _ _ h3 => h3.put (Dev.Scope.has_fam 0x1c80 4 _)) hd1
  exact Dev.Keeps.foldl (fun _ _ h4 => h4.putLine) hd2

/-- What `Dev.calForce` may write. -/
abbrev Dev.calForceScope : Dev.Scope := { img := true, cal := true, regs := [R.IMG_STATUS, R.IMG_NODES, R.IMG_THR, R.IMG_SWTIME, R.CAL_STATUS, R.CAL_COUNT0, R.CAL_COUNT1], fams := [(0x1c80, 4), (0x4800, 4), (0x1c30, 8), (0x1c34, 8)] }

theorem Dev.Keeps.calForce {w : Dev.Scope} {d₀ d : Dev} {kind : Nat} {v : CalVals} (h : Dev.Keeps w d₀ d)
    (hw : Dev.calForceScope.le w = true := by decide) : Dev.Keeps w d₀ (d.calForce kind v) := by
  refine h.step hw ?_
  have h : Dev.Keeps Dev.calForceScope d d := .refl
  unfold Dev.calForce
  extract_lets e1 d1 d2
  have hd1 : Dev.Keeps Dev.calForceScope d d1 := h.upd (cal := nofun)
  have hd2 : Dev.Keeps Dev.calForceScope d d2 := Dev.Keeps.ite hd1.putBase hd1.putGains
  exact hd2.calTaken

/-- What `Dev.calAtTick` may write. -/
abbrev Dev.calAtTickScope : Dev.Scope := { img := true, cal := true, regs := [R.IMG_STATUS, R.IMG_NODES, R.IMG_THR, R.IMG_SWTIME, R.CAL_STATUS, R.CAL_COUNT0, R.CAL_COUNT1], fams := [(0x1c80, 4), (0x4800, 4), (0x1c30, 8), (0x1c34, 8)] }

theorem Dev.Keeps.calAtTick {w : Dev.Scope} {d₀ d : Dev}  (h : Dev.Keeps w d₀ d)
    (hw : Dev.calAtTickScope.le w = true := by decide) : Dev.Keeps w d₀ (d.calAtTick) := by
  refine h.step hw ?_
  have h : Dev.Keeps Dev.calAtTickScope d d := .refl
  unfold Dev.calAtTick
  extract_lets d1 e1
  have hd1 : Dev.Keeps Dev.calAtTickScope d d1 := Dev.Keeps.foldl (fun _ _ h2 => Dev.Keeps.ite h2.calForce h2) h
  split
  · exact hd1
  · extract_lets e2
    have he2 : Dev.Keeps Dev.calAtTickScope d e2 := hd1.putGains
    exact he2.upd (cal := nofun)

/-- What `Dev.gorseSet` may write. -/
abbrev Dev.gorseSetScope : Dev.Scope := { mem := true, ct := true, cal := true, ring := true, flt := true, regs := [R.CT_STATUS, R.CAL_STATUS, R.CAL_REASON, R.SEQ_EVPEND, R.HP_ATTN, R.XR_ECCSB, R.XR_ECCDB, R.RQ_PI, R.RQ_CI, R.RQ_SEQX, R.RQ_LOST, R.RQ_STATUS, R.FLT_LOG, R.FLT_LAST, R.FLT_WOPEN], fams := [(0x44c0, 4)] }

theorem Dev.Keeps.gorseSet {w : Dev.Scope} {d₀ d : Dev} {on : Bool} (h : Dev.Keeps w d₀ d)
    (hw : Dev.gorseSetScope.le w = true := by decide) : Dev.Keeps w d₀ (d.gorseSet on) := by
  refine h.step hw ?_
  have h : Dev.Keeps Dev.gorseSetScope d d := .refl
  unfold Dev.gorseSet
  extract_lets e1 d1 d2 e2
  have hd1 : Dev.Keeps Dev.gorseSetScope d d1 := h.upd (ct := nofun)
  have hd2 : Dev.Keeps Dev.gorseSetScope d d2 := hd1.calAbortTouch.putB
  exact Dev.Keeps.ite hd1 (hd2.upd (ct := nofun))

/-- What `Dev.levelAtTick` may write. -/
abbrev Dev.levelAtTickScope : Dev.Scope := { freeCount := true, acq := true, regs := [R.ACQ_STATUS] }

theorem Dev.Keeps.levelAtTick {w : Dev.Scope} {d₀ d : Dev}  (h : Dev.Keeps w d₀ d)
    (hw : Dev.levelAtTickScope.le w = true := by decide) : Dev.Keeps w d₀ (d.levelAtTick) := by
  refine h.step hw ?_
  have h : Dev.Keeps Dev.levelAtTickScope d d := .refl
  unfold Dev.levelAtTick
  extract_lets l1 d1
  have hd1 : Dev.Keeps Dev.levelAtTickScope d d1 := h.put
  exact hd1.putB.pumpTo

/-- What `Dev.settingChanged` may write. -/
abbrev Dev.settingChangedScope : Dev.Scope := { img := true }

theorem Dev.Keeps.settingChanged {w : Dev.Scope} {d₀ d : Dev}  (h : Dev.Keeps w d₀ d)
    (hw : Dev.settingChangedScope.le w = true := by decide) : Dev.Keeps w d₀ (d.settingChanged) := by
  refine h.step hw ?_
  have h : Dev.Keeps Dev.settingChangedScope d d := .refl
  unfold Dev.settingChanged
  extract_lets e1
  exact h.upd (img := nofun)

/-- What `Dev.calTick` may write. -/
abbrev Dev.calTickScope : Dev.Scope := { cal := true }

theorem Dev.Keeps.calTick {w : Dev.Scope} {d₀ d : Dev}  (h : Dev.Keeps w d₀ d)
    (hw : Dev.calTickScope.le w = true := by decide) : Dev.Keeps w d₀ (d.calTick) := by
  refine h.step hw ?_
  have h : Dev.Keeps Dev.calTickScope d d := .refl
  unfold Dev.calTick
  extract_lets e1
  split
  · exact Dev.Keeps.ite (h.upd (cal := nofun)) h
  · exact h

/-- What `Dev.setEls` may write. -/
abbrev Dev.setElsScope : Dev.Scope := { img := true }

theorem Dev.Keeps.setEls {w : Dev.Scope} {d₀ d : Dev} {es : List Elem} (h : Dev.Keeps w d₀ d)
    (hw : Dev.setElsScope.le w = true := by decide) : Dev.Keeps w d₀ (d.setEls es) := by
  refine h.step hw ?_
  have h : Dev.Keeps Dev.setElsScope d d := .refl
  unfold Dev.setEls
  extract_lets e1
  exact h.upd (img := nofun)

/-- What `Dev.rebase` may write. -/
abbrev Dev.rebaseScope : Dev.Scope := { img := true, cl := true }

theorem Dev.Keeps.rebase {w : Dev.Scope} {d₀ d : Dev} {area : List (Nat × Nat × Nat)} (h : Dev.Keeps w d₀ d)
    (hw : Dev.rebaseScope.le w = true := by decide) : Dev.Keeps w d₀ (d.rebase area) := by
  refine h.step hw ?_
  have h : Dev.Keeps Dev.rebaseScope d d := .refl
  unfold Dev.rebase
  extract_lets es1 e1 e2 e3
  have he1 : Dev.Keeps Dev.rebaseScope d e1 := h.setEls
  exact he1.upd (img := nofun) (cl := nofun)

/-- What `Dev.stageMember` may write. -/
abbrev Dev.stageMemberScope : Dev.Scope := { freeCount := true, staged := true, mem := true, tick := true, acq := true, hop := true, img := true, ct := true, aux := true, cal := true, seq := true, hp := true, ring := true, cl := true, pwr := true, flt := true, regs := [R.SYS_CTRL, R.SYS_STATUS, R.SYS_REASON, R.ACQ_STATUS, R.HOP_STATUS, R.CAL_STATUS, R.CAL_REASON, R.SEQ_EVPEND, R.GPIO_SWAPST, R.HP_ATTN, R.XR_STATUS, R.XR_ECCSB, R.XR_ECCDB, R.RQ_PI, R.RQ_CI, R.RQ_SEQX, R.RQ_LOST, R.RQ_STATUS, R.PWR_ON, R.PWR_RES, R.PWR_DST0, R.PWR_DST1, R.PWR_WSRC, R.FLT_LOG, R.FLT_LAST, R.FLT_WOPEN], fams := [(0x1818, 32), (0x1820, 32), (0x44c0, 4)] }

theorem Dev.Keeps.stageMember {w : Dev.Scope} {d₀ d : Dev} {s : Stage} (h : Dev.Keeps w d₀ d)
    (hw : Dev.stageMemberScope.le w = true := by decide) : Dev.Keeps w d₀ (d.stageMember s) := by
  refine h.step hw ?_
  have h : Dev.Keeps Dev.stageMemberScope d d := .refl
  unfold Dev.stageMember
  extract_lets e1 d1 d2 e2 d3 d4 e3
  have hd1 : Dev.Keeps Dev.stageMemberScope d d1 := h.upd (img := nofun)
  have hd2 : Dev.Keeps Dev.stageMemberScope d d2 := Dev.Keeps.ite hd1 hd1.rebase
  have hd3 : Dev.Keeps Dev.stageMemberScope d d3 := by
    unfold d3
    split
    · split
      · rename_i q3 _ q3a _
        have hq3a : Dev.Keeps Dev.stageMemberScope d q3a := Dev.Keeps.of_snd ‹_› hd2.fresh
        extract_lets t1 e4
        exact hq3a.upd (cal := nofun)
    · exact Dev.Keeps.ite (hd2.upd (cal := nofun)) hd2
  have hd4 : Dev.Keeps Dev.stageMemberScope d d4 := Dev.Keeps.ite hd3.clearRun hd3
  split
  · split
    · exact hd4.put.put.clusterLeave
    · exact hd4.upd (pwr := nofun)
  · exact Dev.Keeps.ite hd4.heathLeave (Dev.Keeps.ite (hd4.upd (pwr := nofun)) hd4)

/-- What `Dev.heathBegin` may write. -/
abbrev Dev.heathBeginScope : Dev.Scope := { mem := true, img := true, cal := true, seq := true, ring := true, pwr := true, flt := true, regs := [R.CAL_STATUS, R.CAL_REASON, R.SEQ_EVPEND, R.GPIO_SWAPST, R.HP_ATTN, R.XR_ECCSB, R.XR_ECCDB, R.RQ_PI, R.RQ_CI, R.RQ_SEQX, R.RQ_LOST, R.RQ_STATUS, R.FLT_LOG, R.FLT_LAST, R.FLT_WOPEN], fams := [(0x44c0, 4)] }

theorem Dev.Keeps.heathBegin {w : Dev.Scope} {d₀ d : Dev}  (h : Dev.Keeps w d₀ d)
    (hw : Dev.heathBeginScope.le w = true := by decide) : Dev.Keeps w d₀ (d.heathBegin) := by
  refine h.step hw ?_
  have h : Dev.Keeps Dev.heathBeginScope d d := .refl
  unfold Dev.heathBegin
  extract_lets d1 e1
  have hd1 : Dev.Keeps Dev.heathBeginScope d d1 := h.leaveRunning
  exact hd1.upd (pwr := nofun)

/-- What `Dev.tmExpire` may write. -/
abbrev Dev.tmExpireScope : Dev.Scope := { regs := [R.SEQ_EVPEND, R.GPIO_TMEXP0, R.GPIO_TMEXP1], fams := [(0x240c, 16), (0x2408, 16)] }

theorem Dev.Keeps.tmExpire {w : Dev.Scope} {d₀ d : Dev} {k : Nat} (h : Dev.Keeps w d₀ d)
    (hw : Dev.tmExpireScope.le w = true := by decide) : Dev.Keeps w d₀ (d.tmExpire k) := by
  refine h.step hw ?_
  have h : Dev.Keeps Dev.tmExpireScope d d := .refl
  unfold Dev.tmExpire
  extract_lets q1 n1 d1 d2
  have hd1 : Dev.Keeps Dev.tmExpireScope d d1 := by
    unfold d1
    split
    · exact h.tmSet
    · exact h.tmSet
    · exact h.tmSet
    · exact h.tmSet
    · exact h.tmSet
    · exact h
  have hd2 : Dev.Keeps Dev.tmExpireScope d d2 := hd1.setExp
  exact Dev.Keeps.ite hd2.event hd2

/-- What `Dev.tmEval` may write. -/
abbrev Dev.tmEvalScope : Dev.Scope := { panel := true, regs := [R.SEQ_EVPEND, R.GPIO_TMEXP0, R.GPIO_TMEXP1], fams := [(0x240c, 16), (0x2408, 16)] }

theorem Dev.Keeps.tmEval {w : Dev.Scope} {d₀ d : Dev} {units : Nat} {k : Nat} (h : Dev.Keeps w d₀ d)
    (hw : Dev.tmEvalScope.le w = true := by decide) : Dev.Keeps w d₀ (d.tmEval units k) := by
  refine h.step hw ?_
  have h : Dev.Keeps Dev.tmEvalScope d d := .refl
  unfold Dev.tmEval
  extract_lets inp1 mode1 trig1 rise1 e1 d1 preset1 e2
  have hd1 : Dev.Keeps Dev.tmEvalScope d d1 := h.upd (panel := nofun)
  split
  · exact hd1
  · split
    · extract_lets n1 d2 d3
      have hd2 : Dev.Keeps Dev.tmEvalScope d d2 := Dev.Keeps.ite (hd1.upd (panel := nofun)) hd1
      have hd3 : Dev.Keeps Dev.tmEvalScope d d3 := hd2.tmSet
      exact Dev.Keeps.ite hd3.tmExpire hd3

/-- What `Dev.timersTick` may write. -/
abbrev Dev.timersTickScope : Dev.Scope := { panel := true, regs := [R.SEQ_EVPEND, R.GPIO_TMEXP0, R.GPIO_TMEXP1], fams := [(0x240c, 16), (0x2408, 16)] }

theorem Dev.Keeps.timersTick {w : Dev.Scope} {d₀ d : Dev}  (h : Dev.Keeps w d₀ d)
    (hw : Dev.timersTickScope.le w = true := by decide) : Dev.Keeps w d₀ (d.timersTick) := by
  refine h.step hw ?_
  have h : Dev.Keeps Dev.timersTickScope d d := .refl
  unfold Dev.timersTick
  exact Dev.Keeps.foldl (fun _ _ h2 => h2.tmEval) h

/-- What `Dev.edSample` may write. -/
abbrev Dev.edSampleScope : Dev.Scope := { regs := [R.SEQ_EVPEND, R.ED_LAT0, R.ED_LAT1, R.ED_LEVEL0, R.ED_LEVEL1], fams := [(0x2804, 8)] }

theorem Dev.Keeps.edSample {w : Dev.Scope} {d₀ d : Dev} {k : Nat} (h : Dev.Keeps w d₀ d)
    (hw : Dev.edSampleScope.le w = true := by decide) : Dev.Keeps w d₀ (d.edSample k) := by
  refine h.step hw ?_
  have h : Dev.Keeps Dev.edSampleScope d d := .refl
  unfold Dev.edSample
  extract_lets s1 d1 n1 d2 d3
  have hd1 : Dev.Keeps Dev.edSampleScope d d1 := h.putB (Dev.Scope.has_fam 0x2804 8 _)
  have hd2 : Dev.Keeps Dev.edSampleScope d d2 := hd1.setF.put (Dev.Scope.has_fam 0x2804 8 _)
  have hd3 : Dev.Keeps Dev.edSampleScope d d3 := hd2.setLat
  exact Dev.Keeps.ite h (Dev.Keeps.ite (hd1.put (Dev.Scope.has_fam 0x2804 8 _)) (Dev.Keeps.ite (hd1.put (Dev.Scope.has_fam 0x2804 8 _)) (Dev.Keeps.ite (Dev.Keeps.ite hd3.event hd3) hd2)))

/-- What `Dev.edSampleAll` may write. -/
abbrev Dev.edSampleAllScope : Dev.Scope := { regs := [R.SEQ_EVPEND, R.ED_LAT0, R.ED_LAT1, R.ED_LEVEL0, R.ED_LEVEL1], fams := [(0x2804, 8)] }

theorem Dev.Keeps.edSampleAll {w : Dev.Scope} {d₀ d : Dev}  (h : Dev.Keeps w d₀ d)
    (hw : Dev.edSampleAllScope.le w = true := by decide) : Dev.Keeps w d₀ (d.edSampleAll) := by
  refine h.step hw ?_
  have h : Dev.Keeps Dev.edSampleAllScope d d := .refl
  unfold Dev.edSampleAll
  exact Dev.Keeps.foldl (fun _ _ h2 => h2.edSample) h

/-- What `Dev.edBindTick` may write. -/
abbrev Dev.edBindTickScope : Dev.Scope := { panel := true, regs := [R.ED_LEVEL0, R.ED_LEVEL1], fams := [(0x2804, 8), (0x2800, 8)] }

theorem Dev.Keeps.edBindTick {w : Dev.Scope} {d₀ d : Dev}  (h : Dev.Keeps w d₀ d)
    (hw : Dev.edBindTickScope.le w = true := by decide) : Dev.Keeps w d₀ (d.edBindTick) := by
  refine h.step hw ?_
  have h : Dev.Keeps Dev.edBindTickScope d d := .refl
  unfold Dev.edBindTick
  extract_lets l1 e1 d1
  have hd1 : Dev.Keeps Dev.edBindTickScope d d1 := h.upd (panel := nofun)
  exact Dev.Keeps.foldl (fun _ _ h3 => h3.edCfgWrite) hd1

/-- What `Dev.swapFail` may write. -/
abbrev Dev.swapFailScope : Dev.Scope := { mem := true, seq := true, ring := true, regs := [R.GPIO_SWAPST, R.HP_ATTN, R.XR_ECCSB, R.XR_ECCDB, R.RQ_PI, R.RQ_CI, R.RQ_SEQX, R.RQ_LOST, R.RQ_STATUS] }

theorem Dev.Keeps.swapFail {w : Dev.Scope} {d₀ d : Dev} {c : Nat × Nat} (h : Dev.Keeps w d₀ d)
    (hw : Dev.swapFailScope.le w = true := by decide) : Dev.Keeps w d₀ (d.swapFail c) := by
  refine h.step hw ?_
  have h : Dev.Keeps Dev.swapFailScope d d := .refl
  unfold Dev.swapFail
  extract_lets d1
  have hd1 : Dev.Keeps Dev.swapFailScope d d1 := h.swapRefuse
  exact hd1.endAsyncs

/-- What `Dev.switchBanks` may write. -/
abbrev Dev.switchBanksScope : Dev.Scope := { seq := true, regs := [R.SEQ_STATUS] }

theorem Dev.Keeps.switchBanks {w : Dev.Scope} {d₀ d : Dev} {im : Image} (h : Dev.Keeps w d₀ d)
    (hw : Dev.switchBanksScope.le w = true := by decide) : Dev.Keeps w d₀ (d.switchBanks im) := by
  refine h.step hw ?_
  have h : Dev.Keeps Dev.switchBanksScope d d := .refl
  unfold Dev.switchBanks
  extract_lets d1 d2 e1
  have hd1 : Dev.Keeps Dev.switchBanksScope d d1 := h.put
  have hd2 : Dev.Keeps Dev.switchBanksScope d d2 := hd1.put.put.put
  exact hd2.upd (seq := nofun)

/-- What `Dev.edgeCross` may write. -/
abbrev Dev.edgeCrossScope : Dev.Scope := { regs := [R.ED_LAT0, R.ED_LAT1, R.ED_LEVEL0, R.ED_LEVEL1], fams := [(0x2804, 8)] }

theorem Dev.Keeps.edgeCross {w : Dev.Scope} {d₀ d : Dev} {im : Image} {k : Nat} (h : Dev.Keeps w d₀ d)
    (hw : Dev.edgeCrossScope.le w = true := by decide) : Dev.Keeps w d₀ (d.edgeCross im k) := by
  refine h.step hw ?_
  have h : Dev.Keeps Dev.edgeCrossScope d d := .refl
  unfold Dev.edgeCross
  extract_lets d1
  have hd1 : Dev.Keeps Dev.edgeCrossScope d d1 := (h.put (Dev.Scope.has_fam 0x2804 8 _)).setLat
  exact Dev.Keeps.ite h (Dev.Keeps.ite hd1.setF hd1)

/-- What `Dev.timerCross` may write. -/
abbrev Dev.timerCrossScope : Dev.Scope := { panel := true, regs := [R.GPIO_TMEXP0, R.GPIO_TMEXP1], fams := [(0x2400, 16), (0x2404, 16), (0x240c, 16), (0x2408, 16)] }

theorem Dev.Keeps.timerCross {w : Dev.Scope} {d₀ d : Dev} {im : Image} {k : Nat} (h : Dev.Keeps w d₀ d)
    (hw : Dev.timerCrossScope.le w = true := by decide) : Dev.Keeps w d₀ (d.timerCross im k) := by
  refine h.step hw ?_
  have h : Dev.Keeps Dev.timerCrossScope d d := .refl
  unfold Dev.timerCross
  extract_lets kept1 d1 e1 d2 d3 inp1 e2
  have hd1 : Dev.Keeps Dev.timerCrossScope d d1 := by
    unfold d1
    split
    · exact h
    · exact (h.setReg (Dev.Scope.has_fam 0x2400 16 _)).put (Dev.Scope.has_fam 0x2404 16 _)
  have hd2 : Dev.Keeps Dev.timerCrossScope d d2 := hd1.tmSet.setExp
  have hd3 : Dev.Keeps Dev.timerCrossScope d d3 := hd2.put (Dev.Scope.has_fam 0x240c 16 _)
  exact Dev.Keeps.ite (Dev.Keeps.ite (hd1.upd (panel := nofun)) hd1) (hd3.upd (panel := nofun))

/-- What `Dev.swapDone` may write. -/
abbrev Dev.swapDoneScope : Dev.Scope := { regs := [R.GPIO_SWAPST] }

theorem Dev.Keeps.swapDone {w : Dev.Scope} {d₀ d : Dev}  (h : Dev.Keeps w d₀ d)
    (hw : Dev.swapDoneScope.le w = true := by decide) : Dev.Keeps w d₀ (d.swapDone) := by
  refine h.step hw ?_
  have h : Dev.Keeps Dev.swapDoneScope d d := .refl
  unfold Dev.swapDone
  exact h.put.put.put.put

/-- What `Dev.swapNow` may write. -/
abbrev Dev.swapNowScope : Dev.Scope := { mem := true, seq := true, panel := true, ring := true, regs := [R.SEQ_STATUS, R.SEQ_IMGVER, R.ED_LAT0, R.ED_LAT1, R.ED_LEVEL0, R.ED_LEVEL1, R.GPIO_SWAPST, R.GPIO_TMEXP0, R.GPIO_TMEXP1, R.HP_ATTN, R.XR_ECCSB, R.XR_ECCDB, R.RQ_PI, R.RQ_CI, R.RQ_SEQX, R.RQ_LOST, R.RQ_STATUS], fams := [(0x2804, 8), (0x2400, 16), (0x2404, 16), (0x240c, 16), (0x2408, 16)] }

theorem Dev.Keeps.swapNow {w : Dev.Scope} {d₀ d : Dev} {im : Image} (h : Dev.Keeps w d₀ d)
    (hw : Dev.swapNowScope.le w = true := by decide) : Dev.Keeps w d₀ (d.swapNow im) := by
  refine h.step hw ?_
  have h : Dev.Keeps Dev.swapNowScope d d := .refl
  unfold Dev.swapNow
  extract_lets d1 d2 e1 d3 d4 d5 d6 tag1 e2 d7 d8 d9
  have hd1 : Dev.Keeps Dev.swapNowScope d d1 := h.switchBanks.safeTake
  have hd2 : Dev.Keeps Dev.swapNowScope d d2 := hd1.setReg
  have hd3 : Dev.Keeps Dev.swapNowScope d d3 := hd2.upd (mem := nofun)
  have hd4 : Dev.Keeps Dev.swapNowScope d d4 := Dev.Keeps.foldl (fun _ _ h5 => h5.edgeCross) hd3
  have hd5 : Dev.Keeps Dev.swapNowScope d d5 := Dev.Keeps.foldl (fun _ _ h6 => h6.timerCross) hd4
  have hd6 : Dev.Keeps Dev.swapNowScope d d6 := hd5.put
  have hd7 : Dev.Keeps Dev.swapNowScope d d7 := hd6.upd (seq := nofun)
  have hd8 : Dev.Keeps Dev.swapNowScope d d8 := hd7.swapDone
  have hd9 : Dev.Keeps Dev.swapNowScope d d9 := hd8.report
  exact hd9.endAsyncs

/-- What `Dev.swapTick` may write. -/
abbrev Dev.swapTickScope : Dev.Scope := { mem := true, seq := true, panel := true, ring := true, regs := [R.SEQ_STATUS, R.SEQ_IMGVER, R.ED_LAT0, R.ED_LAT1, R.ED_LEVEL0, R.ED_LEVEL1, R.GPIO_SWAPST, R.GPIO_TMEXP0, R.GPIO_TMEXP1, R.HP_ATTN, R.XR_ECCSB, R.XR_ECCDB, R.RQ_PI, R.RQ_CI, R.RQ_SEQX, R.RQ_LOST, R.RQ_STATUS], fams := [(0x2804, 8), (0x2400, 16), (0x2404, 16), (0x240c, 16), (0x2408, 16)] }

theorem Dev.Keeps.swapTick {w : Dev.Scope} {d₀ d : Dev}  (h : Dev.Keeps w d₀ d)
    (hw : Dev.swapTickScope.le w = true := by decide) : Dev.Keeps w d₀ (d.swapTick) := by
  refine h.step hw ?_
  have h : Dev.Keeps Dev.swapTickScope d d := .refl
  unfold Dev.swapTick
  extract_lets e1
  split
  · split
    · exact h.swapFail
    · split
      · split
        · exact h.swapFail
        · exact h.swapNow
      · exact Dev.Keeps.ite h.swapFail (h.upd (seq := nofun))
  · exact h.swapFail
  · exact h

/-- What `Dev.seqTick` may write. -/
abbrev Dev.seqTickScope : Dev.Scope := { freeCount := true, staged := true, mem := true, tick := true, acq := true, hop := true, img := true, ct := true, aux := true, cal := true, seq := true, panel := true, hp := true, ring := true, cl := true, pp := true, pwr := true, flt := true, regs := [R.SYS_CTRL, R.SYS_STATUS, R.SYS_REASON, R.SYS_HALT_INFO, R.ACQ_STATUS, R.HOP_STATUS, R.CAL_STATUS, R.CAL_REASON, R.SEQ_STATUS, R.SEQ_CYCLES, R.SEQ_CYCMAX, R.SEQ_EVPEND, R.SEQ_FAULT, R.SEQ_FADDR, R.SEQ_HALT, R.SEQ_COUNTS, R.GPIO_STATUS, R.GPIO_SWAPST, R.HP_ATTN, R.XR_ECCSB, R.XR_ECCDB, R.RQ_PI, R.RQ_CI, R.RQ_SEQX, R.RQ_LOST, R.RQ_STATUS, R.PP_STATUS, R.PP_COUNTS2, R.PWR_ON, R.PWR_RES, R.PWR_DST0, R.PWR_DST1, R.PWR_WSRC, R.FLT_LOG, R.FLT_LAST, R.FLT_WOPEN], fams := [(0x3ce0, 4), (0x1818, 32), (0x1820, 32), (0x44c0, 4)] }

theorem Dev.Keeps.seqTick {w : Dev.Scope} {d₀ d : Dev} {entry : Bool} (h : Dev.Keeps w d₀ d)
    (hw : Dev.seqTickScope.le w = true := by decide) : Dev.Keeps w d₀ (d.seqTick entry) := by
  refine h.step hw ?_
  have h : Dev.Keeps Dev.seqTickScope d d := .refl
  unfold Dev.seqTick
  extract_lets d1 e1 d2 d3 owed1 c1 d4 d5 e2 d6 d7 e3 d8 n1 e4 d9
  have hd1 : Dev.Keeps Dev.seqTickScope d d1 := h.seqCount
  have hd2 : Dev.Keeps Dev.seqTickScope d d2 := hd1.upd (seq := nofun)
  have hd3 : Dev.Keeps Dev.seqTickScope d d3 := Dev.Keeps.ite (Dev.Keeps.ite hd2.seqDone hd2) h
  have hd4 : Dev.Keeps Dev.seqTickScope d d4 := hd3.put
  have hd5 : Dev.Keeps Dev.seqTickScope d d5 := Dev.Keeps.ite hd4.put hd4
  have hd6 : Dev.Keeps Dev.seqTickScope d d6 := hd5.upd (seq := nofun)
  have hd7 : Dev.Keeps Dev.seqTickScope d d7 := Dev.Keeps.ite hd6.event hd6
  have hd8 : Dev.Keeps Dev.seqTickScope d d8 := Dev.Keeps.ite ((hd7.upd (seq := nofun)).raise) hd7
  have hd9 : Dev.Keeps Dev.seqTickScope d d9 := hd8.upd (seq := nofun)
  exact Dev.Keeps.ite h (Dev.Keeps.ite hd7 (Dev.Keeps.ite (Dev.Keeps.ite hd9.seqHalt hd9.raise) (Dev.Keeps.ite (hd8.upd (seq := nofun)) hd8)))

/-- What `Dev.fallowTry` may write. -/
abbrev Dev.fallowTryScope : Dev.Scope := { freeCount := true, staged := true, mem := true, tick := true, acq := true, hop := true, img := true, ct := true, aux := true, cal := true, seq := true, panel := true, hp := true, ring := true, cl := true, pp := true, pwr := true, flt := true, regs := [R.SYS_CTRL, R.SYS_STATUS, R.SYS_REASON, R.SYS_HALT_INFO, R.ACQ_STATUS, R.HOP_STATUS, R.CAL_STATUS, R.CAL_REASON, R.SEQ_STATUS, R.SEQ_EVPEND, R.SEQ_IMGVER, R.SEQ_VRES, R.GPIO_STATUS, R.GPIO_SWAPST, R.HP_ATTN, R.XR_ECCSB, R.XR_ECCDB, R.RQ_PI, R.RQ_CI, R.RQ_SEQX, R.RQ_LOST, R.RQ_STATUS, R.PP_STATUS, R.PP_COUNTS2, R.PWR_ON, R.PWR_RES, R.PWR_DST0, R.PWR_DST1, R.PWR_WSRC, R.FLT_LOG, R.FLT_LAST, R.FLT_WOPEN], fams := [(0x240c, 16), (0x2408, 16), (0x2400, 16), (0x2404, 16), (0x3ce0, 4), (0x1818, 32), (0x1820, 32), (0x44c0, 4)] }

theorem Dev.Keeps.fallowTry {w : Dev.Scope} {d₀ d : Dev}  (h : Dev.Keeps w d₀ d)
    (hw : Dev.fallowTryScope.le w = true := by decide) : Dev.Keeps w d₀ (d.fallowTry) := by
  refine h.step hw ?_
  have h : Dev.Keeps Dev.fallowTryScope d d := .refl
  unfold Dev.fallowTry
  extract_lets lat1 d1 e1 d2 e2 d3
  have hd1 : Dev.Keeps Dev.fallowTryScope d d1 := h.setWake.put
  have hd2 : Dev.Keeps Dev.fallowTryScope d d2 := Dev.Keeps.ite (hd1.upd (pwr := nofun)) h
  have hd3 : Dev.Keeps Dev.fallowTryScope d d3 := hd2.upd (pwr := nofun)
  exact Dev.Keeps.ite h (Dev.Keeps.ite hd3.setSt.bootStart hd2)

/-- What `Dev.hfoStop` may write. -/
abbrev Dev.hfoStopScope : Dev.Scope := { pwr := true }

theorem Dev.Keeps.hfoStop {w : Dev.Scope} {d₀ d : Dev}  (h : Dev.Keeps w d₀ d)
    (hw : Dev.hfoStopScope.le w = true := by decide) : Dev.Keeps w d₀ (d.hfoStop) := by
  refine h.step hw ?_
  have h : Dev.Keeps Dev.hfoStopScope d d := .refl
  unfold Dev.hfoStop
  extract_lets e1
  exact Dev.Keeps.ite (h.upd (pwr := nofun)) h

/-- What `Dev.heathEnter` may write. -/
abbrev Dev.heathEnterScope : Dev.Scope := { staged := true, mem := true, tick := true, hop := true, img := true, ct := true, aux := true, cal := true, seq := true, hp := true, ring := true, cl := true, pwr := true, flt := true, regs := [R.SYS_CTRL, R.SYS_STATUS, R.SYS_REASON, R.HOP_STATUS, R.CAL_STATUS, R.CAL_REASON, R.SEQ_EVPEND, R.GPIO_SWAPST, R.HP_ATTN, R.XR_ECCSB, R.XR_ECCDB, R.RQ_PI, R.RQ_CI, R.RQ_SEQX, R.RQ_LOST, R.RQ_STATUS, R.PWR_ON, R.PWR_RES, R.PWR_DST0, R.PWR_DST1, R.PWR_WSRC, R.PWR_COUNTS, R.FLT_LOG, R.FLT_LAST, R.FLT_WOPEN], fams := [(0x1818, 32), (0x1820, 32), (0x44c0, 4)] }

theorem Dev.Keeps.heathEnter {w : Dev.Scope} {d₀ d : Dev}  (h : Dev.Keeps w d₀ d)
    (hw : Dev.heathEnterScope.le w = true := by decide) : Dev.Keeps w d₀ (d.heathEnter) := by
  refine h.step hw ?_
  have h : Dev.Keeps Dev.heathEnterScope d d := .refl
  unfold Dev.heathEnter
  extract_lets d1 e1 d2
  have hd1 : Dev.Keeps Dev.heathEnterScope d d1 := h.setSt.inc
  have hd2 : Dev.Keeps Dev.heathEnterScope d d2 := hd1.upd (pwr := nofun)
  exact Dev.Keeps.ite (Dev.Keeps.ite hd2.heathLeave (Dev.Keeps.ite hd2.wakeCause hd2.hfoStop)) h

/-- What `Dev.domSettled` may write. -/
abbrev Dev.domSettledScope : Dev.Scope := { freeCount := true, staged := true, mem := true, tick := true, acq := true, hop := true, img := true, ct := true, aux := true, cal := true, seq := true, panel := true, hp := true, ring := true, cl := true, pp := true, pwr := true, flt := true, regs := [R.SYS_CTRL, R.SYS_STATUS, R.SYS_REASON, R.SYS_HALT_INFO, R.ACQ_STATUS, R.HOP_STATUS, R.AUX_COUNTS, R.CAL_STATUS, R.CAL_REASON, R.CAL_COUNT0, R.CAL_COUNT1, R.SEQ_STATUS, R.SEQ_EVPEND, R.SEQ_IMGVER, R.SEQ_VRES, R.GPIO_STATUS, R.GPIO_SWAPST, R.HP_STATUS, R.HP_ATTN, R.XR_ECCSB, R.XR_ECCDB, R.RQ_PI, R.RQ_CI, R.RQ_SEQX, R.RQ_LOST, R.RQ_STATUS, R.PP_STATUS, R.PP_COUNTS2, R.PWR_ON, R.PWR_RES, R.PWR_DST0, R.PWR_DST1, R.PWR_WSRC, R.PWR_COUNTS, R.FLT_LOG, R.FLT_LAST, R.FLT_WOPEN], fams := [(0x240c, 16), (0x2408, 16), (0x2400, 16), (0x2404, 16), (0x3ce0, 4), (0x1818, 32), (0x1820, 32), (0x44c0, 4), (0x1c58, 8), (0x1c5c, 8), (0x1c30, 8), (0x1c34, 8)] }

theorem Dev.Keeps.domSettled {w : Dev.Scope} {d₀ d : Dev}  (h : Dev.Keeps w d₀ d)
    (hw : Dev.domSettledScope.le w = true := by decide) : Dev.Keeps w d₀ (d.domSettled) := by
  refine h.step hw ?_
  have h : Dev.Keeps Dev.domSettledScope d d := .refl
  unfold Dev.domSettled
  exact h.domReqsEnd.heathEnter.heathTry.fallowStep.fallowTry

/-- What `Dev.ppTick` may write. -/
abbrev Dev.ppTickScope : Dev.Scope := { freeCount := true, staged := true, mem := true, tick := true, acq := true, hop := true, img := true, ct := true, aux := true, cal := true, seq := true, panel := true, hp := true, ring := true, cl := true, pp := true, pwr := true, flt := true, regs := [R.SYS_CTRL, R.SYS_STATUS, R.SYS_REASON, R.SYS_HALT_INFO, R.ACQ_STATUS, R.HOP_STATUS, R.CAL_STATUS, R.CAL_REASON, R.SEQ_STATUS, R.SEQ_EVPEND, R.GPIO_STATUS, R.GPIO_SWAPST, R.HP_ATTN, R.XR_ECCSB, R.XR_ECCDB, R.RQ_PI, R.RQ_CI, R.RQ_SEQX, R.RQ_LOST, R.RQ_STATUS, R.PP_STATUS, R.PP_COUNTS2, R.PWR_ON, R.PWR_RES, R.PWR_DST0, R.PWR_DST1, R.PWR_WSRC, R.FLT_LOG, R.FLT_LAST, R.FLT_WOPEN], fams := [(0x3ce0, 4), (0x1818, 32), (0x1820, 32), (0x44c0, 4)] }

theorem Dev.Keeps.ppTick {w : Dev.Scope} {d₀ d : Dev}  (h : Dev.Keeps w d₀ d)
    (hw : Dev.ppTickScope.le w = true := by decide) : Dev.Keeps w d₀ (d.ppTick) := by
  refine h.step hw ?_
  have h : Dev.Keeps Dev.ppTickScope d d := .refl
  unfold Dev.ppTick
  split
  · exact h
  · refine Dev.Keeps.foldl ?_ h
    intro d' x hd1'
    extract_lets x1 d1
    have hd1 : Dev.Keeps Dev.ppTickScope d d1 := Dev.Keeps.ite hd1' (hd1'.put (Dev.Scope.has_fam 0x3ce0 4 _))
    exact Dev.Keeps.ite hd1' (Dev.Keeps.ite hd1.inc (Dev.Keeps.ite (((hd1.put (Dev.Scope.has_fam 0x3ce0 4 _)).ppState).event) hd1.ppJoin))

/-- What `Dev.flushTouch` may write. -/
abbrev Dev.flushTouchScope : Dev.Scope := { mem := true, ring := true, regs := [R.HP_ATTN, R.XR_ECCSB, R.XR_ECCDB, R.RQ_PI, R.RQ_CI, R.RQ_SEQX, R.RQ_LOST, R.RQ_STATUS] }

theorem Dev.Keeps.flushTouch {w : Dev.Scope} {d₀ d : Dev}  (h : Dev.Keeps w d₀ d)
    (hw : Dev.flushTouchScope.le w = true := by decide) : Dev.Keeps w d₀ (d.flushTouch) := by
  refine h.step hw ?_
  have h : Dev.Keeps Dev.flushTouchScope d d := .refl
  unfold Dev.flushTouch
  extract_lets c1 e1 d1
  have hd1 : Dev.Keeps Dev.flushTouchScope d d1 := h.upd (ring := nofun)
  split
  · exact h
  · split
    · exact hd1.touchOut

/-- What `Dev.flushOne` may write. -/
abbrev Dev.flushOneScope : Dev.Scope := { mem := true, ring := true, regs := [R.HP_ATTN, R.XR_ECCSB, R.XR_ECCDB, R.RQ_PI, R.RQ_CI, R.RQ_SEQX, R.RQ_LOST, R.RQ_STATUS] }

theorem Dev.Keeps.flushOne {w : Dev.Scope} {d₀ d : Dev} {r? : Option Report} (h : Dev.Keeps w d₀ d)
    (hw : Dev.flushOneScope.le w = true := by decide) : Dev.Keeps w d₀ (d.flushOne r?) := by
  refine h.step hw ?_
  have h : Dev.Keeps Dev.flushOneScope d d := .refl
  unfold Dev.flushOne
  split
  · exact h
  · exact h.report

/-- What `Dev.flushWaiting` may write. -/
abbrev Dev.flushWaitingScope : Dev.Scope := { mem := true, ring := true, regs := [R.HP_ATTN, R.XR_ECCSB, R.XR_ECCDB, R.RQ_PI, R.RQ_CI, R.RQ_SEQX, R.RQ_STATUS] }

theorem Dev.Keeps.flushWaiting {w : Dev.Scope} {d₀ d : Dev} {rs : List Report} (h : Dev.Keeps w d₀ d)
    (hw : Dev.flushWaitingScope.le w = true := by decide) : Dev.Keeps w d₀ (d.flushWaiting rs) := by
  refine h.step hw ?_
  suffices ∀ e, Dev.Keeps Dev.flushWaitingScope d e → Dev.Keeps Dev.flushWaitingScope d (e.flushWaiting rs) from this d .refl
  induction rs with
  | nil => exact fun e he => he.upd (ring := nofun)
  | cons r rs ih =>
    intro e he
    have hc : Dev.Keeps Dev.flushWaitingScope d (e.reclaim r) := he.reclaim
    unfold Dev.flushWaiting
    refine .ite (ih _ (Dev.Keeps.rqEmit (Dev.Keeps.put ?_))) (.ite (ih _ hc.rqEmit) (hc.upd (ring := nofun)))
    exact hc.upd (ring := nofun)

/-- What `Dev.roomReturn` may write. -/
abbrev Dev.roomReturnScope : Dev.Scope := { mem := true, ring := true, regs := [R.HP_ATTN, R.XR_ECCSB, R.XR_ECCDB, R.RQ_PI, R.RQ_CI, R.RQ_SEQX, R.RQ_LOST, R.RQ_STATUS] }

theorem Dev.Keeps.roomReturn {w : Dev.Scope} {d₀ d : Dev}  (h : Dev.Keeps w d₀ d)
    (hw : Dev.roomReturnScope.le w = true := by decide) : Dev.Keeps w d₀ (d.roomReturn) := by
  refine h.step hw ?_
  have h : Dev.Keeps Dev.roomReturnScope d d := .refl
  unfold Dev.roomReturn
  extract_lets c1 o1 d1 d2 e1 e2 d3 d4 d5 d6 d7 d8 d9 d10
  have hd1 : Dev.Keeps Dev.roomReturnScope d d1 := h.reclaim
  have hd2 : Dev.Keeps Dev.roomReturnScope d d2 := hd1.rqEmit
  have hd3 : Dev.Keeps Dev.roomReturnScope d d3 := hd2.upd (ring := nofun)
  have hd4 : Dev.Keeps Dev.roomReturnScope d d4 := hd3.put
  have hd5 : Dev.Keeps Dev.roomReturnScope d d5 := hd4.flushTouch
  have hd6 : Dev.Keeps Dev.roomReturnScope d d6 := by
    unfold d6
    split
    · exact hd5
    · exact hd5.key
  have hd7 : Dev.Keeps Dev.roomReturnScope d d7 := hd6.flushOne.flushOne
  have hd8 : Dev.Keeps Dev.roomReturnScope d d8 := hd7.flushOne
  have hd9 : Dev.Keeps Dev.roomReturnScope d d9 := Dev.Keeps.foldl (fun _ _ h10 => h10.report) hd8
  have hd10 : Dev.Keeps Dev.roomReturnScope d d10 := Dev.Keeps.ite hd9.flushOne.flushOne hd1
  exact hd10.flushWaiting.rqAttn

/-- What `Dev.reclaimTick` may write. -/
abbrev Dev.reclaimTickScope : Dev.Scope := { mem := true, ring := true, regs := [R.HP_ATTN, R.XR_ECCSB, R.XR_ECCDB, R.RQ_CI] }

theorem Dev.Keeps.reclaimTick {w : Dev.Scope} {d₀ d : Dev}  (h : Dev.Keeps w d₀ d)
    (hw : Dev.reclaimTickScope.le w = true := by decide) : Dev.Keeps w d₀ (d.reclaimTick) := by
  refine h.step hw ?_
  have h : Dev.Keeps Dev.reclaimTickScope d d := .refl
  unfold Dev.reclaimTick
  exact Dev.Keeps.ite h.reclaimAll.rqAttn h

/-- What `Dev.acqStart` may write. -/
abbrev Dev.acqStartScope : Dev.Scope := { tick := true, acq := true }

theorem Dev.Keeps.acqStart {w : Dev.Scope} {d₀ d : Dev} {f : Frame} (h : Dev.Keeps w d₀ d)
    (hw : Dev.acqStartScope.le w = true := by decide) : Dev.Keeps w d₀ (d.acqStart f) := by
  refine h.step hw ?_
  have h : Dev.Keeps Dev.acqStartScope d d := .refl
  unfold Dev.acqStart
  extract_lets e1 e2
  exact h.upd (tick := nofun) (acq := nofun)

/-- What `Dev.vsyncSteps` may write. -/
abbrev Dev.vsyncStepsScope : Dev.Scope := { tick := true }

theorem Dev.Keeps.vsyncSteps {w : Dev.Scope} {d₀ d : Dev}  (h : Dev.Keeps w d₀ d)
    (hw : Dev.vsyncStepsScope.le w = true := by decide) : Dev.Keeps w d₀ (d.vsyncSteps) := by
  refine h.step hw ?_
  have h : Dev.Keeps Dev.vsyncStepsScope d d := .refl
  unfold Dev.vsyncSteps
  extract_lets e1 left1 more1
  split
  · exact h
  · split
    · exact h.upd (tick := nofun)
    · split
      · exact h
      · exact h.upd (tick := nofun)

/-- What `Dev.heathComplete` may write. -/
abbrev Dev.heathCompleteScope : Dev.Scope := { freeCount := true, staged := true, mem := true, tick := true, acq := true, hop := true, img := true, ct := true, aux := true, cal := true, seq := true, panel := true, hp := true, ring := true, cl := true, pp := true, pwr := true, flt := true, regs := [R.SYS_CTRL, R.SYS_STATUS, R.SYS_REASON, R.SYS_HALT_INFO, R.ACQ_STATUS, R.HOP_STATUS, R.CT_STATUS, R.CT_RGOCC, R.AUX_COUNTS, R.CAL_STATUS, R.CAL_REASON, R.CAL_COUNT0, R.CAL_COUNT1, R.SEQ_STATUS, R.SEQ_EVPEND, R.GPIO_STATUS, R.GPIO_SWAPST, R.HP_ATTN, R.XR_ECCSB, R.XR_ECCDB, R.RQ_PI, R.RQ_CI, R.RQ_SEQX, R.RQ_LOST, R.RQ_STATUS, R.PP_STATUS, R.PP_COUNTS2, R.PWR_ON, R.PWR_RES, R.PWR_DST0, R.PWR_DST1, R.PWR_WSRC, R.PWR_COUNTS, R.FLT_LOG, R.FLT_LAST, R.FLT_WOPEN], fams := [(0x1818, 32), (0x1820, 32), (0x44c0, 4), (0x3ce0, 4), (0x1c58, 8), (0x1c5c, 8), (0x1c30, 8), (0x1c34, 8)] }

theorem Dev.Keeps.heathComplete {w : Dev.Scope} {d₀ d : Dev}  (h : Dev.Keeps w d₀ d)
    (hw : Dev.heathCompleteScope.le w = true := by decide) : Dev.Keeps w d₀ (d.heathComplete) := by
  refine h.step hw ?_
  have h : Dev.Keeps Dev.heathCompleteScope d d := .refl
  unfold Dev.heathComplete
  extract_lets d1 e1
  have hd1 : Dev.Keeps Dev.heathCompleteScope d d1 := h.contactsStop
  split
  · exact h
  · extract_lets d2 d3 off1 e2 d4
    have hd2 : Dev.Keeps Dev.heathCompleteScope d d2 := hd1.upd (pwr := nofun)
    have hd3 : Dev.Keeps Dev.heathCompleteScope d d3 := hd2.pwrAnswer
    have hd4 : Dev.Keeps Dev.heathCompleteScope d d4 := hd3.upd (pwr := nofun)
    exact Dev.Keeps.ite h ((Dev.Keeps.foldl (fun _ _ h6 => h6.drainStart) hd4).heathEnter)

/-- What `Dev.vsyncAlign` may write. -/
abbrev Dev.vsyncAlignScope : Dev.Scope := { tick := true, regs := [R.TICK_COUNTS] }

theorem Dev.Keeps.vsyncAlign {w : Dev.Scope} {d₀ d : Dev} {n : Nat} (h : Dev.Keeps w d₀ d)
    (hw : Dev.vsyncAlignScope.le w = true := by decide) : Dev.Keeps w d₀ (d.vsyncAlign n) := by
  refine h.step hw ?_
  have h : Dev.Keeps Dev.vsyncAlignScope d d := .refl
  unfold Dev.vsyncAlign
  extract_lets back1 owed1 d1 e1
  have hd1 : Dev.Keeps Dev.vsyncAlignScope d d1 := h.satAdd
  exact hd1.upd (tick := nofun)

/-- What `Dev.vsyncEdge` may write. -/
abbrev Dev.vsyncEdgeScope : Dev.Scope := { tick := true, regs := [R.TICK_STATUS, R.TICK_VMEAS, R.TICK_COUNTS] }

theorem Dev.Keeps.vsyncEdge {w : Dev.Scope} {d₀ d : Dev}  (h : Dev.Keeps w d₀ d)
    (hw : Dev.vsyncEdgeScope.le w = true := by decide) : Dev.Keeps w d₀ (d.vsyncEdge) := by
  refine h.step hw ?_
  have h : Dev.Keeps Dev.vsyncEdgeScope d d := .refl
  unfold Dev.vsyncEdge
  split
  · exact h
  · split
    · extract_lets n1 lock1 d1 d2 e1
      have hd1 : Dev.Keeps Dev.vsyncEdgeScope d d1 := h.putB
      have hd2 : Dev.Keeps Dev.vsyncEdgeScope d d2 := hd1.put
      exact Dev.Keeps.ite h.put ((hd2.upd (tick := nofun)).vsyncAlign)
    · exact h.vsyncAlign

/-- What `Dev.vsyncLoss` may write. -/
abbrev Dev.vsyncLossScope : Dev.Scope := { freeCount := true, staged := true, mem := true, tick := true, acq := true, hop := true, img := true, ct := true, aux := true, cal := true, seq := true, panel := true, hp := true, ring := true, cl := true, pp := true, pwr := true, flt := true, regs := [R.SYS_CTRL, R.SYS_STATUS, R.SYS_REASON, R.SYS_HALT_INFO, R.TICK_STATUS, R.TICK_VMEAS, R.ACQ_STATUS, R.HOP_STATUS, R.CAL_STATUS, R.CAL_REASON, R.SEQ_STATUS, R.SEQ_EVPEND, R.GPIO_STATUS, R.GPIO_SWAPST, R.HP_ATTN, R.XR_ECCSB, R.XR_ECCDB, R.RQ_PI, R.RQ_CI, R.RQ_SEQX, R.RQ_LOST, R.RQ_STATUS, R.PP_STATUS, R.PP_COUNTS2, R.PWR_ON, R.PWR_RES, R.PWR_DST0, R.PWR_DST1, R.PWR_WSRC, R.FLT_LOG, R.FLT_LAST, R.FLT_WOPEN], fams := [(0x3ce0, 4), (0x1818, 32), (0x1820, 32), (0x44c0, 4)] }

theorem Dev.Keeps.vsyncLoss {w : Dev.Scope} {d₀ d : Dev}  (h : Dev.Keeps w d₀ d)
    (hw : Dev.vsyncLossScope.le w = true := by decide) : Dev.Keeps w d₀ (d.vsyncLoss) := by
  refine h.step hw ?_
  have h : Dev.Keeps Dev.vsyncLossScope d d := .refl
  unfold Dev.vsyncLoss
  extract_lets p1 d1 next1 e1
  have hd1 : Dev.Keeps Dev.vsyncLossScope d d1 := h.put.put
  exact Dev.Keeps.ite h ((hd1.upd (tick := nofun)).raise)

/-- What `Dev.hsyncLoss` may write. -/
abbrev Dev.hsyncLossScope : Dev.Scope := { tick := true, regs := [R.TICK_STATUS, R.TICK_VMEAS] }

theorem Dev.Keeps.hsyncLoss {w : Dev.Scope} {d₀ d : Dev}  (h : Dev.Keeps w d₀ d)
    (hw : Dev.hsyncLossScope.le w = true := by decide) : Dev.Keeps w d₀ (d.hsyncLoss) := by
  refine h.step hw ?_
  have h : Dev.Keeps Dev.hsyncLossScope d d := .refl
  unfold Dev.hsyncLoss
  extract_lets d1 e1
  have hd1 : Dev.Keeps Dev.hsyncLossScope d d1 := h.put.put
  exact hd1.upd (tick := nofun)

/-- What `Dev.pumpPhase` may write. -/
abbrev Dev.pumpPhaseScope : Dev.Scope := { freeCount := true, acq := true, regs := [R.ACQ_STATUS] }

theorem Dev.Keeps.pumpPhase {w : Dev.Scope} {d₀ d : Dev}  (h : Dev.Keeps w d₀ d)
    (hw : Dev.pumpPhaseScope.le w = true := by decide) : Dev.Keeps w d₀ (d.pumpPhase) := by
  refine h.step hw ?_
  have h : Dev.Keeps Dev.pumpPhaseScope d d := .refl
  unfold Dev.pumpPhase
  split
  · exact h.pumpTo
  · exact h

/-- What `Dev.phaseFrom` may write. -/
abbrev Dev.phaseFromScope : Dev.Scope := { freeCount := true, acq := true, regs := [R.ACQ_STATUS] }

theorem Dev.Keeps.phaseFrom {w : Dev.Scope} {d₀ d : Dev} {t : Nat} (h : Dev.Keeps w d₀ d)
    (hw : Dev.phaseFromScope.le w = true := by decide) : Dev.Keeps w d₀ (d.phaseFrom t) := by
  refine h.step hw ?_
  have h : Dev.Keeps Dev.phaseFromScope d d := .refl
  unfold Dev.phaseFrom
  extract_lets e1
  exact (h.upd (acq := nofun)).pumpPhase

/-- What `Dev.phaseEnd` may write. -/
abbrev Dev.phaseEndScope : Dev.Scope := { freeCount := true, acq := true, regs := [R.ACQ_STATUS] }

theorem Dev.Keeps.phaseEnd {w : Dev.Scope} {d₀ d : Dev}  (h : Dev.Keeps w d₀ d)
    (hw : Dev.phaseEndScope.le w = true := by decide) : Dev.Keeps w d₀ (d.phaseEnd) := by
  refine h.step hw ?_
  have h : Dev.Keeps Dev.phaseEndScope d d := .refl
  unfold Dev.phaseEnd
  exact h.phaseFrom

/-- What `Dev.listenSlot` may write. -/
abbrev Dev.listenSlotScope : Dev.Scope := { freeCount := true, acq := true, regs := [R.ACQ_STATUS] }

theorem Dev.Keeps.listenSlot {w : Dev.Scope} {d₀ d : Dev} {inputs : List (Nat × Bool × List Nat)} (h : Dev.Keeps w d₀ d)
    (hw : Dev.listenSlotScope.le w = true := by decide) : Dev.Keeps w d₀ (d.listenSlot inputs) := by
  refine h.step hw ?_
  have h : Dev.Keeps Dev.listenSlotScope d d := .refl
  unfold Dev.listenSlot
  extract_lets e1
  split
  · exact h
  · extract_lets afe1 rec1 lofs1 clipped1 f1
    exact Dev.Keeps.ite h ((h.upd (acq := nofun)).phaseEnd)

/-- What `Dev.clNoise` may write. -/
abbrev Dev.clNoiseScope : Dev.Scope := { cl := true }

theorem Dev.Keeps.clNoise {w : Dev.Scope} {d₀ d : Dev} {frame : Nat} (h : Dev.Keeps w d₀ d)
    (hw : Dev.clNoiseScope.le w = true := by decide) : Dev.Keeps w d₀ (d.clNoise frame) := by
  refine h.step hw ?_
  have h : Dev.Keeps Dev.clNoiseScope d d := .refl
  unfold Dev.clNoise
  exact Dev.Keeps.ite h.clSend h

/-- What `Dev.noiseLevels` may write. -/
abbrev Dev.noiseLevelsScope : Dev.Scope := { regs := [R.HOP_STATUS], fams := [(0x0840, 4)] }

theorem Dev.Keeps.noiseLevels {w : Dev.Scope} {d₀ d : Dev} (h : Dev.Keeps w d₀ d)
    (hw : Dev.noiseLevelsScope.le w = true := by decide) : Dev.Keeps w d₀ d.noiseLevels := by
  refine h.step hw ?_
  unfold Dev.noiseLevels
  refine Dev.Keeps.put (Dev.Keeps.foldl (fun x i hx => ?_) .refl)
  exact Dev.Keeps.put (Dev.Keeps.put (Dev.Keeps.put hx (Dev.Scope.has_fam 0x0840 4 _)) (Dev.Scope.has_fam 0x0840 4 _))
    (Dev.Scope.has_fam 0x0840 4 _)

/-- What `Dev.noiseEvent` may write. -/
abbrev Dev.noiseEventScope : Dev.Scope := { cl := true, regs := [R.HOP_STATUS], fams := [(0x840, 4)] }

theorem Dev.Keeps.noiseEvent {w : Dev.Scope} {d₀ d : Dev}  (h : Dev.Keeps w d₀ d)
    (hw : Dev.noiseEventScope.le w = true := by decide) : Dev.Keeps w d₀ (d.noiseEvent) := by
  refine h.step hw ?_
  have h : Dev.Keeps Dev.noiseEventScope d d := .refl
  unfold Dev.noiseEvent
  split
  · exact Dev.Keeps.ite h.noiseLevels.clNoise h
  · exact h

/-- What `Dev.vhvSeen` may write. -/
abbrev Dev.vhvSeenScope : Dev.Scope := { acq := true, regs := [R.ACQ_STATUS] }

theorem Dev.Keeps.vhvSeen {w : Dev.Scope} {d₀ d : Dev} {level : Nat} {ok : Bool} (h : Dev.Keeps w d₀ d)
    (hw : Dev.vhvSeenScope.le w = true := by decide) : Dev.Keeps w d₀ (d.vhvSeen level ok) := by
  refine h.step hw ?_
  have h : Dev.Keeps Dev.vhvSeenScope d d := .refl
  unfold Dev.vhvSeen
  extract_lets e1 e2
  have he1 : Dev.Keeps Dev.vhvSeenScope d e1 := h.put
  exact Dev.Keeps.ite h (Dev.Keeps.ite (he1.upd (acq := nofun)) h.put)

/-- What `Dev.clMutual` may write. -/
abbrev Dev.clMutualScope : Dev.Scope := { acq := true, cl := true }

theorem Dev.Keeps.clMutual {w : Dev.Scope} {d₀ d : Dev}  (h : Dev.Keeps w d₀ d)
    (hw : Dev.clMutualScope.le w = true := by decide) : Dev.Keeps w d₀ (d.clMutual) := by
  refine h.step hw ?_
  have h : Dev.Keeps Dev.clMutualScope d d := .refl
  unfold Dev.clMutual
  extract_lets gap1 e1
  split
  · exact h
  · extract_lets own1 d1
    have hd1 : Dev.Keeps Dev.clMutualScope d d1 := h.upd (acq := nofun)
    exact Dev.Keeps.ite h (Dev.Keeps.ite hd1.clSend hd1)

/-- What `Dev.mutualScan` may write. -/
abbrev Dev.mutualScanScope : Dev.Scope := { acq := true }

theorem Dev.Keeps.mutualScan {w : Dev.Scope} {d₀ d : Dev} {y : List (List Int)} {ovr : List (List Nat)} {vhvLow : List Nat} (h : Dev.Keeps w d₀ d)
    (hw : Dev.mutualScanScope.le w = true := by decide) : Dev.Keeps w d₀ (d.mutualScan y ovr vhvLow) := by
  refine h.step hw ?_
  have h : Dev.Keeps Dev.mutualScanScope d d := .refl
  unfold Dev.mutualScan
  extract_lets L1 y1 chans1 e1
  split
  · exact h
  · extract_lets low1 bad1 ask1 f1
    exact Dev.Keeps.ite h (h.upd (acq := nofun))

/-- What `Dev.mutualEvent` may write. -/
abbrev Dev.mutualEventScope : Dev.Scope := { freeCount := true, acq := true, cl := true, regs := [R.ACQ_STATUS] }

theorem Dev.Keeps.mutualEvent {w : Dev.Scope} {d₀ d : Dev} {y : List (List Int)} {ovr : List (List Nat)} {vhvLow : List Nat} (h : Dev.Keeps w d₀ d)
    (hw : Dev.mutualEventScope.le w = true := by decide) : Dev.Keeps w d₀ (d.mutualEvent y ovr vhvLow) := by
  refine h.step hw ?_
  have h : Dev.Keeps Dev.mutualEventScope d d := .refl
  unfold Dev.mutualEvent
  split
  · exact Dev.Keeps.ite h.mutualScan.clMutual.vhvSeen.phaseEnd h
  · exact h

/-- What `Dev.retryEvent` may write. -/
abbrev Dev.retryEventScope : Dev.Scope := { freeCount := true, acq := true, regs := [R.ACQ_STATUS] }

theorem Dev.Keeps.retryEvent {w : Dev.Scope} {d₀ d : Dev} {y : List Int} {ovr : List Nat} {vhvOk : Bool} (h : Dev.Keeps w d₀ d)
    (hw : Dev.retryEventScope.le w = true := by decide) : Dev.Keeps w d₀ (d.retryEvent y ovr vhvOk) := by
  refine h.step hw ?_
  have h : Dev.Keeps Dev.retryEventScope d d := .refl
  unfold Dev.retryEvent
  extract_lets e1
  split
  · split
    · extract_lets f1
      exact ((h.upd (acq := nofun)).vhvSeen).phaseEnd
    · exact h
  · exact h

/-- What `Dev.selfPass` may write. -/
abbrev Dev.selfPassScope : Dev.Scope := { acq := true }

theorem Dev.Keeps.selfPass {w : Dev.Scope} {d₀ d : Dev} {ys : List (List Int)} {ovr : List Nat} {vhvLow : Bool} (h : Dev.Keeps w d₀ d)
    (hw : Dev.selfPassScope.le w = true := by decide) : Dev.Keeps w d₀ (d.selfPass ys ovr vhvLow) := by
  refine h.step hw ?_
  have h : Dev.Keeps Dev.selfPassScope d d := .refl
  unfold Dev.selfPass
  extract_lets n1 e1
  split
  · exact h
  · extract_lets one1 f1
    exact Dev.Keeps.ite h (h.upd (acq := nofun))

/-- What `Dev.selfEvent` may write. -/
abbrev Dev.selfEventScope : Dev.Scope := { freeCount := true, acq := true, regs := [R.ACQ_STATUS] }

theorem Dev.Keeps.selfEvent {w : Dev.Scope} {d₀ d : Dev} {ys : List (List Int)} {ovr : List Nat} {vhvLow : Bool} (h : Dev.Keeps w d₀ d)
    (hw : Dev.selfEventScope.le w = true := by decide) : Dev.Keeps w d₀ (d.selfEvent ys ovr vhvLow) := by
  refine h.step hw ?_
  have h : Dev.Keeps Dev.selfEventScope d d := .refl
  unfold Dev.selfEvent
  split
  · exact Dev.Keeps.ite h.selfPass.vhvSeen.phaseEnd h
  · exact h

/-- What `Dev.burstEvent` may write. -/
abbrev Dev.burstEventScope : Dev.Scope := { freeCount := true, staged := true, mem := true, tick := true, acq := true, hop := true, img := true, ct := true, opt := true, aux := true, cal := true, seq := true, panel := true, hp := true, ring := true, cl := true, pp := true, pwr := true, flt := true, regs := [R.SYS_CTRL, R.SYS_STATUS, R.SYS_REASON, R.SYS_HALT_INFO, R.ACQ_STATUS, R.HOP_STATUS, R.OPT_XT, R.OPT_STATUS, R.OPT_SAMPLE, R.OPT_AMB, R.OPT_COUNTS, R.CAL_STATUS, R.CAL_REASON, R.SEQ_STATUS, R.SEQ_EVPEND, R.GPIO_STATUS, R.GPIO_SWAPST, R.HP_ATTN, R.XR_ECCSB, R.XR_ECCDB, R.RQ_PI, R.RQ_CI, R.RQ_SEQX, R.RQ_LOST, R.RQ_STATUS, R.PP_STATUS, R.PP_COUNTS2, R.PWR_ON, R.PWR_RES, R.PWR_DST0, R.PWR_DST1, R.PWR_WSRC, R.FLT_LOG, R.FLT_LAST, R.FLT_WOPEN], fams := [(0x3ce0, 4), (0x1818, 32), (0x1820, 32), (0x44c0, 4)] }

theorem Dev.Keeps.burstEvent {w : Dev.Scope} {d₀ d : Dev} {words : List OptWord} {ledOc : Bool} (h : Dev.Keeps w d₀ d)
    (hw : Dev.burstEventScope.le w = true := by decide) : Dev.Keeps w d₀ (d.burstEvent words ledOc) := by
  refine h.step hw ?_
  have h : Dev.Keeps Dev.burstEventScope d d := .refl
  unfold Dev.burstEvent
  split
  · exact Dev.Keeps.ite h.approachBurst.phaseEnd h
  · exact h

/-- What `Dev.acqEnd` may write. -/
abbrev Dev.acqEndScope : Dev.Scope := { freeCount := true, staged := true, mem := true, tick := true, acq := true, hop := true, img := true, ct := true, aux := true, cal := true, seq := true, panel := true, hp := true, ring := true, cl := true, pp := true, pwr := true, flt := true, regs := [R.SYS_CTRL, R.SYS_STATUS, R.SYS_REASON, R.SYS_HALT_INFO, R.ACQ_STATUS, R.ACQ_FSTAT, R.ACQ_STALEMAP, R.HOP_STATUS, R.CAL_STATUS, R.CAL_REASON, R.SEQ_STATUS, R.SEQ_EVPEND, R.GPIO_STATUS, R.GPIO_SWAPST, R.HP_ATTN, R.XR_ECCSB, R.XR_ECCDB, R.RQ_PI, R.RQ_CI, R.RQ_SEQX, R.RQ_LOST, R.RQ_STATUS, R.PP_STATUS, R.PP_COUNTS2, R.PWR_ON, R.PWR_RES, R.PWR_DST0, R.PWR_DST1, R.PWR_WSRC, R.FLT_LOG, R.FLT_LAST, R.FLT_WOPEN], fams := [(0x44c0, 4), (0x3ce0, 4), (0x1818, 32), (0x1820, 32), (0x840, 4)] }

theorem Dev.Keeps.acqEnd {w : Dev.Scope} {d₀ d : Dev}  (h : Dev.Keeps w d₀ d)
    (hw : Dev.acqEndScope.le w = true := by decide) : Dev.Keeps w d₀ (d.acqEnd) := by
  refine h.step hw ?_
  have h : Dev.Keeps Dev.acqEndScope d d := .refl
  unfold Dev.acqEnd
  split
  · exact Dev.Keeps.ite h.acqFinish h
  · exact h

/-- What `Dev.calAtStart` may write. -/
abbrev Dev.calAtStartScope : Dev.Scope := { img := true, cal := true, regs := [R.IMG_STATUS, R.IMG_NODES, R.IMG_THR, R.IMG_SWTIME, R.CAL_STATUS, R.CAL_COUNT0, R.CAL_COUNT1], fams := [(0x1c80, 4), (0x4800, 4), (0x1c30, 8), (0x1c34, 8)] }

theorem Dev.Keeps.calAtStart {w : Dev.Scope} {d₀ d : Dev}  (h : Dev.Keeps w d₀ d)
    (hw : Dev.calAtStartScope.le w = true := by decide) : Dev.Keeps w d₀ (d.calAtStart) := by
  refine h.step hw ?_
  have h : Dev.Keeps Dev.calAtStartScope d d := .refl
  unfold Dev.calAtStart
  exact Dev.Keeps.foldl (fun _ _ h2 => Dev.Keeps.ite h2 h2.calForce) h

/-- What `Dev.procStart` may write. -/
abbrev Dev.procStartScope : Dev.Scope := { acq := true, img := true, cal := true, regs := [R.IMG_STATUS, R.IMG_NODES, R.IMG_THR, R.IMG_SWTIME, R.CAL_STATUS, R.CAL_COUNT0, R.CAL_COUNT1], fams := [(0x1c80, 4), (0x4800, 4), (0x1c30, 8), (0x1c34, 8)] }

theorem Dev.Keeps.procStart {w : Dev.Scope} {d₀ d : Dev}  (h : Dev.Keeps w d₀ d)
    (hw : Dev.procStartScope.le w = true := by decide) : Dev.Keeps w d₀ (d.procStart) := by
  refine h.step hw ?_
  have h : Dev.Keeps Dev.procStartScope d d := .refl
  unfold Dev.procStart
  extract_lets d1 e1
  have hd1 : Dev.Keeps Dev.procStartScope d d1 := h.calAtStart
  split
  · extract_lets f1 d2 e2
    have hd2 : Dev.Keeps Dev.procStartScope d d2 := hd1.upd (acq := nofun)
    split
    · exact hd2.upd (img := nofun)
    · exact hd2
  · exact h

/-- What `Dev.procEvent` may write. -/
abbrev Dev.procEventScope : Dev.Scope := { acq := true, img := true, cal := true, regs := [R.IMG_STATUS, R.IMG_NODES, R.IMG_THR, R.IMG_SWTIME, R.CAL_STATUS, R.CAL_COUNT0, R.CAL_COUNT1], fams := [(0x1c80, 4), (0x4800, 4), (0x1c30, 8), (0x1c34, 8)] }

theorem Dev.Keeps.procEvent {w : Dev.Scope} {d₀ d : Dev}  (h : Dev.Keeps w d₀ d)
    (hw : Dev.procEventScope.le w = true := by decide) : Dev.Keeps w d₀ (d.procEvent) := by
  refine h.step hw ?_
  have h : Dev.Keeps Dev.procEventScope d d := .refl
  unfold Dev.procEvent
  exact Dev.Keeps.ite h.procStart h

/-- What `Dev.freezeFrame` may write. -/
abbrev Dev.freezeFrameScope : Dev.Scope := { img := true, regs := [R.IMG_NODES] }

theorem Dev.Keeps.freezeFrame {w : Dev.Scope} {d₀ d : Dev}  (h : Dev.Keeps w d₀ d)
    (hw : Dev.freezeFrameScope.le w = true := by decide) : Dev.Keeps w d₀ (d.freezeFrame) := by
  refine h.step hw ?_
  have h : Dev.Keeps Dev.freezeFrameScope d d := .refl
  unfold Dev.freezeFrame
  extract_lets fz1 es1
  exact h.setEls.put

/-- What `Dev.deltaOut` may write. -/
abbrev Dev.deltaOutScope : Dev.Scope := { freeCount := true, staged := true, mem := true, tick := true, acq := true, hop := true, img := true, ct := true, aux := true, cal := true, seq := true, panel := true, hp := true, ring := true, cl := true, pp := true, pwr := true, flt := true, regs := [R.SYS_CTRL, R.SYS_STATUS, R.SYS_REASON, R.SYS_HALT_INFO, R.ACQ_STATUS, R.HOP_STATUS, R.CAL_STATUS, R.CAL_REASON, R.SEQ_STATUS, R.SEQ_EVPEND, R.GPIO_STATUS, R.GPIO_SWAPST, R.HP_ATTN, R.XR_ECCSB, R.XR_ECCDB, R.RQ_PI, R.RQ_CI, R.RQ_SEQX, R.RQ_LOST, R.RQ_STATUS, R.PP_STATUS, R.PP_COUNTS2, R.PWR_ON, R.PWR_RES, R.PWR_DST0, R.PWR_DST1, R.PWR_WSRC, R.FLT_LOG, R.FLT_LAST, R.FLT_WOPEN], fams := [(0x3ce0, 4), (0x1818, 32), (0x1820, 32), (0x44c0, 4)] }

theorem Dev.Keeps.deltaOut {w : Dev.Scope} {d₀ d : Dev} {frame : Nat} {o : Nat} {b : List Byte} (h : Dev.Keeps w d₀ d)
    (hw : Dev.deltaOutScope.le w = true := by decide) : Dev.Keeps w d₀ (d.deltaOut frame o b) := by
  refine h.step hw ?_
  have h : Dev.Keeps Dev.deltaOutScope d d := .refl
  unfold Dev.deltaOut
  extract_lets d1 psn1
  have hd1 : Dev.Keeps Dev.deltaOutScope d d1 := Dev.Keeps.ite h.xwriteClean.eccTouch h
  exact hd1.clSend

/-- What `Dev.clDelta` may write. -/
abbrev Dev.clDeltaScope : Dev.Scope := { freeCount := true, staged := true, mem := true, tick := true, acq := true, hop := true, img := true, ct := true, aux := true, cal := true, seq := true, panel := true, hp := true, ring := true, cl := true, pp := true, pwr := true, flt := true, regs := [R.SYS_CTRL, R.SYS_STATUS, R.SYS_REASON, R.SYS_HALT_INFO, R.ACQ_STATUS, R.HOP_STATUS, R.CAL_STATUS, R.CAL_REASON, R.SEQ_STATUS, R.SEQ_EVPEND, R.GPIO_STATUS, R.GPIO_SWAPST, R.HP_ATTN, R.XR_ECCSB, R.XR_ECCDB, R.RQ_PI, R.RQ_CI, R.RQ_SEQX, R.RQ_LOST, R.RQ_STATUS, R.PP_STATUS, R.PP_COUNTS2, R.PWR_ON, R.PWR_RES, R.PWR_DST0, R.PWR_DST1, R.PWR_WSRC, R.FLT_LOG, R.FLT_LAST, R.FLT_WOPEN], fams := [(0x3ce0, 4), (0x1818, 32), (0x1820, 32), (0x44c0, 4)] }

theorem Dev.Keeps.clDelta {w : Dev.Scope} {d₀ d : Dev} {frame : Nat} (h : Dev.Keeps w d₀ d)
    (hw : Dev.clDeltaScope.le w = true := by decide) : Dev.Keeps w d₀ (d.clDelta frame) := by
  refine h.step hw ?_
  have h : Dev.Keeps Dev.clDeltaScope d d := .refl
  unfold Dev.clDelta
  extract_lets cols1 idx1 prof1 zero1 packed1 sent1 flags1 stale1 mk1 miss1 last1 out1
  exact Dev.Keeps.ite h (Dev.Keeps.foldl_fst (fun _ _ h2 => h2.deltaOut) h)

/-- What `Dev.regroup` may write. -/
abbrev Dev.regroupScope : Dev.Scope := { img := true, regs := [R.IMG_STATUS, R.IMG_NODES, R.IMG_SWTIME] }

theorem Dev.Keeps.regroup {w : Dev.Scope} {d₀ d : Dev}  (h : Dev.Keeps w d₀ d)
    (hw : Dev.regroupScope.le w = true := by decide) : Dev.Keeps w d₀ (d.regroup) := by
  refine h.step hw ?_
  have h : Dev.Keeps Dev.regroupScope d d := .refl
  unfold Dev.regroup
  extract_lets es1 idx1 gs1 e1 d1 d2
  have hd1 : Dev.Keeps Dev.regroupScope d d1 := h.upd (img := nofun)
  have hd2 : Dev.Keeps Dev.regroupScope d d2 := hd1.put
  exact Dev.Keeps.ite hd2.setSw (Dev.Keeps.ite hd2.setSw hd2)

/-- What `Dev.formFrame` may write. -/
abbrev Dev.formFrameScope : Dev.Scope := { freeCount := true, img := true, regs := [R.IMG_STATUS, R.IMG_NODES, R.IMG_SWTIME] }

theorem Dev.Keeps.formFrame {w : Dev.Scope} {d₀ d : Dev} {f : Frame} (h : Dev.Keeps w d₀ d)
    (hw : Dev.formFrameScope.le w = true := by decide) : Dev.Keeps w d₀ (d.formFrame f) := by
  refine h.step hw ?_
  have h : Dev.Keeps Dev.formFrameScope d d := .refl
  unfold Dev.formFrame
  extract_lets es1 nM1 nS1 withSelf1 e1 e2 d1
  have he1 : Dev.Keeps Dev.formFrameScope d e1 := h.put
  have hd1 : Dev.Keeps Dev.formFrameScope d d1 := he1.upd (img := nofun)
  split
  · split
    · rename_i q3 _ q3a _
      have hq3a : Dev.Keeps Dev.formFrameScope d q3a := Dev.Keeps.of_snd ‹_› (Dev.Keeps.ite_snd hd1.fresh hd1)
      extract_lets es2 e3 d2
      have hd2 : Dev.Keeps Dev.formFrameScope d d2 := hq3a.upd (img := nofun)
      exact hd2.setSw.regroup
  · exact hd1

/-- What `Dev.reseat` may write. -/
abbrev Dev.reseatScope : Dev.Scope := { img := true, regs := [R.IMG_STATUS, R.IMG_COUNTS] }

theorem Dev.Keeps.reseat {w : Dev.Scope} {d₀ d : Dev} {f : Frame} (h : Dev.Keeps w d₀ d)
    (hw : Dev.reseatScope.le w = true := by decide) : Dev.Keeps w d₀ (d.reseat f) := by
  refine h.step hw ?_
  have h : Dev.Keeps Dev.reseatScope d d := .refl
  unfold Dev.reseat
  extract_lets due1 es1 enough1 d1 again1 e1
  have hd1 : Dev.Keeps Dev.reseatScope d d1 := Dev.Keeps.ite (Dev.Keeps.ite h h.inc) h.put
  split
  · extract_lets es2 es3 es4 cs1
    exact Dev.Keeps.ite h (hd1.upd (img := nofun))

/-- What `Dev.swardBefore` may write. -/
abbrev Dev.swardBeforeScope : Dev.Scope := { freeCount := true, img := true, regs := [R.IMG_STATUS, R.IMG_NODES, R.IMG_COUNTS, R.IMG_SWTIME] }

theorem Dev.Keeps.swardBefore {w : Dev.Scope} {d₀ d : Dev} {f : Frame} (h : Dev.Keeps w d₀ d)
    (hw : Dev.swardBeforeScope.le w = true := by decide) : Dev.Keeps w d₀ (d.swardBefore f).1 := by
  refine h.step hw ?_
  have h : Dev.Keeps Dev.swardBeforeScope d d := .refl
  unfold Dev.swardBefore
  extract_lets d1 d2 e1 d3 d4 again1 e2 d5 d6 rs1 d7 nodes1 off1 first1 test1 e3 d8 gs1 e4
  have hd1 : Dev.Keeps Dev.swardBeforeScope d d1 := h.freezeFrame
  have hd2 : Dev.Keeps Dev.swardBeforeScope d d2 := Dev.Keeps.ite hd1.formStart hd1
  have hd3 : Dev.Keeps Dev.swardBeforeScope d d3 := hd2.upd (img := nofun)
  have hd4 : Dev.Keeps Dev.swardBeforeScope d d4 := hd3.setEls
  have hd5 : Dev.Keeps Dev.swardBeforeScope d d5 := hd4.upd (img := nofun)
  have hd6 : Dev.Keeps Dev.swardBeforeScope d d6 := Dev.Keeps.ite hd5.formStart hd5
  have hd7 : Dev.Keeps Dev.swardBeforeScope d d7 := hd4.reseat
  have hd8 : Dev.Keeps Dev.swardBeforeScope d d8 := hd7.upd (img := nofun)
  exact Dev.Keeps.ite_fst hd6.formFrame (Dev.Keeps.ite_fst hd8.formStart.put (hd8.upd (img := nofun)))

/-- What `Dev.negFrame` may write. -/
abbrev Dev.negFrameScope : Dev.Scope := { img := true, regs := [R.IMG_STATUS, R.IMG_NODES, R.IMG_COUNTS, R.IMG_SWTIME] }

theorem Dev.Keeps.negFrame {w : Dev.Scope} {d₀ d : Dev} {old : List Elem} {f : Frame} (h : Dev.Keeps w d₀ d)
    (hw : Dev.negFrameScope.le w = true := by decide) : Dev.Keeps w d₀ (d.negFrame old f) := by
  refine h.step hw ?_
  have h : Dev.Keeps Dev.negFrameScope d d := .refl
  unfold Dev.negFrame
  extract_lets hasM1 hasS1 pos1 one1 res1 n1 d1
  have hd1 : Dev.Keeps Dev.negFrameScope d d1 := h.setEls.satAdd
  exact Dev.Keeps.ite h.setEls (Dev.Keeps.ite hd1.regroup hd1)

/-- What `Dev.keptFrame` may write. -/
abbrev Dev.keptFrameScope : Dev.Scope := { img := true }

theorem Dev.Keeps.keptFrame {w : Dev.Scope} {d₀ d : Dev} {old : List Elem} {f : Frame} {rs : Bool × Bool} (h : Dev.Keeps w d₀ d)
    (hw : Dev.keptFrameScope.le w = true := by decide) : Dev.Keeps w d₀ (d.keptFrame old f rs) := by
  refine h.step hw ?_
  have h : Dev.Keeps Dev.keptFrameScope d d := .refl
  unfold Dev.keptFrame
  extract_lets hasM1 hasS1 add1 nM1 nS1 es1 endM1 endS1 fin1 done1 e1
  exact Dev.Keeps.ite h (h.upd (img := nofun))

/-- What `Dev.trackFrame` may write. -/
abbrev Dev.trackFrameScope : Dev.Scope := { img := true }

theorem Dev.Keeps.trackFrame {w : Dev.Scope} {d₀ d : Dev} {f : Frame} (h : Dev.Keeps w d₀ d)
    (hw : Dev.trackFrameScope.le w = true := by decide) : Dev.Keeps w d₀ (d.trackFrame f) := by
  refine h.step hw ?_
  have h : Dev.Keeps Dev.trackFrameScope d d := .refl
  unfold Dev.trackFrame
  extract_lets sh1 ds1 runs1 es1
  exact Dev.Keeps.ite h h.setEls

/-- What `Dev.swardAfter` may write. -/
abbrev Dev.swardAfterScope : Dev.Scope := { img := true, regs := [R.IMG_STATUS, R.IMG_NODES, R.IMG_COUNTS, R.IMG_SWTIME] }

theorem Dev.Keeps.swardAfter {w : Dev.Scope} {d₀ d : Dev} {f : Frame} {rs : Bool × Bool} (h : Dev.Keeps w d₀ d)
    (hw : Dev.swardAfterScope.le w = true := by decide) : Dev.Keeps w d₀ (d.swardAfter f rs) := by
  refine h.step hw ?_
  have h : Dev.Keeps Dev.swardAfterScope d d := .refl
  unfold Dev.swardAfter
  extract_lets old1
  exact h.trackFrame.keptFrame.negFrame

/-- What `Dev.groupsFrame` may write. -/
abbrev Dev.groupsFrameScope : Dev.Scope := { img := true, regs := [R.IMG_STATUS, R.IMG_NODES, R.IMG_SWTIME] }

theorem Dev.Keeps.groupsFrame {w : Dev.Scope} {d₀ d : Dev} {ks : List (Nat × List (Nat × Nat))} {ups : List Nat} {rs : Bool × Bool} (h : Dev.Keeps w d₀ d)
    (hw : Dev.groupsFrameScope.le w = true := by decide) : Dev.Keeps w d₀ (d.groupsFrame ks ups rs) := by
  refine h.step hw ?_
  have h : Dev.Keeps Dev.groupsFrameScope d d := .refl
  unfold Dev.groupsFrame
  extract_lets gs1 step1 es1 e1 d1
  have hd1 : Dev.Keeps Dev.groupsFrameScope d d1 := h.upd (img := nofun)
  exact Dev.Keeps.ite h hd1.regroup

/-- What `Dev.contactFrame` may write. -/
abbrev Dev.contactFrameScope : Dev.Scope := { img := true, ct := true, cl := true, regs := [R.IMG_COUNTS2, R.CT_STATUS, R.CT_NEXTID, R.CT_RGOCC, R.CT_COUNTS] }

theorem Dev.Keeps.contactFrame {w : Dev.Scope} {d₀ d : Dev} {f : Frame} {stop : Bool} (h : Dev.Keeps w d₀ d)
    (hw : Dev.contactFrameScope.le w = true := by decide) : Dev.Keeps w d₀ (d.contactFrame f stop).1 := by
  refine h.step hw ?_
  have h : Dev.Keeps Dev.contactFrameScope d d := .refl
  unfold Dev.contactFrame
  extract_lets g1 cs1 idx1 olds1 pr1 palm1 cs2 stay1 gone1 blobs1 goneR1 left1 slots1
  split
  · extract_lets d1 d2 lim1 abs1 due1 ends1 kept1 d3 d4 d5 all1 ups1
    have hd1 : Dev.Keeps Dev.contactFrameScope d d1 := Dev.Keeps.ite h.inc h
    have hd2 : Dev.Keeps Dev.contactFrameScope d d2 := hd1.satAdd
    have hd3 : Dev.Keeps Dev.contactFrameScope d d3 := hd2.satAdd
    have hd4 : Dev.Keeps Dev.contactFrameScope d d4 := hd3.satAdd
    have hd5 : Dev.Keeps Dev.contactFrameScope d d5 := Dev.Keeps.foldl (fun _ _ h6 => h6.rebase) hd4
    split
    · extract_lets d6 live1 stops1 recs1 endedAll1 final1 e1 e2 d7
      have hd6 : Dev.Keeps Dev.contactFrameScope d d6 := hd5.put
      have hd7 : Dev.Keeps Dev.contactFrameScope d d7 := hd6.upd (img := nofun) (ct := nofun)
      exact hd7.ctRegs

/-- What `Dev.gorseFrame` may write. -/
abbrev Dev.gorseFrameScope : Dev.Scope := { ct := true }

theorem Dev.Keeps.gorseFrame {w : Dev.Scope} {d₀ d : Dev} {f : Frame} (h : Dev.Keeps w d₀ d)
    (hw : Dev.gorseFrameScope.le w = true := by decide) : Dev.Keeps w d₀ (d.gorseFrame f) := by
  refine h.step hw ?_
  have h : Dev.Keeps Dev.gorseFrameScope d d := .refl
  unfold Dev.gorseFrame
  extract_lets e1 n1 due1 g1 n2 due2
  exact Dev.Keeps.ite (h.upd (ct := nofun)) (Dev.Keeps.ite (h.upd (ct := nofun)) (h.upd (ct := nofun)))

/-- What `Dev.rejectFrame` may write. -/
abbrev Dev.rejectFrameScope : Dev.Scope := { img := true, cl := true }

theorem Dev.Keeps.rejectFrame {w : Dev.Scope} {d₀ d : Dev}  (h : Dev.Keeps w d₀ d)
    (hw : Dev.rejectFrameScope.le w = true := by decide) : Dev.Keeps w d₀ (d.rejectFrame) := by
  refine h.step hw ?_
  have h : Dev.Keeps Dev.rejectFrameScope d d := .refl
  unfold Dev.rejectFrame
  extract_lets e1 e2
  have he1 : Dev.Keeps Dev.rejectFrameScope d e1 := h.reformAsk
  exact Dev.Keeps.ite (he1.upd (cl := nofun)) h

/-- What `Dev.swardRest` may write. -/
abbrev Dev.swardRestScope : Dev.Scope := { img := true, regs := [R.IMG_STATUS, R.IMG_NODES, R.IMG_COUNTS, R.IMG_SWTIME] }

theorem Dev.Keeps.swardRest {w : Dev.Scope} {d₀ d : Dev} {f : Frame} {ended : List (Contact × Nat)} {rs : Bool × Bool} (h : Dev.Keeps w d₀ d)
    (hw : Dev.swardRestScope.le w = true := by decide) : Dev.Keeps w d₀ (d.swardRest f ended rs) := by
  refine h.step hw ?_
  have h : Dev.Keeps Dev.swardRestScope d d := .refl
  unfold Dev.swardRest
  exact h.groupsFrame.swardAfter

/-- What `Dev.touchFrame` may write. -/
abbrev Dev.touchFrameScope : Dev.Scope := { mem := true, ring := true, regs := [R.HP_ATTN, R.XR_ECCSB, R.XR_ECCDB, R.RQ_PI, R.RQ_CI, R.RQ_SEQX, R.RQ_LOST, R.RQ_STATUS] }

theorem Dev.Keeps.touchFrame {w : Dev.Scope} {d₀ d : Dev} {f : Frame} {recs : List (List Byte)} (h : Dev.Keeps w d₀ d)
    (hw : Dev.touchFrameScope.le w = true := by decide) : Dev.Keeps w d₀ (d.touchFrame f recs) := by
  refine h.step hw ?_
  have h : Dev.Keeps Dev.touchFrameScope d d := .refl
  unfold Dev.touchFrame
  exact Dev.Keeps.ite h h.touch

/-- What `Dev.stageOffs` may write. -/
abbrev Dev.stageOffsScope : Dev.Scope := { staged := true, fams := [(0x440, 4)] }

theorem Dev.Keeps.stageOffs {w : Dev.Scope} {d₀ d : Dev} {v : CalVals} (h : Dev.Keeps w d₀ d)
    (hw : Dev.stageOffsScope.le w = true := by decide) : Dev.Keeps w d₀ (d.stageOffs v) := by
  refine h.step hw ?_
  have h : Dev.Keeps Dev.stageOffsScope d d := .refl
  unfold Dev.stageOffs
  exact Dev.Keeps.foldl (fun _ _ h2 => h2.stage rfl (Dev.Scope.has_fam 0x440 4 _)) h

/-- What `Dev.calResult` may write. -/
abbrev Dev.calResultScope : Dev.Scope := { staged := true, mem := true, cal := true, ring := true, flt := true, regs := [R.CAL_STATUS, R.CAL_REASON, R.CAL_SIGMA, R.SEQ_EVPEND, R.HP_ATTN, R.XR_ECCSB, R.XR_ECCDB, R.RQ_PI, R.RQ_CI, R.RQ_SEQX, R.RQ_LOST, R.RQ_STATUS, R.FLT_LOG, R.FLT_LAST, R.FLT_WOPEN], fams := [(0x440, 4), (0x44c0, 4)] }

theorem Dev.Keeps.calResult {w : Dev.Scope} {d₀ d : Dev} {t : CalTouch} {v : CalVals} (h : Dev.Keeps w d₀ d)
    (hw : Dev.calResultScope.le w = true := by decide) : Dev.Keeps w d₀ (d.calResult t v) := by
  refine h.step hw ?_
  have h : Dev.Keeps Dev.calResultScope d d := .refl
  unfold Dev.calResult
  extract_lets d1 d2 d3 late1 e1 d4 d5 tag1 d6
  have hd1 : Dev.Keeps Dev.calResultScope d d1 := h.put.put.put
  have hd2 : Dev.Keeps Dev.calResultScope d d2 := hd1.put
  have hd3 : Dev.Keeps Dev.calResultScope d d3 := Dev.Keeps.ite hd2.put.put hd2
  have hd4 : Dev.Keeps Dev.calResultScope d d4 := (hd3.upd (cal := nofun)).stageOffs
  have hd5 : Dev.Keeps Dev.calResultScope d d5 := hd4.calReason
  have hd6 : Dev.Keeps Dev.calResultScope d d6 := hd5.report
  split
  · exact h.calFail
  · exact hd6.endAsyncs

/-- What `Dev.calPassEnd` may write. -/
abbrev Dev.calPassEndScope : Dev.Scope := { staged := true, mem := true, cal := true, ring := true, flt := true, regs := [R.CAL_STATUS, R.CAL_REASON, R.CAL_SIGMA, R.SEQ_EVPEND, R.HP_ATTN, R.XR_ECCSB, R.XR_ECCDB, R.RQ_PI, R.RQ_CI, R.RQ_SEQX, R.RQ_LOST, R.RQ_STATUS, R.FLT_LOG, R.FLT_LAST, R.FLT_WOPEN], fams := [(0x44c0, 4), (0x440, 4)] }

theorem Dev.Keeps.calPassEnd {w : Dev.Scope} {d₀ d : Dev} {t : CalTouch} (h : Dev.Keeps w d₀ d)
    (hw : Dev.calPassEndScope.le w = true := by decide) : Dev.Keeps w d₀ (d.calPassEnd t) := by
  refine h.step hw ?_
  have h : Dev.Keeps Dev.calPassEndScope d d := .refl
  unfold Dev.calPassEnd
  extract_lets un1 late1 v1 d1 t1 e1
  have hd1 : Dev.Keeps Dev.calPassEndScope d d1 := h.put
  split
  · exact h.calFail
  · split
    · exact h.calFail
    · split
      · split
        · exact hd1.upd (cal := nofun)
        · split
          · exact Dev.Keeps.ite h.calResult h.calFail
          · exact h.calResult
      · exact h.calResult

/-- What `Dev.calFrame` may write. -/
abbrev Dev.calFrameScope : Dev.Scope := { staged := true, mem := true, cal := true, ring := true, flt := true, regs := [R.CAL_STATUS, R.CAL_REASON, R.CAL_SIGMA, R.SEQ_EVPEND, R.HP_ATTN, R.XR_ECCSB, R.XR_ECCDB, R.RQ_PI, R.RQ_CI, R.RQ_SEQX, R.RQ_LOST, R.RQ_STATUS, R.FLT_LOG, R.FLT_LAST, R.FLT_WOPEN], fams := [(0x44c0, 4), (0x440, 4)] }

theorem Dev.Keeps.calFrame {w : Dev.Scope} {d₀ d : Dev} {f : Frame} (h : Dev.Keeps w d₀ d)
    (hw : Dev.calFrameScope.le w = true := by decide) : Dev.Keeps w d₀ (d.calFrame f) := by
  refine h.step hw ?_
  have h : Dev.Keeps Dev.calFrameScope d d := .refl
  unfold Dev.calFrame
  split
  · exact h
  · refine Dev.Keeps.calSpan h ?_
    intro d' hd1'
    extract_lets t1 e1 d1
    have hd1 : Dev.Keeps Dev.calFrameScope d d1 := hd1'.upd (cal := nofun)
    exact Dev.Keeps.ite hd1.calPassEnd hd1

/-- What `Dev.supDrop` may write. -/
abbrev Dev.supDropScope : Dev.Scope := { flt := true }

theorem Dev.Keeps.supDrop {w : Dev.Scope} {d₀ d : Dev} {n : Nat} (h : Dev.Keeps w d₀ d)
    (hw : Dev.supDropScope.le w = true := by decide) : Dev.Keeps w d₀ (d.supDrop n) := by
  refine h.step hw ?_
  have h : Dev.Keeps Dev.supDropScope d d := .refl
  unfold Dev.supDrop
  extract_lets e1
  exact Dev.Keeps.ite h (h.upd (flt := nofun))

/-- What `Dev.openAxis` may write. -/
abbrev Dev.openAxisScope : Dev.Scope := { freeCount := true, staged := true, mem := true, tick := true, acq := true, hop := true, img := true, ct := true, aux := true, cal := true, seq := true, panel := true, hp := true, ring := true, cl := true, pp := true, pwr := true, flt := true, regs := [R.SYS_CTRL, R.SYS_STATUS, R.SYS_REASON, R.SYS_HALT_INFO, R.ACQ_STATUS, R.ACQ_OPENMAP0, R.ACQ_OPENMAP1, R.HOP_STATUS, R.CAL_STATUS, R.CAL_REASON, R.SEQ_STATUS, R.SEQ_EVPEND, R.GPIO_STATUS, R.GPIO_SWAPST, R.HP_ATTN, R.XR_ECCSB, R.XR_ECCDB, R.RQ_PI, R.RQ_CI, R.RQ_SEQX, R.RQ_LOST, R.RQ_STATUS, R.PP_STATUS, R.PP_COUNTS2, R.PWR_ON, R.PWR_RES, R.PWR_DST0, R.PWR_DST1, R.PWR_WSRC, R.FLT_LOG, R.FLT_LAST, R.FLT_WOPEN], fams := [(0x3ce0, 4), (0x1818, 32), (0x1820, 32), (0x44c0, 4)] }

theorem Dev.Keeps.openAxis {w : Dev.Scope} {d₀ d : Dev} {meds : List (Nat × Int)} (h : Dev.Keeps w d₀ d)
    (hw : Dev.openAxisScope.le w = true := by decide) : Dev.Keeps w d₀ (d.openAxis meds) := by
  refine h.step hw ?_
  have h : Dev.Keeps Dev.openAxisScope d d := .refl
  unfold Dev.openAxis
  extract_lets ref1 pct1
  refine Dev.Keeps.foldl ?_ h
  intro d' x hd1'
  split
  · extract_lets n1 put1 d1 e1 d2 d3
    have hput1 : ∀ x0 x1, Dev.Keeps Dev.openAxisScope d x0 → Dev.Keeps Dev.openAxisScope d (put1 x0 x1) := fun _ _ h3 => h3.upd (acq := nofun)
    have hd1 : Dev.Keeps Dev.openAxisScope d d1 := hput1 _ _ hd1'.supDrop
    have hd2 : Dev.Keeps Dev.openAxisScope d d2 := hd1.upd (acq := nofun)
    have hd3 : Dev.Keeps Dev.openAxisScope d d3 := Dev.Keeps.ite hd2.put hd2.put
    exact Dev.Keeps.ite hd1' (Dev.Keeps.ite hd3.raise (hput1 _ _ hd1'))

/-- What `Dev.openFrame` may write. -/
abbrev Dev.openFrameScope : Dev.Scope := { freeCount := true, staged := true, mem := true, tick := true, acq := true, hop := true, img := true, ct := true, aux := true, cal := true, seq := true, panel := true, hp := true, ring := true, cl := true, pp := true, pwr := true, flt := true, regs := [R.SYS_CTRL, R.SYS_STATUS, R.SYS_REASON, R.SYS_HALT_INFO, R.ACQ_STATUS, R.ACQ_OPENMAP0, R.ACQ_OPENMAP1, R.HOP_STATUS, R.CAL_STATUS, R.CAL_REASON, R.SEQ_STATUS, R.SEQ_EVPEND, R.GPIO_STATUS, R.GPIO_SWAPST, R.HP_ATTN, R.XR_ECCSB, R.XR_ECCDB, R.RQ_PI, R.RQ_CI, R.RQ_SEQX, R.RQ_LOST, R.RQ_STATUS, R.PP_STATUS, R.PP_COUNTS2, R.PWR_ON, R.PWR_RES, R.PWR_DST0, R.PWR_DST1, R.PWR_WSRC, R.FLT_LOG, R.FLT_LAST, R.FLT_WOPEN], fams := [(0x3ce0, 4), (0x1818, 32), (0x1820, 32), (0x44c0, 4)] }

theorem Dev.Keeps.openFrame {w : Dev.Scope} {d₀ d : Dev} {f : Frame} (h : Dev.Keeps w d₀ d)
    (hw : Dev.openFrameScope.le w = true := by decide) : Dev.Keeps w d₀ (d.openFrame f) := by
  refine h.step hw ?_
  have h : Dev.Keeps Dev.openFrameScope d d := .refl
  unfold Dev.openFrame
  extract_lets nodes1 med1 cols1 rows1
  exact Dev.Keeps.ite h h.openAxis.openAxis

/-- What `Dev.reportWait` may write. -/
abbrev Dev.reportWaitScope : Dev.Scope := { mem := true, ring := true, regs := [R.HP_ATTN, R.XR_ECCSB, R.XR_ECCDB, R.RQ_PI, R.RQ_CI, R.RQ_SEQX, R.RQ_LOST, R.RQ_STATUS] }

theorem Dev.Keeps.reportWait {w : Dev.Scope} {d₀ d : Dev} {r : Report} (h : Dev.Keeps w d₀ d)
    (hw : Dev.reportWaitScope.le w = true := by decide) : Dev.Keeps w d₀ (d.reportWait r) := by
  refine h.step hw ?_
  have h : Dev.Keeps Dev.reportWaitScope d d := .refl
  unfold Dev.reportWait
  extract_lets e1
  exact Dev.Keeps.ite h.report (h.upd (ring := nofun))

/-- What `Dev.dumpChunks` may write. -/
abbrev Dev.dumpChunksScope : Dev.Scope := { mem := true, ring := true, regs := [R.HP_ATTN, R.XR_ECCSB, R.XR_ECCDB, R.RQ_PI, R.RQ_CI, R.RQ_SEQX, R.RQ_STATUS, R.RQ_LOST] }

theorem Dev.Keeps.dumpChunks {w : Dev.Scope} {d₀ d : Dev} {u : Dump} {fr m first : Nat} {lf : Bool} {n : Nat}
    {els : List (Int × Bool)} (h : Dev.Keeps w d₀ d) (hw : Dev.dumpChunksScope.le w = true := by decide) :
    Dev.Keeps w d₀ (d.dumpChunks u fr m first lf n els) := by
  refine h.step hw ?_
  suffices ∀ e first els, Dev.Keeps Dev.dumpChunksScope d e →
      Dev.Keeps Dev.dumpChunksScope d (e.dumpChunks u fr m first lf n els) from this d first els .refl
  induction n with
  | zero => exact fun e first els he => he
  | succ n ih =>
    intro e first els he
    unfold Dev.dumpChunks
    exact .ite he.reportWait (ih _ _ _ he.reportWait)

/-- What `Dev.endAsyncAfter` may write. -/
abbrev Dev.endAsyncAfterScope : Dev.Scope := { mem := true, ring := true, regs := [R.HP_ATTN, R.RQ_PI, R.RQ_SEQX, R.RQ_STATUS] }

theorem Dev.Keeps.endAsyncAfter {w : Dev.Scope} {d₀ d : Dev} {a : Async} {status : Nat} {detail : Nat} (h : Dev.Keeps w d₀ d)
    (hw : Dev.endAsyncAfterScope.le w = true := by decide) : Dev.Keeps w d₀ (d.endAsyncAfter a status detail) := by
  refine h.step hw ?_
  have h : Dev.Keeps Dev.endAsyncAfterScope d d := .refl
  unfold Dev.endAsyncAfter
  extract_lets e1
  exact Dev.Keeps.ite h.endAsync (h.upd (ring := nofun))

/-- What `Dev.dumpFrame` may write. -/
abbrev Dev.dumpFrameScope : Dev.Scope := { mem := true, img := true, ring := true, regs := [R.HP_ATTN, R.XR_ECCSB, R.XR_ECCDB, R.RQ_PI, R.RQ_CI, R.RQ_SEQX, R.RQ_LOST, R.RQ_STATUS] }

theorem Dev.Keeps.dumpFrame {w : Dev.Scope} {d₀ d : Dev} {f : Frame} (h : Dev.Keeps w d₀ d)
    (hw : Dev.dumpFrameScope.le w = true := by decide) : Dev.Keeps w d₀ (d.dumpFrame f) := by
  refine h.step hw ?_
  have h : Dev.Keeps Dev.dumpFrameScope d d := .refl
  unfold Dev.dumpFrame
  extract_lets m1
  split
  · exact h
  · extract_lets els1 last1 d1 e1 d2
    have hd1 : Dev.Keeps Dev.dumpFrameScope d d1 := h.dumpChunks
    have hd2 : Dev.Keeps Dev.dumpFrameScope d d2 := hd1.upd (img := nofun)
    exact Dev.Keeps.ite h (Dev.Keeps.ite (Dev.Keeps.foldl (fun _ _ h4 => h4.endAsyncAfter) hd2) hd2)

/-- What `Dev.imgTime` may write. -/
abbrev Dev.imgTimeScope : Dev.Scope := { regs := [R.TICK_IMGTIME] }

theorem Dev.Keeps.imgTime {w : Dev.Scope} {d₀ d : Dev} {f : Frame} (h : Dev.Keeps w d₀ d)
    (hw : Dev.imgTimeScope.le w = true := by decide) : Dev.Keeps w d₀ (d.imgTime f) := by
  refine h.step hw ?_
  have h : Dev.Keeps Dev.imgTimeScope d d := .refl
  unfold Dev.imgTime
  extract_lets n1 d1
  have hd1 : Dev.Keeps Dev.imgTimeScope d d1 := h.put
  exact Dev.Keeps.ite hd1.put hd1

/-- What `Dev.raiseFrame` may write. -/
abbrev Dev.raiseFrameScope : Dev.Scope := { seq := true }

theorem Dev.Keeps.raiseFrame {w : Dev.Scope} {d₀ d : Dev}  (h : Dev.Keeps w d₀ d)
    (hw : Dev.raiseFrameScope.le w = true := by decide) : Dev.Keeps w d₀ (d.raiseFrame) := by
  refine h.step hw ?_
  have h : Dev.Keeps Dev.raiseFrameScope d d := .refl
  unfold Dev.raiseFrame
  extract_lets e1
  exact Dev.Keeps.ite (h.upd (seq := nofun)) h

/-- What `Dev.groupQuiet` may write. -/
abbrev Dev.groupQuietScope : Dev.Scope := { img := true }

theorem Dev.Keeps.groupQuiet {w : Dev.Scope} {d₀ d : Dev} {k : Nat} (h : Dev.Keeps w d₀ d)
    (hw : Dev.groupQuietScope.le w = true := by decide) : Dev.Keeps w d₀ (d.groupQuiet k) := by
  refine h.step hw ?_
  have h : Dev.Keeps Dev.groupQuietScope d d := .refl
  unfold Dev.groupQuiet
  extract_lets e1
  exact h.upd (img := nofun)

/-- What `Dev.elShorted` may write. -/
abbrev Dev.elShortedScope : Dev.Scope := { freeCount := true, staged := true, mem := true, tick := true, acq := true, hop := true, img := true, ct := true, aux := true, cal := true, seq := true, panel := true, hp := true, ring := true, cl := true, pp := true, pwr := true, flt := true, regs := [R.SYS_CTRL, R.SYS_STATUS, R.SYS_REASON, R.SYS_HALT_INFO, R.ACQ_STATUS, R.ACQ_SHORTMAP0, R.ACQ_SHORTMAP1, R.HOP_STATUS, R.CAL_STATUS, R.CAL_REASON, R.SEQ_STATUS, R.SEQ_EVPEND, R.GPIO_STATUS, R.GPIO_SWAPST, R.HP_ATTN, R.XR_ECCSB, R.XR_ECCDB, R.RQ_PI, R.RQ_CI, R.RQ_SEQX, R.RQ_LOST, R.RQ_STATUS, R.PP_STATUS, R.PP_COUNTS2, R.PWR_ON, R.PWR_RES, R.PWR_DST0, R.PWR_DST1, R.PWR_WSRC, R.FLT_LOG, R.FLT_LAST, R.FLT_WOPEN], fams := [(0x3ce0, 4), (0x1818, 32), (0x1820, 32), (0x44c0, 4)] }

theorem Dev.Keeps.elShorted {w : Dev.Scope} {d₀ d : Dev} {n : Nat} (h : Dev.Keeps w d₀ d)
    (hw : Dev.elShortedScope.le w = true := by decide) : Dev.Keeps w d₀ (d.elShorted n) := by
  refine h.step hw ?_
  have h : Dev.Keeps Dev.elShortedScope d d := .refl
  unfold Dev.elShorted
  extract_lets e1 e2 d1
  have he1 : Dev.Keeps Dev.elShortedScope d e1 := h.supDrop
  have hd1 : Dev.Keeps Dev.elShortedScope d d1 := he1.upd (acq := nofun)
  exact Dev.Keeps.ite h hd1.putBit.raise

/-- What `Dev.checkLeft` may write. -/
abbrev Dev.checkLeftScope : Dev.Scope := { freeCount := true, staged := true, mem := true, tick := true, acq := true, hop := true, img := true, ct := true, aux := true, cal := true, seq := true, panel := true, hp := true, ring := true, cl := true, pp := true, pwr := true, flt := true, regs := [R.SYS_CTRL, R.SYS_STATUS, R.SYS_REASON, R.SYS_HALT_INFO, R.ACQ_STATUS, R.HOP_STATUS, R.AUX_COUNTS, R.CAL_STATUS, R.CAL_REASON, R.CAL_COUNT0, R.CAL_COUNT1, R.SEQ_STATUS, R.SEQ_EVPEND, R.GPIO_STATUS, R.GPIO_SWAPST, R.HP_ATTN, R.XR_ECCSB, R.XR_ECCDB, R.RQ_PI, R.RQ_CI, R.RQ_SEQX, R.RQ_LOST, R.RQ_STATUS, R.PP_STATUS, R.PP_COUNTS2, R.PWR_ON, R.PWR_RES, R.PWR_DST0, R.PWR_DST1, R.PWR_WSRC, R.FLT_LOG, R.FLT_LAST, R.FLT_WOPEN], fams := [(0x1818, 32), (0x1820, 32), (0x3ce0, 4), (0x44c0, 4), (0x1c58, 8), (0x1c5c, 8), (0x1c30, 8), (0x1c34, 8)] }

theorem Dev.Keeps.checkLeft {w : Dev.Scope} {d₀ d : Dev} {was : Nat} (h : Dev.Keeps w d₀ d)
    (hw : Dev.checkLeftScope.le w = true := by decide) : Dev.Keeps w d₀ (d.checkLeft was) := by
  refine h.step hw ?_
  have h : Dev.Keeps Dev.checkLeftScope d d := .refl
  unfold Dev.checkLeft
  exact Dev.Keeps.ite h.domRelease h

/-- What `Dev.vhvFault` may write. -/
abbrev Dev.vhvFaultScope : Dev.Scope := { freeCount := true, staged := true, mem := true, tick := true, acq := true, hop := true, img := true, ct := true, aux := true, cal := true, seq := true, panel := true, hp := true, ring := true, cl := true, pp := true, pwr := true, flt := true, regs := [R.SYS_CTRL, R.SYS_STATUS, R.SYS_REASON, R.SYS_HALT_INFO, R.ACQ_STATUS, R.HOP_STATUS, R.AUX_COUNTS, R.CAL_STATUS, R.CAL_REASON, R.CAL_COUNT0, R.CAL_COUNT1, R.SEQ_STATUS, R.SEQ_EVPEND, R.GPIO_STATUS, R.GPIO_SWAPST, R.HP_ATTN, R.XR_ECCSB, R.XR_ECCDB, R.RQ_PI, R.RQ_CI, R.RQ_SEQX, R.RQ_LOST, R.RQ_STATUS, R.PP_STATUS, R.PP_COUNTS2, R.PWR_ON, R.PWR_RES, R.PWR_DST0, R.PWR_DST1, R.PWR_WSRC, R.FLT_LOG, R.FLT_LAST, R.FLT_WOPEN], fams := [(0x1818, 32), (0x1820, 32), (0x3ce0, 4), (0x44c0, 4), (0x1c58, 8), (0x1c5c, 8), (0x1c30, 8), (0x1c34, 8)] }

theorem Dev.Keeps.vhvFault {w : Dev.Scope} {d₀ d : Dev}  (h : Dev.Keeps w d₀ d)
    (hw : Dev.vhvFaultScope.le w = true := by decide) : Dev.Keeps w d₀ (d.vhvFault) := by
  refine h.step hw ?_
  have h : Dev.Keeps Dev.vhvFaultScope d d := .refl
  unfold Dev.vhvFault
  extract_lets e1 e2
  have he1 : Dev.Keeps Dev.vhvFaultScope d e1 := h.put
  exact Dev.Keeps.ite (((he1.upd (acq := nofun)).raise).checkLeft) h

/-- What `Dev.seqStopped` may write. -/
abbrev Dev.seqStoppedScope : Dev.Scope := { freeCount := true, staged := true, mem := true, tick := true, acq := true, hop := true, img := true, ct := true, aux := true, cal := true, seq := true, panel := true, hp := true, ring := true, cl := true, pp := true, pwr := true, flt := true, regs := [R.SYS_CTRL, R.SYS_STATUS, R.SYS_REASON, R.SYS_HALT_INFO, R.ACQ_STATUS, R.HOP_STATUS, R.CAL_STATUS, R.CAL_REASON, R.SEQ_STATUS, R.SEQ_EVPEND, R.SEQ_FAULT, R.SEQ_FADDR, R.SEQ_HALT, R.SEQ_COUNTS, R.GPIO_STATUS, R.GPIO_SWAPST, R.HP_ATTN, R.XR_ECCSB, R.XR_ECCDB, R.RQ_PI, R.RQ_CI, R.RQ_SEQX, R.RQ_LOST, R.RQ_STATUS, R.PP_STATUS, R.PP_COUNTS2, R.PWR_ON, R.PWR_RES, R.PWR_DST0, R.PWR_DST1, R.PWR_WSRC, R.FLT_LOG, R.FLT_LAST, R.FLT_WOPEN], fams := [(0x3ce0, 4), (0x1818, 32), (0x1820, 32), (0x44c0, 4)] }

theorem Dev.Keeps.seqStopped {w : Dev.Scope} {d₀ d : Dev} {entry : Nat} {n : Nat} {a : Nat} (h : Dev.Keeps w d₀ d)
    (hw : Dev.seqStoppedScope.le w = true := by decide) : Dev.Keeps w d₀ (d.seqStopped entry n a) := by
  refine h.step hw ?_
  have h : Dev.Keeps Dev.seqStoppedScope d d := .refl
  unfold Dev.seqStopped
  extract_lets d1
  have hd1 : Dev.Keeps Dev.seqStoppedScope d d1 := h.put.seqCount
  exact Dev.Keeps.ite hd1.seqDone hd1.put

/-- What `Dev.setG` may write. -/
abbrev Dev.setGScope : Dev.Scope := { seq := true }

theorem Dev.Keeps.setG {w : Dev.Scope} {d₀ d : Dev} {n : BitVec 4} {v : Word} (h : Dev.Keeps w d₀ d)
    (hw : Dev.setGScope.le w = true := by decide) : Dev.Keeps w d₀ (d.setG n v) := by
  refine h.step hw ?_
  have h : Dev.Keeps Dev.setGScope d d := .refl
  unfold Dev.setG
  extract_lets e1
  exact Dev.Keeps.ite h (h.upd (seq := nofun))

/-- What `Dev.aluWrite` may write. -/
abbrev Dev.aluWriteScope : Dev.Scope := { seq := true }

theorem Dev.Keeps.aluWrite {w : Dev.Scope} {d₀ d : Dev} {s : Bool} {rd : BitVec 4} {x : AluRes} (h : Dev.Keeps w d₀ d)
    (hw : Dev.aluWriteScope.le w = true := by decide) : Dev.Keeps w d₀ (d.aluWrite s rd x) := by
  refine h.step hw ?_
  have h : Dev.Keeps Dev.aluWriteScope d d := .refl
  unfold Dev.aluWrite
  extract_lets d1 e1
  have hd1 : Dev.Keeps Dev.aluWriteScope d d1 := h.setG
  exact Dev.Keeps.ite (hd1.upd (seq := nofun)) hd1

/-- What `Dev.xramCost` may write. -/
abbrev Dev.xramCostScope : Dev.Scope := { freeCount := true }

theorem Dev.Keeps.xramCost {w : Dev.Scope} {d₀ d : Dev} {o : Nat} (h : Dev.Keeps w d₀ d)
    (hw : Dev.xramCostScope.le w = true := by decide) : Dev.Keeps w d₀ (d.xramCost o).2 := by
  refine h.step hw ?_
  have h : Dev.Keeps Dev.xramCostScope d d := .refl
  unfold Dev.xramCost
  extract_lets s1 r1
  exact h.upd (freeCount := nofun)

/-- What `Dev.seqLoad` may write. -/
abbrev Dev.seqLoadScope : Dev.Scope := { freeCount := true, staged := true, mem := true, tick := true, acq := true, hop := true, img := true, ct := true, aux := true, cal := true, seq := true, panel := true, hp := true, ring := true, cl := true, pp := true, pwr := true, flt := true, regs := [R.SYS_CTRL, R.SYS_STATUS, R.SYS_REASON, R.SYS_HALT_INFO, R.ACQ_STATUS, R.HOP_STATUS, R.CAL_STATUS, R.CAL_REASON, R.SEQ_STATUS, R.SEQ_EVPEND, R.GPIO_STATUS, R.GPIO_SWAPST, R.HP_ATTN, R.XR_ECCSB, R.XR_ECCDB, R.RQ_PI, R.RQ_CI, R.RQ_SEQX, R.RQ_LOST, R.RQ_STATUS, R.PP_STATUS, R.PP_COUNTS2, R.PWR_ON, R.PWR_RES, R.PWR_DST0, R.PWR_DST1, R.PWR_WSRC, R.FLT_LOG, R.FLT_LAST, R.FLT_WOPEN], fams := [(0x3ce0, 4), (0x1818, 32), (0x1820, 32), (0x44c0, 4)] }

theorem Dev.Keeps.seqLoad {w : Dev.Scope} {d₀ d : Dev} {rd : BitVec 4} {rs : BitVec 4} {o : Op2} {width : Nat} {f : Nat → Word} (h : Dev.Keeps w d₀ d)
    (hw : Dev.seqLoadScope.le w = true := by decide) : Dev.Keeps w d₀ (d.seqLoad rd rs o width f).1 := by
  refine h.step hw ?_
  have h : Dev.Keeps Dev.seqLoadScope d d := .refl
  unfold Dev.seqLoad
  extract_lets a1 x1
  split
  · exact h
  · split
    · exact h.setG
    · split
      · rename_i q1 _ q1a _
        have hq1a : Dev.Keeps Dev.seqLoadScope d q1a := Dev.Keeps.of_snd ‹_› h.xramCost
        extract_lets bad1 v1 d1
        have hd1 : Dev.Keeps Dev.seqLoadScope d d1 := hq1a.eccTouch
        exact Dev.Keeps.ite_fst hd1 hd1.setG

/-- What `Dev.seqStore` may write. -/
abbrev Dev.seqStoreScope : Dev.Scope := { freeCount := true, staged := true, mem := true, tick := true, acq := true, hop := true, img := true, ct := true, aux := true, cal := true, seq := true, panel := true, hp := true, ring := true, cl := true, pp := true, pwr := true, flt := true, regs := [R.SYS_CTRL, R.SYS_STATUS, R.SYS_REASON, R.SYS_HALT_INFO, R.ACQ_STATUS, R.HOP_STATUS, R.CAL_STATUS, R.CAL_REASON, R.SEQ_STATUS, R.SEQ_EVPEND, R.GPIO_STATUS, R.GPIO_SWAPST, R.HP_ATTN, R.XR_ECCSB, R.XR_ECCDB, R.RQ_PI, R.RQ_CI, R.RQ_SEQX, R.RQ_LOST, R.RQ_STATUS, R.PP_STATUS, R.PP_COUNTS2, R.PWR_ON, R.PWR_RES, R.PWR_DST0, R.PWR_DST1, R.PWR_WSRC, R.FLT_LOG, R.FLT_LAST, R.FLT_WOPEN], fams := [(0x3ce0, 4), (0x1818, 32), (0x1820, 32), (0x44c0, 4)] }

theorem Dev.Keeps.seqStore {w : Dev.Scope} {d₀ d : Dev} {rd : BitVec 4} {rs : BitVec 4} {o : Op2} {width : Nat} (h : Dev.Keeps w d₀ d)
    (hw : Dev.seqStoreScope.le w = true := by decide) : Dev.Keeps w d₀ (d.seqStore rd rs o width).1 := by
  refine h.step hw ?_
  have h : Dev.Keeps Dev.seqStoreScope d d := .refl
  unfold Dev.seqStore
  extract_lets a1 bs1 e1 x1
  split
  · exact h
  · split
    · exact h.upd (mem := nofun)
    · split
      · rename_i q1 _ q1a _
        have hq1a : Dev.Keeps Dev.seqStoreScope d q1a := Dev.Keeps.of_snd ‹_› h.xramCost
        extract_lets bad1 d1
        have hd1 : Dev.Keeps Dev.seqStoreScope d d1 := hq1a.eccTouch
        exact Dev.Keeps.ite_fst hd1 hd1.xwrite

/-- What `Dev.auxLatch` may write. -/
abbrev Dev.auxLatchScope : Dev.Scope := { aux := true }

theorem Dev.Keeps.auxLatch {w : Dev.Scope} {d₀ d : Dev} {a1 : Bool} {n : Nat} (h : Dev.Keeps w d₀ d)
    (hw : Dev.auxLatchScope.le w = true := by decide) : Dev.Keeps w d₀ (d.auxLatch a1 n) := by
  refine h.step hw ?_
  have h : Dev.Keeps Dev.auxLatchScope d d := .refl
  unfold Dev.auxLatch
  extract_lets c1 l1
  exact h.setConv

/-- What `Dev.auxLatched` may write. -/
abbrev Dev.auxLatchedScope : Dev.Scope := { aux := true }

theorem Dev.Keeps.auxLatched {w : Dev.Scope} {d₀ d : Dev} {a1 : Bool} {ts : Bool} {n : Nat} (h : Dev.Keeps w d₀ d)
    (hw : Dev.auxLatchedScope.le w = true := by decide) : Dev.Keeps w d₀ (d.auxLatched a1 ts n).2 := by
  refine h.step hw ?_
  have h : Dev.Keeps Dev.auxLatchedScope d d := .refl
  unfold Dev.auxLatched
  extract_lets c1 l1 v1 l2
  exact h.setConv

/-- What `Dev.seqTbl` may write. -/
abbrev Dev.seqTblScope : Dev.Scope := { seq := true }

theorem Dev.Keeps.seqTbl {w : Dev.Scope} {d₀ d : Dev} {rd : BitVec 4} {rs : BitVec 4} {o : Op2} (h : Dev.Keeps w d₀ d)
    (hw : Dev.seqTblScope.le w = true := by decide) : Dev.Keeps w d₀ (d.seqTbl rd rs o).1 := by
  refine h.step hw ?_
  have h : Dev.Keeps Dev.seqTblScope d d := .refl
  unfold Dev.seqTbl
  extract_lets a1
  split
  · exact h.setG
  · exact h

/-- What `Dev.seqJump` may write. -/
abbrev Dev.seqJumpScope : Dev.Scope := { seq := true }

theorem Dev.Keeps.seqJump {w : Dev.Scope} {d₀ d : Dev} {link : Bool} {t : Nat} (h : Dev.Keeps w d₀ d)
    (hw : Dev.seqJumpScope.le w = true := by decide) : Dev.Keeps w d₀ (d.seqJump link t).1 := by
  refine h.step hw ?_
  have h : Dev.Keeps Dev.seqJumpScope d d := .refl
  unfold Dev.seqJump
  exact Dev.Keeps.ite h.setG h

/-- What `Dev.seqEvents` may write. -/
abbrev Dev.seqEventsScope : Dev.Scope := { seq := true }

theorem Dev.Keeps.seqEvents {w : Dev.Scope} {d₀ d : Dev} {rd : BitVec 4} {v : Nat} (h : Dev.Keeps w d₀ d)
    (hw : Dev.seqEventsScope.le w = true := by decide) : Dev.Keeps w d₀ (d.seqEvents rd v) := by
  refine h.step hw ?_
  have h : Dev.Keeps Dev.seqEventsScope d d := .refl
  unfold Dev.seqEvents
  extract_lets d1 e1
  have hd1 : Dev.Keeps Dev.seqEventsScope d d1 := h.setG
  exact hd1.upd (seq := nofun)

/-- What `Dev.seqWait` may write. -/
abbrev Dev.seqWaitScope : Dev.Scope := { seq := true, regs := [R.SEQ_STATUS] }

theorem Dev.Keeps.seqWait {w : Dev.Scope} {d₀ d : Dev} {rd : BitVec 4} {t : Word} {m : Word} (h : Dev.Keeps w d₀ d)
    (hw : Dev.seqWaitScope.le w = true := by decide) : Dev.Keeps w d₀ (d.seqWait rd t m).1 := by
  refine h.step hw ?_
  have h : Dev.Keeps Dev.seqWaitScope d d := .refl
  unfold Dev.seqWait
  extract_lets v1 T1 n1 e1 d1
  have hd1 : Dev.Keeps Dev.seqWaitScope d d1 := h.upd (seq := nofun)
  exact Dev.Keeps.ite_fst h.seqEvents hd1.put

/-- What `Dev.waitEnd` may write. -/
abbrev Dev.waitEndScope : Dev.Scope := { freeCount := true, staged := true, mem := true, tick := true, acq := true, hop := true, img := true, ct := true, aux := true, cal := true, seq := true, panel := true, hp := true, ring := true, cl := true, pp := true, pwr := true, flt := true, regs := [R.SYS_CTRL, R.SYS_STATUS, R.SYS_REASON, R.SYS_HALT_INFO, R.ACQ_STATUS, R.HOP_STATUS, R.CAL_STATUS, R.CAL_REASON, R.SEQ_STATUS, R.SEQ_EVPEND, R.SEQ_FAULT, R.SEQ_FADDR, R.SEQ_HALT, R.SEQ_COUNTS, R.GPIO_STATUS, R.GPIO_SWAPST, R.HP_ATTN, R.XR_ECCSB, R.XR_ECCDB, R.RQ_PI, R.RQ_CI, R.RQ_SEQX, R.RQ_LOST, R.RQ_STATUS, R.PP_STATUS, R.PP_COUNTS2, R.PWR_ON, R.PWR_RES, R.PWR_DST0, R.PWR_DST1, R.PWR_WSRC, R.FLT_LOG, R.FLT_LAST, R.FLT_WOPEN], fams := [(0x3ce0, 4), (0x1818, 32), (0x1820, 32), (0x44c0, 4)] }

theorem Dev.Keeps.waitEnd {w : Dev.Scope} {d₀ d : Dev}  (h : Dev.Keeps w d₀ d)
    (hw : Dev.waitEndScope.le w = true := by decide) : Dev.Keeps w d₀ (d.waitEnd) := by
  refine h.step hw ?_
  have h : Dev.Keeps Dev.waitEndScope d d := .refl
  unfold Dev.waitEnd
  split
  · exact h
  · extract_lets v1 d1 d2 e1 e2 d3
    have hd1 : Dev.Keeps Dev.waitEndScope d d1 := h.seqEvents
    have hd2 : Dev.Keeps Dev.waitEndScope d d2 := Dev.Keeps.ite hd1.inc hd1
    have he1 : Dev.Keeps Dev.waitEndScope d e1 := hd2.put
    have hd3 : Dev.Keeps Dev.waitEndScope d d3 := he1.upd (seq := nofun)
    exact Dev.Keeps.ite h (Dev.Keeps.ite h hd3.seqDone)

/-- What `Dev.evClear` may write. -/
abbrev Dev.evClearScope : Dev.Scope := { regs := [R.SEQ_EVPEND] }

theorem Dev.Keeps.evClear {w : Dev.Scope} {d₀ d : Dev} {v : Nat} (h : Dev.Keeps w d₀ d)
    (hw : Dev.evClearScope.le w = true := by decide) : Dev.Keeps w d₀ (d.evClear v) := by
  refine h.step hw ?_
  have h : Dev.Keeps Dev.evClearScope d d := .refl
  unfold Dev.evClear
  exact h.put

/-- What `Dev.resetReturned` may write. -/
abbrev Dev.resetReturnedScope : Dev.Scope := { sys := true, seq := true, regs := [R.SYS_CTRL, R.SYS_STATUS] }

theorem Dev.Keeps.resetReturned {w : Dev.Scope} {d₀ d : Dev}  (h : Dev.Keeps w d₀ d)
    (hw : Dev.resetReturnedScope.le w = true := by decide) : Dev.Keeps w d₀ (d.resetReturned) := by
  refine h.step hw ?_
  have h : Dev.Keeps Dev.resetReturnedScope d d := .refl
  unfold Dev.resetReturned
  extract_lets run1 e1 d1 d2 d3 e2 e3
  have hd1 : Dev.Keeps Dev.resetReturnedScope d d1 := h.upd (seq := nofun)
  have hd2 : Dev.Keeps Dev.resetReturnedScope d d2 := hd1.setSt
  have hd3 : Dev.Keeps Dev.resetReturnedScope d d3 := hd2.put.put
  have he2 : Dev.Keeps Dev.resetReturnedScope d e2 := hd3.setSt
  exact Dev.Keeps.ite (Dev.Keeps.ite (he2.upd (sys := nofun)) hd2) hd1

/-- What `Dev.seqEnd` may write. -/
abbrev Dev.seqEndScope : Dev.Scope := { sys := true, seq := true, panel := true, regs := [R.SYS_CTRL, R.SYS_STATUS, R.SEQ_STATUS] }

theorem Dev.Keeps.seqEnd {w : Dev.Scope} {d₀ d : Dev}  (h : Dev.Keeps w d₀ d)
    (hw : Dev.seqEndScope.le w = true := by decide) : Dev.Keeps w d₀ (d.seqEnd) := by
  refine h.step hw ?_
  have h : Dev.Keeps Dev.seqEndScope d d := .refl
  unfold Dev.seqEnd
  extract_lets e1 d1 e2 d2
  have hd1 : Dev.Keeps Dev.seqEndScope d d1 := h.put.put
  have hd2 : Dev.Keeps Dev.seqEndScope d d2 := Dev.Keeps.ite (hd1.upd (panel := nofun)) hd1
  exact Dev.Keeps.ite hd2.resetReturned hd2

/-- What `Dev.seqEndRun` may write. -/
abbrev Dev.seqEndRunScope : Dev.Scope := { sys := true, seq := true, panel := true, cl := true, regs := [R.SYS_CTRL, R.SYS_STATUS, R.SEQ_STATUS] }

theorem Dev.Keeps.seqEndRun {w : Dev.Scope} {d₀ d : Dev}  (h : Dev.Keeps w d₀ d)
    (hw : Dev.seqEndRunScope.le w = true := by decide) : Dev.Keeps w d₀ (d.seqEndRun) := by
  refine h.step hw ?_
  have h : Dev.Keeps Dev.seqEndRunScope d d := .refl
  unfold Dev.seqEndRun
  extract_lets d1
  have hd1 : Dev.Keeps Dev.seqEndRunScope d d1 := h.seqEnd
  exact Dev.Keeps.ite hd1.checkAsk hd1

/-- What `Dev.seqBrk` may write. -/
abbrev Dev.seqBrkScope : Dev.Scope := { seq := true, regs := [R.SEQ_STATUS, R.SEQ_BRKPC] }

theorem Dev.Keeps.seqBrk {w : Dev.Scope} {d₀ d : Dev}  (h : Dev.Keeps w d₀ d)
    (hw : Dev.seqBrkScope.le w = true := by decide) : Dev.Keeps w d₀ (d.seqBrk).1 := by
  refine h.step hw ?_
  have h : Dev.Keeps Dev.seqBrkScope d d := .refl
  unfold Dev.seqBrk
  extract_lets d1 e1
  have hd1 : Dev.Keeps Dev.seqBrkScope d d1 := h.put.put
  exact Dev.Keeps.ite_fst (hd1.upd (seq := nofun)) h

/-- What `Dev.seqIllegal` may write. -/
abbrev Dev.seqIllegalScope : Dev.Scope := { freeCount := true, staged := true, mem := true, tick := true, acq := true, hop := true, img := true, ct := true, aux := true, cal := true, seq := true, panel := true, hp := true, ring := true, cl := true, pp := true, pwr := true, flt := true, regs := [R.SYS_CTRL, R.SYS_STATUS, R.SYS_REASON, R.SYS_HALT_INFO, R.ACQ_STATUS, R.HOP_STATUS, R.CAL_STATUS, R.CAL_REASON, R.SEQ_STATUS, R.SEQ_EVPEND, R.SEQ_FAULT, R.SEQ_FADDR, R.SEQ_HALT, R.SEQ_COUNTS, R.GPIO_STATUS, R.GPIO_SWAPST, R.HP_ATTN, R.XR_ECCSB, R.XR_ECCDB, R.RQ_PI, R.RQ_CI, R.RQ_SEQX, R.RQ_LOST, R.RQ_STATUS, R.PP_STATUS, R.PP_COUNTS2, R.PWR_ON, R.PWR_RES, R.PWR_DST0, R.PWR_DST1, R.PWR_WSRC, R.FLT_LOG, R.FLT_LAST, R.FLT_WOPEN], fams := [(0x3ce0, 4), (0x1818, 32), (0x1820, 32), (0x44c0, 4)] }

theorem Dev.Keeps.seqIllegal {w : Dev.Scope} {d₀ d : Dev} {a1 : Word} (h : Dev.Keeps w d₀ d)
    (hw : Dev.seqIllegalScope.le w = true := by decide) : Dev.Keeps w d₀ (d.seqIllegal a1) := by
  refine h.step hw ?_
  have h : Dev.Keeps Dev.seqIllegalScope d d := .refl
  unfold Dev.seqIllegal
  exact Dev.Keeps.ite h.seqCount.seqFault h

/-- What `Dev.handlerStart` may write. -/
abbrev Dev.handlerStartScope : Dev.Scope := { freeCount := true, staged := true, mem := true, tick := true, acq := true, hop := true, img := true, ct := true, aux := true, cal := true, seq := true, panel := true, hp := true, ring := true, cl := true, pp := true, pwr := true, flt := true, regs := [R.SYS_CTRL, R.SYS_STATUS, R.SYS_REASON, R.SYS_HALT_INFO, R.ACQ_STATUS, R.HOP_STATUS, R.CAL_STATUS, R.CAL_REASON, R.SEQ_STATUS, R.SEQ_EVPEND, R.SEQ_FAULT, R.SEQ_FADDR, R.SEQ_HALT, R.SEQ_COUNTS, R.GPIO_STATUS, R.GPIO_SWAPST, R.HP_ATTN, R.XR_ECCSB, R.XR_ECCDB, R.RQ_PI, R.RQ_CI, R.RQ_SEQX, R.RQ_LOST, R.RQ_STATUS, R.PP_STATUS, R.PP_COUNTS2, R.PWR_ON, R.PWR_RES, R.PWR_DST0, R.PWR_DST1, R.PWR_WSRC, R.FLT_LOG, R.FLT_LAST, R.FLT_WOPEN], fams := [(0x3ce0, 4), (0x1818, 32), (0x1820, 32), (0x44c0, 4)] }

theorem Dev.Keeps.handlerStart {w : Dev.Scope} {d₀ d : Dev}  (h : Dev.Keeps w d₀ d)
    (hw : Dev.handlerStartScope.le w = true := by decide) : Dev.Keeps w d₀ (d.handlerStart) := by
  refine h.step hw ?_
  have h : Dev.Keeps Dev.handlerStartScope d d := .refl
  unfold Dev.handlerStart
  extract_lets q1
  split
  · exact h
  · split
    · exact h
    · extract_lets q2 d1
      have hd1 : Dev.Keeps Dev.handlerStartScope d d1 := ((h.upd (seq := nofun)).put).put
      exact hd1.seqGoto

/-- What `Dev.resetTimeout` may write. -/
abbrev Dev.resetTimeoutScope : Dev.Scope := { freeCount := true, staged := true, mem := true, tick := true, acq := true, hop := true, img := true, ct := true, aux := true, cal := true, seq := true, panel := true, hp := true, ring := true, cl := true, pp := true, pwr := true, flt := true, regs := [R.SYS_CTRL, R.SYS_STATUS, R.SYS_REASON, R.SYS_HALT_INFO, R.ACQ_STATUS, R.HOP_STATUS, R.CAL_STATUS, R.CAL_REASON, R.SEQ_STATUS, R.SEQ_EVPEND, R.SEQ_HALT, R.GPIO_STATUS, R.GPIO_SWAPST, R.HP_ATTN, R.XR_ECCSB, R.XR_ECCDB, R.RQ_PI, R.RQ_CI, R.RQ_SEQX, R.RQ_LOST, R.RQ_STATUS, R.PP_STATUS, R.PP_COUNTS2, R.PWR_ON, R.PWR_RES, R.PWR_DST0, R.PWR_DST1, R.PWR_WSRC, R.FLT_LOG, R.FLT_LAST, R.FLT_WOPEN], fams := [(0x3ce0, 4), (0x1818, 32), (0x1820, 32), (0x44c0, 4)] }

theorem Dev.Keeps.resetTimeout {w : Dev.Scope} {d₀ d : Dev}  (h : Dev.Keeps w d₀ d)
    (hw : Dev.resetTimeoutScope.le w = true := by decide) : Dev.Keeps w d₀ (d.resetTimeout) := by
  refine h.step hw ?_
  have h : Dev.Keeps Dev.resetTimeoutScope d d := .refl
  unfold Dev.resetTimeout
  exact Dev.Keeps.ite h.seqHalt h

/-- What `Dev.timerExpiry` may write. -/
abbrev Dev.timerExpiryScope : Dev.Scope := { regs := [R.SEQ_EVPEND, R.GPIO_TMEXP0, R.GPIO_TMEXP1], fams := [(0x240c, 16), (0x2408, 16)] }

theorem Dev.Keeps.timerExpiry {w : Dev.Scope} {d₀ d : Dev} {k : Nat} (h : Dev.Keeps w d₀ d)
    (hw : Dev.timerExpiryScope.le w = true := by decide) : Dev.Keeps w d₀ (d.timerExpiry k) := by
  refine h.step hw ?_
  have h : Dev.Keeps Dev.timerExpiryScope d d := .refl
  unfold Dev.timerExpiry
  exact Dev.Keeps.ite ((h.put (Dev.Scope.has_fam 0x2408 16 _)).tmExpire) h

/-- What `Dev.gpioDebounced` may write. -/
abbrev Dev.gpioDebouncedScope : Dev.Scope := { staged := true, mem := true, tick := true, hop := true, img := true, ct := true, aux := true, cal := true, seq := true, hp := true, ring := true, cl := true, pwr := true, flt := true, regs := [R.SYS_CTRL, R.SYS_STATUS, R.SYS_REASON, R.HOP_STATUS, R.CAL_STATUS, R.CAL_REASON, R.SEQ_EVPEND, R.GPIO_IN, R.GPIO_SWAPST, R.HP_ATTN, R.XR_ECCSB, R.XR_ECCDB, R.RQ_PI, R.RQ_CI, R.RQ_SEQX, R.RQ_LOST, R.RQ_STATUS, R.PWR_ON, R.PWR_RES, R.PWR_DST0, R.PWR_DST1, R.PWR_WSRC, R.FLT_LOG, R.FLT_LAST, R.FLT_WOPEN], fams := [(0x1818, 32), (0x1820, 32), (0x44c0, 4)] }

theorem Dev.Keeps.gpioDebounced {w : Dev.Scope} {d₀ d : Dev} {n : Nat} {level : Bool} {pads : Nat} (h : Dev.Keeps w d₀ d)
    (hw : Dev.gpioDebouncedScope.le w = true := by decide) : Dev.Keeps w d₀ (d.gpioDebounced n level pads) := by
  refine h.step hw ?_
  have h : Dev.Keeps Dev.gpioDebouncedScope d d := .refl
  unfold Dev.gpioDebounced
  extract_lets d1 d2
  have hd1 : Dev.Keeps Dev.gpioDebouncedScope d d1 := h.put
  have hd2 : Dev.Keeps Dev.gpioDebouncedScope d d2 := hd1.put
  exact Dev.Keeps.ite h (Dev.Keeps.ite hd1 (Dev.Keeps.ite hd2.wakeCause hd2))

/-- What `Dev.pwmEnd` may write. -/
abbrev Dev.pwmEndScope : Dev.Scope := { panel := true }

theorem Dev.Keeps.pwmEnd {w : Dev.Scope} {d₀ d : Dev} {n : Nat} (h : Dev.Keeps w d₀ d)
    (hw : Dev.pwmEndScope.le w = true := by decide) : Dev.Keeps w d₀ (d.pwmEnd n) := by
  refine h.step hw ?_
  have h : Dev.Keeps Dev.pwmEndScope d d := .refl
  unfold Dev.pwmEnd
  exact Dev.Keeps.ite h.pwmPeriodEnd h

/-- What `Dev.swapNoIdle` may write. -/
abbrev Dev.swapNoIdleScope : Dev.Scope := { mem := true, seq := true, ring := true, regs := [R.GPIO_SWAPST, R.HP_ATTN, R.XR_ECCSB, R.XR_ECCDB, R.RQ_PI, R.RQ_CI, R.RQ_SEQX, R.RQ_LOST, R.RQ_STATUS] }

theorem Dev.Keeps.swapNoIdle {w : Dev.Scope} {d₀ d : Dev}  (h : Dev.Keeps w d₀ d)
    (hw : Dev.swapNoIdleScope.le w = true := by decide) : Dev.Keeps w d₀ (d.swapNoIdle) := by
  refine h.step hw ?_
  have h : Dev.Keeps Dev.swapNoIdleScope d d := .refl
  unfold Dev.swapNoIdle
  exact Dev.Keeps.ite h.swapFail h

/-- What `Dev.frameBegin` may write. -/
abbrev Dev.frameBeginScope : Dev.Scope := { hp := true, regs := [R.HP_STATUS] }

theorem Dev.Keeps.frameBegin {w : Dev.Scope} {d₀ d : Dev} {mode3 : Bool} (h : Dev.Keeps w d₀ d)
    (hw : Dev.frameBeginScope.le w = true := by decide) : Dev.Keeps w d₀ (d.frameBegin mode3) := by
  refine h.step hw ?_
  have h : Dev.Keeps Dev.frameBeginScope d d := .refl
  unfold Dev.frameBegin
  extract_lets e1 e2
  have he1 : Dev.Keeps Dev.frameBeginScope d e1 := h.putB
  exact he1.upd (hp := nofun)

/-- What `Dev.hostFrame` may write, but for what the frame does. -/
abbrev Dev.hostFrameScope : Dev.Scope := { hp := true, regs := [R.HP_STATUS] }

theorem Dev.Keeps.hostFrame {w : Dev.Scope} {d₀ d : Dev} {mode3 : Bool} {body : Dev → Dev} (h : Dev.Keeps w d₀ d)
    (hf : ∀ x, Dev.Keeps w d₀ x → Dev.Keeps w d₀ (body x)) (hw : Dev.hostFrameScope.le w = true := by decide) :
    Dev.Keeps w d₀ (d.hostFrame mode3 body) := by
  unfold Dev.hostFrame
  exact .ite (hf _ (h.frameBegin (Dev.Scope.le_trans rfl hw))) (.ite (h.step hw (Dev.Keeps.upd (Dev.Keeps.putB .refl (f := R.HP_STATUS_CLKMODE)) (hp := nofun))) h)

/-- What `Dev.sends` may write. -/
abbrev Dev.sendsScope : Dev.Scope := { hp := true }

theorem Dev.Keeps.sends {w : Dev.Scope} {d₀ d : Dev} {bs : List Byte} (h : Dev.Keeps w d₀ d)
    (hw : Dev.sendsScope.le w = true := by decide) : Dev.Keeps w d₀ (d.sends bs) := by
  refine h.step hw ?_
  have h : Dev.Keeps Dev.sendsScope d d := .refl
  unfold Dev.sends
  extract_lets e1
  exact h.upd (hp := nofun)

/-- What `Dev.ragged` may write. -/
abbrev Dev.raggedScope : Dev.Scope := { freeCount := true, staged := true, mem := true, tick := true, acq := true, hop := true, img := true, ct := true, aux := true, cal := true, seq := true, panel := true, hp := true, ring := true, cl := true, pp := true, pwr := true, flt := true, regs := [R.SYS_CTRL, R.SYS_STATUS, R.SYS_REASON, R.SYS_HALT_INFO, R.ACQ_STATUS, R.HOP_STATUS, R.CAL_STATUS, R.CAL_REASON, R.SEQ_STATUS, R.SEQ_EVPEND, R.GPIO_STATUS, R.GPIO_SWAPST, R.HP_ATTN, R.HP_ERR, R.HP_COUNTS, R.XR_ECCSB, R.XR_ECCDB, R.RQ_PI, R.RQ_CI, R.RQ_SEQX, R.RQ_LOST, R.RQ_STATUS, R.PP_STATUS, R.PP_COUNTS2, R.PWR_ON, R.PWR_RES, R.PWR_DST0, R.PWR_DST1, R.PWR_WSRC, R.FLT_LOG, R.FLT_LAST, R.FLT_WOPEN], fams := [(0x3ce0, 4), (0x1818, 32), (0x1820, 32), (0x44c0, 4)] }

theorem Dev.Keeps.ragged {w : Dev.Scope} {d₀ d : Dev} {detail : Nat} (h : Dev.Keeps w d₀ d)
    (hw : Dev.raggedScope.le w = true := by decide) : Dev.Keeps w d₀ (d.ragged detail) := by
  refine h.step hw ?_
  have h : Dev.Keeps Dev.raggedScope d d := .refl
  unfold Dev.ragged
  exact h.put.inc.raise

/-- What `Dev.queueFrame` may write. -/
abbrev Dev.queueFrameScope : Dev.Scope := { hp := true, regs := [R.HP_STATUS] }

theorem Dev.Keeps.queueFrame {w : Dev.Scope} {d₀ d : Dev} {addr : Nat} {bs : List Byte} (h : Dev.Keeps w d₀ d)
    (hw : Dev.queueFrameScope.le w = true := by decide) : Dev.Keeps w d₀ (d.queueFrame addr bs) := by
  refine h.step hw ?_
  have h : Dev.Keeps Dev.queueFrameScope d d := .refl
  unfold Dev.queueFrame
  extract_lets e1
  exact (h.upd (hp := nofun)).put

/-- What `Dev.hostWrite` may write. -/
abbrev Dev.hostWriteScope : Dev.Scope := { freeCount := true, staged := true, mem := true, tick := true, acq := true, hop := true, img := true, ct := true, aux := true, cal := true, seq := true, panel := true, hp := true, ring := true, cl := true, pp := true, pwr := true, flt := true, regs := [R.SYS_CTRL, R.SYS_STATUS, R.SYS_REASON, R.SYS_HALT_INFO, R.ACQ_STATUS, R.HOP_STATUS, R.CAL_STATUS, R.CAL_REASON, R.SEQ_STATUS, R.SEQ_EVPEND, R.GPIO_STATUS, R.GPIO_SWAPST, R.HP_STATUS, R.HP_ATTN, R.HP_ERR, R.HP_COUNTS, R.XR_ECCSB, R.XR_ECCDB, R.RQ_PI, R.RQ_CI, R.RQ_SEQX, R.RQ_LOST, R.RQ_STATUS, R.PP_STATUS, R.PP_COUNTS2, R.PWR_ON, R.PWR_RES, R.PWR_DST0, R.PWR_DST1, R.PWR_WSRC, R.FLT_LOG, R.FLT_LAST, R.FLT_WOPEN], fams := [(0x3ce0, 4), (0x1818, 32), (0x1820, 32), (0x44c0, 4)] }

theorem Dev.Keeps.hostWrite {w : Dev.Scope} {d₀ d : Dev} {mode3 : Bool} {clean : Bool} {addr : Nat} {bs : List Byte} (h : Dev.Keeps w d₀ d)
    (hw : Dev.hostWriteScope.le w = true := by decide) : Dev.Keeps w d₀ (d.hostWrite mode3 clean addr bs) := by
  refine h.step hw ?_
  have h : Dev.Keeps Dev.hostWriteScope d d := .refl
  unfold Dev.hostWrite
  extract_lets n1
  exact h.hostFrame (fun _ h2 => Dev.Keeps.ite h2.ragged (Dev.Keeps.ite h2.put (Dev.Keeps.ite h2.put (Dev.Keeps.ite h2.put (Dev.Keeps.ite h2 h2.queueFrame)))))

/-- What `Dev.xwriteEcc` may write. -/
abbrev Dev.xwriteEccScope : Dev.Scope := { freeCount := true, staged := true, mem := true, tick := true, acq := true, hop := true, img := true, ct := true, aux := true, cal := true, seq := true, panel := true, hp := true, ring := true, cl := true, pp := true, pwr := true, flt := true, regs := [R.SYS_CTRL, R.SYS_STATUS, R.SYS_REASON, R.SYS_HALT_INFO, R.ACQ_STATUS, R.HOP_STATUS, R.CAL_STATUS, R.CAL_REASON, R.SEQ_STATUS, R.SEQ_EVPEND, R.GPIO_STATUS, R.GPIO_SWAPST, R.HP_ATTN, R.XR_ECCSB, R.XR_ECCDB, R.RQ_PI, R.RQ_CI, R.RQ_SEQX, R.RQ_LOST, R.RQ_STATUS, R.PP_STATUS, R.PP_COUNTS2, R.PWR_ON, R.PWR_RES, R.PWR_DST0, R.PWR_DST1, R.PWR_WSRC, R.FLT_LOG, R.FLT_LAST, R.FLT_WOPEN], fams := [(0x3ce0, 4), (0x1818, 32), (0x1820, 32), (0x44c0, 4)] }

theorem Dev.Keeps.xwriteEcc {w : Dev.Scope} {d₀ d : Dev} {client : Nat} {o : Nat} {bs : List Byte} (h : Dev.Keeps w d₀ d)
    (hw : Dev.xwriteEccScope.le w = true := by decide) : Dev.Keeps w d₀ (d.xwriteEcc client o bs) := by
  refine h.step hw ?_
  have h : Dev.Keeps Dev.xwriteEccScope d d := .refl
  unfold Dev.xwriteEcc
  exact h.xwriteClean.eccFlush

/-- What `Dev.setImem` may write. -/
abbrev Dev.setImemScope : Dev.Scope := { mem := true }

theorem Dev.Keeps.setImem {w : Dev.Scope} {d₀ d : Dev} {b : Nat} {m : List Host.Cell} (h : Dev.Keeps w d₀ d)
    (hw : Dev.setImemScope.le w = true := by decide) : Dev.Keeps w d₀ (d.setImem b m) := by
  refine h.step hw ?_
  have h : Dev.Keeps Dev.setImemScope d d := .refl
  unfold Dev.setImem
  extract_lets e1
  exact Dev.Keeps.ite (h.upd (mem := nofun)) (h.upd (mem := nofun))

/-- What `Dev.shadowWrite` may write. -/
abbrev Dev.shadowWriteScope : Dev.Scope := { mem := true, seq := true, ring := true, regs := [R.SEQ_STATUS, R.GPIO_SWAPST, R.HP_ATTN, R.XR_ECCSB, R.XR_ECCDB, R.RQ_PI, R.RQ_CI, R.RQ_SEQX, R.RQ_LOST, R.RQ_STATUS] }

theorem Dev.Keeps.shadowWrite {w : Dev.Scope} {d₀ d : Dev} {o : Nat} {bs : List Byte} (h : Dev.Keeps w d₀ d)
    (hw : Dev.shadowWriteScope.le w = true := by decide) : Dev.Keeps w d₀ (d.shadowWrite o bs) := by
  refine h.step hw ?_
  have h : Dev.Keeps Dev.shadowWriteScope d d := .refl
  unfold Dev.shadowWrite
  extract_lets d1 b1
  have hd1 : Dev.Keeps Dev.shadowWriteScope d d1 := h.swapEnd
  exact hd1.setImem.put

/-- What `Dev.busyLimit` may write. -/
abbrev Dev.busyLimitScope : Dev.Scope := { hp := true, regs := [R.HP_ERR] }

theorem Dev.Keeps.busyLimit {w : Dev.Scope} {d₀ d : Dev}  (h : Dev.Keeps w d₀ d)
    (hw : Dev.busyLimitScope.le w = true := by decide) : Dev.Keeps w d₀ (d.busyLimit) := by
  refine h.step hw ?_
  have h : Dev.Keeps Dev.busyLimitScope d d := .refl
  unfold Dev.busyLimit
  extract_lets e1 d1
  have hd1 : Dev.Keeps Dev.busyLimitScope d d1 := h.upd (hp := nofun)
  split
  · exact h
  · exact Dev.Keeps.ite h hd1.put.sends

/-- What `Dev.readStatus` may write. -/
abbrev Dev.readStatusScope : Dev.Scope := { hp := true, regs := [R.HP_STATUS] }

theorem Dev.Keeps.readStatus {w : Dev.Scope} {d₀ d : Dev} {mode3 : Bool} {n : Nat} (h : Dev.Keeps w d₀ d)
    (hw : Dev.readStatusScope.le w = true := by decide) : Dev.Keeps w d₀ (d.readStatus mode3 n) := by
  refine h.step hw ?_
  have h : Dev.Keeps Dev.readStatusScope d d := .refl
  unfold Dev.readStatus
  exact h.hostFrame (fun _ h2 => h2.sends)

/-- What `Dev.readId` may write. -/
abbrev Dev.readIdScope : Dev.Scope := { hp := true, regs := [R.HP_STATUS] }

theorem Dev.Keeps.readId {w : Dev.Scope} {d₀ d : Dev} {mode3 : Bool} {n : Nat} (h : Dev.Keeps w d₀ d)
    (hw : Dev.readIdScope.le w = true := by decide) : Dev.Keeps w d₀ (d.readId mode3 n) := by
  refine h.step hw ?_
  have h : Dev.Keeps Dev.readIdScope d d := .refl
  unfold Dev.readId
  exact h.hostFrame (fun _ h2 => h2.sends)

/-- What `Dev.quadEnter` may write. -/
abbrev Dev.quadEnterScope : Dev.Scope := { freeCount := true, staged := true, mem := true, tick := true, acq := true, hop := true, img := true, ct := true, aux := true, cal := true, seq := true, panel := true, hp := true, ring := true, cl := true, pp := true, pwr := true, flt := true, regs := [R.SYS_CTRL, R.SYS_STATUS, R.SYS_REASON, R.SYS_HALT_INFO, R.ACQ_STATUS, R.HOP_STATUS, R.CAL_STATUS, R.CAL_REASON, R.SEQ_STATUS, R.SEQ_EVPEND, R.GPIO_STATUS, R.GPIO_SWAPST, R.HP_STATUS, R.HP_ATTN, R.HP_ERR, R.HP_COUNTS, R.XR_ECCSB, R.XR_ECCDB, R.RQ_PI, R.RQ_CI, R.RQ_SEQX, R.RQ_LOST, R.RQ_STATUS, R.PP_STATUS, R.PP_COUNTS2, R.PWR_ON, R.PWR_RES, R.PWR_DST0, R.PWR_DST1, R.PWR_WSRC, R.FLT_LOG, R.FLT_LAST, R.FLT_WOPEN], fams := [(0x3ce0, 4), (0x1818, 32), (0x1820, 32), (0x44c0, 4)] }

theorem Dev.Keeps.quadEnter {w : Dev.Scope} {d₀ d : Dev} {mode3 : Bool} {clean : Bool} (h : Dev.Keeps w d₀ d)
    (hw : Dev.quadEnterScope.le w = true := by decide) : Dev.Keeps w d₀ (d.quadEnter mode3 clean) := by
  refine h.step hw ?_
  have h : Dev.Keeps Dev.quadEnterScope d d := .refl
  unfold Dev.quadEnter
  exact h.hostFrame (fun _ h2 => Dev.Keeps.ite h2 (Dev.Keeps.ite h2.put h2.ragged))

/-- What `Dev.quadExit` may write. -/
abbrev Dev.quadExitScope : Dev.Scope := { freeCount := true, staged := true, mem := true, tick := true, acq := true, hop := true, img := true, ct := true, aux := true, cal := true, seq := true, panel := true, hp := true, ring := true, cl := true, pp := true, pwr := true, flt := true, regs := [R.SYS_CTRL, R.SYS_STATUS, R.SYS_REASON, R.SYS_HALT_INFO, R.ACQ_STATUS, R.HOP_STATUS, R.CAL_STATUS, R.CAL_REASON, R.SEQ_STATUS, R.SEQ_EVPEND, R.GPIO_STATUS, R.GPIO_SWAPST, R.HP_STATUS, R.HP_ATTN, R.HP_ERR, R.HP_COUNTS, R.XR_ECCSB, R.XR_ECCDB, R.RQ_PI, R.RQ_CI, R.RQ_SEQX, R.RQ_LOST, R.RQ_STATUS, R.PP_STATUS, R.PP_COUNTS2, R.PWR_ON, R.PWR_RES, R.PWR_DST0, R.PWR_DST1, R.PWR_WSRC, R.FLT_LOG, R.FLT_LAST, R.FLT_WOPEN], fams := [(0x3ce0, 4), (0x1818, 32), (0x1820, 32), (0x44c0, 4)] }

theorem Dev.Keeps.quadExit {w : Dev.Scope} {d₀ d : Dev} {mode3 : Bool} {clean : Bool} (h : Dev.Keeps w d₀ d)
    (hw : Dev.quadExitScope.le w = true := by decide) : Dev.Keeps w d₀ (d.quadExit mode3 clean) := by
  refine h.step hw ?_
  have h : Dev.Keeps Dev.quadExitScope d d := .refl
  unfold Dev.quadExit
  exact h.hostFrame (fun _ h2 => Dev.Keeps.ite h2 (Dev.Keeps.ite h2.put h2.ragged))

/-- What `Dev.ackReject` may write. -/
abbrev Dev.ackRejectScope : Dev.Scope := { regs := [R.HP_ERR] }

theorem Dev.Keeps.ackReject {w : Dev.Scope} {d₀ d : Dev} {addr : Nat} {n : Nat} (h : Dev.Keeps w d₀ d)
    (hw : Dev.ackRejectScope.le w = true := by decide) : Dev.Keeps w d₀ (d.ackReject addr n) := by
  refine h.step hw ?_
  have h : Dev.Keeps Dev.ackRejectScope d d := .refl
  unfold Dev.ackReject
  exact Dev.Keeps.ite h.put (Dev.Keeps.ite h.put (Dev.Keeps.ite h.put h))

/-- What `Dev.ackWrite` may write. -/
abbrev Dev.ackWriteScope : Dev.Scope := { freeCount := true, staged := true, mem := true, tick := true, acq := true, hop := true, img := true, ct := true, aux := true, cal := true, seq := true, panel := true, hp := true, ring := true, cl := true, pp := true, pwr := true, flt := true, regs := [R.SYS_CTRL, R.SYS_STATUS, R.SYS_REASON, R.SYS_HALT_INFO, R.ACQ_STATUS, R.HOP_STATUS, R.CAL_STATUS, R.CAL_REASON, R.SEQ_STATUS, R.SEQ_EVPEND, R.GPIO_STATUS, R.GPIO_SWAPST, R.HP_STATUS, R.HP_ATTN, R.HP_ACK, R.HP_ACKCRC, R.HP_ERR, R.HP_COUNTS, R.XR_ECCSB, R.XR_ECCDB, R.RQ_PI, R.RQ_CI, R.RQ_SEQX, R.RQ_LOST, R.RQ_STATUS, R.PP_STATUS, R.PP_COUNTS2, R.PWR_ON, R.PWR_RES, R.PWR_DST0, R.PWR_DST1, R.PWR_WSRC, R.FLT_LOG, R.FLT_LAST, R.FLT_WOPEN], fams := [(0x3ce0, 4), (0x1818, 32), (0x1820, 32), (0x44c0, 4)] }

theorem Dev.Keeps.ackWrite {w : Dev.Scope} {d₀ d : Dev} {mode3 : Bool} {complete : Bool} {addr : Nat} {seq : Nat} {crc : Nat} {bs : List Byte} (h : Dev.Keeps w d₀ d)
    (hw : Dev.ackWriteScope.le w = true := by decide) : Dev.Keeps w d₀ (d.ackWrite mode3 complete addr seq crc bs) := by
  refine h.step hw ?_
  have h : Dev.Keeps Dev.ackWriteScope d d := .refl
  unfold Dev.ackWrite
  refine Dev.Keeps.hostFrame h ?_
  intro d' hd1'
  extract_lets e1 s1 d1 d2 d3
  have hd1 : Dev.Keeps Dev.ackWriteScope d d1 := hd1'.upd (hp := nofun)
  have hd2 : Dev.Keeps Dev.ackWriteScope d d2 := hd1.put.put.put
  have hd3 : Dev.Keeps Dev.ackWriteScope d d3 := by
    unfold d3
    clear_value s1
    split
    · exact hd1.inc.raise
    · exact hd1.ackReject
    · exact hd2.queueFrame
    · exact hd1
  exact Dev.Keeps.ite ((hd1'.upd (hp := nofun)).ragged) hd3.put.put.sends

/-- What `Dev.hostWake` may write. -/
abbrev Dev.hostWakeScope : Dev.Scope := { staged := true, mem := true, tick := true, hop := true, img := true, ct := true, aux := true, cal := true, seq := true, hp := true, ring := true, cl := true, pwr := true, flt := true, regs := [R.SYS_CTRL, R.SYS_STATUS, R.SYS_REASON, R.HOP_STATUS, R.CAL_STATUS, R.CAL_REASON, R.SEQ_EVPEND, R.GPIO_SWAPST, R.HP_ATTN, R.XR_ECCSB, R.XR_ECCDB, R.RQ_PI, R.RQ_CI, R.RQ_SEQX, R.RQ_LOST, R.RQ_STATUS, R.PWR_ON, R.PWR_RES, R.PWR_DST0, R.PWR_DST1, R.PWR_WSRC, R.FLT_LOG, R.FLT_LAST, R.FLT_WOPEN], fams := [(0x1818, 32), (0x1820, 32), (0x44c0, 4)] }

theorem Dev.Keeps.hostWake {w : Dev.Scope} {d₀ d : Dev}  (h : Dev.Keeps w d₀ d)
    (hw : Dev.hostWakeScope.le w = true := by decide) : Dev.Keeps w d₀ (d.hostWake) := by
  refine h.step hw ?_
  have h : Dev.Keeps Dev.hostWakeScope d d := .refl
  unfold Dev.hostWake
  extract_lets d1 e1
  have hd1 : Dev.Keeps Dev.hostWakeScope d d1 := h.put
  exact Dev.Keeps.ite (Dev.Keeps.ite h ((hd1.upd (pwr := nofun)).fallowExit)) (Dev.Keeps.ite h.hostBack h.wakeCause)

/-- What `Dev.wake` may write. -/
abbrev Dev.wakeScope : Dev.Scope := { freeCount := true, staged := true, mem := true, tick := true, acq := true, hop := true, img := true, ct := true, aux := true, cal := true, seq := true, panel := true, hp := true, ring := true, cl := true, pp := true, pwr := true, flt := true, regs := [R.SYS_CTRL, R.SYS_STATUS, R.SYS_REASON, R.SYS_HALT_INFO, R.ACQ_STATUS, R.HOP_STATUS, R.CAL_STATUS, R.CAL_REASON, R.SEQ_STATUS, R.SEQ_EVPEND, R.GPIO_STATUS, R.GPIO_SWAPST, R.HP_STATUS, R.HP_ATTN, R.HP_ERR, R.HP_COUNTS, R.XR_ECCSB, R.XR_ECCDB, R.RQ_PI, R.RQ_CI, R.RQ_SEQX, R.RQ_LOST, R.RQ_STATUS, R.PP_STATUS, R.PP_COUNTS2, R.PWR_ON, R.PWR_RES, R.PWR_DST0, R.PWR_DST1, R.PWR_WSRC, R.FLT_LOG, R.FLT_LAST, R.FLT_WOPEN], fams := [(0x1818, 32), (0x1820, 32), (0x44c0, 4), (0x3ce0, 4)] }

theorem Dev.Keeps.wake {w : Dev.Scope} {d₀ d : Dev} {mode3 : Bool} {clean : Bool} (h : Dev.Keeps w d₀ d)
    (hw : Dev.wakeScope.le w = true := by decide) : Dev.Keeps w d₀ (d.wake mode3 clean) := by
  refine h.step hw ?_
  have h : Dev.Keeps Dev.wakeScope d d := .refl
  unfold Dev.wake
  extract_lets d1 d2
  have hd1 : Dev.Keeps Dev.wakeScope d d1 := h.frameBegin
  have hd2 : Dev.Keeps Dev.wakeScope d d2 := h.putB
  exact Dev.Keeps.ite h (Dev.Keeps.ite (Dev.Keeps.ite hd1.hostWake hd1.ragged) (Dev.Keeps.ite hd2.hostWake hd2))

/-- What `Dev.enterFallow` may write. -/
abbrev Dev.enterFallowScope : Dev.Scope := { freeCount := true, staged := true, mem := true, tick := true, acq := true, hop := true, img := true, ct := true, aux := true, cal := true, seq := true, panel := true, hp := true, ring := true, cl := true, pp := true, pwr := true, flt := true, regs := [R.SYS_CTRL, R.SYS_STATUS, R.SYS_REASON, R.SYS_HALT_INFO, R.ACQ_STATUS, R.HOP_STATUS, R.AUX_COUNTS, R.CAL_STATUS, R.CAL_REASON, R.CAL_COUNT0, R.CAL_COUNT1, R.SEQ_STATUS, R.SEQ_EVPEND, R.GPIO_STATUS, R.GPIO_SWAPST, R.HP_STATUS, R.HP_ATTN, R.HP_ERR, R.HP_COUNTS, R.XR_ECCSB, R.XR_ECCDB, R.CQ_CTRL, R.CQ_CI, R.CQ_SEQX, R.CQ_COUNTS, R.RQ_CTRL, R.RQ_PI, R.RQ_CI, R.RQ_SEQX, R.RQ_LOST, R.RQ_STATUS, R.PP_STATUS, R.PP_COUNTS2, R.PWR_ON, R.PWR_RES, R.PWR_DST0, R.PWR_DST1, R.PWR_WSRC, R.PWR_COUNTS, R.FLT_LOG, R.FLT_LAST, R.FLT_WOPEN], fams := [(0x3ce0, 4), (0x1818, 32), (0x1820, 32), (0x44c0, 4), (0x1c58, 8), (0x1c5c, 8), (0x1c30, 8), (0x1c34, 8)] }

theorem Dev.Keeps.enterFallow {w : Dev.Scope} {d₀ d : Dev} {mode3 : Bool} {clean : Bool} (h : Dev.Keeps w d₀ d)
    (hw : Dev.enterFallowScope.le w = true := by decide) : Dev.Keeps w d₀ (d.enterFallow mode3 clean) := by
  refine h.step hw ?_
  have h : Dev.Keeps Dev.enterFallowScope d d := .refl
  unfold Dev.enterFallow
  exact h.hostFrame (fun _ h2 => Dev.Keeps.ite h2.fallowRequest h2.ragged)

/-- What `Dev.unknownOp` may write. -/
abbrev Dev.unknownOpScope : Dev.Scope := { hp := true, regs := [R.HP_STATUS, R.HP_ERR] }

theorem Dev.Keeps.unknownOp {w : Dev.Scope} {d₀ d : Dev} {mode3 : Bool} (h : Dev.Keeps w d₀ d)
    (hw : Dev.unknownOpScope.le w = true := by decide) : Dev.Keeps w d₀ (d.unknownOp mode3) := by
  refine h.step hw ?_
  have h : Dev.Keeps Dev.unknownOpScope d d := .refl
  unfold Dev.unknownOp
  exact h.hostFrame (fun _ h2 => h2.put)

/-- What `Dev.chainFrame` may write, but for what the segment does. -/
abbrev Dev.chainFrameScope : Dev.Scope := { hp := true, regs := [R.HP_STATUS] }

theorem Dev.Keeps.chainFrame {w : Dev.Scope} {d₀ d : Dev} {mode3 : Bool} {addr : Nat} {out : List Bool}
    {body : Dev → Dev × Option (Nat × Nat)} (h : Dev.Keeps w d₀ d)
    (hf : ∀ x, Dev.Keeps w d₀ x → Dev.Keeps w d₀ (body x).1) (hw : Dev.chainFrameScope.le w = true := by decide) :
    Dev.Keeps w d₀ (d.chainFrame mode3 addr out body) := by
  have hs := hf { d.putB R.HP_STATUS_CLKMODE mode3 with hp := { d.hp with shifted := out } }
    (h.step hw (Dev.Keeps.upd (Dev.Keeps.putB .refl (f := R.HP_STATUS_CLKMODE)) (hp := nofun)))
  unfold Dev.chainFrame
  refine .ite h ?_
  split
  · exact (Dev.Keeps.of_fst ‹_› hs).step hw (Dev.Keeps.refl.upd (hp := nofun))
  · exact Dev.Keeps.of_fst ‹_› hs

/-- What `Dev.chainNone` may write. -/
abbrev Dev.chainNoneScope : Dev.Scope := {  }

theorem Dev.Keeps.chainNone {w : Dev.Scope} {d₀ d : Dev}  (h : Dev.Keeps w d₀ d)
    (hw : Dev.chainNoneScope.le w = true := by decide) : Dev.Keeps w d₀ (d.chainNone).1 := by
  refine h.step hw ?_
  have h : Dev.Keeps Dev.chainNoneScope d d := .refl
  unfold Dev.chainNone
  exact h

/-- What `Dev.chainNoData` may write. -/
abbrev Dev.chainNoDataScope : Dev.Scope := { freeCount := true }

theorem Dev.Keeps.chainNoData {w : Dev.Scope} {d₀ d : Dev} {c : Nat} (h : Dev.Keeps w d₀ d)
    (hw : Dev.chainNoDataScope.le w = true := by decide) : Dev.Keeps w d₀ (d.chainNoData c).1 := by
  refine h.step hw ?_
  have h : Dev.Keeps Dev.chainNoDataScope d d := .refl
  unfold Dev.chainNoData
  split
  · rename_i q1 _ q1a _
    have hq1a : Dev.Keeps Dev.chainNoDataScope d q1a := Dev.Keeps.of_snd ‹_› h.fresh
    exact hq1a

/-- What `Dev.chainAwake` may write, but for what the segment does. -/
abbrev Dev.chainAwakeScope : Dev.Scope := { freeCount := true }

theorem Dev.Keeps.chainAwake {w : Dev.Scope} {d₀ d : Dev} {al : Bool} {body : Dev → Dev × Option (Nat × Nat)} (h : Dev.Keeps w d₀ d)
    (hf : ∀ x, Dev.Keeps w d₀ x → Dev.Keeps w d₀ (body x).1) (hw : Dev.chainAwakeScope.le w = true := by decide) :
    Dev.Keeps w d₀ (d.chainAwake al body).1 := by
  unfold Dev.chainAwake
  exact .ite_fst (h.chainNoData (Dev.Scope.le_trans rfl hw)) (.ite_fst (h.chainNoData (Dev.Scope.le_trans rfl hw)) (hf _ h))

/-- What `Dev.chainStatus` may write. -/
abbrev Dev.chainStatusScope : Dev.Scope := { freeCount := true }

theorem Dev.Keeps.chainStatus {w : Dev.Scope} {d₀ d : Dev}  (h : Dev.Keeps w d₀ d)
    (hw : Dev.chainStatusScope.le w = true := by decide) : Dev.Keeps w d₀ (d.chainStatus).1 := by
  refine h.step hw ?_
  have h : Dev.Keeps Dev.chainStatusScope d d := .refl
  unfold Dev.chainStatus
  exact h.chainAwake (fun _ h2 => h2)

/-- What `Dev.chainId` may write. -/
abbrev Dev.chainIdScope : Dev.Scope := { freeCount := true }

theorem Dev.Keeps.chainId {w : Dev.Scope} {d₀ d : Dev}  (h : Dev.Keeps w d₀ d)
    (hw : Dev.chainIdScope.le w = true := by decide) : Dev.Keeps w d₀ (d.chainId).1 := by
  refine h.step hw ?_
  have h : Dev.Keeps Dev.chainIdScope d d := .refl
  unfold Dev.chainId
  exact h.chainAwake (fun _ h2 => h2)

/-- What `Dev.chainWake` may write. -/
abbrev Dev.chainWakeScope : Dev.Scope := { staged := true, mem := true, tick := true, hop := true, img := true, ct := true, aux := true, cal := true, seq := true, hp := true, ring := true, cl := true, pwr := true, flt := true, regs := [R.SYS_CTRL, R.SYS_STATUS, R.SYS_REASON, R.HOP_STATUS, R.CAL_STATUS, R.CAL_REASON, R.SEQ_EVPEND, R.GPIO_SWAPST, R.HP_ATTN, R.XR_ECCSB, R.XR_ECCDB, R.RQ_PI, R.RQ_CI, R.RQ_SEQX, R.RQ_LOST, R.RQ_STATUS, R.PWR_ON, R.PWR_RES, R.PWR_DST0, R.PWR_DST1, R.PWR_WSRC, R.FLT_LOG, R.FLT_LAST, R.FLT_WOPEN], fams := [(0x1818, 32), (0x1820, 32), (0x44c0, 4)] }

theorem Dev.Keeps.chainWake {w : Dev.Scope} {d₀ d : Dev}  (h : Dev.Keeps w d₀ d)
    (hw : Dev.chainWakeScope.le w = true := by decide) : Dev.Keeps w d₀ (d.chainWake).1 := by
  refine h.step hw ?_
  have h : Dev.Keeps Dev.chainWakeScope d d := .refl
  unfold Dev.chainWake
  exact h.hostWake

/-- What `Dev.chainFallow` may write. -/
abbrev Dev.chainFallowScope : Dev.Scope := { freeCount := true, staged := true, mem := true, tick := true, acq := true, hop := true, img := true, ct := true, aux := true, cal := true, seq := true, panel := true, hp := true, ring := true, cl := true, pp := true, pwr := true, flt := true, regs := [R.SYS_CTRL, R.SYS_STATUS, R.SYS_REASON, R.SYS_HALT_INFO, R.ACQ_STATUS, R.HOP_STATUS, R.AUX_COUNTS, R.CAL_STATUS, R.CAL_REASON, R.CAL_COUNT0, R.CAL_COUNT1, R.SEQ_STATUS, R.SEQ_EVPEND, R.GPIO_STATUS, R.GPIO_SWAPST, R.HP_STATUS, R.HP_ATTN, R.XR_ECCSB, R.XR_ECCDB, R.CQ_CTRL, R.CQ_CI, R.CQ_SEQX, R.CQ_COUNTS, R.RQ_CTRL, R.RQ_PI, R.RQ_CI, R.RQ_SEQX, R.RQ_LOST, R.RQ_STATUS, R.PP_STATUS, R.PP_COUNTS2, R.PWR_ON, R.PWR_RES, R.PWR_DST0, R.PWR_DST1, R.PWR_WSRC, R.PWR_COUNTS, R.FLT_LOG, R.FLT_LAST, R.FLT_WOPEN], fams := [(0x3ce0, 4), (0x1818, 32), (0x1820, 32), (0x44c0, 4), (0x1c58, 8), (0x1c5c, 8), (0x1c30, 8), (0x1c34, 8)] }

theorem Dev.Keeps.chainFallow {w : Dev.Scope} {d₀ d : Dev}  (h : Dev.Keeps w d₀ d)
    (hw : Dev.chainFallowScope.le w = true := by decide) : Dev.Keeps w d₀ (d.chainFallow).1 := by
  refine h.step hw ?_
  have h : Dev.Keeps Dev.chainFallowScope d d := .refl
  unfold Dev.chainFallow
  exact h.chainAwake (fun _ h2 => h2.fallowRequest)

/-- What `Dev.eccWord` may write. -/
abbrev Dev.eccWordScope : Dev.Scope := { freeCount := true, staged := true, mem := true, tick := true, acq := true, hop := true, img := true, ct := true, aux := true, cal := true, seq := true, panel := true, hp := true, ring := true, cl := true, pp := true, pwr := true, flt := true, regs := [R.SYS_CTRL, R.SYS_STATUS, R.SYS_REASON, R.SYS_HALT_INFO, R.ACQ_STATUS, R.HOP_STATUS, R.CAL_STATUS, R.CAL_REASON, R.SEQ_STATUS, R.SEQ_EVPEND, R.GPIO_STATUS, R.GPIO_SWAPST, R.HP_ATTN, R.XR_ECCSB, R.XR_ECCDB, R.RQ_PI, R.RQ_CI, R.RQ_SEQX, R.RQ_LOST, R.RQ_STATUS, R.PP_STATUS, R.PP_COUNTS2, R.PWR_ON, R.PWR_RES, R.PWR_DST0, R.PWR_DST1, R.PWR_WSRC, R.FLT_LOG, R.FLT_LAST, R.FLT_WOPEN], fams := [(0x3ce0, 4), (0x1818, 32), (0x1820, 32), (0x44c0, 4)] }

theorem Dev.Keeps.eccWord {w : Dev.Scope} {d₀ d : Dev} {client : Nat} {a2 : Nat} (h : Dev.Keeps w d₀ d)
    (hw : Dev.eccWordScope.le w = true := by decide) : Dev.Keeps w d₀ (d.eccWord client a2) := by
  refine h.step hw ?_
  have h : Dev.Keeps Dev.eccWordScope d d := .refl
  unfold Dev.eccWord
  exact h.eccMeet.eccFlush

/-- What `Dev.scrubBank` may write. -/
abbrev Dev.scrubBankScope : Dev.Scope := { freeCount := true, staged := true, mem := true, tick := true, acq := true, hop := true, img := true, ct := true, aux := true, cal := true, seq := true, panel := true, hp := true, ring := true, cl := true, pp := true, pwr := true, flt := true, regs := [R.SYS_CTRL, R.SYS_STATUS, R.SYS_REASON, R.SYS_HALT_INFO, R.ACQ_STATUS, R.HOP_STATUS, R.CAL_STATUS, R.CAL_REASON, R.SEQ_STATUS, R.SEQ_EVPEND, R.GPIO_STATUS, R.GPIO_SWAPST, R.HP_ATTN, R.XR_ECCSB, R.XR_ECCDB, R.RQ_PI, R.RQ_CI, R.RQ_SEQX, R.RQ_LOST, R.RQ_STATUS, R.PP_STATUS, R.PP_COUNTS2, R.PWR_ON, R.PWR_RES, R.PWR_DST0, R.PWR_DST1, R.PWR_WSRC, R.FLT_LOG, R.FLT_LAST, R.FLT_WOPEN], fams := [(0x3ce0, 4), (0x1818, 32), (0x1820, 32), (0x44c0, 4)] }

theorem Dev.Keeps.scrubBank {w : Dev.Scope} {d₀ d : Dev} {b : Nat} {upset : Nat} (h : Dev.Keeps w d₀ d)
    (hw : Dev.scrubBankScope.le w = true := by decide) : Dev.Keeps w d₀ (d.scrubBank b upset) := by
  refine h.step hw ?_
  have h : Dev.Keeps Dev.scrubBankScope d d := .refl
  unfold Dev.scrubBank
  extract_lets pos1 w1 m1 clean1 m2 m3
  exact Dev.Keeps.ite h ((h.upd (mem := nofun)).eccWord)

/-- What `Dev.scrubRead` may write. -/
abbrev Dev.scrubReadScope : Dev.Scope := { freeCount := true, staged := true, mem := true, tick := true, acq := true, hop := true, img := true, ct := true, aux := true, cal := true, seq := true, panel := true, hp := true, ring := true, cl := true, pp := true, pwr := true, flt := true, regs := [R.SYS_CTRL, R.SYS_STATUS, R.SYS_REASON, R.SYS_HALT_INFO, R.ACQ_STATUS, R.HOP_STATUS, R.CAL_STATUS, R.CAL_REASON, R.SEQ_STATUS, R.SEQ_EVPEND, R.GPIO_STATUS, R.GPIO_SWAPST, R.HP_ATTN, R.XR_ECCSB, R.XR_ECCDB, R.RQ_PI, R.RQ_CI, R.RQ_SEQX, R.RQ_LOST, R.RQ_STATUS, R.PP_STATUS, R.PP_COUNTS2, R.PWR_ON, R.PWR_RES, R.PWR_DST0, R.PWR_DST1, R.PWR_WSRC, R.FLT_LOG, R.FLT_LAST, R.FLT_WOPEN], fams := [(0x3ce0, 4), (0x1818, 32), (0x1820, 32), (0x44c0, 4)] }

theorem Dev.Keeps.scrubRead {w : Dev.Scope} {d₀ d : Dev} {upset0 : Nat} {upset1 : Nat} (h : Dev.Keeps w d₀ d)
    (hw : Dev.scrubReadScope.le w = true := by decide) : Dev.Keeps w d₀ (d.scrubRead upset0 upset1) := by
  refine h.step hw ?_
  have h : Dev.Keeps Dev.scrubReadScope d d := .refl
  unfold Dev.scrubRead
  exact h.scrubBank.scrubBank

/-- What `Dev.reclaimReserve` may write. -/
abbrev Dev.reclaimReserveScope : Dev.Scope := { mem := true, ring := true, regs := [R.HP_ATTN, R.XR_ECCSB, R.XR_ECCDB, R.RQ_CI] }

theorem Dev.Keeps.reclaimReserve {w : Dev.Scope} {d₀ d : Dev}  (h : Dev.Keeps w d₀ d)
    (hw : Dev.reclaimReserveScope.le w = true := by decide) : Dev.Keeps w d₀ (d.reclaimReserve) := by
  refine h.step hw ?_
  have h : Dev.Keeps Dev.reclaimReserveScope d d := .refl
  unfold Dev.reclaimReserve
  exact Dev.Keeps.ite h.reclaimAll.rqAttn h

/-- What `Dev.cqMalformed` may write. -/
abbrev Dev.cqMalformedScope : Dev.Scope := { freeCount := true, staged := true, mem := true, tick := true, acq := true, hop := true, img := true, ct := true, aux := true, cal := true, seq := true, panel := true, hp := true, ring := true, cl := true, pp := true, pwr := true, flt := true, regs := [R.SYS_CTRL, R.SYS_STATUS, R.SYS_REASON, R.SYS_HALT_INFO, R.ACQ_STATUS, R.HOP_STATUS, R.CAL_STATUS, R.CAL_REASON, R.SEQ_STATUS, R.SEQ_EVPEND, R.GPIO_STATUS, R.GPIO_SWAPST, R.HP_ATTN, R.XR_ECCSB, R.XR_ECCDB, R.RQ_PI, R.RQ_CI, R.RQ_SEQX, R.RQ_LOST, R.RQ_STATUS, R.XR_MALF, R.XR_MALF2, R.PP_STATUS, R.PP_COUNTS2, R.PWR_ON, R.PWR_RES, R.PWR_DST0, R.PWR_DST1, R.PWR_WSRC, R.FLT_LOG, R.FLT_LAST, R.FLT_WOPEN], fams := [(0x3ce0, 4), (0x1818, 32), (0x1820, 32), (0x44c0, 4)] }

theorem Dev.Keeps.cqMalformed {w : Dev.Scope} {d₀ d : Dev} {m : Malf} (h : Dev.Keeps w d₀ d)
    (hw : Dev.cqMalformedScope.le w = true := by decide) : Dev.Keeps w d₀ (d.cqMalformed m) := by
  refine h.step hw ?_
  have h : Dev.Keeps Dev.cqMalformedScope d d := .refl
  unfold Dev.cqMalformed
  extract_lets e1 e2 d1 d2 d3
  have he1 : Dev.Keeps Dev.cqMalformedScope d e1 := h.batchClose
  have hd1 : Dev.Keeps Dev.cqMalformedScope d d1 := he1.upd (ring := nofun)
  have hd2 : Dev.Keeps Dev.cqMalformedScope d d2 := hd1.put.put
  have hd3 : Dev.Keeps Dev.cqMalformedScope d d3 := hd2.put.put.put
  exact hd3.noteDirect.settleFaults

/-- What `Dev.commandPoll` may write. -/
abbrev Dev.commandPollScope : Dev.Scope := { freeCount := true, staged := true, mem := true, tick := true, acq := true, hop := true, img := true, ct := true, aux := true, cal := true, seq := true, panel := true, hp := true, ring := true, cl := true, pp := true, pwr := true, flt := true, regs := [R.SYS_CTRL, R.SYS_STATUS, R.SYS_REASON, R.SYS_HALT_INFO, R.ACQ_STATUS, R.HOP_STATUS, R.CAL_STATUS, R.CAL_REASON, R.SEQ_STATUS, R.SEQ_EVPEND, R.GPIO_STATUS, R.GPIO_SWAPST, R.HP_ATTN, R.XR_ECCSB, R.XR_ECCDB, R.CQ_COUNTS, R.RQ_PI, R.RQ_CI, R.RQ_SEQX, R.RQ_LOST, R.RQ_STATUS, R.XR_MALF, R.XR_MALF2, R.PP_STATUS, R.PP_COUNTS2, R.PWR_ON, R.PWR_RES, R.PWR_DST0, R.PWR_DST1, R.PWR_WSRC, R.FLT_LOG, R.FLT_LAST, R.FLT_WOPEN], fams := [(0x3ce0, 4), (0x1818, 32), (0x1820, 32), (0x44c0, 4)] }

theorem Dev.Keeps.commandPoll {w : Dev.Scope} {d₀ d : Dev}  (h : Dev.Keeps w d₀ d)
    (hw : Dev.commandPollScope.le w = true := by decide) : Dev.Keeps w d₀ (d.commandPoll) := by
  refine h.step hw ?_
  have h : Dev.Keeps Dev.commandPollScope d d := .refl
  unfold Dev.commandPoll
  extract_lets d1 ci1 own1 at1 pos1 room1 avail1 pf1 lim1 b1 d2 d3 d4 e1
  have hd1 : Dev.Keeps Dev.commandPollScope d d1 := Dev.Keeps.ite h.reclaimReserve.eccFlush h
  have hd2 : Dev.Keeps Dev.commandPollScope d d2 := Dev.Keeps.foldl (fun _ _ h3 => h3.eccMeet) hd1
  have hd3 : Dev.Keeps Dev.commandPollScope d d3 := hd2.eccFlush
  have hd4 : Dev.Keeps Dev.commandPollScope d d4 := Dev.Keeps.ite hd3.inc hd3
  split
  · exact hd1
  · split
    · exact hd1
    · split
      · exact hd2.eccNote.cqMalformed
      · exact Dev.Keeps.ite hd3 (hd4.upd (ring := nofun))

/-- What `Dev.reportRoom` may write. -/
abbrev Dev.reportRoomScope : Dev.Scope := { freeCount := true, staged := true, mem := true, tick := true, acq := true, hop := true, img := true, ct := true, aux := true, cal := true, seq := true, panel := true, hp := true, ring := true, cl := true, pp := true, pwr := true, flt := true, regs := [R.SYS_CTRL, R.SYS_STATUS, R.SYS_REASON, R.SYS_HALT_INFO, R.ACQ_STATUS, R.HOP_STATUS, R.CAL_STATUS, R.CAL_REASON, R.SEQ_STATUS, R.SEQ_EVPEND, R.GPIO_STATUS, R.GPIO_SWAPST, R.HP_ATTN, R.XR_ECCSB, R.XR_ECCDB, R.RQ_PI, R.RQ_CI, R.RQ_SEQX, R.RQ_LOST, R.RQ_STATUS, R.PP_STATUS, R.PP_COUNTS2, R.PWR_ON, R.PWR_RES, R.PWR_DST0, R.PWR_DST1, R.PWR_WSRC, R.FLT_LOG, R.FLT_LAST, R.FLT_WOPEN], fams := [(0x3ce0, 4), (0x1818, 32), (0x1820, 32), (0x44c0, 4)] }

theorem Dev.Keeps.reportRoom {w : Dev.Scope} {d₀ d : Dev}  (h : Dev.Keeps w d₀ d)
    (hw : Dev.reportRoomScope.le w = true := by decide) : Dev.Keeps w d₀ (d.reportRoom) := by
  refine h.step hw ?_
  have h : Dev.Keeps Dev.reportRoomScope d d := .refl
  unfold Dev.reportRoom
  exact Dev.Keeps.ite h.roomReturn.eccFlush h

/-- What `Dev.rqTimeout` may write. -/
abbrev Dev.rqTimeoutScope : Dev.Scope := { regs := [R.HP_ATTN] }

theorem Dev.Keeps.rqTimeout {w : Dev.Scope} {d₀ d : Dev}  (h : Dev.Keeps w d₀ d)
    (hw : Dev.rqTimeoutScope.le w = true := by decide) : Dev.Keeps w d₀ (d.rqTimeout) := by
  refine h.step hw ?_
  have h : Dev.Keeps Dev.rqTimeoutScope d d := .refl
  unfold Dev.rqTimeout
  exact h.rqAttn

/-- What `Dev.cqRun` may write, but for what the command does. -/
abbrev Dev.cqRunScope : Dev.Scope := { ring := true }

theorem Dev.Keeps.cqRun {w : Dev.Scope} {d₀ d : Dev} {ok : List Byte → Bool} {body : Dev → List Byte → Dev} (h : Dev.Keeps w d₀ d)
    (hf : ∀ x e, Dev.Keeps w d₀ x → Dev.Keeps w d₀ (body x e)) (hw : Dev.cqRunScope.le w = true := by decide) :
    Dev.Keeps w d₀ (d.cqRun ok body) := by
  unfold Dev.cqRun
  split
  · exact h
  · exact .ite h (.ite (h.step hw (Dev.Keeps.refl.upd (ring := nofun))) (hf _ _ (h.step hw (Dev.Keeps.refl.upd (ring := nofun)))))

/-- What `Dev.batchJoin` may write. -/
abbrev Dev.batchJoinScope : Dev.Scope := { ring := true, regs := [R.RQ_STATUS] }

theorem Dev.Keeps.batchJoin {w : Dev.Scope} {d₀ d : Dev} {op : Nat} {tag : Nat} {seq : Nat} {detail : Nat} (h : Dev.Keeps w d₀ d)
    (hw : Dev.batchJoinScope.le w = true := by decide) : Dev.Keeps w d₀ (d.batchJoin op tag seq detail) := by
  refine h.step hw ?_
  have h : Dev.Keeps Dev.batchJoinScope d d := .refl
  unfold Dev.batchJoin
  extract_lets e1
  split
  · exact (h.upd (ring := nofun)).put
  · exact h.upd (ring := nofun)

/-- What `Dev.cqSync` may write. -/
abbrev Dev.cqSyncScope : Dev.Scope := { mem := true, ring := true, regs := [R.HP_ATTN, R.XR_ECCSB, R.XR_ECCDB, R.CQ_CI, R.CQ_SEQX, R.CQ_COUNTS, R.RQ_PI, R.RQ_SEQX, R.RQ_STATUS] }

theorem Dev.Keeps.cqSync {w : Dev.Scope} {d₀ d : Dev} {e : List Byte} {status : Nat} {detail : Nat} (h : Dev.Keeps w d₀ d)
    (hw : Dev.cqSyncScope.le w = true := by decide) : Dev.Keeps w d₀ (d.cqSync e status detail) := by
  refine h.step hw ?_
  have h : Dev.Keeps Dev.cqSyncScope d d := .refl
  unfold Dev.cqSync
  extract_lets d1 d2
  have hd1 : Dev.Keeps Dev.cqSyncScope d d1 := h.batchJoin
  have hd2 : Dev.Keeps Dev.cqSyncScope d d2 := hd1.cqPass
  exact Dev.Keeps.ite h (Dev.Keeps.ite hd2.batchClose hd2)

/-- What `Dev.cmdPad` may write. -/
abbrev Dev.cmdPadScope : Dev.Scope := { mem := true, ring := true, regs := [R.HP_ATTN, R.XR_ECCSB, R.XR_ECCDB, R.CQ_CI, R.CQ_SEQX, R.CQ_COUNTS, R.RQ_PI, R.RQ_SEQX, R.RQ_STATUS] }

theorem Dev.Keeps.cmdPad {w : Dev.Scope} {d₀ d : Dev}  (h : Dev.Keeps w d₀ d)
    (hw : Dev.cmdPadScope.le w = true := by decide) : Dev.Keeps w d₀ (d.cmdPad) := by
  refine h.step hw ?_
  have h : Dev.Keeps Dev.cmdPadScope d d := .refl
  unfold Dev.cmdPad
  exact h.cqRun (fun _ _ h2 => h2.cqSync)

/-- What `Dev.cmdNop` may write. -/
abbrev Dev.cmdNopScope : Dev.Scope := { mem := true, ring := true, regs := [R.HP_ATTN, R.XR_ECCSB, R.XR_ECCDB, R.CQ_CI, R.CQ_SEQX, R.CQ_COUNTS, R.RQ_PI, R.RQ_SEQX, R.RQ_STATUS] }

theorem Dev.Keeps.cmdNop {w : Dev.Scope} {d₀ d : Dev}  (h : Dev.Keeps w d₀ d)
    (hw : Dev.cmdNopScope.le w = true := by decide) : Dev.Keeps w d₀ (d.cmdNop) := by
  refine h.step hw ?_
  have h : Dev.Keeps Dev.cmdNopScope d d := .refl
  unfold Dev.cmdNop
  exact h.cqRun (fun _ _ h2 => h2.cqSync)

/-- What `Dev.cqChecked` may write, but for what the command does. -/
abbrev Dev.cqCheckedScope : Dev.Scope := Dev.cqSyncScope

theorem Dev.Keeps.cqChecked {w : Dev.Scope} {d₀ d : Dev} {e : List Byte} {len : Nat} {states : List Nat} {one : Bool} {body : Dev → Dev}
    (h : Dev.Keeps w d₀ d) (hf : ∀ x, Dev.Keeps w d₀ x → Dev.Keeps w d₀ (body x))
    (hw : Dev.cqCheckedScope.le w = true := by decide) : Dev.Keeps w d₀ (d.cqChecked e len states one body) := by
  unfold Dev.cqChecked
  exact .ite (h.cqSync hw) (.ite (h.cqSync hw) (.ite (h.cqSync hw) (hf _ h)))

/-- What `Dev.cqRead` may write. -/
abbrev Dev.cqReadScope : Dev.Scope := { freeCount := true, staged := true, mem := true, tick := true, acq := true, hop := true, img := true, ct := true, aux := true, cal := true, seq := true, panel := true, hp := true, ring := true, cl := true, pp := true, pwr := true, flt := true, regs := [R.SYS_CTRL, R.SYS_STATUS, R.SYS_REASON, R.SYS_HALT_INFO, R.ACQ_STATUS, R.HOP_STATUS, R.CAL_STATUS, R.CAL_REASON, R.SEQ_STATUS, R.SEQ_EVPEND, R.GPIO_STATUS, R.GPIO_SWAPST, R.HP_ATTN, R.XR_ECCSB, R.XR_ECCDB, R.RQ_PI, R.RQ_CI, R.RQ_SEQX, R.RQ_LOST, R.RQ_STATUS, R.PP_STATUS, R.PP_COUNTS2, R.PWR_ON, R.PWR_RES, R.PWR_DST0, R.PWR_DST1, R.PWR_WSRC, R.FLT_LOG, R.FLT_LAST, R.FLT_WOPEN], fams := [(0x3ce0, 4), (0x1818, 32), (0x1820, 32), (0x44c0, 4)] }

theorem Dev.Keeps.cqRead {w : Dev.Scope} {d₀ d : Dev} {o : Nat} {n : Nat} (h : Dev.Keeps w d₀ d)
    (hw : Dev.cqReadScope.le w = true := by decide) : Dev.Keeps w d₀ (d.cqRead o n).2 := by
  refine h.step hw ?_
  have h : Dev.Keeps Dev.cqReadScope d d := .refl
  unfold Dev.cqRead
  exact h.eccTouch

/-- What `Dev.progLoad` may write. -/
abbrev Dev.progLoadScope : Dev.Scope := { mem := true, seq := true, ring := true, regs := [R.SEQ_STATUS, R.GPIO_SWAPST, R.HP_ATTN, R.XR_ECCSB, R.XR_ECCDB, R.RQ_PI, R.RQ_CI, R.RQ_SEQX, R.RQ_LOST, R.RQ_STATUS] }

theorem Dev.Keeps.progLoad {w : Dev.Scope} {d₀ d : Dev} {bs : List Byte} (h : Dev.Keeps w d₀ d)
    (hw : Dev.progLoadScope.le w = true := by decide) : Dev.Keeps w d₀ (d.progLoad bs) := by
  refine h.step hw ?_
  have h : Dev.Keeps Dev.progLoadScope d d := .refl
  unfold Dev.progLoad
  extract_lets d1 b1
  have hd1 : Dev.Keeps Dev.progLoadScope d d1 := h.swapEnd
  split
  · extract_lets d2 e1 d3
    have hd2 : Dev.Keeps Dev.progLoadScope d d2 := hd1.setImem
    have hd3 : Dev.Keeps Dev.progLoadScope d d3 := hd2.upd (seq := nofun)
    exact hd3.put.put

/-- What `Dev.cmdProgLoad` may write. -/
abbrev Dev.cmdProgLoadScope : Dev.Scope := { freeCount := true, staged := true, mem := true, tick := true, acq := true, hop := true, img := true, ct := true, aux := true, cal := true, seq := true, panel := true, hp := true, ring := true, cl := true, pp := true, pwr := true, flt := true, regs := [R.SYS_CTRL, R.SYS_STATUS, R.SYS_REASON, R.SYS_HALT_INFO, R.ACQ_STATUS, R.HOP_STATUS, R.CAL_STATUS, R.CAL_REASON, R.SEQ_STATUS, R.SEQ_EVPEND, R.GPIO_STATUS, R.GPIO_SWAPST, R.HP_ATTN, R.XR_ECCSB, R.XR_ECCDB, R.CQ_CI, R.CQ_SEQX, R.CQ_COUNTS, R.RQ_PI, R.RQ_CI, R.RQ_SEQX, R.RQ_LOST, R.RQ_STATUS, R.PP_STATUS, R.PP_COUNTS2, R.PWR_ON, R.PWR_RES, R.PWR_DST0, R.PWR_DST1, R.PWR_WSRC, R.FLT_LOG, R.FLT_LAST, R.FLT_WOPEN], fams := [(0x3ce0, 4), (0x1818, 32), (0x1820, 32), (0x44c0, 4)] }

theorem Dev.Keeps.cmdProgLoad {w : Dev.Scope} {d₀ d : Dev}  (h : Dev.Keeps w d₀ d)
    (hw : Dev.cmdProgLoadScope.le w = true := by decide) : Dev.Keeps w d₀ (d.cmdProgLoad) := by
  refine h.step hw ?_
  have h : Dev.Keeps Dev.cmdProgLoadScope d d := .refl
  unfold Dev.cmdProgLoad
  refine Dev.Keeps.cqRun h ?_
  intro d' x hd1'
  extract_lets area1 len1
  refine Dev.Keeps.cqChecked hd1' ?_
  intro d' hd2'
  extract_lets n1 bs1
  split
  · exact hd2'.cqSync
  · split
    · exact hd2'.cqSync
    · split
      · rename_i q3 _ q3a _
        have hq3a : Dev.Keeps Dev.cmdProgLoadScope d q3a := Dev.Keeps.of_snd ‹_› hd2'.cqRead
        split
        · exact hq3a.cqSync
        · exact (Dev.Keeps.ite hq3a.progLoad hq3a).cqSync

/-- What `Dev.progVerify` may write. -/
abbrev Dev.progVerifyScope : Dev.Scope := { regs := [R.SEQ_STATUS, R.SEQ_VRES] }

theorem Dev.Keeps.progVerify {w : Dev.Scope} {d₀ d : Dev} {written : Bool} (h : Dev.Keeps w d₀ d)
    (hw : Dev.progVerifyScope.le w = true := by decide) : Dev.Keeps w d₀ (d.progVerify written).2 := by
  refine h.step hw ?_
  have h : Dev.Keeps Dev.progVerifyScope d d := .refl
  unfold Dev.progVerify
  split
  · exact h
  · extract_lets r1 r2
    exact Dev.Keeps.ite_snd h h.setVres.putB

/-- What `Dev.cmdProgVerify` may write. -/
abbrev Dev.cmdProgVerifyScope : Dev.Scope := { mem := true, ring := true, regs := [R.SEQ_STATUS, R.SEQ_VRES, R.HP_ATTN, R.XR_ECCSB, R.XR_ECCDB, R.CQ_CI, R.CQ_SEQX, R.CQ_COUNTS, R.RQ_PI, R.RQ_SEQX, R.RQ_STATUS] }

theorem Dev.Keeps.cmdProgVerify {w : Dev.Scope} {d₀ d : Dev} {written : Bool} (h : Dev.Keeps w d₀ d)
    (hw : Dev.cmdProgVerifyScope.le w = true := by decide) : Dev.Keeps w d₀ (d.cmdProgVerify written) := by
  refine h.step hw ?_
  have h : Dev.Keeps Dev.cmdProgVerifyScope d d := .refl
  unfold Dev.cmdProgVerify
  refine Dev.Keeps.cqRun h ?_
  intro d' x hd1'
  refine Dev.Keeps.cqChecked hd1' ?_
  intro d' hd2'
  split
  · rename_i q3 _ q3a _
    have hq3a : Dev.Keeps Dev.cmdProgVerifyScope d q3a := Dev.Keeps.of_snd ‹_› hd2'.progVerify
    exact hq3a.cqSync

/-- What `Dev.asyncStart` may write. -/
abbrev Dev.asyncStartScope : Dev.Scope := { ring := true, regs := [R.RQ_STATUS] }

theorem Dev.Keeps.asyncStart {w : Dev.Scope} {d₀ d : Dev} {op tag seq arg : Nat} (h : Dev.Keeps w d₀ d)
    (hw : Dev.asyncStartScope.le w = true := by decide) : Dev.Keeps w d₀ (d.asyncStart op tag seq arg).2 := by
  refine h.step hw ?_
  unfold Dev.asyncStart
  cases d.ring.batch with
  | none => exact Dev.Keeps.upd (Dev.Keeps.put (n := d.get R.RQ_STATUS_HELD + 1) .refl (f := R.RQ_STATUS_HELD)) (ring := nofun)
  | some b => exact Dev.Keeps.refl.upd (ring := nofun)

/-- What `Dev.cqAsync` may write. -/
abbrev Dev.cqAsyncScope : Dev.Scope := Dev.cqSyncScope

theorem Dev.Keeps.cqAsync {w : Dev.Scope} {d₀ d : Dev} {e : List Byte} {arg : Nat} (h : Dev.Keeps w d₀ d)
    (hw : Dev.cqAsyncScope.le w = true := by decide) : Dev.Keeps w d₀ (d.cqAsync e arg).2 :=
  (h.asyncStart (Dev.Scope.le_trans rfl hw)).cqPass (Dev.Scope.le_trans rfl hw)

/-- What `Dev.cmdProgSwap` may write. -/
abbrev Dev.cmdProgSwapScope : Dev.Scope := { mem := true, seq := true, panel := true, ring := true, regs := [R.SYS_STATUS, R.SEQ_STATUS, R.SEQ_IMGVER, R.GPIO_STATUS, R.GPIO_SWAPST, R.HP_ATTN, R.XR_ECCSB, R.XR_ECCDB, R.CQ_CI, R.CQ_SEQX, R.CQ_COUNTS, R.RQ_PI, R.RQ_CI, R.RQ_SEQX, R.RQ_LOST, R.RQ_STATUS], fams := [(0x240c, 16), (0x2408, 16), (0x2400, 16), (0x2404, 16)] }

theorem Dev.Keeps.cmdProgSwap {w : Dev.Scope} {d₀ d : Dev}  (h : Dev.Keeps w d₀ d)
    (hw : Dev.cmdProgSwapScope.le w = true := by decide) : Dev.Keeps w d₀ (d.cmdProgSwap) := by
  refine h.step hw ?_
  have h : Dev.Keeps Dev.cmdProgSwapScope d d := .refl
  unfold Dev.cmdProgSwap
  refine Dev.Keeps.cqRun h ?_
  intro d' x hd1'
  extract_lets tag1
  refine Dev.Keeps.cqChecked hd1' ?_
  intro d' hd2'
  extract_lets d1
  have hd1 : Dev.Keeps Dev.cmdProgSwapScope d d1 := hd2'.put.put.put
  split
  · exact hd1.report.cqSync
  · split
    · exact hd2'.swapRefuse.cqSync
    · split
      · split
        · rename_i q4 _ q4a _
          have hq4a : Dev.Keeps Dev.cmdProgSwapScope d q4a := Dev.Keeps.of_snd ‹_› hd2'.cqAsync
          extract_lets e1
          exact (hq4a.upd (seq := nofun)).put
      · split
        · exact hd2'.cqSync
        · extract_lets d2 d3
          have hd2 : Dev.Keeps Dev.cmdProgSwapScope d d2 := hd2'.switchBanks.swapDone
          have hd3 : Dev.Keeps Dev.cmdProgSwapScope d d3 := hd2.setReg
          exact hd3.report.cqSync.activate

/-- What `Dev.cmdCalRun` may write. -/
abbrev Dev.cmdCalRunScope : Dev.Scope := { staged := true, mem := true, aux := true, cal := true, ring := true, regs := [R.CAL_STATUS, R.CAL_REASON, R.SEQ_EVPEND, R.HP_ATTN, R.XR_ECCSB, R.XR_ECCDB, R.CQ_CI, R.CQ_SEQX, R.CQ_COUNTS, R.RQ_PI, R.RQ_CI, R.RQ_SEQX, R.RQ_LOST, R.RQ_STATUS], fams := [(0x1818, 32)] }

theorem Dev.Keeps.cmdCalRun {w : Dev.Scope} {d₀ d : Dev}  (h : Dev.Keeps w d₀ d)
    (hw : Dev.cmdCalRunScope.le w = true := by decide) : Dev.Keeps w d₀ (d.cmdCalRun) := by
  refine h.step hw ?_
  have h : Dev.Keeps Dev.cmdCalRunScope d d := .refl
  unfold Dev.cmdCalRun
  refine Dev.Keeps.cqRun h ?_
  intro d' x hd1'
  extract_lets kind1
  refine Dev.Keeps.cqChecked hd1' ?_
  intro d' hd2'
  split
  · rename_i q3 _ q3a _
    have hq3a : Dev.Keeps Dev.cmdCalRunScope d q3a := Dev.Keeps.of_snd ‹_› hd2'.cqAsync
    split
    · exact hq3a.calRefuse.endAsync
    · exact hq3a.calBegin

/-- What `Dev.cmdCalSave` may write. -/
abbrev Dev.cmdCalSaveScope : Dev.Scope := { freeCount := true, staged := true, mem := true, tick := true, acq := true, hop := true, img := true, ct := true, aux := true, cal := true, seq := true, panel := true, hp := true, ring := true, cl := true, pp := true, pwr := true, flt := true, regs := [R.SYS_CTRL, R.SYS_STATUS, R.SYS_REASON, R.SYS_HALT_INFO, R.ACQ_STATUS, R.HOP_STATUS, R.CAL_STATUS, R.CAL_REASON, R.SEQ_STATUS, R.SEQ_EVPEND, R.GPIO_STATUS, R.GPIO_SWAPST, R.HP_ATTN, R.XR_ECCSB, R.XR_ECCDB, R.CQ_CI, R.CQ_SEQX, R.CQ_COUNTS, R.RQ_PI, R.RQ_CI, R.RQ_SEQX, R.RQ_LOST, R.RQ_STATUS, R.PP_STATUS, R.PP_COUNTS2, R.PWR_ON, R.PWR_RES, R.PWR_DST0, R.PWR_DST1, R.PWR_WSRC, R.FLT_LOG, R.FLT_LAST, R.FLT_WOPEN], fams := [(0x3ce0, 4), (0x1818, 32), (0x1820, 32), (0x44c0, 4)] }

theorem Dev.Keeps.cmdCalSave {w : Dev.Scope} {d₀ d : Dev}  (h : Dev.Keeps w d₀ d)
    (hw : Dev.cmdCalSaveScope.le w = true := by decide) : Dev.Keeps w d₀ (d.cmdCalSave) := by
  refine h.step hw ?_
  have h : Dev.Keeps Dev.cmdCalSaveScope d d := .refl
  unfold Dev.cmdCalSave
  refine Dev.Keeps.cqRun h ?_
  intro d' x hd1'
  extract_lets o1 n1
  refine Dev.Keeps.cqChecked hd1' ?_
  intro d' hd2'
  extract_lets im1
  exact Dev.Keeps.ite hd2'.cqSync (Dev.Keeps.ite hd2'.cqSync hd2'.xwriteEcc.cqSync)

/-- What `Dev.putOffs` may write. -/
abbrev Dev.putOffsScope : Dev.Scope := { fams := [(0x440, 4)] }

theorem Dev.Keeps.putOffs {w : Dev.Scope} {d₀ d : Dev} {v : CalVals} (h : Dev.Keeps w d₀ d)
    (hw : Dev.putOffsScope.le w = true := by decide) : Dev.Keeps w d₀ (d.putOffs v) := by
  refine h.step hw ?_
  have h : Dev.Keeps Dev.putOffsScope d d := .refl
  unfold Dev.putOffs
  exact Dev.Keeps.foldl (fun _ _ h2 => (h2.put (Dev.Scope.has_fam 0x440 4 _)).put (Dev.Scope.has_fam 0x440 4 _)) h

/-- What `Dev.calLoad` may write. -/
abbrev Dev.calLoadScope : Dev.Scope := { staged := true, img := true, aux := true, cal := true, regs := [R.IMG_THR, R.CAL_STATUS, R.CAL_LSIG], fams := [(0x440, 4), (0x1c80, 4), (0x4800, 4)] }

theorem Dev.Keeps.calLoad {w : Dev.Scope} {d₀ d : Dev} {bs : List Byte} (h : Dev.Keeps w d₀ d)
    (hw : Dev.calLoadScope.le w = true := by decide) : Dev.Keeps w d₀ (d.calLoad bs) := by
  refine h.step hw ?_
  have h : Dev.Keeps Dev.calLoadScope d d := .refl
  unfold Dev.calLoad
  extract_lets m1 d1 d2 d3 v1 e1 d4 gone1 e2 d5 d6 d7 d8 e3
  have hd1 : Dev.Keeps Dev.calLoadScope d d1 := h.setReg
  have hd2 : Dev.Keeps Dev.calLoadScope d d2 := hd1.put
  have hd3 : Dev.Keeps Dev.calLoadScope d d3 := hd2.put
  have hd4 : Dev.Keeps Dev.calLoadScope d d4 := Dev.Keeps.ite (hd3.upd (img := nofun)) hd3
  have hd5 : Dev.Keeps Dev.calLoadScope d d5 := hd4.upd (cal := nofun)
  have hd6 : Dev.Keeps Dev.calLoadScope d d6 := hd5.stageOffs
  have hd7 : Dev.Keeps Dev.calLoadScope d d7 := hd4.putOffs.putGains
  have hd8 : Dev.Keeps Dev.calLoadScope d d8 := Dev.Keeps.ite (Dev.Keeps.foldl (fun _ _ h9 => h9.put) hd6) (Dev.Keeps.ite hd7.put.put hd7)
  split
  · extract_lets d9 e4 d10
    have hd9 : Dev.Keeps Dev.calLoadScope d d9 := hd8.setConv
    have hd10 : Dev.Keeps Dev.calLoadScope d d10 := hd9.setConv
    exact hd10.put
  · exact hd8

/-- What `Dev.cmdCalLoad` may write. -/
abbrev Dev.cmdCalLoadScope : Dev.Scope := { freeCount := true, staged := true, mem := true, tick := true, acq := true, hop := true, img := true, ct := true, aux := true, cal := true, seq := true, panel := true, hp := true, ring := true, cl := true, pp := true, pwr := true, flt := true, regs := [R.SYS_CTRL, R.SYS_STATUS, R.SYS_REASON, R.SYS_HALT_INFO, R.ACQ_STATUS, R.HOP_STATUS, R.IMG_THR, R.CAL_STATUS, R.CAL_REASON, R.CAL_LSIG, R.SEQ_STATUS, R.SEQ_EVPEND, R.GPIO_STATUS, R.GPIO_SWAPST, R.HP_ATTN, R.XR_ECCSB, R.XR_ECCDB, R.CQ_CI, R.CQ_SEQX, R.CQ_COUNTS, R.RQ_PI, R.RQ_CI, R.RQ_SEQX, R.RQ_LOST, R.RQ_STATUS, R.PP_STATUS, R.PP_COUNTS2, R.PWR_ON, R.PWR_RES, R.PWR_DST0, R.PWR_DST1, R.PWR_WSRC, R.FLT_LOG, R.FLT_LAST, R.FLT_WOPEN], fams := [(0x3ce0, 4), (0x1818, 32), (0x1820, 32), (0x44c0, 4), (0x440, 4), (0x1c80, 4), (0x4800, 4)] }

theorem Dev.Keeps.cmdCalLoad {w : Dev.Scope} {d₀ d : Dev}  (h : Dev.Keeps w d₀ d)
    (hw : Dev.cmdCalLoadScope.le w = true := by decide) : Dev.Keeps w d₀ (d.cmdCalLoad) := by
  refine h.step hw ?_
  have h : Dev.Keeps Dev.cmdCalLoadScope d d := .refl
  unfold Dev.cmdCalLoad
  refine Dev.Keeps.cqRun h ?_
  intro d' x hd1'
  extract_lets o1 n1
  refine Dev.Keeps.cqChecked hd1' ?_
  intro d' hd2'
  extract_lets bs1
  split
  · exact hd2'.cqSync
  · split
    · exact hd2'.cqSync
    · split
      · rename_i q3 _ q3a _
        have hq3a : Dev.Keeps Dev.cmdCalLoadScope d q3a := Dev.Keeps.of_snd ‹_› hd2'.cqRead
        split
        · exact hq3a.cqSync
        · split
          · exact hq3a.cqSync
          · exact hq3a.calLoad.cqSync

/-- What `Dev.cmdRegionSet` may write. -/
abbrev Dev.cmdRegionSetScope : Dev.Scope := { staged := true, mem := true, ring := true, regs := [R.HP_ATTN, R.XR_ECCSB, R.XR_ECCDB, R.CQ_CI, R.CQ_SEQX, R.CQ_COUNTS, R.RQ_PI, R.RQ_SEQX, R.RQ_STATUS], fams := [(0x1100, 4), (0x1180, 4), (0x1200, 4)] }

theorem Dev.Keeps.cmdRegionSet {w : Dev.Scope} {d₀ d : Dev}  (h : Dev.Keeps w d₀ d)
    (hw : Dev.cmdRegionSetScope.le w = true := by decide) : Dev.Keeps w d₀ (d.cmdRegionSet) := by
  refine h.step hw ?_
  have h : Dev.Keeps Dev.cmdRegionSetScope d d := .refl
  unfold Dev.cmdRegionSet
  refine Dev.Keeps.cqRun h ?_
  intro d' x hd1'
  extract_lets first1 n1 l1
  refine Dev.Keeps.cqChecked hd1' ?_
  intro d' hd2'
  extract_lets d1
  have hd1 : Dev.Keeps Dev.cmdRegionSetScope d d1 := Dev.Keeps.ite (Dev.Keeps.foldl (fun _ _ h4 => ((h4.stageBusy rfl (Dev.Scope.has_fam 0x1100 4 _)).stageBusy rfl (Dev.Scope.has_fam 0x1180 4 _)).stageBusy rfl (Dev.Scope.has_fam 0x1200 4 _)) hd2') hd2'
  split
  · exact hd2'.cqSync
  · split
    · exact hd2'.cqSync
    · split
      · exact hd2'.cqSync
      · exact hd1.cqSync

/-- What `Dev.cmdKeymapSet` may write. -/
abbrev Dev.cmdKeymapSetScope : Dev.Scope := { mem := true, panel := true, ring := true, regs := [R.ED_LEVEL0, R.ED_LEVEL1, R.HP_ATTN, R.XR_ECCSB, R.XR_ECCDB, R.CQ_CI, R.CQ_SEQX, R.CQ_COUNTS, R.RQ_PI, R.RQ_SEQX, R.RQ_STATUS], fams := [(0x2804, 8), (0x2800, 8)] }

theorem Dev.Keeps.cmdKeymapSet {w : Dev.Scope} {d₀ d : Dev}  (h : Dev.Keeps w d₀ d)
    (hw : Dev.cmdKeymapSetScope.le w = true := by decide) : Dev.Keeps w d₀ (d.cmdKeymapSet) := by
  refine h.step hw ?_
  have h : Dev.Keeps Dev.cmdKeymapSetScope d d := .refl
  unfold Dev.cmdKeymapSet
  refine Dev.Keeps.cqRun h ?_
  intro d' x hd1'
  extract_lets n1 l1
  refine Dev.Keeps.cqChecked hd1' ?_
  intro d' hd2'
  extract_lets e1 d1
  have hd1 : Dev.Keeps Dev.cmdKeymapSetScope d d1 := Dev.Keeps.ite (hd2'.upd (panel := nofun)) (Dev.Keeps.foldl (fun _ _ h4 => h4.edCfgWrite) hd2')
  split
  · exact hd2'.cqSync
  · split
    · exact hd2'.cqSync
    · exact hd1.cqSync

/-- What `Dev.cmdHopTableSet` may write. -/
abbrev Dev.cmdHopTableSetScope : Dev.Scope := { staged := true, mem := true, ring := true, regs := [R.HP_ATTN, R.XR_ECCSB, R.XR_ECCDB, R.CQ_CI, R.CQ_SEQX, R.CQ_COUNTS, R.RQ_PI, R.RQ_SEQX, R.RQ_STATUS], fams := [(0x820, 4)] }

theorem Dev.Keeps.cmdHopTableSet {w : Dev.Scope} {d₀ d : Dev}  (h : Dev.Keeps w d₀ d)
    (hw : Dev.cmdHopTableSetScope.le w = true := by decide) : Dev.Keeps w d₀ (d.cmdHopTableSet) := by
  refine h.step hw ?_
  have h : Dev.Keeps Dev.cmdHopTableSetScope d d := .refl
  unfold Dev.cmdHopTableSet
  extract_lets hs1
  refine Dev.Keeps.cqRun h ?_
  intro d' x hd1'
  extract_lets w1
  refine Dev.Keeps.cqChecked hd1' ?_
  intro d' hd2'
  extract_lets ch1 ws1 d1
  have hd1 : Dev.Keeps Dev.cmdHopTableSetScope d d1 := Dev.Keeps.foldl (fun _ _ h4 => h4.stageBusy rfl (Dev.Scope.has_fam 0x820 4 _)) hd2'
  split
  · exact hd2'.cqSync
  · split
    · split
      · exact hd2'.cqSync
      · split
        · exact hd2'.cqSync
        · exact hd1.cqSync
    · exact (Dev.Keeps.foldl (fun _ _ h5 => h5.stageBusy rfl (Dev.Scope.has_fam 0x820 4 _)) hd2').cqSync

/-- What `Dev.cmdImageDump` may write. -/
abbrev Dev.cmdImageDumpScope : Dev.Scope := { mem := true, img := true, ring := true, regs := [R.HP_ATTN, R.XR_ECCSB, R.XR_ECCDB, R.CQ_CI, R.CQ_SEQX, R.CQ_COUNTS, R.RQ_PI, R.RQ_SEQX, R.RQ_STATUS] }

theorem Dev.Keeps.cmdImageDump {w : Dev.Scope} {d₀ d : Dev}  (h : Dev.Keeps w d₀ d)
    (hw : Dev.cmdImageDumpScope.le w = true := by decide) : Dev.Keeps w d₀ (d.cmdImageDump) := by
  refine h.step hw ?_
  have h : Dev.Keeps Dev.cmdImageDumpScope d d := .refl
  unfold Dev.cmdImageDump
  refine Dev.Keeps.cqRun h ?_
  intro d' x hd1'
  extract_lets what1 n1
  refine Dev.Keeps.cqChecked hd1' ?_
  intro d' hd2'
  split
  · exact hd2'.cqSync
  · split
    · exact hd2'.cqSync
    · split
      · rename_i q3 _ q3a _
        have hq3a : Dev.Keeps Dev.cmdImageDumpScope d q3a := Dev.Keeps.of_snd ‹_› hd2'.cqAsync
        extract_lets e1
        exact hq3a.upd (img := nofun)

/-- What `Dev.cmdPeriXfer` may write. -/
abbrev Dev.cmdPeriXferScope : Dev.Scope := { freeCount := true, staged := true, mem := true, tick := true, acq := true, hop := true, img := true, ct := true, aux := true, cal := true, seq := true, panel := true, hp := true, ring := true, cl := true, pp := true, pwr := true, flt := true, regs := [R.SYS_CTRL, R.SYS_STATUS, R.SYS_REASON, R.SYS_HALT_INFO, R.ACQ_STATUS, R.HOP_STATUS, R.CAL_STATUS, R.CAL_REASON, R.SEQ_STATUS, R.SEQ_EVPEND, R.GPIO_STATUS, R.GPIO_SWAPST, R.HP_ATTN, R.XR_ECCSB, R.XR_ECCDB, R.CQ_CI, R.CQ_SEQX, R.CQ_COUNTS, R.RQ_PI, R.RQ_CI, R.RQ_SEQX, R.RQ_LOST, R.RQ_STATUS, R.PP_STATUS, R.PP_COUNTS2, R.PWR_ON, R.PWR_RES, R.PWR_DST0, R.PWR_DST1, R.PWR_WSRC, R.FLT_LOG, R.FLT_LAST, R.FLT_WOPEN], fams := [(0x3ce0, 4), (0x1818, 32), (0x1820, 32), (0x44c0, 4)] }

theorem Dev.Keeps.cmdPeriXfer {w : Dev.Scope} {d₀ d : Dev}  (h : Dev.Keeps w d₀ d)
    (hw : Dev.cmdPeriXferScope.le w = true := by decide) : Dev.Keeps w d₀ (d.cmdPeriXfer) := by
  refine h.step hw ?_
  have h : Dev.Keeps Dev.cmdPeriXferScope d d := .refl
  unfold Dev.cmdPeriXfer
  refine Dev.Keeps.cqRun h ?_
  intro d' x hd1'
  extract_lets e1
  refine Dev.Keeps.cqChecked hd1' ?_
  intro d' hd2'
  split
  · exact hd2'.cqSync
  · split
    · exact hd2'.cqSync
    · split
      · exact hd2'.cqSync
      · split
        · exact hd2'.cqSync
        · split
          · rename_i q3 _ q3a _
            have hq3a : Dev.Keeps Dev.cmdPeriXferScope d q3a := Dev.Keeps.of_snd ‹_› hd2'.cqAsync
            exact hq3a.ppJoin

/-- What `Dev.cmdPowerReq` may write, but for what the request does. -/
abbrev Dev.cmdPowerReqScope : Dev.Scope := { Dev.cqSyncScope with ring := true }

theorem Dev.Keeps.cmdPowerReq {w : Dev.Scope} {d₀ d : Dev} {acts : Nat → Bool} {go : Dev → Nat → Nat → Async → Dev}
    (h : Dev.Keeps w d₀ d) (hf : ∀ x on off a, Dev.Keeps w d₀ x → Dev.Keeps w d₀ (go x on off a))
    (hw : Dev.cmdPowerReqScope.le w = true := by decide) : Dev.Keeps w d₀ (d.cmdPowerReq acts go) := by
  unfold Dev.cmdPowerReq
  refine Dev.Keeps.cqRun h (fun x e hx => hx.cqChecked (fun x hx => ?_) (Dev.Scope.le_trans rfl hw)) (Dev.Scope.le_trans rfl hw)
  exact .ite (hx.cqSync (Dev.Scope.le_trans rfl hw)) (.ite (hx.cqSync (Dev.Scope.le_trans rfl hw)) (.ite (hx.cqSync (Dev.Scope.le_trans rfl hw)) (.ite (hx.cqSync (Dev.Scope.le_trans rfl hw)) (hf _ _ _ _ (hx.cqAsync (Dev.Scope.le_trans rfl hw))))))

/-- What `Dev.cmdPowerDomains` may write. -/
abbrev Dev.cmdPowerDomainsScope : Dev.Scope := { freeCount := true, staged := true, mem := true, tick := true, acq := true, hop := true, img := true, ct := true, aux := true, cal := true, seq := true, panel := true, hp := true, ring := true, cl := true, pp := true, pwr := true, flt := true, regs := [R.SYS_CTRL, R.SYS_STATUS, R.SYS_REASON, R.SYS_HALT_INFO, R.ACQ_STATUS, R.HOP_STATUS, R.AUX_COUNTS, R.CAL_STATUS, R.CAL_REASON, R.CAL_COUNT0, R.CAL_COUNT1, R.SEQ_STATUS, R.SEQ_EVPEND, R.GPIO_STATUS, R.GPIO_SWAPST, R.HP_ATTN, R.XR_ECCSB, R.XR_ECCDB, R.CQ_CI, R.CQ_SEQX, R.CQ_COUNTS, R.RQ_PI, R.RQ_CI, R.RQ_SEQX, R.RQ_LOST, R.RQ_STATUS, R.PP_STATUS, R.PP_COUNTS2, R.PWR_ON, R.PWR_RES, R.PWR_DST0, R.PWR_DST1, R.PWR_WSRC, R.FLT_LOG, R.FLT_LAST, R.FLT_WOPEN], fams := [(0x1818, 32), (0x1820, 32), (0x3ce0, 4), (0x44c0, 4), (0x1c58, 8), (0x1c5c, 8), (0x1c30, 8), (0x1c34, 8)] }

theorem Dev.Keeps.cmdPowerDomains {w : Dev.Scope} {d₀ d : Dev}  (h : Dev.Keeps w d₀ d)
    (hw : Dev.cmdPowerDomainsScope.le w = true := by decide) : Dev.Keeps w d₀ (d.cmdPowerDomains) := by
  refine h.step hw ?_
  have h : Dev.Keeps Dev.cmdPowerDomainsScope d d := .refl
  unfold Dev.cmdPowerDomains
  exact h.cmdPowerReq (fun _ _ _ _ h2 => h2.domRequest)

/-- What `Dev.cmdPowerHeath` may write. -/
abbrev Dev.cmdPowerHeathScope : Dev.Scope := { mem := true, ring := true, pwr := true, regs := [R.HP_ATTN, R.XR_STATUS, R.XR_ECCSB, R.XR_ECCDB, R.CQ_CI, R.CQ_SEQX, R.CQ_COUNTS, R.RQ_PI, R.RQ_CI, R.RQ_SEQX, R.RQ_LOST, R.RQ_STATUS, R.PWR_RES] }

theorem Dev.Keeps.cmdPowerHeath {w : Dev.Scope} {d₀ d : Dev}  (h : Dev.Keeps w d₀ d)
    (hw : Dev.cmdPowerHeathScope.le w = true := by decide) : Dev.Keeps w d₀ (d.cmdPowerHeath) := by
  refine h.step hw ?_
  have h : Dev.Keeps Dev.cmdPowerHeathScope d d := .refl
  unfold Dev.cmdPowerHeath
  exact h.cmdPowerReq (fun _ _ _ _ h2 => h2.heathRequest)

/-- What `Dev.cmdPowerFallow` may write. -/
abbrev Dev.cmdPowerFallowScope : Dev.Scope := { freeCount := true, staged := true, mem := true, tick := true, acq := true, hop := true, img := true, ct := true, aux := true, cal := true, seq := true, panel := true, hp := true, ring := true, cl := true, pp := true, pwr := true, flt := true, regs := [R.SYS_CTRL, R.SYS_STATUS, R.SYS_REASON, R.SYS_HALT_INFO, R.ACQ_STATUS, R.HOP_STATUS, R.AUX_COUNTS, R.CAL_STATUS, R.CAL_REASON, R.CAL_COUNT0, R.CAL_COUNT1, R.SEQ_STATUS, R.SEQ_EVPEND, R.GPIO_STATUS, R.GPIO_SWAPST, R.HP_STATUS, R.HP_ATTN, R.XR_ECCSB, R.XR_ECCDB, R.CQ_CTRL, R.CQ_CI, R.CQ_SEQX, R.CQ_COUNTS, R.RQ_CTRL, R.RQ_PI, R.RQ_CI, R.RQ_SEQX, R.RQ_LOST, R.RQ_STATUS, R.PP_STATUS, R.PP_COUNTS2, R.PWR_ON, R.PWR_RES, R.PWR_DST0, R.PWR_DST1, R.PWR_WSRC, R.PWR_COUNTS, R.FLT_LOG, R.FLT_LAST, R.FLT_WOPEN], fams := [(0x3ce0, 4), (0x1818, 32), (0x1820, 32), (0x44c0, 4), (0x1c58, 8), (0x1c5c, 8), (0x1c30, 8), (0x1c34, 8)] }

theorem Dev.Keeps.cmdPowerFallow {w : Dev.Scope} {d₀ d : Dev}  (h : Dev.Keeps w d₀ d)
    (hw : Dev.cmdPowerFallowScope.le w = true := by decide) : Dev.Keeps w d₀ (d.cmdPowerFallow) := by
  refine h.step hw ?_
  have h : Dev.Keeps Dev.cmdPowerFallowScope d d := .refl
  unfold Dev.cmdPowerFallow
  exact h.cmdPowerReq (fun _ _ _ _ h2 => h2.fallowRequest)

/-- What `Dev.meadowRequest` may write. -/
abbrev Dev.meadowRequestScope : Dev.Scope := { freeCount := true, staged := true, mem := true, tick := true, acq := true, hop := true, img := true, ct := true, aux := true, cal := true, seq := true, panel := true, hp := true, ring := true, cl := true, pp := true, pwr := true, flt := true, regs := [R.SYS_CTRL, R.SYS_STATUS, R.SYS_REASON, R.SYS_HALT_INFO, R.ACQ_STATUS, R.HOP_STATUS, R.AUX_COUNTS, R.CAL_STATUS, R.CAL_REASON, R.CAL_COUNT0, R.CAL_COUNT1, R.SEQ_STATUS, R.SEQ_EVPEND, R.GPIO_STATUS, R.GPIO_SWAPST, R.HP_ATTN, R.XR_ECCSB, R.XR_ECCDB, R.RQ_PI, R.RQ_CI, R.RQ_SEQX, R.RQ_LOST, R.RQ_STATUS, R.PP_STATUS, R.PP_COUNTS2, R.PWR_ON, R.PWR_RES, R.PWR_DST0, R.PWR_DST1, R.PWR_WSRC, R.FLT_LOG, R.FLT_LAST, R.FLT_WOPEN], fams := [(0x1818, 32), (0x1820, 32), (0x3ce0, 4), (0x44c0, 4), (0x1c58, 8), (0x1c5c, 8), (0x1c30, 8), (0x1c34, 8)] }

theorem Dev.Keeps.meadowRequest {w : Dev.Scope} {d₀ d : Dev} {cmd : Async} (h : Dev.Keeps w d₀ d)
    (hw : Dev.meadowRequestScope.le w = true := by decide) : Dev.Keeps w d₀ (d.meadowRequest cmd) := by
  refine h.step hw ?_
  have h : Dev.Keeps Dev.meadowRequestScope d d := .refl
  unfold Dev.meadowRequest
  extract_lets set1
  exact h.domRequest

/-- What `Dev.cmdPowerMeadow` may write. -/
abbrev Dev.cmdPowerMeadowScope : Dev.Scope := { freeCount := true, staged := true, mem := true, tick := true, acq := true, hop := true, img := true, ct := true, aux := true, cal := true, seq := true, panel := true, hp := true, ring := true, cl := true, pp := true, pwr := true, flt := true, regs := [R.SYS_CTRL, R.SYS_STATUS, R.SYS_REASON, R.SYS_HALT_INFO, R.ACQ_STATUS, R.HOP_STATUS, R.AUX_COUNTS, R.CAL_STATUS, R.CAL_REASON, R.CAL_COUNT0, R.CAL_COUNT1, R.SEQ_STATUS, R.SEQ_EVPEND, R.GPIO_STATUS, R.GPIO_SWAPST, R.HP_ATTN, R.XR_ECCSB, R.XR_ECCDB, R.CQ_CI, R.CQ_SEQX, R.CQ_COUNTS, R.RQ_PI, R.RQ_CI, R.RQ_SEQX, R.RQ_LOST, R.RQ_STATUS, R.PP_STATUS, R.PP_COUNTS2, R.PWR_ON, R.PWR_RES, R.PWR_DST0, R.PWR_DST1, R.PWR_WSRC, R.FLT_LOG, R.FLT_LAST, R.FLT_WOPEN], fams := [(0x1818, 32), (0x1820, 32), (0x3ce0, 4), (0x44c0, 4), (0x1c58, 8), (0x1c5c, 8), (0x1c30, 8), (0x1c34, 8)] }

theorem Dev.Keeps.cmdPowerMeadow {w : Dev.Scope} {d₀ d : Dev}  (h : Dev.Keeps w d₀ d)
    (hw : Dev.cmdPowerMeadowScope.le w = true := by decide) : Dev.Keeps w d₀ (d.cmdPowerMeadow) := by
  refine h.step hw ?_
  have h : Dev.Keeps Dev.cmdPowerMeadowScope d d := .refl
  unfold Dev.cmdPowerMeadow
  exact h.cmdPowerReq (fun _ _ _ _ h2 => h2.meadowRequest)

/-- What `Dev.cmdClusterCfg` may write, but for what the command does. -/
abbrev Dev.cmdClusterCfgScope : Dev.Scope := { Dev.cqSyncScope with ring := true }

theorem Dev.Keeps.cmdClusterCfg {w : Dev.Scope} {d₀ d : Dev} {acts : Nat → Bool} {go : Dev → Nat → Async → Dev}
    (h : Dev.Keeps w d₀ d) (hf : ∀ x n a, Dev.Keeps w d₀ x → Dev.Keeps w d₀ (go x n a))
    (hw : Dev.cmdClusterCfgScope.le w = true := by decide) : Dev.Keeps w d₀ (d.cmdClusterCfg acts go) := by
  unfold Dev.cmdClusterCfg
  refine Dev.Keeps.cqRun h (fun x e hx => ?_) (Dev.Scope.le_trans rfl hw)
  have hs : ∀ n m, Dev.Keeps w d₀ (x.cqSync e n m) := fun n m => hx.cqSync (Dev.Scope.le_trans rfl hw)
  exact .ite (hs _ _) (.ite (hs _ _) (.ite (hs _ _) (.ite (hs _ _) (.ite (hs _ _) (.ite (hs _ _) (hf _ _ _ (hx.cqAsync (Dev.Scope.le_trans rfl hw))))))))

/-- What `Dev.enumEnd` may write. -/
abbrev Dev.enumEndScope : Dev.Scope := { mem := true, ring := true, cl := true, regs := [R.HP_ATTN, R.RQ_PI, R.RQ_SEQX, R.RQ_STATUS] }

theorem Dev.Keeps.enumEnd {w : Dev.Scope} {d₀ d : Dev} {status : Nat} {detail : Nat} (h : Dev.Keeps w d₀ d)
    (hw : Dev.enumEndScope.le w = true := by decide) : Dev.Keeps w d₀ (d.enumEnd status detail) := by
  refine h.step hw ?_
  have h : Dev.Keeps Dev.enumEndScope d d := .refl
  unfold Dev.enumEnd
  extract_lets e1
  split
  · exact h
  · exact (h.upd (cl := nofun)).endAsync

/-- What `Dev.enumFail` may write. -/
abbrev Dev.enumFailScope : Dev.Scope := { mem := true, ring := true, cl := true, regs := [R.HP_ATTN, R.RQ_PI, R.RQ_SEQX, R.RQ_STATUS, R.CL_STATUS] }

theorem Dev.Keeps.enumFail {w : Dev.Scope} {d₀ d : Dev} {cause : Nat} (h : Dev.Keeps w d₀ d)
    (hw : Dev.enumFailScope.le w = true := by decide) : Dev.Keeps w d₀ (d.enumFail cause) := by
  refine h.step hw ?_
  have h : Dev.Keeps Dev.enumFailScope d d := .refl
  unfold Dev.enumFail
  extract_lets n1 d1
  have hd1 : Dev.Keeps Dev.enumFailScope d d1 := h.clSend
  exact hd1.put.enumEnd

/-- What `Dev.enumStart` may write. -/
abbrev Dev.enumStartScope : Dev.Scope := { mem := true, ring := true, cl := true, regs := [R.HP_ATTN, R.RQ_PI, R.RQ_SEQX, R.RQ_STATUS, R.CL_STATUS] }

theorem Dev.Keeps.enumStart {w : Dev.Scope} {d₀ d : Dev} {expect : Nat} {cmd : Async} (h : Dev.Keeps w d₀ d)
    (hw : Dev.enumStartScope.le w = true := by decide) : Dev.Keeps w d₀ (d.enumStart expect cmd) := by
  refine h.step hw ?_
  have h : Dev.Keeps Dev.enumStartScope d d := .refl
  unfold Dev.enumStart
  extract_lets e1 d1 d2
  have hd1 : Dev.Keeps Dev.enumStartScope d d1 := h.upd (cl := nofun)
  have hd2 : Dev.Keeps Dev.enumStartScope d d2 := Dev.Keeps.ite hd1.put hd1
  exact Dev.Keeps.ite hd2.enumEnd (Dev.Keeps.ite hd2.enumFail (Dev.Keeps.ite hd2.enumEnd (Dev.Keeps.ite hd2.enumFail hd2.clSend)))

/-- What `Dev.cmdEnumerate` may write. -/
abbrev Dev.cmdEnumerateScope : Dev.Scope := { mem := true, ring := true, cl := true, regs := [R.HP_ATTN, R.XR_ECCSB, R.XR_ECCDB, R.CQ_CI, R.CQ_SEQX, R.CQ_COUNTS, R.RQ_PI, R.RQ_SEQX, R.RQ_STATUS, R.CL_STATUS] }

theorem Dev.Keeps.cmdEnumerate {w : Dev.Scope} {d₀ d : Dev}  (h : Dev.Keeps w d₀ d)
    (hw : Dev.cmdEnumerateScope.le w = true := by decide) : Dev.Keeps w d₀ (d.cmdEnumerate) := by
  refine h.step hw ?_
  have h : Dev.Keeps Dev.cmdEnumerateScope d d := .refl
  unfold Dev.cmdEnumerate
  exact h.cmdClusterCfg (fun _ _ _ h2 => h2.enumStart)

/-- What `Dev.dissolveStart` may write. -/
abbrev Dev.dissolveStartScope : Dev.Scope := { mem := true, ring := true, cl := true, regs := [R.HP_ATTN, R.RQ_PI, R.RQ_SEQX, R.RQ_STATUS] }

theorem Dev.Keeps.dissolveStart {w : Dev.Scope} {d₀ d : Dev} {cmd : Async} (h : Dev.Keeps w d₀ d)
    (hw : Dev.dissolveStartScope.le w = true := by decide) : Dev.Keeps w d₀ (d.dissolveStart cmd) := by
  refine h.step hw ?_
  have h : Dev.Keeps Dev.dissolveStartScope d d := .refl
  unfold Dev.dissolveStart
  extract_lets e1 d1
  have hd1 : Dev.Keeps Dev.dissolveStartScope d d1 := h.upd (cl := nofun)
  exact Dev.Keeps.ite hd1.clSend hd1.enumEnd

/-- What `Dev.cmdDissolve` may write. -/
abbrev Dev.cmdDissolveScope : Dev.Scope := { mem := true, ring := true, cl := true, regs := [R.HP_ATTN, R.XR_ECCSB, R.XR_ECCDB, R.CQ_CI, R.CQ_SEQX, R.CQ_COUNTS, R.RQ_PI, R.RQ_SEQX, R.RQ_STATUS] }

theorem Dev.Keeps.cmdDissolve {w : Dev.Scope} {d₀ d : Dev}  (h : Dev.Keeps w d₀ d)
    (hw : Dev.cmdDissolveScope.le w = true := by decide) : Dev.Keeps w d₀ (d.cmdDissolve) := by
  refine h.step hw ?_
  have h : Dev.Keeps Dev.cmdDissolveScope d d := .refl
  unfold Dev.cmdDissolve
  exact h.cmdClusterCfg (fun _ _ _ h2 => h2.dissolveStart)

/-- What `Dev.cmdLogRead` may write. -/
abbrev Dev.cmdLogReadScope : Dev.Scope := { mem := true, ring := true, regs := [R.HP_ATTN, R.XR_ECCSB, R.XR_ECCDB, R.CQ_CI, R.CQ_SEQX, R.CQ_COUNTS, R.RQ_PI, R.RQ_CI, R.RQ_SEQX, R.RQ_LOST, R.RQ_STATUS] }

theorem Dev.Keeps.cmdLogRead {w : Dev.Scope} {d₀ d : Dev}  (h : Dev.Keeps w d₀ d)
    (hw : Dev.cmdLogReadScope.le w = true := by decide) : Dev.Keeps w d₀ (d.cmdLogRead) := by
  refine h.step hw ?_
  have h : Dev.Keeps Dev.cmdLogReadScope d d := .refl
  unfold Dev.cmdLogRead
  refine Dev.Keeps.cqRun h ?_
  intro d' x hd1'
  extract_lets first1 n1
  refine Dev.Keeps.cqChecked hd1' ?_
  intro d' hd2'
  split
  · exact hd2'.cqSync
  · split
    · exact hd2'.cqSync
    · split
      · rename_i q3 _ q3a _
        have hq3a : Dev.Keeps Dev.cmdLogReadScope d q3a := Dev.Keeps.of_snd ‹_› hd2'.cqAsync
        exact hq3a.reportWait.endAsyncAfter

/-- What `Dev.cmdCountersRead` may write. -/
abbrev Dev.cmdCountersReadScope : Dev.Scope := { freeCount := true, staged := true, mem := true, tick := true, acq := true, hop := true, img := true, ct := true, aux := true, cal := true, seq := true, panel := true, hp := true, ring := true, cl := true, pp := true, pwr := true, flt := true, regs := [R.SYS_CTRL, R.SYS_STATUS, R.SYS_REASON, R.SYS_HALT_INFO, R.ACQ_STATUS, R.HOP_STATUS, R.CAL_STATUS, R.CAL_REASON, R.SEQ_STATUS, R.SEQ_EVPEND, R.GPIO_STATUS, R.GPIO_SWAPST, R.HP_ATTN, R.XR_ECCSB, R.XR_ECCDB, R.CQ_CI, R.CQ_SEQX, R.CQ_COUNTS, R.RQ_PI, R.RQ_CI, R.RQ_SEQX, R.RQ_LOST, R.RQ_STATUS, R.PP_STATUS, R.PP_COUNTS2, R.PWR_ON, R.PWR_RES, R.PWR_DST0, R.PWR_DST1, R.PWR_WSRC, R.FLT_LOG, R.FLT_LAST, R.FLT_WOPEN], fams := [(0x3ce0, 4), (0x1818, 32), (0x1820, 32), (0x44c0, 4)] }

theorem Dev.Keeps.cmdCountersRead {w : Dev.Scope} {d₀ d : Dev}  (h : Dev.Keeps w d₀ d)
    (hw : Dev.cmdCountersReadScope.le w = true := by decide) : Dev.Keeps w d₀ (d.cmdCountersRead) := by
  refine h.step hw ?_
  have h : Dev.Keeps Dev.cmdCountersReadScope d d := .refl
  unfold Dev.cmdCountersRead
  refine Dev.Keeps.cqRun h ?_
  intro d' x hd1'
  extract_lets o1 n1
  exact hd1'.cqChecked (fun _ h3 => Dev.Keeps.ite h3.cqSync (Dev.Keeps.ite h3.cqSync h3.xwriteEcc.cqSync))

theorem Dev.Keeps.clearReg {w : Dev.Scope} {d₀ d : Dev} {a : Nat} (h : Dev.Keeps w d₀ d) (ha : w.has a = true := by decide) :
    Dev.Keeps w d₀ (d.clearReg a) :=
  Dev.Keeps.ite (h.setReg ha) h

/-- What `Dev.clearCounters` may write. -/
abbrev Dev.clearCountersScope : Dev.Scope := { flt := true, regs := [R.TICK_IMGTIME, R.TICK_COUNTS, R.IMG_COUNTS, R.IMG_COUNTS2, R.CT_COUNTS, R.OPT_COUNTS, R.AUX_COUNTS, R.CAL_COUNT0, R.CAL_COUNT1, R.SEQ_CYCMAX, R.SEQ_COUNTS, R.HP_COUNTS, R.CQ_COUNTS, R.RQ_LOST, R.FLT_LOG, R.FLT_WOPEN], fams := [(0x44c0, 4)] }

theorem Dev.Keeps.clearCounters {w : Dev.Scope} {d₀ d : Dev} {k : Nat} (h : Dev.Keeps w d₀ d)
    (hw : Dev.clearCountersScope.le w = true := by decide) : Dev.Keeps w d₀ (d.clearCounters k) := by
  refine h.step hw ?_
  have h : Dev.Keeps Dev.clearCountersScope d d := .refl
  unfold Dev.clearCounters
  split
  · exact h.clearReg
  · exact h.clearReg.clearReg
  · exact h.clearReg
  · exact h.clearReg
  · exact h.clearReg
  · exact h.clearReg.clearReg
  · exact h.clearReg.clearReg
  · exact h.clearReg
  · exact h.put
  · exact h.put
  · exact h.fltClrCnt
  · exact h.put
  · exact h.put
  · exact h

/-- What `Dev.cmdCountersClear` may write. -/
abbrev Dev.cmdCountersClearScope : Dev.Scope := { mem := true, ring := true, flt := true, regs := [R.TICK_IMGTIME, R.TICK_COUNTS, R.IMG_COUNTS, R.IMG_COUNTS2, R.CT_COUNTS, R.OPT_COUNTS, R.AUX_COUNTS, R.CAL_COUNT0, R.CAL_COUNT1, R.SEQ_CYCMAX, R.SEQ_COUNTS, R.HP_ATTN, R.HP_COUNTS, R.XR_ECCSB, R.XR_ECCDB, R.CQ_CI, R.CQ_SEQX, R.CQ_COUNTS, R.RQ_PI, R.RQ_SEQX, R.RQ_LOST, R.RQ_STATUS, R.FLT_LOG, R.FLT_WOPEN], fams := [(0x44c0, 4)] }

theorem Dev.Keeps.cmdCountersClear {w : Dev.Scope} {d₀ d : Dev}  (h : Dev.Keeps w d₀ d)
    (hw : Dev.cmdCountersClearScope.le w = true := by decide) : Dev.Keeps w d₀ (d.cmdCountersClear) := by
  refine h.step hw ?_
  have h : Dev.Keeps Dev.cmdCountersClearScope d d := .refl
  unfold Dev.cmdCountersClear
  exact h.cqRun (fun _ _ h2 => h2.cqChecked (fun _ h3 => (Dev.Keeps.foldl (fun _ _ h4 => h4.clearCounters) h3).cqSync))

/-- What `Dev.cmdMailbox` may write. -/
abbrev Dev.cmdMailboxScope : Dev.Scope := { freeCount := true, staged := true, mem := true, tick := true, acq := true, hop := true, img := true, ct := true, aux := true, cal := true, seq := true, panel := true, hp := true, ring := true, cl := true, pp := true, pwr := true, flt := true, regs := [R.SYS_CTRL, R.SYS_STATUS, R.SYS_REASON, R.SYS_HALT_INFO, R.ACQ_STATUS, R.HOP_STATUS, R.CAL_STATUS, R.CAL_REASON, R.SEQ_STATUS, R.SEQ_EVPEND, R.SEQ_MBOX, R.GPIO_STATUS, R.GPIO_SWAPST, R.HP_ATTN, R.XR_ECCSB, R.XR_ECCDB, R.CQ_CI, R.CQ_SEQX, R.CQ_COUNTS, R.RQ_PI, R.RQ_CI, R.RQ_SEQX, R.RQ_LOST, R.RQ_STATUS, R.PP_STATUS, R.PP_COUNTS2, R.PWR_ON, R.PWR_RES, R.PWR_DST0, R.PWR_DST1, R.PWR_WSRC, R.FLT_LOG, R.FLT_LAST, R.FLT_WOPEN], fams := [(0x3ce0, 4), (0x1818, 32), (0x1820, 32), (0x44c0, 4)] }

theorem Dev.Keeps.cmdMailbox {w : Dev.Scope} {d₀ d : Dev}  (h : Dev.Keeps w d₀ d)
    (hw : Dev.cmdMailboxScope.le w = true := by decide) : Dev.Keeps w d₀ (d.cmdMailbox) := by
  refine h.step hw ?_
  have h : Dev.Keeps Dev.cmdMailboxScope d d := .refl
  unfold Dev.cmdMailbox
  refine Dev.Keeps.cqRun h ?_
  intro d' x hd1'
  extract_lets dest1 n1 d1 d2
  have hd1 : Dev.Keeps Dev.cmdMailboxScope d d1 := hd1'.xwriteEcc
  have hd2 : Dev.Keeps Dev.cmdMailboxScope d d2 := hd1.put.put
  exact Dev.Keeps.ite hd1'.cqSync (Dev.Keeps.ite hd1'.cqSync (Dev.Keeps.ite hd1'.cqSync (Dev.Keeps.ite hd1'.cqSync hd2.event.cqSync)))

/-- What `Dev.cmdFence` may write. -/
abbrev Dev.cmdFenceScope : Dev.Scope := { mem := true, ring := true, regs := [R.HP_ATTN, R.XR_ECCSB, R.XR_ECCDB, R.CQ_CI, R.CQ_SEQX, R.CQ_COUNTS, R.RQ_PI, R.RQ_SEQX, R.RQ_STATUS] }

theorem Dev.Keeps.cmdFence {w : Dev.Scope} {d₀ d : Dev}  (h : Dev.Keeps w d₀ d)
    (hw : Dev.cmdFenceScope.le w = true := by decide) : Dev.Keeps w d₀ (d.cmdFence) := by
  refine h.step hw ?_
  have h : Dev.Keeps Dev.cmdFenceScope d d := .refl
  unfold Dev.cmdFence
  refine Dev.Keeps.cqRun h ?_
  intro d' x hd1'
  extract_lets atTick1
  refine Dev.Keeps.cqChecked hd1' ?_
  intro d' hd2'
  extract_lets d1 e1 d2
  have hd1 : Dev.Keeps Dev.cmdFenceScope d d1 := hd2'.batchJoin
  have hd2 : Dev.Keeps Dev.cmdFenceScope d d2 := hd1.upd (ring := nofun)
  exact Dev.Keeps.ite hd2.fenceEnd hd2

/-- What `Dev.fenceRelease` may write. -/
abbrev Dev.fenceReleaseScope : Dev.Scope := { mem := true, ring := true, regs := [R.HP_ATTN, R.XR_ECCSB, R.XR_ECCDB, R.CQ_CI, R.CQ_SEQX, R.CQ_COUNTS, R.RQ_PI, R.RQ_SEQX, R.RQ_STATUS] }

theorem Dev.Keeps.fenceRelease {w : Dev.Scope} {d₀ d : Dev}  (h : Dev.Keeps w d₀ d)
    (hw : Dev.fenceReleaseScope.le w = true := by decide) : Dev.Keeps w d₀ (d.fenceRelease) := by
  refine h.step hw ?_
  have h : Dev.Keeps Dev.fenceReleaseScope d d := .refl
  unfold Dev.fenceRelease
  split
  · exact Dev.Keeps.ite h.fenceEnd h
  · exact h

/-- What `Dev.fenceTimeout` may write. -/
abbrev Dev.fenceTimeoutScope : Dev.Scope := { mem := true, ring := true, regs := [R.HP_ATTN, R.XR_ECCSB, R.XR_ECCDB, R.CQ_CI, R.CQ_SEQX, R.CQ_COUNTS, R.RQ_PI, R.RQ_SEQX, R.RQ_STATUS] }

theorem Dev.Keeps.fenceTimeout {w : Dev.Scope} {d₀ d : Dev}  (h : Dev.Keeps w d₀ d)
    (hw : Dev.fenceTimeoutScope.le w = true := by decide) : Dev.Keeps w d₀ (d.fenceTimeout) := by
  refine h.step hw ?_
  have h : Dev.Keeps Dev.fenceTimeoutScope d d := .refl
  unfold Dev.fenceTimeout
  split
  · exact Dev.Keeps.ite h h.fenceEnd
  · exact h

/-- What `Dev.commonTrigger` may write. -/
abbrev Dev.commonTriggerScope : Dev.Scope := { aux := true, regs := [R.AUX_COUNTS, R.CAL_STATUS, R.CAL_COUNT0, R.CAL_COUNT1], fams := [(0x1c58, 8), (0x1c5c, 8), (0x1c30, 8), (0x1c34, 8), (0x1818, 32), (0x1820, 32)] }

theorem Dev.Keeps.commonTrigger {w : Dev.Scope} {d₀ d : Dev}  (h : Dev.Keeps w d₀ d)
    (hw : Dev.commonTriggerScope.le w = true := by decide) : Dev.Keeps w d₀ (d.commonTrigger) := by
  refine h.step hw ?_
  have h : Dev.Keeps Dev.commonTriggerScope d d := .refl
  unfold Dev.commonTrigger
  exact h.syncResets

/-- What `Dev.auxGpioTrigger` may write. -/
abbrev Dev.auxGpioTriggerScope : Dev.Scope := { aux := true, regs := [R.AUX_COUNTS, R.CAL_STATUS, R.CAL_COUNT0, R.CAL_COUNT1], fams := [(0x1c58, 8), (0x1c5c, 8), (0x1c30, 8), (0x1c34, 8), (0x1818, 32), (0x1820, 32)] }

theorem Dev.Keeps.auxGpioTrigger {w : Dev.Scope} {d₀ d : Dev} {pin : Nat} {rising : Bool} (h : Dev.Keeps w d₀ d)
    (hw : Dev.auxGpioTriggerScope.le w = true := by decide) : Dev.Keeps w d₀ (d.auxGpioTrigger pin rising) := by
  refine h.step hw ?_
  have h : Dev.Keeps Dev.auxGpioTriggerScope d d := .refl
  unfold Dev.auxGpioTrigger
  exact Dev.Keeps.ite h.commonTrigger h

/-- What `Dev.auxTickTrigger` may write. -/
abbrev Dev.auxTickTriggerScope : Dev.Scope := { aux := true, regs := [R.AUX_COUNTS, R.CAL_STATUS, R.CAL_COUNT0, R.CAL_COUNT1], fams := [(0x1c58, 8), (0x1c5c, 8), (0x1c30, 8), (0x1c34, 8), (0x1818, 32), (0x1820, 32)] }

theorem Dev.Keeps.auxTickTrigger {w : Dev.Scope} {d₀ d : Dev}  (h : Dev.Keeps w d₀ d)
    (hw : Dev.auxTickTriggerScope.le w = true := by decide) : Dev.Keeps w d₀ (d.auxTickTrigger) := by
  refine h.step hw ?_
  have h : Dev.Keeps Dev.auxTickTriggerScope d d := .refl
  unfold Dev.auxTickTrigger
  extract_lets e1
  split
  · exact h
  · extract_lets d1
    have hd1 : Dev.Keeps Dev.auxTickTriggerScope d d1 := h.upd (aux := nofun)
    exact Dev.Keeps.ite hd1.commonTrigger hd1

/-- What `Dev.windowEvents` may write. -/
abbrev Dev.windowEventsScope : Dev.Scope := { staged := true, mem := true, tick := true, hop := true, img := true, ct := true, aux := true, cal := true, seq := true, hp := true, ring := true, cl := true, pwr := true, flt := true, regs := [R.SYS_CTRL, R.SYS_STATUS, R.SYS_REASON, R.HOP_STATUS, R.AUX_WCEV, R.CAL_STATUS, R.CAL_REASON, R.SEQ_EVPEND, R.GPIO_SWAPST, R.HP_ATTN, R.XR_ECCSB, R.XR_ECCDB, R.RQ_PI, R.RQ_CI, R.RQ_SEQX, R.RQ_LOST, R.RQ_STATUS, R.PWR_ON, R.PWR_RES, R.PWR_DST0, R.PWR_DST1, R.PWR_WSRC, R.FLT_LOG, R.FLT_LAST, R.FLT_WOPEN], fams := [(0x1818, 32), (0x1820, 32), (0x44c0, 4)] }

theorem Dev.Keeps.windowEvents {w : Dev.Scope} {d₀ d : Dev} {m : Nat} (h : Dev.Keeps w d₀ d)
    (hw : Dev.windowEventsScope.le w = true := by decide) : Dev.Keeps w d₀ (d.windowEvents m) := by
  refine h.step hw ?_
  have h : Dev.Keeps Dev.windowEventsScope d d := .refl
  unfold Dev.windowEvents
  extract_lets d1 d2
  have hd1 : Dev.Keeps Dev.windowEventsScope d d1 := h.put
  have hd2 : Dev.Keeps Dev.windowEventsScope d d2 := Dev.Keeps.ite hd1.event hd1
  exact Dev.Keeps.ite h (Dev.Keeps.ite hd2.wakeCause hd2)

/-- What `Dev.calAuxPass` may write. -/
abbrev Dev.calAuxPassScope : Dev.Scope := { freeCount := true, staged := true, mem := true, tick := true, acq := true, hop := true, img := true, ct := true, aux := true, cal := true, seq := true, panel := true, hp := true, ring := true, cl := true, pp := true, pwr := true, flt := true, regs := [R.SYS_CTRL, R.SYS_STATUS, R.SYS_REASON, R.SYS_HALT_INFO, R.ACQ_STATUS, R.HOP_STATUS, R.AUX_COUNTS, R.CAL_STATUS, R.CAL_REASON, R.CAL_COUNT0, R.CAL_COUNT1, R.SEQ_STATUS, R.SEQ_EVPEND, R.GPIO_STATUS, R.GPIO_SWAPST, R.HP_ATTN, R.XR_ECCSB, R.XR_ECCDB, R.RQ_PI, R.RQ_CI, R.RQ_SEQX, R.RQ_LOST, R.RQ_STATUS, R.PP_STATUS, R.PP_COUNTS2, R.PWR_ON, R.PWR_RES, R.PWR_DST0, R.PWR_DST1, R.PWR_WSRC, R.FLT_LOG, R.FLT_LAST, R.FLT_WOPEN], fams := [(0x1c58, 8), (0x1c5c, 8), (0x1c30, 8), (0x1c34, 8), (0x1818, 32), (0x1820, 32), (0x3ce0, 4), (0x44c0, 4)] }

theorem Dev.Keeps.calAuxPass {w : Dev.Scope} {d₀ d : Dev} {outs : List (Nat × Int × Int × Bool)} (h : Dev.Keeps w d₀ d)
    (hw : Dev.calAuxPassScope.le w = true := by decide) : Dev.Keeps w d₀ (d.calAuxPass outs) := by
  refine h.step hw ?_
  have h : Dev.Keeps Dev.calAuxPassScope d d := .refl
  unfold Dev.calAuxPass
  extract_lets e1 e2 d1 d2 d3
  have he2 : Dev.Keeps Dev.calAuxPassScope d e2 := h.put
  have hd1 : Dev.Keeps Dev.calAuxPassScope d d1 := he2.upd (cal := nofun)
  have hd2 : Dev.Keeps Dev.calAuxPassScope d d2 := hd1.calReason
  have hd3 : Dev.Keeps Dev.calAuxPassScope d d3 := hd2.put
  split
  · exact h
  · extract_lets sel1 got1 clamped1 ovr1 vals1 res1 release1 fail1 late1 waiting1 d4 tag1 d5
    have hrelease1 : ∀ x0, Dev.Keeps Dev.calAuxPassScope d x0 → Dev.Keeps Dev.calAuxPassScope d (release1 x0) := fun _ h6 => Dev.Keeps.foldl (fun _ _ h7 => Dev.Keeps.ite h7.syncReset h7) h6
    have hd4 : Dev.Keeps Dev.calAuxPassScope d d4 := Dev.Keeps.ite (hrelease1 _ (Dev.Keeps.foldl (fun _ _ h7 => h7.setConv) hd3)) (hrelease1 _ ((Dev.Keeps.foldl (fun _ _ h7 => (h7.put (Dev.Scope.has_fam 0x1c58 8 _)).put (Dev.Scope.has_fam 0x1c5c 8 _)) hd2).calTaken))
    have hd5 : Dev.Keeps Dev.calAuxPassScope d d5 := hd4.report
    split
    · exact h
    · split
      · exact h.upd (cal := nofun)
      · clear_value fail1
        split
        · exact h.calEnds (fun _ h9 => hrelease1 _ h9.calFail)
        · exact hd5.endAsyncs

/-- What `Dev.ppPrefetch` may write. -/
abbrev Dev.ppPrefetchScope : Dev.Scope := { freeCount := true, staged := true, mem := true, tick := true, acq := true, hop := true, img := true, ct := true, aux := true, cal := true, seq := true, panel := true, hp := true, ring := true, cl := true, pp := true, pwr := true, flt := true, regs := [R.SYS_CTRL, R.SYS_STATUS, R.SYS_REASON, R.SYS_HALT_INFO, R.ACQ_STATUS, R.HOP_STATUS, R.CAL_STATUS, R.CAL_REASON, R.SEQ_STATUS, R.SEQ_EVPEND, R.GPIO_STATUS, R.GPIO_SWAPST, R.HP_ATTN, R.XR_ECCSB, R.XR_ECCDB, R.RQ_PI, R.RQ_CI, R.RQ_SEQX, R.RQ_LOST, R.RQ_STATUS, R.PP_STATUS, R.PP_COUNTS2, R.PWR_ON, R.PWR_RES, R.PWR_DST0, R.PWR_DST1, R.PWR_WSRC, R.FLT_LOG, R.FLT_LAST, R.FLT_WOPEN], fams := [(0x3ce0, 4), (0x1818, 32), (0x1820, 32), (0x44c0, 4)] }

theorem Dev.Keeps.ppPrefetch {w : Dev.Scope} {d₀ d : Dev} {x : Xfer} (h : Dev.Keeps w d₀ d)
    (hw : Dev.ppPrefetchScope.le w = true := by decide) : Dev.Keeps w d₀ (d.ppPrefetch x).2 := by
  refine h.step hw ?_
  have h : Dev.Keeps Dev.ppPrefetchScope d d := .refl
  unfold Dev.ppPrefetch
  extract_lets n1 e1
  split
  · exact h
  · split
    · exact h.upd (pp := nofun)
    · exact h.eccTouch

/-- What `Dev.ppSelect` may write. -/
abbrev Dev.ppSelectScope : Dev.Scope := { freeCount := true, staged := true, mem := true, tick := true, acq := true, hop := true, img := true, ct := true, aux := true, cal := true, seq := true, panel := true, hp := true, ring := true, cl := true, pp := true, pwr := true, flt := true, regs := [R.SYS_CTRL, R.SYS_STATUS, R.SYS_REASON, R.SYS_HALT_INFO, R.ACQ_STATUS, R.HOP_STATUS, R.CAL_STATUS, R.CAL_REASON, R.SEQ_STATUS, R.SEQ_EVPEND, R.GPIO_STATUS, R.GPIO_SWAPST, R.HP_ATTN, R.XR_ECCSB, R.XR_ECCDB, R.RQ_PI, R.RQ_CI, R.RQ_SEQX, R.RQ_LOST, R.RQ_STATUS, R.PP_STATUS, R.PP_COUNTS, R.PP_COUNTS2, R.PWR_ON, R.PWR_RES, R.PWR_DST0, R.PWR_DST1, R.PWR_WSRC, R.FLT_LOG, R.FLT_LAST, R.FLT_WOPEN], fams := [(0x3ce0, 4), (0x1818, 32), (0x1820, 32), (0x44c0, 4)] }

theorem Dev.Keeps.ppSelect {w : Dev.Scope} {d₀ d : Dev} {x : Xfer} {fifo : List Byte} (h : Dev.Keeps w d₀ d)
    (hw : Dev.ppSelectScope.le w = true := by decide) : Dev.Keeps w d₀ (d.ppSelect x fifo) := by
  refine h.step hw ?_
  have h : Dev.Keeps Dev.ppSelectScope d d := .refl
  unfold Dev.ppSelect
  extract_lets d1 t1 head1 tc1 f1 e1 d2
  have hd1 : Dev.Keeps Dev.ppSelectScope d d1 := Dev.Keeps.ite h.ppState h
  have hd2 : Dev.Keeps Dev.ppSelectScope d d2 := hd1.upd (pp := nofun)
  exact hd2.put.put.incWrap.ppAhead

/-- What `Dev.ppFrameStart` may write. -/
abbrev Dev.ppFrameStartScope : Dev.Scope := { freeCount := true, staged := true, mem := true, tick := true, acq := true, hop := true, img := true, ct := true, aux := true, cal := true, seq := true, panel := true, hp := true, ring := true, cl := true, pp := true, pwr := true, flt := true, regs := [R.SYS_CTRL, R.SYS_STATUS, R.SYS_REASON, R.SYS_HALT_INFO, R.ACQ_STATUS, R.HOP_STATUS, R.CAL_STATUS, R.CAL_REASON, R.SEQ_STATUS, R.SEQ_EVPEND, R.GPIO_STATUS, R.GPIO_SWAPST, R.HP_ATTN, R.XR_ECCSB, R.XR_ECCDB, R.RQ_PI, R.RQ_CI, R.RQ_SEQX, R.RQ_LOST, R.RQ_STATUS, R.PP_STATUS, R.PP_COUNTS, R.PP_COUNTS2, R.PWR_ON, R.PWR_RES, R.PWR_DST0, R.PWR_DST1, R.PWR_WSRC, R.FLT_LOG, R.FLT_LAST, R.FLT_WOPEN], fams := [(0x3ce0, 4), (0x1818, 32), (0x1820, 32), (0x44c0, 4)] }

theorem Dev.Keeps.ppFrameStart {w : Dev.Scope} {d₀ d : Dev}  (h : Dev.Keeps w d₀ d)
    (hw : Dev.ppFrameStartScope.le w = true := by decide) : Dev.Keeps w d₀ (d.ppFrameStart) := by
  refine h.step hw ?_
  have h : Dev.Keeps Dev.ppFrameStartScope d d := .refl
  unfold Dev.ppFrameStart
  split
  · exact h
  · split
    · exact h
    · split
      · rename_i q1 _ _ q1a _
        have hq1a : Dev.Keeps Dev.ppFrameStartScope d q1a := Dev.Keeps.of_snd ‹_› h.ppPrefetch
        split
        · exact hq1a
        · split
          · exact hq1a.ppQueue.ppEnd
          · exact hq1a.ppQueue.ppSelect

/-- What `Dev.ppFifoResume` may write. -/
abbrev Dev.ppFifoResumeScope : Dev.Scope := { pp := true, regs := [R.PP_COUNTS2] }

theorem Dev.Keeps.ppFifoResume {w : Dev.Scope} {d₀ d : Dev}  (h : Dev.Keeps w d₀ d)
    (hw : Dev.ppFifoResumeScope.le w = true := by decide) : Dev.Keeps w d₀ (d.ppFifoResume) := by
  refine h.step hw ?_
  have h : Dev.Keeps Dev.ppFifoResumeScope d d := .refl
  unfold Dev.ppFifoResume
  split
  · exact h
  · extract_lets d1 e1
    have hd1 : Dev.Keeps Dev.ppFifoResumeScope d d1 := Dev.Keeps.ite h h.inc
    exact Dev.Keeps.ite h (hd1.upd (pp := nofun))

/-- What `Dev.bootByte` may write. -/
abbrev Dev.bootByteScope : Dev.Scope := { mem := true, seq := true }

theorem Dev.Keeps.bootByte {w : Dev.Scope} {d₀ d : Dev} {b : Byte} (h : Dev.Keeps w d₀ d)
    (hw : Dev.bootByteScope.le w = true := by decide) : Dev.Keeps w d₀ (d.bootByte b) := by
  refine h.step hw ?_
  have h : Dev.Keeps Dev.bootByteScope d d := .refl
  unfold Dev.bootByte
  extract_lets p1 im1 np1 code1 put1 e1
  have hput1 : ∀ x0 x1, Dev.Keeps Dev.bootByteScope d x0 → Dev.Keeps Dev.bootByteScope d (put1 x0 x1) := fun _ _ h2 => h2.upd (seq := nofun)
  exact Dev.Keeps.ite (hput1 _ _ h) (Dev.Keeps.ite (hput1 _ _ h) (Dev.Keeps.ite (hput1 _ _ (h.upd (mem := nofun))) (hput1 _ _ h)))

/-- What `Dev.ppFrameEnd` may write. -/
abbrev Dev.ppFrameEndScope : Dev.Scope := { freeCount := true, staged := true, mem := true, tick := true, acq := true, hop := true, img := true, ct := true, aux := true, cal := true, seq := true, panel := true, hp := true, ring := true, cl := true, pp := true, pwr := true, flt := true, regs := [R.SYS_CTRL, R.SYS_STATUS, R.SYS_REASON, R.SYS_HALT_INFO, R.ACQ_STATUS, R.HOP_STATUS, R.CAL_STATUS, R.CAL_REASON, R.SEQ_STATUS, R.SEQ_EVPEND, R.SEQ_IMGVER, R.SEQ_VRES, R.GPIO_STATUS, R.GPIO_SWAPST, R.HP_ATTN, R.XR_ECCSB, R.XR_ECCDB, R.RQ_PI, R.RQ_CI, R.RQ_SEQX, R.RQ_LOST, R.RQ_STATUS, R.PP_STATUS, R.PP_COUNTS2, R.PWR_ON, R.PWR_RES, R.PWR_DST0, R.PWR_DST1, R.PWR_WSRC, R.FLT_LOG, R.FLT_LAST, R.FLT_WOPEN], fams := [(0x240c, 16), (0x2408, 16), (0x2400, 16), (0x2404, 16), (0x3ce0, 4), (0x1818, 32), (0x1820, 32), (0x44c0, 4)] }

theorem Dev.Keeps.ppFrameEnd {w : Dev.Scope} {d₀ d : Dev} {rx : List Byte} (h : Dev.Keeps w d₀ d)
    (hw : Dev.ppFrameEndScope.le w = true := by decide) : Dev.Keeps w d₀ (d.ppFrameEnd rx) := by
  refine h.step hw ?_
  have h : Dev.Keeps Dev.ppFrameEndScope d d := .refl
  unfold Dev.ppFrameEnd
  extract_lets d1
  have hd1 : Dev.Keeps Dev.ppFrameEndScope d d1 := h.ppIdle
  split
  · exact h
  · extract_lets x1 got1
    split
    · exact h
    · split
      · split
        · rename_i q2 _ q2a _
          have hq2a : Dev.Keeps Dev.ppFrameEndScope d q2a := Dev.Keeps.of_snd ‹_› h.ppData
          split
          · exact h
          · extract_lets data1 d2
            have hd2 : Dev.Keeps Dev.ppFrameEndScope d d2 := hq2a.ppWire.ppIdle
            split
            · exact h
            · split
              · exact (Dev.Keeps.foldl (fun _ _ h5 => h5.bootByte) hd2).bootNext
              · split
                · rename_i q4 _ q4a _
                  have hq4a : Dev.Keeps Dev.ppFrameEndScope d q4a := Dev.Keeps.of_snd ‹_› hd2.ppStore
                  extract_lets d3
                  have hd3 : Dev.Keeps Dev.ppFrameEndScope d d3 := hq4a.eccFlush
                  split
                  · exact hd3.ppEnd
                  · exact hd3.ppEnd
      · split
        · extract_lets n1
          exact hd1.ppWire.eccTouch.ppEnd
        · exact hd1.ppWire.eccTouch.ppEnd

/-- What `Dev.ppPrdyTimeout` may write. -/
abbrev Dev.ppPrdyTimeoutScope : Dev.Scope := { freeCount := true, staged := true, mem := true, tick := true, acq := true, hop := true, img := true, ct := true, aux := true, cal := true, seq := true, panel := true, hp := true, ring := true, cl := true, pp := true, pwr := true, flt := true, regs := [R.SYS_CTRL, R.SYS_STATUS, R.SYS_REASON, R.SYS_HALT_INFO, R.ACQ_STATUS, R.HOP_STATUS, R.CAL_STATUS, R.CAL_REASON, R.SEQ_STATUS, R.SEQ_EVPEND, R.GPIO_STATUS, R.GPIO_SWAPST, R.HP_ATTN, R.XR_ECCSB, R.XR_ECCDB, R.RQ_PI, R.RQ_CI, R.RQ_SEQX, R.RQ_LOST, R.RQ_STATUS, R.PP_STATUS, R.PP_COUNTS, R.PP_COUNTS2, R.PWR_ON, R.PWR_RES, R.PWR_DST0, R.PWR_DST1, R.PWR_WSRC, R.FLT_LOG, R.FLT_LAST, R.FLT_WOPEN], fams := [(0x3ce0, 4), (0x1818, 32), (0x1820, 32), (0x44c0, 4)] }

theorem Dev.Keeps.ppPrdyTimeout {w : Dev.Scope} {d₀ d : Dev} {n : Nat} {rx : List Byte} (h : Dev.Keeps w d₀ d)
    (hw : Dev.ppPrdyTimeoutScope.le w = true := by decide) : Dev.Keeps w d₀ (d.ppPrdyTimeout n rx) := by
  refine h.step hw ?_
  have h : Dev.Keeps Dev.ppPrdyTimeoutScope d d := .refl
  unfold Dev.ppPrdyTimeout
  split
  · exact h
  · exact Dev.Keeps.ite h h.ppCut.eccFlush.inc.raise

/-- What `Dev.ppMarkTimeout` may write. -/
abbrev Dev.ppMarkTimeoutScope : Dev.Scope := { freeCount := true, staged := true, mem := true, tick := true, acq := true, hop := true, img := true, ct := true, aux := true, cal := true, seq := true, panel := true, hp := true, ring := true, cl := true, pp := true, pwr := true, flt := true, regs := [R.SYS_CTRL, R.SYS_STATUS, R.SYS_REASON, R.SYS_HALT_INFO, R.ACQ_STATUS, R.HOP_STATUS, R.CAL_STATUS, R.CAL_REASON, R.SEQ_STATUS, R.SEQ_EVPEND, R.GPIO_STATUS, R.GPIO_SWAPST, R.HP_ATTN, R.XR_ECCSB, R.XR_ECCDB, R.RQ_PI, R.RQ_CI, R.RQ_SEQX, R.RQ_LOST, R.RQ_STATUS, R.PP_STATUS, R.PP_COUNTS, R.PP_COUNTS2, R.PWR_ON, R.PWR_RES, R.PWR_DST0, R.PWR_DST1, R.PWR_WSRC, R.FLT_LOG, R.FLT_LAST, R.FLT_WOPEN], fams := [(0x3ce0, 4), (0x1818, 32), (0x1820, 32), (0x44c0, 4)] }

theorem Dev.Keeps.ppMarkTimeout {w : Dev.Scope} {d₀ d : Dev} {rx : List Byte} (h : Dev.Keeps w d₀ d)
    (hw : Dev.ppMarkTimeoutScope.le w = true := by decide) : Dev.Keeps w d₀ (d.ppMarkTimeout rx) := by
  refine h.step hw ?_
  have h : Dev.Keeps Dev.ppMarkTimeoutScope d d := .refl
  unfold Dev.ppMarkTimeout
  split
  · exact h
  · exact Dev.Keeps.ite h h.ppCut.eccFlush.inc.raise

/-- What `Dev.ppAbortAll` may write. -/
abbrev Dev.ppAbortAllScope : Dev.Scope := { freeCount := true, staged := true, mem := true, tick := true, acq := true, hop := true, img := true, ct := true, aux := true, cal := true, seq := true, panel := true, hp := true, ring := true, cl := true, pp := true, pwr := true, flt := true, regs := [R.SYS_CTRL, R.SYS_STATUS, R.SYS_REASON, R.SYS_HALT_INFO, R.ACQ_STATUS, R.HOP_STATUS, R.CAL_STATUS, R.CAL_REASON, R.SEQ_STATUS, R.SEQ_EVPEND, R.GPIO_STATUS, R.GPIO_SWAPST, R.HP_ATTN, R.XR_ECCSB, R.XR_ECCDB, R.RQ_PI, R.RQ_CI, R.RQ_SEQX, R.RQ_LOST, R.RQ_STATUS, R.PP_STATUS, R.PP_COUNTS2, R.PWR_ON, R.PWR_RES, R.PWR_DST0, R.PWR_DST1, R.PWR_WSRC, R.FLT_LOG, R.FLT_LAST, R.FLT_WOPEN], fams := [(0x3ce0, 4), (0x1818, 32), (0x1820, 32), (0x44c0, 4)] }

theorem Dev.Keeps.ppAbortAll {w : Dev.Scope} {d₀ d : Dev} {n : Nat} {rx : List Byte} (h : Dev.Keeps w d₀ d)
    (hw : Dev.ppAbortAllScope.le w = true := by decide) : Dev.Keeps w d₀ (d.ppAbortAll n rx) := by
  refine h.step hw ?_
  have h : Dev.Keeps Dev.ppAbortAllScope d d := .refl
  unfold Dev.ppAbortAll
  extract_lets d1 q1 d2
  have hd1 : Dev.Keeps Dev.ppAbortAllScope d d1 := by
    unfold d1
    split
    · exact h
    · exact h.ppCut.eccFlush
  have hd2 : Dev.Keeps Dev.ppAbortAllScope d d2 := Dev.Keeps.foldl (fun _ _ h3 => h3.ppEnd) hd1.ppQueue
  exact Dev.Keeps.foldl (fun _ _ h4 => Dev.Keeps.ite h4.ppAborted h4) hd2

/-- What `Dev.ppDrainTimeout` may write. -/
abbrev Dev.ppDrainTimeoutScope : Dev.Scope := { freeCount := true, staged := true, mem := true, tick := true, acq := true, hop := true, img := true, ct := true, aux := true, cal := true, seq := true, panel := true, hp := true, ring := true, cl := true, pp := true, pwr := true, flt := true, regs := [R.SYS_CTRL, R.SYS_STATUS, R.SYS_REASON, R.SYS_HALT_INFO, R.ACQ_STATUS, R.HOP_STATUS, R.CAL_STATUS, R.CAL_REASON, R.SEQ_STATUS, R.SEQ_EVPEND, R.GPIO_STATUS, R.GPIO_SWAPST, R.HP_ATTN, R.XR_ECCSB, R.XR_ECCDB, R.RQ_PI, R.RQ_CI, R.RQ_SEQX, R.RQ_LOST, R.RQ_STATUS, R.PP_STATUS, R.PP_COUNTS2, R.PWR_ON, R.PWR_RES, R.PWR_DST0, R.PWR_DST1, R.PWR_WSRC, R.FLT_LOG, R.FLT_LAST, R.FLT_WOPEN], fams := [(0x3ce0, 4), (0x1818, 32), (0x1820, 32), (0x44c0, 4)] }

theorem Dev.Keeps.ppDrainTimeout {w : Dev.Scope} {d₀ d : Dev} {n : Nat} {rx : List Byte} (h : Dev.Keeps w d₀ d)
    (hw : Dev.ppDrainTimeoutScope.le w = true := by decide) : Dev.Keeps w d₀ (d.ppDrainTimeout n rx) := by
  refine h.step hw ?_
  have h : Dev.Keeps Dev.ppDrainTimeoutScope d d := .refl
  unfold Dev.ppDrainTimeout
  exact Dev.Keeps.ite h.ppAbortAll h

/-- What `Dev.xramClear` may write. -/
abbrev Dev.xramClearScope : Dev.Scope := { mem := true }

theorem Dev.Keeps.xramClear {w : Dev.Scope} {d₀ d : Dev} {b : Nat} (h : Dev.Keeps w d₀ d)
    (hw : Dev.xramClearScope.le w = true := by decide) : Dev.Keeps w d₀ (d.xramClear b) := by
  refine h.step hw ?_
  have h : Dev.Keeps Dev.xramClearScope d d := .refl
  unfold Dev.xramClear
  extract_lets e1
  exact h.upd (mem := nofun)

/-- What `Dev.pumpDomain` may write. -/
abbrev Dev.pumpDomainScope : Dev.Scope := { freeCount := true, acq := true, regs := [R.ACQ_STATUS] }

theorem Dev.Keeps.pumpDomain {w : Dev.Scope} {d₀ d : Dev} {on : Bool} (h : Dev.Keeps w d₀ d)
    (hw : Dev.pumpDomainScope.le w = true := by decide) : Dev.Keeps w d₀ (d.pumpDomain on) := by
  refine h.step hw ?_
  have h : Dev.Keeps Dev.pumpDomainScope d d := .refl
  unfold Dev.pumpDomain
  extract_lets e1 e2
  have he2 : Dev.Keeps Dev.pumpDomainScope d e2 := h.put
  exact Dev.Keeps.ite (Dev.Keeps.ite h.pumpTo h) (Dev.Keeps.ite ((h.upd (acq := nofun)).pumpTo) (he2.upd (acq := nofun)))

/-- What `Dev.rampDownEnd` may write. -/
abbrev Dev.rampDownEndScope : Dev.Scope := { freeCount := true, staged := true, mem := true, tick := true, acq := true, hop := true, img := true, ct := true, aux := true, cal := true, seq := true, panel := true, hp := true, ring := true, cl := true, pp := true, pwr := true, flt := true, regs := [R.SYS_CTRL, R.SYS_STATUS, R.SYS_REASON, R.SYS_HALT_INFO, R.ACQ_STATUS, R.HOP_STATUS, R.AUX_COUNTS, R.CAL_STATUS, R.CAL_REASON, R.CAL_COUNT0, R.CAL_COUNT1, R.SEQ_STATUS, R.SEQ_EVPEND, R.SEQ_IMGVER, R.SEQ_VRES, R.GPIO_STATUS, R.GPIO_SWAPST, R.HP_STATUS, R.HP_ATTN, R.XR_ECCSB, R.XR_ECCDB, R.RQ_PI, R.RQ_CI, R.RQ_SEQX, R.RQ_LOST, R.RQ_STATUS, R.PP_STATUS, R.PP_COUNTS2, R.PWR_ON, R.PWR_RES, R.PWR_DST0, R.PWR_DST1, R.PWR_RESTART, R.PWR_WSRC, R.PWR_COUNTS, R.FLT_LOG, R.FLT_LAST, R.FLT_WOPEN], fams := [(0x240c, 16), (0x2408, 16), (0x2400, 16), (0x2404, 16), (0x3ce0, 4), (0x1818, 32), (0x1820, 32), (0x44c0, 4), (0x1c58, 8), (0x1c5c, 8), (0x1c30, 8), (0x1c34, 8)] }

theorem Dev.Keeps.rampDownEnd {w : Dev.Scope} {d₀ d : Dev} {k : Nat} (h : Dev.Keeps w d₀ d)
    (hw : Dev.rampDownEndScope.le w = true := by decide) : Dev.Keeps w d₀ (d.rampDownEnd k) := by
  refine h.step hw ?_
  have h : Dev.Keeps Dev.rampDownEndScope d d := .refl
  unfold Dev.rampDownEnd
  extract_lets e1 d1
  have hd1 : Dev.Keeps Dev.rampDownEndScope d d1 := h.upd (pwr := nofun)
  exact Dev.Keeps.ite h (Dev.Keeps.ite hd1.put.setDom h.setDom.domSettled)

/-- What `Dev.restartEnd` may write. -/
abbrev Dev.restartEndScope : Dev.Scope := { regs := [R.PWR_ON, R.PWR_DST0, R.PWR_DST1] }

theorem Dev.Keeps.restartEnd {w : Dev.Scope} {d₀ d : Dev} {k : Nat} (h : Dev.Keeps w d₀ d)
    (hw : Dev.restartEndScope.le w = true := by decide) : Dev.Keeps w d₀ (d.restartEnd k) := by
  refine h.step hw ?_
  have h : Dev.Keeps Dev.restartEndScope d d := .refl
  unfold Dev.restartEnd
  exact Dev.Keeps.ite h h.setDom

/-- What `Dev.hfoStart` may write. -/
abbrev Dev.hfoStartScope : Dev.Scope := { pwr := true }

theorem Dev.Keeps.hfoStart {w : Dev.Scope} {d₀ d : Dev}  (h : Dev.Keeps w d₀ d)
    (hw : Dev.hfoStartScope.le w = true := by decide) : Dev.Keeps w d₀ (d.hfoStart) := by
  refine h.step hw ?_
  have h : Dev.Keeps Dev.hfoStartScope d d := .refl
  unfold Dev.hfoStart
  extract_lets e1
  exact Dev.Keeps.ite (h.upd (pwr := nofun)) h

/-- What `Dev.tempCool` may write. -/
abbrev Dev.tempCoolScope : Dev.Scope := { aux := true, pwr := true, flt := true, regs := [R.PWR_ON, R.PWR_DST0, R.PWR_DST1], fams := [(0x1818, 32), (0x1820, 32)] }

theorem Dev.Keeps.tempCool {w : Dev.Scope} {d₀ d : Dev}  (h : Dev.Keeps w d₀ d)
    (hw : Dev.tempCoolScope.le w = true := by decide) : Dev.Keeps w d₀ (d.tempCool) := by
  refine h.step hw ?_
  have h : Dev.Keeps Dev.tempCoolScope d d := .refl
  unfold Dev.tempCool
  extract_lets e1
  exact Dev.Keeps.ite ((h.upd (flt := nofun)).switchOn) h

/-- What `Dev.tempCritical` may write. -/
abbrev Dev.tempCriticalScope : Dev.Scope := { freeCount := true, staged := true, mem := true, tick := true, acq := true, hop := true, img := true, ct := true, aux := true, cal := true, seq := true, panel := true, hp := true, ring := true, cl := true, pp := true, pwr := true, flt := true, regs := [R.SYS_CTRL, R.SYS_STATUS, R.SYS_REASON, R.SYS_HALT_INFO, R.TICK_COUNTS, R.ACQ_STATUS, R.ACQ_FSTAT, R.ACQ_STALEMAP, R.HOP_STATUS, R.AUX_COUNTS, R.CAL_STATUS, R.CAL_REASON, R.CAL_COUNT0, R.CAL_COUNT1, R.SEQ_STATUS, R.SEQ_EVPEND, R.GPIO_STATUS, R.GPIO_SWAPST, R.HP_ATTN, R.XR_ECCSB, R.XR_ECCDB, R.RQ_PI, R.RQ_CI, R.RQ_SEQX, R.RQ_LOST, R.RQ_STATUS, R.PP_STATUS, R.PP_COUNTS2, R.PWR_ON, R.PWR_RES, R.PWR_DST0, R.PWR_DST1, R.PWR_WSRC, R.FLT_LOG, R.FLT_LAST, R.FLT_WOPEN], fams := [(0x44c0, 4), (0x3ce0, 4), (0x1818, 32), (0x1820, 32), (0x840, 4), (0x1c58, 8), (0x1c5c, 8), (0x1c30, 8), (0x1c34, 8)] }

theorem Dev.Keeps.tempCritical {w : Dev.Scope} {d₀ d : Dev}  (h : Dev.Keeps w d₀ d)
    (hw : Dev.tempCriticalScope.le w = true := by decide) : Dev.Keeps w d₀ (d.tempCritical) := by
  refine h.step hw ?_
  have h : Dev.Keeps Dev.tempCriticalScope d d := .refl
  unfold Dev.tempCritical
  extract_lets d1 d2 d3 e1 e2 e3
  have hd1 : Dev.Keeps Dev.tempCriticalScope d d1 := h.clusterDown
  have hd2 : Dev.Keeps Dev.tempCriticalScope d d2 := by
    unfold d2
    split
    · extract_lets d4 e4
      have hd4 : Dev.Keeps Dev.tempCriticalScope d d4 := hd1.inc.acqFinish
      exact hd4.upd (acq := nofun)
    · exact hd1
  have hd3 : Dev.Keeps Dev.tempCriticalScope d d3 := Dev.Keeps.ite hd2.runEnds hd2
  have he1 : Dev.Keeps Dev.tempCriticalScope d e1 := hd3.drainStart
  exact Dev.Keeps.ite (he1.upd (pwr := nofun) (flt := nofun)) hd3

/-- What `Dev.tempSample` may write. -/
abbrev Dev.tempSampleScope : Dev.Scope := { freeCount := true, staged := true, mem := true, tick := true, acq := true, hop := true, img := true, ct := true, aux := true, cal := true, seq := true, panel := true, hp := true, ring := true, cl := true, pp := true, pwr := true, flt := true, regs := [R.SYS_CTRL, R.SYS_STATUS, R.SYS_REASON, R.SYS_HALT_INFO, R.TICK_COUNTS, R.ACQ_STATUS, R.ACQ_FSTAT, R.ACQ_STALEMAP, R.HOP_STATUS, R.AUX_COUNTS, R.CAL_STATUS, R.CAL_REASON, R.CAL_COUNT0, R.CAL_COUNT1, R.SEQ_STATUS, R.SEQ_EVPEND, R.GPIO_STATUS, R.GPIO_SWAPST, R.HP_ATTN, R.XR_ECCSB, R.XR_ECCDB, R.RQ_PI, R.RQ_CI, R.RQ_SEQX, R.RQ_LOST, R.RQ_STATUS, R.PP_STATUS, R.PP_COUNTS2, R.PWR_ON, R.PWR_RES, R.PWR_DST0, R.PWR_DST1, R.PWR_WSRC, R.FLT_TEMPST, R.FLT_TMAX, R.FLT_LOG, R.FLT_LAST, R.FLT_WOPEN], fams := [(0x44c0, 4), (0x3ce0, 4), (0x1818, 32), (0x1820, 32), (0x1c58, 8), (0x1c5c, 8), (0x1c30, 8), (0x1c34, 8), (0x840, 4)] }

theorem Dev.Keeps.tempSample {w : Dev.Scope} {d₀ d : Dev} {t0 : Int} {t1 : Int} (h : Dev.Keeps w d₀ d)
    (hw : Dev.tempSampleScope.le w = true := by decide) : Dev.Keeps w d₀ (d.tempSample t0 t1) := by
  refine h.step hw ?_
  have h : Dev.Keeps Dev.tempSampleScope d d := .refl
  unfold Dev.tempSample
  extract_lets t2 d1 d2 hys1 w1 c1 detail1
  have hd1 : Dev.Keeps Dev.tempSampleScope d d1 := h.put.putB
  have hd2 : Dev.Keeps Dev.tempSampleScope d d2 := Dev.Keeps.ite hd1.put hd1
  split
  · exact h
  · split
    · split
      · extract_lets d3 d4 d5 was1 d6 d7 d8
        have hd3 : Dev.Keeps Dev.tempSampleScope d d3 := hd2.put.put
        have hd4 : Dev.Keeps Dev.tempSampleScope d d4 := Dev.Keeps.ite hd3.putB hd3
        have hd5 : Dev.Keeps Dev.tempSampleScope d d5 := Dev.Keeps.ite hd4.putB hd4
        have hd6 : Dev.Keeps Dev.tempSampleScope d d6 := Dev.Keeps.ite hd5.noteEvent hd5
        have hd7 : Dev.Keeps Dev.tempSampleScope d d7 := (Dev.Keeps.ite hd6.noteEvent hd6).settleFaults
        have hd8 : Dev.Keeps Dev.tempSampleScope d d8 := hd7.checkLeft
        exact Dev.Keeps.ite hd8 (Dev.Keeps.ite hd8.tempCool ((hd8.calEnds (fun _ h10 => h10.tempCritical)).stageStop))

/-- What `Dev.faultWindowClose` may write. -/
abbrev Dev.faultWindowCloseScope : Dev.Scope := { flt := true, regs := [R.FLT_WOPEN], fams := [(0x44c0, 4)] }

theorem Dev.Keeps.faultWindowClose {w : Dev.Scope} {d₀ d : Dev} {src : Nat} (h : Dev.Keeps w d₀ d)
    (hw : Dev.faultWindowCloseScope.le w = true := by decide) : Dev.Keeps w d₀ (d.faultWindowClose src) := by
  refine h.step hw ?_
  have h : Dev.Keeps Dev.faultWindowCloseScope d d := .refl
  unfold Dev.faultWindowClose
  exact Dev.Keeps.ite h.windowClose h

/-- What `Dev.cliIn` may write, but for what comes in. -/
abbrev Dev.cliInScope : Dev.Scope := {}

theorem Dev.Keeps.cliIn {w : Dev.Scope} {d₀ d : Dev} {f : Dev → Dev} (h : Dev.Keeps w d₀ d)
    (hf : ∀ x, Dev.Keeps w d₀ x → Dev.Keeps w d₀ (f x)) : Dev.Keeps w d₀ (d.cliIn f) :=
  .ite (hf _ h) h

/-- What `Dev.linkLock` may write. -/
abbrev Dev.linkLockScope : Dev.Scope := { cl := true, regs := [R.CL_STATUS] }

theorem Dev.Keeps.linkLock {w : Dev.Scope} {d₀ d : Dev}  (h : Dev.Keeps w d₀ d)
    (hw : Dev.linkLockScope.le w = true := by decide) : Dev.Keeps w d₀ (d.linkLock) := by
  refine h.step hw ?_
  have h : Dev.Keeps Dev.linkLockScope d d := .refl
  unfold Dev.linkLock
  extract_lets e1 e2
  have he1 : Dev.Keeps Dev.linkLockScope d e1 := h.put
  exact Dev.Keeps.ite (he1.upd (cl := nofun)) (Dev.Keeps.ite (h.upd (cl := nofun)) h)

/-- What `Dev.memberEnter` may write. -/
abbrev Dev.memberEnterScope : Dev.Scope := { tick := true, acq := true, hop := true, img := true, cal := true, cl := true, regs := [R.SYS_CTRL, R.SYS_STATUS, R.SYS_REASON, R.TICK_BUDGET, R.HOP_STATUS, R.HOP_FMIN, R.IMG_STATUS, R.IMG_NODES, R.IMG_THR, R.IMG_SWTIME] }

theorem Dev.Keeps.memberEnter {w : Dev.Scope} {d₀ d : Dev}  (h : Dev.Keeps w d₀ d)
    (hw : Dev.memberEnterScope.le w = true := by decide) : Dev.Keeps w d₀ (d.memberEnter) := by
  refine h.step hw ?_
  have h : Dev.Keeps Dev.memberEnterScope d d := .refl
  unfold Dev.memberEnter
  exact Dev.Keeps.ite h.enterRunning h

/-- What `Dev.noRetryNow` may write. -/
abbrev Dev.noRetryNowScope : Dev.Scope := { acq := true }

theorem Dev.Keeps.noRetryNow {w : Dev.Scope} {d₀ d : Dev}  (h : Dev.Keeps w d₀ d)
    (hw : Dev.noRetryNowScope.le w = true := by decide) : Dev.Keeps w d₀ (d.noRetryNow) := by
  refine h.step hw ?_
  have h : Dev.Keeps Dev.noRetryNowScope d d := .refl
  unfold Dev.noRetryNow
  extract_lets e1
  exact h.upd (acq := nofun)

/-- What `Dev.ringRcancel` may write. -/
abbrev Dev.ringRcancelScope : Dev.Scope := { acq := true, cl := true }

theorem Dev.Keeps.ringRcancel {w : Dev.Scope} {d₀ d : Dev}  (h : Dev.Keeps w d₀ d)
    (hw : Dev.ringRcancelScope.le w = true := by decide) : Dev.Keeps w d₀ (d.ringRcancel) := by
  refine h.step hw ?_
  have h : Dev.Keeps Dev.ringRcancelScope d d := .refl
  unfold Dev.ringRcancel
  exact Dev.Keeps.ite h.sendK.noRetryNow h

/-- What `Dev.clMeasure` may write. -/
abbrev Dev.clMeasureScope : Dev.Scope := { mem := true, ring := true, cl := true, regs := [R.HP_ATTN, R.RQ_PI, R.RQ_SEQX, R.RQ_STATUS, R.CL_STATUS, R.CL_RTT] }

theorem Dev.Keeps.clMeasure {w : Dev.Scope} {d₀ d : Dev} {echo : Echo} (h : Dev.Keeps w d₀ d)
    (hw : Dev.clMeasureScope.le w = true := by decide) : Dev.Keeps w d₀ (d.clMeasure echo) := by
  refine h.step hw ?_
  have h : Dev.Keeps Dev.clMeasureScope d d := .refl
  unfold Dev.clMeasure
  extract_lets e1
  split
  · exact h
  · split
    · exact h.sendK
    · split
      · exact h
      · extract_lets e2 d1 n1 rtt1 d2 e3 d3
        have hd1 : Dev.Keeps Dev.clMeasureScope d d1 := h.upd (cl := nofun)
        have hd2 : Dev.Keeps Dev.clMeasureScope d d2 := hd1.put
        have hd3 : Dev.Keeps Dev.clMeasureScope d d3 := hd2.upd (cl := nofun)
        exact Dev.Keeps.ite h (Dev.Keeps.ite hd1 (Dev.Keeps.ite hd2.enumFail hd3.clSend))

/-- What `Dev.clLoss` may write. -/
abbrev Dev.clLossScope : Dev.Scope := { freeCount := true, staged := true, mem := true, tick := true, acq := true, hop := true, img := true, ct := true, aux := true, cal := true, seq := true, panel := true, hp := true, ring := true, cl := true, pp := true, pwr := true, flt := true, regs := [R.SYS_CTRL, R.SYS_STATUS, R.SYS_REASON, R.SYS_HALT_INFO, R.ACQ_STATUS, R.HOP_STATUS, R.CAL_STATUS, R.CAL_REASON, R.SEQ_STATUS, R.SEQ_EVPEND, R.GPIO_STATUS, R.GPIO_SWAPST, R.HP_ATTN, R.XR_ECCSB, R.XR_ECCDB, R.RQ_PI, R.RQ_CI, R.RQ_SEQX, R.RQ_LOST, R.RQ_STATUS, R.CL_STATUS, R.PP_STATUS, R.PP_COUNTS2, R.PWR_ON, R.PWR_RES, R.PWR_DST0, R.PWR_DST1, R.PWR_WSRC, R.FLT_LOG, R.FLT_LAST, R.FLT_WOPEN], fams := [(0x3ce0, 4), (0x1818, 32), (0x1820, 32), (0x44c0, 4)] }

theorem Dev.Keeps.clLoss {w : Dev.Scope} {d₀ d : Dev} {detail : Nat} (h : Dev.Keeps w d₀ d)
    (hw : Dev.clLossScope.le w = true := by decide) : Dev.Keeps w d₀ (d.clLoss detail) := by
  refine h.step hw ?_
  have h : Dev.Keeps Dev.clLossScope d d := .refl
  unfold Dev.clLoss
  exact (h.put.raise.calEnds (fun _ h2 => h2.runEnds)).stageStop

/-- What `Dev.ringDown` may write. -/
abbrev Dev.ringDownScope : Dev.Scope := { freeCount := true, staged := true, mem := true, tick := true, acq := true, hop := true, img := true, ct := true, aux := true, cal := true, seq := true, panel := true, hp := true, ring := true, cl := true, pp := true, pwr := true, flt := true, regs := [R.SYS_CTRL, R.SYS_STATUS, R.SYS_REASON, R.SYS_HALT_INFO, R.ACQ_STATUS, R.HOP_STATUS, R.CAL_STATUS, R.CAL_REASON, R.SEQ_STATUS, R.SEQ_EVPEND, R.GPIO_STATUS, R.GPIO_SWAPST, R.HP_ATTN, R.XR_ECCSB, R.XR_ECCDB, R.RQ_PI, R.RQ_CI, R.RQ_SEQX, R.RQ_LOST, R.RQ_STATUS, R.CL_STATUS, R.CL_STALEM, R.PP_STATUS, R.PP_COUNTS2, R.PWR_ON, R.PWR_RES, R.PWR_DST0, R.PWR_DST1, R.PWR_WSRC, R.FLT_LOG, R.FLT_LAST, R.FLT_WOPEN], fams := [(0x3ce0, 4), (0x1818, 32), (0x1820, 32), (0x44c0, 4)] }

theorem Dev.Keeps.ringDown {w : Dev.Scope} {d₀ d : Dev} {n : Nat} (h : Dev.Keeps w d₀ d)
    (hw : Dev.ringDownScope.le w = true := by decide) : Dev.Keeps w d₀ (d.ringDown n) := by
  refine h.step hw ?_
  have h : Dev.Keeps Dev.ringDownScope d d := .refl
  unfold Dev.ringDown
  extract_lets d1 e1 e2 now1 first1 d2 e3
  have hd1 : Dev.Keeps Dev.ringDownScope d d1 := h.sendK
  have he1 : Dev.Keeps Dev.ringDownScope d e1 := hd1.acqStop.put
  have hd2 : Dev.Keeps Dev.ringDownScope d d2 := h.put
  split
  · exact h
  · split
    · exact Dev.Keeps.ite (he1.upd (cl := nofun)) hd1
    · split
      · exact h
      · split
        · extract_lets gone1 d3
          have hd3 : Dev.Keeps Dev.ringDownScope d d3 := hd2.upd (cl := nofun)
          exact Dev.Keeps.ite hd3.clLoss hd3

/-- What `Dev.clForward` may write. -/
abbrev Dev.clForwardScope : Dev.Scope := { cl := true }

theorem Dev.Keeps.clForward {w : Dev.Scope} {d₀ d : Dev} {f : RingFrame} (h : Dev.Keeps w d₀ d)
    (hw : Dev.clForwardScope.le w = true := by decide) : Dev.Keeps w d₀ (d.clForward f) := by
  refine h.step hw ?_
  have h : Dev.Keeps Dev.clForwardScope d d := .refl
  unfold Dev.clForward
  extract_lets e1
  exact Dev.Keeps.ite (h.upd (cl := nofun)) h

/-- What `Dev.clEnum` may write. -/
abbrev Dev.clEnumScope : Dev.Scope := { freeCount := true, staged := true, mem := true, tick := true, acq := true, hop := true, img := true, ct := true, aux := true, cal := true, seq := true, panel := true, hp := true, ring := true, cl := true, pp := true, pwr := true, flt := true, regs := [R.SYS_CTRL, R.SYS_STATUS, R.SYS_REASON, R.SYS_HALT_INFO, R.ACQ_STATUS, R.HOP_STATUS, R.CAL_STATUS, R.CAL_REASON, R.SEQ_STATUS, R.SEQ_EVPEND, R.GPIO_STATUS, R.GPIO_SWAPST, R.HP_ATTN, R.XR_ECCSB, R.XR_ECCDB, R.RQ_PI, R.RQ_CI, R.RQ_SEQX, R.RQ_LOST, R.RQ_STATUS, R.CL_STATUS, R.CL_COUNTS, R.PP_STATUS, R.PP_COUNTS2, R.PWR_ON, R.PWR_RES, R.PWR_DST0, R.PWR_DST1, R.PWR_WSRC, R.FLT_LOG, R.FLT_LAST, R.FLT_WOPEN], fams := [(0x3ce0, 4), (0x1818, 32), (0x1820, 32), (0x44c0, 4)] }

theorem Dev.Keeps.clEnum {w : Dev.Scope} {d₀ d : Dev} {m : RingMsg} (h : Dev.Keeps w d₀ d)
    (hw : Dev.clEnumScope.le w = true := by decide) : Dev.Keeps w d₀ (d.clEnum m) := by
  refine h.step hw ?_
  have h : Dev.Keeps Dev.clEnumScope d d := .refl
  unfold Dev.clEnum
  extract_lets next1 d1 body1 n1 d2 e1
  have hd1 : Dev.Keeps Dev.clEnumScope d d1 := h.put
  have hd2 : Dev.Keeps Dev.clEnumScope d d2 := h.put
  split
  · exact h
  · split
    · exact h.clForward.inc.raise
    · split
      · exact Dev.Keeps.ite h.clForward hd1.clForward
      · split
        · exact h
        · extract_lets d3
          have hd3 : Dev.Keeps Dev.clEnumScope d d3 := hd2.upd (cl := nofun)
          exact Dev.Keeps.ite h (Dev.Keeps.ite hd2.enumFail (Dev.Keeps.ite hd2.enumFail (Dev.Keeps.foldl (fun _ _ h5 => h5.sendK) hd3)))

/-- What `Dev.clRx` may write, but for what the frame does. -/
abbrev Dev.clRxScope : Dev.Scope := { Dev.raiseScope with cl := true, regs := R.CL_COUNTS :: Dev.raiseScope.regs }

theorem Dev.Keeps.clRx {w : Dev.Scope} {d₀ d : Dev} {typ : Nat} {m : RingMsg} {lead member : Dev → Dev} (h : Dev.Keeps w d₀ d)
    (hl : ∀ x, Dev.Keeps w d₀ x → Dev.Keeps w d₀ (lead x)) (hm : ∀ x, Dev.Keeps w d₀ x → Dev.Keeps w d₀ (member x))
    (hw : Dev.clRxScope.le w = true := by decide) : Dev.Keeps w d₀ (d.clRx typ m lead member) := by
  have hs : Dev.Keeps w d₀ (d.clForward ⟨typ, m.src, m.dst, m.seq, m.frame, m.body, m.crc⟩) :=
    h.step hw (Dev.Keeps.clForward .refl)
  unfold Dev.clRx
  exact .ite h (.ite (hs.step hw (Dev.Keeps.raise (Dev.Keeps.inc .refl))) (.ite hs (.ite (.ite (hl _ hs) hs) (.ite (hm _ hs) hs))))

/-- What `Dev.enumDone` may write. -/
abbrev Dev.enumDoneScope : Dev.Scope := { mem := true, ring := true, cl := true, regs := [R.HP_ATTN, R.RQ_PI, R.RQ_SEQX, R.RQ_STATUS, R.CL_STATUS, R.CL_COMP, R.CL_PERIOD, R.CL_ROWS] }

theorem Dev.Keeps.enumDone {w : Dev.Scope} {d₀ d : Dev}  (h : Dev.Keeps w d₀ d)
    (hw : Dev.enumDoneScope.le w = true := by decide) : Dev.Keeps w d₀ (d.enumDone) := by
  refine h.step hw ?_
  have h : Dev.Keeps Dev.enumDoneScope d d := .refl
  unfold Dev.enumDone
  extract_lets n1 d1 d2 d3
  have hd1 : Dev.Keeps Dev.enumDoneScope d d1 := h.put.put
  have hd2 : Dev.Keeps Dev.enumDoneScope d d2 := hd1.put.put
  have hd3 : Dev.Keeps Dev.enumDoneScope d d3 := hd2.put.put
  split
  · exact h
  · exact Dev.Keeps.ite hd3.enumEnd h

/-- What `Dev.clConfig` may write. -/
abbrev Dev.clConfigScope : Dev.Scope := { freeCount := true, staged := true, mem := true, tick := true, acq := true, hop := true, img := true, ct := true, aux := true, cal := true, seq := true, panel := true, hp := true, ring := true, cl := true, pp := true, pwr := true, flt := true, regs := [R.SYS_CTRL, R.SYS_STATUS, R.SYS_REASON, R.SYS_HALT_INFO, R.ACQ_STATUS, R.HOP_STATUS, R.CAL_STATUS, R.CAL_REASON, R.SEQ_STATUS, R.SEQ_EVPEND, R.GPIO_STATUS, R.GPIO_SWAPST, R.HP_ATTN, R.XR_ECCSB, R.XR_ECCDB, R.RQ_PI, R.RQ_CI, R.RQ_SEQX, R.RQ_LOST, R.RQ_STATUS, R.CL_STATUS, R.CL_RTT, R.CL_COMP, R.CL_PERIOD, R.CL_ROWS, R.CL_COUNTS, R.PP_STATUS, R.PP_COUNTS2, R.PWR_ON, R.PWR_RES, R.PWR_DST0, R.PWR_DST1, R.PWR_WSRC, R.FLT_LOG, R.FLT_LAST, R.FLT_WOPEN], fams := [(0x3ce0, 4), (0x1818, 32), (0x1820, 32), (0x44c0, 4)] }

theorem Dev.Keeps.clConfig {w : Dev.Scope} {d₀ d : Dev} {m : RingMsg} (h : Dev.Keeps w d₀ d)
    (hw : Dev.clConfigScope.le w = true := by decide) : Dev.Keeps w d₀ (d.clConfig m) := by
  refine h.step hw ?_
  have h : Dev.Keeps Dev.clConfigScope d d := .refl
  unfold Dev.clConfig
  refine Dev.Keeps.clRx h ?_ ?_
  · intro d' hd1'
    extract_lets e1
    split
    · exact Dev.Keeps.ite ((hd1'.upd (cl := nofun)).enumDone) hd1'
    · exact hd1'
  · intro d' hd1'
    extract_lets k1 d1 d2 d3
    have hd1 : Dev.Keeps Dev.clConfigScope d d1 := hd1'.put.put
    have hd2 : Dev.Keeps Dev.clConfigScope d d2 := hd1.put
    have hd3 : Dev.Keeps Dev.clConfigScope d d3 := hd2.put.put
    exact Dev.Keeps.ite hd1'.clSend hd3.put.clSend

/-- What `Dev.clCheck` may write. -/
abbrev Dev.clCheckScope : Dev.Scope := { freeCount := true, staged := true, mem := true, tick := true, acq := true, hop := true, img := true, ct := true, aux := true, cal := true, seq := true, panel := true, hp := true, ring := true, cl := true, pp := true, pwr := true, flt := true, regs := [R.SYS_CTRL, R.SYS_STATUS, R.SYS_REASON, R.SYS_HALT_INFO, R.ACQ_STATUS, R.HOP_STATUS, R.CAL_STATUS, R.CAL_REASON, R.SEQ_STATUS, R.SEQ_EVPEND, R.GPIO_STATUS, R.GPIO_SWAPST, R.HP_ATTN, R.XR_ECCSB, R.XR_ECCDB, R.RQ_PI, R.RQ_CI, R.RQ_SEQX, R.RQ_LOST, R.RQ_STATUS, R.CL_COUNTS, R.PP_STATUS, R.PP_COUNTS2, R.PWR_ON, R.PWR_RES, R.PWR_DST0, R.PWR_DST1, R.PWR_WSRC, R.FLT_LOG, R.FLT_LAST, R.FLT_WOPEN], fams := [(0x3ce0, 4), (0x1818, 32), (0x1820, 32), (0x44c0, 4)] }

theorem Dev.Keeps.clCheck {w : Dev.Scope} {d₀ d : Dev} {ask : CheckAsk} (h : Dev.Keeps w d₀ d)
    (hw : Dev.clCheckScope.le w = true := by decide) : Dev.Keeps w d₀ (d.clCheck ask) := by
  refine h.step hw ?_
  have h : Dev.Keeps Dev.clCheckScope d d := .refl
  unfold Dev.clCheck
  extract_lets m1
  refine Dev.Keeps.clRx h (fun _ h => h) ?_
  intro d' hd1'
  extract_lets e1 d1 c1 e2 e3
  have hd1 : Dev.Keeps Dev.clCheckScope d d1 := hd1'.upd (cl := nofun)
  have he2 : Dev.Keeps Dev.clCheckScope d e2 := hd1.put
  split
  · exact hd1.clSend
  · clear_value c1
    split
    · extract_lets d2 e4
      have hd2 : Dev.Keeps Dev.clCheckScope d d2 := hd1.put.put.put
      exact (hd2.upd (cl := nofun)).clSend
    · exact (he2.upd (cl := nofun)).clSend

/-- What `Dev.clAccept` may write, but for what the frame does. -/
abbrev Dev.clAcceptScope : Dev.Scope := { cl := true }

theorem Dev.Keeps.clAccept {w : Dev.Scope} {d₀ d : Dev} {typ : Nat} {m : RingMsg} {act : Dev → Dev} (h : Dev.Keeps w d₀ d)
    (hf : ∀ x, Dev.Keeps w d₀ x → Dev.Keeps w d₀ (act x)) (hw : Dev.clAcceptScope.le w = true := by decide) :
    Dev.Keeps w d₀ (d.clAccept typ m act) := by
  have hs : Dev.Keeps w d₀ (d.clSend frAck m.src m.frame [byte typ, byte m.seq]) := h.clSend (Dev.Scope.le_trans rfl hw)
  unfold Dev.clAccept
  exact .ite h (.ite hs (hf _ (hs.step hw (Dev.Keeps.refl.upd (cl := nofun)))))

/-- What `Dev.clToLead` may write, but for what the frame does. -/
abbrev Dev.clToLeadScope : Dev.Scope := Dev.clRxScope

theorem Dev.Keeps.clToLead {w : Dev.Scope} {d₀ d : Dev} {typ : Nat} {m : RingMsg} {act : Dev → Dev} (h : Dev.Keeps w d₀ d)
    (hf : ∀ x, Dev.Keeps w d₀ x → Dev.Keeps w d₀ (act x)) (hw : Dev.clToLeadScope.le w = true := by decide) :
    Dev.Keeps w d₀ (d.clToLead typ m act) :=
  h.clRx (fun _ hx => hx.clAccept hf (Dev.Scope.le_trans rfl hw)) (fun _ h => h) hw

/-- What `Dev.clCheckr` may write. -/
abbrev Dev.clCheckrScope : Dev.Scope := { freeCount := true, staged := true, mem := true, tick := true, acq := true, hop := true, img := true, ct := true, aux := true, cal := true, seq := true, panel := true, hp := true, ring := true, cl := true, pp := true, pwr := true, flt := true, regs := [R.SYS_CTRL, R.SYS_STATUS, R.SYS_REASON, R.SYS_HALT_INFO, R.ACQ_STATUS, R.HOP_STATUS, R.CAL_STATUS, R.CAL_REASON, R.SEQ_STATUS, R.SEQ_EVPEND, R.GPIO_STATUS, R.GPIO_SWAPST, R.HP_ATTN, R.XR_ECCSB, R.XR_ECCDB, R.RQ_PI, R.RQ_CI, R.RQ_SEQX, R.RQ_LOST, R.RQ_STATUS, R.CL_STATUS, R.CL_COMP, R.CL_PERIOD, R.CL_ROWS, R.CL_COUNTS, R.PP_STATUS, R.PP_COUNTS2, R.PWR_ON, R.PWR_RES, R.PWR_DST0, R.PWR_DST1, R.PWR_WSRC, R.FLT_LOG, R.FLT_LAST, R.FLT_WOPEN], fams := [(0x3ce0, 4), (0x1818, 32), (0x1820, 32), (0x44c0, 4)] }

theorem Dev.Keeps.clCheckr {w : Dev.Scope} {d₀ d : Dev} {m : RingMsg} (h : Dev.Keeps w d₀ d)
    (hw : Dev.clCheckrScope.le w = true := by decide) : Dev.Keeps w d₀ (d.clCheckr m) := by
  refine h.step hw ?_
  have h : Dev.Keeps Dev.clCheckrScope d d := .refl
  unfold Dev.clCheckr
  extract_lets code1 nc1 nr1 keep1
  refine Dev.Keeps.clToLead h ?_
  intro d' hd1'
  extract_lets e1
  split
  · exact Dev.Keeps.ite hd1'.enumFail ((hd1'.upd (cl := nofun)).enumDone)
  · exact hd1'.upd (cl := nofun)

/-- What `Dev.clStage` may write. -/
abbrev Dev.clStageScope : Dev.Scope := { freeCount := true, staged := true, mem := true, tick := true, acq := true, hop := true, img := true, ct := true, aux := true, cal := true, seq := true, panel := true, hp := true, ring := true, cl := true, pp := true, pwr := true, flt := true, regs := [R.SYS_CTRL, R.SYS_STATUS, R.SYS_REASON, R.SYS_HALT_INFO, R.TICK_BUDGET, R.ACQ_STATUS, R.HOP_STATUS, R.HOP_FMIN, R.IMG_STATUS, R.IMG_NODES, R.IMG_THR, R.IMG_SWTIME, R.CAL_STATUS, R.CAL_REASON, R.SEQ_STATUS, R.SEQ_EVPEND, R.GPIO_STATUS, R.GPIO_SWAPST, R.HP_ATTN, R.XR_ECCSB, R.XR_ECCDB, R.RQ_PI, R.RQ_CI, R.RQ_SEQX, R.RQ_LOST, R.RQ_STATUS, R.CL_COUNTS, R.PP_STATUS, R.PP_COUNTS2, R.PWR_ON, R.PWR_RES, R.PWR_DST0, R.PWR_DST1, R.PWR_WSRC, R.FLT_LOG, R.FLT_LAST, R.FLT_WOPEN], fams := [(0x3ce0, 4), (0x1818, 32), (0x1820, 32), (0x44c0, 4)] }

theorem Dev.Keeps.clStage {w : Dev.Scope} {d₀ d : Dev} {m : RingMsg} (h : Dev.Keeps w d₀ d)
    (hw : Dev.clStageScope.le w = true := by decide) : Dev.Keeps w d₀ (d.clStage m) := by
  refine h.step hw ?_
  have h : Dev.Keeps Dev.clStageScope d d := .refl
  unfold Dev.clStage
  extract_lets d1 e1 d2
  have hd1 : Dev.Keeps Dev.clStageScope d d1 := h.inc.raise
  have hd2 : Dev.Keeps Dev.clStageScope d d2 := hd1.upd (cl := nofun)
  split
  · split
    · exact Dev.Keeps.ite hd1 (Dev.Keeps.foldl (fun _ _ h4 => h4.clSend) hd2)
    · exact hd1
  · refine Dev.Keeps.clRx h ?_ ?_
    · intro d' hd3'
      extract_lets s1 e2
      exact Dev.Keeps.ite (hd3'.upd (cl := nofun)) (hd3'.upd (cl := nofun))
    · intro d' hd3'
      extract_lets d3 e2
      have hd3 : Dev.Keeps Dev.clStageScope d d3 := hd3'.memberEnter
      exact hd3.upd (cl := nofun)

/-- What `Dev.clRetry` may write. -/
abbrev Dev.clRetryScope : Dev.Scope := { freeCount := true, staged := true, mem := true, tick := true, acq := true, hop := true, img := true, ct := true, aux := true, cal := true, seq := true, panel := true, hp := true, ring := true, cl := true, pp := true, pwr := true, flt := true, regs := [R.SYS_CTRL, R.SYS_STATUS, R.SYS_REASON, R.SYS_HALT_INFO, R.ACQ_STATUS, R.HOP_STATUS, R.CAL_STATUS, R.CAL_REASON, R.SEQ_STATUS, R.SEQ_EVPEND, R.GPIO_STATUS, R.GPIO_SWAPST, R.HP_ATTN, R.XR_ECCSB, R.XR_ECCDB, R.RQ_PI, R.RQ_CI, R.RQ_SEQX, R.RQ_LOST, R.RQ_STATUS, R.CL_COUNTS, R.PP_STATUS, R.PP_COUNTS2, R.PWR_ON, R.PWR_RES, R.PWR_DST0, R.PWR_DST1, R.PWR_WSRC, R.FLT_LOG, R.FLT_LAST, R.FLT_WOPEN], fams := [(0x3ce0, 4), (0x1818, 32), (0x1820, 32), (0x44c0, 4)] }

theorem Dev.Keeps.clRetry {w : Dev.Scope} {d₀ d : Dev} {m : RingMsg} (h : Dev.Keeps w d₀ d)
    (hw : Dev.clRetryScope.le w = true := by decide) : Dev.Keeps w d₀ (d.clRetry m) := by
  refine h.step hw ?_
  have h : Dev.Keeps Dev.clRetryScope d d := .refl
  unfold Dev.clRetry
  extract_lets l1
  refine Dev.Keeps.clRx h (fun _ h2 => h2.upd (cl := nofun)) ?_
  intro d' hd1'
  extract_lets e1 e2
  split
  · exact Dev.Keeps.ite (hd1'.upd (acq := nofun) (cl := nofun)) hd1'
  · exact hd1'

/-- What `Dev.clNoiseRx` may write. -/
abbrev Dev.clNoiseRxScope : Dev.Scope := { freeCount := true, staged := true, mem := true, tick := true, acq := true, hop := true, img := true, ct := true, aux := true, cal := true, seq := true, panel := true, hp := true, ring := true, cl := true, pp := true, pwr := true, flt := true, regs := [R.SYS_CTRL, R.SYS_STATUS, R.SYS_REASON, R.SYS_HALT_INFO, R.ACQ_STATUS, R.HOP_STATUS, R.CAL_STATUS, R.CAL_REASON, R.SEQ_STATUS, R.SEQ_EVPEND, R.GPIO_STATUS, R.GPIO_SWAPST, R.HP_ATTN, R.XR_ECCSB, R.XR_ECCDB, R.RQ_PI, R.RQ_CI, R.RQ_SEQX, R.RQ_LOST, R.RQ_STATUS, R.CL_COUNTS, R.PP_STATUS, R.PP_COUNTS2, R.PWR_ON, R.PWR_RES, R.PWR_DST0, R.PWR_DST1, R.PWR_WSRC, R.FLT_LOG, R.FLT_LAST, R.FLT_WOPEN], fams := [(0x3ce0, 4), (0x1818, 32), (0x1820, 32), (0x44c0, 4)] }

theorem Dev.Keeps.clNoiseRx {w : Dev.Scope} {d₀ d : Dev} {m : RingMsg} (h : Dev.Keeps w d₀ d)
    (hw : Dev.clNoiseRxScope.le w = true := by decide) : Dev.Keeps w d₀ (d.clNoiseRx m) := by
  refine h.step hw ?_
  have h : Dev.Keeps Dev.clNoiseRxScope d d := .refl
  unfold Dev.clNoiseRx
  exact h.clToLead (fun _ h2 => Dev.Keeps.ite (h2.upd (hop := nofun)) h2)

/-- What `Dev.clChoose` may write. -/
abbrev Dev.clChooseScope : Dev.Scope := { acq := true, cl := true }

theorem Dev.Keeps.clChoose {w : Dev.Scope} {d₀ d : Dev}  (h : Dev.Keeps w d₀ d)
    (hw : Dev.clChooseScope.le w = true := by decide) : Dev.Keeps w d₀ (d.clChoose) := by
  refine h.step hw ?_
  have h : Dev.Keeps Dev.clChooseScope d d := .refl
  unfold Dev.clChoose
  extract_lets e1 e2
  split
  · exact h
  · extract_lets all1 pick1 d1
    have hd1 : Dev.Keeps Dev.clChooseScope d d1 := h.upd (acq := nofun) (cl := nofun)
    exact Dev.Keeps.ite h hd1.clSend

/-- What `Dev.clCorrRx` may write. -/
abbrev Dev.clCorrRxScope : Dev.Scope := { freeCount := true, staged := true, mem := true, tick := true, acq := true, hop := true, img := true, ct := true, aux := true, cal := true, seq := true, panel := true, hp := true, ring := true, cl := true, pp := true, pwr := true, flt := true, regs := [R.SYS_CTRL, R.SYS_STATUS, R.SYS_REASON, R.SYS_HALT_INFO, R.ACQ_STATUS, R.HOP_STATUS, R.CAL_STATUS, R.CAL_REASON, R.SEQ_STATUS, R.SEQ_EVPEND, R.GPIO_STATUS, R.GPIO_SWAPST, R.HP_ATTN, R.XR_ECCSB, R.XR_ECCDB, R.RQ_PI, R.RQ_CI, R.RQ_SEQX, R.RQ_LOST, R.RQ_STATUS, R.CL_COUNTS, R.PP_STATUS, R.PP_COUNTS2, R.PWR_ON, R.PWR_RES, R.PWR_DST0, R.PWR_DST1, R.PWR_WSRC, R.FLT_LOG, R.FLT_LAST, R.FLT_WOPEN], fams := [(0x3ce0, 4), (0x1818, 32), (0x1820, 32), (0x44c0, 4)] }

theorem Dev.Keeps.clCorrRx {w : Dev.Scope} {d₀ d : Dev} {m : RingMsg} (h : Dev.Keeps w d₀ d)
    (hw : Dev.clCorrRxScope.le w = true := by decide) : Dev.Keeps w d₀ (d.clCorrRx m) := by
  refine h.step hw ?_
  have h : Dev.Keeps Dev.clCorrRxScope d d := .refl
  unfold Dev.clCorrRx
  refine Dev.Keeps.clToLead h ?_
  intro d' hd1'
  extract_lets e1 d1
  have hd1 : Dev.Keeps Dev.clCorrRxScope d d1 := hd1'.upd (cl := nofun)
  exact Dev.Keeps.ite hd1' (Dev.Keeps.ite hd1.clChoose hd1)

/-- What `Dev.clTake` may write. -/
abbrev Dev.clTakeScope : Dev.Scope := { cl := true, regs := [R.CL_STALEM] }

theorem Dev.Keeps.clTake {w : Dev.Scope} {d₀ d : Dev} {src : Nat} {o : Nat} {body : List Byte} (h : Dev.Keeps w d₀ d)
    (hw : Dev.clTakeScope.le w = true := by decide) : Dev.Keeps w d₀ (d.clTake src o body) := by
  refine h.step hw ?_
  have h : Dev.Keeps Dev.clTakeScope d d := .refl
  unfold Dev.clTake
  extract_lets first1 ncol1 fl1 lost1 fl2 stale1 vals1 bad1 n1 gone1 pv1 entry1 d1 e1
  have hd1 : Dev.Keeps Dev.clTakeScope d d1 := Dev.Keeps.ite h.put h
  split
  · extract_lets new1 prof1 add1 keep1
    exact hd1.upd (cl := nofun)

/-- What `Dev.deltaStore` may write. -/
abbrev Dev.deltaStoreScope : Dev.Scope := { freeCount := true, staged := true, mem := true, tick := true, acq := true, hop := true, img := true, ct := true, aux := true, cal := true, seq := true, panel := true, hp := true, ring := true, cl := true, pp := true, pwr := true, flt := true, regs := [R.SYS_CTRL, R.SYS_STATUS, R.SYS_REASON, R.SYS_HALT_INFO, R.ACQ_STATUS, R.HOP_STATUS, R.CAL_STATUS, R.CAL_REASON, R.SEQ_STATUS, R.SEQ_EVPEND, R.GPIO_STATUS, R.GPIO_SWAPST, R.HP_ATTN, R.XR_ECCSB, R.XR_ECCDB, R.RQ_PI, R.RQ_CI, R.RQ_SEQX, R.RQ_LOST, R.RQ_STATUS, R.PP_STATUS, R.PP_COUNTS2, R.PWR_ON, R.PWR_RES, R.PWR_DST0, R.PWR_DST1, R.PWR_WSRC, R.FLT_LOG, R.FLT_LAST, R.FLT_WOPEN], fams := [(0x3ce0, 4), (0x1818, 32), (0x1820, 32), (0x44c0, 4)] }

theorem Dev.Keeps.deltaStore {w : Dev.Scope} {d₀ d : Dev} {o : Nat} {body : List Byte} (h : Dev.Keeps w d₀ d)
    (hw : Dev.deltaStoreScope.le w = true := by decide) : Dev.Keeps w d₀ (d.deltaStore o body) := by
  refine h.step hw ?_
  have h : Dev.Keeps Dev.deltaStoreScope d d := .refl
  unfold Dev.deltaStore
  exact Dev.Keeps.ite h.xwriteClean.eccTouch h

/-- What `Dev.clDeltaRx` may write. -/
abbrev Dev.clDeltaRxScope : Dev.Scope := { freeCount := true, staged := true, mem := true, tick := true, acq := true, hop := true, img := true, ct := true, aux := true, cal := true, seq := true, panel := true, hp := true, ring := true, cl := true, pp := true, pwr := true, flt := true, regs := [R.SYS_CTRL, R.SYS_STATUS, R.SYS_REASON, R.SYS_HALT_INFO, R.ACQ_STATUS, R.HOP_STATUS, R.CAL_STATUS, R.CAL_REASON, R.SEQ_STATUS, R.SEQ_EVPEND, R.GPIO_STATUS, R.GPIO_SWAPST, R.HP_ATTN, R.XR_ECCSB, R.XR_ECCDB, R.RQ_PI, R.RQ_CI, R.RQ_SEQX, R.RQ_LOST, R.RQ_STATUS, R.CL_COUNTS, R.CL_STALEM, R.PP_STATUS, R.PP_COUNTS2, R.PWR_ON, R.PWR_RES, R.PWR_DST0, R.PWR_DST1, R.PWR_WSRC, R.FLT_LOG, R.FLT_LAST, R.FLT_WOPEN], fams := [(0x3ce0, 4), (0x1818, 32), (0x1820, 32), (0x44c0, 4)] }

theorem Dev.Keeps.clDeltaRx {w : Dev.Scope} {d₀ d : Dev} {m : RingMsg} (h : Dev.Keeps w d₀ d)
    (hw : Dev.clDeltaRxScope.le w = true := by decide) : Dev.Keeps w d₀ (d.clDeltaRx m) := by
  refine h.step hw ?_
  have h : Dev.Keeps Dev.clDeltaRxScope d d := .refl
  unfold Dev.clDeltaRx
  extract_lets fl1
  refine Dev.Keeps.clToLead h ?_
  intro d' hd1'
  extract_lets old1 x1 o1 d1 tc1 e1 d2 e2
  have hd1 : Dev.Keeps Dev.clDeltaRxScope d d1 := hd1'.deltaStore.clTake
  have hd2 : Dev.Keeps Dev.clDeltaRxScope d d2 := hd1.upd (cl := nofun)
  exact Dev.Keeps.ite hd1' (Dev.Keeps.ite (hd2.upd (cl := nofun)) hd2)

/-- What `Dev.clCald` may write. -/
abbrev Dev.clCaldScope : Dev.Scope := { freeCount := true, staged := true, mem := true, tick := true, acq := true, hop := true, img := true, ct := true, aux := true, cal := true, seq := true, panel := true, hp := true, ring := true, cl := true, pp := true, pwr := true, flt := true, regs := [R.SYS_CTRL, R.SYS_STATUS, R.SYS_REASON, R.SYS_HALT_INFO, R.ACQ_STATUS, R.HOP_STATUS, R.CAL_STATUS, R.CAL_REASON, R.SEQ_STATUS, R.SEQ_EVPEND, R.GPIO_STATUS, R.GPIO_SWAPST, R.HP_ATTN, R.XR_ECCSB, R.XR_ECCDB, R.RQ_PI, R.RQ_CI, R.RQ_SEQX, R.RQ_LOST, R.RQ_STATUS, R.CL_COUNTS, R.PP_STATUS, R.PP_COUNTS2, R.PWR_ON, R.PWR_RES, R.PWR_DST0, R.PWR_DST1, R.PWR_WSRC, R.FLT_LOG, R.FLT_LAST, R.FLT_WOPEN], fams := [(0x3ce0, 4), (0x1818, 32), (0x1820, 32), (0x44c0, 4)] }

theorem Dev.Keeps.clCald {w : Dev.Scope} {d₀ d : Dev} {m : RingMsg} (h : Dev.Keeps w d₀ d)
    (hw : Dev.clCaldScope.le w = true := by decide) : Dev.Keeps w d₀ (d.clCald m) := by
  refine h.step hw ?_
  have h : Dev.Keeps Dev.clCaldScope d d := .refl
  unfold Dev.clCald
  extract_lets nc1 nr1
  refine Dev.Keeps.clToLead h ?_
  intro d' hd1'
  extract_lets old1 new1 e1
  exact hd1'.upd (cal := nofun)

/-- What `Dev.clCalr` may write. -/
abbrev Dev.clCalrScope : Dev.Scope := { freeCount := true, staged := true, mem := true, tick := true, acq := true, hop := true, img := true, ct := true, aux := true, cal := true, seq := true, panel := true, hp := true, ring := true, cl := true, pp := true, pwr := true, flt := true, regs := [R.SYS_CTRL, R.SYS_STATUS, R.SYS_REASON, R.SYS_HALT_INFO, R.ACQ_STATUS, R.HOP_STATUS, R.CAL_STATUS, R.CAL_REASON, R.SEQ_STATUS, R.SEQ_EVPEND, R.GPIO_STATUS, R.GPIO_SWAPST, R.HP_ATTN, R.XR_ECCSB, R.XR_ECCDB, R.RQ_PI, R.RQ_CI, R.RQ_SEQX, R.RQ_LOST, R.RQ_STATUS, R.CL_COUNTS, R.PP_STATUS, R.PP_COUNTS2, R.PWR_ON, R.PWR_RES, R.PWR_DST0, R.PWR_DST1, R.PWR_WSRC, R.FLT_LOG, R.FLT_LAST, R.FLT_WOPEN], fams := [(0x3ce0, 4), (0x1818, 32), (0x1820, 32), (0x44c0, 4), (0x440, 4)] }

theorem Dev.Keeps.clCalr {w : Dev.Scope} {d₀ d : Dev} {m : RingMsg} (h : Dev.Keeps w d₀ d)
    (hw : Dev.clCalrScope.le w = true := by decide) : Dev.Keeps w d₀ (d.clCalr m) := by
  refine h.step hw ?_
  have h : Dev.Keeps Dev.clCalrScope d d := .refl
  unfold Dev.clCalr
  extract_lets kind1 pan1 n1
  refine Dev.Keeps.clRx h (fun _ h => h) ?_
  intro d' hd1'
  extract_lets gains1 e1 d1 d2 e2
  have hd1 : Dev.Keeps Dev.clCalrScope d d1 := hd1'.upd (cal := nofun)
  have hd2 : Dev.Keeps Dev.clCalrScope d d2 := hd1.put
  split
  · exact hd1'
  · split
    · exact hd1
    · split
      · exact hd1.calFail.settleFaults
      · exact (hd2.upd (cal := nofun)).stageOffs

/-- What `Dev.clAck` may write. -/
abbrev Dev.clAckScope : Dev.Scope := { freeCount := true, staged := true, mem := true, tick := true, acq := true, hop := true, img := true, ct := true, aux := true, cal := true, seq := true, panel := true, hp := true, ring := true, cl := true, pp := true, pwr := true, flt := true, regs := [R.SYS_CTRL, R.SYS_STATUS, R.SYS_REASON, R.SYS_HALT_INFO, R.ACQ_STATUS, R.HOP_STATUS, R.CAL_STATUS, R.CAL_REASON, R.SEQ_STATUS, R.SEQ_EVPEND, R.GPIO_STATUS, R.GPIO_SWAPST, R.HP_ATTN, R.XR_ECCSB, R.XR_ECCDB, R.RQ_PI, R.RQ_CI, R.RQ_SEQX, R.RQ_LOST, R.RQ_STATUS, R.CL_COUNTS, R.PP_STATUS, R.PP_COUNTS2, R.PWR_ON, R.PWR_RES, R.PWR_DST0, R.PWR_DST1, R.PWR_WSRC, R.FLT_LOG, R.FLT_LAST, R.FLT_WOPEN], fams := [(0x3ce0, 4), (0x1818, 32), (0x1820, 32), (0x44c0, 4)] }

theorem Dev.Keeps.clAck {w : Dev.Scope} {d₀ d : Dev} {m : RingMsg} (h : Dev.Keeps w d₀ d)
    (hw : Dev.clAckScope.le w = true := by decide) : Dev.Keeps w d₀ (d.clAck m) := by
  refine h.step hw ?_
  have h : Dev.Keeps Dev.clAckScope d d := .refl
  unfold Dev.clAck
  exact h.clRx (fun _ h => h) (fun _ h2 => h2.upd (cl := nofun))

/-- What `Dev.clLeave` may write. -/
abbrev Dev.clLeaveScope : Dev.Scope := { freeCount := true, staged := true, mem := true, tick := true, acq := true, hop := true, img := true, ct := true, aux := true, cal := true, seq := true, panel := true, hp := true, ring := true, cl := true, pp := true, pwr := true, flt := true, regs := [R.SYS_CTRL, R.SYS_STATUS, R.SYS_REASON, R.SYS_HALT_INFO, R.ACQ_STATUS, R.HOP_STATUS, R.CAL_STATUS, R.CAL_REASON, R.SEQ_STATUS, R.SEQ_EVPEND, R.GPIO_STATUS, R.GPIO_SWAPST, R.HP_ATTN, R.XR_ECCSB, R.XR_ECCDB, R.RQ_PI, R.RQ_CI, R.RQ_SEQX, R.RQ_LOST, R.RQ_STATUS, R.CL_STATUS, R.CL_COUNTS, R.PP_STATUS, R.PP_COUNTS2, R.PWR_ON, R.PWR_RES, R.PWR_DST0, R.PWR_DST1, R.PWR_WSRC, R.FLT_LOG, R.FLT_LAST, R.FLT_WOPEN], fams := [(0x3ce0, 4), (0x1818, 32), (0x1820, 32), (0x44c0, 4)] }

theorem Dev.Keeps.clLeave {w : Dev.Scope} {d₀ d : Dev} {m : RingMsg} (h : Dev.Keeps w d₀ d)
    (hw : Dev.clLeaveScope.le w = true := by decide) : Dev.Keeps w d₀ (d.clLeave m) := by
  refine h.step hw ?_
  have h : Dev.Keeps Dev.clLeaveScope d d := .refl
  unfold Dev.clLeave
  refine Dev.Keeps.clRx h ?_ (fun _ h2 => h2.put.put)
  intro d' hd1'
  split
  · exact Dev.Keeps.ite hd1'.put.enumEnd hd1'
  · exact hd1'

/-- What `Dev.ackTimeout` may write. -/
abbrev Dev.ackTimeoutScope : Dev.Scope := { cl := true, regs := [R.CL_COUNTS] }

theorem Dev.Keeps.ackTimeout {w : Dev.Scope} {d₀ d : Dev}  (h : Dev.Keeps w d₀ d)
    (hw : Dev.ackTimeoutScope.le w = true := by decide) : Dev.Keeps w d₀ (d.ackTimeout) := by
  refine h.step hw ?_
  have h : Dev.Keeps Dev.ackTimeoutScope d d := .refl
  unfold Dev.ackTimeout
  extract_lets e1
  split
  · exact h
  · exact Dev.Keeps.ite h (Dev.Keeps.ite ((h.upd (cl := nofun)).inc) (h.upd (cl := nofun)))

/-- What `Dev.enumEchoTimeout` may write. -/
abbrev Dev.enumEchoTimeoutScope : Dev.Scope := { mem := true, ring := true, cl := true, regs := [R.HP_ATTN, R.RQ_PI, R.RQ_SEQX, R.RQ_STATUS, R.CL_STATUS] }

theorem Dev.Keeps.enumEchoTimeout {w : Dev.Scope} {d₀ d : Dev}  (h : Dev.Keeps w d₀ d)
    (hw : Dev.enumEchoTimeoutScope.le w = true := by decide) : Dev.Keeps w d₀ (d.enumEchoTimeout) := by
  refine h.step hw ?_
  have h : Dev.Keeps Dev.enumEchoTimeoutScope d d := .refl
  unfold Dev.enumEchoTimeout
  split
  · exact h
  · exact Dev.Keeps.ite h.enumFail (Dev.Keeps.ite h.put.enumEnd h.enumFail)

/-- What `Dev.deltaDeadline` may write. -/
abbrev Dev.deltaDeadlineScope : Dev.Scope := { freeCount := true, staged := true, mem := true, tick := true, acq := true, hop := true, img := true, ct := true, aux := true, cal := true, seq := true, panel := true, hp := true, ring := true, cl := true, pp := true, pwr := true, flt := true, regs := [R.SYS_CTRL, R.SYS_STATUS, R.SYS_REASON, R.SYS_HALT_INFO, R.ACQ_STATUS, R.HOP_STATUS, R.IMG_STATUS, R.IMG_NODES, R.IMG_THR, R.IMG_SWTIME, R.CAL_STATUS, R.CAL_REASON, R.CAL_COUNT0, R.CAL_COUNT1, R.SEQ_STATUS, R.SEQ_EVPEND, R.GPIO_STATUS, R.GPIO_SWAPST, R.HP_ATTN, R.XR_ECCSB, R.XR_ECCDB, R.RQ_PI, R.RQ_CI, R.RQ_SEQX, R.RQ_LOST, R.RQ_STATUS, R.CL_STATUS, R.CL_COUNTS2, R.CL_STALEM, R.PP_STATUS, R.PP_COUNTS2, R.PWR_ON, R.PWR_RES, R.PWR_DST0, R.PWR_DST1, R.PWR_WSRC, R.FLT_LOG, R.FLT_LAST, R.FLT_WOPEN], fams := [(0x3ce0, 4), (0x1818, 32), (0x1820, 32), (0x44c0, 4), (0x1c80, 4), (0x4800, 4), (0x1c30, 8), (0x1c34, 8)] }

theorem Dev.Keeps.deltaDeadline {w : Dev.Scope} {d₀ d : Dev}  (h : Dev.Keeps w d₀ d)
    (hw : Dev.deltaDeadlineScope.le w = true := by decide) : Dev.Keeps w d₀ (d.deltaDeadline) := by
  refine h.step hw ?_
  have h : Dev.Keeps Dev.deltaDeadlineScope d d := .refl
  unfold Dev.deltaDeadline
  extract_lets late1 d1 d2
  have hd1 : Dev.Keeps Dev.deltaDeadlineScope d d1 := by
    unfold d1
    refine Dev.Keeps.foldl ?_ h
    intro d' x hd1'
    extract_lets d3 n1 e1
    have hd3 : Dev.Keeps Dev.deltaDeadlineScope d d3 := hd1'.inc.put
    exact Dev.Keeps.ite hd3 (hd3.upd (cl := nofun))
  have hd2 : Dev.Keeps Dev.deltaDeadlineScope d d2 := by
    unfold d2
    split
    · exact hd1.clLoss
    · exact hd1
  exact Dev.Keeps.ite h hd2.procStart

/-- What `Dev.linkLost` may write. -/
abbrev Dev.linkLostScope : Dev.Scope := { cl := true, regs := [R.CL_STATUS] }

theorem Dev.Keeps.linkLost {w : Dev.Scope} {d₀ d : Dev}  (h : Dev.Keeps w d₀ d)
    (hw : Dev.linkLostScope.le w = true := by decide) : Dev.Keeps w d₀ (d.linkLost) := by
  refine h.step hw ?_
  have h : Dev.Keeps Dev.linkLostScope d d := .refl
  unfold Dev.linkLost
  extract_lets run1 d1 e1
  have hd1 : Dev.Keeps Dev.linkLostScope d d1 := h.put.put
  exact hd1.upd (cl := nofun)

/-- What `Dev.cliUnlock` may write. -/
abbrev Dev.cliUnlockScope : Dev.Scope := { freeCount := true, staged := true, mem := true, tick := true, acq := true, hop := true, img := true, ct := true, aux := true, cal := true, seq := true, panel := true, hp := true, ring := true, cl := true, pp := true, pwr := true, flt := true, regs := [R.SYS_CTRL, R.SYS_STATUS, R.SYS_REASON, R.SYS_HALT_INFO, R.ACQ_STATUS, R.HOP_STATUS, R.CAL_STATUS, R.CAL_REASON, R.SEQ_STATUS, R.SEQ_EVPEND, R.GPIO_STATUS, R.GPIO_SWAPST, R.HP_ATTN, R.XR_ECCSB, R.XR_ECCDB, R.RQ_PI, R.RQ_CI, R.RQ_SEQX, R.RQ_LOST, R.RQ_STATUS, R.CL_STATUS, R.PP_STATUS, R.PP_COUNTS2, R.PWR_ON, R.PWR_RES, R.PWR_DST0, R.PWR_DST1, R.PWR_WSRC, R.FLT_LOG, R.FLT_LAST, R.FLT_WOPEN], fams := [(0x3ce0, 4), (0x1818, 32), (0x1820, 32), (0x44c0, 4)] }

theorem Dev.Keeps.cliUnlock {w : Dev.Scope} {d₀ d : Dev}  (h : Dev.Keeps w d₀ d)
    (hw : Dev.cliUnlockScope.le w = true := by decide) : Dev.Keeps w d₀ (d.cliUnlock) := by
  refine h.step hw ?_
  have h : Dev.Keeps Dev.cliUnlockScope d d := .refl
  unfold Dev.cliUnlock
  extract_lets run1 d1 d2 e1
  have hd1 : Dev.Keeps Dev.cliUnlockScope d d1 := h.linkLost
  have hd2 : Dev.Keeps Dev.cliUnlockScope d d2 := Dev.Keeps.ite hd1.clLoss hd1
  exact Dev.Keeps.ite h (hd2.upd (cl := nofun))

/-- What `Dev.hsyncEdge` may write. -/
abbrev Dev.hsyncEdgeScope : Dev.Scope := { tick := true, regs := [R.TICK_STATUS, R.TICK_VMEAS] }

theorem Dev.Keeps.hsyncEdge {w : Dev.Scope} {d₀ d : Dev} {cycles : Nat} (h : Dev.Keeps w d₀ d)
    (hw : Dev.hsyncEdgeScope.le w = true := by decide) : Dev.Keeps w d₀ (d.hsyncEdge cycles) := by
  refine h.step hw ?_
  have h : Dev.Keeps Dev.hsyncEdgeScope d d := .refl
  unfold Dev.hsyncEdge
  exact Dev.Keeps.ite h (Dev.Keeps.ite h.hsyncLoss h.put.put)

/-- What `Dev.linkLoss` may write. -/
abbrev Dev.linkLossScope : Dev.Scope := { cl := true, regs := [R.CL_STATUS] }

theorem Dev.Keeps.linkLoss {w : Dev.Scope} {d₀ d : Dev}  (h : Dev.Keeps w d₀ d)
    (hw : Dev.linkLossScope.le w = true := by decide) : Dev.Keeps w d₀ (d.linkLoss) := by
  refine h.step hw ?_
  have h : Dev.Keeps Dev.linkLossScope d d := .refl
  unfold Dev.linkLoss
  extract_lets e1
  exact Dev.Keeps.ite h.linkLost (h.upd (cl := nofun))

/-- What `Dev.seatFall` may write. -/
abbrev Dev.seatFallScope : Dev.Scope := { sys := true, regs := [R.SYS_STRAPS] }

theorem Dev.Keeps.seatFall {w : Dev.Scope} {d₀ d : Dev}  (h : Dev.Keeps w d₀ d)
    (hw : Dev.seatFallScope.le w = true := by decide) : Dev.Keeps w d₀ (d.seatFall) := by
  refine h.step hw ?_
  have h : Dev.Keeps Dev.seatFallScope d d := .refl
  unfold Dev.seatFall
  extract_lets e1 e2
  have he1 : Dev.Keeps Dev.seatFallScope d e1 := h.put
  exact Dev.Keeps.ite (he1.upd (sys := nofun)) h

/-- What `Dev.ppPrdyReady` may write. -/
abbrev Dev.ppPrdyReadyScope : Dev.Scope := {  }

theorem Dev.Keeps.ppPrdyReady {w : Dev.Scope} {d₀ d : Dev}  (h : Dev.Keeps w d₀ d)
    (hw : Dev.ppPrdyReadyScope.le w = true := by decide) : Dev.Keeps w d₀ (d.ppPrdyReady) := by
  refine h.step hw ?_
  have h : Dev.Keeps Dev.ppPrdyReadyScope d d := .refl
  unfold Dev.ppPrdyReady
  exact h

/-- What `Dev.retryChoice` may write. -/
abbrev Dev.retryChoiceScope : Dev.Scope := { acq := true, cl := true }

theorem Dev.Keeps.retryChoice {w : Dev.Scope} {d₀ d : Dev}  (h : Dev.Keeps w d₀ d)
    (hw : Dev.retryChoiceScope.le w = true := by decide) : Dev.Keeps w d₀ (d.retryChoice) := by
  refine h.step hw ?_
  have h : Dev.Keeps Dev.retryChoiceScope d d := .refl
  unfold Dev.retryChoice
  exact h.clChoose

/-- What `Dev.retryEcho` may write. -/
abbrev Dev.retryEchoScope : Dev.Scope := { acq := true, cl := true }

theorem Dev.Keeps.retryEcho {w : Dev.Scope} {d₀ d : Dev}  (h : Dev.Keeps w d₀ d)
    (hw : Dev.retryEchoScope.le w = true := by decide) : Dev.Keeps w d₀ (d.retryEcho) := by
  refine h.step hw ?_
  have h : Dev.Keeps Dev.retryEchoScope d d := .refl
  unfold Dev.retryEcho
  exact Dev.Keeps.ite h.sendK.noRetryNow h

/-- What `Dev.stageDeadline` may write. -/
abbrev Dev.stageDeadlineScope : Dev.Scope := { cl := true }

theorem Dev.Keeps.stageDeadline {w : Dev.Scope} {d₀ d : Dev}  (h : Dev.Keeps w d₀ d)
    (hw : Dev.stageDeadlineScope.le w = true := by decide) : Dev.Keeps w d₀ (d.stageDeadline) := by
  refine h.step hw ?_
  have h : Dev.Keeps Dev.stageDeadlineScope d d := .refl
  unfold Dev.stageDeadline
  exact Dev.Keeps.ite h.stageSend h

/-- What `Dev.tmMicro` may write. -/
abbrev Dev.tmMicroScope : Dev.Scope := { panel := true, regs := [R.SEQ_EVPEND, R.GPIO_TMEXP0, R.GPIO_TMEXP1], fams := [(0x240c, 16), (0x2408, 16)] }

theorem Dev.Keeps.tmMicro {w : Dev.Scope} {d₀ d : Dev} {k : Nat} (h : Dev.Keeps w d₀ d)
    (hw : Dev.tmMicroScope.le w = true := by decide) : Dev.Keeps w d₀ (d.tmMicro k) := by
  refine h.step hw ?_
  have h : Dev.Keeps Dev.tmMicroScope d d := .refl
  unfold Dev.tmMicro
  extract_lets base1 meadow1 f1 keep1 e1 d1
  have hd1 : Dev.Keeps Dev.tmMicroScope d d1 := h.upd (panel := nofun)
  exact Dev.Keeps.ite (Dev.Keeps.ite h.tmEval h) (Dev.Keeps.ite (Dev.Keeps.ite (Dev.Keeps.ite ((h.upd (panel := nofun)).tmEval) (Dev.Keeps.ite hd1.tmEval hd1)) (Dev.Keeps.ite h.tmEval h)) (Dev.Keeps.ite h.tmEval h))

/-- What `Dev.timersMicro` may write. -/
abbrev Dev.timersMicroScope : Dev.Scope := { panel := true, regs := [R.SEQ_EVPEND, R.GPIO_TMEXP0, R.GPIO_TMEXP1], fams := [(0x240c, 16), (0x2408, 16)] }

theorem Dev.Keeps.timersMicro {w : Dev.Scope} {d₀ d : Dev}  (h : Dev.Keeps w d₀ d)
    (hw : Dev.timersMicroScope.le w = true := by decide) : Dev.Keeps w d₀ (d.timersMicro) := by
  refine h.step hw ?_
  have h : Dev.Keeps Dev.timersMicroScope d d := .refl
  unfold Dev.timersMicro
  exact Dev.Keeps.foldl (fun _ _ h2 => h2.tmMicro) h

/-- What `Dev.vhvTime` may write. -/
abbrev Dev.vhvTimeScope : Dev.Scope := { acq := true, regs := [R.ACQ_STATUS] }

theorem Dev.Keeps.vhvTime {w : Dev.Scope} {d₀ d : Dev}  (h : Dev.Keeps w d₀ d)
    (hw : Dev.vhvTimeScope.le w = true := by decide) : Dev.Keeps w d₀ (d.vhvTime) := by
  refine h.step hw ?_
  have h : Dev.Keeps Dev.vhvTimeScope d d := .refl
  unfold Dev.vhvTime
  extract_lets e1 e2
  have he1 : Dev.Keeps Dev.vhvTimeScope d e1 := h.put
  exact Dev.Keeps.ite (he1.upd (acq := nofun)) h

/-- What `Dev.phaseTime` may write. -/
abbrev Dev.phaseTimeScope : Dev.Scope := { freeCount := true, acq := true, regs := [R.ACQ_STATUS] }

theorem Dev.Keeps.phaseTime {w : Dev.Scope} {d₀ d : Dev}  (h : Dev.Keeps w d₀ d)
    (hw : Dev.phaseTimeScope.le w = true := by decide) : Dev.Keeps w d₀ (d.phaseTime) := by
  refine h.step hw ?_
  have h : Dev.Keeps Dev.phaseTimeScope d d := .refl
  unfold Dev.phaseTime
  extract_lets e1
  split
  · exact h
  · exact Dev.Keeps.ite h.phaseFrom (Dev.Keeps.ite ((h.upd (acq := nofun)).phaseFrom) h)

end Sys2Proof.Machine
end

section
/-!
Proofs for the handlers and controls of the core (chapter 10): how a handler starts, what a fault and the controls of
SEQ_CTRL leave (O22, O23, O24); with what a fault event whose source acts on nothing leaves (chapter 20).
-/

namespace Sys2Proof.Machine
set_option Elab.async false

/-! ### Writes of registers without field ranges and staged bits -/

/-- The word that a register holds once it has taken `v` by its access codes. -/
def RegSpec.merge (r : RegSpec) (old v : Word) : Word :=
  (old &&& ~~~ (word r.rw ||| (v &&& word r.w1c))) ||| (v &&& word r.rw)

theorem Dev.plainWrite_eq (d : Dev) {a : Nat} {r : RegSpec} (hr : regSpec? a = some r) (hf : fieldRanges a = [])
    (hs : r.rws = 0) (v : Nat) : d.plainWrite a v = d.setReg a (r.merge (d.reg a) (word v)) := by
  have hw : word (d.inRange a v) = word v := by
    unfold Dev.inRange
    rw [hf]
    exact (BitVec.ofNat_toNat 32 (word v)).trans (BitVec.setWidth_eq _)
  unfold Dev.plainWrite
  rw [hr]
  simp only [hw, hs, if_true]
  rfl

/-- Each bit of the merged word: written where it is RW, cleared where it is W1C and the word written holds it. -/
theorem RegSpec.merge_bit (r : RegSpec) (old v : Word) (i : Nat) (hi : i < 32) : (r.merge old v).getLsbD i =
    if r.rw.testBit i then v.getLsbD i else old.getLsbD i && !(v.getLsbD i && r.w1c.testBit i) := by
  unfold RegSpec.merge
  simp only [BitVec.getLsbD_or, BitVec.getLsbD_and, BitVec.getLsbD_not, BitVec.getLsbD_ofNat, hi, decide_true, Bool.true_and]
  cases r.rw.testBit i <;> simp

/-- A field of RW bits reads the field of the word written. -/
theorem RegSpec.of_merge {r : RegSpec} {f : Field} (hf : f.lo + f.width ≤ 32)
    (h : ∀ j < f.width, r.rw.testBit (f.lo + j) = true) (old v : Word) : f.of (r.merge old v) = f.of v := by
  apply Nat.eq_of_testBit_eq
  intro j
  rw [Field.of_bit, Field.of_bit]
  by_cases hj : j < f.width
  · rw [RegSpec.merge_bit _ _ _ _ (by omega), if_pos (h j hj)]
  · simp [hj]

/-- A register whose bits are all written takes the word. -/
theorem RegSpec.merge_all {r : RegSpec} (h : r.rw = 0xFFFFFFFF) (old v : Word) : r.merge old v = v := by
  apply BitVec.eq_of_getLsbD_eq
  intro i hi
  rw [RegSpec.merge_bit _ _ _ _ hi, if_pos]
  rw [h, show 0xFFFFFFFF = 2 ^ 32 - 1 from rfl, Nat.testBit_two_pow_sub_one]
  simpa using hi

theorem bitOf_testBit (n k : Nat) : bitOf n k = n.testBit k := by
  rw [bitOf, Nat.testBit_eq_decide_div_mod_eq, Bool.beq_eq_decide_eq]

theorem bitOf_setBit_true (n b k : Nat) : bitOf (setBit n b true) k = (k == b || bitOf n k) := by
  unfold setBit
  by_cases hb : bitOf n b = true
  · rw [if_pos hb, if_pos rfl]
    by_cases hk : k = b
    · simp [hk, hb]
    · simp [hk]
  · rw [if_neg hb, if_pos rfl]
    have hb' : n / 2 ^ b % 2 = 0 := by
      have hb1 : n / 2 ^ b % 2 ≠ 1 := fun h => hb (by rw [bitOf, h]; rfl)
      omega
    have hr := Nat.mod_pow_succ (x := n) (b := 2) (k := b)
    rw [hb'] at hr
    have hlt : n % 2 ^ b < 2 ^ b := Nat.mod_lt _ (by positivity)
    have hn : n = 2 ^ (b + 1) * (n / 2 ^ (b + 1)) + n % 2 ^ b := by
      conv_lhs => rw [← Nat.div_add_mod n (2 ^ (b + 1)), hr]
      simp
    have hn' : n + 2 ^ b = 2 ^ (b + 1) * (n / 2 ^ (b + 1)) + (2 ^ b + n % 2 ^ b) := by omega
    have h2 : 2 ^ (b + 1) = 2 * 2 ^ b := by rw [pow_succ]; omega
    rw [bitOf_testBit, bitOf_testBit, hn', Nat.testBit_two_pow_mul_add _ (by omega)]
    conv_rhs => rw [hn, Nat.testBit_two_pow_mul_add _ (by omega)]
    rcases Nat.lt_trichotomy k b with hk | rfl | hk
    · rw [if_pos (by omega), if_pos (by omega), Nat.testBit_two_pow_add_gt hk]
      simp [Nat.ne_of_lt hk]
    · rw [if_pos (by omega), Nat.testBit_two_pow_add_eq, Nat.testBit_lt_two_pow hlt]
      simp
    · rw [if_neg (by omega), if_neg (by omega)]
      simp [Nat.ne_of_gt hk]

/-! ### Fault events whose source acts on nothing (R635, R636) -/

theorem Dev.windowOpen_due (d : Dev) (src : Nat) : (d.windowOpen src).2.flt.due = d.flt.due := by
  unfold Dev.windowOpen
  dsimp only
  split
  · rfl
  · split <;> rfl

theorem Dev.logWrite_due (d : Dev) (src : Nat) (l : Bool) (x : Nat) : (d.logWrite src l x).flt.due = d.flt.due := by
  unfold Dev.logWrite
  dsimp only
  split <;> rfl

theorem Dev.fault_flt (d : Dev) (src l act x : Nat) (b : Bool) : (d.fault src l act x b).flt = d.flt :=
  (Dev.Keeps.fault (w := Dev.faultScope) .refl).flt rfl

theorem Dev.lasting_due (d : Dev) (src x c : Nat) (b : Bool) :
    (d.lasting src x c b).flt.due = d.flt.due ++ [(src, x, c)] := by
  unfold Dev.lasting
  simp only [Dev.put_flt, Dev.logWrite_due, Dev.fault_flt, Dev.inc_flt]

/-- An event adds at most its own lasting fault to those to be acted on. -/
theorem Dev.noteEvent_due (d : Dev) (src x c : Nat) :
    (d.noteEvent src x c).flt.due = d.flt.due ∨ (d.noteEvent src x c).flt.due = d.flt.due ++ [(src, x, c)] := by
  unfold Dev.noteEvent
  extract_lets d1 d2
  have h2 : d2.flt.due = d.flt.due := by
    unfold d2
    split <;> rfl
  split
  next w d3 hq =>
  have h3 : d3.flt.due = d.flt.due := by
    rw [← h2, ← Dev.windowOpen_due d2 src, hq]
  extract_lets n d4 d5
  have h5 : d5.flt.due = d.flt.due := by
    unfold d5
    split
    · rw [Dev.fault_flt, Dev.inc_flt, h3]
    · exact h3
  split
  · exact .inr (by rw [Dev.lasting_due, Dev.inc_flt, h3])
  · split
    · exact .inl (by rw [Dev.logWrite_due, h5])
    · exact .inl h5

/-- The sources that a lasting fault acts on in the action DEGRADE (R636). -/
def degradeActs : List Nat := [0x01, 0x02, 0x03, 0x04, 0x0D, 0x0E, 0x10]

theorem Dev.takeAction_none {d : Dev} {src : Nat} (x c : Nat) (ha : d.fltAction src ≠ 2)
    (hs : d.fltAction src = 1 → src ∉ degradeActs) : d.takeAction (src, x, c) = d := by
  unfold Dev.takeAction
  simp only [if_neg ha]
  split
  · rfl
  · split
    · rename_i h1
      have := hs h1
      simp only [degradeActs, List.mem_cons, List.not_mem_nil, or_false, not_or] at this
      simp [this]
    · rfl

theorem Dev.Keeps.fltAction {w : Dev.Scope} {d t : Dev} (h : Dev.Keeps w d t) (src : Nat)
    (hf : w.has (R.FLT_CFG (src - 1)) = false) : t.fltAction src = d.fltAction src := by
  unfold Dev.fltAction
  rw [h.get hf]

theorem Dev.settleFaults_nil {d : Dev} (n : Nat) (h : d.flt.due = []) : Dev.settleFaults n d = d := by
  cases n with
  | zero => rw [Dev.settleFaults, ← h]
  | succ n => rw [Dev.settleFaults, h]; rfl

/-- A fault that acts on nothing is settled by being forgotten. -/
theorem Dev.settleFaults_none {d : Dev} {src x c : Nat} (n : Nat) (h : d.flt.due = [(src, x, c)]) (ha : d.fltAction src ≠ 2)
    (hs : d.fltAction src = 1 → src ∉ degradeActs) :
    Dev.settleFaults n d = { d with flt := { d.flt with due := [] } } := by
  cases n with
  | zero => rfl
  | succ n =>
    unfold Dev.settleFaults
    have hb : (d.fltAction src == 2) = false := by simpa using ha
    have ht : Dev.takeAction { d with flt := { d.flt with due := [] } } (src, x, c) = { d with flt := { d.flt with due := [] } } :=
      Dev.takeAction_none x c ha hs
    simp only [h, List.isEmpty_cons, Bool.false_eq_true, if_false, List.filter, bne, hb, Bool.not_false, List.mergeSort_nil,
      List.take_nil, List.append_nil, List.foldl_cons, List.foldl_nil, ht]
    exact Dev.settleFaults_nil n rfl

/-- An event whose source acts on nothing is noted, and that is all. -/
theorem Dev.raise_none {d : Dev} {src : Nat} (x : Nat) (hd : d.flt.due = []) (ha : d.fltAction src ≠ 2)
    (hs : d.fltAction src = 1 → src ∉ degradeActs) (hf : Dev.noteEventScope.has (R.FLT_CFG (src - 1)) = false) :
    d.raise src x = { d.noteEvent src x 0 with flt := { (d.noteEvent src x 0).flt with due := [] } } := by
  have hk : Dev.Keeps Dev.noteEventScope d (d.noteEvent src x 0) := Dev.Keeps.noteEvent .refl
  unfold Dev.raise
  rcases Dev.noteEvent_due d src x 0 with h | h
  · rw [hd] at h
    rw [Dev.settleFaults_nil 3 h, ← h]
  · rw [hd] at h
    refine Dev.settleFaults_none 3 h ?_ ?_
    · rwa [hk.fltAction src hf]
    · rwa [hk.fltAction src hf]

theorem Dev.Keeps.raise_none {w : Dev.Scope} {d₀ d : Dev} {src x : Nat} (h : Dev.Keeps w d₀ d) (hd : d.flt.due = [])
    (ha : d.fltAction src ≠ 2) (hs : d.fltAction src = 1 → src ∉ degradeActs)
    (hf : Dev.noteEventScope.has (R.FLT_CFG (src - 1)) = false) (hw : Dev.noteEventScope.le w = true := by decide) :
    Dev.Keeps w d₀ (d.raise src x) := by
  refine h.step hw ?_
  rw [Dev.raise_none x hd ha hs hf]
  exact Dev.Keeps.upd (Dev.Keeps.noteEvent .refl) (flt := nofun)

/-! ### Handlers (R282, R284) -/

theorem Dev.seqGoto_in {d : Dev} {n : Nat} (h : n < d.nwords) : d.seqGoto n = { d with seq := { d.seq with pc := n } } := by
  unfold Dev.seqGoto
  rw [if_pos h]

/-- The entry of the highest priority that waits, as the cases of R284 name it. -/
theorem Dev.nextEntry_eq {d : Dev} {e : Nat} (h : if d.seq.pReset then e = 1 else if d.seq.pFault then e = 5
      else if d.seq.pTick then e = 2 else if d.seq.pFrame then e = 3 else e = 4 ∧ d.eventRaised = true) :
    d.nextEntry = some e := by
  unfold Dev.nextEntry
  split_ifs at h ⊢
  all_goals simp_all

theorem Dev.nextEntry_le {d : Dev} {e : Nat} (h : d.nextEntry = some e) : e < 8 := by
  unfold Dev.nextEntry at h
  split_ifs at h
  all_goals
    simp only [Option.some.injEq] at h
    omega

/-- The core's state once the entry `e` of the device `d` has started. -/
def Dev.entered (d : Dev) (e : Nat) : Seq :=
  { d.seq with
    pReset := d.seq.pReset && e != 1, pFault := d.seq.pFault && e != 5, pTick := d.seq.pTick && e != 2
    pFrame := d.seq.pFrame && e != 3, lateTicks := 0, enteredAt := d.clock, pc := 4 * (e - 1)
    e := (d.get R.SEQ_EVPEND_EV &&& d.get R.SEQ_EVEN_EV) != 0 }

theorem Dev.handlerStart_eq {d : Dev} {e : Nat} (hon : d.seqOn = true) (hidle : d.sq = sqIdle) (hn : d.nextEntry = some e)
    (hin : 4 * (e - 1) < d.nwords) :
    d.handlerStart = { (d.put R.SEQ_STATUS_STATE sqBusy).put R.SEQ_STATUS_ENTRY e with seq := d.entered e } := by
  unfold Dev.handlerStart
  rw [if_neg (by simp [hon, hidle])]
  simp only [hn]
  exact Dev.seqGoto_in hin

/-- Settles O22: the entry of the highest priority is the one that the cases name, and its vector lies in the image. -/
theorem handlersStartByPriority : Obligations.HandlersStartByPriority := by
  unfold Obligations.HandlersStartByPriority
  intro e
  refine leaves_of_act (f := fun d => d.handlerStart) (fun _ => rfl) ?_
  rintro d - ⟨hon, hidle, hin, hcase⟩
  have hn := Dev.nextEntry_eq hcase
  rw [Dev.handlerStart_eq hon hidle hn hin]
  refine ⟨?_, ?_, ?_, ?_, rfl, ?_⟩
  · exact (Dev.get_put_ne _ R.SEQ_STATUS_ENTRY R.SEQ_STATUS_STATE _ (by decide)).trans (Dev.get_put_self _ _ _ (by decide))
  · exact (Dev.get_put_self _ R.SEQ_STATUS_ENTRY _ (by decide)).trans (Nat.mod_eq_of_lt (Dev.nextEntry_le hn))
  · exact (Dev.get_put_ne _ R.SEQ_STATUS_ENTRY R.SEQ_STATUS_ACTIVE _ (by decide)).trans (Dev.get_put_ne _ _ _ _ (by decide))
  · simp [Dev.entered, bne, Bool.beq_eq_decide_eq]
  · intro a ha
    exact (Dev.reg_put_ne _ R.SEQ_STATUS_ENTRY _ _ ha).trans (Dev.reg_put_ne _ R.SEQ_STATUS_STATE _ _ ha)

/-! ### Faults (R290) -/

/-- The device with a fault of the core recorded, before the event of FS15. -/
def Dev.faultRecorded (d : Dev) (cause pc : Nat) (addr : Option Nat) : Dev :=
  let e := ((d.put R.SEQ_FAULT_CAUSE cause).put R.SEQ_FAULT_ENTRY (d.get R.SEQ_STATUS_ENTRY)).put R.SEQ_FAULT_PC pc
  let e := match addr with
    | none => e
    | some a => e.put R.SEQ_FADDR_ADDR a
  let e := e.inc R.SEQ_COUNTS_NFAULT
  { e with seq := { e.seq with wait := none, pc := pc % 8192 } }

/-- The fields of SEQ_FAULT once a fault is recorded. -/
theorem Dev.faultRecorded_get (d : Dev) (cause pc : Nat) (addr : Option Nat) {f : Field} (hf : f.addr = R.SEQ_FAULT) :
    (d.faultRecorded cause pc addr).get f =
      (((d.put R.SEQ_FAULT_CAUSE cause).put R.SEQ_FAULT_ENTRY (d.get R.SEQ_STATUS_ENTRY)).put R.SEQ_FAULT_PC pc).get f := by
  have hinc : ∀ x : Dev, (x.inc R.SEQ_COUNTS_NFAULT).get f = x.get f := fun x =>
    Dev.get_put_ne _ _ _ _ (.inl (by rw [hf]; decide))
  unfold Dev.faultRecorded
  cases addr with
  | none => exact hinc _
  | some a => exact (hinc _).trans (Dev.get_put_ne _ _ _ _ (.inl (by rw [hf]; decide)))

/-- What the record of a fault leaves. -/
theorem Dev.Keeps.faultRecorded (d : Dev) (cause pc : Nat) (addr : Option Nat) :
    Dev.Keeps { seq := true, regs := [R.SEQ_FAULT, R.SEQ_FADDR, R.SEQ_COUNTS] } d (d.faultRecorded cause pc addr) := by
  have h : Dev.Keeps { seq := true, regs := [R.SEQ_FAULT, R.SEQ_FADDR, R.SEQ_COUNTS] } d
      (((d.put R.SEQ_FAULT_CAUSE cause).put R.SEQ_FAULT_ENTRY (d.get R.SEQ_STATUS_ENTRY)).put R.SEQ_FAULT_PC pc) :=
    Dev.Keeps.put (Dev.Keeps.put (Dev.Keeps.put .refl))
  unfold Dev.faultRecorded
  cases addr with
  | none => exact Dev.Keeps.upd (Dev.Keeps.inc h (f := R.SEQ_COUNTS_NFAULT)) (seq := nofun)
  | some a => exact Dev.Keeps.upd (Dev.Keeps.inc (Dev.Keeps.put h (f := R.SEQ_FADDR_ADDR) (n := a)) (f := R.SEQ_COUNTS_NFAULT)) (seq := nofun)

theorem Dev.faultRecorded_seq (d : Dev) (cause pc : Nat) (addr : Option Nat) :
    (d.faultRecorded cause pc addr).seq = { d.seq with wait := none, pc := pc % 8192 } := by
  cases addr <;> rfl

/-- A fault that is not of FAULT leaves the core idle with FAULT pending, where FS15 does not halt the device. -/
theorem Dev.seqFault_pending {d : Dev} {cause pc : Nat} {addr : Option Nat} (hs : d.get R.SEQ_STATUS_STATE ≠ 5)
    (he : d.get R.SEQ_STATUS_ENTRY ≠ 5) (hp : d.entryPresent 4 = true) (hd : d.flt.due = []) (ha : d.fltAction 0x15 ≠ 2) :
    ∃ t, Dev.Keeps Dev.noteEventScope (d.faultRecorded cause pc addr) t ∧ d.seqFault cause pc addr =
      { (t.put R.SEQ_STATUS_STATE 1).put R.SEQ_STATUS_ENTRY 0 with seq := { t.seq with pFault := true } } := by
  have hr := Dev.Keeps.faultRecorded d cause pc addr
  have ht : Dev.Keeps Dev.noteEventScope (d.faultRecorded cause pc addr) ((d.faultRecorded cause pc addr).raise 0x15 cause) :=
    Dev.Keeps.raise_none .refl ((congrArg Flt.due (hr.flt rfl)).trans hd) (by rwa [hr.fltAction 0x15 (by decide)])
      (fun _ => by decide) (by decide)
  refine ⟨_, ht, ?_⟩
  have hs' : ((d.faultRecorded cause pc addr).raise 0x15 cause).get R.SEQ_STATUS_STATE ≠ 5 := by
    rwa [ht.get, hr.get]
  have hp' : ((d.faultRecorded cause pc addr).raise 0x15 cause).entryPresent 4 = true := by
    have hseq := (ht.seq rfl).trans (Dev.faultRecorded_seq d cause pc addr)
    unfold Dev.entryPresent at hp ⊢
    rw [hseq]
    exact hp
  have hdef : d.seqFault cause pc addr = (let x := (d.faultRecorded cause pc addr).raise 0x15 cause
      if x.get R.SEQ_STATUS_STATE = 5 then x
      else if d.get R.SEQ_STATUS_ENTRY = 5 then x.seqHalt 0x11
      else if !x.entryPresent 4 then x.seqHalt 0x12
      else { (x.put R.SEQ_STATUS_STATE 1).put R.SEQ_STATUS_ENTRY 0 with seq := { x.seq with pFault := true } }) := rfl
  rw [hdef]
  simp only [if_neg hs', if_neg he, hp', Bool.not_true, Bool.false_eq_true, if_false]

/-- Settles O23: the fault's own record and the pending entry are registers and state that the event of FS15 leaves. -/
theorem illegalWordsAndResetTimeout : Obligations.IllegalWordsAndResetTimeout := by
  unfold Obligations.IllegalWordsAndResetTimeout
  refine ⟨fun w => does_of_act (f := fun d => d.seqIllegal w) (fun _ => rfl) ?_,
    does_of_act (f := fun d => d.resetTimeout) (fun _ => rfl) ?_, ?_⟩
  · rintro d - ⟨hat, hill⟩
    unfold Dev.seqIllegal
    rw [if_pos (by simp [hat, hill])]
  · rintro d - ⟨hon, he, ht, hs⟩
    have hl : d.seqLive = true := by
      unfold Dev.seqLive
      rw [show d.domOn 0 = true from hon, Bool.true_or]
    unfold Dev.resetTimeout
    rw [if_pos]
    simpa [hl, he, ht, or_assoc] using hs
  · intro d cause pc addr hc hpc hon hbusy hne hpres hdue hact t
    obtain ⟨x, hx, ht⟩ : ∃ x, Dev.Keeps Dev.noteEventScope (d.faultRecorded cause pc addr) x ∧ t =
        { (x.put R.SEQ_STATUS_STATE 1).put R.SEQ_STATUS_ENTRY 0 with seq := { x.seq with pFault := true } } :=
      Dev.seqFault_pending (by rw [show d.get R.SEQ_STATUS_STATE = 2 from hbusy]; decide) hne hpres hdue hact
    have hget : ∀ f : Field, f.addr = R.SEQ_FAULT → t.get f =
        (((d.put R.SEQ_FAULT_CAUSE cause).put R.SEQ_FAULT_ENTRY (d.get R.SEQ_STATUS_ENTRY)).put R.SEQ_FAULT_PC pc).get f := by
      intro f hf
      have hs : f.addr ≠ R.SEQ_STATUS := by rw [hf]; decide
      rw [← Dev.faultRecorded_get d cause pc addr hf, ← hx.get (f := f) (by rw [hf]; decide), ht]
      exact (Dev.get_put_ne _ R.SEQ_STATUS_ENTRY f _ (.inl hs)).trans (Dev.get_put_ne _ R.SEQ_STATUS_STATE f _ (.inl hs))
    refine ⟨?_, ?_, ?_, ?_, ?_, ?_, ?_⟩
    · rw [hget _ rfl, Dev.get_put_ne _ _ _ _ (by decide), Dev.get_put_ne _ _ _ _ (by decide), Dev.get_put_self _ _ _ (by decide)]
      exact Nat.mod_eq_of_lt hc
    · rw [hget _ rfl, Dev.get_put_self _ _ _ (by decide)]
      exact Nat.mod_eq_of_lt hpc
    · rw [hget _ rfl, Dev.get_put_ne _ _ _ _ (by decide), Dev.get_put_self _ _ _ (by decide)]
      exact Nat.mod_eq_of_lt (Dev.get_lt d R.SEQ_STATUS_ENTRY)
    · rw [ht]
      exact (Dev.get_put_ne _ R.SEQ_STATUS_ENTRY R.SEQ_STATUS_STATE _ (by decide)).trans (Dev.get_put_self _ _ _ (by decide))
    · rw [ht]
      exact Dev.get_put_self _ R.SEQ_STATUS_ENTRY _ (by decide)
    · rw [ht]
    · rw [ht]
      exact (congrArg Seq.g (hx.seq rfl)).trans (by rw [Dev.faultRecorded_seq])

/-! ### The controls of the core (R286, R293, R309–R311) -/

/-- A write of SEQ_CTRL by a command keeps DBGEN. -/
theorem Dev.ctrlWrite_same (d : Dev) {k : Nat} (hk : k % 2 = 0) :
    d.plainWrite R.SEQ_CTRL (d.get R.SEQ_CTRL_DBGEN + k) = d.setReg R.SEQ_CTRL (d.reg R.SEQ_CTRL) := by
  rw [Dev.plainWrite_eq d (show regSpec? R.SEQ_CTRL = some ⟨0x2000, 0, 1, 0, 1, 0, 0⟩ from rfl) rfl rfl]
  congr 1
  apply BitVec.eq_of_getLsbD_eq
  intro i hi
  rw [RegSpec.merge_bit _ _ _ _ hi]
  by_cases h0 : i = 0
  · subst h0
    rw [if_pos (by decide), BitVec.getLsbD_ofNat, Nat.testBit_zero, BitVec.getLsbD, Nat.testBit_zero]
    have hd : d.get R.SEQ_CTRL_DBGEN = (d.reg R.SEQ_CTRL).toNat % 2 := by
      unfold Dev.get Field.of
      simp
    simp only [Nat.zero_lt_succ, decide_true, Bool.true_and, hd]
    congr 1
    rw [eq_iff_iff]
    omega
  · have h1 : Nat.testBit 1 i = false := Bool.eq_false_iff.2 fun h => h0 (Nat.testBit_one_eq_true_iff_self_eq_zero.1 h)
    simp [h1]

/-- A write of SEQ_CTRL that reaches it. -/
theorem Dev.ioWrite_ctrl {d : Dev} (h0 : d.sys.inReset = false) (hr : d.reached R.SEQ_CTRL) (host : Bool) (v : Nat) :
    d.ioWrite host R.SEQ_CTRL v = d.ioSeq host R.SEQ_CTRL v := by
  rw [Dev.ioWrite_live h0 hr.1 (by decide) (fun _ => hr.2) (fun h => absurd h (by decide))]
  rfl

/-- A write of another register of the core. -/
theorem Dev.ioWrite_seq {d : Dev} (h0 : d.sys.inReset = false) (hon : d.seqOn = true) {a : Nat} (ha : a = R.SEQ_DOORBELL ∨ a = R.SEQ_EVEN)
    (host : Bool) (v : Nat) : d.ioWrite host a v = d.ioSeq host a v := by
  have hr : d.regReachable a = true := by
    rcases ha with rfl | rfl
    all_goals exact hon
  rcases ha with rfl | rfl
  all_goals
    rw [Dev.ioWrite_live h0 hr (by decide) (fun h => absurd h (by decide))
      (fun h => absurd h (by decide))]
    rfl

/-- The device that a write of a command to SEQ_CTRL acts on: its contents are as before. -/
def Dev.ctrlKept (d : Dev) : Dev := d.setReg R.SEQ_CTRL (d.reg R.SEQ_CTRL)

theorem Dev.ctrlKept_reg (d : Dev) (a : Nat) : d.ctrlKept.reg a = d.reg a := by
  unfold Dev.ctrlKept
  rw [Dev.reg_setReg]
  split
  · rename_i h
    rw [h]
  · rfl

theorem Dev.ctrlKept_butRegs (d : Dev) : d.butRegs d.ctrlKept [] := ⟨fun a _ => d.ctrlKept_reg a, rfl⟩

theorem Dev.ctrlKept_get (d : Dev) (f : Field) : d.ctrlKept.get f = d.get f := congrArg f.of (d.ctrlKept_reg _)

theorem Dev.ctrlKept_seqLive (d : Dev) : d.ctrlKept.seqLive = d.seqLive := by
  unfold Dev.seqLive Dev.domOn Dev.dom
  simp only [Dev.ctrlKept_get]

theorem Dev.seqLive_of_on {d : Dev} (h : d.seqOn = true) : d.seqLive = true := by
  unfold Dev.seqLive
  rw [show d.domOn 0 = true from h, Bool.true_or]

/-- The commands of SEQ_CTRL (R293, R309, R311), by the bit of each. -/
theorem Dev.ioSeq_ctrl (d : Dev) (host : Bool) {k : Nat} (hk : k = 2 ∨ k = 4 ∨ k = 8) :
    d.ioSeq host R.SEQ_CTRL (d.get R.SEQ_CTRL_DBGEN + k) =
      if k = 8 then d.ctrlKept.seqClrCnt else if k = 2 then d.ctrlKept.seqResume else d.ctrlKept.seqHaltReq := by
  have hn : d.get R.SEQ_CTRL_DBGEN < 2 := Dev.get_lt d R.SEQ_CTRL_DBGEN
  unfold Dev.ioSeq
  rw [if_pos rfl, Dev.ctrlWrite_same d (by omega)]
  generalize d.get R.SEQ_CTRL_DBGEN = n at hn
  obtain rfl | rfl : n = 0 ∨ n = 1 := by omega
  all_goals
    rcases hk with rfl | rfl | rfl
    all_goals rfl

theorem Dev.seqResume_eq {d : Dev} (hl : d.seqLive = true) (hs : d.sq = sqBreak)
    (hr : d.roomFor (96 * (d.clock - d.seq.breakAt))) (hn : d.nextInImage) :
    d.seqResume = (d.put R.SEQ_STATUS_STATE sqBusy).ran (96 * (d.clock - d.seq.breakAt)) (d.seq.pc + 1) := by
  have hc : (d.put R.SEQ_STATUS_STATE sqBusy).counting = d.counting := by
    unfold Dev.counting Dev.st
    rw [Dev.get_put_ne _ _ _ _ (by decide)]
  unfold Dev.seqResume
  rw [if_neg (by simp [hl, hs])]
  have hr' : (d.put R.SEQ_STATUS_STATE sqBusy).roomFor (96 * (d.clock - d.seq.breakAt)) := by
    unfold Dev.roomFor at hr ⊢
    rwa [hc]
  have hpc : ((d.put R.SEQ_STATUS_STATE sqBusy).seqCount (96 * (d.clock - d.seq.breakAt))).seq.pc = d.seq.pc := by
    rw [Dev.seqCount_room hr']
    rfl
  show ((d.put R.SEQ_STATUS_STATE sqBusy).seqCount (96 * (d.clock - d.seq.breakAt))).seqDone
    ((d.put R.SEQ_STATUS_STATE sqBusy).seqCount (96 * (d.clock - d.seq.breakAt))).seq.pc
    (((d.put R.SEQ_STATUS_STATE sqBusy).seqCount (96 * (d.clock - d.seq.breakAt))).seq.pc + 1) = _
  rw [hpc, Dev.seqDone_room hr' hn]

/-- Settles O24: each command of SEQ_CTRL keeps DBGEN and acts alone. -/
theorem sequencerControlWrites : Obligations.SequencerControlWrites := by
  unfold Obligations.SequencerControlWrites
  have hon : ∀ {d : Dev}, d.reached R.SEQ_CTRL → d.ctrlKept.seqLive = true := fun h =>
    (Dev.ctrlKept_seqLive _).trans (Dev.seqLive_of_on h.1)
  refine ⟨?_, ?_, ?_, ?_, fun v => ⟨?_, ?_⟩⟩
  · refine leaves_of_act (f := fun d => d.ioWrite true R.SEQ_CTRL (d.get R.SEQ_CTRL_DBGEN + 2)) (fun _ => rfl) ?_
    rintro d h0 ⟨hr, hs, hroom, hnext⟩
    have hc : d.ctrlKept.counting = d.counting := by
      unfold Dev.counting Dev.st
      rw [Dev.ctrlKept_get]
    have hroom' : d.ctrlKept.roomFor (96 * (d.ctrlKept.clock - d.ctrlKept.seq.breakAt)) := by
      unfold Dev.roomFor at hroom ⊢
      rwa [hc]
    rw [Dev.ioWrite_ctrl h0 hr, Dev.ioSeq_ctrl d true (.inl rfl), if_neg (by decide), if_pos rfl,
      Dev.seqResume_eq (hon hr) ((d.ctrlKept_get _).trans hs) hroom' hnext]
    refine ⟨Dev.get_put_self _ R.SEQ_STATUS_STATE _ (by decide), ?_, rfl, fun a ha => ?_⟩
    · have hc' : (d.ctrlKept.put R.SEQ_STATUS_STATE sqBusy).counting = d.counting := by
        unfold Dev.counting Dev.st
        rw [Dev.get_put_ne _ _ _ _ (by decide), Dev.ctrlKept_get]
      unfold Dev.ran
      rw [hc']
      rfl
    · exact (Dev.reg_put_ne _ R.SEQ_STATUS_STATE _ _ ha).trans (d.ctrlKept_reg a)
  · refine leaves_of_act (f := fun d => d.ioWrite true R.SEQ_CTRL (d.get R.SEQ_CTRL_DBGEN + 4)) (fun _ => rfl) ?_
    rintro d h0 ⟨hr, hne, hnh⟩
    refine ⟨d.ctrlKept, d.ctrlKept_butRegs, ?_⟩
    rw [Dev.ioWrite_ctrl h0 hr, Dev.ioSeq_ctrl d true (.inr (.inl rfl)), if_neg (by decide), if_neg (by decide)]
    unfold Dev.seqHaltReq
    rw [if_neg]
    have h1 : d.ctrlKept.sq = d.sq := d.ctrlKept_get _
    simp [hon hr, h1, hne, hnh]
  · refine leaves_of_act (f := fun d => d.ioWrite true R.SEQ_CTRL (d.get R.SEQ_CTRL_DBGEN + 4)) (fun _ => rfl) ?_
    rintro d h0 ⟨hr, hs⟩
    rw [Dev.ioWrite_ctrl h0 hr, Dev.ioSeq_ctrl d true (.inr (.inl rfl)), if_neg (by decide), if_neg (by decide)]
    unfold Dev.seqHaltReq
    rw [if_pos]
    · exact d.ctrlKept_butRegs
    · have h1 : d.ctrlKept.sq = d.sq := d.ctrlKept_get _
      rw [h1]
      rcases hs with hs | hs <;> simp [hs]
  · refine leaves_of_act (f := fun d => d.ioWrite true R.SEQ_CTRL (d.get R.SEQ_CTRL_DBGEN + 8)) (fun _ => rfl) ?_
    rintro d h0 hr
    have ho : d.ctrlKept.seqOn = true := by
      have h1 : d.seqOn = true := hr.1
      unfold Dev.seqOn Dev.domOn Dev.dom at h1 ⊢
      rwa [Dev.ctrlKept_get]
    rw [Dev.ioWrite_ctrl h0 hr, Dev.ioSeq_ctrl d true (.inr (.inr rfl)), if_pos rfl]
    unfold Dev.seqClrCnt
    rw [if_pos ho]
    refine ⟨Dev.butRegs_setReg (Dev.butRegs_setReg ?_ (by decide) _) (by decide) _, ?_, Dev.reg_setReg_self _ _ _⟩
    · exact ⟨fun a _ => d.ctrlKept_reg a, rfl⟩
    · rw [Dev.reg_setReg_ne _ _ _ _ (by decide), Dev.reg_setReg_self]
  · refine leaves_of_act (f := fun d => d.ioWrite true R.SEQ_DOORBELL v.toNat) (fun _ => rfl) ?_
    rintro d h0 ho
    have hw : d.plainWrite R.SEQ_DOORBELL v.toNat = d.setReg R.SEQ_DOORBELL v := by
      rw [Dev.plainWrite_eq d (show regSpec? R.SEQ_DOORBELL = some ⟨0x2020, 0, 1, 0, 0xFFFFFFFF, 0, 0⟩ from rfl) rfl rfl,
        RegSpec.merge_all rfl]
      exact congrArg (d.setReg R.SEQ_DOORBELL) ((BitVec.ofNat_toNat 32 v).trans (BitVec.setWidth_eq v))
    have hl : (d.setReg R.SEQ_DOORBELL v).seqLive = true :=
      ((Dev.Keeps.setReg (w := { regs := [R.SEQ_DOORBELL] }) .refl).seqLive).trans (Dev.seqLive_of_on ho)
    rw [Dev.ioWrite_seq h0 ho (.inl rfl)]
    unfold Dev.ioSeq
    rw [if_neg (by decide), if_pos rfl, if_pos rfl, hw]
    unfold Dev.event
    rw [if_pos hl]
    refine ⟨Dev.butRegs_put (Dev.butRegs_setReg (d.butRegs_refl _) (by decide) _) (by decide) _, ?_, fun k => ?_⟩
    · rw [Dev.reg_put_ne _ _ _ _ (by decide), Dev.reg_setReg_self]
    · rw [Dev.get_put_self _ _ _ (by decide), Dev.get_setReg_ne _ _ _ _ (by decide), bitOf_testBit, Nat.testBit_mod_two_pow,
        ← bitOf_testBit, bitOf_setBit_true]
      have hk : bitOf (d.get R.SEQ_EVPEND_EV) k = true → k < 11 := fun h => by
        rw [bitOf_testBit] at h
        exact Nat.lt_of_not_le fun hk => by
          rw [Nat.testBit_lt_two_pow ((Dev.get_lt d R.SEQ_EVPEND_EV).trans_le (Nat.pow_le_pow_right (by decide) hk))] at h
          cases h
      by_cases h11 : k < 11
      · simp [h11, evDoorbell]
      · have hf : bitOf (d.get R.SEQ_EVPEND_EV) k = false := Bool.eq_false_iff.2 fun h => h11 (hk h)
        have h2 : k ≠ 2 := by omega
        simp [hf, h11, h2]
  · refine leaves_of_act (f := fun d => d.ioWrite true R.SEQ_EVEN v.toNat) (fun _ => rfl) ?_
    rintro d h0 ho
    rw [Dev.ioWrite_seq h0 ho (.inr rfl)]
    unfold Dev.ioSeq
    rw [if_neg (by decide), if_neg (by decide),
      Dev.plainWrite_eq d (show regSpec? R.SEQ_EVEN = some ⟨0x201C, 0, 1, 0x7FF, 0x7FF, 0, 0⟩ from rfl) rfl rfl]
    refine ⟨Dev.butRegs_setReg (d.butRegs_refl _) (by decide) _, ?_⟩
    rw [Dev.get_setReg_self d R.SEQ_EVEN_EV, RegSpec.of_merge (by decide) (by decide)]
    unfold Field.of
    simp

end Sys2Proof.Machine
end

section
/-!
Refutation for the resets (chapter 19): the statement O25 and the device that it fails on.
-/

namespace Sys2Proof.Machine
set_option Elab.async false

/-- A seated device in the microsecond in which a soft reset has ended: its time is 0, and SYS_RESET holds that reset's
cause and its count. -/
def Dev.justReset : Dev :=
  { (Dev.reset.put R.SYS_STATUS_SEATED 1).setReg R.SYS_RESET 0x10004 with sys := { Dev.reset.sys with inReset := false } }

/-- Refutes O25, by its clause about RST_N on a seated device: a pin reset at the instant that ended another reset joins
that reset's causes, although the device is no longer held in reset, and is not counted as one more. -/
theorem not_resetsAndTheirCauses : ¬ Obligations.ResetsAndTheirCauses := by
  intro h
  obtain ⟨-, -, hseated⟩ := h
  obtain ⟨t, he, -, -, -, -, hw, -⟩ := hseated ⟨[], Dev.justReset⟩ false false (by decide)
  have ht : t = ⟨[], Dev.justReset.rstN false false⟩ := (Host.Outcome.next.inj he).symm
  rw [ht] at hw
  revert hw
  decide

end Sys2Proof.Machine
end

section
/-!
Refutation for the end of reset at the seated instant (chapter 19): the statement O26 and the device that it fails on.
-/

namespace Sys2Proof.Machine

/-- A device in reset whose periphery port has, as no reset leaves it, a frame in progress and a write queued behind it,
from a word of exchange RAM that has a single-bit error. -/
def Dev.portInReset : Dev :=
  let x : Xfer := ⟨0, none, 0, 65536 * 8, 0, 0⟩
  { Dev.reset with
    mem := { Mems.reset with single := [0] }
    pp := { Pp.reset with queue := [x], active := some ⟨x, 0, 0, [], false, false⟩ } }

/-- Refutes O26, by its clause about the seated instant, which speaks of every device in reset: with G0 = 1 the flash boot
queues its read, the port prefetches the write that waits, and that corrects the memory. -/
theorem not_seatingEndsReset : ¬ Obligations.SeatingEndsReset := by
  intro h
  obtain ⟨-, -, hseated⟩ := h
  obtain ⟨t, he, -, -, -, -, -, -, -, -, hm, -⟩ := hseated ⟨[], Dev.portInReset⟩ true false rfl
  have ht : t = ⟨[], Dev.portInReset.seated true false⟩ := (Host.Outcome.next.inj he).symm
  rw [ht] at hm
  have hs := congrArg Mems.single hm
  revert hs
  decide +kernel

end Sys2Proof.Machine
end

section
/-!
Proofs for supplies, clocks and the boot timeout (chapters 10, 19 and 21): the statement O28.
-/

namespace Sys2Proof.Machine
set_option Elab.async false

/-! ### The end of a flash boot (R299) -/

theorem Dev.ppBootDrop_eq (d : Dev) : d.ppBootDrop = if d.pp.active.any (fun f => f.x.desc == 9)
    then (d.ppQueue (d.pp.queue.filter (fun x => x.desc != 9))).ppIdle
    else d.ppQueue (d.pp.queue.filter (fun x => x.desc != 9)) := rfl

/-- The transfers of a flash boot are dropped: the queue loses them, and a frame of one in progress ends. -/
theorem Dev.ppBootDrop_queue (d : Dev) : d.ppBootDrop.pp.queue = d.pp.queue.filter (fun x => x.desc != 9) := by
  rw [Dev.ppBootDrop_eq]
  split <;> rfl

theorem Dev.ppBootDrop_active (d : Dev) : ∀ f, d.ppBootDrop.pp.active = some f → f.x.desc ≠ 9 := by
  intro f hf
  rw [Dev.ppBootDrop_eq] at hf
  split at hf
  · cases hf
  · rename_i hn
    rw [show d.pp.active = some f from hf] at hn
    simpa using hn

theorem Dev.ppBootDrop_qcnt (d : Dev) :
    d.ppBootDrop.get R.PP_STATUS_QCNT = d.ppBootDrop.pp.queue.length % 32 := by
  have hq : ∀ q, (d.ppQueue q).get R.PP_STATUS_QCNT = q.length % 32 := fun q => Dev.get_put_self _ _ _ (by decide)
  rw [Dev.ppBootDrop_queue, Dev.ppBootDrop_eq]
  split
  · exact (Dev.get_put_ne _ R.PP_STATUS_TARGET R.PP_STATUS_QCNT _ (by decide)).trans
      ((Dev.get_put_ne _ R.PP_STATUS_ACTIVE R.PP_STATUS_QCNT _ (by decide)).trans (hq _))
  · exact hq _

/-- The device whose flash boot has ended without an image (R299), before the boot's transfers are dropped. -/
def Dev.bootFailed (d : Dev) : Dev :=
  { (d.setVres (0x0B, 0)).put R.SEQ_STATUS_AVERIFIED 0 with seq := { d.seq with bootFrom := none } }

theorem Dev.bootTimeout_eq {d : Dev} {t0 : Nat} (hb : d.seq.bootFrom = some t0) (ht : t0 + 30000 ≤ d.clock) (hon : d.seqOn = true) :
    d.bootTimeout = d.bootFailed.ppBootDrop := by
  unfold Dev.bootTimeout
  rw [if_pos (by simp [hb, ht, hon])]
  rfl

theorem Dev.Keeps.bootFailed (d : Dev) : Dev.Keeps { seq := true, regs := [R.SEQ_VRES, R.SEQ_STATUS] } d d.bootFailed :=
  Dev.Keeps.upd (Dev.Keeps.put (Dev.Keeps.setVres (r := (0x0B, 0)) .refl) (f := R.SEQ_STATUS_AVERIFIED) (n := 0)) (seq := nofun)

/-- Settles O28: each command is its definition in the states that the clause names. -/
theorem suppliesClocksAndBootTimeout : Obligations.SuppliesClocksAndBootTimeout := by
  unfold Obligations.SuppliesClocksAndBootTimeout
  refine ⟨does_of_actAlways (f := fun d => d.vddioDrop) (fun _ => rfl) ?_,
    does_of_actAlways (f := fun d => d.vddioReturn) (fun _ => rfl) ?_,
    does_of_act (f := fun d => d.hostQualify) (fun _ => rfl) ?_,
    does_of_act (f := fun d => d.pllSwitch) (fun _ => rfl) ?_, does_of_act (f := fun d => d.pllSwitch) (fun _ => rfl) ?_,
    does_of_act (f := fun d => d.clkinLoss) (fun _ => rfl) ?_,
    fun t0 => leaves_of_act (f := fun d => d.bootTimeout) (fun _ => rfl) ?_⟩
  · intro d h0 hok
    unfold Dev.vddioDrop
    rw [if_neg (by simp [hok])]
    exact if_neg (by simp [h0])
  · intro d _ hok
    unfold Dev.vddioReturn
    rw [if_neg (by simp [hok])]
    rfl
  · rintro d h0 ⟨hs, hv⟩
    unfold Dev.hostQualify
    rw [if_neg (by simp [h0, hs, hv])]
  · rintro d h0 ⟨hl, hm, hst⟩
    unfold Dev.pllSwitch
    rw [if_neg]
    rcases hst with hst | hst | hst
    all_goals simp [h0, hl, hm, hst]
  · intro d _ hl
    unfold Dev.pllSwitch
    rw [if_pos (by simp [hl])]
  · rintro d _ ⟨hp, hm⟩
    unfold Dev.clkinLoss
    rw [if_pos (by simp [hp, hm])]
  · rintro d _ ⟨hb, ht, hon⟩
    have hk : Dev.Keeps { pp := true, regs := [R.PP_STATUS] } d.bootFailed d.bootFailed.ppBootDrop := Dev.Keeps.ppBootDrop .refl
    have ha : Dev.Keeps { seq := true, pp := true, regs := [R.SEQ_VRES, R.SEQ_STATUS, R.PP_STATUS] } d d.bootFailed.ppBootDrop :=
      Dev.Keeps.ppBootDrop (Dev.Keeps.step .refl rfl (Dev.Keeps.bootFailed d))
    rw [Dev.bootTimeout_eq hb ht hon]
    refine ⟨hk.seq rfl, ?_, ?_, ?_, d.bootFailed.ppBootDrop_active, ha.restored, d.bootFailed.ppBootDrop_qcnt⟩
    · rw [hk.get]
      exact (Dev.get_put_ne _ R.SEQ_STATUS_AVERIFIED R.SEQ_VRES_CODE _ (by decide)).trans
        ((Dev.get_put_ne _ R.SEQ_VRES_DETAIL R.SEQ_VRES_CODE _ (by decide)).trans (Dev.get_put_self _ _ _ (by decide)))
    · rw [hk.is]
      exact Dev.is_putB_self _ R.SEQ_STATUS_AVERIFIED false (by decide) (by decide)
    · rw [Dev.ppBootDrop_queue]
      intro x hx
      simpa using (List.mem_filter.1 hx).2

end Sys2Proof.Machine
end

section
/-!
Proofs for writes of the TICK registers and for staged values (chapters 00 and 02): the statements O33, O34.
-/

namespace Sys2Proof.Machine
set_option Elab.async false

/-! ### Writes of TICK registers -/

/-- A write to a register of SYS or TICK that no state holds off (R624, R30). -/
theorem Dev.ioWrite_sysTick {d : Dev} (h0 : d.sys.inReset = false) {a : Nat} (ha : a < 0x400) (host : Bool) (v : Nat)
    (hs : (regSpec? a).isNone = false := by decide) (hh : haltedOff.contains a = false := by decide)
    (ho : heldOff a = false := by decide) : d.ioWrite host a v = d.ioSysTick host a v := by
  have hr : d.regReachable a = true := by unfold Dev.regReachable regDomain; simp [ha]
  rw [Dev.ioWrite_live h0 hr hs (fun h => absurd (hh.symm.trans h) Bool.false_ne_true)
    (fun h => absurd (ho.symm.trans h) Bool.false_ne_true), if_pos ha]

theorem Dev.ioSysTick_period (d : Dev) (host : Bool) (v : Nat) : d.ioSysTick host R.TICK_PERIOD v = d.tickPeriodWrite v := by
  rw [Dev.ioSysTick, if_neg (by decide), if_pos rfl]

theorem Dev.ioSysTick_plan (d : Dev) (host : Bool) (v : Nat) : d.ioSysTick host R.TICK_PLAN v = d.tickPlanWrite v := by
  rw [Dev.ioSysTick, if_neg (by decide), if_neg (by decide), if_pos rfl]

theorem Dev.ioSysTick_clr (d : Dev) (host : Bool) (v : Nat) : d.ioSysTick host R.TICK_CLR v =
    (if bitOf v 1 then (if bitOf v 0 then d.tickClrImgMax else d).tickClrCounts else if bitOf v 0 then d.tickClrImgMax else d) := by
  rw [Dev.ioSysTick, if_neg (by decide), if_neg (by decide), if_neg (by decide), if_pos rfl]

/-- Settles O33: each write reaches its TICK register, whose definition splits on the written value as the clauses do. -/
theorem tickRegisterWrites : Obligations.TickRegisterWrites := by
  unfold Obligations.TickRegisterWrites
  refine ⟨fun v => ⟨?_, ?_, ?_, ?_, ?_⟩, ?_, ?_⟩
  · refine does_of_act (f := fun d => d.ioWrite true R.TICK_PERIOD v.toNat) (fun _ => rfl) fun d h0 h => ?_
    rw [Dev.ioWrite_sysTick h0 (by decide), Dev.ioSysTick_period, Dev.tickPeriodWrite, if_pos h]
  · refine does_of_act (f := fun d => d.ioWrite true R.TICK_PERIOD v.toNat) (fun _ => rfl) fun d h0 ⟨hl, hu, hlow⟩ => ?_
    rw [Dev.ioWrite_sysTick h0 (by decide), Dev.ioSysTick_period, Dev.tickPeriodWrite, if_neg (by omega)]
    rcases hlow with hmin | hlead
    · rw [if_pos hmin]
    · rw [if_pos hlead, ite_self]
  · refine does_of_act (f := fun d => d.ioWrite true R.TICK_PERIOD v.toNat) (fun _ => rfl) fun d h0 ⟨hl, hu, hlow⟩ => ?_
    rw [Dev.ioWrite_sysTick h0 (by decide), Dev.ioSysTick_period, Dev.tickPeriodWrite, if_neg (by omega),
      if_neg (fun h => hlow (.inl h)), if_neg (fun h => hlow (.inr h))]
  · refine does_of_act (f := fun d => d.ioWrite true R.TICK_PLAN v.toNat) (fun _ => rfl) fun d h0 h => ?_
    rw [Dev.ioWrite_sysTick h0 (by decide), Dev.ioSysTick_plan, Dev.tickPlanWrite, if_pos h, word, BitVec.ofNat_toNat, BitVec.setWidth_eq]
  · refine does_of_act (f := fun d => d.ioWrite true R.TICK_PLAN v.toNat) (fun _ => rfl) fun d h0 h => ?_
    rw [Dev.ioWrite_sysTick h0 (by decide), Dev.ioSysTick_plan, Dev.tickPlanWrite, if_neg (by simp [h])]
  · refine does_of_act (f := fun d => d.ioWrite true R.TICK_CLR 1) (fun _ => rfl) fun d h0 _ => ?_
    rw [Dev.ioWrite_sysTick h0 (by decide), Dev.ioSysTick_clr, if_neg (by decide), if_pos (by decide)]
    rfl
  · refine does_of_act (f := fun d => d.ioWrite true R.TICK_CLR 2) (fun _ => rfl) fun d h0 _ => ?_
    rw [Dev.ioWrite_sysTick h0 (by decide), Dev.ioSysTick_clr, if_pos (by decide), if_neg (by decide)]
    rfl

/-! ### Staged values (R4, R5, R13) -/

/-- The register at `a`, with its staged bits in `w`, once a tick applies them. -/
def Dev.applyOne (d : Dev) (e : Nat × Word) : Dev := d.setReg e.1 ((d.reg e.1 &&& ~~~ rwsMask e.1) ||| (e.2 &&& rwsMask e.1))

theorem Dev.applyStaged_eq (d : Dev) : d.applyStaged = { d.staged.foldr (fun e d => d.applyOne e) d with staged := [] } := rfl

/-- Staged values of other registers leave a register as it is. -/
theorem Dev.reg_foldr_applyOne (d : Dev) (a : Nat) (es : List (Nat × Word)) (h : ∀ e ∈ es, e.1 ≠ a) :
    (es.foldr (fun e d => d.applyOne e) d).reg a = d.reg a := by
  induction es with
  | nil => rfl
  | cons e es ih =>
    rw [List.foldr_cons, Dev.applyOne, Dev.reg_setReg_ne _ _ _ _ (h e (List.mem_cons_self ..)).symm]
    exact ih fun x hx => h x (List.mem_cons_of_mem _ hx)

theorem Dev.stage_ticking {d : Dev} (h : d.ticking = true) (a : Nat) (v : Word) :
    d.stage a v = { d with staged := (a, v &&& rwsMask a) :: d.staged.filter (fun e => e.1 != a) } := by
  rw [Dev.stage, if_pos h]

theorem Dev.stage_idle {d : Dev} (h : d.ticking = false) (a : Nat) (v : Word) :
    d.stage a v = { d.setReg a ((d.reg a &&& ~~~ rwsMask a) ||| (v &&& rwsMask a)) with
      staged := d.staged.filter (fun e => e.1 != a) } := by
  rw [Dev.stage, if_neg (by simp [h])]

/-- Settles O34: staging a value puts it in front of the values that wait, and the tick applies the front one last. -/
theorem stagedValuesWaitForTheTick : Obligations.StagedValuesWaitForTheTick := by
  intro d a v
  refine ⟨fun h b => ?_, fun h => ?_, fun h w => ?_, fun h => ?_, fun h => ?_, rfl⟩
  · rw [Dev.stage_ticking h]; rfl
  · rw [Dev.stage_ticking h, Dev.stagedAt, List.lookup_cons_self]
  · have hw : (d.stage a w).ticking = true := by rw [Dev.stage_ticking h]; exact h
    rw [Dev.stage_ticking hw, Dev.stage_ticking h, Dev.stage_ticking h]
    simp [List.filter_filter]
  · rw [Dev.stage_ticking h, Dev.applyStaged_eq]
    refine (Dev.reg_setReg_self _ _ _).trans ?_
    rw [Dev.reg_foldr_applyOne _ a _ (fun e he => by simpa using (List.mem_filter.1 he).2), BitVec.and_assoc, BitVec.and_self]
    rfl
  · rw [Dev.stage_idle h]
    exact Dev.reg_setReg_self _ _ _

end Sys2Proof.Machine
end

section
/-!
Proofs for VSYNC and HSYNC (chapter 02): the statement O32.
-/

namespace Sys2Proof.Machine
set_option Elab.async false

/-! ### Edges of VSYNC (R37, R53, R54) -/

/-- An aligned tick is still to be issued as the next edge comes. -/
def Dev.alignedBack (d : Dev) : Bool := d.sourced && d.tick.aligned && d.tick.due.isSome

theorem Dev.alignedBack_iff (d : Dev) :
    d.alignedBack = true ↔ (d.st = stRunning ∨ d.st = stStopping) ∧ d.tick.aligned = true ∧ d.tick.due ≠ none := by
  simp [Dev.alignedBack, Dev.sourced, Option.isSome_iff_ne_none, and_assoc]

/-- The device that has measured the period `p` at an edge, the lock at `lock`. -/
def Dev.vsyncMeasured (d : Dev) (lock : Bool) (p : Nat) : Dev :=
  { (d.putB R.TICK_STATUS_VLOCK lock).put R.TICK_VMEAS_VPER (if lock then min p 65535 else 0) with tick := { d.tick with vper := p } }

theorem Dev.Keeps.vsyncMeasured (d : Dev) (lock : Bool) (p : Nat) :
    Dev.Keeps { tick := true, regs := [R.TICK_STATUS, R.TICK_VMEAS] } d (d.vsyncMeasured lock p) :=
  Dev.Keeps.upd (Dev.Keeps.put (f := R.TICK_VMEAS_VPER) (n := if lock then min p 65535 else 0)
    (Dev.Keeps.putB (f := R.TICK_STATUS_VLOCK) (b := lock) .refl)) (tick := nofun)

theorem Dev.vsyncMeasured_vlock (d : Dev) (lock : Bool) (p : Nat) : (d.vsyncMeasured lock p).is R.TICK_STATUS_VLOCK = lock :=
  (Dev.is_put_ne _ R.TICK_VMEAS_VPER R.TICK_STATUS_VLOCK _ (by decide)).trans (Dev.is_putB_self _ _ _ (by decide) (by decide))

theorem Dev.vsyncMeasured_vper (d : Dev) (lock : Bool) (p : Nat) :
    (d.vsyncMeasured lock p).get R.TICK_VMEAS_VPER = if lock then min p 65535 else 0 := by
  refine (Dev.get_put_self _ R.TICK_VMEAS_VPER _ (by decide)).trans (Nat.mod_eq_of_lt ?_)
  rw [show R.TICK_VMEAS_VPER.width = 16 from rfl]
  split
  all_goals omega

theorem Dev.vsyncEdge_early {d : Dev} (h0 : d.sys.inReset = false) (hv : d.is R.SYS_STATUS_VDDIOOK = true) {t0 : Nat}
    (ht : d.tick.vsEdge = some t0) (hp : d.clock - t0 < 6060) : d.vsyncEdge = d.put R.TICK_STATUS_VGLITCH 1 := by
  unfold Dev.vsyncEdge
  rw [if_neg (by simp [h0, hv]), ht]
  exact if_pos hp

theorem Dev.vsyncEdge_next {d : Dev} (h0 : d.sys.inReset = false) (hv : d.is R.SYS_STATUS_VDDIOOK = true) {t0 : Nat}
    (ht : d.tick.vsEdge = some t0) (hp : 6060 ≤ d.clock - t0) {n : Nat}
    (hn : n = if d.clock - t0 ≤ 25000 then d.tick.vsValid + 1 else 1) :
    d.vsyncEdge = (d.vsyncMeasured (decide (2 ≤ n)) (d.clock - t0)).vsyncAlign n := by
  subst hn
  unfold Dev.vsyncEdge
  rw [if_neg (by simp [h0, hv]), ht]
  exact if_neg (Nat.not_lt.2 hp)

theorem Dev.vsyncEdge_first {d : Dev} (h0 : d.sys.inReset = false) (hv : d.is R.SYS_STATUS_VDDIOOK = true)
    (ht : d.tick.vsEdge = none) : d.vsyncEdge = d.vsyncAlign 1 := by
  unfold Dev.vsyncEdge
  rw [if_neg (by simp [h0, hv]), ht]
  rfl

/-- What an edge makes of the tick source. -/
def Dev.vsyncTick (d : Dev) (n p : Nat) : TickGen :=
  { d.tick with
    vper := p, vsEdge := some d.clock, vsValid := n, subLeft := 0, aligned := true
    owed := d.tick.owed + if d.alignedBack then 1 else 0
    held := if d.tick.held = 1 ∧ (d.tick.owed + if d.alignedBack then 1 else 0) = 0 then 0 else d.tick.held
    due := some (d.clock + d.get R.TICK_VSYNC_OFFSET) }

/-- The sub-ticks that an edge drops. -/
def Dev.vsyncDrops (d : Dev) : Nat := if d.alignedBack then d.get R.TICK_CTRL_RATIO else d.tick.subLeft

theorem Dev.vsyncAlign_tick (d : Dev) (n : Nat) : (d.vsyncAlign n).tick = d.vsyncTick n d.tick.vper := by
  unfold Dev.vsyncAlign Dev.vsyncTick
  rw [← Dev.alignedBack]
  exact congrArg (fun t : Nat => ({ d.tick with
    vsEdge := some d.clock, vsValid := n, subLeft := 0, aligned := true
    owed := d.tick.owed + if d.alignedBack then 1 else 0
    held := if d.tick.held = 1 ∧ (d.tick.owed + if d.alignedBack then 1 else 0) = 0 then 0 else d.tick.held
    due := some (d.clock + t) } : TickGen)) (Dev.get_put_ne d R.TICK_COUNTS_SKIP R.TICK_VSYNC_OFFSET _ (by decide))

theorem Dev.vsyncAlign_skip (d : Dev) (n : Nat) : (d.vsyncAlign n).get R.TICK_COUNTS_SKIP =
    min (d.get R.TICK_COUNTS_SKIP + d.vsyncDrops) (2 ^ R.TICK_COUNTS_SKIP.width - 1) := by
  refine (Dev.get_put_self d R.TICK_COUNTS_SKIP _ (by decide)).trans (Nat.mod_eq_of_lt ?_)
  rw [show R.TICK_COUNTS_SKIP.width = 16 from rfl]
  omega

theorem Dev.Keeps.vsyncMeasured_align (d : Dev) (lock : Bool) (p n : Nat) :
    Dev.Keeps { tick := true, regs := [R.TICK_STATUS, R.TICK_VMEAS, R.TICK_COUNTS] } d ((d.vsyncMeasured lock p).vsyncAlign n) :=
  Dev.Keeps.vsyncAlign (Dev.Keeps.step .refl rfl (Dev.Keeps.vsyncMeasured d lock p))

/-- A valid edge with the period `p` measured, the lock at `lock`. -/
theorem Dev.vsyncMeasured_align (d : Dev) (lock : Bool) (p n : Nat) : let t := (d.vsyncMeasured lock p).vsyncAlign n
    t.is R.TICK_STATUS_VLOCK = lock ∧ t.get R.TICK_VMEAS_VPER = (if lock then min p 65535 else 0) ∧
    t.get R.TICK_COUNTS_SKIP = min (d.get R.TICK_COUNTS_SKIP + d.vsyncDrops) (2 ^ R.TICK_COUNTS_SKIP.width - 1) ∧
    t.tick = d.vsyncTick n p ∧ d.butRegs { t with tick := d.tick } [R.TICK_STATUS, R.TICK_VMEAS, R.TICK_COUNTS] := by
  have hm := Dev.Keeps.vsyncMeasured d lock p
  have ha : Dev.Keeps { tick := true, regs := [R.TICK_COUNTS] } (d.vsyncMeasured lock p) ((d.vsyncMeasured lock p).vsyncAlign n) :=
    Dev.Keeps.vsyncAlign .refl
  have hb : (d.vsyncMeasured lock p).alignedBack = d.alignedBack := by
    unfold Dev.alignedBack Dev.sourced
    rw [hm.st]
    rfl
  refine ⟨ha.is.trans (Dev.vsyncMeasured_vlock ..), ha.get.trans (Dev.vsyncMeasured_vper ..), ?_, ?_,
    (Dev.Keeps.vsyncMeasured_align d lock p n).restored⟩
  · rw [Dev.vsyncAlign_skip, hm.get, Dev.vsyncDrops, Dev.vsyncDrops, hb, hm.get]
    rfl
  · rw [Dev.vsyncAlign_tick, Dev.vsyncTick, Dev.vsyncTick, hb, hm.get, hm.clock rfl]
    rfl

/-! ### Loss of VSYNC and HSYNC (R55, R56) -/

/-- The device that has lost VSYNC, before the event of FS11. -/
def Dev.vsyncLost (d : Dev) : Dev :=
  { (d.put R.TICK_STATUS_VLOCK 0).put R.TICK_VMEAS_VPER 0 with
    tick := { d.tick with
      vsValid := 0, vsEdge := none
      due := d.tick.due.orElse (fun _ =>
        if d.vsyncSpacing = 0 then none else some (max d.clock (d.tick.lastTick + d.vsyncSpacing))) } }

theorem Dev.Keeps.vsyncLost (d : Dev) : Dev.Keeps { tick := true, regs := [R.TICK_STATUS, R.TICK_VMEAS] } d d.vsyncLost :=
  Dev.Keeps.upd (Dev.Keeps.put (f := R.TICK_VMEAS_VPER) (n := 0) (Dev.Keeps.put (f := R.TICK_STATUS_VLOCK) (n := 0) .refl)) (tick := nofun)

theorem Dev.vsyncLoss_eq {d : Dev} {t0 : Nat} (he : d.tick.vsEdge = some t0) (ht : t0 + 25000 ≤ d.clock) :
    d.vsyncLoss = d.vsyncLost.raise 0x11 (d.get R.TICK_VMEAS_VPER) := by
  have hs : ((d.put R.TICK_STATUS_VLOCK 0).put R.TICK_VMEAS_VPER 0).vsyncSpacing = d.vsyncSpacing :=
    congrArg (fun n => d.tick.vper / (n + 1)) ((Dev.get_put_ne _ R.TICK_VMEAS_VPER R.TICK_CTRL_RATIO _ (by decide)).trans
      (Dev.get_put_ne _ R.TICK_STATUS_VLOCK R.TICK_CTRL_RATIO _ (by decide)))
  unfold Dev.vsyncLoss Dev.vsyncLost
  rw [if_neg (by simp [he]; omega)]
  simp only [hs]
  rfl

/-- HSYNC is lost: the rest of a gated frame runs ungated. -/
theorem Dev.hsyncLoss_spec (d : Dev) : d.hsyncLoss.is R.TICK_STATUS_HSLOCK = false ∧ d.hsyncLoss.get R.TICK_VMEAS_HPER = 0 ∧
    d.hsyncLoss.tick = { d.tick with ungated := d.tick.ungated || (d.is R.TICK_CTRL_HSGATE && d.acq.now.isSome) } ∧
    d.butRegs { d.hsyncLoss with tick := d.tick } [R.TICK_STATUS, R.TICK_VMEAS] := by
  have hk : Dev.Keeps { tick := true, regs := [R.TICK_STATUS, R.TICK_VMEAS] } d d.hsyncLoss := Dev.Keeps.hsyncLoss .refl
  refine ⟨(Dev.is_put_ne _ R.TICK_VMEAS_HPER R.TICK_STATUS_HSLOCK _ (by decide)).trans (Dev.is_putB_self _ R.TICK_STATUS_HSLOCK false (by decide) (by decide)),
    Dev.get_put_self _ R.TICK_VMEAS_HPER 0 (by decide), ?_, hk.restored⟩
  exact congrArg (fun b => ({ d.tick with ungated := d.tick.ungated || (b && d.acq.now.isSome) } : TickGen))
    ((Dev.is_put_ne _ R.TICK_VMEAS_HPER R.TICK_CTRL_HSGATE _ (by decide)).trans (Dev.is_put_ne _ R.TICK_STATUS_HSLOCK R.TICK_CTRL_HSGATE _ (by decide)))

/-- Settles O32: the cases of the period since the last edge, and the losses. -/
theorem vsyncAndHsyncLock : Obligations.VsyncAndHsyncLock := by
  unfold Obligations.VsyncAndHsyncLock
  simp only [← Dev.alignedBack_iff]
  refine ⟨fun t0 => ⟨?_, ?_, ?_, ?_⟩, ?_, fun n => ⟨fun hn hm => ?_, fun hn => ?_⟩, ?_⟩
  · exact does_of_act (f := fun d => d.vsyncEdge) (fun _ => rfl) fun d h0 ⟨⟨hv, he⟩, hp⟩ => Dev.vsyncEdge_early h0 hv he hp
  · refine leaves_of_act (f := fun d => d.vsyncEdge) (fun _ => rfl) fun d h0 ⟨⟨hv, he⟩, hlo, hhi, hn⟩ => ?_
    rw [Dev.vsyncEdge_next h0 hv he hlo (if_pos hhi).symm, decide_eq_true (show 2 ≤ d.tick.vsValid + 1 by omega)]
    obtain ⟨hlock, hper, hskip, htick, hrest⟩ := Dev.vsyncMeasured_align d true (d.clock - t0) (d.tick.vsValid + 1)
    refine ⟨hlock, hper.trans ?_, hskip, htick, hrest⟩
    rw [if_pos rfl]
    omega
  · refine leaves_of_act (f := fun d => d.vsyncEdge) (fun _ => rfl) fun d h0 ⟨⟨hv, he⟩, hlo, hn⟩ => ?_
    have hone : 1 = if d.clock - t0 ≤ 25000 then d.tick.vsValid + 1 else 1 := by
      split
      all_goals omega
    rw [Dev.vsyncEdge_next h0 hv he hlo hone]
    exact Dev.vsyncMeasured_align d false (d.clock - t0) 1
  · refine leaves_of_act (f := fun d => d.vsyncLoss) (fun _ => rfl) fun d _ ⟨he, ht⟩ => ?_
    refine ⟨d.vsyncLost, Dev.vsyncLoss_eq he ht, ?_, Dev.get_put_self _ R.TICK_VMEAS_VPER 0 (by decide), rfl, fun t1 h1 => ?_,
      fun h1 hs => ?_, (Dev.Keeps.vsyncLost d).restored⟩
    · exact (Dev.is_put_ne _ R.TICK_VMEAS_VPER R.TICK_STATUS_VLOCK _ (by decide)).trans
        (Dev.is_putB_self _ R.TICK_STATUS_VLOCK false (by decide) (by decide))
    · simp [Dev.vsyncLost, h1]
    · simp [Dev.vsyncLost, h1, Nat.pos_iff_ne_zero.1 hs]
  · refine leaves_of_act (f := fun d => d.vsyncEdge) (fun _ => rfl) fun d h0 ⟨hv, he⟩ => ?_
    have hk : Dev.Keeps { tick := true, regs := [R.TICK_COUNTS] } d (d.vsyncAlign 1) := Dev.Keeps.vsyncAlign .refl
    rw [Dev.vsyncEdge_first h0 hv he]
    exact ⟨Dev.vsyncAlign_skip d 1, Dev.vsyncAlign_tick d 1, hk.restored⟩
  · refine does_of_act (f := fun d => d.hsyncEdge n) (fun _ => rfl) fun d h0 hv => ?_
    unfold Dev.hsyncEdge
    rw [if_neg (by simp [h0, hv]), if_neg (by omega)]
  · refine leaves_of_act (f := fun d => d.hsyncEdge n) (fun _ => rfl) fun d h0 hv => ?_
    unfold Dev.hsyncEdge
    rw [if_neg (by simp [h0, hv]), if_pos hn]
    exact d.hsyncLoss_spec
  · exact leaves_of_act (f := fun d => d.hsyncLoss) (fun _ => rfl) fun d _ _ => d.hsyncLoss_spec

end Sys2Proof.Machine
end

section
/-!
Proofs for the passing of time (log entry 2): the statement O3.
-/

namespace Sys2Proof.Machine
set_option Elab.async false

/-- The device at the next microsecond, with what it sent on the cluster ring gone. -/
def Dev.nextMicro (d : Dev) : Dev := { d with clock := d.clock + 1, cl := { d.cl with tx := [], txK := [] } }

/-- The next microsecond with its timers and key bindings run. -/
def Dev.microBound (d : Dev) : Dev :=
  if d.nextMicro.timersMicro.ticking || d.nextMicro.timersMicro.panel.edBind.isEmpty then d.nextMicro.timersMicro
  else d.nextMicro.timersMicro.edBindTick

abbrev Dev.microScope : Dev.Scope :=
  { freeCount := true, acq := true, cl := true, panel := true
    regs := [R.SEQ_EVPEND, R.GPIO_TMEXP0, R.GPIO_TMEXP1, R.ED_LEVEL0, R.ED_LEVEL1, R.ACQ_STATUS]
    fams := [(0x240c, 16), (0x2408, 16), (0x2804, 8), (0x2800, 8)] }

theorem Dev.Keeps.microBound (d : Dev) : Dev.Keeps Dev.microScope d.nextMicro d.microBound :=
  have h : Dev.Keeps Dev.microScope d.nextMicro d.nextMicro.timersMicro := Dev.Keeps.timersMicro .refl
  Dev.Keeps.ite h h.edBindTick

/-- Where no domain request, no ECC error and no held tick waits, a microsecond only passes. -/
theorem Dev.idle_eq {d : Dev} (h0 : d.sys.inReset = false) (hq : ∀ q ∈ d.pwr.domReqs, q.waits = false) (hm : d.mem.met = [])
    (ht : d.tick.held = 0) : d.idle = d.microBound.stageStop.phaseTime.vhvTime := by
  have hb := Dev.Keeps.microBound d
  have hv : Dev.Keeps Dev.microScope d.nextMicro d.microBound.stageStop.phaseTime.vhvTime := hb.stageStop.phaseTime.vhvTime
  have hreq : (d.microBound.st == stChecking || d.microBound.pwr.domReqs.all (fun q => !q.waits)) = true := by
    rw [hb.pwr rfl, Bool.or_eq_true]
    exact .inr (List.all_eq_true.2 fun q h => by simp [hq q h])
  have hidle : d.idle = (if d.microBound.st == stChecking || d.microBound.pwr.domReqs.all (fun q => !q.waits) then d.microBound
      else d.microBound.domRelease).eccFlush.stageStop.phaseTime.vhvTime.heldTick := by
    unfold Dev.idle
    rw [if_neg (by simp [h0])]
    rfl
  rw [hidle, if_pos hreq, Dev.eccFlush, if_pos (List.isEmpty_iff.2 ((congrArg Mems.met (hb.mem rfl)).trans hm)), Dev.heldTick,
    if_pos (.inl ((congrArg TickGen.held (hv.tick rfl)).trans ht))]

/-- Settles O3: what runs in a microsecond leaves time, memories and the tick source alone. -/
theorem emptyQueueLetsTimePass : Obligations.EmptyQueueLetsTimePass := by
  intro s hp
  have hs : Sys2Proof.Machine.step s = .next { s with dev := s.dev.idle } := by rw [step, hp]
  refine ⟨fun hr => ?_, fun h0 ht hq _ hm => ⟨_, hs, hp, ?_⟩⟩
  · rw [hs, Dev.idle, if_pos hr]
  · have hk : Dev.Keeps Dev.microScope s.dev.nextMicro s.dev.microBound.stageStop.phaseTime.vhvTime :=
      (Dev.Keeps.microBound s.dev).stageStop.phaseTime.vhvTime
    rw [Dev.idle_eq h0 hq hm ht]
    refine ⟨hk.clock rfl, hk.mem rfl, fun hts => ?_⟩
    unfold Dev.tstamp Dev.micros Dev.microsAt
    rw [hk.clock rfl, hk.pwr rfl, show s.dev.nextMicro.pwr.tsFrom = none from hts, hts]
    change (s.dev.clock + 1) % 2 ^ 32 = (s.dev.clock % 2 ^ 32 + 1) % 2 ^ 32
    omega

end Sys2Proof.Machine
end

section
/-!
Proofs for the start of RUN and the consistency check (chapters 10, 16 and 19): the statement O29.
-/

namespace Sys2Proof.Machine
set_option Elab.async false

/-! ### Writes of SYS_CTRL (R301, R620) -/

theorem Dev.ioSysTick_ctrl (d : Dev) (host : Bool) (v : Nat) :
    d.ioSysTick host R.SYS_CTRL v = if bitOf v 0 then d.runSet (!host) else d.runClear := by
  rw [Dev.ioSysTick, if_pos rfl]

/-- A write to SYS_CTRL away from HALTED starts or stops. -/
theorem Dev.ioWrite_run {d : Dev} (h0 : d.sys.inReset = false) (hh : d.st ≠ stHalted) (host : Bool) (v : Nat) :
    d.ioWrite host R.SYS_CTRL v = if bitOf v 0 then d.runSet (!host) else d.runClear := by
  rw [Dev.ioWrite_live h0 rfl (by decide) (fun _ => hh) (fun h => absurd h (by decide)), if_pos (by decide), Dev.ioSysTick_ctrl]

/-- The device in CHECKING, come from its state before, before a lead asks its members. -/
def Dev.checking (d : Dev) : Dev :=
  { ((d.put R.SYS_CTRL_RUN 1).put R.SYS_STATUS_REFUSED 0).setSt stChecking with sys := { d.sys with checkFrom := d.st } }

/-- What a check of a cluster forgets of the one before. -/
def Dev.checkFresh (d : Dev) : Dev := { d with cl := { d.cl with checks := [], lines := [], dcaps := [], pass2 := false } }

theorem Dev.checkAsk_eq (d : Dev) : d.checkAsk = if d.checkFresh.clLead
    then d.checkFresh.clSend frCheck clAll d.checkFresh.frameNo (d.checkFresh.clSettings.flatMap (fun w => leBytes 4 w.toNat))
    else d.checkFresh := rfl

theorem Dev.Keeps.checking (d : Dev) : Dev.Keeps { sys := true, regs := [R.SYS_CTRL, R.SYS_STATUS] } d d.checking :=
  Dev.Keeps.upd (Dev.Keeps.put (f := R.SYS_STATUS_STATE) (n := stChecking) (Dev.Keeps.put (f := R.SYS_STATUS_REFUSED) (n := 0)
    (Dev.Keeps.put (f := R.SYS_CTRL_RUN) (n := 1) .refl))) (sys := nofun)

theorem Dev.runSet_idle {d : Dev} {prog : Bool} (h : d.clMember = true ∨ d.pwr.stateReq.isSome = true ∨ d.pwr.mode = 2 ∨
    (d.st ≠ stReady ∧ d.st ≠ stBootWait)) : d.runSet prog = d := by
  unfold Dev.runSet
  split
  · rfl
  · rename_i hn
    simp only [Bool.or_eq_true, beq_iff_eq, not_or] at hn
    obtain ⟨⟨⟨hm, -⟩, hmode⟩, hreq⟩ := hn
    obtain ⟨hr, hb⟩ : d.st ≠ stReady ∧ d.st ≠ stBootWait := by tauto
    rw [if_neg (by simp [hb]), if_neg (by simp [hr, hb])]

theorem Dev.runSet_checks {d : Dev} {prog : Bool} (h0 : d.sys.inReset = false) (hm : d.clMember = false) (hp : d.pwr.mode ≠ 2)
    (hq : d.pwr.stateReq = none) (hs : d.st = stReady ∨ d.st = stBootWait)
    (hh : ¬(prog = true ∧ d.st = stBootWait ∧ d.get R.SEQ_STATUS_ENTRY = 1)) : d.runSet prog = d.checking.checkAsk := by
  have hst : ((d.put R.SYS_CTRL_RUN 1).put R.SYS_STATUS_REFUSED 0).st = d.st :=
    (Dev.get_put_ne _ R.SYS_STATUS_REFUSED R.SYS_STATUS_STATE _ (by decide)).trans (Dev.get_put_ne _ R.SYS_CTRL_RUN R.SYS_STATUS_STATE _ (by decide))
  unfold Dev.runSet
  rw [if_neg (by simp [hm, h0, hp, hq]), if_neg (by simpa [and_assoc] using hh), if_pos hs.symm]
  dsimp only
  rw [hst]
  rfl

theorem Dev.clSend_tx (d : Dev) (typ dst frame : Nat) (body : List Byte) (h8 : d.domOn 8 = true) :
    ∃ f : RingFrame, (d.clSend typ dst frame body).cl.tx = d.cl.tx ++ [f] ∧ f.typ = typ ∧ f.dst = dst := by
  unfold Dev.clSend
  rw [if_neg (by simp [h8])]
  exact ⟨_, rfl, rfl, rfl⟩

theorem Dev.runSet_held {d : Dev} {prog : Bool} (h0 : d.sys.inReset = false) (hm : d.clMember = false) (hp : d.pwr.mode ≠ 2)
    (hq : d.pwr.stateReq = none) (hh : prog = true ∧ d.st = stBootWait ∧ d.get R.SEQ_STATUS_ENTRY = 1) :
    d.runSet prog = { d with seq := { d.seq with heldRun := true } } := by
  unfold Dev.runSet
  rw [if_neg (by simp [hm, h0, hp, hq]), if_pos (by simpa [and_assoc] using hh)]

theorem Dev.checkAsk_tx {d : Dev} :
    (d.clLead = false → d.checkAsk.cl.tx = d.cl.tx) ∧
    (d.clLead = true → d.domOn 8 = true → ∃ f : RingFrame, d.checkAsk.cl.tx = d.cl.tx ++ [f] ∧ f.typ = 3 ∧ f.dst = 15) := by
  rw [Dev.checkAsk_eq]
  refine ⟨fun hl => ?_, fun hl h8 => ?_⟩
  · rw [if_neg (Bool.eq_false_iff.1 (show d.checkFresh.clLead = false from hl))]
    rfl
  · rw [if_pos (show d.checkFresh.clLead = true from hl)]
    exact Dev.clSend_tx _ _ _ _ _ h8

/-! ### What the acquisition time depends on -/

section AcqTime
variable {d t : Dev} (h : Dev.Keeps { regs := [R.SYS_REASON, R.SYS_CTRL, R.SYS_STATUS] } d t)
include h

theorem Dev.Keeps.getUp (f : Field) (hf : 0x100 ≤ f.addr) : t.get f = d.get f := by
  refine h.get ?_
  simp only [Dev.Scope.has, List.contains_cons, List.any_nil, List.contains_nil, Bool.or_false, Bool.or_eq_false_iff, beq_eq_false_iff_ne,
    R.SYS_REASON, R.SYS_CTRL, R.SYS_STATUS]
  omega

theorem Dev.Keeps.isUp (f : Field) (hf : 0x100 ≤ f.addr) : t.is f = d.is f :=
  congrArg (fun n => n != 0) (h.getUp f hf)

theorem Dev.Keeps.fMin : t.fMin = d.fMin := by
  have hen : t.hopEn = d.hopEn := funext fun i => h.isUp _ (show 0x100 ≤ 0x820 + 4 * i by omega)
  have hfr : (fun i => t.get (R.HOP_TABLE_FREQ i)) = fun i => d.get (R.HOP_TABLE_FREQ i) := funext fun i => h.getUp _ (show 0x100 ≤ 0x820 + 4 * i by omega)
  unfold Dev.fMin
  rw [hen, hfr]

theorem Dev.Keeps.symFactor : t.symFactor = d.symFactor := by
  unfold Dev.symFactor Dev.gorseMay
  rw [h.get]

theorem Dev.Keeps.selfPasses : t.selfPasses = d.selfPasses := by
  have hrole : t.role = d.role := funext fun i => h.getUp _ (show 0x100 ≤ 0x500 + 4 * i by omega)
  unfold Dev.selfPasses Dev.pass2
  rw [hrole, h.enumerated, h.cl rfl]

theorem Dev.Keeps.mutualTerm : t.mutualTerm = d.mutualTerm := by
  unfold Dev.mutualTerm Dev.codeLen
  simp (disch := decide) only [h.symFactor, h.fMin, h.isUp, h.getUp]

theorem Dev.Keeps.selfScanTerm : t.selfScanTerm = d.selfScanTerm := by
  unfold Dev.selfScanTerm Dev.selfTermOf
  simp (disch := decide) only [h.symFactor, h.fMin, h.selfPasses, h.isUp, h.getUp]

theorem Dev.Keeps.larkTerm (p : List Nat) : t.larkTerm p = d.larkTerm p := by
  unfold Dev.larkTerm Dev.ownLark Dev.tempCap
  rw [h.is, h.is, h.isLead, h.cl rfl, h.get, h.get]

theorem Dev.Keeps.clusterTerm : t.clusterTerm = d.clusterTerm := by
  unfold Dev.clusterTerm
  simp (disch := decide) only [h.symFactor, h.fMin, h.enumerated, h.getUp]

/-- The state alone does not change the acquisition time. -/
theorem Dev.Keeps.tAcq : t.tAcq = d.tAcq := by
  have hplan : t.plan = d.plan := by
    unfold Dev.plan
    rw [h.get, h.get, h.get]
  unfold Dev.tAcq Dev.tAcqOf
  rw [hplan, h.mutualTerm, h.selfScanTerm, h.larkTerm, h.clusterTerm, h.get, h.is]

end AcqTime

/-! ### The end of the check (R620) -/

/-- No request for domains waits: the end of the check releases none. -/
theorem Dev.domRelease_nil {d : Dev} (h : d.pwr.domReqs = []) : d.domRelease = d := by
  have hp : ({ d.pwr with domReqs := [] } : Pwr) = d.pwr := by rw [← h]
  unfold Dev.domRelease Dev.domReqsEnd
  simp only [h, List.filter_nil, List.map_nil, List.foldl_nil]
  exact congrArg (fun p => ({ d with pwr := p } : Dev)) hp

/-- The device whose check has passed, in RUN with no reason. -/
def Dev.passed (d : Dev) : Dev := ((d.setReg R.SYS_REASON 0).put R.SYS_CTRL_RUN 1).put R.SYS_STATUS_REFUSED 0

/-- The device that has stored its budget and is in RUNNING. -/
def Dev.budgeted (d : Dev) : Dev :=
  ((d.put R.TICK_BUDGET_TACQ (min d.tAcq 65535)).put R.TICK_BUDGET_MINPER (min d.minPer 65535)).setSt stRunning

/-- The device that has taken the thresholds which a CAL_LOAD left. -/
def Dev.thrTaken (d : Dev) : Dev :=
  match d.cal.loadThr with
  | some (m, s) => { (d.put R.IMG_THR_THRM m).put R.IMG_THR_THRS s with cal := { d.cal with loadThr := none } }
  | none => d

/-- The device that begins anew with its ticks and its cluster. -/
def Dev.runFresh (d : Dev) : Dev :=
  { d with
    acq := { d.acq with orient := (d.reg R.ACQ_ORIENT).toNat }
    tick := { d.tick with first := true, held := 0, subLeft := 0, owed := 0, due := none, aligned := false, spacing := 0, lastTick := d.clock }
    cl := { d.cl with sent := none, echoed := false, staged := none, down := [], missing := [], holdN := 0, clearRun := false,
                      deltaEls := [], done := [], rx := [], rel := [], lossN := [], checkReq := false, quit := false, frz := [],
                      capLevel := d.ownLevel, larkSelf := d.ownLark } }

/-- What runs once the device is in RUNNING. -/
def Dev.runStarted (d : Dev) : Dev := (d.put R.HOP_FMIN_FMIN d.fMin).hopStart.imgStart.stageSend

theorem Dev.enterRunning_eq (d : Dev) : d.enterRunning = d.passed.budgeted.thrTaken.runFresh.runStarted := rfl

theorem Dev.Keeps.passed (d : Dev) : Dev.Keeps { regs := [R.SYS_REASON, R.SYS_CTRL, R.SYS_STATUS] } d d.passed :=
  Dev.Keeps.put (f := R.SYS_STATUS_REFUSED) (n := 0) (Dev.Keeps.put (f := R.SYS_CTRL_RUN) (n := 1)
    (Dev.Keeps.setReg (a := R.SYS_REASON) (x := 0) .refl))

theorem Dev.Keeps.budgeted (d : Dev) : Dev.Keeps { regs := [R.TICK_BUDGET, R.SYS_STATUS] } d d.budgeted :=
  Dev.Keeps.put (f := R.SYS_STATUS_STATE) (n := stRunning) (Dev.Keeps.put (f := R.TICK_BUDGET_MINPER) (n := min d.minPer 65535)
    (Dev.Keeps.put (f := R.TICK_BUDGET_TACQ) (n := min d.tAcq 65535) .refl))

theorem Dev.Keeps.thrTaken (d : Dev) : Dev.Keeps { cal := true, regs := [R.IMG_THR] } d d.thrTaken := by
  unfold Dev.thrTaken
  split
  · next m s _ =>
    exact Dev.Keeps.upd (Dev.Keeps.put (f := R.IMG_THR_THRS) (n := s) (Dev.Keeps.put (f := R.IMG_THR_THRM) (n := m) .refl)) (cal := nofun)
  · exact .refl

theorem Dev.Keeps.runFresh (d : Dev) : Dev.Keeps { acq := true, tick := true, cl := true } d d.runFresh :=
  Dev.Keeps.upd .refl (acq := nofun) (tick := nofun) (cl := nofun)

abbrev Dev.runStartedScope : Dev.Scope :=
  { hop := true, img := true, cl := true, regs := [R.HOP_FMIN, R.HOP_STATUS, R.IMG_STATUS, R.IMG_NODES, R.IMG_SWTIME] }

theorem Dev.Keeps.runStarted (d : Dev) : Dev.Keeps Dev.runStartedScope d d.runStarted :=
  (Dev.Keeps.put (f := R.HOP_FMIN_FMIN) (n := d.fMin) .refl).hopStart.imgStart.stageSend

theorem Dev.runStarted_cur (d : Dev) : d.runStarted.get R.HOP_STATUS_CUR = d.get R.HOP_CTRL_START := by
  have hk : Dev.Keeps { img := true, cl := true, regs := [R.IMG_STATUS, R.IMG_NODES, R.IMG_SWTIME] }
      (d.put R.HOP_FMIN_FMIN d.fMin).hopStart d.runStarted := Dev.Keeps.stageSend (Dev.Keeps.imgStart .refl)
  rw [hk.get]
  refine (Dev.get_put_ne _ R.HOP_STATUS_PENDING R.HOP_STATUS_CUR _ (by decide)).trans
    ((Dev.get_put_ne _ R.HOP_STATUS_DWELLCNT R.HOP_STATUS_CUR _ (by decide)).trans
      ((Dev.get_put_ne _ R.HOP_STATUS_PCNT R.HOP_STATUS_CUR _ (by decide)).trans ((Dev.get_put_self _ R.HOP_STATUS_CUR _ (by decide)).trans ?_)))
  have hs : (d.put R.HOP_FMIN_FMIN d.fMin).get R.HOP_CTRL_START = d.get R.HOP_CTRL_START := Dev.get_put_ne _ _ _ _ (by decide)
  exact (congrArg (· % 2 ^ R.HOP_STATUS_CUR.width) hs).trans (Nat.mod_eq_of_lt (Dev.get_lt d R.HOP_CTRL_START))

/-- What CL_MREASON takes where the check of a lead finds a member's cause. -/
def Dev.mreason (c : Nat) (d : Dev) : Dev :=
  if c = 0x0C ∧ d.isLead then
    match d.clMismatch with
    | some (_, some (k, m, y)) => ((d.put R.CL_MREASON_NODE k).put R.CL_MREASON_CODE m).put R.CL_MREASON_DETAIL y
    | _ => d
  else d

/-- The device whose check has found the cause `c` with its detail `x`. -/
def Dev.reasoned (d : Dev) (c x : Nat) : Dev := ((d.hopDrop.put R.SYS_REASON_CODE c).put R.SYS_REASON_DETAIL x).put R.SYS_CTRL_RUN 0

/-- The device back in the state from which the check started. -/
def Dev.checkBack (d : Dev) : Dev := (d.put R.SYS_STATUS_REFUSED 1).setSt d.sys.checkFrom

theorem Dev.Keeps.mreason {w : Dev.Scope} {d t : Dev} {c : Nat} (h : Dev.Keeps w d t) (hw : w.has R.CL_MREASON = true := by decide) :
    Dev.Keeps w d (t.mreason c) := by
  unfold Dev.mreason
  refine .ite ?_ h
  split
  · exact ((h.put hw).put hw).put hw
  · exact h

theorem Dev.checkEnd_refused {d : Dev} (hs : d.st = stChecking) {r : Nat × Nat} (hc : d.checkCause = some r) :
    d.checkEnd = (((d.reasoned r.1 r.2).mreason r.1).checkBack).domRelease := by
  unfold Dev.checkEnd
  rw [if_neg (not_not.2 hs), hc]
  rfl

theorem Dev.checkEnd_passed {d : Dev} (hs : d.st = stChecking) (hc : d.checkCause = none) : d.checkEnd = d.enterRunning.domRelease := by
  unfold Dev.checkEnd
  rw [if_neg (not_not.2 hs), hc]

theorem Dev.Keeps.reasoned (d : Dev) (c x : Nat) :
    Dev.Keeps { hop := true, regs := [R.SYS_REASON, R.SYS_CTRL, R.HOP_STATUS] } d (d.reasoned c x) :=
  Dev.Keeps.put (f := R.SYS_CTRL_RUN) (n := 0) (Dev.Keeps.put (f := R.SYS_REASON_DETAIL) (n := x)
    (Dev.Keeps.put (f := R.SYS_REASON_CODE) (n := c) (Dev.Keeps.hopDrop .refl)))

theorem Dev.Keeps.checkBack (d : Dev) : Dev.Keeps { regs := [R.SYS_STATUS] } d d.checkBack :=
  Dev.Keeps.put (f := R.SYS_STATUS_STATE) (n := d.sys.checkFrom) (Dev.Keeps.put (f := R.SYS_STATUS_REFUSED) (n := 1) .refl)

/-- Settles O29: RUN starts the check where the device is free, and the check ends by its cause. -/
theorem runStartsTheCheck : Obligations.RunStartsTheCheck := by
  unfold Obligations.RunStartsTheCheck
  refine ⟨fun prog => ⟨?_, ?_, ?_⟩, ?_, fun r => ?_⟩
  · refine leaves_of_act (f := fun d => d.ioWrite (!prog) R.SYS_CTRL 1) (fun _ => rfl) fun d h0 ⟨⟨hm, hp, hq⟩, hs, hh⟩ => ?_
    have hnh : d.st ≠ stHalted := by
      rcases hs with hs | hs
      all_goals rw [hs]; decide
    rw [Dev.ioWrite_run h0 hnh, if_pos (by decide), Bool.not_not, Dev.runSet_checks h0 hm hp hq hs hh]
    have hc := Dev.Keeps.checking d
    have ha : Dev.Keeps { cl := true } d.checking d.checking.checkAsk := Dev.Keeps.checkAsk .refl
    have hk : Dev.Keeps { sys := true, cl := true, regs := [R.SYS_CTRL, R.SYS_STATUS] } d d.checking.checkAsk :=
      Dev.Keeps.step (Dev.Keeps.step .refl rfl hc) rfl ha
    have hall := congrArg (fun x : Dev => { x with sys := d.checking.checkAsk.sys, cl := d.checking.checkAsk.cl }) hk.restored.2
    refine ⟨ha.st.trans (Dev.get_put_self _ R.SYS_STATUS_STATE _ (by decide)), ha.is.trans ?_, ha.is.trans ?_, ha.sys rfl, hall,
      fun a h1 h2 => hk.reg a (by simp [Dev.Scope.has, h1, h2]), fun hl => ?_, fun hl h8 => ?_⟩
    · exact (Dev.is_put_ne _ R.SYS_STATUS_STATE R.SYS_CTRL_RUN _ (by decide)).trans
        ((Dev.is_put_ne _ R.SYS_STATUS_REFUSED R.SYS_CTRL_RUN _ (by decide)).trans (Dev.is_putB_self _ R.SYS_CTRL_RUN true (by decide) (by decide)))
    · exact (Dev.is_put_ne _ R.SYS_STATUS_STATE R.SYS_STATUS_REFUSED _ (by decide)).trans
        (Dev.is_putB_self _ R.SYS_STATUS_REFUSED false (by decide) (by decide))
    · exact (Dev.checkAsk_tx.1 (hc.clLead.trans hl)).trans (congrArg Cl.tx (hc.cl rfl))
    · obtain ⟨f, hf, ht⟩ := Dev.checkAsk_tx.2 (hc.clLead.trans hl) ((hc.domOn 8).trans h8)
      exact ⟨f, hf.trans (congrArg (fun c => Cl.tx c ++ [f]) (hc.cl rfl)), ht⟩
  · refine does_of_act (f := fun d => d.ioWrite (!prog) R.SYS_CTRL 1) (fun _ => rfl) fun d h0 ⟨⟨hm, hp, hq⟩, hh⟩ => ?_
    rw [Dev.ioWrite_run h0 (by rw [hh.2.1]; decide), if_pos (by decide), Bool.not_not, Dev.runSet_held h0 hm hp hq hh]
  · refine does_of_act (f := fun d => d.ioWrite (!prog) R.SYS_CTRL 1) (fun _ => rfl) fun d h0 h => ?_
    by_cases hh : d.st = stHalted
    · exact Dev.ioWrite_halted hh (by decide) _ _
    · rw [Dev.ioWrite_run h0 hh, if_pos (by decide), Dev.runSet_idle h]
  · refine leaves_of_act (f := fun d => d.checkEnd) (fun _ => rfl) fun d _ ⟨hs, hc, _, hr⟩ => ?_
    have h1 := Dev.Keeps.passed d
    have h2 := Dev.Keeps.budgeted d.passed
    have h3 := Dev.Keeps.thrTaken d.passed.budgeted
    have h4 := Dev.Keeps.runFresh d.passed.budgeted.thrTaken
    have h5 := Dev.Keeps.runStarted d.passed.budgeted.thrTaken.runFresh
    have h24 : Dev.Keeps { acq := true, tick := true, cl := true, cal := true, regs := [R.IMG_THR] } d.passed.budgeted d.passed.budgeted.thrTaken.runFresh :=
      Dev.Keeps.step (Dev.Keeps.step .refl rfl h3) rfl h4
    have h25 : Dev.Keeps { acq := true, tick := true, cl := true, cal := true, hop := true, img := true, regs := [R.IMG_THR, R.HOP_FMIN, R.HOP_STATUS, R.IMG_STATUS, R.IMG_NODES, R.IMG_SWTIME] }
        d.passed.budgeted d.enterRunning := Dev.Keeps.step (Dev.Keeps.step .refl rfl h24) rfl h5
    have h15 : Dev.Keeps { acq := true, tick := true, cl := true, cal := true, hop := true, img := true, regs := [R.SYS_REASON, R.SYS_CTRL, R.SYS_STATUS, R.TICK_BUDGET, R.IMG_THR, R.HOP_FMIN, R.HOP_STATUS, R.IMG_STATUS, R.IMG_NODES, R.IMG_SWTIME] }
        d d.enterRunning := Dev.Keeps.step (Dev.Keeps.step (Dev.Keeps.step .refl rfl h1) rfl h2) rfl h25
    rw [Dev.checkEnd_passed hs hc, Dev.domRelease_nil (by rw [h15.pwr rfl]; exact hr)]
    have hmin : ∀ n, min n 65535 % 2 ^ 16 = min n 65535 := fun n => Nat.mod_eq_of_lt (by omega)
    have hcur : d.passed.budgeted.thrTaken.runFresh.get R.HOP_CTRL_START = d.get R.HOP_CTRL_START :=
      h24.get.trans (h2.get.trans h1.get)
    refine ⟨h25.st.trans (Dev.get_put_self _ R.SYS_STATUS_STATE _ (by decide)), h25.is.trans (h2.is.trans ?_), ?_, ?_, ?_, ?_, ?_, ?_, ?_,
      h15.mem rfl, h15.ring rfl, h15.seq rfl⟩
    · exact (Dev.is_put_ne _ R.SYS_STATUS_REFUSED R.SYS_CTRL_RUN _ (by decide)).trans
        (Dev.is_putB_self _ R.SYS_CTRL_RUN true (by decide) (by decide))
    · exact (h25.reg R.SYS_REASON (by decide)).trans ((h2.reg R.SYS_REASON (by decide)).trans
        ((Dev.reg_put_ne _ R.SYS_STATUS_REFUSED _ R.SYS_REASON (by decide)).trans ((Dev.reg_put_ne _ R.SYS_CTRL_RUN _ R.SYS_REASON (by decide)).trans (Dev.reg_setReg_self _ _ _))))
    · refine h25.get.trans ((Dev.get_put_ne _ R.SYS_STATUS_STATE R.TICK_BUDGET_TACQ _ (by decide)).trans
        ((Dev.get_put_ne _ R.TICK_BUDGET_MINPER R.TICK_BUDGET_TACQ _ (by decide)).trans ((Dev.get_put_self _ R.TICK_BUDGET_TACQ _ (by decide)).trans ?_)))
      rw [h1.tAcq]
      exact hmin _
    · refine h25.get.trans ((Dev.get_put_ne _ R.SYS_STATUS_STATE R.TICK_BUDGET_MINPER _ (by decide)).trans
        ((Dev.get_put_self _ R.TICK_BUDGET_MINPER _ (by decide)).trans ?_))
      unfold Dev.minPer
      rw [h1.tAcq]
      exact hmin _
    · exact (Dev.runStarted_cur _).trans hcur
    · exact congrArg TickGen.first (h5.tick rfl)
    · exact congrArg TickGen.due (h5.tick rfl)
    · refine (congrArg Acq.orient (h5.acq rfl)).trans (congrArg BitVec.toNat ?_)
      exact (h3.reg R.ACQ_ORIENT (by decide)).trans ((h2.reg R.ACQ_ORIENT (by decide)).trans (h1.reg R.ACQ_ORIENT (by decide)))
  · refine leaves_of_act (f := fun d => d.checkEnd) (fun _ => rfl) fun d _ ⟨hs, hc, hr⟩ => ?_
    have h1 := Dev.Keeps.reasoned d r.1 r.2
    have h2 : Dev.Keeps { regs := [R.CL_MREASON] } (d.reasoned r.1 r.2) ((d.reasoned r.1 r.2).mreason r.1) := Dev.Keeps.mreason .refl
    have h3 := Dev.Keeps.checkBack ((d.reasoned r.1 r.2).mreason r.1)
    have h23 : Dev.Keeps { regs := [R.CL_MREASON, R.SYS_STATUS] } (d.reasoned r.1 r.2) ((d.reasoned r.1 r.2).mreason r.1).checkBack :=
      Dev.Keeps.step (Dev.Keeps.step .refl rfl h2) rfl h3
    have h13 : Dev.Keeps { hop := true, regs := [R.SYS_REASON, R.SYS_CTRL, R.SYS_STATUS, R.CL_MREASON, R.HOP_STATUS] }
      d ((d.reasoned r.1 r.2).mreason r.1).checkBack := Dev.Keeps.step (Dev.Keeps.step .refl rfl h1) rfl h23
    rw [Dev.checkEnd_refused hs hc, Dev.domRelease_nil (by rw [h13.pwr rfl]; exact hr)]
    refine ⟨h23.get.trans ?_, h23.get.trans ?_, h23.is.trans ?_, ?_, ?_, h23.get.trans ?_, ?_, h13.restored⟩
    · exact (Dev.get_put_ne _ R.SYS_CTRL_RUN R.SYS_REASON_CODE _ (by decide)).trans
        ((Dev.get_put_ne _ R.SYS_REASON_DETAIL R.SYS_REASON_CODE _ (by decide)).trans (Dev.get_put_self _ R.SYS_REASON_CODE _ (by decide)))
    · exact (Dev.get_put_ne _ R.SYS_CTRL_RUN R.SYS_REASON_DETAIL _ (by decide)).trans (Dev.get_put_self _ R.SYS_REASON_DETAIL _ (by decide))
    · exact Dev.is_putB_self _ R.SYS_CTRL_RUN false (by decide) (by decide)
    · exact (Dev.is_put_ne _ R.SYS_STATUS_STATE R.SYS_STATUS_REFUSED _ (by decide)).trans
        (Dev.is_putB_self _ R.SYS_STATUS_REFUSED true (by decide) (by decide))
    · refine (Dev.get_put_self _ R.SYS_STATUS_STATE _ (by decide)).trans ?_
      rw [h2.sys rfl, h1.sys rfl]
      rfl
    · exact (Dev.get_put_ne _ R.SYS_CTRL_RUN R.HOP_STATUS_PENDING _ (by decide)).trans
        ((Dev.get_put_ne _ R.SYS_REASON_DETAIL R.HOP_STATUS_PENDING _ (by decide)).trans
          ((Dev.get_put_ne _ R.SYS_REASON_CODE R.HOP_STATUS_PENDING _ (by decide)).trans
            (Dev.get_put_self _ R.HOP_STATUS_PENDING _ (by decide))))
    · exact h23.hop rfl

end Sys2Proof.Machine
end

section
/-!
Proofs for the end of RUN (chapters 02, 10 and 19): calibration runs that end without halting the device, and the
statement O30.
-/

namespace Sys2Proof.Machine
set_option Elab.async false

/-! ### Calibration runs that end (R260, R636) -/

/-- Every lasting fault still to be acted on is one of calibration. -/
def Dev.dueCal (d : Dev) : Prop := ∀ a ∈ d.flt.due, a.1 = 0x13

/-- No calibration run is in progress, or the events of calibration, the only ones to be acted on, halt nothing. -/
def Dev.calm (d : Dev) : Prop :=
  (d.is R.CAL_STATUS_BUSYT = false ∧ d.is R.CAL_STATUS_BUSYA = false) ∨ (d.dueCal ∧ d.fltAction 0x13 ≠ 2)

theorem Dev.calm_of_calQuiet {d : Dev} (h : d.calQuiet) : d.calm := by
  rcases h with h | ⟨hd, ha⟩
  · exact .inl h
  · exact .inr ⟨fun a hm => absurd (hd ▸ hm) List.not_mem_nil, ha⟩

theorem Dev.foldl_takeAction_calm {d : Dev} (ha : d.fltAction 0x13 ≠ 2) (l : List (Nat × Nat × Nat)) (h : ∀ a ∈ l, a.1 = 0x13) :
    l.foldl Dev.takeAction d = d := by
  induction l with
  | nil => rfl
  | cons a l ih =>
    obtain ⟨src, x, c⟩ := a
    obtain rfl : src = 0x13 := h _ (List.mem_cons_self ..)
    rw [List.foldl_cons, Dev.takeAction_none x c ha (fun _ => by decide)]
    exact ih fun a hm => h a (List.mem_cons_of_mem _ hm)

/-- Lasting faults of calibration that halt nothing are settled by being forgotten. -/
theorem Dev.settleFaults_calm {d : Dev} (n : Nat) (h : d.dueCal) (ha : d.fltAction 0x13 ≠ 2) :
    Dev.settleFaults n d = { d with flt := { d.flt with due := [] } } := by
  cases n with
  | zero => rfl
  | succ n =>
    have hdeg : d.flt.due.filter (fun a => d.fltAction a.1 != 2) = d.flt.due :=
      List.filter_eq_self.2 fun a hm => by simpa [h a hm] using ha
    have hhlt : d.flt.due.filter (fun a => d.fltAction a.1 == 2) = [] :=
      List.filter_eq_nil_iff.2 fun a hm => by simpa [h a hm] using ha
    unfold Dev.settleFaults
    split
    · next he =>
      rw [← List.isEmpty_iff.1 he]
    · dsimp only
      rw [hdeg, hhlt, List.mergeSort_nil, List.take_nil, List.append_nil,
        Dev.foldl_takeAction_calm (d := { d with flt := { d.flt with due := [] } }) ha _ h]
      exact Dev.settleFaults_nil n rfl

/-- What the end of calibration runs settles, where it halts nothing, is in the faults alone. -/
theorem Dev.calEnds_calm {d : Dev} {f : Dev → Dev} (hc : d.calm)
    (hd : d.dueCal → d.fltAction 0x13 ≠ 2 → (f d).dueCal ∧ (f d).fltAction 0x13 ≠ 2) :
    d.calEnds f = f d ∨ d.calEnds f = { f d with flt := { (f d).flt with due := [] } } := by
  unfold Dev.calEnds
  split
  · next hb =>
    rcases hc with ⟨ht, haux⟩ | ⟨hdue, hact⟩
    · rw [ht, haux] at hb
      cases hb
    · obtain ⟨hdue', hact'⟩ := hd hdue hact
      exact .inr (Dev.settleFaults_calm 3 hdue' hact')
  · exact .inl rfl

theorem Dev.Keeps.calEnds_calm {w : Dev.Scope} {d : Dev} {f : Dev → Dev} (hc : d.calm) (hf : Dev.Keeps w d (f d))
    (hd : d.dueCal → (f d).dueCal) (hw : w.flt = true) (ha : w.has (R.FLT_CFG 0x12) = false := by decide) :
    Dev.Keeps w d (d.calEnds f) := by
  rcases Dev.calEnds_calm hc (fun h h2 => ⟨hd h, by rwa [hf.fltAction 0x13 ha]⟩) with h | h
  · rw [h]
    exact hf
  · rw [h]
    exact hf.upd (flt := fun x => by rw [hw] at x; cases x)

theorem Dev.dueCal_of_flt {d t : Dev} (h : t.flt = d.flt) (hd : d.dueCal) : t.dueCal := by
  unfold Dev.dueCal
  rw [h]
  exact hd

/-- The end of a calibration run without a result makes an event of FS13 alone. -/
theorem Dev.calFail_due {d : Dev} (kind code x : Nat) (hd : d.dueCal) : (d.calFail kind code x).dueCal := by
  unfold Dev.calFail
  extract_lets rep d1 c d2 d3 tag d4 d5
  have h1 : d1.flt = d.flt := by
    unfold d1
    split <;> rfl
  have h2 : d2.flt = d.flt := by
    unfold d2
    split <;> exact h1
  have h3 : Dev.Keeps { mem := true, ring := true, regs := [R.CAL_REASON, R.SEQ_EVPEND, R.HP_ATTN, R.XR_ECCSB, R.XR_ECCDB, R.RQ_PI, R.RQ_CI, R.RQ_SEQX, R.RQ_LOST, R.RQ_STATUS] }
      d2 d5 := Dev.Keeps.endAsyncs (Dev.Keeps.report (Dev.Keeps.calReason .refl))
  have h5 : d5.dueCal := Dev.dueCal_of_flt ((h3.flt rfl).trans h2) hd
  intro a ha
  rcases Dev.noteEvent_due d5 0x13 (code + 256 * kind) 0 with h | h
  · rw [h] at ha
    exact h5 a ha
  · rw [h, List.mem_append, List.mem_singleton] at ha
    rcases ha with ha | rfl
    · exact h5 a ha
    · rfl

theorem Dev.calAbortTouch_due {d : Dev} (hd : d.dueCal) : d.calAbortTouch.dueCal := by
  unfold Dev.calAbortTouch
  split
  · exact Dev.calFail_due _ _ _ hd
  · exact hd

/-! ### RUN cleared (R621) -/

/-- The device that has left CHECKING because RUN was cleared. -/
theorem Dev.clearRun_checking {d : Dev} (h : d.st = stChecking) :
    d.clearRun = ((d.hopDrop.setSt d.sys.checkFrom).put R.SYS_CTRL_RUN 0).setReg R.SYS_REASON 0 := by
  unfold Dev.clearRun
  rw [if_pos h]

theorem Dev.clearRun_other {d : Dev} (hc : d.st ≠ stChecking) (hr : d.st ≠ stRunning) : d.clearRun = d := by
  unfold Dev.clearRun
  rw [if_neg hc, if_neg hr]

/-- The device whose RUN is cleared in RUNNING, its hop dropped. -/
def Dev.runCleared (d : Dev) : Dev :=
  { (d.put R.SYS_CTRL_RUN 0).hopDrop with cl := { d.cl with clearRun := (d.put R.SYS_CTRL_RUN 0).hopDrop.enumerated && (d.put R.SYS_CTRL_RUN 0).hopDrop.isLead } }

theorem Dev.clearRun_running {d : Dev} (h : d.st = stRunning) :
    d.clearRun = d.runCleared.calDiscard.leaveRunning.heathCancel.setSt stStopping := by
  unfold Dev.clearRun
  rw [if_neg (by rw [h]; decide), if_pos h]
  rfl

theorem Dev.Keeps.runCleared (d : Dev) : Dev.Keeps { hop := true, cl := true, regs := [R.SYS_CTRL, R.HOP_STATUS] } d d.runCleared :=
  Dev.Keeps.upd (Dev.Keeps.hopDrop (Dev.Keeps.put (f := R.SYS_CTRL_RUN) (n := 0) .refl)) (cl := nofun)

/-- What the work in flight of RUNNING may write as it ends. -/
abbrev Dev.runWorkScope : Dev.Scope :=
  { staged := true, mem := true, img := true, aux := true, cal := true, seq := true, ring := true, pwr := true, flt := true
    regs := [R.CAL_STATUS, R.CAL_REASON, R.SEQ_EVPEND, R.GPIO_SWAPST, R.HP_ATTN, R.XR_ECCSB, R.XR_ECCDB, R.RQ_PI, R.RQ_CI, R.RQ_SEQX,
      R.RQ_LOST, R.RQ_STATUS, R.PWR_ON, R.PWR_RES, R.PWR_DST0, R.PWR_DST1, R.FLT_LOG, R.FLT_LAST, R.FLT_WOPEN]
    fams := [(0x1818, 32), (0x1820, 32), (0x44c0, 4)] }

theorem Dev.Keeps.runWork (d : Dev) : Dev.Keeps Dev.runWorkScope d d.calDiscard.leaveRunning.heathCancel :=
  Dev.Keeps.heathCancel (Dev.Keeps.leaveRunning (Dev.Keeps.calDiscard .refl))

theorem Dev.runWork_due {d : Dev} (h : d.dueCal) : d.calDiscard.leaveRunning.heathCancel.dueCal := by
  have h1 : Dev.Keeps { staged := true, cal := true, regs := [R.CAL_STATUS, R.CAL_REASON, R.SEQ_EVPEND] } d d.calDiscard :=
    Dev.Keeps.calDiscard .refl
  have h2 : Dev.Keeps { mem := true, img := true, seq := true, ring := true, regs := [R.GPIO_SWAPST, R.HP_ATTN, R.XR_ECCSB, R.XR_ECCDB, R.RQ_PI, R.RQ_CI, R.RQ_SEQX, R.RQ_LOST, R.RQ_STATUS] }
      d.calDiscard.calAbortTouch d.calDiscard.leaveRunning := Dev.Keeps.dumpAbort (Dev.Keeps.swapEnd .refl)
  have h3 : Dev.Keeps Dev.heathCancelScope d.calDiscard.leaveRunning d.calDiscard.leaveRunning.heathCancel := Dev.Keeps.heathCancel .refl
  exact Dev.dueCal_of_flt ((h3.flt rfl).trans (h2.flt rfl)) (Dev.calAbortTouch_due (Dev.dueCal_of_flt (h1.flt rfl) h))

theorem Dev.clearRun_due {d : Dev} (h : d.dueCal) : d.clearRun.dueCal := by
  by_cases hc : d.st = stChecking
  · rw [Dev.clearRun_checking hc]
    exact Dev.dueCal_of_flt rfl h
  · by_cases hr : d.st = stRunning
    · rw [Dev.clearRun_running hr]
      exact Dev.dueCal_of_flt (Dev.put_flt ..) (Dev.runWork_due (Dev.dueCal_of_flt ((Dev.Keeps.runCleared d).flt rfl) h))
    · rwa [Dev.clearRun_other hc hr]

/-- What a calm device settles as RUN is cleared is in the faults alone. -/
theorem Dev.Keeps.calEnds_clearRun {d : Dev} (hc : d.calm) : Dev.Keeps { flt := true } d.clearRun (d.calEnds Dev.clearRun) := by
  have hk : Dev.Keeps Dev.clearRunScope d d.clearRun := Dev.Keeps.clearRun .refl
  rcases Dev.calEnds_calm hc (fun h h2 => ⟨Dev.clearRun_due h, by rwa [hk.fltAction 0x13 (by decide)]⟩) with h | h
  · rw [h]
    exact .refl
  · rw [h]
    exact .upd .refl (flt := nofun)

theorem Dev.stageStop_idle {d : Dev} (h : ¬(d.clLead = true ∧ d.cl.clearRun = true)) : d.stageStop = d := by
  unfold Dev.stageStop
  rw [if_neg (by simpa using fun h1 h2 => absurd ⟨h1, h2⟩ h)]

theorem Dev.runClear_eq {d : Dev} (hm : d.clMember = false) (hs : d.st ≠ stChecking) :
    d.runClear = (d.calEnds Dev.clearRun).stageStop := by
  unfold Dev.runClear
  rw [if_neg (by simp [hm])]
  exact if_neg hs

theorem Dev.runClear_checking {d : Dev} (hm : d.clMember = false) (hs : d.st = stChecking) :
    d.runClear = (d.calEnds Dev.clearRun).stageStop.domRelease := by
  unfold Dev.runClear
  rw [if_neg (by simp [hm])]
  exact if_pos hs

/-- The device that has left CHECKING because RUN was cleared. -/
def Dev.checkCleared (d : Dev) : Dev := ((d.hopDrop.setSt d.sys.checkFrom).put R.SYS_CTRL_RUN 0).setReg R.SYS_REASON 0

theorem Dev.Keeps.checkCleared (d : Dev) :
    Dev.Keeps { hop := true, regs := [R.SYS_STATUS, R.SYS_CTRL, R.SYS_REASON, R.HOP_STATUS] } d d.checkCleared :=
  Dev.Keeps.setReg (a := R.SYS_REASON) (x := 0) (Dev.Keeps.put (f := R.SYS_CTRL_RUN) (n := 0)
    (Dev.Keeps.put (f := R.SYS_STATUS_STATE) (n := d.sys.checkFrom) (Dev.Keeps.hopDrop .refl)))

/-- No calibration run ends as a check is cancelled. -/
theorem Dev.calEnds_checking {d : Dev} (hs : d.st = stChecking) (hq : d.calQuiet) : d.calEnds Dev.clearRun = d.checkCleared := by
  have hk := Dev.Keeps.checkCleared d
  unfold Dev.calEnds
  rw [show d.clearRun = d.checkCleared from Dev.clearRun_checking hs]
  split
  · next hb =>
    rcases hq with ⟨ht, ha⟩ | ⟨hd, -⟩
    · rw [ht, ha] at hb
      cases hb
    · exact Dev.settleFaults_nil 3 ((congrArg Flt.due (hk.flt rfl)).trans hd)
  · rfl

/-- Where there is nothing to stop, a write of 0 to RUN changes nothing. -/
theorem Dev.runClear_idle {d : Dev} (h : d.clMember = true ∨ (d.st ≠ stChecking ∧ d.st ≠ stRunning ∧ d.flt.due = [] ∧
    ¬(d.clLead = true ∧ d.cl.clearRun = true))) : d.runClear = d := by
  by_cases hm : d.clMember = true
  · unfold Dev.runClear
    rw [if_pos hm]
  · obtain ⟨hc, hr, hd, hl⟩ := h.resolve_left hm
    rw [Dev.runClear_eq (by simpa using hm) hc, Dev.calEnds, Dev.clearRun_other hc hr, Dev.settleFaults_nil 3 hd, ite_self,
      Dev.stageStop_idle hl]

/-! ### The end of STOPPING (R60, R621) -/

theorem Dev.vkeysOf_nil (d : Dev) : d.vkeysOf [] = 0 := by
  unfold Dev.vkeysOf
  simp

/-- Without contacts no virtual key is down. -/
theorem Dev.ctKeys_none {d : Dev} (frame : Nat) (silent : Bool) (h : d.ct.contacts = []) :
    (d.ctKeys frame silent).reg R.CT_VKEYS = 0 ∧ (d.reg R.CT_VKEYS = 0 → d.ctKeys frame silent = d) := by
  unfold Dev.ctKeys
  rw [h, Dev.vkeysOf_nil]
  dsimp only
  split
  · next he => exact ⟨he, fun _ => rfl⟩
  · next he =>
    refine ⟨?_, fun h0 => absurd h0 he⟩
    have h1 : ((d.setReg R.CT_VKEYS (word 0)).event evVkey).reg R.CT_VKEYS = 0 := by
      have hk : Dev.Keeps { regs := [R.SEQ_EVPEND] } (d.setReg R.CT_VKEYS (word 0)) ((d.setReg R.CT_VKEYS (word 0)).event evVkey) :=
        Dev.Keeps.event .refl
      exact (hk.reg R.CT_VKEYS (by decide)).trans (Dev.reg_setReg_self _ _ _)
    split
    · exact h1
    · have hk : Dev.Keeps Dev.keyScope ((d.setReg R.CT_VKEYS (word 0)).event evVkey) (((d.setReg R.CT_VKEYS (word 0)).event evVkey).key frame 0) :=
        Dev.Keeps.key .refl
      exact (hk.reg R.CT_VKEYS (by decide)).trans h1

theorem Dev.contactsStop_eq (d : Dev) : d.contactsStop =
    if (d.endContacts rrStop).2.1.isEmpty || (d.endContacts rrStop).1.isMember then (d.endContacts rrStop).1
    else (d.endContacts rrStop).1.touch (d.endContacts rrStop).1.frameNo (d.endContacts rrStop).1.modeFlags
      ((d.endContacts rrStop).1.get R.TICK_LAST_TSTAMP) (d.endContacts rrStop).2.1 := rfl

theorem Dev.endContacts_ct (d : Dev) (r : Nat) : (d.endContacts r).1.ct = { d.ct with contacts := [] } := rfl

/-- Every contact has ended. -/
theorem Dev.contactsStop_ct (d : Dev) : d.contactsStop.ct = { d.ct with contacts := [] } := by
  rw [Dev.contactsStop_eq]
  split
  · rfl
  · exact (Dev.Keeps.touch (w := Dev.touchScope) .refl).ct rfl

/-- Without contacts nothing is reported. -/
theorem Dev.contactsStop_none {d : Dev} (h : d.ct.contacts = []) : d.contactsStop = (d.endContacts rrStop).1 := by
  rw [Dev.contactsStop_eq, if_pos]
  unfold Dev.endContacts
  simp [h]

theorem Dev.ctRegs_ct (d : Dev) : d.ctRegs.ct = d.ct := (Dev.Keeps.ctRegs (w := Dev.ctRegsScope) .refl).ct rfl

/-- The device whose contacts and virtual keys have ended. -/
def Dev.touchEnded (d : Dev) : Dev := d.contactsStop.ctRegs.ctKeys d.contactsStop.frameNo d.contactsStop.isMember

abbrev Dev.touchEndedScope : Dev.Scope :=
  { mem := true, img := true, ct := true, ring := true
    regs := [R.CT_STATUS, R.CT_RGOCC, R.CT_VKEYS, R.SEQ_EVPEND, R.HP_ATTN, R.XR_ECCSB, R.XR_ECCDB, R.RQ_PI, R.RQ_CI, R.RQ_SEQX,
      R.RQ_LOST, R.RQ_STATUS] }

theorem Dev.Keeps.touchEnded (d : Dev) : Dev.Keeps Dev.touchEndedScope d d.touchEnded :=
  Dev.Keeps.ctKeys (Dev.Keeps.ctRegs (Dev.Keeps.contactsStop .refl))

theorem Dev.touchEnded_ct (d : Dev) : d.touchEnded.ct = { d.ct with contacts := [] } := by
  have hk : Dev.Keeps Dev.ctKeysScope d.contactsStop.ctRegs d.touchEnded := Dev.Keeps.ctKeys .refl
  exact (hk.ct rfl).trans ((Dev.ctRegs_ct _).trans d.contactsStop_ct)

theorem Dev.touchEnded_ntrack (d : Dev) : d.touchEnded.get R.CT_STATUS_NTRACK = 0 := by
  have hk : Dev.Keeps Dev.ctKeysScope d.contactsStop.ctRegs d.touchEnded := Dev.Keeps.ctKeys .refl
  refine hk.get.trans ((Dev.get_setReg_ne _ R.CT_RGOCC _ R.CT_STATUS_NTRACK (by decide)).trans
    ((Dev.get_put_ne _ R.CT_STATUS_NREP R.CT_STATUS_NTRACK _ (by decide)).trans ((Dev.get_put_self _ R.CT_STATUS_NTRACK _ (by decide)).trans ?_)))
  rw [Dev.contactsStop_ct]
  rfl

theorem Dev.touchEnded_vkeys (d : Dev) : d.touchEnded.reg R.CT_VKEYS = 0 :=
  (Dev.ctKeys_none (d := d.contactsStop.ctRegs) _ _ (congrArg Ct.contacts ((Dev.ctRegs_ct _).trans d.contactsStop_ct))).1

/-- Without contacts and virtual keys nothing is written to memory. -/
theorem Dev.touchEnded_none {d : Dev} (h : d.ct.contacts = []) (hv : d.reg R.CT_VKEYS = 0) :
    d.touchEnded.mem = d.mem ∧ d.touchEnded.ring = d.ring := by
  have hk : Dev.Keeps { img := true, ct := true, regs := [R.CT_STATUS, R.CT_RGOCC] } d d.contactsStop.ctRegs := by
    rw [Dev.contactsStop_none h]
    exact Dev.Keeps.ctRegs (Dev.Keeps.endContacts .refl)
  unfold Dev.touchEnded
  rw [(Dev.ctKeys_none (d := d.contactsStop.ctRegs) _ _ (congrArg Ct.contacts ((Dev.ctRegs_ct _).trans d.contactsStop_ct))).2
    ((hk.reg R.CT_VKEYS (by decide)).trans hv)]
  exact ⟨hk.mem rfl, hk.ring rfl⟩

/-- The device whose electrodes float, with its image kept. -/
def Dev.floating (d : Dev) : Dev :=
  { d with
    acq := { d.acq with hiZ := true, listen := [] }
    ct := { d.ct with gorseIn := 0, gorseOut := 0, gorseDue := none } }

/-- The device with its image kept and its contacts stopped. -/
def Dev.imageStopped (d : Dev) : Dev := (d.put R.CT_STATUS_GORSEON 0).imgStop.floating

/-- The device in READY, its domains as they were asked for and no tick due. -/
def Dev.ticksCleared (d : Dev) : Dev := { d with tick := { d.tick with held := 0, due := none, subLeft := 0, owed := 0 } }
def Dev.readied (d : Dev) : Dev := (d.setSt stReady).pwrTick.ticksCleared

theorem Dev.stopComplete_eq {d : Dev} (hs : d.st = stStopping) (hq : d.quiet = true) (hl : ¬(d.clLead = true ∧ d.cl.clearRun = true)) :
    d.stopComplete = d.touchEnded.imageStopped.readied.fallowTake := by
  unfold Dev.stopComplete
  rw [if_neg (by simpa [hs, hq] using hl)]
  extract_lets d1 d2 d3 acq ct d4 d5 tick d6
  have h2 : d2 = d.touchEnded := rfl
  have h4 : d4 = d2.imageStopped := rfl
  have h6 : d6 = d4.readied := rfl
  rw [h6, h4, h2]

theorem Dev.Keeps.floating {w : Dev.Scope} {d t : Dev} (h : Dev.Keeps w d t) (ha : w.acq = true := by rfl) (hc : w.ct = true := by rfl) :
    Dev.Keeps w d t.floating :=
  h.upd (acq := fun x => by rw [ha] at x; cases x) (ct := fun x => by rw [hc] at x; cases x)

theorem Dev.Keeps.imageStopped (d : Dev) : Dev.Keeps { acq := true, ct := true, img := true, regs := [R.CT_STATUS] } d d.imageStopped :=
  have h : Dev.Keeps { acq := true, ct := true, img := true, regs := [R.CT_STATUS] } d (d.put R.CT_STATUS_GORSEON 0) :=
    Dev.Keeps.put (f := R.CT_STATUS_GORSEON) (n := 0) .refl
  h.imgStop.floating

theorem Dev.Keeps.readied (d : Dev) :
    Dev.Keeps { tick := true, pwr := true, regs := [R.SYS_STATUS, R.PWR_ON, R.PWR_DST0, R.PWR_DST1] } d d.readied :=
  Dev.Keeps.upd (Dev.Keeps.pwrTick (Dev.Keeps.put (f := R.SYS_STATUS_STATE) (n := stReady) .refl)) (tick := nofun)

theorem Dev.readied_st (d : Dev) : d.readied.st = stReady := by
  have hk : Dev.Keeps Dev.pwrTickScope (d.setSt stReady) (d.setSt stReady).pwrTick := Dev.Keeps.pwrTick .refl
  exact hk.st.trans (Dev.get_put_self _ R.SYS_STATUS_STATE _ (by decide))

theorem Dev.foldl_pwr {α : Type} {f : Dev → α → Dev} (hf : ∀ d x, (f d x).pwr = d.pwr) (d : Dev) (l : List α) :
    (l.foldl f d).pwr = d.pwr := by
  induction l generalizing d with
  | nil => rfl
  | cons x l ih => exact (ih (f d x)).trans (hf d x)

/-- A tick clears the domains that wait for it. -/
theorem Dev.pwrTick_pwr (d : Dev) : d.pwrTick.pwr = { d.pwr with tickOn := 0, tickOff := 0 } := by
  unfold Dev.pwrTick
  extract_lets on off p d1 d2
  refine (Dev.foldl_pwr (fun d k => ?_) d2 off).trans (Dev.foldl_pwr (fun d k => ?_) d1 on)
  all_goals split <;> rfl

theorem Dev.fallowTake_none {d : Dev} (h : d.pwr.stateReq = none) : d.fallowTake = d := by
  unfold Dev.fallowTake
  rw [h]


theorem Dev.readied_stateReq (d : Dev) : d.readied.pwr.stateReq = d.pwr.stateReq := by
  have h := congrArg Pwr.stateReq (Dev.pwrTick_pwr (d.setSt stReady))
  exact h

theorem Dev.imageStopped_acq (d : Dev) : d.imageStopped.acq = { d.acq with hiZ := true, listen := [] } := rfl
theorem Dev.imageStopped_contacts (d : Dev) : d.imageStopped.ct.contacts = d.ct.contacts := rfl

theorem Dev.imageStopped_ntrack (d : Dev) : d.imageStopped.get R.CT_STATUS_NTRACK = d.get R.CT_STATUS_NTRACK :=
  Dev.get_put_ne d R.CT_STATUS_GORSEON R.CT_STATUS_NTRACK 0 (by decide)

theorem Dev.imageStopped_gorse (d : Dev) : d.imageStopped.is R.CT_STATUS_GORSEON = false :=
  Dev.is_putB_self d R.CT_STATUS_GORSEON false (by decide) (by decide)

theorem Dev.imageStopped_kept (d : Dev) : d.imageStopped.img.kept = decide (2 ≤ d.get R.IMG_STATUS_SWSTATE) :=
  congrArg (fun n => decide (2 ≤ n)) (Dev.get_put_ne d R.CT_STATUS_GORSEON R.IMG_STATUS_SWSTATE 0 (by decide))

/-! ### The statement -/

/-- Settles O30: what ends with RUN in CHECKING and RUNNING, and what is left once STOPPING is over. -/
theorem runClearStops : Obligations.RunClearStops := by
  unfold Obligations.RunClearStops
  refine ⟨fun prog => ⟨?_, ?_, ?_⟩, ?_, ?_⟩
  · refine leaves_of_act (f := fun d => d.ioWrite (!prog) R.SYS_CTRL 0) (fun _ => rfl) fun d h0 ⟨hm, hs, hr, hq⟩ => ?_
    rw [Dev.ioWrite_run h0 (by rw [hs]; decide), if_neg (by decide), Dev.runClear_checking hm hs, Dev.calEnds_checking hs hq]
    have h1 : Dev.Keeps { hop := true, regs := [R.SYS_STATUS, R.SYS_CTRL, R.SYS_REASON, R.HOP_STATUS] } d d.checkCleared :=
      Dev.Keeps.checkCleared d
    have h2 : Dev.Keeps { cl := true } d.checkCleared d.checkCleared.stageStop := Dev.Keeps.stageStop .refl
    have h3 : Dev.Keeps { hop := true, cl := true, regs := [R.SYS_STATUS, R.SYS_CTRL, R.SYS_REASON, R.HOP_STATUS] } d d.checkCleared.stageStop :=
      Dev.Keeps.step (Dev.Keeps.step .refl rfl h1) rfl h2
    rw [Dev.domRelease_nil ((congrArg Pwr.domReqs (h3.pwr rfl)).trans hr)]
    refine ⟨h2.st.trans ?_, h2.is.trans ?_, (h2.reg _ (by decide)).trans (Dev.reg_setReg_self _ _ _), h2.get.trans ?_, h2.hop rfl, h3.restored, fun hl => ?_⟩
    · exact (Dev.get_setReg_ne _ R.SYS_REASON 0 R.SYS_STATUS_STATE (by decide)).trans
        ((Dev.get_put_ne _ R.SYS_CTRL_RUN R.SYS_STATUS_STATE 0 (by decide)).trans (Dev.get_put_self _ R.SYS_STATUS_STATE _ (by decide)))
    · exact (congrArg (fun n => n != 0) (Dev.get_setReg_ne _ R.SYS_REASON 0 R.SYS_CTRL_RUN (by decide))).trans
        (Dev.is_putB_self _ R.SYS_CTRL_RUN false (by decide) (by decide))
    · exact (Dev.get_setReg_ne _ R.SYS_REASON 0 R.HOP_STATUS_PENDING (by decide)).trans
        ((Dev.get_put_ne _ R.SYS_CTRL_RUN R.HOP_STATUS_PENDING 0 (by decide)).trans
          ((Dev.get_put_ne _ R.SYS_STATUS_STATE R.HOP_STATUS_PENDING _ (by decide)).trans (Dev.get_put_self _ R.HOP_STATUS_PENDING _ (by decide))))
    · rw [Dev.stageStop_idle (fun h => Bool.eq_false_iff.1 (h1.clLead.trans hl) h.1)]
      exact h1.cl rfl
  · refine leaves_of_act (f := fun d => d.ioWrite (!prog) R.SYS_CTRL 0) (fun _ => rfl) fun d h0 ⟨hm, hs, hq⟩ => ?_
    rw [Dev.ioWrite_run h0 (by rw [hs]; decide), if_neg (by decide), Dev.runClear_eq hm (by rw [hs]; decide)]
    have h1 := Dev.Keeps.runCleared d
    have h2 := Dev.Keeps.runWork d.runCleared
    have h3 : Dev.Keeps { flt := true, cl := true } d.clearRun (d.calEnds Dev.clearRun).stageStop :=
      Dev.Keeps.stageStop (Dev.Keeps.step .refl rfl (Dev.Keeps.calEnds_clearRun (Dev.calm_of_calQuiet hq)))
    have hst : Dev.Keeps { regs := [R.SYS_STATUS] } d.runCleared.calDiscard.leaveRunning.heathCancel d.clearRun := by
      rw [Dev.clearRun_running hs]
      exact Dev.Keeps.put (f := R.SYS_STATUS_STATE) (n := stStopping) .refl
    refine ⟨h3.st.trans ?_, h3.is.trans (hst.is.trans (h2.is.trans ?_)), h3.get.trans (hst.get.trans (h2.get.trans ?_)),
      (h3.hop rfl).trans ((hst.hop rfl).trans (h2.hop rfl))⟩
    · rw [Dev.clearRun_running hs]
      exact Dev.get_put_self _ R.SYS_STATUS_STATE _ (by decide)
    · exact (Dev.is_put_ne _ R.HOP_STATUS_PENDING R.SYS_CTRL_RUN _ (by decide)).trans
        (Dev.is_putB_self _ R.SYS_CTRL_RUN false (by decide) (by decide))
    · exact Dev.get_put_self _ R.HOP_STATUS_PENDING _ (by decide)
  · refine does_of_act (f := fun d => d.ioWrite (!prog) R.SYS_CTRL 0) (fun _ => rfl) fun d h0 h => ?_
    by_cases hh : d.st = stHalted
    · exact Dev.ioWrite_halted hh (by decide) _ _
    · rw [Dev.ioWrite_run h0 hh, if_neg (by decide), Dev.runClear_idle h]
  · refine does_of_act (f := fun d => d.seqStopTimeout) (fun _ => rfl) fun d _ ⟨hs, hr⟩ => ?_
    unfold Dev.seqStopTimeout Dev.seqStopNow
    rw [if_pos hs, if_pos hr]
    rfl
  · refine leaves_of_act (f := fun d => d.stopComplete) (fun _ => rfl) fun d _ ⟨hs, hq, hl, hreq⟩ => ?_
    have h1 := Dev.Keeps.touchEnded d
    have h2 := Dev.Keeps.imageStopped d.touchEnded
    have h3 := Dev.Keeps.readied d.touchEnded.imageStopped
    have h23 : Dev.Keeps { acq := true, ct := true, img := true, tick := true, pwr := true, regs := [R.CT_STATUS, R.SYS_STATUS, R.PWR_ON, R.PWR_DST0, R.PWR_DST1] }
        d.touchEnded d.touchEnded.imageStopped.readied := Dev.Keeps.step (Dev.Keeps.step .refl rfl h2) rfl h3
    have hnone : d.touchEnded.imageStopped.readied.pwr.stateReq = none := by
      rw [Dev.readied_stateReq, h2.pwr rfl, h1.pwr rfl, hreq]
    rw [Dev.stopComplete_eq hs hq hl, Dev.fallowTake_none hnone]
    refine ⟨Dev.readied_st _, (h3.acq rfl).trans ?_, ?_, ?_, h3.is.trans ?_, ?_, rfl, rfl, ?_, fun hc hv => ?_⟩
    · rw [Dev.imageStopped_acq, h1.acq rfl]
    · rw [h3.ct rfl, Dev.imageStopped_contacts, Dev.touchEnded_ct]
    · exact h3.get.trans ((Dev.imageStopped_ntrack _).trans (Dev.touchEnded_ntrack d))
    · exact Dev.imageStopped_gorse _
    · exact (h23.reg R.CT_VKEYS (by decide)).trans (Dev.touchEnded_vkeys d)
    · rw [h3.img rfl, Dev.imageStopped_kept, h1.get]
    · obtain ⟨hm, hr⟩ := Dev.touchEnded_none hc hv
      exact ⟨(h23.mem rfl).trans hm, (h23.ring rfl).trans hr⟩

end Sys2Proof.Machine
end

section
/-!
What commands leave of the power domains (chapter 18), also where a calibration run ends as one drains (R260).
-/

namespace Sys2Proof.Machine
set_option Elab.async false

/-! ### States of the domains -/

theorem domField_ne {j k : Nat} (hj : j < 12) (hk : k < 12) (h : j ≠ k) : (domField j).addr ≠ (domField k).addr ∨
    (domField k).lo + (domField k).width ≤ (domField j).lo ∨ (domField j).lo + (domField j).width ≤ (domField k).lo := by
  have hall : ∀ j < 12, ∀ k < 12, j ≠ k → (domField j).addr ≠ (domField k).addr ∨
      (domField k).lo + (domField k).width ≤ (domField j).lo ∨ (domField j).lo + (domField j).width ≤ (domField k).lo := by decide
  exact hall j hj k hk h

theorem domField_fits {k : Nat} (hk : k < 12) : (domField k).lo + (domField k).width ≤ 32 := by
  have hall : ∀ k < 12, (domField k).lo + (domField k).width ≤ 32 := by decide
  exact hall k hk

theorem domField_width (k : Nat) : (domField k).width = 4 := by
  unfold domField
  split <;> rfl

theorem Dev.dom_put_ne (d : Dev) (f : Field) (n k : Nat) (h0 : f.addr ≠ R.PWR_DST0 := by decide) (h1 : f.addr ≠ R.PWR_DST1 := by decide) :
    (d.put f n).dom k = d.dom k := by
  refine Dev.get_put_ne d f (domField k) n (.inl ?_)
  unfold domField
  split
  · exact h0.symm
  · exact h1.symm

theorem Dev.dom_setDom (d : Dev) {j k : Nat} (hj : j < 12) (hk : k < 12) (s : Nat) :
    (d.setDom k s).dom j = if j = k then s % 16 else d.dom j := by
  unfold Dev.setDom
  rw [Dev.dom_put_ne _ R.PWR_ON_ON]
  split
  · next h =>
    rw [h]
    exact (Dev.get_put_self d (domField k) s (domField_fits hk)).trans (congrArg (s % 2 ^ ·) (domField_width k))
  · next h => exact Dev.get_put_ne d (domField k) (domField j) s (domField_ne hj hk h)

theorem mem_bitsOf {w m k : Nat} : k ∈ bitsOf w m ↔ k < w ∧ bitOf m k = true := by
  simp [bitsOf]

theorem nodup_bitsOf (w m : Nat) : (bitsOf w m).Nodup := List.Nodup.filter _ List.nodup_range

/-- What an operation on one domain after the other leaves of each: what its own turn makes of it. -/
theorem Dev.dom_foldl {f : Dev → Nat → Dev} {g : Nat → Nat} (hf : ∀ d j k, j < 12 → k < 12 → (f d k).dom j = if j = k then g (d.dom k) else d.dom j)
    (d : Dev) {l : List Nat} (hn : l.Nodup) (hl : ∀ k ∈ l, k < 12) {j : Nat} (hj : j < 12) :
    (l.foldl f d).dom j = if j ∈ l then g (d.dom j) else d.dom j := by
  induction l generalizing d with
  | nil => rfl
  | cons k l ih =>
    obtain ⟨hk, hn'⟩ := List.nodup_cons.1 hn
    rw [List.foldl_cons, ih (f d k) hn' (fun x hx => hl x (List.mem_cons_of_mem _ hx)), hf d j k hj (hl k (List.mem_cons_self ..))]
    by_cases h : j = k
    · subst h
      simp [hk]
    · simp [h]

/-- The state of a domain that is asked to be ON: one that is OFF ramps up, one that drains is ON again. -/
def onceOn (s : Nat) : Nat := if s = 0 then 1 else if s = 3 then 2 else s

theorem Dev.dom_drainCancel (d : Dev) {j k : Nat} (hj : j < 12) (hk : k < 12) :
    (d.drainCancel k).dom j = if j = k then 2 else d.dom j := by
  have h1 : ({ d.setDom k 2 with pwr := { d.pwr with tickOff := setBit d.pwr.tickOff k false } } : Dev).dom j = if j = k then 2 else d.dom j :=
    Dev.dom_setDom d hj hk 2
  unfold Dev.drainCancel
  dsimp only
  split
  · exact (Dev.Keeps.dom (Dev.Keeps.auxResume (w := Dev.auxResumeScope) .refl) j).trans h1
  · exact h1

theorem Dev.dom_switchOnOne (d : Dev) (j k : Nat) (hj : j < 12) (hk : k < 12) :
    (d.switchOnOne k).dom j = if j = k then onceOn (d.dom k) else d.dom j := by
  unfold Dev.switchOnOne onceOn
  dsimp only
  split
  · rw [Dev.dom_setDom d hj hk]
  · split
    · rw [Dev.dom_drainCancel d hj hk]
    · split
      all_goals split
      all_goals simp_all [Dev.dom, Dev.get, Dev.reg]

theorem Dev.dom_switchOnMask (d : Dev) (m : Nat) {j : Nat} (hj : j < 12) :
    (d.switchOnMask m).dom j = if bitOf m j = true then onceOn (d.dom j) else d.dom j := by
  unfold Dev.switchOnMask
  rw [Dev.dom_foldl (g := onceOn) Dev.dom_switchOnOne d (nodup_bitsOf 12 m) (fun k hk => (mem_bitsOf.1 hk).1) hj]
  simp [mem_bitsOf, hj]

/-! ### Domains that drain in a calm device -/

/-- No calibration run is in progress. -/
def Dev.noRun (d : Dev) : Prop := d.is R.CAL_STATUS_BUSYT = false ∧ d.is R.CAL_STATUS_BUSYA = false

section NoRun
variable {d t : Dev}

theorem Dev.noRun_of_reg (h : t.reg R.CAL_STATUS = d.reg R.CAL_STATUS) (hd : d.noRun) : t.noRun := by
  unfold Dev.noRun Dev.is Dev.get at *
  rw [h]
  exact hd

theorem Dev.noRun_put {f : Field} {n : Nat} (hd : d.noRun)
    (ht : R.CAL_STATUS_BUSYT.addr ≠ f.addr ∨ f.lo + f.width ≤ R.CAL_STATUS_BUSYT.lo ∨ R.CAL_STATUS_BUSYT.lo + R.CAL_STATUS_BUSYT.width ≤ f.lo := by decide)
    (ha : R.CAL_STATUS_BUSYA.addr ≠ f.addr ∨ f.lo + f.width ≤ R.CAL_STATUS_BUSYA.lo ∨ R.CAL_STATUS_BUSYA.lo + R.CAL_STATUS_BUSYA.width ≤ f.lo := by decide) :
    (d.put f n).noRun :=
  ⟨(Dev.is_put_ne d f R.CAL_STATUS_BUSYT n ht).trans hd.1, (Dev.is_put_ne d f R.CAL_STATUS_BUSYA n ha).trans hd.2⟩

theorem Dev.calTaken_noRun (kind : Nat) (hd : d.noRun) : (d.calTaken kind).noRun := by
  unfold Dev.calTaken
  extract_lets d1 d2 d3 d4
  have h3 : d3.noRun := Dev.noRun_put (f := R.CAL_STATUS_PEND) (Dev.noRun_put (f := R.CAL_STATUS_LOADED) (Dev.noRun_put (f := R.CAL_STATUS_VALID) hd))
  have hk : Dev.Keeps { regs := [R.CAL_COUNT0, R.CAL_COUNT1], fams := [(0x1c30, 8), (0x1c34, 8)] } d3
      ((d4.setReg (R.CAL_LASTUP kind) (word d4.uptime)).setReg (R.CAL_LASTTS kind) (word d4.tstamp)) :=
    Dev.Keeps.setReg (Dev.Keeps.setReg (Dev.Keeps.inc (f := calCount kind) .refl (by unfold calCount; split_ifs <;> rfl))
      (Dev.Scope.has_fam 0x1c30 8 _)) (Dev.Scope.has_fam 0x1c34 8 _)
  exact Dev.noRun_of_reg (hk.reg _ (by decide)) h3

theorem Dev.convCal_noRun (n : Nat) (hd : d.noRun) : (d.convCal n).noRun := by
  unfold Dev.convCal
  extract_lets c d1
  split
  · exact hd
  · next ofs gain run _ =>
    extract_lets d2
    have hk : Dev.Keeps { aux := true, fams := [(0x1c58, 8), (0x1c5c, 8)] } d d2 :=
      Dev.Keeps.put (f := R.CAL_AXGAIN_VAL n) (n := gain) (Dev.Keeps.put (f := R.CAL_AXOFS_VAL n) (n := ofs) (Dev.Keeps.setConv .refl)
        (Dev.Scope.has_fam 0x1c58 8 _)) (Dev.Scope.has_fam 0x1c5c 8 _)
    have h2 : d2.noRun := Dev.noRun_of_reg (hk.reg _ (by decide)) hd
    split
    · exact Dev.calTaken_noRun 3 h2
    · exact h2

theorem Dev.syncReset_noRun (n : Nat) (hd : d.noRun) : (d.syncReset n).noRun := by
  unfold Dev.syncReset
  extract_lets c d1 d2
  have h1 : Dev.Keeps { regs := [R.AUX_COUNTS] } d d1 := Dev.Keeps.ite (Dev.Keeps.inc .refl (by split <;> rfl)) .refl
  have h2 : Dev.Keeps { aux := true, regs := [R.AUX_COUNTS], fams := [(0x1818, 32), (0x1820, 32)] } d (d2.convStart n) :=
    Dev.Keeps.convStart (Dev.Keeps.setConv (Dev.Keeps.step .refl rfl h1))
  split
  · exact hd
  · exact Dev.convCal_noRun n (Dev.noRun_of_reg (h2.reg _ (by decide)) hd)

theorem Dev.calFail_noRun (kind code x : Nat) (hd : d.noRun) : (d.calFail kind code x).noRun := by
  unfold Dev.calFail
  extract_lets rep d1 c d2 d3 tag d4 d5
  have h1 : d1.noRun := by
    unfold d1
    split
    · exact ⟨(Dev.is_put_ne d R.CAL_STATUS_BUSYA R.CAL_STATUS_BUSYT 0 (by decide)).trans hd.1,
        Dev.is_putB_self d R.CAL_STATUS_BUSYA false (by decide) (by decide)⟩
    · exact Dev.noRun_put (f := R.CAL_STATUS_NRUN) (Dev.noRun_put (f := R.CAL_STATUS_PASS2)
        ⟨Dev.is_putB_self d R.CAL_STATUS_BUSYT false (by decide) (by decide),
          (Dev.is_put_ne d R.CAL_STATUS_BUSYT R.CAL_STATUS_BUSYA 0 (by decide)).trans hd.2⟩)
  have h2 : d2.noRun := by
    unfold d2
    split <;> exact h1
  have hk : Dev.Keeps { mem := true, ring := true, flt := true, regs := [R.CAL_REASON, R.SEQ_EVPEND, R.HP_ATTN, R.XR_ECCSB, R.XR_ECCDB, R.RQ_PI, R.RQ_CI, R.RQ_SEQX, R.RQ_LOST, R.RQ_STATUS, R.FLT_LOG, R.FLT_LAST, R.FLT_WOPEN], fams := [(0x44c0, 4)] }
      d2 (d5.noteEvent 0x13 (code + 256 * kind) 0) := Dev.Keeps.noteEvent (Dev.Keeps.endAsyncs (Dev.Keeps.report (Dev.Keeps.calReason .refl)))
  exact Dev.noRun_of_reg (hk.reg _ (by decide)) h2

theorem Dev.foldl_noRun {α : Type} {f : Dev → α → Dev} (hf : ∀ d x, d.noRun → (f d x).noRun) (l : List α) (hd : d.noRun) :
    (l.foldl f d).noRun := by
  induction l generalizing d with
  | nil => exact hd
  | cons x l ih => exact ih (hf d x hd)

theorem Dev.foldl_flt {α : Type} {f : Dev → α → Dev} (hf : ∀ d x, (f d x).flt = d.flt) (l : List α) : (l.foldl f d).flt = d.flt := by
  induction l generalizing d with
  | nil => rfl
  | cons x l ih => exact (ih (d := f d x)).trans (hf d x)

theorem Dev.calAbortAux_noRun (code x : Nat) (hd : d.noRun) : (d.calAbortAux code x).noRun := by
  unfold Dev.calAbortAux
  split
  · exact hd
  · refine Dev.foldl_noRun (fun d n h => ?_) _ (Dev.calFail_noRun 3 code x hd)
    split
    · exact Dev.syncReset_noRun n h
    · exact h

theorem Dev.calAbortAux_due (code x : Nat) (hd : d.dueCal) : (d.calAbortAux code x).dueCal := by
  unfold Dev.calAbortAux
  split
  · exact hd
  · refine Dev.dueCal_of_flt (Dev.foldl_flt (fun d n => ?_) _) (Dev.calFail_due 3 code x hd)
    split
    · exact (Dev.Keeps.syncReset (w := Dev.syncResetScope) .refl).flt rfl
    · rfl

theorem Dev.auxDrain_keeps (d : Dev) :
    Dev.Keeps { aux := true, regs := [R.CAL_STATUS, R.CAL_REASON, R.SEQ_EVPEND], fams := [(0x1818, 32), (0x1820, 32)] }
      (d.calAbortAux 0x08 0) d.auxDrain ∧ ((d.calAbortAux 0x08 0).noRun → d.auxDrain.noRun) := by
  unfold Dev.auxDrain
  extract_lets d1 waits d2 d3
  have h2 : Dev.Keeps { aux := true, fams := [(0x1818, 32), (0x1820, 32)] } d1 d2 := .upd .refl (aux := nofun)
  have h3 : Dev.Keeps { aux := true, fams := [(0x1818, 32), (0x1820, 32)] } d1 d3 :=
    Dev.Keeps.foldl (fun _ n h => (h.put (f := R.AX_STAT_RUN n) (n := 0) (Dev.Scope.has_fam 0x1820 32 _)).put
      (f := R.AX_DATA_DATA_VALID n) (n := 0) (Dev.Scope.has_fam 0x1818 32 _)) h2
  refine ⟨.ite (Dev.Keeps.calReason (Dev.Keeps.put (f := R.CAL_STATUS_PEND) (Dev.Keeps.step .refl rfl h3))) (Dev.Keeps.step .refl rfl h3), fun h => ?_⟩
  have hn : d3.noRun := Dev.noRun_of_reg (h3.reg _ (by decide)) h
  split
  · have hk : Dev.Keeps { regs := [R.CAL_REASON, R.SEQ_EVPEND] } (d3.put R.CAL_STATUS_PEND (setBit (d3.get R.CAL_STATUS_PEND) 3 false))
        ((d3.put R.CAL_STATUS_PEND (setBit (d3.get R.CAL_STATUS_PEND) 3 false)).calReason 3 0x08 0) := Dev.Keeps.calReason .refl
    exact Dev.noRun_of_reg (hk.reg _ (by decide)) (Dev.noRun_put (f := R.CAL_STATUS_PEND) hn)
  · exact hn

theorem Dev.auxDrain_due (hd : d.dueCal) : d.auxDrain.dueCal :=
  Dev.dueCal_of_flt (d.auxDrain_keeps.1.flt rfl) (Dev.calAbortAux_due 0x08 0 hd)

theorem Dev.auxDrain_noRun (hd : d.noRun) : d.auxDrain.noRun := d.auxDrain_keeps.2 (Dev.calAbortAux_noRun 0x08 0 hd)

end NoRun

/-- What the drain of AUX may write, register by register. -/
abbrev Dev.auxEndScope : Dev.Scope :=
  { mem := true, aux := true, cal := true, ring := true, flt := true
    regs := [R.AUX_COUNTS, R.CAL_STATUS, R.CAL_REASON, R.CAL_COUNT0, R.CAL_COUNT1, R.SEQ_EVPEND, R.HP_ATTN, R.XR_ECCSB, R.XR_ECCDB, R.RQ_PI,
      R.RQ_CI, R.RQ_SEQX, R.RQ_LOST, R.RQ_STATUS, R.FLT_LOG, R.FLT_LAST, R.FLT_WOPEN, R.AX_DATA 0, R.AX_DATA 1, R.AX_STAT 0, R.AX_STAT 1,
      R.CAL_AXOFS 0, R.CAL_AXOFS 1, R.CAL_AXGAIN 0, R.CAL_AXGAIN 1, R.CAL_LASTUP 3, R.CAL_LASTTS 3]
    fams := [(0x44c0, 4)] }

section AuxEnd
variable {d t : Dev}

theorem Dev.Keeps.auxTaken (h : Dev.Keeps Dev.auxEndScope d t) : Dev.Keeps Dev.auxEndScope d (t.calTaken 3) := by
  unfold Dev.calTaken
  exact ((((h.put (f := R.CAL_STATUS_VALID)).put (f := R.CAL_STATUS_LOADED)).put (f := R.CAL_STATUS_PEND)).inc (f := calCount 3)).setReg.setReg

theorem Dev.Keeps.convCalOf {n : Nat} (hn : n = 0 ∨ n = 1) (h : Dev.Keeps Dev.auxEndScope d t) :
    Dev.Keeps Dev.auxEndScope d (t.convCal n) := by
  unfold Dev.convCal
  extract_lets c d1
  split
  · exact h
  · next ofs gain run _ =>
    extract_lets d2
    have h2 : Dev.Keeps Dev.auxEndScope d d2 := by
      rcases hn with rfl | rfl
      all_goals exact (h.setConv.put (f := R.CAL_AXOFS_VAL _) (n := ofs)).put (f := R.CAL_AXGAIN_VAL _) (n := gain)
    exact .ite h2.auxTaken h2

theorem Dev.Keeps.convStartOf {n : Nat} (hn : n = 0 ∨ n = 1) (h : Dev.Keeps Dev.auxEndScope d t) :
    Dev.Keeps Dev.auxEndScope d (t.convStart n) := by
  unfold Dev.convStart
  rcases hn with rfl | rfl
  all_goals exact (h.setConv.put (f := R.AX_DATA_DATA_VALID _)).put (f := R.AX_STAT_RUN _)

theorem Dev.Keeps.syncResetOf {n : Nat} (hn : n = 0 ∨ n = 1) (h : Dev.Keeps Dev.auxEndScope d t) :
    Dev.Keeps Dev.auxEndScope d (t.syncReset n) := by
  unfold Dev.syncReset
  extract_lets c d1 d2
  have h1 : Dev.Keeps Dev.auxEndScope d d1 := .ite (h.inc (by split <;> rfl)) h
  exact .ite h (Dev.Keeps.convCalOf hn (Dev.Keeps.convStartOf hn h1.setConv))

theorem Dev.Keeps.pairOf {f : Dev → Nat → Dev} (hf : ∀ t n, n = 0 ∨ n = 1 → Dev.Keeps Dev.auxEndScope d t → Dev.Keeps Dev.auxEndScope d (f t n))
    (h : Dev.Keeps Dev.auxEndScope d t) : Dev.Keeps Dev.auxEndScope d ([0, 1].foldl f t) := hf _ 1 (.inr rfl) (hf t 0 (.inl rfl) h)

theorem Dev.Keeps.calAbortAuxOf {code x : Nat} (h : Dev.Keeps Dev.auxEndScope d t) : Dev.Keeps Dev.auxEndScope d (t.calAbortAux code x) := by
  unfold Dev.calAbortAux
  split
  · exact h
  · exact Dev.Keeps.pairOf (fun _ n hn hx => .ite (hx.syncResetOf hn) hx) h.calFail

theorem Dev.Keeps.auxDrainOf (h : Dev.Keeps Dev.auxEndScope d t) : Dev.Keeps Dev.auxEndScope d t.auxDrain := by
  unfold Dev.auxDrain
  extract_lets d1 waits d2 d3
  have h3 : Dev.Keeps Dev.auxEndScope d d3 := by
    refine Dev.Keeps.pairOf (fun t n hn hx => ?_) (h.calAbortAuxOf.upd (aux := nofun))
    rcases hn with rfl | rfl
    all_goals exact (hx.put (f := R.AX_STAT_RUN _) (n := 0)).put (f := R.AX_DATA_DATA_VALID _) (n := 0)
  exact .ite (Dev.Keeps.calReason (h3.put (f := R.CAL_STATUS_PEND))) h3

end AuxEnd

/-- What the domains that ramp and drain may write in a calm device. -/
abbrev Dev.calmScope : Dev.Scope :=
  { freeCount := true, mem := true, acq := true, aux := true, cal := true, ring := true, cl := true, pwr := true, flt := true
    regs := [R.ACQ_STATUS, R.AUX_COUNTS, R.CAL_STATUS, R.CAL_REASON, R.CAL_COUNT0, R.CAL_COUNT1, R.SEQ_EVPEND, R.HP_ATTN, R.XR_ECCSB,
      R.XR_ECCDB, R.RQ_PI, R.RQ_CI, R.RQ_SEQX, R.RQ_LOST, R.RQ_STATUS, R.PWR_ON, R.PWR_RES, R.PWR_DST0, R.PWR_DST1, R.FLT_LOG,
      R.FLT_LAST, R.FLT_WOPEN]
    fams := [(0x1818, 32), (0x1820, 32), (0x44c0, 4), (0x1c58, 8), (0x1c5c, 8), (0x1c30, 8), (0x1c34, 8)] }

theorem Dev.calm_of_keeps {v : Dev.Scope} {d t : Dev} (ht : Dev.Keeps v d t) (hf : v.flt = false := by rfl)
    (hs : v.has R.CAL_STATUS = false := by decide) (hc : v.has (R.FLT_CFG 0x12) = false := by decide) (h : d.calm) : t.calm := by
  rcases h with hn | ⟨hd, ha⟩
  · exact .inl (Dev.noRun_of_reg (ht.reg _ hs) hn)
  · exact .inr ⟨Dev.dueCal_of_flt (ht.flt hf) hd, by rwa [ht.fltAction 0x13 hc]⟩

/-- The device `t` is the calm device `d` but for what its domains may write, and is calm too. -/
structure Dev.Calms (d t : Dev) : Prop where
  keeps : Dev.Keeps Dev.calmScope d t
  calm : t.calm
  due : d.dueCal → d.fltAction 0x13 ≠ 2 → t.dueCal ∧ t.fltAction 0x13 ≠ 2

namespace Dev.Calms
variable {d e t : Dev}

theorem refl (h : d.calm) : Dev.Calms d d := ⟨.refl, h, fun hd ha => ⟨hd, ha⟩⟩

/-- What touches neither faults nor calibration keeps the device calm. -/
theorem step {v : Dev.Scope} (h : Dev.Calms d e) (ht : Dev.Keeps v e t) (hv : v.le Dev.calmScope = true := by decide)
    (hf : v.flt = false := by rfl) (hs : v.has R.CAL_STATUS = false := by decide) (hc : v.has (R.FLT_CFG 0x12) = false := by decide) :
    Dev.Calms d t :=
  ⟨h.keeps.step hv ht, Dev.calm_of_keeps ht hf hs hc h.calm,
    fun hd ha => ⟨Dev.dueCal_of_flt (ht.flt hf) (h.due hd ha).1, by rw [ht.fltAction 0x13 hc]; exact (h.due hd ha).2⟩⟩

theorem upd (h : Dev.Calms d e) (hp : t = { e with pwr := t.pwr }) : Dev.Calms d t :=
  h.step (v := { pwr := true }) (by rw [hp]; exact .upd .refl (pwr := nofun))

theorem foldl {α : Type} {f : Dev → α → Dev} {l : List α} (hf : ∀ x a, Dev.Calms d x → Dev.Calms d (f x a)) (h : Dev.Calms d e) :
    Dev.Calms d (l.foldl f e) := by
  induction l generalizing e with
  | nil => exact h
  | cons a l ih => exact ih (hf e a h)

theorem ite {c : Prop} [Decidable c] (h : Dev.Calms d e) (h' : Dev.Calms d t) : Dev.Calms d (if c then e else t) := by
  split
  · exact h
  · exact h'

/-- The drain of AUX ends a run of CAL_AUX, which halts nothing. -/
theorem auxDrain (h : Dev.Calms d e) : Dev.Calms d (e.calEnds Dev.auxDrain) := by
  have hk : Dev.Keeps Dev.auxEndScope e e.auxDrain := Dev.Keeps.auxDrainOf .refl
  have ha := hk.fltAction 0x13 (by decide)
  have hdue : e.dueCal ∧ e.fltAction 0x13 ≠ 2 → (e.calEnds Dev.auxDrain).dueCal ∧ (e.calEnds Dev.auxDrain).fltAction 0x13 ≠ 2 := by
    rintro ⟨hd, h2⟩
    rcases Dev.calEnds_calm (.inr ⟨hd, h2⟩) (fun h h2 => ⟨Dev.auxDrain_due h, by rwa [ha]⟩) with he | he
    all_goals rw [he]
    · exact ⟨Dev.auxDrain_due hd, by rwa [ha]⟩
    · exact ⟨fun a hm => absurd hm List.not_mem_nil, by rw [← ha] at h2; exact h2⟩
  refine ⟨h.keeps.step (v := Dev.auxEndScope) (by decide) (Dev.Keeps.calEnds_calm h.calm hk Dev.auxDrain_due rfl), ?_,
    fun hd h2 => hdue (h.due hd h2)⟩
  rcases h.calm with hn | hd
  · have he : e.calEnds Dev.auxDrain = e.auxDrain := by
      unfold Dev.calEnds
      rw [if_neg (by rw [hn.1, hn.2]; decide)]
    rw [he]
    exact .inl (Dev.auxDrain_noRun hn)
  · exact .inr (hdue hd)

theorem setDom (h : Dev.Calms d e) (k s : Nat) : Dev.Calms d (e.setDom k s) :=
  h.step (v := Dev.setDomScope) (Dev.Keeps.setDom .refl)

theorem drainStart (h : Dev.Calms d e) (k : Nat) : Dev.Calms d (e.drainStart k) := by
  unfold Dev.drainStart
  extract_lets p d1
  refine Dev.Calms.setDom ?_ k 3
  unfold d1
  split
  · exact h.step (v := Dev.clusterLeaveScope) (Dev.Keeps.clusterLeave .refl)
  · exact h.auxDrain
  · exact h.upd rfl
  · exact h.upd rfl
  · exact h

theorem switchOff (h : Dev.Calms d e) (k : Nat) : Dev.Calms d (e.switchOff k) := by
  unfold Dev.switchOff
  extract_lets s p
  exact .ite (.ite (h.upd rfl) (h.drainStart k)) (.ite (h.upd rfl) (.ite (h.upd rfl) (.ite h (h.upd rfl))))

theorem domStart (h : Dev.Calms d e) (q : DomReq) : Dev.Calms d (e.domStart q) := by
  unfold Dev.domStart
  exact .foldl (fun _ k hx => hx.switchOff k)
    (.foldl (fun _ k hx => hx.step (v := Dev.switchOnScope) (Dev.Keeps.switchOn .refl)) h)

theorem domRelease (h : Dev.Calms d e) : Dev.Calms d e.domRelease := by
  unfold Dev.domRelease
  extract_lets w p d1
  have h1 : Dev.Calms d d1 := h.upd rfl
  exact (Dev.Calms.foldl (fun _ q hx => hx.domStart q) h1).step (v := Dev.domReqsEndScope) (Dev.Keeps.domReqsEnd .refl)

end Dev.Calms
end Sys2Proof.Machine
end

section
/-!
Proofs for removal and reseat (chapters 01, 13, 16 and 19): the statement O27.
-/

namespace Sys2Proof.Machine
set_option Elab.async false

/-! ### Removal (R19, R616) -/

/-- The device as SEAT_N rises. -/
def Dev.pinHigh (d : Dev) : Dev :=
  ({ d.put R.SYS_STRAPS_SEATPIN 1 with sys := { d.sys with seatFell := none } } : Dev).put R.SYS_STATUS_SEATED 0

/-- The device as SEAT_N has risen: its outputs parked and the pump off. -/
def Dev.unseat (d : Dev) (n : Nat) (rx : List Byte) : Dev := (d.pinHigh.removeOutputs n rx).pumpStop

abbrev Dev.unseatScope : Dev.Scope :=
  { sys := true, hp := true, panel := true, acq := true, regs := [R.SYS_STRAPS, R.SYS_STATUS, R.ACQ_STATUS] }

/-- The outputs as a removal leaves them. -/
def Dev.parkOutputs (d : Dev) : Dev :=
  { d with sys := { d.sys with hostQual := false }, hp := { d.hp with held := none }, panel := { d.panel with parked := true } }

theorem Dev.pwmSettle_panel (d : Dev) : d.pwmSettle.panel.parked = d.panel.parked := by
  have hstep : ∀ (d : Dev) (n : Nat), (if d.pwmRuns n then d else d.pwmPeriodEnd n).panel.parked = d.panel.parked := by
    intro d n
    unfold Dev.pwmPeriodEnd
    split_ifs <;> rfl
  exact (hstep _ 5).trans (hstep d 4)

theorem Dev.removeOutputs_eq {d : Dev} (h : d.pp.active = none) (n : Nat) (rx : List Byte) :
    d.removeOutputs n rx = d.parkOutputs.pwmSettle := by
  unfold Dev.removeOutputs Dev.ppFrameAbort
  rw [h]
  rfl

/-- What holds of a device once a removal has parked its outputs. -/
structure Dev.Gone (d t : Dev) : Prop where
  seated : t.is R.SYS_STATUS_SEATED = false
  pin : t.is R.SYS_STRAPS_SEATPIN = true
  qual : t.sys.hostQual = false
  fell : t.sys.seatFell = none
  held : t.hp.held = none
  parked : t.panel.parked = true
  pump : t.acq.pump = 0
  clock : t.clock = d.clock

theorem Dev.pumpStop_pump (d : Dev) : d.pumpStop.acq.pump = 0 := rfl

theorem Dev.Keeps.pinHigh (d : Dev) : Dev.Keeps { sys := true, regs := [R.SYS_STRAPS, R.SYS_STATUS] } d d.pinHigh :=
  Dev.Keeps.put (f := R.SYS_STATUS_SEATED) (n := 0) (Dev.Keeps.upd (Dev.Keeps.put (f := R.SYS_STRAPS_SEATPIN) (n := 1) .refl) (sys := nofun))

theorem Dev.pinHigh_seated (d : Dev) : d.pinHigh.is R.SYS_STATUS_SEATED = false :=
  Dev.is_putB_self _ R.SYS_STATUS_SEATED false (by decide) (by decide)

theorem Dev.pinHigh_pin (d : Dev) : d.pinHigh.is R.SYS_STRAPS_SEATPIN = true :=
  (Dev.is_put_ne _ R.SYS_STATUS_SEATED R.SYS_STRAPS_SEATPIN _ (by decide)).trans
    (Dev.is_putB_self d R.SYS_STRAPS_SEATPIN true (by decide) (by decide))

theorem Dev.pinHigh_st (d : Dev) : d.pinHigh.st = d.st :=
  (Dev.get_put_ne _ R.SYS_STATUS_SEATED R.SYS_STATUS_STATE _ (by decide)).trans
    (Dev.get_put_ne d R.SYS_STRAPS_SEATPIN R.SYS_STATUS_STATE _ (by decide))

theorem Dev.unseat_spec {d : Dev} (h : d.pp.active = none) (n : Nat) (rx : List Byte) :
    Dev.Gone d (d.unseat n rx) ∧ (d.unseat n rx).st = d.st ∧ Dev.Keeps Dev.unseatScope d (d.unseat n rx) := by
  have h1 := Dev.Keeps.pinHigh d
  have h2 : Dev.Keeps { sys := true, hp := true, panel := true } d.pinHigh d.pinHigh.parkOutputs :=
    .upd .refl (sys := nofun) (hp := nofun) (panel := nofun)
  have h3 : Dev.Keeps { panel := true, acq := true, regs := [R.ACQ_STATUS] } d.pinHigh.parkOutputs d.pinHigh.parkOutputs.pwmSettle.pumpStop :=
    Dev.Keeps.pumpStop (Dev.Keeps.pwmSettle .refl)
  have h4 : Dev.Keeps { acq := true, regs := [R.ACQ_STATUS] } d.pinHigh.parkOutputs.pwmSettle d.pinHigh.parkOutputs.pwmSettle.pumpStop :=
    Dev.Keeps.pumpStop .refl
  have h23 : Dev.Keeps { sys := true, hp := true, panel := true, acq := true, regs := [R.ACQ_STATUS] } d.pinHigh
      d.pinHigh.parkOutputs.pwmSettle.pumpStop := (Dev.Keeps.step .refl (by decide) h2).step (by decide) h3
  have h13 : Dev.Keeps Dev.unseatScope d d.pinHigh.parkOutputs.pwmSettle.pumpStop :=
    (Dev.Keeps.step .refl (by decide) h1).step (by decide) h23
  unfold Dev.unseat
  rw [Dev.removeOutputs_eq ((congrArg Pp.active (h1.pp rfl)).trans h)]
  exact ⟨⟨h23.is.trans d.pinHigh_seated, h23.is.trans d.pinHigh_pin, congrArg Sys.hostQual (h3.sys rfl), congrArg Sys.seatFell (h3.sys rfl),
    congrArg Hp.held (h3.hp rfl), (congrArg Panel.parked (h4.panel rfl)).trans (Dev.pwmSettle_panel _), Dev.pumpStop_pump _, h13.clock rfl⟩,
    h23.st.trans d.pinHigh_st, h13⟩

/-- What a removal leaves to the end of the command. -/
theorem Dev.removal_eq {d : Dev} (h0 : d.sys.inReset = false) (hs : d.is R.SYS_STATUS_SEATED = true) (n : Nat) (rx : List Byte) :
    d.removal n rx =
      if (d.unseat n rx).st = stHalted then d.unseat n rx
      else if (d.unseat n rx).pwr.mode = 2 then (d.unseat n rx).removeFallow
      else match (d.unseat n rx).pwr.stateReq with
      | some q =>
        if q.kind = 2 then
          if q.done then d.unseat n rx
          else ((((d.unseat n rx).acqStop.contactsStop.imgStop.put R.SYS_CTRL_RUN 0).setSt stReady).pwrTick).fallowTake
        else (d.unseat n rx).calEnds Dev.removeLive
      | none => (d.unseat n rx).calEnds Dev.removeLive := by
  have hs' : ({ d.put R.SYS_STRAPS_SEATPIN 1 with sys := { d.sys with seatFell := none } } : Dev).is R.SYS_STATUS_SEATED = true :=
    (Dev.is_put_ne d R.SYS_STRAPS_SEATPIN R.SYS_STATUS_SEATED 1 (by decide)).trans hs
  unfold Dev.removal
  rw [if_neg (by rw [hs']; simp [h0])]
  rfl

/-! ### The end of operation at a removal -/

abbrev Dev.parkedStopScope : Dev.Scope :=
  { mem := true, img := true, ct := true, ring := true
    regs := [R.CT_STATUS, R.CT_RGOCC, R.CT_VKEYS, R.SEQ_EVPEND, R.HP_ATTN, R.XR_ECCSB, R.XR_ECCDB, R.RQ_PI, R.RQ_CI, R.RQ_SEQX,
      R.RQ_LOST, R.RQ_STATUS] }

theorem Dev.Keeps.parkedStop (d : Dev) : Dev.Keeps Dev.parkedStopScope d d.parkedStop := by
  unfold Dev.parkedStop
  extract_lets d1 d2 ct d3 had d4
  have h1 : Dev.Keeps Dev.parkedStopScope d d1 := Dev.Keeps.contactsStop .refl
  have h2 : Dev.Keeps Dev.parkedStopScope d d2 := (h1.ctRegs.put (f := R.CT_STATUS_GORSEON) (n := 0)).imgStop
  clear_value d2
  have h3 : Dev.Keeps Dev.parkedStopScope d d3 := h2.upd (ct := nofun)
  have h4 : Dev.Keeps Dev.parkedStopScope d d4 := .ite (h3.setReg (a := R.CT_VKEYS) (x := 0)).event h3
  exact .ite h4 h4.key

/-- The device that has ended its check, or what is left of Heath, as it is removed from the state `s`. -/
def Dev.workEnded (d : Dev) (s : Nat) : Dev :=
  if s = stChecking then d.domRelease else if s = stHeath then d.hopDrop.calDiscard else d

/-- The device without a power state of its own. -/
def Dev.powerFresh (d : Dev) : Dev :=
  { d with
    pwr := { d.pwr with mode := 0, waking := false, wakeAt := none, tsFrom := none, endRun := false, hfoOn := true }
    cl := { d.cl with clearRun := false } }

/-- The device in PARKED. -/
def Dev.parkedNow (d : Dev) : Dev := (((d.acqAbandon.put R.SYS_CTRL_RUN 0).setSt stParked).put R.HP_STATUS_QUAD 0).pwrTick

def Dev.returnsTo (d : Dev) (s : Nat) : Dev := { d with sys := { d.sys with returnTo := s } }

def Dev.framesDone (d : Dev) : Bool := d.acq.ready.isEmpty && d.acq.proc.isNone

theorem Dev.removeLive_eq (d : Dev) : d.removeLive =
    if ((d.clusterDown.clearRun.workEnded d.st).heathCancel.powerFresh.parkedNow.returnsTo d.st).framesDone
    then ((d.clusterDown.clearRun.workEnded d.st).heathCancel.powerFresh.parkedNow.returnsTo d.st).parkedStop
    else (d.clusterDown.clearRun.workEnded d.st).heathCancel.powerFresh.parkedNow.returnsTo d.st := by
  unfold Dev.removeLive
  extract_lets was d1 d2 d3 pwr cl d4 d5 sys d6
  have h2 : d2 = d1.workEnded was := rfl
  have h4 : d4 = d3.powerFresh := rfl
  have h5 : d5 = d4.parkedNow := rfl
  have h6 : d6 = d5.returnsTo was := rfl
  rw [h6, h5, h4, show d3 = d2.heathCancel from rfl, h2]
  rfl

/-- What the end of operation may write before the device is in PARKED. -/
abbrev Dev.liveScope : Dev.Scope :=
  { Dev.calmScope with
    staged := true, hop := true, img := true, seq := true
    regs := Dev.calmScope.regs ++ [R.SYS_CTRL, R.SYS_STATUS, R.SYS_REASON, R.HOP_STATUS, R.GPIO_SWAPST] }

theorem Dev.clearRun_seated (d : Dev) : d.clearRun.is R.SYS_STATUS_SEATED = d.is R.SYS_STATUS_SEATED := by
  by_cases hc : d.st = stChecking
  · have hk : Dev.Keeps { hop := true, regs := [R.HOP_STATUS] } d d.hopDrop := Dev.Keeps.hopDrop .refl
    rw [Dev.clearRun_checking hc]
    exact (congrArg (fun n => n != 0) (Dev.get_setReg_ne _ R.SYS_REASON 0 R.SYS_STATUS_SEATED (by decide))).trans
      ((Dev.is_put_ne _ R.SYS_CTRL_RUN R.SYS_STATUS_SEATED _ (by decide)).trans
        ((Dev.is_put_ne _ R.SYS_STATUS_STATE R.SYS_STATUS_SEATED _ (by decide)).trans hk.is))
  · by_cases hr : d.st = stRunning
    · rw [Dev.clearRun_running hr]
      exact (Dev.is_put_ne _ R.SYS_STATUS_STATE R.SYS_STATUS_SEATED _ (by decide)).trans
        ((Dev.Keeps.runWork d.runCleared).is.trans (Dev.Keeps.runCleared d).is)
    · rw [Dev.clearRun_other hc hr]

theorem Dev.clearRun_txK (d : Dev) : d.clearRun.cl.txK = d.cl.txK := by
  by_cases hc : d.st = stChecking
  · rw [Dev.clearRun_checking hc]
    rfl
  · by_cases hr : d.st = stRunning
    · rw [Dev.clearRun_running hr]
      have h := congrArg Cl.txK ((Dev.Keeps.runWork d.runCleared).cl rfl)
      exact h
    · rw [Dev.clearRun_other hc hr]


abbrev Dev.workScope : Dev.Scope := { Dev.calmScope with staged := true, hop := true, regs := Dev.calmScope.regs ++ [R.HOP_STATUS] }

theorem Dev.workEnded_spec {d : Dev} (s : Nat) (hc : s = stChecking → d.calm) :
    Dev.Keeps Dev.workScope d (d.workEnded s) ∧ (d.dueCal → d.fltAction 0x13 ≠ 2 → (d.workEnded s).dueCal ∧ (d.workEnded s).fltAction 0x13 ≠ 2) ∧
    (s ≠ stChecking → (d.workEnded s).cl = d.cl) := by
  unfold Dev.workEnded
  split
  · next h =>
    have hr := (Dev.Calms.refl (hc h)).domRelease
    exact ⟨Dev.Keeps.step .refl (by decide) hr.keeps, fun hd ha => hr.due hd ha, fun hn => absurd h hn⟩
  · split
    · have hk : Dev.Keeps { hop := true, staged := true, cal := true, regs := [R.HOP_STATUS, R.CAL_STATUS, R.CAL_REASON, R.SEQ_EVPEND] }
          d d.hopDrop.calDiscard := Dev.Keeps.calDiscard (Dev.Keeps.hopDrop .refl)
      exact ⟨Dev.Keeps.step .refl (by decide) hk, fun hd ha => ⟨Dev.dueCal_of_flt (hk.flt rfl) hd, by rwa [hk.fltAction 0x13 (by decide)]⟩,
        fun _ => hk.cl rfl⟩
    · exact ⟨.refl, fun hd ha => ⟨hd, ha⟩, fun _ => rfl⟩

/-- What ends operation keeps a calm device within its scope, seated as it was; its ring has DOWN. -/
theorem Dev.liveEnd_spec {d : Dev} (hc : d.calm) :
    Dev.Keeps Dev.liveScope d (d.clusterDown.clearRun.workEnded d.st).heathCancel ∧
    (d.clusterDown.clearRun.workEnded d.st).heathCancel.is R.SYS_STATUS_SEATED = d.is R.SYS_STATUS_SEATED ∧
    (d.dueCal → d.fltAction 0x13 ≠ 2 → (d.clusterDown.clearRun.workEnded d.st).heathCancel.dueCal ∧
      (d.clusterDown.clearRun.workEnded d.st).heathCancel.fltAction 0x13 ≠ 2) ∧
    (d.enumerated = true → d.ticking = true → d.domOn 8 = true → 7 ∈ (d.clusterDown.clearRun.workEnded d.st).heathCancel.cl.txK) := by
  have h1 : Dev.Keeps { cl := true } d d.clusterDown := Dev.Keeps.clusterDown .refl
  have h2 : Dev.Keeps Dev.clearRunScope d.clusterDown d.clusterDown.clearRun := Dev.Keeps.clearRun .refl
  have h12 : Dev.Keeps Dev.liveScope d d.clusterDown.clearRun := (Dev.Keeps.step .refl (by decide) h1).step (by decide) h2
  have hcalm : d.st = stChecking → d.clusterDown.clearRun.calm := by
    intro hs
    rw [show d.clusterDown.clearRun = d.clusterDown.checkCleared from Dev.clearRun_checking (h1.st.trans hs)]
    exact Dev.calm_of_keeps (Dev.Keeps.checkCleared _) rfl (by decide) (by decide) (Dev.calm_of_keeps h1 rfl (by decide) (by decide) hc)
  obtain ⟨h3, hd3, hcl3⟩ := Dev.workEnded_spec (d := d.clusterDown.clearRun) d.st hcalm
  have h4 : Dev.Keeps Dev.heathCancelScope (d.clusterDown.clearRun.workEnded d.st) (d.clusterDown.clearRun.workEnded d.st).heathCancel :=
    Dev.Keeps.heathCancel .refl
  have hact : d.clusterDown.clearRun.fltAction 0x13 = d.fltAction 0x13 := (h2.fltAction 0x13 (by decide)).trans (h1.fltAction 0x13 (by decide))
  refine ⟨(h12.step (by decide) h3).step (by decide) h4, ?_, fun hd ha => ?_, fun he ht h8 => ?_⟩
  · exact h4.is.trans (h3.is.trans ((Dev.clearRun_seated _).trans h1.is))
  · obtain ⟨hdue, h2⟩ := hd3 (Dev.clearRun_due (Dev.dueCal_of_flt (h1.flt rfl) hd)) (by rwa [hact])
    exact ⟨Dev.dueCal_of_flt (h4.flt rfl) hdue, by rwa [h4.fltAction 0x13 (by decide)]⟩
  · have hs : d.st ≠ stChecking := by
      intro hs
      rw [Dev.ticking, show d.get R.SYS_STATUS_STATE = stChecking from hs] at ht
      cases ht
    have hdown : d.clusterDown.cl.txK = d.cl.txK ++ [7] := by
      unfold Dev.clusterDown Dev.sendK
      rw [if_pos (by rw [he, ht]; rfl), if_pos h8]
      rfl
    rw [h4.cl rfl, hcl3 hs, Dev.clearRun_txK, hdown]
    exact List.mem_append_right _ (List.mem_singleton_self 7)

/-- The device that has ended operation, in PARKED, before its contacts end. -/
def Dev.removedLive (d : Dev) : Dev := (d.clusterDown.clearRun.workEnded d.st).heathCancel.powerFresh.parkedNow.returnsTo d.st

theorem Dev.Keeps.powerFresh (d : Dev) : Dev.Keeps { pwr := true, cl := true } d d.powerFresh := .upd .refl (pwr := nofun) (cl := nofun)

abbrev Dev.parkedNowScope : Dev.Scope :=
  { acq := true, tick := true, pwr := true, regs := [R.ACQ_STATUS, R.SYS_CTRL, R.SYS_STATUS, R.HP_STATUS, R.PWR_ON, R.PWR_DST0, R.PWR_DST1] }

theorem Dev.Keeps.parkedNow (d : Dev) : Dev.Keeps Dev.parkedNowScope d d.parkedNow :=
  Dev.Keeps.pwrTick (Dev.Keeps.put (f := R.HP_STATUS_QUAD) (n := 0) (Dev.Keeps.put (f := R.SYS_STATUS_STATE) (n := stParked)
    (Dev.Keeps.put (f := R.SYS_CTRL_RUN) (n := 0) (Dev.Keeps.acqAbandon .refl))))

/-- What holds of a device in PARKED, however it came there. -/
theorem Dev.parkedNow_spec (d : Dev) :
    d.parkedNow.st = stParked ∧ d.parkedNow.is R.SYS_CTRL_RUN = false ∧ d.parkedNow.is R.HP_STATUS_QUAD = false ∧
    d.parkedNow.is R.SYS_STATUS_SEATED = d.is R.SYS_STATUS_SEATED ∧ d.parkedNow.acq.now = none ∧ d.parkedNow.acq.hiZ = true ∧
    d.parkedNow.acq.pump = 0 ∧ d.parkedNow.tick.held = 0 ∧ d.parkedNow.tick.due = none ∧ d.parkedNow.pwr.mode = d.pwr.mode := by
  have h1 : Dev.Keeps { acq := true, tick := true, regs := [R.ACQ_STATUS] } d d.acqAbandon := Dev.Keeps.acqAbandon .refl
  have hk : Dev.Keeps Dev.pwrTickScope (((d.acqAbandon.put R.SYS_CTRL_RUN 0).setSt stParked).put R.HP_STATUS_QUAD 0) d.parkedNow :=
    Dev.Keeps.pwrTick .refl
  refine ⟨hk.st.trans ?_, hk.is.trans ?_, hk.is.trans ?_, hk.is.trans ?_, ?_, ?_, ?_, ?_, ?_, ?_⟩
  · exact (Dev.get_put_ne _ R.HP_STATUS_QUAD R.SYS_STATUS_STATE _ (by decide)).trans (Dev.get_put_self _ R.SYS_STATUS_STATE _ (by decide))
  · exact (Dev.is_put_ne _ R.HP_STATUS_QUAD R.SYS_CTRL_RUN _ (by decide)).trans
      ((Dev.is_put_ne _ R.SYS_STATUS_STATE R.SYS_CTRL_RUN _ (by decide)).trans (Dev.is_putB_self _ R.SYS_CTRL_RUN false (by decide) (by decide)))
  · exact Dev.is_putB_self _ R.HP_STATUS_QUAD false (by decide) (by decide)
  · exact (Dev.is_put_ne _ R.HP_STATUS_QUAD R.SYS_STATUS_SEATED _ (by decide)).trans
      ((Dev.is_put_ne _ R.SYS_STATUS_STATE R.SYS_STATUS_SEATED _ (by decide)).trans
        ((Dev.is_put_ne _ R.SYS_CTRL_RUN R.SYS_STATUS_SEATED _ (by decide)).trans h1.is))
  · rw [hk.acq rfl]
    rfl
  · rw [hk.acq rfl]
    rfl
  · rw [hk.acq rfl]
    rfl
  · rw [hk.tick rfl]
    rfl
  · rw [hk.tick rfl]
    rfl
  · have hp := Dev.pwrTick_pwr (((d.acqAbandon.put R.SYS_CTRL_RUN 0).setSt stParked).put R.HP_STATUS_QUAD 0)
    have hm : d.acqAbandon.pwr.mode = d.pwr.mode := congrArg Pwr.mode (h1.pwr rfl)
    exact (congrArg Pwr.mode hp).trans hm

/-- What a calm device is once it has ended operation. -/
structure Dev.Parked (d t : Dev) : Prop where
  st : t.st = stParked
  run : t.is R.SYS_CTRL_RUN = false
  quad : t.is R.HP_STATUS_QUAD = false
  seated : t.is R.SYS_STATUS_SEATED = d.is R.SYS_STATUS_SEATED
  pin : t.is R.SYS_STRAPS_SEATPIN = d.is R.SYS_STRAPS_SEATPIN
  sys : t.sys = { d.sys with returnTo := d.st }
  hp : t.hp = d.hp
  panel : t.panel = d.panel
  clock : t.clock = d.clock
  now : t.acq.now = none
  hiZ : t.acq.hiZ = true
  pump : t.acq.pump = 0
  held : t.tick.held = 0
  due : t.tick.due = none
  mode : t.pwr.mode = 0
  down : d.enumerated = true → d.ticking = true → d.domOn 8 = true → 7 ∈ t.cl.txK

theorem Dev.removedLive_spec {d : Dev} (hc : d.calm) : Dev.Parked d d.removedLive ∧
    (d.dueCal → d.fltAction 0x13 ≠ 2 → d.removedLive.dueCal ∧ d.removedLive.fltAction 0x13 ≠ 2) := by
  obtain ⟨h1, hs1, hdue, hdown⟩ := Dev.liveEnd_spec hc
  unfold Dev.removedLive
  generalize (d.clusterDown.clearRun.workEnded d.st).heathCancel = e at *
  have h2 := Dev.Keeps.powerFresh e
  have h3 := Dev.Keeps.parkedNow e.powerFresh
  obtain ⟨hst, hrun, hquad, hseat, hnow, hhiz, hpump, hheld, htick, hmode⟩ := Dev.parkedNow_spec e.powerFresh
  have h4 : Dev.Keeps { sys := true } e.powerFresh.parkedNow (e.powerFresh.parkedNow.returnsTo d.st) := .upd .refl (sys := nofun)
  have h14 : Dev.Keeps { Dev.liveScope with tick := true, sys := true, regs := Dev.liveScope.regs ++ [R.HP_STATUS] } d (e.powerFresh.parkedNow.returnsTo d.st) :=
    (((Dev.Keeps.step .refl (by decide) h1).step (by decide) h2).step (by decide) h3).step (by decide) h4
  have h24 : Dev.Keeps { Dev.parkedNowScope with sys := true, cl := true } e (e.powerFresh.parkedNow.returnsTo d.st) :=
    ((Dev.Keeps.step .refl (by decide) h2).step (by decide) h3).step (by decide) h4
  refine ⟨⟨h4.st.trans hst, h4.is.trans hrun, h4.is.trans hquad, h4.is.trans (hseat.trans (h2.is.trans hs1)), h14.is, ?_, h14.hp rfl,
    h14.panel rfl, h14.clock rfl, hnow, hhiz, hpump, hheld, htick, hmode, fun x y z => ?_⟩, fun hd ha => ?_⟩
  · have hs : e.powerFresh.parkedNow.sys = d.sys := (h3.sys rfl).trans ((h2.sys rfl).trans (h1.sys rfl))
    unfold Dev.returnsTo
    rw [hs]
  · rw [h4.cl rfl, h3.cl rfl]
    exact hdown x y z
  · obtain ⟨hd1, ha1⟩ := hdue hd ha
    exact ⟨Dev.dueCal_of_flt (h24.flt rfl) hd1, by rwa [h24.fltAction 0x13 (by decide)]⟩

theorem Dev.Parked.keeps {d e t : Dev} (h : Dev.Parked d e) {w : Dev.Scope} (hk : Dev.Keeps w e t)
    (hw : w.le { mem := true, img := true, ct := true, ring := true, flt := true, regs := Dev.parkedStopScope.regs } = true := by decide) :
    Dev.Parked d t := by
  have hx := Dev.Keeps.step .refl hw hk
  exact ⟨hx.st.trans h.st, hx.is.trans h.run, hx.is.trans h.quad, hx.is.trans h.seated, hx.is.trans h.pin, (hx.sys rfl).trans h.sys,
    (hx.hp rfl).trans h.hp, (hx.panel rfl).trans h.panel, (hx.clock rfl).trans h.clock, (congrArg Acq.now (hx.acq rfl)).trans h.now,
    (congrArg Acq.hiZ (hx.acq rfl)).trans h.hiZ, (congrArg Acq.pump (hx.acq rfl)).trans h.pump, (congrArg TickGen.held (hx.tick rfl)).trans h.held,
    (congrArg TickGen.due (hx.tick rfl)).trans h.due, (congrArg Pwr.mode (hx.pwr rfl)).trans h.mode,
    fun h1 h2 h3 => by rw [hx.cl rfl]; exact h.down h1 h2 h3⟩

theorem Dev.removeLive_spec {d : Dev} (hc : d.calm) : Dev.Parked d (d.calEnds Dev.removeLive) := by
  obtain ⟨hp, hdue⟩ := Dev.removedLive_spec hc
  have hk : Dev.Keeps Dev.parkedStopScope d.removedLive d.removeLive := by
    rw [Dev.removeLive_eq]
    exact .ite (Dev.Keeps.parkedStop _) .refl
  have hr : Dev.Parked d d.removeLive := hp.keeps hk
  have hend : d.dueCal → d.fltAction 0x13 ≠ 2 → d.removeLive.dueCal ∧ d.removeLive.fltAction 0x13 ≠ 2 := fun hd ha =>
    ⟨Dev.dueCal_of_flt (hk.flt rfl) (hdue hd ha).1, by rw [hk.fltAction 0x13 (by decide)]; exact (hdue hd ha).2⟩
  rcases Dev.calEnds_calm (f := Dev.removeLive) hc hend with he | he
  · rw [he]
    exact hr
  · rw [he]
    exact hr.keeps (w := { flt := true }) (.upd .refl (flt := nofun))

/-! ### Reseat (R618, R619, R625, R626) -/

/-- The device whose SEAT_N has been low long enough. -/
def Dev.seatedNow (d : Dev) : Dev :=
  { (d.put R.SYS_STATUS_SEATED 1).put R.SYS_STRAPS_SEATPIN 0 with sys := { d.sys with seatFell := none, hostQual := false } }

/-- What holds of a device that is seated again. -/
structure Dev.Back (t : Dev) : Prop where
  seated : t.is R.SYS_STATUS_SEATED = true
  pin : t.is R.SYS_STRAPS_SEATPIN = false
  qual : t.sys.hostQual = false
  fell : t.sys.seatFell = none

theorem Dev.Back.keeps {w : Dev.Scope} {d t : Dev} (h : d.Back) (hk : Dev.Keeps w d t)
    (hs : t.is R.SYS_STATUS_SEATED = d.is R.SYS_STATUS_SEATED) (hp : w.has R.SYS_STRAPS = false := by decide) (hw : w.sys = false := by rfl) : t.Back :=
  ⟨hs.trans h.seated, (hk.is hp).trans h.pin, (congrArg Sys.hostQual (hk.sys hw)).trans h.qual, (congrArg Sys.seatFell (hk.sys hw)).trans h.fell⟩

theorem Dev.seatedNow_back (d : Dev) : d.seatedNow.Back :=
  ⟨(Dev.is_put_ne _ R.SYS_STRAPS_SEATPIN R.SYS_STATUS_SEATED _ (by decide)).trans (Dev.is_putB_self d R.SYS_STATUS_SEATED true (by decide) (by decide)),
    Dev.is_putB_self _ R.SYS_STRAPS_SEATPIN false (by decide) (by decide), rfl, rfl⟩

theorem Dev.Keeps.seatedNow (d : Dev) : Dev.Keeps { sys := true, regs := [R.SYS_STATUS, R.SYS_STRAPS] } d d.seatedNow :=
  .upd (Dev.Keeps.put (f := R.SYS_STRAPS_SEATPIN) (n := 0) (Dev.Keeps.put (f := R.SYS_STATUS_SEATED) (n := 1) .refl)) (sys := nofun)

theorem Dev.seatedNow_st (d : Dev) : d.seatedNow.st = d.st :=
  (Dev.get_put_ne _ R.SYS_STRAPS_SEATPIN R.SYS_STATUS_STATE _ (by decide)).trans
    (Dev.get_put_ne d R.SYS_STATUS_SEATED R.SYS_STATUS_STATE _ (by decide))

/-- The device back in BOOT_WAIT or READY, its pump on again. -/
def Dev.stateBack (d : Dev) : Dev :=
  (d.setSt (if d.sys.returnTo = stBootWait then stBootWait else stReady)).pumpTo
    ((d.setSt (if d.sys.returnTo = stBootWait then stBootWait else stReady)).get R.ACQ_STATUS_LEVELNOW)

def Dev.heathForgot (d : Dev) : Dev := { d with pwr := { d.pwr with heathOff := 0 } }

/-- The device with the domains on again that Heath had switched off. -/
def Dev.domainsBack (d : Dev) : Dev := (d.switchOnMask d.pwr.heathOff).heathForgot

theorem Dev.seatAgain_eq {d : Dev} (h0 : d.sys.inReset = false) (hs : d.is R.SYS_STATUS_SEATED = false) (hh : d.seatHeld = true) :
    d.seatAgain =
      if d.seatedNow.st ≠ stParked then
        (if d.seatedNow.st = stHalted then d.seatedNow.pumpTo (d.seatedNow.get R.ACQ_STATUS_LEVELNOW) else d.seatedNow)
      else if d.seatedNow.pwr.mode = 2 then d.seatedNow.fallowExit
      else
        let x := if d.seatedNow.stateBack.domainsBack.sys.returnTo = stHeath then d.seatedNow.stateBack.domainsBack.hostBack
          else d.seatedNow.stateBack.domainsBack
        if x.seq.bootFrom.isSome then x.ppBootDrop.bootStart else x := by
  unfold Dev.seatAgain
  rw [if_neg (by simp [h0, hs, hh])]
  rfl

theorem Dev.Keeps.stateBack (d : Dev) : Dev.Keeps { freeCount := true, acq := true, regs := [R.SYS_STATUS, R.ACQ_STATUS] } d d.stateBack :=
  Dev.Keeps.pumpTo (Dev.Keeps.put (f := R.SYS_STATUS_STATE) (n := if d.sys.returnTo = stBootWait then stBootWait else stReady) .refl)

theorem Dev.stateBack_seated (d : Dev) : d.stateBack.is R.SYS_STATUS_SEATED = d.is R.SYS_STATUS_SEATED := by
  have hk : Dev.Keeps Dev.pumpToScope (d.setSt (if d.sys.returnTo = stBootWait then stBootWait else stReady)) d.stateBack := Dev.Keeps.pumpTo .refl
  exact hk.is.trans (Dev.is_put_ne d R.SYS_STATUS_STATE R.SYS_STATUS_SEATED _ (by decide))

theorem Dev.stateBack_st (d : Dev) : d.stateBack.st = if d.sys.returnTo = stBootWait then stBootWait else stReady := by
  have hk : Dev.Keeps Dev.pumpToScope (d.setSt (if d.sys.returnTo = stBootWait then stBootWait else stReady)) d.stateBack := Dev.Keeps.pumpTo .refl
  refine hk.st.trans ((Dev.get_put_self _ R.SYS_STATUS_STATE _ (by decide)).trans ?_)
  split
  all_goals rfl

abbrev Dev.domainsBackScope : Dev.Scope :=
  { aux := true, hp := true, pwr := true, regs := [R.HP_ATTN, R.PWR_ON, R.PWR_DST0, R.PWR_DST1], fams := [(0x1818, 32), (0x1820, 32)] }

theorem Dev.Keeps.domainsBack (d : Dev) : Dev.Keeps Dev.domainsBackScope d d.domainsBack :=
  .upd (Dev.Keeps.switchOnMask .refl) (pwr := nofun)

theorem Dev.drainCancel_pwr (d : Dev) (k : Nat) :
    (d.drainCancel k).pwr = { d.pwr with tickOff := (d.drainCancel k).pwr.tickOff, onAfter := (d.drainCancel k).pwr.onAfter } := by
  have hr : ∀ e : Dev, e.auxResume.pwr = e.pwr := fun e => (Dev.Keeps.auxResume (w := Dev.auxResumeScope) .refl).pwr rfl
  unfold Dev.drainCancel
  dsimp only
  split
  · rw [hr]
  · rfl

/-- Domains that are asked to be ON change what waits for them alone. -/
theorem Dev.switchOnOne_pwr (d : Dev) (k : Nat) :
    (d.switchOnOne k).pwr = { d.pwr with tickOff := (d.switchOnOne k).pwr.tickOff, onAfter := (d.switchOnOne k).pwr.onAfter } := by
  unfold Dev.switchOnOne
  dsimp only
  split
  · rfl
  · split
    · exact d.drainCancel_pwr k
    · split <;> rfl

theorem Dev.switchOnMask_pwr (d : Dev) (m : Nat) :
    (d.switchOnMask m).pwr = { d.pwr with tickOff := (d.switchOnMask m).pwr.tickOff, onAfter := (d.switchOnMask m).pwr.onAfter } := by
  unfold Dev.switchOnMask
  induction bitsOf 12 m generalizing d with
  | nil => rfl
  | cons k l ih =>
    rw [List.foldl_cons, ih (d.switchOnOne k), d.switchOnOne_pwr k]

theorem Dev.hostBack_heathOff (d : Dev) : d.hostBack.pwr.heathOff = d.pwr.heathOff := by
  have h := congrArg Pwr.heathOff (d.switchOnOne_pwr 7)
  unfold Dev.hostBack
  dsimp only
  split
  all_goals exact h

/-- The device that leaves Fallow, before its domains ramp up. -/
def Dev.fallowLeft (d : Dev) : Dev :=
  ({ d with pwr := { d.pwr with mode := 0, hfoOn := true, wakeAt := some (d.pwr.wakeAt.getD d.clock), waking := true } } : Dev).setSt stFallowExit

theorem Dev.fallowExit_eq {d : Dev} (h : d.pwr.mode = 2) : d.fallowExit = d.fallowLeft.switchOnMask d.resetSet := by
  unfold Dev.fallowExit
  rw [if_neg (not_not.2 h)]
  rfl

/-- What the wake from Fallow leaves: FALLOW_EXIT, the oscillator on, the reset set ramping up (R595). -/
theorem Dev.fallowExit_spec {d : Dev} (h : d.pwr.mode = 2) :
    d.fallowExit.st = stFallowExit ∧ d.fallowExit.pwr.mode = 0 ∧ d.fallowExit.pwr.hfoOn = true ∧
    d.fallowExit.pwr.wakeAt = some (d.pwr.wakeAt.getD d.clock) ∧ d.fallowExit.is R.SYS_STATUS_SEATED = d.is R.SYS_STATUS_SEATED ∧
    ∀ k, k < 12 → d.fallowExit.dom k = if bitOf d.resetSet k = true then onceOn (d.dom k) else d.dom k := by
  have hk : Dev.Keeps Dev.switchOnMaskScope d.fallowLeft (d.fallowLeft.switchOnMask d.resetSet) := Dev.Keeps.switchOnMask .refl
  have hp := d.fallowLeft.switchOnMask_pwr d.resetSet
  rw [Dev.fallowExit_eq h]
  refine ⟨hk.st.trans (Dev.get_put_self _ R.SYS_STATUS_STATE _ (by decide)), congrArg Pwr.mode hp, congrArg Pwr.hfoOn hp, congrArg Pwr.wakeAt hp,
    hk.is.trans (Dev.is_put_ne _ R.SYS_STATUS_STATE R.SYS_STATUS_SEATED _ (by decide)), fun k hk12 => ?_⟩
  have hd : d.fallowLeft.dom k = d.dom k := Dev.dom_put_ne _ R.SYS_STATUS_STATE stFallowExit k
  rw [Dev.dom_switchOnMask _ _ hk12, hd]

theorem Dev.dom_hostBack (d : Dev) {j : Nat} (hj : j < 12) : d.hostBack.dom j = if j = 7 then onceOn (d.dom 7) else d.dom j := by
  rw [← Dev.dom_switchOnOne d j 7 hj (by omega)]
  unfold Dev.hostBack
  dsimp only
  split
  · exact Dev.dom_put_ne (d.switchOnOne 7) R.HP_ATTN_WAKE 1 j
  · rfl

theorem Dev.dom_domainsBack (d : Dev) {j : Nat} (hj : j < 12) :
    d.domainsBack.dom j = if bitOf d.pwr.heathOff j = true then onceOn (d.dom j) else d.dom j :=
  Dev.dom_switchOnMask d d.pwr.heathOff hj

theorem Dev.seatHeld_of {d : Dev} {t0 : Nat} (hf : d.sys.seatFell = some t0) (ht : t0 + 8000 ≤ d.clock) : d.seatHeld = true := by
  unfold Dev.seatHeld
  rw [hf]
  simpa using ht

/-- What a reseat in PARKED leaves, where no flash boot is in progress. -/
theorem Dev.reseated_spec {d : Dev} (hb : d.seq.bootFrom = none) :
    let x := if d.seatedNow.stateBack.domainsBack.sys.returnTo = stHeath then d.seatedNow.stateBack.domainsBack.hostBack
      else d.seatedNow.stateBack.domainsBack
    let t := if x.seq.bootFrom.isSome then x.ppBootDrop.bootStart else x
    (t.is R.SYS_STATUS_SEATED = true ∧ t.is R.SYS_STRAPS_SEATPIN = false ∧ t.sys.hostQual = false ∧ t.sys.seatFell = none) ∧
    t.st = (if d.sys.returnTo = stBootWait then stBootWait else stReady) ∧ t.mem = d.mem ∧ t.pwr.heathOff = 0 ∧
    (∀ k, k < 12 → bitOf d.pwr.heathOff k = true → d.dom k = 0 → t.dom k = 1) ∧
    ∀ k, k < 12 → bitOf d.pwr.heathOff k = false → (k = 7 → d.sys.returnTo ≠ stHeath) → t.dom k = d.dom k := by
  have h1 := Dev.Keeps.seatedNow d
  have h2 := Dev.Keeps.stateBack d.seatedNow
  have h3 := Dev.Keeps.domainsBack d.seatedNow.stateBack
  have h12 : Dev.Keeps { sys := true, freeCount := true, acq := true, regs := [R.SYS_STATUS, R.SYS_STRAPS, R.ACQ_STATUS] } d d.seatedNow.stateBack :=
    (Dev.Keeps.step .refl (by decide) h1).step (by decide) h2
  have hret : d.seatedNow.stateBack.domainsBack.sys.returnTo = d.sys.returnTo := by
    rw [h3.sys rfl, h2.sys rfl]
    rfl
  intro x t
  have hx : Dev.Keeps Dev.domainsBackScope d.seatedNow.stateBack x := .ite (Dev.Keeps.hostBack h3) h3
  have hseq : x.seq.bootFrom = none := (congrArg Seq.bootFrom ((hx.seq rfl).trans (h12.seq rfl))).trans hb
  have ht : t = x := if_neg (by rw [hseq]; decide)
  obtain ⟨b1, b2, b3, b4⟩ := (d.seatedNow_back.keeps h2 d.seatedNow.stateBack_seated).keeps hx hx.is
  have hdom : ∀ k, k < 12 → d.seatedNow.stateBack.domainsBack.dom k = if bitOf d.pwr.heathOff k = true then onceOn (d.dom k) else d.dom k := by
    intro k hk
    rw [Dev.dom_domainsBack _ hk, h12.dom k, h12.pwr rfl]
  have hxdom : ∀ k, k < 12 → x.dom k = if k = 7 ∧ d.sys.returnTo = stHeath then onceOn (d.seatedNow.stateBack.domainsBack.dom 7)
      else d.seatedNow.stateBack.domainsBack.dom k := by
    intro k hk
    unfold x
    rw [hret]
    by_cases hh : d.sys.returnTo = stHeath
    · rw [if_pos hh, Dev.dom_hostBack _ hk]
      simp [hh]
    · rw [if_neg hh, if_neg (fun h => hh h.2)]
  rw [ht]
  refine ⟨⟨b1, b2, b3, b4⟩, hx.st.trans d.seatedNow.stateBack_st, (hx.mem rfl).trans (h12.mem rfl), ?_, fun k hk hb h0 => ?_, fun k hk hb h7 => ?_⟩
  · unfold x
    split
    · exact Dev.hostBack_heathOff _
    · rfl
  · rw [hxdom k hk]
    split
    · next h =>
      rw [← h.1, hdom k hk, if_pos hb, h0]
      rfl
    · rw [hdom k hk, if_pos hb, h0]
      rfl
  · rw [hxdom k hk, if_neg (fun h => h7 h.1 h.2), hdom k hk, if_neg (by simp [hb])]

/-- Settles O27: a removal parks the outputs and ends operation where there is any; a reseat undoes what its state asks for. -/
theorem removalAndReseat : Obligations.RemovalAndReseat := by
  unfold Obligations.RemovalAndReseat
  refine ⟨fun n rx => ⟨?_, ?_, ?_⟩, ?_, ?_, ?_⟩
  · refine leaves_of_actAlways (f := fun d => d.removal n rx) (fun _ => rfl) fun d h0 ⟨hs, hst, hm, hr, hp, hq⟩ => ?_
    obtain ⟨hg, hst', hk⟩ := Dev.unseat_spec hp n rx
    have hcalm : (d.unseat n rx).calm := Dev.calm_of_keeps hk rfl (by decide) (by decide) (Dev.calm_of_calQuiet hq)
    have hpark := Dev.removeLive_spec hcalm
    have hpwr := hk.pwr rfl
    rw [Dev.removal_eq h0 hs, if_neg (by rwa [hst']), if_neg (by rwa [hpwr]), hpwr, hr]
    dsimp only
    refine ⟨⟨hpark.seated.trans hg.seated, hpark.pin.trans hg.pin, ?_, ?_, ?_, ?_, hpark.pump, hpark.clock.trans hg.clock⟩, hpark.st, hpark.run,
      hpark.quad, hpark.now, hpark.hiZ, ?_, hpark.held, hpark.due, hpark.mode, fun he ht h8 => ?_⟩
    · rw [hpark.sys]
      exact hg.qual
    · rw [hpark.sys]
      exact hg.fell
    · rw [hpark.hp]
      exact hg.held
    · rw [hpark.panel]
      exact hg.parked
    · rw [hpark.sys]
      exact hst'
    · exact hpark.down (hk.enumerated.trans he) ((congrArg (fun s => s == 3 || s == 4 || s == 7) hst').trans ht) ((hk.domOn 8).trans h8)
  · refine leaves_of_actAlways (f := fun d => d.removal n rx) (fun _ => rfl) fun d h0 ⟨hs, hst, hp⟩ => ?_
    obtain ⟨hg, hst', hk⟩ := Dev.unseat_spec hp n rx
    rw [Dev.removal_eq h0 hs, if_pos (hst'.trans hst)]
    exact ⟨⟨hg.seated, hg.pin, hg.qual, hg.fell, hg.held, hg.parked, hg.pump, hg.clock⟩, hst'.trans hst, hk.mem rfl, hk.ring rfl⟩
  · refine leaves_of_actAlways (f := fun d => d.removal n rx) (fun _ => rfl) fun d h0 ⟨hs, hst, hm, hp⟩ => ?_
    obtain ⟨hg, hst', hk⟩ := Dev.unseat_spec hp n rx
    have h2 : Dev.Keeps Dev.removeFallowScope (d.unseat n rx) (d.unseat n rx).removeFallow := Dev.Keeps.removeFallow .refl
    have hpwr := hk.pwr rfl
    rw [Dev.removal_eq h0 hs, if_neg (by rwa [hst']), if_pos (by rw [hpwr, hm])]
    refine ⟨⟨?_, h2.is.trans hg.pin, (congrArg Sys.hostQual (h2.sys rfl)).trans hg.qual, (congrArg Sys.seatFell (h2.sys rfl)).trans hg.fell,
      (congrArg Hp.held (h2.hp rfl)).trans hg.held, (congrArg Panel.parked (h2.panel rfl)).trans hg.parked,
      (congrArg Acq.pump (h2.acq rfl)).trans hg.pump, (h2.clock rfl).trans hg.clock⟩, ?_, ?_, (h2.mem rfl).trans (hk.mem rfl), ?_,
      (h2.reg _ (by decide)).trans (hk.reg _ (by decide)), (h2.reg _ (by decide)).trans (hk.reg _ (by decide))⟩
    · exact (Dev.is_put_ne _ R.PWR_WSRC_SEAT R.SYS_STATUS_SEATED _ (by decide)).trans
        ((Dev.is_put_ne _ R.HP_STATUS_QUAD R.SYS_STATUS_SEATED _ (by decide)).trans
          ((Dev.is_put_ne _ R.SYS_STATUS_STATE R.SYS_STATUS_SEATED _ (by decide)).trans hg.seated))
    · exact (Dev.get_put_ne _ R.PWR_WSRC_SEAT R.SYS_STATUS_STATE _ (by decide)).trans
        ((Dev.get_put_ne _ R.HP_STATUS_QUAD R.SYS_STATUS_STATE _ (by decide)).trans (Dev.get_put_self _ R.SYS_STATUS_STATE _ (by decide)))
    · exact Dev.is_putB_self _ R.PWR_WSRC_SEAT true (by decide) (by decide)
    · exact (congrArg Pwr.mode hpwr).trans hm
  · refine leaves_of_act (f := fun d => d.seatAgain) (fun _ => rfl) fun d h0 ⟨⟨hs, t0, hf, ht⟩, hst, hm, hb⟩ => ?_
    rw [Dev.seatAgain_eq h0 hs (Dev.seatHeld_of hf ht), if_neg (not_not.2 (d.seatedNow_st.trans hst)), if_neg (by
      rw [(Dev.Keeps.seatedNow d).pwr rfl, hm]; decide)]
    exact Dev.reseated_spec hb
  · refine leaves_of_act (f := fun d => d.seatAgain) (fun _ => rfl) fun d h0 ⟨⟨hs, t0, hf, ht⟩, hst, hm⟩ => ?_
    have hk := Dev.Keeps.seatedNow d
    have hm' : d.seatedNow.pwr.mode = 2 := (congrArg Pwr.mode (hk.pwr rfl)).trans hm
    have he : Dev.Keeps Dev.fallowExitScope d.seatedNow d.seatedNow.fallowExit := Dev.Keeps.fallowExit .refl
    obtain ⟨hs1, hm1, hh1, -, hseat, -⟩ := Dev.fallowExit_spec hm'
    obtain ⟨h1, h2, h3, h4⟩ := d.seatedNow_back.keeps he hseat
    rw [Dev.seatAgain_eq h0 hs (Dev.seatHeld_of hf ht), if_neg (not_not.2 (d.seatedNow_st.trans hst)), if_pos hm']
    exact ⟨⟨h1, h2, h3, h4⟩, hs1, hm1, hh1, (he.mem rfl).trans (hk.mem rfl)⟩
  · refine leaves_of_act (f := fun d => d.seatAgain) (fun _ => rfl) fun d h0 ⟨⟨hs, t0, hf, ht⟩, hst⟩ => ?_
    have hk := Dev.Keeps.seatedNow d
    have he : Dev.Keeps Dev.pumpToScope d.seatedNow (d.seatedNow.pumpTo (d.seatedNow.get R.ACQ_STATUS_LEVELNOW)) := Dev.Keeps.pumpTo .refl
    obtain ⟨h1, h2, h3, h4⟩ := d.seatedNow_back.keeps he he.is
    have hst' : d.seatedNow.st = stHalted := d.seatedNow_st.trans hst
    rw [Dev.seatAgain_eq h0 hs (Dev.seatHeld_of hf ht), if_pos (by rw [hst']; decide), if_pos hst']
    exact ⟨⟨h1, h2, h3, h4⟩, he.st.trans hst', (he.mem rfl).trans (hk.mem rfl), (he.ring rfl).trans (hk.ring rfl)⟩

end Sys2Proof.Machine
end

section
/-!
Refutation for the ticks of the own source (chapters 02 and 18): the statement O31 and the device that it fails on.
-/

namespace Sys2Proof.Machine
set_option Elab.async false

/-- A device in RUNNING at its first tick, whose frame has just ended, with a lasting FS16 still to be acted on. Its time
stamps are, as Heath alone leaves them, those of the slow clock (R630). -/
def Dev.tickHalts : Dev :=
  { Dev.reset.setSt stRunning with
    clock := 1
    sys := { Dev.reset.sys with inReset := false }
    tick := { Dev.reset.tick with first := true }
    acq := { Dev.reset.acq with now := some { Dev.reset.newFrame with listened := true, order := [] } }
    pwr := { Dev.reset.pwr with tsFrom := some 0 }
    flt := { Flt.reset with due := [(0x16, 0, 0)] } }

/-- Refutes O31, by its clause about what a tick records, which speaks of every device in RUNNING: the end of the frame at
the tick settles the fault, the halt switches the time stamps back to the fast clock, and TICK_LAST takes the time as it is
then. -/
theorem not_ticksOfTheSource : ¬ Obligations.TicksOfTheSource := by
  intro h
  obtain ⟨-, hrec, -⟩ := h
  have hst : Dev.tickHalts.st = stRunning := by decide +kernel
  have hsrc : Dev.tickHalts.get R.TICK_CTRL_SRC = 0 := by decide +kernel
  have hlead : Dev.tickHalts.clLead = false := by decide +kernel
  obtain ⟨t, he, -, -, hts, -⟩ := hrec ⟨[], Dev.tickHalts⟩ rfl
    ⟨⟨⟨.inl hst, hsrc⟩, .inl rfl, fun he => absurd he.1 (by decide)⟩, hlead⟩
  rw [show Sys2Proof.Machine.exec .tick ⟨[], Dev.tickHalts⟩ = act ⟨[], Dev.tickHalts⟩ (fun d => d.tickEvent) from rfl, act_live rfl] at he
  have ht : t = ⟨[], Dev.tickHalts.tickEvent⟩ := (Host.Outcome.next.inj he).symm
  rw [ht] at hts
  revert hts
  decide +kernel

end Sys2Proof.Machine
end

section
/-!
Refutation for the deadlines of the cluster ring (chapter 16): the statement O59 and the device that it fails on.
-/

namespace Sys2Proof.Machine
set_option Elab.async false

/-- A lead in CHECKING, as if come from RUNNING, whose frame waits for the deltas of member 1, which has missed them twice. -/
def Dev.lateMember : Dev :=
  let d := (((Dev.reset.put R.CL_CTRL_ROLE 1).put R.CL_STATUS_ENUM 1).put R.CL_STATUS_NMEMB 1).setSt stChecking
  { d with
    sys := { Dev.reset.sys with inReset := false, checkFrom := stRunning }
    acq := { Dev.reset.acq with ready := [Dev.reset.newFrame] }
    cl := { Dev.reset.cl with missing := [(1, 2)] } }

/-- Refutes O59, by its clause about a member lost at the third time, which speaks of every state: in CHECKING the loss clears
RUN, and the device goes back to the state from which the check started. -/
theorem not_ringDeadlinesAndRole : ¬ Obligations.RingDeadlinesAndRole := by
  intro h
  obtain ⟨-, -, -, -, -, -, hdelta, -⟩ := h
  have hlead : Dev.lateMember.clLead = true := by decide +kernel
  have hnode : 1 ∈ Dev.lateMember.clNodes := by decide +kernel
  obtain ⟨t, he, -, -, hst⟩ := (hdelta Dev.reset.newFrame []).2 ⟨[], Dev.lateMember⟩ rfl
    ⟨⟨hlead, rfl, rfl⟩, 1, ⟨hnode, List.not_mem_nil, List.not_mem_nil⟩, rfl, fun x hx => absurd hx List.not_mem_nil⟩
  rw [show Sys2Proof.Machine.exec .deltaDeadline ⟨[], Dev.lateMember⟩ = act ⟨[], Dev.lateMember⟩ (fun d => d.deltaDeadline) from rfl,
    act_live rfl] at he
  have ht : t = ⟨[], Dev.lateMember.deltaDeadline⟩ := (Host.Outcome.next.inj he).symm
  rw [ht] at hst
  revert hst
  decide +kernel

end Sys2Proof.Machine
end

section
/-!
Proofs for the access to registers (chapters 00, 18, 19 and 22): the statement O60.
-/

namespace Sys2Proof.Machine
set_option Elab.async false

/-- The registers of R30 that the running states hold off. -/
theorem heldOff_iff (a : Nat) : heldOff a = true ↔ (R.ACQ_ELROLE 0 ≤ a ∧ a ≤ R.ACQ_ELROLE 49) ∨ a ∈ [R.ACQ_GEOMX, R.ACQ_GEOMY,
    R.ACQ_ORIENT, R.TICK_CTRL, R.TICK_VSYNC, R.TICK_HSYNC, R.ACQ_CODE, R.ACQ_SELF, R.ACQ_CORR, R.HOP_CTRL, R.HOP_CFG, R.HOP_LISTEN] := by
  unfold heldOff
  rw [Bool.or_eq_true, Bool.and_eq_true, decide_eq_true_eq, decide_eq_true_eq, List.contains_iff_mem]

/-- The registers whose writes no action of their own and no field range goes with. -/
def plainRegs : List Nat :=
  [R.IMG_THR, R.IMG_ABSORB, R.CT_SEG, R.CT_WAKE, R.OPT_LIM, R.CAL_TOL, R.SEQ_BUDGET, R.SEQ_EVEN, R.HP_ATTEN, R.CQ_GEOM, R.CL_BUF,
    R.PWR_WAKE, R.PWR_FCFG]

theorem plainRegs_free {a : Nat} (h : a ∈ plainRegs) :
    (regSpec? a).isNone = false ∧ haltedOff.contains a = false ∧ heldOff a = false ∧ fieldRanges a = [] := by
  unfold plainRegs at h
  simp only [List.mem_cons, List.not_mem_nil, or_false] at h
  rcases h with rfl | rfl | rfl | rfl | rfl | rfl | rfl | rfl | rfl | rfl | rfl | rfl | rfl
  all_goals exact ⟨by decide, by decide, by decide, rfl⟩

/-- A write of one of them by its access codes; the command ring is not enabled. -/
theorem Dev.ioWrite_plain {d : Dev} (h0 : d.sys.inReset = false) {a : Nat} (ha : a ∈ plainRegs) (hr : d.regReachable a = true)
    (he : d.is R.CQ_CTRL_EN = false) (host : Bool) (v : Nat) : d.ioWrite host a v = d.plainWrite a v := by
  obtain ⟨hs, hh, ho, -⟩ := plainRegs_free ha
  rw [Dev.ioWrite_live h0 hr hs (fun h => absurd (hh.symm.trans h) Bool.false_ne_true)
    (fun h => absurd (ho.symm.trans h) Bool.false_ne_true)]
  unfold plainRegs at ha
  simp only [List.mem_cons, List.not_mem_nil, or_false] at ha
  rcases ha with rfl | rfl | rfl | rfl | rfl | rfl | rfl | rfl | rfl | rfl | rfl | rfl | rfl
  case inr.inr.inr.inr.inr.inr.inr.inr.inr.inl =>
    exact if_neg (show ¬d.is R.CQ_CTRL_EN = true by simp [he])
  all_goals rfl

/-- A read of a register that is none of the converters' changes nothing (R230). -/
theorem Dev.ioRead_snd (d : Dev) (host : Bool) {a : Nat}
    (ha : a ∉ [R.AX_DATA 0, R.AX_DATA 1, R.AX_TS 0, R.AX_TS 1, R.AX_STAT 0, R.AX_STAT 1]) : (d.ioRead host a).2 = d := by
  simp only [List.mem_cons, List.not_mem_nil, or_false, not_or] at ha
  obtain ⟨h1, h2, h3, h4, h5, h6⟩ := ha
  unfold Dev.ioRead
  simp only [h1, h2, h3, h4, h5, h6, or_self, if_false, apply_ite Prod.snd, ite_self]

/-- Settles O60: the cases in which a write is ignored, and the registers that a write reaches by their access codes. -/
theorem registerAccess : Obligations.RegisterAccess := by
  unfold Obligations.RegisterAccess
  refine ⟨fun prog a v => ⟨?_, fun ha => ?_⟩, fun d host a => ⟨fun hr => ?_, Dev.ioRead_snd d host⟩⟩
  · refine does_of_act (f := fun d => d.ioWrite (!prog) a.toNat v.toNat) (fun _ => rfl) fun d _ h => ?_
    rcases h with h | h | ⟨hs, ha⟩ | ⟨hs, ha⟩
    · exact Dev.ioWrite_gone (.inr (.inl h)) _ _
    · exact Dev.ioWrite_gone (.inr (.inr h)) _ _
    · exact Dev.ioWrite_halted hs (List.contains_iff_mem.2 ha) _ _
    · exact Dev.ioWrite_held hs ((heldOff_iff _).2 ha) _ _
  · refine leaves_of_act (f := fun d => d.ioWrite (!prog) a.toNat v.toNat) (fun _ => rfl) fun d h0 ⟨hr, he⟩ => ?_
    obtain ⟨hs, -, -, hf⟩ := plainRegs_free ha
    obtain ⟨r, hspec⟩ := Option.isSome_iff_exists.1 (by simpa [Option.isNone_eq_false_iff] using hs)
    rw [Dev.ioWrite_plain h0 ha hr he]
    exact Dev.plainWrite_takes d hspec v (Dev.inRange_free d hf v)
  · unfold Dev.ioRead
    rw [if_pos (by simp [hr])]

end Sys2Proof.Machine
end

section
/-!
Proofs for the measurements of a frame (chapters 03, 04 and 07): the statement O35.
-/

namespace Sys2Proof.Machine
set_option Elab.async false

/-! ### The listen slot -/

/-- The end of a phase notes its time in the frame in progress (R41). -/
theorem Dev.pumpTo_acq (d : Dev) (l : Nat) : (d.pumpTo l).acq.now = d.acq.now ∧ (d.pumpTo l).acq.listen = d.acq.listen := by
  unfold Dev.pumpTo
  split
  · exact ⟨rfl, rfl⟩
  · split
    · exact ⟨rfl, rfl⟩
    · split
      · exact ⟨rfl, rfl⟩
      · exact ⟨rfl, rfl⟩

theorem Dev.pumpPhase_acq (d : Dev) : d.pumpPhase.acq.now = d.acq.now ∧ d.pumpPhase.acq.listen = d.acq.listen := by
  unfold Dev.pumpPhase
  split
  · exact Dev.pumpTo_acq _ _
  · exact ⟨rfl, rfl⟩

theorem Dev.phaseEnd_now {d : Dev} {f : Frame} (h : d.acq.now = some f) :
    d.phaseEnd.acq.now = some { f with phaseAt := d.clock } :=
  (Dev.pumpPhase_acq _).1.trans (congrArg (Option.map (fun g : Frame => { g with phaseAt := d.clock })) h)

theorem Dev.phaseEnd_listen (d : Dev) : d.phaseEnd.acq.listen = d.acq.listen := (Dev.pumpPhase_acq _).2

/-- Phases change the acquisition alone. -/
abbrev Dev.acqScope : Dev.Scope := { freeCount := true, acq := true, regs := [R.ACQ_STATUS] }

theorem Dev.Keeps.acqOnly {d t : Dev} (h : Dev.Keeps Dev.acqScope d t) :
    d.butRegs { t with acq := d.acq, freeCount := d.freeCount } [R.ACQ_STATUS] := h.restored

/-- The device with the frame `f` in progress. -/
def Dev.withNow (d : Dev) (f : Frame) : Dev := { d with acq := { d.acq with now := some f } }

theorem Dev.Keeps.withNow {d e : Dev} {f : Frame} (h : Dev.Keeps Dev.acqScope d e) : Dev.Keeps Dev.acqScope d (e.withNow f) :=
  h.upd (acq := nofun)

theorem Dev.pairInput_isSome (d : Dev) (k : Nat) :
    (d.pairInput k).isSome = decide (d.role (2 * k) = 2 ∨ d.role (2 * k + 1) = 2) := by
  unfold Dev.pairInput
  split
  next h => simp [h]
  next h =>
    split
    next h' => simp [h']
    next h' => simp [h, h']

/-- Every pair that has an input is recorded. -/
theorem Dev.recorded_pairs (d : Dev) (afe : Bool) (inputs : List (Nat × Bool × List Nat)) :
    (d.recorded afe inputs).map (·.1) = (List.range 16).filter (fun k => d.role (2 * k) = 2 ∨ d.role (2 * k + 1) = 2) := by
  unfold Dev.recorded
  generalize List.range 16 = l
  induction l with
  | nil => rfl
  | cons k l ih =>
    have hk := d.pairInput_isSome k
    cases hp : d.pairInput k with
    | none =>
      rw [hp] at hk
      rw [List.filterMap_cons_none (by rw [hp]), List.filter_cons_of_neg (by simpa using hk.symm), ih]
    | some el =>
      rw [hp] at hk
      rw [List.filterMap_cons_some (by rw [hp]), List.filter_cons_of_pos (by simpa using hk.symm), List.map_cons, ih]

/-- Outside a run of CAL_AFE the inputs are those of the pairs. -/
theorem Dev.recorded_inputs (d : Dev) (inputs : List (Nat × Bool × List Nat)) :
    (d.recorded false inputs).map (fun e => (e.1, e.2.1)) =
      ((List.range 16).filter (fun k => d.role (2 * k) = 2 ∨ d.role (2 * k + 1) = 2)).map
        (fun k => (k, ((inputs.lookup k).getD (false, [])).1)) := by
  unfold Dev.recorded
  generalize List.range 16 = l
  induction l with
  | nil => rfl
  | cons k l ih =>
    have hk := d.pairInput_isSome k
    cases hp : d.pairInput k with
    | none =>
      rw [hp] at hk
      rw [List.filterMap_cons_none (by rw [hp]), List.filter_cons_of_neg (by simpa using hk.symm), ih]
    | some el =>
      rw [hp] at hk
      rw [List.filterMap_cons_some (by rw [hp]), List.filter_cons_of_pos (by simpa using hk.symm), List.map_cons,
        List.map_cons, ih]
      rfl

/-- The frame `f` as its listen slot leaves it. -/
def Dev.listenedFrame (d : Dev) (f : Frame) (inputs : List (Nat × Bool × List Nat)) : Frame :=
  let afe := d.afeRunFrame f
  let clipped := ((d.recorded afe inputs).filter (fun e => e.2.1)).filterMap (fun e => d.pairInput e.1)
  { f with
    listened := true
    lofs := if afe then inputs.map (fun e => (e.1, (e.2.2.map (fun (c : Nat) => (c : Int) - 8192)).sum, e.2.2.length)) else []
    lovl := clipped.head? }

/-- The device that has recorded the inputs of the listen slot. -/
def Dev.listened (d : Dev) (f : Frame) (inputs : List (Nat × Bool × List Nat)) : Dev :=
  { d with acq := { d.acq with
    listen := d.recorded (d.afeRunFrame f) inputs, slow := d.afeRunFrame f, now := some (d.listenedFrame f inputs) } }

theorem Dev.listenSlot_eq {d : Dev} {f : Frame} (hn : d.acq.now = some f) (hl : f.listened = false)
    (inputs : List (Nat × Bool × List Nat)) : d.listenSlot inputs = (d.listened f inputs).phaseEnd := by
  unfold Dev.listenSlot
  rw [hn]
  exact if_neg (by rw [hl]; exact Bool.false_ne_true)

/-! ### Noise levels -/

/-- A device with the levels of entry `h` of the hop table. -/
def Dev.noisePut (d e : Dev) (h : Nat) : Dev :=
  ((e.put (R.HOP_NOISE_NMAX h) (d.noiseOf h).1).put (R.HOP_NOISE_WORST h) (d.noiseOf h).2.1).put (R.HOP_NOISE_NMEAN h) (d.noiseOf h).2.2

theorem Dev.noiseLevels_eq (d : Dev) :
    d.noiseLevels = ((List.range 8).foldl d.noisePut d).put R.HOP_STATUS_CLIP (d.acq.listen.filter (fun e => e.2.1)).length := rfl

theorem Dev.reg_noisePut_ne (d e : Dev) {h a : Nat} (ha : a ≠ R.HOP_NOISE h) : (d.noisePut e h).reg a = e.reg a :=
  (Dev.reg_put_ne _ (R.HOP_NOISE_NMEAN h) _ _ ha).trans
    ((Dev.reg_put_ne _ (R.HOP_NOISE_WORST h) _ _ ha).trans (Dev.reg_put_ne _ (R.HOP_NOISE_NMAX h) _ _ ha))

theorem Dev.Keeps.noisePuts (d : Dev) (l : List Nat) :
    Dev.Keeps { regs := l.map R.HOP_NOISE } d (l.foldl d.noisePut d) := by
  suffices h : ∀ l' e, l' ⊆ l → Dev.Keeps { regs := l.map R.HOP_NOISE } d e →
      Dev.Keeps { regs := l.map R.HOP_NOISE } d (l'.foldl d.noisePut e) from h l d (fun _ h => h) .refl
  intro l'
  induction l' with
  | nil => exact fun e _ h => h
  | cons h l' ih =>
    intro e hs he
    have hh : ({ regs := l.map R.HOP_NOISE } : Dev.Scope).has (R.HOP_NOISE h) = true := by
      simpa [Dev.Scope.has] using hs (List.mem_cons_self ..)
    exact ih _ (fun x hx => hs (List.mem_cons_of_mem _ hx)) (((he.put hh).put hh).put hh)

/-- Each entry shows its levels. -/
theorem Dev.get_noisePuts (d : Dev) {l : List Nat} (hl : l.Nodup) (e : Dev) {h : Nat} (hh : h ∈ l) (F : Field)
    (hF : F.addr = R.HOP_NOISE h) (x : Nat) (hp : ∀ e', (d.noisePut e' h).get F = x) :
    (l.foldl d.noisePut e).get F = x := by
  induction l generalizing e with
  | nil => exact absurd hh (List.not_mem_nil)
  | cons k l ih =>
    obtain ⟨hk, hl⟩ := List.nodup_cons.1 hl
    rw [List.foldl_cons]
    obtain rfl | hm := List.mem_cons.1 hh
    · have hkeep : ∀ (l : List Nat) (e : Dev), h ∉ l → (l.foldl d.noisePut e).reg (R.HOP_NOISE h) = e.reg (R.HOP_NOISE h) := by
        intro l
        induction l with
        | nil => exact fun _ _ => rfl
        | cons j l ih =>
          intro e hj
          rw [List.mem_cons, not_or] at hj
          exact (ih _ hj.2).trans (d.reg_noisePut_ne e (by
            show 0x0840 + 4 * h ≠ 0x0840 + 4 * j
            omega))
      rw [← hp e]
      unfold Dev.get
      rw [hF, hkeep l _ hk]
    · exact ih hl _ hm

theorem Dev.noisePut_nmax (d e : Dev) (h : Nat) : (d.noisePut e h).get (R.HOP_NOISE_NMAX h) = (d.noiseOf h).1 % 512 := by
  unfold Dev.noisePut
  rw [Dev.get_put_ne _ _ (R.HOP_NOISE_NMAX h) _ (.inr (.inr (by show 0 + 9 ≤ 16; decide))),
    Dev.get_put_ne _ _ (R.HOP_NOISE_NMAX h) _ (.inr (.inr (by show 0 + 9 ≤ 12; decide)))]
  exact Dev.get_put_self _ (R.HOP_NOISE_NMAX h) _ (by show 0 + 9 ≤ 32; decide)

theorem Dev.noisePut_worst (d e : Dev) (h : Nat) : (d.noisePut e h).get (R.HOP_NOISE_WORST h) = (d.noiseOf h).2.1 % 16 := by
  unfold Dev.noisePut
  rw [Dev.get_put_ne _ _ (R.HOP_NOISE_WORST h) _ (.inr (.inr (by show 12 + 4 ≤ 16; decide)))]
  exact Dev.get_put_self _ (R.HOP_NOISE_WORST h) _ (by show 12 + 4 ≤ 32; decide)

theorem Dev.noisePut_nmean (d e : Dev) (h : Nat) : (d.noisePut e h).get (R.HOP_NOISE_NMEAN h) = (d.noiseOf h).2.2 % 512 :=
  Dev.get_put_self _ (R.HOP_NOISE_NMEAN h) _ (by show 16 + 9 ≤ 32; decide)

theorem Dev.noiseOf_none {d : Dev} (hl : d.acq.listen = []) (h : Nat) : d.noiseOf h = (0, 0, 0) := by
  unfold Dev.noiseOf
  rw [hl]
  rfl

theorem Dev.noiseOf_clipped {d : Dev} (hl : d.acq.listen ≠ []) (hc : ∀ e ∈ d.acq.listen, e.2.1 = true) {h : Nat}
    (h1 : 4000 ≤ d.get (R.HOP_TABLE_FREQ h)) (h2 : d.get (R.HOP_TABLE_FREQ h) ≤ 60000) : d.noiseOf h = (511, 0, 511) := by
  have hg : d.acq.listen.filter (fun e => !e.2.1) = [] := by
    rw [List.filter_eq_nil_iff]
    intro e he
    simp [hc e he]
  unfold Dev.noiseOf
  extract_lets f rec_ good
  refine (if_neg ?_).trans (if_pos (List.isEmpty_iff.2 hg))
  simp only [Bool.or_eq_true, decide_eq_true_eq, List.isEmpty_iff, not_or, Nat.not_lt]
  exact ⟨⟨hl, h1⟩, h2⟩

/-- The registers that the noise levels write. -/
abbrev noiseRegs : List Nat := R.HOP_STATUS :: (List.range 8).map R.HOP_NOISE

theorem Dev.Keeps.noiseRegs (d : Dev) : Dev.Keeps { regs := noiseRegs } d d.noiseLevels :=
  (Dev.Keeps.step .refl (by decide) (Dev.Keeps.noisePuts d (List.range 8))).put (f := R.HOP_STATUS_CLIP) (by decide)

theorem Dev.noiseEvent_eq {d : Dev} {f : Frame} (hn : d.acq.now = some f) (hl : f.listened = true)
    (hm : d.clMember = false) : d.noiseEvent = d.noiseLevels := by
  unfold Dev.noiseEvent
  rw [hn]
  refine (if_pos hl).trans ?_
  unfold Dev.clNoise
  refine if_neg ?_
  rw [(Dev.Keeps.noiseRegs d).clMember (by decide) (by decide), hm]
  exact Bool.false_ne_true

theorem Dev.noiseLevels_clip {d : Dev} (h : d.acq.listen.length ≤ 16) :
    d.noiseLevels.get R.HOP_STATUS_CLIP = (d.acq.listen.filter (fun e => e.2.1)).length :=
  (Dev.get_put_self _ R.HOP_STATUS_CLIP _ (by decide)).trans
    (Nat.mod_eq_of_lt (Nat.lt_of_le_of_lt ((List.length_filter_le _ _).trans h) (by decide)))

theorem Dev.noiseLevels_get (d : Dev) {h : Nat} (hh : h < 8) (F : Field) (hF : F.addr = R.HOP_NOISE h) (x : Nat)
    (hp : ∀ e', (d.noisePut e' h).get F = x) : d.noiseLevels.get F = x := by
  rw [Dev.noiseLevels_eq, Dev.get_put_ne _ _ F _ (.inl (by
    rw [hF]
    show 0x0840 + 4 * h ≠ 0x0810
    omega))]
  exact Dev.get_noisePuts d List.nodup_range d (List.mem_range.2 hh) F hF x hp

/-! ### The mutual scan and the retries -/

/-- The symbols that channel `ch` marks in a mutual scan (R82, R84). -/
def Dev.scanBad (d : Dev) (f : Frame) (y : List (List Int)) (ovr : List (List Nat)) (low : List Nat) (ch : Nat) : List Nat :=
  if d.senseChannels.contains ch then
    (List.range d.codeLen).filter (fun j => hasSym ovr ch j || (if f.level = 0 then [] else low.filter (· < d.codeLen)).contains j ||
      residualBad d.nRows (d.get R.ACQ_CORR_RESTHR) (y.getD ch []) j)
  else []

/-- The values of a mutual scan, a symbol of each channel. -/
def Dev.scanned (d : Dev) (y : List (List Int)) : List (List Int) :=
  (List.range 32).map (fun ch => (List.range d.codeLen).map (fun j => (y.getD ch []).getD j 0))

/-- The symbols that the mutual scan asks for again. -/
def Dev.scanAsk (d : Dev) (f : Frame) (y : List (List Int)) (ovr : List (List Nat)) (low : List Nat) : List Nat :=
  (List.range d.codeLen).filter (fun j => ((List.range 32).map (d.scanBad f (d.scanned y) ovr low)).any (·.contains j))

/-- The frame `f` as its mutual scan leaves it. -/
def Dev.scanFrame (d : Dev) (f : Frame) (y : List (List Int)) (ovr : List (List Nat)) (low : List Nat) : Frame :=
  d.retryLatch { f with
    y := d.scanned y
    bad := (List.range 32).map (d.scanBad f (d.scanned y) ovr low)
    ask := d.scanAsk f y ovr low
    ncorr := (d.scanAsk f y ovr low).length
    ovl := minCh f.ovl (d.ovlOf ovr d.codeLen)
    mutDone := true }

theorem Dev.mutualScan_eq {d : Dev} {f : Frame} (hn : d.acq.now = some f) (hp : d.nextPhase f = some 1)
    (hm : f.mutDone = false) (y : List (List Int)) (ovr : List (List Nat)) (low : List Nat) :
    d.mutualScan y ovr low = d.withNow (d.scanFrame f y ovr low) := by
  unfold Dev.mutualScan
  rw [hn]
  exact if_neg (by simp [hp, hm])

theorem Dev.clMutual_alone {d : Dev} (he : d.enumerated = false) : d.clMutual = d := by
  unfold Dev.clMutual
  split
  · rfl
  · exact if_pos (by simp [he])

theorem Dev.mutualEvent_eq {d : Dev} {f : Frame} (hn : d.acq.now = some f) (hp : d.nextPhase f = some 1)
    (hm : f.mutDone = false) (he : d.enumerated = false) (y : List (List Int)) (ovr : List (List Nat)) (low : List Nat) :
    d.mutualEvent y ovr low =
      ((d.withNow (d.scanFrame f y ovr low)).vhvSeen f.level !(low.contains (d.codeLen - 1))).phaseEnd := by
  unfold Dev.mutualEvent
  rw [hn]
  refine (if_pos ⟨hp, hm⟩).trans ?_
  rw [Dev.mutualScan_eq hn hp hm, Dev.clMutual_alone (d := d.withNow (d.scanFrame f y ovr low)) he]

/-- A look at VHV leaves the frame in progress. -/
theorem Dev.vhvSeen_now (d : Dev) (l : Nat) (ok : Bool) : (d.vhvSeen l ok).acq.now = d.acq.now ∧ (d.vhvSeen l ok).clock = d.clock := by
  unfold Dev.vhvSeen
  split
  · exact ⟨rfl, rfl⟩
  · split
    · exact ⟨rfl, rfl⟩
    · exact ⟨rfl, rfl⟩

/-- The frame as the end of a phase that saw VHV leaves it. -/
theorem Dev.seenEnd_now (d : Dev) (f : Frame) (l : Nat) (ok : Bool) :
    ((d.withNow f).vhvSeen l ok).phaseEnd.acq.now = some { f with phaseAt := d.clock } := by
  obtain ⟨hn, hc⟩ := (d.withNow f).vhvSeen_now l ok
  rw [Dev.phaseEnd_now (hn.trans rfl), hc]
  rfl

theorem Dev.Keeps.seenEnd (d : Dev) (f : Frame) (l : Nat) (ok : Bool) :
    Dev.Keeps Dev.acqScope d ((d.withNow f).vhvSeen l ok).phaseEnd :=
  ((Dev.Keeps.withNow .refl).vhvSeen (by decide)).phaseEnd (by decide)

theorem Dev.retryFits_late {d : Dev} (he : d.enumerated = false) (hl : d.tick.lastTick + d.tick.spacing < d.clock + 150) (f : Frame) :
    d.retryFits f = false := by
  unfold Dev.retryFits
  rw [he, Bool.false_or, decide_eq_false_iff_not]
  omega

theorem Dev.mem_senseChannels (d : Dev) (ch : Nat) : ch ∈ d.senseChannels ↔ ch < 32 ∧ d.role ch = 2 := by
  simp [Dev.senseChannels]

theorem Dev.mem_scanBad (d : Dev) (f : Frame) (y : List (List Int)) (ovr : List (List Nat)) (low : List Nat) (ch j : Nat) :
    j ∈ d.scanBad f y ovr low ch ↔ (ch < 32 ∧ d.role ch = 2) ∧ j < d.codeLen ∧
      (j ∈ ovr.getD ch [] ∨ (f.level ≠ 0 ∧ j ∈ low) ∨ residualBad d.nRows (d.get R.ACQ_CORR_RESTHR) (y.getD ch []) j = true) := by
  rw [← Dev.mem_senseChannels]
  unfold Dev.scanBad
  split
  next hc =>
    rw [List.contains_iff_mem] at hc
    rw [List.mem_filter, List.mem_range, Bool.or_eq_true, Bool.or_eq_true, or_assoc, List.contains_iff_mem, hasSym,
      List.contains_iff_mem]
    refine ⟨fun ⟨hj, h⟩ => ⟨hc, hj, h.imp_right (Or.imp_left fun h => ?_)⟩, fun ⟨_, hj, h⟩ => ⟨hj, h.imp_right (Or.imp_left fun h => ?_)⟩⟩
    · split at h
      next => exact absurd h List.not_mem_nil
      next hl => exact ⟨hl, (List.mem_filter.1 h).1⟩
    · rw [if_neg h.1]
      exact List.mem_filter.2 ⟨h.2, by simpa using hj⟩
  next hc =>
    rw [List.contains_iff_mem] at hc
    exact ⟨fun h => absurd h List.not_mem_nil, fun h => absurd h.1 hc⟩

theorem Dev.mem_scanAsk (d : Dev) (f : Frame) (y : List (List Int)) (ovr : List (List Nat)) (low : List Nat) (j : Nat) :
    j ∈ d.scanAsk f y ovr low ↔ j < d.codeLen ∧ ∃ ch, ch < 32 ∧ d.role ch = 2 ∧
      (j ∈ ovr.getD ch [] ∨ (f.level ≠ 0 ∧ j ∈ low) ∨
        residualBad d.nRows (d.get R.ACQ_CORR_RESTHR) ((d.scanned y).getD ch []) j = true) := by
  simp only [Dev.scanAsk, List.mem_filter, List.mem_range, List.any_eq_true, List.mem_map, List.contains_iff_mem,
    exists_exists_and_eq_and, Dev.mem_scanBad]
  refine and_congr_right fun hj => exists_congr fun ch => ?_
  tauto

/-- The retry of a frame whose next symbol is `j` (R85, R86). -/
theorem Dev.retryNext_some {d : Dev} {f : Frame} {j : Nat} {rest : List Nat} (ht : f.retryTime = true) (hr : f.noRetry = false)
    (hn : f.nretry < d.get R.ACQ_AFE_RETRY) (ha : f.ask = j :: rest) (hx : ∀ e, f.exch = some e → e.1 ≤ d.clock ∧ d.clock ≤ e.2) :
    d.retryNext f = some j := by
  unfold Dev.retryNext
  rw [if_pos, ha]
  · rfl
  · rw [ht, hr, decide_eq_true hn]
    cases he : f.exch with
    | none => rfl
    | some e => simp [hx e he]

theorem Dev.retryEvent_eq {d : Dev} {f : Frame} (hn : d.acq.now = some f) {j : Nat} (hj : d.retryNext f = some j) (y : List Int)
    (ovr : List Nat) (ok : Bool) : d.retryEvent y ovr ok =
      ((d.withNow (d.retryLatch (retryFrame f j y ovr (ok || f.level == 0)))).vhvSeen f.level ok).phaseEnd := by
  unfold Dev.retryEvent
  rw [hn]
  dsimp only
  rw [hj]
  rfl

theorem retryFrame_y (f : Frame) (j : Nat) (y : List Int) (ovr : List Nat) (ok : Bool) {ch : Nat} (hc : ch < 32) :
    (retryFrame f j y ovr ok).y.getD ch [] =
      if j ∈ f.bad.getD ch [] ∧ ok = true ∧ ch ∉ ovr then (f.y.getD ch []).set j (y.getD ch 0) else f.y.getD ch [] := by
  unfold retryFrame
  simp [hc, hasSym, List.getD_eq_getElem?_getD, and_assoc, and_rotate]

/-! ### Self passes -/

/-- What a self pass gives the electrode `e.1` on channel `e.2` (R88). -/
def Dev.selfRecord (d : Dev) (f : Frame) (ys : List (List Int)) (ovr : List Nat) (low : Bool) (e : Nat × Nat) :
    Nat × Nat × Nat × Option (List Int) :=
  (e.1, e.2, d.get (R.ACQ_OFF_OFFS e.2), if ovr.contains e.2 || (low && f.selfLevel != 0) || d.elDead f e.1 then none
    else some ((List.range (d.get R.ACQ_SELF_NSELF)).map (fun j => (ys.getD e.2 []).getD j 0)))

/-- The frame `f` as a self pass leaves it. -/
def Dev.selfFrame (d : Dev) (f : Frame) (ys : List (List Int)) (ovr : List Nat) (low : Bool) : Frame :=
  { f with
    selfDone := f.selfDone + 1
    ovl := minCh f.ovl ((List.range 32).find? ovr.contains)
    selfRaw := f.selfRaw ++ (d.selfEls f.selfDone).map (d.selfRecord f ys ovr low) }

theorem Dev.selfEvent_eq {d : Dev} {f : Frame} (hn : d.acq.now = some f) (hp : d.nextPhase f = some 2) (ys : List (List Int))
    (ovr : List Nat) (low : Bool) :
    d.selfEvent ys ovr low = ((d.withNow (d.selfFrame f ys ovr low)).vhvSeen f.selfLevel !low).phaseEnd := by
  unfold Dev.selfEvent
  rw [hn]
  refine (if_pos hp).trans ?_
  unfold Dev.selfPass
  rw [hn]
  dsimp only
  rw [if_neg (not_not_intro hp)]
  rfl

/-! ### The approach burst -/

theorem length_onOff {w : OptWord} (h : w.length = 13) : (onOff w).length = 13 := by
  unfold onOff
  rw [List.length_zipWith, h]
  rfl

/-- The parts of a burst leave the driver's dither and the fault of its emitter as they were. -/
structure Dev.BurstKeeps (w : Dev.Scope) (d e : Dev) : Prop where
  keeps : Dev.Keeps w d e
  lfsr : e.opt.lfsr = d.opt.lfsr
  led : e.is R.OPT_STATUS_LEDOC = d.is R.OPT_STATUS_LEDOC

namespace Dev.BurstKeeps
variable {v w : Dev.Scope} {d e t : Dev}

theorem refl : Dev.BurstKeeps w d d := ⟨.refl, rfl, rfl⟩

theorem step (h : Dev.BurstKeeps w d e) (hw : v.le w = true) (h' : Dev.BurstKeeps v e t) : Dev.BurstKeeps w d t :=
  ⟨h.keeps.step hw h'.keeps, h'.lfsr.trans h.lfsr, h'.led.trans h.led⟩

theorem ite {c : Prop} [Decidable c] (h : Dev.BurstKeeps w d e) (h' : Dev.BurstKeeps w d t) :
    Dev.BurstKeeps w d (if c then e else t) := by
  split
  · exact h
  · exact h'

theorem put (h : Dev.BurstKeeps w d e) (F : Field) (n : Nat) (hF : w.has F.addr = true := by decide)
    (hl : R.OPT_STATUS_LEDOC.addr ≠ F.addr ∨ F.lo + F.width ≤ R.OPT_STATUS_LEDOC.lo ∨
      R.OPT_STATUS_LEDOC.lo + R.OPT_STATUS_LEDOC.width ≤ F.lo := by decide) : Dev.BurstKeeps w d (e.put F n) :=
  ⟨h.keeps.put hF, h.lfsr, (Dev.is_put_ne e F R.OPT_STATUS_LEDOC n hl).trans h.led⟩

theorem opt (h : Dev.BurstKeeps w d e) {o : Opt} (hw : w.opt = true) (ho : o.lfsr = e.opt.lfsr) :
    Dev.BurstKeeps w d { e with opt := o } :=
  ⟨h.keeps.upd (opt := fun x => by rw [hw] at x; cases x), ho.trans h.lfsr, h.led⟩

/-- What the words of a burst write. -/
abbrev words : Dev.Scope := { opt := true, regs := [R.OPT_STATUS] }

/-- An accepted word. -/
theorem optWord {x : OptWord} (hx : d.wordBad x = false) : Dev.BurstKeeps words d (d.optWord x) := by
  unfold Dev.optWord
  rw [if_neg (by rw [hx]; exact Bool.false_ne_true)]
  have h : Dev.BurstKeeps words d { d.put R.OPT_STATUS_DISCRUN 0 with opt := { d.opt with okRun := min 4 (d.opt.okRun + 1) } } :=
    (put .refl R.OPT_STATUS_DISCRUN 0).opt rfl rfl
  exact (h.put R.OPT_STATUS_BLIND 0).ite h

theorem optWords {l : List OptWord} (hl : ∀ x ∈ l, d.wordBad x = false) : Dev.BurstKeeps words d (d.optWords l).1 := by
  suffices hs : ∀ (l' : List OptWord) (p : Dev × Bool), l' ⊆ l → Dev.BurstKeeps words d p.1 →
      Dev.BurstKeeps words d (l'.foldl (fun (a : Dev × Bool) x =>
        (a.1.optWord x, a.2 || (a.1.wordBad x && a.1.get R.OPT_STATUS_DISCRUN == 15))) p).1 from
    hs l (d, false) (fun _ h => h) .refl
  intro l'
  induction l' with
  | nil => exact fun _ _ h => h
  | cons x l' ih =>
    intro p hs hp
    have hx : p.1.wordBad x = d.wordBad x := by
      unfold Dev.wordBad
      rw [hp.keeps.get]
    exact ih _ (fun y hy => hs (List.mem_cons_of_mem _ hy))
      (hp.step (by decide) (.optWord (hx.trans (hl x (hs List.mem_cons_self)))))

theorem optSample (good : List OptWord) (wins : Bool) :
    Dev.BurstKeeps { opt := true, regs := [R.OPT_STATUS, R.OPT_SAMPLE] } d (d.optSample good wins) := by
  unfold Dev.optSample
  extract_lets n d1 mean sig dist d2 per near far o d3
  have h1 : Dev.BurstKeeps { opt := true, regs := [R.OPT_STATUS, R.OPT_SAMPLE] } d d1 := put .refl R.OPT_SAMPLE_NWORD n
  have h2 : Dev.BurstKeeps { opt := true, regs := [R.OPT_STATUS, R.OPT_SAMPLE] } d d2 :=
    (h1.put R.OPT_SAMPLE_SIG (unsigned 16 sig)).put R.OPT_SAMPLE_DIST dist
  have h3 : Dev.BurstKeeps { opt := true, regs := [R.OPT_STATUS, R.OPT_SAMPLE] } d d3 := h2.opt rfl rfl
  exact h1.ite ((h3.put R.OPT_STATUS_DET 1).ite ((h3.put R.OPT_STATUS_DET 0).ite h3))

theorem optCapture (good : List OptWord) :
    Dev.BurstKeeps { opt := true, regs := [R.OPT_STATUS, R.OPT_XT] } d (d.optCapture good) := by
  unfold Dev.optCapture
  extract_lets use o o' d1
  have h1 : Dev.BurstKeeps { opt := true, regs := [R.OPT_STATUS, R.OPT_XT] } d d1 := opt .refl rfl rfl
  exact ite .refl (((h1.put R.OPT_XT_XTALK _).put R.OPT_STATUS_XTBUSY 0).ite
    (((h1.put R.OPT_STATUS_XTFAIL 1).put R.OPT_STATUS_XTBUSY 0).ite h1))

theorem optAmbient (offs : List Nat) :
    Dev.BurstKeeps { freeCount := true, opt := true, regs := [R.OPT_STATUS, R.OPT_AMB] } d (d.optAmbient offs) := by
  unfold Dev.optAmbient
  extract_lets n good prev o d1 g num lux top d2
  have h1 : Dev.BurstKeeps { freeCount := true, opt := true, regs := [R.OPT_STATUS, R.OPT_AMB] } d d1 := opt .refl rfl rfl
  have h2 : Dev.BurstKeeps { freeCount := true, opt := true, regs := [R.OPT_STATUS, R.OPT_AMB] } d d2 :=
    (h1.put R.OPT_STATUS_ASAT 1).ite h1
  refine ite ?_ (h2.put R.OPT_AMB_LUX _)
  refine put (?_ : Dev.BurstKeeps _ d d1.fresh.2) R.OPT_AMB_LUX _
  exact ⟨h1.keeps.upd (freeCount := nofun), h1.lfsr, h1.led⟩

end Dev.BurstKeeps

/-- The sample signal of accepted words (R203). -/
def Dev.burstSig (d : Dev) (good : List OptWord) : Int :=
  clampI (-32768) 32767 (roundDiv ((good.map wordSum).sum) (13 * good.length) - d.getS R.OPT_XT_XTALK)

/-- The device with the approach sample of accepted words (R203, R204). -/
def Dev.sampled (d : Dev) (good : List OptWord) : Dev :=
  ((d.put R.OPT_SAMPLE_NWORD good.length).put R.OPT_SAMPLE_SIG (unsigned 16 (d.burstSig good))).put R.OPT_SAMPLE_DIST
    (d.distance (d.burstSig good))

theorem Dev.Keeps.sampled_optSample (d : Dev) {good : List OptWord} (hg : good ≠ []) (wins : Bool) :
    Dev.Keeps { opt := true, regs := [R.OPT_STATUS] } (d.sampled good) (d.optSample good wins) := by
  unfold Dev.optSample
  extract_lets n d1 mean sig dist d2 per near far o d3
  have hs : sig = d.burstSig good :=
    congrArg (fun x => clampI (-32768) 32767 (mean - signed 16 x)) (Dev.get_put_ne d R.OPT_SAMPLE_NWORD R.OPT_XT_XTALK n (by decide))
  have hd : dist = d.distance (d.burstSig good) := by
    rw [← hs]
    show d1.distance sig = _
    unfold Dev.distance
    rw [Dev.get_put_ne d R.OPT_SAMPLE_NWORD R.OPT_DIST_DREF n (by decide), Dev.get_put_ne d R.OPT_SAMPLE_NWORD R.OPT_DIST_RREF n (by decide)]
  have h2 : d2 = d.sampled good := by
    show (d1.put R.OPT_SAMPLE_SIG (unsigned 16 sig)).put R.OPT_SAMPLE_DIST dist = _
    rw [hd, hs]
    rfl
  clear_value d2
  subst h2
  have h3 : Dev.Keeps { opt := true, regs := [R.OPT_STATUS] } (d.sampled good) d3 := Dev.Keeps.upd .refl (opt := nofun)
  rw [if_neg (by simpa [n] using hg)]
  exact Dev.Keeps.ite h3.put (Dev.Keeps.ite h3.put h3)

theorem Dev.sampled_nword (d : Dev) {good : List OptWord} (h4 : good.length ≤ 4) :
    (d.sampled good).get R.OPT_SAMPLE_NWORD = good.length := by
  unfold Dev.sampled
  rw [Dev.get_put_ne _ _ R.OPT_SAMPLE_NWORD _ (by decide), Dev.get_put_ne _ _ R.OPT_SAMPLE_NWORD _ (by decide),
    Dev.get_put_self _ R.OPT_SAMPLE_NWORD _ (by decide)]
  exact Nat.mod_eq_of_lt (by show good.length < 8; omega)

theorem Dev.sampled_sig (d : Dev) (good : List OptWord) :
    (d.sampled good).get R.OPT_SAMPLE_SIG = unsigned 16 (d.burstSig good) := by
  unfold Dev.sampled
  rw [Dev.get_put_ne _ _ R.OPT_SAMPLE_SIG _ (by decide), Dev.get_put_self _ R.OPT_SAMPLE_SIG _ (by decide)]
  refine Nat.mod_eq_of_lt ?_
  unfold unsigned
  show _ < 65536
  omega

theorem Dev.distance_le (d : Dev) (sig : Int) : d.distance sig ≤ 0x1FF := by
  unfold Dev.distance
  extract_lets dr n
  split
  · exact Nat.le_refl _
  · split
    all_goals omega

theorem Dev.sampled_dist (d : Dev) (good : List OptWord) :
    (d.sampled good).get R.OPT_SAMPLE_DIST = d.distance (d.burstSig good) :=
  (Dev.get_put_self _ R.OPT_SAMPLE_DIST _ (by decide)).trans
    (Nat.mod_eq_of_lt (Nat.lt_succ_of_le (d.distance_le _)))

/-- The device whose emitter has driven `n` chips: the ambient current set, a fault of the emitter noted, the dither run on
(R199, R205). -/
def Dev.burstLit (d : Dev) (oc : Bool) (n : Nat) : Dev :=
  let e := if oc then (d.put R.OPT_AMB_IAMB d.nextAmb).put R.OPT_STATUS_LEDOC 1 else d.put R.OPT_AMB_IAMB d.nextAmb
  { e with opt := { e.opt with lfsr := lfsrRun n e.opt.lfsr } }

theorem Dev.Keeps.burstLit (d : Dev) (oc : Bool) (n : Nat) :
    Dev.Keeps { opt := true, regs := [R.OPT_STATUS, R.OPT_AMB] } d (d.burstLit oc n) := by
  unfold Dev.burstLit
  extract_lets e o
  have he : Dev.Keeps { opt := true, regs := [R.OPT_STATUS, R.OPT_AMB] } d e :=
    Dev.Keeps.ite (Dev.Keeps.put (Dev.Keeps.put .refl)) (Dev.Keeps.put .refl)
  clear_value e
  exact he.upd (opt := nofun)

theorem Dev.burstLit_lfsr (d : Dev) (oc : Bool) (n : Nat) : (d.burstLit oc n).opt.lfsr = lfsrRun n d.opt.lfsr := by
  cases oc
  all_goals rfl

theorem Dev.burstLit_led (d : Dev) (n : Nat) : (d.burstLit true n).is R.OPT_STATUS_LEDOC = true :=
  (Dev.is_eq _ _).trans (by
    rw [← Dev.is_eq]
    exact Dev.is_putB_self (d.put R.OPT_AMB_IAMB d.nextAmb) R.OPT_STATUS_LEDOC true (by decide) (by decide))

/-- The device that has sampled the accepted words `good` of `words` and measured the ambient light of all (R200, R203,
R206). -/
def Dev.burstSampled (e : Dev) (all words good : List OptWord) : Dev :=
  (((e.optWords words).1.optSample good (e.optWords words).2).optCapture good).optAmbient (all.flatMap (fun w => w.map (·.2)))

theorem Dev.burst_eq (d : Dev) (f : Frame) {words : List OptWord} (h4 : words.length ≤ 4)
    (hw : ∀ w ∈ words, w.length = 13 ∧ d.wordBad (onOff w) = false) (oc : Bool) :
    d.burst f words oc = ((d.burstLit oc (13 * words.length)).burstSampled (words.map onOff) (words.map onOff) (words.map onOff)).optReport f
      (d.get R.OPT_STATUS_DET) (d.get R.OPT_STATUS_BLIND) := by
  have htake : (words.take 4).map onOff = words.map onOff := by rw [List.take_of_length_le h4]
  have hlen : (words.map onOff).filter (fun w => w.length == 13) = words.map onOff := by
    rw [List.filter_eq_self]
    intro w hm
    obtain ⟨v, hv, rfl⟩ := List.mem_map.1 hm
    simpa using length_onOff (hw v hv).1
  have hflat : (words.map onOff).flatten.length = 13 * words.length := by
    rw [List.length_flatten, List.map_map]
    have h13 : ∀ v ∈ words, (List.length ∘ onOff) v = 13 := fun v hv => length_onOff (hw v hv).1
    rw [List.map_congr_left h13, List.map_const', List.sum_replicate, smul_eq_mul, Nat.mul_comm]
  have hgood : (words.map onOff).filter (fun w => !(d.burstLit oc (13 * words.length)).wordBad w) = words.map onOff := by
    rw [List.filter_eq_self]
    intro w hm
    obtain ⟨v, hv, rfl⟩ := List.mem_map.1 hm
    have hb : (d.burstLit oc (13 * words.length)).wordBad (onOff v) = d.wordBad (onOff v) := by
      unfold Dev.wordBad
      rw [(Dev.Keeps.burstLit d oc _).get]
    rw [hb, (hw v hv).2]
    rfl
  have hall : d.burst f words oc = ((d.burstLit oc ((words.take 4).map onOff).flatten.length).burstSampled ((words.take 4).map onOff)
      (((words.take 4).map onOff).filter (fun w => w.length == 13))
      ((((words.take 4).map onOff).filter (fun w => w.length == 13)).filter
        (fun w => !(d.burstLit oc ((words.take 4).map onOff).flatten.length).wordBad w))).optReport f
      (d.get R.OPT_STATUS_DET) (d.get R.OPT_STATUS_BLIND) := rfl
  rw [hall, htake, hlen, hflat, hgood]

theorem Dev.burstSampled_spec {d : Dev} {good : List OptWord} (hg : good ≠ []) (h4 : good.length ≤ 4)
    (hw : ∀ w ∈ good, d.wordBad w = false) :
    Dev.BurstKeeps { freeCount := true, opt := true, regs := [R.OPT_STATUS, R.OPT_SAMPLE, R.OPT_XT, R.OPT_AMB] } d (d.burstSampled good good good) ∧
      (d.burstSampled good good good).get R.OPT_SAMPLE_NWORD = good.length ∧
      (d.burstSampled good good good).get R.OPT_SAMPLE_SIG = unsigned 16 (d.burstSig good) ∧
      (d.burstSampled good good good).get R.OPT_SAMPLE_DIST = d.distance (d.burstSig good) := by
  have h1 := Dev.BurstKeeps.optWords hw
  have hsig : (d.optWords good).1.burstSig good = d.burstSig good := by
    unfold Dev.burstSig Dev.getS
    rw [h1.keeps.get]
  have hdist : (d.optWords good).1.distance (d.burstSig good) = d.distance (d.burstSig good) := by
    unfold Dev.distance
    rw [h1.keeps.get, h1.keeps.get]
  have hs : Dev.Keeps { freeCount := true, opt := true, regs := [R.OPT_STATUS, R.OPT_XT, R.OPT_AMB] } ((d.optWords good).1.sampled good)
      (d.burstSampled good good good) :=
    ((Dev.Keeps.step .refl (by decide) (Dev.Keeps.sampled_optSample _ hg _)).optCapture (by decide)).optAmbient (by decide)
  refine ⟨(((Dev.BurstKeeps.step .refl (by decide) h1).step (by decide) (.optSample good _)).step (by decide)
    (.optCapture good)).step (by decide) (.optAmbient _), ?_, ?_, ?_⟩
  · exact hs.get.trans (Dev.sampled_nword _ h4)
  · exact hs.get.trans ((Dev.sampled_sig _ _).trans (by rw [hsig]))
  · exact hs.get.trans ((Dev.sampled_dist _ _).trans (by rw [hsig, hdist]))

/-- A report of the approach channel leaves the converter of the channel. -/
theorem Dev.optReport_opt (d : Dev) (f : Frame) (det blind : Nat) : (d.optReport f det blind).opt.lfsr = d.opt.lfsr := by
  unfold Dev.optReport
  extract_lets changed d1 div n nth o d2
  have h1 : Dev.Keeps Dev.eventScope d d1 := Dev.Keeps.ite (Dev.Keeps.event .refl) .refl
  have hl1 : d1.opt.lfsr = d.opt.lfsr := congrArg Opt.lfsr (h1.opt rfl)
  split
  · split
    · exact (congrArg Opt.lfsr ((Dev.Keeps.wakeGesture (w := Dev.wakeGestureScope) (d₀ := d1) .refl).opt rfl)).trans hl1
    · exact hl1
  · split
    · exact (congrArg Opt.lfsr ((Dev.Keeps.report (w := Dev.reportScope) (d₀ := d2) .refl).opt rfl)).trans hl1
    · exact hl1

theorem Dev.burstEvent_eq {d : Dev} {f : Frame} (hn : d.acq.now = some f) (hp : d.nextPhase f = some 3) (ha : f.approach = true)
    (ho : d.domOn 11 = true) (words : List OptWord) (oc : Bool) :
    d.burstEvent words oc = ((d.withNow { f with apDone := true }).burst f words oc).phaseEnd := by
  have hd : f.apDone = false := by
    have h := List.find?_some (show f.order.find? (fun c => !d.phaseOver f c) = some 3 from by
      unfold Dev.nextPhase at hp
      split at hp
      · exact hp
      · exact absurd hp.symm (Option.some_ne_none _))
    simpa [Dev.phaseOver] using h
  have hl : d.optLive = true := by rw [Dev.optLive, ho, Bool.true_or]
  unfold Dev.burstEvent
  rw [hn]
  refine (if_pos ⟨hp, ha⟩).trans ?_
  unfold Dev.approachBurst
  rw [hn]
  dsimp only
  rw [if_neg (by rw [ha, hd, hl]; decide)]
  rfl

theorem Dev.burstEvent_spec {d : Dev} {f : Frame} (hn : d.acq.now = some f) (hp : d.nextPhase f = some 3) (ha : f.approach = true)
    (ho : d.domOn 11 = true) {words : List OptWord} (h0 : words ≠ []) (h4 : words.length ≤ 4)
    (hw : ∀ w ∈ words, w.length = 13 ∧ d.wordBad (onOff w) = false) (oc : Bool) {t : Dev} (ht : t = d.burstEvent words oc) :
    (∃ g, t.acq.now = some g ∧ g.apDone = true ∧ g.tick = f.tick) ∧ t.get R.OPT_SAMPLE_NWORD = words.length ∧
      t.get R.OPT_SAMPLE_SIG = unsigned 16 (d.burstSig (words.map onOff)) ∧
      t.get R.OPT_SAMPLE_DIST = d.distance (d.burstSig (words.map onOff)) ∧
      t.opt.lfsr = lfsrRun (13 * words.length) d.opt.lfsr ∧ (oc = true → t.is R.OPT_STATUS_LEDOC = true) := by
  set d1 := d.withNow { f with apDone := true } with hd1
  set e := d1.burstLit oc (13 * words.length) with he
  set g := e.burstSampled (words.map onOff) (words.map onOff) (words.map onOff) with hg
  set r := g.optReport f (d1.get R.OPT_STATUS_DET) (d1.get R.OPT_STATUS_BLIND) with hr
  have hlit : Dev.Keeps _ d1 e := Dev.Keeps.burstLit d1 oc _
  have hgood : ∀ x ∈ words.map onOff, e.wordBad x = false := by
    intro x hx
    obtain ⟨v, hv, rfl⟩ := List.mem_map.1 hx
    have hb : e.wordBad (onOff v) = d1.wordBad (onOff v) := by
      unfold Dev.wordBad
      rw [hlit.get]
    exact hb.trans (hw v hv).2
  obtain ⟨hk, hN, hS, hD⟩ := Dev.burstSampled_spec (d := e) (good := words.map onOff) (by simpa using h0) (by simpa using h4) hgood
  have hrep : Dev.Keeps Dev.optReportScope g r := Dev.Keeps.optReport .refl
  have htr : t = r.phaseEnd := by
    rw [ht, Dev.burstEvent_eq hn hp ha ho, Dev.burst_eq d1 f h4 hw oc]
  have hend : Dev.Keeps Dev.phaseEndScope r t := by
    rw [htr]
    exact Dev.Keeps.phaseEnd .refl
  have hsig : e.burstSig (words.map onOff) = d.burstSig (words.map onOff) := by
    unfold Dev.burstSig Dev.getS
    rw [hlit.get]
    rfl
  have hdist : ∀ x, e.distance x = d.distance x := by
    intro x
    unfold Dev.distance
    rw [hlit.get, hlit.get]
    rfl
  have hnow : r.acq.now = some { f with apDone := true } := by
    rw [hrep.acq rfl, hk.keeps.acq rfl, hlit.acq rfl]
    rfl
  refine ⟨⟨{ f with apDone := true, phaseAt := r.clock }, ?_, rfl, rfl⟩, ?_, ?_, ?_, ?_, ?_⟩
  · rw [htr]
    exact Dev.phaseEnd_now hnow
  · rw [hend.get, hrep.get, hN, List.length_map]
  · rw [hend.get, hrep.get, hS, hsig]
  · rw [hend.get, hrep.get, hD, hsig, hdist]
  · rw [hend.opt rfl, Dev.optReport_opt, hk.lfsr, Dev.burstLit_lfsr]
    rfl
  · rintro rfl
    rw [hend.is, hrep.is, hk.led]
    exact Dev.burstLit_led d1 _

/-! ### The statement -/

/-- The listen slot and the noise levels of a frame (R79, R102–R106). -/
theorem Dev.listened_spec {d : Dev} {f : Frame} (hn : d.acq.now = some f) (hl : f.listened = false)
    (inputs : List (Nat × Bool × List Nat)) : Dev.Keeps Dev.acqScope d (d.listenSlot inputs) ∧
      (d.listenSlot inputs).acq.now = some { d.listenedFrame f inputs with phaseAt := d.clock } ∧
      (d.listenSlot inputs).acq.listen = d.recorded (d.afeRunFrame f) inputs := by
  rw [Dev.listenSlot_eq hn hl]
  have hk : Dev.Keeps Dev.acqScope d (d.listened f inputs) := Dev.Keeps.upd .refl (acq := nofun)
  exact ⟨hk.phaseEnd (by decide), Dev.phaseEnd_now rfl, Dev.phaseEnd_listen _⟩

/-- Settles O35: each measurement of a frame by its equation. -/
theorem frameMeasurementsAreTaken : Obligations.FrameMeasurementsAreTaken := by
  unfold Obligations.FrameMeasurementsAreTaken
  intro only pairs
  refine ⟨fun f inputs => ⟨?_, ?_⟩, fun f y ovr low => ?_, fun f y ovr ok j rest => ?_, fun f ys ovr low => ?_, fun f words oc => ?_⟩
  · refine leaves_of_act (f := fun d => d.listenSlot inputs) (fun _ => rfl) fun d _ ⟨hn, hl⟩ => ?_
    obtain ⟨hk, hnow, hlist⟩ := Dev.listened_spec hn hl inputs
    refine ⟨hk.acqOnly, ⟨_, hnow, rfl, rfl, rfl, rfl⟩, ?_, fun ht => ?_⟩
    · rw [hlist]
      exact d.recorded_pairs _ inputs
    · rw [hlist, show d.afeRunFrame f = false by simp [Dev.afeRunFrame, ht]]
      exact d.recorded_inputs inputs
  · refine leaves_of_act (f := fun d => d.noiseEvent) (fun _ => rfl) fun d _ ⟨hn, hl, hm, h16⟩ => ?_
    rw [Dev.noiseEvent_eq hn hl hm]
    refine ⟨(Dev.Keeps.noiseRegs d).butRegs, Dev.noiseLevels_clip h16, fun h hh => ⟨fun he => ?_, fun he hc h1 h2 => ?_⟩⟩
    · have h0 := Dev.noiseOf_none he h
      exact ⟨d.noiseLevels_get hh _ rfl 0 fun e => (d.noisePut_nmax e h).trans (congrArg (fun p : Nat × Nat × Nat => p.1 % 512) h0),
        d.noiseLevels_get hh _ rfl 0 fun e => (d.noisePut_nmean e h).trans (congrArg (fun p : Nat × Nat × Nat => p.2.2 % 512) h0),
        d.noiseLevels_get hh _ rfl 0 fun e => (d.noisePut_worst e h).trans (congrArg (fun p : Nat × Nat × Nat => p.2.1 % 16) h0)⟩
    · have h0 := Dev.noiseOf_clipped he hc h1 h2
      exact ⟨d.noiseLevels_get hh _ rfl 511 fun e => (d.noisePut_nmax e h).trans (congrArg (fun p : Nat × Nat × Nat => p.1 % 512) h0),
        d.noiseLevels_get hh _ rfl 511 fun e => (d.noisePut_nmean e h).trans (congrArg (fun p : Nat × Nat × Nat => p.2.2 % 512) h0)⟩
  · refine leaves_of_act (f := fun d => d.mutualEvent y ovr low) (fun _ => rfl) fun d _ ⟨hn, hp, hm, he⟩ => ?_
    rw [Dev.mutualEvent_eq hn hp hm he]
    refine ⟨(Dev.Keeps.seenEnd d _ _ _).acqOnly, _, Dev.seenEnd_now d _ _ _, rfl, rfl, rfl, fun hl => ?_, fun j => ?_⟩
    · show (_ || !d.retryFits _) = true
      rw [Dev.retryFits_late he hl, Bool.not_false, Bool.or_true]
    · exact d.mem_scanAsk f y ovr low j
  · refine leaves_of_act (f := fun d => d.retryEvent y ovr ok) (fun _ => rfl) fun d _ ⟨hn, ht, hr, hN, ha, hx⟩ => ?_
    rw [Dev.retryEvent_eq hn (Dev.retryNext_some ht hr hN ha hx)]
    refine ⟨(Dev.Keeps.seenEnd d _ _ _).acqOnly, _, Dev.seenEnd_now d _ _ _, rfl, ?_, fun ch hc => ?_⟩
    · show f.ask.erase j = rest
      rw [ha, List.erase_cons_head]
    · refine (retryFrame_y f j y ovr _ hc).trans ?_
      simp only [Bool.or_eq_true, beq_iff_eq]
  · refine leaves_of_act (f := fun d => d.selfEvent ys ovr low) (fun _ => rfl) fun d _ ⟨hn, hp⟩ => ?_
    rw [Dev.selfEvent_eq hn hp]
    refine ⟨(Dev.Keeps.seenEnd d _ _ _).acqOnly, _, (d.selfEls f.selfDone).map (d.selfRecord f ys ovr low), Dev.seenEnd_now d _ _ _,
      rfl, rfl, ?_, fun e he => ?_⟩
    · rw [List.map_map]
      exact List.map_id _
    · obtain ⟨x, -, rfl⟩ := List.mem_map.1 he
      simp only [Dev.selfRecord, Bool.or_eq_true, Bool.and_eq_true, List.contains_iff_mem, bne_iff_ne, or_assoc]
  · refine leaves_of_act (f := fun d => d.burstEvent words oc) (fun _ => rfl) fun d _ ⟨hn, hp, ha, ho, h0, h4, hw⟩ => ?_
    obtain ⟨hnow, hN, hS, hD, hL, hO⟩ := Dev.burstEvent_spec hn hp ha ho h0 h4 hw oc rfl
    have hsig : clampI (-32768) 32767 (roundDiv ((words.map (fun w => wordSum (onOff w))).sum) (13 * words.length) -
        d.getS R.OPT_XT_XTALK) = d.burstSig (words.map onOff) := by
      unfold Dev.burstSig
      rw [List.map_map, List.length_map]
      rfl
    dsimp only
    rw [hsig]
    exact ⟨hnow, hN, hS, hD, hL, hO⟩

end Sys2Proof.Machine
end

section
/-!
Proofs for the end of a frame and its processing (chapters 02 and 03): the statement O36.
-/

namespace Sys2Proof.Machine
set_option Elab.async false

/-! ### What is left of the image engine's frame -/

/-- All but the acquisition and the time. -/
abbrev Dev.exceptAcq : Dev.Scope :=
  { freeCount := true, staged := true, mem := true, sys := true, tick := true, hop := true, img := true, ct := true,
    opt := true, aux := true, cal := true, seq := true, panel := true, hp := true, ring := true, cl := true, pp := true, pwr := true,
    flt := true, fams := [(0, 1)] }

/-- The time is as before, and where `d` has no frame in the image engine, `t` has none. -/
structure Dev.StaysIdle (d t : Dev) : Prop where
  clock : t.clock = d.clock
  proc : d.acq.proc = none → t.acq.proc = none

namespace Dev.StaysIdle
variable {d e t : Dev}

theorem refl : Dev.StaysIdle d d := ⟨rfl, fun h => h⟩

theorem trans (h : Dev.StaysIdle d e) (h' : Dev.StaysIdle e t) : Dev.StaysIdle d t :=
  ⟨h'.clock.trans h.clock, fun x => h'.proc (h.proc x)⟩

theorem of_keeps (h : Dev.Keeps Dev.exceptAcq d t) : Dev.StaysIdle d t :=
  ⟨h.clock rfl, fun x => (congrArg Acq.proc (h.acq rfl)).trans x⟩

/-- An update of the acquisition that leaves the frame in the image engine. -/
theorem of_acq {a : Acq} (h : a.proc = d.acq.proc := by rfl) : Dev.StaysIdle d { d with acq := a } := ⟨rfl, fun x => h.trans x⟩

theorem ite {c : Prop} [Decidable c] (h : Dev.StaysIdle d e) (h' : Dev.StaysIdle d t) : Dev.StaysIdle d (if c then e else t) := by
  split
  · exact h
  · exact h'

theorem foldl {α : Type} {f : Dev → α → Dev} {l : List α} (hf : ∀ x a, Dev.StaysIdle x (f x a)) : Dev.StaysIdle d (l.foldl f d) := by
  induction l generalizing d with
  | nil => exact refl
  | cons a l ih => exact (hf d a).trans ih

theorem foldl_fst {α β : Type} {f : Dev × β → α → Dev × β} {l : List α} {p : Dev × β} (hf : ∀ p a, Dev.StaysIdle p.1 (f p a).1) :
    Dev.StaysIdle p.1 (l.foldl f p).1 := by
  induction l generalizing p with
  | nil => exact refl
  | cons a l ih => exact (hf p a).trans ih

theorem pumpTo (l : Nat) : Dev.StaysIdle d (d.pumpTo l) := by
  unfold Dev.pumpTo
  split
  · exact refl
  · split
    · exact ⟨rfl, fun h => h⟩
    · split
      · exact ⟨rfl, fun h => h⟩
      · exact ⟨rfl, fun h => h⟩

theorem acqStop : Dev.StaysIdle d d.acqStop := by
  refine ⟨(Dev.Keeps.acqStop (d₀ := d) (w := Dev.acqStopScope) .refl).clock rfl, fun _ => ?_⟩
  unfold Dev.acqStop
  exact (pumpTo _).proc rfl

theorem halt {src cause detail : Nat} : Dev.StaysIdle d (d.halt src cause detail) := by
  unfold Dev.halt
  extract_lets heath1 d1 d2 d3 d4 d5 d6 d7 auxCmd1 d8 d9 e1 e2 e3 e4 e5 d10 d11 d12
  have hd5 : Dev.Keeps Dev.exceptAcq d4 d5 := Dev.Keeps.ite (Dev.Keeps.stopCore .refl) .refl
  have hd6 : Dev.Keeps Dev.exceptAcq d4 d6 := hd5.swapHalted
  have hd7 : Dev.Keeps Dev.exceptAcq d4 d7 := hd6.put
  have hd8 : Dev.Keeps Dev.exceptAcq d4 d8 := Dev.Keeps.ite hd7.put.put.put hd7
  have hd9 : Dev.Keeps Dev.exceptAcq d4 d9 := Dev.Keeps.ite hd8.put hd8
  have hd10 : Dev.Keeps Dev.exceptAcq d4 d10 := hd9.upd (img := nofun) (cal := nofun) (ring := nofun) (cl := nofun) (pwr := nofun)
  have hd11 : Dev.Keeps Dev.exceptAcq d4 d11 := hd10.ppHalt.pwrTick.pwrBusy
  have hd12 : Dev.Keeps Dev.exceptAcq d4 d12 := Dev.Keeps.ite hd11.hostBack hd11.switchOnOne
  have hd3 : Dev.Keeps Dev.exceptAcq d d3 := Dev.Keeps.setSt (Dev.Keeps.clusterDown (Dev.Keeps.put (Dev.Keeps.put (Dev.Keeps.put .refl))))
  exact ite refl (((of_keeps hd3).trans acqStop).trans (of_keeps hd12.safeState.holdAttn))

theorem takeAction {a : Nat × Nat × Nat} : Dev.StaysIdle d (d.takeAction a) := by
  unfold Dev.takeAction
  split
  extract_lets act
  refine ite refl (ite halt (ite (ite (of_keeps (Dev.Keeps.upd .refl (flt := nofun))) (ite ?_ (ite ?_ (ite ?_ refl)))) refl))
  · exact of_keeps (Dev.Keeps.upd .refl (flt := nofun))
  · exact of_keeps (Dev.Keeps.ppDisarmPeriodic .refl)
  · exact of_keeps (Dev.Keeps.runEnds (Dev.Keeps.ite (Dev.Keeps.clusterDown .refl) .refl))

theorem settleFaults {n : Nat} : Dev.StaysIdle d (Dev.settleFaults n d) := by
  induction n generalizing d with
  | zero => exact of_keeps (Dev.Keeps.upd .refl (flt := nofun))
  | succ n ih =>
    unfold Dev.settleFaults
    exact ite refl ((of_keeps (Dev.Keeps.upd .refl (flt := nofun))).trans ((foldl fun _ _ => takeAction).trans ih))

theorem raise {src detail : Nat} : Dev.StaysIdle d (d.raise src detail) :=
  (of_keeps (Dev.Keeps.noteEvent .refl)).trans settleFaults

theorem calEnds {f : Dev → Dev} (hf : Dev.StaysIdle d (f d)) : Dev.StaysIdle d (d.calEnds f) := by
  unfold Dev.calEnds
  exact ite (hf.trans settleFaults) hf

theorem eccFlush : Dev.StaysIdle d d.eccFlush := by
  unfold Dev.eccFlush
  exact ite refl ((of_keeps (Dev.Keeps.eccNote .refl)).trans settleFaults)

theorem eccTouch {client o n : Nat} : Dev.StaysIdle d (d.eccTouch client o n) :=
  (of_keeps (Dev.Keeps.foldl (fun _ _ h => h.eccMeet) .refl)).trans eccFlush

theorem clDelta {frame : Nat} : Dev.StaysIdle d (d.clDelta frame) := by
  unfold Dev.clDelta
  extract_lets cols idx prof zero packed sent flags stale mk miss last out
  refine ite refl (foldl_fst (p := (d, _)) fun p b => ?_)
  show Dev.StaysIdle p.1 (p.1.deltaOut _ _ _)
  unfold Dev.deltaOut
  extract_lets d1 psn
  have h1 : Dev.StaysIdle p.1 d1 := ite ((of_keeps (Dev.Keeps.xwriteClean .refl)).trans eccTouch) refl
  exact h1.trans (of_keeps (Dev.Keeps.clSend .refl))

theorem openAxis {meds : List (Nat × Int)} : Dev.StaysIdle d (d.openAxis meds) := by
  unfold Dev.openAxis
  extract_lets ref pct
  refine foldl fun x a => ?_
  split
  extract_lets n put d1 e1 d2 d3
  refine ite refl (ite ?_ of_acq)
  refine Dev.StaysIdle.trans (e := d3) ?_ raise
  have h1 : Dev.StaysIdle x d1 := (of_keeps (Dev.Keeps.supDrop (d := x) .refl)).trans of_acq
  have h2 : Dev.StaysIdle x d2 := h1.trans of_acq
  exact h2.trans (ite (of_keeps (Dev.Keeps.put .refl)) (of_keeps (Dev.Keeps.put .refl)))

theorem openFrame {f : Frame} : Dev.StaysIdle d (d.openFrame f) := by
  unfold Dev.openFrame
  extract_lets nodes med cols rows
  exact ite refl (openAxis.trans openAxis)

/-! ### The kinds of frames -/

theorem caldParts {frame n : Nat} {cs : List (Nat × Int)} {rs : List (Nat × Int × Nat)} :
    Dev.Keeps Dev.exceptAcq d (d.caldParts frame n cs rs) := by
  suffices h : ∀ e cs rs, Dev.Keeps Dev.exceptAcq d e → Dev.Keeps Dev.exceptAcq d (e.caldParts frame n cs rs) from h d cs rs .refl
  induction n with
  | zero => exact fun _ _ _ h => h
  | succ n ih =>
    intro e cs rs h
    unfold Dev.caldParts
    extract_lets more now e1
    have h1 : Dev.Keeps Dev.exceptAcq d e1 := h.clSend
    exact Dev.Keeps.ite (ih _ _ _ h1) h1

theorem calrParts {frame kind : Nat} {pan : Int} {n : Nat} {gs : List Nat} :
    Dev.Keeps Dev.exceptAcq d (d.calrParts frame kind pan n gs) := by
  suffices h : ∀ e gs, Dev.Keeps Dev.exceptAcq d e → Dev.Keeps Dev.exceptAcq d (e.calrParts frame kind pan n gs) from h d gs .refl
  induction n with
  | zero => exact fun _ _ h => h
  | succ n ih =>
    intro e gs h
    unfold Dev.calrParts
    extract_lets more now e1
    have h1 : Dev.Keeps Dev.exceptAcq d e1 := h.clSend
    exact Dev.Keeps.ite (ih _ _ h1) h1

theorem calrSend {f : Frame} {kind : Nat} : Dev.Keeps Dev.exceptAcq d (d.calrSend f kind) := by
  unfold Dev.calrSend
  split
  · exact Dev.Keeps.ite calrParts .refl
  · exact .refl

/-- A frame of the CAL run that a member takes part in. -/
theorem memberRun {f : Frame} : Dev.Keeps Dev.exceptAcq d
    (match d.cal.touch with
      | some t => ({ d with cal := { d.cal with touch := some (d.calMember f t) } } : Dev).caldSend f (d.calMember f t)
      | none => d) := by
  split
  · exact Dev.Keeps.step (Dev.Keeps.upd .refl (cal := nofun)) (by decide) caldParts
  · exact .refl

theorem memberFrame {f : Frame} : Dev.StaysIdle d (d.memberFrame f) := by
  unfold Dev.memberFrame
  split
  · have h2 : Dev.Keeps Dev.exceptAcq d (d.freezeFrame.setEls (d.freezeFrame.img.els.map (d.freezeFrame.measure f))) :=
      (Dev.Keeps.freezeFrame .refl).setEls
    exact ((of_keeps h2).trans (of_keeps memberRun)).trans clDelta
  · generalize hp : d.swardBefore f = p
    obtain ⟨e, use, rs⟩ := p
    have he : Dev.Keeps Dev.exceptAcq d e := Dev.Keeps.of_fst hp (Dev.Keeps.swardBefore .refl)
    exact (ite (of_keeps he.groupsFrame.swardAfter) (of_keeps he)).trans clDelta

theorem contacts {cs : List Contact} : Dev.Keeps Dev.exceptAcq d { d with ct := { d.ct with contacts := cs } } :=
  Dev.Keeps.upd .refl (ct := nofun)

theorem viewFrame {f : Frame} {ended : List (Contact × Nat)} {r : Nat} : Dev.Keeps Dev.exceptAcq d (d.viewFrame f ended r).1 := by
  unfold Dev.viewFrame
  extract_lets fr mask n upd res last ups single c d1 taps
  have h1 : Dev.Keeps Dev.exceptAcq d d1 := contacts
  generalize hp : List.foldl _ (d1, _) taps = p
  obtain ⟨e, tapR⟩ := p
  have he : Dev.Keeps Dev.exceptAcq d e := by
    refine Dev.Keeps.of_fst hp (Dev.Keeps.foldl_fst (fun p k hk => ?_) h1)
    exact hk.upd (ct := nofun)
  exact Dev.Keeps.upd (e := e) he (ct := nofun)

theorem gestureFrame {f : Frame} {ended : List (Contact × Nat)} : Dev.Keeps Dev.exceptAcq d (d.gestureFrame f ended) := by
  unfold Dev.gestureFrame
  refine Dev.Keeps.ite (Dev.Keeps.upd .refl (ct := nofun)) (Dev.Keeps.foldl (fun x r hx => ?_) .refl)
  exact Dev.Keeps.foldl (fun _ _ h => h.report) (Dev.Keeps.step hx (by decide) viewFrame)

theorem liveFrame {f : Frame} : Dev.Keeps Dev.exceptAcq d (d.liveFrame f) := by
  unfold Dev.liveFrame
  generalize hp : d.swardBefore f = p
  obtain ⟨e, use, rs⟩ := p
  have he : Dev.Keeps Dev.exceptAcq d e := Dev.Keeps.of_fst hp (Dev.Keeps.swardBefore .refl)
  dsimp only
  generalize hq : (if use && !e.membersForm then e.contactFrame f e.lastFrame else e.endContacts rrReform) = q
  obtain ⟨e', recs, ended⟩ := q
  have he' : Dev.Keeps Dev.exceptAcq d e' := Dev.Keeps.of_fst hq (Dev.Keeps.ite_fst he.contactFrame he.endContacts)
  dsimp only
  have hs : Dev.Keeps Dev.exceptAcq d (if use then (e'.gorseFrame f).swardRest f ended rs else e'.gorseFrame f) :=
    Dev.Keeps.ite he'.gorseFrame.swardRest he'.gorseFrame
  exact (Dev.Keeps.step hs.touchFrame.rejectFrame (by decide) gestureFrame).ctKeys

theorem wakeFrame {f : Frame} {ended : List (Contact × Nat)} : Dev.Keeps Dev.exceptAcq d (d.wakeFrame f ended) := by
  unfold Dev.wakeFrame
  extract_lets fr n res swipe c d1 taps
  have h1 : Dev.Keeps Dev.exceptAcq d d1 := contacts
  generalize hp : List.foldl _ (d1, _) taps = p
  obtain ⟨e, dbl⟩ := p
  have he : Dev.Keeps Dev.exceptAcq d e := by
    refine Dev.Keeps.of_fst hp (Dev.Keeps.foldl_fst (fun p k hk => ?_) h1)
    exact hk.upd (ct := nofun)
  clear hp
  clear_value swipe
  rcases dbl with _ | ⟨x, y, id⟩
  · rcases swipe with _ | ⟨k, l⟩
    · exact Dev.Keeps.ite he.wakeGesture he
    · exact Dev.Keeps.ite he.wakeGesture he
  · exact Dev.Keeps.ite he.wakeGesture he

theorem heathFrame {f : Frame} : Dev.Keeps Dev.exceptAcq d (d.heathFrame f) := by
  unfold Dev.heathFrame
  generalize hp : d.swardBefore f = p
  obtain ⟨e, use, rs⟩ := p
  have he : Dev.Keeps Dev.exceptAcq d e := Dev.Keeps.of_fst hp (Dev.Keeps.swardBefore .refl)
  dsimp only
  generalize hq : (if use && !e.membersForm then e.contactFrame f false else e.endContacts rrReform) = q
  obtain ⟨e', recs, ended⟩ := q
  have he' : Dev.Keeps Dev.exceptAcq d e' := Dev.Keeps.of_fst hq (Dev.Keeps.ite_fst he.contactFrame he.endContacts)
  dsimp only
  have hs : Dev.Keeps Dev.exceptAcq d (if use then (e'.gorseFrame f).swardRest f ended rs else e'.gorseFrame f) :=
    Dev.Keeps.ite he'.gorseFrame.swardRest he'.gorseFrame
  exact Dev.Keeps.ite (Dev.Keeps.step hs.rejectFrame.ctKeys (by decide) wakeFrame) hs.rejectFrame.ctKeys

theorem runFrame {f : Frame} : Dev.StaysIdle d (d.runFrame f) := by
  unfold Dev.runFrame
  extract_lets d1 d2 recs kind
  have h2 : Dev.Keeps Dev.exceptAcq d d2 := (Dev.Keeps.freezeFrame .refl).setEls.gorseFrame
  exact ((of_keeps h2.touchFrame).trans (calEnds (of_keeps (Dev.Keeps.calFrame .refl)))).trans (of_keeps calrSend)

end Dev.StaysIdle

/-- The device as the image engine has processed the frame `f` by its kind (R57). -/
def Dev.kindFrame (d : Dev) (f : Frame) : Dev :=
  if d.isMember then d.memberFrame f else if f.heath then d.heathFrame f
  else if d.isRunFrame f then d.runFrame f else d.liveFrame f

theorem Dev.StaysIdle.kindFrame {d : Dev} {f : Frame} : Dev.StaysIdle d (d.kindFrame f) :=
  .ite .memberFrame (.ite (.of_keeps Dev.StaysIdle.heathFrame) (.ite .runFrame (.of_keeps Dev.StaysIdle.liveFrame)))

/-- The device as it reports a processed frame that has not halted it. -/
def Dev.frameDone (d : Dev) (f : Frame) (run : Bool) : Dev :=
  let d := d.openFrame f
  let d := if run then d else d.dumpFrame f
  let d := d.imgTime f
  let d := if d.st = stRunning ∨ d.st = stStopping then (if f.heath then d else d.raiseFrame) else d
  let d := d.stageSend
  if d.st = stParked then (if d.acq.ready.isEmpty then d.parkedStop else d)
  else if f.heath then d.hfoStop else d

/-- The device whose image engine has no frame. -/
def Dev.noProc (d : Dev) : Dev := { d with acq := { d.acq with proc := none } }

theorem Dev.frameProcessed_eq {d : Dev} {f : Frame} (hp : d.acq.proc = some f) : d.frameProcessed =
    if (d.noProc.kindFrame f).st = stHalted then d.noProc.kindFrame f
    else (d.noProc.kindFrame f).frameDone f (d.isRunFrame f) := by
  unfold Dev.frameProcessed
  rw [hp]
  rfl

theorem Dev.imgTime_last (d : Dev) (f : Frame) : (d.imgTime f).get R.TICK_IMGTIME_LAST = min 65535 (d.clock - f.at_) := by
  have h : (d.put R.TICK_IMGTIME_LAST (min 65535 (d.clock - f.at_))).get R.TICK_IMGTIME_LAST = min 65535 (d.clock - f.at_) :=
    (Dev.get_put_self _ R.TICK_IMGTIME_LAST _ (by decide)).trans (Nat.mod_eq_of_lt (by show _ < 65536; omega))
  unfold Dev.imgTime
  extract_lets n d1
  split
  · exact (Dev.get_put_ne _ R.TICK_IMGTIME_MAX R.TICK_IMGTIME_LAST _ (by decide)).trans h
  · exact h

/-- What follows the processing time leaves it. -/
abbrev Dev.afterTime : Dev.Scope :=
  { Dev.exceptAcq with fams := [], regs := [R.CT_STATUS, R.CT_VKEYS, R.CT_RGOCC, R.SEQ_EVPEND, R.HP_ATTN, R.XR_ECCSB, R.XR_ECCDB, R.RQ_PI,
    R.RQ_CI, R.RQ_SEQX, R.RQ_LOST, R.RQ_STATUS, R.IMG_STATUS, R.IMG_NODES] }

theorem Dev.frameDone_spec (d : Dev) (f : Frame) (run : Bool) : Dev.StaysIdle d (d.frameDone f run) ∧
    (d.frameDone f run).get R.TICK_IMGTIME_LAST = min 65535 (d.clock - f.at_) := by
  unfold Dev.frameDone
  extract_lets d1 d2 d3 d4 d5
  have h1 : Dev.StaysIdle d d1 := .openFrame
  have h2 : Dev.StaysIdle d d2 := h1.trans (.ite .refl (.of_keeps (Dev.Keeps.dumpFrame .refl)))
  have h3 : Dev.StaysIdle d d3 := h2.trans (.of_keeps (Dev.Keeps.imgTime .refl))
  have h5 : Dev.Keeps Dev.afterTime d3 d5 :=
    (Dev.Keeps.ite (Dev.Keeps.ite .refl (Dev.Keeps.raiseFrame .refl)) .refl : Dev.Keeps Dev.afterTime d3 d4).stageSend
  generalize ht : (if d5.st = stParked then if d5.acq.ready.isEmpty = true then d5.parkedStop else d5
    else if f.heath = true then d5.hfoStop else d5) = t
  have hk : Dev.Keeps Dev.afterTime d3 t := by
    rw [← ht]
    exact Dev.Keeps.ite (Dev.Keeps.ite (h5.step (by decide) (Dev.Keeps.parkedStop d5)) h5) (Dev.Keeps.ite h5.hfoStop h5)
  refine ⟨h3.trans (.of_keeps (Dev.Keeps.step .refl (by decide) hk)), ?_⟩
  rw [hk.get, Dev.imgTime_last, h2.clock]

/-! ### The end of the acquisition of a frame -/

theorem Dev.frameFaults_none {d : Dev} {f : Frame} (ho : f.ovl = none) (hl : f.lovl = none) (hc : f.ncorr = 0) (hd : d.flt.due = []) :
    d.frameFaults f = d := by
  unfold Dev.frameFaults
  rw [ho, hl, hc]
  show Dev.settleFaults 3 d = d
  unfold Dev.settleFaults
  exact if_pos (by rw [hd]; rfl)

/-- The device whose frame `f` no longer runs, with its status shown (R44). -/
def Dev.frameShown (d : Dev) (f : Frame) : Dev :=
  ((({ d with acq := { d.acq with now := none, hiZ := d.acq.hiZ || f.heath } } : Dev).pumpTo f.level).frameStatus f)

/-- What the end of a frame without a fault writes. -/
abbrev Dev.finishScope : Dev.Scope :=
  { freeCount := true, acq := true, hop := true, flt := true, regs := [R.ACQ_STATUS, R.ACQ_FSTAT, R.ACQ_STALEMAP, R.HOP_STATUS] }

theorem Dev.frameShown_spec (d : Dev) {f : Frame} (ho : f.ovl = none) (hc : f.ncorr = 0) (hr : f.nretry ≤ 4) :
    Dev.Keeps Dev.finishScope d (d.frameShown f) ∧ (d.frameShown f).flt = d.flt ∧ (d.frameShown f).acq.now = none ∧
      (d.frameShown f).acq.ready = d.acq.ready ∧ (d.frameShown f).get R.ACQ_FSTAT_NCORR = 0 ∧
      (d.frameShown f).get R.ACQ_FSTAT_NRETRY = f.nretry ∧ (d.frameShown f).is R.ACQ_FSTAT_OVL = false := by
  set e := ({ d with acq := { d.acq with now := none, hiZ := d.acq.hiZ || f.heath } } : Dev).pumpTo f.level with he
  have hacq : ∀ (x : Dev) l, (x.pumpTo l).acq.ready = x.acq.ready := by
    intro x l
    unfold Dev.pumpTo
    split
    · rfl
    · split
      · rfl
      · split
        · rfl
        · rfl
  have hk : Dev.Keeps { freeCount := true, acq := true, regs := [R.ACQ_STATUS] } d e :=
    Dev.Keeps.pumpTo (Dev.Keeps.upd .refl (acq := nofun))
  have hs : Dev.Keeps Dev.frameStatusScope e (d.frameShown f) := Dev.Keeps.frameStatus .refl
  refine ⟨(Dev.Keeps.step .refl (by decide) hk).step (by decide) hs, (hs.flt rfl).trans (hk.flt rfl), ?_, ?_, ?_, ?_, ?_⟩
  · exact (congrArg Acq.now (hs.acq rfl)).trans (Dev.pumpTo_acq _ _).1
  · exact (congrArg Acq.ready (hs.acq rfl)).trans (hacq _ _)
  all_goals
    unfold Dev.frameShown Dev.frameStatus
    extract_lets held d1 d2
  · rw [Dev.putB, Dev.get_put_ne _ _ R.ACQ_FSTAT_NCORR _ (by decide), Dev.get_put_ne _ _ R.ACQ_FSTAT_NCORR _ (by decide),
      Dev.get_put_ne _ _ R.ACQ_FSTAT_NCORR _ (by decide), Dev.get_put_self _ R.ACQ_FSTAT_NCORR _ (by decide), hc]
    rfl
  · rw [Dev.putB, Dev.get_put_ne _ _ R.ACQ_FSTAT_NRETRY _ (by decide), Dev.get_put_ne _ _ R.ACQ_FSTAT_NRETRY _ (by decide),
      Dev.get_put_self _ R.ACQ_FSTAT_NRETRY _ (by decide)]
    exact Nat.mod_eq_of_lt (by show _ < 8; omega)
  · rw [ho]
    exact Dev.is_putB_self _ _ _ (by decide) (by decide)

/-- The device with its hop decided at the end of `f` (R112–R116). -/
def Dev.hopDone (d : Dev) (f : Frame) : Dev :=
  let e := d.hopDecide (if f.mutScan then f.ncorr else 0) d.isMember
  if d.isRunFrame f && e.hop.pending.any (fun p => p.2.1 == 1) && d.hop.pending.isNone then
    { e.put R.HOP_STATUS_PENDING (if e.hop.forced.isSome then 1 else 0) with hop := { e.hop with pending := none } }
  else e

theorem Dev.Keeps.hopDone (d : Dev) (f : Frame) : Dev.Keeps { hop := true, flt := true, regs := [R.HOP_STATUS] } d (d.hopDone f) := by
  unfold Dev.hopDone
  extract_lets e
  have he : Dev.Keeps { hop := true, flt := true, regs := [R.HOP_STATUS] } d e := Dev.Keeps.hopDecide .refl
  clear_value e
  exact Dev.Keeps.ite ((he.put (f := R.HOP_STATUS_PENDING) (n := if e.hop.forced.isSome then 1 else 0)).upd (hop := nofun)) he

/-- The device with `f` waiting for the image engine. -/
def Dev.queued (d : Dev) (f : Frame) : Dev :=
  { d with acq := { d.acq with ready := d.acq.ready ++ [f] }, hop := { d.hop with mPow := [] } }

theorem Dev.acqFinish_eq {d : Dev} {f : Frame} (ho : f.ovl = none) (hl : f.lovl = none) (hc : f.ncorr = 0) (hr : f.nretry ≤ 4)
    (hm : d.clLead = false) (hs : d.st ≠ stHalted) (hd : d.flt.due = []) :
    d.acqFinish f = ((d.frameShown f).hopDone f).queued f := by
  obtain ⟨hk, hf, -, -, -, -, -⟩ := d.frameShown_spec ho hc hr
  have h1 : (d.frameShown f).frameFaults f = d.frameShown f := Dev.frameFaults_none ho hl hc (by rw [hf, hd])
  have h2 : (d.frameShown f).hopCombine f.heath = d.frameShown f := by
    unfold Dev.hopCombine
    exact if_pos (by rw [hk.clLead (by decide) (by decide), hm]; rfl)
  have h3 : d.acqFinish f = if ((((d.frameShown f).frameFaults f).hopCombine f.heath).hopDone f).st = stHalted then
      (((d.frameShown f).frameFaults f).hopCombine f.heath).hopDone f
      else ((((d.frameShown f).frameFaults f).hopCombine f.heath).hopDone f).queued f := rfl
  rw [h3, h1, h2, if_neg]
  rw [(Dev.Keeps.hopDone _ f).st, hk.st]
  exact hs

/-- A frame without a fault as its acquisition ends. -/
theorem Dev.acqFinish_clean {d : Dev} {f : Frame} (ho : f.ovl = none) (hl : f.lovl = none) (hc : f.ncorr = 0) (hr : f.nretry ≤ 4)
    (hm : d.clLead = false) (hs : d.st ≠ stHalted) (hd : d.flt.due = []) {t : Dev} (ht : t = d.acqFinish f) :
    Dev.Keeps Dev.finishScope d t ∧ t.acq.now = none ∧ t.acq.ready = d.acq.ready ++ [f] ∧ t.get R.ACQ_FSTAT_NCORR = 0 ∧
      t.get R.ACQ_FSTAT_NRETRY = f.nretry ∧ t.is R.ACQ_FSTAT_OVL = false := by
  obtain ⟨hk, -, hn, hq, hN, hR, hO⟩ := d.frameShown_spec ho hc hr
  have hh := Dev.Keeps.hopDone (d.frameShown f) f
  have ht' : Dev.Keeps { acq := true, hop := true } ((d.frameShown f).hopDone f) t := by
    rw [ht, Dev.acqFinish_eq ho hl hc hr hm hs hd]
    exact Dev.Keeps.upd .refl (acq := nofun) (hop := nofun)
  have hacq : t.acq = { (d.frameShown f).acq with ready := (d.frameShown f).acq.ready ++ [f] } := by
    rw [ht, Dev.acqFinish_eq ho hl hc hr hm hs hd, ← hh.acq rfl]
    rfl
  refine ⟨(hk.step (by decide) hh).step (by decide) ht', ?_, ?_, ?_, ?_, ?_⟩
  · rw [hacq, ← hn]
  · rw [hacq, ← hq]
  · rw [ht'.get, hh.get, hN]
  · rw [ht'.get, hh.get, hR]
  · rw [ht'.is, hh.is, hO]

theorem Dev.acqEnd_complete {d : Dev} {f : Frame} (hn : d.acq.now = some f) (hc : d.frameComplete f = true) :
    d.acqEnd = d.acqFinish f := by
  unfold Dev.acqEnd
  rw [hn]
  exact if_pos hc

theorem Dev.acqEnd_open {d : Dev} {f : Frame} (hn : d.acq.now = some f) (hc : d.frameComplete f = false) : d.acqEnd = d := by
  unfold Dev.acqEnd
  rw [hn]
  exact if_neg (by rw [hc]; exact Bool.false_ne_true)

theorem Dev.acqDeadline_cut {d : Dev} {f : Frame} (hn : d.acq.now = some f) (hc : d.frameComplete f = false)
    (hp : d.nextPhase f ≠ some 3) (words : List OptWord) (oc : Bool) (ovr : List (List Nat)) (low : List Nat) :
    d.acqDeadline words oc ovr low =
      (d.inc R.TICK_COUNTS_CUTS).acqFinish { d.cutScan f ovr low with cut := true, noRetry := true } := by
  unfold Dev.acqDeadline
  rw [hn]
  dsimp only
  rw [if_neg (by rw [hc]; exact Bool.false_ne_true), if_neg hp, hn]
  rfl

/-- Without an overload the cut of a frame without corrupt symbols finds none. -/
theorem Dev.cutScan_clean (d : Dev) {f : Frame} (ho : f.ovl = none) (hc : f.ncorr = 0) : d.cutScan f [] [] = f := by
  have hovl : d.ovlOf [] d.codeLen = none := by
    unfold Dev.ovlOf
    simp
  have hsym : ((List.range d.codeLen).filter (fun j => (if f.level = 0 then [] else ([] : List Nat)).contains j ||
      d.senseChannels.any (fun ch => hasSym [] ch j))).length = 0 := by
    simp [hasSym]
  unfold Dev.cutScan
  extract_lets L low n
  split
  · split
    · rfl
    · rw [show n = f.ncorr from hsym.trans hc.symm, show d.ovlOf [] L = none from hovl, ho]
      show { f with ncorr := f.ncorr, ovl := none } = f
      rw [← ho]
  · have hfind : (List.range 32).find? (fun ch => !(([] : List (List Nat)).getD ch []).isEmpty) = none := by decide
    rw [hfind, ho]
    show { f with ovl := none } = f
    rw [← ho]
  · rfl

theorem Dev.procStart_next {d : Dev} {f : Frame} {rest : List Frame} (hr : d.acq.ready = f :: rest) (hp : d.acq.proc = none)
    (hw : d.cal.wait = []) : d.procStart =
      { d with
        acq := { d.acq with ready := rest, proc := some { d.decodeFrame f with at_ := d.clock } }
        img := match d.img.dump with
          | some u => { d.img with dump := some { u with skip := false } }
          | none => d.img } := by
  have hc : d.calAtStart = d := by
    unfold Dev.calAtStart
    rw [hw]
    rfl
  unfold Dev.procStart
  rw [hr, hp]
  dsimp only
  rw [hc]
  cases hu : d.img.dump with
  | none => rfl
  | some u => rfl

theorem Dev.decodeFrame_spec (d : Dev) (f : Frame) : (d.decodeFrame f).decoded = true ∧ (d.decodeFrame f).tick = f.tick := by
  unfold Dev.decodeFrame
  extract_lets val raw
  split
  next h => exact ⟨h, rfl⟩
  next h => exact ⟨rfl, rfl⟩

theorem Dev.frameDone_live {e : Dev} {f : Frame} (hh : f.heath = false) : e.frameDone f false =
    (let d := ((e.openFrame f).dumpFrame f).imgTime f
     let d := (if d.st = stRunning ∨ d.st = stStopping then d.raiseFrame else d).stageSend
     if d.st = stParked ∧ d.acq.ready = [] then d.parkedStop else d) := by
  have hlast : ∀ d : Dev, (if d.st = stParked then (if d.acq.ready.isEmpty then d.parkedStop else d)
      else if false = true then d.hfoStop else d) = if d.st = stParked ∧ d.acq.ready = [] then d.parkedStop else d := by
    intro d
    by_cases hs : d.st = stParked
    · by_cases hr : d.acq.ready = []
      · rw [if_pos hs, if_pos (List.isEmpty_iff.2 hr), if_pos ⟨hs, hr⟩]
      · rw [if_pos hs, if_neg (fun h => hr (List.isEmpty_iff.1 h)), if_neg (fun h => hr h.2)]
    · rw [if_neg hs, if_neg Bool.false_ne_true, if_neg (fun h => hs h.1)]
  unfold Dev.frameDone
  rw [hh]
  exact hlast _

/-- Settles O36. -/
theorem frameEndsAndIsProcessed : Obligations.FrameEndsAndIsProcessed := by
  unfold Obligations.FrameEndsAndIsProcessed
  refine ⟨fun f => ⟨?_, ?_, ?_, fun oc => ?_, fun words oc ovr low => ?_, fun rest => ?_, ?_, ?_, ?_⟩, ?_⟩
  · refine leaves_of_act (f := fun d => d.acqEnd) (fun _ => rfl) fun d _ ⟨⟨hn, ho, hl, hc, hr, hm, hs, hd⟩, hf⟩ => ?_
    obtain ⟨hk, hN, hQ, hC, hR, hO⟩ := Dev.acqFinish_clean ho hl hc hr hm hs hd (Dev.acqEnd_complete hn hf)
    exact ⟨hN, hQ, hC, hR, hO, hk.mem rfl, hk.st⟩
  · exact does_of_act (f := fun d => d.acqEnd) (fun _ => rfl) fun d _ ⟨hn, hf⟩ => Dev.acqEnd_complete hn hf
  · exact does_of_act (f := fun d => d.acqEnd) (fun _ => rfl) fun d _ ⟨hn, hf⟩ => Dev.acqEnd_open hn hf
  · refine leaves_of_act (f := fun d => d.acqDeadline [] oc [] []) (fun _ => rfl)
      fun d _ ⟨⟨hn, ho, hl, hc, hr, hm, hs, hd⟩, hf, hp⟩ => ?_
    have ht := Dev.acqDeadline_cut hn hf hp [] oc [] []
    rw [d.cutScan_clean ho hc] at ht
    have hi : Dev.Keeps { regs := [R.TICK_COUNTS] } d (d.inc R.TICK_COUNTS_CUTS) := Dev.Keeps.inc .refl
    obtain ⟨hk, hN, hQ, -, -, -⟩ := Dev.acqFinish_clean (d := d.inc R.TICK_COUNTS_CUTS) (f := { f with cut := true, noRetry := true }) ho hl hc hr
      ((hi.clLead (by decide) (by decide)).trans hm) (hi.st.trans_ne hs) hd ht
    refine ⟨hN, hk.get.trans ?_, hQ, hk.st.trans hi.st⟩
    exact (Dev.get_put_self _ R.TICK_COUNTS_CUTS _ (by decide)).trans (Nat.mod_eq_of_lt (by show min _ 65535 < 65536; omega))
  · exact does_of_act (f := fun d => d.acqDeadline words oc ovr low) (fun _ => rfl) fun d _ ⟨hn, hf, hp⟩ =>
      Dev.acqDeadline_cut hn hf hp words oc ovr low
  · refine leaves_of_act (f := fun d => d.procEvent) (fun _ => rfl) fun d _ ⟨hr, hp, hm, hw⟩ => ?_
    have he : d.procEvent = d.procStart := if_pos (by rw [Dev.clAllIn, hm]; rfl)
    rw [he, Dev.procStart_next hr hp hw]
    obtain ⟨h1, h2⟩ := d.decodeFrame_spec f
    exact ⟨rfl, ⟨_, rfl, h1, h2, rfl⟩, rfl⟩
  · refine does_of_act (f := fun d => d.procEvent) (fun _ => rfl) fun d _ h => ?_
    have he : d.procStart = d := by
      unfold Dev.procStart
      split
      next f' rest hr hp =>
        rcases h with h | h
        · exact absurd (h.symm.trans hp) (Option.some_ne_none _)
        · exact absurd (h.symm.trans hr) (List.cons_ne_nil _ _).symm
      next => rfl
    exact (congrArg (fun x => if d.clAllIn then x else d) he).trans (ite_self d)
  · refine leaves_of_act (f := fun d => d.frameProcessed) (fun _ => rfl) fun d _ hp => ?_
    have hk : Dev.StaysIdle d.noProc (d.noProc.kindFrame f) := .kindFrame
    rw [Dev.frameProcessed_eq hp]
    split
    next hs => exact ⟨hk.proc rfl, .inl hs⟩
    next hs =>
      obtain ⟨hd, ht⟩ := (d.noProc.kindFrame f).frameDone_spec f (d.isRunFrame f)
      exact ⟨(hk.trans hd).proc rfl, .inr (ht.trans (by rw [hk.clock]; rfl))⟩
  · refine does_of_act (f := fun d => d.frameProcessed) (fun _ => rfl) fun d _ ⟨hp, hh, hm, hr⟩ => ?_
    have hkind : d.noProc.kindFrame f = d.noProc.liveFrame f := by
      unfold Dev.kindFrame
      rw [if_neg (by show ¬d.isMember = true; rw [hm]; exact Bool.false_ne_true), if_neg (by rw [hh]; exact Bool.false_ne_true),
        if_neg (by show ¬d.isRunFrame f = true; rw [hr]; exact Bool.false_ne_true)]
    dsimp only
    rw [Dev.frameProcessed_eq hp, hkind, hr]
    refine congrArg (fun x => if (d.noProc.liveFrame f).st = stHalted then d.noProc.liveFrame f else x) ?_
    exact Dev.frameDone_live hh
  · refine does_of_act (f := fun d => d.frameProcessed) (fun _ => rfl) fun d _ hp => ?_
    show d.frameProcessed = d
    unfold Dev.frameProcessed
    rw [hp]

end Sys2Proof.Machine
end

section
/-!
Proofs for releases and faults of the front end (chapters 03, 05 and 09): the statement O37.
-/

namespace Sys2Proof.Machine
set_option Elab.async false

/-! ### Contacts that are released -/

/-- The device as the contact `k` and what its area held are dropped. -/
def Dev.contactGone (d : Dev) (k : Contact) : Dev :=
  let area := d.grid.freezeArea k.blob
  let d := d.rebase area
  { d with ct := { d.ct with contacts := d.ct.contacts.filter (fun c => c.slot != k.slot) }
           img := { d.img with freeze := d.img.freeze.filter (fun e => !area.contains e) } }

theorem Dev.Keeps.contactGone (d : Dev) (k : Contact) : Dev.Keeps { img := true, ct := true, cl := true } d (d.contactGone k) := by
  unfold Dev.contactGone
  extract_lets area e
  have he : Dev.Keeps { img := true, ct := true, cl := true } d e := Dev.Keeps.rebase .refl
  clear_value e
  exact he.upd (img := nofun) (ct := nofun)

theorem Dev.contactGone_contacts (d : Dev) (k : Contact) :
    (d.contactGone k).ct.contacts = d.ct.contacts.filter (fun c => c.slot != k.slot) := by
  have he : (d.rebase (d.grid.freezeArea k.blob)).ct = d.ct := (Dev.Keeps.rebase (w := Dev.rebaseScope) .refl).ct rfl
  show (d.rebase (d.grid.freezeArea k.blob)).ct.contacts.filter _ = _
  rw [he]

/-- What the report of a release writes. -/
abbrev Dev.releaseTold : Dev.Scope :=
  { mem := true, img := true, ring := true
    regs := [R.CT_STATUS, R.CT_RGOCC, R.CT_VKEYS, R.SEQ_EVPEND, R.HP_ATTN, R.XR_ECCSB, R.XR_ECCDB, R.RQ_PI, R.RQ_CI, R.RQ_SEQX,
      R.RQ_LOST, R.RQ_STATUS] }

theorem Dev.Keeps.release_told (d : Dev) (k : Contact) (reason : Nat) (cnt : Field) :
    Dev.Keeps Dev.releaseTold ((d.inc cnt).contactGone k) (d.release k reason cnt) := by
  have h : Dev.Keeps Dev.releaseTold ((d.inc cnt).contactGone k) (((d.inc cnt).contactGone k).groupsLift [k.slot]).ctRegs :=
    Dev.Keeps.ctRegs (Dev.Keeps.groupsLift .refl)
  exact (Dev.Keeps.ite h.touch h).ctKeys

theorem Dev.release_contacts (d : Dev) (k : Contact) (reason : Nat) (cnt : Field) :
    (d.release k reason cnt).ct.contacts = d.ct.contacts.filter (fun c => c.slot != k.slot) :=
  (congrArg Ct.contacts ((Dev.Keeps.release_told d k reason cnt).ct rfl)).trans (Dev.contactGone_contacts _ k)

theorem Dev.release_count (d : Dev) (k : Contact) (reason : Nat) {cnt : Field} (ha : Dev.releaseTold.has cnt.addr = false)
    (hw : cnt.width = 16) (hf : cnt.lo + cnt.width ≤ 32) : (d.release k reason cnt).get cnt = min (d.get cnt + 1) 65535 := by
  rw [(Dev.Keeps.release_told d k reason cnt).get ha, (Dev.Keeps.contactGone _ k).get rfl]
  refine (Dev.get_put_self _ cnt _ hf).trans ?_
  rw [hw]
  exact Nat.mod_eq_of_lt (by show min _ 65535 < 65536; omega)

/-! ### Time limits -/

theorem Dev.limitMet_iff (d : Dev) (t secs : Nat) : d.limitMet t secs = true ↔ t + 1000000 * secs ≤ d.clock + d.tick.spacing :=
  decide_eq_true_iff

theorem Dev.is_iff (d : Dev) (f : Field) : d.is f = true ↔ d.get f ≠ 0 := bne_iff_ne

theorem Dev.absorbMet_iff (d : Dev) (k : Contact) : d.absorbMet k = true ↔ ∃ t0, k.largeAt = some t0 ∧
    d.get R.IMG_ABSORB_TIME ≠ 0 ∧ t0 + 1000000 * d.get R.IMG_ABSORB_TIME ≤ d.clock + d.tick.spacing := by
  unfold Dev.absorbMet
  rw [Bool.and_eq_true, Dev.is_iff]
  cases k.largeAt with
  | none => simp
  | some t => simp [Dev.limitMet_iff]

theorem Dev.stuckRelease_at {d : Dev} {slot : Nat} {k : Contact} (h : d.contactAt slot = some k) : d.stuckRelease slot =
    if (d.get R.IMG_REST_LIMIT ≠ 0 ∧ k.downAt + 1000000 * d.get R.IMG_REST_LIMIT ≤ d.clock + d.tick.spacing) ∧ d.calHolds = false then
      if d.absorbMet k then d.release k rrAbsorbed R.IMG_COUNTS2_ABSORB else d.release k rrStuck R.IMG_COUNTS2_STUCK
    else d := by
  unfold Dev.stuckRelease
  rw [h]
  simp only [Bool.and_eq_true, Bool.not_eq_true', Dev.is_iff, Dev.limitMet_iff]

theorem Dev.objectAbsorb_at {d : Dev} {slot : Nat} {k : Contact} (h : d.contactAt slot = some k) : d.objectAbsorb slot =
    if d.absorbMet k = true ∧ d.calHolds = false then d.release k rrAbsorbed R.IMG_COUNTS2_ABSORB else d := by
  unfold Dev.objectAbsorb
  rw [h]
  simp only [Bool.and_eq_true, Bool.not_eq_true']

/-! ### Groups without contact -/

theorem Dev.groupQuiet_other (d : Dev) {k j : Nat} (h : j ≠ k) : (d.groupQuiet k).img.groups[j]? = d.img.groups[j]? := by
  unfold Dev.groupQuiet
  exact List.getElem?_modify_ne _ _ h.symm

theorem Dev.groupQuiet_same {d : Dev} {k : Nat} {g : Grp} (h : d.img.groups[k]? = some g) : (d.groupQuiet k).img.groups[k]? =
    some (if g.overlap || decide (d.clock < g.quiet + 5000000) then g else { g with still := true }) := by
  unfold Dev.groupQuiet
  exact (List.getElem?_modify_eq _ _ _).trans (by rw [h]; rfl)

theorem Dev.groupQuiet_off {d : Dev} {k : Nat} {g : Grp} (h : d.img.groups[k]? = some g)
    (hg : g.overlap = true ∨ d.clock < g.quiet + 5000000) : d.groupQuiet k = d := by
  have hl : (d.groupQuiet k).img.groups = d.img.groups := by
    refine List.ext_getElem? fun j => ?_
    by_cases hj : j = k
    · subst hj
      rw [Dev.groupQuiet_same h, h, if_pos (by simpa using hg)]
    · exact d.groupQuiet_other hj
  show ({ d with img := { d.img with groups := (d.groupQuiet k).img.groups } } : Dev) = d
  rw [hl]

/-! ### The statement -/

/-- Settles O37. -/
theorem releasesAndFrontEndFaults : Obligations.ReleasesAndFrontEndFaults := by
  unfold Obligations.ReleasesAndFrontEndFaults
  intro due gone
  have hgone : ∀ (slot : Nat) (k : Contact) (reason : Nat) (cnt : Field) (d : Dev), k.slot = slot →
      Dev.releaseTold.has cnt.addr = false → cnt.width = 16 → cnt.lo + cnt.width ≤ 32 →
      gone slot k reason cnt d (d.release k reason cnt) := by
    rintro slot k reason cnt d rfl ha hw hf
    exact ⟨rfl, d.release_contacts k reason cnt, d.release_count k reason ha hw hf⟩
  refine ⟨fun slot k hk => ?_, fun slot c hc => ?_, fun k g => ⟨?_, ?_⟩, fun n => ⟨?_, ?_⟩, ?_, ?_⟩
  · intro here stuck large
    have hlarge : ∀ d, large d ↔ d.absorbMet k = true ∧ d.calHolds = false := fun d => by rw [Dev.absorbMet_iff]
    refine ⟨?_, ?_, ?_, ?_, ?_⟩
    · refine leaves_of_act (f := fun d => d.stuckRelease slot.val) (fun _ => rfl) fun d _ ⟨hh, hs, hl⟩ => ?_
      have hb : d.absorbMet k ≠ true := fun h => hl ((hlarge d).2 ⟨h, hs.2⟩)
      have he : d.stuckRelease slot.val = d.release k 1 R.IMG_COUNTS2_STUCK :=
        (Dev.stuckRelease_at hh).trans ((if_pos hs).trans (if_neg hb))
      rw [he]
      exact hgone _ k 1 _ d hk rfl rfl (by decide)
    · refine leaves_of_act (f := fun d => d.stuckRelease slot.val) (fun _ => rfl) fun d _ ⟨hh, hs, hl⟩ => ?_
      have he : d.stuckRelease slot.val = d.release k 2 R.IMG_COUNTS2_ABSORB :=
        (Dev.stuckRelease_at hh).trans ((if_pos hs).trans (if_pos ((hlarge d).1 hl).1))
      rw [he]
      exact hgone _ k 2 _ d hk rfl rfl (by decide)
    · exact does_of_act (f := fun d => d.stuckRelease slot.val) (fun _ => rfl) fun d _ ⟨hh, hs⟩ =>
        (Dev.stuckRelease_at hh).trans (if_neg hs)
    · refine leaves_of_act (f := fun d => d.objectAbsorb slot.val) (fun _ => rfl) fun d _ ⟨hh, hl⟩ => ?_
      have he : d.objectAbsorb slot.val = d.release k 2 R.IMG_COUNTS2_ABSORB :=
        (Dev.objectAbsorb_at hh).trans (if_pos ((hlarge d).1 hl))
      rw [he]
      exact hgone _ k 2 _ d hk rfl rfl (by decide)
    · exact does_of_act (f := fun d => d.objectAbsorb slot.val) (fun _ => rfl) fun d _ ⟨hh, hl⟩ =>
        (Dev.objectAbsorb_at hh).trans (if_neg fun h => hl ((hlarge d).2 h))
  · rcases List.mem_pair.1 hc with rfl | rfl
    · refine does_of_act (f := fun d => d.stuckRelease slot.val) (fun _ => rfl) fun d _ h => ?_
      show d.stuckRelease slot.val = d
      unfold Dev.stuckRelease
      rw [h]
    · refine does_of_act (f := fun d => d.objectAbsorb slot.val) (fun _ => rfl) fun d _ h => ?_
      show d.objectAbsorb slot.val = d
      unfold Dev.objectAbsorb
      rw [h]
  · refine leaves_of_act (f := fun d => d.groupQuiet k) (fun _ => rfl) fun d _ ⟨hg, ho, hq⟩ => ?_
    exact ⟨rfl, (Dev.groupQuiet_same hg).trans (by rw [if_neg (by simpa [ho] using hq)]), fun j hj => d.groupQuiet_other hj⟩
  · exact does_of_act (f := fun d => d.groupQuiet k) (fun _ => rfl) fun d _ ⟨hg, h⟩ => Dev.groupQuiet_off hg h
  · refine does_of_act (f := fun d => d.elShorted n.val) (fun _ => rfl) fun d _ ⟨hs, hn⟩ => ?_
    exact if_neg (by simp [hs, hn])
  · refine does_of_act (f := fun d => d.elShorted n.val) (fun _ => rfl) fun d _ h => ?_
    exact if_pos (.inr h)
  · refine does_of_act (f := fun d => d.vhvFault) (fun _ => rfl) fun d _ ⟨h5, hl⟩ => ?_
    exact if_pos (by rw [h5, hl]; rfl)
  · refine does_of_act (f := fun d => d.vhvFault) (fun _ => rfl) fun d _ h => ?_
    refine if_neg ?_
    rw [Bool.and_eq_true]
    exact fun ⟨h5, hl⟩ => h.elim (fun h => by rw [h5] at h; cases h) (fun h => by rw [hl] at h; cases h)

end Sys2Proof.Machine
end

section
/-!
Proofs for the timers of the panel logic (chapter 12): the statement O38.
-/

namespace Sys2Proof.Machine
set_option Elab.async false

theorem Dev.Scope.le_refl (w : Dev.Scope) : w.le w = true := by
  have hb : ∀ b : Bool, (!b || b) = true := by decide
  simp only [Dev.Scope.le, hb, Bool.true_and, Bool.and_eq_true, List.all_eq_true, List.any_eq_true]
  exact ⟨fun a ha => by simp [Dev.Scope.has, ha], fun f hf => ⟨f, hf, by simp⟩⟩

theorem Dev.Keeps.trans {w : Dev.Scope} {d e t : Dev} (h : Dev.Keeps w d e) (h' : Dev.Keeps w e t) : Dev.Keeps w d t :=
  h.step (Dev.Scope.le_refl w) h'

/-! ### Bits of a register -/

theorem bitOf_setBit (n b k : Nat) (v : Bool) : bitOf (setBit n b v) k = if k = b then v else bitOf n k := by
  cases v with
  | true =>
    rw [bitOf_setBit_true]
    by_cases hk : k = b
    · simp [hk]
    · simp [hk]
  | false =>
    unfold setBit
    by_cases hb : bitOf n b = true
    · have hge : 2 ^ b ≤ n := by
        rw [bitOf_testBit] at hb
        exact Nat.ge_two_pow_of_testBit hb
      have hoff : bitOf (n - 2 ^ b) b = false := by
        rw [bitOf_testBit] at hb ⊢
        have h2 := Nat.testBit_two_pow_add_eq (n - 2 ^ b) b
        rw [Nat.add_sub_cancel' hge, hb] at h2
        simpa using h2.symm
      have h : setBit (n - 2 ^ b) b true = n := by
        unfold setBit
        rw [hoff]
        simp only [Bool.false_eq_true, if_false, if_true]
        omega
      simp only [hb, if_true, Bool.false_eq_true, if_false]
      by_cases hk : k = b
      · subst hk
        rw [if_pos rfl, hoff]
      · rw [if_neg hk]
        conv_rhs => rw [← h, bitOf_setBit_true]
        simp [hk]
    · rw [Bool.not_eq_true] at hb
      simp only [hb, Bool.false_eq_true, if_false]
      split
      next hk => rw [hk, hb]
      next => rfl

theorem getLsbD_bitOf (w : Word) (j : Nat) : w.getLsbD j = bitOf w.toNat j := by
  rw [bitOf_testBit]
  rfl

/-- A bit of one of two registers of 32 that a write of one bit leaves. -/
theorem Dev.getLsbD_putBit (d : Dev) (a0 a1 k : Nat) (b : Bool) {j : Nat} (hj : j < 32) :
    ((d.putBit a0 a1 k b).reg (if k < 32 then a0 else a1)).getLsbD j =
      if j = k % 32 then b else (d.reg (if k < 32 then a0 else a1)).getLsbD j := by
  unfold Dev.putBit
  rw [Dev.reg_setReg_self, getLsbD_bitOf, BitVec.toNat_ofNat, bitOf_testBit, Nat.testBit_mod_two_pow, decide_eq_true hj,
    Bool.true_and, ← bitOf_testBit, bitOf_setBit, getLsbD_bitOf]

/-- A bit of a field as another bit of it is written. -/
theorem Dev.bitOf_put_setBit (d : Dev) (f : Field) (h : f.lo + f.width ≤ 32) (b : Nat) (v : Bool) {j : Nat} (hj : j < f.width) :
    bitOf ((d.put f (setBit (d.get f) b v)).get f) j = if j = b then v else bitOf (d.get f) j := by
  rw [Dev.get_put_self _ _ _ h, bitOf_testBit, Nat.testBit_mod_two_pow, decide_eq_true hj, Bool.true_and, ← bitOf_testBit,
    bitOf_setBit]

/-- An event of the core (R303): its bit is set where the core is live. -/
theorem Dev.bitOf_event (d : Dev) (b : Nat) {j : Nat} (hj : j < 11) :
    bitOf ((d.event b).get R.SEQ_EVPEND_EV) j = (bitOf (d.get R.SEQ_EVPEND_EV) j || (decide (j = b) && d.seqLive)) := by
  unfold Dev.event
  split
  next h =>
    rw [Dev.bitOf_put_setBit _ _ (by decide) _ _ hj, h, Bool.and_true]
    split
    next hb => simp [hb]
    next hb => simp [hb]
  next h => simp [h]

/-! ### The registers of a timer -/

/-- The fields of the status of a timer do not overlap. -/
theorem Dev.is_putB_stat (d : Dev) (k a b : Nat) (v : Bool) (h : a ≠ b) :
    (d.putB ⟨R.TM_STAT k, a, 1⟩ v).is ⟨R.TM_STAT k, b, 1⟩ = d.is ⟨R.TM_STAT k, b, 1⟩ :=
  Dev.is_put_ne _ _ _ _ (.inr (by
    show a + 1 ≤ b ∨ b + 1 ≤ a
    omega))

theorem Dev.is_putB_bit (d : Dev) (a b : Nat) (v : Bool) (h : b < 32) : (d.putB ⟨a, b, 1⟩ v).is ⟨a, b, 1⟩ = v :=
  Dev.is_putB_self _ _ _ (by show b + 1 ≤ 32; omega) (by show 0 < 1; decide)

/-- The registers of timer `k` that its expiry and its configuration write. -/
abbrev tmRegs (k : Nat) : List Nat := [R.TM_STAT k, R.TM_COUNT k]

/-- What a timer shows: RUN, Q and COUNT. -/
theorem Dev.tmSet_spec (d : Dev) (k : Nat) (run q : Bool) (n : Nat) :
    Dev.Keeps { regs := tmRegs k } d (d.tmSet k run q n) ∧ (d.tmSet k run q n).is (R.TM_STAT_RUN k) = run ∧
      (d.tmSet k run q n).is (R.TM_STAT_Q k) = q ∧ (d.tmSet k run q n).get (R.TM_COUNT_COUNT k) = n % 2 ^ 24 ∧
      (d.tmSet k run q n).is (R.TM_STAT_EXP k) = d.is (R.TM_STAT_EXP k) ∧
      (d.tmSet k run q n).is (R.TM_STAT_IN k) = d.is (R.TM_STAT_IN k) := by
  have hs : ({ regs := tmRegs k } : Dev.Scope).has (R.TM_STAT k) = true := by simp [Dev.Scope.has]
  have hc : ({ regs := tmRegs k } : Dev.Scope).has (R.TM_COUNT k) = true := by simp [Dev.Scope.has]
  have hne : ∀ (f : Field) (e : Dev), f.addr = R.TM_STAT k → (e.put (R.TM_COUNT_COUNT k) n).is f = e.is f := fun f e hf =>
    Dev.is_put_ne _ _ _ _ (.inl (by
      rw [hf]
      show 0x240C + 16 * k ≠ 0x2408 + 16 * k
      omega))
  unfold Dev.tmSet
  refine ⟨((Dev.Keeps.refl.putB hs).putB hs).put hc, ?_, ?_, ?_, ?_, ?_⟩
  · rw [hne _ _ rfl, Dev.is_putB_stat _ _ _ _ _ (by decide), Dev.is_putB_bit _ _ _ _ (by decide)]
  · rw [hne _ _ rfl, Dev.is_putB_bit _ _ _ _ (by decide)]
  · exact Dev.get_put_self _ (R.TM_COUNT_COUNT k) _ (by show 0 + 24 ≤ 32; decide)
  · rw [hne _ _ rfl, Dev.is_putB_stat _ _ _ _ _ (by decide), Dev.is_putB_stat _ _ _ _ _ (by decide)]
  · rw [hne _ _ rfl, Dev.is_putB_stat _ _ _ _ _ (by decide), Dev.is_putB_stat _ _ _ _ _ (by decide)]

/-- The register of the mirrors that shows the expiry of timer `k`. -/
abbrev tmOwn (k : Nat) : Nat := if k < 32 then R.GPIO_TMEXP0 else R.GPIO_TMEXP1

theorem tmStat_ne_own {k : Nat} (hk : k < 64) : R.TM_STAT k ≠ tmOwn k ∧ R.TM_COUNT k ≠ tmOwn k := by
  unfold tmOwn
  split
  · constructor
    · show 0x240C + 16 * k ≠ 0x2C48
      omega
    · show 0x2408 + 16 * k ≠ 0x2C48
      omega
  · constructor
    · show 0x240C + 16 * k ≠ 0x2C4C
      omega
    · show 0x2408 + 16 * k ≠ 0x2C4C
      omega

/-- Timer `k` shows its expiry in both places (R354). -/
theorem Dev.setExp_spec (d : Dev) {k : Nat} (hk : k < 64) (v : Bool) :
    Dev.Keeps { regs := [R.TM_STAT k, tmOwn k] } d (d.setExp k v) ∧ (d.setExp k v).is (R.TM_STAT_EXP k) = v ∧
      (∀ b, b ≠ 3 → (d.setExp k v).is ⟨R.TM_STAT k, b, 1⟩ = d.is ⟨R.TM_STAT k, b, 1⟩) ∧
      ∀ j, j < 32 → ((d.setExp k v).reg (tmOwn k)).getLsbD j = if j = k % 32 then v else (d.reg (tmOwn k)).getLsbD j := by
  obtain ⟨hne, -⟩ := tmStat_ne_own hk
  have hs : ({ regs := [R.TM_STAT k, tmOwn k] } : Dev.Scope).has (R.TM_STAT k) = true := by simp [Dev.Scope.has]
  have ho : ({ regs := [R.TM_STAT k, tmOwn k] } : Dev.Scope).has (tmOwn k) = true := by simp [Dev.Scope.has]
  have hbit : ∀ (e : Dev) (f : Field), f.addr = R.TM_STAT k → (e.putBit R.GPIO_TMEXP0 R.GPIO_TMEXP1 k v).is f = e.is f := by
    intro e f hf
    have hr : (e.putBit R.GPIO_TMEXP0 R.GPIO_TMEXP1 k v).reg f.addr = e.reg f.addr :=
      Dev.reg_setReg_ne _ _ _ _ (by rw [hf]; exact hne)
    exact congrArg (fun w => f.of w != 0) hr
  unfold Dev.setExp
  refine ⟨Dev.Keeps.setReg (Dev.Keeps.refl.putB hs) ho, ?_, fun b hb => ?_, fun j hj => ?_⟩
  · rw [hbit _ _ rfl, Dev.is_putB_bit _ _ _ _ (by decide)]
  · rw [hbit _ _ rfl, Dev.is_putB_stat _ _ _ _ _ hb.symm]
  · rw [Dev.getLsbD_putBit _ _ _ _ _ hj, show (if k < 32 then R.GPIO_TMEXP0 else R.GPIO_TMEXP1) = tmOwn k from rfl]
    have hr : (d.putB (R.TM_STAT_EXP k) v).reg (tmOwn k) = d.reg (tmOwn k) := Dev.reg_put_ne _ _ _ _ hne.symm
    rw [hr]

/-! ### Expiry -/

/-- RUN, Q and COUNT of a timer that expires in mode `m` (R353). -/
def Dev.tmMode (e : Dev) (k m : Nat) : Dev :=
  match m with
  | 1 => e.tmSet k false true (e.get (R.TM_COUNT_COUNT k))
  | 2 | 3 | 4 => e.tmSet k false false (e.get (R.TM_COUNT_COUNT k))
  | 5 => e.tmSet k true (!e.is (R.TM_STAT_Q k)) 0
  | _ => e

/-- The device whose timer `k` has counted to its end. -/
def Dev.tmTurned (d : Dev) (k : Nat) : Dev :=
  let e := d.put (R.TM_COUNT_COUNT k) (d.get (R.TM_PRESET_PRESET k))
  e.tmMode k (e.get (R.TM_CFG_MODE k))

/-- The timer `k` that has expired shows RUN `r`, Q `q` and COUNT `n`, and is else as before. -/
structure Dev.Turned (d t : Dev) (k : Nat) (r q : Bool) (n : Nat) : Prop where
  keeps : Dev.Keeps { regs := tmRegs k } d t
  run : t.is (R.TM_STAT_RUN k) = r
  q : t.is (R.TM_STAT_Q k) = q
  count : t.get (R.TM_COUNT_COUNT k) = n
  input : t.is (R.TM_STAT_IN k) = d.is (R.TM_STAT_IN k)

theorem Dev.tmTurned_spec {d : Dev} {k : Nat} (hr : d.is (R.TM_STAT_RUN k) = true) {m : Nat} (hm : d.get (R.TM_CFG_MODE k) = m) :
    Dev.Turned d (d.tmTurned k) k (decide (m = 0 ∨ 5 ≤ m)) (if m = 5 then !d.is (R.TM_STAT_Q k) else if m = 1 then true
      else if m = 2 ∨ m = 3 ∨ m = 4 then false else d.is (R.TM_STAT_Q k)) (if m = 5 then 0 else d.get (R.TM_PRESET_PRESET k)) := by
  set e := d.put (R.TM_COUNT_COUNT k) (d.get (R.TM_PRESET_PRESET k)) with he
  have hc : ({ regs := tmRegs k } : Dev.Scope).has (R.TM_COUNT k) = true := by simp [Dev.Scope.has]
  have hk : Dev.Keeps { regs := tmRegs k } d e := Dev.Keeps.refl.put hc
  have hstat : ∀ f : Field, f.addr = R.TM_STAT k → e.is f = d.is f := fun f hf => Dev.is_put_ne _ _ _ _ (.inl (by
    rw [hf]
    show 0x240C + 16 * k ≠ 0x2408 + 16 * k
    omega))
  have hmode : e.get (R.TM_CFG_MODE k) = m := (Dev.get_put_ne _ _ _ _ (.inl (by
    show 0x2400 + 16 * k ≠ 0x2408 + 16 * k
    omega))).trans hm
  have hp : d.get (R.TM_PRESET_PRESET k) < 2 ^ 24 := Dev.get_lt _ _
  have hn : e.get (R.TM_COUNT_COUNT k) = d.get (R.TM_PRESET_PRESET k) :=
    (Dev.get_put_self _ (R.TM_COUNT_COUNT k) _ (by show 0 + 24 ≤ 32; decide)).trans (Nat.mod_eq_of_lt hp)
  have hset : ∀ (r q : Bool) (n : Nat), n < 2 ^ 24 → Dev.Turned d (e.tmSet k r q n) k r q n := by
    intro r q n hlt
    obtain ⟨h1, h2, h3, h4, -, h6⟩ := e.tmSet_spec k r q n
    exact ⟨hk.step (Dev.Scope.le_refl _) h1, h2, h3, h4.trans (Nat.mod_eq_of_lt hlt), h6.trans (hstat _ rfl)⟩
  have hlt : m < 8 := hm ▸ Dev.get_lt _ _
  have hzero : Dev.Turned d e k true (d.is (R.TM_STAT_Q k)) (d.get (R.TM_PRESET_PRESET k)) :=
    ⟨hk, (hstat _ rfl).trans hr, hstat _ rfl, hn, hstat _ rfl⟩
  have heq : d.tmTurned k = e.tmMode k m := congrArg (e.tmMode k) hmode
  rw [heq]
  unfold Dev.tmMode
  rw [hn, hstat _ rfl]
  interval_cases m
  · exact hzero
  · exact hset _ _ _ hp
  · exact hset _ _ _ hp
  · exact hset _ _ _ hp
  · exact hset _ _ _ hp
  · exact hset _ _ _ (by decide)
  · exact hzero
  · exact hzero

theorem Dev.timerExpiry_run {d : Dev} {k : Nat} (hk : k < 64) (hr : d.is (R.TM_STAT_RUN k) = true) : d.timerExpiry k =
    if ((d.tmTurned k).setExp k true).is (R.TM_CFG_IE k) then ((d.tmTurned k).setExp k true).event evTm
    else (d.tmTurned k).setExp k true := by
  unfold Dev.timerExpiry
  rw [if_pos ⟨hk, hr⟩]
  rfl

/-- The registers that the expiry of timer `k` writes. -/
abbrev tmExpired (k : Nat) : List Nat := [R.TM_STAT k, R.TM_COUNT k, tmOwn k, R.SEQ_EVPEND]

theorem Dev.timerExpiry_spec {d : Dev} {k : Nat} (hk : k < 64) (hr : d.is (R.TM_STAT_RUN k) = true) {m : Nat}
    (hm : d.get (R.TM_CFG_MODE k) = m) {t : Dev} (ht : t = d.timerExpiry k) :
    t.is (R.TM_STAT_RUN k) = decide (m = 0 ∨ 5 ≤ m) ∧
    t.is (R.TM_STAT_Q k) = (if m = 5 then !d.is (R.TM_STAT_Q k) else if m = 1 then true
      else if m = 2 ∨ m = 3 ∨ m = 4 then false else d.is (R.TM_STAT_Q k)) ∧
    t.get (R.TM_COUNT_COUNT k) = (if m = 5 then 0 else d.get (R.TM_PRESET_PRESET k)) ∧
    t.is (R.TM_STAT_EXP k) = true ∧ t.is (R.TM_STAT_IN k) = d.is (R.TM_STAT_IN k) ∧
    (∀ j, j < 32 → (t.reg (tmOwn k)).getLsbD j = (decide (j = k % 32) || (d.reg (tmOwn k)).getLsbD j)) ∧
    (∀ j, j < 11 → bitOf (t.get R.SEQ_EVPEND_EV) j =
      (bitOf (d.get R.SEQ_EVPEND_EV) j || (decide (j = 5) && d.seqLive && d.is (R.TM_CFG_IE k)))) ∧
    d.butRegs t (tmExpired k) := by
  obtain ⟨hk1, hR, hQ, hC, hI⟩ := Dev.tmTurned_spec hr hm
  obtain ⟨hk2, hE, hS, hO⟩ := (d.tmTurned k).setExp_spec hk true
  obtain ⟨-, hco⟩ := tmStat_ne_own hk
  set e := (d.tmTurned k).setExp k true with he
  have hsub1 : Dev.Scope.le { regs := tmRegs k } { regs := tmExpired k } = true := by simp [Dev.Scope.le, Dev.Scope.has]
  have hsub2 : Dev.Scope.le { regs := [R.TM_STAT k, tmOwn k] } { regs := tmExpired k } = true := by
    simp [Dev.Scope.le, Dev.Scope.has]
  have hke : Dev.Keeps { regs := tmExpired k } d e := (Dev.Keeps.refl.step hsub1 hk1).step hsub2 hk2
  have hev : ∀ x : Dev, Dev.Keeps { regs := [R.SEQ_EVPEND] } x (x.event evTm) := fun x => Dev.Keeps.event .refl
  have hte : Dev.Keeps { regs := [R.SEQ_EVPEND] } e t := by
    rw [ht, Dev.timerExpiry_run hk hr]
    exact Dev.Keeps.ite (hev e) .refl
  have hlow : ∀ a, 0x2400 ≤ a → ({ regs := [R.SEQ_EVPEND] } : Dev.Scope).has a = false := by
    intro a ha
    have : a ≠ R.SEQ_EVPEND := by
      show a ≠ 0x2018
      omega
    simpa [Dev.Scope.has] using this
  have hst : ({ regs := [R.SEQ_EVPEND] } : Dev.Scope).has (R.TM_STAT k) = false := hlow _ (by show 0x2400 ≤ 0x240C + 16 * k; omega)
  have hown : 0x2400 ≤ tmOwn k := by
    unfold tmOwn
    split
    · decide
    · decide
  -- what the timer itself writes: its own two registers and its mirror
  have hke' : Dev.Keeps { regs := [R.TM_STAT k, R.TM_COUNT k, tmOwn k] } d e :=
    (Dev.Keeps.refl.step (by simp [Dev.Scope.le, Dev.Scope.has]) hk1).step (by simp [Dev.Scope.le, Dev.Scope.has]) hk2
  have hfree : ∀ a, a ≠ R.TM_STAT k → a ≠ R.TM_COUNT k → a ≠ tmOwn k →
      ({ regs := [R.TM_STAT k, R.TM_COUNT k, tmOwn k] } : Dev.Scope).has a = false := by
    intro a h1 h2 h3
    simp [Dev.Scope.has, h1, h2, h3]
  have hlow' : ∀ a, a < 0x2400 ∨ 0x3000 ≤ a → ({ regs := [R.TM_STAT k, R.TM_COUNT k, tmOwn k] } : Dev.Scope).has a = false := by
    intro a ha
    refine hfree a ?_ ?_ ?_
    · show a ≠ 0x240C + 16 * k
      omega
    · show a ≠ 0x2408 + 16 * k
      omega
    · unfold tmOwn
      split
      · show a ≠ 0x2C48
        omega
      · show a ≠ 0x2C4C
        omega
  have hie : e.is (R.TM_CFG_IE k) = d.is (R.TM_CFG_IE k) := by
    refine hke'.is (hfree _ ?_ ?_ ?_)
    · show 0x2400 + 16 * k ≠ 0x240C + 16 * k
      omega
    · show 0x2400 + 16 * k ≠ 0x2408 + 16 * k
      omega
    · unfold tmOwn
      split
      · show 0x2400 + 16 * k ≠ 0x2C48
        omega
      · show 0x2400 + 16 * k ≠ 0x2C4C
        omega
  refine ⟨?_, ?_, ?_, ?_, ?_, fun j hj => ?_, fun j hj => ?_, ?_⟩
  · rw [hte.is hst, hS 1 (by decide), hR]
  · rw [hte.is hst, hS 2 (by decide), hQ]
  · rw [hte.get (hlow _ (by show 0x2400 ≤ 0x2408 + 16 * k; omega)), hk2.get ?_, hC]
    have hcs : R.TM_COUNT k ≠ R.TM_STAT k := by
      show 0x2408 + 16 * k ≠ 0x240C + 16 * k
      omega
    simpa [Dev.Scope.has, hcs] using hco
  · rw [hte.is hst, hE]
  · rw [hte.is hst, hS 0 (by decide), hI]
  · have hr1 : (d.tmTurned k).reg (tmOwn k) = d.reg (tmOwn k) := by
      refine hk1.reg _ ?_
      simpa [Dev.Scope.has] using ⟨(tmStat_ne_own hk).1.symm, hco.symm⟩
    rw [hte.reg _ (hlow _ hown), hO j hj, hr1]
    split
    next h => simp [h]
    next h => simp [h]
  · have hget : e.get R.SEQ_EVPEND_EV = d.get R.SEQ_EVPEND_EV := hke'.get (hlow' _ (by decide))
    have hlive : e.seqLive = d.seqLive := hke'.seqLive (hlow' _ (by decide)) (hlow' _ (by decide))
    rw [ht, Dev.timerExpiry_run hk hr, ← he, hie]
    cases d.is (R.TM_CFG_IE k) with
    | true =>
      rw [if_pos rfl, Dev.bitOf_event _ _ hj, hget, hlive, Bool.and_true]
      rfl
    | false => rw [if_neg Bool.false_ne_true, hget, Bool.and_false, Bool.or_false]
  · exact (hke.step (by simp [Dev.Scope.le, Dev.Scope.has]) hte).butRegs

/-! ### Writes of the registers of a timer -/

theorem tmRegs_open {k : Nat} (hk : k < 64) {a : Nat} (ha : a = R.TM_CFG k ∨ a = R.TM_PRESET k ∨ a = R.TM_STAT k) :
    (regSpec? a).isNone = false ∧ haltedOff.contains a = false ∧ heldOff a = false := by
  rcases ha with rfl | rfl | rfl
  all_goals
    revert k
    decide

/-- A write of a register of the panel logic reaches it in every state out of reset. -/
theorem Dev.ioWrite_panel {d : Dev} (h0 : d.sys.inReset = false) {a : Nat} (h1 : 0x2400 ≤ a) (h2 : a < 0x3000)
    (hs : (regSpec? a).isNone = false) (hh : haltedOff.contains a = false) (ho : heldOff a = false) (host : Bool) (v : Nat) :
    d.ioWrite host a v = d.ioPanel a v := by
  have hr : d.regReachable a = true := by
    unfold Dev.regReachable regDomain
    simp only [show ¬a < 0x400 by omega, show ¬a < 0x1400 by omega, show ¬a < 0x1800 by omega, show ¬a < 0x1C00 by omega,
      show ¬a < 0x2000 by omega, show ¬a < 0x2400 by omega, show a < 0x3800 by omega, if_false, if_true]
  rw [Dev.ioWrite_live h0 hr hs (fun h => absurd (hh.symm.trans h) Bool.false_ne_true)
    (fun h => absurd (ho.symm.trans h) Bool.false_ne_true)]
  simp only [show ¬a < 0x400 by omega, show ¬a < 0xA00 by omega, show ¬a < 0x1400 by omega, show ¬a < 0x2000 by omega,
    show ¬a < 0x2400 by omega, h2, if_false, if_true]

theorem Dev.ioWrite_tmCfg {d : Dev} (h0 : d.sys.inReset = false) {k : Nat} (hk : k < 64) (v : Nat) :
    d.ioWrite true (R.TM_CFG k) v = d.tmCfgWrite k v := by
  obtain ⟨hs, hh, ho⟩ := tmRegs_open hk (.inl rfl)
  have ha : R.TM_CFG k = 0x2400 + 16 * k := rfl
  rw [Dev.ioWrite_panel h0 (by omega) (by omega) hs hh ho]
  unfold Dev.ioPanel
  rw [if_pos (by omega)]
  have hdiv : (R.TM_CFG k - 0x2400) / 16 = k := by omega
  rw [hdiv]
  exact if_pos rfl

theorem Dev.ioWrite_tmPreset {d : Dev} (h0 : d.sys.inReset = false) {k : Nat} (hk : k < 64) (v : Nat) :
    d.ioWrite true (R.TM_PRESET k) v = d.tmPresetWrite k v := by
  obtain ⟨hs, hh, ho⟩ := tmRegs_open hk (.inr (.inl rfl))
  have ha : R.TM_PRESET k = 0x2404 + 16 * k := rfl
  rw [Dev.ioWrite_panel h0 (by omega) (by omega) hs hh ho]
  unfold Dev.ioPanel
  rw [if_pos (by omega)]
  have hdiv : (R.TM_PRESET k - 0x2400) / 16 = k := by omega
  rw [hdiv, if_neg (by show R.TM_PRESET k ≠ 0x2400 + 16 * k; omega)]
  exact if_pos rfl

theorem Dev.ioTmTrig_eq {d : Dev} (h0 : d.sys.inReset = false) {k : Nat} (hk : k < 64) :
    d.ioTmTrig k = (d.put (R.TM_STAT_IN k) (16 + d.get (R.TM_STAT_IN k))).tmTrig k := by
  obtain ⟨hs, hh, ho⟩ := tmRegs_open hk (.inr (.inr rfl))
  have ha : R.TM_STAT k = 0x240C + 16 * k := rfl
  have hin : d.get (R.TM_STAT_IN k) < 2 := Dev.get_lt _ _
  unfold Dev.ioTmTrig
  rw [Dev.ioWrite_panel h0 (by omega) (by omega) hs hh ho]
  unfold Dev.ioPanel
  rw [if_pos (by omega)]
  have hdiv : (R.TM_STAT k - 0x2400) / 16 = k := by omega
  rw [hdiv, if_neg (by show R.TM_STAT k ≠ 0x2400 + 16 * k; omega), if_neg (by show R.TM_STAT k ≠ 0x2404 + 16 * k; omega)]
  refine (if_pos rfl).trans ?_
  generalize d.get (R.TM_STAT_IN k) = i at hin ⊢
  have h3 : bitOf (16 + i) 3 = false := by
    interval_cases i
    · rfl
    · rfl
  have h4 : bitOf (16 + i) 4 = true := by
    interval_cases i
    · rfl
    · rfl
  rw [h3, h4]
  rfl

/-- A field that a mask lets through. -/
theorem Field.of_and (f : Field) (v m : Word) (h : f.of m = 2 ^ f.width - 1) : f.of (v &&& m) = f.of v := by
  refine Nat.eq_of_testBit_eq fun j => ?_
  rw [Field.of_bit, Field.of_bit, BitVec.getLsbD_and]
  by_cases hj : j < f.width
  · have hm : m.getLsbD (f.lo + j) = true := by
      have hb := Field.of_bit f m j
      rw [h, Nat.testBit_two_pow_sub_one, decide_eq_true hj, Bool.true_and] at hb
      exact hb.symm
    rw [hm, Bool.and_true]
  · simp [hj]

/-- The configuration that a write of `v` over `old` gives a timer (R356). -/
def tmCfgOf (old : Word) (k : Nat) (v : Word) : Word :=
  let w := v &&& 0x3F7F
  let w := if 6 ≤ v.toNat % 8 then (R.TM_CFG_MODE k).into w ((R.TM_CFG_MODE k).of old) else w
  if v.toNat / 8 % 4 = 3 then (R.TM_CFG_BASE k).into w ((R.TM_CFG_BASE k).of old) else w

theorem Dev.tmCfgWrite_eq (d : Dev) (k : Nat) (v : Word) :
    d.tmCfgWrite k v.toNat = (d.setReg (R.TM_CFG k) (tmCfgOf (d.reg (R.TM_CFG k)) k v)).tmSet k false false 0 := by
  unfold Dev.tmCfgWrite
  rw [show word v.toNat = v from BitVec.ofNat_toNat ..]
  rfl

/-- A field of the configuration that no invalid value keeps. -/
theorem tmCfgOf_free (old : Word) (k : Nat) (v : Word) (f : Field) (hm : f.of 0x3F7F = 2 ^ f.width - 1) (hf : 5 ≤ f.lo) :
    f.of (tmCfgOf old k v) = f.of v := by
  have h1 : ∀ w n, f.of ((R.TM_CFG_MODE k).into w n) = f.of w := fun w n =>
    Field.of_into_ne _ _ _ _ (.inl (by show 0 + 3 ≤ f.lo; omega))
  have h2 : ∀ w n, f.of ((R.TM_CFG_BASE k).into w n) = f.of w := fun w n =>
    Field.of_into_ne _ _ _ _ (.inl (by show 3 + 2 ≤ f.lo; omega))
  unfold tmCfgOf
  rw [apply_ite f.of, h2, ite_self, apply_ite f.of, h1, ite_self]
  exact Field.of_and _ _ _ hm

theorem tmCfgOf_mode (old : Word) (k : Nat) (v : Word) : (R.TM_CFG_MODE k).of (tmCfgOf old k v) =
    if v.toNat % 8 < 6 then v.toNat % 8 else (R.TM_CFG_MODE k).of old := by
  have hw : (R.TM_CFG_MODE k).of (v &&& 0x3F7F) = v.toNat % 8 :=
    (Field.of_and (R.TM_CFG_MODE k) v 0x3F7F (by show (0x3F7F : Word).toNat / 2 ^ 0 % 2 ^ 3 = 2 ^ 3 - 1; decide)).trans (by
      show v.toNat / 2 ^ 0 % 2 ^ 3 = _
      omega)
  have hlt : (R.TM_CFG_MODE k).of old < 2 ^ 3 := Field.of_lt _ _
  have hb : ∀ w n, (R.TM_CFG_MODE k).of ((R.TM_CFG_BASE k).into w n) = (R.TM_CFG_MODE k).of w := fun w n =>
    Field.of_into_ne _ _ _ _ (.inr (by show 0 + 3 ≤ 3; decide))
  unfold tmCfgOf
  rw [apply_ite (R.TM_CFG_MODE k).of, hb, ite_self, apply_ite (R.TM_CFG_MODE k).of,
    Field.of_into _ _ _ (by show 0 + 3 ≤ 32; decide), hw, show (R.TM_CFG_MODE k).width = 3 from rfl, Nat.mod_eq_of_lt hlt]
  by_cases h : 6 ≤ v.toNat % 8
  · rw [if_pos h, if_neg (by omega)]
  · rw [if_neg h, if_pos (by omega)]

theorem tmCfgOf_base (old : Word) (k : Nat) (v : Word) : (R.TM_CFG_BASE k).of (tmCfgOf old k v) =
    if v.toNat / 8 % 4 = 3 then (R.TM_CFG_BASE k).of old else v.toNat / 8 % 4 := by
  have hw : (R.TM_CFG_BASE k).of (v &&& 0x3F7F) = v.toNat / 8 % 4 :=
    Field.of_and (R.TM_CFG_BASE k) v 0x3F7F (by show (0x3F7F : Word).toNat / 2 ^ 3 % 2 ^ 2 = 2 ^ 2 - 1; decide)
  have hlt : (R.TM_CFG_BASE k).of old < 2 ^ 2 := Field.of_lt _ _
  have hb : ∀ w n, (R.TM_CFG_BASE k).of ((R.TM_CFG_MODE k).into w n) = (R.TM_CFG_BASE k).of w := fun w n =>
    Field.of_into_ne _ _ _ _ (.inl (by show 0 + 3 ≤ 3; decide))
  unfold tmCfgOf
  rw [apply_ite (R.TM_CFG_BASE k).of, Field.of_into _ _ _ (by show 3 + 2 ≤ 32; decide), apply_ite (R.TM_CFG_BASE k).of, hb, ite_self,
    hw, show (R.TM_CFG_BASE k).width = 2 from rfl, Nat.mod_eq_of_lt hlt]

/-- A field of one bit. -/
theorem Field.of_bne (f : Field) (v : Word) (h : f.width = 1) : (f.of v != 0) = v.getLsbD f.lo := by
  have hb := Field.of_bit f v 0
  have hlt := Field.of_lt f v
  rw [h] at hb hlt
  rw [Nat.testBit_zero, decide_eq_true (by decide : 0 < 1), Bool.true_and, Nat.add_zero] at hb
  rw [← hb]
  generalize f.of v = x at hlt
  interval_cases x
  · rfl
  · rfl

/-- A field that is set to its value. -/
theorem Field.into_self (f : Field) (v : Word) (n : Nat) (h : n % 2 ^ f.width = f.of v) : f.into v n = v := by
  refine BitVec.eq_of_getLsbD_eq fun i hi => ?_
  rw [Field.into_bit f v n i hi]
  split
  next hb =>
    have hbit := congrArg (fun x => x.testBit (i - f.lo)) h
    simp only [Nat.testBit_mod_two_pow, Field.of_bit] at hbit
    rw [show decide (i - f.lo < f.width) = true by simp only [decide_eq_true_eq]; omega, Bool.true_and, Bool.true_and,
      show f.lo + (i - f.lo) = i by omega] at hbit
    exact hbit
  next => rfl

theorem Dev.reg_put_same (d : Dev) (f : Field) (n : Nat) (h : n % 2 ^ f.width = d.get f) (a : Nat) : (d.put f n).reg a = d.reg a := by
  rw [Dev.reg_put]
  split
  next ha =>
    rw [ha]
    exact Field.into_self _ _ _ h
  next => rfl

/-- The write that triggers a timer changes no register (R357). -/
theorem Dev.trigWrite_reg (d : Dev) (k a : Nat) : (d.put (R.TM_STAT_IN k) (16 + d.get (R.TM_STAT_IN k))).reg a = d.reg a := by
  refine d.reg_put_same _ _ ?_ a
  have hin : d.get (R.TM_STAT_IN k) < 2 ^ 1 := Dev.get_lt _ _
  show (16 + d.get (R.TM_STAT_IN k)) % 2 ^ 1 = _
  omega

theorem Dev.tmTrig_spec {d : Dev} (h0 : d.sys.inReset = false) {k : Nat} (hk : k < 64) {m : Nat} (hm : d.get (R.TM_CFG_MODE k) = m) :
    (∀ a, (d.ioTmTrig k).reg a = d.reg a) ∧ d.ioTmTrig k =
      { d with regs := (d.ioTmTrig k).regs, panel := if m = 3 ∨ m = 4 then { d.panel with tmTrig := setBit d.panel.tmTrig k true } else d.panel } := by
  have hmode : (d.put (R.TM_STAT_IN k) (16 + d.get (R.TM_STAT_IN k))).get (R.TM_CFG_MODE k) = m :=
    (congrArg (R.TM_CFG_MODE k).of (d.trigWrite_reg k _)).trans hm
  rw [Dev.ioTmTrig_eq h0 hk]
  unfold Dev.tmTrig
  rw [hmode]
  by_cases h : m = 3 ∨ m = 4
  · rw [if_pos ⟨hk, h⟩, if_pos h]
    exact ⟨d.trigWrite_reg k, rfl⟩
  · rw [if_neg (fun h' => h h'.2), if_neg h]
    exact ⟨d.trigWrite_reg k, rfl⟩

/-- Settles O38: the expiry of a timer and the writes of its registers. -/
theorem timersExpireAndAreWritten : Obligations.TimersExpireAndAreWritten := by
  unfold Obligations.TimersExpireAndAreWritten
  intro own k v
  have hk : k.val < 64 := k.isLt
  refine ⟨?_, ?_, ?_, ?_, ?_, ?_⟩
  · refine leaves_of_act (f := fun d => d.timerExpiry k.val) (fun _ => rfl) fun d _ hr => ?_
    obtain ⟨hR, hQ, hC, hE, hI, hO, hV, hB⟩ := Dev.timerExpiry_spec hk hr rfl rfl
    refine ⟨fun hm => ?_, fun hm => ?_, fun hm => ?_, fun hm => ?_, hC, hE, hI, hO, hV, hB⟩
    · rw [hR, hQ, hm]
      exact ⟨rfl, rfl⟩
    · rw [hR, hQ]
      rcases hm with hm | hm | hm
      all_goals
        rw [hm]
        exact ⟨rfl, rfl⟩
    · rw [hR, hQ, hm]
      exact ⟨rfl, rfl⟩
    · rw [hR, hQ, if_neg (by omega), if_neg (by omega), if_neg (by omega)]
      exact ⟨decide_eq_true (by omega), rfl⟩
  · refine does_of_act (f := fun d => d.timerExpiry k.val) (fun _ => rfl) fun d _ hr => ?_
    exact if_neg (by simp [hr])
  · refine leaves_of_act (f := fun d => d.ioWrite true (R.TM_CFG k.val) v.toNat) (fun _ => rfl) fun d h0 _ => ?_
    rw [Dev.ioWrite_tmCfg h0 hk, Dev.tmCfgWrite_eq]
    set e := d.setReg (R.TM_CFG k.val) (tmCfgOf (d.reg (R.TM_CFG k.val)) k.val v) with he
    obtain ⟨hkeep, hR, hQ, hC, hE, hI⟩ := e.tmSet_spec k.val false false 0
    have hst : ∀ f : Field, f.addr = R.TM_STAT k.val → e.is f = d.is f := by
      intro f hf
      refine congrArg (fun n => n != 0) (Dev.get_setReg_ne _ _ _ _ ?_)
      rw [hf]
      show 0x240C + 16 * k.val ≠ 0x2400 + 16 * k.val
      omega
    have hcfg : (e.tmSet k.val false false 0).reg (R.TM_CFG k.val) = tmCfgOf (d.reg (R.TM_CFG k.val)) k.val v := by
      refine (hkeep.reg _ ?_).trans (Dev.reg_setReg_self _ _ _)
      simp [Dev.Scope.has]
    have hget : ∀ f : Field, f.addr = R.TM_CFG k.val →
        (e.tmSet k.val false false 0).get f = f.of (tmCfgOf (d.reg (R.TM_CFG k.val)) k.val v) := by
      intro f hf
      rw [← hcfg, ← hf]
      rfl
    refine ⟨?_, hR, hQ, hC, hE.trans (hst _ rfl), hI.trans (hst _ rfl), ?_, ?_, ?_, ?_, ?_⟩
    · refine Dev.Keeps.butRegs (Dev.Keeps.step (Dev.Keeps.setReg .refl ?_) ?_ hkeep)
      · simp [Dev.Scope.has]
      · simp [Dev.Scope.le, Dev.Scope.has]
    · rw [hget _ rfl, tmCfgOf_mode]
      rfl
    · rw [hget _ rfl, tmCfgOf_base]
      rfl
    · show ((e.tmSet k.val false false 0).get (R.TM_CFG_IE k.val) != 0) = _
      rw [hget _ rfl, tmCfgOf_free _ _ _ _ (by show (0x3F7F : Word).toNat / 2 ^ 5 % 2 ^ 1 = 2 ^ 1 - 1; decide) (by show 5 ≤ 5; decide)]
      exact Field.of_bne _ _ rfl
    · show ((e.tmSet k.val false false 0).get (R.TM_CFG_SRC k.val) != 0) = _
      rw [hget _ rfl, tmCfgOf_free _ _ _ _ (by show (0x3F7F : Word).toNat / 2 ^ 6 % 2 ^ 1 = 2 ^ 1 - 1; decide) (by show 5 ≤ 6; decide)]
      exact Field.of_bne _ _ rfl
    · rw [hget _ rfl, tmCfgOf_free _ _ _ _ (by show (0x3F7F : Word).toNat / 2 ^ 8 % 2 ^ 6 = 2 ^ 6 - 1; decide) (by show 5 ≤ 8; decide)]
      rfl
  · refine leaves_of_act (f := fun d => d.ioWrite true (R.TM_PRESET k.val) v.toNat) (fun _ => rfl) fun d h0 _ => ?_
    rw [Dev.ioWrite_tmPreset h0 hk]
    exact ⟨Dev.Keeps.butRegs (Dev.Keeps.put .refl (by simp [Dev.Scope.has])),
      Dev.get_put_self _ (R.TM_PRESET_PRESET k.val) _ (by show 0 + 24 ≤ 32; decide)⟩
  · refine leaves_of_act (f := fun d => d.ioTmTrig k.val) (fun _ => rfl) fun d h0 hm => ?_
    obtain ⟨hr, he⟩ := Dev.tmTrig_spec h0 hk rfl
    rw [if_pos hm] at he
    have hp : (d.ioTmTrig k.val).panel = { d.panel with tmTrig := setBit d.panel.tmTrig k.val true } := by rw [he]
    refine ⟨?_, hr, fun j => ?_⟩
    · rw [hp]
      exact he
    · rw [hp]
      exact bitOf_setBit_true _ _ _
  · refine leaves_of_act (f := fun d => d.ioTmTrig k.val) (fun _ => rfl) fun d h0 hm => ?_
    obtain ⟨hr, he⟩ := Dev.tmTrig_spec h0 hk rfl
    rw [if_neg (by omega)] at he
    exact ⟨fun b _ => hr b, he⟩

end Sys2Proof.Machine
end

section
/-!
Proofs for edge detectors, pins, PWM and swaps (chapter 12): the statement O39.
-/

namespace Sys2Proof.Machine
set_option Elab.async false

/-! ### Edge detectors -/

theorem edCfg_open {k : Nat} (hk : k < 64) :
    (regSpec? (R.ED_CFG k)).isNone = false ∧ haltedOff.contains (R.ED_CFG k) = false ∧ heldOff (R.ED_CFG k) = false := by
  revert k
  decide

theorem Dev.ioWrite_edCfg {d : Dev} (h0 : d.sys.inReset = false) {k : Nat} (hk : k < 64) (v : Nat) :
    d.ioWrite true (R.ED_CFG k) v = d.edCfgWrite k v := by
  obtain ⟨hs, hh, ho⟩ := edCfg_open hk
  have ha : R.ED_CFG k = 0x2800 + 8 * k := rfl
  rw [Dev.ioWrite_panel h0 (by omega) (by omega) hs hh ho]
  unfold Dev.ioPanel
  rw [if_neg (by omega), if_pos (by omega)]
  have hdiv : (R.ED_CFG k - 0x2800) / 8 = k := by omega
  rw [hdiv]
  exact if_pos rfl

/-- The register of the mirrors that shows the level of detector `k`. -/
abbrev edOwn (k : Nat) : Nat := if k < 32 then R.ED_LEVEL0 else R.ED_LEVEL1

theorem edStat_ne_own {k : Nat} (hk : k < 64) : R.ED_STAT k ≠ edOwn k ∧ R.ED_CFG k ≠ edOwn k := by
  unfold edOwn
  split
  · constructor
    · show 0x2804 + 8 * k ≠ 0x2A0C
      omega
    · show 0x2800 + 8 * k ≠ 0x2A0C
      omega
  · constructor
    · show 0x2804 + 8 * k ≠ 0x2A10
      omega
    · show 0x2800 + 8 * k ≠ 0x2A10
      omega

/-- The device with the level of detector `k` at `s` (R359). -/
def Dev.edLevel (d : Dev) (k : Nat) (s : Bool) : Dev := (d.setF k s).putB (R.ED_STAT_SRC k) s

theorem Dev.edLevel_spec (d : Dev) {k : Nat} (hk : k < 64) (s : Bool) :
    Dev.Keeps { regs := [R.ED_STAT k, edOwn k] } d (d.edLevel k s) ∧ (d.edLevel k s).is (R.ED_STAT_LEVEL k) = s ∧
      (d.edLevel k s).is (R.ED_STAT_SRC k) = s ∧ (d.edLevel k s).is (R.ED_STAT_LAT k) = d.is (R.ED_STAT_LAT k) ∧
      (d.edLevel k s).get (R.ED_STAT_CNT k) = d.get (R.ED_STAT_CNT k) ∧
      ∀ j, j < 32 → ((d.edLevel k s).reg (edOwn k)).getLsbD j = if j = k % 32 then s else (d.reg (edOwn k)).getLsbD j := by
  obtain ⟨hne, -⟩ := edStat_ne_own hk
  have hs : ({ regs := [R.ED_STAT k, edOwn k] } : Dev.Scope).has (R.ED_STAT k) = true := by simp [Dev.Scope.has]
  have ho : ({ regs := [R.ED_STAT k, edOwn k] } : Dev.Scope).has (edOwn k) = true := by simp [Dev.Scope.has]
  have hbit : ∀ (e : Dev) (f : Field), f.addr = R.ED_STAT k → (e.putBit R.ED_LEVEL0 R.ED_LEVEL1 k s).get f = e.get f := by
    intro e f hf
    have hr : (e.putBit R.ED_LEVEL0 R.ED_LEVEL1 k s).reg f.addr = e.reg f.addr :=
      Dev.reg_setReg_ne _ _ _ _ (by rw [hf]; exact hne)
    exact congrArg f.of hr
  have hisbit : ∀ (e : Dev) (f : Field), f.addr = R.ED_STAT k → (e.putBit R.ED_LEVEL0 R.ED_LEVEL1 k s).is f = e.is f :=
    fun e f hf => congrArg (fun n => n != 0) (hbit e f hf)
  have hput : ∀ (e : Dev) (a b : Nat), a ≠ b →
      (e.putB ⟨R.ED_STAT k, a, 1⟩ s).is ⟨R.ED_STAT k, b, 1⟩ = e.is ⟨R.ED_STAT k, b, 1⟩ := fun e a b h =>
    Dev.is_put_ne _ _ _ _ (.inr (by
      show a + 1 ≤ b ∨ b + 1 ≤ a
      omega))
  have hcnt : ∀ (e : Dev) (a : Nat), a < 8 → (e.putB ⟨R.ED_STAT k, a, 1⟩ s).get (R.ED_STAT_CNT k) = e.get (R.ED_STAT_CNT k) :=
    fun e a h => Dev.get_put_ne _ _ _ _ (.inr (.inl (by show a + 1 ≤ 8; omega)))
  unfold Dev.edLevel Dev.setF
  refine ⟨Dev.Keeps.putB (Dev.Keeps.setReg (Dev.Keeps.refl.putB hs) ho) hs, ?_, ?_, ?_, ?_, fun j hj => ?_⟩
  · rw [hput _ _ _ (by decide), hisbit _ _ rfl, Dev.is_putB_bit _ _ _ _ (by decide)]
  · rw [Dev.is_putB_bit _ _ _ _ (by decide)]
  · rw [hput _ _ _ (by decide), hisbit _ _ rfl, hput _ _ _ (by decide)]
  · rw [hcnt _ _ (by decide), hbit _ _ rfl, hcnt _ _ (by decide)]
  · have hr : ∀ e : Dev, (e.putB (R.ED_STAT_SRC k) s).reg (edOwn k) = e.reg (edOwn k) := fun e =>
      Dev.reg_put_ne _ _ _ _ hne.symm
    have hr' : (d.putB (R.ED_STAT_LEVEL k) s).reg (edOwn k) = d.reg (edOwn k) := Dev.reg_put_ne _ _ _ _ hne.symm
    rw [hr, Dev.getLsbD_putBit _ _ _ _ _ hj, show (if k < 32 then R.ED_LEVEL0 else R.ED_LEVEL1) = edOwn k from rfl, hr']

theorem Dev.edArm_eq (d : Dev) (k : Nat) : d.edArm k = (d.put (R.ED_STAT_CNT k) 0).edLevel k
    ((d.put (R.ED_STAT_CNT k) 0).is (R.ED_CFG_EN k) && (d.put (R.ED_STAT_CNT k) 0).edLevelNow k) := by
  unfold Dev.edArm
  extract_lets e s
  show (if e.is (R.ED_CFG_EN k) then _ else _) = e.edLevel k (e.is (R.ED_CFG_EN k) && e.edLevelNow k)
  cases e.is (R.ED_CFG_EN k) with
  | true => rfl
  | false => rfl

/-- The sources are told by registers outside those of the detectors. -/
theorem Dev.edSource_keeps {d e : Dev} {k : Nat} (hk : k < 64) (h : Dev.Keeps { regs := [R.ED_CFG k, R.ED_STAT k] } d e)
    (styp : Nat) {snum : Nat} (hn : snum < 32) : e.edSource styp snum = d.edSource styp snum := by
  have hfree : ∀ a, a < 0x2800 ∨ 0x2A00 ≤ a → ({ regs := [R.ED_CFG k, R.ED_STAT k] } : Dev.Scope).has a = false := by
    intro a ha
    have h1 : a ≠ R.ED_CFG k := by
      show a ≠ 0x2800 + 8 * k
      omega
    have h2 : a ≠ R.ED_STAT k := by
      show a ≠ 0x2804 + 8 * k
      omega
    simp [Dev.Scope.has, h1, h2]
  have hdom : ∀ j, e.domOn j = d.domOn j := fun j => h.domOn j (hfree _ (by decide)) (hfree _ (by decide))
  have hwin : e.winLevel snum = d.winLevel snum := by
    unfold Dev.winLevel Dev.auxOn
    rw [hdom, h.get (hfree _ (.inl (show 0x1880 + 16 * snum < 0x2800 by omega)))]
  unfold Dev.edSource
  rw [hdom, hdom, h.isMember (hfree _ (by decide)), h.get (hfree _ (by decide)), h.reg _ (hfree _ (by decide)), hwin,
    h.is (hfree _ (by decide)), h.reg _ (hfree _ (by decide)), h.get (hfree _ (by decide))]

/-- A write of the configuration of a detector whose source exists. -/
theorem Dev.edCfgWrite_eq (d : Dev) (k : Nat) (v : Word) (hv : v.toNat / 2 % 8 < 6 ∧ (v.toNat / 2 % 8 = 0 → v.toNat / 16 % 32 ≤ 5) ∧
    (v.toNat / 2 % 8 = 2 → v.toNat / 16 % 32 ≤ 7)) : d.edCfgWrite k v.toNat = (d.setReg (R.ED_CFG k) (v &&& 0xFF0FFF)).edArm k := by
  unfold Dev.edCfgWrite
  extract_lets styp snum
  rw [show word v.toNat = v from BitVec.ofNat_toNat ..]
  refine if_neg ?_
  show ¬(6 ≤ v.toNat / 2 % 8 ∨ (v.toNat / 2 % 8 = 0 ∧ 5 < v.toNat / 16 % 32) ∨ (v.toNat / 2 % 8 = 2 ∧ 7 < v.toNat / 16 % 32))
  omega

theorem Dev.edCfgWrite_none (d : Dev) (k : Nat) (v : Word) (hv : ¬(v.toNat / 2 % 8 < 6 ∧ (v.toNat / 2 % 8 = 0 → v.toNat / 16 % 32 ≤ 5) ∧
    (v.toNat / 2 % 8 = 2 → v.toNat / 16 % 32 ≤ 7))) : d.edCfgWrite k v.toNat = d := by
  unfold Dev.edCfgWrite
  extract_lets styp snum
  refine if_pos ?_
  show 6 ≤ v.toNat / 2 % 8 ∨ (v.toNat / 2 % 8 = 0 ∧ 5 < v.toNat / 16 % 32) ∨ (v.toNat / 2 % 8 = 2 ∧ 7 < v.toNat / 16 % 32)
  omega

/-- The fields that the configuration of a detector keeps of `v`. -/
theorem edCfg_fields (k : Nat) (v : Word) : ((R.ED_CFG_EN k).of (v &&& 0xFF0FFF) != 0) = v.getLsbD 0 ∧
    (R.ED_CFG_STYPE k).of (v &&& 0xFF0FFF) = v.toNat / 2 % 8 ∧ (R.ED_CFG_SNUM k).of (v &&& 0xFF0FFF) = v.toNat / 16 % 32 := by
  refine ⟨?_, ?_, ?_⟩
  · rw [Field.of_and (R.ED_CFG_EN k) v 0xFF0FFF (by show (0xFF0FFF : Word).toNat / 2 ^ 0 % 2 ^ 1 = 2 ^ 1 - 1; decide)]
    exact Field.of_bne _ _ rfl
  · exact Field.of_and (R.ED_CFG_STYPE k) v 0xFF0FFF (by show (0xFF0FFF : Word).toNat / 2 ^ 1 % 2 ^ 3 = 2 ^ 3 - 1; decide)
  · exact Field.of_and (R.ED_CFG_SNUM k) v 0xFF0FFF (by show (0xFF0FFF : Word).toNat / 2 ^ 4 % 2 ^ 5 = 2 ^ 5 - 1; decide)

theorem Dev.edCfgWrite_spec (d : Dev) {k : Nat} (hk : k < 64) (v : Word) (hv : v.toNat / 2 % 8 < 6 ∧
    (v.toNat / 2 % 8 = 0 → v.toNat / 16 % 32 ≤ 5) ∧ (v.toNat / 2 % 8 = 2 → v.toNat / 16 % 32 ≤ 7)) {t : Dev}
    (ht : t = d.edCfgWrite k v.toNat) {f : Bool} (hf : f = (v.getLsbD 0 && d.edSource (v.toNat / 2 % 8) (v.toNat / 16 % 32))) :
    t.reg (R.ED_CFG k) = v &&& 0xFF0FFF ∧ t.get (R.ED_STAT_CNT k) = 0 ∧ t.is (R.ED_STAT_LEVEL k) = f ∧ t.is (R.ED_STAT_SRC k) = f ∧
      t.is (R.ED_STAT_LAT k) = d.is (R.ED_STAT_LAT k) ∧
      (∀ j, j < 32 → (t.reg (edOwn k)).getLsbD j = if j = k % 32 then f else (d.reg (edOwn k)).getLsbD j) ∧
      d.butRegs t [R.ED_CFG k, R.ED_STAT k, edOwn k] := by
  obtain ⟨hso, hco⟩ := edStat_ne_own hk
  have hcs : R.ED_CFG k ≠ R.ED_STAT k := by
    show 0x2800 + 8 * k ≠ 0x2804 + 8 * k
    omega
  set c := d.setReg (R.ED_CFG k) (v &&& 0xFF0FFF) with hc
  set e := c.put (R.ED_STAT_CNT k) 0 with he
  have hke : Dev.Keeps { regs := [R.ED_CFG k, R.ED_STAT k] } d e :=
    Dev.Keeps.put (Dev.Keeps.setReg .refl (by simp [Dev.Scope.has])) (by simp [Dev.Scope.has])
  have hcfg : e.reg (R.ED_CFG k) = v &&& 0xFF0FFF := (Dev.reg_put_ne _ _ _ _ hcs).trans (Dev.reg_setReg_self _ _ _)
  obtain ⟨hEN, hTY, hNU⟩ := edCfg_fields k v
  have hlevel : (e.is (R.ED_CFG_EN k) && e.edLevelNow k) = f := by
    have h1 : e.is (R.ED_CFG_EN k) = v.getLsbD 0 := by
      rw [← hEN, ← hcfg]
      rfl
    have h2 : e.edLevelNow k = e.edSource (v.toNat / 2 % 8) (v.toNat / 16 % 32) := by
      rw [← hTY, ← hNU, ← hcfg]
      rfl
    rw [h1, h2, Dev.edSource_keeps hk hke _ (Nat.mod_lt _ (by decide)), hf]
  have het : t = e.edLevel k f := by
    rw [ht, Dev.edCfgWrite_eq d k v hv, Dev.edArm_eq, ← hc, ← he, hlevel]
  obtain ⟨hkt, hL, hS, hA, hC, hO⟩ := e.edLevel_spec hk f
  have hlat : e.is (R.ED_STAT_LAT k) = d.is (R.ED_STAT_LAT k) := by
    rw [Dev.is_put_ne _ _ _ _ (.inr (.inr (by show 1 + 1 ≤ 8; decide)))]
    exact congrArg (fun n => n != 0) (Dev.get_setReg_ne _ _ _ _ (Ne.symm hcs))
  have hown : e.reg (edOwn k) = d.reg (edOwn k) := hke.reg _ (by simp [Dev.Scope.has, hco.symm, hso.symm])
  rw [het]
  refine ⟨?_, ?_, hL, hS, hA.trans hlat, fun j hj => ?_, ?_⟩
  · rw [hkt.reg _ (by simp [Dev.Scope.has, hco]), hcfg]
  · rw [hC]
    exact Dev.get_put_self _ (R.ED_STAT_CNT k) _ (by show 8 + 8 ≤ 32; decide)
  · rw [hO j hj, hown]
  · refine Dev.Keeps.butRegs (Dev.Keeps.step (Dev.Keeps.step .refl ?_ hke) ?_ hkt)
    · simp [Dev.Scope.le, Dev.Scope.has]
    · simp [Dev.Scope.le, Dev.Scope.has]

/-! ### Pins -/

theorem Dev.ioWrite_gpioSet {d : Dev} (h0 : d.sys.inReset = false) (v : Nat) : d.ioWrite true R.GPIO_SET v = d.gpioSet v :=
  (Dev.ioWrite_panel h0 (by decide) (by decide) (by decide) (by decide) (by decide) _ _).trans rfl

theorem Dev.ioWrite_gpioClr {d : Dev} (h0 : d.sys.inReset = false) (v : Nat) : d.ioWrite true R.GPIO_CLR v = d.gpioClr v :=
  (Dev.ioWrite_panel h0 (by decide) (by decide) (by decide) (by decide) (by decide) _ _).trans rfl

theorem Dev.bitOf_put (d : Dev) (f : Field) (h : f.lo + f.width ≤ 32) (n : Nat) {j : Nat} (hj : j < f.width) :
    bitOf ((d.put f n).get f) j = bitOf n j := by
  rw [Dev.get_put_self _ _ _ h, bitOf_testBit, Nat.testBit_mod_two_pow, decide_eq_true hj, Bool.true_and, bitOf_testBit]

theorem Dev.bitOf_gpioSet (d : Dev) (v : Word) {j : Nat} (hj : j < 6) :
    bitOf ((d.gpioSet v.toNat).get R.GPIO_OUT_PINS) j = (v.getLsbD j || bitOf (d.get R.GPIO_OUT_PINS) j) := by
  unfold Dev.gpioSet
  rw [Dev.bitOf_put _ _ (by decide) _ hj, bitOf_testBit, Nat.testBit_or, show (64 : Nat) = 2 ^ 6 from rfl, Nat.testBit_mod_two_pow,
    decide_eq_true hj, Bool.true_and, Bool.or_comm, bitOf_testBit]
  rfl

theorem Dev.bitOf_gpioClr (d : Dev) (v : Word) {j : Nat} (hj : j < 6) :
    bitOf ((d.gpioClr v.toNat).get R.GPIO_OUT_PINS) j = (!v.getLsbD j && bitOf (d.get R.GPIO_OUT_PINS) j) := by
  have hm : (63 - v.toNat % 64).testBit j = !v.toNat.testBit j := by
    have h := Nat.testBit_two_pow_sub_succ (x := v.toNat % 64) (n := 6) (Nat.mod_lt _ (by decide)) j
    rw [show (2 : Nat) ^ 6 - (v.toNat % 64 + 1) = 63 - v.toNat % 64 by omega, show (64 : Nat) = 2 ^ 6 from rfl,
      Nat.testBit_mod_two_pow, decide_eq_true hj, Bool.true_and, Bool.true_and] at h
    exact h
  unfold Dev.gpioClr
  rw [Dev.bitOf_put _ _ (by decide) _ hj, bitOf_testBit, Nat.testBit_and, hm, Bool.and_comm, bitOf_testBit]
  rfl

/-- The sum of the bits that `p` holds. -/
theorem testBit_sum_range (p : Nat → Bool) (w : Nat) :
    ((List.range w).map (fun n => if p n then 2 ^ n else 0)).sum < 2 ^ w ∧
      ∀ j, (((List.range w).map (fun n => if p n then 2 ^ n else 0)).sum).testBit j = (decide (j < w) && p j) := by
  induction w with
  | zero => exact ⟨Nat.one_pos, fun j => by simp⟩
  | succ w ih =>
    obtain ⟨hlt, hbit⟩ := ih
    rw [List.range_succ, List.map_append, List.sum_append]
    generalize ((List.range w).map (fun n => if p n then 2 ^ n else 0)).sum = s at hlt hbit
    have hsum : ([w].map (fun n => if p n then 2 ^ n else 0)).sum = if p w then 2 ^ w else 0 := by simp
    rw [hsum]
    have h2 : 2 ^ (w + 1) = 2 ^ w + 2 ^ w := by rw [pow_succ]; omega
    by_cases hp : p w = true
    · rw [if_pos hp, Nat.add_comm]
      refine ⟨by omega, fun j => ?_⟩
      rcases Nat.lt_trichotomy j w with hj | hj | hj
      · rw [Nat.testBit_two_pow_add_gt hj, hbit, decide_eq_true hj, decide_eq_true (by omega : j < w + 1)]
      · subst hj
        rw [Nat.testBit_two_pow_add_eq, hbit, hp]
        simp
      · rw [Nat.testBit_lt_two_pow (Nat.lt_of_lt_of_le (by omega : 2 ^ w + s < 2 ^ (w + 1)) (Nat.pow_le_pow_right (by decide) hj)),
          decide_eq_false (by omega)]
        rfl
    · rw [if_neg hp, Nat.add_zero]
      refine ⟨by omega, fun j => ?_⟩
      rw [hbit]
      by_cases hj : j = w
      · subst hj
        simp [hp]
      · rw [show decide (j < w) = decide (j < w + 1) from decide_eq_decide.2 (by omega)]

theorem Dev.bitOf_padSample (d : Dev) (pads : BitVec 6) {j : Nat} (hj : j < 6) : bitOf (d.padSample pads.toNat) j =
    if d.pwmRuns j then pads.getLsbD j else (d.pinDrive j 0).getD (pads.getLsbD j) := by
  have h := (testBit_sum_range (fun n => d.padLevel n (bitOf pads.toNat n)) 6).2 j
  have hp : bitOf pads.toNat j = pads.getLsbD j := bitOf_testBit _ _
  rw [decide_eq_true hj, Bool.true_and, ← bitOf_testBit] at h
  refine h.trans ?_
  unfold Dev.padLevel
  rw [hp]

/-- The device that has sampled the pads (R365). -/
def Dev.padsRead (d : Dev) (pads : BitVec 6) : Dev := d.put R.GPIO_IN_RAW (d.padSample pads.toNat)

/-- The device that has taken the level of pin `n` (R366). -/
def Dev.pinTaken (d : Dev) (pads : BitVec 6) (n : Nat) (level : Bool) : Dev :=
  (d.padsRead pads).put R.GPIO_IN_DEBOUNCED (setBit ((d.padsRead pads).get R.GPIO_IN_DEBOUNCED) n level)

theorem Dev.padsRead_raw (d : Dev) (pads : BitVec 6) {j : Nat} (hj : j < 6) : bitOf ((d.padsRead pads).get R.GPIO_IN_RAW) j =
    if d.pwmRuns j then pads.getLsbD j else (d.pinDrive j 0).getD (pads.getLsbD j) :=
  (Dev.bitOf_put _ _ (by decide) _ hj).trans (d.bitOf_padSample pads hj)

theorem Dev.padsRead_debounced (d : Dev) (pads : BitVec 6) :
    (d.padsRead pads).get R.GPIO_IN_DEBOUNCED = d.get R.GPIO_IN_DEBOUNCED := Dev.get_put_ne _ _ _ _ (by decide)

theorem Dev.pinTaken_raw (d : Dev) (pads : BitVec 6) (n : Nat) (level : Bool) :
    (d.pinTaken pads n level).get R.GPIO_IN_RAW = (d.padsRead pads).get R.GPIO_IN_RAW := Dev.get_put_ne _ _ _ _ (by decide)

theorem Dev.pinTaken_debounced (d : Dev) (pads : BitVec 6) (n : Nat) (level : Bool) {j : Nat} (hj : j < 6) :
    bitOf ((d.pinTaken pads n level).get R.GPIO_IN_DEBOUNCED) j = if j = n then level else bitOf (d.get R.GPIO_IN_DEBOUNCED) j := by
  unfold Dev.pinTaken
  rw [Dev.bitOf_put_setBit _ _ (by decide) _ _ hj, Dev.padsRead_debounced]

theorem Dev.Keeps.padsRead (d : Dev) (pads : BitVec 6) : Dev.Keeps { regs := [R.GPIO_IN] } d (d.padsRead pads) := Dev.Keeps.put .refl

theorem Dev.Keeps.pinTaken (d : Dev) (pads : BitVec 6) (n : Nat) (level : Bool) :
    Dev.Keeps { regs := [R.GPIO_IN] } d (d.pinTaken pads n level) := (Dev.Keeps.padsRead d pads).put

/-- The level that pin `n` has taken is one that wakes the device (R596). -/
def Dev.pinWakes (d : Dev) (n : Nat) (level : Bool) : Prop :=
  d.wakeSet R.PWR_WAKE_GPIO ≠ 0 ∧ bitOf (d.wakeSet R.PWR_WAKE_WPINS) n = true ∧ bitOf (d.wakeSet R.PWR_WAKE_WLVL) n = level

theorem Dev.pinTaken_wakeSet (d : Dev) (pads : BitVec 6) (n : Nat) (level : Bool) (f : Field) :
    (d.pinTaken pads n level).wakeSet f = d.wakeSet f := by
  unfold Dev.wakeSet
  rw [(Dev.Keeps.pinTaken d pads n level).pwr rfl, (Dev.Keeps.pinTaken d pads n level).reg _ (by decide)]

theorem Dev.gpioDebounced_other {d : Dev} (h0 : d.sys.inReset = false) (hv : d.is R.SYS_STATUS_VDDIOOK = true) {n : Nat} (hn : n < 6)
    {level : Bool} {pads : BitVec 6} (hl : bitOf ((d.padsRead pads).get R.GPIO_IN_RAW) n ≠ level) :
    d.gpioDebounced n level pads.toNat = d.padsRead pads := by
  unfold Dev.gpioDebounced
  rw [if_neg (by simp [h0, hv, hn])]
  exact if_pos (bne_iff_ne.2 hl)

theorem Dev.gpioDebounced_held {d : Dev} (h0 : d.sys.inReset = false) (hv : d.is R.SYS_STATUS_VDDIOOK = true) {n : Nat} (hn : n < 6)
    {level : Bool} {pads : BitVec 6} (hl : bitOf ((d.padsRead pads).get R.GPIO_IN_RAW) n = level) :
    (d.pinWakes n level → d.gpioDebounced n level pads.toNat = (d.pinTaken pads n level).wakeCause R.PWR_WSRC_GPIO) ∧
    (¬d.pinWakes n level → d.gpioDebounced n level pads.toNat = d.pinTaken pads n level) := by
  have h : d.gpioDebounced n level pads.toNat =
      if ((d.pinTaken pads n level).wakeSet R.PWR_WAKE_GPIO != 0) && bitOf ((d.pinTaken pads n level).wakeSet R.PWR_WAKE_WPINS) n &&
        bitOf ((d.pinTaken pads n level).wakeSet R.PWR_WAKE_WLVL) n == level then (d.pinTaken pads n level).wakeCause R.PWR_WSRC_GPIO
      else d.pinTaken pads n level := by
    unfold Dev.gpioDebounced
    rw [if_neg (by simp [h0, hv, hn])]
    exact if_neg (by rw [bne_iff_ne]; exact not_not_intro hl)
  simp only [Dev.pinTaken_wakeSet, Bool.and_eq_true, bne_iff_ne, beq_iff_eq, and_assoc] at h
  exact ⟨fun hw => h.trans (if_pos hw), fun hw => h.trans (if_neg hw)⟩

/-! ### A wake out of Heath -/

/-- What the end of Heath leaves of a wake: its cause, and the oscillator. -/
structure Dev.StaysAwake (d t : Dev) : Prop where
  wsrc : ∀ f : Field, f.addr = R.PWR_WSRC → f.lo + f.width ≤ 16 → t.is f = d.is f
  hfo : t.pwr.hfoOn = d.pwr.hfoOn

theorem Dev.StaysAwake.trans {d e t : Dev} (h : Dev.StaysAwake d e) (h' : Dev.StaysAwake e t) : Dev.StaysAwake d t :=
  ⟨fun f hf hl => (h'.wsrc f hf hl).trans (h.wsrc f hf hl), h'.hfo.trans h.hfo⟩

theorem Dev.StaysAwake.of_keeps {w : Dev.Scope} {d t : Dev} (h : Dev.Keeps w d t) (hw : w.pwr = false := by decide)
    (hr : w.has R.PWR_WSRC = false := by decide) : Dev.StaysAwake d t :=
  ⟨fun _ hf _ => h.is (hf ▸ hr), congrArg Pwr.hfoOn (h.pwr hw)⟩

theorem Dev.switchOnMask_awake (d : Dev) (m : Nat) : Dev.StaysAwake d (d.switchOnMask m) :=
  ⟨fun _ hf _ => (Dev.Keeps.switchOnMask (d₀ := d) (w := Dev.switchOnMaskScope) .refl).is (hf ▸ rfl), by rw [d.switchOnMask_pwr m]⟩

theorem Dev.pwrAnswer_awake (d : Dev) (kind : Nat) (cmd : Option Async) (cause dom : Nat) :
    Dev.StaysAwake d (d.pwrAnswer kind cmd cause dom) := by
  refine ⟨fun _ hf _ => (Dev.Keeps.pwrAnswer (d₀ := d) (w := Dev.pwrAnswerScope) .refl).is (hf ▸ rfl), ?_⟩
  unfold Dev.pwrAnswer
  extract_lets d1 tag d2 p d3
  have h1 : Dev.Keeps { regs := [R.PWR_RES] } d d1 := Dev.Keeps.pwrBusy
    (Dev.Keeps.put (Dev.Keeps.putB (Dev.Keeps.put (Dev.Keeps.put .refl))))
  have h2 : Dev.Keeps Dev.reportScope d1 d2 := Dev.Keeps.report .refl
  have h3 : d3.pwr.hfoOn = d.pwr.hfoOn := show d2.pwr.hfoOn = d.pwr.hfoOn from congrArg Pwr.hfoOn ((h2.pwr rfl).trans (h1.pwr rfl))
  split
  · split
    · exact (congrArg Pwr.hfoOn ((Dev.Keeps.endAsync (d₀ := d3) (w := Dev.endAsyncScope) .refl).pwr rfl)).trans h3
    · exact (congrArg Pwr.hfoOn ((Dev.Keeps.endAsync (d₀ := d3) (w := Dev.endAsyncScope) .refl).pwr rfl)).trans h3
  · exact h3

theorem Dev.heathCancel_awake (d : Dev) : Dev.StaysAwake d d.heathCancel := by
  refine ⟨fun _ hf _ => (Dev.Keeps.heathCancel (d₀ := d) (w := Dev.heathCancelScope) .refl).is (hf ▸ rfl), ?_⟩
  unfold Dev.heathCancel
  split
  next q hq =>
    extract_lets p d1
    split
    · rfl
    · split
      · exact (d1.switchOnMask_awake _).hfo
      · exact (d1.pwrAnswer_awake _ _ _ _).hfo
  next => rfl

theorem Dev.heathFinish_awake (d : Dev) : Dev.StaysAwake d d.heathFinish := by
  unfold Dev.heathFinish
  extract_lets lat d1 d2 p c i tk
  have h1 : Dev.Keeps { hp := true, regs := [R.SYS_STATUS, R.HP_ATTN] } d d1 := Dev.Keeps.setWake (Dev.Keeps.setSt .refl)
  have h2 : Dev.StaysAwake d d2 :=
    (Dev.StaysAwake.of_keeps h1).trans ⟨fun f _ hl => Dev.is_put_ne _ R.PWR_WSRC_LAT f _ (.inr (.inr hl)), rfl⟩
  exact ⟨h2.wsrc, h2.hfo⟩

theorem Dev.heathFinish_st (d : Dev) : d.heathFinish.st = stRunning := by
  unfold Dev.heathFinish
  extract_lets lat d1 d2 p c i tk
  have h1 : d1.st = stRunning := ((Dev.Keeps.setWake (d₀ := d.setSt stRunning) (w := Dev.setWakeScope) .refl).st).trans
    (Dev.get_put_self _ R.SYS_STATUS_STATE _ (by decide))
  exact (Dev.get_put_ne _ R.PWR_WSRC_LAT R.SYS_STATUS_STATE _ (by decide)).trans h1

/-- What the work of RUNNING writes as RUN is cleared. -/
abbrev Dev.runEndScope : Dev.Scope :=
  { staged := true, mem := true, hop := true, img := true, cal := true, seq := true, ring := true, cl := true, flt := true
    regs := [R.SYS_CTRL, R.HOP_STATUS, R.CAL_STATUS, R.CAL_REASON, R.SEQ_EVPEND, R.GPIO_SWAPST, R.HP_ATTN, R.XR_ECCSB, R.XR_ECCDB,
      R.RQ_PI, R.RQ_CI, R.RQ_SEQX, R.RQ_LOST, R.RQ_STATUS, R.FLT_LOG, R.FLT_LAST, R.FLT_WOPEN]
    fams := [(0x44c0, 4)] }

theorem Dev.clearRun_awake {d : Dev} (h : d.st = stRunning) : Dev.StaysAwake d d.clearRun := by
  rw [Dev.clearRun_running h]
  have h1 : Dev.StaysAwake d d.runCleared.calDiscard.leaveRunning :=
    .of_keeps (w := Dev.runEndScope)
      ((Dev.Keeps.step .refl (by decide) (Dev.Keeps.runCleared d)).calDiscard.leaveRunning)
  refine (h1.trans (Dev.heathCancel_awake _)).trans ?_
  exact .of_keeps (w := { regs := [R.SYS_STATUS] }) (Dev.Keeps.setSt .refl)

theorem Dev.heathTry_awake (d : Dev) : Dev.StaysAwake d d.heathTry := by
  unfold Dev.heathTry
  split
  · split
    · exact (d.heathFinish_awake).trans (Dev.clearRun_awake d.heathFinish_st)
    · exact d.heathFinish_awake
  · exact ⟨fun _ _ _ => rfl, rfl⟩

/-- The end of Heath keeps the cause of the wake and runs the oscillator (R597). -/
theorem Dev.heathLeave_awake (d : Dev) :
    (∀ f : Field, f.addr = R.PWR_WSRC → f.lo + f.width ≤ 16 → d.heathLeave.is f = d.is f) ∧ d.heathLeave.pwr.hfoOn = true := by
  unfold Dev.heathLeave
  extract_lets p d1
  obtain ⟨hw, hh⟩ := (d1.switchOnMask_awake d1.pwr.heathOff).trans (Dev.heathTry_awake _)
  exact ⟨hw, hh⟩

theorem Dev.wakeCause_heath {d : Dev} (hs : d.st = stHeath) (he : d.enumerated = false) (hw : d.pwr.waking = false) (f : Field) :
    d.wakeCause f = (d.put f 1).heathLeave := by
  unfold Dev.wakeCause
  rw [if_pos hs, if_neg (by simp [he])]
  exact if_neg (by rw [show (d.put f 1).pwr.waking = d.pwr.waking from rfl, hw]; exact Bool.false_ne_true)

theorem Dev.wakeCause_off {d : Dev} (hs : d.st ≠ stHeath) (hq : d.pwr.stateReq = none) (f : Field) : d.wakeCause f = d := by
  unfold Dev.wakeCause
  rw [if_neg hs, hq]
  exact if_neg Bool.false_ne_true

/-! ### A swap that waits -/

/-- The device whose swap is refused, not yet reported (R372). -/
def Dev.swapDropped (d : Dev) (code detail : Nat) : Dev :=
  let d := { d with seq := { d.seq with swapWait := none } }
  let d := ((d.put R.GPIO_SWAPST_CODE code).put R.GPIO_SWAPST_STATE 3).put R.GPIO_SWAPST_DETAIL detail
  d.put R.GPIO_SWAPST_TICK (d.get R.TICK_COUNT_COUNT)

theorem Dev.swapDropped_code (d : Dev) {code : Nat} (hc : code < 2 ^ R.GPIO_SWAPST_CODE.width) (detail : Nat) :
    (d.swapDropped code detail).get R.GPIO_SWAPST_CODE = code := by
  unfold Dev.swapDropped
  extract_lets q d1 d2
  rw [Dev.get_put_ne _ R.GPIO_SWAPST_TICK R.GPIO_SWAPST_CODE _ (by decide)]
  show (((d1.put R.GPIO_SWAPST_CODE code).put R.GPIO_SWAPST_STATE 3).put R.GPIO_SWAPST_DETAIL detail).get R.GPIO_SWAPST_CODE = code
  rw [Dev.get_put_ne _ R.GPIO_SWAPST_DETAIL R.GPIO_SWAPST_CODE _ (by decide),
    Dev.get_put_ne _ R.GPIO_SWAPST_STATE R.GPIO_SWAPST_CODE _ (by decide), Dev.get_put_self _ R.GPIO_SWAPST_CODE _ (by decide)]
  exact Nat.mod_eq_of_lt hc

theorem Dev.swapFail_spec (d : Dev) {c : Nat × Nat} (hc : c.1 < 2 ^ R.GPIO_SWAPST_CODE.width) :
    (d.swapFail c).get R.GPIO_SWAPST_CODE = c.1 ∧ (d.swapFail c).seq = { d.seq with swapWait := none } := by
  have hk : Dev.Keeps { mem := true, ring := true, regs := Dev.reportScope.regs } (d.swapDropped c.1 c.2) (d.swapFail c) :=
    Dev.Keeps.endAsyncs (Dev.Keeps.report .refl)
  exact ⟨hk.get.trans (d.swapDropped_code hc c.2), (hk.seq rfl).trans rfl⟩

theorem Dev.swapNoIdle_late {d : Dev} {n : Nat} (hn : 63 ≤ n) (hw : d.seq.swapWait = some n) (hq : d.sq ≠ sqIdle) :
    d.swapNoIdle = d.swapFail (0x07, 0) := by
  unfold Dev.swapNoIdle
  rw [hw]
  exact if_pos (by simp [hn, hq])

theorem Dev.swapNoIdle_early {d : Dev} (h : d.seq.swapWait = none ∨ d.sq = sqIdle ∨ ∃ n, n < 63 ∧ d.seq.swapWait = some n) :
    d.swapNoIdle = d := by
  unfold Dev.swapNoIdle
  refine if_neg ?_
  rcases h with h | h | ⟨n, hn, h⟩
  · simp [h]
  · simp [h]
  · simp [h, hn]

/-- Settles O39. -/
theorem edgesPinsAndSwaps : Obligations.EdgesPinsAndSwaps := by
  unfold Obligations.EdgesPinsAndSwaps
  refine ⟨fun k v => ?_, fun v => ⟨?_, ?_⟩, fun n level pads => ?_, ?_, ?_, fun n => ?_, fun n hn => ?_, ?_⟩
  · intro styp snum known
    refine ⟨?_, ?_⟩
    · refine does_of_act (f := fun d => d.ioWrite true (R.ED_CFG k.val) v.toNat) (fun _ => rfl) fun d h0 hv => ?_
      exact (Dev.ioWrite_edCfg h0 k.isLt _).trans (d.edCfgWrite_none _ v hv)
    · refine leaves_of_act (f := fun d => d.ioWrite true (R.ED_CFG k.val) v.toNat) (fun _ => rfl) fun d h0 hv => ?_
      exact d.edCfgWrite_spec k.isLt v hv (Dev.ioWrite_edCfg h0 k.isLt _) rfl
  · refine leaves_of_act (f := fun d => d.ioWrite true R.GPIO_SET v.toNat) (fun _ => rfl) fun d h0 _ => ?_
    rw [Dev.ioWrite_gpioSet h0]
    exact ⟨Dev.Keeps.butRegs (Dev.Keeps.put .refl), fun n hn => d.bitOf_gpioSet v hn⟩
  · refine leaves_of_act (f := fun d => d.ioWrite true R.GPIO_CLR v.toNat) (fun _ => rfl) fun d h0 _ => ?_
    rw [Dev.ioWrite_gpioClr h0]
    exact ⟨Dev.Keeps.butRegs (Dev.Keeps.put .refl), fun n hn => d.bitOf_gpioClr v hn⟩
  · intro pad raw taken up wakes
    have hraw : ∀ (d t : Dev), t.get R.GPIO_IN_RAW = (d.padsRead pads).get R.GPIO_IN_RAW → raw d t := by
      intro d t ht j hj
      rw [ht]
      exact d.padsRead_raw pads hj
    have htaken : ∀ (d t : Dev), t.get R.GPIO_IN_DEBOUNCED = (d.pinTaken pads n.val level).get R.GPIO_IN_DEBOUNCED → taken d t := by
      intro d t ht j hj
      rw [ht]
      exact d.pinTaken_debounced pads n.val level hj
    refine ⟨?_, ?_, ?_, ?_⟩
    · refine leaves_of_act (f := fun d => d.gpioDebounced n.val level pads.toNat) (fun _ => rfl) fun d h0 ⟨hv, hp, hw⟩ => ?_
      obtain ⟨hy, hn⟩ := Dev.gpioDebounced_held h0 hv n.isLt ((d.padsRead_raw pads n.isLt).trans hp)
      have he : d.gpioDebounced n.val level pads.toNat = d.pinTaken pads n.val level := by
        by_cases hwk : d.pinWakes n.val level
        · obtain ⟨hs, hq⟩ := hw.resolve_left (not_not_intro hwk)
          rw [hy hwk]
          refine Dev.wakeCause_off (d := d.pinTaken pads n.val level) ?_ hq _
          rw [(Dev.Keeps.pinTaken d pads n.val level).st]
          exact hs
        · exact hn hwk
      rw [he]
      exact ⟨(Dev.Keeps.pinTaken d pads n.val level).butRegs, hraw d _ (d.pinTaken_raw pads n.val level), htaken d _ rfl⟩
    · refine leaves_of_act (f := fun d => d.gpioDebounced n.val level pads.toNat) (fun _ => rfl) fun d h0 ⟨hv, hp, hw, hs, hm, hk⟩ => ?_
      obtain ⟨hy, -⟩ := Dev.gpioDebounced_held h0 hv n.isLt ((d.padsRead_raw pads n.isLt).trans hp)
      have hkt := Dev.Keeps.pinTaken d pads n.val level
      have he := (hy hw).trans (Dev.wakeCause_heath (hkt.st.trans hs) (hkt.enumerated.trans hm) hk R.PWR_WSRC_GPIO)
      have hput : Dev.Keeps { regs := [R.PWR_WSRC] } (d.pinTaken pads n.val level) ((d.pinTaken pads n.val level).put R.PWR_WSRC_GPIO 1) :=
        Dev.Keeps.put .refl
      have hleave : Dev.Keeps Dev.heathLeaveScope _ (((d.pinTaken pads n.val level).put R.PWR_WSRC_GPIO 1).heathLeave) :=
        Dev.Keeps.heathLeave .refl
      obtain ⟨hc, hh⟩ := Dev.heathLeave_awake ((d.pinTaken pads n.val level).put R.PWR_WSRC_GPIO 1)
      rw [he]
      refine ⟨hraw d _ ?_, htaken d _ ?_, ?_, hh⟩
      · rw [hleave.get, hput.get, Dev.pinTaken_raw]
      · rw [hleave.get, hput.get]
      · exact (hc _ rfl (by decide)).trans (Dev.is_putB_self _ R.PWR_WSRC_GPIO true (by decide) (by decide))
    · refine leaves_of_act (f := fun d => d.gpioDebounced n.val level pads.toNat) (fun _ => rfl) fun d h0 ⟨hv, hp⟩ => ?_
      rw [Dev.gpioDebounced_other h0 hv n.isLt (by rw [d.padsRead_raw pads n.isLt]; exact hp)]
      exact ⟨(Dev.Keeps.padsRead d pads).butRegs, hraw d _ rfl, d.padsRead_debounced pads⟩
    · refine does_of_act (f := fun d => d.gpioDebounced n.val level pads.toNat) (fun _ => rfl) fun d h0 hv => ?_
      exact if_pos (by simp [hv])
  · exact does_of_act (f := fun d => d.pwmEnd 4) (fun _ => rfl) fun d _ h => if_pos h
  · exact does_of_act (f := fun d => d.pwmEnd 5) (fun _ => rfl) fun d _ h => if_pos h
  · exact does_of_act (f := fun d => d.pwmEnd n.val) (fun _ => rfl) fun d _ h => if_neg (by rw [h]; exact Bool.false_ne_true)
  · refine leaves_of_act (f := fun d => d.swapNoIdle) (fun _ => rfl) fun d _ ⟨hw, hq⟩ => ?_
    rw [Dev.swapNoIdle_late hn hw hq]
    obtain ⟨hc, hs⟩ := d.swapFail_spec (c := (0x07, 0)) (by decide)
    rw [hs]
    exact ⟨rfl, hc, rfl, rfl, rfl⟩
  · exact does_of_act (f := fun d => d.swapNoIdle) (fun _ => rfl) fun d _ h => Dev.swapNoIdle_early h

end Sys2Proof.Machine
end

section
/-!
Proofs for the read frames of the host (chapter 13): the statement O40.
-/

namespace Sys2Proof.Machine
set_option Elab.async false

/-! ### The bytes of a read -/

theorem Dev.hostChunk_length (d : Dev) (a : Nat) {n : Nat} (hn : n ≠ 0) : (d.hostChunk a n).1.length ≤ n := by
  unfold Dev.hostChunk
  split
  · extract_lets k
    have hk : k ≤ n := Nat.min_le_left _ _
    clear_value k
    split
    · exact (readBytes_length ..).le.trans hk
    · exact List.length_replicate.le.trans hk
  · split
    · generalize d.ioRead true ((a - ioBase) / 4 * 4) = p
      obtain ⟨v, e⟩ := p
      exact (List.length_take_le _ _).trans (Nat.min_le_left _ _)
    · split
      · extract_lets k
        have hk : k ≤ n := Nat.min_le_left _ _
        clear_value k
        dsimp only
        split
        · exact (readBytes_length ..).le.trans hk
        · exact List.length_replicate.le.trans hk
      · exact Nat.one_le_iff_ne_zero.2 hn

theorem Dev.hostBytes_length (d : Dev) (fuel a n : Nat) : (d.hostBytes fuel a n).1.length ≤ n := by
  induction fuel generalizing d a n with
  | zero => exact Nat.zero_le _
  | succ f ih =>
    rw [Dev.hostBytes_succ]
    split
    · exact Nat.zero_le _
    next hn =>
      have h1 := d.hostChunk_length (a % 2 ^ 24) hn
      have h2 := ih (d.hostChunk (a % 2 ^ 24) n).2 (a % 2 ^ 24 + (d.hostChunk (a % 2 ^ 24) n).1.length)
        (n - (d.hostChunk (a % 2 ^ 24) n).1.length)
      refine List.length_append.trans_le ?_
      omega

/-- Of the first bank of exchange RAM, without ECC errors, the bytes that it holds are read, and reading changes nothing. -/
theorem Dev.hostBytes_bank {d : Dev} {a n : Nat} (hb : a + n ≤ 0x8000) (hd : d.domOn 1 = true) (he : d.eccFree a n) :
    d.hostBytes n a n = ((List.range n).map (fun j => d.dataByte (0x10000 + a + j)), d) := by
  cases n with
  | zero => rfl
  | succ f =>
    have hmod : a % 2 ^ 24 = a := Nat.mod_eq_of_lt (by omega)
    have hk : min (f + 1) (0x8000 - a % 0x8000) = f + 1 := by omega
    have hon : d.xramOn a = true := by
      unfold Dev.xramOn bankOf
      rw [if_pos (by omega)]
      exact hd
    have hchunk : d.hostChunk a (f + 1) = (d.xbytes a (f + 1), d) := by
      unfold Dev.hostChunk
      rw [if_pos (by omega)]
      dsimp only
      rw [hk, if_pos hon, Dev.eccTouch_free he]
    rw [Dev.hostBytes_succ, if_neg (by omega), hmod, hchunk]
    dsimp only
    have hlen : (d.xbytes a (f + 1)).length = f + 1 := readBytes_length _ _ _ _
    have hrest : d.hostBytes f (a + (f + 1)) 0 = ([], d) := by
      cases f with
      | zero => rfl
      | succ f => rw [Dev.hostBytes_succ, if_pos rfl]
    rw [hlen, Nat.sub_self, hrest, List.append_nil]
    refine congrArg (fun l => (l, d)) ((readBytes_eq_map _ _ _ _).trans (List.map_congr_left fun j _ => ?_))
    unfold Dev.dataByte
    rw [if_neg (by omega), show 0x10000 + a + j - 0x10000 = a + j by omega]

/-! ### What is sent -/

/-- The device that has sent the bytes `bs` behind what it had sent of the frame. -/
def Dev.adds (d : Dev) (bs : List Byte) : Dev := { d with hp := { d.hp with out := d.hp.out ++ bs } }

/-- The device that holds the read `h` back. -/
def Dev.holding (d : Dev) (h : Option HeldRead) : Dev := { d with hp := { d.hp with held := h } }

/-- What the late bytes of a read show in BUSY mode. -/
def lateZero (late : List Nat) (bs : List Byte) : List Byte := bs.mapIdx (fun j b => if j ∈ late then 0 else b)

theorem lateZero_none {late : List Nat} {n : Nat} (h : ∀ j ∈ late, n ≤ j) {bs : List Byte} (hb : bs.length ≤ n) :
    lateZero late bs = bs := by
  unfold lateZero
  refine List.ext_getElem (List.length_mapIdx ..) fun j h1 h2 => ?_
  rw [List.getElem_mapIdx, if_neg]
  intro hm
  exact absurd (h j hm) (by omega)

theorem mapIdx_late (late : List Nat) (bs : List Byte) : bs.mapIdx (fun i b => if late.contains i then 0 else b) = lateZero late bs := by
  refine congrArg (fun f => bs.mapIdx f) (funext fun i => funext fun b => ?_)
  simp only [List.contains_iff_mem]

theorem Dev.readOn_busy {d : Dev} {h : HeldRead} (hb : h.busy = true) (late : List Nat) : d.readOn h late =
    let r := d.hostBytes h.left h.addr h.left
    let l := if h.bound then [] else late
    ((if l.any (fun i => decide (i < h.left)) then r.2.put R.HP_ERR_UNDR 1 else r.2).adds (lateZero l r.1)) := by
  unfold Dev.readOn
  rw [if_pos hb]
  dsimp only
  rw [mapIdx_late]
  rfl

theorem Dev.readOn_busy_whole {d : Dev} {h : HeldRead} (hb : h.busy = true) {late : List Nat}
    (hl : h.bound = true ∨ ∀ j ∈ late, h.left ≤ j) : d.readOn h late =
      (d.hostBytes h.left h.addr h.left).2.adds (d.hostBytes h.left h.addr h.left).1 := by
  have hlate : ∀ j ∈ (if h.bound then [] else late), h.left ≤ j := by
    intro j hj
    split at hj
    · exact absurd hj List.not_mem_nil
    next hn => exact (hl.resolve_left hn) j hj
  rw [Dev.readOn_busy hb]
  dsimp only
  rw [if_neg (by simpa using hlate), lateZero_none hlate (d.hostBytes_length _ _ _)]

theorem Dev.readOn_busy_late {d : Dev} {h : HeldRead} (hb : h.busy = true) {late : List Nat} (hn : h.bound = false)
    (hl : ∃ j ∈ late, j < h.left) : d.readOn h late =
      ((d.hostBytes h.left h.addr h.left).2.put R.HP_ERR_UNDR 1).adds (lateZero late (d.hostBytes h.left h.addr h.left).1) := by
  rw [Dev.readOn_busy hb, hn]
  dsimp only
  rw [if_neg Bool.false_ne_true, if_pos (by simpa using hl)]

/-- A read in STRETCH mode stops before the byte `k`. -/
def stopsAt (a n : Nat) (late : List Nat) (k : Nat) : Prop := k ≠ 0 ∧ k < n ∧ (a + k) % 8 = 0 ∧ k ∈ late

theorem Dev.readOn_stretch {d : Dev} {h : HeldRead} (hb : h.busy = false) (late : List Nat) : d.readOn h late =
    let stop := (List.range h.left).find? (fun i => i != 0 && (h.addr + i) % 8 == 0 && (if h.bound then [] else late).contains i)
    let r := d.hostBytes (stop.getD h.left) h.addr (stop.getD h.left)
    (r.2.adds r.1).holding (stop.map (fun i => { h with addr := (h.addr + i) % 2 ^ 24, left := h.left - i })) := by
  unfold Dev.readOn
  rw [if_neg (by rw [hb]; exact Bool.false_ne_true)]
  rfl

theorem Dev.readOn_stretch_whole {d : Dev} {h : HeldRead} (hb : h.busy = false) {late : List Nat}
    (hl : h.bound = true ∨ ∀ k, ¬stopsAt h.addr h.left late k) : d.readOn h late =
      ((d.hostBytes h.left h.addr h.left).2.adds (d.hostBytes h.left h.addr h.left).1).holding none := by
  have hfind : (List.range h.left).find? (fun i => i != 0 && (h.addr + i) % 8 == 0 && (if h.bound then [] else late).contains i) = none := by
    rw [List.find?_eq_none]
    intro i hi hp
    rw [Bool.and_eq_true, Bool.and_eq_true, bne_iff_ne, beq_iff_eq, List.contains_iff_mem] at hp
    obtain ⟨⟨h0, h8⟩, hm⟩ := hp
    split at hm
    · exact absurd hm List.not_mem_nil
    next hn => exact (hl.resolve_left hn) i ⟨h0, List.mem_range.1 hi, h8, hm⟩
  rw [Dev.readOn_stretch hb, hfind]
  rfl

theorem Dev.readOn_stretch_stops {d : Dev} {h : HeldRead} (hb : h.busy = false) {late : List Nat} (hn : h.bound = false) {k : Nat}
    (hk : stopsAt h.addr h.left late k) (hmin : ∀ j, j < k → ¬stopsAt h.addr h.left late j) : d.readOn h late =
      ((d.hostBytes k h.addr k).2.adds (d.hostBytes k h.addr k).1).holding
        (some { h with addr := (h.addr + k) % 2 ^ 24, left := h.left - k }) := by
  obtain ⟨k0, kn, k8, km⟩ := hk
  have hfind : (List.range h.left).find? (fun i => i != 0 && (h.addr + i) % 8 == 0 && (if h.bound then [] else late).contains i) = some k := by
    rw [hn, List.find?_range_eq_some]
    refine ⟨by simp [k0, k8, km], List.mem_range.2 kn, fun j hj => ?_⟩
    have hj' := hmin j hj
    rw [Bool.not_eq_true', Bool.eq_false_iff]
    intro hp
    rw [Bool.and_eq_true, Bool.and_eq_true, bne_iff_ne, beq_iff_eq, List.contains_iff_mem] at hp
    obtain ⟨⟨h0, h8⟩, hm⟩ := hp
    exact hj' ⟨h0, by omega, h8, hm⟩
  rw [Dev.readOn_stretch hb, hfind]
  rfl

/-! ### The frames -/

theorem Dev.readBounded_frameBegin (d : Dev) (m : Bool) (a n : Nat) : (d.frameBegin m).readBounded a n = d.readBounded a n := by
  have hg : ∀ x, (d.frameBegin m).get (if bankOf x = 0 then R.XR_GUAR_B0 clHost else R.XR_GUAR_B1 clHost) =
      d.get (if bankOf x = 0 then R.XR_GUAR_B0 clHost else R.XR_GUAR_B1 clHost) := by
    intro x
    split
    · exact Dev.frameBegin_get _ _ _ (by decide)
    · exact Dev.frameBegin_get _ _ _ (by decide)
  unfold Dev.readBounded
  simp only [hg]

/-- A frame of a read that is not held back (R386, R393). -/
theorem Dev.hostRead_goes {d : Dev} (hp : d.portServes = true) (hq : d.hp.queue = []) {late : List Nat} {n : Nat} (h0 : 0 ∈ late → n = 0)
    (m : Bool) (a : Nat) {h : HeldRead} (hh : h = ⟨a, n, d.reg R.HP_CFG, d.reg R.HP_ATTEN, d.readBounded a n⟩) :
    d.hostRead m a n late = (if h.busy then (d.frameBegin m).sends [0xD1] else d.frameBegin m).readOn h late := by
  unfold Dev.hostRead
  rw [Dev.hostFrame_serves hp]
  dsimp only
  have hreg : ∀ b, b ≠ R.HP_STATUS → (d.frameBegin m).reg b = d.reg b := fun b hb => Dev.reg_put_ne _ R.HP_STATUS_CLKMODE _ _ hb
  rw [hreg _ (by decide), hreg _ (by decide), d.readBounded_frameBegin, Dev.frameBegin_hp, hq]
  simp only [List.isEmpty_nil, Bool.true_and, Bool.not_true, Bool.false_or, ← hh]
  refine if_neg ?_
  rw [Bool.and_eq_true, List.contains_iff_mem, bne_iff_ne]
  exact fun ⟨h1, h2⟩ => h2 (h0 h1)

theorem Dev.hostRead_held {d : Dev} (hp : d.portServes = true) {late : List Nat} {n : Nat}
    (h0 : d.hp.queue ≠ [] ∨ (0 ∈ late ∧ n ≠ 0)) (m : Bool) (a : Nat) : d.hostRead m a n late =
      (d.frameBegin m).holding (some ⟨a, n, d.reg R.HP_CFG, d.reg R.HP_ATTEN, d.hp.queue.isEmpty && d.readBounded a n⟩) := by
  unfold Dev.hostRead
  rw [Dev.hostFrame_serves hp]
  dsimp only
  have hreg : ∀ b, b ≠ R.HP_STATUS → (d.frameBegin m).reg b = d.reg b := fun b hb => Dev.reg_put_ne _ R.HP_STATUS_CLKMODE _ _ hb
  rw [hreg _ (by decide), hreg _ (by decide), d.readBounded_frameBegin, Dev.frameBegin_hp]
  refine if_pos ?_
  rw [Bool.or_eq_true, Bool.and_eq_true, List.contains_iff_mem, bne_iff_ne, Bool.not_eq_true', List.isEmpty_eq_false_iff]
  exact h0

/-- The mode of a read is that of HP_CFG. -/
theorem HeldRead.busy_cfg (d : Dev) (a n : Nat) (x : Word) (b : Bool) :
    (HeldRead.busy ⟨a, n, d.reg R.HP_CFG, x, b⟩ = true ↔ d.is R.HP_CFG_NRMODE = true) := Iff.rfl

/-- Reading on from a pause point (R395, R396). -/
theorem Dev.pauseResume_eq {d : Dev} {h : HeldRead} (hh : d.hp.held = some h) (hp : d.portRuns = true) (hq : d.hp.queue = []) (k : Nat)
    (late : List Nat) : d.pauseResume k late =
      (if h.busy then (d.holding none).sends (List.replicate (min k 64) 0x5A ++ [0xD1]) else d.holding none).readOn h
        (late.filter (· ≠ 0)) := by
  have hl : late.filter (· != 0) = late.filter (· ≠ 0) := List.filter_congr fun x _ => Bool.eq_iff_iff.2 (by simp)
  unfold Dev.pauseResume
  rw [hh]
  dsimp only
  rw [if_neg (by simp [hp, hq]), hl]
  rfl

theorem Dev.pauseResume_off {d : Dev} (h : d.hp.held = none ∨ d.hp.queue ≠ []) (k : Nat) (late : List Nat) :
    d.pauseResume k late = d := by
  unfold Dev.pauseResume
  split
  · rfl
  next x hx =>
    refine if_pos ?_
    have hq := h.resolve_left (by rw [hx]; exact Option.some_ne_none _)
    simp [hq]

/-- Where the bytes of a read lie in the first bank of exchange RAM. -/
theorem Dev.readOn_bank {d : Dev} {h : HeldRead} (hb : h.addr + h.left ≤ 0x8000) (hd : d.domOn 1 = true) (he : d.eccFree h.addr h.left) :
    (d.readOn h []).hp.out = d.hp.out ++ (List.range h.left).map (fun j => d.dataByte (0x10000 + h.addr + j)) ∧
      (d.readOn h []).mem = d.mem ∧ (d.hp.held = none → (d.readOn h []).hp.held = none) := by
  have hbytes := Dev.hostBytes_bank hb hd he
  cases hbusy : h.busy with
  | true =>
    rw [Dev.readOn_busy_whole hbusy (.inr (by simp)), hbytes]
    exact ⟨rfl, rfl, fun hn => hn⟩
  | false =>
    rw [Dev.readOn_stretch_whole hbusy (.inr fun k hk => absurd hk.2.2.2 List.not_mem_nil), hbytes]
    exact ⟨rfl, rfl, fun _ => rfl⟩

/-- The bits of the status byte (R390). -/
theorem Dev.statusByte_bits (d : Dev) : d.statusByte.getLsbD 0 = d.is R.HP_STATUS_WIP ∧ d.statusByte.getLsbD 1 = d.is R.HP_STATUS_QUAD ∧
    d.statusByte.getLsbD 2 = d.attention ∧ d.statusByte.getLsbD 3 = (d.st == stHalted) ∧ d.statusByte.getLsbD 4 = (d.st == stRunning) ∧
    d.statusByte.getLsbD 5 = (d.reg R.HP_ERR != 0) ∧ d.statusByte.getLsbD 6 = d.hp.ackErr ∧ d.statusByte.getLsbD 7 = true := by
  unfold Dev.statusByte
  generalize d.is R.HP_STATUS_WIP = b0
  generalize d.is R.HP_STATUS_QUAD = b1
  generalize d.attention = b2
  generalize (d.st == stHalted) = b3
  generalize (d.st == stRunning) = b4
  generalize (d.reg R.HP_ERR != 0) = b5
  generalize d.hp.ackErr = b6
  revert b0 b1 b2 b3 b4 b5 b6
  decide

/-- The four read opcodes read alike (R386). -/
theorem exec_hostRead {m : Bool} {addr : BitVec 24} {n : Nat} {late : List Nat} {i : Instr}
    (hi : i ∈ [Instr.read m addr ⟨n, late⟩, .fastRead m addr ⟨n, late⟩, .read114 m addr ⟨n, late⟩, .read144 m addr ⟨n, late⟩]) (s : State) :
    exec i s = act s (fun d => d.hostRead m addr.toNat n late) := by
  simp only [List.mem_cons, List.not_mem_nil, or_false] at hi
  obtain rfl | rfl | rfl | rfl := hi
  · rfl
  · rfl
  · rfl
  · rfl

theorem Dev.busyLimit_ends {d : Dev} {h : HeldRead} (hh : d.hp.held = some h) (hp : d.portRuns = true) (hb : h.busy = true)
    (hn : h.bound = false) : d.busyLimit =
      ((d.holding none).put R.HP_ERR_RTO 1).sends (List.replicate 64 0x5A ++ 0xE7 :: List.replicate h.left 0) := by
  unfold Dev.busyLimit
  rw [hh]
  dsimp only
  rw [if_neg (by simp [hp, hb, hn])]
  rfl

theorem Dev.busyLimit_goesOn {d : Dev} {h : HeldRead} (hh : d.hp.held = some h) (hn : h.busy = false ∨ h.bound = true) : d.busyLimit = d := by
  unfold Dev.busyLimit
  rw [hh]
  dsimp only
  refine if_pos ?_
  rcases hn with hn | hn
  · simp [hn]
  · simp [hn]

theorem readId_byte (n j : Nat) (h : j < n) : ((([0x4A, 0x32, 0x50, 0x0B] : List Byte) ++ List.replicate (n - 4) (0 : Byte)).take n)[j]? =
    some (([0x4A, 0x32, 0x50, 0x0B] : List Byte).getD j 0) := by
  rw [List.getElem?_take_of_lt h]
  match j, h with
  | 0, _ => rfl
  | 1, _ => rfl
  | 2, _ => rfl
  | 3, _ => rfl
  | j + 4, h =>
    rw [List.getElem?_append_right (by simp), List.getElem?_replicate, if_pos (by simp; omega)]
    rfl

theorem readId_length (n : Nat) : ((([0x4A, 0x32, 0x50, 0x0B] : List Byte) ++ List.replicate (n - 4) (0 : Byte)).take n).length = n := by
  rw [List.length_take, List.length_append, List.length_replicate]
  simp only [List.length_cons, List.length_nil]
  omega

/-- What the status byte shows of a device whose frame has begun is what it showed before (R390). -/
theorem Dev.statusByte_frameBegin (d : Dev) (m : Bool) : (d.frameBegin m).statusByte = d.statusByte := by
  have hreg : ∀ b, b ≠ R.HP_STATUS → (d.frameBegin m).reg b = d.reg b := fun b hb => Dev.reg_put_ne _ R.HP_STATUS_CLKMODE _ _ hb
  have h0 : (d.frameBegin m).is R.HP_STATUS_WIP = d.is R.HP_STATUS_WIP := Dev.is_put_ne d R.HP_STATUS_CLKMODE _ _ (.inr (by decide))
  have h1 : (d.frameBegin m).is R.HP_STATUS_QUAD = d.is R.HP_STATUS_QUAD := Dev.is_put_ne d R.HP_STATUS_CLKMODE _ _ (.inr (by decide))
  have h2 : (d.frameBegin m).attention = d.attention := by
    unfold Dev.attention
    rw [hreg _ (by decide), hreg _ (by decide)]
  have h3 : (d.frameBegin m).st = d.st := Dev.frameBegin_get d m R.SYS_STATUS_STATE (by decide)
  unfold Dev.statusByte
  rw [h0, h1, h2, h3, hreg _ (by decide)]
  rfl

/-- Settles O40: a frame is taken as `hostRead_goes` and `hostRead_held` say, and what is sent as `readOn` says in its mode. -/
theorem hostReadsReturnBytes : Obligations.HostReadsReturnBytes := by
  unfold Obligations.HostReadsReturnBytes
  intro shows busy begun stops adds held lies bytes
  refine ⟨fun m addr n late i hi => ?_, fun k late h => ?_, fun m n => ⟨?_, ?_⟩⟩
  · intro a goes
    have hgo : ∀ d : Dev, goes d → d.hostRead m a n late =
        (if (⟨a, n, d.reg R.HP_CFG, d.reg R.HP_ATTEN, d.readBounded a n⟩ : HeldRead).busy then (d.frameBegin m).sends [0xD1]
          else d.frameBegin m).readOn ⟨a, n, d.reg R.HP_CFG, d.reg R.HP_ATTEN, d.readBounded a n⟩ late :=
      fun d ⟨hp, hq, h0⟩ => Dev.hostRead_goes hp hq h0 m a rfl
    have hmode : ∀ (d : Dev) (b : Bool), ¬busy d → (⟨a, n, d.reg R.HP_CFG, d.reg R.HP_ATTEN, b⟩ : HeldRead).busy = false :=
      fun d b hb => Bool.eq_false_iff.2 fun hc => hb ((HeldRead.busy_cfg d a n _ b).1 hc)
    refine ⟨does_of_act (exec_hostRead hi) fun d _ ⟨hg, hb, hl⟩ => ?_, does_of_act (exec_hostRead hi) fun d _ ⟨hg, hb, hn, hl⟩ => ?_,
      does_of_act (exec_hostRead hi) fun d _ ⟨hg, hb, hl⟩ => ?_, fun k hk hmin => does_of_act (exec_hostRead hi) fun d _ ⟨hg, hb, hn⟩ => ?_,
      leaves_of_act (exec_hostRead hi) fun d _ ⟨hg, hl, hlie⟩ => ?_, does_of_act (exec_hostRead hi) fun d _ ⟨hp, h0⟩ => ?_⟩
    · have hbusy := (HeldRead.busy_cfg d a n (d.reg R.HP_ATTEN) (d.readBounded a n)).2 hb
      exact (hgo d hg).trans ((congrArg (fun e : Dev => e.readOn _ late) (if_pos hbusy)).trans (Dev.readOn_busy_whole hbusy hl))
    · have hbusy := (HeldRead.busy_cfg d a n (d.reg R.HP_ATTEN) (d.readBounded a n)).2 hb
      exact (hgo d hg).trans ((congrArg (fun e : Dev => e.readOn _ late) (if_pos hbusy)).trans (Dev.readOn_busy_late hbusy hn hl))
    · have hbusy := hmode d (d.readBounded a n) hb
      exact (hgo d hg).trans ((congrArg (fun e : Dev => e.readOn _ late) (if_neg (by rw [hbusy]; exact Bool.false_ne_true))).trans
        (Dev.readOn_stretch_whole hbusy hl))
    · have hbusy := hmode d (d.readBounded a n) hb
      refine (hgo d hg).trans ((congrArg (fun e : Dev => e.readOn _ late) (if_neg (by rw [hbusy]; exact Bool.false_ne_true))).trans
        ((Dev.readOn_stretch_stops hbusy hn hk hmin).trans ?_))
      rw [hn]
      rfl
    · obtain ⟨hle, hon, hecc⟩ := hlie
      rw [hgo d hg, hl]
      have hbank : ∀ e : Dev, e.mem = d.mem → e.domOn 1 = true → _ := fun e hm h1 => Dev.readOn_bank (d := e)
        (h := ⟨a, n, d.reg R.HP_CFG, d.reg R.HP_ATTEN, d.readBounded a n⟩) hle h1 (by unfold Dev.eccFree at hecc ⊢; rw [hm]; exact hecc)
      have hdom : (d.frameBegin m).domOn 1 = true :=
        hon ▸ congrArg (fun x => x == 2) (Dev.frameBegin_get d m (domField 1) (by decide))
      split
      next hb =>
        obtain ⟨hout, hmem, -⟩ := hbank ((d.frameBegin m).sends [0xD1]) rfl hdom
        have hm : d.is R.HP_CFG_NRMODE = true := hb
        exact ⟨by rw [if_pos hm]; exact hout, hmem⟩
      next hb =>
        obtain ⟨hout, hmem, -⟩ := hbank (d.frameBegin m) rfl hdom
        have hm : ¬d.is R.HP_CFG_NRMODE = true := hb
        exact ⟨by rw [if_neg hm]; exact hout, hmem⟩
    · exact Dev.hostRead_held hp h0 m a
  · intro rest goes resumed
    have hres : ∀ s, exec (.readPauseResume ⟨k, late⟩) s = act s (fun d => d.pauseResume k late) := fun _ => rfl
    have hlim : ∀ s, exec .busyByteLimit s = act s (fun d => d.busyLimit) := fun _ => rfl
    have hgo : ∀ d : Dev, goes d → d.pauseResume k late = (if h.busy then
        (d.holding none).sends (List.replicate (min k 64) 0x5A ++ [0xD1]) else d.holding none).readOn h rest :=
      fun d ⟨hh, hp, hq⟩ => Dev.pauseResume_eq hh hp hq k late
    have hgoB : ∀ d : Dev, goes d → h.busy = true → d.pauseResume k late =
        ((d.holding none).sends (List.replicate (min k 64) 0x5A ++ [0xD1])).readOn h rest :=
      fun d hg hb => (hgo d hg).trans (congrArg (fun e : Dev => e.readOn h rest) (if_pos hb))
    have hgoS : ∀ d : Dev, goes d → h.busy = false → d.pauseResume k late = (d.holding none).readOn h rest :=
      fun d hg hb => (hgo d hg).trans (congrArg (fun e : Dev => e.readOn h rest) (if_neg (by rw [hb]; exact Bool.false_ne_true)))
    refine ⟨fun hb hl => does_of_act hres fun d _ hg => (hgoB d hg hb).trans (Dev.readOn_busy_whole hb hl),
      fun hb hn hl => does_of_act hres fun d _ hg => (hgoB d hg hb).trans (Dev.readOn_busy_late hb hn hl),
      fun hb hl => does_of_act hres fun d _ hg => (hgoS d hg hb).trans (Dev.readOn_stretch_whole hb hl),
      fun k' hb hn hk hmin => does_of_act hres fun d _ hg => (hgoS d hg hb).trans (Dev.readOn_stretch_stops hb hn hk hmin),
      fun hr => leaves_of_act hres fun d _ ⟨hg, hle, hon, hecc⟩ => ?_,
      does_of_act hres fun d _ hp => Dev.pauseResume_off hp k late,
      fun hb hn => leaves_of_act hlim fun d _ ⟨hh, hp⟩ => ?_,
      fun hn => does_of_act hlim fun d _ hh => Dev.busyLimit_goesOn hh hn⟩
    · show (d.pauseResume k late).hp.out = _ ∧ (d.pauseResume k late).hp.held = none ∧ (d.pauseResume k late).mem = d.mem
      cases hb : h.busy with
      | true =>
        rw [hgoB d hg hb, hr]
        obtain ⟨hout, hmem, hheld⟩ := Dev.readOn_bank
          (d := (d.holding none).sends (List.replicate (min k 64) 0x5A ++ [0xD1])) (h := h) hle hon hecc
        exact ⟨hout, hheld rfl, hmem⟩
      | false =>
        rw [hgoS d hg hb, hr]
        obtain ⟨hout, hmem, hheld⟩ := Dev.readOn_bank (d := d.holding none) (h := h) hle hon hecc
        exact ⟨hout, hheld rfl, hmem⟩
    · rw [Dev.busyLimit_ends hh hp hb hn]
      exact ⟨Dev.is_putB_self (d.holding none) R.HP_ERR_RTO true (by decide) (by decide), rfl,
        Dev.butRegs_put (f := R.HP_ERR_RTO) (d.butRegs_refl _) (by decide) 1⟩
  · refine leaves_of_act (f := fun d => d.readStatus m n) (fun _ => rfl) fun d _ hp => ?_
    show d.butRegs { d.readStatus m n with hp := d.hp } _ ∧ ∃ b : Byte, (d.readStatus m n).hp.out = _ ∧ _
    unfold Dev.readStatus
    rw [Dev.hostFrame_serves hp, d.statusByte_frameBegin]
    exact ⟨d.butRegs_frameBegin m (by decide), d.statusByte, rfl, d.statusByte_bits⟩
  · refine leaves_of_act (f := fun d => d.readId m n) (fun _ => rfl) fun d _ hp => ?_
    show d.butRegs { d.readId m n with hp := d.hp } _ ∧ (d.readId m n).hp.out.length = n ∧ ∀ j, j < n → (d.readId m n).hp.out[j]? = _
    unfold Dev.readId
    rw [Dev.hostFrame_serves hp]
    exact ⟨d.butRegs_frameBegin m (by decide), readId_length n, fun j => readId_byte n j⟩

end Sys2Proof.Machine
end

section
/-!
Proofs for the write frames of the host and their commits (chapter 13): the statements O41 and O42.
-/

namespace Sys2Proof.Machine
set_option Elab.async false

/-! ### Bytes written to exchange RAM -/

/-- The device whose exchange RAM holds `m`. -/
def Dev.withXram (d : Dev) (m : List Host.Cell) : Dev := { d with mem := { d.mem with xram := m } }

/-- A word of a write that meets no error takes its bytes of it. -/
theorem Dev.xwritePart_free {d : Dev} {o : Nat} {bs : List Byte} (h : d.eccFree o bs.length) (client : Nat) {w : Nat}
    (hw : w ∈ wordsOf o bs.length) :
    let lo := max o (8 * w)
    let part := (bs.drop (lo - o)).take (min (o + bs.length) (8 * w + 8) - lo)
    (if part.length = 8 then d.xwriteWhole lo part
      else if d.mem.poisoned.contains w then d.eccMeet client w else (d.eccMeet client w).xwrite lo part) =
      d.withXram (writeBytes xramDflt d.mem.xram lo part) := by
  intro lo part
  have hlen : part.length = min (o + bs.length) (8 * w + 8) - lo := by
    simp only [part, List.length_take, List.length_drop]
    omega
  have hmeets := mem_wordsOf hw
  have hfree : d.eccFree lo part.length := ⟨h.1, fun x hx hm => h.2 x hx (by omega)⟩
  have hsingle : w ∉ d.mem.single := fun hs => h.2 w (.inl hs) hmeets
  have hpoisoned : w ∉ d.mem.poisoned := fun hs => h.2 w (.inr hs) hmeets
  have hmeet : d.eccMeet client w = d := by simp [Dev.eccMeet, hsingle, hpoisoned]
  rw [hmeet, if_neg (by simpa using hpoisoned : ¬d.mem.poisoned.contains w = true), Dev.xwrite_free hfree]
  split
  · unfold Dev.xwriteWhole
    rw [Dev.xwrite_free hfree]
    have hkeep : d.mem.poisoned.filter (fun w => !(decide (lo ≤ 8 * w) && decide (8 * w + 8 ≤ lo + part.length))) = d.mem.poisoned := by
      rw [List.filter_eq_self]
      intro x hx
      have := hfree.2 x (.inr hx)
      simp only [Bool.not_eq_true', Bool.and_eq_false_iff, decide_eq_false_iff_not]
      omega
    dsimp only
    rw [hkeep]
    rfl
  · rfl

/-- The words `l` of a write that meets no error take their bytes of it. -/
theorem Dev.xwriteWords_free {o : Nat} {bs : List Byte} (client : Nat) (l : List Nat) (hl : ∀ w ∈ l, w ∈ wordsOf o bs.length) :
    ∀ d : Dev, d.eccFree o bs.length → ∃ m, l.foldl (fun d w =>
        let lo := max o (8 * w)
        let hi := min (o + bs.length) (8 * w + 8)
        let part := (bs.drop (lo - o)).take (hi - lo)
        if part.length = 8 then d.xwriteWhole lo part
        else if d.mem.poisoned.contains w then d.eccMeet client w
        else (d.eccMeet client w).xwrite lo part) d = d.withXram m ∧
      ∀ x, sparseGet xramDflt m x = if o ≤ x ∧ x < o + bs.length ∧ x / 8 ∈ l then bs.getD (x - o) 0 else d.xb x := by
  induction l with
  | nil => exact fun d _ => ⟨d.mem.xram, rfl, fun x => by simp [Dev.xb]⟩
  | cons w l ih =>
    intro d h
    have hstep := Dev.xwritePart_free h client (hl w List.mem_cons_self)
    dsimp only at hstep
    obtain ⟨m, hm, hx⟩ := ih (fun v hv => hl v (List.mem_cons_of_mem _ hv)) (d.withXram (writeBytes xramDflt d.mem.xram (max o (8 * w))
      ((bs.drop (max o (8 * w) - o)).take (min (o + bs.length) (8 * w + 8) - max o (8 * w))))) h
    refine ⟨m, ?_, fun x => ?_⟩
    · rw [List.foldl_cons]
      dsimp only
      rw [hstep]
      exact hm
    · rw [hx x]
      have hold : (d.withXram (writeBytes xramDflt d.mem.xram (max o (8 * w))
          ((bs.drop (max o (8 * w) - o)).take (min (o + bs.length) (8 * w + 8) - max o (8 * w))))).xb x =
            if o ≤ x ∧ x < o + bs.length ∧ x / 8 = w then bs.getD (x - o) 0 else d.xb x := by
        show sparseGet xramDflt (writeBytes ..) x = _
        rw [sparseGet_writeBytes]
        simp only [List.length_take, List.length_drop]
        split
        next hin =>
          rw [if_pos (by omega), List.getElem_take, List.getElem_drop, List.getD_eq_getElem?_getD, List.getElem?_eq_getElem (by omega)]
          simp only [Option.getD_some]
          congr 1
          omega
        next hout =>
          rw [if_neg (by omega)]
          rfl
      rw [hold]
      simp only [List.mem_cons]
      by_cases hin : o ≤ x ∧ x < o + bs.length
      · by_cases hxl : x / 8 ∈ l
        · rw [if_pos ⟨hin.1, hin.2, hxl⟩, if_pos ⟨hin.1, hin.2, .inr hxl⟩]
        · rw [if_neg fun hc => hxl hc.2.2]
          by_cases hxw : x / 8 = w
          · rw [if_pos ⟨hin.1, hin.2, hxw⟩, if_pos ⟨hin.1, hin.2, .inl hxw⟩]
          · rw [if_neg fun hc => hxw hc.2.2, if_neg fun hc => hc.2.2.elim hxw hxl]
      · rw [if_neg fun hc => hin ⟨hc.1, hc.2.1⟩, if_neg fun hc => hin ⟨hc.1, hc.2.1⟩, if_neg fun hc => hin ⟨hc.1, hc.2.1⟩]

/-- A write to exchange RAM that meets no error changes its bytes alone. -/
theorem Dev.xwriteEcc_free {d : Dev} {o : Nat} {bs : List Byte} (h : d.eccFree o bs.length) (client : Nat) :
    ∃ m, d.xwriteEcc client o bs = d.withXram m ∧
      ∀ x, sparseGet xramDflt m x = if o ≤ x ∧ x < o + bs.length then bs.getD (x - o) 0 else d.xb x := by
  obtain ⟨m, hm, hx⟩ := Dev.xwriteWords_free client (wordsOf o bs.length) (fun _ hw => hw) d h
  refine ⟨m, ?_, fun x => (hx x).trans ?_⟩
  · unfold Dev.xwriteEcc Dev.xwriteClean
    rw [hm]
    exact Dev.eccFlush_nil h.1
  · have hmem : o ≤ x ∧ x < o + bs.length → x / 8 ∈ wordsOf o bs.length := by
      intro hin
      unfold wordsOf
      rw [if_neg (by omega), List.mem_map]
      exact ⟨x / 8 - o / 8, List.mem_range.2 (by omega), by omega⟩
    by_cases hin : o ≤ x ∧ x < o + bs.length
    · rw [if_pos hin, if_pos ⟨hin.1, hin.2, hmem hin⟩]
    · rw [if_neg hin, if_neg fun hc => hin ⟨hc.1, hc.2.1⟩]

/-! ### Commits -/

theorem Dev.commitBytes_nil (d : Dev) (fuel a : Nat) : d.commitBytes fuel a [] = d := by
  cases fuel with
  | zero => rfl
  | succ f => exact if_pos rfl

/-- A commit that lies in one bank of exchange RAM. -/
theorem Dev.commitBytes_xram {d : Dev} {a : Nat} {bs : List Byte} (hb : a + bs.length ≤ 0x8000) (hd : d.domOn 1 = true)
    {fuel : Nat} (hf : bs.length ≤ fuel) : d.commitBytes fuel a bs = if bs = [] then d else d.xwriteEcc clHost a bs := by
  split
  next h => rw [h, d.commitBytes_nil]
  next h =>
    have hpos := List.length_pos_iff.2 h
    obtain ⟨f, rfl⟩ : ∃ f, fuel = f + 1 := ⟨fuel - 1, by omega⟩
    have hmod : a % 2 ^ 24 = a := Nat.mod_eq_of_lt (by omega)
    have hon : d.xramOn a = true := by
      unfold Dev.xramOn bankOf
      rw [if_pos (by omega)]
      exact hd
    have hdrop : bs.drop (0x8000 - a % 0x8000) = [] := List.drop_eq_nil_iff.2 (by omega)
    unfold Dev.commitBytes
    rw [if_neg (by simpa using h)]
    dsimp only
    rw [hmod, if_pos (by omega), if_pos hon, List.take_of_length_le (by omega)]
    dsimp only
    rw [hdrop]
    exact Dev.commitBytes_nil _ _ _

/-- A commit of one word of I/O space. -/
theorem Dev.commitBytes_io {d : Dev} {a : Nat} (ha : a < 0x10000) {bs : List Byte} (h4 : bs.length = 4) :
    d.commitBytes 4 (0x100000 + a) bs = d.ioWrite true a (leNat bs) := by
  have hmod : (0x100000 + a) % 2 ^ 24 = 0x100000 + a := Nat.mod_eq_of_lt (by omega)
  have hio : inIo (0x100000 + a) = true := by
    unfold inIo ioBase
    rw [Bool.and_eq_true, decide_eq_true_eq, decide_eq_true_eq]
    omega
  have hne : ¬bs.isEmpty = true := by
    rw [List.isEmpty_iff_length_eq_zero]
    omega
  have hdrop : bs.drop 4 = [] := List.drop_eq_nil_iff.2 (by omega)
  unfold Dev.commitBytes
  rw [if_neg hne]
  dsimp only
  rw [hmod, if_neg (by omega), if_pos hio, List.take_of_length_le (by omega), show 0x100000 + a - ioBase = a by unfold ioBase; omega]
  dsimp only
  rw [hdrop]
  exact Dev.commitBytes_nil _ _ _

/-- A commit that lies in DMEM: taken while the program does not run. -/
theorem Dev.commitBytes_dmem {d : Dev} {a : Nat} {bs : List Byte} (ha : a + bs.length ≤ 0x4000) :
    d.commitBytes bs.length (0x300000 + a) bs = if bs ≠ [] ∧ (d.seqOn && d.dmemOpen) = true then
      { d with mem := { d.mem with dmem := writeBytes dmemDflt d.mem.dmem a bs } } else d := by
  by_cases h : bs = []
  · rw [if_neg fun hc => hc.1 h, h, d.commitBytes_nil]
  · have hpos := List.length_pos_iff.2 h
    have hmod : (0x300000 + a) % 2 ^ 24 = 0x300000 + a := Nat.mod_eq_of_lt (by omega)
    have hio : ¬inIo (0x300000 + a) = true := by
      unfold inIo ioBase
      rw [Bool.and_eq_true, decide_eq_true_eq, decide_eq_true_eq]
      omega
    have hwin : ¬(imemWin ≤ 0x300000 + a ∧ 0x300000 + a < 0x208000) := by omega
    have hdm : inDmem (0x300000 + a) = true := by
      unfold inDmem dmemBase
      rw [Bool.and_eq_true, decide_eq_true_eq, decide_eq_true_eq]
      omega
    have hdrop : bs.drop (0x304000 - (0x300000 + a)) = [] := List.drop_eq_nil_iff.2 (by omega)
    obtain ⟨f, hf⟩ : ∃ f, bs.length = f + 1 := ⟨bs.length - 1, by omega⟩
    rw [hf]
    unfold Dev.commitBytes
    rw [if_neg (by simpa using h)]
    dsimp only
    rw [hmod, if_neg (by omega), if_neg hio, if_neg hwin, if_pos hdm, List.take_of_length_le (by omega),
      show 0x300000 + a - dmemBase = a by unfold dmemBase; omega]
    dsimp only
    rw [hdrop, Dev.commitBytes_nil]
    simp only [ne_eq, h, not_false_eq_true, true_and]

/-- The device that has taken a frame from the commit queue, which leaves `rest`. -/
def Dev.dequeued (d : Dev) (rest : List (Nat × List Byte)) : Dev :=
  ({ d with hp := { d.hp with queue := rest } } : Dev).putB R.HP_STATUS_WIP (!rest.isEmpty)

theorem Dev.writeCommit_front {d : Dev} {addr : Nat} {bs : List Byte} {rest : List (Nat × List Byte)}
    (hq : d.hp.queue = (addr, bs) :: rest) (hd : d.domOn 7 = true ∨ d.dom 7 = 3) :
    d.writeCommit = (d.dequeued rest).commitBytes bs.length addr bs := by
  unfold Dev.writeCommit
  rw [hq]
  dsimp only
  have hopen : (!(d.domOn 7 || d.dom 7 == 3)) = false := by
    rcases hd with hd | hd
    · simp [hd]
    · simp [hd]
  rw [hopen, if_neg Bool.false_ne_true]
  rfl

theorem Dev.writeCommit_none {d : Dev} (hq : d.hp.queue = []) : d.writeCommit = d := by
  unfold Dev.writeCommit
  rw [hq]

theorem Dev.dequeued_dom (d : Dev) (rest : List (Nat × List Byte)) (k : Nat) : (d.dequeued rest).domOn k = d.domOn k :=
  congrArg (fun x => x == 2) (Dev.dom_put_ne _ R.HP_STATUS_WIP _ k)

theorem Dev.dequeued_get (d : Dev) (rest : List (Nat × List Byte)) {f : Field} (hf : f.addr ≠ R.HP_STATUS) :
    (d.dequeued rest).get f = d.get f := Dev.get_setReg_ne _ _ _ _ hf

theorem Dev.dequeued_dmemOpen (d : Dev) (rest : List (Nat × List Byte)) : (d.dequeued rest).dmemOpen = d.dmemOpen := by
  unfold Dev.dmemOpen Dev.seqRuns Dev.sq Dev.st
  rw [d.dequeued_get rest (by decide), d.dequeued_get rest (by decide)]

/-- What a commit from the queue leaves, but for the memory that it writes. -/
theorem Dev.dequeued_gone (d : Dev) (rest : List (Nat × List Byte)) :
    (d.dequeued rest).hp = { d.hp with queue := rest } ∧ (d.dequeued rest).is R.HP_STATUS_WIP = !rest.isEmpty ∧
      d.butRegs { d.dequeued rest with hp := d.hp } [R.HP_STATUS] :=
  ⟨rfl, Dev.is_putB_self _ R.HP_STATUS_WIP _ (by decide) (by decide), Dev.butRegs_putB (f := R.HP_STATUS_WIP) (d.butRegs_refl _) (by decide) _⟩

/-! ### Frames -/

theorem exec_hostWrite {m clean : Bool} {addr : BitVec 24} {bs : List Byte} {i : Instr}
    (hi : i ∈ [Instr.write m clean addr bs, .write114 m clean addr bs, .write144 m clean addr bs]) (s : State) :
    exec i s = act s (fun d => d.hostWrite m clean addr.toNat bs) := by
  simp only [List.mem_cons, List.not_mem_nil, or_false] at hi
  obtain rfl | rfl | rfl := hi
  · rfl
  · rfl
  · rfl

/-- A write frame is ragged (R397). -/
def raggedWrite (clean : Bool) (addr n : Nat) : Prop := clean = false ∨ (endsInIo addr n = true ∧ n % 4 ≠ 0)

/-- A write frame is unaligned in I/O space (R14). -/
def oddWrite (addr n : Nat) : Prop := touchesIo addr n = true ∧ addr % 4 ≠ 0

theorem Dev.hostWrite_ragged {d : Dev} (hp : d.portServes = true) {clean : Bool} {addr : Nat} {bs : List Byte}
    (h : raggedWrite clean addr bs.length) (m : Bool) : d.hostWrite m clean addr bs = (d.frameBegin m).ragged 1 := by
  unfold Dev.hostWrite
  rw [Dev.hostFrame_serves hp]
  dsimp only
  refine if_pos ?_
  rcases h with h | ⟨h, hn⟩
  · simp [h]
  · simp [h, hn]

theorem Dev.hostWrite_whole {d : Dev} (hp : d.portServes = true) {clean : Bool} {addr : Nat} {bs : List Byte}
    (h : ¬raggedWrite clean addr bs.length) (m : Bool) : d.hostWrite m clean addr bs =
      if touchesIo addr bs.length && addr % 4 != 0 then (d.frameBegin m).put R.HP_ERR_ALIGN 1
      else if 1024 < bs.length then (d.frameBegin m).put R.HP_ERR_LONG 1
      else if 2 ≤ d.hp.queue.length then (d.frameBegin m).put R.HP_ERR_WOVR 1
      else if bs.length = 0 then d.frameBegin m
      else (d.frameBegin m).queueFrame addr bs := by
  unfold Dev.hostWrite
  rw [Dev.hostFrame_serves hp]
  dsimp only
  refine if_neg fun hc => h ?_
  rw [Bool.or_eq_true, Bool.not_eq_true', Bool.and_eq_true, bne_iff_ne] at hc
  exact hc

theorem oddWrite_iff (addr n : Nat) : (touchesIo addr n && addr % 4 != 0) = true ↔ oddWrite addr n := by
  rw [Bool.and_eq_true, bne_iff_ne]
  rfl

/-- A frame dropped with a bit of HP_ERR. -/
theorem Dev.frameDropped (d : Dev) (m : Bool) (f : Field) (hf : f.addr = R.HP_ERR) (hw : f.width = 1) (hlo : f.lo < 32) :
    ((d.frameBegin m).put f 1).is f = true ∧ ((d.frameBegin m).put f 1).hp = (d.frameBegin m).hp ∧
      d.butRegs { (d.frameBegin m).put f 1 with hp := d.hp } [R.HP_ERR, R.HP_STATUS] :=
  ⟨Dev.is_putB_self _ f true (by omega) (by omega), rfl,
    Dev.butRegs_put (d.butRegs_frameBegin m (by decide)) (by rw [hf]; exact List.mem_cons_self) 1⟩

/-- Settles O41: a frame is taken as `hostWrite_whole` says, and a commit writes as `commitBytes` does in the space where it lies. -/
theorem hostWritesCommitInOrder : Obligations.HostWritesCommitInOrder := by
  unfold Obligations.HostWritesCommitInOrder
  refine ⟨fun m clean addr bs i hi => ?_, fun addr bs rest => ?_⟩
  · intro n rag odd drops
    have hodd : ∀ {p : Prop}, ¬odd → (touchesIo addr.toNat bs.length && addr.toNat % 4 != 0) = true → p :=
      fun h hc => absurd ((oddWrite_iff _ _).1 hc) h
    refine ⟨leaves_of_act (exec_hostWrite hi) fun d _ ⟨hp, hr, ho, h0, hn, hq⟩ => ?_,
      fun hbs => does_of_act (exec_hostWrite hi) fun d _ ⟨hp, hr, ho, hq⟩ => ?_,
      does_of_act (exec_hostWrite hi) fun d _ ⟨hp, hr⟩ => Dev.hostWrite_ragged hp hr m,
      leaves_of_act (exec_hostWrite hi) fun d _ ⟨hp, hr, ho⟩ => ?_,
      leaves_of_act (exec_hostWrite hi) fun d _ ⟨hp, hr, ho, hn⟩ => ?_,
      leaves_of_act (exec_hostWrite hi) fun d _ ⟨hp, hr, ho, hn, hq⟩ => ?_⟩
    · rw [Dev.hostWrite_whole hp hr, if_neg (hodd ho), if_neg (by omega), if_neg (by omega), if_neg (by omega)]
      exact ⟨rfl, Dev.is_putB_self _ R.HP_STATUS_WIP true (by decide) (by decide),
        Dev.butRegs_put (f := R.HP_STATUS_WIP) (d.butRegs_frameBegin m (by decide)) (by decide) 1⟩
    · have hlen : bs.length = 0 := List.length_eq_zero_iff.2 hbs
      rw [Dev.hostWrite_whole hp hr, if_neg (hodd ho), if_neg (by omega), if_neg (by omega), if_pos hlen]
    · rw [Dev.hostWrite_whole hp hr, if_pos ((oddWrite_iff _ _).2 ho)]
      exact d.frameDropped m R.HP_ERR_ALIGN rfl rfl (by decide)
    · rw [Dev.hostWrite_whole hp hr, if_neg (hodd ho), if_pos hn]
      exact d.frameDropped m R.HP_ERR_LONG rfl rfl (by decide)
    · rw [Dev.hostWrite_whole hp hr, if_neg (hodd ho), if_neg (by omega), if_pos hq]
      exact d.frameDropped m R.HP_ERR_WOVR rfl rfl (by decide)
  · intro front gone
    have hexec : ∀ s, exec .writeCommit s = act s (fun d => d.writeCommit) := fun _ => rfl
    refine ⟨fun hb h0 => leaves_of_act hexec fun d _ ⟨⟨hq, h7⟩, h1, he⟩ => ?_, fun a ha hb =>
      ⟨leaves_of_act hexec fun d _ ⟨⟨hq, h7⟩, hon, hopen⟩ => ?_, leaves_of_act hexec fun d _ ⟨⟨hq, h7⟩, hopen⟩ => ?_⟩,
      fun a ha haddr h4 => does_of_act hexec fun d _ ⟨hq, h7⟩ => ?_, does_of_act hexec fun d _ hq => Dev.writeCommit_none hq⟩
    · obtain ⟨hhp, hwip, hbut⟩ := d.dequeued_gone rest
      have hfree : (d.dequeued rest).eccFree addr bs.length := he
      obtain ⟨x, hx, hbytes⟩ := Dev.xwriteEcc_free hfree clHost
      rw [Dev.writeCommit_front hq h7, Dev.commitBytes_xram hb (by rw [d.dequeued_dom]; exact h1) le_rfl,
        if_neg (List.length_pos_iff.1 h0), hx]
      exact ⟨⟨hhp, hwip, hbut⟩, rfl, hbytes⟩
    · obtain ⟨hhp, hwip, hbut⟩ := d.dequeued_gone rest
      have hopen' : ((d.dequeued rest).seqOn && (d.dequeued rest).dmemOpen) = true := by
        unfold Dev.seqOn at hon ⊢
        rw [d.dequeued_dom, d.dequeued_dmemOpen, hon, hopen]
        rfl
      rw [Dev.writeCommit_front hq h7, ha, Dev.commitBytes_dmem hb]
      split
      · refine ⟨⟨hhp, hwip, hbut⟩, rfl, fun o ho => ?_⟩
        have hlow : o < 0x10000 := by omega
        show (if o < 0x10000 then sparseGet dmemDflt (writeBytes dmemDflt d.mem.dmem a bs) o else _) = _
        rw [if_pos hlow, sparseGet_writeBytes]
        split
        next hin =>
          rw [List.getD_eq_getElem?_getD, List.getElem?_eq_getElem (by omega)]
          rfl
        next hout =>
          rw [Dev.dataByte, if_pos hlow]
      next hno =>
        have hnil : bs = [] := by
          by_contra hne
          exact hno ⟨hne, hopen'⟩
        refine ⟨⟨hhp, hwip, hbut⟩, rfl, fun o _ => ?_⟩
        rw [if_neg (by rw [hnil]; simp)]
        rfl
    · obtain ⟨hhp, hwip, hbut⟩ := d.dequeued_gone rest
      rw [Dev.writeCommit_front hq h7, ha, Dev.commitBytes_dmem hb, if_neg (by rw [d.dequeued_dmemOpen, hopen]; simp)]
      exact ⟨⟨hhp, hwip, hbut⟩, rfl⟩
    · obtain ⟨b0, b1, b2, b3, rfl⟩ : ∃ b0 b1 b2 b3, bs = [b0, b1, b2, b3] := by
        match bs, h4 with
        | [b0, b1, b2, b3], _ => exact ⟨b0, b1, b2, b3, rfl⟩
      have hval : leNat [b0, b1, b2, b3] = b0.toNat + 2 ^ 8 * b1.toNat + 2 ^ 16 * b2.toNat + 2 ^ 24 * b3.toNat := by
        simp only [leNat]
        omega
      rw [Dev.writeCommit_front hq h7, haddr]
      exact (Dev.commitBytes_io ha rfl).trans (congrArg _ hval)

/-! ### Acknowledged writes (R399–R401) -/

/-- The device of an acknowledged write that has ended with status `s`: HP_ACK and the frame show it. -/
def Dev.acked (d : Dev) (s seq : Nat) : Dev :=
  ((d.put R.HP_ACK_LASTST s).put R.HP_ACK_LASTSEQ seq).sends [byte s, byte seq]

/-- The device with the flag of the status byte for acknowledged writes. -/
def Dev.ackErred (d : Dev) (b : Bool) : Dev := { d with hp := { d.hp with ackErr := b } }

theorem Dev.ackStatus_frameBegin (d : Dev) (m : Bool) (addr seq crc : Nat) (bs : List Byte) :
    (d.frameBegin m).ackStatus addr seq crc bs = d.ackStatus addr seq crc bs := by
  have hget : ∀ f : Field, f.addr ≠ R.HP_STATUS → (d.frameBegin m).get f = d.get f := fun f hf => Dev.frameBegin_get d m f hf
  unfold Dev.ackStatus Dev.seqRuns Dev.sq Dev.is
  rw [hget R.HP_ACK_VALID (by decide), hget R.HP_ACK_SEQ (by decide), hget R.HP_ACKCRC_CRC (by decide),
    hget R.SEQ_STATUS_STATE (by decide)]
  rfl

/-- What an acknowledged write does that ends with status `s`. -/
def Dev.ackActs (d : Dev) (s addr seq crc : Nat) (bs : List Byte) : Dev :=
  match s with
  | 4 => (d.inc R.HP_COUNTS_CRCERR).raise 0x07 seq
  | 5 => d.ackReject addr bs.length
  | 1 => (((d.put R.HP_ACK_SEQ seq).put R.HP_ACK_VALID 1).put R.HP_ACKCRC_CRC crc).queueFrame addr bs
  | _ => d

/-- An acknowledged write that came whole. -/
theorem Dev.ackWrite_whole {d : Dev} (hp : d.portServes = true) (m : Bool) {addr seq crc : Nat} {bs : List Byte} {s : Nat}
    (hs : d.ackStatus addr seq crc bs = s) : d.ackWrite m true addr seq crc bs =
      (((d.frameBegin m).ackErred (s != 1 && s != 2)).ackActs s addr seq crc bs).acked s seq := by
  rw [← hs, ← d.ackStatus_frameBegin m]
  unfold Dev.ackWrite
  rw [Dev.hostFrame_serves hp]
  dsimp only
  rw [if_neg (by decide)]
  generalize (d.frameBegin m).ackStatus addr seq crc bs = s
  rfl

theorem Dev.sends_get (d : Dev) (bs : List Byte) (f : Field) : (d.sends bs).get f = d.get f := rfl

/-- The bits of HP_ACK below the status and SEQ of the last write stay. -/
theorem Dev.acked_get (d : Dev) (s seq : Nat) {f : Field} (h : f.addr ≠ R.HP_ACK ∨ f.lo + f.width ≤ 16) : (d.acked s seq).get f = d.get f := by
  unfold Dev.acked
  rw [Dev.sends_get, Dev.get_put_ne _ R.HP_ACK_LASTSEQ f seq (h.imp_right fun h => .inr (h.trans (by decide))),
    Dev.get_put_ne _ R.HP_ACK_LASTST f s (h.imp_right .inr)]

theorem Dev.acked_is (d : Dev) (s seq : Nat) {f : Field} (h : f.addr ≠ R.HP_ACK ∨ f.lo + f.width ≤ 16) : (d.acked s seq).is f = d.is f :=
  congrArg (fun x => x != 0) (d.acked_get s seq h)

/-- What an acknowledged write shows of its end. -/
theorem Dev.acked_shows (d : Dev) {s seq : Nat} (hs : s < 256) (hq : seq < 256) :
    (d.acked s seq).get R.HP_ACK_LASTST = s ∧ (d.acked s seq).get R.HP_ACK_LASTSEQ = seq := by
  unfold Dev.acked
  rw [Dev.sends_get, Dev.sends_get, Dev.get_put_ne _ R.HP_ACK_LASTSEQ R.HP_ACK_LASTST seq (.inr (by decide)),
    Dev.get_put_self _ _ _ (by decide), Dev.get_put_self _ _ _ (by decide)]
  exact ⟨Nat.mod_eq_of_lt hs, Nat.mod_eq_of_lt hq⟩

theorem Dev.acked_hp (d : Dev) (s seq : Nat) : (d.acked s seq).hp = { d.hp with out := [byte s, byte seq] } := rfl

theorem Dev.butRegs_acked {d t : Dev} {as : List Nat} (s seq : Nat) (h : d.butRegs { t with hp := d.hp } as) (ha : R.HP_ACK ∈ as) :
    d.butRegs { t.acked s seq with hp := d.hp } as :=
  Dev.butRegs_put (f := R.HP_ACK_LASTSEQ) (Dev.butRegs_put (f := R.HP_ACK_LASTST) h ha s) ha seq

section Status
variable {d : Dev} {addr seq : Nat} {crc : BitVec 16} {bs : List Byte}

/-- The SEQ is that of the last accepted write. -/
def Dev.ackSame (d : Dev) (seq : Nat) : Prop := d.is R.HP_ACK_VALID = true ∧ d.get R.HP_ACK_SEQ = seq

theorem Dev.ackSame_iff : (d.is R.HP_ACK_VALID && d.get R.HP_ACK_SEQ == seq) = true ↔ d.ackSame seq := by
  rw [Bool.and_eq_true, beq_iff_eq]
  rfl

/-- A reason to reject an acknowledged write. -/
def Dev.ackRejects (d : Dev) (addr n : Nat) : Prop := oddWrite addr n ∨ (endsInIo addr n = true ∧ n % 4 ≠ 0) ∨ 2 ≤ d.hp.queue.length ∨
  (touchesDmem addr n = true ∧ d.sq ≠ sqEmpty ∧ d.sq ≠ sqHalted)

theorem Dev.ackRejects_iff {n : Nat} : ((touchesIo addr n && addr % 4 != 0) || (endsInIo addr n && n % 4 != 0) ||
    decide (2 ≤ d.hp.queue.length) || (touchesDmem addr n && d.seqRuns)) = true ↔ d.ackRejects addr n := by
  unfold Dev.ackRejects oddWrite Dev.seqRuns
  simp only [Bool.or_eq_true, Bool.and_eq_true, bne_iff_ne, decide_eq_true_eq, Bool.not_eq_true', Bool.or_eq_false_iff,
    beq_eq_false_iff_ne, or_assoc]

theorem Dev.ackStatus_crcError (h : crc16 (ackBytes addr seq bs) ≠ crc) : d.ackStatus addr seq crc.toNat bs = 4 :=
  if_pos fun hc => h (BitVec.eq_of_toNat_eq hc)

theorem Dev.ackStatus_good (h : crc16 (ackBytes addr seq bs) = crc) : d.ackStatus addr seq crc.toNat bs =
    if d.is R.HP_ACK_VALID && d.get R.HP_ACK_SEQ == seq && d.get R.HP_ACKCRC_CRC != crc.toNat then 3
    else if d.is R.HP_ACK_VALID && d.get R.HP_ACK_SEQ == seq then 2
    else if (touchesIo addr bs.length && addr % 4 != 0) || (endsInIo addr bs.length && bs.length % 4 != 0) ||
      decide (2 ≤ d.hp.queue.length) || (touchesDmem addr bs.length && d.seqRuns) then 5
    else 1 :=
  if_neg fun hc => hc (congrArg BitVec.toNat h)

theorem Dev.ackStatus_conflict (h : crc16 (ackBytes addr seq bs) = crc) (hs : d.ackSame seq) (hc : d.get R.HP_ACKCRC_CRC ≠ crc.toNat) :
    d.ackStatus addr seq crc.toNat bs = 3 := by
  rw [Dev.ackStatus_good h, if_pos (by rw [Bool.and_eq_true, Dev.ackSame_iff, bne_iff_ne]; exact ⟨hs, hc⟩)]

theorem Dev.ackStatus_dup (h : crc16 (ackBytes addr seq bs) = crc) (hs : d.ackSame seq) (hc : d.get R.HP_ACKCRC_CRC = crc.toNat) :
    d.ackStatus addr seq crc.toNat bs = 2 := by
  rw [Dev.ackStatus_good h, if_neg (by rw [Bool.and_eq_true, bne_iff_ne]; exact fun hn => hn.2 hc), if_pos (Dev.ackSame_iff.2 hs)]

theorem Dev.ackStatus_other (h : crc16 (ackBytes addr seq bs) = crc) (hs : ¬d.ackSame seq) : d.ackStatus addr seq crc.toNat bs =
    if (touchesIo addr bs.length && addr % 4 != 0) || (endsInIo addr bs.length && bs.length % 4 != 0) ||
      decide (2 ≤ d.hp.queue.length) || (touchesDmem addr bs.length && d.seqRuns) then 5
    else 1 := by
  rw [Dev.ackStatus_good h, if_neg (by rw [Bool.and_eq_true, Dev.ackSame_iff]; exact fun hn => hs hn.1),
    if_neg (fun hn => hs (Dev.ackSame_iff.1 hn))]

theorem Dev.ackStatus_rejected (h : crc16 (ackBytes addr seq bs) = crc) (hs : ¬d.ackSame seq) (hr : d.ackRejects addr bs.length) :
    d.ackStatus addr seq crc.toNat bs = 5 := by
  rw [Dev.ackStatus_other h hs, if_pos (Dev.ackRejects_iff.2 hr)]

theorem Dev.ackStatus_accepted (h : crc16 (ackBytes addr seq bs) = crc) (hs : ¬d.ackSame seq) (hr : ¬d.ackRejects addr bs.length) :
    d.ackStatus addr seq crc.toNat bs = 1 := by
  rw [Dev.ackStatus_other h hs, if_neg (fun hn => hr (Dev.ackRejects_iff.1 hn))]

end Status

/-- What an acknowledged write that is rejected leaves of HP_ERR (R399). -/
theorem Dev.ackReject_spec (d : Dev) (addr n : Nat) : (d.ackReject addr n).hp = d.hp ∧
    (endsInIo addr n = true ∧ n % 4 ≠ 0 → (d.ackReject addr n).is R.HP_ERR_RAGGED = true) ∧
    (oddWrite addr n ∧ ¬(endsInIo addr n = true ∧ n % 4 ≠ 0) → (d.ackReject addr n).is R.HP_ERR_ALIGN = true) ∧
    (¬oddWrite addr n ∧ ¬(endsInIo addr n = true ∧ n % 4 ≠ 0) ∧ 2 ≤ d.hp.queue.length → (d.ackReject addr n).is R.HP_ERR_WOVR = true) := by
  have hshort : (endsInIo addr n && n % 4 != 0) = true ↔ (endsInIo addr n = true ∧ n % 4 ≠ 0) := by
    rw [Bool.and_eq_true, bne_iff_ne]
  have hset : ∀ f : Field, f.lo + f.width ≤ 32 → f.width = 1 → (d.put f 1).is f = true := fun f h hw => Dev.is_putB_self d f true h (by omega)
  unfold Dev.ackReject
  simp only [hshort, oddWrite_iff]
  split
  next hs =>
    exact ⟨rfl, fun _ => hset _ (by decide) rfl, fun h => absurd hs h.2, fun h => absurd hs h.2.1⟩
  next hs =>
    split
    next ho =>
      exact ⟨rfl, fun h => absurd h hs, fun _ => hset _ (by decide) rfl, fun h => absurd ((oddWrite_iff _ _).1 ho) h.1⟩
    next hno =>
      have ho : ¬oddWrite addr n := fun h => hno ((oddWrite_iff _ _).2 h)
      split
      next hq =>
        exact ⟨rfl, fun h => absurd h hs, fun h => absurd h.1 ho, fun _ => hset _ (by decide) rfl⟩
      next hq => exact ⟨rfl, fun h => absurd h hs, fun h => absurd h.1 ho, fun h => absurd h.2.2 hq⟩

theorem Dev.butRegs_ackReject {d t : Dev} {as : List Nat} (h : d.butRegs { t with hp := d.hp } as) (ha : R.HP_ERR ∈ as) (addr n : Nat) :
    d.butRegs { t.ackReject addr n with hp := d.hp } as := by
  have hput : ∀ f : Field, f.addr = R.HP_ERR → d.butRegs { t.put f 1 with hp := d.hp } as :=
    fun f hf => Dev.butRegs_put (f := f) h (hf ▸ ha) 1
  unfold Dev.ackReject
  split
  · exact hput R.HP_ERR_RAGGED rfl
  · split
    · exact hput R.HP_ERR_ALIGN rfl
    · split
      · exact hput R.HP_ERR_WOVR rfl
      · exact h

theorem Dev.ackActs_accept_hp (d : Dev) (addr seq crc : Nat) (bs : List Byte) :
    (d.ackActs 1 addr seq crc bs).hp = { d.hp with queue := d.hp.queue ++ [(addr, bs)] } := rfl

/-- An accepted write becomes the one to compare with (R399). -/
theorem Dev.ackActs_accept (d : Dev) {addr seq crc : Nat} {bs : List Byte} (hs : seq < 256) (hc : crc < 2 ^ 16) :
    (d.ackActs 1 addr seq crc bs).is R.HP_ACK_VALID = true ∧ (d.ackActs 1 addr seq crc bs).get R.HP_ACK_SEQ = seq ∧
      (d.ackActs 1 addr seq crc bs).get R.HP_ACKCRC_CRC = crc := by
  have hwip : ∀ (e : Dev) (f : Field), f.addr ≠ R.HP_STATUS → (e.queueFrame addr bs).get f = e.get f :=
    fun e f hf => Dev.get_put_ne { e with hp := { e.hp with queue := e.hp.queue ++ [(addr, bs)] } } R.HP_STATUS_WIP f 1 (.inl hf)
  have hacts : d.ackActs 1 addr seq crc bs =
      (((d.put R.HP_ACK_SEQ seq).put R.HP_ACK_VALID 1).put R.HP_ACKCRC_CRC crc).queueFrame addr bs := rfl
  unfold Dev.is
  rw [hacts, hwip _ _ (by decide), hwip _ _ (by decide), hwip _ _ (by decide), Dev.get_put_ne _ R.HP_ACKCRC_CRC R.HP_ACK_VALID _ (.inl (by decide)),
    Dev.get_put_ne _ R.HP_ACKCRC_CRC R.HP_ACK_SEQ _ (.inl (by decide)), Dev.get_put_ne _ R.HP_ACK_VALID R.HP_ACK_SEQ _ (.inr (by decide)),
    Dev.get_put_self _ _ _ (by decide), Dev.get_put_self _ _ _ (by decide), Dev.get_put_self _ _ _ (by decide)]
  exact ⟨rfl, Nat.mod_eq_of_lt hs, Nat.mod_eq_of_lt hc⟩

theorem Dev.butRegs_ackActs_accept {d t : Dev} {as : List Nat} (h : d.butRegs { t with hp := d.hp } as) (ha : R.HP_ACK ∈ as)
    (hc : R.HP_ACKCRC ∈ as) (hst : R.HP_STATUS ∈ as) (addr seq crc : Nat) (bs : List Byte) :
    d.butRegs { t.ackActs 1 addr seq crc bs with hp := d.hp } as :=
  Dev.butRegs_put (f := R.HP_STATUS_WIP) (Dev.butRegs_put (f := R.HP_ACKCRC_CRC) (Dev.butRegs_put (f := R.HP_ACK_VALID)
    (Dev.butRegs_put (f := R.HP_ACK_SEQ) h ha seq) ha 1) hc crc) hst 1

/-- What an acknowledged write shows, where its actions left all of the frame's state but the queue and the flag as it was. -/
theorem Dev.acked_ends (d : Dev) {e : Dev} (m : Bool) {s : Nat} (q : BitVec 8) (hs : s < 256) {l : List (Nat × List Byte)}
    (he : e.hp = { ((d.frameBegin m).ackErred (s != 1 && s != 2)).hp with queue := l }) :
    ((e.acked s q.toNat).get R.HP_ACK_LASTST = s ∧ (e.acked s q.toNat).get R.HP_ACK_LASTSEQ = q.toNat ∧
      (e.acked s q.toNat).hp.out = [BitVec.ofNat 8 s, q] ∧ (e.acked s q.toNat).hp.held = none ∧
      (e.acked s q.toNat).hp.ackErr = decide (s ≠ 1 ∧ s ≠ 2)) ∧ (e.acked s q.toNat).hp.queue = l := by
  obtain ⟨hst, hsq⟩ := e.acked_shows hs q.isLt
  have hq : byte q.toNat = q := BitVec.ofNat_toNat 8 q
  have herr : (s != 1 && s != 2) = decide (s ≠ 1 ∧ s ≠ 2) := by
    rw [Bool.eq_iff_iff, Bool.and_eq_true, bne_iff_ne, bne_iff_ne, decide_eq_true_eq]
  refine ⟨⟨hst, hsq, ?_, ?_, ?_⟩, ?_⟩
  · rw [e.acked_hp, hq]
  · rw [e.acked_hp, he]
    rfl
  · rw [e.acked_hp, he]
    exact herr
  · rw [e.acked_hp, he]

/-- Settles O42: the status is that of the table (`ackStatus_…`), and `ackActs` does what it asks for. -/
theorem acknowledgedWrites : Obligations.AcknowledgedWrites := by
  unfold Obligations.AcknowledgedWrites
  intro m addr q crc bs n good same odd short runs shows
  have hexec : ∀ c s, exec (.acknowledgedWrite m c addr q crc bs) s = act s (fun d => d.ackWrite m c addr.toNat q.toNat crc.toNat bs) :=
    fun _ _ => rfl
  have hbegun : ∀ (d : Dev) (b : Bool) (as : List Nat), R.HP_STATUS ∈ as → d.butRegs { (d.frameBegin m).ackErred b with hp := d.hp } as :=
    fun d b as h => d.butRegs_frameBegin m h
  refine ⟨does_of_act (hexec false) fun d _ hp => ?_, leaves_of_act (hexec true) fun d _ ⟨hp, hg, hs, ho, hsh, hq, hr⟩ => ?_,
    leaves_of_act (hexec true) fun d _ ⟨hp, hg, hs, hc⟩ => ?_, leaves_of_act (hexec true) fun d _ ⟨hp, hg, hs, hc⟩ => ?_,
    leaves_of_act (hexec true) fun d _ ⟨hp, hg, hs, hrej⟩ => ?_, does_of_act (hexec true) fun d _ ⟨hp, hg⟩ => ?_⟩
  · unfold Dev.ackWrite
    rw [Dev.hostFrame_serves hp]
    rfl
  · have hno : ¬d.ackRejects addr.toNat bs.length := by
      rintro (h | h | h | h)
      · exact ho h
      · exact hsh h
      · omega
      · exact hr h
    rw [Dev.ackWrite_whole hp m (Dev.ackStatus_accepted hg hs hno)]
    obtain ⟨hshow, hqueue⟩ := d.acked_ends m q (s := 1) (by decide) (l := d.hp.queue ++ [(addr.toNat, bs)])
      (e := ((d.frameBegin m).ackErred (1 != 1 && 1 != 2)).ackActs 1 addr.toNat q.toNat crc.toNat bs) (Dev.ackActs_accept_hp ..)
    obtain ⟨hvalid, hseq, hcrc⟩ :=
      Dev.ackActs_accept ((d.frameBegin m).ackErred (1 != 1 && 1 != 2)) (addr := addr.toNat) (bs := bs) q.isLt crc.isLt
    refine ⟨hshow, hqueue, ?_, ?_, ?_, Dev.butRegs_acked 1 q.toNat ?_ (by decide)⟩
    · exact (Dev.acked_is _ 1 q.toNat (.inr (by decide))).trans hvalid
    · exact (Dev.acked_get _ 1 q.toNat (.inr (by decide))).trans hseq
    · exact (Dev.acked_get _ 1 q.toNat (.inl (by decide))).trans hcrc
    · exact Dev.butRegs_ackActs_accept (hbegun d _ _ (by decide)) (by decide) (by decide) (by decide) _ _ _ _
  · rw [Dev.ackWrite_whole hp m (Dev.ackStatus_dup hg hs hc)]
    obtain ⟨hshow, hqueue⟩ := d.acked_ends m q (s := 2) (by decide) (l := d.hp.queue)
      (e := ((d.frameBegin m).ackErred (2 != 1 && 2 != 2)).ackActs 2 addr.toNat q.toNat crc.toNat bs) rfl
    exact ⟨hshow, hqueue, Dev.butRegs_acked 2 q.toNat (hbegun d _ _ (by decide)) (by decide)⟩
  · rw [Dev.ackWrite_whole hp m (Dev.ackStatus_conflict hg hs hc)]
    obtain ⟨hshow, hqueue⟩ := d.acked_ends m q (s := 3) (by decide) (l := d.hp.queue)
      (e := ((d.frameBegin m).ackErred (3 != 1 && 3 != 2)).ackActs 3 addr.toNat q.toNat crc.toNat bs) rfl
    exact ⟨hshow, hqueue, Dev.butRegs_acked 3 q.toNat (hbegun d _ _ (by decide)) (by decide)⟩
  · rw [Dev.ackWrite_whole hp m (Dev.ackStatus_rejected hg hs hrej)]
    obtain ⟨hhp, hrag, halign, hwovr⟩ := ((d.frameBegin m).ackErred true).ackReject_spec addr.toNat bs.length
    obtain ⟨hshow, hqueue⟩ := d.acked_ends m q (s := 5) (by decide) (l := d.hp.queue)
      (e := ((d.frameBegin m).ackErred true).ackReject addr.toNat bs.length) hhp
    refine ⟨hshow, hqueue, fun h => ?_, fun h => ?_, fun h => ?_, Dev.butRegs_acked 5 q.toNat ?_ (by decide)⟩
    · exact (Dev.acked_is _ 5 q.toNat (.inl (by decide))).trans (hrag h)
    · exact (Dev.acked_is _ 5 q.toNat (.inl (by decide))).trans (halign h)
    · exact (Dev.acked_is _ 5 q.toNat (.inl (by decide))).trans (hwovr h)
    · exact Dev.butRegs_ackReject (hbegun d true _ (by decide)) (by decide) _ _
  · rw [Dev.ackWrite_whole hp m (Dev.ackStatus_crcError hg), Dev.acked, show byte q.toNat = q from BitVec.ofNat_toNat 8 q]
    rfl

end Sys2Proof.Machine
end

section
/-!
What a Fallow entry does to the domains, and what the device answers to a state request (chapter 18): lemmas for the commands
that ask for Fallow.
-/

namespace Sys2Proof.Machine
set_option Elab.async false

/-! ### A domain that starts to drain in a calm device -/

/-- What the start of a drain may write in a calm device. -/
abbrev Dev.drainScope : Dev.Scope :=
  { freeCount := true, mem := true, acq := true, aux := true, cal := true, ring := true, cl := true, pwr := true, flt := true
    regs := [R.ACQ_STATUS, R.PWR_ON, R.PWR_DST0, R.PWR_DST1] ++ Dev.auxEndScope.regs
    fams := [(0x44c0, 4)] }

/-- What the start of a drain does before the domain's state changes. -/
def Dev.drainWork (d : Dev) (k : Nat) : Dev :=
  match k with
  | 8 => d.clusterLeave
  | 10 => d.calEnds Dev.auxDrain
  | 0 => { d with pwr := { d.pwr with drainAt := d.clock } }
  | 11 => { d with pwr := { d.pwr with tickOff := setBit d.pwr.tickOff 11 d.ticking } }
  | _ => d

theorem Dev.drainStart_eq (d : Dev) (k : Nat) : d.drainStart k = (d.drainWork k).setDom k 3 := rfl

/-- The work of a drain's start, but for its time and the tick that it waits for. -/
theorem Dev.drainWork_spec {d : Dev} (hc : d.calm) (k : Nat) :
    Dev.Keeps { Dev.drainScope with regs := R.ACQ_STATUS :: Dev.auxEndScope.regs } d (d.drainWork k) ∧
      (d.drainWork k).pwr.stateReq = d.pwr.stateReq ∧ (d.drainWork k).pwr.mode = d.pwr.mode := by
  unfold Dev.drainWork
  split
  · exact ⟨Dev.Keeps.clusterLeave .refl, congrArg Pwr.stateReq ((Dev.Keeps.clusterLeave (w := Dev.clusterLeaveScope) .refl).pwr rfl),
      congrArg Pwr.mode ((Dev.Keeps.clusterLeave (w := Dev.clusterLeaveScope) .refl).pwr rfl)⟩
  · have hk : Dev.Keeps Dev.auxEndScope d (d.calEnds Dev.auxDrain) := Dev.Keeps.calEnds_calm hc (Dev.Keeps.auxDrainOf .refl) Dev.auxDrain_due rfl
    exact ⟨Dev.Keeps.step .refl (by decide) hk, congrArg Pwr.stateReq (hk.pwr rfl), congrArg Pwr.mode (hk.pwr rfl)⟩
  · exact ⟨.upd .refl (pwr := nofun), rfl, rfl⟩
  · exact ⟨.upd .refl (pwr := nofun), rfl, rfl⟩
  · exact ⟨.refl, rfl, rfl⟩

theorem Dev.Keeps.drainStartOf {d : Dev} (hc : d.calm) (k : Nat) : Dev.Keeps Dev.drainScope d (d.drainStart k) := by
  have h1 : Dev.Keeps Dev.drainScope d (d.drainWork k) := Dev.Keeps.step .refl (by decide) (Dev.drainWork_spec hc k).1
  rw [Dev.drainStart_eq]
  exact Dev.Keeps.setDom h1

theorem Dev.drainStart_pwr {d : Dev} (hc : d.calm) (k : Nat) :
    (d.drainStart k).pwr.stateReq = d.pwr.stateReq ∧ (d.drainStart k).pwr.mode = d.pwr.mode := (Dev.drainWork_spec hc k).2

theorem Dev.dom_drainStart {d : Dev} (hc : d.calm) {j k : Nat} (hj : j < 12) (hk : k < 12) :
    (d.drainStart k).dom j = if j = k then 3 else d.dom j := by
  rw [Dev.drainStart_eq, Dev.dom_setDom _ hj hk, ((Dev.drainWork_spec hc k).1.dom j)]

/-! ### The walk of a Fallow entry over the domains (R593) -/

/-- A bank that the entry keeps. -/
def Dev.walkKeeps (d : Dev) (k : Nat) : Bool := (k == 1 && bitOf d.pwr.fcfg 0) || (k == 2 && bitOf d.pwr.fcfg 1)

/-- The device whose bank `k` a Fallow entry has switched off with its contents kept. -/
def Dev.retains (d : Dev) (k : Nat) : Dev :=
  Dev.setDom { d with pwr := { d.pwr with retained := setBit d.pwr.retained k true } } k 0

theorem Dev.fallowWalk_cons (d : Dev) (k : Nat) (l : List Nat) : Dev.fallowWalk (k :: l) d =
    if d.dom k = 0 then Dev.fallowWalk l d else if d.dom k ≠ 2 then d
    else if d.walkKeeps k then Dev.fallowWalk l (d.retains k) else d.drainStart k := rfl

theorem Dev.Keeps.retains (d : Dev) (k : Nat) : Dev.Keeps { pwr := true, regs := [R.PWR_ON, R.PWR_DST0, R.PWR_DST1] } d (d.retains k) :=
  Dev.Keeps.setDom (.upd .refl (pwr := nofun))

theorem Dev.dom_retains (d : Dev) {j k : Nat} (hj : j < 12) (hk : k < 12) : (d.retains k).dom j = if j = k then 0 else d.dom j :=
  Dev.dom_setDom _ hj hk 0

theorem Dev.calm_retains {d : Dev} (hc : d.calm) (k : Nat) : (d.retains k).calm := Dev.calm_of_keeps (Dev.Keeps.retains d k) (h := hc)

/-- The walk of a Fallow entry stops at a domain that is ON and not kept, at the latest. -/
theorem Dev.fallowWalk_spec {k : Nat} (hk : k < 12) (hne : k ≠ 1 ∧ k ≠ 2) (l : List Nat) (hl : k ∈ l) (h12 : ∀ j ∈ l, j < 12) :
    ∀ d : Dev, d.calm → d.dom k = 2 → Dev.Keeps Dev.drainScope d (Dev.fallowWalk l d) ∧
      (Dev.fallowWalk l d).pwr.stateReq = d.pwr.stateReq ∧ (Dev.fallowWalk l d).pwr.mode = d.pwr.mode := by
  induction l with
  | nil => exact absurd hl List.not_mem_nil
  | cons j l ih =>
    intro d hc h2
    rw [Dev.fallowWalk_cons]
    have hin : j ≠ k → k ∈ l := fun h => (List.mem_cons.1 hl).resolve_left (Ne.symm h)
    have ih := fun h : j ≠ k => ih (hin h) (fun x hx => h12 x (List.mem_cons_of_mem _ hx))
    split
    next h0 => exact ih (fun h => by rw [h, h2] at h0; cases h0) d hc h2
    · split
      · exact ⟨.refl, rfl, rfl⟩
      · split
        next hkeep =>
          have hjk : j ≠ k := by
            rintro rfl
            unfold Dev.walkKeeps at hkeep
            simp [hne.1, hne.2] at hkeep
          obtain ⟨hkeeps, hreq, hmode⟩ := ih hjk (d.retains j) (Dev.calm_retains hc j)
            ((d.dom_retains hk (h12 j List.mem_cons_self)).trans ((if_neg (Ne.symm hjk)).trans h2))
          exact ⟨(Dev.Keeps.step .refl (by decide) (Dev.Keeps.retains d j)).trans hkeeps, hreq, hmode⟩
        · exact ⟨Dev.Keeps.drainStartOf hc j, Dev.drainStart_pwr hc j⟩

/-- What the walk of a Fallow entry does to the domains up to the first one that has to drain. -/
theorem Dev.dom_fallowWalk {k : Nat} (bs as : List Nat) (hn : (as ++ k :: bs).Nodup) (h12 : ∀ j ∈ as ++ k :: bs, j < 12) :
    ∀ d : Dev, d.calm → d.dom k = 2 → d.walkKeeps k = false → (∀ j ∈ as, d.dom j = 0 ∨ (d.dom j = 2 ∧ d.walkKeeps j = true)) →
      (Dev.fallowWalk (as ++ k :: bs) d).dom k = 3 ∧ ∀ j, j < 12 → j ≠ k →
        (Dev.fallowWalk (as ++ k :: bs) d).dom j = if d.walkKeeps j = true ∧ j ∈ as then 0 else d.dom j := by
  have hk12 : k < 12 := h12 k (by simp)
  induction as with
  | nil =>
    intro d hc h2 hkeep _
    rw [List.nil_append, Dev.fallowWalk_cons, if_neg (by rw [h2]; decide), if_neg (not_not.2 h2), if_neg (by rw [hkeep]; exact Bool.false_ne_true)]
    refine ⟨(Dev.dom_drainStart hc hk12 hk12).trans (if_pos rfl), fun j hj hjk => ?_⟩
    rw [Dev.dom_drainStart hc hj hk12, if_neg hjk, if_neg fun h => List.not_mem_nil h.2]
  | cons i as ih =>
    intro d hc h2 hkeep hall
    have hi12 : i < 12 := h12 i (by simp)
    rw [List.cons_append, List.nodup_cons] at hn
    have hik : i ≠ k := fun h => hn.1 (by rw [h]; simp)
    have hias : i ∉ as := fun h => hn.1 (List.mem_append_left _ h)
    have ih := ih hn.2 (fun j hj => h12 j (List.mem_cons_of_mem _ hj))
    rw [List.cons_append, Dev.fallowWalk_cons]
    split
    next h0 =>
      obtain ⟨h3, hrest⟩ := ih d hc h2 hkeep (fun j hj => hall j (List.mem_cons_of_mem _ hj))
      refine ⟨h3, fun j hj hjk => (hrest j hj hjk).trans ?_⟩
      by_cases hji : j = i
      · rw [hji, if_neg fun h => hias h.2, h0, ite_self]
      · simp [hji]
    next h0 =>
      obtain ⟨hi2, hikeep⟩ := (hall i List.mem_cons_self).resolve_left h0
      rw [if_neg (not_not.2 hi2), if_pos hikeep]
      have hdom : ∀ j, j < 12 → j ≠ i → (d.retains i).dom j = d.dom j := fun j hj hji => (d.dom_retains hj hi12).trans (if_neg hji)
      obtain ⟨h3, hrest⟩ := ih (d.retains i) (Dev.calm_retains hc i) ((hdom k hk12 (Ne.symm hik)).trans h2) hkeep (fun j hj => by
        rw [hdom j (h12 j (by simp [hj])) (fun h => hias (h ▸ hj))]
        exact hall j (List.mem_cons_of_mem _ hj))
      refine ⟨h3, fun j hj hjk => (hrest j hj hjk).trans ?_⟩
      by_cases hji : j = i
      · have h0 : (d.retains i).dom i = 0 := (d.dom_retains hi12 hi12).trans (if_pos rfl)
        rw [hji, h0, ite_self, if_pos ⟨hikeep, List.mem_cons_self⟩]
      · rw [hdom j hj hji]
        have hmem : j ∈ i :: as ↔ j ∈ as := by simp [hji]
        have hkeeps : (d.retains i).walkKeeps j = d.walkKeeps j := rfl
        simp only [hkeeps, hmem]

/-! ### The answer to a request -/

/-- What answers a request leaves PWR_RES with its cause and kind (R605). -/
theorem Dev.pwrAnswer_spec (d : Dev) (kind : Nat) (cmd : Option Async) (cause dom : Nat) :
    (d.pwrAnswer kind cmd cause dom).pwr = { d.pwr with restarted := 0 } ∧
      (d.pwrAnswer kind cmd cause dom).get R.PWR_RES_CODE = cause % 2 ^ R.PWR_RES_CODE.width ∧
      (d.pwrAnswer kind cmd cause dom).get R.PWR_RES_KIND = kind % 2 ^ R.PWR_RES_KIND.width := by
  unfold Dev.pwrAnswer
  extract_lets d1 tag d2 p d3
  have h1p : d1.pwr = d.pwr := rfl
  have h1 : d1.get R.PWR_RES_CODE = cause % 2 ^ R.PWR_RES_CODE.width ∧ d1.get R.PWR_RES_KIND = kind % 2 ^ R.PWR_RES_KIND.width := by
    unfold d1 Dev.pwrBusy Dev.putB
    rw [Dev.get_put_ne _ R.PWR_RES_BUSY R.PWR_RES_CODE _ (by decide), Dev.get_put_ne _ R.PWR_RES_BUSY R.PWR_RES_KIND _ (by decide),
      Dev.get_put_ne _ R.PWR_RES_DOMAIN R.PWR_RES_CODE _ (by decide), Dev.get_put_ne _ R.PWR_RES_DOMAIN R.PWR_RES_KIND _ (by decide),
      Dev.get_put_ne _ R.PWR_RES_SRC R.PWR_RES_CODE _ (by decide), Dev.get_put_ne _ R.PWR_RES_SRC R.PWR_RES_KIND _ (by decide),
      Dev.get_put_ne _ R.PWR_RES_KIND R.PWR_RES_CODE _ (by decide), Dev.get_put_self _ _ _ (by decide), Dev.get_put_self _ _ _ (by decide)]
    exact ⟨rfl, rfl⟩
  clear_value d1
  have h2 : Dev.Keeps Dev.reportScope d1 d2 := Dev.Keeps.report .refl
  have h3 : d3.pwr = { d.pwr with restarted := 0 } := congrArg (fun p : Pwr => { p with restarted := 0 }) ((h2.pwr rfl).trans h1p)
  have h3r : d3.get R.PWR_RES_CODE = cause % 2 ^ R.PWR_RES_CODE.width ∧ d3.get R.PWR_RES_KIND = kind % 2 ^ R.PWR_RES_KIND.width :=
    ⟨(h2.get (by decide)).trans h1.1, (h2.get (by decide)).trans h1.2⟩
  have hend : ∀ (a : Async) (s x : Nat), (d3.endAsync a s x).pwr = { d.pwr with restarted := 0 } ∧
      (d3.endAsync a s x).get R.PWR_RES_CODE = cause % 2 ^ R.PWR_RES_CODE.width ∧
      (d3.endAsync a s x).get R.PWR_RES_KIND = kind % 2 ^ R.PWR_RES_KIND.width := by
    intro a s x
    have hk : Dev.Keeps Dev.endAsyncScope d3 (d3.endAsync a s x) := Dev.Keeps.endAsync .refl
    exact ⟨(hk.pwr rfl).trans h3, (hk.get (by decide)).trans h3r.1, (hk.get (by decide)).trans h3r.2⟩
  split
  · split
    · exact hend _ _ _
    · exact hend _ _ _
  · exact ⟨h3, h3r⟩

/-! ### The entry of Fallow (R592, R593) -/

/-- What an accepted Fallow entry writes before it drains the first domain. -/
abbrev Dev.fallowOpenScope : Dev.Scope :=
  { mem := true, ring := true, cl := true, pwr := true
    regs := [R.HP_ATTN, R.XR_ECCSB, R.XR_ECCDB, R.CQ_CI, R.CQ_SEQX, R.CQ_COUNTS, R.CQ_CTRL, R.RQ_CTRL, R.RQ_PI, R.RQ_CI, R.RQ_SEQX, R.RQ_LOST,
      R.RQ_STATUS, R.PWR_RES] }

/-- The device whose Fallow entry is accepted, before it drains the first domain. -/
def Dev.fallowOpen (d : Dev) (own : Option Async) : Dev :=
  let d := d.endAsyncs (d.ring.asyncs.filter (fun a => some a != own)) csAborted 0
  let d := d.fenceEnd csAborted 0
  let d : Dev := { d with pwr := { d.pwr with stateReq := some ⟨2, own, true, true⟩, domReqs := [] },
                          cl := { d.cl with enum := none } }
  let d := d.pwrAnswer 2 own 0 0
  (d.cqOff).put R.RQ_CTRL_EN 0

theorem Dev.fallowEnter_eq (d : Dev) (own : Option Async) : d.fallowEnter own = (d.fallowOpen own).fallowStep := rfl

theorem Dev.fallowOpen_spec (d : Dev) (own : Option Async) : Dev.Keeps Dev.fallowOpenScope d (d.fallowOpen own) ∧
    (d.fallowOpen own).pwr = { d.pwr with stateReq := some ⟨2, own, true, true⟩, domReqs := [], restarted := 0 } ∧
    (d.fallowOpen own).is R.CQ_CTRL_EN = false ∧ (d.fallowOpen own).is R.RQ_CTRL_EN = false ∧
    (d.fallowOpen own).get R.PWR_RES_CODE = 0 ∧ (d.fallowOpen own).get R.PWR_RES_KIND = 2 := by
  unfold Dev.fallowOpen
  extract_lets d1 d2 p c d3 d4
  have h2 : Dev.Keeps Dev.fallowOpenScope d d2 := Dev.Keeps.fenceEnd (Dev.Keeps.endAsyncs .refl)
  have h2p : d2.pwr = d.pwr := (Dev.Keeps.fenceEnd (w := { Dev.fallowOpenScope with pwr := false }) (Dev.Keeps.endAsyncs .refl)).pwr rfl
  have h3 : Dev.Keeps Dev.fallowOpenScope d d3 := h2.upd (cl := nofun) (pwr := nofun)
  have h3p : d3.pwr = { d.pwr with stateReq := some ⟨2, own, true, true⟩, domReqs := [] } :=
    congrArg (fun p : Pwr => { p with stateReq := some ⟨2, own, true, true⟩, domReqs := [] }) h2p
  clear_value d3
  obtain ⟨h4p, h4c, h4k⟩ : d4.pwr = { d3.pwr with restarted := 0 } ∧ d4.get R.PWR_RES_CODE = 0 ∧ d4.get R.PWR_RES_KIND = 2 :=
    d3.pwrAnswer_spec 2 own 0 0
  have h4 : Dev.Keeps Dev.fallowOpenScope d d4 := h3.pwrAnswer
  clear_value d4
  have h5 : Dev.Keeps { ring := true, regs := [R.CQ_CTRL, R.RQ_CTRL] } d4 (d4.cqOff.put R.RQ_CTRL_EN 0) :=
    Dev.Keeps.put (f := R.RQ_CTRL_EN) (Dev.Keeps.cqOff .refl)
  have hoff : (d4.put R.CQ_CTRL_EN 0).is R.CQ_CTRL_EN = false := Dev.is_putB_self d4 R.CQ_CTRL_EN false (by decide) (by decide)
  refine ⟨(h4.cqOff).put (f := R.RQ_CTRL_EN), ?_, ?_, ?_, ?_, ?_⟩
  · show d4.pwr = _
    rw [h4p, h3p]
  · exact (Dev.is_put_ne d4.cqOff R.RQ_CTRL_EN R.CQ_CTRL_EN 0 (.inl (by decide))).trans hoff
  · exact Dev.is_putB_self d4.cqOff R.RQ_CTRL_EN false (by decide) (by decide)
  · exact (h5.get (by decide)).trans h4c
  · exact (h5.get (by decide)).trans h4k

/-- The device whose request for Fallow, of the command `cmd` or of the host, is accepted. -/
def Dev.fallowAsked (d : Dev) (cmd : Option Async) : Dev :=
  ({ d with pwr := { d.pwr with stateReq := some ⟨2, cmd, true, false⟩, fcfg := (d.reg R.PWR_FCFG).toNat } } : Dev).pwrBusy

theorem Dev.fallowRequest_taken {d : Dev} (hs : d.st = stBootWait ∨ d.st = stReady) (he : d.enumerated = false)
    (hq : d.pwr.stateReq = none) (cmd : Option Async) : d.fallowRequest cmd = (d.fallowAsked cmd).fallowEnter cmd := by
  have hst : (d.fallowAsked cmd).st = d.st := (Dev.Keeps.pwrBusy (w := { pwr := true, regs := [R.PWR_RES] }) (d₀ := d)
    (.upd .refl (pwr := nofun))).st
  unfold Dev.fallowRequest
  rw [if_neg (by rcases hs with h | h <;> simp [h]), if_neg (by rw [he]; exact Bool.false_ne_true), if_neg (by rw [hq]; exact Bool.false_ne_true)]
  show (if (d.fallowAsked cmd).st = stRunning then _ else (d.fallowAsked cmd).fallowTake) = _
  rw [hst, if_neg (by rcases hs with h | h <;> rw [h] <;> decide)]
  unfold Dev.fallowTake
  show (if 2 = 2 ∧ false = false ∧ ((d.fallowAsked cmd).st = stReady ∨ (d.fallowAsked cmd).st = stBootWait) then _ else _) = _
  rw [hst]
  exact if_pos ⟨rfl, rfl, hs.symm⟩

/-- What may have changed in a device between a request's command and the request. -/
abbrev Dev.askScope : Dev.Scope :=
  { mem := true, hp := true, ring := true
    regs := [R.HP_STATUS, R.HP_ATTN, R.XR_ECCSB, R.XR_ECCDB, R.CQ_CI, R.CQ_SEQX, R.CQ_COUNTS, R.RQ_PI, R.RQ_CI, R.RQ_SEQX, R.RQ_LOST, R.RQ_STATUS] }

/-- What the banks that R593 keeps are to the walk over the domains. -/
theorem Dev.walkKeeps_fcfg {d : Dev} {w : Word} (h : d.pwr.fcfg = w.toNat) (k : Nat) : d.walkKeeps k = Dev.keptBank w k := by
  unfold Dev.walkKeeps Dev.keptBank
  rw [h, bitOf_testBit, bitOf_testBit]
  rfl

/-- A Fallow entry begins where nothing keeps the device from it (R592, R593). -/
theorem Dev.fallowRequest_enters {d e : Dev} (h : d.mayFallow) (hk : Dev.Keeps Dev.askScope d e) (cmd : Option Async) :
    d.entersFallow (e.fallowRequest cmd) := by
  obtain ⟨hst, henum, hreq, -, h7, hquiet⟩ := h
  have hasked : Dev.Keeps { Dev.fallowOpenScope with hp := true, regs := R.HP_STATUS :: Dev.fallowOpenScope.regs } d (e.fallowAsked cmd) :=
    Dev.Keeps.pwrBusy (Dev.Keeps.upd (Dev.Keeps.step .refl (by decide) hk) (pwr := nofun))
  have hcfg : (e.fallowAsked cmd).pwr.fcfg = (d.reg R.PWR_FCFG).toNat := congrArg BitVec.toNat (hk.reg R.PWR_FCFG (by decide))
  rw [Dev.fallowRequest_taken (by rw [hk.st]; exact hst) (by rw [hk.enumerated]; exact henum) (by rw [hk.pwr rfl]; exact hreq), Dev.fallowEnter_eq]
  obtain ⟨ho, hop, hcq, hrq, hcode, hkind⟩ := (e.fallowAsked cmd).fallowOpen_spec cmd
  generalize (e.fallowAsked cmd).fallowOpen cmd = o at ho hop hcq hrq hcode hkind
  have hall : Dev.Keeps { Dev.fallowOpenScope with hp := true, regs := R.HP_STATUS :: Dev.fallowOpenScope.regs } d o :=
    hasked.trans (Dev.Keeps.step .refl (by decide) ho)
  have hcalm : o.calm := Dev.calm_of_keeps hall (h := Dev.calm_of_calQuiet hquiet)
  have ho7 : o.dom 7 = 2 := by
    rw [hall.dom 7]
    exact beq_iff_eq.1 h7
  have hstep : o.fallowStep = Dev.fallowWalk fallowOrder o := by
    unfold Dev.fallowStep
    rw [hop]
    rfl
  obtain ⟨hw, hwreq, -⟩ := Dev.fallowWalk_spec (by decide) (by decide) fallowOrder (by decide) (by decide) o hcalm ho7
  rw [hstep]
  refine ⟨hw.st.trans hall.st, (hw.clock rfl).trans (hall.clock rfl), hw.is.trans hcq, hw.is.trans hrq, hw.get.trans hcode, hw.get.trans hkind,
    ⟨⟨2, cmd, true, true⟩, by rw [hwreq, hop], rfl, rfl⟩, fun hdoms k hfind => ?_⟩
  obtain ⟨hp, as, bs, hl, has⟩ := List.find?_eq_some_iff_append.1 hfind
  rw [Bool.and_eq_true, Bool.not_eq_true'] at hp
  have horder : fallowOrder = as ++ k :: bs := hl
  have hkept : ∀ j, o.walkKeeps j = Dev.keptBank (d.reg R.PWR_FCFG) j :=
    fun j => Dev.walkKeeps_fcfg (by rw [hop]; exact hcfg) j
  have hdom : ∀ j, o.dom j = d.dom j := hall.dom
  have h12 : ∀ j ∈ as ++ k :: bs, j < 12 := by
    rw [← horder]
    decide
  have hnodup : (as ++ k :: bs).Nodup := by
    rw [← horder]
    decide
  obtain ⟨h3, hrest⟩ := Dev.dom_fallowWalk bs as hnodup h12 o hcalm (by rw [hdom]; exact beq_iff_eq.1 hp.1) (by rw [hkept]; exact hp.2)
    (fun j hj => by
      have hj' := has j hj
      rw [hdom, hkept]
      refine (hdoms j (h12 j (by simp [hj]))).imp_right fun h2 => ⟨h2, ?_⟩
      have hon : d.domOn j = true := beq_iff_eq.2 h2
      simpa [hon] using hj')
  rw [← horder] at h3 hrest
  refine ⟨h3, fun j hj hjk => (hrest j hj hjk).trans ?_⟩
  have hidx : j ∈ as ↔ fallowDomains.idxOf j < fallowDomains.idxOf k := by
    have hkas : k ∉ as := fun hm => (List.nodup_append.1 hnodup).2.2 k hm k List.mem_cons_self rfl
    rw [hl, List.idxOf_append_of_notMem hkas, List.idxOf_cons_self, Nat.add_zero]
    constructor
    · intro hm
      rw [List.idxOf_append_of_mem hm]
      exact List.idxOf_lt_length_of_mem hm
    · intro hlt
      by_contra hm
      rw [List.idxOf_append_of_notMem hm] at hlt
      omega
  simp only [hkept, hdom, hidx, Bool.and_eq_true, decide_eq_true_eq]

end Sys2Proof.Machine
end

section
/-!
Proofs for the modes and opcodes of the host port (chapter 13): the statement O43.
-/

namespace Sys2Proof.Machine
set_option Elab.async false

/-! ### Resets by a frame (R611) -/

/-- The registers that a reset leaves: the pins' levels, the cause and SYS_HALT_INFO. -/
def Dev.heldIn (d : Dev) (c : ResetCause) : Dev :=
  ((({ Dev.reset with freeCount := d.freeCount }.put R.SYS_STRAPS_SEATPIN (d.get R.SYS_STRAPS_SEATPIN)).put
    R.SYS_STATUS_VDDIOOK (d.get R.SYS_STATUS_VDDIOOK)).setReg R.SYS_RESET (d.resetWord c)).setReg R.SYS_HALT_INFO (d.reg R.SYS_HALT_INFO)

/-- What a reset leaves of a device (R607, R611): the cause and SYS_HALT_INFO, and the levels of two pins. -/
theorem Dev.resetDev_spec (d : Dev) {c : ResetCause} (hc : c ≠ .por) :
    d.resetDev c = { Dev.reset with
        freeCount := d.freeCount, regs := (d.resetDev c).regs
        sys := { Dev.reset.sys with seatFell := if d.is R.SYS_STRAPS_SEATPIN then none else some 0 } } ∧
      (d.resetDev c).reg R.SYS_RESET = d.resetWord c ∧ (d.resetDev c).reg R.SYS_HALT_INFO = d.reg R.SYS_HALT_INFO ∧
      (d.resetDev c).is R.SYS_STATUS_VDDIOOK = d.is R.SYS_STATUS_VDDIOOK ∧
      ∀ a, a ∉ [R.SYS_RESET, R.SYS_HALT_INFO, R.SYS_STRAPS, R.SYS_STATUS] → (d.resetDev c).reg a = regReset a := by
  have heq : d.resetDev c = { d.heldIn c with sys := { (d.heldIn c).sys with seatFell := if d.is R.SYS_STRAPS_SEATPIN then none else some 0 } } := by
    unfold Dev.resetDev
    dsimp only
    rw [if_neg hc]
    rfl
  have hreg : ∀ a, (d.resetDev c).reg a = (d.heldIn c).reg a := fun a => by rw [heq]; rfl
  refine ⟨?_, ?_, ?_, ?_, fun a ha => ?_⟩
  · rw [heq]
    rfl
  · rw [hreg, Dev.heldIn, Dev.reg_setReg_ne _ _ _ _ (by decide), Dev.reg_setReg_self]
  · rw [hreg, Dev.heldIn, Dev.reg_setReg_self]
  · refine congrArg (fun n => n != 0) ((congrArg _ (hreg R.SYS_STATUS)).trans ?_)
    show (d.heldIn c).get R.SYS_STATUS_VDDIOOK = _
    rw [Dev.heldIn, Dev.get_setReg_ne _ _ _ _ (by decide), Dev.get_setReg_ne _ _ _ _ (by decide), Dev.get_put_self _ _ _ (by decide)]
    exact Nat.mod_eq_of_lt (Dev.get_lt d R.SYS_STATUS_VDDIOOK)
  · simp only [List.mem_cons, List.not_mem_nil, or_false, not_or] at ha
    obtain ⟨h1, h2, h3, h5⟩ := ha
    rw [hreg, Dev.heldIn, Dev.reg_setReg_ne _ _ _ _ h2, Dev.reg_setReg_ne _ _ _ _ h1, Dev.reg_put_ne _ R.SYS_STATUS_VDDIOOK _ _ h5,
      Dev.reg_put_ne _ R.SYS_STRAPS_SEATPIN _ _ h3]
    show sparseGet regReset [(0x18, 4), (0x1C, 1)] a = regReset a
    unfold sparseGet
    rw [if_neg (Ne.symm h3)]
    unfold sparseGet
    rw [if_neg (Ne.symm h1)]
    rfl

/-- The device that is out of reset, before a flash boot starts. -/
def Dev.outOfReset (d : Dev) (g0 g1 : Bool) : Dev :=
  let d := ((d.putB R.SYS_STRAPS_BOOT g0).putB R.SYS_STRAPS_CHAIN g1).put R.SYS_STRAPS_SEATPIN 0
  let d := (d.putB R.HP_STATUS_CHAIN g1).put R.SYS_STATUS_SEATED 1
  let d : Dev := { d with clock := 0, sys := { d.sys with inReset := false, seatFell := none, hostQual := false },
                          pwr := { d.pwr with hfoOn := true } }
  let d := if g0 then d.setDom 9 2 else d
  d.setSt stBootWait

theorem Dev.endOfReset_eq (d : Dev) (g0 g1 : Bool) : d.endOfReset g0 g1 = (d.outOfReset g0 g1).bootStart := rfl

theorem Dev.outOfReset_spec (d : Dev) (g0 g1 : Bool) :
    d.outOfReset g0 g1 = { d with
      clock := 0, regs := (d.outOfReset g0 g1).regs, sys := { d.sys with inReset := false, seatFell := none, hostQual := false }
      pwr := { d.pwr with hfoOn := true } } ∧
      (d.outOfReset g0 g1).st = stBootWait ∧ (d.outOfReset g0 g1).is R.SYS_STATUS_SEATED = true ∧
      (d.outOfReset g0 g1).is R.SYS_STRAPS_SEATPIN = false ∧ (d.outOfReset g0 g1).is R.SYS_STRAPS_BOOT = g0 ∧
      (d.outOfReset g0 g1).is R.SYS_STRAPS_CHAIN = g1 ∧ (d.outOfReset g0 g1).is R.HP_STATUS_CHAIN = g1 ∧
      (d.outOfReset g0 g1).is R.SYS_STATUS_VDDIOOK = d.is R.SYS_STATUS_VDDIOOK ∧
      ∀ a, a ∉ [R.SYS_STRAPS, R.SYS_STATUS, R.HP_STATUS, R.PWR_DST1, R.PWR_ON] → (d.outOfReset g0 g1).reg a = d.reg a := by
  unfold Dev.outOfReset
  extract_lets d1 d2 s p d3 d4
  have h2 : d2.is R.SYS_STATUS_SEATED = true ∧ d2.is R.SYS_STRAPS_SEATPIN = false ∧ d2.is R.SYS_STRAPS_BOOT = g0 ∧
      d2.is R.SYS_STRAPS_CHAIN = g1 ∧ d2.is R.HP_STATUS_CHAIN = g1 ∧ d2.is R.SYS_STATUS_VDDIOOK = d.is R.SYS_STATUS_VDDIOOK := by
    unfold d2 d1
    refine ⟨Dev.is_putB_self _ R.SYS_STATUS_SEATED true (by decide) (by decide), ?_, ?_, ?_, ?_, ?_⟩
    · rw [Dev.is_put_ne _ R.SYS_STATUS_SEATED _ _ (by decide), Dev.putB, Dev.is_put_ne _ R.HP_STATUS_CHAIN _ _ (by decide)]
      exact Dev.is_putB_self _ R.SYS_STRAPS_SEATPIN false (by decide) (by decide)
    · rw [Dev.is_put_ne _ R.SYS_STATUS_SEATED _ _ (by decide), Dev.putB, Dev.is_put_ne _ R.HP_STATUS_CHAIN _ _ (by decide),
        Dev.is_put_ne _ R.SYS_STRAPS_SEATPIN _ _ (by decide), Dev.putB, Dev.is_put_ne _ R.SYS_STRAPS_CHAIN _ _ (by decide)]
      exact Dev.is_putB_self _ R.SYS_STRAPS_BOOT g0 (by decide) (by decide)
    · rw [Dev.is_put_ne _ R.SYS_STATUS_SEATED _ _ (by decide), Dev.putB, Dev.is_put_ne _ R.HP_STATUS_CHAIN _ _ (by decide),
        Dev.is_put_ne _ R.SYS_STRAPS_SEATPIN _ _ (by decide)]
      exact Dev.is_putB_self _ R.SYS_STRAPS_CHAIN g1 (by decide) (by decide)
    · rw [Dev.is_put_ne _ R.SYS_STATUS_SEATED _ _ (by decide)]
      exact Dev.is_putB_self _ R.HP_STATUS_CHAIN g1 (by decide) (by decide)
    · rw [Dev.is_put_ne _ R.SYS_STATUS_SEATED _ _ (by decide), Dev.putB, Dev.is_put_ne _ R.HP_STATUS_CHAIN _ _ (by decide),
        Dev.is_put_ne _ R.SYS_STRAPS_SEATPIN _ _ (by decide), Dev.putB, Dev.is_put_ne _ R.SYS_STRAPS_CHAIN _ _ (by decide),
        Dev.putB, Dev.is_put_ne _ R.SYS_STRAPS_BOOT _ _ (by decide)]
  have hr2 : ∀ a, a ∉ [R.SYS_STRAPS, R.SYS_STATUS, R.HP_STATUS] → d2.reg a = d.reg a := fun a ha =>
    (Dev.butRegs_put (f := R.SYS_STATUS_SEATED) (Dev.butRegs_putB (f := R.HP_STATUS_CHAIN) (Dev.butRegs_put (f := R.SYS_STRAPS_SEATPIN)
      (Dev.butRegs_putB (f := R.SYS_STRAPS_CHAIN) (Dev.butRegs_putB (f := R.SYS_STRAPS_BOOT) (d.butRegs_refl _) (by decide) _)
      (by decide) _) (by decide) _) (by decide) _) (by decide) 1).1 a ha
  have hd2 : d2 = { d with regs := d2.regs } := rfl
  have h34 : d4 = { d3 with regs := d4.regs } ∧ ∀ a, a ∉ [R.PWR_DST1, R.PWR_ON] → d4.reg a = d2.reg a := by
    unfold d4
    split
    · exact ⟨rfl, fun a ha => (Dev.butRegs_put (f := R.PWR_ON_ON) (Dev.butRegs_put (f := domField 9) (d3.butRegs_refl [R.PWR_DST1, R.PWR_ON])
        (by decide) 2) (by decide) _).1 a ha⟩
    · exact ⟨rfl, fun _ _ => rfl⟩
  have hd3 : d3 = { d with clock := 0, regs := d2.regs, sys := { d.sys with inReset := false, seatFell := none, hostQual := false }, pwr := { d.pwr with hfoOn := true } } := rfl
  clear_value d2 d4
  obtain ⟨hd4, hr4⟩ := h34
  have hget : ∀ f : Field, f.addr ∉ [R.PWR_DST1, R.PWR_ON] → d4.is f = d2.is f := by
    intro f hf
    unfold Dev.is Dev.get
    rw [hr4 _ hf]
  have hlast : ∀ f : Field, (f.addr ≠ R.SYS_STATUS ∨ f.lo + f.width ≤ 0 ∨ 4 ≤ f.lo) → (d4.setSt stBootWait).is f = d4.is f :=
    fun f hf => Dev.is_put_ne d4 R.SYS_STATUS_STATE f _ (hf.imp_right Or.symm)
  refine ⟨?_, Dev.get_put_self d4 R.SYS_STATUS_STATE _ (by decide), ?_⟩
  · have hsame : ∀ r, ({ d4 with regs := r } : Dev) = { d3 with regs := r } := fun r => by rw [hd4]
    exact (hsame (d4.setSt stBootWait).regs).trans (by rw [hd3])
  · obtain ⟨h1, h2, h3, h4, h5, h6⟩ := h2
    refine ⟨(hlast R.SYS_STATUS_SEATED (.inr (.inr (by decide)))).trans ((hget R.SYS_STATUS_SEATED (by decide)).trans h1),
      (hlast R.SYS_STRAPS_SEATPIN (.inl (by decide))).trans ((hget R.SYS_STRAPS_SEATPIN (by decide)).trans h2),
      (hlast R.SYS_STRAPS_BOOT (.inl (by decide))).trans ((hget R.SYS_STRAPS_BOOT (by decide)).trans h3),
      (hlast R.SYS_STRAPS_CHAIN (.inl (by decide))).trans ((hget R.SYS_STRAPS_CHAIN (by decide)).trans h4),
      (hlast R.HP_STATUS_CHAIN (.inl (by decide))).trans ((hget R.HP_STATUS_CHAIN (by decide)).trans h5),
      (hlast R.SYS_STATUS_VDDIOOK (.inr (.inr (by decide)))).trans ((hget R.SYS_STATUS_VDDIOOK (by decide)).trans h6), fun a ha => ?_⟩
    simp only [List.mem_cons, List.not_mem_nil, or_false, not_or] at ha
    obtain ⟨a1, a2, a3, a4, a5⟩ := ha
    exact (Dev.reg_put_ne d4 R.SYS_STATUS_STATE _ a a2).trans ((hr4 a (by simp [a4, a5])).trans (hr2 a (by simp [a1, a2, a3])))

/-- The flash boot of a device that is out of reset queues its first read at the periphery port (R299). -/
theorem Dev.bootStart_idle {d : Dev} (hb : d.is R.SYS_STRAPS_BOOT = true) (hc : d.clock = 0) (hs : d.seq = Seq.reset) (hp : d.pp = Pp.reset) :
    d.bootStart = Dev.put { d with seq := { Seq.reset with bootFrom := some 0 }, pp := { Pp.reset with queue := [⟨9, none, 8 + 1024 + 3 * 4096, 3 + 65536 * 64, 0, 0⟩] } } R.PP_STATUS_QCNT 1 := by
  unfold Dev.bootStart
  rw [if_pos hb]
  have hseq : ({ d.seq with bootFrom := some d.clock, bootPos := 0, active := none } : Seq) = { Seq.reset with bootFrom := some 0 } := by
    rw [hs, hc]
    rfl
  have hd : ({ d with seq := { Seq.reset with bootFrom := some 0 } } : Dev) = { d with seq := { Seq.reset with bootFrom := some 0 }, pp := Pp.reset } := by
    rw [← hp]
  dsimp only
  rw [hseq, hd]
  rfl

/-- A seated device that a frame or a chain segment resets starts again at once (R610, R611). -/
theorem Dev.warmReset_restart {d : Dev} (h0 : d.sys.inReset = false) (hs : d.is R.SYS_STATUS_SEATED = true) {c : ResetCause}
    (hc : c = .soft ∨ c = .chain) (g0 g1 : Bool) : d.restartTo (d.warmReset c g0 g1) (d.oneMoreReset c.flag) g0 g1 := by
  have hpor : c ≠ .por := by rcases hc with rfl | rfl <;> decide
  have hpin : (c == .pin) = false := by rcases hc with rfl | rfl <;> decide
  have hword : d.resetWord c = d.oneMoreReset c.flag := by
    unfold Dev.resetWord Dev.oneMoreReset
    dsimp only
    rw [if_neg hpor, h0, hpin, Bool.and_false, Bool.false_and, Bool.false_and, if_neg (by decide)]
  have hwarm : d.warmReset c g0 g1 = ((d.resetDev c).outOfReset g0 g1).bootStart := if_pos hs
  obtain ⟨hd, hrst, hhalt, hvddio, hregs⟩ := d.resetDev_spec hpor
  obtain ⟨ho, host, hseated, hpinLow, hboot, hchain, hhp, hovddio, horegs⟩ := (d.resetDev c).outOfReset_spec g0 g1
  rw [hwarm]
  generalize (d.resetDev c).outOfReset g0 g1 = o at ho host hseated hpinLow hboot hchain hhp hovddio horegs
  have hor : o.reg R.SYS_RESET = d.oneMoreReset c.flag := (horegs _ (by decide)).trans (hrst.trans hword)
  have hoh : o.reg R.SYS_HALT_INFO = d.reg R.SYS_HALT_INFO := (horegs _ (by decide)).trans hhalt
  have hrest : ∀ a, a ∉ [R.SYS_RESET, R.SYS_HALT_INFO, R.SYS_STRAPS, R.SYS_STATUS, R.HP_STATUS, R.PWR_DST1, R.PWR_ON, R.PP_STATUS] →
      o.reg a = regReset a := by
    intro a ha
    simp only [List.mem_cons, List.not_mem_nil, or_false, not_or] at ha
    obtain ⟨a1, a2, a3, a4, a5, a6, a7, a8⟩ := ha
    exact (horegs a (by simp [a3, a4, a5, a6, a7])).trans (hregs a (by simp [a1, a2, a3, a4]))
  have hod : o = { Dev.reset with
      freeCount := d.freeCount, regs := o.regs, sys := { Dev.reset.sys with inReset := false }
      pwr := { Pwr.reset with hfoOn := true } } := by
    refine ho.trans ?_
    rw [hd]
    rfl
  have hall : ∀ r q p, ({ o with regs := r, seq := q, pp := p } : Dev) = { Dev.reset with
      freeCount := d.freeCount, regs := r, sys := { Dev.reset.sys with inReset := false }, seq := q, pp := p
      pwr := { Pwr.reset with hfoOn := true } } := fun r q p => by rw [hod]
  have hseq : o.seq = Seq.reset := by rw [hod]; rfl
  have hpp : o.pp = Pp.reset := by rw [hod]; rfl
  cases g0 with
  | false =>
    have hnone : o.bootStart = o := if_neg (by rw [hboot]; exact Bool.false_ne_true)
    have hself : ({ o with regs := o.regs, seq := Seq.reset, pp := o.pp } : Dev) = o := by rw [← hseq]
    rw [hnone]
    exact ⟨hself.symm.trans (hall o.regs Seq.reset o.pp), fun _ => hpp, fun h => absurd h Bool.false_ne_true, hor, hoh, host, hseated,
      hpinLow, hboot, hchain, hhp, hovddio.trans hvddio, hrest⟩
  | true =>
    rw [Dev.bootStart_idle hboot (by rw [hod]; rfl) hseq hpp]
    have hkeep : ∀ f : Field, f.addr ≠ R.PP_STATUS → ∀ q p,
        (Dev.put { o with seq := q, pp := p } R.PP_STATUS_QCNT 1).get f = o.get f :=
      fun f hf q p => Dev.get_put_ne { o with seq := q, pp := p } R.PP_STATUS_QCNT f 1 (.inl hf)
    have hreg : ∀ a, a ≠ R.PP_STATUS → ∀ q p, (Dev.put { o with seq := q, pp := p } R.PP_STATUS_QCNT 1).reg a = o.reg a :=
      fun a ha q p => Dev.reg_put_ne { o with seq := q, pp := p } R.PP_STATUS_QCNT 1 a ha
    refine ⟨hall _ _ _, fun h => absurd h Bool.true_eq_false.mp, fun _ => ⟨_, rfl, rfl, rfl, rfl⟩, (hreg _ (by decide) _ _).trans hor,
      (hreg _ (by decide) _ _).trans hoh, (hkeep R.SYS_STATUS_STATE (by decide) _ _).trans host, ?_, ?_, ?_, ?_, ?_, ?_, fun a ha => ?_⟩
    · exact (congrArg (fun n => n != 0) (hkeep R.SYS_STATUS_SEATED (by decide) _ _)).trans hseated
    · exact (congrArg (fun n => n != 0) (hkeep R.SYS_STRAPS_SEATPIN (by decide) _ _)).trans hpinLow
    · exact (congrArg (fun n => n != 0) (hkeep R.SYS_STRAPS_BOOT (by decide) _ _)).trans hboot
    · exact (congrArg (fun n => n != 0) (hkeep R.SYS_STRAPS_CHAIN (by decide) _ _)).trans hchain
    · exact (congrArg (fun n => n != 0) (hkeep R.HP_STATUS_CHAIN (by decide) _ _)).trans hhp
    · exact (congrArg (fun n => n != 0) (hkeep R.SYS_STATUS_VDDIOOK (by decide) _ _)).trans (hovddio.trans hvddio)
    · refine (hreg a (fun h => ha ?_) _ _).trans (hrest a ha)
      rw [h]
      decide

/-- What a restart leaves is the same for the device before and after the begin of its frame. -/
theorem Dev.restartTo_of_keeps {d e t : Dev} (hk : Dev.Keeps { hp := true, regs := [R.HP_STATUS] } d e) {n : Nat} {g0 g1 : Bool}
    (h : e.restartTo t (e.oneMoreReset n) g0 g1) : d.restartTo t (d.oneMoreReset n) g0 g1 := by
  have h1 := hk.freeCount rfl
  have h2 : e.reg R.SYS_HALT_INFO = d.reg R.SYS_HALT_INFO := hk.reg _ (by decide)
  have h3 : e.is R.SYS_STATUS_VDDIOOK = d.is R.SYS_STATUS_VDDIOOK := hk.is
  have h4 : e.oneMoreReset n = d.oneMoreReset n := by
    unfold Dev.oneMoreReset
    rw [hk.reg _ (by decide)]
  unfold Dev.restartTo at h ⊢
  rw [h1, h2, h3, h4] at h
  exact h

theorem Dev.portServes_iff {d : Dev} : d.portServes = true ↔
    (d.portUp = true ∧ d.domOn 7 = true ∧ d.hp.off = false ∧ d.is R.SYS_STRAPS_CHAIN = false) := by
  unfold Dev.portServes
  simp only [Bool.and_eq_true, Bool.not_eq_true', and_assoc]

theorem Dev.portUp_iff {d : Dev} : d.portUp = true ↔
    (d.sys.inReset = false ∧ d.is R.SYS_STATUS_SEATED = true ∧ d.is R.SYS_STATUS_VDDIOOK = true ∧ d.sys.hostQual = true) := by
  unfold Dev.portUp
  simp only [Bool.and_eq_true, Bool.not_eq_true', and_assoc]

/-! ### Wakes (R404, R595) -/

/-- What a host frame or a chain segment writes before it acts. -/
abbrev Dev.portScope : Dev.Scope := { hp := true, regs := [R.HP_STATUS] }

/-- The device that a host wake wakes, its cause recorded. -/
def Dev.hostWoken (d : Dev) : Dev := { d.put R.PWR_WSRC_HOSTWAKE 1 with pwr := { d.pwr with wakeAt := some d.clock } }

/-- The host wake ends Fallow (R595). -/
theorem Dev.hostWake_wakes {d e : Dev} (hk : Dev.Keeps Dev.portScope d e) (hm : d.pwr.mode = 2) (hp : d.st ≠ stParked) :
    d.wakes e.hostWake := by
  have hem : e.pwr.mode = 2 := by rw [hk.pwr rfl]; exact hm
  have hset : e.resetSet = d.resetSet := by
    unfold Dev.resetSet
    rw [hk.is]
  have hf : e.hostWake = e.hostWoken.fallowExit := by
    unfold Dev.hostWake
    rw [if_pos hem, if_neg (by rw [hk.st]; exact hp)]
    rfl
  obtain ⟨hst, hmode, hhfo, hwake, -, hdom⟩ := Dev.fallowExit_spec (d := e.hostWoken) hem
  have hdomf : ∀ k, e.hostWoken.dom k = d.dom k := fun k => (Dev.dom_put_ne e R.PWR_WSRC_HOSTWAKE 1 k).trans (hk.dom k)
  have hsetf : e.hostWoken.resetSet = d.resetSet := by
    rw [← hset]
    unfold Dev.resetSet
    exact congrArg (fun b => 0xCFF + (if b then 0x200 else 0)) (Dev.is_put_ne e R.PWR_WSRC_HOSTWAKE R.SYS_STRAPS_BOOT 1 (.inl (by decide)))
  have hwsrc : e.hostWoken.fallowExit.is R.PWR_WSRC_HOSTWAKE = true := by
    have hs : Dev.Keeps Dev.switchOnMaskScope e.hostWoken.fallowLeft (e.hostWoken.fallowLeft.switchOnMask e.hostWoken.resetSet) := Dev.Keeps.switchOnMask .refl
    rw [Dev.fallowExit_eq (d := e.hostWoken) hem, hs.is]
    exact (Dev.is_put_ne _ R.SYS_STATUS_STATE R.PWR_WSRC_HOSTWAKE _ (.inl (by decide))).trans
      (Dev.is_putB_self e R.PWR_WSRC_HOSTWAKE true (by decide) (by decide))
  rw [hf]
  refine ⟨hwsrc, hst, hmode, hhfo, hwake.trans (congrArg some (hk.clock rfl)), fun k hk12 hb h0 => ?_⟩
  rw [hdom k hk12, hsetf, if_pos hb, hdomf, h0]
  rfl

/-- The host wake of a device in Heath that is in no cluster is recorded (R596). -/
theorem Dev.hostWake_heath {d : Dev} (hs : d.st = stHeath) (hm : d.pwr.mode ≠ 2) (he : d.enumerated = false) :
    d.hostWake.is R.PWR_WSRC_HOSTWAKE = true := by
  have hset : (d.put R.PWR_WSRC_HOSTWAKE 1).is R.PWR_WSRC_HOSTWAKE = true :=
    Dev.is_putB_self d R.PWR_WSRC_HOSTWAKE true (by decide) (by decide)
  unfold Dev.hostWake Dev.wakeCause Dev.clMember
  rw [if_neg hm, he, if_neg (by rintro ⟨-, h⟩; cases h), if_pos hs, if_neg (by rintro h; cases h)]
  dsimp only
  split
  · exact hset
  · exact ((Dev.heathLeave_awake _).1 R.PWR_WSRC_HOSTWAKE rfl (by decide)).trans hset

theorem Dev.hostWake_off {d : Dev} (hs : d.st ≠ stHeath) (hm : d.pwr.mode ≠ 2) (hq : d.pwr.stateReq = none) : d.hostWake = d := by
  unfold Dev.hostWake
  rw [if_neg hm, if_neg fun h => hs h.1]
  exact Dev.wakeCause_off hs hq _

/-! ### Requests for Fallow that wait or are refused -/

/-- What the end of RUNNING may write before STATE changes. -/
theorem Dev.runEnd_keeps (e : Dev) : Dev.Keeps { Dev.runEndScope with pwr := false, hop := true, cl := true } e
    e.runCleared.calDiscard.leaveRunning :=
  (Dev.Keeps.step .refl (by decide) (Dev.Keeps.runCleared e)).calDiscard.leaveRunning

/-- A request for Fallow in RUNNING ends RUNNING first, as a clear of RUN does (R592). -/
theorem Dev.fallowRequest_cleared {d : Dev} (hs : d.st = stRunning) (he : d.enumerated = false) (hq : d.pwr.stateReq = none)
    (hc : d.calm) (cmd : Option Async) : ∃ e, Dev.Keeps { pwr := true, regs := [R.PWR_RES] } d e ∧
      e.pwr.stateReq = some ⟨2, cmd, true, false⟩ ∧
      Dev.Keeps { flt := true } (e.runCleared.calDiscard.leaveRunning.setSt stStopping) (d.fallowRequest cmd) := by
  have hk : Dev.Keeps { pwr := true, regs := [R.PWR_RES] } d (d.fallowAsked cmd) := Dev.Keeps.pwrBusy (.upd .refl (pwr := nofun))
  have hf : d.fallowRequest cmd = (d.fallowAsked cmd).calEnds Dev.clearRun := by
    unfold Dev.fallowRequest
    rw [if_neg (by rw [hs]; decide), if_neg (by rw [he]; exact Bool.false_ne_true), if_neg (by rw [hq]; exact Bool.false_ne_true)]
    show (if (d.fallowAsked cmd).st = stRunning then _ else _) = _
    rw [if_pos (by rw [hk.st]; exact hs)]
    rfl
  refine ⟨d.fallowAsked cmd, hk, rfl, ?_⟩
  have hreq : (d.fallowAsked cmd).pwr.stateReq = some ⟨2, cmd, true, false⟩ := rfl
  rw [hf]
  generalize d.fallowAsked cmd = e at hk hreq
  have hst : e.st = stRunning := by rw [hk.st]; exact hs
  have hflt := Dev.Keeps.calEnds_clearRun (Dev.calm_of_keeps hk (h := hc))
  have hcancel : e.runCleared.calDiscard.leaveRunning.heathCancel = e.runCleared.calDiscard.leaveRunning := by
    unfold Dev.heathCancel
    rw [(e.runEnd_keeps).pwr rfl, hreq]
    rfl
  rwa [Dev.clearRun_running hst, hcancel] at hflt

theorem Dev.fallowRequest_running {d : Dev} (hs : d.st = stRunning) (he : d.enumerated = false) (hq : d.pwr.stateReq = none)
    (hc : d.calm) (cmd : Option Async) : (d.fallowRequest cmd).st = stStopping ∧ (d.fallowRequest cmd).is R.SYS_CTRL_RUN = false ∧
      (d.fallowRequest cmd).pwr.stateReq = some ⟨2, cmd, true, false⟩ := by
  obtain ⟨e, hk, hreq, hflt⟩ := Dev.fallowRequest_cleared hs he hq hc cmd
  have hrun : e.runCleared.calDiscard.leaveRunning.is R.SYS_CTRL_RUN = false := by
    have h2 : Dev.Keeps Dev.runWorkScope e.runCleared e.runCleared.calDiscard.leaveRunning := (Dev.Keeps.refl).calDiscard.leaveRunning
    exact h2.is.trans ((Dev.is_put_ne _ R.HOP_STATUS_PENDING R.SYS_CTRL_RUN _ (by decide)).trans
      (Dev.is_putB_self _ R.SYS_CTRL_RUN false (by decide) (by decide)))
  rw [hflt.st, hflt.is, hflt.pwr rfl]
  exact ⟨Dev.get_put_self _ R.SYS_STATUS_STATE _ (by decide),
    (Dev.is_put_ne _ R.SYS_STATUS_STATE R.SYS_CTRL_RUN _ (.inl (by decide))).trans hrun, (congrArg Pwr.stateReq ((e.runEnd_keeps).pwr rfl)).trans hreq⟩

/-- A request for Fallow in a state that does not allow it is refused with cause 1 (R592). -/
theorem Dev.fallowRequest_refused {d : Dev} (hr : d.st ≠ stRunning) (hy : d.st ≠ stReady) (hb : d.st ≠ stBootWait) (cmd : Option Async) :
    (d.fallowRequest cmd).st = d.st ∧ (d.fallowRequest cmd).pwr.mode = d.pwr.mode ∧ (d.fallowRequest cmd).get R.PWR_RES_CODE = 1 ∧
      (d.fallowRequest cmd).get R.PWR_RES_KIND = 2 := by
  have hk : Dev.Keeps Dev.pwrAnswerScope d (d.pwrAnswer 2 cmd 0x01 0) := Dev.Keeps.pwrAnswer .refl
  obtain ⟨hp, hc, hkind⟩ := d.pwrAnswer_spec 2 cmd 0x01 0
  unfold Dev.fallowRequest
  rw [if_pos ⟨hb, hy, hr⟩]
  exact ⟨hk.st, by rw [hp], hc, hkind⟩

/-! ### Writes of registers of the host port and the rings -/

theorem Dev.ioWrite_hpXr {d : Dev} (h0 : d.sys.inReset = false) {a : Nat} (h1 : 0x3000 ≤ a) (h2 : a < 0x3800)
    (hs : (regSpec? a).isNone = false) (hh : haltedOff.contains a = true → d.st ≠ stHalted) (ho : heldOff a = false) (host : Bool) (v : Nat) :
    d.ioWrite host a v = d.ioHpXr a v := by
  have hr : d.regReachable a = true := by
    unfold Dev.regReachable regDomain
    simp only [show ¬a < 0x400 by omega, show ¬a < 0x1400 by omega, show ¬a < 0x1800 by omega, show ¬a < 0x1C00 by omega,
      show ¬a < 0x2000 by omega, show ¬a < 0x2400 by omega, show a < 0x3800 by omega, if_false, if_true]
  rw [Dev.ioWrite_live h0 hr hs hh (fun h => absurd (ho.symm.trans h) Bool.false_ne_true)]
  simp only [show ¬a < 0x400 by omega, show ¬a < 0xA00 by omega, show ¬a < 0x1400 by omega, show ¬a < 0x2000 by omega,
    show ¬a < 0x2400 by omega, show ¬a < 0x3000 by omega, show a < 0x3800 by omega, if_false, if_true]

/-! ### The frames -/

theorem Dev.wake_serves {d : Dev} (hp : d.portUp = true) (hc : d.is R.SYS_STRAPS_CHAIN = false) (m : Bool) :
    ∃ e, d.wake m true = e.hostWake ∧ Dev.Keeps Dev.portScope d e := by
  unfold Dev.wake
  rw [if_neg (by rw [hp, hc]; exact Bool.false_ne_true)]
  split
  · exact ⟨_, rfl, Dev.Keeps.frameBegin .refl⟩
  · exact ⟨_, rfl, Dev.Keeps.putB (f := R.HP_STATUS_CLKMODE) .refl⟩

theorem Dev.wake_frame {d : Dev} (hp : d.portServes = true) (m clean : Bool) :
    d.wake m clean = if clean then (d.frameBegin m).hostWake else (d.frameBegin m).ragged 2 := by
  obtain ⟨hup, h7, hoff, hc⟩ := Dev.portServes_iff.1 hp
  unfold Dev.wake
  rw [if_neg (by rw [hup, hc]; exact Bool.false_ne_true), if_pos (by rw [h7, hoff]; rfl)]

theorem Dev.softReset_resets {d : Dev} (hp : d.portServes = true) (m g0 g1 : Bool) :
    d.restartTo (d.softReset m true [0x3C] g0 g1) (d.oneMoreReset 4) g0 g1 := by
  obtain ⟨hup, -, -, -⟩ := Dev.portServes_iff.1 hp
  obtain ⟨h0, hs, -, -⟩ := Dev.portUp_iff.1 hup
  unfold Dev.softReset
  split
  · exact Dev.warmReset_restart h0 hs (.inl rfl) g0 g1
  · have hk : Dev.Keeps Dev.portScope d (d.frameBegin m) := Dev.Keeps.frameBegin .refl
    rw [Dev.hostFrame_serves hp]
    exact Dev.restartTo_of_keeps hk (Dev.warmReset_restart (by rw [hk.sys rfl]; exact h0) (by rw [hk.is]; exact hs) (.inl rfl) g0 g1)

theorem Dev.softReset_badConf {d : Dev} (hp : d.portServes = true) (m : Bool) {clean : Bool} {data : List Byte}
    (h : ¬(clean = true ∧ data = [0x3C])) (g0 g1 : Bool) : d.softReset m clean data g0 g1 = (d.frameBegin m).put R.HP_ERR_BADCONF 1 := by
  unfold Dev.softReset
  rw [if_neg fun hc => h ⟨hc.2.2.2.2.2.1, hc.2.2.2.2.2.2⟩, Dev.hostFrame_serves hp]
  exact if_neg fun hc => h (by rwa [Bool.and_eq_true, beq_iff_eq] at hc)

/-- Settles O43: each frame does, of the device whose frame has begun, what its command does (`hostWake_…`, `fallowRequest_…`). -/
theorem hostModesAndOpcodes : Obligations.HostModesAndOpcodes := by
  unfold Obligations.HostModesAndOpcodes
  refine ⟨fun m => ?_, ?_, ?_, ?_, fun m g0 g1 => ?_⟩
  · have henter : ∀ c s, exec (.enterQuadCommandMode m c) s = act s (fun d => d.quadEnter m c) := fun _ _ => rfl
    have hexit : ∀ c s, exec (.exitQuadCommandMode m c) s = act s (fun d => d.quadExit m c) := fun _ _ => rfl
    have hquad : ∀ d : Dev, (d.frameBegin m).is R.HP_STATUS_QUAD = d.is R.HP_STATUS_QUAD := fun d =>
      Dev.is_put_ne d R.HP_STATUS_CLKMODE R.HP_STATUS_QUAD _ (.inr (by decide))
    have hbegun : ∀ d : Dev, d.butRegs { d.frameBegin m with hp := d.hp } [R.HP_STATUS] := fun d => d.butRegs_frameBegin m (by decide)
    refine ⟨leaves_of_act (henter true) fun d _ hp => ?_, leaves_of_act (hexit true) fun d _ hp => ?_, fun clean =>
      ⟨does_of_act (henter clean) fun d _ ⟨hp, hq⟩ => ?_, does_of_act (hexit clean) fun d _ ⟨hp, hq⟩ => ?_⟩,
      does_of_act (henter false) fun d _ ⟨hp, hq⟩ => ?_, does_of_act (hexit false) fun d _ ⟨hp, hq⟩ => ?_,
      does_of_act (f := fun d => d.enterFallow m false) (fun _ => rfl) fun d _ hp => ?_,
      does_of_act (f := fun d => d.wake m false) (fun _ => rfl) fun d _ hp => Dev.wake_frame hp m false, fun op =>
      leaves_of_act (f := fun d => d.unknownOp m) (fun _ => rfl) fun d _ hp => ?_⟩
    · unfold Dev.quadEnter
      rw [Dev.hostFrame_serves hp]
      split
      next hq => exact ⟨hq, hbegun d⟩
      next hq => exact ⟨Dev.is_putB_self _ R.HP_STATUS_QUAD true (by decide) (by decide),
        Dev.butRegs_put (f := R.HP_STATUS_QUAD) (hbegun d) (by decide) 1⟩
    · unfold Dev.quadExit
      rw [Dev.hostFrame_serves hp]
      split
      next hq => exact ⟨by simpa using hq, hbegun d⟩
      next hq => exact ⟨Dev.is_putB_self _ R.HP_STATUS_QUAD false (by decide) (by decide),
        Dev.butRegs_put (f := R.HP_STATUS_QUAD) (hbegun d) (by decide) 0⟩
    · unfold Dev.quadEnter
      rw [Dev.hostFrame_serves hp]
      exact if_pos ((hquad d).trans hq)
    · unfold Dev.quadExit
      rw [Dev.hostFrame_serves hp]
      exact if_pos (by rw [hquad, hq]; rfl)
    · unfold Dev.quadEnter
      rw [Dev.hostFrame_serves hp]
      rw [hquad, hq]
      rfl
    · unfold Dev.quadExit
      rw [Dev.hostFrame_serves hp]
      rw [hquad, hq]
      rfl
    · unfold Dev.enterFallow
      rw [Dev.hostFrame_serves hp]
      rfl
    · unfold Dev.unknownOp
      rw [Dev.hostFrame_serves hp]
      exact ⟨Dev.is_putB_self _ R.HP_ERR_BADOP true (by decide) (by decide),
        Dev.butRegs_put (f := R.HP_ERR_BADOP) (d.butRegs_frameBegin m (by decide)) (by decide) 1⟩
  · refine leaves_of_act (f := fun d => d.ioWrite true R.HP_ATTSET 1) (fun _ => rfl) fun d h0 _ => ?_
    rw [Dev.ioWrite_hpXr h0 (by decide) (by decide) (by decide) (fun h => absurd h (by decide)) (by decide)]
    exact ⟨Dev.is_putB_self d R.HP_ATTN_PROG true (by decide) (by decide), Dev.butRegs_put (f := R.HP_ATTN_PROG) (d.butRegs_refl _) (by decide) 1⟩
  · refine leaves_of_act (f := fun d => d.ioWrite true R.HP_CMD 1) (fun _ => rfl) fun d h0 _ => ?_
    rw [Dev.ioWrite_hpXr h0 (by decide) (by decide) (by decide) (fun h => absurd h (by decide)) (by decide)]
    exact ⟨Dev.reg_setReg_self .., Dev.butRegs_setReg (d.butRegs_refl _) (by decide) 0⟩
  · refine leaves_of_act (f := fun d => d.ioWrite true R.HP_CMD 2) (fun _ => rfl) fun d h0 _ => ?_
    rw [Dev.ioWrite_hpXr h0 (by decide) (by decide) (by decide) (fun h => absurd h (by decide)) (by decide)]
    exact ⟨Dev.is_putB_self d R.HP_ACK_VALID false (by decide) (by decide), Dev.butRegs_put (f := R.HP_ACK_VALID) (d.butRegs_refl _) (by decide) 0⟩
  · have hfallow : ∀ s, exec (.enterFallow m true) s = act s (fun d => d.enterFallow m true) := fun _ => rfl
    have hwake : ∀ s, exec (.wake m true) s = act s (fun d => d.wake m true) := fun _ => rfl
    have hbegun : ∀ d : Dev, Dev.Keeps Dev.portScope d (d.frameBegin m) := fun d => Dev.Keeps.frameBegin .refl
    refine ⟨leaves_of_act (f := fun d => d.softReset m true [0x3C] g0 g1) (fun _ => rfl) fun d _ hp => Dev.softReset_resets hp m g0 g1,
      fun clean data h => leaves_of_act (f := fun d => d.softReset m clean data g0 g1) (fun _ => rfl) fun d _ hp => ?_,
      leaves_of_act hfallow fun d _ ⟨hp, hmay⟩ => ?_, leaves_of_act hfallow fun d _ ⟨hp, hs, he, hq, hc⟩ => ?_,
      leaves_of_act hfallow fun d _ ⟨hp, hr, hy, hb⟩ => ?_, leaves_of_act hwake fun d _ ⟨hp, hc, hm, hst⟩ => ?_,
      leaves_of_act hwake fun d _ ⟨hp, hs, hm, he⟩ => ?_, does_of_act hwake fun d _ ⟨hp, hs, hm, hq⟩ => ?_⟩
    · rw [Dev.softReset_badConf hp m h]
      exact ⟨Dev.is_putB_self _ R.HP_ERR_BADCONF true (by decide) (by decide),
        Dev.butRegs_put (f := R.HP_ERR_BADCONF) (d.butRegs_frameBegin m (by decide)) (by decide) 1⟩
    · unfold Dev.enterFallow
      rw [Dev.hostFrame_serves hp]
      exact Dev.fallowRequest_enters hmay (Dev.Keeps.step .refl (by decide) (hbegun d)) none
    · unfold Dev.enterFallow
      rw [Dev.hostFrame_serves hp]
      exact Dev.fallowRequest_running (d := d.frameBegin m) (by rw [(hbegun d).st]; exact hs) (by rw [(hbegun d).enumerated]; exact he) hq
        (Dev.calm_of_keeps (hbegun d) (h := Dev.calm_of_calQuiet hc)) none
    · unfold Dev.enterFallow
      rw [Dev.hostFrame_serves hp]
      have hst := (hbegun d).st
      obtain ⟨h1, h2, h3, h4⟩ := Dev.fallowRequest_refused (d := d.frameBegin m) (by rw [hst]; exact hr) (by rw [hst]; exact hy)
        (by rw [hst]; exact hb) none
      exact ⟨h1.trans hst, h2, h3, h4⟩
    · obtain ⟨e, he, hk⟩ := Dev.wake_serves hp hc m
      rw [he]
      exact Dev.hostWake_wakes hk hm hst
    · rw [Dev.wake_frame hp m true]
      exact Dev.hostWake_heath (by rw [(hbegun d).st]; exact hs) hm (by rw [(hbegun d).enumerated]; exact he)
    · rw [Dev.wake_frame hp m true]
      exact Dev.hostWake_off (by rw [(hbegun d).st]; exact hs) hm hq

end Sys2Proof.Machine
end

section
/-!
Proofs for chain mode (chapter 13): the statement O44.
-/

namespace Sys2Proof.Machine
set_option Elab.async false

/-! ### The chain register (R409, R410) -/

theorem chainWord_toNat (c addr x : Nat) : (chainWord c addr x).toNat = c % 256 * 2 ^ 56 + addr % 2 ^ 24 * 2 ^ 32 + x % 2 ^ 32 := by
  unfold chainWord
  rw [BitVec.toNat_ofNat]
  omega

theorem toNat_segment (c : BitVec 8) (addr : BitVec 24) (x : BitVec 32) :
    (c ++ addr ++ x).toNat = c.toNat * 2 ^ 56 + addr.toNat * 2 ^ 32 + x.toNat := by
  have hc := c.isLt
  have ha := addr.isLt
  have hx := x.isLt
  rw [BitVec.toNat_append, BitVec.toNat_append, ← Nat.shiftLeft_add_eq_or_of_lt ha, ← Nat.shiftLeft_add_eq_or_of_lt hx]
  simp only [Nat.shiftLeft_eq]
  omega

/-- The response is the segment of its result code, its address and its data. -/
theorem chainWord_eq (c : Nat) (addr : BitVec 24) (x : Nat) : chainWord c addr.toNat x = BitVec.ofNat 8 c ++ addr ++ BitVec.ofNat 32 x := by
  apply BitVec.eq_of_toNat_eq
  have ha := addr.isLt
  rw [chainWord_toNat, toNat_segment, BitVec.toNat_ofNat, BitVec.toNat_ofNat]
  omega

/-- The parts of the chain register that hold a response. -/
theorem chainWord_parts {c a x : Nat} (hc : c < 256) (ha : a < 2 ^ 24) (hx : x < 2 ^ 32) :
    (chainWord c a x >>> 56).toNat = c ∧ (chainWord c a x >>> 32).toNat % 2 ^ 24 = a ∧ (chainWord c a x).toNat % 2 ^ 32 = x := by
  rw [BitVec.toNat_ushiftRight, BitVec.toNat_ushiftRight, chainWord_toNat]
  simp only [Nat.shiftRight_eq_div_pow]
  omega

/-- Bit by bit, what the register holds after it has taken bits in. -/
theorem getLsbD_chainIn (bits : List Bool) (r : BitVec 64) {i : Nat} (hi : i < 64) :
    (chainIn r bits).getLsbD i = if h : i < bits.length then bits[bits.length - 1 - i] else r.getLsbD (i - bits.length) := by
  induction bits using List.reverseRecOn generalizing i with
  | nil => rfl
  | append_singleton l b ih =>
    have hstep : chainIn r (l ++ [b]) = chainIn r l <<< 1 ||| (if b then 1 else 0) := List.foldl_append ..
    have hbit : (if b = true then (1 : BitVec 64) else 0).getLsbD i = (b && decide (i = 0)) := by
      cases b with
      | false => simp
      | true =>
        rw [if_pos rfl, Bool.true_and]
        simp [BitVec.getLsbD_one]
    rw [hstep, BitVec.getLsbD_or, BitVec.getLsbD_shiftLeft, hbit]
    cases i with
    | zero => simp
    | succ i =>
      have hlt : i < 64 := by omega
      simp only [hi, decide_true, Bool.true_and, Nat.add_sub_cancel, ih hlt, List.length_append, List.length_singleton]
      by_cases hl : i < l.length
      · rw [dif_pos hl, dif_pos (by omega)]
        simp only [show ¬i + 1 < 1 by omega, show i + 1 ≠ 0 by omega, decide_false, Bool.not_false, Bool.true_and, Bool.and_false, Bool.or_false]
        rw [List.getElem_append_left (by omega)]
        congr 1
        omega
      · rw [dif_neg hl, dif_neg (by omega)]
        simp only [show ¬i + 1 < 1 by omega, show i + 1 ≠ 0 by omega, decide_false, Bool.not_false, Bool.true_and, Bool.and_false, Bool.or_false]
        congr 1
        omega

/-- A register's bits, the most significant first, put it into the register. -/
theorem chainIn_regBits (r w : BitVec 64) : chainIn r (regBits w) = w := by
  apply BitVec.eq_of_getLsbD_eq
  intro i hi
  have hlen : (regBits w).length = 64 := by simp [regBits]
  rw [getLsbD_chainIn _ _ hi, dif_pos (by omega)]
  unfold regBits
  rw [List.getElem_map, List.getElem_range]
  simp only [List.length_map, List.length_range]
  congr 1
  omega

/-! ### Segments -/

/-- The device that has begun to take a segment in: the clock mode is sampled, and `out` goes out on HIO1. -/
def Dev.segmentBegin (d : Dev) (m : Bool) (out : List Bool) : Dev :=
  { d.putB R.HP_STATUS_CLKMODE m with hp := { d.hp with shifted := out } }

/-- The device whose register holds a response. -/
def Dev.answers (d : Dev) (addr : BitVec 24) (c x : Nat) : Dev :=
  { d with hp := { d.hp with chain := BitVec.ofNat 8 c ++ addr ++ BitVec.ofNat 32 x } }

/-- The response of a segment that is not executed: its data is free (log entry 3). -/
def Dev.answersFree (d : Dev) (addr : BitVec 24) (c : Nat) : Dev :=
  { d with freeCount := d.freeCount + 1 }.answers addr c (Config.freeNat d.freeCount % 2 ^ 32)

/-- What the register holds of the end of a segment. -/
def answered (addr : BitVec 24) (r : Dev × Option (Nat × Nat)) : Dev :=
  match r with
  | (d, some (c, x)) => d.answers addr c x
  | (d, none) => d

theorem Dev.chainFrame_served {d : Dev} (h : d.portUp = true ∧ d.is R.SYS_STRAPS_CHAIN = true) (m : Bool) (addr : BitVec 24) (out : List Bool)
    (body : Dev → Dev × Option (Nat × Nat)) :
    d.chainFrame m addr.toNat out body = answered addr (body (d.segmentBegin m out)) := by
  unfold Dev.chainFrame
  rw [if_neg (by rw [h.1, h.2]; exact Bool.false_ne_true)]
  show (match body (d.segmentBegin m out) with
    | (d, some (c, x)) => { d with hp := { d.hp with chain := chainWord c addr.toNat x } }
    | (d, none) => d) = _
  generalize body (d.segmentBegin m out) = r
  obtain ⟨e, o⟩ := r
  cases o with
  | none => rfl
  | some p => exact congrArg (fun w => ({ e with hp := { e.hp with chain := w } } : Dev)) (chainWord_eq p.1 addr p.2)

theorem answered_noData (d : Dev) (addr : BitVec 24) (c : Nat) : answered addr (d.chainNoData c) = d.answersFree addr c := rfl

theorem Dev.Keeps.segmentBegin (d : Dev) (m : Bool) (out : List Bool) : Dev.Keeps Dev.portScope d (d.segmentBegin m out) :=
  Dev.Keeps.upd (Dev.Keeps.putB (f := R.HP_STATUS_CLKMODE) (b := m) .refl) (hp := nofun)

theorem Dev.chainAwake_off {d : Dev} (h : d.domOn 7 = false) (al : Bool) (body : Dev → Dev × Option (Nat × Nat)) :
    d.chainAwake al body = d.chainNoData 4 := if_pos (by rw [h]; rfl)

theorem Dev.chainAwake_odd {d : Dev} (h : d.domOn 7 = true) (body : Dev → Dev × Option (Nat × Nat)) :
    d.chainAwake false body = d.chainNoData 3 := by
  unfold Dev.chainAwake
  rw [h]
  rfl

theorem Dev.chainAwake_on {d : Dev} (h : d.domOn 7 = true) (body : Dev → Dev × Option (Nat × Nat)) : d.chainAwake true body = body d := by
  unfold Dev.chainAwake
  rw [h]
  rfl

/-- The command, the address and the data of a segment. -/
theorem segment_parts (op : BitVec 8) (addr : BitVec 24) (data : BitVec 32) :
    (op ++ addr ++ data).toNat / 2 ^ 56 = op.toNat ∧ (op ++ addr ++ data).toNat / 2 ^ 32 % 2 ^ 24 = addr.toNat ∧
      (op ++ addr ++ data).toNat % 2 ^ 32 = data.toNat := by
  have hop := op.isLt
  have ha := addr.isLt
  have hx := data.isLt
  rw [toNat_segment]
  omega

/-- A release after a non-zero multiple of 64 edges executes the segment in the register (R410). -/
theorem Dev.chainSegment_whole {d : Dev} {bits : List Bool} {op : BitVec 8} {addr : BitVec 24} {data : BitVec 32}
    (hseg : chainIn d.hp.chain bits = op ++ addr ++ data) {n : Nat} (h0 : n ≠ 0) (h64 : n % 64 = 0) (m g0 g1 : Bool) :
    d.chainSegment m n bits g0 g1 =
      d.chainFrame m addr.toNat (chainOut d.hp.chain bits) (fun d => d.chainExec op.toNat addr.toNat data.toNat g0 g1) := by
  obtain ⟨h1, h2, h3⟩ := segment_parts op addr data
  unfold Dev.chainSegment
  rw [hseg]
  dsimp only
  rw [h1, h2, h3]
  simp only [ne_eq, h0, not_false_eq_true, h64, and_self, if_true]

/-- Any other count of edges discards the segment. -/
theorem Dev.chainSegment_ragged {d : Dev} {bits : List Bool} {addr : BitVec 24}
    (ha : (chainIn d.hp.chain bits).extractLsb' 32 24 = addr) {n : Nat} (h : n % 64 ≠ 0 ∨ n = 0) (m g0 g1 : Bool) :
    d.chainSegment m n bits g0 g1 =
      d.chainFrame m addr.toNat (chainOut d.hp.chain bits) (fun d => (d.ragged 3).chainNoData 5) := by
  have haddr : (chainIn d.hp.chain bits).toNat / 2 ^ 32 % 2 ^ 24 = addr.toNat := by
    rw [← ha, BitVec.extractLsb'_toNat, Nat.shiftRight_eq_div_pow]
  unfold Dev.chainSegment
  dsimp only
  rw [haddr]
  have hn : ¬(n ≠ 0 ∧ n % 64 = 0) := by omega
  simp only [hn, if_false]

/-- The 64 edges of one segment give out what the register held. -/
theorem chainOut_one (r w : BitVec 64) : chainOut r (regBits w) = regBits r := by
  have hlen : ∀ w, (regBits w).length = 64 := fun w => by simp [regBits]
  unfold chainOut
  rw [hlen, List.take_append_of_le_length (hlen r).ge, List.take_of_length_le (hlen r).le]

/-- An opcode of none of the eight commands. -/
theorem Dev.chainExec_other (d : Dev) {op : BitVec 8} (h : op ∉ [0x00#8, 0x02#8, 0x03#8, 0x05#8, 0x9F#8, 0x99#8, 0xAB#8, 0xB9#8])
    (addr data : Nat) (g0 g1 : Bool) : d.chainExec op.toNat addr data g0 g1 = d.chainAwake true (fun d => d.chainNoData 2) := by
  have hne : ∀ k : BitVec 8, k ∈ [0x00#8, 0x02#8, 0x03#8, 0x05#8, 0x9F#8, 0x99#8, 0xAB#8, 0xB9#8] → op.toNat ≠ k.toNat :=
    fun k hk he => h (BitVec.eq_of_toNat_eq he ▸ hk)
  unfold Dev.chainExec
  split
  next h => exact absurd h (hne 0x00#8 (by decide))
  next h => exact absurd h (hne 0x02#8 (by decide))
  next h => exact absurd h (hne 0x03#8 (by decide))
  next h => exact absurd h (hne 0x05#8 (by decide))
  next h => exact absurd h (hne 0x9F#8 (by decide))
  next h => exact absurd h (hne 0x99#8 (by decide))
  next h => exact absurd h (hne 0xAB#8 (by decide))
  next h => exact absurd h (hne 0xB9#8 (by decide))
  next => rfl

/-! ### Reads and writes of memory -/

theorem Dev.chainWrite_taken {d : Dev} (h : d.domOn 7 = true) {a : Nat} (h4 : a % 4 = 0)
    (hd : inDmem a = false ∨ d.sq = sqEmpty ∨ d.sq = sqHalted) (x : Nat) :
    d.chainWrite a x = (d.commitBytes 4 a (leBytes 4 x), some (1, x)) := by
  unfold Dev.chainWrite
  rw [h4]
  refine (Dev.chainAwake_on h _).trans (if_neg ?_)
  unfold Dev.seqRuns
  rcases hd with hd | hd | hd
  · rw [hd]
    exact Bool.false_ne_true
  · rw [hd]
    simp
  · rw [hd]
    simp

theorem Dev.chainWrite_running {d : Dev} (h : d.domOn 7 = true) {a : Nat} (h4 : a % 4 = 0) (hd : inDmem a = true) (he : d.sq ≠ sqEmpty)
    (hh : d.sq ≠ sqHalted) (x : Nat) : d.chainWrite a x = d.chainNoData 6 := by
  unfold Dev.chainWrite
  rw [h4]
  refine (Dev.chainAwake_on h _).trans (if_pos ?_)
  unfold Dev.seqRuns
  simp [hd, he, hh]

theorem Dev.chainRead_aligned {d : Dev} (h : d.domOn 7 = true) {a : Nat} (h4 : a % 4 = 0) :
    d.chainRead a = ((d.hostBytes 4 a 4).2, some (1, leNat (d.hostBytes 4 a 4).1)) := by
  unfold Dev.chainRead
  rw [h4]
  exact Dev.chainAwake_on h _

/-- A word of the first bank of exchange RAM, as the host reads it. -/
theorem Dev.hostBytes_word {d : Dev} {a : Nat} (ha : a + 4 ≤ 0x8000) (h1 : d.domOn 1 = true) (he : d.eccFree a 4) :
    leNat (d.hostBytes 4 a 4).1 = d.xle a 4 ∧ (d.hostBytes 4 a 4).2 = d := by
  rw [Dev.hostBytes_bank ha h1 he]
  refine ⟨congrArg leNat ?_, rfl⟩
  show (List.range 4).map (fun j => d.dataByte (0x10000 + a + j)) = readBytes xramDflt d.mem.xram a 4
  rw [readBytes_eq_map]
  refine List.map_congr_left fun j _ => ?_
  unfold Dev.dataByte
  rw [if_neg (by omega), show 0x10000 + a + j - 0x10000 = a + j by omega]

theorem leNat_lt (bs : List Byte) : leNat bs < 256 ^ bs.length := by
  induction bs with
  | nil => exact Nat.one_pos
  | cons b l ih =>
    have hb := b.isLt
    simp only [leNat, List.length_cons, pow_succ]
    omega

theorem Dev.xle_lt (d : Dev) (a n : Nat) : d.xle a n < 256 ^ n := by
  have h := leNat_lt (d.xbytes a n)
  rwa [show (d.xbytes a n).length = n from readBytes_length ..] at h

/-- A word written to the first bank of exchange RAM. -/
theorem Dev.commitBytes_word {d : Dev} {a : Nat} (ha : a + 4 ≤ 0x8000) (h1 : d.domOn 1 = true) (he : d.eccFree a 4) (x : Nat) (hx : x < 2 ^ 32) :
    (d.commitBytes 4 a (leBytes 4 x)).xle a 4 = x ∧ ∀ o, (o < a ∨ a + 4 ≤ o) → (d.commitBytes 4 a (leBytes 4 x)).xb o = d.xb o := by
  have hlen : (leBytes 4 x).length = 4 := rfl
  rw [Dev.commitBytes_xram (by rw [hlen]; exact ha) h1 hlen.le, if_neg (by rintro h; cases h)]
  obtain ⟨m, hm, hb⟩ := Dev.xwriteEcc_free (bs := leBytes 4 x) (by rw [hlen]; exact he) clHost
  rw [hm]
  refine ⟨?_, fun o ho => (hb o).trans (if_neg (by rw [hlen]; omega))⟩
  have hbytes : readBytes xramDflt m a 4 = leBytes 4 x := by
    rw [readBytes_eq_map]
    refine List.ext_getElem (by rw [List.length_map, List.length_range, hlen]) fun j h1 h2 => ?_
    rw [hlen] at h2
    rw [List.getElem_map, List.getElem_range, hb, if_pos (by rw [hlen]; omega), show a + j - a = j by omega,
      List.getD_eq_getElem?_getD, List.getElem?_eq_getElem (by rw [hlen]; exact h2)]
    rfl
  refine (congrArg leNat hbytes).trans ((leNat_leBytes 4 x).trans (Nat.mod_eq_of_lt (by omega)))

/-- Settles O44: `chainFrame_served` gives the frame of every segment, and each command what it does within. -/
theorem chainSegmentsExecute : Obligations.ChainSegmentsExecute := by
  unfold Obligations.ChainSegmentsExecute
  intro m addr data g0 g1 a served awake holds answers msbFirst start free
  have ha24 : a < 2 ^ 24 := addr.isLt
  have hkeep : ∀ d, Dev.Keeps Dev.portScope d (start d) := fun d => Dev.Keeps.segmentBegin d m (regBits d.hp.chain)
  have hbit : ∀ (d : Dev) body, served d → d.chainFrame m addr.toNat d.chainBits body = answered addr (body (start d)) :=
    fun d body h => Dev.chainFrame_served h m addr _ body
  have h7 : ∀ d, (start d).domOn 7 = d.domOn 7 := fun d => (hkeep d).domOn 7
  have hparts : ∀ (e : Dev) (c x : Nat), c < 256 → x < 2 ^ 32 → holds c x (e.answers addr c x).hp := by
    intro e c x hc hx
    have h := chainWord_parts hc ha24 hx
    rw [show chainWord c a x = _ from chainWord_eq c addr x] at h
    exact h
  have hnone : ∀ s, exec (.chainNone m addr) s = act s (fun d => d.chainFrame m addr.toNat d.chainBits (fun d => d.chainNone)) := fun _ => rfl
  have hid : ∀ s, exec (.chainReadId m addr) s = act s (fun d => d.chainFrame m addr.toNat d.chainBits (fun d => d.chainId)) := fun _ => rfl
  have hstatus : ∀ s, exec (.chainReadStatus m addr) s = act s (fun d => d.chainFrame m addr.toNat d.chainBits (fun d => d.chainStatus)) :=
    fun _ => rfl
  have hread : ∀ s, exec (.chainRead m addr) s = act s (fun d => d.chainFrame m addr.toNat d.chainBits (fun d => d.chainRead addr.toNat)) :=
    fun _ => rfl
  have hwrite : ∀ s, exec (.chainWrite m addr data) s =
      act s (fun d => d.chainFrame m addr.toNat d.chainBits (fun d => d.chainWrite addr.toNat data.toNat)) := fun _ => rfl
  have hreset : ∀ x s, exec (.chainSoftReset m addr x g0 g1) s =
      act s (fun d => d.chainFrame m addr.toNat d.chainBits (fun d => d.chainReset x.toNat g0 g1)) := fun _ _ => rfl
  have hwake : ∀ s, exec (.chainWake m addr) s = act s (fun d => d.chainFrame m addr.toNat d.chainBits (fun d => d.chainWake)) := fun _ => rfl
  have hfallow : ∀ s, exec (.chainEnterFallow m addr) s = act s (fun d => d.chainFrame m addr.toNat d.chainBits (fun d => d.chainFallow)) :=
    fun _ => rfl
  refine ⟨does_of_act hnone fun d _ h => hbit d _ h, does_of_act hid fun d _ ⟨h, hon⟩ => ?_, does_of_act hstatus fun d _ ⟨h, hon⟩ => ?_,
    does_of_act hread fun d _ ⟨⟨h, hon⟩, h4⟩ => ?_, leaves_of_act hread fun d _ ⟨⟨h, hon⟩, h4, hb, h1, he⟩ => ?_,
    does_of_act hwrite fun d _ ⟨⟨h, hon⟩, h4, hd⟩ => ?_, leaves_of_act hwrite fun d _ ⟨⟨h, hon⟩, h4, hb, h1, he⟩ => ?_,
    does_of_act hwrite fun d _ ⟨⟨h, hon⟩, h4, hd, hse, hsh⟩ => ?_, fun c hc => ?_, fun c hc => ?_,
    leaves_of_act (hreset 0x3C) fun d h0 ⟨h, hon⟩ => ?_, fun hx => does_of_act (hreset data) fun d _ ⟨h, hon⟩ => ?_,
    leaves_of_act hwake fun d _ ⟨h, hm, hp⟩ => ?_, does_of_act hwake fun d _ ⟨h, hs, hm, hq⟩ => ?_,
    leaves_of_act hfallow fun d _ ⟨⟨h, hon⟩, hmay⟩ => ?_, fun bits => ?_⟩
  · rw [hbit d _ h, Dev.chainId, Dev.chainAwake_on ((h7 d).trans hon)]
    rfl
  · rw [hbit d _ h, Dev.chainStatus, Dev.chainAwake_on ((h7 d).trans hon)]
    rfl
  · rw [hbit d _ h, Dev.chainRead_aligned ((h7 d).trans hon) h4]
    rfl
  · obtain ⟨hval, hsame⟩ := Dev.hostBytes_word (d := start d) (a := a) (by omega) (((hkeep d).domOn 1).trans h1) he
    rw [hbit d _ h, Dev.chainRead_aligned ((h7 d).trans hon) h4, hval, hsame]
    exact ⟨hparts _ 1 _ (by decide) (Nat.lt_of_lt_of_eq (d.xle_lt a 4) (by decide)), rfl⟩
  · rw [hbit d _ h, Dev.chainWrite_taken ((h7 d).trans hon) h4 (hd.imp_right (Or.imp (fun h => ((hkeep d).get).trans h) fun h => ((hkeep d).get).trans h))]
    rfl
  · have hdm : inDmem a = false := by
      unfold inDmem dmemBase
      simp only [Bool.and_eq_false_iff, decide_eq_false_iff_not]
      omega
    rw [hbit d _ h, Dev.chainWrite_taken ((h7 d).trans hon) h4 (.inl hdm)]
    obtain ⟨hval, hrest⟩ := Dev.commitBytes_word (d := start d) (a := a) (by omega) (((hkeep d).domOn 1).trans h1) he data.toNat data.isLt
    exact ⟨hparts _ 1 _ (by decide) data.isLt, hval, hrest⟩
  · rw [hbit d _ h, Dev.chainWrite_running ((h7 d).trans hon) h4 hd (fun h => hse (((hkeep d).get).symm.trans h))
      (fun h => hsh (((hkeep d).get).symm.trans h))]
    rfl
  · have hodd : ∀ d : Dev, ¬a % 4 = 0 → awake d → ∀ body, answered addr ((start d).chainAwake (a % 4 == 0) body) = free 3 (start d) := by
      intro d h4 ⟨_, hon⟩ body
      rw [beq_eq_false_iff_ne.2 h4, Dev.chainAwake_odd ((h7 d).trans hon)]
      rfl
    simp only [List.mem_cons, List.not_mem_nil, or_false] at hc
    obtain rfl | rfl := hc
    · exact does_of_act hread fun d _ ⟨h, h4⟩ => (hbit d _ h.1).trans (hodd d h4 h _)
    · exact does_of_act hwrite fun d _ ⟨h, h4⟩ => (hbit d _ h.1).trans (hodd d h4 h _)
  · have hoff : ∀ d : Dev, d.domOn 7 = false → ∀ al body, answered addr ((start d).chainAwake al body) = free 4 (start d) :=
      fun d hd al body => congrArg (answered addr) (Dev.chainAwake_off ((h7 d).trans hd) al body)
    simp only [List.mem_cons, List.not_mem_nil, or_false] at hc
    obtain rfl | rfl | rfl | rfl | rfl | rfl := hc
    · exact does_of_act hread fun d _ ⟨h, hd⟩ => (hbit d _ h).trans (hoff d hd _ _)
    · exact does_of_act hwrite fun d _ ⟨h, hd⟩ => (hbit d _ h).trans (hoff d hd _ _)
    · exact does_of_act hid fun d _ ⟨h, hd⟩ => (hbit d _ h).trans (hoff d hd _ _)
    · exact does_of_act hstatus fun d _ ⟨h, hd⟩ => (hbit d _ h).trans (hoff d hd _ _)
    · exact does_of_act (hreset data) fun d _ ⟨h, hd⟩ => (hbit d _ h).trans (hoff d hd _ _)
    · exact does_of_act hfallow fun d _ ⟨h, hd⟩ => (hbit d _ h).trans (hoff d hd _ _)
  · obtain ⟨-, hs, -, -⟩ := Dev.portUp_iff.1 h.1
    rw [hbit d _ h, Dev.chainReset, Dev.chainAwake_on ((h7 d).trans hon)]
    exact Dev.restartTo_of_keeps (hkeep d) (Dev.warmReset_restart (d := start d) h0 ((hkeep d).is.trans hs) (.inr rfl) g0 g1)
  · rw [hbit d _ h, Dev.chainReset, Dev.chainAwake_on ((h7 d).trans hon)]
    exact congrArg (answered addr) (if_neg fun h => hx (BitVec.eq_of_toNat_eq h))
  · rw [hbit d _ h]
    exact ⟨Dev.hostWake_wakes (hkeep d) hm hp, hparts _ 1 0 (by decide) (by decide)⟩
  · rw [hbit d _ h]
    exact congrArg (fun e : Dev => e.answers addr 1 0) (Dev.hostWake_off (((hkeep d).st).trans_ne hs) hm hq)
  · rw [hbit d _ h, Dev.chainFallow, Dev.chainAwake_on ((h7 d).trans hon)]
    exact ⟨Dev.fallowRequest_enters hmay (Dev.Keeps.step .refl (by decide) (hkeep d)) none, hparts _ 1 0 (by decide) (by decide)⟩
  · intro reg out shifted
    have hseg : ∀ n s, exec (.chainSegment m n bits g0 g1) s = act s (fun d => d.chainSegment m n bits g0 g1) := fun _ _ => rfl
    refine ⟨fun hn => does_of_act (hseg _) fun d _ ⟨h, hr⟩ => ?_, fun hl op c hc hb s => ?_, fun hb h64 =>
      ⟨fun op hop => does_of_act (hseg _) fun d _ ⟨⟨h, hon⟩, hr⟩ => ?_, leaves_of_act (hseg _) fun d _ ⟨h, hr⟩ => ?_⟩⟩
    · rw [Dev.chainSegment_ragged hr (hn.imp_right fun h => by rw [h]; rfl), Dev.chainFrame_served h]
      rfl
    · have hone : ∀ body : Dev → Dev × Option (Nat × Nat), (∀ e : Dev, e.chainExec op.toNat addr.toNat data.toNat g0 g1 = body e) →
          act s (fun d => d.chainSegment m 64 bits g0 g1) = act s (fun d => d.chainFrame m addr.toNat d.chainBits body) := by
        intro body hbody
        refine congrArg (act s) (funext fun d => ?_)
        have hin : chainIn d.hp.chain bits = op ++ addr ++ data := by rw [hb]; exact chainIn_regBits _ _
        have hout : chainOut d.hp.chain bits = d.chainBits := by rw [hb]; exact chainOut_one _ _
        rw [Dev.chainSegment_whole hin (by decide) (by decide), hout]
        exact congrArg _ (funext hbody)
      simp only [List.mem_cons, List.not_mem_nil, or_false, Prod.mk.injEq] at hc
      obtain ⟨rfl, rfl⟩ | ⟨rfl, rfl⟩ | ⟨rfl, rfl⟩ | ⟨rfl, rfl⟩ | ⟨rfl, rfl⟩ | ⟨rfl, rfl⟩ | ⟨rfl, rfl⟩ | ⟨rfl, rfl⟩ := hc
      all_goals exact hone _ fun _ => rfl
    · have hk := Dev.Keeps.segmentBegin d m (chainOut d.hp.chain bits)
      rw [Dev.chainSegment_whole hr (mt List.length_eq_zero_iff.1 hb) h64, Dev.chainFrame_served h]
      refine congrArg (answered addr) ((Dev.chainExec_other _ hop _ _ g0 g1).trans (Dev.chainAwake_on ?_ _))
      exact (hk.domOn 7).trans hon
    · rw [Dev.chainSegment_whole hr (mt List.length_eq_zero_iff.1 hb) h64, Dev.chainFrame_served h]
      have hpos : 64 ≤ bits.length := by
        have := mt List.length_eq_zero_iff.1 hb
        omega
      have h64l : (regBits d.hp.chain).length = 64 := by simp [regBits]
      refine ⟨rfl, ?_, ?_⟩
      · show ((regBits d.hp.chain ++ bits).take bits.length).length = bits.length
        rw [List.length_take, List.length_append, h64l]
        omega
      · show ((regBits d.hp.chain ++ bits).take bits.length).take 64 = regBits d.hp.chain
        rw [List.take_take, min_eq_left hpos, List.take_append_of_le_length h64l.ge, List.take_of_length_le h64l.le]

end Sys2Proof.Machine
end

section
/-!
Proofs for the indices of the rings, their enabling and the reservations (chapter 14): the statement O45.
-/

namespace Sys2Proof.Machine
set_option Elab.async false

/-! ### Writes of the rings' registers -/

theorem setBit_zero_div (n : Nat) (b : Bool) (k : Nat) (hk : 2 ∣ k) : setBit n 0 b / k = n / k := by
  obtain ⟨j, rfl⟩ := hk
  have h2 : setBit n 0 b / 2 = n / 2 := by
    unfold setBit bitOf
    simp only [pow_zero, Nat.div_one, beq_iff_eq]
    cases b with
    | true => simp only [if_true]; split <;> omega
    | false => simp only [Bool.false_eq_true, if_false]; split <;> omega
  rw [← Nat.div_div_eq_div_mul, ← Nat.div_div_eq_div_mul, h2]

theorem bitOf_setBit_zero (n : Nat) (b : Bool) : bitOf (setBit n 0 b) 0 = b := by
  rw [bitOf_setBit, if_pos rfl]

section Writes
variable {d : Dev} (h0 : d.sys.inReset = false)
include h0

theorem Dev.ioWrite_cqPi (v : Nat) : d.ioWrite true R.CQ_PI v = d.cqPiWrite v := by
  rw [Dev.ioWrite_hpXr h0 (by decide) (by decide) (by decide) (fun h => absurd h (by decide)) (by decide)]
  rfl

theorem Dev.ioWrite_rqCi (v : Nat) : d.ioWrite true R.RQ_CI v = d.rqCiWrite v := by
  rw [Dev.ioWrite_hpXr h0 (by decide) (by decide) (by decide) (fun h => absurd h (by decide)) (by decide)]
  rfl

theorem Dev.ioWrite_cqCtrl (hs : d.st ≠ stHalted) (v : Nat) : d.ioWrite true R.CQ_CTRL v = d.cqCtrlWrite v := by
  rw [Dev.ioWrite_hpXr h0 (by decide) (by decide) (by decide) (fun _ => hs) (by decide)]
  rfl

theorem Dev.ioWrite_rqCtrl (hs : d.st ≠ stHalted) (v : Nat) : d.ioWrite true R.RQ_CTRL v = d.rqCtrlWrite v := by
  rw [Dev.ioWrite_hpXr h0 (by decide) (by decide) (by decide) (fun _ => hs) (by decide)]
  rfl

theorem Dev.ioWrite_guar (c : Fin 7) (v : BitVec 32) : d.ioWrite true (R.XR_GUAR c.val) v.toNat = d.guarWrite c.val v := by
  have hc := c.isLt
  have ha : R.XR_GUAR c.val = 0x3410 + 4 * c.val := rfl
  have hok : ∀ k : Fin 7, (regSpec? (R.XR_GUAR k.val)).isNone = false ∧ haltedOff.contains (R.XR_GUAR k.val) = false ∧
      heldOff (R.XR_GUAR k.val) = false ∧ R.XR_GUAR k.val ≠ R.HP_ATTN ∧ R.XR_GUAR k.val ≠ R.HP_ATTSET ∧ R.XR_GUAR k.val ≠ R.HP_CMD ∧
      (R.XR_GUAR 0 ≤ R.XR_GUAR k.val ∧ R.XR_GUAR k.val < R.XR_GSUM) ∧ (R.XR_GUAR k.val - R.XR_GUAR 0) / 4 = k.val := by decide
  obtain ⟨hs, hh, ho, h1, h2, h3, h4, h5⟩ := hok c
  rw [Dev.ioWrite_hpXr h0 (by omega) (by omega) hs (fun h => absurd (hh.symm.trans h) Bool.false_ne_true) ho]
  unfold Dev.ioHpXr
  rw [if_neg h1, if_neg h2, if_neg h3, if_pos h4, h5, show word v.toNat = v from BitVec.ofNat_toNat 32 v]

end Writes

/-! ### Indices -/

theorem Dev.rqAttn_but {d t : Dev} {as : List Nat} (h : d.butRegs t as) (ha : R.HP_ATTN ∈ as) : d.butRegs t.rqAttn as :=
  Dev.butRegs_putB (f := R.HP_ATTN_RQ) h ha _

theorem Dev.rqAttn_get (d : Dev) {f : Field} (hf : f.addr ≠ R.HP_ATTN) : d.rqAttn.get f = d.get f :=
  Dev.get_put_ne d R.HP_ATTN_RQ f _ (.inl hf)

/-- The device whose report ring has taken the index `p`, with `n` bytes returned. -/
def Dev.rqReturned (d : Dev) (p n : Nat) : Dev :=
  Dev.rqAttn { d.put R.RQ_CI_INDEX p with ring := { d.ring with unread := dropUnread d.ring.unread n } }

theorem Dev.rqReturned_spec {d : Dev} {p : Nat} (hp : p < 65536)
    (hfree : (p + 65536 - d.get R.RQ_CI_INDEX) % 65536 ≤ (d.get R.RQ_PI_INDEX + 65536 - d.get R.RQ_CI_INDEX) % 65536) {n : Nat} :
    (d.rqReturned p n).get R.RQ_CI_INDEX = p ∧
      (d.rqReturned p n).rqUnread + (p + 65536 - d.get R.RQ_CI_INDEX) % 65536 = d.rqUnread ∧
      d.butRegs { d.rqReturned p n with ring := d.ring } [R.RQ_CI, R.HP_ATTN] := by
  have hk : Dev.Keeps { ring := true, regs := [R.RQ_CI, R.HP_ATTN] } d (d.rqReturned p n) :=
    Dev.Keeps.rqAttn (Dev.Keeps.upd (Dev.Keeps.put (f := R.RQ_CI_INDEX) (n := p) .refl) (ring := nofun))
  have hci : (d.rqReturned p n).get R.RQ_CI_INDEX = p := (Dev.rqAttn_get _ (f := R.RQ_CI_INDEX) (by decide)).trans
    ((Dev.get_put_self d R.RQ_CI_INDEX p (by decide)).trans (Nat.mod_eq_of_lt hp))
  have hpi : (d.rqReturned p n).get R.RQ_PI_INDEX = d.get R.RQ_PI_INDEX := hk.get
  have h1 := Dev.get_lt d R.RQ_CI_INDEX
  have h2 := Dev.get_lt d R.RQ_PI_INDEX
  refine ⟨hci, ?_, hk.restored⟩
  unfold Dev.rqUnread
  rw [hci, hpi]
  generalize d.get R.RQ_CI_INDEX = ci at h1 hfree ⊢
  generalize d.get R.RQ_PI_INDEX = pi at h2 hfree ⊢
  have h1 : ci < 65536 := h1
  have h2 : pi < 65536 := h2
  omega

/-! ### Enabling -/

theorem Dev.ringCause_cqCtrl (d : Dev) (f : Field) (hf : f.addr = R.CQ_CTRL) (n : Nat) : (d.put f n).ringCause 0 = d.ringCause 0 := by
  have hget : ∀ g : Field, g.addr ≠ R.CQ_CTRL → (d.put f n).get g = d.get g := fun g hg => Dev.get_put_ne d f g n (.inl (hf ▸ hg))
  have hdom : ∀ k, (d.put f n).dom k = d.dom k := fun k => Dev.dom_put_ne d f n k (by rw [hf]; decide) (by rw [hf]; decide)
  unfold Dev.ringCause Dev.xramOn Dev.is Dev.domOn
  simp only [hdom, if_true, hget R.CQ_GEOM_BASE (by decide), hget R.CQ_GEOM_SZ (by decide), hget R.RQ_CTRL_EN (by decide),
    hget R.RQ_GEOM_BASE (by decide), hget R.RQ_GEOM_SZ (by decide), hget R.RQ_CRES_CRES (by decide)]

theorem Dev.ringCause_rqCtrl (d : Dev) (f : Field) (hf : f.addr = R.RQ_CTRL) (n : Nat) : (d.put f n).ringCause 1 = d.ringCause 1 := by
  have hget : ∀ g : Field, g.addr ≠ R.RQ_CTRL → (d.put f n).get g = d.get g := fun g hg => Dev.get_put_ne d f g n (.inl (hf ▸ hg))
  have hdom : ∀ k, (d.put f n).dom k = d.dom k := fun k => Dev.dom_put_ne d f n k (by rw [hf]; decide) (by rw [hf]; decide)
  unfold Dev.ringCause Dev.xramOn Dev.is Dev.domOn
  simp only [hdom, if_neg (show ¬(1 : Nat) = 0 by decide), hget R.CQ_GEOM_BASE (by decide), hget R.CQ_GEOM_SZ (by decide), hget R.CQ_CTRL_EN (by decide),
    hget R.RQ_GEOM_BASE (by decide), hget R.RQ_GEOM_SZ (by decide), hget R.RQ_CRES_CRES (by decide)]

/-- A line of the geometry table is one of six. -/
theorem Dev.ringCause_lt {d : Dev} {r c : Nat} (h : d.ringCause r = some c) : c < 16 := by
  have hif : ∀ {p : Prop} [Decidable p] {k : Nat} {o : Option Nat}, k < 16 → (∀ x, o = some x → x < 16) →
      ∀ x, (if p then some k else o) = some x → x < 16 := by
    intro p _ k o hk ho x hx
    split at hx
    · cases hx
      exact hk
    · exact ho x hx
  exact hif (by decide) (hif (by decide) (hif (by decide) (hif (by decide) (hif (by decide) (hif (by decide) fun x hx => by cases hx))))) c h

/-- A ring that is not enabled shows which and why (R431). -/
theorem Dev.enRefused_spec (d : Dev) {r c : Nat} (hr : r < 2) (hc : c < 16) :
    (d.enRefused r c).is R.XR_STATUS_ENREJ = true ∧ (d.enRefused r c).get R.XR_STATUS_ENCAUSE = c ∧
      (d.enRefused r c).get R.XR_STATUS_ENRING = r ∧ ∀ f : Field, f.addr ≠ R.XR_STATUS → (d.enRefused r c).get f = d.get f := by
  unfold Dev.enRefused
  refine ⟨?_, ?_, ?_, fun f hf => ?_⟩
  · rw [Dev.is_put_ne _ R.XR_STATUS_ENRING R.XR_STATUS_ENREJ _ (by decide), Dev.is_put_ne _ R.XR_STATUS_ENCAUSE R.XR_STATUS_ENREJ _ (by decide)]
    exact Dev.is_putB_self d R.XR_STATUS_ENREJ true (by decide) (by decide)
  · rw [Dev.get_put_ne _ R.XR_STATUS_ENRING R.XR_STATUS_ENCAUSE _ (by decide), Dev.get_put_self _ _ _ (by decide)]
    exact Nat.mod_eq_of_lt hc
  · rw [Dev.get_put_self _ _ _ (by decide)]
    exact Nat.mod_eq_of_lt hr
  · rw [Dev.get_put_ne _ R.XR_STATUS_ENRING f _ (.inl hf), Dev.get_put_ne _ R.XR_STATUS_ENCAUSE f _ (.inl hf),
      Dev.get_put_ne _ R.XR_STATUS_ENREJ f _ (.inl hf)]

theorem Dev.enRefused_but {d t : Dev} {as : List Nat} (h : d.butRegs t as) (ha : R.XR_STATUS ∈ as) (r c : Nat) :
    d.butRegs (t.enRefused r c) as :=
  Dev.butRegs_put (f := R.XR_STATUS_ENRING) (Dev.butRegs_put (f := R.XR_STATUS_ENCAUSE) (Dev.butRegs_put (f := R.XR_STATUS_ENREJ) h ha 1) ha c) ha r

/-- The device whose command ring takes a mode and a prefetch depth, while it is disabled (R433). -/
def Dev.cqModed (d : Dev) (v : Nat) : Dev := (d.put R.CQ_CTRL_MODE (v / 2)).put R.CQ_CTRL_PFDEPTH (v / 256)

theorem Dev.cqCtrlWrite_en {d : Dev} (hs : d.st ≠ stHalted) (he : d.is R.CQ_CTRL_EN = false) {v : Nat} (hv : v / 256 % 256 ≤ 128)
    (hb : bitOf v 0 = true) : d.cqCtrlWrite v =
      match d.ringCause 0 with
      | some c => (d.cqModed v).enRefused 0 c
      | none => (d.cqModed v).put R.CQ_CTRL_EN 1 := by
  have hcause : (d.cqModed v).ringCause 0 = d.ringCause 0 :=
    (Dev.ringCause_cqCtrl _ R.CQ_CTRL_PFDEPTH rfl _).trans (Dev.ringCause_cqCtrl d R.CQ_CTRL_MODE rfl _)
  unfold Dev.cqCtrlWrite
  rw [if_neg hs]
  dsimp only
  rw [he, if_neg Bool.false_ne_true, if_neg (by omega : ¬128 < v / 256 % 256), hb, if_pos rfl, if_neg Bool.false_ne_true]
  show (match (d.cqModed v).ringCause 0 with | some c => (d.cqModed v).enRefused 0 c | none => (d.cqModed v).put R.CQ_CTRL_EN 1) = _
  rw [hcause]

theorem Dev.cqModed_but (d : Dev) (v : Nat) {as : List Nat} (ha : R.CQ_CTRL ∈ as) : d.butRegs (d.cqModed v) as :=
  Dev.butRegs_put (f := R.CQ_CTRL_PFDEPTH) (Dev.butRegs_put (f := R.CQ_CTRL_MODE) (d.butRegs_refl as) ha _) ha _

theorem Dev.cqModed_spec (d : Dev) (v : Nat) : (d.cqModed v).get R.CQ_CTRL_MODE = v / 2 % 2 ∧
    (d.cqModed v).get R.CQ_CTRL_PFDEPTH = v / 256 % 256 ∧ (d.cqModed v).is R.CQ_CTRL_EN = d.is R.CQ_CTRL_EN := by
  unfold Dev.cqModed
  rw [Dev.get_put_ne _ R.CQ_CTRL_PFDEPTH R.CQ_CTRL_MODE _ (by decide), Dev.get_put_self _ _ _ (by decide), Dev.get_put_self _ _ _ (by decide),
    Dev.is_put_ne _ R.CQ_CTRL_PFDEPTH R.CQ_CTRL_EN _ (by decide), Dev.is_put_ne _ R.CQ_CTRL_MODE R.CQ_CTRL_EN _ (by decide)]
  exact ⟨rfl, rfl, rfl⟩

theorem Dev.cqCtrlWrite_off {d : Dev} (hs : d.st ≠ stHalted) (he : d.is R.CQ_CTRL_EN = true) {v : Nat} (hb : bitOf v 0 = false) :
    d.cqCtrlWrite v = (if 128 < v / 256 % 256 then d else d.put R.CQ_CTRL_PFDEPTH (v / 256)).cqOff := by
  unfold Dev.cqCtrlWrite
  rw [if_neg hs]
  dsimp only
  simp only [he, hb, if_true, Bool.false_eq_true, if_false]

theorem Dev.rqCtrlWrite_en {d : Dev} (hs : d.st ≠ stHalted) (he : d.is R.RQ_CTRL_EN = false) {v : Nat} (hb : bitOf v 0 = true) :
    d.rqCtrlWrite v =
      match d.ringCause 1 with
      | some c => (d.put R.RQ_CTRL_MODE (v / 2)).enRefused 1 c
      | none => (d.put R.RQ_CTRL_MODE (v / 2)).put R.RQ_CTRL_EN 1 := by
  unfold Dev.rqCtrlWrite
  rw [if_neg hs]
  dsimp only
  rw [he, if_neg Bool.false_ne_true, hb, if_pos rfl, if_neg Bool.false_ne_true, Dev.ringCause_rqCtrl d R.RQ_CTRL_MODE rfl] <;> rfl

theorem Dev.rqCtrlWrite_off {d : Dev} (hs : d.st ≠ stHalted) {v : Nat} (hb : bitOf v 0 = false) :
    d.rqCtrlWrite v = (if d.is R.RQ_CTRL_EN then d else d.put R.RQ_CTRL_MODE (v / 2)).put R.RQ_CTRL_EN 0 := by
  unfold Dev.rqCtrlWrite
  rw [if_neg hs]
  dsimp only
  rw [hb, if_neg Bool.false_ne_true]

/-! ### Reservations -/

theorem rwsMask_guar (c : Fin 7) : rwsMask (R.XR_GUAR c.val) = 0x13F3F := by
  revert c
  decide

/-- The value in force of a register that takes `w` in its RWS bits. -/
theorem and_or_rws (r w m : Word) : ((r &&& ~~~m) ||| (w &&& m)) &&& m = w &&& m := by
  apply BitVec.eq_of_getLsbD_eq
  intro i hi
  simp only [BitVec.getLsbD_and, BitVec.getLsbD_or, BitVec.getLsbD_not, hi, decide_true, Bool.true_and]
  cases m.getLsbD i
  · simp
  · simp

/-- The device with a reservation staged. -/
def Dev.withGuar (d : Dev) (c : Nat) (w : Word) : Dev :=
  { d with staged := (R.XR_GUAR c, w) :: d.staged.filter (fun e => e.1 != R.XR_GUAR c) }

/-- The reservations fit with `w` for client `c` (R428). -/
abbrev Dev.guarFits (d : Dev) (c : Nat) (w : Word) : Prop :=
  ∀ b, b < 2 → guarSum (d.guarsStaged.set c w) b false ≤ 56 ∧ guarSum (d.guarsStaged.set c w) b true ≤ 56 ∧
    (guarSum (d.guarsStaged.set c w) b false = 0 ∨ d.domOn (1 + b) = true)

theorem Dev.guarWrite_busy {d : Dev} (hb : d.busyState = true) (c : Nat) (v : Word) : d.guarWrite c v =
    if d.guarFits c (v &&& 0x13F3F) then d.withGuar c (v &&& 0x13F3F &&& rwsMask (R.XR_GUAR c)) else d.put R.XR_STATUS_GREJ 1 := by
  have hfits : ([0, 1].all (fun b => decide (guarSum (d.guarsStaged.set c (v &&& 0x13F3F)) b false ≤ 56) &&
      decide (guarSum (d.guarsStaged.set c (v &&& 0x13F3F)) b true ≤ 56) &&
      (guarSum (d.guarsStaged.set c (v &&& 0x13F3F)) b false == 0 || d.domOn (1 + b)))) = true ↔ d.guarFits c (v &&& 0x13F3F) := by
    have htwo : ∀ p : Nat → Prop, (∀ b, b < 2 → p b) ↔ p 0 ∧ p 1 :=
      fun p => ⟨fun h => ⟨h 0 (by decide), h 1 (by decide)⟩, fun h b hb => by
        match b, hb with
        | 0, _ => exact h.1
        | 1, _ => exact h.2⟩
    unfold Dev.guarFits
    rw [htwo]
    simp only [List.all_cons, List.all_nil, Bool.and_true, Bool.and_eq_true, Bool.or_eq_true, decide_eq_true_eq, beq_iff_eq, and_assoc]
  unfold Dev.guarWrite
  dsimp only
  rw [hb]
  simp only [hfits]
  unfold Dev.stageBusy
  rw [hb]
  rfl

/-- Settles O45: `cqPiWrite` and `rqCiWrite` on indices, `cqCtrlWrite_en` and `rqCtrlWrite_en` on enabling, `guarWrite` on reservations. -/
theorem ringIndicesAndEnabling : Obligations.RingIndicesAndEnabling := by
  unfold Obligations.RingIndicesAndEnabling
  have hcq : ∀ v s, exec (.cqPiWrite v) s = act s (fun d => d.ioWrite true R.CQ_PI v.toNat) := fun _ _ => rfl
  have hrq : ∀ v s, exec (.rqCiWrite v) s = act s (fun d => d.ioWrite true R.RQ_CI v.toNat) := fun _ _ => rfl
  refine ⟨fun v => ?_, fun v hv => ?_, fun v => ?_, fun c v => ?_⟩
  · intro p far okC freed okR
    have hp : p < 65536 := Nat.mod_lt _ (by decide)
    refine ⟨leaves_of_act (hcq v) fun d h0 ⟨hm, hok⟩ => ?_, leaves_of_act (hcq v) fun d h0 ⟨hm, hok⟩ => ?_, does_of_act (hcq v) fun d h0 hm => ?_,
      leaves_of_act (hrq v) fun d h0 ⟨hm, hok⟩ => ?_, leaves_of_act (hrq v) fun d h0 ⟨hm, hok⟩ => ?_, does_of_act (hrq v) fun d h0 hm => ?_⟩
    · obtain ⟨h8, hlo, hhi⟩ := hok
      rw [Dev.ioWrite_cqPi h0]
      unfold Dev.cqPiWrite
      dsimp only
      rw [hm, if_neg Bool.false_ne_true, if_neg]
      · exact ⟨(Dev.get_put_self d R.CQ_PI_INDEX _ (by decide)).trans (Nat.mod_eq_of_lt hp),
          Dev.butRegs_put (f := R.CQ_PI_INDEX) (d.butRegs_refl _) (by decide) _⟩
      · rintro (h | h | h)
        · exact h h8
        · exact absurd hlo (by exact Nat.not_le.2 h)
        · exact absurd hhi (by exact Nat.not_le.2 h)
    · rw [Dev.ioWrite_cqPi h0]
      unfold Dev.cqPiWrite
      dsimp only
      rw [hm, if_neg Bool.false_ne_true, if_pos]
      · exact ⟨Dev.is_putB_self d R.XR_STATUS_PIREJ true (by decide) (by decide),
          Dev.butRegs_put (f := R.XR_STATUS_PIREJ) (d.butRegs_refl _) (by decide) 1⟩
      · by_contra h
        rw [not_or, not_or, not_not, Nat.not_lt, Nat.not_lt] at h
        exact hok h
    · rw [Dev.ioWrite_cqPi h0]
      unfold Dev.cqPiWrite
      dsimp only
      rw [hm, if_pos rfl]
    · obtain ⟨h8, hfree⟩ := hok
      rw [Dev.ioWrite_rqCi h0]
      unfold Dev.rqCiWrite
      dsimp only
      rw [hm, if_neg Bool.false_ne_true, if_neg]
      · exact Dev.rqReturned_spec hp hfree
      · rintro (h | h)
        · exact h h8
        · exact absurd hfree (by exact Nat.not_le.2 h)
    · rw [Dev.ioWrite_rqCi h0]
      unfold Dev.rqCiWrite
      dsimp only
      rw [hm, if_neg Bool.false_ne_true, if_pos]
      · exact ⟨Dev.is_putB_self d R.XR_STATUS_CIREJ true (by decide) (by decide),
          Dev.butRegs_put (f := R.XR_STATUS_CIREJ) (d.butRegs_refl _) (by decide) 1⟩
      · by_contra h
        rw [not_or, not_not, Nat.not_lt] at h
        exact hok h
    · rw [Dev.ioWrite_rqCi h0]
      unfold Dev.rqCiWrite
      dsimp only
      rw [hm, if_pos rfl]
  · have hen : ∀ s, exec (.cqEnable v) s = act s (fun d => d.ioWrite true R.CQ_CTRL (setBit v.toNat 0 true)) := fun _ => rfl
    have hw : setBit v.toNat 0 true / 256 % 256 ≤ 128 := by rw [setBit_zero_div _ _ 256 (by decide)]; exact hv
    have hmoded : ∀ d : Dev, (d.cqModed (setBit v.toNat 0 true)).get R.CQ_CTRL_MODE = v.toNat / 2 % 2 ∧
        (d.cqModed (setBit v.toNat 0 true)).get R.CQ_CTRL_PFDEPTH = v.toNat / 256 % 256 ∧
        (d.cqModed (setBit v.toNat 0 true)).is R.CQ_CTRL_EN = d.is R.CQ_CTRL_EN := by
      intro d
      have h := d.cqModed_spec (setBit v.toNat 0 true)
      rwa [setBit_zero_div _ _ 256 (by decide), setBit_zero_div _ _ 2 (by decide)] at h
    refine ⟨leaves_of_act hen fun d h0 ⟨hs, he, hc⟩ => ?_, fun c => leaves_of_act hen fun d h0 ⟨hs, he, hc⟩ => ?_,
      leaves_of_act (f := fun d => d.ioWrite true R.CQ_CTRL (setBit v.toNat 0 false)) (fun _ => rfl) fun d h0 ⟨hs, he⟩ => ?_⟩
    · rw [Dev.ioWrite_cqCtrl h0 hs, Dev.cqCtrlWrite_en hs he hw (bitOf_setBit_zero _ _), hc]
      obtain ⟨hmode, hdepth, -⟩ := hmoded d
      exact ⟨Dev.is_putB_self _ R.CQ_CTRL_EN true (by decide) (by decide),
        (Dev.get_put_ne _ R.CQ_CTRL_EN R.CQ_CTRL_MODE _ (by decide)).trans hmode,
        (Dev.get_put_ne _ R.CQ_CTRL_EN R.CQ_CTRL_PFDEPTH _ (by decide)).trans hdepth,
        Dev.butRegs_put (f := R.CQ_CTRL_EN) (d.cqModed_but _ (by decide)) (by decide) 1⟩
    · rw [Dev.ioWrite_cqCtrl h0 hs, Dev.cqCtrlWrite_en hs he hw (bitOf_setBit_zero _ _), hc]
      obtain ⟨-, -, hoff⟩ := hmoded d
      obtain ⟨hrej, hcause, hring, hrest⟩ := (d.cqModed (setBit v.toNat 0 true)).enRefused_spec (r := 0) (by decide) (Dev.ringCause_lt hc)
      exact ⟨(congrArg (fun n => n != 0) (hrest R.CQ_CTRL_EN (by decide))).trans (hoff.trans he), hrej, hcause, hring,
        Dev.enRefused_but (d.cqModed_but _ (by decide)) (by decide) 0 c⟩
    · rw [Dev.ioWrite_cqCtrl h0 hs, Dev.cqCtrlWrite_off hs he (bitOf_setBit_zero _ _)]
      have hk : ∀ e : Dev, Dev.Keeps { regs := [R.CQ_CTRL] } d e → e.get R.CQ_CTRL_MODE = d.get R.CQ_CTRL_MODE →
          e.cqOff.is R.CQ_CTRL_EN = false ∧ e.cqOff.ring.established = [] ∧ e.cqOff.get R.CQ_CTRL_MODE = d.get R.CQ_CTRL_MODE ∧
            d.butRegs { e.cqOff with ring := d.ring } [R.CQ_CTRL] := by
        intro e he hm
        have hoff : Dev.Keeps { ring := true, regs := [R.CQ_CTRL] } d e.cqOff := Dev.Keeps.cqOff (Dev.Keeps.step .refl (by decide) he)
        exact ⟨Dev.is_putB_self e R.CQ_CTRL_EN false (by decide) (by decide), rfl,
          (Dev.get_put_ne e R.CQ_CTRL_EN R.CQ_CTRL_MODE _ (by decide)).trans hm, hoff.restored⟩
      split
      · exact hk d .refl rfl
      · exact hk _ (Dev.Keeps.put (f := R.CQ_CTRL_PFDEPTH) .refl) (Dev.get_put_ne d R.CQ_CTRL_PFDEPTH R.CQ_CTRL_MODE _ (by decide))
  · have hen : ∀ s, exec (.rqEnable v) s = act s (fun d => d.ioWrite true R.RQ_CTRL (setBit v.toNat 0 true)) := fun _ => rfl
    have hmode : ∀ d : Dev, (d.put R.RQ_CTRL_MODE (setBit v.toNat 0 true / 2)).get R.RQ_CTRL_MODE = v.toNat / 2 % 2 := by
      intro d
      rw [setBit_zero_div _ _ 2 (by decide)]
      exact Dev.get_put_self d R.RQ_CTRL_MODE _ (by decide)
    have hbut : ∀ d : Dev, d.butRegs (d.put R.RQ_CTRL_MODE (setBit v.toNat 0 true / 2)) [R.RQ_CTRL] :=
      fun d => Dev.butRegs_put (f := R.RQ_CTRL_MODE) (d.butRegs_refl _) (by decide) _
    refine ⟨leaves_of_act hen fun d h0 ⟨hs, he, hc⟩ => ?_, fun c => leaves_of_act hen fun d h0 ⟨hs, he, hc⟩ => ?_,
      leaves_of_act (f := fun d => d.ioWrite true R.RQ_CTRL (setBit v.toNat 0 false)) (fun _ => rfl) fun d h0 hs => ?_⟩
    · rw [Dev.ioWrite_rqCtrl h0 hs, Dev.rqCtrlWrite_en hs he (bitOf_setBit_zero _ _), hc]
      exact ⟨Dev.is_putB_self _ R.RQ_CTRL_EN true (by decide) (by decide),
        (Dev.get_put_ne _ R.RQ_CTRL_EN R.RQ_CTRL_MODE _ (by decide)).trans (hmode d), Dev.butRegs_put (f := R.RQ_CTRL_EN) (hbut d) (by decide) 1⟩
    · rw [Dev.ioWrite_rqCtrl h0 hs, Dev.rqCtrlWrite_en hs he (bitOf_setBit_zero _ _), hc]
      obtain ⟨hrej, hcause, hring, hrest⟩ :=
        (d.put R.RQ_CTRL_MODE (setBit v.toNat 0 true / 2)).enRefused_spec (r := 1) (by decide) (Dev.ringCause_lt hc)
      exact ⟨(congrArg (fun n => n != 0) (hrest R.RQ_CTRL_EN (by decide))).trans
          ((Dev.is_put_ne d R.RQ_CTRL_MODE R.RQ_CTRL_EN _ (by decide)).trans he), hrej, hcause, hring,
        Dev.enRefused_but (Dev.butRegs_put (f := R.RQ_CTRL_MODE) (d.butRegs_refl _) (by decide) _) (by decide) 1 c⟩
    · rw [Dev.ioWrite_rqCtrl h0 hs, Dev.rqCtrlWrite_off hs (bitOf_setBit_zero _ _)]
      refine ⟨Dev.is_putB_self _ R.RQ_CTRL_EN false (by decide) (by decide), Dev.butRegs_put (f := R.RQ_CTRL_EN) ?_ (by decide) 0⟩
      split
      · exact d.butRegs_refl _
      · exact Dev.butRegs_put (f := R.RQ_CTRL_MODE) (d.butRegs_refl _) (by decide) _
  · intro w fits
    have hg : ∀ s, exec (.xrGuarWrite c v) s = act s (fun d => d.ioWrite true (R.XR_GUAR c.val) v.toNat) := fun _ => rfl
    have hmask : w &&& 0x13F3F#32 = w := (BitVec.and_assoc ..).trans (congrArg (v &&& ·) BitVec.and_self)
    refine ⟨leaves_of_act hg fun d h0 hb => ?_, leaves_of_act hg fun d h0 ⟨hb, hf⟩ => ?_, leaves_of_act hg fun d h0 ⟨hb, hf⟩ => ?_⟩
    · have ht : d.ticking = false := by
        unfold Dev.busyState at hb
        exact (Bool.or_eq_false_iff.1 hb).2
      have he : d.guarWrite c.val v = { d.setReg (R.XR_GUAR c.val) ((d.reg (R.XR_GUAR c.val) &&& ~~~ rwsMask (R.XR_GUAR c.val)) |||
          (w &&& rwsMask (R.XR_GUAR c.val))) with staged := d.staged.filter (fun e => e.1 != R.XR_GUAR c.val) } := by
        unfold Dev.guarWrite Dev.stageBusy
        rw [hb, ← Dev.stage_idle ht]
        rfl
      rw [Dev.ioWrite_guar h0, he, rwsMask_guar]
      refine ⟨?_, Dev.butRegs_setReg (d.butRegs_refl _) List.mem_cons_self _⟩
      refine (congrArg (· &&& 0x13F3F#32) (Dev.reg_setReg_self d (R.XR_GUAR c.val) _)).trans ((and_or_rws _ w 0x13F3F).trans ?_)
      exact hmask
    · rw [Dev.ioWrite_guar h0, Dev.guarWrite_busy hb, if_pos hf, rwsMask_guar]
      refine ⟨?_, rfl⟩
      have hview : (d.withGuar c.val (w &&& 0x13F3F)).viewReg (R.XR_GUAR c.val) =
          (d.reg (R.XR_GUAR c.val) &&& ~~~rwsMask (R.XR_GUAR c.val)) ||| ((w &&& 0x13F3F) &&& rwsMask (R.XR_GUAR c.val)) := by
        unfold Dev.viewReg Dev.stagedAt Dev.withGuar
        dsimp only
        rw [List.lookup_cons_self]
        rfl
      rw [hview, rwsMask_guar]
      exact (and_or_rws _ _ 0x13F3F).trans (by rw [BitVec.and_assoc, BitVec.and_self]; exact hmask)
    · rw [Dev.ioWrite_guar h0, Dev.guarWrite_busy hb, if_neg hf]
      exact ⟨Dev.is_putB_self d R.XR_STATUS_GREJ true (by decide) (by decide),
        Dev.butRegs_put (f := R.XR_STATUS_GREJ) (d.butRegs_refl _) (by decide) 1⟩

end Sys2Proof.Machine
end

section
/-!
Refutation for the events of the rings (chapter 14): the statement O46 and the device that it fails on.
-/

namespace Sys2Proof.Machine
set_option Elab.async false

/-- A device whose RQ attention is still set, although the report ring is below its level and its oldest unread entry is too young. -/
def Dev.staleAttention : Dev :=
  { ((Dev.reset.put R.HP_ATTN_RQ 1).put R.RQ_WM_TMO 1).put R.RQ_WM_LEVEL 25 with
    sys := { Dev.reset.sys with inReset := false }
    ring := { Ring.reset with unread := [(24, 0)] } }

/-- Refutes O46, by its last clause, which does not ask that RQ attention is clear: where none of its conditions holds any
more, the clock clears it. -/
theorem not_ringEventsAdvance : ¬ Obligations.RingEventsAdvance := by
  intro h
  obtain ⟨-, -, -, -, -, -, -, -, hlast⟩ := h
  have he := (hlast 24 0 []).2 ⟨[], Dev.staleAttention⟩ rfl (by decide)
  rw [show exec .rqWatermarkTimeout ⟨[], Dev.staleAttention⟩ = act ⟨[], Dev.staleAttention⟩ (fun d => d.rqTimeout) from rfl, act_live rfl] at he
  have hd : Dev.staleAttention.rqTimeout = Dev.staleAttention := congrArg State.dev (Host.Outcome.next.inj he)
  have hr := congrArg (fun d : Dev => d.is R.HP_ATTN_RQ) hd
  revert hr
  decide +kernel

end Sys2Proof.Machine
end

section
/-!
Proofs for the commands of the ring that only end, wrong lengths and FENCE (chapters 14 and 15): the statement O47.
-/

namespace Sys2Proof.Machine
set_option Elab.async false

/-! ### The report ring's writer and the batch -/

/-- The writer of the report ring changes nothing of the rings but the unread entries. -/
theorem Dev.rqEmit_ring (d : Dev) (r : Report) : (d.rqEmit r).ring = { d.ring with unread := (d.rqEmit r).ring.unread } := by
  have hput : ∀ (d : Dev) (typ tag : Nat) (body : List Byte),
      (d.rqPut typ tag body).ring = { d.ring with unread := (d.rqPut typ tag body).ring.unread } := by
    intro d typ tag body
    unfold Dev.rqPut
    extract_lets n pos flags bs d1 d2 d3
    have h1 : d3.ring = d.ring :=
      Dev.Keeps.ring (w := { mem := true, regs := [R.RQ_SEQX, R.RQ_PI] }) (Dev.Keeps.refl.xwriteWhole.put.put) rfl
    change ({ d3.ring with unread := d3.ring.unread ++ [(n, d3.clock)] } : Ring) =
      { d.ring with unread := d3.ring.unread ++ [(n, d3.clock)] }
    rw [h1]
  unfold Dev.rqEmit
  extract_lets pad d1
  have h1 : d1.ring = { d.ring with unread := d1.ring.unread } := by
    by_cases hp : pad = 0
    · simp only [d1, if_pos hp]
    · simp only [d1, if_neg hp]
      exact hput _ _ _ _
  have h2 := hput d1 r.typ r.tag r.body
  have h3 : ((d1.rqPut r.typ r.tag r.body).rqAttn).ring = (d1.rqPut r.typ r.tag r.body).ring := rfl
  rw [h3, h2, h1]

/-- A COMPLETION changes nothing of the rings but the unread entries and those that wait. -/
theorem Dev.complete_ring (d : Dev) (tag status op count detail seq : Nat) :
    (d.complete tag status op count detail seq).ring = { d.ring with
      unread := (d.complete tag status op count detail seq).ring.unread
      waiting := (d.complete tag status op count detail seq).ring.waiting } := by
  unfold Dev.complete
  extract_lets r
  split
  · rfl
  · split
    · rw [Dev.rqEmit_ring]
      rfl
    · rfl

/-- The batch is closed: nothing else of the rings changes but the unread and the waiting entries. -/
theorem Dev.batchClose_ring (d : Dev) (status : Nat) : (d.batchClose status).ring = { d.ring with
      batch := none
      unread := (d.batchClose status).ring.unread
      waiting := (d.batchClose status).ring.waiting } := by
  unfold Dev.batchClose
  cases hb : d.ring.batch with
  | none =>
    have hr : d.ring = { d.ring with batch := none } := by rw [← hb]
    simp only
    exact hr
  | some b =>
    simp only
    rw [Dev.complete_ring]

/-- The batch of `d` with an entry of these operands behind it. -/
def Dev.batchWith (d : Dev) (op tag seq detail : Nat) : Batch :=
  ⟨(d.ring.batch.map (·.count)).getD 0 + 1, tag, op, seq, detail⟩

theorem Dev.batchJoin_ring (d : Dev) (op tag seq detail : Nat) :
    (d.batchJoin op tag seq detail).ring = { d.ring with batch := some (d.batchWith op tag seq detail) } := by
  unfold Dev.batchJoin Dev.batchWith
  cases d.ring.batch with
  | none => rfl
  | some b => rfl

theorem Dev.cqPass_ring (d : Dev) (flags slot : Nat) : (d.cqPass flags slot).ring = d.ring :=
  (Dev.Keeps.refl.cqPass : Dev.Keeps Dev.cqPassScope d (d.cqPass flags slot)).ring rfl

/-- The indices after the pass of a slot. -/
theorem Dev.cqPass_indices (d : Dev) (flags slot : Nat) :
    (d.cqPass flags slot).get R.CQ_CI_INDEX = (d.get R.CQ_CI_INDEX + slot) % 65536 ∧
    (d.cqPass flags slot).get R.CQ_SEQX_SEQ = (d.get R.CQ_SEQX_SEQ + 1) % 256 ∧
    (d.cqPass flags slot).get R.CQ_COUNTS_EXEC = (d.get R.CQ_COUNTS_EXEC + 1) % 65536 := by
  unfold Dev.cqPass
  extract_lets ci d1
  have hk : Dev.Keeps { mem := true, regs := [R.XR_ECCSB, R.XR_ECCDB] } d d1 := Dev.Keeps.ite Dev.Keeps.refl.xwriteClean .refl
  unfold Dev.incWrap
  refine ⟨?_, ?_, ?_⟩
  · rw [Dev.get_put_ne _ _ _ _ (by decide), Dev.get_put_ne _ _ _ _ (by decide), Dev.get_put_self _ _ _ (by decide)]
    rfl
  · rw [Dev.get_put_ne _ _ _ _ (by decide), Dev.get_put_self _ _ _ (by decide), hk.get]
    rfl
  · rw [Dev.get_put_self _ _ _ (by decide), Dev.get_put_ne _ _ _ _ (by decide), Dev.get_put_ne _ _ _ _ (by decide), hk.get]
    rfl

/-! ### The end of an entry -/

/-- The device once an entry has joined the batch and its slot is passed. -/
def Dev.joined (d : Dev) (e : List Byte) (detail : Nat) : Dev :=
  (d.batchJoin (eOp e) (eTag e) (eSeq e) detail).cqPass (eFlags e) (eSlot e)

theorem Dev.cqSync_eq {d : Dev} (hs : d.st ≠ stHalted) (e : List Byte) (status detail : Nat) :
    d.cqSync e status detail =
      if bitOf (eFlags e) 6 || status != csOk then (d.joined e detail).batchClose status else d.joined e detail := by
  unfold Dev.cqSync
  rw [if_neg hs]
  rfl

theorem Dev.joined_ring (d : Dev) (e : List Byte) (detail : Nat) : (d.joined e detail).ring =
    { d.ring with batch := some (d.batchWith (eOp e) (eTag e) (eSeq e) detail) } := by
  unfold Dev.joined
  rw [Dev.cqPass_ring, Dev.batchJoin_ring]

theorem Dev.joined_passes (d : Dev) (e : List Byte) (detail : Nat) : d.passes (d.joined e detail) e := by
  obtain ⟨h1, h2, h3⟩ := Dev.cqPass_indices (d.batchJoin (eOp e) (eTag e) (eSeq e) detail) (eFlags e) (eSlot e)
  have hk : Dev.Keeps Dev.batchJoinScope d (d.batchJoin (eOp e) (eTag e) (eSeq e) detail) := Dev.Keeps.refl.batchJoin
  exact ⟨h1.trans (by rw [hk.get]), h2.trans (by rw [hk.get]), h3.trans (by rw [hk.get])⟩

theorem Dev.Keeps.passes {w : Dev.Scope} {d e t : Dev} {x : List Byte} (h : Dev.Keeps w e t) (hp : d.passes e x)
    (h1 : w.has R.CQ_CI = false := by decide) (h2 : w.has R.CQ_SEQX = false := by decide)
    (h3 : w.has R.CQ_COUNTS = false := by decide) : d.passes t x :=
  ⟨(h.get h1).trans hp.1, (h.get h2).trans hp.2.1, (h.get h3).trans hp.2.2⟩

/-- An entry of the front ends: its slot is passed and, unless it stays in the batch, the batch is closed. -/
theorem Dev.cqSync_ends {d : Dev} (hs : d.st ≠ stHalted) (e : List Byte) (status detail : Nat) :
    d.passes (d.cqSync e status detail) e ∧
    (d.cqSync e status detail).ring = { d.ring with
      batch := if bitOf (eFlags e) 6 || status != csOk then none else some (d.batchWith (eOp e) (eTag e) (eSeq e) detail)
      unread := (d.cqSync e status detail).ring.unread
      waiting := (d.cqSync e status detail).ring.waiting } := by
  rw [Dev.cqSync_eq hs]
  split
  · refine ⟨Dev.Keeps.passes (Dev.Keeps.refl.batchClose : Dev.Keeps Dev.batchCloseScope _ _) (d.joined_passes e detail), ?_⟩
    rw [Dev.batchClose_ring, Dev.joined_ring]
  · refine ⟨d.joined_passes e detail, ?_⟩
    rw [Dev.joined_ring]

/-- What the two ends of an entry need to know of the device that its body hands over. -/
theorem Dev.cqSync_ok {d x : Dev} (hs : x.st ≠ stHalted) {e : List Byte}
    (h1 : x.get R.CQ_CI_INDEX = d.get R.CQ_CI_INDEX) (h2 : x.get R.CQ_SEQX_SEQ = d.get R.CQ_SEQX_SEQ)
    (h3 : x.get R.CQ_COUNTS_EXEC = d.get R.CQ_COUNTS_EXEC) (hb : x.ring.batch = d.ring.batch) (detail : Nat) :
    d.endsOk (x.cqSync e csOk detail) e detail := by
  obtain ⟨⟨p1, p2, p3⟩, hr⟩ := Dev.cqSync_ends hs e csOk detail
  refine ⟨⟨by rw [p1, h1], by rw [p2, h2], by rw [p3, h3]⟩, ?_⟩
  rw [hr]
  simp only [bne_self_eq_false, Bool.or_false, Dev.batchWith, hb]

theorem Dev.cqSync_bad {d x : Dev} (hs : x.st ≠ stHalted) {e : List Byte}
    (h1 : x.get R.CQ_CI_INDEX = d.get R.CQ_CI_INDEX) (h2 : x.get R.CQ_SEQX_SEQ = d.get R.CQ_SEQX_SEQ)
    (h3 : x.get R.CQ_COUNTS_EXEC = d.get R.CQ_COUNTS_EXEC) {status : Nat} (hne : status ≠ csOk) (detail : Nat) :
    d.endsBad (x.cqSync e status detail) e := by
  obtain ⟨⟨p1, p2, p3⟩, hr⟩ := Dev.cqSync_ends hs e status detail
  refine ⟨⟨by rw [p1, h1], by rw [p2, h2], by rw [p3, h3]⟩, ?_⟩
  have hc : (bitOf (eFlags e) 6 || status != csOk) = true := by simp [hne]
  rw [hr]
  simp only [hc, if_true]

theorem Dev.taken_ok {d : Dev} {e : List Byte} (h : d.atFront e) (detail : Nat) :
    d.endsOk (d.taken.cqSync e csOk detail) e detail :=
  Dev.cqSync_ok (x := d.taken) h.2.1 rfl rfl rfl rfl detail

theorem Dev.taken_bad {d : Dev} {e : List Byte} (h : d.atFront e) {status : Nat} (hne : status ≠ csOk) (detail : Nat) :
    d.endsBad (d.taken.cqSync e status detail) e :=
  Dev.cqSync_bad (x := d.taken) h.2.1 rfl rfl rfl hne detail

/-! ### The COMPLETION of an entry of the wrong length -/

theorem entryBytes_length (flags typ tag seq : Nat) (body : List Byte) :
    (entryBytes flags typ tag seq body).length = slotLen (8 + body.length) := by
  unfold entryBytes slotLen
  simp only [List.length_append, List.length_cons, List.length_nil, leBytes_length, List.length_replicate]
  omega

theorem Dev.xwriteWhole_bytes (d : Dev) (o : Nat) (bs : List Byte) : (d.xwriteWhole o bs).xbytes o bs.length = bs :=
  readBytes_writeBytes _ _ _ _

/-- An entry that fits up to the end of the report ring stands at its producer index. -/
theorem Dev.rqEmit_bytes {d : Dev} {r : Report} (hfit : d.get R.RQ_PI_INDEX % d.rqSize + slotLen (8 + r.body.length) ≤ d.rqSize) :
    (d.rqEmit r).xbytes (d.rqBase + d.get R.RQ_PI_INDEX % d.rqSize) (slotLen (8 + r.body.length)) =
      entryBytes (if d.is R.RQ_CTRL_MODE then 0x80 else 0) r.typ r.tag (d.get R.RQ_SEQX_SEQ) r.body := by
  have hpad : d.rqPad (slotLen (8 + r.body.length)) = 0 := if_neg (by omega)
  have hmem : (d.rqEmit r).mem = (d.xwriteWhole (d.rqBase + d.get R.RQ_PI_INDEX % d.rqSize)
      (entryBytes (if d.is R.RQ_CTRL_MODE then 0x80 else 0) r.typ r.tag (d.get R.RQ_SEQX_SEQ) r.body)).mem := by
    unfold Dev.rqEmit
    rw [hpad]
    rfl
  unfold Dev.xbytes
  rw [hmem, ← entryBytes_length (if d.is R.RQ_CTRL_MODE then 0x80 else 0) r.typ r.tag (d.get R.RQ_SEQX_SEQ) r.body]
  exact Dev.xwriteWhole_bytes _ _ _

/-- What the writer of the report ring looks at. -/
structure Dev.SameWriter (d t : Dev) : Prop where
  get : ∀ f : Field, f ∈ [R.RQ_GEOM_SZ, R.RQ_GEOM_BASE, R.RQ_PI_INDEX, R.RQ_SEQX_SEQ, R.RQ_CTRL_MODE, R.RQ_CTRL_EN] →
    t.get f = d.get f
  st : t.st = d.st
  mode : t.pwr.mode = d.pwr.mode

theorem Dev.Keeps.sameWriter {w : Dev.Scope} {d t : Dev} (h : Dev.Keeps w d t) (hp : w.pwr = false := by rfl)
    (hg : ∀ a ∈ [R.SYS_STATUS, R.RQ_GEOM, R.RQ_PI, R.RQ_SEQX, R.RQ_CTRL], w.has a = false := by decide) : d.SameWriter t where
  get := fun f hf => h.get (hg f.addr (by
    have hall : ∀ f ∈ [R.RQ_GEOM_SZ, R.RQ_GEOM_BASE, R.RQ_PI_INDEX, R.RQ_SEQX_SEQ, R.RQ_CTRL_MODE, R.RQ_CTRL_EN],
        f.addr ∈ [R.SYS_STATUS, R.RQ_GEOM, R.RQ_PI, R.RQ_SEQX, R.RQ_CTRL] := by decide
    exact hall f hf))
  st := h.st (hg _ (by decide))
  mode := by rw [h.pwr hp]

theorem Dev.SameWriter.is {d t : Dev} (h : d.SameWriter t) (f : Field)
    (hf : f ∈ [R.RQ_GEOM_SZ, R.RQ_GEOM_BASE, R.RQ_PI_INDEX, R.RQ_SEQX_SEQ, R.RQ_CTRL_MODE, R.RQ_CTRL_EN]) :
    t.is f = d.is f := by
  unfold Dev.is
  rw [h.get f hf]

theorem Dev.SameWriter.rqRuns {d t : Dev} (h : d.SameWriter t) : t.rqRuns = d.rqRuns := by
  unfold Dev.rqRuns
  rw [h.is _ (by decide), h.st, h.mode]

/-- A COMPLETION that the running writer has room for before the ring's end stands at the producer index. -/
theorem Dev.complete_bytes {d x : Dev} (hx : d.SameWriter x) (hr : d.rqRuns = true)
    (hfit : d.get R.RQ_PI_INDEX % d.rqSize + 16 ≤ d.rqSize) (tag status op count detail seq : Nat) :
    (x.complete tag status op count detail seq).xbytes (d.rqBase + d.get R.RQ_PI_INDEX % d.rqSize) 16 =
      entryBytes (if d.is R.RQ_CTRL_MODE then 0x80 else 0) 0x80 tag (d.get R.RQ_SEQX_SEQ)
        (completion tag status op count detail seq).body := by
  have hrun : x.rqRuns = true := hx.rqRuns.trans hr
  have hgo : ¬ (x.st = stHalted ∨ x.pwr.mode = 2) := by
    unfold Dev.rqRuns at hrun
    simp only [Bool.and_eq_true, bne_iff_ne, ne_eq] at hrun
    obtain ⟨⟨-, h1⟩, h2⟩ := hrun
    exact not_or.mpr ⟨h1, h2⟩
  have hcm : x.complete tag status op count detail seq =
      (x.put R.RQ_STATUS_HELD (x.get R.RQ_STATUS_HELD - 1)).rqEmit (completion tag status op count detail seq) := by
    unfold Dev.complete
    rw [if_neg hgo, if_pos hrun]
  have hk : Dev.Keeps { regs := [R.RQ_STATUS] } x (x.put R.RQ_STATUS_HELD (x.get R.RQ_STATUS_HELD - 1)) := Dev.Keeps.refl.put
  have hp := hk.sameWriter
  rw [hcm]
  generalize x.put R.RQ_STATUS_HELD (x.get R.RQ_STATUS_HELD - 1) = y at hp ⊢
  have hpi : y.get R.RQ_PI_INDEX = d.get R.RQ_PI_INDEX := (hp.get _ (by decide)).trans (hx.get _ (by decide))
  have hsz : y.rqSize = d.rqSize := congrArg (2 ^ ·) ((hp.get _ (by decide)).trans (hx.get _ (by decide)))
  have hbase : y.rqBase = d.rqBase := (hp.get _ (by decide)).trans (hx.get _ (by decide))
  have hmode : y.is R.RQ_CTRL_MODE = d.is R.RQ_CTRL_MODE := (hp.is _ (by decide)).trans (hx.is _ (by decide))
  have hseq : y.get R.RQ_SEQX_SEQ = d.get R.RQ_SEQX_SEQ := (hp.get _ (by decide)).trans (hx.get _ (by decide))
  have hlen : slotLen (8 + (completion tag status op count detail seq).body.length) = 16 := by
    simp [completion, slotLen]
  have := Dev.rqEmit_bytes (d := y) (r := completion tag status op count detail seq) (by rw [hlen, hpi, hsz]; exact hfit)
  rw [hlen, hpi, hsz, hbase, hmode, hseq] at this
  exact this

/-- An entry that ends with an error and opens no batch writes its COMPLETION at once. -/
theorem Dev.cqSync_bytes {d : Dev} {e : List Byte} (h : d.atFront e) (hr : d.rqRuns = true) (hb : d.ring.batch = none)
    (hfit : d.get R.RQ_PI_INDEX % d.rqSize + 16 ≤ d.rqSize) {status : Nat}
    (hne : status ≠ csOk) (detail : Nat) :
    (d.taken.cqSync e status detail).xbytes (d.rqBase + d.get R.RQ_PI_INDEX % d.rqSize) 16 =
      entryBytes (if d.is R.RQ_CTRL_MODE then 0x80 else 0) 0x80 (eTag e) (d.get R.RQ_SEQX_SEQ)
        (completion (eTag e) status (eOp e) 1 detail (eSeq e)).body := by
  have hk : Dev.Keeps { mem := true, ring := true, regs := [R.RQ_STATUS, R.XR_ECCSB, R.XR_ECCDB, R.CQ_CI, R.CQ_SEQX, R.CQ_COUNTS] }
      d (d.taken.joined e detail) := by
    have h1 : Dev.Keeps { ring := true } d d.taken := Dev.Keeps.refl.upd (ring := nofun)
    exact ((Dev.Keeps.refl.step (by decide) h1).batchJoin).cqPass
  have hring : (d.taken.joined e detail).ring.batch = some ⟨1, eTag e, eOp e, eSeq e, detail⟩ := by
    rw [Dev.joined_ring]
    simp only [Dev.batchWith, Dev.taken, hb]
    rfl
  have hc : (bitOf (eFlags e) 6 || status != csOk) = true := by simp [hne]
  rw [Dev.cqSync_eq (d := d.taken) h.2.1, if_pos hc]
  have hclose : (d.taken.joined e detail).batchClose status =
      ({ d.taken.joined e detail with ring := { (d.taken.joined e detail).ring with batch := none } } : Dev).complete
        (eTag e) status (eOp e) 1 detail (eSeq e) := by
    unfold Dev.batchClose
    rw [hring]
  rw [hclose]
  refine Dev.complete_bytes ?_ hr hfit _ _ _ _ _ _
  exact (hk.upd (ring := nofun)).sameWriter

/-! ### PAD and NOP -/

theorem Dev.cqPass_quiet {d : Dev} (hm : d.is R.CQ_CTRL_MODE = false) (flags slot : Nat) :
    Dev.Keeps { regs := [R.CQ_CI, R.CQ_SEQX, R.CQ_COUNTS] } d (d.cqPass flags slot) := by
  unfold Dev.cqPass
  extract_lets ci d1
  have h1 : d1 = d := by simp only [d1, hm, Bool.false_eq_true, if_false]
  rw [h1]
  exact Dev.Keeps.refl.put.put.incWrap

/-- An entry that only ends and asks for no COMPLETION, in INDEX mode. -/
theorem Dev.taken_quiet {d : Dev} {e : List Byte} (h : d.atFront e) (h6 : bitOf (eFlags e) 6 = false)
    (hm : d.is R.CQ_CTRL_MODE = false) (detail : Nat) :
    (d.taken.cqSync e csOk detail).ring = { d.taken.ring with batch := (d.taken.cqSync e csOk detail).ring.batch } ∧
    d.butRegs { d.taken.cqSync e csOk detail with ring := d.ring } [R.CQ_CI, R.CQ_SEQX, R.CQ_COUNTS, R.RQ_STATUS] := by
  have hq : d.taken.cqSync e csOk detail = d.taken.joined e detail := by
    rw [Dev.cqSync_eq (d := d.taken) h.2.1, h6]
    rfl
  rw [hq]
  refine ⟨by rw [Dev.joined_ring], ?_⟩
  have h1 : Dev.Keeps { ring := true, regs := [R.CQ_CI, R.CQ_SEQX, R.CQ_COUNTS, R.RQ_STATUS] } d
      (d.taken.batchJoin (eOp e) (eTag e) (eSeq e) detail) :=
    (Dev.Keeps.refl.step (by decide) (Dev.Keeps.refl.upd (ring := nofun) : Dev.Keeps { ring := true } d d.taken)).batchJoin
  have h2 : Dev.Keeps { ring := true, regs := [R.CQ_CI, R.CQ_SEQX, R.CQ_COUNTS, R.RQ_STATUS] } d (d.taken.joined e detail) := by
    refine h1.step (by decide) (Dev.cqPass_quiet ?_ _ _)
    rw [(Dev.Keeps.refl.batchJoin : Dev.Keeps Dev.batchJoinScope d.taken _).is]
    exact hm
  exact h2.restored

/-- What a command does that only ends. -/
theorem onlyEnds_of {e : List Byte} {c : Instr} {op : Nat}
    (hexec : ∀ s, exec c s = act s (fun d => d.cqRun (isOp op) (fun d e => d.cqSync e csOk 0))) :
    Leaves c (fun d => d.atFront e ∧ eOp e = op) (fun d t => d.endsOk t e 0) ∧
    Leaves c (fun d => d.atFront e ∧ eOp e = op ∧ bitOf (eFlags e) 6 = false ∧ d.is R.CQ_CTRL_MODE = false)
      (fun d t => d.endsOk t e 0 ∧ t.ring = { d.taken.ring with batch := t.ring.batch } ∧
        d.butRegs { t with ring := d.ring } [R.CQ_CI, R.CQ_SEQX, R.CQ_COUNTS, R.RQ_STATUS]) := by
  refine ⟨leaves_of_act hexec fun d _ h => ?_, leaves_of_act hexec fun d _ h => ?_⟩
  · obtain ⟨hf, ho⟩ := h
    rw [Dev.cqRun_front hf (by simp [isOp, ho])]
    exact Dev.taken_ok hf 0
  · obtain ⟨hf, ho, h6, hm⟩ := h
    rw [Dev.cqRun_front hf (by simp [isOp, ho])]
    exact ⟨Dev.taken_ok hf 0, Dev.taken_quiet hf h6 hm 0⟩

/-! ### Entries of the wrong length -/

/-- What a command does at an entry of the wrong length. -/
theorem badLength_of {e : List Byte} {c : Instr} {op len : Nat} {f : Dev → Dev} (hexec : ∀ s, exec c s = act s f)
    (hf : ∀ d, d.atFront e → eOp e = op → eLen e ≠ len → f d = d.taken.cqSync e csBadLen 0) :
    Leaves c (fun d => d.atFront e ∧ eOp e = op ∧ eLen e ≠ len) (fun d t => d.endsBad t e) ∧
    Leaves c (fun d => d.atFront e ∧ eOp e = op ∧ eLen e ≠ len ∧ d.rqRuns = true ∧ d.ring.batch = none ∧
        d.is R.CQ_CTRL_MODE = false ∧ d.get R.RQ_PI_INDEX % d.rqSize + 16 ≤ d.rqSize)
      (fun d t => t.xbytes (d.rqBase + d.get R.RQ_PI_INDEX % d.rqSize) 16 =
        entryBytes (if d.is R.RQ_CTRL_MODE then 0x80 else 0) 0x80 (eTag e) (d.get R.RQ_SEQX_SEQ)
          (completion (eTag e) 1 op 1 0 (eSeq e)).body) := by
  refine ⟨leaves_of_act hexec fun d _ h => ?_, leaves_of_act hexec fun d _ h => ?_⟩
  · obtain ⟨ha, ho, hl⟩ := h
    rw [hf d ha ho hl]
    exact Dev.taken_bad ha (by decide) 0
  · obtain ⟨ha, ho, hl, hr, hb, -, hfit⟩ := h
    rw [hf d ha ho hl, ← ho]
    exact Dev.cqSync_bytes ha hr hb hfit (by decide) 0

/-- A command whose body begins with the checks of its entry ends an entry of the wrong length. -/
theorem Dev.cqRun_badLen {d : Dev} {e : List Byte} (ha : d.atFront e) {op len : Nat} (ho : eOp e = op) (hl : eLen e ≠ len)
    (states : List Nat) (one : Bool) (body : List Byte → Dev → Dev) :
    d.cqRun (isOp op) (fun d e => d.cqChecked e len states one (body e)) = d.taken.cqSync e csBadLen 0 :=
  (Dev.cqRun_front ha (by simp [isOp, ho]) _).trans (Dev.cqChecked_len states one hl _)

/-- No host write races with a PROG_VERIFY of the wrong length. -/
theorem Dev.verifyWhile_badLen {d : Dev} {e : List Byte} (ha : d.atFront e) (ho : eOp e = 0x11) (hl : eLen e ≠ 2) :
    d.verifyWhile = d.taken.cqSync e csBadLen 0 := by
  have hrace : d.shadowRace = false := by
    have hrun : d.cqRuns (fun e => isOp 0x11 e && eLen e == 2) = false := by
      unfold Dev.cqRuns
      rw [ha.1]
      simp [hl]
    unfold Dev.shadowRace
    simp only [hrun, Bool.false_and]
  unfold Dev.verifyWhile
  rw [hrace, if_neg Bool.false_ne_true]
  exact Dev.cqRun_badLen ha ho hl _ _ _

/-! ### FENCE -/

/-- The end of a FENCE: its slot is passed, and its entry of the batch gets the detail. -/
theorem Dev.fenceEnd_spec {d : Dev} {f : Fence} (hf : d.ring.fence = some f) (status detail : Nat) :
    (d.fenceEnd status detail).get R.CQ_CI_INDEX = (d.get R.CQ_CI_INDEX + f.slot) % 65536 ∧
    (d.fenceEnd status detail).get R.CQ_SEQX_SEQ = (d.get R.CQ_SEQX_SEQ + 1) % 256 ∧
    (d.fenceEnd status detail).get R.CQ_COUNTS_EXEC = (d.get R.CQ_COUNTS_EXEC + 1) % 65536 ∧
    (d.fenceEnd status detail).ring = { d.ring with
      fence := none
      batch := if bitOf f.flags 6 || status != csOk then none else d.ring.batch.map (fun b => { b with detail := detail })
      unread := (d.fenceEnd status detail).ring.unread
      waiting := (d.fenceEnd status detail).ring.waiting } := by
  have heq : d.fenceEnd status detail =
      if bitOf f.flags 6 || status != csOk then
        (({ d with ring := { d.ring with fence := none, batch := d.ring.batch.map (fun (b : Batch) => { b with detail := detail }) } }
          : Dev).cqPass f.flags f.slot).batchClose status
      else ({ d with ring := { d.ring with fence := none, batch := d.ring.batch.map (fun (b : Batch) => { b with detail := detail }) } }
          : Dev).cqPass f.flags f.slot := by
    unfold Dev.fenceEnd
    rw [hf]
  rw [heq]
  generalize hx : ({ d with ring := { d.ring with fence := none, batch := d.ring.batch.map (fun (b : Batch) =>
    { b with detail := detail }) } } : Dev) = x
  have hget : ∀ g : Field, x.get g = d.get g := fun g => by rw [← hx]; rfl
  have hring : x.ring = { d.ring with fence := none, batch := d.ring.batch.map (fun (b : Batch) => { b with detail := detail }) } := by
    rw [← hx]
  obtain ⟨h1, h2, h3⟩ := x.cqPass_indices f.flags f.slot
  have hr := x.cqPass_ring f.flags f.slot
  rw [hget] at h1 h2 h3
  split
  · have hk : Dev.Keeps Dev.batchCloseScope (x.cqPass f.flags f.slot) _ := Dev.Keeps.refl.batchClose (status := status)
    refine ⟨hk.get.trans h1, hk.get.trans h2, hk.get.trans h3, ?_⟩
    rw [Dev.batchClose_ring, hr, hring]
  · refine ⟨h1, h2, h3, ?_⟩
    rw [hr, hring]

/-- The device in which a FENCE that was at the front waits. -/
def Dev.fenced (d : Dev) (e : List Byte) : Dev :=
  let t := d.taken.batchJoin 0xF0 (eTag e) (eSeq e) 0
  { t with ring := { t.ring with fence := some ⟨eFlags e, eSlot e, bitOf (eAt e 8 1) 0, eAt e 10 2, t.clock⟩ } }

theorem Dev.cmdFence_eq {d : Dev} {e : List Byte} (ha : d.atFront e) (ho : eOp e = 0xF0) (hl : eLen e = 4) : d.cmdFence =
    if (d.fenced e).fenceDone && !(bitOf (eAt e 8 1) 0 && (d.fenced e).ticking) then (d.fenced e).fenceEnd csOk 0
    else d.fenced e := by
  unfold Dev.cmdFence
  rw [Dev.cqRun_front ha (by simp [isOp, ho]), Dev.cqChecked_ok hl (.inl rfl) (fun h => absurd h Bool.false_ne_true)]
  rfl

theorem Dev.fenced_keeps (d : Dev) (e : List Byte) : Dev.Keeps { ring := true, regs := [R.RQ_STATUS] } d (d.fenced e) :=
  ((Dev.Keeps.refl.step (by decide) (Dev.Keeps.refl.upd (ring := nofun) : Dev.Keeps { ring := true } d d.taken)).batchJoin).upd
    (ring := nofun)

theorem Dev.fenced_ring (d : Dev) (e : List Byte) : (d.fenced e).ring = { d.taken.ring with
    batch := some (d.batchWith 0xF0 (eTag e) (eSeq e) 0)
    fence := some ⟨eFlags e, eSlot e, bitOf (eAt e 8 1) 0, eAt e 10 2, d.clock⟩ } := by
  have h := Dev.batchJoin_ring d.taken 0xF0 (eTag e) (eSeq e) 0
  have hclock : (d.taken.batchJoin 0xF0 (eTag e) (eSeq e) 0).clock = d.clock :=
    (Dev.Keeps.refl.batchJoin : Dev.Keeps Dev.batchJoinScope d.taken _).clock rfl
  unfold Dev.fenced
  simp only [h, hclock]
  rfl

theorem Dev.fenceDone_iff {d : Dev} {f : Fence} (hf : d.ring.fence = some f) :
    d.fenceDone = true ↔ d.ring.asyncs = [] ∧ ∀ r ∈ d.ring.waiting, r.typ ≠ 0x80 := by
  unfold Dev.fenceDone
  simp [hf]

/-- A FENCE at the front with nothing in flight ends. -/
theorem Dev.cmdFence_ends {d : Dev} {e : List Byte} (ha : d.atFront e) (ho : eOp e = 0xF0) (hl : eLen e = 4)
    (hs : d.ring.asyncs = []) (hw : d.ring.waiting = []) (ht : bitOf (eAt e 8 1) 0 = false ∨ d.ticking = false) :
    d.endsOk d.cmdFence e 0 ∧ d.cmdFence.ring.fence = none := by
  have hring := d.fenced_ring e
  have hk := d.fenced_keeps e
  have hdone : (d.fenced e).fenceDone = true := (Dev.fenceDone_iff (by rw [hring])).mpr
    ⟨by rw [hring]; exact hs, by rw [hring]; simp only [Dev.taken, hw, List.not_mem_nil, false_implies, implies_true]⟩
  have hgo : ((d.fenced e).fenceDone && !(bitOf (eAt e 8 1) 0 && (d.fenced e).ticking)) = true := by
    rw [hdone, hk.ticking]
    rcases ht with ht | ht <;> simp [ht]
  rw [Dev.cmdFence_eq ha ho hl, if_pos hgo]
  obtain ⟨h1, h2, h3, h4⟩ := Dev.fenceEnd_spec (d := d.fenced e) (by rw [hring]) csOk 0
  rw [hk.get] at h1 h2 h3
  refine ⟨⟨⟨h1, h2, h3⟩, ?_⟩, by rw [h4]⟩
  rw [h4, hring]
  simp only [bne_self_eq_false, Bool.or_false, Option.map_some, ho]
  rfl

/-- A FENCE at the front waits while something is in flight, or for its tick. -/
theorem Dev.cmdFence_waits {d : Dev} {e : List Byte} (ha : d.atFront e) (ho : eOp e = 0xF0) (hl : eLen e = 4)
    (hs : d.ring.asyncs ≠ [] ∨ (bitOf (eAt e 8 1) 0 = true ∧ d.ticking = true)) : d.cmdFence = d.fenced e := by
  have hring := d.fenced_ring e
  have hstay : ((d.fenced e).fenceDone && !(bitOf (eAt e 8 1) 0 && (d.fenced e).ticking)) = false := by
    rcases hs with hs | ⟨h1, h2⟩
    · have : (d.fenced e).fenceDone = false := by
        rw [Bool.eq_false_iff, ne_eq, Dev.fenceDone_iff (by rw [hring]), hring]
        exact fun h => hs h.1
      rw [this, Bool.false_and]
    · rw [(d.fenced_keeps e).ticking, h1, h2]
      simp
  rw [Dev.cmdFence_eq ha ho hl, hstay, if_neg Bool.false_ne_true]

theorem Dev.fenceRelease_eq {d : Dev} {f : Fence} (hf : d.ring.fence = some f) : d.fenceRelease =
    if d.fenceDone && !(f.atTick && d.ticking) then d.fenceEnd csOk 0 else d := by
  unfold Dev.fenceRelease
  rw [hf]

theorem Dev.fenceTimeout_eq {d : Dev} {f : Fence} (hf : d.ring.fence = some f) : d.fenceTimeout =
    if f.timeout = 0 ∨ d.clock < f.from_ + 1000 * f.timeout then d else d.fenceEnd csTimeout d.ring.asyncs.length := by
  unfold Dev.fenceTimeout
  rw [hf]

/-! ### The statement -/

/-- Settles O47: each command ends through `Dev.cqSync_ends`, and a FENCE through `Dev.fenceEnd_spec`. -/
theorem ringCommandsEnd : Obligations.RingCommandsEnd := by
  unfold Obligations.RingCommandsEnd
  refine ⟨fun e c op hc => ?_, fun e c op len hc => ?_, fun e => ⟨?_, ?_⟩, fun f => ⟨?_, ?_, ?_, ?_⟩⟩
  · simp only [List.mem_cons, Prod.mk.injEq, List.not_mem_nil, or_false] at hc
    obtain ⟨rfl, rfl⟩ | ⟨rfl, rfl⟩ := hc
    · exact onlyEnds_of fun _ => rfl
    · exact onlyEnds_of fun _ => rfl
  · simp only [List.mem_cons, Prod.mk.injEq, List.not_mem_nil, or_false] at hc
    obtain ⟨rfl, rfl, rfl⟩ | ⟨rfl, rfl, rfl⟩ | ⟨rfl, rfl, rfl⟩ | ⟨rfl, rfl, rfl⟩ | ⟨rfl, rfl, rfl⟩ | ⟨rfl, rfl, rfl⟩ |
      ⟨rfl, rfl, rfl⟩ | ⟨rfl, rfl, rfl⟩ | ⟨rfl, rfl, rfl⟩ | ⟨rfl, rfl, rfl⟩ | ⟨rfl, rfl, rfl⟩ | ⟨rfl, rfl, rfl⟩ |
      ⟨rfl, rfl, rfl⟩ := hc
    case inr.inl => exact badLength_of (fun _ => rfl) fun d ha ho hl => Dev.verifyWhile_badLen ha ho hl
    all_goals exact badLength_of (fun _ => rfl) fun d ha ho hl => Dev.cqRun_badLen ha ho hl _ _ _
  · refine leaves_of_act (f := fun d => d.cmdFence) (fun _ => rfl) fun d _ h => ?_
    obtain ⟨⟨ha, ho, hl⟩, hs, hw, ht⟩ := h
    exact Dev.cmdFence_ends ha ho hl hs hw ht
  · refine leaves_of_act (f := fun d => d.cmdFence) (fun _ => rfl) fun d _ h => ?_
    obtain ⟨⟨ha, ho, hl⟩, hs⟩ := h
    rw [Dev.cmdFence_waits ha ho hl hs, Dev.fenced_ring, (d.fenced_keeps e).get]
    exact ⟨rfl, rfl, rfl⟩
  · refine leaves_of_act (f := fun d => d.fenceRelease) (fun _ => rfl) fun d _ h => ?_
    obtain ⟨hf, hs, hw, ht⟩ := h
    have hdone : d.fenceDone = true := (Dev.fenceDone_iff hf).mpr ⟨hs, by simp [hw]⟩
    have hgo : (d.fenceDone && !(f.atTick && d.ticking)) = true := by
      rw [hdone]
      rcases ht with ht | ht <;> simp [ht]
    rw [Dev.fenceRelease_eq hf, if_pos hgo]
    obtain ⟨h1, h2, -, h4⟩ := Dev.fenceEnd_spec hf csOk 0
    exact ⟨by rw [h4], h1, h2, by rw [h4]⟩
  · refine does_of_act (f := fun d => d.fenceRelease) (fun _ => rfl) fun d _ h => ?_
    obtain ⟨hf, hs⟩ := h
    rw [Dev.fenceRelease_eq hf, if_neg]
    rw [Bool.and_eq_true, Dev.fenceDone_iff hf]
    rcases hs with hs | ⟨h1, h2⟩
    · exact fun h => hs h.1.1
    · simp [h1, h2]
  · refine leaves_of_act (f := fun d => d.fenceTimeout) (fun _ => rfl) fun d _ h => ?_
    obtain ⟨hf, h0, hc⟩ := h
    rw [Dev.fenceTimeout_eq hf, if_neg (by omega)]
    obtain ⟨h1, h2, -, h4⟩ := Dev.fenceEnd_spec hf csTimeout d.ring.asyncs.length
    refine ⟨⟨by rw [h4], h1, h2, by rw [h4]⟩, rfl, ?_⟩
    rw [h4]
    simp only [show (csTimeout != csOk) = true from rfl, Bool.or_true, if_true]
  · refine does_of_act (f := fun d => d.fenceTimeout) (fun _ => rfl) fun d _ h => ?_
    obtain ⟨hf, hc⟩ := h
    rw [Dev.fenceTimeout_eq hf, if_pos hc]

end Sys2Proof.Machine

end

section
/-!
Proofs for the program and calibration commands (chapter 15): the statement O48, refuted.
-/

namespace Sys2Proof.Machine
set_option Elab.async false

/-- The word of PROG_SWAP: opcode 0x12, two words long. -/
def swapEntry : List Byte := [0, 0x12, 2, 0, 0, 0, 0, 0]

/-- An image with one preset entry, for a timer 132 that does not exist: its configuration lies at GPIO_SWAPST. -/
def strayImage : Image := ⟨[], [132, 0, 0, 0, 0, 0, 0, 0], [], 0⟩

/-- A device off line that holds the image as loaded and verified, with PROG_SWAP at the front of its queue. -/
def Dev.strayPreset : Dev :=
  { (Dev.reset.put R.SEQ_STATUS_SLOADED 1).put R.SEQ_STATUS_SVERIFIED 1 with
    sys := { Dev.reset.sys with inReset := false }
    seq := { Dev.reset.seq with shadow := some strayImage }
    ring := { Ring.reset with established := [swapEntry], batch := some ⟨0, 0, 0, 0, 0⟩ } }

/-- Refutes O48, by PROG_SWAP off line: nothing bounds the timers that the presets of the image name, and the entry for
timer 132 clears GPIO_SWAPST after the swap has set it. -/
theorem not_programAndCalibrationCommands : ¬ Obligations.ProgramAndCalibrationCommands := by
  intro h
  obtain ⟨-, -, -, -, hswap, -⟩ := h
  have hfront : Dev.strayPreset.atFront swapEntry :=
    ⟨rfl, by decide +kernel, by decide +kernel, rfl, rfl, .inl rfl⟩
  obtain ⟨t, he, -, -, -, -, -, -, -, -, hst⟩ := hswap strayImage swapEntry ⟨[], Dev.strayPreset⟩ rfl
    ⟨hfront, by decide, by decide, rfl, rfl, by decide +kernel, by decide +kernel, rfl⟩
  rw [show exec .progSwap ⟨[], Dev.strayPreset⟩ = act ⟨[], Dev.strayPreset⟩ (fun d => d.cmdProgSwap) from rfl, act_live rfl] at he
  have ht : t = ⟨[], Dev.strayPreset.cmdProgSwap⟩ := (Host.Outcome.next.inj he).symm
  rw [ht] at hst
  revert hst
  decide +kernel

end Sys2Proof.Machine

end

section
/-!
Rules for the commands of the ring that later proofs use: commands in flight, reports, and staged registers.
-/

namespace Sys2Proof.Machine
set_option Elab.async false

/-! ### A command at the front -/

theorem executesTo_of {c : Instr} {op len : Nat} {p : List Byte → Dev → Prop} {q : List Byte → Dev → Dev → Prop}
    {body : Dev → List Byte → Dev} (he : ∀ s, exec c s = act s (fun d => d.cqRun (isOp op) body))
    (h : ∀ e d, d.atFront e → eOp e = op → eLen e = len → p e d → q e d (body d.taken e)) : ExecutesTo c op len p q := by
  refine fun e => leaves_of_act he fun d _ hp => ?_
  obtain ⟨ha, ho, hl, hp⟩ := hp
  rw [Dev.cqRun_front ha (by simp [isOp, ho])]
  exact h e d ha ho hl hp

/-- An entry that ends after work that left the indices and the batch as they were. -/
theorem Dev.Keeps.endsOk {w : Dev.Scope} {d x : Dev} {e : List Byte} (h : Dev.Keeps w d.taken x) (ha : d.atFront e)
    (hb : x.ring.batch = d.ring.batch) (detail : Nat) (h0 : w.has R.SYS_STATUS = false := by decide)
    (h1 : w.has R.CQ_CI = false := by decide) (h2 : w.has R.CQ_SEQX = false := by decide)
    (h3 : w.has R.CQ_COUNTS = false := by decide) : d.endsOk (x.cqSync e csOk detail) e detail :=
  Dev.cqSync_ok ((h.st h0).trans_ne ha.2.1) (h.get h1) (h.get h2) (h.get h3) hb detail

/-! ### Commands in flight -/

/-- The record of a command that goes on after its slot. -/
theorem Dev.inFlight_eq (d : Dev) (e : List Byte) (arg : Nat) :
    d.inFlight e arg = ⟨eOp e, eTag e, eSeq e, (d.ring.batch.map (·.count)).getD 0 + 1, arg⟩ := by
  unfold Dev.inFlight Dev.cqAsync Dev.asyncStart
  cases d.ring.batch with
  | none => rfl
  | some b => rfl

theorem Dev.asyncStart_ring (d : Dev) (op tag seq arg : Nat) : (d.asyncStart op tag seq arg).2.ring =
    { d.ring with batch := none
                  asyncs := d.ring.asyncs ++ [⟨op, tag, seq, (d.ring.batch.map (·.count)).getD 0 + 1, arg⟩] } := by
  unfold Dev.asyncStart
  cases hb : d.ring.batch with
  | none => simp [Dev.put, Dev.setReg, hb]
  | some b => rfl

theorem Dev.started_ring (d : Dev) (e : List Byte) (arg : Nat) :
    (d.started e arg).ring = { d.ring with batch := none, asyncs := d.ring.asyncs ++ [d.inFlight e arg] } := by
  rw [Dev.inFlight_eq]
  have h : (d.started e arg).ring = (d.asyncStart (eOp e) (eTag e) (eSeq e) arg).2.ring := Dev.cqPass_ring _ _ _
  rw [h, Dev.asyncStart_ring]

theorem Dev.started_keeps (d : Dev) (e : List Byte) (arg : Nat) : Dev.Keeps Dev.cqAsyncScope d (d.started e arg) :=
  Dev.Keeps.refl.cqAsync

theorem Dev.started_passes (d : Dev) (e : List Byte) (arg : Nat) : d.passes (d.started e arg) e := by
  obtain ⟨h1, h2, h3⟩ := Dev.cqPass_indices (d.asyncStart (eOp e) (eTag e) (eSeq e) arg).2 (eFlags e) (eSlot e)
  have hk : Dev.Keeps Dev.asyncStartScope d (d.asyncStart (eOp e) (eTag e) (eSeq e) arg).2 := Dev.Keeps.refl.asyncStart
  exact ⟨h1.trans (by rw [hk.get]), h2.trans (by rw [hk.get]), h3.trans (by rw [hk.get])⟩

/-- A command goes on after its slot, once work that left the indices, the batch and the commands in flight has been done. -/
theorem Dev.Keeps.inProgress {w : Dev.Scope} {d t : Dev} {e : List Byte} {arg : Nat} (h : Dev.Keeps w (d.taken.started e arg) t)
    (hb : t.ring.batch = none) (hs : t.ring.asyncs = d.ring.asyncs ++ [d.taken.inFlight e arg])
    (h1 : w.has R.CQ_CI = false := by decide) (h2 : w.has R.CQ_SEQX = false := by decide)
    (h3 : w.has R.CQ_COUNTS = false := by decide) : d.inProgress t e := by
  refine ⟨Dev.Keeps.passes h (d.taken.started_passes e arg) h1 h2 h3, hb, d.taken.inFlight e arg, hs, ?_⟩
  rw [Dev.inFlight_eq]
  exact ⟨rfl, rfl, rfl, rfl⟩

/-! ### Reports -/

/-- The rings of `t` have the batch, the fence and the commands in flight of `d`. -/
def Dev.SameWork (d t : Dev) : Prop :=
  t.ring.batch = d.ring.batch ∧ t.ring.asyncs = d.ring.asyncs ∧ t.ring.fence = d.ring.fence ∧
    t.ring.established = d.ring.established

theorem Dev.SameWork.trans {d e t : Dev} (h : d.SameWork e) (h' : e.SameWork t) : d.SameWork t :=
  ⟨h'.1.trans h.1, h'.2.1.trans h.2.1, h'.2.2.1.trans h.2.2.1, h'.2.2.2.trans h.2.2.2⟩

theorem Dev.Keeps.sameWork {w : Dev.Scope} {d t : Dev} (h : Dev.Keeps w d t) (hr : w.ring = false := by rfl) : d.SameWork t := by
  unfold Dev.SameWork
  rw [h.ring hr]
  exact ⟨rfl, rfl, rfl, rfl⟩

theorem Dev.sameWork_complete (d : Dev) (tag status op count detail seq : Nat) :
    d.SameWork (d.complete tag status op count detail seq) := by
  unfold Dev.SameWork
  rw [Dev.complete_ring]
  exact ⟨rfl, rfl, rfl, rfl⟩

theorem Dev.sameWork_rqEmit (d : Dev) (r : Report) : d.SameWork (d.rqEmit r) := by
  unfold Dev.SameWork
  rw [Dev.rqEmit_ring]
  exact ⟨rfl, rfl, rfl, rfl⟩

theorem Dev.sameWork_reclaimAll (n : Nat) (d : Dev) : d.SameWork (d.reclaimAll n) := by
  induction n generalizing d with
  | zero => exact ⟨rfl, rfl, rfl, rfl⟩
  | succ n ih =>
    unfold Dev.reclaimAll
    split
    · exact ⟨rfl, rfl, rfl, rfl⟩
    · have hm : ∀ o, d.SameWork (d.eccMeet clRqw o) := fun o =>
        (Dev.Keeps.refl.eccMeet : Dev.Keeps Dev.eccMeetScope d _).sameWork
      dsimp only
      split
      · exact hm _
      · exact (hm _).trans (Dev.SameWork.trans ⟨rfl, rfl, rfl, rfl⟩ (ih _))

theorem Dev.sameWork_keep (d : Dev) (r : Report) : d.SameWork (d.keep r) := by
  unfold Dev.keep
  dsimp only
  repeat' split
  all_goals exact ⟨rfl, rfl, rfl, rfl⟩

/-- A report changes neither the batch nor the commands in flight. -/
theorem Dev.sameWork_report (d : Dev) (r : Report) : d.SameWork (d.report r) := by
  have hrec : d.SameWork (d.reclaim r) := by
    unfold Dev.reclaim
    split
    · exact (Dev.sameWork_reclaimAll _ d).trans ⟨rfl, rfl, rfl, rfl⟩
    · exact ⟨rfl, rfl, rfl, rfl⟩
  unfold Dev.report
  extract_lets d1
  split
  · exact hrec
  · split
    · exact hrec.trans (Dev.sameWork_rqEmit _ _)
    · exact hrec.trans (Dev.sameWork_keep _ _)

theorem Dev.sameWork_reportWait (d : Dev) (r : Report) : d.SameWork (d.reportWait r) := by
  unfold Dev.reportWait
  split
  · exact Dev.sameWork_report _ _
  · exact ⟨rfl, rfl, rfl, rfl⟩

/-- A command in flight ends: it is taken out, once. -/
theorem Dev.endAsync_ring (d : Dev) (a : Async) (status detail : Nat) :
    (d.endAsync a status detail).ring.batch = d.ring.batch ∧
    (d.endAsync a status detail).ring.asyncs = d.ring.asyncs.erase a := by
  obtain ⟨h1, h2, -, -⟩ := Dev.sameWork_complete d a.tag status a.op a.count detail a.seq
  unfold Dev.endAsync
  exact ⟨h1, congrArg (·.erase a) h2⟩

/-! ### Registers as they will read once what is staged is in force -/

theorem Dev.Keeps.viewReg {w : Dev.Scope} {d t : Dev} (h : Dev.Keeps w d t) {a : Nat} (hs : w.staged = false := by rfl)
    (ha : w.has a = false := by decide) : t.viewReg a = d.viewReg a := by
  unfold Dev.viewReg Dev.stagedAt
  rw [h.staged hs, h.reg a ha]

theorem lookup_filter_ne (a b : Nat) (h : b ≠ a) (l : List (Nat × Word)) :
    (l.filter (fun e => e.1 != a)).lookup b = l.lookup b := by
  induction l with
  | nil => rfl
  | cons e l ih =>
    obtain ⟨k, v⟩ := e
    by_cases hk : k = a
    · have hb : (b == k) = false := by rw [hk]; simpa using h
      rw [List.filter_cons_of_neg (by simp [hk]), ih]
      simp only [List.lookup, hb]
    · rw [List.filter_cons_of_pos (by simpa using hk)]
      simp only [List.lookup, ih]

theorem stagedAt_cons (a b : Nat) (v : Word) (l : List (Nat × Word)) :
    ((a, v) :: l.filter (fun e => e.1 != a)).lookup b = if b = a then some v else l.lookup b := by
  by_cases h : b = a
  · simp [h]
  · have hb : (b == a) = false := by simpa using h
    simp only [List.lookup, hb, if_neg h, lookup_filter_ne a b h]

theorem stagedAt_filter (a b : Nat) (l : List (Nat × Word)) :
    (l.filter (fun e => e.1 != a)).lookup b = if b = a then none else l.lookup b := by
  by_cases h : b = a
  · rw [if_pos h, h, List.lookup_eq_none_iff]
    intro e he
    have hne : e.1 ≠ a := by simpa using (List.mem_filter.mp he).2
    simpa using hne.symm
  · rw [if_neg h, lookup_filter_ne a b h]

theorem and_of_merge (x v m : Word) : ((x &&& ~~~m) ||| (v &&& m)) &&& m = v &&& m := by
  ext i hi
  simp only [BitVec.getElem_and, BitVec.getElem_or, BitVec.getElem_not]
  cases m[i] <;> simp

/-- A register staged, or in force at once, reads as asked in the bits that are staged. -/
theorem Dev.viewReg_stageBusy (d : Dev) (a : Nat) (v : Word) (b : Nat) :
    (b ≠ a → (d.stageBusy a v).viewReg b = d.viewReg b) ∧
    (d.stageBusy a v).viewReg a &&& rwsMask a = v &&& rwsMask a := by
  have hst : ∀ t : Dev, t.staged = (a, v &&& rwsMask a) :: d.staged.filter (fun e => e.1 != a) → (∀ b, t.reg b = d.reg b) →
      (b ≠ a → t.viewReg b = d.viewReg b) ∧ t.viewReg a &&& rwsMask a = v &&& rwsMask a := by
    intro t ht hr
    unfold Dev.viewReg Dev.stagedAt
    rw [ht, stagedAt_cons, stagedAt_cons, if_pos rfl, hr, hr]
    refine ⟨fun hb => by rw [if_neg hb], ?_⟩
    simp only [BitVec.and_assoc, BitVec.and_self, and_of_merge]
  unfold Dev.stageBusy
  split
  · exact hst _ rfl fun _ => rfl
  · unfold Dev.stage
    split
    · exact hst _ rfl fun _ => rfl
    · unfold Dev.viewReg Dev.stagedAt
      dsimp only
      rw [stagedAt_filter, stagedAt_filter, if_pos rfl]
      refine ⟨fun hb => ?_, ?_⟩
      · rw [if_neg hb]
        have hr : ∀ l : List (Nat × Word), ({ d.setReg a (d.reg a &&& ~~~ rwsMask a ||| v &&& rwsMask a) with staged := l } : Dev).reg b
            = d.reg b := fun _ => (Dev.reg_setReg _ _ _ _).trans (if_neg hb)
        rw [hr]
      · have hr : ∀ l : List (Nat × Word), ({ d.setReg a (d.reg a &&& ~~~ rwsMask a ||| v &&& rwsMask a) with staged := l } : Dev).reg a
            = (d.reg a &&& ~~~ rwsMask a ||| v &&& rwsMask a) := fun _ => (Dev.reg_setReg _ _ _ _).trans (if_pos rfl)
        simp only [hr, and_of_merge]

/-- The registers of a list are staged, or written, one after the other. -/
def Dev.stageAll (d : Dev) (ws : List (Nat × Word)) : Dev := ws.foldl (fun d w => d.stageBusy w.1 w.2) d

theorem Dev.viewReg_stageAll (ws : List (Nat × Word)) (hnd : (ws.map (·.1)).Nodup) (d : Dev) :
    (∀ b, b ∉ ws.map (·.1) → (d.stageAll ws).viewReg b = d.viewReg b) ∧
    ∀ w ∈ ws, (d.stageAll ws).viewReg w.1 &&& rwsMask w.1 = w.2 &&& rwsMask w.1 := by
  induction ws generalizing d with
  | nil => exact ⟨fun _ _ => rfl, nofun⟩
  | cons w ws ih =>
    rw [List.map_cons, List.nodup_cons] at hnd
    obtain ⟨h1, h2⟩ := ih hnd.2 (d.stageBusy w.1 w.2)
    refine ⟨fun b hb => ?_, fun x hx => ?_⟩
    · rw [List.map_cons, List.mem_cons, not_or] at hb
      exact (h1 b hb.2).trans ((d.viewReg_stageBusy w.1 w.2 b).1 hb.1)
    · rcases List.mem_cons.mp hx with rfl | hx
      · exact (congrArg (· &&& rwsMask x.1) (h1 _ hnd.1)).trans (d.viewReg_stageBusy x.1 x.2 0).2
      · exact h2 x hx

theorem Dev.Keeps.stageAll {w : Dev.Scope} {d₀ d : Dev} (h : Dev.Keeps w d₀ d) (ws : List (Nat × Word)) (hs : w.staged = true)
    (ha : ∀ x ∈ ws, w.has x.1 = true) : Dev.Keeps w d₀ (d.stageAll ws) := by
  induction ws generalizing d with
  | nil => exact h
  | cons x ws ih =>
    exact ih (h.stageBusy hs (ha x List.mem_cons_self)) fun y hy => ha y (List.mem_cons_of_mem _ hy)

end Sys2Proof.Machine

end

section
/-!
Proofs for the data commands (chapter 15): the statement O49.
-/

namespace Sys2Proof.Machine
set_option Elab.async false

/-! ### What an entry that stays in the batch leaves as it is -/

/-- Neither the batch closes nor the mark of the slot is written: the memory stays as it is. -/
theorem Dev.cqSync_quiet {x : Dev} {e : List Byte} (hs : x.st ≠ stHalted) (h6 : bitOf (eFlags e) 6 = false)
    (hm : x.is R.CQ_CTRL_MODE = false) (detail : Nat) : (x.cqSync e csOk detail).mem = x.mem := by
  have hj : x.cqSync e csOk detail = x.joined e detail := by
    rw [Dev.cqSync_eq hs, h6]
    rfl
  have h1 : Dev.Keeps Dev.batchJoinScope x (x.batchJoin (eOp e) (eTag e) (eSeq e) detail) := Dev.Keeps.refl.batchJoin
  have h2 := Dev.cqPass_quiet (d := x.batchJoin (eOp e) (eTag e) (eSeq e) detail) (h1.is.trans hm) (eFlags e) (eSlot e)
  rw [hj]
  exact (h2.mem rfl).trans (h1.mem rfl)

theorem Dev.eccFree_of_clean {d : Dev} (h : d.xramClean) (o n : Nat) : d.eccFree o n := by
  obtain ⟨h1, h2, h3⟩ := h
  refine ⟨h3, fun w hw => ?_⟩
  rw [h1, h2] at hw
  simp at hw

theorem Dev.xbytes_withXram {d : Dev} {m : List Host.Cell} {o : Nat} {bs : List Byte}
    (hx : ∀ x, sparseGet xramDflt m x = if o ≤ x ∧ x < o + bs.length then bs.getD (x - o) 0 else d.xb x) :
    (d.withXram m).xbytes o bs.length = bs := by
  show readBytes xramDflt m o bs.length = bs
  rw [readBytes_eq_map]
  refine List.ext_getElem (by simp) fun i h1 h2 => ?_
  rw [List.getElem_map, List.getElem_range, hx, if_pos (by omega), Nat.add_sub_cancel_left, List.getD_eq_getElem?_getD,
    List.getElem?_eq_getElem h2]
  rfl

/-- Bytes written to a clean area are there, and nothing else changes but memory. -/
theorem Dev.xwriteEcc_clean {d : Dev} (h : d.xramClean) (client o : Nat) (bs : List Byte) :
    ∃ m, d.xwriteEcc client o bs = d.withXram m ∧ (d.withXram m).xbytes o bs.length = bs := by
  obtain ⟨m, h1, h2⟩ := Dev.xwriteEcc_free (Dev.eccFree_of_clean h o bs.length) client
  exact ⟨m, h1, Dev.xbytes_withXram h2⟩

/-! ### REGION_SET and HOP_TABLE_SET -/

/-- The registers of a region, with what REGION_SET asks for them. -/
def regionWrites (r : Nat × Word × Word × Word) : List (Nat × Word) :=
  [(R.CT_RGX r.1, r.2.1), (R.CT_RGY r.1, r.2.2.1), (R.CT_RGC r.1, r.2.2.2)]

theorem regionsOf_lt {e : List Byte} (h : eAt e 8 1 + eAt e 9 1 ≤ 32) {r : Nat × Word × Word × Word} (hr : r ∈ regionsOf e) :
    r.1 < 32 := by
  unfold regionsOf at hr
  obtain ⟨i, hi, rfl⟩ := List.mem_map.mp hr
  have := List.mem_range.mp hi
  show eAt e 8 1 + i < 32
  omega

theorem regionsOf_nodup (e : List Byte) : ((regionsOf e).map (·.1)).Nodup := by
  unfold regionsOf
  rw [List.map_map]
  exact List.nodup_range.map fun a b (h : eAt e 8 1 + a = eAt e 8 1 + b) => by omega

theorem regionWrites_nodup (l : List (Nat × Word × Word × Word)) (hl : ∀ r ∈ l, r.1 < 32) (hnd : (l.map (·.1)).Nodup) :
    ((l.flatMap regionWrites).map (·.1)).Nodup := by
  induction l with
  | nil => exact List.nodup_nil
  | cons r l ih =>
    rw [List.map_cons, List.nodup_cons] at hnd
    rw [List.flatMap_cons, List.map_append, List.nodup_append]
    have hr := hl r List.mem_cons_self
    refine ⟨?_, ih (fun x hx => hl x (List.mem_cons_of_mem _ hx)) hnd.2, fun a ha b hb => ?_⟩
    · simp only [regionWrites, List.map_cons, List.map_nil, List.nodup_cons, List.mem_cons, List.not_mem_nil, R.CT_RGX, R.CT_RGY,
        R.CT_RGC, or_false, not_false_eq_true, List.nodup_nil, and_true, not_or]
      omega
    · obtain ⟨w, hw, rfl⟩ := List.mem_map.mp hb
      obtain ⟨x, hx, hwx⟩ := List.mem_flatMap.mp hw
      have hxl := hl x (List.mem_cons_of_mem _ hx)
      have hne : x.1 ≠ r.1 := fun h => hnd.1 (h ▸ List.mem_map_of_mem hx)
      simp only [regionWrites, List.map_cons, List.map_nil, List.mem_cons, List.not_mem_nil, or_false] at ha hwx
      rcases ha with rfl | rfl | rfl <;> rcases hwx with rfl | rfl | rfl <;> simp only [R.CT_RGX, R.CT_RGY, R.CT_RGC] <;> omega

theorem regionWrites_addr {r : Nat × Word × Word × Word} (hr : r.1 < 32) {w : Nat × Word} (hw : w ∈ regionWrites r) :
    0x1100 ≤ w.1 ∧ w.1 < 0x1280 := by
  simp only [regionWrites, List.mem_cons, List.not_mem_nil, or_false] at hw
  rcases hw with rfl | rfl | rfl <;> simp only [R.CT_RGX, R.CT_RGY, R.CT_RGC] <;> omega

theorem Dev.regionCause_le (d : Dev) (x y c : Word) {n : Nat} (h : d.regionCause x y c = some n) : n ∈ [1, 2, 3] := by
  unfold Dev.regionCause at h
  generalize (if d.is R.ACQ_ORIENT_SWAPXY then (d.extY, d.extX) else (d.extX, d.extY)) = ext at h
  dsimp only at h
  split_ifs at h
  all_goals
    cases h
    decide

theorem Dev.regionsBad_none_iff (d : Dev) (l : List (Nat × Word × Word × Word)) :
    d.regionsBad l = none ↔ ∀ r ∈ l, d.regionCause r.2.1 r.2.2.1 r.2.2.2 = none := by
  unfold Dev.regionsBad
  simp only [List.findSome?_eq_none_iff, Option.map_eq_none_iff, List.find?_eq_none, beq_iff_eq]
  refine ⟨fun h r hr => ?_, fun h c _ r hr => by simp [h r hr]⟩
  cases hc : d.regionCause r.2.1 r.2.2.1 r.2.2.2 with
  | none => rfl
  | some n => exact absurd hc (h n (d.regionCause_le _ _ _ hc) r hr)

theorem Dev.stageAll_keeps (d : Dev) (ws : List (Nat × Word)) :
    Dev.Keeps { staged := true, regs := ws.map (·.1) } d (d.stageAll ws) :=
  Dev.Keeps.refl.stageAll ws rfl fun w hw => by
    simp only [Dev.Scope.has, List.contains_eq_mem, Bool.or_eq_true, decide_eq_true_eq]
    exact .inl (List.mem_map_of_mem hw)

/-- Registers of the tables only are staged, and the entry ends. -/
theorem Dev.stageAll_endsOk {d : Dev} {e : List Byte} (ha : d.atFront e) {ws : List (Nat × Word)}
    (hw : ∀ w ∈ ws, 0x800 ≤ w.1 ∧ w.1 < 0x3000) : d.endsOk ((d.taken.stageAll ws).cqSync e csOk 0) e 0 := by
  have hfree : ∀ a, a < 0x800 ∨ 0x3000 ≤ a → ({ staged := true, regs := ws.map (·.1) } : Dev.Scope).has a = false := by
    intro a h
    simp only [Dev.Scope.has, List.contains_eq_mem, List.any_nil, Bool.or_false, decide_eq_false_iff_not]
    intro hm
    obtain ⟨w, hm', rfl⟩ := List.mem_map.mp hm
    have := hw w hm'
    omega
  have hk := d.taken.stageAll_keeps ws
  exact hk.endsOk ha (by rw [hk.ring rfl]; rfl) 0 (hfree _ (.inl (by decide))) (hfree _ (.inr (by decide))) (hfree _ (.inr (by decide)))
    (hfree _ (.inr (by decide)))

theorem regionFold_eq (l : List (Nat × Word × Word × Word)) (d : Dev) :
    l.foldl (fun (d : Dev) r =>
      ((d.stageBusy (R.CT_RGX r.1) r.2.1).stageBusy (R.CT_RGY r.1) r.2.2.1).stageBusy (R.CT_RGC r.1) r.2.2.2) d =
    d.stageAll (l.flatMap regionWrites) := by
  unfold Dev.stageAll
  rw [List.foldl_flatMap]
  rfl

/-- What the registers staged by a command read as after its end. -/
theorem Dev.viewReg_ended {d x : Dev} {e : List Byte} {ws : List (Nat × Word)} (hnd : (ws.map (·.1)).Nodup) (hx : x = d.stageAll ws)
    (hlow : ∀ w ∈ ws, w.1 < 0x3000) (status detail : Nat) :
    ∀ w ∈ ws, (x.cqSync e status detail).viewReg w.1 &&& rwsMask w.1 = w.2 &&& rwsMask w.1 := by
  intro w hw
  have hfree : ∀ a, a < 0x3000 → Dev.cqSyncScope.has a = false := by
    intro a ha
    simp only [Dev.Scope.has, List.contains_cons, List.contains_nil, List.any_nil, Bool.or_false, Bool.or_eq_false_iff,
      beq_eq_false_iff_ne, ne_eq]
    refine ⟨?_, ?_, ?_, ?_, ?_, ?_, ?_, ?_, ?_⟩ <;> (intro h; subst h; revert ha; decide)
  have hk : Dev.Keeps Dev.cqSyncScope x (x.cqSync e status detail) := Dev.Keeps.refl.cqSync
  rw [hk.viewReg rfl (hfree _ (hlow w hw)), hx]
  exact (Dev.viewReg_stageAll ws hnd d).2 w hw

theorem hopWrites_nodup (v : Nat → Word) : (((List.range 8).map (fun h => (R.HOP_TABLE h, v h))).map (·.1)).Nodup := by
  rw [List.map_map]
  exact List.nodup_range.map fun a b (h : 0x0820 + 4 * a = 0x0820 + 4 * b) => by omega

theorem foldl_hopWrites (v : Nat → Word) (d : Dev) :
    (List.range 8).foldl (fun (d : Dev) h => d.stageBusy (R.HOP_TABLE h) (v h)) d =
    d.stageAll ((List.range 8).map (fun h => (R.HOP_TABLE h, v h))) := by
  unfold Dev.stageAll
  rw [List.foldl_map]

/-! ### KEYMAP_SET -/

theorem bindingBad_none {l : List (Nat × Nat)} (hle : ∀ b ∈ l, b.1 ≤ 63) (hnd : (l.map (·.1)).Nodup) (i : Nat) (seen : List Nat)
    (hs : ∀ b ∈ l, b.1 ∉ seen) : bindingBad i seen l = none := by
  induction l generalizing i seen with
  | nil => rfl
  | cons b l ih =>
    rw [List.map_cons, List.nodup_cons] at hnd
    have h1 : (decide (63 < b.1) || seen.contains b.1) = false := by
      have := hle b List.mem_cons_self
      have := hs b List.mem_cons_self
      simp only [Bool.or_eq_false_iff, decide_eq_false_iff_not, not_lt, List.contains_eq_mem]
      exact ⟨‹_›, ‹_›⟩
    unfold bindingBad
    rw [h1, if_neg Bool.false_ne_true]
    refine ih (fun x hx => hle x (List.mem_cons_of_mem _ hx)) hnd.2 _ _ fun x hx => ?_
    rw [List.mem_cons, not_or]
    exact ⟨fun h => hnd.1 (h ▸ List.mem_map_of_mem hx), hs x (List.mem_cons_of_mem _ hx)⟩

/-- The configurations that KEYMAP_SET binds: an edge of a virtual key, enabled. -/
def isBinding (v : Nat) : Prop := v < 2 ^ 24 ∧ v / 2 % 8 = 1 ∧ v &&& 0xFF0FFF = v

theorem bindingsOf_isBinding {e : List Byte} {b : Nat × Nat} (hb : b ∈ bindingsOf e) : isBinding b.2 := by
  unfold bindingsOf at hb
  obtain ⟨i, -, rfl⟩ := List.mem_map.mp hb
  have h1 : eAt e (19 + 4 * i) 1 < 256 := by
    have := leNat_lt ((e.drop (19 + 4 * i)).take 1)
    have hl : ((e.drop (19 + 4 * i)).take 1).length ≤ 1 := List.length_take_le _ _
    exact lt_of_lt_of_le this (Nat.pow_le_pow_right (by decide) hl)
  have h2 : eAt e (17 + 4 * i) 1 % 32 < 32 := Nat.mod_lt _ (by decide)
  have h3 : eAt e (18 + 4 * i) 1 % 4 < 4 := Nat.mod_lt _ (by decide)
  have h4 : eAt e (18 + 4 * i) 1 / 4 % 2 < 2 := Nat.mod_lt _ (by decide)
  show isBinding (1 + 2 + 16 * (eAt e (17 + 4 * i) 1 % 32) + 512 * (eAt e (18 + 4 * i) 1 % 4) +
    2048 * (eAt e (18 + 4 * i) 1 / 4 % 2) + 65536 * eAt e (19 + 4 * i) 1)
  generalize eAt e (17 + 4 * i) 1 % 32 = s at *
  generalize eAt e (18 + 4 * i) 1 % 4 = m at *
  generalize eAt e (18 + 4 * i) 1 / 4 % 2 = r at *
  generalize eAt e (19 + 4 * i) 1 = f at *
  refine ⟨by omega, by omega, ?_⟩
  have hlow : 1 + 2 + 16 * s + 512 * m + 2048 * r < 2 ^ 12 := by omega
  have hmask : ∀ low, low < 2 ^ 12 → ∀ f, f < 256 → (low + 65536 * f) &&& 0xFF0FFF = low + 65536 * f := by
    intro low hl f hf
    apply Nat.eq_of_testBit_eq
    intro j
    have e1 : low + 65536 * f = 2 ^ 16 * f + low := by omega
    rw [Nat.testBit_and, e1, Nat.testBit_two_pow_mul_add f (by omega)]
    by_cases hj : j < 16
    · rw [if_pos hj]
      by_cases h12 : j < 12
      · have : ∀ j : Fin 12, Nat.testBit 0xFF0FFF j.val = true := by decide
        rw [this ⟨j, h12⟩, Bool.and_true]
      · rw [Nat.testBit_lt_two_pow (lt_of_lt_of_le hl (Nat.pow_le_pow_right (by decide) (by omega))), Bool.false_and]
    · rw [if_neg hj]
      by_cases h24 : j < 24
      · have : ∀ j : Fin 8, Nat.testBit 0xFF0FFF (16 + j.val) = true := by decide
        have hj' := this ⟨j - 16, by omega⟩
        rw [show 16 + (j - 16) = j by omega] at hj'
        rw [hj', Bool.and_true]
      · rw [Nat.testBit_lt_two_pow (lt_of_lt_of_le hf (Nat.pow_le_pow_right (n := 2) (by decide) (show 8 ≤ j - 16 by omega))),
          Bool.false_and]
  exact hmask _ hlow f h1

theorem Dev.edCfgWrite_binding (d : Dev) (k : Nat) {v : Nat} (hv : isBinding v) :
    d.edCfgWrite k v = (d.setReg (R.ED_CFG k) (word v)).edArm k := by
  obtain ⟨hlt, hty, hm⟩ := hv
  have hw : (word v).toNat = v := by
    show (BitVec.ofNat 32 v).toNat = v
    rw [BitVec.toNat_ofNat, Nat.mod_eq_of_lt (by omega)]
  have hand : word v &&& 0xFF0FFF = word v := by
    apply BitVec.eq_of_toNat_eq
    rw [BitVec.toNat_and, hw]
    exact hm
  have h := Dev.edCfgWrite_eq d k (word v) (by rw [hw]; omega)
  rwa [hw, hand] at h

theorem edArmScope_free {k : Nat} (hk : k ≤ 63) : Dev.edArmScope.has (R.ED_CFG k) = false := by
  have : ∀ k : Fin 64, Dev.edArmScope.has (R.ED_CFG k.val) = false := by decide
  exact this ⟨k, by omega⟩

theorem Dev.edCfgAll_reg (l : List (Nat × Nat)) (hle : ∀ b ∈ l, b.1 ≤ 63) (hnd : (l.map (·.1)).Nodup) (hv : ∀ b ∈ l, isBinding b.2) (d : Dev) :
    (∀ k, k ≤ 63 → k ∉ l.map (·.1) → (l.foldl (fun d b => d.edCfgWrite b.1 b.2) d).reg (R.ED_CFG k) = d.reg (R.ED_CFG k)) ∧
    ∀ b ∈ l, ((l.foldl (fun d b => d.edCfgWrite b.1 b.2) d).reg (R.ED_CFG b.1)).toNat = b.2 := by
  induction l generalizing d with
  | nil => exact ⟨fun _ _ _ => rfl, nofun⟩
  | cons b l ih =>
    rw [List.map_cons, List.nodup_cons] at hnd
    have hbv := hv b List.mem_cons_self
    have hb63 := hle b List.mem_cons_self
    have hreg : ∀ k, k ≤ 63 → (d.edCfgWrite b.1 b.2).reg (R.ED_CFG k) = if k = b.1 then word b.2 else d.reg (R.ED_CFG k) := by
      intro k hk
      rw [Dev.edCfgWrite_binding d b.1 hbv, (Dev.Keeps.refl.edArm : Dev.Keeps Dev.edArmScope _ _).reg _ (edArmScope_free hk),
        Dev.reg_setReg]
      by_cases h : k = b.1
      · rw [if_pos h, if_pos (by rw [h])]
      · rw [if_neg h, if_neg]
        show 0x2800 + 8 * k ≠ 0x2800 + 8 * b.1
        omega
    obtain ⟨h1, h2⟩ := ih (fun x hx => hle x (List.mem_cons_of_mem _ hx)) hnd.2 (fun x hx => hv x (List.mem_cons_of_mem _ hx))
      (d.edCfgWrite b.1 b.2)
    refine ⟨fun k hk hn => ?_, fun x hx => ?_⟩
    · rw [List.map_cons, List.mem_cons, not_or] at hn
      exact (h1 k hk hn.2).trans ((hreg k hk).trans (if_neg hn.1))
    · rcases List.mem_cons.mp hx with rfl | hx
      · have := (h1 x.1 hb63 hnd.1).trans ((hreg x.1 hb63).trans (if_pos rfl))
        refine (congrArg BitVec.toNat this).trans ?_
        show (BitVec.ofNat 32 x.2).toNat = x.2
        rw [BitVec.toNat_ofNat, Nat.mod_eq_of_lt]
        exact lt_trans hbv.1 (by decide)
      · exact h2 x hx

/-- The registers of the edge detectors. -/
def edScope : Dev.Scope := { regs := (List.range 136).map (fun i => 0x2800 + 4 * i) }

theorem edScope_has {i : Nat} (h : i < 136) : edScope.has (0x2800 + 4 * i) = true := by
  simp only [edScope, Dev.Scope.has, List.contains_eq_mem, List.any_nil, Bool.or_false, decide_eq_true_eq]
  exact List.mem_map.mpr ⟨i, List.mem_range.mpr h, rfl⟩

theorem Dev.Keeps.edCfgAll {d₀ d : Dev} (h : Dev.Keeps edScope d₀ d) (l : List (Nat × Nat)) (hle : ∀ b ∈ l, b.1 ≤ 63)
    (hv : ∀ b ∈ l, isBinding b.2) : Dev.Keeps edScope d₀ (l.foldl (fun d b => d.edCfgWrite b.1 b.2) d) := by
  induction l generalizing d with
  | nil => exact h
  | cons b l ih =>
    have hb := hle b List.mem_cons_self
    refine ih ?_ (fun x hx => hle x (List.mem_cons_of_mem _ hx)) (fun x hx => hv x (List.mem_cons_of_mem _ hx))
    have hcfg : edScope.has (R.ED_CFG b.1) = true := by
      rw [show R.ED_CFG b.1 = 0x2800 + 4 * (2 * b.1) by simp only [R.ED_CFG]; omega]
      exact edScope_has (by omega)
    have hstat : edScope.has (R.ED_STAT b.1) = true := by
      rw [show R.ED_STAT b.1 = 0x2800 + 4 * (2 * b.1 + 1) by simp only [R.ED_STAT]; omega]
      exact edScope_has (by omega)
    have hlev : edScope.has (edOwn b.1) = true := by
      unfold edOwn
      split
      · exact edScope_has (i := 131) (by decide)
      · exact edScope_has (i := 132) (by decide)
    show Dev.Keeps edScope d₀ (d.edCfgWrite b.1 b.2)
    rw [Dev.edCfgWrite_binding d b.1 (hv b List.mem_cons_self), Dev.edArm_eq]
    unfold Dev.edLevel Dev.setF
    exact ((((h.setReg hcfg).put hstat).putB hstat).setReg hlev).putB hstat

/-! ### COUNTERS_CLEAR -/

/-- What the clear of the block `k` may write. -/
def clearScope (k : Nat) : Dev.Scope :=
  match k with
  | 0 => { regs := [R.TICK_COUNTS] }
  | 1 => { regs := [R.IMG_COUNTS, R.IMG_COUNTS2] }
  | 2 => { regs := [R.CT_COUNTS] }
  | 3 => { regs := [R.OPT_COUNTS] }
  | 4 => { regs := [R.AUX_COUNTS] }
  | 5 => { regs := [R.CAL_COUNT0, R.CAL_COUNT1] }
  | 6 => { regs := [R.SEQ_COUNTS, R.SEQ_CYCMAX] }
  | 7 => { regs := [R.HP_COUNTS] }
  | 8 => { regs := [R.CQ_COUNTS] }
  | 9 => { regs := [R.RQ_LOST] }
  | 10 => Dev.fltClrCntScope
  | 11 => { regs := [R.FLT_LOG] }
  | 12 => { regs := [R.TICK_IMGTIME] }
  | _ => {}

theorem Dev.clearCounters_keeps (d : Dev) (k : Nat) : Dev.Keeps (clearScope k) d (d.clearCounters k) := by
  match k with
  | 0 => exact Dev.Keeps.refl.clearReg
  | 1 => exact Dev.Keeps.refl.clearReg.clearReg
  | 2 => exact Dev.Keeps.refl.clearReg
  | 3 => exact Dev.Keeps.refl.clearReg
  | 4 => exact Dev.Keeps.refl.clearReg
  | 5 => exact Dev.Keeps.refl.clearReg.clearReg
  | 6 => exact Dev.Keeps.refl.clearReg.clearReg
  | 7 => exact Dev.Keeps.refl.clearReg
  | 8 => exact Dev.Keeps.refl.put
  | 9 => exact Dev.Keeps.refl.put
  | 10 => exact Dev.Keeps.refl.fltClrCnt
  | 11 => exact Dev.Keeps.refl.put
  | 12 => exact Dev.Keeps.refl.put
  | k + 13 => exact .refl

/-- The counters that COUNTERS_CLEAR clears as whole registers, each with its bit of the mask. -/
def countersOf : List (Nat × Nat) :=
  [(0, R.TICK_COUNTS), (1, R.IMG_COUNTS), (1, R.IMG_COUNTS2), (2, R.CT_COUNTS), (3, R.OPT_COUNTS), (4, R.AUX_COUNTS),
    (5, R.CAL_COUNT0), (5, R.CAL_COUNT1), (6, R.SEQ_COUNTS), (6, R.SEQ_CYCMAX), (7, R.HP_COUNTS)]

theorem Dev.Keeps.regReachable {w : Dev.Scope} {d t : Dev} (h : Dev.Keeps w d t) (a : Nat) (h0 : w.has R.PWR_DST0 = false := by decide)
    (h1 : w.has R.PWR_DST1 = false := by decide) : t.regReachable a = d.regReachable a := by
  unfold Dev.regReachable
  cases regDomain a with
  | none => rfl
  | some k => exact h.domOn k h0 h1

theorem Dev.reg_clearReg (d : Dev) (a b : Nat) :
    (d.clearReg a).reg b = if b = a ∧ d.regReachable a = true then 0 else d.reg b := by
  unfold Dev.clearReg
  by_cases hr : d.regReachable a = true
  · rw [if_pos hr, Dev.reg_setReg]
    by_cases h : b = a
    · rw [if_pos h, if_pos ⟨h, hr⟩]
    · rw [if_neg h, if_neg fun hh => h hh.1]
  · rw [if_neg hr, if_neg fun hh => hr hh.2]

theorem Dev.clearCounters_own : ∀ p ∈ countersOf, ∀ d : Dev,
    (d.clearCounters p.1).reg p.2 = if d.regReachable p.2 = true then 0 else d.reg p.2 := by
  have own : ∀ (d : Dev) (a : Nat), (d.clearReg a).reg a = if d.regReachable a = true then 0 else d.reg a := fun d a => by
    simp only [Dev.reg_clearReg, true_and]
  have first : ∀ (d : Dev) (a b : Nat), a ≠ b →
      ((d.clearReg a).clearReg b).reg a = if d.regReachable a = true then 0 else d.reg a := fun d a b h => by
    rw [Dev.reg_clearReg, if_neg fun hh => h hh.1, own]
  have second : ∀ (d : Dev) (a b : Nat), a ≠ b → (d.clearReg a).regReachable b = d.regReachable b →
      ((d.clearReg a).clearReg b).reg b = if d.regReachable b = true then 0 else d.reg b := fun d a b h hr => by
    rw [own, hr, Dev.reg_clearReg, if_neg (c := b = a ∧ _) fun hh => h hh.1.symm]
  have reach : ∀ (d : Dev) (a b : Nat), ({ regs := [a] } : Dev.Scope).has R.PWR_DST0 = false →
      ({ regs := [a] } : Dev.Scope).has R.PWR_DST1 = false → (d.clearReg a).regReachable b = d.regReachable b := fun d a b h0 h1 =>
    (Dev.Keeps.refl.clearReg (by simp [Dev.Scope.has]) : Dev.Keeps { regs := [a] } d (d.clearReg a)).regReachable b h0 h1
  intro p hp d
  simp only [countersOf, List.mem_cons, List.not_mem_nil, or_false] at hp
  rcases hp with rfl | rfl | rfl | rfl | rfl | rfl | rfl | rfl | rfl | rfl | rfl
  · exact own d _
  · exact first d _ _ (by decide)
  · exact second d _ _ (by decide) (reach d _ _ (by decide) (by decide))
  · exact own d _
  · exact own d _
  · exact own d _
  · exact first d _ _ (by decide)
  · exact second d _ _ (by decide) (reach d _ _ (by decide) (by decide))
  · exact first d _ _ (by decide)
  · exact second d _ _ (by decide) (reach d _ _ (by decide) (by decide))
  · exact own d _

/-- What a counter reads as after the blocks of a list have been cleared. -/
theorem Dev.reg_clearAll {p : Nat × Nat} (hp : p ∈ countersOf) (l : List Nat) (hl : ∀ j ∈ l, j < 13) (d : Dev) :
    (l.foldl Dev.clearCounters d).reg p.2 = if p.1 ∈ l ∧ d.regReachable p.2 = true then 0 else d.reg p.2 := by
  have hother : ∀ p ∈ countersOf, ∀ j : Fin 13, j.val ≠ p.1 → (clearScope j.val).has p.2 = false := by decide
  have hfree : ∀ j : Fin 13, (clearScope j.val).has R.PWR_DST0 = false ∧ (clearScope j.val).has R.PWR_DST1 = false := by decide
  induction l generalizing d with
  | nil => simp
  | cons j l ih =>
    have hj := hl j List.mem_cons_self
    have hk := d.clearCounters_keeps j
    rw [List.foldl_cons, ih (fun x hx => hl x (List.mem_cons_of_mem _ hx)),
      hk.regReachable _ (hfree ⟨j, hj⟩).1 (hfree ⟨j, hj⟩).2]
    by_cases h : j = p.1
    · subst h
      rw [Dev.clearCounters_own p hp d]
      by_cases hr : d.regReachable p.2 = true
      · simp [hr]
      · simp [hr]
    · rw [hk.reg _ (hother p hp ⟨j, hj⟩ h)]
      simp [Ne.symm h]

/-- The clears leave the count of executed entries. -/
theorem Dev.clearAll_exec (l : List Nat) (d : Dev) :
    (l.foldl Dev.clearCounters d).get R.CQ_COUNTS_EXEC = d.get R.CQ_COUNTS_EXEC := by
  induction l generalizing d with
  | nil => rfl
  | cons j l ih =>
    rw [List.foldl_cons, ih]
    by_cases h : j = 8
    · subst h
      exact Dev.get_put_ne _ _ _ _ (by decide)
    · have hfree : ∀ j : Fin 13, j.val ≠ 8 → (clearScope j.val).has R.CQ_COUNTS = false := by decide
      by_cases hj : j < 13
      · exact (d.clearCounters_keeps j).get (hfree ⟨j, hj⟩ h)
      · obtain ⟨m, rfl⟩ := Nat.exists_eq_add_of_le (not_lt.mp hj)
        rw [Nat.add_comm]
        rfl

/-! ### PERI_XFER -/

theorem Dev.xramClean_cqPass {d : Dev} (h : d.xramClean) (flags slot : Nat) : (d.cqPass flags slot).xramClean := by
  have hw : ∀ (o : Nat) (bs : List Byte), ∃ m, d.xwriteClean clCqf o bs = d.withXram m := by
    intro o bs
    obtain ⟨m, hm, -⟩ := Dev.xwriteWords_free clCqf (wordsOf o bs.length) (fun _ hw => hw) d (Dev.eccFree_of_clean h o bs.length)
    exact ⟨m, hm⟩
  unfold Dev.cqPass
  extract_lets ci d1
  have h1 : d1.xramClean := by
    simp only [d1]
    split
    · obtain ⟨m, hm⟩ := hw (d.get R.CQ_GEOM_BASE + ci % 2 ^ d.get R.CQ_GEOM_SZ) [byte (flags % 128)]
      rw [hm]
      exact h
    · exact h
  exact h1

theorem Dev.xramClean_started {d : Dev} (h : d.xramClean) (e : List Byte) (arg : Nat) : (d.started e arg).xramClean := by
  refine Dev.xramClean_cqPass (d := (d.asyncStart (eOp e) (eTag e) (eSeq e) arg).2) ?_ _ _
  unfold Dev.xramClean
  rw [(Dev.Keeps.refl.asyncStart : Dev.Keeps Dev.asyncStartScope d _).mem rfl]
  exact h

/-- The port looks ahead into clean memory only where a frame is in progress. -/
theorem Dev.ppAhead_clean {d : Dev} (h : d.xramClean) :
    ∃ a, d.ppAhead = { d with pp := { d.pp with ahead := a } } ∧ (d.pp.active = none → a = d.pp.ahead) := by
  have hclean : ∀ a, ({ d with pp := { d.pp with ahead := a } } : Dev).xramClean := fun _ => h
  unfold Dev.ppAhead
  split
  · exact ⟨d.pp.ahead, rfl, fun _ => rfl⟩
  · next hc =>
    have hact : d.pp.active ≠ none := fun ha => hc (by simp [ha])
    split
    · exact ⟨d.pp.ahead, rfl, fun _ => rfl⟩
    · next x _ =>
      exact ⟨some ⟨x, d.xbytes x.area (min x.dlen 64), d.firstPoison x.area (min x.dlen 64)⟩,
        Dev.eccTouch_free (Dev.eccFree_of_clean (hclean _) _ _) _, fun ha => absurd ha hact⟩

/-- A transfer that belongs to no descriptor joins the queue of the port. -/
theorem Dev.ppJoin_clean {d : Dev} (h : d.xramClean) {x : Xfer} (hx : x.desc = 8) :
    ∃ a, d.ppJoin x = { d.put R.PP_STATUS_QCNT (d.pp.queue.length + 1) with
        pp := { d.pp with queue := d.pp.queue ++ [x], ahead := a } } ∧
      (d.pp.active = none → d.pp.ahead = none → a = none) := by
  have hq : d.ppJoin x = (d.ppQueue (d.pp.queue ++ [x])).ppAhead := by
    unfold Dev.ppJoin
    rw [hx]
    rfl
  obtain ⟨a, h1, h2⟩ := Dev.ppAhead_clean (d := d.ppQueue (d.pp.queue ++ [x])) h
  refine ⟨a, ?_, fun ha hn => ?_⟩
  · rw [hq, h1]
    unfold Dev.ppQueue
    rw [List.length_append]
    rfl
  · rw [h2 ha]
    show d.pp.ahead.filter _ = none
    rw [hn]
    rfl

/-! ### MAILBOX -/

theorem Dev.event_live {d : Dev} (h : d.seqLive = true) (b : Nat) :
    d.event b = d.put R.SEQ_EVPEND_EV (setBit (d.get R.SEQ_EVPEND_EV) b true) := by
  unfold Dev.event
  rw [if_pos h]

/-! ### The statement -/

theorem dataCommands_regionSet (n : Nat) (h0 : 0 < n) (hn : n ≤ 32) :
    let seen := fun (t : Dev) (a : Nat) (v : Word) => t.viewReg a &&& rwsMask a = v &&& rwsMask a
    let valid := fun (e : List Byte) => eAt e 9 1 = n ∧ eAt e 8 1 + n ≤ 32
    ExecutesTo .regionSet 0x30 (4 + 3 * n) (fun e d => valid e ∧ d.regReachable (R.CT_RGX 0) = true ∧
        ∀ r ∈ regionsOf e, d.taken.regionCause r.2.1 r.2.2.1 r.2.2.2 = none)
      (fun e d t => d.endsOk t e 0 ∧ ∀ r ∈ regionsOf e,
        seen t (R.CT_RGX r.1) r.2.1 ∧ seen t (R.CT_RGY r.1) r.2.2.1 ∧ seen t (R.CT_RGC r.1) r.2.2.2) ∧
    ExecutesTo .regionSet 0x30 (4 + 3 * n) (fun e d => valid e ∧ ∃ r ∈ regionsOf e, d.taken.regionCause r.2.1 r.2.2.1 r.2.2.2 ≠ none)
      (fun e d t => d.endsBad t e ∧ t.staged = d.staged ∧ ∀ k, k < 32 → t.reg (R.CT_RGX k) = d.reg (R.CT_RGX k)) := by
  refine ⟨executesTo_of (fun _ => rfl) fun e d ha ho hl h => ?_, executesTo_of (fun _ => rfl) fun e d ha ho hl h => ?_⟩
  · obtain ⟨⟨hn9, hle⟩, hr, hc⟩ := h
    have hlt : ∀ r ∈ regionsOf e, r.1 < 32 := fun r hm => regionsOf_lt (by omega) hm
    have hws : ∀ w ∈ (regionsOf e).flatMap regionWrites, 0x1100 ≤ w.1 ∧ w.1 < 0x1280 := fun w hw => by
      obtain ⟨r, hm, hw⟩ := List.mem_flatMap.mp hw
      exact regionWrites_addr (hlt r hm) hw
    rw [Dev.cqChecked_ok (hl.trans (by rw [hn9])) (.inl rfl) (fun h => absurd h Bool.false_ne_true)]
    dsimp only
    rw [if_neg (by omega), if_neg (by omega), (d.taken.regionsBad_none_iff _).mpr hc]
    dsimp only
    rw [show d.taken.regReachable (R.CT_RGX 0) = true from hr, if_pos rfl, regionFold_eq]
    have hview := Dev.viewReg_ended (d := d.taken) (e := e) (ws := (regionsOf e).flatMap regionWrites)
      (regionWrites_nodup _ hlt (regionsOf_nodup e)) rfl (fun w hw => lt_trans (hws w hw).2 (by decide)) csOk 0
    refine ⟨Dev.stageAll_endsOk ha fun w hw => ?_, fun r hm => ⟨hview (R.CT_RGX r.1, r.2.1) ?_, hview (R.CT_RGY r.1, r.2.2.1) ?_,
      hview (R.CT_RGC r.1, r.2.2.2) ?_⟩⟩
    · have := hws w hw
      omega
    all_goals exact List.mem_flatMap.mpr ⟨r, hm, by simp [regionWrites]⟩
  · obtain ⟨⟨hn9, hle⟩, r, hm, hc⟩ := h
    rw [Dev.cqChecked_ok (hl.trans (by rw [hn9])) (.inl rfl) (fun h => absurd h Bool.false_ne_true)]
    dsimp only
    rw [if_neg (by omega), if_neg (by omega)]
    cases hb : d.taken.regionsBad (regionsOf e) with
    | none => exact absurd ((d.taken.regionsBad_none_iff _).mp hb r hm) hc
    | some p =>
      have hk : Dev.Keeps Dev.cqSyncScope d.taken (d.taken.cqSync e csRefused (256 * p.1 + p.2)) := Dev.Keeps.refl.cqSync
      have hfree : ∀ k : Fin 32, Dev.cqSyncScope.has (R.CT_RGX k.val) = false := by decide
      exact ⟨Dev.taken_bad ha (by decide) _, hk.staged rfl, fun k hk' => hk.reg _ (hfree ⟨k, hk'⟩)⟩

theorem dataCommands_keymapSet (n : Nat) (h0 : 0 < n) (hn : n ≤ 64) :
    let valid := fun (e : List Byte) => eAt e 8 1 = n ∧ ((bindingsOf e).map (·.1)).Nodup ∧ ∀ b ∈ bindingsOf e, b.1 ≤ 63
    ExecutesTo .keymapSet 0x31 (4 + n) (fun e d => valid e ∧ d.ticking = false)
      (fun e d t => d.endsOk t e 0 ∧ ∀ b ∈ bindingsOf e, (t.reg (R.ED_CFG b.1)).toNat = b.2) ∧
    ExecutesTo .keymapSet 0x31 (4 + n) (fun e d => valid e ∧ d.ticking = true)
      (fun e d t => d.endsOk t e 0 ∧ (∀ b ∈ bindingsOf e, b ∈ t.panel.edBind) ∧ ∀ k, k < 64 → t.reg (R.ED_CFG k) = d.reg (R.ED_CFG k)) := by
  have hfree : ∀ k : Fin 64, Dev.cqSyncScope.has (R.ED_CFG k.val) = false := by decide
  refine ⟨executesTo_of (fun _ => rfl) fun e d ha ho hl h => ?_, executesTo_of (fun _ => rfl) fun e d ha ho hl h => ?_⟩
  · obtain ⟨⟨hn8, hnd, hle⟩, ht⟩ := h
    rw [Dev.cqChecked_ok (hl.trans (by rw [hn8])) (.inl rfl) (fun h => absurd h Bool.false_ne_true)]
    dsimp only
    rw [if_neg (by omega), bindingBad_none hle hnd 0 [] (fun _ _ => List.not_mem_nil)]
    dsimp only
    rw [show d.taken.ticking = false from ht, if_neg Bool.false_ne_true]
    have hv : ∀ b ∈ bindingsOf e, isBinding b.2 := fun b hb => bindingsOf_isBinding hb
    have hk : Dev.Keeps edScope d.taken ((bindingsOf e).foldl (fun d b => d.edCfgWrite b.1 b.2) d.taken) :=
      Dev.Keeps.refl.edCfgAll _ hle hv
    have hreg := (Dev.edCfgAll_reg (bindingsOf e) hle hnd hv d.taken).2
    generalize (bindingsOf e).foldl (fun (d : Dev) b => d.edCfgWrite b.1 b.2) d.taken = x at hk hreg
    have hs : Dev.Keeps Dev.cqSyncScope x (x.cqSync e csOk 0) := Dev.Keeps.refl.cqSync
    refine ⟨hk.endsOk ha (by rw [hk.ring rfl]; rfl) 0 (by decide +kernel) (by decide +kernel) (by decide +kernel) (by decide +kernel),
      fun b hb => ?_⟩
    rw [hs.reg _ (hfree ⟨b.1, by have := hle b hb; omega⟩)]
    exact hreg b hb
  · obtain ⟨⟨hn8, hnd, hle⟩, ht⟩ := h
    rw [Dev.cqChecked_ok (hl.trans (by rw [hn8])) (.inl rfl) (fun h => absurd h Bool.false_ne_true)]
    dsimp only
    rw [if_neg (by omega), bindingBad_none hle hnd 0 [] (fun _ _ => List.not_mem_nil)]
    dsimp only
    rw [show d.taken.ticking = true from ht, if_pos rfl]
    generalize hx : ({ d.taken with panel := _ } : Dev) = x
    have hk : Dev.Keeps { panel := true } d.taken x := by
      rw [← hx]
      exact Dev.Keeps.refl.upd (panel := nofun)
    have hs : Dev.Keeps Dev.cqSyncScope x (x.cqSync e csOk 0) := Dev.Keeps.refl.cqSync
    refine ⟨hk.endsOk ha (by rw [hk.ring rfl]; rfl) 0, fun b hb => ?_, fun k hk' => (hs.reg _ (hfree ⟨k, hk'⟩)).trans (hk.reg _ rfl)⟩
    rw [hs.panel rfl, ← hx]
    exact List.mem_append_right _ hb

theorem dataCommands_hopTableSet :
    ExecutesTo .hopTableSet 0x40 10 (fun _ d => d.regReachable (R.HOP_TABLE 0) = true ∧ d.busyState = false)
      (fun e d t => d.endsOk t e 0 ∧ ∀ h, h < 8 → t.viewReg (R.HOP_TABLE h) &&& rwsMask (R.HOP_TABLE h) =
        (BitVec.ofNat 32 (eAt e (8 + 4 * h) 4) &&& 0x1FFFF) &&& rwsMask (R.HOP_TABLE h)) := by
  refine executesTo_of (fun _ => rfl) fun e d ha ho hl h => ?_
  obtain ⟨hr, hb⟩ := h
  rw [Dev.cqChecked_ok hl (.inl rfl) (fun h => absurd h Bool.false_ne_true)]
  dsimp only
  rw [show d.taken.regReachable (R.HOP_TABLE 0) = true from hr, show d.taken.busyState = false from hb, if_neg (by decide),
    if_neg Bool.false_ne_true, foldl_hopWrites]
  have hw : ∀ w ∈ (List.range 8).map (fun h => (R.HOP_TABLE h, word (eAt e (8 + 4 * h) 4) &&& 0x1FFFF)), 0x800 ≤ w.1 ∧ w.1 < 0x3000 := by
    intro w hw
    obtain ⟨i, hi, rfl⟩ := List.mem_map.mp hw
    have := List.mem_range.mp hi
    show 0x800 ≤ 0x0820 + 4 * i ∧ 0x0820 + 4 * i < 0x3000
    omega
  refine ⟨Dev.stageAll_endsOk ha hw, fun i hi => ?_⟩
  exact Dev.viewReg_ended (d := d.taken) (e := e) (hopWrites_nodup _) rfl (fun w h => (hw w h).2) csOk 0
    (R.HOP_TABLE i, word (eAt e (8 + 4 * i) 4) &&& 0x1FFFF) (List.mem_map.mpr ⟨i, List.mem_range.mpr hi, rfl⟩)

theorem dataCommands_imageDump :
    ExecutesTo .imageDump 0x50 3 (fun e d => d.st = stRunning ∧ d.asyncsOf 0x50 = [] ∧ eAt e 8 1 ≤ 5 ∧ eAt e 9 1 ≠ 0)
      (fun e d t => d.inProgress t e ∧
        t.img = { d.img with dump := some ⟨eAt e 8 1, eAt e 9 1, 0, eTag e, d.acq.proc.isSome⟩ }) ∧
    ExecutesTo .imageDump 0x50 3 (fun _ d => d.st ≠ stRunning) (fun e d t => d.endsBad t e ∧ t.img = d.img) := by
  refine ⟨executesTo_of (fun _ => rfl) fun e d ha ho hl h => ?_, executesTo_of (fun _ => rfl) fun e d ha ho hl h => ?_⟩
  · obtain ⟨hs, hn, hw, hf⟩ := h
    rw [Dev.cqChecked_ok hl (.inr (by show [stRunning].contains d.st = true; rw [hs]; rfl)) (fun _ => by rw [ho]; exact hn)]
    have hk := d.taken.started_keeps e 0
    have hr := d.taken.started_ring e 0
    dsimp only
    rw [if_neg (by omega), if_neg hf]
    show d.inProgress { d.taken.started e 0 with img := _ } e ∧ _
    refine ⟨Dev.Keeps.inProgress (w := { img := true }) (arg := 0) (Dev.Keeps.refl.upd (img := nofun)) ?_ ?_, ?_⟩
    · exact congrArg Ring.batch hr
    · exact congrArg Ring.asyncs hr
    · show ({ (d.taken.started e 0).img with dump := some ⟨_, _, _, _, (d.taken.started e 0).acq.proc.isSome⟩ } : Img) = _
      rw [hk.img rfl, hk.acq rfl]
      rfl
  · have hst : d.taken.cqChecked e 3 [stRunning] true = fun _ => d.taken.cqSync e csState d.st := by
      funext body
      unfold Dev.cqChecked
      rw [if_neg (by simp [hl]), if_pos]
      · rfl
      · exact ⟨by simp, by show [stRunning].contains d.st = false; simpa using h⟩
    rw [hst]
    have hk : Dev.Keeps Dev.cqSyncScope d.taken (d.taken.cqSync e csState d.st) := Dev.Keeps.refl.cqSync
    exact ⟨Dev.taken_bad ha (by decide) _, hk.img rfl⟩

theorem dataCommands_periXfer :
    ExecutesTo .periXfer 0x60 6 (fun e d => xferBad e = none ∧ d.areaValid (eAt e 20 2) (eAt e 14 2) = true ∧ d.seq.bootFrom = none ∧
        d.pp.queue.length < 16 ∧ d.domOn 9 = true ∧ d.xramClean)
      (fun e d t => d.inProgress t e ∧ t.get R.PP_STATUS_QCNT = d.pp.queue.length + 1 ∧
        ∃ a : Async, t.ring.asyncs = d.ring.asyncs ++ [a] ∧
          t.pp = { d.pp with queue := d.pp.queue ++ [{ xferOf e with cmd := some a }], ahead := t.pp.ahead } ∧
          (d.pp.active = none → d.pp.ahead = none → t.pp.ahead = none)) ∧
    ExecutesTo .periXfer 0x60 6 (fun e d => xferBad e ≠ none ∨ d.areaValid (eAt e 20 2) (eAt e 14 2) = false)
      (fun e d t => d.endsBad t e ∧ t.pp = d.pp) := by
  refine ⟨executesTo_of (fun _ => rfl) fun e d ha ho hl h => ?_, executesTo_of (fun _ => rfl) fun e d ha ho hl h => ?_⟩
  · obtain ⟨hx, hv, hb, hq, hd, hc⟩ := h
    have hk := d.taken.started_keeps e 0
    have hr := d.taken.started_ring e 0
    have hcs : (d.taken.started e 0).xramClean := Dev.xramClean_started (d := d.taken) hc e 0
    obtain ⟨a, hj, hja⟩ := Dev.ppJoin_clean hcs (x := { xferOf e with cmd := some (d.taken.inFlight e 0) }) rfl
    have hbusy : (d.taken.seq.bootFrom.isSome || decide (16 ≤ d.taken.pp.queue.length)) = false := by
      show (d.seq.bootFrom.isSome || decide (16 ≤ d.pp.queue.length)) = false
      rw [hb]
      simpa using hq
    have hkp : Dev.Keeps { pp := true, regs := [R.PP_STATUS] } (d.taken.started e 0)
        ((d.taken.started e 0).ppJoin { xferOf e with cmd := some (d.taken.inFlight e 0) }) := by
      rw [hj]
      exact Dev.Keeps.upd (w := { pp := true, regs := [R.PP_STATUS] })
        (Dev.Keeps.put (f := R.PP_STATUS_QCNT) (n := (d.taken.started e 0).pp.queue.length + 1) .refl) (pp := nofun)
    have hring := congrArg Ring.asyncs ((hkp.ring rfl).trans hr)
    have key : ∀ t, t = (d.taken.started e 0).ppJoin { xferOf e with cmd := some (d.taken.inFlight e 0) } →
        d.inProgress t e ∧ t.get R.PP_STATUS_QCNT = d.pp.queue.length + 1 ∧
        ∃ a : Async, t.ring.asyncs = d.ring.asyncs ++ [a] ∧
          t.pp = { d.pp with queue := d.pp.queue ++ [{ xferOf e with cmd := some a }], ahead := t.pp.ahead } ∧
          (d.pp.active = none → d.pp.ahead = none → t.pp.ahead = none) := by
      rintro t rfl
      refine ⟨hkp.inProgress (congrArg Ring.batch ((hkp.ring rfl).trans hr)) hring, ?_, d.taken.inFlight e 0, hring, ?_, ?_⟩
      · rw [hj]
        refine (Dev.get_put_self (d.taken.started e 0) R.PP_STATUS_QCNT _ (by decide)).trans ?_
        rw [hk.pp rfl]
        show (d.pp.queue.length + 1) % 2 ^ 5 = _
        omega
      · have hpp : (d.taken.started e 0).pp = d.pp := hk.pp rfl
        rw [hj]
        dsimp only
        rw [hpp]
      · intro h1 h2
        rw [hj]
        exact hja (by rw [hk.pp rfl]; exact h1) (by rw [hk.pp rfl]; exact h2)
    refine key _ ?_
    rw [Dev.cqChecked_ok hl (.inl rfl) (fun h => absurd h Bool.false_ne_true)]
    dsimp only
    rw [hx]
    dsimp only
    rw [show d.taken.areaValid (eAt e 20 2) (eAt e 14 2) = true from hv, if_neg (by decide), hbusy, if_neg Bool.false_ne_true,
      show d.taken.domOn 9 = true from hd, if_neg (by decide)]
    rfl
  · rw [Dev.cqChecked_ok hl (.inl rfl) (fun h => absurd h Bool.false_ne_true)]
    dsimp only
    have hend : ∀ status detail, status ≠ csOk →
        d.endsBad (d.taken.cqSync e status detail) e ∧ (d.taken.cqSync e status detail).pp = d.pp := fun status detail hne =>
      ⟨Dev.taken_bad ha hne _, (Dev.Keeps.refl.cqSync : Dev.Keeps Dev.cqSyncScope d.taken _).pp rfl⟩
    cases hx : xferBad e with
    | some o => exact hend _ _ (by decide)
    | none =>
      dsimp only
      rw [show d.taken.areaValid (eAt e 20 2) (eAt e 14 2) = false from h.resolve_left fun h => h hx]
      exact hend _ _ (by decide)

theorem dataCommands_logRead :
    ExecutesTo .logRead 0x90 3 (fun e d => d.asyncsOf 0x90 = [] ∧ eAt e 9 1 ≠ 0 ∧ eAt e 8 1 + eAt e 9 1 ≤ 32)
      (fun e d t => d.passes t e ∧ t.ring.batch = none ∧ (d.ring.waiting = [] → t.ring.waiting = [] → t.ring.asyncs = d.ring.asyncs) ∧
        t = ((d.taken.started e 0).reportWait ((d.taken.started e 0).logReport (eAt e 8 1) (eAt e 9 1) (eTag e))).endAsyncAfter
          (d.taken.inFlight e 0) 0 (eAt e 9 1)) := by
  refine executesTo_of (fun _ => rfl) fun e d ha ho hl h => ?_
  obtain ⟨hn, hc, hle⟩ := h
  have hr := d.taken.started_ring e 0
  have hp := d.taken.started_passes e 0
  have hnot : d.taken.inFlight e 0 ∉ d.ring.asyncs := by
    intro hm
    have : d.taken.inFlight e 0 ∈ d.asyncsOf 0x90 := List.mem_filter.mpr ⟨hm, by rw [Dev.inFlight_eq]; simp [ho]⟩
    rw [hn] at this
    exact List.not_mem_nil this
  have key : ∀ x t : Dev, (d.taken.started e 0).SameWork x → Dev.Keeps Dev.reportWaitScope (d.taken.started e 0) x →
      t = x.endAsyncAfter (d.taken.inFlight e 0) csOk (eAt e 9 1) →
      d.passes t e ∧ t.ring.batch = none ∧ (d.ring.waiting = [] → t.ring.waiting = [] → t.ring.asyncs = d.ring.asyncs) := by
    rintro x t hw hkr rfl
    refine ⟨Dev.Keeps.passes (w := Dev.reportWaitScope) hkr.endAsyncAfter hp, ?_, fun _ h2 => ?_⟩
    · have hx : x.ring.batch = none := hw.1.trans (congrArg Ring.batch hr)
      unfold Dev.endAsyncAfter
      split
      · exact (x.endAsync_ring _ _ _).1.trans hx
      · exact hx
    · have hx : x.ring.asyncs = d.ring.asyncs ++ [d.taken.inFlight e 0] := hw.2.1.trans (congrArg Ring.asyncs hr)
      unfold Dev.endAsyncAfter at h2 ⊢
      split
      · rw [(x.endAsync_ring _ _ _).2, hx, List.erase_append_right _ hnot, List.erase_cons_head, List.append_nil]
      · next hne =>
        rw [if_neg hne] at h2
        simp at h2
  rw [Dev.cqChecked_ok hl (.inl rfl) (fun _ => by rw [ho]; exact hn)]
  dsimp only
  rw [if_neg (by omega), if_neg (by omega)]
  obtain ⟨h1, h2, h3⟩ := key _ _ ((d.taken.started e 0).sameWork_reportWait _) Dev.Keeps.refl.reportWait rfl
  exact ⟨h1, h2, h3, rfl⟩

theorem dataCommands_counters :
    ExecutesTo .countersRead 0x91 3 (fun e d => 160 ≤ eAt e 10 2 ∧ d.areaValid (eAt e 8 2) (eAt e 10 2) = true ∧ d.xramClean ∧
        d.is R.CQ_CTRL_MODE = false ∧ bitOf (eFlags e) 6 = false)
      (fun e d t => d.endsOk t e 160 ∧ t.xbytes (eAt e 8 2) 160 = d.counterBlock) ∧
    ExecutesTo .countersClear 0x92 3 (fun _ _ => True)
      (fun e d t => d.endsOk t e 0 ∧ ∀ (k a : Nat), (k, a) ∈ countersOf →
        t.reg a = if bitOf (eAt e 8 4) k = true ∧ d.regReachable a = true then 0 else d.reg a) := by
  refine ⟨executesTo_of (fun _ => rfl) fun e d ha ho hl h => ?_, executesTo_of (fun _ => rfl) fun e d ha ho hl _ => ?_⟩
  · obtain ⟨hn, hv, hc, hm, h6⟩ := h
    rw [Dev.cqChecked_ok hl (.inl rfl) (fun h => absurd h Bool.false_ne_true)]
    dsimp only
    rw [if_neg (by omega), show d.taken.areaValid (eAt e 8 2) (eAt e 10 2) = true from hv, if_neg (by decide)]
    obtain ⟨m, hw, hb⟩ := Dev.xwriteEcc_clean (d := d.taken) hc clCqf (eAt e 8 2) d.taken.counterBlock
    have hlen : d.counterBlock.length = 160 := by
      unfold Dev.counterBlock
      simp only [List.length_flatMap, leBytes_length, List.map_const', List.length_append, List.length_cons, List.length_nil,
        List.length_map, List.length_range, List.sum_replicate]
      rfl
    have hk : Dev.Keeps { mem := true } d.taken (d.taken.withXram m) := Dev.Keeps.refl.upd (mem := nofun)
    rw [hw]
    refine ⟨hk.endsOk ha rfl 160, ?_⟩
    have hq := Dev.cqSync_quiet (x := d.taken.withXram m) (e := e) ha.2.1 h6 hm 160
    rw [show d.taken.counterBlock = d.counterBlock from rfl] at hb
    rw [hlen] at hb
    show readBytes xramDflt _ _ _ = _
    rw [hq]
    exact hb
  · rw [Dev.cqChecked_ok hl (.inl rfl) (fun h => absurd h Bool.false_ne_true)]
    have hlt : ∀ j ∈ bitsOf 13 (eAt e 8 4), j < 13 := fun j hj => (mem_bitsOf.mp hj).1
    have hreg := fun p hp => Dev.reg_clearAll (p := p) hp (bitsOf 13 (eAt e 8 4)) hlt d.taken
    have hexec := Dev.clearAll_exec (bitsOf 13 (eAt e 8 4)) d.taken
    have hk : Dev.Keeps Dev.clearCountersScope d.taken ((bitsOf 13 (eAt e 8 4)).foldl Dev.clearCounters d.taken) :=
      Dev.Keeps.foldl (fun _ _ hd => hd.clearCounters) .refl
    generalize (bitsOf 13 (eAt e 8 4)).foldl Dev.clearCounters d.taken = x at hreg hexec hk
    have hs : Dev.Keeps Dev.cqSyncScope x (x.cqSync e csOk 0) := Dev.Keeps.refl.cqSync
    have hst : x.st ≠ stHalted := fun h => ha.2.1 (hk.st.symm.trans h)
    refine ⟨Dev.cqSync_ok hst hk.get hk.get hexec (by rw [hk.ring rfl]) 0, fun k a hm => ?_⟩
    have hfree : ∀ p ∈ countersOf, Dev.cqSyncScope.has p.2 = false := by decide
    have hk13 : ∀ p ∈ countersOf, p.1 < 13 := by decide
    rw [hs.reg a (hfree (k, a) hm), hreg (k, a) hm]
    simp only [mem_bitsOf, hk13 (k, a) hm, true_and]
    rfl

theorem dataCommands_mailbox (n : Nat) :
    let runs := fun (d : Dev) => d.seqOn = true ∧ d.sq ≠ sqEmpty ∧ d.sq ≠ sqHalted
    ExecutesTo .mailbox 0xA0 (3 + n) (fun e d => runs d ∧ bitOf (d.get R.SEQ_EVPEND_EV) 1 = false ∧
        d.areaValid (eAt e 8 2) (4 * n) = true ∧ d.xramClean ∧ d.is R.CQ_CTRL_MODE = false ∧ bitOf (eFlags e) 6 = false)
      (fun e d t => d.endsOk t e (4 * n) ∧ t.get R.SEQ_MBOX_OFFSET = eAt e 8 2 ∧ t.get R.SEQ_MBOX_LEN = 4 * n % 2 ^ R.SEQ_MBOX_LEN.width ∧
        bitOf (t.get R.SEQ_EVPEND_EV) 1 = true ∧
        (e.length = 12 + 4 * n → t.xbytes (eAt e 8 2) (4 * n) = e.drop 12)) ∧
    ExecutesTo .mailbox 0xA0 (3 + n) (fun _ d => ¬runs d ∨ bitOf (d.get R.SEQ_EVPEND_EV) 1 = true)
      (fun e d t => d.endsBad t e ∧ t.reg R.SEQ_MBOX = d.reg R.SEQ_MBOX) := by
  refine ⟨executesTo_of (fun _ => rfl) fun e d ha ho hl h => ?_, executesTo_of (fun _ => rfl) fun e d ha ho hl h => ?_⟩
  · obtain ⟨⟨hon, he, hh⟩, hev, hv, hc, hm, h6⟩ := h
    have hlen : 4 * eLen e - 12 = 4 * n := by omega
    have h16 : eAt e 8 2 < 2 ^ 16 := by
      have := leNat_lt ((e.drop 8).take 2)
      have hle : ((e.drop 8).take 2).length ≤ 2 := List.length_take_le _ _
      exact lt_of_lt_of_le this (Nat.pow_le_pow_right (by decide) hle)
    dsimp only
    rw [if_neg (by omega), if_neg (fun h => h.elim (fun h => absurd (hon.symm.trans h) (by decide)) (fun h => h.elim he hh)),
      show bitOf (d.taken.get R.SEQ_EVPEND_EV) evMbox = false from hev, if_neg Bool.false_ne_true, hlen,
      show d.taken.areaValid (eAt e 8 2) (4 * n) = true from hv, if_neg (by decide)]
    obtain ⟨m, hw, hb⟩ := Dev.xwriteEcc_clean (d := d.taken) hc clCqf (eAt e 8 2) ((e.drop 12).take (4 * n))
    rw [hw]
    set y := ((d.taken.withXram m).put R.SEQ_MBOX_OFFSET (eAt e 8 2)).put R.SEQ_MBOX_LEN (4 * n) with hy
    have hky : Dev.Keeps { mem := true, regs := [R.SEQ_MBOX, R.SEQ_EVPEND] } d.taken y :=
      Dev.Keeps.put (Dev.Keeps.put (Dev.Keeps.refl.upd (mem := fun h => absurd h (by decide))))
    have hlive : y.seqLive = true := by
      rw [hky.seqLive]
      show (d.domOn 0 || d.dom 0 == 3) = true
      rw [show d.domOn 0 = true from hon, Bool.true_or]
    have hev : Dev.Keeps Dev.eventScope y (y.event evMbox) := Dev.Keeps.refl.event
    have hbit : bitOf ((y.event evMbox).get R.SEQ_EVPEND_EV) 1 = true := by
      rw [Dev.bitOf_event y evMbox (by decide), hlive]
      exact Bool.or_true _
    have hmem : (y.event evMbox).mem = (d.taken.withXram m).mem := hev.mem rfl
    have hkx : Dev.Keeps { mem := true, regs := [R.SEQ_MBOX, R.SEQ_EVPEND] } d.taken (y.event evMbox) := hky.event
    generalize y.event evMbox = x at hev hbit hmem hkx
    have hs : Dev.Keeps Dev.cqSyncScope x (x.cqSync e csOk (4 * n)) := Dev.Keeps.refl.cqSync
    refine ⟨hkx.endsOk ha (by rw [hkx.ring rfl]; rfl) _, ?_, ?_, by rw [hs.get]; exact hbit, fun hel => ?_⟩
    · rw [hs.get, hev.get, hy, Dev.get_put_ne _ _ _ _ (by decide), Dev.get_put_self _ _ _ (by decide)]
      exact Nat.mod_eq_of_lt h16
    · rw [hs.get, hev.get, hy, Dev.get_put_self _ _ _ (by decide)]
    · have htake : (e.drop 12).take (4 * n) = e.drop 12 := List.take_of_length_le (by rw [List.length_drop]; omega)
      have hl4 : (e.drop 12).length = 4 * n := by rw [List.length_drop]; omega
      rw [htake, hl4] at hb
      have hmode : x.is R.CQ_CTRL_MODE = false := hkx.is.trans hm
      show readBytes xramDflt _ _ _ = _
      rw [Dev.cqSync_quiet (fun h => ha.2.1 (hkx.st.symm.trans h)) h6 hmode, hmem]
      exact hb
  · dsimp only
    have hend : ∀ status detail, status ≠ csOk →
        d.endsBad (d.taken.cqSync e status detail) e ∧ (d.taken.cqSync e status detail).reg R.SEQ_MBOX = d.reg R.SEQ_MBOX :=
      fun status detail hne => ⟨Dev.taken_bad ha hne _, (Dev.Keeps.refl.cqSync : Dev.Keeps Dev.cqSyncScope d.taken _).reg _ rfl⟩
    rw [if_neg (by omega)]
    split
    · exact hend _ _ (by decide)
    · next hruns =>
      rw [if_pos]
      · exact hend _ _ (by decide)
      · refine h.resolve_left fun hn => hn ?_
        simp only [not_or] at hruns
        obtain ⟨h1, h2, h3⟩ := hruns
        exact ⟨(Bool.not_eq_false _).mp h1, h2, h3⟩

/-- Settles O49, command by command. -/
theorem dataCommands : Obligations.DataCommands := by
  unfold Obligations.DataCommands
  exact ⟨fun n h0 hn => dataCommands_regionSet n h0 hn, fun n h0 hn => dataCommands_keymapSet n h0 hn, dataCommands_hopTableSet,
    dataCommands_imageDump.1, dataCommands_imageDump.2, dataCommands_periXfer.1, dataCommands_periXfer.2, dataCommands_logRead,
    dataCommands_counters.1, dataCommands_counters.2, fun n => dataCommands_mailbox n⟩

end Sys2Proof.Machine

end

section
/-!
Proofs for the power and cluster commands (chapters 15, 16 and 18): the statement O50.
-/

namespace Sys2Proof.Machine
set_option Elab.async false

/-! ### Domains that are switched on and off -/

/-- What the switching of domains may write in a calm device, register by register. -/
abbrev Dev.turnScope : Dev.Scope := Dev.drainScope

theorem Dev.Keeps.auxResumeOf {d t : Dev} (h : Dev.Keeps Dev.auxEndScope d t) : Dev.Keeps Dev.auxEndScope d t.auxResume := by
  have one : ∀ (e : Dev) n, n = 0 ∨ n = 1 → Dev.Keeps Dev.auxEndScope d e →
      Dev.Keeps Dev.auxEndScope d (if e.is (R.AX_CFG_EN n) && !(bitOf (e.conv n).cfg 1 && (e.conv n).outs != 0) then e.convStart n else e) :=
    fun e n hn he => .ite (Dev.Keeps.convStartOf hn he) he
  exact one _ 1 (.inr rfl) (one _ 0 (.inl rfl) h)

theorem Dev.Keeps.drainCancelOf {d t : Dev} (h : Dev.Keeps Dev.turnScope d t) (k : Nat) : Dev.Keeps Dev.turnScope d (t.drainCancel k) := by
  unfold Dev.drainCancel
  extract_lets e1 e2 d1
  have h1 : Dev.Keeps Dev.turnScope d e1 := h.setDom
  have h2 : Dev.Keeps Dev.turnScope d d1 := h1.upd (pwr := nofun)
  exact .ite (h2.step (v := Dev.auxEndScope) (by decide) (Dev.Keeps.auxResumeOf .refl)) h2

theorem Dev.Keeps.switchOnOf {d t : Dev} (h : Dev.Keeps Dev.turnScope d t) (k : Nat) : Dev.Keeps Dev.turnScope d (t.switchOn k) := by
  unfold Dev.switchOn
  extract_lets s p
  exact .ite (.ite (h.upd (pwr := nofun)) h.setDom) (.ite (h.upd (pwr := nofun)) (.ite (h.drainCancelOf k)
    (.ite (h.upd (pwr := nofun)) (h.upd (pwr := nofun)))))

theorem Dev.Keeps.switchOffOf {d t : Dev} (hc : t.calm) (h : Dev.Keeps Dev.turnScope d t) (k : Nat) :
    Dev.Keeps Dev.turnScope d (t.switchOff k) := by
  unfold Dev.switchOff
  extract_lets s p
  exact .ite (.ite (h.upd (pwr := nofun)) (h.step (by decide) (Dev.Keeps.drainStartOf hc k))) (.ite (h.upd (pwr := nofun))
    (.ite (h.upd (pwr := nofun)) (.ite h (h.upd (pwr := nofun)))))

theorem Dev.Keeps.domStartOf {d t : Dev} {q : DomReq} (hc : t.calm ∨ q.off = 0) (h : Dev.Keeps Dev.turnScope d t) :
    Dev.Keeps Dev.turnScope d (t.domStart q) := by
  have hon : Dev.Keeps Dev.turnScope d ((bitsOf 12 q.on).foldl Dev.switchOn t) := Dev.Keeps.foldl (fun _ k hx => hx.switchOnOf k) h
  rcases hc with hc | h0
  case inr =>
    unfold Dev.domStart
    rw [h0]
    exact hon
  have hcalm : Dev.Calms t ((bitsOf 12 q.on).foldl Dev.switchOn t) :=
    .foldl (fun _ k hx => hx.step (v := Dev.switchOnScope) (Dev.Keeps.switchOn .refl)) (.refl hc)
  have hoff : ∀ (l : List Nat) (x : Dev), x.calm → Dev.Keeps Dev.turnScope d x → Dev.Keeps Dev.turnScope d (l.foldl Dev.switchOff x) := by
    intro l
    induction l with
    | nil => exact fun _ _ h => h
    | cons k l ih => exact fun x hx h => ih _ ((Dev.Calms.refl hx).switchOff k).calm (h.switchOffOf hx k)
  exact hoff _ _ hcalm.calm hon

/-- How a domain stands in a request: its state, and whether it waits for a tick to be switched on. -/
def Dev.turn (d : Dev) (k : Nat) : Nat × Bool := (d.dom k, bitOf d.pwr.tickOn k)

theorem Dev.turn_upd {d : Dev} {p : Pwr} (j : Nat) (h : bitOf p.tickOn j = bitOf d.pwr.tickOn j) :
    ({ d with pwr := p } : Dev).turn j = d.turn j := congrArg (Prod.mk (d.dom j)) h

theorem Dev.turn_setDom_ne (d : Dev) {j k : Nat} (hj : j < 12) (hk : k < 12) (h : j ≠ k) (s : Nat) : (d.setDom k s).turn j = d.turn j := by
  unfold Dev.turn
  rw [Dev.dom_setDom d hj hk, if_neg h]
  rfl

/-- A domain's switching leaves the others as they are. -/
theorem Dev.turn_switchOn_ne (d : Dev) {j k : Nat} (hj : j < 12) (hk : k < 12) (h : j ≠ k) : (d.switchOn k).turn j = d.turn j := by
  unfold Dev.switchOn
  extract_lets s p
  split
  · split
    · exact Dev.turn_upd j (by rw [bitOf_setBit, if_neg h])
    · exact d.turn_setDom_ne hj hk h 1
  · split
    · exact Dev.turn_upd j rfl
    · split
      · have hp : (d.drainCancel k).pwr.tickOn = d.pwr.tickOn := by
          unfold Dev.drainCancel
          extract_lets e1 d1
          have h1 : d1.pwr.tickOn = d.pwr.tickOn := rfl
          clear_value d1
          split
          · rw [(Dev.Keeps.auxResume .refl : Dev.Keeps Dev.auxResumeScope d1 _).pwr rfl, h1]
          · exact h1
        unfold Dev.turn
        rw [Dev.dom_drainCancel d hj hk, if_neg h, hp]
      · split
        · exact Dev.turn_upd j rfl
        · exact Dev.turn_upd j rfl

theorem Dev.drainStart_tickOn {d : Dev} (hc : d.calm) (k : Nat) : (d.drainStart k).pwr.tickOn = d.pwr.tickOn := by
  rw [Dev.drainStart_eq]
  show (d.drainWork k).pwr.tickOn = _
  unfold Dev.drainWork
  split
  · exact congrArg Pwr.tickOn ((Dev.Keeps.clusterLeave (w := Dev.clusterLeaveScope) .refl).pwr rfl)
  · exact congrArg Pwr.tickOn ((Dev.Keeps.calEnds_calm hc (Dev.Keeps.auxDrainOf .refl) Dev.auxDrain_due rfl).pwr rfl)
  · rfl
  · rfl
  · rfl

theorem Dev.turn_switchOff_ne {d : Dev} (hc : d.calm) {j k : Nat} (hj : j < 12) (hk : k < 12) (h : j ≠ k) :
    (d.switchOff k).turn j = d.turn j := by
  unfold Dev.switchOff
  extract_lets s p
  split
  · split
    · exact Dev.turn_upd j rfl
    · unfold Dev.turn
      rw [Dev.dom_drainStart hc hj hk, if_neg h, Dev.drainStart_tickOn hc]
  · split
    · exact Dev.turn_upd j (by rw [bitOf_setBit, if_neg h])
    · split
      · exact Dev.turn_upd j rfl
      · split
        · rfl
        · exact Dev.turn_upd j rfl

/-- A domain that is OFF is switched on, at once or with the next tick. -/
theorem Dev.turn_switchOn_self {d : Dev} {k : Nat} (hk : k < 12) (h : d.dom k = 0) :
    (d.switchOn k).turn k = if d.ticking && tickGated k then (0, true) else (1, (d.turn k).2) := by
  unfold Dev.switchOn
  extract_lets s p
  rw [if_pos h]
  split
  · show (d.dom k, bitOf (setBit d.pwr.tickOn k true) k) = _
    rw [h, bitOf_setBit, if_pos rfl]
  · unfold Dev.turn
    rw [Dev.dom_setDom d hk hk, if_pos rfl]
    rfl

/-- A domain that is ON without ticks drains at once. -/
theorem Dev.dom_switchOff_self {d : Dev} (hc : d.calm) {k : Nat} (hk : k < 12) (h : d.dom k = 2) (ht : d.ticking = false) :
    (d.switchOff k).dom k = 3 := by
  unfold Dev.switchOff
  extract_lets s p
  rw [if_pos h, if_neg (by rw [ht]; exact Bool.false_ne_true), Dev.dom_drainStart hc hk hk, if_pos rfl]

theorem Dev.turn_onFold {l : List Nat} (hn : l.Nodup) (hl : ∀ k ∈ l, k < 12) (d : Dev) {k : Nat} (hk : k < 12) :
    (k ∉ l → (l.foldl Dev.switchOn d).turn k = d.turn k) ∧
    (k ∈ l → d.dom k = 0 → (l.foldl Dev.switchOn d).turn k = if d.ticking && tickGated k then (0, true) else (1, (d.turn k).2)) := by
  induction l generalizing d with
  | nil => exact ⟨fun _ => rfl, nofun⟩
  | cons j l ih =>
    obtain ⟨hj, hn'⟩ := List.nodup_cons.1 hn
    have hj12 := hl j List.mem_cons_self
    obtain ⟨h1, h2⟩ := ih hn' (fun x hx => hl x (List.mem_cons_of_mem _ hx)) (d.switchOn j)
    rw [List.foldl_cons]
    refine ⟨fun hm => ?_, fun hm h0 => ?_⟩
    · rw [List.mem_cons, not_or] at hm
      exact (h1 hm.2).trans (d.turn_switchOn_ne hk hj12 hm.1)
    · by_cases hkj : k = j
      · subst hkj
        exact (h1 hj).trans (Dev.turn_switchOn_self hk h0)
      · have ht := d.turn_switchOn_ne hk hj12 hkj
        have htick : (d.switchOn j).ticking = d.ticking := (Dev.Keeps.switchOn (w := Dev.switchOnScope) .refl).ticking
        have hm' : k ∈ l := (List.mem_cons.1 hm).resolve_left hkj
        rw [h2 hm' ((congrArg Prod.fst ht).trans h0), htick, ht]

theorem Dev.turn_offFold {l : List Nat} (hn : l.Nodup) (hl : ∀ k ∈ l, k < 12) {d : Dev} (hc : d.calm) {k : Nat} (hk : k < 12) :
    (k ∉ l → (l.foldl Dev.switchOff d).turn k = d.turn k) ∧
    (k ∈ l → d.dom k = 2 → d.ticking = false → (l.foldl Dev.switchOff d).dom k = 3) := by
  induction l generalizing d with
  | nil => exact ⟨fun _ => rfl, nofun⟩
  | cons j l ih =>
    obtain ⟨hj, hn'⟩ := List.nodup_cons.1 hn
    have hj12 := hl j List.mem_cons_self
    obtain ⟨h1, h2⟩ := ih hn' (fun x hx => hl x (List.mem_cons_of_mem _ hx)) ((Dev.Calms.refl hc).switchOff j).calm
    rw [List.foldl_cons]
    refine ⟨fun hm => ?_, fun hm h0 ht => ?_⟩
    · rw [List.mem_cons, not_or] at hm
      exact (h1 hm.2).trans (Dev.turn_switchOff_ne hc hk hj12 hm.1)
    · by_cases hkj : k = j
      · subst hkj
        exact (congrArg Prod.fst (h1 hj)).trans (Dev.dom_switchOff_self hc hk h0 ht)
      · have hu := Dev.turn_switchOff_ne hc hk hj12 hkj
        have htick : (d.switchOff j).ticking = d.ticking := (Dev.Keeps.switchOffOf hc .refl j).ticking
        exact h2 ((List.mem_cons.1 hm).resolve_left hkj) ((congrArg Prod.fst hu).trans h0) (htick.trans ht)

/-- What a request makes of the domains that it names. -/
theorem Dev.domStart_turn {d : Dev} (q : DomReq) (hc : d.calm ∨ q.off = 0) (hd : q.on &&& q.off = 0) {k : Nat} (hk : k < 12) :
    (bitOf q.on k = true → d.dom k = 0 → (d.domStart q).turn k = if d.ticking && tickGated k then (0, true) else (1, (d.turn k).2)) ∧
    (bitOf q.off k = true → d.dom k = 2 → d.ticking = false → (d.domStart q).dom k = 3) := by
  have hdis : ¬(bitOf q.on k = true ∧ bitOf q.off k = true) := by
    rintro ⟨h1, h2⟩
    rw [bitOf_testBit] at h1 h2
    have := congrArg (fun n => n.testBit k) hd
    simp [Nat.testBit_and, h1, h2] at this
  have hlt : ∀ m, ∀ k ∈ bitsOf 12 m, k < 12 := fun m k hm => (mem_bitsOf.1 hm).1
  obtain ⟨hon0, hon1⟩ := Dev.turn_onFold (nodup_bitsOf 12 q.on) (hlt _) d hk
  have hoff : ∀ x : Dev, x = (bitsOf 12 q.on).foldl Dev.switchOn d →
      (k ∉ bitsOf 12 q.off → ((bitsOf 12 q.off).foldl Dev.switchOff x).turn k = x.turn k) ∧
      (k ∈ bitsOf 12 q.off → x.dom k = 2 → x.ticking = false → ((bitsOf 12 q.off).foldl Dev.switchOff x).dom k = 3) := by
    rintro x rfl
    rcases hc with hc | h0
    · have hcalm : Dev.Calms d ((bitsOf 12 q.on).foldl Dev.switchOn d) :=
        .foldl (fun _ k hx => hx.step (v := Dev.switchOnScope) (Dev.Keeps.switchOn .refl)) (.refl hc)
      exact Dev.turn_offFold (nodup_bitsOf 12 q.off) (hlt _) hcalm.calm hk
    · rw [h0]
      exact ⟨fun _ => rfl, fun hm => absurd (mem_bitsOf.1 hm).2 (by unfold bitOf; simp)⟩
  obtain ⟨hoff0, hoff1⟩ := hoff _ rfl
  have htick : ((bitsOf 12 q.on).foldl Dev.switchOn d).ticking = d.ticking :=
    (Dev.Keeps.foldl (fun _ _ hx => hx.switchOn) .refl : Dev.Keeps Dev.switchOnScope d _).ticking
  refine ⟨fun h1 h0 => ?_, fun h1 h2 ht => ?_⟩
  · exact (hoff0 fun hm => hdis ⟨h1, (mem_bitsOf.1 hm).2⟩).trans (hon1 (mem_bitsOf.2 ⟨hk, h1⟩) h0)
  · have := congrArg Prod.fst (hon0 fun hm => hdis ⟨(mem_bitsOf.1 hm).2, h1⟩)
    exact hoff1 (mem_bitsOf.2 ⟨hk, h1⟩) (this.trans h2) (htick.trans ht)

/-! ### POWER_REQ -/

/-- A POWER_REQ whose operands are good starts its request behind its slot. -/
theorem Dev.powerReq_started {d : Dev} {e : List Byte} (hf : d.atFront e) (ho : eOp e = 0x70) (hl : eLen e = 4)
    (hs : d.st = stBootWait ∨ d.st = stReady ∨ d.st = stRunning) (ha : d.asyncsOf 0x70 = []) (hact : eAt e 8 1 ≤ 3)
    (hplain : eAt e 8 1 = 0 ∨ (eAt e 10 2 = 0 ∧ eAt e 12 2 = 0)) (hdis : eAt e 10 2 &&& eAt e 12 2 = 0) {acts : Nat → Bool}
    (hacts : acts (eAt e 8 1) = true) (go : Dev → Nat → Nat → Async → Dev) :
    d.cmdPowerReq acts go = go (d.taken.started e 0) (eAt e 10 2) (eAt e 12 2) (d.taken.inFlight e 0) := by
  have hst : powerStates.contains d.taken.st = true := by
    show powerStates.contains d.st = true
    rcases hs with h | h | h <;> rw [h] <;> rfl
  unfold Dev.cmdPowerReq
  rw [Dev.cqRun_front hf (by simp [isOp, ho, hacts]), Dev.cqChecked_ok hl (.inr hst) (fun _ => by rw [ho]; exact ha)]
  dsimp only
  rw [if_neg (by omega), if_neg (by omega), if_neg (by omega), if_neg (fun h => h hdis)]
  rfl

/-- A request for domains of the program or of a command, in a device that takes it. -/
theorem Dev.domRequest_taken {d : Dev} {on off : Nat} (a : Async) (hdis : on &&& off = 0) (hq : d.pwr.stateReq = none)
    (hcrit : d.is R.FLT_TEMPST_CRIT = false) (hs : d.st ≠ stChecking)
    (huse : ∀ k, k < 12 → bitOf off k = true → d.domInUse k = none) : ∃ x, Dev.Keeps { pwr := true, regs := [R.PWR_RES] } d x ∧
      x.pwr = { d.pwr with domReqs := d.pwr.domReqs ++ [⟨on, off, some a, false⟩] } ∧
      d.domRequest on off (some a) = (x.domStart ⟨on, off, some a, false⟩).domReqsEnd := by
  have hw : (d.st == stChecking) = false := by simpa using hs
  have hnone : (bitsOf 12 off).find? (fun k => (d.domInUse k).isSome) = none := by
    rw [List.find?_eq_none]
    intro k hk
    rw [huse k (mem_bitsOf.1 hk).1 (mem_bitsOf.1 hk).2]
    exact Bool.false_ne_true
  refine ⟨({ d with pwr := { d.pwr with domReqs := d.pwr.domReqs ++ [⟨on, off, some a, false⟩] } } : Dev).pwrBusy,
    Dev.Keeps.pwrBusy (Dev.Keeps.refl.upd (pwr := nofun)), rfl, ?_⟩
  have hnot : d.pwr.stateReq.isSome = false := by rw [hq]; rfl
  unfold Dev.domRequest
  rw [if_neg (fun h => h hdis), if_neg (fun h => absurd h.2.2 Bool.false_ne_true), hnot, if_neg Bool.false_ne_true, hcrit, Bool.false_and,
    if_neg Bool.false_ne_true, hnone, hw]
  rfl

/-- The ends of domain requests leave the domains as they are. -/
theorem Dev.turn_domReqsEnd (d : Dev) (k : Nat) : d.domReqsEnd.turn k = d.turn k := by
  unfold Dev.domReqsEnd
  generalize d.pwr.domReqs = l
  induction l generalizing d with
  | nil => rfl
  | cons q l ih =>
    rw [List.foldl_cons, ih]
    split
    · generalize hx : ({ d with pwr := { d.pwr with domReqs := d.pwr.domReqs.erase q } } : Dev) = x
      have hk : Dev.Keeps Dev.pwrAnswerScope x (x.pwrAnswer 0 q.cmd 0 0) := Dev.Keeps.pwrAnswer .refl
      unfold Dev.turn
      rw [hk.dom k, (x.pwrAnswer_spec 0 q.cmd 0 0).1, ← hx]
      rfl
    · rfl

/-- What a request for domains makes of them, behind its slot. -/
theorem Dev.domRequest_rises {d : Dev} {e : List Byte} {on off : Nat} (hc : d.calm ∨ off = 0) (hdis : on &&& off = 0)
    (hq : d.pwr.stateReq = none) (hcrit : d.is R.FLT_TEMPST_CRIT = false) (hs : d.st ≠ stChecking)
    (huse : ∀ k, k < 12 → bitOf off k = true → (d.taken.started e 0).domInUse k = none) {t : Dev}
    (ht : t = (d.taken.started e 0).domRequest on off (some (d.taken.inFlight e 0))) :
    d.passes t e ∧
    (∀ k, k < 12 → bitOf on k = true → d.dom k = 0 →
      (¬(d.ticking = true ∧ k ∈ [3, 4, 5]) → t.dom k = 1) ∧ ((d.ticking = true ∧ k ∈ [3, 4, 5]) → bitOf t.pwr.tickOn k = true)) ∧
    ∀ k, k < 12 → bitOf off k = true → d.dom k = 2 → d.ticking = false → t.dom k = 3 := by
  have hk0 := d.taken.started_keeps e 0
  obtain ⟨x, hx, hxp, hreq⟩ := Dev.domRequest_taken (d := d.taken.started e 0) (on := on) (off := off) (d.taken.inFlight e 0) hdis
    (by rw [hk0.pwr rfl]; exact hq) (hk0.is.trans hcrit) (fun h => hs (hk0.st.symm.trans h)) huse
  have hdx : Dev.Keeps { Dev.cqSyncScope with pwr := true, regs := R.PWR_RES :: Dev.cqSyncScope.regs } d.taken x :=
    Dev.Keeps.step (Dev.Keeps.step .refl (by decide) hk0) (by decide) hx
  have hcx : x.calm ∨ off = 0 := hc.imp_left fun hc => Dev.calm_of_keeps hdx (h := hc)
  have hstart : Dev.Keeps Dev.turnScope x (x.domStart ⟨on, off, some (d.taken.inFlight e 0), false⟩) := Dev.Keeps.domStartOf hcx .refl
  have hxturn : ∀ k, x.turn k = d.turn k := fun k => by
    unfold Dev.turn
    rw [hdx.dom k, hxp, hk0.pwr rfl]
    rfl
  have hxtick : x.ticking = d.ticking := hdx.ticking
  rw [ht, hreq]
  refine ⟨?_, fun k hk hon h0 => ?_, fun k hk hoff h2 hti => ?_⟩
  · have hall : Dev.Keeps { Dev.turnScope with regs := [R.HP_ATTN, R.XR_ECCSB, R.XR_ECCDB, R.RQ_PI, R.RQ_CI, R.RQ_SEQX, R.RQ_LOST,
        R.RQ_STATUS, R.PWR_RES] ++ Dev.turnScope.regs } (d.taken.started e 0)
        (x.domStart ⟨on, off, some (d.taken.inFlight e 0), false⟩).domReqsEnd :=
      Dev.Keeps.domReqsEnd (Dev.Keeps.step (Dev.Keeps.step .refl (by decide) hx) (by decide) hstart)
    exact hall.passes (d.taken.started_passes e 0)
  · have hturn := (Dev.domStart_turn ⟨on, off, some (d.taken.inFlight e 0), false⟩ hcx hdis hk).1 hon
      ((congrArg Prod.fst (hxturn k)).trans h0)
    rw [← Dev.turn_domReqsEnd, hxtick] at hturn
    generalize (x.domStart ⟨on, off, some (d.taken.inFlight e 0), false⟩).domReqsEnd = y at hturn
    have hgate : tickGated k = true ↔ k ∈ [3, 4, 5] := by
      unfold tickGated
      simp [or_assoc]
    refine ⟨fun hw => ?_, fun hw => ?_⟩
    · rw [if_neg (by rw [Bool.and_eq_true, hgate]; exact hw)] at hturn
      exact congrArg Prod.fst hturn
    · rw [if_pos (by rw [Bool.and_eq_true, hgate]; exact hw)] at hturn
      exact congrArg Prod.snd hturn
  · have h3 := (Dev.domStart_turn ⟨on, off, some (d.taken.inFlight e 0), false⟩ hcx hdis hk).2 hoff
      ((congrArg Prod.fst (hxturn k)).trans h2) (hxtick.trans hti)
    exact (congrArg Prod.fst (Dev.turn_domReqsEnd _ k)).trans h3

theorem Dev.started_heathBank (d : Dev) (e : List Byte) : (d.started e 0).heathBank = d.heathBank := by
  have hk := d.started_keeps e 0
  have hg : (d.started e 0).guars = d.guars := by
    have hfree : ∀ c : Fin 7, Dev.cqAsyncScope.has (R.XR_GUAR c.val) = false := by decide
    unfold Dev.guars
    exact List.map_congr_left fun c hc => hk.reg _ (hfree ⟨c, List.mem_range.1 hc⟩)
  unfold Dev.heathBank
  rw [hg]

/-! ### Fallow -/

/-- What the entry into Fallow may write behind the command's slot: no index of the command queue. -/
abbrev Dev.fallowWorkScope : Dev.Scope :=
  { Dev.drainScope with regs := [R.CQ_CTRL, R.RQ_CTRL, R.PWR_RES] ++ Dev.drainScope.regs }

theorem Dev.fallowOpen_work {d : Dev} (hf : d.ring.fence = none) (own : Option Async) :
    Dev.Keeps Dev.fallowWorkScope d (d.fallowOpen own) := by
  have hwork : ∀ (l : List Async) (x : Dev), x.ring.fence = none → (x.endAsyncs l csAborted 0).ring.fence = none := by
    intro l
    induction l with
    | nil => exact fun _ h => h
    | cons a l ih => exact fun x h => ih _ ((x.sameWork_complete a.tag csAborted a.op a.count 0 a.seq).2.2.1.trans h)
  have hend : ∀ x : Dev, x.ring.fence = none → x.fenceEnd csAborted 0 = x := fun x h => by
    unfold Dev.fenceEnd
    rw [h]
  unfold Dev.fallowOpen
  extract_lets d1 d2 p c d3 d4
  have h1 : Dev.Keeps Dev.fallowWorkScope d d1 := Dev.Keeps.endAsyncs .refl
  have h2 : d2 = d1 := hend d1 (hwork _ d hf)
  have h3 : Dev.Keeps Dev.fallowWorkScope d d3 := by
    have : Dev.Keeps Dev.fallowWorkScope d d2 := by rw [h2]; exact h1
    exact this.upd (pwr := nofun) (cl := nofun)
  exact (Dev.Keeps.cqOff (Dev.Keeps.pwrAnswer h3)).put

/-- The entry into Fallow leaves the indices of the command queue. -/
theorem Dev.fallowRequest_work {d e : Dev} (h : d.mayFallow) (hk : Dev.Keeps Dev.askScope d e) (hf : e.ring.fence = none)
    (cmd : Option Async) : Dev.Keeps Dev.fallowWorkScope e (e.fallowRequest cmd) := by
  obtain ⟨hst, henum, hreq, -, h7, hquiet⟩ := h
  rw [Dev.fallowRequest_taken (by rw [hk.st]; exact hst) (by rw [hk.enumerated]; exact henum) (by rw [hk.pwr rfl]; exact hreq), Dev.fallowEnter_eq]
  have hasked : Dev.Keeps { pwr := true, regs := [R.PWR_RES] } e (e.fallowAsked cmd) := Dev.Keeps.pwrBusy (.upd .refl (pwr := nofun))
  have ho := Dev.fallowOpen_work (d := e.fallowAsked cmd) (by rw [hasked.ring rfl]; exact hf) cmd
  obtain ⟨hopen, hop, -⟩ := (e.fallowAsked cmd).fallowOpen_spec cmd
  have hcalm : ((e.fallowAsked cmd).fallowOpen cmd).calm :=
    Dev.calm_of_keeps hopen (h := Dev.calm_of_keeps hasked (h := Dev.calm_of_keeps hk (h := Dev.calm_of_calQuiet hquiet)))
  have ho7 : ((e.fallowAsked cmd).fallowOpen cmd).dom 7 = 2 := by
    rw [hopen.dom 7, hasked.dom 7, hk.dom 7]
    exact beq_iff_eq.1 h7
  generalize (e.fallowAsked cmd).fallowOpen cmd = o at ho hop hcalm ho7
  have hstep : o.fallowStep = Dev.fallowWalk fallowOrder o := by
    unfold Dev.fallowStep
    rw [hop]
    rfl
  obtain ⟨hw, -, -⟩ := Dev.fallowWalk_spec (by decide) (by decide) fallowOrder (by decide) (by decide) o hcalm ho7
  rw [hstep]
  exact Dev.Keeps.step (Dev.Keeps.step (Dev.Keeps.step .refl (by decide) hasked) (by decide) ho) (by decide) hw

/-! ### CLUSTER_CFG -/

/-- What a frame sent on the ring is. -/
theorem Dev.clSend_frame {d : Dev} (h8 : d.domOn 8 = true) (typ dst frame : Nat) (body : List Byte) :
    ∃ f : RingFrame, (d.clSend typ dst frame body).cl.tx = d.cl.tx ++ [f] ∧ f.typ = typ ∧ f.dst = dst ∧ f.body = body ∧
      (d.clSend typ dst frame body).cl.enum = d.cl.enum := by
  unfold Dev.clSend
  rw [if_neg (by simp [h8])]
  exact ⟨_, rfl, rfl, rfl, rfl, rfl⟩

/-- A CLUSTER_CFG whose operands are good starts behind its slot. -/
theorem Dev.clusterCfg_started {d : Dev} {e : List Byte} (hf : d.atFront e) (ho : eOp e = 0x80) (hl : eLen e = 4) (hs : d.st = stReady)
    (hm : d.clMember = false) (ha : d.asyncsOf 0x80 = []) (hact : eAt e 8 1 ≤ 1)
    (hn : ¬((eAt e 8 1 = 0 ∧ (eAt e 9 1 = 0 ∨ 7 < eAt e 9 1)) ∨ (eAt e 8 1 = 1 ∧ eAt e 9 1 ≠ 0))) {acts : Nat → Bool}
    (hacts : acts (eAt e 8 1) = true) (go : Dev → Nat → Async → Dev) :
    d.cmdClusterCfg acts go = go (d.taken.started e 0) (eAt e 9 1) (d.taken.inFlight e 0) := by
  unfold Dev.cmdClusterCfg
  rw [Dev.cqRun_front hf (by simp [isOp, ho, hacts]), if_neg (fun h => h hl), if_neg (fun h => h hs), show d.taken.clMember = false from hm,
    if_neg Bool.false_ne_true, show d.taken.asyncsOf 0x80 = [] from ha, if_neg (by decide)]
  dsimp only
  rw [if_neg (by omega), if_neg hn]
  rfl

/-! ### The statement -/

/-- A POWER_REQ of a state that takes none ends with STATE. -/
theorem Dev.powerReq_refused {d : Dev} {e : List Byte} (ha : d.atFront e) (ho : eOp e = 0x70) (hl : eLen e = 4) (h1 : d.st ≠ stBootWait)
    (h2 : d.st ≠ stReady) (h3 : d.st ≠ stRunning) {acts : Nat → Bool} (hacts : acts (eAt e 8 1) = true)
    (go : Dev → Nat → Nat → Async → Dev) :
    d.endsBad (d.cmdPowerReq acts go) e ∧ (d.cmdPowerReq acts go).pwr = d.pwr ∧ d.cmdPowerReq acts go = d.taken.cqSync e 4 d.st := by
  have hb : d.cmdPowerReq acts go = d.taken.cqSync e csState d.st := by
    unfold Dev.cmdPowerReq
    rw [Dev.cqRun_front ha (by simp [isOp, ho, hacts])]
    unfold Dev.cqChecked
    rw [if_neg (fun h => h hl), if_pos ⟨by decide, by
      show powerStates.contains d.st = false
      simp [powerStates, h1, h2, h3]⟩]
    rfl
  have hk : Dev.Keeps Dev.cqSyncScope d.taken (d.taken.cqSync e csState d.st) := Dev.Keeps.refl.cqSync
  rw [hb]
  exact ⟨Dev.taken_bad ha (by decide) _, hk.pwr rfl, rfl⟩

/-- A CLUSTER_CFG of a member of a cluster ends with CLUSTER. -/
theorem Dev.clusterCfg_member {d : Dev} {e : List Byte} (ha : d.atFront e) (ho : eOp e = 0x80) (hl : eLen e = 4) (hs : d.st = stReady)
    (hm : d.clMember = true) {acts : Nat → Bool} (hacts : acts (eAt e 8 1) = true) (go : Dev → Nat → Async → Dev) :
    d.endsBad (d.cmdClusterCfg acts go) e ∧ (d.cmdClusterCfg acts go).cl = d.cl ∧
      d.cmdClusterCfg acts go = d.taken.cqSync e 12 (d.get R.CL_STATUS_NODE) := by
  have hb : d.cmdClusterCfg acts go = d.taken.cqSync e csCluster (d.get R.CL_STATUS_NODE) := by
    unfold Dev.cmdClusterCfg
    rw [Dev.cqRun_front ha (by simp [isOp, ho, hacts]), if_neg (fun h => h hl), if_neg (fun h => h hs),
      show d.taken.clMember = true from hm, if_pos rfl]
    rfl
  have hk : Dev.Keeps Dev.cqSyncScope d.taken (d.taken.cqSync e csCluster (d.get R.CL_STATUS_NODE)) := Dev.Keeps.refl.cqSync
  rw [hb]
  exact ⟨Dev.taken_bad ha (by decide) _, hk.cl rfl, rfl⟩

/-- Settles O50: the requests act behind their slot, domain by domain. -/
theorem powerAndClusterCommands : Obligations.PowerAndClusterCommands := by
  unfold Obligations.PowerAndClusterCommands
  intro may plain node waits rises
  have hnotchk : ∀ d, may d → d.st ≠ stChecking := fun d h => by
    rcases h.1 with h | h | h <;> rw [h] <;> decide
  refine ⟨fun e => leaves_of_act (f := fun d => d.cmdPowerDomains) (fun _ => rfl) fun d _ h => ?_,
    fun e => leaves_of_act (f := fun d => d.cmdPowerHeath) (fun _ => rfl) fun d _ h => ?_,
    fun e => leaves_of_act (f := fun d => d.cmdPowerFallow) (fun _ => rfl) fun d _ h => ?_,
    fun e => leaves_of_act (f := fun d => d.cmdPowerFallow) (fun _ => rfl) fun d _ h => ?_,
    fun e => leaves_of_act (f := fun d => d.cmdPowerMeadow) (fun _ => rfl) fun d _ h => ?_, fun c act hc => ?_,
    fun e => leaves_of_act (f := fun d => d.cmdEnumerate) (fun _ => rfl) fun d _ h => ?_,
    fun e => leaves_of_act (f := fun d => d.cmdDissolve) (fun _ => rfl) fun d _ h => ?_, fun c act hc => ?_⟩
  · obtain ⟨ha, ho, hl, hm, hact, hdis, hcrit, hquiet, huse⟩ := h
    rw [show d.cmdPowerDomains = _ from Dev.powerReq_started ha ho hl hm.1 hm.2.1 (by omega) (.inl hact) hdis (by rw [hact]; rfl) (fun d on off a => d.domRequest on off (some a))]
    exact Dev.domRequest_rises (.inl (Dev.calm_of_calQuiet hquiet)) hdis hm.2.2 hcrit (hnotchk d hm) huse rfl
  · obtain ⟨ha, ho, hl, hm, ⟨hact, hon, hoff⟩, hrun, hmem, hbank, hfits⟩ := h
    have hk := d.taken.started_keeps e 0
    have hr := d.taken.started_ring e 0
    have hreq : (d.taken.started e 0).heathRequest (some (d.taken.inFlight e 0)) =
        ({ d.taken.started e 0 with pwr := { (d.taken.started e 0).pwr with
          stateReq := some ⟨1, some (d.taken.inFlight e 0), false, false⟩
          hcfg := ((d.taken.started e 0).reg R.PWR_HCFG).toNat } } : Dev).pwrBusy := by
      unfold Dev.heathRequest
      rw [if_neg (fun h => h (hk.st.trans hrun)), hk.clMember, show d.taken.clMember = false from hmem, if_neg Bool.false_ne_true, hk.pwr rfl,
        if_neg (by rw [show d.taken.pwr.stateReq = none from hm.2.2]; exact Bool.false_ne_true), Dev.started_heathBank,
        show d.taken.heathBank = none from hbank, hfits]
      rfl
    rw [show d.cmdPowerHeath = _ from Dev.powerReq_started ha ho hl hm.1 hm.2.1 (by omega) (.inr ⟨hon, hoff⟩) (by rw [hon]; exact Nat.zero_and _) (by rw [hact]; rfl) (fun d _ _ a => d.heathRequest (some a))]
    dsimp only
    rw [hreq]
    have hkp : Dev.Keeps { pwr := true, regs := [R.PWR_RES] } (d.taken.started e 0)
        ({ d.taken.started e 0 with pwr := { (d.taken.started e 0).pwr with
          stateReq := some ⟨1, some (d.taken.inFlight e 0), false, false⟩
          hcfg := ((d.taken.started e 0).reg R.PWR_HCFG).toNat } } : Dev).pwrBusy := Dev.Keeps.pwrBusy (Dev.Keeps.refl.upd (pwr := nofun))
    refine ⟨hkp.inProgress (congrArg Ring.batch hr) (congrArg Ring.asyncs hr), d.taken.inFlight e 0, ?_, ?_, ?_, ?_⟩
    · rw [Dev.inFlight_eq]
      exact ho
    · rw [Dev.inFlight_eq]
    · show ({ (d.taken.started e 0).pwr with stateReq := _, hcfg := ((d.taken.started e 0).reg R.PWR_HCFG).toNat } : Pwr) = _
      rw [hk.pwr rfl, hk.reg R.PWR_HCFG]
      · rfl
      · decide
    · refine (Dev.is_putB_self _ R.PWR_RES_BUSY _ (by decide) (by decide)).trans ?_
      simp
  · obtain ⟨ha, ho, hl, hm, ⟨hact, hon, hoff⟩, hmay⟩ := h
    have hk : Dev.Keeps Dev.askScope d (d.taken.started e 0) :=
      Dev.Keeps.step (Dev.Keeps.refl.upd (ring := nofun) : Dev.Keeps Dev.askScope d d.taken) (by decide) (d.taken.started_keeps e 0)
    have hfence : (d.taken.started e 0).ring.fence = none := (congrArg Ring.fence (d.taken.started_ring e 0)).trans ha.2.2.2.2.1
    rw [show d.cmdPowerFallow = _ from Dev.powerReq_started ha ho hl hm.1 hm.2.1 (by omega) (.inr ⟨hon, hoff⟩) (by rw [hon]; exact Nat.zero_and _) (by rw [hact]; rfl) (fun d _ _ a => d.fallowRequest (some a))]
    exact ⟨(Dev.fallowRequest_work hmay hk hfence _).passes (d.taken.started_passes e 0), Dev.fallowRequest_enters hmay hk _⟩
  · obtain ⟨ha, ho, hl, hm, ⟨hact, hon, hoff⟩, hrun, henum, hquiet⟩ := h
    have hk := d.taken.started_keeps e 0
    have hst : (d.taken.started e 0).st = stRunning := hk.st.trans hrun
    have hen : (d.taken.started e 0).enumerated = false := hk.enumerated.trans henum
    have hq : (d.taken.started e 0).pwr.stateReq = none := by
      rw [hk.pwr rfl]
      exact hm.2.2
    have hc : (d.taken.started e 0).calm := Dev.calm_of_keeps hk (h := (Dev.calm_of_calQuiet hquiet : d.calm))
    obtain ⟨x, hx, -, hcl⟩ := Dev.fallowRequest_cleared hst hen hq hc (some (d.taken.inFlight e 0))
    obtain ⟨h1, h2, -⟩ := Dev.fallowRequest_running hst hen hq hc (some (d.taken.inFlight e 0))
    rw [show d.cmdPowerFallow = _ from Dev.powerReq_started ha ho hl hm.1 hm.2.1 (by omega) (.inr ⟨hon, hoff⟩) (by rw [hon]; exact Nat.zero_and _) (by rw [hact]; rfl) (fun d _ _ a => d.fallowRequest (some a))]
    refine ⟨?_, h1, h2⟩
    have hend : Dev.Keeps { Dev.runEndScope with pwr := true, hop := true, cl := true, regs := R.SYS_STATUS :: R.PWR_RES :: Dev.runEndScope.regs }
        (d.taken.started e 0) ((d.taken.started e 0).fallowRequest (some (d.taken.inFlight e 0))) :=
      Dev.Keeps.step (Dev.Keeps.setSt (Dev.Keeps.step (Dev.Keeps.step .refl (by decide) hx) (by decide) x.runEnd_keeps)) (by decide) hcl
    exact hend.passes (d.taken.started_passes e 0)
  · obtain ⟨ha, ho, hl, hm, ⟨hact, hon, hoff⟩, hcrit⟩ := h
    rw [show d.cmdPowerMeadow = _ from Dev.powerReq_started ha ho hl hm.1 hm.2.1 (by omega) (.inr ⟨hon, hoff⟩) (by rw [hon]; exact Nat.zero_and _) (by rw [hact]; rfl) (fun d _ _ a => d.meadowRequest a)]
    have hk := d.taken.started_keeps e 0
    have hset : (d.taken.started e 0).meadowRequest (d.taken.inFlight e 0) = (d.taken.started e 0).domRequest
        ((0xEFF + (if d.get R.CL_CTRL_ROLE = 0 then 0 else 0x100)) &&& (0xFFF - d.domsOn)) 0 (some (d.taken.inFlight e 0)) := by
      unfold Dev.meadowRequest Dev.domsOn
      rw [hk.get (f := R.CL_CTRL_ROLE), hk.get (f := R.PWR_ON_ON)]
      show (d.taken.started e 0).domRequest ((0xEFF + if (d.get R.CL_CTRL_ROLE != 0) = true then 0x100 else 0) &&& _) 0 _ = _
      by_cases h0 : d.get R.CL_CTRL_ROLE = 0
      · simp only [h0, bne_self_eq_false, Bool.false_eq_true, if_false, if_true]
        rfl
      · simp only [bne_iff_ne, ne_eq, h0, not_false_eq_true, if_true, if_false]
        rfl
    obtain ⟨h1, h2, -⟩ := Dev.domRequest_rises (.inr rfl) (Nat.and_zero _) hm.2.2 hcrit (hnotchk d hm)
      (fun k _ h0 => absurd h0 (by unfold bitOf; simp)) hset
    exact ⟨h1, h2⟩
  · simp only [List.mem_cons, Prod.mk.injEq, List.not_mem_nil, or_false] at hc
    obtain ⟨rfl, rfl⟩ | ⟨rfl, rfl⟩ | ⟨rfl, rfl⟩ | ⟨rfl, rfl⟩ := hc
    · refine fun e => leaves_of_act (f := fun d => d.cmdPowerDomains) (fun _ => rfl) fun d _ h => ?_
      obtain ⟨ha, ho, hl, hact, h1, h2, h3⟩ := h
      exact Dev.powerReq_refused ha ho hl h1 h2 h3 (by rw [hact]; rfl) _
    · refine fun e => leaves_of_act (f := fun d => d.cmdPowerHeath) (fun _ => rfl) fun d _ h => ?_
      obtain ⟨ha, ho, hl, hact, h1, h2, h3⟩ := h
      exact Dev.powerReq_refused ha ho hl h1 h2 h3 (by rw [hact]; rfl) _
    · refine fun e => leaves_of_act (f := fun d => d.cmdPowerFallow) (fun _ => rfl) fun d _ h => ?_
      obtain ⟨ha, ho, hl, hact, h1, h2, h3⟩ := h
      exact Dev.powerReq_refused ha ho hl h1 h2 h3 (by rw [hact]; rfl) _
    · refine fun e => leaves_of_act (f := fun d => d.cmdPowerMeadow) (fun _ => rfl) fun d _ h => ?_
      obtain ⟨ha, ho, hl, hact, h1, h2, h3⟩ := h
      exact Dev.powerReq_refused ha ho hl h1 h2 h3 (by rw [hact]; rfl) _
  · obtain ⟨ha, ho, hl, ⟨hs, hm, hb⟩, hact, h0, h7, hlead, henum, h8, hlink⟩ := h
    have hk := d.taken.started_keeps e 0
    have hr := d.taken.started_ring e 0
    have hcmd : d.cmdEnumerate = (d.taken.started e 0).enumStart (eAt e 9 1) (d.taken.inFlight e 0) :=
      Dev.clusterCfg_started ha ho hl hs hm hb (by omega) (by omega) (by rw [hact]; rfl) (fun d n a => d.enumStart n a)
    generalize hx : (({ d.taken.started e 0 with cl := { (d.taken.started e 0).cl with
      enum := some ⟨1, eAt e 9 1, 0, 0, [], d.taken.inFlight e 0⟩ } } : Dev).put R.CL_STATUS_NMEMB 0) = x
    have hkx : Dev.Keeps { cl := true, regs := [R.CL_STATUS] } (d.taken.started e 0) x := by
      rw [← hx]
      exact Dev.Keeps.put (Dev.Keeps.upd (w := { cl := true, regs := [R.CL_STATUS] }) .refl (cl := nofun))
    have hxe : x.cl.enum = some ⟨1, eAt e 9 1, 0, 0, [], d.taken.inFlight e 0⟩ := by
      rw [← hx]
      rfl
    have hxt : x.cl.tx = d.cl.tx := by
      rw [← hx]
      show (d.taken.started e 0).cl.tx = _
      rw [hk.cl rfl]
      rfl
    have hxn : x.get R.CL_STATUS_NMEMB = 0 := by
      rw [← hx]
      exact Dev.get_put_self _ _ _ (by decide)
    have hxis : ∀ f : Field, f.addr = R.CL_STATUS → (f.addr ≠ R.CL_STATUS_NMEMB.addr ∨ R.CL_STATUS_NMEMB.lo + R.CL_STATUS_NMEMB.width ≤ f.lo ∨
        f.lo + f.width ≤ R.CL_STATUS_NMEMB.lo) → x.is f = d.is f := by
      intro f hf hne
      rw [← hx, Dev.is_put_ne _ _ _ _ hne]
      have : (d.taken.started e 0).is f = d.taken.is f := hk.is (by rw [hf]; decide)
      exact this
    have h8' : x.domOn 8 = true := (hkx.domOn 8).trans ((hk.domOn 8).trans h8)
    have hstart : (d.taken.started e 0).enumStart (eAt e 9 1) (d.taken.inFlight e 0) = x.clSend frEnum clAll 0 [1] := by
      have hon : ({ d.taken.started e 0 with cl := { (d.taken.started e 0).cl with
          enum := some ⟨1, eAt e 9 1, 0, 0, [], d.taken.inFlight e 0⟩ } } : Dev).domOn 8 = true := (hk.domOn 8).trans h8
      unfold Dev.enumStart
      dsimp only
      rw [if_pos hon, hx, show x.isLead = true from (hkx.isLead).trans ((hk.isLead).trans hlead), if_neg (by decide),
        show x.enumerated = false from (hxis R.CL_STATUS_ENUM rfl (by decide)).trans henum, if_neg Bool.false_ne_true, h8', if_neg (by decide),
        (hxis R.CL_STATUS_LINK rfl (by decide)).trans hlink, if_neg (by decide)]
    rw [hcmd, hstart]
    obtain ⟨f, hf, ht, hdst, hbody, hen⟩ := Dev.clSend_frame h8' frEnum clAll 0 [1]
    have hks : Dev.Keeps { cl := true, regs := [R.CL_STATUS] } (d.taken.started e 0) (x.clSend frEnum clAll 0 [1]) := hkx.clSend
    have hkc : Dev.Keeps Dev.clSendScope x (x.clSend frEnum clAll 0 [1]) := Dev.Keeps.refl.clSend
    refine ⟨hks.inProgress (congrArg Ring.batch ((hks.ring rfl).trans hr)) (congrArg Ring.asyncs ((hks.ring rfl).trans hr)),
      hkc.get.trans hxn, ⟨_, hen.trans hxe, rfl, rfl⟩, f, by rw [hf, hxt], ht, hdst, hbody⟩
  · obtain ⟨ha, ho, hl, ⟨hs, hm, hb⟩, hact, h0, hlead, h8⟩ := h
    have hk := d.taken.started_keeps e 0
    have hr := d.taken.started_ring e 0
    have hcmd : d.cmdDissolve = (d.taken.started e 0).dissolveStart (d.taken.inFlight e 0) :=
      Dev.clusterCfg_started ha ho hl hs hm hb (by omega) (by omega) (by rw [hact]; rfl) (fun d _ a => d.dissolveStart a)
    generalize hx : ({ d.taken.started e 0 with cl := { (d.taken.started e 0).cl with
      enum := some ⟨4, 0, 0, 0, [], d.taken.inFlight e 0⟩ } } : Dev) = x
    have hkx : Dev.Keeps { cl := true } (d.taken.started e 0) x := by
      rw [← hx]
      exact Dev.Keeps.upd .refl (cl := nofun)
    have hxe : x.cl.enum = some ⟨4, 0, 0, 0, [], d.taken.inFlight e 0⟩ := by
      rw [← hx]
    have hxt : x.cl.tx = d.cl.tx := by
      rw [← hx]
      show (d.taken.started e 0).cl.tx = _
      rw [hk.cl rfl]
      rfl
    have h8' : x.domOn 8 = true := (hkx.domOn 8).trans ((hk.domOn 8).trans h8)
    have hstart : (d.taken.started e 0).dissolveStart (d.taken.inFlight e 0) = x.clSend frLeave clAll 0 [] := by
      unfold Dev.dissolveStart
      dsimp only
      rw [hx, show x.clLead = true from hkx.clLead.trans (hk.clLead.trans hlead), if_pos rfl]
    rw [hcmd, hstart]
    obtain ⟨f, hf, ht, hdst, -, hen⟩ := Dev.clSend_frame h8' frLeave clAll 0 []
    have hks : Dev.Keeps { cl := true } (d.taken.started e 0) (x.clSend frLeave clAll 0 []) := hkx.clSend
    refine ⟨hks.inProgress (congrArg Ring.batch ((hks.ring rfl).trans hr)) (congrArg Ring.asyncs ((hks.ring rfl).trans hr)),
      ⟨_, hen.trans hxe, rfl⟩, f, by rw [hf, hxt], ht, hdst⟩
  · simp only [List.mem_cons, Prod.mk.injEq, List.not_mem_nil, or_false] at hc
    obtain ⟨rfl, rfl⟩ | ⟨rfl, rfl⟩ := hc
    · refine fun e => leaves_of_act (f := fun d => d.cmdEnumerate) (fun _ => rfl) fun d _ h => ?_
      obtain ⟨ha, ho, hl, hact, hs, hm⟩ := h
      exact Dev.clusterCfg_member ha ho hl hs hm (by rw [hact]; rfl) _
    · refine fun e => leaves_of_act (f := fun d => d.cmdDissolve) (fun _ => rfl) fun d _ h => ?_
      obtain ⟨ha, ho, hl, hact, hs, hm⟩ := h
      exact Dev.clusterCfg_member ha ho hl hs hm (by rw [hact]; rfl) _

end Sys2Proof.Machine

end

section
/-!
Refutation for the register writes of the image chain (chapters 03 to 06, 09): the statement O51 and the device that it
fails on.
-/

namespace Sys2Proof.Machine
set_option Elab.async false

/-- A device with every domain ON whose touch slot is busy, while KINDT names the kind of the auxiliary slot. -/
def Dev.strayKind : Dev :=
  { (((Dev.reset.setReg R.PWR_DST0 0x22222222).setReg R.PWR_DST1 0x22222222).put R.CAL_STATUS_BUSYT 1).put R.CAL_STATUS_KINDT 3 with
    sys := { Dev.reset.sys with inReset := false } }

/-- Refutes O51, by REFORM during a touch-kind run: a run ends in the slot of the kind in KINDT, and nothing says that the
kind of a busy touch slot is not 3. -/
theorem not_imageAndAcquisitionWrites : ¬ Obligations.ImageAndAcquisitionWrites := by
  intro h
  obtain ⟨-, hends, -⟩ := h
  obtain ⟨t, he, -, -, hbusy, -⟩ := hends ⟨[], Dev.strayKind⟩ rfl
    ⟨by decide +kernel, by decide +kernel, by decide +kernel, .inr ⟨rfl, by decide +kernel⟩⟩
  rw [show exec .imgReform ⟨[], Dev.strayKind⟩ = act ⟨[], Dev.strayKind⟩ (fun d => d.ioWrite true R.IMG_CMD 1) from rfl, act_live rfl] at he
  have ht : t = ⟨[], Dev.strayKind.ioWrite true R.IMG_CMD 1⟩ := (Host.Outcome.next.inj he).symm
  rw [ht] at hbusy
  revert hbusy
  decide +kernel

end Sys2Proof.Machine

end

section
/-!
Refutation for the calibration commands by register (chapter 09): the statement O53, on the device of O51.
-/

namespace Sys2Proof.Machine
set_option Elab.async false

/-- Refutes O53, by ABORT of kind 0: it ends the run in the slot of the kind in KINDT, which is the auxiliary slot here, and
the touch slot stays busy. -/
theorem not_calibrationCommandsByRegister : ¬ Obligations.CalibrationCommandsByRegister := by
  intro h
  obtain ⟨hkinds, -⟩ := h
  obtain ⟨-, -, -, habort, -⟩ := hkinds 0
  obtain ⟨t, he, -, hbusy, -⟩ := habort ⟨[], Dev.strayKind⟩ rfl
    ⟨⟨by decide +kernel, by decide +kernel⟩, by decide +kernel, fun h3 => absurd h3 (by decide), .inr ⟨rfl, by decide +kernel⟩⟩
  rw [show exec (.calAbort 0) ⟨[], Dev.strayKind⟩ = act ⟨[], Dev.strayKind⟩ (fun d => d.ioWrite true R.CAL_CMD 32) from rfl, act_live rfl] at he
  have ht : t = ⟨[], Dev.strayKind.ioWrite true R.CAL_CMD 32⟩ := (Host.Outcome.next.inj he).symm
  rw [ht] at hbusy
  revert hbusy
  decide +kernel

end Sys2Proof.Machine

end

section
/-!
Refutation for the power domains (chapter 18): the statement O55 and the device that it fails on.
-/

namespace Sys2Proof.Machine
set_option Elab.async false

/-- A Heath entry that has been answered. -/
def answeredHeath : StateReq := ⟨1, none, true, true⟩

/-- A running device whose SEQ domain, the last to go off for Heath, ramps down, while a wake is already under way. -/
def Dev.wakingEntry : Dev :=
  { (Dev.reset.put R.SYS_STATUS_STATE stRunning).put (domField 0) 4 with
    sys := { Dev.reset.sys with inReset := false }
    pwr := { Dev.reset.pwr with stateReq := some answeredHeath, waking := true } }

/-- Refutes O55, by the end of the ramp-down with which Heath is reached: its clause does not ask that no wake is under way,
and one that is ends Heath in the same command. -/
theorem not_powerDomainsAndRequests : ¬ Obligations.PowerDomainsAndRequests := by
  intro h
  obtain ⟨hdoms, -⟩ := h
  obtain ⟨-, -, -, -, -, -, -, -, hheath, -⟩ := hdoms 0
  obtain ⟨t, he, -, hst, -⟩ := hheath answeredHeath rfl rfl ⟨[], Dev.wakingEntry⟩ rfl
    ⟨by decide +kernel, by decide +kernel, rfl, rfl, rfl, rfl, by decide +kernel, by decide,
      fun j _ hj => absurd hj (by rw [show Dev.wakingEntry.pwr.heathOff = 0 from rfl]; simp [bitOf])⟩
  rw [show exec (.domainRampDownEnd 0) ⟨[], Dev.wakingEntry⟩ = act ⟨[], Dev.wakingEntry⟩ (fun d => d.rampDownEnd 0) from rfl, act_live rfl] at he
  have ht : t = ⟨[], Dev.wakingEntry.rampDownEnd 0⟩ := (Host.Outcome.next.inj he).symm
  rw [ht] at hst
  revert hst
  decide +kernel

end Sys2Proof.Machine

end

section
/-!
Refutation for the characters on the cluster ring (chapter 16): the statement O57 and the device that it fails on.
-/

namespace Sys2Proof.Machine
set_option Elab.async false

/-- The lead of a cluster in Heath, with the ring on and the PERI domain, which Heath has
switched off, OFF; one event of FS0A is not lasting yet. -/
def Dev.leadInHeath : Dev :=
  { ((((Dev.reset.put R.SYS_STATUS_STATE stHeath).put (domField 8) 2).put R.CL_CTRL_ROLE 1).put R.CL_STATUS_ENUM 1).put
        (R.FLT_CFG_LIMIT 9) 5 with
    sys := { Dev.reset.sys with inReset := false }
    pwr := { Dev.reset.pwr with heathOff := 0x200 } }

/-- Refutes O57, by the loss of the lock on a lead in Heath: the end of Heath that it starts waits for the domains that
ramp up, and STATE stays HEATH until then. -/
theorem not_ringCharactersAndTicks : ¬ Obligations.RingCharactersAndTicks := by
  intro h
  obtain ⟨-, -, -, -, -, -, -, hloss, -⟩ := h
  obtain ⟨t, he, -, -, -, ⟨-, -, hst⟩, -⟩ := hloss ⟨[], Dev.leadInHeath⟩ rfl
    ⟨by decide +kernel, by decide +kernel, .inl (by decide +kernel), by decide +kernel⟩
  rw [show exec .cliUnlock ⟨[], Dev.leadInHeath⟩ = act ⟨[], Dev.leadInHeath⟩ (fun d => d.cliUnlock) from rfl, act_live rfl] at he
  have ht : t = ⟨[], Dev.leadInHeath.cliUnlock⟩ := (Host.Outcome.next.inj he).symm
  rw [ht] at hst
  revert hst
  decide +kernel

end Sys2Proof.Machine

end

section
/-!
Refutation for the temperature supervision (chapter 20): the statement O56 and the device that it fails on.
-/

namespace Sys2Proof.Machine
set_option Elab.async false

/-- A temperature sample as FLT_TEMPST and FLT_TMAX show it. -/
def Dev.tempShown (d : Dev) (t0 t1 : Int) : Dev :=
  let e := (d.put R.FLT_TEMPST_TNOW (unsigned 16 (max t0 t1))).putB R.FLT_TEMPST_SRC (decide (t0 < t1))
  if e.getS R.FLT_TMAX_TMAX < max t0 t1 then e.put R.FLT_TMAX_TMAX (unsigned 16 (max t0 t1)) else e

/-- The sample that has set CRIT, with its event of FS0F counted. -/
def Dev.tempEntered (d : Dev) (t0 t1 : Int) (n : Nat) : Dev :=
  ((((d.tempShown t0 t1).put R.FLT_TEMPST_WRUN n).put R.FLT_TEMPST_CRUN 0).putB R.FLT_TEMPST_CRIT true).noteEvent 0x0F
    (unsigned 16 (Int.fdiv (max t0 t1) 16)) 0

theorem Dev.tempSample_enters (d : Dev) (t0 t1 : Int) (n : Nat) (hr : d.sys.inReset = false)
    (hc : (d.tempShown t0 t1).is R.FLT_TEMPST_CRIT = false)
    (hwn : tempCount ((d.tempShown t0 t1).get R.FLT_TEMP_WARN) ((d.tempShown t0 t1).get R.FLT_TEMP_HYS)
      ((d.tempShown t0 t1).is R.FLT_TEMPST_WARN) ((d.tempShown t0 t1).get R.FLT_TEMPST_WRUN) (max t0 t1) = (n, false))
    (hcn : tempCount ((d.tempShown t0 t1).get R.FLT_TEMP_CRIT) ((d.tempShown t0 t1).get R.FLT_TEMP_HYS)
      false ((d.tempShown t0 t1).get R.FLT_TEMPST_CRUN) (max t0 t1) = (0, true)) :
    d.tempSample t0 t1 = (((Dev.settleFaults 3 (d.tempEntered t0 t1 n)).checkLeft
      ((((d.tempShown t0 t1).put R.FLT_TEMPST_WRUN n).put R.FLT_TEMPST_CRUN 0).putB R.FLT_TEMPST_CRIT true).st).calEnds
        Dev.tempCritical).stageStop := by
  have hs : d.tempSample t0 t1 = if d.sys.inReset then d else
      let d1 := d.tempShown t0 t1
      let w := tempCount (d1.get R.FLT_TEMP_WARN) (d1.get R.FLT_TEMP_HYS) (d1.is R.FLT_TEMPST_WARN) (d1.get R.FLT_TEMPST_WRUN) (max t0 t1)
      let c := tempCount (d1.get R.FLT_TEMP_CRIT) (d1.get R.FLT_TEMP_HYS) (d1.is R.FLT_TEMPST_CRIT) (d1.get R.FLT_TEMPST_CRUN) (max t0 t1)
      let d2 := (d1.put R.FLT_TEMPST_WRUN w.1).put R.FLT_TEMPST_CRUN c.1
      let d2 := if w.2 then d2.putB R.FLT_TEMPST_WARN (!d1.is R.FLT_TEMPST_WARN) else d2
      let d2 := if c.2 then d2.putB R.FLT_TEMPST_CRIT (!d1.is R.FLT_TEMPST_CRIT) else d2
      let detail := unsigned 16 (Int.fdiv (max t0 t1) 16)
      let d3 := if w.2 && !d1.is R.FLT_TEMPST_WARN then d2.noteEvent 0x0E detail 0 else d2
      let d4 := Dev.settleFaults 3 (if c.2 && !d1.is R.FLT_TEMPST_CRIT then d3.noteEvent 0x0F detail 0 else d3)
      let d5 := d4.checkLeft d2.st
      if !c.2 then d5 else if d1.is R.FLT_TEMPST_CRIT then d5.tempCool else (d5.calEnds Dev.tempCritical).stageStop := rfl
  rw [hs, hr]
  simp only [hwn, hcn, hc]
  rfl

/-- One fault that is due and does not halt the device acts, and where nothing more comes due that is all. -/
theorem Dev.settleFaults_acts {d : Dev} {a : Nat × Nat × Nat} (n : Nat) (h : d.flt.due = [a]) (ha : d.fltAction a.1 ≠ 2)
    (ht : (({ d with flt := { d.flt with due := [] } } : Dev).takeAction a).flt.due = []) :
    Dev.settleFaults (n + 1) d = ({ d with flt := { d.flt with due := [] } } : Dev).takeAction a := by
  have hb : (d.fltAction a.1 == 2) = false := by simpa using ha
  unfold Dev.settleFaults
  simp only [h, List.isEmpty_cons, Bool.false_eq_true, if_false, List.filter, bne, hb, Bool.not_false, List.mergeSort_nil,
    List.take_nil, List.append_nil, List.foldl_cons, List.foldl_nil]
  exact Dev.settleFaults_nil n ht

/-- A device in CHECKING, from READY, with the switch-off of DRV waiting for the end of the check, a fault of FS0E due that
clears RUN, and seven samples at the critical threshold seen. -/
def Dev.hotCheck : Dev :=
  { ((((((Dev.reset.put R.SYS_STATUS_STATE stChecking).put R.FLT_TEMPST_WARN 1).put R.FLT_TEMPST_CRUN 7).put
        (R.FLT_CFG_ACTION 13) 1).put (R.FLT_CFG_LIMIT 14) 5).put (R.FLT_CFG_RPT 14) 0) with
    sys := { Dev.reset.sys with inReset := false, checkFrom := stReady }
    pwr := { Dev.reset.pwr with domReqs := [⟨0, 0x20, none, true⟩] }
    flt := { Dev.reset.flt with due := [(0x0E, 0, 0)] } }

/-- What the fault of FS0E that is due has made of it: the check is cancelled. -/
def Dev.hotCancelled : Dev :=
  ({ Dev.hotCheck.tempEntered 4000 0 0 with flt := { (Dev.hotCheck.tempEntered 4000 0 0).flt with due := [] } } : Dev).takeAction (0x0E, 0, 0)

theorem Dev.hotCheck_sample : Dev.hotCheck.tempSample 4000 0 =
    ((Dev.hotCancelled.checkLeft stChecking).calEnds Dev.tempCritical).stageStop := by
  rw [Dev.tempSample_enters _ _ _ 0 rfl (by decide +kernel) (by decide +kernel) (by decide +kernel),
    Dev.settleFaults_acts 2 (a := (0x0E, 0, 0)) (by decide +kernel) (by decide +kernel) (by decide +kernel)]
  have hst : ((((Dev.hotCheck.tempShown 4000 0).put R.FLT_TEMPST_WRUN 0).put R.FLT_TEMPST_CRUN 0).putB R.FLT_TEMPST_CRIT true).st
      = stChecking := by decide +kernel
  rw [hst]
  rfl

/-- Refutes O56, by the entry of the critical temperature: where a fault that is due ends a check, a switch-off of DRV that
waited for it starts first, and the entry finds DRV no longer ON and does not note that it is to come back. -/
theorem not_temperatureAndFaultRegisters : ¬ Obligations.TemperatureAndFaultRegisters := by
  intro h
  obtain ⟨htemp, -⟩ := h
  obtain ⟨-, -, hcrit, -⟩ := htemp 4000 0
  obtain ⟨t, he, -, -, -, hoff, -⟩ := hcrit ⟨[], Dev.hotCheck⟩ rfl
    ⟨by decide +kernel, by decide +kernel, by decide +kernel, by decide +kernel, by decide +kernel, by decide +kernel,
      by decide +kernel⟩
  rw [show exec (.tempSample 4000 0) ⟨[], Dev.hotCheck⟩ = act ⟨[], Dev.hotCheck⟩ (fun d => d.tempSample 4000 0) from rfl,
    act_live rfl] at he
  have ht : t = ⟨[], Dev.hotCheck.tempSample 4000 0⟩ := (Host.Outcome.next.inj he).symm
  rw [ht, show (⟨[], Dev.hotCheck.tempSample 4000 0⟩ : State).dev = Dev.hotCheck.tempSample 4000 0 from rfl, Dev.hotCheck_sample] at hoff
  revert hoff
  decide +kernel

end Sys2Proof.Machine

end
